-- ==== Sys2Proof/Word.lean ====
section
/-! DEFINITION. The word types of the KW768 model. -/

namespace Sys2Proof

/-- One byte of memory, of a record or of an image (R2). -/
abbrev Byte := BitVec 8

/-- A hardware register or window word (R382). -/
abbrev Word := BitVec 32

/-- A 64-byte mailbox message, byte 0 in bits [7:0] (Table 5.4, R2). -/
abbrev Msg := BitVec 512

/-- A Headwater count (R50). -/
abbrev Count := BitVec 64

/-- Bytes readable from pages the device does not hold, as a remote home node would answer them with
STATUS 0 (R148). An address that is absent cannot be read. -/
abbrev Remote := List (Nat × Byte)

/-- A table by number, sparse: keys strictly rise and an entry that equals the table's default is not listed, so
that equal tables are equal data. Its operations stand in Machine/Tab.lean. -/
abbrev Tab (α : Type) := List (Nat × α)

end Sys2Proof
end

