-- ==== Sys2Proof/Syntax.lean ====
section
/-! DEFINITION. The commands of the KW768: one constructor per row of spec/opcode_table.json, in the table's order.
The table names no operands; a command carries what its rule takes from outside the device: pin levels, words on the
management port, packets, comparator states, measured values (log 18), bytes of pages the device does not hold (log 12). -/

namespace Sys2Proof

/-- How the loss of the reference or of lock was seen (R45; detector 0x3F, instances 0 to 2). -/
inductive LossCause where
  | missingEdge
  | frequency
  | lock
deriving DecidableEq, Repr

/-- The watchdogs: run and SERVICE (both WATCHDOG instance 0) and boot report (instance 1) (R73, R352, R370). -/
inductive Dog where
  | run
  | bootReport
  | service
deriving DecidableEq, Repr

/-- The three paths to the hardware registers, each with its own HW_TIME snapshot (R391). -/
inductive Path where
  | msp
  | jtag
  | fabric
deriving DecidableEq, Repr

/-- The Trellis ports in the order of Table 6.7. -/
inductive Port where
  | west
  | east
  | north
  | south
deriving DecidableEq, Repr

/-- A comparator state: below VOL, between VOL and VOH, above VOH (R172, R250). -/
inductive Lvl where
  | low
  | mid
  | high
deriving DecidableEq, Repr

/-- What the comparator of one channel showed for the compare of the vector in play: every state it showed from C1 to
C2 (one state for a strobe), and the state at the strobe or at C2 (R172, R250). -/
structure Seen where
  ch    : Nat
  all   : List Lvl
  final : Lvl
deriving DecidableEq, Repr

/-- What a fetch of Sluice brings: a control track slice, a source lane group slice, an overlay block's part, one of a
segment's metadata records, or a whole pinned body (R147, R150, R151, R165, R167). -/
inductive SliceKind where
  | ctl (track : Nat)
  | src (slg : Nat)
  | ovl (peb layer dlg : Nat)
  | desc
  | plan
  | junction
  | cover
  | pin
deriving DecidableEq, Repr

/-- One fetch: the place of its segment on the path (ENTRY is 0), the segment, what it brings, and its granule (0 for
a metadata record and a pinned body). -/
structure Slice where
  ord     : Nat
  seg     : Nat
  kind    : SliceKind
  granule : Nat
deriving DecidableEq, Repr

/-- What Press measured in the class that ends: inside its correction range, or not (R336), with the new corrections
as (correction index, value) pairs: a level-type DAC offset in nV and gain in parts per 10^9, or a timing code (log 18). -/
inductive CalResult where
  | inRange (corrections : List (Nat × Int))
  | outOfRange
deriving DecidableEq, Repr

/-- A Trellis packet: the header flit of Table 17.2 and its data (R312). -/
structure Packet where
  cls    : Byte
  route  : Byte
  dest   : BitVec 16
  src    : BitVec 16
  status : Byte
  arg0   : BitVec 64
  arg1   : BitVec 64
  lseq   : BitVec 16
  tag    : BitVec 16
  crc    : BitVec 32
  data   : List Byte
deriving DecidableEq, Repr

/-- Where a TDC edge is sampled: the timing-clock edge, counted from the last HWREF edge, and the tap (R232). -/
structure EdgeAt where
  cycle : Nat
  tap   : Nat
deriving DecidableEq, Repr

/-- Bit errors of a lane since its last report: how many, and the Headwater count at the first of them (Table 16.7). -/
structure BitErrors where
  count : Nat
  first : BitVec 64
deriving DecidableEq, Repr

/-- What a detector gives with an event: its DETAIL, and what a monitoring converter read (R197, Table 19.3). -/
structure Detail where
  word : Word
  read : Nat
deriving DecidableEq, Repr

/-- The commands. -/
inductive Instr where
  /-- POWER_ON_RESET (R29). POR_N held low for at least 1 µs, or VDD_AON falling below 0.70 V, forces power-on
  reset: the ledger and registers are cleared, domains other than PD0 switch off and the Ford closes. -/
  | powerOnReset
  /-- POWER_ON_RESET_RELEASE (R67). Power-on reset is released; the boot ROM samples the straps, enters BOOT and
  begins the boot selected by BOOT_SRC. -/
  | powerOnResetRelease (node : BitVec 11) (src : BitVec 2)
  /-- WARM_RESET (R30). WRST_N held low for at least 1 µs, or a warm-reset register write taking effect, causes a
  warm reset: PD0 is kept, other domains switch off, outputs go to their reset states and the device returns to
  BOOT. -/
  | warmReset
  /-- WARM_RESET_RELEASE (R67). At the end of a warm reset the boot ROM repeats its boot steps using the straps
  sampled at the last power-on reset. -/
  | warmResetRelease
  /-- RST_CTRL_WARM (R390). A write of WARM with KEY 0x5A to RST_CTRL schedules a warm reset within 2 µs; a write
  with any other KEY is ignored. -/
  | rstCtrlWarm (value : Word)
  /-- CLR_N_ASSERT (R35). CLR_N going low holds every pin-channel DAC and DPS set-point DAC at its clear code. -/
  | clrNAssert
  /-- CLR_N_RELEASE (R35). CLR_N returning high leaves each DAC at its clear code until the next LOAD strobe of its
  group, or the next sequencer write for a PMU force DAC. -/
  | clrNRelease
  /-- FORD_CLOSE_N_FALL (R25). FORD_CLOSE_N falling closes the Ford switches within 1 µs and, in modes that allow
  it, takes the device to BYPASS. -/
  | fordCloseNFall
  /-- FORD_CLOSE_N_RISE (R25). FORD_CLOSE_N returning high leaves the switches closed until OPC_BYPASS_EXIT, or in
  BOOT lets the boot ROM reopen them within 1 ms. -/
  | fordCloseNRise
  /-- TRIG_IN_EDGE (R203). An edge on a TRIG_IN input, filtered for coalescing and stuck holds, fires the pause,
  jump, strobe or trigger function programmed for it. -/
  | trigInEdge (input : Nat) (rising : Bool) (within20 : Bool)
  /-- TRIG_IN_STUCK (R203). A TRIG_IN input held high beyond its stuck hold becomes STUCK and fires nothing more
  until it has gone low and risen again. -/
  | trigInStuck (input : Nat)
  /-- REF_LOSS_DETECTED (R46). Loss of HWREF or of ADPLL lock is detected; clocks move to the bypass oscillator, pin
  and lane outputs idle, units go OFFLINE, Headwater enters COAST and in-flight items end as Table 3.2 states. -/
  | refLossDetected (cause : LossCause)
  /-- RELOCK_START (R49). Once HWREF has been valid for 1 ms without a break, the relock begins. -/
  | relockStart
  /-- ADPLL_LOCK_COMPLETE (R40). The ADPLL completes lock: M_LOCK is set, stopped clocks restart, ports retrain,
  units the loss took OFFLINE return and Headwater leaves COAST. -/
  | adpllLockComplete
  /-- CLOCK_STEP_REACHED (R42). A small step of the root reaches its target M, and the pending phase reset is armed
  for the next segment boundary. -/
  | clockStepReached
  /-- HWSYNC_PULSE (R410). A taken HWSYNC pulse sets SYNC_ERR_LAST and then applies an epoch, steps or slews the
  count, or passes the device to ACQUIRING or SYNCED. -/
  | hwsyncPulse
  /-- CHAIN_MASTER_PULSE (R410). A chain master generates an HWSYNC pulse each time its count reaches a whole
  multiple of P. -/
  | chainMasterPulse
  /-- SYNC_PULSE_MISSING (R410). SYNC_WARN is set P ÷ 2 after the third consecutive expected HWSYNC instant with no
  pulse. -/
  | syncPulseMissing
  /-- HEADWATER_TIMED_FIRE (R52). A Headwater-timed strobe, burst start or flip fires on the first timing-clock
  cycle in which the count is at or past its target. -/
  | headwaterTimedFire (slot : Nat)
  /-- DOMAIN_READY (R31). A switched-on domain passes its ready time, is released from isolation and sets its
  PD_STATUS bit; a unit it holds starts calibration. -/
  | domainReady (pd : Nat) (balls : List (Nat × Int))
  /-- UNIT_QUIESCED (R32). The last in-flight item claiming a QUIESCING unit becomes terminal, so the unit goes
  OFFLINE or MAINTENANCE and a pending switch-off proceeds. -/
  | unitQuiesced (unit : Nat)
  /-- LPDDR_TRAINING_DONE (R409). Interface training of PD11 completes, local memory becomes available and every
  page written bit is cleared. -/
  | lpddrTrainingDone (mib : Nat)
  /-- BOOT_RATE_MEASURED (R67). During a Trellis boot a port's received rate has held for 100 µs; the boot ROM
  chooses M, relocks if needed and trains the ports. -/
  | bootRateMeasured (m : BitVec 28)
  /-- BOOT_RATE_TIMEOUT (R67). No port shows a usable rate within 20 ms, so the boot ROM keeps M = 80.0 and trains
  the ports. -/
  | bootRateTimeout
  /-- BOOT_TRAIN_TIMEOUT (R67). No port has trained within 100 ms, so the boot ROM repeats the rate measurement. -/
  | bootTrainTimeout
  /-- BOOT_RAIL_READY (R67). The lane rails come inside tolerance during a Trellis boot, ending the NO_RAIL wait;
  PD4 is switched on and the Ford opened. -/
  | bootRailReady
  /-- BOOT_REF_VALID (R67). HWREF becomes valid during a Trellis boot, ending the NO_REF wait; the boot proceeds
  within 1 ms. -/
  | bootRefValid
  /-- BOOT_REQUEST_TIMER (R328). Every 10 ms until a download begins, a booting device sends BOOT_REQ on each
  trained port. -/
  | bootRequestTimer
  /-- BOOT_SOURCE_SILENT (R71). The Trellis boot source has sent nothing for 100 ms, so the download is discarded,
  SOURCE_LOST is reported and boot requests resume. -/
  | bootSourceSilent
  /-- BOOT_DIGEST_DONE (R69). The SHA-256 of the boot image completes; on a match the Cellar starts at ENTRY and the
  device enters LOADED, otherwise PHASE goes to FAILED. -/
  | bootDigestDone
  /-- BOOT_REPORT (R74). Spabry initialises the rings, sweeps non-terminal slots to FAILED:RESET and posts
  OPC_BOOT_REPORT before it takes any request. -/
  | bootReport
  /-- WATCHDOG (R352). The run watchdog, the boot-report watchdog or the SERVICE watchdog expires and raises a FATAL
  event. -/
  | watchdog (which : Dog)
  /-- BOOT_RESTART (R70). Writing 1 to BOOT_CTRL.RESTART in BOOT discards everything received and restarts reception
  at byte 0. -/
  | bootRestart (value : Word)
  /-- MSP_WRITE (R382). A WRITE frame commits its words as one unit at the last bit of the last word. -/
  | mspWrite (addr : BitVec 24) (words : List Word) (cut : Bool) (extra : Bool)
  /-- MSP_READ (R385). A READ frame returns its words after 8 turnaround clocks, repeating a word that is not ready
  and setting UNDERRUN. -/
  | mspRead (addr : BitVec 24) (n late shifted : Nat) (extra : Bool)
  /-- MSP_READ_SLOW (R385). A READ_SLOW frame returns its words after 32 turnaround clocks. -/
  | mspReadSlow (addr : BitVec 24) (n late shifted : Nat) (extra : Bool)
  /-- MSP_STREAM (R386). A STREAM frame to the boot window in BOOT delivers image bytes word by word until the
  select rises. -/
  | mspStream (addr : BitVec 24) (words : List Word) (partialWord : Bool)
  /-- MSP_RESERVED_OPCODE (R382). A frame with a reserved opcode or a misaligned address is ignored until the select
  rises and sets BADOP. -/
  | mspReservedOpcode (opcode : Byte) (addr : BitVec 24)
  /-- MSP_MASTER_START (R387). A write of START to MSP_MCTRL begins a master transfer unit on the selected chip
  select. -/
  | mspMasterStart (value : Word)
  /-- MSP_MASTER_UNIT_END (R387). A master unit completes: MSP_MRX is loaded, the select is raised unless HOLD_CS is
  set, and MDONE is set. -/
  | mspMasterUnitEnd (sdi : Word)
  /-- CONTENTION (R388). MSP_CS0_N falling during a master transfer or held select releases the port's drivers and
  ends the unit with MERR CONTENTION. -/
  | contention
  /-- HW_TIME_LO_READ (R391). A read of HW_TIME_LO latches the upper 32 bits of the count into the snapshot of the
  reading path. -/
  | hwTimeLoRead (path : Path)
  /-- MB_DOORBELL_WRITE (R80). A write that changes REQ_HEAD advances the request ring and interrupts the Cellar, or
  is ignored and sets DB_OVERRUN. -/
  | mbDoorbellWrite (n : Nat) (value : Word)
  /-- MB0_PATH_CHANGE (R81). A write to PATH switches MB0 between the management port and Trellis, taking effect
  only while the request ring is empty. -/
  | mb0PathChange (path : Bool)
  /-- RSP_TAIL_WRITE (R80). A write to RSP_TAIL releases response entries, or is ignored and sets TAIL_ERR. -/
  | rspTailWrite (n : Nat) (value : Word)
  /-- REQUEST_ENTRY_WRITE (R80). A window write to a request entry stores it if the entry is free, and otherwise is
  ignored and sets ENTRY_BLOCKED. -/
  | requestEntryWrite (n entry word : Nat) (value : Word)
  /-- LEVEE_ACK_WRITE (R362). A write to LEVEE_ACK acknowledges event records cumulatively up to the given index. -/
  | leveeAckWrite (value : Word)
  /-- LEVEE_CTRL_WRITE (R364). A write to LEVEE_CTRL changes the supervision enables in the next cycle and records a
  SUPERVISION event. -/
  | leveeCtrlWrite (value : Word)
  /-- REGISTER_WRITE (R389). A write to any other mapped register updates its writable fields and clears W1C bits.
  -/
  | registerWrite (addr : BitVec 24) (value : Word)
  /-- REG_ACCESS (R395). Update-DR with REG_ACCESS loaded starts a one-word register read or write that completes
  within 1 µs. -/
  | regAccess (dr : BitVec 64)
  /-- EXTEST (R394). The EXTEST instruction takes control of the balls in BOOT or DIAGNOSTIC, and selects the bypass
  register in any other mode. -/
  | extest
  /-- SAMPLE_PRELOAD (R393). The SAMPLE/PRELOAD instruction samples the boundary cells and loads them for a later
  test. -/
  | samplePreload (cells : List Bool)
  /-- IDCODE (R393). The IDCODE instruction selects the identification register holding 0x3B57_09CB. -/
  | idcode
  /-- CLAMP (R394). The CLAMP instruction holds the boundary outputs in BOOT or DIAGNOSTIC. -/
  | clamp
  /-- HIGHZ (R394). The HIGHZ instruction places the boundary outputs at high impedance in BOOT or DIAGNOSTIC. -/
  | highz
  /-- EXTEST_PULSE (R394). The IEEE 1149.6 EXTEST_PULSE instruction acts on the AC-coupled lanes in BOOT or
  DIAGNOSTIC. -/
  | extestPulse
  /-- EXTEST_TRAIN (R394). The IEEE 1149.6 EXTEST_TRAIN instruction acts on the AC-coupled lanes in BOOT or
  DIAGNOSTIC. -/
  | extestTrain
  /-- BYPASS (R393). The JTAG BYPASS instruction selects the one-bit bypass register. -/
  | bypass
  /-- UNKNOWN_OPCODE_REQUEST (R102). A mailbox request whose opcode is unknown, or lies in group 0x0F, is refused
  with REFUSED_OPCODE. -/
  | unknownOpcodeRequest (mb : Nat)
  /-- OPC_IDENTITY (R114). Returns the device code, stepping, node address, fuse identity, firmware version and
  local memory size. -/
  | opcIdentity (mb : Nat)
  /-- OPC_DEVICE_START (R76). Locks the ADPLL at M, switches on the masked domains and enters CALIBRATE. -/
  | opcDeviceStart (mb : Nat)
  /-- OPC_ARM (R116). Strobes the load groups of the mapped channels, closes their disconnects and enters ARMED. -/
  | opcArm (mb : Nat)
  /-- OPC_DISARM (R278). Ramps enabled DPS channels to 0 V and discharges them, opens the mapped disconnects and
  returns to IDLE. -/
  | opcDisarm (mb : Nat)
  /-- OPC_PAUSE (R62). Requests that the in-flight BURST, MEASURE and DPS items hold, entering PAUSE once all are
  held. -/
  | opcPause (mb : Nat)
  /-- OPC_RESUME (R160). Resumes the held items and returns the device to RUN. -/
  | opcResume (mb : Nat)
  /-- OPC_BYPASS_ENTER (R326). Closes the Ford with a drain, entering BYPASS from IDLE or keeping the switches
  closed from LOADED onward. -/
  | opcBypassEnter (mb : Nat)
  /-- FORD_DRAIN_DONE (R326). The Ford drain has delivered every held packet and received every ACK, so the switches
  close. -/
  | fordDrainDone
  /-- OPC_BYPASS_EXIT (R59). Opens the Ford and retrains the ports, leaving BYPASS for IDLE or LOADED. -/
  | opcBypassExit (mb : Nat)
  /-- OPC_DIAG_ENTER (R59). Enters DIAGNOSTIC and starts the requested self-tests. -/
  | opcDiagEnter (mb : Nat)
  /-- OPC_DIAG_EXIT (R59). Leaves DIAGNOSTIC for IDLE. -/
  | opcDiagExit (mb : Nat)
  /-- SELF_TEST_END (R59). The requested self-test ends and the device returns from DIAGNOSTIC to IDLE. -/
  | selfTestEnd (report : List Byte)
  /-- OPC_PD_SET (R31). Orders domain switches on and off in dependency order, setting every PD_BUSY bit of the
  request at once. -/
  | opcPdSet (mb : Nat)
  /-- OPC_PD_QUERY (R114). Returns PD_STATUS, PD_BUSY and the rails present. -/
  | opcPdQuery (mb : Nat)
  /-- OPC_NOTICE_CONFIG (R118). Selects which device notices are sent on MB0. -/
  | opcNoticeConfig (mb : Nat)
  /-- OPC_ITEM_SUBMIT (R108). Creates a work item in the lowest free ledger slot and answers ACCEPTED with its
  ITEM_ID. -/
  | opcItemSubmit (mb : Nat) (rem : Remote)
  /-- OPC_ITEM_ABORT (R97). Ends a queued item at once, or an in-flight item at its kind's stopping point, as
  FAILED:ABORTED_HOST. -/
  | opcItemAbort (mb : Nat)
  /-- OPC_LEDGER_READ (R96). Returns one ledger record, or writes the records of a slot range to an extension. -/
  | opcLedgerRead (mb : Nat)
  /-- OPC_LEDGER_RETIRE (R95). Frees each named terminal item and toggles its slot's generation bit. -/
  | opcLedgerRetire (mb : Nat) (rem : Remote)
  /-- OPC_CLOCK_STATUS (R57). Returns the clock status record. -/
  | opcClockStatus (mb : Nat)
  /-- OPC_CLOCK_LOCK (R44). Relocks the ADPLL at a new M, or completes at once when M equals the present lock point.
  -/
  | opcClockLock (mb : Nat)
  /-- OPC_CLOCK_STEP (R42). Ramps M toward a target within ±0.2% without unlocking, or relocks for a target beyond
  that. -/
  | opcClockStep (mb : Nat)
  /-- OPC_SYNC_CONFIG (R410). Sets the sync mode, the upstream port and the sync period. -/
  | opcSyncConfig (mb : Nat)
  /-- OPC_SYNC_MEASURE (R53). Runs four-stamp exchanges with the named neighbours and reports offset, delay and
  spread per port. -/
  | opcSyncMeasure (mb : Nat)
  /-- OPC_SYNC_OFFSET (R53). Writes the offset compensation, applied from the next pulse, and clears SYNC_DEGRADED.
  -/
  | opcSyncOffset (mb : Nat)
  /-- OPC_SYNC_EPOCH (R332). Broadcasts a TIME_EPOCH packet giving the count to take at the next pulse. -/
  | opcSyncEpoch (mb : Nat)
  /-- OPC_SITE_MAP (R114). Loads the channel-to-site map that holds from the next OPC_ARM. -/
  | opcSiteMap (mb : Nat) (rem : Remote)
  /-- OPC_TRIG_CONFIG (R203). Sets the function, PEB mask, condition and stuck hold of a TRIG_IN input. -/
  | opcTrigConfig (mb : Nat)
  /-- OPC_WMON_CONFIG (R200). Sets window-monitor thresholds, routes and stuck holds, and re-judges each monitor
  against its new thresholds. -/
  | opcWmonConfig (mb : Nat) (rem : Remote) (balls : List (Nat × Int))
  /-- OPC_TDC_CONFIG (R230). Sets a TDC's start and stop inputs, their polarities and the prescaler exponent. -/
  | opcTdcConfig (mb : Nat)
  /-- OPC_DPS_CONFIG (R281). Sets DPS range, gang and current limit, with a make-before-break range change on
  enabled channels. -/
  | opcDpsConfig (mb : Nat)
  /-- OPC_SINE_CONFIG (R208). Enables, updates or disables a sine laid over a PMU force DAC or a DPS set point. -/
  | opcSineConfig (mb : Nat)
  /-- OPC_LANE_CONFIG (R291). Sets a lane group's rate, clocking and configuration word. -/
  | opcLaneConfig (mb : Nat)
  /-- OPC_CAL_CONFIG (R343). Sets the drift threshold, the throttle threshold and automatic recalibration. -/
  | opcCalConfig (mb : Nat)
  /-- OPC_LEVELS_SET (R120). Converts level values with the present corrections and writes them into the shadows as
  one unit. -/
  | opcLevelsSet (mb : Nat) (rem : Remote)
  /-- OPC_LOAD_GROUP (R192). Places PEBs and DPS channels into a load group. -/
  | opcLoadGroup (mb : Nat)
  /-- OPC_CLEAR_CODE (R196). Sets the programmed clear codes, which are held in PD0. -/
  | opcClearCode (mb : Nat) (rem : Remote)
  /-- OPC_TIMING_SET (R121). Writes a timing-set table to a PEB's shadow, or to its active table with DIRECT. -/
  | opcTimingSet (mb : Nat) (rem : Remote)
  /-- OPC_PINMODE_SET (R121). Writes a pin-mode table to a PEB's shadow, or to its active table with DIRECT. -/
  | opcPinmodeSet (mb : Nat) (rem : Remote)
  /-- OPC_TIMING_COMMIT (R121). Transfers the shadow tables of the named PEBs at once, or at the next segment
  boundary while a BURST plays. -/
  | opcTimingCommit (mb : Nat)
  /-- OPC_BACKGROUND_SET (R114). Sets a PEB's background vector, which applies from the next underrun. -/
  | opcBackgroundSet (mb : Nat)
  /-- OPC_SCHEDULE_LOAD (R129). Runs the structural checks of a schedule image and starts its digest check in the
  background. -/
  | opcScheduleLoad (mb : Nat) (rem : Remote)
  /-- SCHEDULE_DIGEST_DONE (R115). The background digest check of a schedule or store ends, leaving its state VALID
  and replacing the old content, or BAD. -/
  | scheduleDigestDone (id : Nat) (rem : Remote)
  /-- OPC_SCHEDULE_UNLOAD (R129). Empties a schedule ID, abandoning any check in progress. -/
  | opcScheduleUnload (mb : Nat)
  /-- OPC_SCHEDULE_STATUS (R114). Returns a schedule ID's state and image address. -/
  | opcScheduleStatus (mb : Nat)
  /-- OPC_BURST_JUMP (R122). Sets or replaces the pending jump request of a BURST. -/
  | opcBurstJump (mb : Nat)
  /-- OPC_LAYER_FREE (R164). Frees a layer pool page at once, or defers the free until the page is released after
  its time as front. -/
  | opcLayerFree (mb : Nat)
  /-- OPC_LAYER_STATUS (R114). Returns a layer's flip count, last flip time and free counters. -/
  | opcLayerStatus (mb : Nat)
  /-- OPC_UNIT_MAINTAIN (R374). Takes a unit through QUIESCING into MAINTENANCE and runs the hold, recalibrate or
  power-cycle action. -/
  | opcUnitMaintain (mb : Nat)
  /-- OPC_UNIT_RELEASE (R375). Returns a unit held in MAINTENANCE by a host request to ACTIVE. -/
  | opcUnitRelease (mb : Nat)
  /-- OPC_UNIT_STATUS (R114). Returns a unit's state and its last calibration temperature and time. -/
  | opcUnitStatus (mb : Nat)
  /-- OPC_MSEQ_LOAD (R217). Checks a sequencer store image header and starts its background digest check. -/
  | opcMseqLoad (mb : Nat) (rem : Remote)
  /-- MSEQ_DIGEST_DONE (R218). A store image digest check ends, copying the staged image into the writable store or
  patch memory, or marking it BAD. -/
  | mseqDigestDone (seq : Nat) (rem : Remote)
  /-- OPC_FABRIC_STATUS (R310). Returns the lane mask, rate, state and retry count of each port. -/
  | opcFabricStatus (mb : Nat)
  /-- OPC_PORT_CONFIG (R378). Retrains a port, drops one lane to run on three, or restores four lanes. -/
  | opcPortConfig (mb : Nat)
  /-- OPC_PAGE_HOME (R148). Declares a range of pattern pages as held in local memory. -/
  | opcPageHome (mb : Nat)
  /-- OPC_BOOT_SERVE (R329). Serves a boot image to a booting neighbour on the named port. -/
  | opcBootServe (mb : Nat)
  /-- BOOT_SERVE_SILENCE (R329). After 100 ms of silence from the booting neighbour, OPC_BOOT_SERVE posts DONE. -/
  | bootServeSilence
  /-- OPC_EVENT_READ (R114). Writes a range of Levee event records to an extension. -/
  | opcEventRead (mb : Nat)
  /-- OPC_EVENT_ACK (R362). Acknowledges Levee records cumulatively up to an index. -/
  | opcEventAck (mb : Nat)
  /-- OPC_FAULT_INJECT (R360). ORs an injection signal into a detector instance for a number of control-clock
  cycles. -/
  | opcFaultInject (mb : Nat)
  /-- INJECTION_END (R360). The injection window closes 2 cycles after its last injected cycle, and the rehearsal or
  REAL record is settled. -/
  | injectionEnd
  /-- OPC_SERVICE_BEGIN (R369). Checks a new Spabry image, hashing it into the inactive instruction bank. -/
  | opcServiceBegin (mb : Nat) (rem : Remote)
  /-- SERVICE_IMAGE_CHECKED (R370). The new image's check passes, so the device enters SERVICE, writes the hand-over
  record and switches banks. -/
  | serviceImageChecked (rem : Remote)
  /-- SERVICE_BANK_CHANGE_DONE (R370). The new Spabry loads Press, reads the hand-over record and posts the
  response, ending SERVICE. -/
  | serviceBankChangeDone
  /-- ITEM_TIME_LIMIT (R109). An item's TIME_LIMIT runs out and ends it FAILED:ITEM_TIMEOUT at its stopping point.
  -/
  | itemTimeLimit (slot : Nat)
  /-- BURST_DISPATCH (R153). A BURST is dispatched: the claimed PEBs' tables and the pinned bodies are loaded and
  the ENTRY segment is fetched. -/
  | burstDispatch (slot : Nat)
  /-- PIN_BODY_ABANDONED (R147). A pinned body with an unreadable part is freed and played as unpinned, and loading
  moves to the next body. -/
  | pinBodyAbandoned (slot seg : Nat)
  /-- BURST_START (R179). The ENTRY segment's opening granules are resident, so vector 0 plays at the reference
  instant, or the start is armed at START_TIME. -/
  | burstStart (slot : Nat)
  /-- SEGMENT_FETCH_ISSUE (R151). A segment's first vector comes within LEAD granules along the known path, so
  Sluice issues its body fetches. -/
  | segmentFetchIssue (slot ord seg : Nat)
  /-- FETCH_RESIDENT (R165). A fetched body slice, overlay block or metadata record becomes resident in the segment
  cache. -/
  | fetchResident (slot : Nat) (key : Slice) (rem : Remote)
  /-- STREAMING_ROOM_FREED (R150). Room frees in the streaming area, and a fetch that was waiting for room proceeds.
  -/
  | streamingRoomFreed (slot : Nat)
  /-- JUNCTION_SAMPLING_POINT (R139). At LENGTH − 48 the condition index is formed and a successor selected;
  unselected candidates are freed and a JUNCTION record written. -/
  | junctionSamplingPoint (slot : Nat)
  /-- UNDERRUN (R165). A needed slice is absent at its first vector, so the lane groups it feeds play the background
  vector to the end of the segment. -/
  | underrun (slot : Nat)
  /-- BURST_SEGMENT_BOUNDARY (R166). Play reaches the end of a segment and handles flips, commits, phase reset,
  pause, stall, underrun ending and the end of the burst. -/
  | burstSegmentBoundary (slot : Nat)
  /-- STALL_END (R166). The successor's opening granules become resident during a stall, so play resumes at its
  vector 0 and a STALL record is written. -/
  | stallEnd (slot : Nat) (vectors : Nat)
  /-- THROTTLE_HOLD_END (R346). A throttling hold reaches the window's length and the BURST resumes, writing a HOLD
  record. -/
  | throttleHoldEnd (slot : Nat) (vectors : Nat)
  /-- LAYER_PAGE_RELEASE (R164). A DRAINING page has no fetches or vectors outstanding, so it becomes FREE or IDLE.
  -/
  | layerPageRelease (peb layer page : Nat)
  /-- QUEUE_FLUSH_TIMEOUT (R264). A partial read word pending for 2 µs without a write is flushed with padding. -/
  | queueFlushTimeout (q : Nat)
  /-- WMON_TRANSITION (R200). A window monitor recognises a change of its output and reports an event to its routes.
  -/
  | wmonTransition (ch : Nat) (ball : Int) (within20 : Bool)
  /-- WMON_COALESCE_END (R200). 20 ns after the last reported event, a differing output is reported with
  COALESCED_SINCE. -/
  | wmonCoalesceEnd (mon : Nat)
  /-- WMON_STUCK (R200). A monitor output held HIGH past its stuck hold sets STUCK. -/
  | wmonStuck (ch : Nat)
  /-- MEASURE_DISPATCH (R221). A MEASURE item starts on its sequencer, loading arguments and snapshotting each
  target's state. -/
  | measureDispatch (slot : Nat)
  /-- MSEQ_REQUEST_TAKEN (R220). A pending abort, fault or pause request is taken at a safe point, starting the
  unwind or holding the item. -/
  | mseqRequestTaken (seq : Nat)
  /-- GO (R214). The microword's operations run and the sequencer goes to the formed next address. -/
  | seqGo (seq : Nat)
  /-- CALL (R214). The return address is pushed and the sequencer goes to the formed address. -/
  | seqCall (seq : Nat)
  /-- RETURN (R214). An address is popped and the sequencer goes to it, or acts as END on an empty stack. -/
  | seqReturn (seq : Nat)
  /-- WAIT (R214). The sequencer holds at the word until its wait timer is zero. -/
  | seqWait (seq : Nat)
  /-- TIMER_DONE (R214). The wait timer reaches zero and the waiting word goes to its formed address. -/
  | timerDone (seq : Nat)
  /-- END (R214). The routine completes, uncommitted entries are discarded and the item ends COMPLETE. -/
  | seqEnd (seq : Nat)
  /-- UNWIND_DONE (R221). The entry snapshot is applied, staged entries are discarded and the item ends FAILED with
  its first cause. -/
  | unwindDone (seq : Nat)
  /-- CONVERSION_DONE (R253). An MADC or DADC conversion returns its sample to the requesting routine or ACQUIRE
  record. -/
  | conversionDone (dadc : Bool) (conv input : Nat) (value : Int) (endOfScale clamped : Bool) (gap : Nat)
  /-- RANGE_CHANGE_DONE (R206). A PMU make-before-break range change or break-before-make mode change completes. -/
  | rangeChangeDone (dps : Bool) (n : Nat)
  /-- TDC_DISPATCH (R238). A TDC item arms measurement 0 on every claimed TDC in the same cycle. -/
  | tdcDispatch (slot : Nat)
  /-- TDC_EDGE (R232). A passed input edge is stamped, completing a measurement, writing its record and updating the
  statistics. -/
  | tdcEdge (tdc : Nat) (stop : Bool) (sampled : EdgeAt) (near : Bool)
  /-- ACQUIRE_DISPATCH (R255). An ACQUIRE item starts converting its input and watching for its trigger. -/
  | acquireDispatch (slot : Nat)
  /-- TRANSFER_DISPATCH (R268). Spabry writes DESC_ADDR into the DMA channel and sets START. -/
  | transferDispatch (slot : Nat)
  /-- DMA_DESCRIPTOR_FETCHED (R268). A descriptor arrives and loads SRC, DST and COUNT, marking a queue source, or
  ends the chain if OWN is clear. -/
  | dmaDescriptorFetched (ch : Nat) (status : Nat) (rem : Remote)
  /-- DMA_BUFFER_GRANTED (R270). A buffer block frees, and a channel's waiting read burst is issued. -/
  | dmaBufferGranted (ch : Nat)
  /-- DMA_READ_RESPONSE (R270). Read data returns to a DMA channel and its write beats are issued. -/
  | dmaReadResponse (ch : Nat) (status : Nat) (rem : Remote)
  /-- DMA_WRITE_RESPONSE (R270). A write answer returns, adding to DONE_BYTES or recording an error; the last one
  completes the descriptor and starts its write-back. -/
  | dmaWriteResponse (ch : Nat) (status : Nat)
  /-- DMA_WRITEBACK_ACK (R271). The descriptor write-back is acknowledged, so OWN is cleared and the queue is
  released or rewound. -/
  | dmaWritebackAck (ch : Nat) (status : Nat)
  /-- DMA_STOP_WAIT_END (R274). A stopped channel's 10 µs wait for outstanding responses ends, leaving OWN set. -/
  | dmaStopWaitEnd (ch : Nat)
  /-- CAL_DISPATCH (R336). A CAL item takes Press and its unit into MAINTENANCE and starts its first class. -/
  | calDispatch (slot : Nat)
  /-- CAL_CLASS_DONE (R336). A calibration class ends and the next class starts, or the item ends and its
  corrections begin slewing. -/
  | calClassDone (result : CalResult)
  /-- CORRECTION_SLEW_STEP (R339). Every 10 µs each slewing DAC code moves one code toward its newly corrected
  value. -/
  | correctionSlewStep
  /-- REFERENCE_FULL_ACCURACY (R333). 20 ms after PD31 switches on, the reference is usable and CAL items needing it
  may dispatch. -/
  | referenceFullAccuracy
  /-- LEVELS_DISPATCH (R193). A LEVELS item claims its load group and fires or arms its strobe. -/
  | levelsDispatch (slot : Nat)
  /-- DPS_DISPATCH (R278). A DPS item enables its disabled channels at 0 V and requests admission of its ramp. -/
  | dpsDispatch (slot : Nat)
  /-- CURRENT_MANAGER_REFRESH (R285). Every 1 µs the current and dissipation accounts are refreshed and held DPS
  items are admitted in order. -/
  | currentManagerRefresh (loads : List (Nat × Nat)) (vps : List Nat)
  /-- DPS_RAMP_STEP (R279). Every 16 control-clock cycles each ramping set point moves by SLEW × the interval toward
  TARGET. -/
  | dpsRampStep (slot : Nat)
  /-- DPS_BUDGET_TIMEOUT (R286). A held DPS item's budget timeout runs out and it ends FAILED:BUDGET_TIMEOUT. -/
  | dpsBudgetTimeout (slot : Nat)
  /-- DPS_LIMIT_CHANGE (R283). A channel's current limit starts or stops acting, and a LIMIT record is written. -/
  | dpsLimitChange (n : Nat) (acts : Bool) (microvolts : Int) (microamps : Int)
  /-- DPS_DROPOUT (R283). A channel's headroom is lost or regained, and a DROPOUT record is written. -/
  | dpsDropout (n : Nat) (lost : Bool) (microvolts : Int) (microamps : Int)
  /-- DPS_OVERLOAD (R287). Accounts over a ceiling for 1 ms raise a CONTAINED detection and write an OVERLOAD
  record. -/
  | dpsOverload
  /-- DPS_DISARM_OUTPUT_DISABLE (R278). During OPC_DISARM an output at or below 50 mV, or 10 ms after its ramp, is
  disabled and discharged. -/
  | dpsDisarmOutputDisable (n : Nat)
  /-- DPS_DISCHARGE_DONE (R289). A discharging channel reaches 50 mV, the passive path closes and a DISCHARGED
  record is written. -/
  | dpsDischargeDone (n : Nat)
  /-- LANE_DISPATCH (R296). A LANE item starts transmission on its named lanes in the same UI, or keeps them idle
  for TEST 3. -/
  | laneDispatch (slot : Nat)
  /-- LANE_RX_LOCK (R293). A lane receiver locks to its data or forwarded clock. -/
  | laneRxLock (lane : Nat) (freqOffset : Int)
  /-- NO_LOCK (R293). A receiver not locked within 100 µs of dispatch is marked NO_LOCK and counts as finished. -/
  | noLock (lane : Nat)
  /-- LANE_PRBS_SYNC (R297). A PRBS checker matches 64 bits and declares sync, starting its counts. -/
  | lanePrbsSync (lane : Nat) (inverted : Bool)
  /-- LANE_SYNC_DROP (R297). A 64-bit window with more than 16 errors drops sync and adds to RESYNCS. -/
  | laneSyncDrop (lane : Nat) (bits : Nat) (errors : BitErrors)
  /-- NO_SYNC (R297). A lane without sync within 2^20 UI of lock is marked NO_SYNC and counts as finished. -/
  | noSync (lane : Nat)
  /-- LANE_LOCK_LOSS (R297). A lane loses lock, LOCK_LOSSES increases, and counting stops until lock and sync
  return. -/
  | laneLockLoss (lane : Nat)
  /-- LANE_BITS_REACHED (R297). A lane has checked, sent or observed BITS bits and is finished; when every lane is
  finished, the item completes. -/
  | laneBitsReached (lane : Nat) (bits : Nat) (errors : BitErrors)
  /-- EYE_POINT_DONE (R298). An eye-scan point completes its bit count and the next point begins. -/
  | eyePointDone (lane : Nat) (mismatches : Nat)
  /-- LANE_CLASS_RECOGNISED (R299). A received signal holds a new training class for 1,024 UI and an event is
  recorded. -/
  | laneClassRecognised (lane : Nat) (cls : Nat) (inverted : Bool)
  /-- PORT_RETRAIN (R311). A lane lock loss, sync-header errors, retry failure or a Ford or clock change makes a
  port retrain. -/
  | portRetrain (port : Port)
  /-- PORT_TRAINED (R309). A training attempt succeeds and the port is UP or DEGRADED, exchanging initial credits.
  -/
  | portTrained (port : Port) (lanes : BitVec 4) (full : Bool)
  /-- PORT_TRAIN_RETRY (R309). A training attempt fails and is repeated after 10 ms. -/
  | portTrainRetry (port : Port)
  /-- PORT_ACK_TIMEOUT (R314). 50 µs without ACK progress, or 8 NAKs for one LSEQ, makes the port retrain. -/
  | portAckTimeout (port : Port)
  /-- LINK_SEND_TIMER (R315). At least every 1 µs a port with ACKs or credits to return sends a LINK packet. -/
  | linkSendTimer (port : Port)
  /-- LINK (R314). A received LINK packet releases or rewinds the replay buffer and updates credits. -/
  | link (port : Port) (pkt : Packet)
  /-- TRAIN (R309). A received TRAIN packet exchanges address, M_LOCK, lane mask and FULL offer. -/
  | train (port : Port) (pkt : Packet)
  /-- PACKET_FORWARD (R318). A received packet for another node is checked, routed column-first with dateline and
  turning rules, or answered UNREACHABLE. -/
  | packetForward (port : Port) (pkt : Packet)
  /-- REG_RD (R324). A REG_RD packet reads hardware registers and is answered with REG_RSP. -/
  | regRd (port : Port) (pkt : Packet)
  /-- REG_WR (R324). A REG_WR packet writes hardware registers as one unit and is answered with REG_RSP. -/
  | regWr (port : Port) (pkt : Packet)
  /-- REG_RSP (R322). A register answer reaches its requester and completes the outstanding request. -/
  | regRsp (port : Port) (pkt : Packet)
  /-- MBOX_REQ (R323). A mailbox message is written into MB0 or MB1 and acknowledged with MBOX_ACK, or refused by
  path. -/
  | mboxReq (port : Port) (pkt : Packet)
  /-- MBOX_RSP (R323). A response-ring entry arrives for the requester and is acknowledged. -/
  | mboxRsp (port : Port) (pkt : Packet)
  /-- MBOX_ACK (R323). An end-to-end acknowledgement releases the sender's copy, or schedules a resend on RING_FULL.
  -/
  | mboxAck (port : Port) (pkt : Packet)
  /-- MBOX_ACK_TIMEOUT (R323). With no MBOX_ACK within 1 ms, or 10 µs after RING_FULL, the message is resent with
  the same TAG. -/
  | mboxAckTimeout (tag : BitVec 16)
  /-- MEM_RD (R324). A home node answers a memory read with data, NOT_HELD, ERROR or UNREACHABLE. -/
  | memRd (port : Port) (pkt : Packet)
  /-- MEM_RD_RSP (R324). A memory read answer reaches Sluice or DMA. -/
  | memRdRsp (port : Port) (pkt : Packet)
  /-- MEM_WR (R324). A home node writes a memory packet to its local copy and answers with MEM_WR_ACK. -/
  | memWr (port : Port) (pkt : Packet)
  /-- MEM_WR_ACK (R270). A write acknowledgement answers every DMA beat gathered in its packet. -/
  | memWrAck (port : Port) (pkt : Packet)
  /-- REQUEST_TIMEOUT (R322). A REG or MEM request with no answer within 1 ms counts as answered UNREACHABLE. -/
  | requestTimeout (tag : BitVec 16)
  /-- TIME_XCHG (R331). A neighbour stamps t2 on a time exchange and answers with TIME_XCHG_RSP carrying t2 and t3.
  -/
  | timeXchg (port : Port) (pkt : Packet) (c2 c3 : Nat)
  /-- TIME_XCHG_RSP (R331). The exchange answer is stamped t4 and the offset and link delay are computed. -/
  | timeXchgRsp (port : Port) (pkt : Packet) (c4 : Nat)
  /-- TIME_EPOCH (R332). A time epoch broadcast is delivered and applied at the next HWSYNC pulse. -/
  | timeEpoch (port : Port) (pkt : Packet)
  /-- BCAST_REQ (R321). A broadcast request is delivered to the local mailbox and passed on in its row or column
  phase. -/
  | bcastReq (port : Port) (pkt : Packet)
  /-- BOOT_REQ (R329). A boot request arriving on a served port is answered with BOOT_OFFER and the image is sent.
  -/
  | bootReq (port : Port) (pkt : Packet) (rem : Remote)
  /-- BOOT_OFFER (R328). The first boot offer received fixes the boot source. -/
  | bootOffer (port : Port) (pkt : Packet)
  /-- BOOT_DATA (R71). Boot image bytes from the source are stored at their offset, and verification begins once the
  image is covered. -/
  | bootData (port : Port) (pkt : Packet)
  /-- BOOT_DONE (R330). A booting device reports its verification result to the source, ending OPC_BOOT_SERVE. -/
  | bootDone (port : Port) (pkt : Packet)
  /-- LEVEE_DETECTION (R355). A detector raises an event that Levee records, classifies, escalates and reacts to for
  its region. -/
  | leveeDetection (detector region : BitVec 16) (detail : Detail) (uncorrectable : Bool) (reactionNs : Nat)
  /-- REACTION_SHADOW_CLOSE (R356). The 20 µs reaction shadow after a CONTAINED or FATAL reaction closes. -/
  | reactionShadowClose (index : BitVec 16)
  /-- HOUSEKEEPING_SLOT (R342). Every 15.625 µs the next housekeeping slot reads its temperature, rail or reference
  into its register. -/
  | housekeepingSlot (reading : Option Int) (faulty : Bool)
  /-- THROTTLE_WINDOW_END (R346). The throttling hold window ends and BURST and LANE dispatch resumes. -/
  | throttleWindowEnd
  /-- VECTOR_PLAY (R248). On each vector played at the pins, Sluice composes every claimed channel's symbol,
  resolves K, loads hold registers and capture latches, and capture gathers counted compares into FAIL and MARKER
  records. -/
  | vectorPlay (slot : Nat) (seen : List Seen)
  /-- DELAY_LINE_LOCKED (R49). The delay-locked loops of the timing generators and TDCs finish locking after the
  timing clock starts or returns, at most 20 µs later, and the units that the loss took OFFLINE return to ACTIVE. -/
  | delayLineLocked
  /-- DOMAIN_SWITCH_OPENED (R32). The switch of a domain ordered off opens and the domain's PD_STATUS bit clears;
  the switch-off of the domains it depends on may then proceed. -/
  | domainSwitchOpened (pd : Nat)
  /-- SINE_UPDATE (R207). Every 16 control-clock cycles the sine accumulator's output is corrected and written to
  the PMU force DAC or DPS set point, and a requested disable takes effect at the accumulator's wrap. -/
  | sineUpdate
deriving DecidableEq, Repr

end Sys2Proof
end

