-- ==== Sys2Proof/Decode.lean ====
section
/-! DEFINITION. The host's table-word decoder. No row of spec/opcode_table.json gives bits (every row's fields list is
empty): the device takes its commands as pin events, frames, packets and mailbox messages, never as words. -/

namespace Sys2Proof

/-- The command a word spells by the table's bits: none, because no row of the table gives bits (log 63). -/
def decodeTableWord (_nbits _w : Nat) : Option Instr := none

end Sys2Proof
end

