-- ==== Sys2Proof/Config.lean ====
section
/-! DEFINITION. What the spec leaves to one device or leaves open: opaque constants, so that no proof can lean on a value. -/

namespace Sys2Proof.Config

/-- The free values of the model: an undefined value takes freeValue of the state's counter (log 13). -/
opaque freeValue : Nat → Nat

/-- The unique 128-bit fuse identity (FUSE_IDn, OPC_IDENTITY), "an opaque 128-bit value" (R114, Table 21.4). -/
opaque fuseId : BitVec 128

/-- The microword at a ROM address, but for the two words whose content the spec gives (R215, R221; log 14). -/
opaque romWord : BitVec 14 → BitVec 144

/-- Fixed hop difference of the sync path (R54), in LSB. -/
opaque hopFixed : Int

/-- One of the 1,024 signed 16-bit samples of one period that the sine table holds (R207). -/
opaque sineTable : BitVec 10 → BitVec 16

/-- The tap-to-ball delay of a channel's loopback tap, measured at the factory and held in fuses, and the delay from the
timing-clock reference to every ball, the fixed latency of the device (R178, R183), in LSB. -/
opaque tapToBall : Nat → Int
opaque ballLatency : Int

/-- The fused latency of a port's transmitter, which t1 and t3 of a time exchange leave out (R331), in LSB. -/
opaque txLatency : Nat

/-- How a reading is corrected after conversion (R340): the correction's formula is not stated. The lists are the offset,
gain and linearity of the converter, and the offset and gain of the path it reads (log 150). -/
opaque correction : List Int → List Int → Int → Int

/-- Press's microstore as an image body loads it: 4,096 words of 16 bits, word 0 lowest (R228). -/
opaque pressMicro : List (BitVec 8) → BitVec 65536

/-- The nanostores of Press and Levee: 256 words of 192 bits, in ROM (R228). -/
opaque pressNano : BitVec 8 → BitVec 192
opaque leveeNano : BitVec 8 → BitVec 192

/-- Levee's microstore: 512 words of ROM (R228). -/
opaque leveeMicro : BitVec 9 → BitVec 16

end Sys2Proof.Config
end

