-- ==== Sys2Proof/Machine/Bits.lean ====
section
/-! DEFINITION. Fields of little-endian messages and records, and lists of bytes (R2). -/

namespace Sys2Proof.Machine

/-- The n bytes at byte offset off of a message, as a number (R2). -/
def Msg.field (m : Msg) (off n : Nat) : Nat := (m.toNat >>> (8 * off)) % 2 ^ (8 * n)

/-- A message from its fields (byte offset, bytes, value); fields do not overlap. -/
def Msg.of (fs : List (Nat × Nat × Nat)) : Msg :=
  fs.foldl (fun m f => m ||| (BitVec.ofNat 512 (f.2.2 % 2 ^ (8 * f.2.1)) <<< (8 * f.1))) 0

/-- The n low bytes of v, least significant first (R2). -/
def le : Nat → Nat → List Byte
  | 0, _ => []
  | n + 1, v => BitVec.ofNat 8 v :: le n (v / 256)

/-- The number little-endian bytes spell. -/
def unle : List Byte → Nat
  | [] => 0
  | b :: bs => b.toNat + 256 * unle bs

/-- The two's complement of v in n bytes. -/
def leInt (n : Nat) (v : Int) : List Byte := le n (v % 2 ^ (8 * n)).toNat

/-- v modulo 2^bits read as a signed number. -/
def signed (bits v : Nat) : Int :=
  if v % 2 ^ bits < 2 ^ (bits - 1) then (v % 2 ^ bits : Nat) else (v % 2 ^ bits : Nat) - (2 ^ bits : Nat)

/-- The n bytes at offset off of a list of bytes, as a number; bytes past its end read zero. -/
def bytesAt (bs : List Byte) (off n : Nat) : Nat := unle ((bs.drop off).take n)

/-- k bytes of zero. -/
def zeros (k : Nat) : List Byte := List.replicate k 0

/-- Bit i of a number. -/
def bitOf (v i : Nat) : Bool := v / 2 ^ i % 2 = 1

/-- Bits hi:lo of a number. -/
def bitsOf (v hi lo : Nat) : Nat := v / 2 ^ lo % 2 ^ (hi + 1 - lo)

/-- The numbers below n whose bit of v is set, rising. -/
def setBits (n v : Nat) : List Nat := (List.range n).filter (bitOf v)

/-- A Bool as a number. -/
def b2n (b : Bool) : Nat := if b then 1 else 0

/-- x with bit i set to b. -/
def putBit {w : Nat} (x : BitVec w) (i : Nat) (b : Bool) : BitVec w :=
  if b then x ||| (1#w <<< i) else x &&& ~~~(1#w <<< i)

/-- Rounds a / b (b positive) to nearest, halves away from zero. -/
def roundDiv (a : Int) (b : Nat) : Int :=
  if 0 ≤ a then (2 * a + b) / (2 * b) else -((2 * (-a) + b) / (2 * b))

/-- x held between lo and hi. -/
def clampTo (lo hi x : Int) : Int := if x < lo then lo else if hi < x then hi else x

/-- The least number r with r * r > n, less one, by at most fuel steps of halving. -/
def isqrtGo : Nat → Nat → Nat → Nat → Nat
  | 0, _, lo, _ => lo
  | f + 1, n, lo, hi =>
    if hi ≤ lo + 1 then lo
    else
      let mid := (lo + hi) / 2
      if mid * mid ≤ n then isqrtGo f n mid hi else isqrtGo f n lo mid

/-- The square root of n, rounded down. -/
def isqrt (n : Nat) : Nat := isqrtGo 130 n 0 (n + 1)

/-- Is a at or past b, counts being compared over a window of 2^63 (R50)? -/
def countPast (a b : Count) : Bool := (a - b).toNat < 2 ^ 63

end Sys2Proof.Machine
end

