-- ==== Sys2Proof/Machine/Crypto.lean ====
section
/-! DEFINITION. SHA-256 (FIPS 180-4: R68, R126, R217) and CRC-32C (R313). -/

namespace Sys2Proof.Machine

/-- The primes below 312: there are 64 of them, 2 to 311. -/
def shaPrimes : List Nat :=
  (List.range 312).filter fun p => 2 ≤ p && (List.range 18).all fun d => d < 2 || p ≤ d || p % d ≠ 0

/-- The greatest r below hi with r ^ k at most n, where lo is known to be one such, by n halvings of the gap. -/
def rootGo (k n : Nat) : Nat → Nat → Nat → Nat
  | 0, lo, _ => lo
  | f + 1, lo, hi =>
    let mid := (lo + hi) / 2
    if mid ^ k ≤ n then rootGo k n f mid hi else rootGo k n f lo mid

/-- The first 32 bits of the fractional part of the k-th root of p (FIPS 180-4, sections 4.2.2 and 5.3.3). -/
def rootBits (k p : Nat) : BitVec 32 := BitVec.ofNat 32 (rootGo k (p * 2 ^ (32 * k)) 38 0 (2 ^ 38))

/-- The round constants: from the cube roots of the 64 primes (FIPS 180-4, section 4.2.2). -/
def shaK : List (BitVec 32) := shaPrimes.map (rootBits 3)

/-- The eight working words of SHA-256. -/
structure Sha where
  a : BitVec 32
  b : BitVec 32
  c : BitVec 32
  d : BitVec 32
  e : BitVec 32
  f : BitVec 32
  g : BitVec 32
  h : BitVec 32
deriving DecidableEq, Repr

/-- The initial hash value: from the square roots of the first eight primes (FIPS 180-4, section 5.3.3). -/
def shaInit : Sha :=
  ⟨rootBits 2 2, rootBits 2 3, rootBits 2 5, rootBits 2 7, rootBits 2 11, rootBits 2 13, rootBits 2 17, rootBits 2 19⟩

/-- One round with constant k and schedule word w. -/
def shaRound (s : Sha) (k w : BitVec 32) : Sha :=
  let s1 := s.e.rotateRight 6 ^^^ s.e.rotateRight 11 ^^^ s.e.rotateRight 25
  let ch := (s.e &&& s.f) ^^^ (~~~s.e &&& s.g)
  let t1 := s.h + s1 + ch + k + w
  let s0 := s.a.rotateRight 2 ^^^ s.a.rotateRight 13 ^^^ s.a.rotateRight 22
  let maj := (s.a &&& s.b) ^^^ (s.a &&& s.c) ^^^ (s.b &&& s.c)
  ⟨t1 + (s0 + maj), s.a, s.b, s.c, s.d + t1, s.e, s.f, s.g⟩

/-- The rounds over the constants ks, with the sixteen schedule words ahead in ws. -/
def shaRounds : List (BitVec 32) → List (BitVec 32) → Sha → Sha
  | [], _, s => s
  | k :: ks, ws, s =>
    let w0 := ws.getD 0 0
    let w1 := ws.getD 1 0
    let w9 := ws.getD 9 0
    let w14 := ws.getD 14 0
    let x := w0 + (w1.rotateRight 7 ^^^ w1.rotateRight 18 ^^^ (w1 >>> 3)) + w9
      + (w14.rotateRight 17 ^^^ w14.rotateRight 19 ^^^ (w14 >>> 10))
    shaRounds ks (ws.drop 1 ++ [x]) (shaRound s k w0)

/-- The big-endian words of a block, n of them. -/
def shaWords : Nat → List Byte → List (BitVec 32)
  | 0, _ => []
  | n + 1, bs =>
    BitVec.ofNat 32 (unle ((bs.take 4).reverse)) :: shaWords n (bs.drop 4)

/-- One block of 64 bytes. -/
def shaBlock (s : Sha) (bs : List Byte) : Sha :=
  let t := shaRounds shaK (shaWords 16 bs) s
  ⟨s.a + t.a, s.b + t.b, s.c + t.c, s.d + t.d, s.e + t.e, s.f + t.f, s.g + t.g, s.h + t.h⟩

/-- n blocks. -/
def shaBlocks : Nat → List Byte → Sha → Sha
  | 0, _, s => s
  | n + 1, bs, s => shaBlocks n (bs.drop 64) (shaBlock s (bs.take 64))

/-- The message padded to whole blocks (FIPS 180-4, section 5.1.1). -/
def shaPad (bs : List Byte) : List Byte :=
  let n := bs.length
  bs ++ [0x80#8] ++ zeros ((119 - n % 64) % 64) ++ (le 8 (8 * n)).reverse

/-- The 32-byte digest. -/
def sha256 (bs : List Byte) : List Byte :=
  let p := shaPad bs
  let s := shaBlocks (p.length / 64) p shaInit
  [s.a, s.b, s.c, s.d, s.e, s.f, s.g, s.h].flatMap fun w => (le 4 w.toNat).reverse

/-- The digest of an image with its bytes off to off + 31 taken as zero (R126, R217). -/
def digestWithout (bs : List Byte) (off : Nat) : List Byte :=
  sha256 (bs.take off ++ zeros 32 ++ bs.drop (off + 32))

/-- n steps of the reflected CRC-32C register (R313). -/
def crcBits : Nat → BitVec 32 → BitVec 32
  | 0, c => c
  | n + 1, c => crcBits n (if c.getLsbD 0 then (c >>> 1) ^^^ 0x82F63B78#32 else c >>> 1)

/-- CRC-32C of bytes: polynomial 0x1EDC6F41 reflected, initial value and final XOR all ones (R313). -/
def crc32c (bs : List Byte) : BitVec 32 :=
  ~~~(bs.foldl (fun c b => crcBits 8 (c ^^^ b.setWidth 32)) (BitVec.allOnes 32))

end Sys2Proof.Machine
end

