-- ==== Sys2Proof/Machine/State.lean ====
section
/-! DEFINITION. The state of the KW768 block, the reasons a step can stop, and the state after reset.
Every table is sparse (Tab): a channel, slot, unit or register that is not listed holds its default, which is the value
at reset given by the structure's field defaults. Values the spec leaves open at reset are named in the log. -/

namespace Sys2Proof.Machine

/-- The misuses of Table 19.10 (R367): the spec gives no effect for them. Every constructor is raised by the meaning of
the command that carries the misuse, and is safe: the model stops where the spec says no statement holds. -/
inductive Fault where
  /-- A reserved field written non-zero in a message, item parameter, image or descriptor (R5, R110). Safe. -/
  | reservedField
  /-- A root step beyond 0.2 % of M_LOCK requested in RUN (R44). Safe. -/
  | stepInRun
  /-- A schedule image that breaks the granule or minimum-length rules (R10, R132). Safe. -/
  | imageGranule
  /-- Active timing or pin-mode tables written with DIRECT in RUN or PAUSE (R121). Safe. -/
  | directInPlay
  /-- The PMU of a channel connected while a running BURST drives it (R15, R187). Safe. -/
  | pmuOnDriven
  /-- Level values outside Table 10.2, or a DPS set point above 3.0 V, or a DPS sine leaving 0 V to 3.0 V
  (R120, R188, R277, R288). Safe. -/
  | levelLimits
  /-- A metadata image changed between its load and its unload (R130). Safe. -/
  | imageChanged
  /-- Timing codes outside the edge rules (R141, R176). Safe. -/
  | timingCodes
  /-- Overlapping DMA descriptors (R275). Safe. -/
  | dmaOverlap
  /-- Two DMA channels reading one result queue at once (R272). Safe. -/
  | queueTwoReaders
deriving DecidableEq, Repr

/-- Reasons for which a command has no meaning in the model. -/
inductive Refusal where
  /-- The command of this mnemonic has no meaning yet. Raised by exec alone. Safe. -/
  | notModelled (mnemonic : String)
deriving DecidableEq, Repr

/-- The device modes (Table 4.1). -/
inductive Mode where
  | off | boot | loaded | calibrate | idle | armed | run | pause | service | diagnostic | safe | bypass
deriving DecidableEq, Repr

/-- The unit states (R63, Table 4.3). -/
inductive UState where
  | active | quiescing | offline | maintenance
deriving DecidableEq, Repr

/-- Who holds a unit in MAINTENANCE, or will once it has quiesced (R374, R375). -/
inductive Holder where
  | none
  | press
  /-- A host request with its action of Table 20.3; done once the action has ended. -/
  | host (action : Nat) (done : Bool)
deriving DecidableEq, Repr

/-- Headwater sync status (Table 3.3). -/
inductive SyncStatus where
  | free | acquiring | synced | coast
deriving DecidableEq, Repr

/-- The item kinds (Table 5.7). -/
inductive Kind where
  | burst | measure | tdc | acquire | transfer | cal | levels | dps | lane
deriving DecidableEq, Repr

/-- The item states (Table 5.8). -/
inductive IState where
  | free | queued | inFlight | held | complete | failed
deriving DecidableEq, Repr

/-- Resets, straps, rails, power domains, the Ford and CLR_N (chapters 2, 17). -/
structure Power where
  porHeld    : Bool := true
  warmHeld   : Bool := false
  warmSched  : Bool := false
  node       : BitVec 11 := 0
  src        : BitVec 2 := 0
  rails      : BitVec 15 := BitVec.allOnes 15
  pdOn       : BitVec 32 := 0x9#32
  pdBusy     : BitVec 32 := 0
  pdOnOrd    : BitVec 32 := 0
  pdOffOrd   : BitVec 32 := 0
  pdRise     : BitVec 32 := 0
  refFull    : Bool := false
  clrLow     : Bool := false
  fordPinLow : Bool := false
  fordClosed : Bool := true
  /-- The Ford has opened since the last reset (R55). -/
  fordOpened : Bool := false
  fordDrain  : Bool := false
  bypassPend : Bool := false
  /-- VPS0 to VPS3 in µV as last read by the package current manager (R285). -/
  vps        : List Nat := []
  cause      : Nat := 0
deriving DecidableEq, Repr

/-- Device mode and what belongs to the device as a whole (chapters 4, 6). -/
structure Dev where
  mode       : Mode := .boot
  prev       : Mode := .off
  changes    : BitVec 8 := 0
  cameFrom   : Mode := .idle
  startMask  : BitVec 32 := 0
  started    : Bool := false
  pauseReq   : Bool := false
  /-- During SERVICE, an abort has ended an item that PAUSE held: PAUSE may end on return (R373). -/
  pauseOver  : Bool := false
  noticeEn   : BitVec 32 := 0xE#32
  siteMap    : Tab Byte := []
  armedMap   : Tab Byte := []
  siteEnable : BitVec 64 := 0
  armedSched : Option Nat := none
  disarming  : Bool := false
  testing    : Bool := false
  testMask   : BitVec 32 := 0
  testAddr   : BitVec 64 := 0
deriving DecidableEq, Repr

/-- One unit of Table 6.7. -/
structure UnitSt where
  st       : UState := .offline
  holder   : Holder := .none
  /-- QUIESCING for a switch-off of its domain (R32), rather than for MAINTENANCE. -/
  toOff    : Bool := false
  lossOff  : Bool := false
  corrected : Bool := false
  calM     : BitVec 28 := 0
  calTemp  : Int := 0
  calTime  : Count := 0
  /-- Housekeeping slots that had passed at the last calibration (R343). -/
  calSlot  : Nat := 0
  /-- The readings of the unit's diodes behind calTemp, and whether each came from the remote diode (R343, R344). -/
  calDiodes : List (Int × Bool) := []
  /-- Classes that wait to be submitted (R343, R345, R411); 0 none. -/
  due      : Nat := 0
  /-- OFFLINE by a CONTAINED fault or a failed calibration: only MAINTENANCE or a switch-on takes it further. -/
  faulted  : Bool := false
  /-- Classes of a CAL item of Spabry that found no free ledger slot, or that SERVICE holds back, and is submitted once
  it can be (R13, R371). -/
  unslotted : Nat := 0
  /-- Its domain has come on, and no calibration has taken it to ACTIVE since (R411). -/
  fresh    : Bool := false
  /-- The domain is being power-cycled by OPC_UNIT_MAINTAIN action 2 (R376). -/
  cycling  : Bool := false
  /-- Marked for recalibration by a relock at a different M: items that claim it wait (R184, R242). -/
  marked   : Bool := false
deriving DecidableEq, Repr

/-- ADPLL and clocks (chapter 3). -/
structure Clock where
  locked     : Bool := false
  refOk      : Bool := true
  onBypass   : Bool := true
  stepActive : Bool := false
  relocking  : Bool := false
  syncDegraded : Bool := false
  syncWarn   : Bool := false
  mLock      : BitVec 28 := 0
  mNow       : BitVec 28 := 0
  stepTarget : BitVec 28 := 0
  stepSlew   : Nat := 0
  /-- The M a small step set out from, and its HWREF periods so far (R42). -/
  stepFrom   : BitVec 28 := 0
  stepTicks  : Nat := 0
  lockTarget : BitVec 28 := 0
  /-- The stop of the clocks came from a loss (R46), not from a requested relock (R44). -/
  lost       : Bool := false
  delayLocked : Bool := false
deriving DecidableEq, Repr

/-- Headwater (R50 to R57, R410). -/
structure Headwater where
  count     : Count := 0
  /-- The 32-bit fraction of the count (R50). -/
  frac      : BitVec 32 := 0
  /-- Timing-clock cycles since the last edge of the timing clock before the last HWREF edge, in 2^-22 cycles (R50). -/
  phase     : BitVec 22 := 0
  running   : Bool := false
  status    : SyncStatus := .free
  /-- The status before its last change, and the count at that change (R258). -/
  statWas   : SyncStatus := .free
  statAt    : Count := 0
  syncMode  : Nat := 0
  upstream  : Nat := 0
  periodUs  : Nat := 1000
  offsetComp : BitVec 32 := 0
  hopDelay  : BitVec 32 := 0
  lastLoss  : Count := 0
  lossCount : BitVec 32 := 0
  errLast   : BitVec 16 := 0
  epoch     : Option Count := none
  epochSeen : Bool := false
  /-- The count at the last pulse taken from HWSYNC_IN since the sync mode was set (R332). -/
  pulse     : Option Count := none
  /-- An epoch that waits to be broadcast after the next pulse (R332). -/
  epochOut  : Option Count := none
  slew      : Int := 0
  slewPhase : Nat := 0
  snapMsp   : BitVec 32 := 0
  snapJtag  : BitVec 32 := 0
  snapFab   : BitVec 32 := 0
  /-- The count at the last pulse that a chain master or slave has driven on HWSYNC_OUT (R54). -/
  syncOut   : Option Count := none
deriving DecidableEq, Repr

/-- PHASE of BOOT_STATUS (Table 4.7). -/
inductive BootPhase where
  | waiting | receiving | verifying | started | failed
deriving DecidableEq, Repr

/-- Where a Trellis boot stands (R67). -/
inductive BootWait where
  | none | strap | ref | lock | rail | pd4 | ford | measure | train | request
deriving DecidableEq, Repr

/-- The boot ROM, the instruction banks and the running firmware (chapter 4, R369). -/
structure Boot where
  excess    : Bool := false
  error     : Byte := 0
  phase     : BootPhase := .waiting
  warm      : Bool := false
  attempts  : Byte := 0
  wait      : BootWait := .none
  /-- Image bytes received, by offset; got counts those of a stream. -/
  img       : Tab Byte := []
  got       : Nat := 0
  /-- 32-byte units covered by BOOT_DATA (R71, R328). -/
  covered   : List Nat := []
  offered   : Nat := 0
  source    : Option (BitVec 11) := none
  bank0     : List Byte := []
  bank1     : List Byte := []
  bank      : Nat := 0
  version   : Word := 0
  /-- Press's microstore: 4,096 words of 16 bits, word 0 lowest (R228). -/
  pressStore : BitVec 65536 := 0
  running   : Bool := false
  reported  : Bool := false
deriving DecidableEq, Repr

/-- A direct response owed to a request (R85): its request, and the response once it is ready. -/
structure Owed where
  req   : Msg
  ready : Option Msg := none
  /-- Notices, with their destinations, that may not precede this response (R86). -/
  notes : List (Nat × Msg) := []
deriving DecidableEq, Repr

/-- One mailbox (chapter 5). -/
structure Mailbox where
  reqHead : BitVec 9 := 0
  reqTail : BitVec 9 := 0
  rspHead : BitVec 9 := 0
  rspTail : BitVec 9 := 0
  dbOverrun : Bool := false
  entryBlocked : Bool := false
  path    : Bool := false
  tailErr : Bool := false
  alertEn : Bool := false
  req     : Tab Msg := []
  rsp     : Tab Msg := []
  dropped : Bool := false
  owed    : List Owed := []
deriving DecidableEq, Repr

/-- One ledger slot: the record of Table 5.7 and the internal dispatch state. -/
structure Slot where
  gen      : Bool := false
  kind     : Option Kind := none
  st       : IState := .free
  reason   : Byte := 0
  mailbox  : Nat := 0
  tag      : BitVec 16 := 0
  node     : BitVec 16 := 0
  flags    : BitVec 16 := 0
  progress : BitVec 32 := 0
  tSubmit  : Count := 0
  tStart   : Count := 0
  tEnd     : Count := 0
  result   : BitVec 64 := 0
  msg      : Msg := 0
  ext      : List Byte := []
  order    : Nat := 0
  /-- The first cause that will end the item at its stopping point (R97). -/
  cause    : Option Byte := none
  /-- A Headwater-timed or TRIG_IN action waits for its instant. -/
  armed    : Bool := false
  /-- Held by the package current manager (R286). -/
  budget   : Bool := false
  /-- Jump request that becomes pending at the dispatch of a QUEUED BURST (R122). -/
  jump     : Option Nat := none
  /-- Spabry submitted it itself through MB2 and retires it (R95). -/
  own      : Bool := false
  /-- It is the calibration of an OPC_UNIT_MAINTAIN action (R374). -/
  act      : Bool := false
  /-- A reset of this device ends the item PARTIAL: a result it has completed lies in another node's memory (R98), or a LANE
  item has counted bits (R301). -/
  afar     : Bool := false
deriving DecidableEq, Repr

/-- A DAC with its shadow and clear codes (R188 to R196). Keys: see dacKey. -/
structure Dac where
  active  : BitVec 16 := 0x4000#16
  shadow  : BitVec 16 := 0x4000#16
  dirty   : Bool := false
  clear   : BitVec 16 := 0x4000#16
  clearI  : BitVec 16 := 0x8000#16
  /-- The output stands at the clear code (R35, Table 2.7). -/
  held    : Bool := true
  /-- CLR_N has fallen, and no strobe has come since its release (R35). -/
  byClr   : Bool := false
  /-- The requested values in microvolts behind shadow and active code, if any (R339). -/
  value   : Option Int := none
  activeV : Option Int := none
  slew    : Option (BitVec 16) := none
  /-- The code that a sine lays over the active one (R207). -/
  sineCode : Option (BitVec 16) := none
  /-- Codes that the output has left, with the Headwater count of that instant (R197). -/
  past    : List (BitVec 16 × Count) := []
deriving DecidableEq, Repr

/-- Corrections of a DAC (R189): offset in nV, gain in parts per 10^9, and the 17-point table in nV. -/
structure Corr where
  e   : Int := 0
  g   : Int := 0
  lin : List Int := []
deriving DecidableEq, Repr

/-- A sine generator (R207, R208). -/
structure Sine where
  on    : Bool := false
  off   : Bool := false
  phase : BitVec 32 := 0
  step  : BitVec 32 := 0
  amp   : Int := 0
  offs  : Int := 0
deriving DecidableEq, Repr

/-- A window monitor, or a TRIG_IN input under the same rules (R199 to R203). st none is INDETERMINATE. -/
structure Wmon where
  lo     : BitVec 10 := 0
  hi     : BitVec 10 := 0
  route  : BitVec 3 := 0
  hold   : Nat := 0
  st     : Option Bool := none
  rep    : Option Bool := none
  coal   : BitVec 32 := 0
  stuck  : Bool := false
deriving DecidableEq, Repr

/-- An edge of a channel that occurs: its number of Table 9.1 (0 D1 to 5 C2), its time in LSB from the reference
instant, corrections not added (R174, R180), and the correction that the generator adds before firing it (R178). -/
structure Edge where
  n  : Nat
  at_ : Int
  corr : Nat
deriving DecidableEq, Repr

/-- One pin channel (chapters 9, 10, 13). -/
structure Chan where
  closed   : Bool := false
  /-- The disconnect as OPC_ARM left it (R226, PMU_RELEASE). -/
  armed    : Bool := false
  drvOn    : Bool := false
  drvHigh  : Bool := false
  released : Bool := false
  term     : Nat := 0
  srcCode  : Byte := 0
  sinkCode : Byte := 0
  pmuOn    : Bool := false
  pmuFi    : Bool := false
  range    : Nat := 0
  ranging  : Bool := false
  /-- The count at which the last change of range or mode ended (R206). -/
  tRange   : Option Count := none
  rise     : Nat := 0
  fall     : Nat := 0
  cmp      : Nat := 0
  riseNew  : Nat := 0
  fallNew  : Nat := 0
  cmpNew   : Nat := 0
  latch    : Lvl := .mid
  hold     : BitVec 4 := 4
  last     : BitVec 4 := 4
  edges    : List Edge := []
  /-- The tap linearity table of its delay line (R177). -/
  taps     : Tab Int := []
  sine     : Sine := {}
  mon      : Wmon := {}
deriving DecidableEq, Repr

/-- A layer page state (Table 8.1); IDLE pages are not listed. -/
inductive PageSt where
  | idle | free | next | front | draining
deriving DecidableEq, Repr

/-- A layer of a PEB (R162 to R164). -/
structure Layer where
  pool   : Nat := 0
  pages  : Nat := 0
  front  : Nat := 0
  flips  : BitVec 32 := 0
  tFlip  : Count := 0
  st     : Tab PageSt := []
  freePend : List Nat := []
  /-- Pages flipped out that became NEXT again before their release, each with the frees that the release settles. -/
  drain    : List (Nat × Nat) := []
  deferred : BitVec 32 := 0
  inPlay : BitVec 32 := 0
deriving DecidableEq, Repr

/-- What a PEB plays outside a burst (Table 8.3). -/
inductive Rest where
  | none | armed | keep | background | driversOff
deriving DecidableEq, Repr

/-- The pattern-path state of one PEB (chapters 7, 8). A timing table is listed only where it differs from the reset
table (R142): active and shadow hold the table's bytes, or none for the reset table; the same for the pin modes, whose
reset table is all zero. -/
structure Peb where
  timing   : Option (List Byte) := none
  timingSh : Option (List Byte) := none
  pinmode  : Option (List Byte) := none
  pinmodeSh : Option (List Byte) := none
  timingDirty  : Bool := false
  pinmodeDirty : Bool := false
  back     : BitVec 256 := 0x4444444444444444444444444444444444444444444444444444444444444444#256
  rest     : Rest := .none
  restTs   : Nat := 0
  layers   : Tab Layer := []
  group    : Option Nat := none
deriving DecidableEq, Repr

/-- Phases of a BURST in flight (R153, R160, R166). -/
inductive BPhase where
  | pinning | fetching | armed | playing | hold (throttle : Bool) | stall
deriving DecidableEq, Repr

/-- A pending pause request (R156, R160): its stamp, and whether it is for throttling. -/
structure PauseReq where
  stamp    : Nat
  fromSeg  : Bool := true
  throttle : Bool := false
deriving DecidableEq, Repr

/-- An open run of equal fail masks (R248). -/
structure Run where
  mask  : BitVec 64
  first : Nat
  len   : Nat
deriving DecidableEq, Repr

/-- One BURST in flight, keyed by its slot (chapters 8, 9, 13). -/
structure Burst where
  phase   : BPhase := .pinning
  sched   : Nat := 0
  entry   : Nat := 0
  sites   : BitVec 64 := 0
  pebs    : BitVec 12 := 0
  seg     : Nat := 0
  vec     : Nat := 0
  vaddr   : Nat := 0
  vectors : Nat := 0
  segStart : Nat := 0
  /-- The first vector of the segment in play, kept while play holds or stalls after it (R247). -/
  segAt   : Nat := 0
  /-- Successor selected at the sampling point of the segment in play (R139, R157). -/
  sel     : Option Nat := none
  sampled : Bool := false
  /-- S(v) of the next vector, per PEB (R174). -/
  sAcc    : Tab Nat := []
  /-- The Headwater count at S(v) since the reference instant, per PEB, in 2^-32 LSB: it departs from S(v) while M_NOW
  differs from M_LOCK (R50, R182). -/
  cAcc    : Tab Nat := []
  /-- The generators' vector counter (R43, R181). -/
  counter : Nat := 0
  /-- The reference instant of vector 0 of the BURST, which a phase reset leaves (R179, R251). -/
  tZero   : Count := 0
  /-- Its place in dispatch order (R150). -/
  turn    : Nat := 0
  /-- Claimed PEBs that a CONTAINED fault has taken, and VALID_TO of their streams (R168, R251). -/
  faulty  : BitVec 12 := 0
  faultTo : Nat := 0
  /-- Place of the segment in play on the path; ENTRY is 0. -/
  ord     : Nat := 0
  tRef    : Count := 0
  tLast   : Count := 0
  lastTs  : Nat := 0
  begun   : Bool := false
  jump    : Option (Nat × Nat) := none
  pause   : Option PauseReq := none
  commit  : BitVec 12 := 0
  /-- Commits for the boundary after the next, and those of them that are due at the next one (R161). -/
  commitLate : BitVec 12 := 0
  lateDue : BitVec 12 := 0
  phaseArm : Bool := false
  iters   : Tab Nat := []
  matched : Tab (BitVec 64) := []
  masked  : BitVec 64 := 0
  passFail : BitVec 64 := 0
  unmask  : BitVec 64 := 0
  toMask  : BitVec 64 := 0
  pinLeft : List Nat := []
  pinned  : Tab (List Byte) := []
  issued  : List Slice := []
  waiting : List Slice := []
  cache   : List (Slice × List Byte) := []
  lost    : List Slice := []
  ur      : BitVec 96 := 0
  ctlUr   : BitVec 12 := 0
  segUr   : Bool := false
  /-- The junction record was not resident at the sampling point (R167). -/
  segLate : Bool := false
  /-- The JUNCTION record of the selection made, as for PEB0: it enters the streams at the boundary (R246). -/
  junc    : List Byte := []
  /-- Fine phase of the reference instant within its timing-clock cycle (R179). -/
  fine    : Nat := 0
  tPause  : Count := 0
  stalls  : Nat := 0
  stallVecs : Nat := 0
  holds   : Nat := 0
  phases  : Nat := 0
  dropped : Tab Nat := []
  runs    : Tab Run := []
  /-- Stream records that wait behind the open run of their PEB (R246). -/
  behind  : Tab (List (List Byte)) := []
  /-- The sites counted as failing in the vector last played (R249). -/
  vecFails : BitVec 64 := 0
  segFails : Tab Nat := []
  segFirst : Tab Nat := []
  segPins  : Tab Nat := []
  segUrSites : BitVec 64 := 0
  fails   : Tab Nat := []
  first   : Tab Nat := []
  pinFirst : Tab Nat := []
  urs     : Tab Nat := []
deriving DecidableEq, Repr

/-- What a target of a MEASURE item was at dispatch (R221). -/
structure Snap where
  force  : BitVec 16 := 0
  fi     : Bool := false
  range  : Nat := 0
  clampHi : BitVec 16 := 0
  clampLo : BitVec 16 := 0
  /-- The requested values behind the three codes (R189). -/
  forceV : Option Int := none
  hiV    : Option Int := none
  loV    : Option Int := none
  pmuOn  : Bool := false
deriving DecidableEq, Repr

/-- One target of a sequencer's item. -/
structure Target where
  acc    : Int := 0
  n      : Nat := 0
  excl   : Nat := 0
  keptClamp : Bool := false
  res    : Tab Int := []
  /-- 0 none, 1 current, 2 voltage requested (MEAS_OP). -/
  want   : Nat := 0
  got    : Bool := false
  value  : Int := 0
  clamp  : Bool := false
  rang   : Bool := false
  current : Bool := false
  range  : Nat := 0
  time   : Count := 0
  /-- 0 none, 1 pass, 2 above the high limit, 3 below the low limit, 4 both (limits out of order). -/
  cmp    : Nat := 0
  /-- What the accumulator holds: 0 nV, 1 fA, 2 a status word (Table 11.7). -/
  unit   : Nat := 0
  snap   : Snap := {}
deriving DecidableEq, Repr

/-- State of a store or a schedule (R115). -/
inductive Store where
  | empty | verifying | valid | bad
deriving DecidableEq, Repr

/-- A result entry (Table 11.7) that is staged. -/
structure Entry where
  target : Nat
  unit   : Nat
  status : Byte
  samples : Nat
  excl   : Nat
  range  : Nat
  value  : Int
  time   : Count
deriving DecidableEq, Repr

/-- One measurement sequencer (chapter 11). -/
structure Seq where
  item    : Option Nat := none
  addr    : BitVec 14 := 0
  stack   : List (BitVec 14) := []
  ctrs    : Tab (BitVec 16) := []
  timer   : Nat := 0
  waiting : Bool := false
  args    : Tab Word := []
  unwind  : BitVec 14 := 0x10#14
  /-- The first cause of the requests to end the item, and which of the two kinds are pending (R213, R221). -/
  reqAbort : Option Byte := none
  reqHost : Bool := false
  reqFault : Bool := false
  reqPause : Bool := false
  inUnwind : Bool := false
  held    : Bool := false
  /-- Its item has ended at the entry to BYPASS or by a FATAL fault; the routine has still to unwind (R220, R221). -/
  adrift  : Bool := false
  targets : List Nat := []
  tgt     : Tab Target := []
  staged  : List Entry := []
  steps   : Nat := 0
  entries : Nat := 0
  tFirst  : Count := 0
  tLast   : Count := 0
  store   : Tab (BitVec 144) := []
  patch   : Tab (BitVec 144) := []
  /-- Match registers: bit 20 ENABLE, bits [19:14] patch word, bits [13:0] address. -/
  matches_ : Tab (BitVec 21) := []
  wState  : Store := .empty
  pState  : Store := .empty
  /-- Store images being checked, oldest first: target (0 writable, 1 patch), address, length. -/
  check   : List (Nat × Nat × Nat) := []
  /-- The formed address of the word that waits (R213, R214). -/
  formed  : BitVec 14 := 0
  /-- Per converter of the unit, the input whose turn the next conversion is, plus one; 0 none (Table 1.4). -/
  turns   : Tab Nat := []
  /-- Per converter, the input last converted, plus one (Table 1.4). -/
  lastIn  : Tab Nat := []
  /-- The corrections latched at the item's dispatch, as Press keeps them (R340). -/
  gen     : Tab Int := []
deriving DecidableEq, Repr

/-- One TDC (chapter 12). Stamps are in 1/16 LSB. -/
structure Tdc where
  start  : Byte := 0x0E#8
  stop   : Byte := 0x0E#8
  startUp : Bool := true
  stopUp : Bool := true
  e      : Nat := 0
  item   : Option Nat := none
  pcS    : Nat := 0
  pcE    : Nat := 0
  sStamp : Option Int := none
  eStamp : Option Int := none
  dead   : Bool := false
  stepped : Bool := false
  index  : Nat := 0
  series : Nat := 0
  used   : Nat := 0
  orders : Nat := 0
  deads  : BitVec 32 := 0
  min    : Int := 0
  max    : Int := 0
  sum    : Int := 0
  sumsq  : Nat := 0
  flags  : BitVec 5 := 0
  startIn : Byte := 0
  stopIn  : Byte := 0
  /-- Sync status at the stop stamp (R237). -/
  eSync   : Nat := 0
  /-- A measurement is armed or in progress; else the count at the stamp that closed the one before (R235). -/
  armed   : Bool := false
  closed  : Option Count := none
  /-- A dead-time edge came with no measurement in progress (R234). -/
  deadNext : Bool := false
  /-- Number of the last HW_MARK that gave an edge (Table 12.1). -/
  mark    : Option Nat := none
deriving DecidableEq, Repr

/-- One sample of an ACQUIRE: its word of Table 13.6, the start of its slot, and the sync status then. -/
structure Sample where
  word : Word
  time : Count
  sync : Nat := 0
deriving DecidableEq, Repr

/-- One ACQUIRE in flight, keyed by converter (MADC g: g; DADC n: 96 + n) (R253 to R259). -/
structure Acq where
  item    : Option Nat := none
  started : Bool := false
  armedX  : Bool := false
  /-- A TRIG_IN edge has reached capture. -/
  edge    : Bool := false
  samples : List Sample := []
  /-- The last sample before the record that does not carry RANGING (R255). -/
  prev    : Option Sample := none
  /-- The slot start of the last conversion, once there is one. -/
  tConv   : Option Count := none
  tTrig   : Count := 0
  off     : Nat := 0
  sync    : Nat := 0
  qty     : Nat := 0
  range   : Nat := 0
  /-- The input's next conversion is the record's, where a routine asks for one too (R227). -/
  turn    : Bool := false
  /-- The corrections latched at the item's dispatch, as Press keeps them (R340). -/
  gen     : Tab Int := []
deriving DecidableEq, Repr

/-- One DPS channel (chapter 15). Its set-point DAC is in dacs. -/
structure Dps where
  range   : Nat := 0
  leader  : Option Nat := none
  limit   : Nat := 1000000
  enabled : Bool := false
  /-- Set point in 2^-32 microvolts (the 32-bit fractional accumulator of R279). -/
  set     : Nat := 0
  discharging : Bool := false
  passive : Bool := true
  limitOn : Bool := false
  dropout : Bool := false
  ranging : Bool := false
  /-- The count at which the last range change ended (R282). -/
  tRange  : Option Count := none
  load    : Nat := 0
  /-- The output that the current manager has last read, in µV, while the limit or the headroom acts: a free value (R283). -/
  low     : Nat := 0
  group   : Option Nat := none
  sine    : Sine := {}
  /-- A strobe or CLR_N has come during the ramp of an item (Table 15.3). -/
  strobed : Bool := false
  /-- Where the set point is slewed to by a strobe, CLR_N or OPC_DISARM, in 2^-32 microvolts (R278). -/
  goal    : Option Nat := none
deriving DecidableEq, Repr

/-- A reservation of the package current manager for a channel being ramped (R285): its item, current in µA and
dissipation in pW; over counts the refreshes since the item became terminal. -/
structure Resv where
  slot : Nat
  chan : Nat
  amps : Nat
  power : Nat
  over_ : Nat := 0
deriving DecidableEq, Repr

/-- A lane group's configuration (R290 to R292). -/
structure LaneGrp where
  rate : Nat := 1
  fwd  : Bool := false
  cfg  : Word := 0x804#32
  /-- A relock has placed the configured rate below 2.0 Gbit/s, and the group has not been configured since (R291). -/
  low  : Bool := false
deriving DecidableEq, Repr

/-- A recognised class (R299). -/
structure LaneEv where
  time : Count
  cls  : Nat
  inv  : Bool
deriving DecidableEq, Repr

/-- One DUT lane (chapter 16). -/
structure Lane where
  item   : Option Nat := none
  /-- The item's first UI has come (R296). -/
  begun  : Bool := false
  tx     : Bool := false
  locked : Bool := false
  sync   : Bool := false
  synced : Bool := false
  inv    : Bool := false
  noLock : Bool := false
  noSync : Bool := false
  losses : Nat := 0
  bits   : Nat := 0
  errs   : Nat := 0
  resyncs : Nat := 0
  freq   : Int := 0
  tLock  : Count := 0
  tSync  : Count := 0
  tErr   : Count := 0
  everLock : Bool := false
  events : List LaneEv := []
  lost   : Nat := 0
  points : List Nat := []
  done   : Bool := false
  /-- Count of the first UI (Table 16.6). -/
  tStart : Count := 0
  /-- The class last recognised (R299). -/
  seen   : Option Nat := none
  /-- The receiver recovers a clock, with a LANE item or without (R293, R303). -/
  rx     : Bool := false
deriving DecidableEq, Repr

/-- A read word of a result queue with its VALID (R264, R265). -/
structure QWord where
  bytes : List Byte
  valid : Nat
deriving DecidableEq, Repr

/-- A result queue (R261 to R267): words holds the complete words from REL on, part the bytes of the partial word. -/
structure Queue where
  words : List QWord := []
  part  : List Byte := []
  wr    : BitVec 17 := 0
  rd    : BitVec 17 := 0
  mark  : BitVec 17 := 0
  rel   : BitVec 17 := 0
  overrun : Bool := false
  dropped : BitVec 32 := 0
  /-- Bytes that wait in the staging buffer of each writer, by its tag, and the Headwater count to which the write side
  has taken from them (R263). -/
  staged  : Tab Nat := []
  stagedAt : Count := 0
deriving DecidableEq, Repr

/-- Where a DMA channel stands (R268 to R274). -/
inductive DPhase where
  | idle | fetching | moving | writeback | stopping
deriving DecidableEq, Repr

/-- A DMA channel. -/
structure Dma where
  item   : Option Nat := none
  phase  : DPhase := .idle
  start  : Bool := false
  addr   : Nat := 0
  ctrl   : Word := 0
  src    : BitVec 64 := 0
  dst    : BitVec 64 := 0
  next   : BitVec 64 := 0
  /-- DMAn_COUNT, the bytes to move, and COUNT as the descriptor holds it. -/
  count  : Nat := 0
  total  : Nat := 0
  size   : Nat := 0
  /-- Bytes asked for so far, and read bursts outstanding: offset and bytes. -/
  asked  : Nat := 0
  reads  : List (Nat × Nat) := []
  /-- Write beats, or packets of them, outstanding: offset and bytes. -/
  beats  : List (Nat × Nat) := []
  done   : Nat := 0
  status : Byte := 0
  failed : Bool := false
  lastValid : Nat := 0
  drained : Bool := false
  /-- A queue-source descriptor outside the bounds of R269. -/
  bad    : Bool := false
  /-- Write beats gathered for the next MEM_WR packet, and the offset of their first byte (R270). -/
  gather : List Byte := []
  gatherAt : Nat := 0
deriving DecidableEq, Repr

/-- Port states (Table 17.1). -/
inductive PortSt where
  | down | training | up | degraded | bypassed
deriving DecidableEq, Repr

/-- A Trellis port (R307 to R316). -/
structure PortState where
  st      : PortSt := .bypassed
  lanes   : BitVec 4 := 0
  full    : Bool := false
  retries : BitVec 32 := 0
  nbAddr  : BitVec 11 := 0
  nbM     : BitVec 28 := 0
  nbLanes : BitVec 4 := 0
  nbFull  : Bool := false
  nbKnown : Bool := false
  drop    : Option Nat := none
  /-- The lane set of the last training that succeeded; zero before the first (R378). -/
  lastLanes : BitVec 4 := 0
  byHost  : Bool := false
  txSeq   : BitVec 12 := 0
  rxSeq   : BitVec 12 := 0
  /-- NAKs received for one LSEQ, and that LSEQ (R314). -/
  naks    : Nat := 0
  nakSeq  : BitVec 12 := 0
  nakDue  : Bool := false
  ackDue  : Bool := false
  /-- Packets sent and not acknowledged, each with the port it came by (4: this node's own), the packet as it was held and
  as it was sent. -/
  replay  : List (Nat × Packet × Packet) := []
  /-- Packets held for this port: the input buffer each stands in (2 × input port + DL; 8 for local injection; 16 more
  where that buffer is already free). A packet that came by a port holds the LSEQ it came with until it is sent; bit 15
  of that field is set where the port has since begun anew with another neighbour. -/
  waiting : List (Nat × Packet) := []
  /-- The virtual channel and, per channel, the input that had the last turn (R316). -/
  vcTurn  : Nat := 3
  inTurn  : Tab Nat := []
  /-- The last link-control packet (LINK or TRAIN) the port has sent (R315). -/
  lastCtl : Option Packet := none
  /-- Flits freed in the input buffer of VC v, DL d (key 2v + d), and the neighbour's counts (R316). -/
  freed   : Tab Byte := []
  credit  : Tab Byte := []
  used    : Tab Byte := []
  /-- The credit counts last sent, which a Ford drain keeps (R326). -/
  shown   : Tab Byte := []
  /-- Broadcast requests that came by this port and wait for room in their mailbox's ring, oldest first (R321). -/
  ingress : List Packet := []
  /-- The neighbour is another one than at the last training. -/
  fresh   : Bool := false
  xT1     : Option Count := none
  /-- TAG of the time exchange that is outstanding (R322, R331). -/
  xTag    : Option (BitVec 16) := none
  /-- Sums of the exchanges of OPC_SYNC_MEASURE, in half LSB: done, sum, least, greatest offset, sum of delays. -/
  xDone   : Nat := 0
  xSum    : Int := 0
  xMin    : Int := 0
  xMax    : Int := 0
  xDelay  : Int := 0
deriving DecidableEq, Repr

/-- An outstanding request of this node (R322): TAG, class, address, and what it is for (a DMA channel, a burst slot or
none). -/
structure Outst where
  tag  : BitVec 16
  cls  : Byte
  addr : Nat
  dma  : Option Nat := none
  slot : Option Nat := none
  /-- This node has found its destination unreachable: it is answered with STATUS 3 (R320). -/
  dead : Bool := false
deriving DecidableEq, Repr

/-- A mailbox message sent and not yet acknowledged end to end (R323): the mailbox whose response ring still holds it (4:
none), and whether the link and the receiver have acknowledged it. -/
structure Copy where
  pkt   : Packet
  mb    : Nat := 4
  acked : Bool := false
  got   : Bool := false
deriving DecidableEq, Repr

/-- OPC_BOOT_SERVE in progress (R329). -/
structure Serve where
  port : Port
  addr : Nat
  len  : Nat
  to_  : Option (BitVec 16) := none
deriving DecidableEq, Repr

/-- The fabric side of the device (chapter 17). -/
structure Fabric where
  ports  : Tab PortState := []
  outst  : List Outst := []
  copies : List Copy := []
  /-- TAGs of the last 256 messages taken from each SRC (R323). -/
  taken  : Tab (List (BitVec 16)) := []
  nextTag : BitVec 16 := 0
  serve  : Option Serve := none
  measMask : BitVec 4 := 0
  measN  : Nat := 0
  lastReg : List Word := []
  /-- The DMA channel that the read engine asks first (R270); at reset channel 0 (log 143). -/
  dmaTurn : Nat := 0
deriving DecidableEq, Repr

/-- Press (chapter 18). -/
structure Press where
  item   : Option Nat := none
  left   : List Nat := []
  /-- Corrections staged: class, index within the class (see Press.lean), value (R336). -/
  staged : List (Nat × Nat × Int) := []
  /-- Temperature of the unit at the dispatch, and its diodes' readings with their source (R341, R343). -/
  temp   : Int := 0
  temps  : List (Int × Bool) := []
  /-- Corrections of the converters, senses and lanes, by class and index: class × 2^24 + index (Table 18.1). -/
  gen    : Tab Int := []
deriving DecidableEq, Repr

/-- Housekeeping, temperatures and throttling (R341 to R347). -/
structure House where
  temp   : Tab Word := []
  rail   : Tab Word := []
  ref0   : Word := 0
  ref1   : Word := 0
  slot   : Nat := 0
  round  : Byte := 0
  /-- Slots of all rounds so far (R342, R343). -/
  slots  : Nat := 0
  subst  : Bool := false
  /-- Consecutive rounds the reference has read within 0.1 % since its CONTAINED event; none when no rule waits. -/
  refWait : Option Nat := none
  level  : Nat := 0
  window : Bool := false
deriving DecidableEq, Repr

/-- An event record (Table 19.5). -/
structure EvRec where
  index  : BitVec 16 := 0
  cls    : Nat := 0
  base   : Nat := 0
  det    : BitVec 16 := 0
  region : BitVec 16 := 0
  time   : Count := 0
  flags  : BitVec 16 := 0
  link   : BitVec 16 := 0
  detail : Word := 0
  ns     : Nat := 0
  repeats : BitVec 32 := 0
deriving DecidableEq, Repr

/-- An open reaction shadow (R356): its originating record, its region (none: every region), and whether that record was
written: that of a lost event (R361) has the index the next record takes, but names no record. -/
structure Shadow where
  index  : BitVec 16
  region : Option (BitVec 16)
  logged : Bool := true
deriving DecidableEq, Repr

/-- A latched detector instance (R354). -/
structure Latch where
  det    : BitVec 16
  region : BitVec 16
  index  : BitVec 16
deriving DecidableEq, Repr

/-- A running injection (R360). -/
structure Inject where
  det    : BitVec 16
  raw    : Bool := false
deriving DecidableEq, Repr

/-- Levee (chapter 19). -/
structure Levee where
  log     : Tab EvRec := []
  head    : BitVec 16 := 0
  ackTo   : BitVec 16 := 0
  lost    : BitVec 16 := 0
  ovf     : Bool := false
  ctrl    : Word := 0x1F#32
  cellarOk : Bool := true
  shadows : List Shadow := []
  latches : List Latch := []
  inject  : Option Inject := none
  /-- A CONTAINED event of region THERMAL that found no room in the log: its reaction runs (R361). -/
  thermLost : Bool := false
  poison  : List Nat := []
  dogRun  : Bool := false
  dogBoot : Bool := false
  dogSvc  : Bool := false
deriving DecidableEq, Repr

/-- OPC_SERVICE_BEGIN in progress (R369 to R373). -/
structure Service where
  busy   : Bool := false
  addr   : Nat := 0
  len    : Nat := 0
  version : Word := 0
  notices : List (Nat × Msg) := []
  ford   : Bool := false
deriving DecidableEq, Repr

/-- A schedule ID (R115, R129): content in force, and the address, length and SEG_COUNT of the image being checked or of
the one whose check failed. -/
structure Sched where
  st    : Store := .empty
  addr  : Nat := 0
  image : List Byte := []
  check : Option (Nat × Nat × Nat) := none
deriving DecidableEq, Repr

/-- A TRIG_IN input: its function (Table 6.12) and its state under R203. -/
structure Trig where
  fn    : Nat := 0
  pebs  : BitVec 12 := 0
  cond  : Nat := 0
  mon   : Wmon := { hold := 0, st := some false, rep := some false }
deriving DecidableEq, Repr

/-- Configuration held by Spabry. -/
structure Cfg where
  trig     : Tab Trig := []
  drift    : Nat := 32
  throttle : Nat := 2000
  auto     : Bool := true
  scheds   : Tab Sched := []
  /-- Page number to local byte offset of a page held locally (R148). 0 is offset 0: entries are offset + 1. -/
  homes    : Tab Nat := []
deriving DecidableEq, Repr

/-- The management port (R381 to R388). -/
structure Msp where
  contention : Bool := false
  badAddr    : Bool := false
  badOp      : Bool := false
  overclock  : Bool := false
  frame      : Bool := false
  underrun   : Bool := false
  mdone      : Bool := false
  merr       : Nat := 0
  holdCs     : Bool := false
  mode3      : Bool := false
  cs         : Nat := 0
  len        : Nat := 0x1F
  div        : Nat := 4
  unit       : Bool := false
  selHeld    : Bool := false
  mtx        : Word := 0
  mrx        : Word := 0
  /-- The status word that the last frame's header shifted out on MSP_SDO (R383). -/
  header     : Word := 0
  /-- The data words the last frame shifted out on MSP_SDO (R383, R385). -/
  out        : List Word := []
  /-- The bits that the last whole master unit shifted out on MSP_SDO (R387). -/
  sent       : Word := 0
deriving DecidableEq, Repr

/-- The JTAG TAP (R393 to R395). -/
structure Jtag where
  ir      : Byte := 2
  data    : Word := 0
  done    : Bool := false
  badAddr : Bool := false
  cells   : List Bool := []
deriving DecidableEq, Repr

/-- Local memory (R409): bytes by local address, unlisted bytes read zero. -/
structure Mem where
  bytes   : List Host.Cell := []
  avail   : Bool := false
  /-- In self-refresh, as SAFE puts it once the ends of its items are recorded (R351). -/
  selfRef : Bool := false
  mib     : Nat := 0
  written : Tab Bool := []
deriving DecidableEq, Repr

end Sys2Proof.Machine

namespace Sys2Proof.Machine

/-- The machine. -/
structure State where
  pending : List Instr := []
  power   : Power := {}
  dev     : Dev := {}
  units   : Tab UnitSt := []
  clock   : Clock := {}
  hw      : Headwater := {}
  boot    : Boot := {}
  mbs     : Tab Mailbox := []
  rr      : Nat := 0
  ledger  : Tab Slot := []
  order   : Nat := 0
  cfg     : Cfg := {}
  dacs    : Tab Dac := []
  corrs   : Tab Corr := []
  chans   : Tab Chan := []
  pebs    : Tab Peb := []
  bursts  : Tab Burst := []
  seqs    : Tab Seq := []
  tdcs    : Tab Tdc := []
  tdcW    : Tab Int := []
  tdcLat  : Tab Int := []
  acqs    : Tab Acq := []
  dps     : Tab Dps := []
  resvs   : List Resv := []
  lgs     : Tab LaneGrp := []
  lanes   : Tab Lane := []
  queues  : Tab Queue := []
  dmas    : Tab Dma := []
  bufFree : Nat := 256
  fabric  : Fabric := {}
  press   : Press := {}
  house   : House := {}
  levee   : Levee := {}
  svc     : Service := {}
  mem     : Mem := {}
  msp     : Msp := {}
  jtag    : Jtag := {}
  free    : Nat := 0
deriving DecidableEq, Repr

/-- The machine in power-on reset, which POWER_ON_RESET_RELEASE ends (R29, R67): every register at its Reset column,
the ledger clear, only PD0 and PD3 on, the Ford closed; the values no rule gives are those of logs 1 to 10. -/
def State.reset : State := {}

end Sys2Proof.Machine
end

