-- ==== Sys2Proof/Machine/Tab.lean ====
section
/-! DEFINITION. Sparse tables: lookup and canonical update. -/

namespace Sys2Proof.Machine

/-- The entry of table t at k, d where none is listed. -/
def tget {α : Type} (d : α) : Tab α → Nat → α
  | [], _ => d
  | (k, v) :: t, i => if i = k then v else tget d t i

/-- Removes the entry at i. -/
def tdel {α : Type} : Tab α → Nat → Tab α
  | [], _ => []
  | (k, v) :: t, i => if i = k then t else (k, v) :: tdel t i

/-- Puts v at i, keeping the keys rising. -/
def tput {α : Type} : Tab α → Nat → α → Tab α
  | [], i, v => [(i, v)]
  | (k, w) :: t, i, v =>
    if i = k then (i, v) :: t
    else if i < k then (i, v) :: (k, w) :: t
    else (k, w) :: tput t i v

/-- The table with v at i, canonical: a value equal to the default d is not listed. -/
def tset {α : Type} [DecidableEq α] (d : α) (t : Tab α) (i : Nat) (v : α) : Tab α :=
  if v = d then tdel t i else tput t i v

/-- tset of f of the present entry. -/
def tmod {α : Type} [DecidableEq α] (d : α) (t : Tab α) (i : Nat) (f : α → α) : Tab α :=
  tset d t i (f (tget d t i))

/-- The canonical form: keys above lo strictly rise and no entry equals d. -/
def TabWfFrom {α : Type} (d : α) : Nat → Tab α → Prop
  | _, [] => True
  | lo, (k, v) :: t => lo ≤ k ∧ v ≠ d ∧ TabWfFrom d (k + 1) t

/-- The canonical form of a table. -/
def TabWf {α : Type} (d : α) (t : Tab α) : Prop := TabWfFrom d 0 t

/-- Is there an entry that p holds of? -/
def tany {α : Type} (t : Tab α) (p : Nat → α → Bool) : Bool := t.any fun e => p e.1 e.2

/-- The keys whose entry p holds of, rising. -/
def tkeys {α : Type} (t : Tab α) (p : Nat → α → Bool) : List Nat :=
  (t.filter fun e => p e.1 e.2).map Prod.fst

/-- f on the entries of the keys in ks, in order. -/
def tmods {α : Type} [DecidableEq α] (d : α) (t : Tab α) (ks : List Nat) (f : Nat → α → α) : Tab α :=
  ks.foldl (fun t k => tmod d t k (f k)) t

end Sys2Proof.Machine
end

