-- ==== Sys2Proof/Machine/Route.lean ====
section
/-! DEFINITION. Trellis packets, routing, and the output side of the four ports (R305, R312 to R321). -/

namespace Sys2Proof.Machine

/-- The port's number, WEST to SOUTH as in Table 6.7. -/
def portIx : Port → Nat
  | .west => 0
  | .east => 1
  | .north => 2
  | .south => 3

/-- A port and its place in the table. -/
def portOf (s : State) (p : Nat) : PortState := tget {} s.fabric.ports p

/-- s with the port changed. -/
def modPort (s : State) (p : Nat) (f : PortState → PortState) : State :=
  { s with fabric := { s.fabric with ports := tmod {} s.fabric.ports p f } }

/-- The opposite port of the same ring. -/
def opposite (p : Nat) : Nat := if p < 2 then 1 - p else 5 - p

/-- Row and column of a node address (R305). -/
def rowOf (a : Nat) : Nat := a / 64 % 32
def colOf (a : Nat) : Nat := a % 64

/-- The device's own address (R24). -/
def ownAddr (s : State) : Nat := s.power.node.toNat

/-- VC of a class (Tables 17.3 and 17.4). -/
def vcOf (cls : Nat) : Nat :=
  if cls = 0x30 ∨ cls = 0x31 ∨ cls = 0x32 then 1
  else if cls = 0x20 ∨ cls = 0x21 ∨ cls = 0x22 ∨ cls = 0x23 ∨ cls = 0x52 then 2
  else if cls = 0x40 then 3 else 0

/-- Is a class code in Table 17.3? -/
def classKnown (cls : Nat) : Bool :=
  [0x01, 0x02, 0x03, 0x10, 0x11, 0x12, 0x20, 0x21, 0x22, 0x23, 0x30, 0x31, 0x32, 0x40, 0x50, 0x51, 0x52, 0x53,
    0x7E, 0x7F].contains cls

/-- Header bytes with a given CRC field, then the data (Table 17.2). -/
def packetBytes (p : Packet) (crc : BitVec 32) : List Byte :=
  [p.cls, p.route] ++ le 2 p.dest.toNat ++ le 2 p.src.toNat ++ [BitVec.ofNat 8 (p.data.length / 32), p.status]
    ++ le 8 p.arg0.toNat ++ le 8 p.arg1.toNat ++ le 2 p.lseq.toNat ++ le 2 p.tag.toNat ++ le 4 crc.toNat ++ p.data

/-- The CRC of a packet, taken with its CRC field zero (R313). -/
def packetCrc (p : Packet) : BitVec 32 := crc32c (packetBytes p 0)

/-- A packet with its CRC. -/
def withCrc (p : Packet) : Packet := { p with crc := packetCrc p }

/-- A packet this node makes: class, destination, STATUS, ARG0, ARG1, TAG and data. ROUTE holds the class's VC. -/
def mkPacket (s : State) (cls dest status arg0 arg1 tag : Nat) (data : List Byte) : Packet :=
  { cls := BitVec.ofNat 8 cls, route := BitVec.ofNat 8 (vcOf cls), dest := BitVec.ofNat 16 dest,
    src := BitVec.ofNat 16 (ownAddr s), status := BitVec.ofNat 8 status, arg0 := BitVec.ofNat 64 arg0,
    arg1 := BitVec.ofNat 64 arg1, lseq := 0, tag := BitVec.ofNat 16 tag, crc := 0, data := data }

/-- Flits of a packet, its header included (R312). -/
def flitsOf (p : Packet) : Nat := 1 + p.data.length / 32

/-- VC, DL and TURNED of ROUTE (Table 17.2). -/
def pktVc (p : Packet) : Nat := p.route.toNat % 4
def pktDl (p : Packet) : Nat := b2n (p.route.getLsbD 2)
def pktTurned (p : Packet) : Bool := p.route.getLsbD 4
def setDl (p : Packet) (b : Bool) : Packet := { p with route := putBit p.route 2 b }
def setTurned (p : Packet) (b : Bool) : Packet := { p with route := putBit p.route 4 b }

/-- The port a packet for DEST leaves by before any turning; none at DEST itself (R318). -/
def direction (own dest : Nat) : Option Nat :=
  if rowOf dest ≠ rowOf own then
    some (if (rowOf dest + 32 - rowOf own) % 32 ≤ 16 then 3 else 2)
  else if colOf dest ≠ colOf own then
    some (if (colOf dest + 64 - colOf own) % 64 ≤ 32 then 1 else 0)
  else none

/-- Does the hop from own by port p to neighbour nb cross the dateline (R319)? -/
def crossesDateline (own nb p : Nat) : Bool :=
  match p with
  | 0 => colOf own < colOf nb
  | 1 => colOf nb < colOf own
  | 2 => rowOf own < rowOf nb
  | _ => rowOf nb < rowOf own

/-- Steps from a to b in the direction of port p. -/
def ringSteps (p a b : Nat) : Nat :=
  match p with
  | 0 => (colOf a + 64 - colOf b) % 64
  | 1 => (colOf b + 64 - colOf a) % 64
  | 2 => (rowOf a + 32 - rowOf b) % 32
  | _ => (rowOf b + 32 - rowOf a) % 32

/-- Does DEST's row or column lie strictly between the node and the neighbour learned on port p (R320)? -/
def skipped (s : State) (p dest : Nat) : Bool :=
  let q := portOf s p
  q.nbKnown && 0 < ringSteps p (ownAddr s) dest
    && ringSteps p (ownAddr s) dest < (if ringSteps p (ownAddr s) q.nbAddr.toNat = 0
      then (if p < 2 then 64 else 32) else ringSteps p (ownAddr s) q.nbAddr.toNat)

/-- Is the port carrying packets? -/
def portUp (q : PortState) : Bool := q.st = .up || q.st = .degraded

/-- Flits per buffer of a VC (Table 17.4). -/
def bufferFlits (vc : Nat) : Nat := if vc = 1 then 8 else if vc = 2 then 130 else 64

/-- A packet as it leaves by a port: a hop that crosses the dateline sets DL (R319). The neighbour is the one that the port
has when the packet leaves. -/
def asLeaves (s : State) (p : Nat) (pkt : Packet) : Packet :=
  if (portOf s p).nbKnown && crossesDateline (ownAddr s) (portOf s p).nbAddr.toNat p then setDl pkt true else pkt

/-- Does the credit of the port's neighbour cover the packet, and the replay buffer have room (R314, R316)? -/
def sendable (q : PortState) (p : Packet) : Bool :=
  let k := 2 * pktVc p + pktDl p
  let outst := (tget (0 : Byte) q.used k - tget (0 : Byte) q.credit k).toNat
  portUp q && outst + flitsOf p ≤ bufferFlits (pktVc p)
    && (q.replay.foldl (fun n r => n + flitsOf r.2.2) 0) + flitsOf p ≤ 512

/-- The first held packet of a VC and an input that can go; out gives a packet as it leaves. -/
def pickInput (q : PortState) (out : Packet → Packet) (vc input : Nat) : Option (Nat × Packet) :=
  match q.waiting.find? fun e => pktVc e.2 = vc ∧ e.1 % 16 / 2 = input with
  | some e => if sendable q (out e.2) then some e else none
  | none => none

/-- The next packet of a VC: the inputs in turn after the last one served (R316). -/
def pickVc (q : PortState) (out : Packet → Packet) (vc : Nat) : Option (Nat × Packet) :=
  let last := tget 4 q.inTurn vc
  ([1, 2, 3, 4, 5].map fun d => pickInput q out vc ((last + d) % 5)).findSome? id

/-- The next packet of an output port: the time VC, then the others in turn (R316). -/
def pickNext (q : PortState) (out : Packet → Packet) : Option (Nat × Packet) :=
  match pickVc q out 1 with
  | some e => some e
  | none =>
    let order := if q.vcTurn = 0 then [2, 3, 0] else if q.vcTurn = 2 then [3, 0, 2] else [0, 2, 3]
    (order.map (pickVc q out)).findSome? id

/-! The timing clock between two HWREF edges (R50): M_NOW/4 cycles, of which cycle k ends offset 2^-22 cycles after the
HWREF edge. -/

/-- Cycles from the last HWREF edge to the k-th timing-clock edge since, in 2^-22. -/
def cycleOffset (s : State) (k : Nat) : Nat := k * 2 ^ 22 + (-s.hw.phase).toNat

/-- Does the k-th edge come before the next HWREF edge? -/
def cycleComes (s : State) (k : Nat) : Bool := cycleOffset s k < s.clock.mNow.toNat

/-- The advance of the count in n 2^-22 cycles, in 2^-32 LSB: 256 × M_LOCK/M in a cycle. -/
def cycleLsb (s : State) (n : Nat) : Nat := n * 2 ^ 18 * s.clock.mLock.toNat / s.clock.mNow.toNat

/-- The Headwater count at the k-th timing-clock edge since the last HWREF edge; zero while it is not running. -/
def countAt (s : State) (k : Nat) : Count :=
  if s.hw.running then
    s.hw.count + BitVec.ofNat 64 ((s.hw.frac.toNat + cycleLsb s (cycleOffset s k)) / 2 ^ 32)
  else 0

/-- The stamp of a packet whose header leaves at the k-th timing-clock edge, the transmitter's latency removed (R331). -/
def leaveStamp (s : State) (k : Nat) : Count :=
  if s.hw.running then countAt s k - BitVec.ofNat 64 Config.txLatency else 0

/-- The port writes t1 into a TIME_XCHG that leaves (R331). -/
def stampXchg (s : State) (pkt : Packet) : Packet :=
  if pkt.cls = 0x30#8 then { pkt with arg0 := leaveStamp s 0 } else pkt

/-- Does a packet that came by port p with an LSEQ still stand in its input buffer? -/
def stands (s : State) (p : Nat) (l : BitVec 16) : Bool :=
  ((List.range 4).any fun o => (portOf s o).waiting.any fun e => e.1 < 8 && e.1 / 2 = p && e.2.lseq = l)
    || (portOf s p).ingress.any fun k => k.lseq = l

/-- Frees the input buffer (2 × port + DL) that a packet stood in, once nothing of it is left there (R316). -/
def freeInput (s : State) (input : Nat) (pkt : Packet) : State :=
  if input < 8 ∧ ¬ stands s (input / 2) pkt.lseq then
    modPort s (input / 2) fun q => { q with
      freed := tmod 0 q.freed (2 * pktVc pkt + input % 2) (· + BitVec.ofNat 8 (flitsOf pkt)), ackDue := true }
  else s

/-- Sends one packet: LSEQ and CRC are set, and the packet stays in the replay buffer (R313, R314). The input buffer
it stood in is freed. -/
def sendOne (s : State) (p : Nat) (e : Nat × Packet) : State :=
  let q := portOf s p
  let h := asLeaves s p e.2
  let k := 2 * pktVc h + pktDl h
  let pkt := withCrc { stampXchg s h with lseq := q.txSeq.setWidth 16 }
  let s := modPort s p fun q => { q with
    waiting := q.waiting.erase e, replay := q.replay ++ [(e.1 % 16 / 2, e.2, pkt)], txSeq := q.txSeq + 1,
    used := tmod 0 q.used k (· + BitVec.ofNat 8 (flitsOf e.2)),
    vcTurn := if pktVc e.2 = 1 then q.vcTurn else pktVc e.2,
    inTurn := tset 4 q.inTurn (pktVc e.2) (e.1 % 16 / 2)
    xT1 := if pkt.cls = 0x30#8 then some pkt.arg0 else q.xT1 }
  freeInput s e.1 e.2

/-- Sends what the port can send, at most n packets. -/
def pumpPort : Nat → State → Nat → State
  | 0, s, _ => s
  | n + 1, s, p =>
    match pickNext (portOf s p) (asLeaves s p) with
    | some e => pumpPort n (sendOne s p e) p
    | none => s

/-- Puts a packet among those held for port p and sends what can go. -/
def holdFor (s : State) (p input : Nat) (pkt : Packet) : State :=
  let s := modPort s p fun q => { q with waiting := q.waiting ++ [(input, pkt)] }
  pumpPort ((portOf s p).waiting.length) s p

/-- Is the class a request, which is answered by an answer packet (Table 17.3)? Gives the answer's class. -/
def answerClass (cls : Nat) : Option Nat :=
  if cls = 0x01 ∨ cls = 0x02 then some 0x03
  else if cls = 0x10 ∨ cls = 0x11 then some 0x12
  else if cls = 0x20 then some 0x21
  else if cls = 0x22 then some 0x23
  else none

/-- Where a packet goes from this node: the port and the packet as it is held for it, or unreachable (R318 to R320). -/
def chooseOut (s : State) (pkt : Packet) : Option (Nat × Packet) :=
  match direction (ownAddr s) (pkt.dest.toNat % 2048) with
  | none => none
  | some d =>
    let p := if pktTurned pkt then opposite d else d
    let go (p : Nat) (pkt : Packet) : Option (Nat × Packet) :=
      if skipped s p (pkt.dest.toNat % 2048) then none else some (p, pkt)
    let downNow (p : Nat) : Bool := (portOf s p).st = .down || (portOf s p).st = .bypassed
    if skipped s p (pkt.dest.toNat % 2048) then none
    else if downNow p then
      if pktTurned pkt || downNow (opposite p) then none
      else go (opposite p) (setDl (setTurned pkt true) false)
    else go p pkt

/-- A packet that enters its row ring clears DL, and TURNED, which holds within one ring (R318, R319; log 19). -/
def enterRing (s : State) (input : Nat) (pkt : Packet) : Packet :=
  match direction (ownAddr s) (pkt.dest.toNat % 2048) with
  | some d => if d < 2 ∧ ¬ (input / 2 < 2) then setTurned (setDl pkt false) false else pkt
  | none => pkt

/-- Sends a packet from this node without answering for an unreachable destination: it is discarded there (R320). -/
def sendPlain (s : State) (input : Nat) (pkt : Packet) : State :=
  match chooseOut s (enterRing s input pkt) with
  | some (p, pkt') => holdFor s p input pkt'
  | none => freeInput s input pkt

/-- The answer STATUS 3 (MBOX_ACK: 2) this node gives for a request it cannot route (R320, R323). -/
def unreachableAnswer (s : State) (pkt : Packet) (ans : Nat) : Packet :=
  mkPacket s ans pkt.src.toNat (if ans = 0x12 then 2 else 3) pkt.arg0.toNat pkt.arg1.toNat pkt.tag.toNat
    (if pkt.cls = 0x01#8 then zeros 32 else [])

/-- A request or message of this node's own is answered UNREACHABLE inside it, and none of its packets leaves (R320): the
request has met STATUS 3, the message needs no copy any more (R323). -/
def ownUnreachable (s : State) (pkt : Packet) : State :=
  { s with fabric := { s.fabric with
    outst := s.fabric.outst.map fun o => if o.tag = pkt.tag && o.cls = pkt.cls then { o with dead := true } else o
    copies := s.fabric.copies.map fun c =>
      if pkt.cls = 0x11#8 && c.pkt.tag = pkt.tag then { c with acked := true, got := true } else c } }

/-- A packet that this node cannot send on ends here: a request is answered UNREACHABLE, any other is discarded (R320). -/
def endHere (s : State) (input : Nat) (pkt : Packet) : State :=
  let s := freeInput s input pkt
  if input % 16 = 8 then ownUnreachable s pkt
  else
    match answerClass pkt.cls.toNat with
    | some ans => sendPlain s 8 (unreachableAnswer s pkt ans)
    | none => s

/-- Sends a packet in the ring it is in. -/
def sendInRing (s : State) (input : Nat) (pkt : Packet) : State :=
  match chooseOut s pkt with
  | some (p, pkt') => holdFor s p input pkt'
  | none => endHere s input pkt

/-- Sends a packet that came by input (2 × port + DL; 8: local injection), or answers UNREACHABLE for it (R320). -/
def sendPacket (s : State) (input : Nat) (pkt : Packet) : State := sendInRing s input (enterRing s input pkt)

/-- The packets a node makes for one port, and broadcast copies, which are never turned (R321, R328, R331). -/
def portBound (pkt : Packet) : Bool := pkt.cls = 0x40#8 || pktVc pkt = 1 || pkt.cls = 0x50#8

/-- The port is DOWN: the packets held for it are turned, or, turned already, end there (R320). -/
def reroute (s : State) (p : Nat) : State :=
  let es := (portOf s p).waiting
  es.foldl (fun s e => if portBound e.2 then freeInput s e.1 e.2 else sendInRing s e.1 e.2)
    (modPort s p fun q => { q with waiting := [] })

/-- Can a packet of this node reach a port at all? -/
def routable (s : State) (pkt : Packet) : Bool := (chooseOut s pkt).isSome

/-- A broadcast copy on one port (R321); broadcast copies are never turned and wait on no DOWN port. -/
def sendCopy (s : State) (p input : Nat) (pkt : Packet) : State :=
  let q := portOf s p
  if q.st = .down || q.st = .bypassed then s
  else
    holdFor s p input pkt

/-- Does the copy go on by port p: is the neighbour short of the origin (R321)? -/
def copyGoesOn (s : State) (p origin : Nat) : Bool :=
  let q := portOf s p
  let nb := ringSteps p (ownAddr s) q.nbAddr.toNat
  let org := ringSteps p (ownAddr s) origin
  q.nbKnown && (org = 0 || nb < org) && nb ≠ 0

/-- Is a copy given to a port? While the port is TRAINING the neighbour it will have decides, and the copy is held
(R320, R321). -/
def copyOffered (s : State) (p origin : Nat) : Bool := (portOf s p).st = .training || copyGoesOn s p origin

/-- A port has trained: what was held for it is judged against the neighbour it has now, a broadcast copy under R321,
another packet under R320. -/
def judgeHeld (s : State) (p : Nat) : State :=
  let es := (portOf s p).waiting
  let stops (e : Nat × Packet) : Bool :=
    if e.2.route.getLsbD 3 then ! copyGoesOn s p (e.2.src.toNat % 2048)
    else ! portBound e.2 && skipped s p (e.2.dest.toNat % 2048)
  (es.filter stops).foldl
    (fun s e => if e.2.route.getLsbD 3 then freeInput s e.1 e.2 else endHere s e.1 e.2)
    (modPort s p fun q => { q with waiting := es.filter fun e => ! stops e })

/-- The copies that leave a node: a PHASE 0 copy EAST and a PHASE 1 copy SOUTH (R321). The origin sends both. -/
def sendBroadcast (s : State) (input phase : Nat) (pkt : Packet) : State :=
  let origin := pkt.src.toNat % 2048
  let east := { pkt with route := putBit (putBit pkt.route 3 true) 5 false }
  let south := { pkt with route := putBit (putBit pkt.route 3 true) 5 true }
  let s := if phase = 0 ∧ copyOffered s 1 origin then sendCopy s 1 input east else s
  if copyOffered s 3 origin then sendCopy s 3 input (if phase = 0 then setDl south false else south) else s

/-- Is a TAG unused among the device's own outstanding requests, time exchanges and messages (R322)? -/
def tagFree (s : State) (t : BitVec 16) : Bool :=
  ! s.fabric.outst.any (·.tag = t) && ! s.fabric.copies.any (·.pkt.tag = t)
    && ! (List.range 4).any fun p => (portOf s p).xTag = some t

/-- The first unused TAG from t on, at most n passed over. -/
def tagFrom (s : State) : Nat → BitVec 16 → BitVec 16
  | 0, t => t
  | n + 1, t => if tagFree s t then t else tagFrom s n (t + 1)

/-- A TAG unique among the device's own outstanding requests (R322). -/
def freshTag (s : State) : BitVec 16 := tagFrom s 65535 s.fabric.nextTag

end Sys2Proof.Machine
end

