-- ==== Sys2Proof/Machine/Ops.lean ====
section
/-! DEFINITION. The operations every family shares: timestamps, local memory, mailbox rings and notices, unit states,
the device mode, and the ledger. -/

namespace Sys2Proof.Machine

/-- What a meaning answers. -/
abbrev Out := Host.Outcome State Fault Refusal

/-- The Headwater count as a timestamp: zero while it is not running (R50, R90). -/
def stamp (s : State) : Count := if s.hw.running then s.hw.count else 0

/-- The sync status at an instant of the recent past (R258). -/
def statusAt (s : State) (c : Count) : SyncStatus :=
  if s.hw.running ∧ ¬ countPast c s.hw.statAt then s.hw.statWas else s.hw.status

/-- Is the device held in a reset? -/
def inReset (s : State) : Bool := s.power.porHeld || s.power.warmHeld

/-- Encodings of Tables 4.1, 3.3, 4.3 (R114), 5.7 and 5.8. -/
def modeCode : Mode → Nat
  | .off => 0 | .boot => 1 | .loaded => 2 | .calibrate => 3 | .idle => 4 | .armed => 5 | .run => 6 | .pause => 7
  | .service => 8 | .diagnostic => 9 | .safe => 10 | .bypass => 11
def syncCode : SyncStatus → Nat
  | .free => 0 | .acquiring => 1 | .synced => 2 | .coast => 3
def ustateCode : UState → Nat
  | .active => 0 | .quiescing => 1 | .offline => 2 | .maintenance => 3
def kindCode : Kind → Nat
  | .burst => 0 | .measure => 1 | .tdc => 2 | .acquire => 3 | .transfer => 4 | .cal => 5 | .levels => 6 | .dps => 7
  | .lane => 8
def kindOf : Nat → Option Kind
  | 0 => some .burst | 1 => some .measure | 2 => some .tdc | 3 => some .acquire | 4 => some .transfer
  | 5 => some .cal | 6 => some .levels | 7 => some .dps | 8 => some .lane | _ => none
def istateCode : IState → Nat
  | .free => 0 | .queued => 1 | .inFlight => 2 | .held => 3 | .complete => 4 | .failed => 5

/-- A free value of w bits for a value the spec leaves open, and the state with its counter advanced (log 13). -/
def takeFree (s : State) (bound : Nat) : Nat × State :=
  (Config.freeValue s.free % bound, { s with free := s.free + 1 })

/-! Local memory (R148, R409). -/

/-- The canonical form of local memory: addresses strictly rise and no listed byte is zero. -/
def cellsWf : Nat → List Host.Cell → Bool
  | _, [] => true
  | lo, (a, b) :: m => lo ≤ a && b ≠ 0 && cellsWf (a + 1) m

/-- The canonical form holds. -/
def Memory.wf (m : List Host.Cell) : Bool := cellsWf 0 m

/-- Is local memory available (R409)? -/
def memReady (s : State) : Bool := s.mem.avail && ! s.mem.selfRef

/-- Local memory enters self-refresh, where it stays (R351). -/
def selfRefresh (s : State) : State := { s with mem := { s.mem with selfRef := true } }

/-- The local address of a pattern-space byte the device holds (R148). -/
def localOf (s : State) (a : Nat) : Option Nat :=
  match tget 0 s.cfg.homes (a / 65536) with
  | 0 => none
  | o + 1 => some (o + a % 65536)

/-- The home node of an address (R148). -/
def homeNode (a : Nat) : Nat := a / 2 ^ 30 % 2048

/-- A byte of local memory. -/
def localByte (s : State) (l : Nat) : Byte := tget 0 s.mem.bytes l

/-- The byte at a pattern-space address, where a read of it completes: held here, available and not poisoned
(Table 19.2), or answered by its remote home (log 12). -/
def readByte (s : State) (rem : Remote) (a : Nat) : Option Byte :=
  match localOf s a with
  | some l => if memReady s ∧ ¬ s.levee.poison.contains (l / 8) then some (localByte s l) else none
  | none => if homeNode a = ownAddr s then none else (rem.find? fun e => e.1 = a).map Prod.snd

/-- n bytes from an address, where every one of them can be read. -/
def readBytes (s : State) (rem : Remote) (a n : Nat) : Option (List Byte) :=
  (List.range n).mapM fun i => readByte s rem (a + i)

/-- STATUS the device's own access to a page meets: 0 held and available, 1 its own region and not held, 2 a
poisoned word, 3 held but unavailable; none for a page of another node (R148, R324, R409). -/
def localStatus (s : State) (a n : Nat) : Option Nat :=
  match localOf s a with
  | some l =>
    some (if ¬ memReady s then 3
      else if (List.range n).any fun i => s.levee.poison.contains ((l + i) / 8) then 2 else 0)
  | none => if homeNode a = ownAddr s then some 1 else none

/-- Writes bytes at a local address; a first write to a page sets its written bit (R409), and a written word is no
longer poisoned (Table 19.2). -/
def writeLocal (s : State) (l : Nat) (bs : List Byte) : State :=
  { s with
    mem := { s.mem with
      bytes := (List.range bs.length).foldl (fun m i => tset 0 m (l + i) (bs.getD i 0)) s.mem.bytes
      written := if bs = [] then s.mem.written
        else tset false (tset false s.mem.written (l / 65536) true) ((l + bs.length - 1) / 65536) true }
    levee := { s.levee with poison := s.levee.poison.filter fun w => ¬ (l / 8 ≤ w ∧ w * 8 < l + bs.length) } }

/-- A request packet of this node with a fresh TAG, entered among the outstanding requests (R322). -/
def sendRequest (s : State) (cls dest arg0 arg1 : Nat) (data : List Byte) (dma slot : Option Nat) : State :=
  let tag := freshTag s
  let pkt := mkPacket s cls dest 0 arg0 arg1 tag.toNat data
  sendPacket { s with fabric := { s.fabric with
    nextTag := tag + 1
    outst := s.fabric.outst
      ++ [{ tag := tag, cls := BitVec.ofNat 8 cls, addr := arg0, dma := dma, slot := slot }] } } 8 pkt

/-- n bytes of a remote page as they stand there: free values. -/
def freeBytes (s : State) (n : Nat) : List Byte × State :=
  if n = 0 then ([], s)
  else
    let (v, s) := takeFree s (256 ^ n)
    (le n v, s)

/-- Writes bytes within one page: to local memory where the page is held, else by MEM_WR to its home node, in whole
units of 32 bytes, whose other bytes are written back as they stand there (R106, R148, R312; log 20). A page of its own region it does not hold takes no write (NOT_HELD). -/
def writePage (s : State) (a : Nat) (bs : List Byte) : State :=
  match localOf s a with
  | some l => if memReady s then writeLocal s l bs else s
  | none =>
    if homeNode a = ownAddr s ∨ bs = [] then s
    else
      let (before, s) := freeBytes s (a % 32)
      let (after, s) := freeBytes s ((32 - (a + bs.length) % 32) % 32)
      let data := before ++ bs ++ after
      sendRequest s 0x22 (homeNode a) (a - a % 32) data.length data none none

/-- Writes bytes at a pattern-space address, at most n pieces, cut at multiples of 2,048 (R312). -/
def memWriteGo : Nat → State → Nat → List Byte → State
  | 0, s, _, _ => s
  | n + 1, s, a, bs =>
    if bs = [] then s
    else
      let k := 2048 - a % 2048
      memWriteGo n (writePage s a (bs.take k)) (a + k) (bs.drop k)

/-- Writes bytes at a pattern-space address. -/
def memWrite (s : State) (a : Nat) (bs : List Byte) : State := memWriteGo (bs.length / 2048 + 2) s a bs

/-! Mailboxes (R78 to R89). -/

def mbOf (s : State) (n : Nat) : Mailbox := tget {} s.mbs n
def modMb (s : State) (n : Nat) (f : Mailbox → Mailbox) : State := { s with mbs := tmod {} s.mbs n f }

/-- Entries a ring holds: (HEAD − TAIL) mod 512 (R79). -/
def occupancy (head tail : BitVec 9) : Nat := (head - tail).toNat

/-- Free response entries, those kept for direct responses not yet posted being taken (R86). -/
def rspFree (m : Mailbox) : Nat := 256 - occupancy m.rspHead m.rspTail - m.owed.length

/-- Are the mailbox's responses taken by the Trellis interface (Table 5.3)? -/
def viaFabric (s : State) (n : Nat) : Bool := n = 1 || (n = 0 && (mbOf s 0).path)

/-- The bytes of a message. -/
def msgBytes (m : Msg) : List Byte := le 64 m.toNat

/-- The message bytes spell. -/
def msgOfBytes (bs : List Byte) : Msg := BitVec.ofNat 512 (unle (bs.take 64))

/-- The leading link-acknowledged messages of a mailbox's ring leave it: how many, and the copies. -/
def releaseEntries (n : Nat) : List Copy → Nat × List Copy
  | [] => (0, [])
  | c :: cs =>
    if c.mb = n then
      if c.acked then
        let r := releaseEntries n cs
        (r.1 + 1, { c with mb := 4 } :: r.2)
      else (0, c :: cs)
    else
      let r := releaseEntries n cs
      (r.1, c :: r.2)

/-- RSP_TAIL advances past the entries of MB0 and MB1 that the link has acknowledged; a copy goes with its end-to-end
acknowledgement (R88, R323). -/
def settleCopies (s : State) : State :=
  let s := [0, 1].foldl (fun s n =>
    let r := releaseEntries n s.fabric.copies
    modMb { s with fabric := { s.fabric with copies := r.2 } } n fun b =>
      { b with rspTail := b.rspTail + BitVec.ofNat 9 r.1 }) s
  { s with fabric := { s.fabric with copies := s.fabric.copies.filter fun c => ! (c.got && c.mb = 4) } }

/-- Sends a response-ring entry as MBOX_RSP and keeps the copy until MBOX_ACK (R88, R323); mb 4: no ring entry is
released with it. A message that this node itself finds unreachable is done with at once (R320, R323); while the Ford is
closed the copy waits, and MBOX_ACK_TIMEOUT resends it. -/
def sendMsg (s : State) (mb dest : Nat) (m : Msg) : State :=
  let tag := freshTag s
  let pkt := mkPacket s 0x11 dest 0 0 0 tag.toNat (msgBytes m)
  let go := routable s pkt
  let lost := ! go && ! s.power.fordClosed
  let s := { s with fabric := { s.fabric with
    nextTag := tag + 1, copies := s.fabric.copies ++ [{ pkt := pkt, mb := mb, acked := lost, got := lost }] } }
  if go then sendPacket s 8 pkt else if lost then settleCopies s else s

/-- A ring entry that concerns no Trellis sender while the Trellis interface takes the ring: it goes to no node and
stays until PATH is 0 again (R88; log 131). -/
def keepEntry (s : State) (n : Nat) : State :=
  let tag := freshTag s
  { s with fabric := { s.fabric with
      nextTag := tag + 1
      copies := s.fabric.copies ++ [{ pkt := mkPacket s 0x11 0 0 0 0 tag.toNat [], mb := n, acked := false, got := true }] } }

/-- Writes an entry at RSP_HEAD. One that answers a request which came over Trellis, or concerns its item, is sent to
node dest, whatever PATH is by now (R88); with PATH 0 the reader of the window releases the entry. -/
def postRing (s : State) (n dest : Nat) (fabric : Bool) (m : Msg) : State :=
  let s := modMb s n fun b => { b with
    rsp := tset 0 b.rsp (b.rspHead.toNat % 256) m, rspHead := b.rspHead + 1 }
  if fabric then sendMsg s (if viaFabric s n then n else 4) dest m
  else if viaFabric s n then keepEntry s n else s

/-- A response to a request (Table 5.4): item 0xFFFF repeats the request's ITEM (R82). -/
def mkResp (s : State) (req : Msg) (status len item : Nat) (fields : List (Nat × Nat × Nat)) : Msg :=
  Msg.of ([(0, 2, Msg.field req 0 2), (2, 2, 1), (4, 2, Msg.field req 4 2),
    (6, 2, if item = 0xFFFF then Msg.field req 6 2 else item), (8, 1, len), (9, 1, status), (10, 2, ownAddr s)]
    ++ fields)

/-- DONE with a payload. -/
def doneResp (s : State) (req : Msg) (len : Nat) (fields : List (Nat × Nat × Nat)) : Msg :=
  mkResp s req 0x01 len 0xFFFF fields

/-- A refusal with DETAIL in bytes 16 to 19 (R105). -/
def refusal (s : State) (req : Msg) (status detail : Nat) : Msg :=
  mkResp s req status 4 0xFFFF [(16, 4, detail)]

/-- The node a direct response goes to: NODE of its request (R88). -/
def senderOf (req : Msg) : Nat := Msg.field req 10 2 % 2048

/-- Is the response suppressed: a broadcast with QUIET, answered with anything but a refusal (Table 5.5, R88)? -/
def silent (req rsp : Msg) : Bool :=
  (Msg.field req 2 2).testBit 4 && (Msg.field req 2 2).testBit 5 && Msg.field rsp 9 1 < 0x10

/-- Did a request come over Trellis (VIA_FABRIC, Table 5.5)? One that the host writes through the window with that flag
set is taken as if it had (log 153). -/
def cameByFabric (req : Msg) : Bool := (Msg.field req 2 2).testBit 3

/-- Posts a direct response unless it is suppressed. -/
def postDirect (s : State) (n : Nat) (req rsp : Msg) : State :=
  if silent req rsp then s else postRing s n (senderOf req) (cameByFabric req) rsp

/-- Posts a notice now if two entries are free, with DROPPED where an earlier one was lost; else drops it (R86). -/
def noticeNow (s : State) (n dest : Nat) (fabric : Bool) (m : Msg) : State :=
  if 2 ≤ rspFree (mbOf s n) then
    let m := if (mbOf s n).dropped then m ||| (64 <<< 16) else m
    postRing (modMb s n fun b => { b with dropped := false }) n dest fabric m
  else modMb s n fun b => { b with dropped := true }

/-- Posts the direct responses that are ready, in the order of their requests (R85), each followed by the notices that
wait for it (R86); at most k of them. During SERVICE none is posted (R371). -/
def flushOwed : Nat → State → Nat → State
  | 0, s, _ => s
  | k + 1, s, n =>
    if s.dev.mode = .service then s
    else
    match (mbOf s n).owed with
    | { req := q, ready := some r, notes := ns } :: rest =>
      let s := postDirect (modMb s n fun b => { b with owed := rest }) n q r
      flushOwed k (ns.foldl (fun s e => noticeNow s n (e.1 % 2048) (2048 ≤ e.1) e.2) s) n
    | _ => s

/-- Gives the direct response of a request taken from mailbox n, after those of earlier requests (R85, log 16). -/
def respond (s : State) (n : Nat) (req rsp : Msg) : State :=
  let s := modMb s n fun b => { b with owed := b.owed ++ [{ req := req, ready := some rsp }] }
  flushOwed ((mbOf s n).owed.length) s n

/-- The direct response of this request comes later. -/
def deferResp (s : State) (n : Nat) (req : Msg) : State :=
  modMb s n fun b => { b with owed := b.owed ++ [{ req := req }] }

/-- Sets the response of the first owed request that p holds of. -/
def answerFirst (p : Msg → Bool) (rsp : Msg → Msg) : List Owed → List Owed
  | [] => []
  | o :: os =>
    if o.ready.isNone && p o.req then { o with ready := some (rsp o.req) } :: os else o :: answerFirst p rsp os

/-- Is a request that p holds of waiting for its response in mailbox n? -/
def owes (s : State) (n : Nat) (p : Msg → Bool) : Bool := (mbOf s n).owed.any fun o => o.ready.isNone && p o.req

/-- Answers the first waiting request that p holds of, over the mailboxes in order. -/
def answerOwed (s : State) (p : Msg → Bool) (rsp : Msg → Msg) : State :=
  match [0, 1, 2, 3].find? fun n => owes s n p with
  | some n =>
    let s := modMb s n fun b => { b with owed := answerFirst p rsp b.owed }
    flushOwed ((mbOf s n).owed.length) s n
  | none => s

/-- Answers every request that p holds of and that waits for its response; at most n of them. -/
def answerAll : Nat → State → (Msg → Bool) → (State → Msg → Msg) → State
  | 0, s, _, _ => s
  | n + 1, s, p, f => answerAll n (answerOwed s p (f s)) p f

/-- Answers every waiting request that p holds of. -/
def answerEvery (s : State) (p : Msg → Bool) (f : State → Msg → Msg) : State :=
  answerAll (([0, 1, 2, 3].map fun n => (mbOf s n).owed.length).sum) s p f

/-- Is a request with this opcode waiting for its response? -/
def isOp (op : Nat) (q : Msg) : Bool := Msg.field q 0 2 = op

/-- Is Spabry running, with its rings initialised (R74; log 21)? -/
def spabryUp (s : State) : Bool := s.boot.running && s.boot.reported && s.levee.cellarOk

/-- A notice: RESPONSE and UNSOLICITED. STATUS and unused fields are zero (log 22). -/
def mkNotice (s : State) (op tag item len : Nat) (fields : List (Nat × Nat × Nat)) : Msg :=
  Msg.of ([(0, 2, op), (2, 2, 5), (4, 2, tag), (6, 2, item), (8, 1, len), (10, 2, ownAddr s)] ++ fields)

/-- Is this the response that created the item, not yet posted (R86)? -/
def creates (item : Nat) (o : Owed) : Bool :=
  match o.ready with
  | some r => Msg.field r 9 1 = 0 && Msg.field r 6 2 = item
  | none => false

/-- Adds a notice to the last of the owed responses that it has to wait for: the one that creates its item, or one that
an earlier notice waits for, since the notices of a mailbox keep their order (R86); none where it waits for none. -/
def holdNotice (item : Nat) (e : Nat × Msg) : List Owed → Option (List Owed)
  | [] => none
  | o :: os =>
    match holdNotice item e os with
    | some os' => some (o :: os')
    | none => if creates item o || o.notes ≠ [] then some ({ o with notes := o.notes ++ [e] } :: os) else none

/-- Posts a notice, an item's behind the responses it waits for (R86). -/
def placeNotice (s : State) (n dest : Nat) (fabric : Bool) (m : Msg) : State :=
  match (if Msg.field m 0 2 = 0x0F01 then holdNotice (Msg.field m 6 2) (dest % 2048 + 2048 * b2n fabric, m) (mbOf s n).owed
      else none) with
  | some os => modMb s n fun b => { b with owed := os }
  | none => noticeNow s n dest fabric m

/-- Posts a notice about an item (0: none). During SERVICE it waits for the end of SERVICE (R99); it waits too for the
response that created its item (R86). -/
def notice (s : State) (n dest : Nat) (fabric : Bool) (op tag item len : Nat) (fields : List (Nat × Nat × Nat)) : State :=
  let m := mkNotice s op tag item len fields
  if ¬ spabryUp s then s
  else if s.dev.mode = .service then
    { s with svc := { s.svc with notices := s.svc.notices ++ [(n * 4096 + 2048 * b2n fabric + dest % 2048, m)] } }
  else placeNotice s n dest fabric m

/-- Posts the notices that SERVICE has held, in their order (R99). -/
def postHeld (s : State) (ns : List (Nat × Msg)) : State :=
  ns.foldl (fun s e => placeNotice s (e.1 / 4096) (e.1 % 2048) (e.1 / 2048 % 2 = 1) e.2) s

/-- A device notice on MB0, if OPC_NOTICE_CONFIG selects it (R118). Over Trellis its destination is not given: a free
value (log 23). -/
def deviceNotice (s : State) (bit op len : Nat) (fields : List (Nat × Nat × Nat)) : State :=
  if s.dev.noticeEn.getLsbD bit && spabryUp s then
    if (mbOf s 0).path then
      let (d, s) := takeFree s 2048
      notice s 0 d true op 0 0 len fields
    else notice s 0 0 false op 0 0 len fields
  else s

/-! Units (R63, R111, R310). -/

def unitDps (g : Nat) : Nat := 0x100 + g
def unitLg (g : Nat) : Nat := 0x200 + g
def unitTdc : Nat := 0x300
def unitSeq (n : Nat) : Nat := 0x400 + n
def unitPort (p : Nat) : Nat := 0x500 + p

/-- Is a code in Table 6.7? -/
def unitKnown (u : Nat) : Bool :=
  u < 12 || (0x100 ≤ u && u < 0x104) || (0x200 ≤ u && u < 0x204) || u = 0x300 || (0x400 ≤ u && u < 0x410)
    || (0x500 ≤ u && u < 0x504)

/-- The units but for the ports, in the order of R338, then the sequencers. -/
def allUnits : List Nat :=
  [unitTdc] ++ List.range 12 ++ (List.range 4).map unitDps ++ (List.range 4).map unitLg ++ (List.range 16).map unitSeq

/-- The domain that holds a unit (Table 2.6): a sequencer lies in none that switches (R211). -/
def unitDomain (u : Nat) : Option Nat :=
  if u < 12 then some (14 + u)
  else if 0x100 ≤ u ∧ u < 0x104 then some (26 + (u - 0x100))
  else if 0x200 ≤ u ∧ u < 0x204 then some (5 + (u - 0x200))
  else if u = 0x300 then some 13
  else if 0x500 ≤ u ∧ u < 0x504 then some 4
  else none

/-- The unit a domain holds (Table 2.6). -/
def domainUnit (d : Nat) : Option Nat :=
  if 14 ≤ d ∧ d < 26 then some (d - 14)
  else if 26 ≤ d ∧ d < 30 then some (unitDps (d - 26))
  else if 5 ≤ d ∧ d < 9 then some (unitLg (d - 5))
  else if d = 13 then some unitTdc
  else none

def unitOf (s : State) (u : Nat) : UnitSt := tget {} s.units u
def modUnit (s : State) (u : Nat) (f : UnitSt → UnitSt) : State := { s with units := tmod {} s.units u f }

/-- The unit state that a port state gives (Table 17.1). -/
def portUnit (q : PortState) : UState :=
  match q.st with
  | .down => .offline
  | .training => if q.byHost then .maintenance else .offline
  | .up => .active
  | .degraded => .active
  | .bypassed => .offline

/-- The state of any unit. -/
def unitState (s : State) (u : Nat) : UState :=
  if 0x500 ≤ u then portUnit (portOf s (u - 0x500)) else (unitOf s u).st

/-- OPC_UNIT_NOTICE (Table 6.18). -/
def unitNotice (s : State) (u : Nat) (old new : UState) : State :=
  if old = new then s
  else deviceNotice s 2 0x0F04 16
    [(16, 2, u), (18, 1, ustateCode old), (19, 1, ustateCode new), (24, 8, (stamp s).toNat)]

/-- Changes a unit's state, with a notice unless the host requested the change (Table 6.18). -/
def setUnit (s : State) (u : Nat) (new : UState) (byHost : Bool) : State :=
  let old := (unitOf s u).st
  let s := modUnit s u fun v => { v with st := new }
  if byHost then s else unitNotice s u old new

/-- Changes a port, with the notice of its unit state (R310, R327). -/
def changePort (s : State) (p : Nat) (f : PortState → PortState) : State :=
  let old := portUnit (portOf s p)
  let byHost := (portOf s p).byHost
  let s := modPort s p f
  if byHost then s else unitNotice s (unitPort p) old (portUnit (portOf s p))

/-! The device mode (R58, R59, Table 4.6). -/

/-- Enters a mode; a change counts and keeps the previous mode. -/
def setMode (s : State) (m : Mode) : State :=
  if s.dev.mode = m then s
  else { s with dev := { s.dev with mode := m, prev := s.dev.mode, changes := s.dev.changes + 1 } }

/-! The ledger (R90 to R101). -/

def slotOf (s : State) (i : Nat) : Slot := tget {} s.ledger i
def modSlot (s : State) (i : Nat) (f : Slot → Slot) : State := { s with ledger := tmod {} s.ledger i f }

/-- Is the item neither free nor terminal? -/
def openSlot (l : Slot) : Bool := l.st = .queued || l.st = .inFlight || l.st = .held

/-- Is the item IN_FLIGHT or HELD? -/
def inFlight (l : Slot) : Bool := l.st = .inFlight || l.st = .held

def terminal (l : Slot) : Bool := l.st = .complete || l.st = .failed

/-- ITEM_ID of a slot (R83). -/
def itemId (s : State) (i : Nat) : Nat := i + (if (slotOf s i).gen then 2048 else 0)

/-- The fields of a slot's record from message offset b (Table 5.7); a free slot shows R96. -/
def recordFields (s : State) (i b : Nat) : List (Nat × Nat × Nat) :=
  let l := slotOf s i
  if l.st = .free then [(b, 2, itemId s i), (b + 2, 1, 0xFF)]
  else
    [(b, 2, itemId s i), (b + 2, 1, (l.kind.map kindCode).getD 0xFF), (b + 3, 1, istateCode l.st),
     (b + 4, 1, l.reason.toNat), (b + 5, 1, l.mailbox), (b + 6, 2, l.tag.toNat), (b + 8, 2, l.node.toNat),
     (b + 10, 2, l.flags.toNat), (b + 12, 4, l.progress.toNat), (b + 16, 8, l.tSubmit.toNat),
     (b + 24, 8, l.tStart.toNat), (b + 32, 8, l.tEnd.toNat), (b + 40, 8, l.result.toNat)]

/-- The 64-byte entry of a record in memory, bytes 48 to 63 zero (R96). -/
def recordBytes (s : State) (i : Nat) : List Byte := msgBytes (Msg.of (recordFields s i 0))

/-- Free slots left. -/
def freeSlots (s : State) : Nat := 2048 - (s.ledger.filter fun e => e.2.st ≠ .free).length

/-- The lowest free slot (R92). -/
def lowestFree (s : State) : Option Nat := (List.range 2048).find? fun i => (slotOf s i).st = .free

/-- Retires a slot: FREE, its generation bit toggled, its fields cleared (R95, R96). -/
def retireSlot (s : State) (i : Nat) : State := modSlot s i fun l => { gen := !l.gen }

/-- Sets flag bits of Table 5.7. -/
def flagSlot (bits : Nat) (l : Slot) : Slot := { l with flags := l.flags ||| BitVec.ofNat 16 bits }

/-- The slots whose item p holds of, in slot order. -/
def slotsWhere (s : State) (p : Slot → Bool) : List Nat := tkeys s.ledger fun _ l => p l

/-- The same, in the order of slot writes (R85). -/
def slotsInOrder (s : State) (p : Slot → Bool) : List Nat :=
  ((s.ledger.filter fun e => p e.2).mergeSort fun a b => a.2.order ≤ b.2.order).map Prod.fst

/-- Spabry retires its own items that are terminal (R95). -/
def retireOwn (s : State) : State := (slotsInOrder s fun l => l.own && terminal l).foldl retireSlot s

/-- Does an address lie in another node's memory (R148)? -/
def isRemote (s : State) (a : Nat) : Bool := (localOf s a).isNone && homeNode a ≠ ownAddr s

/-- Does an item of a kind other than CAL and TRANSFER run (Table 4.2)? -/
def working (l : Slot) : Bool := inFlight l && l.kind ≠ some .cal && l.kind ≠ some .transfer

/-- Is the item one that PAUSE holds (R62)? -/
def pausable (l : Slot) : Bool := l.kind = some .burst || l.kind = some .measure || l.kind = some .dps

/-- RUN ends in ARMED when no item of a kind other than CAL or TRANSFER is in flight, and in PAUSE when a pause was
requested and every pausable item in flight is HELD (Table 4.2). A pause that RUN's end overtakes is answered
REFUSED_MODE (R59; log 26). -/
def settleMode (s : State) : State :=
  if s.dev.mode ≠ .run then s
  else if slotsWhere s working = [] then
    let s' := setMode { s with dev := { s.dev with pauseReq := false } } .armed
    if s.dev.pauseReq then answerEvery s' (isOp 0x0005) fun s q => refusal s q 0x11 5 else s'
  else if s.dev.pauseReq && slotsWhere s (fun l => pausable l && l.st = .inFlight) = [] then
    let s := setMode { s with dev := { s.dev with pauseReq := false } } .pause
    answerEvery s (isOp 0x0005) fun s q => doneResp s q 0 []
  else s

/-- The end notice of an item submitted with NOTIFY (R86, R88); own items are retired instead (R95). -/
def itemDone (s : State) (i : Nat) : State :=
  let l := slotOf s i
  if l.own then (if spabryUp s ∧ s.dev.mode ≠ .service then retireSlot s i else s)
  else if (Msg.field l.msg 2 2).testBit 1 then
    notice s l.mailbox l.node.toNat (cameByFabric l.msg) 0x0F01 l.tag.toNat (itemId s i) 48 (recordFields s i 16)
  else s

/-- The abort of the last held item ends PAUSE in ARMED (Table 4.2): l is the item as it was before its end, in flight
and so HELD, or unwinding on its abort. During SERVICE the end waits for the return (R373). -/
def settlePause (s : State) (l : Slot) (reason : Option Nat) : State :=
  if reason = some 1 ∧ pausable l ∧ inFlight l then
    if s.dev.mode = .pause ∧ slotsWhere s (fun l => pausable l && inFlight l) = [] then setMode s .armed
    else if s.dev.mode = .service ∧ s.dev.cameFrom = .pause then { s with dev := { s.dev with pauseOver := true } }
    else s
  else s

/-- RESULT of an item from the start: the address of its record, where its kind has one (Table 6.8). -/
def recordAddr (k : Kind) (m : Msg) : BitVec 64 :=
  match k with
  | .burst | .measure | .acquire | .lane => BitVec.ofNat 64 (Msg.field m 56 8)
  | .tdc => BitVec.ofNat 64 (Msg.field m 48 8)
  | _ => 0

/-- Writes a new item into the lowest free slot: QUEUED, with T_SUBMIT (R66, R92). -/
def newItem (s : State) (i : Nat) (k : Kind) (mb : Nat) (req : Msg) (ext : List Byte) (own act : Bool) : State :=
  let s := modSlot s i fun l =>
    { gen := l.gen, kind := some k, st := .queued, mailbox := mb, tag := BitVec.ofNat 16 (Msg.field req 4 2),
      node := BitVec.ofNat 16 (Msg.field req 10 2), tSubmit := stamp s, result := recordAddr k req, msg := req, ext := ext, order := s.order,
      own := own, act := act }
  { s with order := s.order + 1 }

/-- A request that Spabry sends itself through MB2 and its response: each stands in its ring entry, and both are taken
at once (Table 5.1, R78, R85; log 128). -/
def throughMb2 (s : State) (req rsp : Msg) : State :=
  modMb s 2 fun b => { b with
    req := tset 0 b.req (b.reqHead.toNat % 256) req, reqHead := b.reqHead + 1, reqTail := b.reqTail + 1
    rsp := tset 0 b.rsp (b.rspHead.toNat % 256) rsp, rspHead := b.rspHead + 1, rspTail := b.rspTail + 1 }

/-- The request for a CAL item of Spabry's own. -/
def calRequest (unit classes : Nat) : Msg :=
  Msg.of [(0, 2, 0x0101), (8, 1, 48), (24, 1, 5), (40, 2, unit), (42, 2, classes)]

/-- A CAL item that Spabry submits through MB2 (R95, R411); act: the calibration of a unit's action (R374). Where no slot
is free the submission is refused (R13), and Spabry repeats it once a slot is free (log 129); during SERVICE it waits for
the return (R371). -/
def submitCal (s : State) (unit classes : Nat) (act : Bool) : State :=
  let req := calRequest unit classes
  let later (s : State) : State := modUnit s unit fun v => { v with unslotted := v.unslotted ||| classes }
  if s.dev.mode = .service then later s
  else
    match lowestFree s with
    | some i =>
      let s := newItem s i .cal 2 req [] true act
      throughMb2 s req (mkResp s req 0x00 0 (itemId s i) [])
    | none => later (throughMb2 s req (refusal s req 0x12 0))

/-- CLASSES that apply to a unit (Table 18.1, Table 20.3). -/
def classesOf (u : Nat) : Nat :=
  if u < 12 then 0x17
  else if 0x100 ≤ u ∧ u < 0x104 then 0x18
  else if 0x200 ≤ u ∧ u < 0x204 then 0x40
  else if u = 0x300 then 0x20 else 0

/-- Classes run on drift (Table 18.5). -/
def driftClasses (u : Nat) : Nat := if u < 12 then 0x13 else classesOf u

/-- Is a CAL item of a unit non-terminal? -/
def calOpen (s : State) (u : Nat) : Bool :=
  s.ledger.any fun e => openSlot e.2 && e.2.kind = some .cal && Msg.field e.2.msg 40 2 = u

/-- The first IDLE submits the CAL items that were deferred, in the order of R338 (R345); a unit that has drifted gains no
second item beside one that is not terminal (R343). -/
def submitDue (s : State) : State :=
  allUnits.foldl (fun s u =>
    let c := (unitOf s u).due
    if c = 0 ∨ (calOpen s u ∧ ¬ (unitOf s u).fresh) then s else submitCal (modUnit s u fun v => { v with due := 0 }) u c false) s

/-- Does a host request hold the unit for an action that still runs, which these classes are (R374)? -/
def ownAction (s : State) (u classes : Nat) : Bool :=
  match (unitOf s u).holder with
  | .host a false => a ≠ 0 && classes = classesOf u
  | _ => false

/-- Slots are free again, or SERVICE is over: Spabry makes the submissions that had to wait, in the order of R338 (log
129). -/
def submitUnslotted (s : State) : State :=
  if s.dev.mode = .service then s
  else
    allUnits.foldl (fun s u =>
      let c := (unitOf s u).unslotted
      if c = 0 ∨ lowestFree s = none then s
      else submitCal (modUnit s u fun v => { v with unslotted := 0 }) u c (ownAction s u c)) s

/-! Result queues' writing side stands in Capture; clocks and their notice in Flags. -/

/-- Does an item of Spabry's own still have its unit to calibrate? One that waits for a unit which a fault has taken
OFFLINE has nothing to wait for in CALIBRATE (R17, R77; log 40). -/
def calPending (s : State) (l : Slot) : Bool :=
  openSlot l && l.own && ! (l.st = .queued && (unitOf s (Msg.field l.msg 40 2)).faulted)

/-- CALIBRATE ends in IDLE when the initial calibration of every unit in the start mask has ended (R77, Table 4.2). -/
def settleCal (s : State) : State :=
  if s.dev.mode = .calibrate ∧ slotsWhere s (calPending s) = [] ∧ allUnits.all (fun u => (unitOf s u).unslotted = 0) then
    submitDue (setMode s .idle)
  else s

/-- Records an item's terminal state (R91, R92, R98): f sets its result, progress and flags first. A FAILED end with
surviving results carries PARTIAL through f. The end of an own CAL item that measures timing lifts its unit's mark (R184),
and its retirement frees a slot for a submission that waits (log 129). Ends of an already terminal item change nothing. -/
def endItem (s : State) (i : Nat) (reason : Option Nat) (f : Slot → Slot) : State :=
  if openSlot (slotOf s i) then
    let was := slotOf s i
    let s := modSlot s i fun l =>
      { f l with
        st := if reason.isSome then .failed else .complete, reason := BitVec.ofNat 8 (reason.getD 0),
        tEnd := stamp s, cause := none, armed := false, budget := false }
    let s := if was.own ∧ Msg.field was.msg 42 2 &&& 0x24 ≠ 0 then
        modUnit s (Msg.field was.msg 40 2) fun v => { v with marked := false }
      else s
    let s := itemDone s i
    let s := if was.own then submitUnslotted s else s
    settleCal (settlePause (settleMode s) was reason)
  else s

/-- Reason codes (Table 5.9). -/
def rAbortedHost : Nat := 1
def rAbortedFault : Nat := 2
def rReset : Nat := 3
def rClock : Nat := 4
def rUnderrun : Nat := 5
def rBudget : Nat := 6
def rNotTaken : Nat := 7
def rLate : Nat := 8
def rSignature : Nat := 9
def rBus : Nat := 10
def rUnreachable : Nat := 11
def rTimeout : Nat := 12
def rCalLimit : Nat := 13
def rLedger : Nat := 14
def rUnitEnabled : Nat := 15

/-- Item flags (Table 5.7). -/
def fCommitLate : Nat := 1
def fRootStepped : Nat := 2
def fTimePast : Nat := 4
def fClkByp : Nat := 8
def fFord : Nat := 16
def fClrHeld : Nat := 32
def fPartial : Nat := 64
def fThrottled : Nat := 128
def fBudgetHeld : Nat := 256
def fUnderrunSeen : Nat := 512

end Sys2Proof.Machine
end

