-- ==== Sys2Proof/Machine/Image.lean ====
section
/-! DEFINITION. The schedule image (chapter 7): sections, tables, segments, junctions, cover entries and plan entries. -/

namespace Sys2Proof.Machine

/-- A section entry: TYPE, COUNT, OFFSET, SIZE (Table 7.2). -/
structure Section where
  type   : Nat
  count  : Nat
  offset : Nat
  size   : Nat
deriving DecidableEq, Repr

/-- Header fields (Table 7.1). -/
def imgLen (img : List Byte) : Nat := bytesAt img 8 4
def imgSections (img : List Byte) : Nat := bytesAt img 12 2
def imgPebs (img : List Byte) : Nat := bytesAt img 14 2
def imgSegs (img : List Byte) : Nat := bytesAt img 20 4
def imgNslg (img : List Byte) : Nat := bytesAt img 24 1
def imgNct (img : List Byte) : Nat := bytesAt img 25 1

/-- The i-th entry of the section table, which starts at offset 128 (R125). -/
def imgSection (img : List Byte) (i : Nat) : Section :=
  let o := 128 + 16 * i
  { type := bytesAt img o 2, count := bytesAt img (o + 4) 4, offset := bytesAt img (o + 8) 4,
    size := bytesAt img (o + 12) 4 }

/-- The section of a type. -/
def imgFind (img : List Byte) (type : Nat) : Option Section :=
  ((List.range (imgSections img)).map (imgSection img)).find? (·.type = type)

/-- COUNT and OFFSET of a section, 0 where the image has none. -/
def secCount (img : List Byte) (type : Nat) : Nat := ((imgFind img type).map (·.count)).getD 0
def secOffset (img : List Byte) (type : Nat) : Nat := ((imgFind img type).map (·.offset)).getD 0

/-- CLONE map (Table 7.12): the source lane group of destination lane group d, none for 0xFFFF or one at or above NSLG
(Table 7.5), and the control track of PEBp. -/
def cloneSlg (img : List Byte) (d : Nat) : Option Nat :=
  let v := bytesAt img (secOffset img 6 + 2 * d) 2
  if v < imgNslg img then some v else none
def cloneCt (img : List Byte) (p : Nat) : Nat := bytesAt img (secOffset img 6 + 192 + p) 1

/-- Pool record of layer l (1 to 3) of PEBp: POOL_ADDR / 65,536 and POOL_PAGES (Table 7.13). -/
def poolOf (img : List Byte) (p l : Nat) : Nat × Nat :=
  if (imgFind img 7).isSome then
    let o := secOffset img 7 + 16 * (3 * p + (l - 1))
    (bytesAt img o 8 % 2 ^ 41 / 65536, bytesAt img (o + 8) 4)
  else (0, 0)

/-- The table of a section (3 TIMING, 4 PINMODE) that covers PEBp, of a given size. -/
def tableFor (img : List Byte) (type size p : Nat) : Option (List Byte) :=
  ((List.range (secCount img type)).map fun i => secOffset img type + size * i).findSome? fun o =>
    if bitOf (bytesAt img o 2) p then some ((img.drop o).take size) else none

/-- PERIOD of timing set ts; the reset table has 512 (Table 7.10, R142). -/
def periodOf (t : Option (List Byte)) (ts : Nat) : Nat :=
  match t with
  | none => 512
  | some b => bytesAt b (64 + 3136 * ts) 4 % 2 ^ 23

/-- Edge word k (0 to 11) of channel c of timing set ts: its offset, none when OFF (R141). -/
def edgeOf (t : Option (List Byte)) (ts c k : Nat) : Option Nat :=
  match t with
  | none => none
  | some b =>
    let w := bytesAt b (64 + 3136 * ts + 64 + 48 * c + 4 * k) 4
    if bitOf w 31 then none else some (w % 2 ^ 24)

/-- Direction of channel c under pin-mode entry e: true for compare (R143). -/
def pinCompare (t : Option (List Byte)) (e c : Nat) : Bool :=
  match t with
  | none => false
  | some b => bitOf (bytesAt b (64 + 8 * e) 8) c

/-- A segment descriptor, with the out-of-range values of Table 7.5 played as stated; next and junction none are END
and no junction. -/
structure SegDesc where
  data    : Nat
  length  : Nat
  width   : Nat
  stallSafe : Bool
  pin     : Bool
  junction : Option Nat
  pauseOk : Bool
  pm      : Nat
  next    : Option Nat
  hold    : Nat
  layerEntry : Nat
  layerCount : Nat
deriving DecidableEq, Repr

/-- Reads a descriptor (Table 7.6) under Table 7.5. -/
def segDesc (img d : List Byte) : SegDesc :=
  let len := bytesAt d 8 4
  let fmt := bytesAt d 12 1
  let fl := bytesAt d 13 1
  let j := bytesAt d 20 4
  let h := bytesAt d 24 4
  let nx := bytesAt d 16 4
  { data := bytesAt d 0 8 % 2 ^ 41, length := len, width := if fmt = 0 then 2 else if fmt = 1 then 3 else 4,
    stallSafe := bitOf fl 0, pin := bitOf fl 1,
    junction := if bitOf fl 2 ∧ j < secCount img 2 then some j else none,
    pauseOk := bitOf fl 3, pm := bytesAt d 14 1 % 64,
    next := if nx < imgSegs img then some nx else none,
    hold := if h < len then h else len - 1, layerEntry := bytesAt d 28 4, layerCount := bytesAt d 32 2 }

/-- A junction record (Table 7.9, Table 7.5). -/
structure Junc where
  isMatch : Bool
  any     : Bool
  default : Nat
  succ    : List (Option Nat)
  limit   : Nat
  sites   : Nat
deriving DecidableEq, Repr

def juncRec (img r : List Byte) : Junc :=
  { isMatch := bytesAt r 0 1 = 1, any := bytesAt r 1 1 ≠ 0, default := bytesAt r 2 1 % 4,
    succ := (List.range 4).map fun i =>
      let v := bytesAt r (4 + 4 * i) 4
      if v < imgSegs img then some v else none
    limit := bytesAt r 20 4, sites := bytesAt r 24 8 }

/-- A cover entry (Table 7.14). -/
structure Cover where
  peb   : Nat
  layer : Nat
  flip  : Bool
  full  : Bool
  dlgs  : Nat
  first : Nat
  count : Nat
  page  : Nat
  pins  : Nat
deriving DecidableEq, Repr

def coverRec (r : List Byte) : Cover :=
  { peb := bytesAt r 0 1, layer := bytesAt r 1 1, flip := bitOf (bytesAt r 2 1) 0, full := bitOf (bytesAt r 2 1) 1,
    dlgs := bytesAt r 3 1, first := bytesAt r 4 4, count := bytesAt r 8 4, page := bytesAt r 12 4,
    pins := bytesAt r 16 8 }

/-- The cover entries that bytes hold. -/
def coverRecs (n : Nat) (bs : List Byte) : List Cover :=
  (List.range n).map fun i => coverRec ((bs.drop (32 * i)).take 32)

/-- Entries of a segment that exist: those below the LAYER COUNT (Table 7.5). -/
def coverCount (img : List Byte) (d : SegDesc) : Nat :=
  if d.layerEntry < secCount img 7 then min d.layerCount (secCount img 7 - d.layerEntry) else 0

/-- Symbols of a lane-group word of W bytes: pin j of the word, as its F32 code (R134, R135). -/
def symbolOf (width : Nat) (compare : Bool) (word j : Nat) : Nat :=
  if width = 2 then
    let c := bitsOf word (2 * j + 1) (2 * j)
    if compare then (if c = 0 then 2 else if c = 1 then 3 else if c = 2 then 4 else 5)
    else (if c = 0 then 0 else if c = 1 then 1 else if c = 2 then 5 else 7)
  else if width = 3 then bitsOf word (3 * j + 2) (3 * j)
  else bitsOf word (4 * j + 3) (4 * j)

/-- Are the bytes of a range zero? -/
def allZero (bs : List Byte) : Bool := bs.all (· = 0)

/-- Has a timing-set table a reserved field set (Table 7.10, R141)? -/
def timingReserved (t : List Byte) : Bool :=
  ! allZero ((t.drop 2).take 62) || (List.range 64).any fun k =>
    let o := 64 + 3136 * k
    ! allZero ((t.drop (o + 4)).take 60) || 2 ^ 23 ≤ bytesAt t o 4
      || (List.range 768).any fun e => bitsOf (bytesAt t (o + 64 + 4 * e) 4) 30 24 ≠ 0

/-- Has a pin-mode table a reserved field set (Table 7.11)? -/
def pinmodeReserved (t : List Byte) : Bool := ! allZero ((t.drop 2).take 62)

/-- Has a segment descriptor a reserved field set (Table 7.6)? -/
def descReserved (r : List Byte) : Bool :=
  ! allZero ((r.drop 34).take 30) || bytesAt r 15 1 ≠ 0 || 16 ≤ bytesAt r 13 1 || 64 ≤ bytesAt r 14 1
    || 2 ^ 41 ≤ bytesAt r 0 8

/-- Has a junction record a reserved field set (Table 7.9)? A reserved TYPE is played as JUMP and is no misuse (R131). -/
def juncReserved (r : List Byte) : Bool :=
  bytesAt r 3 1 ≠ 0 || (bytesAt r 0 1 = 0 && (bytesAt r 1 1 ≠ 0 || bytesAt r 20 12 ≠ 0))
    || (bytesAt r 0 1 = 1 && bytesAt r 2 1 ≠ 0)

/-- Has one of some cover entries a reserved field set (Table 7.14)? -/
def coverReserved (r : List Byte) : Bool :=
  (List.range (r.length / 32)).any fun k => 4 ≤ bytesAt r (32 * k + 2) 1 || bytesAt r (32 * k + 24) 8 ≠ 0

/-- Has a plan entry a reserved field set (Table 7.16)? -/
def planReserved (r : List Byte) : Bool :=
  4 ≤ bytesAt r 2 1 || bytesAt r 3 1 ≠ 0 || bytesAt r 6 2 ≠ 0 || bytesAt r 28 4 ≠ 0

/-- Do two sections overlap? One of SIZE 0 overlaps the section inside which its OFFSET lies (log 152). -/
def overlaps (a b : Section) : Bool := a.offset < b.offset + b.size && b.offset < a.offset + a.size

/-- SIZE that Table 7.3 gives for a type and COUNT; none for LEVELS. -/
def sectionSize (type count : Nat) : Option Nat :=
  match type with
  | 1 => some (64 * count)
  | 2 => some (32 * count)
  | 3 => some (200768 * count)
  | 4 => some (576 * count)
  | 6 => some 256
  | 7 => some (576 + 32 * count)
  | 8 => some (64 + 32 * count)
  | 9 => some 768
  | _ => none

/-- Is COUNT within Table 7.3? -/
def countOk (segs : Nat) (x : Section) : Bool :=
  match x.type with
  | 1 => x.count = segs
  | 2 => x.count ≤ 16777216
  | 3 => 1 ≤ x.count && x.count ≤ 12
  | 4 => 1 ≤ x.count && x.count ≤ 12
  | 6 => x.count = 1
  | 8 => x.count = segs
  | 9 => x.count = 1
  | _ => true

/-- Do the headers of n level sets lie in a section's bytes (R144, check 9)? -/
def levelSetsFit : Nat → List Byte → Bool
  | 0, _ => true
  | n + 1, bs => 64 ≤ bs.length && levelSetsFit n (bs.drop (64 + (8 * bytesAt bs 0 4 + 63) / 64 * 64))

/-- The PEB masks of a table section cover the header's mask exactly once (check 10). -/
def coversOnce (img : List Byte) (type size : Nat) : Bool :=
  let ms := (List.range (secCount img type)).map fun i => bytesAt img (secOffset img type + size * i) 2
  (List.range 16).all fun p =>
    (ms.filter fun m => bitOf m p).length = (if bitOf (imgPebs img) p then 1 else 0)

/-- Checks 2 to 11 of Table 7.4 on the bytes of an image of the requested length: the code of the first that fails. -/
def imageError (img : List Byte) (len : Nat) : Option Nat :=
  let secs := (List.range (imgSections img)).map (imgSection img)
  let bodyStart := 128 + 16 * imgSections img
  if ¬ (bytesAt img 0 4 = 0x4B575343 ∧ bytesAt img 4 2 = 1 ∧ bytesAt img 6 2 = 128) then some 0x21
  else if ¬ (bytesAt img 26 2 = 0 ∧ allZero ((img.drop 72).take 56)) then some 0x22
  else if ¬ (imgLen img % 64 = 0 ∧ 512 ≤ imgLen img ∧ imgLen img ≤ 268435456 ∧ imgLen img = len) then some 0x23
  else if ¬ (5 ≤ imgSections img ∧ imgSections img ≤ 9 ∧ 1 ≤ imgPebs img ∧ imgPebs img < 4096
      ∧ 50 * 2 ^ 20 ≤ bytesAt img 16 4 ∧ bytesAt img 16 4 ≤ 80 * 2 ^ 20 ∧ 1 ≤ imgSegs img ∧ imgSegs img ≤ 4194303
      ∧ 1 ≤ imgNslg img ∧ imgNslg img ≤ 96 ∧ 1 ≤ imgNct img ∧ imgNct img ≤ 12) then some 0x24
  else if ¬ (secs.all (fun x => bodyStart ≤ x.offset && x.offset + x.size ≤ len && x.offset % 64 = 0)
      ∧ (List.range (imgSections img)).all (fun i => bytesAt img (128 + 16 * i + 2) 2 = 0)
      ∧ secs.Pairwise (fun a b => overlaps a b = false)) then some 0x25
  else if ¬ (secs.all (fun x => 1 ≤ x.type && x.type ≤ 9) ∧ (secs.map (·.type)).Nodup) then some 0x26
  else if ¬ ([1, 3, 4, 6, 8].all fun t => (imgFind img t).isSome) then some 0x27
  else if ¬ (secs.all fun x => countOk (imgSegs img) x && (match sectionSize x.type x.count with
      | some z => x.size = z
      | none => levelSetsFit x.count ((img.drop x.offset).take x.size))) then some 0x28
  else if ¬ (coversOnce img 3 200768 ∧ coversOnce img 4 576) then some 0x29
  else if ¬ ((List.range 12).all fun p => ! bitOf (imgPebs img) p || cloneCt img p < imgNct img) then some 0x2A
  else none

end Sys2Proof.Machine
end

