-- ==== Sys2Proof/Machine/Queue.lean ====
section
/-! DEFINITION. The result queues (R261 to R267). -/

namespace Sys2Proof.Machine

def queueOf (s : State) (q : Nat) : Queue := tget {} s.queues q
def modQueue (s : State) (q : Nat) (f : Queue → Queue) : State := { s with queues := tmod {} s.queues q f }

/-- Bytes held: WR − REL modulo 131,072 (R265). -/
def queueOcc (q : Queue) : Nat := (q.wr - q.rel).toNat

/-- Cuts whole read words off the partial bytes. -/
def packWords : Nat → List QWord → List Byte → List QWord × List Byte
  | 0, ws, part => (ws, part)
  | n + 1, ws, part =>
    if 32 ≤ part.length then packWords n (ws ++ [{ bytes := part.take 32, valid := 32 }]) (part.drop 32)
    else (ws, part)

/-- x + 1, holding at 0xFFFF_FFFF. -/
def satInc (x : BitVec 32) : BitVec 32 := if x = BitVec.allOnes 32 then x else x + 1
def satInc32 (x : Nat) : Nat := if 0xFFFFFFFF ≤ x then x else x + 1

/-- A queue item: the item header and its record (Table 14.2). -/
def queueItem (tag : Nat) (rec : List Byte) : List Byte := le 2 (tag * 4096 + rec.length) ++ rec

/-- FULL (R263). -/
def queueFull (q : Queue) : Bool := 65536 < queueOcc q + 34

/-- Does an item of n bytes fit in the free space (R263)? -/
def itemFits (q : Queue) (n : Nat) : Bool := queueOcc q + n ≤ 65536

/-- An item that is dropped sets OVERRUN and counts in DROPPED (R263). -/
def dropItem (q : Queue) : Queue := { q with overrun := true, dropped := satInc q.dropped }

/-- One item enters the queue whole, or is dropped (R263). -/
def putItem (q : Queue) (item : List Byte) : Queue :=
  if itemFits q item.length then
    let (ws, part) := packWords 2 q.words (q.part ++ item)
    { q with words := ws, part := part, wr := q.wr + BitVec.ofNat 17 item.length }
  else dropItem q

/-- The staging buffers at a Headwater count: the write side has taken 2 bytes in every timing-clock cycle of 256 LSB
since then, from the writer of the lowest tag first; without a count they are empty (R263; log 101). -/
def drainStages (t : Option Count) (q : Queue) : Queue :=
  match t with
  | none => { q with staged := [], stagedAt := 0 }
  | some t =>
    let n := (t - q.stagedAt).toInt.toNat / 256
    let take (r : Nat × Tab Nat) (tag : Nat) : Nat × Tab Nat :=
      (r.1 - tget 0 r.2 tag, tmod 0 r.2 tag (· - r.1))
    { q with staged := ([1, 2, 3, 4].foldl take (2 * n, q.staged)).2, stagedAt := q.stagedAt + BitVec.ofNat 64 (256 * n) }

/-- Has a writer's staging buffer of 4 KiB room for an item of n bytes? -/
def stageFits (q : Queue) (tag n : Nat) : Bool := tget 0 q.staged tag + n ≤ 4096

/-- Is an item lost, on a full staging buffer or on a full queue? -/
def itemLost (q : Queue) (tag n : Nat) : Bool := ! stageFits q tag n || ! itemFits q n

/-- An item passes its writer's staging buffer into the queue; one that finds the buffer full is dropped (R263). -/
def stageItem (q : Queue) (tag : Nat) (item : List Byte) : Queue :=
  if stageFits q tag item.length then
    putItem { q with staged := tmod 0 q.staged tag (· + item.length) } item
  else dropItem q

/-- The instant of a write, where the Headwater count runs. -/
def liveCount (s : State) : Option Count := if s.hw.running then some s.hw.count else none

/-- Writes a record with its tag at a Headwater count; while PD12 is off it is dropped without a trace (R412). The
second component tells whether the record was lost. -/
def queueWrite (s : State) (q tag : Nat) (t : Option Count) (rec : List Byte) : State × Bool :=
  if s.power.pdOn.getLsbD 12 then
    let item := queueItem tag rec
    (modQueue s q fun x => stageItem (drainStages t x) tag item,
      itemLost (drainStages t (queueOf s q)) tag item.length)
  else (s, false)

/-- Flushes the partial read word: zeros to 32 bytes, with VALID (R264). -/
def flushQueue (q : Queue) : Queue :=
  if q.part = [] then q
  else { q with
    words := q.words ++ [{ bytes := q.part ++ zeros (32 - q.part.length), valid := q.part.length }]
    part := [], wr := q.wr + BitVec.ofNat 17 (32 - q.part.length) }

/-- QUEUE_FLUSH_TIMEOUT (R264). -/
def execQueueFlushTimeout (q : Nat) (s : State) : Out := if q < 14 then .next (modQueue s q flushQueue) else .next s

/-- The idle word (R265). -/
def idleWord : QWord := { bytes := List.replicate 32 0xFF#8, valid := 0 }

/-- A read: the word at RD and the queue with RD advanced, or the idle word (R265). -/
def readQueue (q : Queue) : QWord × Queue :=
  match q.words[(q.rd - q.rel).toNat / 32]? with
  | some w => (w, { q with rd := q.rd + 32 })
  | none => (idleWord, q)

/-- Mark, rewind and release (R266). -/
def markQueue (q : Queue) : Queue := { q with mark := q.rd }
def rewindQueue (q : Queue) : Queue := { q with rd := q.mark }
def releaseQueue (q : Queue) : Queue :=
  { q with words := q.words.drop ((q.mark - q.rel).toNat / 32), rel := q.mark }

/-- The queue after a reset on a pointer mismatch, and when PD12 goes off (R261, R267). -/
def emptyQueue : Queue := {}

end Sys2Proof.Machine
end

