-- ==== Sys2Proof/Machine/Capture.lean ====
section
/-! DEFINITION. Capture: the stream records, the counts, the summary record, and the end of a BURST (R244 to R251). -/

namespace Sys2Proof.Machine

def burstOf (s : State) (i : Nat) : Burst := tget {} s.bursts i
def modBurst (s : State) (i : Nat) (f : Burst → Burst) : State := { s with bursts := tmod {} s.bursts i f }
def pebOf (s : State) (p : Nat) : Peb := tget {} s.pebs p
def modPeb (s : State) (p : Nat) (f : Peb → Peb) : State := { s with pebs := tmod {} s.pebs p f }
def chanOf (s : State) (c : Nat) : Chan := tget {} s.chans c
def modChan (s : State) (c : Nat) (f : Chan → Chan) : State := { s with chans := tmod {} s.chans c f }

/-- Is the BURST in flight in a phase that plays at the pins? -/
def playing (b : Burst) : Bool := b.phase = .playing || b.phase = .stall || b.phase = .hold true || b.phase = .hold false

/-- The claimed PEBs of a BURST. -/
def burstPebs (b : Burst) : List Nat := setBits 12 b.pebs.toNat

/-- The site of a channel under the map in force, if it is mapped (Table 6.12). -/
def siteOf (s : State) (c : Nat) : Option Nat :=
  let m := (tget (0 : Byte) s.dev.armedMap c).toNat
  if bitOf m 7 then some (m % 64) else none

/-- The channels of a site under the map in force. -/
def siteChannels (s : State) (site : Nat) : List Nat := (List.range 768).filter fun c => siteOf s c = some site

/-- The PEBs that hold a channel of a site of the mask (Table 1.3). -/
def pebsOfSites (s : State) (sites : Nat) : List Nat :=
  (List.range 12).filter fun p => (List.range 64).any fun c =>
    match siteOf s (64 * p + c) with
    | some n => bitOf sites n
    | none => false

/-- The common header (Table 13.1), with the sync status of the TIME field in a 32-byte record. -/
def capHeader (s : State) (type peb vaddr b7 : Nat) : List Byte :=
  le 1 type ++ le 1 (peb + (if bitOf type 5 then 16 * syncCode s.hw.status else 0)) ++ le 5 vaddr ++ le 1 b7

/-- A 16-byte and a 32-byte record (R247): the header, then the fields as (bytes, value), padded with zeros. -/
def capBody (n : Nat) (fs : List (Nat × Nat)) : List Byte :=
  let b := fs.flatMap fun f => le f.1 f.2
  b ++ zeros (n - b.length)
def rec16 (s : State) (type peb vaddr b7 : Nat) (fs : List (Nat × Nat)) : List Byte :=
  capHeader s type peb vaddr b7 ++ capBody 8 fs
def rec32 (s : State) (type peb vaddr b7 : Nat) (fs : List (Nat × Nat)) : List Byte :=
  capHeader s type peb vaddr b7 ++ capBody 24 fs

/-- The Headwater count at which the vector next to play starts on a PEB (R180, R182). -/
def timeAt (b : Burst) (p : Nat) : Count := b.tRef + BitVec.ofNat 64 (tget 0 b.cAcc p / 2 ^ 32)

/-- Puts a record into the PEB's queue at the time its vectors have reached; a record lost on a full queue or staging
buffer counts in DROPPED (R246, R263). -/
def capPut (s : State) (slot peb : Nat) (rec : List Byte) : State :=
  let (s, lost) := queueWrite s peb 1 (some (timeAt (burstOf s slot) peb)) rec
  if lost then modBurst s slot fun b => { b with dropped := tmod 0 b.dropped peb satInc32 } else s

def noRun : Run := { mask := 0, first := 0, len := 0 }

/-- Closes the PEB's run: its FAIL record, then the records that capture holds back (R246, R248). -/
def closeRun (s : State) (slot peb : Nat) : State :=
  let r := tget noRun (burstOf s slot).runs peb
  let waiting := tget [] (burstOf s slot).behind peb
  if r.len = 0 ∧ waiting = [] then s
  else
    let s := modBurst s slot fun b => { b with runs := tset noRun b.runs peb noRun, behind := tset [] b.behind peb [] }
    let s := if r.len = 0 then s
      else capPut s slot peb (rec16 s 0x01 peb r.first (r.len - 1) [(8, r.mask.toNat)])
    waiting.foldl (fun s x => capPut s slot peb x) s

/-- Is a record of a kind that boundary records of the same VADDR precede: FAIL, MARKER or WMON (R246)? -/
def eventRec (rec : List Byte) : Bool := [0x01, 0x28, 0x29].contains (bytesAt rec 0 1)

/-- A boundary record's place among those held back: before the events of its own VADDR (R246). -/
def placeRec (rec : List Byte) (held : List (List Byte)) : List (List Byte) :=
  let later := (held.reverse.takeWhile fun x => eventRec x && bytesAt x 2 5 = bytesAt rec 2 5).length
  held.take (held.length - later) ++ rec :: held.drop (held.length - later)

/-- Writes a stream record of one PEB. MARKER and WMON records are held back until the boundary records of their vector
are known, and every record behind an open run (R246). -/
def capRec (s : State) (slot peb : Nat) (rec : List Byte) : State :=
  let held := tget [] (burstOf s slot).behind peb
  if eventRec rec then modBurst s slot fun b => { b with behind := tset [] b.behind peb (held ++ [rec]) }
  else if (tget noRun (burstOf s slot).runs peb).len = 0 ∧ held = [] then capPut s slot peb rec
  else modBurst s slot fun b => { b with behind := tset [] b.behind peb (placeRec rec held) }

/-- Writes a record into the stream of every claimed PEB. -/
def capAll (s : State) (slot : Nat) (rec : State → Nat → List Byte) : State :=
  (burstPebs (burstOf s slot)).foldl (fun s p => capRec s slot p (rec s p)) s

/-- Closes every open run of the BURST. -/
def closeRuns (s : State) (slot : Nat) : State :=
  (burstPebs (burstOf s slot)).foldl (fun s p => closeRun s slot p) s

/-- One vector's fail mask of a PEB joins the run, or closes it and opens another (R248). -/
def addFails (s : State) (slot peb : Nat) (mask : BitVec 64) (vaddr : Nat) : State :=
  let r := tget noRun (burstOf s slot).runs peb
  if mask = 0 then closeRun s slot peb
  else if r.len ≠ 0 ∧ r.mask = mask ∧ r.len < 256 then
    modBurst s slot fun b => { b with runs := tset noRun b.runs peb { r with len := r.len + 1 } }
  else
    let s := closeRun s slot peb
    modBurst s slot fun b => { b with runs := tset noRun b.runs peb { mask := mask, first := vaddr, len := 1 } }

/-- No first failing address (R251). -/
def noFirst : Nat := 0xFFFFFFFFFF

/-- Adds a failing vector's channels to the segment's contribution: a site counts once a vector, whatever PEBs its
channels lie on (R249). -/
def countFails (s : State) (slot : Nat) (chs : List Nat) (vaddr : Nat) : State :=
  let sites := ((chs.filterMap (siteOf s)).dedup).filter fun n => ! (burstOf s slot).vecFails.getLsbD n
  modBurst s slot fun b => { b with
    vecFails := sites.foldl (fun m n => putBit m n true) b.vecFails
    segFails := sites.foldl (fun t n => tmod 0 t n (· + 1)) b.segFails
    segFirst := sites.foldl (fun t n => tmod noFirst t n fun v => if v = noFirst then vaddr else v) b.segFirst
    segPins := chs.foldl (fun t c => tmod noFirst t c fun v => if v = noFirst then vaddr else v) b.segPins }

/-- Merges the contribution of the segment that has ended (R249), or discards it. -/
def mergeSegment (s : State) (slot : Nat) (counted : Bool) (length : Nat) : State :=
  modBurst s slot fun b =>
    let clear (b : Burst) : Burst := { b with segFails := [], segFirst := [], segPins := [], segUrSites := 0 }
    if counted then clear { b with
      fails := b.segFails.foldl (fun t e => tmod 0 t e.1 fun v => min 0xFFFFFFFF (v + e.2)) b.fails
      first := b.segFirst.foldl (fun t e => tmod noFirst t e.1 fun v => if v = noFirst then e.2 else v) b.first
      pinFirst := b.segPins.foldl (fun t e => tmod noFirst t e.1 fun v => if v = noFirst then e.2 else v) b.pinFirst
      urs := (setBits 64 b.segUrSites.toNat).foldl (fun t n => tmod 0 t n (· + 1)) b.urs
      vectors := b.vectors + length, segStart := b.vaddr }
    else clear b

/-- A site entry (Table 13.4). -/
def siteEntry (s : State) (b : Burst) (n : Nat) : List Byte :=
  if b.sites.getLsbD n ∧ siteChannels s n ≠ [] then
    let f := tget 0 b.fails n
    let u := tget 0 b.urs n
    le 4 f ++ le 4 u ++ le 5 (tget noFirst b.first n)
      ++ le 1 (1 + (if f ≠ 0 then 2 else 0) + (if u ≠ 0 then 4 else 0)) ++ zeros 2
  else zeros 8 ++ le 5 noFirst ++ zeros 3

/-- PIN_FIRST of a channel (Table 13.3). -/
def pinEntry (s : State) (b : Burst) (c : Nat) : List Byte :=
  match siteOf s c with
  | some n => if b.sites.getLsbD n then le 8 (tget noFirst b.pinFirst c) else List.replicate 8 0xFF#8
  | none => List.replicate 8 0xFF#8

/-- The burst summary record (Table 13.3). -/
def summaryBytes (s : State) (slot : Nat) (state reason segments : Nat) : List Byte :=
  let b := burstOf s slot
  le 2 (itemId s slot) ++ le 1 b.sched ++ le 1 state ++ le 1 reason ++ zeros 1 ++ le 2 b.pebs.toNat
    ++ le 8 b.sites.toNat ++ le 8 b.tZero.toNat ++ le 8 b.tLast.toNat ++ le 8 b.vectors ++ le 4 segments
    ++ le 4 b.stalls ++ le 8 b.stallVecs ++ le 4 b.holds ++ le 4 b.phases
    ++ (List.range 12).flatMap (fun p => le 4 (tget 0 b.dropped p)) ++ le 5 b.segStart ++ zeros 11
    ++ (List.range 64).flatMap (siteEntry s b) ++ (List.range 768).flatMap (pinEntry s b)

/-- The lowest-numbered PEB of a BURST: its boundaries and burst-wide times follow that PEB (log 24). -/
def leadPeb (b : Burst) : Nat := (burstPebs b).headD 0

/-- What the Headwater count advances by while the generators advance by n LSB of the present root, in 2^-32 LSB: M_LOCK
/ M_NOW of it (R50, R182). -/
def countLsb (s : State) (n : Nat) : Nat :=
  if s.clock.mNow = s.clock.mLock ∨ s.clock.mNow = 0 then n * 2 ^ 32
  else n * 2 ^ 32 * s.clock.mLock.toNat / s.clock.mNow.toNat

/-- Vectors the generators have played since tPause in a hold or a stall: whole vectors of the last timing set, up to
the next vector edge (R160, R166, R182). -/
def pauseVectors (s : State) (b : Burst) : Nat :=
  let per := countLsb s (periodOf (pebOf s (leadPeb b)).timing b.lastTs)
  ((stamp s - b.tPause).toNat * 2 ^ 32 + (per - 1)) / per

/-- PARTIAL where a FAILED end leaves results (R98). -/
def partialIf (failed some_ : Bool) (l : Slot) : Slot := if failed && some_ then flagSlot fPartial l else l

/-- Writes the JUNCTION record that waits for its boundary into every stream (R246, R247). -/
def flushJunction (s : State) (slot : Nat) : State :=
  let r := (burstOf s slot).junc
  if r = [] then s
  else
    let s := capAll s slot fun _ p => r.set 1 (r.getD 1 0 + BitVec.ofNat 8 p)
    modBurst s slot fun b => { b with junc := [] }

end Sys2Proof.Machine
end

