-- ==== Sys2Proof/Machine/Operands.lean ====
section
/-! DEFINITION. Operand forms: the submission header and the parameters of each kind (Tables 6.5, 6.6), read from the
request that the ledger slot keeps, with the payload beyond LENGTH taken as zero (R104). -/

namespace Sys2Proof.Machine

/-- EXT_LEN, and EXT_ADDR where it is not zero (Table 5.4, R84). -/
def extLen (m : Msg) : Nat := Msg.field m 12 4
def extAddr (m : Msg) : Nat := Msg.field m 16 8

/-- The request as Spabry reads it: payload bytes from LENGTH on are zero, but for EXT_ADDR (R104). -/
def trimmed (m : Msg) : Msg :=
  let len := 16 + Msg.field m 8 1
  let keep := BitVec.ofNat 512 (2 ^ (8 * len) - 1)
  let ext := if extLen m = 0 then (0 : Msg) else BitVec.ofNat 512 ((2 ^ 64 - 1) <<< 128)
  m &&& (keep ||| ext)

/-- Flags of a request (Table 5.5). -/
def reqFlag (m : Msg) (bit : Nat) : Bool := bitOf (Msg.field m 2 2) bit

/-- Submission header (Table 6.5). -/
def pKind (m : Msg) : Nat := Msg.field m 24 1
def pStartAt (m : Msg) : Bool := bitOf (Msg.field m 25 1) 0
def pTimeLimit (m : Msg) : Nat := Msg.field m 28 4
def pStartTime (m : Msg) : Count := BitVec.ofNat 64 (Msg.field m 32 8)

/-- The result, summary, record or statistics address at offset 56 (MEASURE, BURST, ACQUIRE, LANE). -/
def pAddr56 (m : Msg) : Nat := Msg.field m 56 8

/-- BURST. -/
def pSched (m : Msg) : Nat := Msg.field m 40 1
def pEntry (m : Msg) : Nat := Msg.field m 44 4
def pSites (m : Msg) : Nat := Msg.field m 48 8

/-- MEASURE. -/
def pMseq (m : Msg) : Nat := Msg.field m 40 1
def pStore (m : Msg) : Nat := Msg.field m 41 1
def pRoutine (m : Msg) : Nat := Msg.field m 42 2
def pTargets (m : Msg) : Nat := Msg.field m 44 8
def pArg0 (m : Msg) : Nat := Msg.field m 52 4

/-- TDC. -/
def pTdcFirst (m : Msg) : Nat := Msg.field m 40 1
def pTdcCount (m : Msg) : Nat := Msg.field m 41 1
def pSeries (m : Msg) : Nat := Msg.field m 44 4
def pStats (m : Msg) : Nat := Msg.field m 48 8

/-- ACQUIRE. -/
def pSource (m : Msg) : Nat := Msg.field m 40 1
def pConverter (m : Msg) : Nat := Msg.field m 41 1
def pInput (m : Msg) : Nat := Msg.field m 42 1
def pTrigger (m : Msg) : Nat := Msg.field m 43 1
def pSamples (m : Msg) : Nat := Msg.field m 44 4
def pReduce (m : Msg) : Nat := Msg.field m 48 4
def pTrigLevel (m : Msg) : Int := signed 32 (Msg.field m 52 4)

/-- The converter's record buffer: MADC g is g, DADC n is 96 + n. -/
def pBuffer (m : Msg) : Nat := if pSource m = 0 then pConverter m else 96 + pConverter m

/-- TRANSFER. -/
def pDma (m : Msg) : Nat := Msg.field m 40 1
def pDesc (m : Msg) : Nat := Msg.field m 48 8

/-- CAL: the unit, and the classes it runs, zero selecting every class that applies (Table 6.6). -/
def pUnit (m : Msg) : Nat := Msg.field m 40 2
def pClasses (m : Msg) : Nat := if Msg.field m 42 2 = 0 then classesOf (pUnit m) else Msg.field m 42 2

/-- LEVELS. -/
def pGroup (m : Msg) : Nat := Msg.field m 40 1
def pStrobe (m : Msg) : Nat := Msg.field m 41 1

/-- DPS. -/
def pDpsMask (m : Msg) : Nat := Msg.field m 40 8
def pTarget (m : Msg) : Nat := Msg.field m 48 4
def pSlew (m : Msg) : Nat := Msg.field m 52 4
def dpsList (mask : Nat) : List Nat := setBits 48 mask

/-- LANE. -/
def pLaneGroup (m : Msg) : Nat := Msg.field m 40 1
def pTest (m : Msg) : Nat := Msg.field m 41 1
def pPrbs (m : Msg) : Nat := Msg.field m 42 1
def pLaneMask (m : Msg) : Nat := Msg.field m 44 4
def pBits (m : Msg) : Nat := Msg.field m 48 8
def laneList (m : Msg) : List Nat := (setBits 28 (pLaneMask m)).map (28 * pLaneGroup m + ·)

/-- The targets of a MEASURE item: channels of the sequencer's PEB, or DPS channels of its group (Table 6.6). -/
def measTargets (m : Msg) : List Nat :=
  if pMseq m < 12 then (setBits 64 (pTargets m)).map (64 * pMseq m + ·)
  else (setBits 12 (pTargets m)).map (12 * (pMseq m - 12) + ·)

end Sys2Proof.Machine
end

