-- ==== Sys2Proof/Machine/Claims.lean ====
section
/-! DEFINITION. Claims and dispatch: what an item claims, and when it may be dispatched (R15, R16, R52, R58, R64, R346). -/

namespace Sys2Proof.Machine

/-- An exclusive claim of Table 1.3 as a number: 0x10000 × sort + index. Sorts: 1 capture and pattern paths of a PEB,
2 sequencer, 3 PMU of a channel, 4 DPS channel, 5 TDC, 6 record buffer, 7 DMA channel, 8 Press, 9 load group, 10 lane. -/
def claimOf (sort idx : Nat) : Nat := 0x10000 * sort + idx

/-- Members of a load group: PEBs and DPS channels (R192). -/
def groupPebs (s : State) (g : Nat) : List Nat := (List.range 12).filter fun p => (pebOf s p).group = some g
def dpsOf (s : State) (n : Nat) : Dps := tget {} s.dps n
def modDps (s : State) (n : Nat) (f : Dps → Dps) : State := { s with dps := tmod {} s.dps n f }
def groupDps (s : State) (g : Nat) : List Nat := (List.range 48).filter fun n => (dpsOf s n).group = some g

/-- The clock lanes that a LANE item of TEST 0 to 2 claims in forwarded mode (R294). -/
def clockLanes (s : State) (m : Msg) : List Nat :=
  let g := tget {} s.lgs (pLaneGroup m)
  if g.fwd ∧ pTest m ≠ 3 then
    (28 * pLaneGroup m + 18) :: (if g.cfg.getLsbD 13 then [28 * pLaneGroup m + 19] else [])
  else []

/-- The exclusive claims of an item (Table 1.3). -/
def claims (s : State) (l : Slot) : List Nat :=
  let m := l.msg
  match l.kind with
  | some .burst => (pebsOfSites s (pSites m)).map (claimOf 1)
  | some .measure =>
    claimOf 2 (pMseq m) :: (measTargets m).map (claimOf (if pMseq m < 12 then 3 else 4))
  | some .tdc => (List.range (pTdcCount m)).map fun i => claimOf 5 (pTdcFirst m + i)
  | some .acquire => [claimOf 6 (pBuffer m)]
  | some .transfer => [claimOf 7 (pDma m)]
  | some .cal =>
    claimOf 8 0 :: (if bitOf (pClasses m) 2 ∧ pUnit m < 12 then
      (List.range 16).map fun i => claimOf 5 (16 * pUnit m + i) else [])
  | some .levels => [claimOf 9 (pGroup m)]
  | some .dps => (dpsList (pDpsMask m)).map (claimOf 4)
  | some .lane => ((laneList m ++ clockLanes s m).dedup).map (claimOf 10)
  | none => []

/-- The units an item claims or counts as claiming (R64, R183, R195, R211, R229, R241, R337). The unit that a CAL item
calibrates is not among them: it holds that unit in MAINTENANCE. -/
def claimUnits (s : State) (l : Slot) : List Nat :=
  let m := l.msg
  match l.kind with
  | some .burst => pebsOfSites s (pSites m)
  | some .measure => [if pMseq m < 12 then pMseq m else unitDps (pMseq m - 12), unitSeq (pMseq m)]
  | some .tdc => [unitTdc]
  | some .acquire => [if pSource m = 0 then pConverter m / 8 else unitDps (pConverter m / 12)]
  | some .transfer => []
  | some .cal => if bitOf (pClasses m) 2 ∧ pUnit m < 12 then [unitTdc] else []
  | some .levels => groupPebs s (pGroup m) ++ ((groupDps s (pGroup m)).map fun n => unitDps (n / 12)).dedup
  | some .dps => ((dpsList (pDpsMask m)).map fun n => unitDps (n / 12)).dedup
  | some .lane => [unitLg (pLaneGroup m)]
  | none => []

/-- The units a CAL item holds in MAINTENANCE: its own, and for class TDC every PEB that is on (R16, R241). -/
def heldUnits (s : State) (l : Slot) : List Nat :=
  match l.kind with
  | some .cal =>
    pUnit l.msg :: (if bitOf (pClasses l.msg) 5 then (List.range 12).filter fun p => s.power.pdOn.getLsbD (14 + p)
      else [])
  | _ => []

/-- Every unit an item touches: claimed or held. -/
def touchedUnits (s : State) (l : Slot) : List Nat := claimUnits s l ++ heldUnits s l

/-- Do two items' claims meet? A CAL item's held units exclude every claim of them (R15, R16). -/
def conflict (s : State) (a b : Slot) : Bool :=
  (claims s a).any (claims s b).contains
    || (heldUnits s a).any (touchedUnits s b).contains || (heldUnits s b).any (touchedUnits s a).contains

/-- May a kind be dispatched in the mode (Table 4.1)? In CALIBRATE only the CAL items Spabry submitted (R58). Once
OPC_DISARM is taken, ARMED has none left to dispatch but CAL and TRANSFER (log 147). -/
def kindAllowed (s : State) (l : Slot) : Bool :=
  match s.dev.mode with
  | .armed => ! s.dev.disarming || l.kind = some .cal || l.kind = some .transfer
  | .run => true
  | .idle | .pause => l.kind = some .cal || l.kind = some .transfer
  | .calibrate => l.kind = some .cal && l.own
  | _ => false

/-- Is an OFFLINE unit one that its own CAL item may take to MAINTENANCE: its domain on with no switch-off ordered, the
unit neither faulted nor waiting for a relock (R32, R63, R411)? -/
def calibratable (s : State) (u : Nat) : Bool :=
  (match unitDomain u with | some d => s.power.pdOn.getLsbD d | none => false)
    && ! (match unitDomain u with | some d => s.power.pdOffOrd.getLsbD d | none => false)
    && ! (unitOf s u).faulted && ! (unitOf s u).lossOff

/-- May a CAL item take its own unit as it stands (R16, R63)? One that is ACTIVE; one that is OFFLINE since its domain
came on, for an item of Spabry with every class that applies (R411); one that a host request holds, for the calibration
of its action (R374, R375). -/
def takesUnit (s : State) (l : Slot) : Bool :=
  let u := pUnit l.msg
  let v := unitOf s u
  match unitState s u with
  | .active => true
  | .offline => l.own && pClasses l.msg = classesOf u && calibratable s u
  | .maintenance =>
    l.own && l.act && ! v.lossOff && ! v.cycling && ! v.toOff
      && (match v.holder with
        | .host _ d => ! d
        | _ => false)
  | .quiescing => false

/-- The unit states dispatch asks for: claimed units ACTIVE, the item's own unit one that it may take. A PEB that a TDC
class holds besides is ACTIVE; one that waits for its first calibration stays OFFLINE, one that a fault or a failed
calibration has taken OFFLINE keeps the item waiting (R64, R241; log 39). -/
def unitsReady (s : State) (l : Slot) : Bool :=
  (claimUnits s l).all (fun u => unitState s u = .active)
    && (heldUnits s l).all fun u =>
      if u = pUnit l.msg then takesUnit s l
      else unitState s u = .active || (unitState s u = .offline && ! (unitOf s u).faulted)

/-- The units that lose their clock with the root: PEBs, lane groups and the TDC array (R46). -/
def clockedUnit (u : Nat) : Bool := u < 12 || (0x200 ≤ u && u < 0x204) || u = 0x300

/-- Does an item claim or hold a unit that the loss of the clock has stopped (R47)? -/
def stoppedUnits (s : State) (l : Slot) : Bool := s.clock.lost && (touchedUnits s l).any clockedUnit

/-- Does an item wait for the recalibration of a unit that a relock has marked? All do but Spabry's CAL items (R184,
R242). -/
def waitsMark (s : State) (l : Slot) : Bool :=
  ! (l.own && l.kind = some .cal) && (touchedUnits s l).any fun u => (unitOf s u).marked

/-- A CAL item that Spabry submitted for a unit that is not ACTIVE, or that a relock has marked, goes ahead of queued
items that wait for that unit or for the marks (R184, R411, R64; log 31); it overtakes no other (R15). -/
def calAhead (s : State) (l : Slot) (o : Slot) : Bool :=
  let u := pUnit l.msg
  l.own && l.kind = some .cal
    && ((unitState s u ≠ .active && takesUnit s l && (touchedUnits s o).contains u
        && ! (o.kind = some .cal && pUnit o.msg = u && takesUnit s o))
      || ((unitOf s u).marked && waitsMark s o))

/-- Does the item need the precision reference: ADC, levels, PMU or DPS class (R333)? -/
def needsReference (classes : Nat) : Bool := [4, 0, 1, 3].any (bitOf classes)

/-- Is the reference usable: at full accuracy, and not waited for after an error (R333, Table 19.2)? -/
def refUsable (s : State) : Bool := s.power.refFull && s.house.refWait.isNone

/-- Does a CAL item wait for the reference, holding no claim? One that needs it waits for its accuracy (R333); in
CALIBRATE with PD31 in the start mask every one does (R77); after an error of the reference every one waits until it has
read true for ten rounds (Table 19.2). -/
def refWaits (s : State) (l : Slot) : Bool :=
  l.kind = some .cal && ! refUsable s
    && (s.house.refWait.isSome || needsReference (pClasses l.msg)
      || (s.dev.mode = .calibrate && s.dev.startMask.getLsbD 31))

/-- Nothing in flight and nothing queued before it claims the same (R15). -/
def claimsFree (s : State) (i : Nat) : Bool :=
  let l := slotOf s i
  s.ledger.all fun e =>
    e.1 = i || ¬ conflict s l e.2
      || ¬ (inFlight e.2 || (e.2.st = .queued && e.2.order < l.order && ! calAhead s l e.2 && ! refWaits s e.2))

/-- Headwater-timed items wait for SYNCED while a sync mode is set (R52). -/
def syncReady (s : State) (l : Slot) : Bool :=
  ¬ (pStartAt l.msg && s.hw.syncMode ≠ 0 && s.hw.status ≠ .synced)

/-- The throttling hold window holds BURST and LANE dispatch (R346). -/
def throttleReady (s : State) (l : Slot) : Bool :=
  ¬ (s.house.window && (l.kind = some .burst || l.kind = some .lane))

/-- May the item in slot i be dispatched as kind k? During a relock that a request started, queued items wait (R44);
after a loss, items that claim no stopped unit are dispatched as usual (R47). -/
def canDispatch (s : State) (i : Nat) (k : Kind) : Bool :=
  let l := slotOf s i
  l.st = .queued && l.kind = some k && spabryUp s && s.dev.mode ≠ .service && ¬ (s.clock.relocking && ¬ s.clock.lost)
    && kindAllowed s l && unitsReady s l && claimsFree s i && syncReady s l && throttleReady s l && ! refWaits s l && ! waitsMark s l
    && ! stoppedUnits s l

/-- The dispatch itself: IN_FLIGHT with T_START; ARMED becomes RUN for a kind other than CAL and TRANSFER. -/
def takeItem (s : State) (i : Nat) : State :=
  let s := modSlot s i fun l => { l with st := .inFlight, tStart := stamp s }
  if working (slotOf s i) ∧ s.dev.mode = .armed then setMode s .run else s

end Sys2Proof.Machine
end

