-- ==== Sys2Proof/Machine/Levels.lean ====
section
/-! DEFINITION. Level DACs, corrections, strobes, clear codes, and what a converter's LSB is worth (R188 to R196, R35,
R254). -/

namespace Sys2Proof.Machine

/-- Keys of the DACs: level d (Table 6.13) of a channel, its PMU force DAC, the clamps (5 high, 6 low) of a clamp group,
the set point of a DPS channel. Corrections are keyed the same. -/
def dacKey (ch d : Nat) : Nat := ch * 16 + d
def forceKey (ch : Nat) : Nat := ch * 16 + 8
def clampKey (g d : Nat) : Nat := 0x4000 + g * 16 + d
def dpsKey (n : Nat) : Nat := 0x5000 + n * 16 + 7

def dacOf (s : State) (k : Nat) : Dac := tget {} s.dacs k
def modDac (s : State) (k : Nat) (f : Dac → Dac) : State := { s with dacs := tmod {} s.dacs k f }
def corrOf (s : State) (k : Nat) : Corr := tget {} s.corrs k

/-- nV per LSB of the linearity table's grid: 16 coarse segments of 256 codes (R189). -/
def linStep : Nat := 320000000

/-- lin(value) × linStep, interpolated between the two points about a value in nV (R189). -/
def linScaled (c : Corr) (v : Int) : Int :=
  let x := clampTo 0 (16 * linStep - 1) (v + 1280000000)
  let i := (x / linStep).toNat
  let a := c.lin.getD i 0
  a * linStep + (c.lin.getD (i + 1) 0 - a) * (x - i * linStep)

/-- The code of a value in µV with a DAC's corrections (R189). -/
def codeFor (c : Corr) (uv : Int) : BitVec 16 :=
  let v := uv * 1000
  let num := ((v - c.e) * linStep - linScaled c v) * 1000000000 + 1280000000 * linStep * (1000000000 + c.g)
  BitVec.ofNat 16 (clampTo 0 65535 (roundDiv num (linStep * (1000000000 + c.g).toNat * 78125))).toNat

/-- The code of a current in ppm of the range: 0x8000 is 0 A, one code 2.5 × range / 65,536 (Table 10.2). -/
def currentCode (ppm : Int) : BitVec 16 :=
  BitVec.ofNat 16 (clampTo 0 65535 (0x8000 + roundDiv (ppm * 65536) 2500000)).toNat

/-- The code at the output: the clear code while CLR_N or reset holds it (R35, R196), a sine's (R207), or the active
code. -/
def outputCode (d : Dac) (current : Bool) : BitVec 16 :=
  if d.held then (if current then d.clearI else d.clear) else d.sineCode.getD d.active

/-- The output a DPS set-point DAC asks for, in 2^-32 µV: codes below 0x4000 give 0 V (R277). -/
def setOfCode (c : BitVec 16) : Nat := (c.toNat - 0x4000) * 78125 * 2 ^ 32 / 1000
def setOfDac (d : Dac) : Nat :=
  if d.held then setOfCode d.clear
  else match d.activeV with
    | some v => v.toNat * 2 ^ 32
    | none => setOfCode d.active

/-- The DACs of a load group's members: 320 level DACs and 16 clamp DACs of each PEB, the set points (R192). -/
def pebDacs (p : Nat) : List Nat :=
  ((List.range 64).flatMap fun c => (List.range 5).map fun d => dacKey (64 * p + c) d)
    ++ (List.range 8).flatMap fun g => [clampKey (8 * p + g) 5, clampKey (8 * p + g) 6]
def groupDacs (s : State) (g : Nat) : List Nat := (groupPebs s g).flatMap pebDacs ++ (groupDps s g).map dpsKey

/-- Is a DPS channel named by a DPS item in flight? -/
def dpsBusy (s : State) (n : Nat) : Option Nat :=
  (slotsWhere s fun l => inFlight l && l.kind = some .dps && bitOf (pDpsMask l.msg) n).head?

/-- Highest SLEW of a DPS range in µV/µs (Table 15.1). -/
def slewLimit (r : Nat) : Nat := [100000, 100000, 20000, 5000, 1000, 200].getD r 0

/-- A set point moved toward a target. -/
def towards (x target k : Nat) : Nat := if x ≤ target then min target (x + k) else max target (x - k)

/-- A channel's set point is slewed to a value (R278). -/
def slewTo (x : Nat) (d : Dps) : Dps := { d with goal := if d.set = x then none else some x }

/-- Is a channel being ramped: by an item that has begun and that the current manager has admitted (R280, R286)? -/
def ramping (s : State) (n : Nat) : Bool :=
  match dpsBusy s n with
  | some i => ! (slotOf s i).armed && ! (slotOf s i).budget
  | none => false

/-- The set point follows its DAC: at the slew limit on an enabled channel, after the item on one being ramped
(R278, Table 15.3). -/
def followDac (s : State) (n : Nat) : State :=
  if ramping s n then modDps s n fun d => { d with strobed := true }
  else if (dpsOf s n).enabled then modDps s n (slewTo (setOfDac (dacOf s (dpsKey n))))
  else s

/-- Was a code that an output has left active during the preceding 2 µs (R197)? -/
def recentCode (s : State) (e : BitVec 16 × Count) : Bool :=
  (stamp s - e.2).toNat * 2 ^ 20 < 2 * 6400 * s.clock.mLock.toNat

/-- A change of a DAC from d to d'; a code that its output leaves stays known for the converters that read it back
(R197). current: the DAC is a PMU force DAC in current mode. -/
def leaving (s : State) (current : Bool) (d d' : Dac) : Dac :=
  if outputCode d current = outputCode d' current then d'
  else { d' with past := (outputCode d current, stamp s) :: d.past.filter (recentCode s) }

/-- The codes an output may be expected at: the clear code while it is held there, else the one that is active and those
that were in the preceding 2 µs (R197). -/
def expectedCodes (s : State) (d : Dac) (current : Bool) : List Nat :=
  (outputCode d current).toNat :: if d.held then [] else (d.past.filter (recentCode s)).map (·.1.toNat)

/-- The band of ±20 mV about the codes expected, in codes of 78.125 µV, and a reading of 12 bits in it (R197). -/
def readFits (codes : List Nat) (read : Nat) : Bool :=
  codes.any (· ≤ 16 * read + 256) && codes.any (16 * read ≤ · + 256)

/-- The DAC that a DAC_READBACK names for a channel (Table 19.3), and whether it is a PMU force DAC in current mode. -/
def readbackDac (ch d : Nat) : Option (Nat × Bool) :=
  if d < 5 then some (dacKey ch d, false)
  else if d < 7 then some (clampKey (ch / 8) d, false)
  else if d = 8 ∨ d = 9 then some (forceKey ch, d = 9)
  else none

/-- What a clamp group's monitoring converter reads with the corrections in force (R340): converter 8 + g of its PEB. -/
def moncReading (s : State) (group read : Nat) : Nat :=
  let c := (List.range 19).map fun j => tget 0 s.press.gen (4 * 2 ^ 24 + group / 8 * 1024 + (8 + group % 8) * 19 + j)
  (clampTo 0 4095 (Config.correction c [] read)).toNat

/-- Does the monitoring converter of a clamp group find the DAC that a DETAIL names in its band? It reads no DAC of
another group (R197). -/
def readInBand (s : State) (group detail read : Nat) : Bool :=
  let ch := bitsOf detail 9 0
  match readbackDac ch (bitsOf detail 19 16) with
  | some (k, current) =>
    ch / 8 ≠ group || readFits (expectedCodes s (dacOf s k) current) (moncReading s group read)
  | none => true

/-- One DAC's transfer at a strobe; CLR_N low keeps the output at the clear code (R35, R193). -/
def transferDac (s : State) (d : Dac) : Dac :=
  let clrLow := s.power.clrLow
  leaving s false d
    { d with active := d.shadow, activeV := d.value, dirty := false, slew := none, held := clrLow, byClr := clrLow }

/-- A LOAD strobe of a group (R193). -/
def strobeGroup (s : State) (g : Nat) : State :=
  let s' := { s with dacs := tmods {} s.dacs (groupDacs s g) fun _ d => transferDac s d }
  (groupDps s g).foldl followDac s'

/-- Writes a DAC's shadow (R192). -/
def writeShadow (code : BitVec 16) (uv : Int) (d : Dac) : Dac :=
  { d with shadow := code, value := some uv, dirty := true }

/-- A sequencer's write of a PMU force DAC, which has no shadow (R192, R35). -/
def writeForce (s : State) (ch : Nat) (code : BitVec 16) (uv : Option Int) : State :=
  let clrLow := s.power.clrLow
  modDac s (forceKey ch) fun d =>
    leaving s (chanOf s ch).pmuFi d { d with active := code, activeV := uv, slew := none, held := clrLow }

/-- Writes a clamp code of a clamp group (FORCE_OP 7, snapshot). A clamp DAC belongs to its PEB's load group: an output
that stands at its clear code stays there until that group strobes (R35, R192). -/
def writeClamp (s : State) (g d : Nat) (code : BitVec 16) (uv : Option Int) : State :=
  modDac s (clampKey g d) fun x => leaving s false x { x with active := code, activeV := uv, slew := none }

/-- Full scale of the ranges in fA: PMU 0 to 4 (Table 10.6), DPS 0 to 5 (Table 15.1). -/
def pmuRange : Nat → Nat
  | 0 => 2 * 10 ^ 9 | 1 => 2 * 10 ^ 10 | 2 => 2 * 10 ^ 11 | 3 => 2 * 10 ^ 12 | _ => 4 * 10 ^ 13
def dpsRange : Nat → Nat
  | 0 => 10 ^ 15 | 1 => 10 ^ 14 | 2 => 10 ^ 13 | 3 => 10 ^ 12 | 4 => 10 ^ 11 | _ => 10 ^ 10

/-- One slot of a converter in LSB of the Headwater count (R253). -/
def slotLsb : Nat := 256000

/-- Does the conversion that completes now overlap a change of range or mode: one under way, or one that ended after the
start of the conversion's slot (R206, R252; log 98)? -/
def overlapsChange (s : State) (ranging : Bool) (ended : Option Count) : Bool :=
  ranging || (s.hw.running && (match ended with | some t => (s.hw.count - t).toNat < slotLsb | none => false))

/-- A conversion in 1/524288 of nV or fA, from converter LSB (R254): 19.53125 µV, or 2.5 × range / 262,144. -/
def physical (current : Bool) (rangeFA : Nat) (v : Int) : Int :=
  if current then v * 5 * rangeFA else v * 78125 * 131072
def physUnit : Nat := 524288

/-! Corrections applied after conversion (R340), in the places of Press's table (see corrValue). -/

/-- Offset, gain and linearity of a unit's converter (Table 18.1, class ADC). -/
def converterCorr (gen : Tab Int) (unit conv : Nat) : List Int :=
  (List.range 19).map fun j => tget 0 gen (4 * 2 ^ 24 + unit * 1024 + conv * 19 + j)

/-- Offset and gain of a PMU's measure path, 16 places a channel, or of a DPS channel's sense, 32 places: two for each
current range, the last two for the voltage. -/
def pathCorr (gen : Tab Int) (dps current : Bool) (n range : Nat) : List Int :=
  let k := if dps then 3 * 2 ^ 24 + 2 ^ 23 + unitDps (n / 12) * 1024 + n % 12 * 32 + (if current then 2 * range else 30)
    else 2 ^ 24 + 2 ^ 23 + n * 16 + (if current then 2 * range else 14)
  [tget 0 gen k, tget 0 gen (k + 1)]

/-- A reading of 20 bits, two's complement, after its corrections. -/
def corrected (converter path : List Int) (v : Int) : Int :=
  clampTo (-524288) 524287 (Config.correction converter path v)

/-- What a conversion of an MADC's or a DADC's input reads with the corrections of its item. -/
def reading (gen : Tab Int) (dadc : Bool) (conv input : Nat) (current : Bool) (range : Nat) (v : Int) : Int :=
  if dadc then corrected (converterCorr gen (unitDps (conv / 12)) (conv % 12)) (pathCorr gen true current conv range) v
  else corrected (converterCorr gen (conv / 8) (conv % 8)) (pathCorr gen false current (8 * conv + input) range) v

/-! LEVELS items (R193, R195). -/

/-- A pausable item whose action has not begun meets a pause that is asked for: it holds at once (R62). -/
def holdAsked (s : State) (slot : Nat) : State :=
  if s.dev.pauseReq ∧ (slotOf s slot).st = .inFlight then
    settleMode (modSlot s slot fun l => { l with st := .held })
  else s

/-- The strobe of a LEVELS item, and its end (R36, Table 5.10, Table 6.8). -/
def fireLevels (s : State) (slot : Nat) : State :=
  let t := (stamp s).toNat
  let clr := s.power.clrLow
  let s := strobeGroup s (pGroup (slotOf s slot).msg)
  endItem s slot none fun l =>
    let l := { l with progress := 1, result := BitVec.ofNat 64 t }
    if clr then flagSlot fClrHeld l else l

/-- Is START_TIME past, so that the action takes place at once with TIME_PAST (R52)? -/
def timePast (s : State) (slot : Nat) : Bool := countPast (stamp s) (pStartTime (slotOf s slot).msg)

/-- Arms a Headwater-timed action, with TIME_PAST where its time has passed already; true where it fires at once, the
timing clock running (R52). -/
def armItem (s : State) (slot : Nat) : State × Bool :=
  let l := slotOf s slot
  if ¬ pStartAt l.msg then (s, true)
  else if timePast s slot then
    if syncReady s l ∧ s.clock.locked then (modSlot s slot (flagSlot fTimePast), true)
    else (modSlot s slot fun l => flagSlot fTimePast { l with armed := true }, false)
  else (modSlot s slot fun l => { l with armed := true }, false)

/-- LEVELS_DISPATCH (R193): the strobe fires, or is armed at START_TIME or on an edge of TRIG_IN. -/
def execLevelsDispatch (slot : Nat) (s : State) : Out :=
  if canDispatch s slot .levels then
    let s := takeItem s slot
    if pStrobe (slotOf s slot).msg ≠ 0 then .next (modSlot s slot fun l => { l with armed := true })
    else
      let (s, now) := armItem s slot
      .next (if now then fireLevels s slot else s)
  else .next s

end Sys2Proof.Machine
end

