-- ==== Sys2Proof/Machine/Mseq.lean ====
section
/-! DEFINITION. Measurement sequencers: the microword, its operations, safe points, the unwind, and MEASURE items
(chapter 11). -/

namespace Sys2Proof.Machine

def seqOf (s : State) (q : Nat) : Seq := tget {} s.seqs q
def modSeq (s : State) (q : Nat) (f : Seq → Seq) : State := { s with seqs := tmod {} s.seqs q f }

/-- The field hi:lo of a microword (Table 11.1). -/
def mw (w : BitVec 144) (hi lo : Nat) : Nat := bitsOf w.toNat hi lo

/-! Fetch (R215, R216). -/

/-- The microword at a ROM address: word 0 is a GO to itself with SAFE, word 0x0010 UNWIND_DONE alone; the rest is the
catalogue's content, which the spec does not list (log 14). -/
def romWord (a : BitVec 14) : BitVec 144 :=
  if a = 0 then BitVec.ofNat 144 (2 ^ 104)
  else if a = 0x10 then BitVec.ofNat 144 (5 * 2 ^ 105)
  else Config.romWord a

/-- The stored word at an address. -/
def storedWord (x : Seq) (a : BitVec 14) : BitVec 144 :=
  if a.toNat < 0x2000 then romWord a
  else if a.toNat < 0x2800 then tget 0 x.store (a.toNat - 0x2000)
  else 0

/-- The word executed at an address: a patch word where an enabled match register holds the address. -/
def fetchWord (x : Seq) (a : BitVec 14) : BitVec 144 :=
  match (List.range 16).find? fun m =>
      (tget 0 x.matches_ m).getLsbD 20 && (tget 0 x.matches_ m).toNat % 0x4000 = a.toNat with
  | some m => tget 0 x.patch ((tget 0 x.matches_ m).toNat / 0x4000 % 64)
  | none => storedWord x a

/-! Targets. -/

/-- Does the sequencer serve a DPS group? -/
def seqDps (q : Nat) : Bool := 12 ≤ q

/-- The targets a word selects, as channels or DPS channels. -/
def selected (q : Nat) (x : Seq) (w : BitVec 144) : List Nat :=
  if mw w 54 54 = 1 then x.targets
  else
    let t := (if seqDps q then 12 * (q - 12) else 64 * q) + mw w 53 48
    if x.targets.contains t then [t] else []

def tgtOf (x : Seq) (t : Nat) : Target := tget {} x.tgt t

/-- The range in force at a target, its full scale, and whether a range or mode change is under way. -/
def tgtRange (s : State) (q t : Nat) : Nat := if seqDps q then (dpsOf s t).range else (chanOf s t).range
def tgtFull (s : State) (q t : Nat) : Nat := if seqDps q then dpsRange (tgtRange s q t) else pmuRange (tgtRange s q t)
def tgtRanging (s : State) (q t : Nat) : Bool := if seqDps q then (dpsOf s t).ranging else (chanOf s t).ranging

/-- Does the conversion of a target that completes now carry RANGING (R206, R252)? -/
def convRanging (s : State) (q t : Nat) : Bool :=
  overlapsChange s (tgtRanging s q t) (if seqDps q then (dpsOf s t).tRange else (chanOf s t).tRange)

/-! Conditions and the next address (R213, R214). -/

/-- WAKE: some monitor of the PEB with the wake route is HIGH (R201). -/
def wakeInput (s : State) (q : Nat) : Bool :=
  ! seqDps q && (List.range 64).any fun c =>
    (chanOf s (64 * q + c)).mon.route.getLsbD 2 && (chanOf s (64 * q + c)).mon.st = some true

/-- Is the condition of a code of Table 11.2 true for the word? -/
def condition (s : State) (q : Nat) (w : BitVec 144) (code : Nat) : Bool :=
  let x := seqOf s q
  let sel := selected q x w
  let tg := sel.map (tgtOf x)
  match code with
  | 1 => true
  | 2 => tg.all (·.cmp = 1)
  | 3 => tg.any fun t => t.cmp = 2 || t.cmp = 4
  | 4 => tg.any fun t => t.cmp = 3 || t.cmp = 4
  | 5 => tg.any (·.clamp)
  | 6 => sel.any (tgtRanging s q)
  | 7 => tget 0 x.ctrs 0 = 0
  | 8 => tget 0 x.ctrs 1 = 0
  | 9 => tget 0 x.ctrs 2 = 0
  | 10 => tget 0 x.ctrs 3 = 0
  | 11 => x.timer = 0
  | 12 => tg.all fun t => t.want = 0 && t.got
  | 13 => x.reqHost
  | 14 => x.reqPause
  | 15 => x.reqFault
  | 16 => wakeInput s q
  | 17 => match tg.head? with | some t => t.acc < 0 | none => false
  | 18 => match tg.head? with | some t => t.acc = 0 | none => false
  | 19 => match x.targets.getLast? with
      | some t => mw w 54 54 = 0 && (if seqDps q then 12 * (q - 12) else 64 * q) + mw w 53 48 = t
      | none => false
  | _ => false

/-- The formed address: NEXT OR the WAYS condition bits (R214). -/
def formedAddr (s : State) (q : Nat) (w : BitVec 144) : BitVec 14 :=
  let c (hi lo : Nat) : Nat := b2n (condition s q w (mw w hi lo))
  let ways := mw w 129 128
  let bits := (if 1 ≤ ways then c 112 108 else 0) + (if 2 ≤ ways then 2 * c 117 113 else 0)
    + (if 3 ≤ ways then 4 * c 122 118 + 8 * c 127 123 else 0)
  BitVec.ofNat 14 (mw w 143 130 ||| bits)

/-! The operations of a word. A value no rule gives for an operand (an argument register past A15, a range code past 4,
a quotient by zero) is the free value v of the word (log 13). -/

/-- An argument register as a signed number. -/
def argReg (x : Seq) (v : Int) (k : Nat) : Int := if k < 16 then signed 32 (tget (0 : Word) x.args k).toNat else v

/-- The operand of FORCE_OP 1 for a target: µV in FV, ppm of the range in FI (R224); accumulator and result registers
hold nV or fA, which are taken to µV or to ppm of the range (log 27). -/
def forceOperand (s : State) (q : Nat) (x : Seq) (w : BitVec 144) (v : Int) (t : Nat) : Int :=
  let phys (a : Int) : Int :=
    if (chanOf s t).pmuFi then roundDiv (a * 1000000) (physUnit * tgtFull s q t) else roundDiv a (physUnit * 1000)
  match mw w 63 62 with
  | 0 => signed 32 (mw w 95 64)
  | 1 => argReg x v (mw w 61 58)
  | 2 => phys (tgtOf x t).acc
  | _ => phys (tget 0 (tgtOf x t).res (mw w 41 38))

/-- Connects the PMU of a channel (R187, Table 10.7): disconnect and PMU switch closed, driver off, load released. -/
def connectPmu (x : Chan) : Chan := { x with closed := true, pmuOn := true, drvOn := false, released := true }
/-- Opens the PMU switch: the disconnect returns to what OPC_ARM left (Table 11.8, PMU_RELEASE; log 28), and termination
and load are as the symbol in force and a unit safe state have them (R191, R209). -/
def releasePmu (safe : Bool) (x : Chan) : Chan := { x with pmuOn := false, closed := x.armed, released := safe || x.last = 5 }

/-- Sets mode or range with the change under way until RANGE_CHANGE_DONE (R206). A mode or range change writes the force
DAC, and so ends a hold of CLR_N (R35) and acts as it would without a sine (R208). -/
def setPmuMode (s : State) (t : Nat) (fi : Bool) : State :=
  if (chanOf s t).pmuFi = fi then s
  else
    let clrLow := s.power.clrLow
    modDac (modChan s t fun x => { x with pmuFi := fi, ranging := true }) (forceKey t) fun d =>
      { d with held := clrLow, sineCode := none }
def setPmuRange (s : State) (t r : Nat) : State :=
  if (chanOf s t).range = r then s
  else
    let clrLow := s.power.clrLow
    modDac (modChan s t fun x => { x with range := r, ranging := true }) (forceKey t) fun d =>
      { d with held := clrLow, sineCode := none }

/-- Is the unit that a channel belongs to in its unit safe state, by a CONTAINED fault or in SAFE, so that no switch of
it closes (R17, R221)? In BYPASS the outputs stay in their IDLE states too (R61). A unit that is QUIESCING, or OFFLINE by
a loss of the clock, is not. -/
def unitSafe (s : State) (t : Nat) : Bool :=
  s.dev.mode = .safe || s.dev.mode = .bypass || (unitState s (t / 64) = .offline && (unitOf s (t / 64)).faulted)

/-- Sets a force value: µV in FV, ppm of the range in FI. -/
def setForce (s : State) (t : Nat) (v : Int) : State :=
  if (chanOf s t).pmuFi then writeForce s t (currentCode v) none
  else writeForce s t (codeFor (corrOf s (forceKey t)) v) (some v)

/-- FORCE_OP on one target. -/
def forceOp (s : State) (q : Nat) (x : Seq) (w : BitVec 144) (v : Int) (t : Nat) : State :=
  match mw w 57 55 with
  | 0 => s
  | 1 => setForce s t (forceOperand s q x w v t)
  | 2 => setPmuMode s t false
  | 3 => setPmuMode s t true
  | 4 => setPmuRange s t (if mw w 66 64 ≤ 4 then mw w 66 64 else (v % 5).toNat)
  | 5 => if unitSafe s t then s else modChan s t connectPmu
  | 6 => modChan s t (releasePmu (unitSafe s t))
  | _ =>
    let hi := argReg x v (mw w 61 58)
    let lo := argReg x v (mw w 61 58 + 1)
    let g := t / 8
    writeClamp (writeClamp s g 5 (codeFor (corrOf s (clampKey g 5)) hi) (some hi)) g 6
      (codeFor (corrOf s (clampKey g 6)) lo) (some lo)

/-- The status word of a channel's window monitor (Table 11.7, UNIT 2). -/
def monWord (m : Wmon) : Int :=
  let st := match m.st with | some false => 0 | some true => 1 | none => 2
  (st + (if m.stuck then 4 else 0) + m.coal.toNat * 2 ^ 32 : Nat)

/-- Puts a value into RES[r]; entry 16 + r holds its unit (Table 11.7). -/
def putRes (t : Target) (r : Nat) (v : Int) (unit : Nat) : Target :=
  { t with res := tset 0 (tset 0 t.res r v) (16 + r) unit }
def resUnit (t : Target) (r : Nat) : Nat := (tget 0 t.res (16 + r)).toNat

/-- A load code: codes above 240 act as 240 (Table 10.3). -/
def loadCode (imm : Nat) : Byte := BitVec.ofNat 8 (min 240 (imm % 256))

/-- CFG_OP on one channel of a PEB (Table 11.1): the configuration of R186, and the monitor's status. -/
def cfgOp (s : State) (q : Nat) (w : BitVec 144) (t : Nat) : State :=
  match mw w 31 28 with
  | 1 => modChan s t fun x => { x with term := mw w 65 64 }
  | 2 => modChan s t fun x => { x with srcCode := loadCode (mw w 71 64) }
  | 3 => modChan s t fun x => { x with sinkCode := loadCode (mw w 71 64) }
  | 4 =>
    let m := monWord (chanOf s t).mon
    modSeq s q fun x => { x with tgt := tmod {} x.tgt t fun y => putRes y (mw w 41 38) m 2 }
  | _ => s

/-- Compares the accumulator with the limits A[LIM_SEL] and A[LIM_SEL + 1], in µV or in ppm of the range. Limits out of
order can both be broken. -/
def compareAcc (full : Nat) (lo hi : Int) (t : Target) : Nat :=
  let a := t.acc * 1000000
  let unit : Int := if t.unit = 1 then full * physUnit else 1000000000 * physUnit
  if hi * unit < a then (if a < lo * unit then 4 else 2) else if a < lo * unit then 3 else 1

/-- ALU_OP on one target. -/
def aluOp (full : Nat) (x : Seq) (w : BitVec 144) (v : Int) (t : Target) : Target :=
  match mw w 44 42 with
  | 1 => { t with acc := 0, n := 0, excl := 0, keptClamp := false }
  | 2 =>
    if t.rang then { t with excl := t.excl + 1 }
    else
      { t with
        acc := t.acc + t.value, unit := if t.current then 1 else 0, n := t.n + 1, keptClamp := t.keptClamp || t.clamp }
  | 3 => { t with acc := if t.n = 0 then v else roundDiv t.acc t.n }
  | 4 => { t with cmp := compareAcc full (argReg x v (mw w 37 34)) (argReg x v (mw w 37 34 + 1)) t }
  | 5 => putRes t (mw w 41 38) t.acc t.unit
  | 6 => { t with acc := tget 0 t.res (mw w 41 38), unit := resUnit t (mw w 41 38) }
  | _ => t

/-- A staged result entry of a target (Table 11.7). SAMPLES and EXCLUDED beyond 16 bits have no stated value: the free
value. -/
def stageEntry (q : Nat) (w : BitVec 144) (v : Int) (t : Nat) (y : Target) : Entry :=
  let r := mw w 41 38
  let cut (n : Nat) : Nat := if n < 65536 then n else (v % 65536).toNat
  { target := (if seqDps q then 0x1000 + t else t),
    unit := resUnit y r,
    status := BitVec.ofNat 8 (b2n (y.cmp = 1) + 2 * b2n (y.cmp = 2 ∨ y.cmp = 4) + 4 * b2n (y.cmp = 3 ∨ y.cmp = 4)
      + 8 * b2n y.keptClamp + 16 * b2n (y.cmp ≠ 0)),
    samples := cut y.n, excl := cut y.excl, range := y.range,
    value := (if resUnit y r = 2 then tget 0 y.res r else roundDiv (tget 0 y.res r) physUnit),
    time := y.time }

/-- The bytes of a committed entry (Table 11.7). -/
def entryBytes (step : Nat) (e : Entry) : List Byte :=
  le 2 e.target ++ le 2 step ++ le 1 e.unit ++ le 1 e.status.toNat ++ le 2 e.samples ++ le 2 e.excl ++ le 1 e.range
    ++ zeros 5 ++ leInt 8 e.value ++ le 8 e.time.toNat

/-- The result block's header (Table 11.6). -/
def measHeader (s : State) (slot : Nat) (x : Seq) (unwound : Bool) : List Byte :=
  let m := (slotOf s slot).msg
  le 2 (itemId s slot) ++ le 1 (pMseq m) ++ le 1 (pStore m) ++ le 2 (pRoutine m) ++ le 1 (b2n unwound) ++ zeros 1
    ++ le 4 x.steps ++ le 4 x.entries ++ le 8 x.tFirst.toNat ++ le 8 x.tLast.toNat ++ zeros 32

/-- The entry count that Table 11.8 gives for a routine of the ROM; none for a routine of the writable store. -/
def entryLimit (m : Msg) (x : Seq) : Option Nat :=
  let k := x.targets.length
  let arg (n : Nat) : Nat := (tget (0 : Word) x.args n).toNat
  if pStore m ≠ 0 then none
  else
    let steps := ([(0x0100, 0), (0x0140, 0), (0x0180, 0), (0x0300, 2), (0x0400, arg 2), (0x0480, arg 4),
      (0x0580, arg 1 % 2 + arg 1 / 2 % 2)].find? fun e => e.1 = pRoutine m).map Prod.snd
    some (steps.getD 1 * k)

/-- A STEP word: the staged entries are written, no more of them than the routine's count, then the header; PROGRESS
counts the step (R225). A routine whose item has ended commits no more. -/
def commitStep (s : State) (q : Nat) (item : Option Nat) : State :=
  match item with
  | none => modSeq s q fun y => { y with staged := [] }
  | some slot =>
    let x := seqOf s q
    let m := (slotOf s slot).msg
    let a := pAddr56 m
    let staged := match entryLimit m x with | some n => x.staged.take (n - x.entries) | none => x.staged
    let s := modSlot s slot fun l => { l with afar := l.afar || (! staged.isEmpty && isRemote s a) }
    let s := memWrite s (a + 64 + 32 * x.entries) (staged.flatMap (entryBytes x.steps))
    let s := modSeq s q fun y => { y with
      staged := [], steps := y.steps + 1, entries := y.entries + staged.length
      tLast := match staged.getLast? with | some e => e.time | none => y.tLast }
    let s := memWrite s a (measHeader s slot (seqOf s q) false)
    modSlot s slot fun l => { l with progress := l.progress + 1 }

/-! The converters' turns (R18, R227, Table 1.4). -/

def acqOf (s : State) (k : Nat) : Acq := tget {} s.acqs k
def modAcq (s : State) (k : Nat) (f : Acq → Acq) : State := { s with acqs := tmod {} s.acqs k f }

/-- Does the sequencer run a routine, for its item or one that has ended under it? -/
def routineOn (x : Seq) : Bool := x.item.isSome || x.adrift

/-- Does a routine wait for this conversion? Held targets ask for none (R222). -/
def routineWants (s : State) (dadc : Bool) (q t input : Nat) : Bool :=
  let x := seqOf s q
  let y := tgtOf x t
  routineOn x && ! x.held && x.targets.contains t && y.want ≠ 0 && (! dadc || (y.want = 1) = (input = 1))

/-- The running ACQUIRE of a converter's input. -/
def acquireOn (s : State) (k input : Nat) : Option Nat :=
  match (acqOf s k).item with
  | some slot =>
    if (slotOf s slot).st = .inFlight ∧ (acqOf s k).started ∧ pInput (slotOf s slot).msg = input then some slot
    else none
  | none => none

/-- Sequencer, buffer key and target of a converter's input. -/
def convSeq (dadc : Bool) (conv : Nat) : Nat := if dadc then 12 + conv / 12 else conv / 8
def convKey (dadc : Bool) (conv : Nat) : Nat := if dadc then 96 + conv else conv
def convTarget (dadc : Bool) (conv input : Nat) : Nat := if dadc then conv else 8 * conv + input

/-- Does a channel request conversions of a converter's input? -/
def inputRequests (s : State) (dadc : Bool) (conv input : Nat) : Bool :=
  routineWants s dadc (convSeq dadc conv) (convTarget dadc conv input) input
    || (acquireOn s (convKey dadc conv) input).isSome

/-- The next input after one in the round that requests by now, plus one; 0 none. -/
def roundFrom (s : State) (dadc : Bool) (conv input : Nat) : Nat :=
  let next := ((List.range 8).map fun i => (input + 1 + i) % 8).find? (inputRequests s dadc conv)
  (next.map (· + 1)).getD 0

/-- The round-robin goes on from an input that has been converted: the next in the round that requests has the next
conversion. -/
def passTurn (s : State) (dadc : Bool) (conv input : Nat) : State :=
  let j := roundFrom s dadc conv input
  let k := convKey dadc conv
  modSeq s (convSeq dadc conv) fun x => { x with turns := tset 0 x.turns k j, lastIn := tset 0 x.lastIn k (input + 1) }

/-- The input whose turn it is, plus one: the one it was given to while that requests, else the next in the round. -/
def turnNow (s : State) (dadc : Bool) (conv : Nat) : Nat :=
  let x := seqOf s (convSeq dadc conv)
  let k := convKey dadc conv
  match tget 0 x.turns k with
  | 0 => roundFrom s dadc conv ((tget 0 x.lastIn k + 7) % 8)
  | j + 1 => if inputRequests s dadc conv j then j + 1 else roundFrom s dadc conv j

/-- A request comes: where no other has the turn, it has. -/
def claimTurn (s : State) (dadc : Bool) (conv : Nat) : State :=
  let j := turnNow s dadc conv
  modSeq s (convSeq dadc conv) fun x => { x with turns := tset 0 x.turns (convKey dadc conv) j }

/-- Is it the turn of the input? -/
def hasTurn (s : State) (dadc : Bool) (conv input : Nat) : Bool := turnNow s dadc conv = input + 1

/-- MEAS_OP on one target: a conversion is requested. -/
def askMeas (meas : Nat) (y : Target) : Target :=
  if meas = 1 ∨ meas = 2 then { y with want := meas, got := false } else y

/-- Targets of a sequencer ask their converters for a turn. -/
def claimTurns (s : State) (q : Nat) (ts : List Nat) : State :=
  ts.foldl (fun s t => claimTurn s (seqDps q) (if seqDps q then t else t / 8)) s

/-! Routines of the ROM (R226, Table 11.8). -/

/-- The ROM routine that an item runs; none for a routine of the writable store, and where a match register may put a
word of the user's in a routine's way (R216). -/
def romRoutine (m : Msg) (x : Seq) : Option Nat :=
  if pStore m = 0 ∧ ¬ (List.range 16).any (fun k => (tget 0 x.matches_ k).getLsbD 20) then some (pRoutine m) else none

/-- The FORCE_OP codes that a routine's visible effect leaves room for: none sets clamp codes. -/
def romForces (r op : Nat) : Bool :=
  match r with
  | 0x0100 | 0x0500 | 0x0580 | 0x0600 => false
  | 0x0180 => op = 6
  | 0x0140 | 0x0200 | 0x0280 | 0x0300 | 0x0380 | 0x0400 | 0x0480 => op ≠ 7
  | _ => true

/-- The CFG_OP codes likewise: only CONFIG_CHAN writes a channel's configuration. -/
def romConfigs (r op : Nat) : Bool :=
  match r with
  | 0x0100 => op ≠ 4
  | 0x0140 | 0x0180 | 0x0200 | 0x0280 | 0x0300 | 0x0380 | 0x0400 | 0x0480 | 0x0500 | 0x0580 | 0x0600 => op = 4
  | _ => true

/-- FV or FI applied at a target with its PMU connected. -/
def applyForce (s : State) (t : Nat) (fi : Bool) (range : Nat) (v : Int) : State :=
  let s := if unitSafe s t then s else modChan s t connectPmu
  setForce (setPmuRange (setPmuMode s t fi) t range) t v
def release (s : State) (t : Nat) : State := modChan s t (releasePmu (unitSafe s t))

/-- How a routine leaves a target at END: what it has applied last is held, unless it releases at its end. SEARCH_V's
last midpoint depends on what it has measured. -/
def romLeaves (r : Nat) (x : Seq) (s : State) (t : Nat) : State :=
  let n (k : Nat) : Nat := (tget (0 : Word) x.args k).toNat
  let a (k : Nat) : Int := signed 32 (n k)
  let done (s : State) : State := if n 6 % 2 = 1 then release s t else s
  match r with
  | 0x0100 => modChan s t fun c => { c with term := n 0, srcCode := loadCode (n 1), sinkCode := loadCode (n 2) }
  | 0x0140 => applyForce s t (n 0 = 1) (n 1) (a 2)
  | 0x0180 => release s t
  | 0x0200 => done (applyForce s t false (n 1) (a 0))
  | 0x0280 => done (applyForce s t true (n 1) (a 0))
  | 0x0300 => applyForce s t false (n 2) (a 1)
  | 0x0380 => release (applyForce s t true 2 (if n 0 = 0 then -500000 else a 0)) t
  | 0x0400 => applyForce s t false (n 3) (a 0 + ((n 2 : Int) - 1) * a 1)
  | _ => s

/-- The visible effect of an item's ROM routine, at its END. -/
def romEnd (s : State) (q : Nat) (item : Option Nat) : State :=
  let x := seqOf s q
  match item with
  | some slot =>
    match romRoutine (slotOf s slot).msg x with
    | some r => if seqDps q then s else x.targets.foldl (romLeaves r x) s
    | none => s
  | none => s

/-- Does the item's routine leave room for a FORCE_OP and a CFG_OP? -/
def wordAllowed (s : State) (x : Seq) (item : Option Nat) (f : Nat → Nat → Bool) (op : Nat) : Bool :=
  match item with
  | some slot => match romRoutine (slotOf s slot).msg x with | some r => f r op | none => true
  | none => true

/-- Runs the operations of a word, in the order PMU, configuration, conversions, arithmetic, report, step, counter,
timer, unwind address (log 29). -/
def wordOps (s : State) (q : Nat) (item : Option Nat) (w : BitVec 144) : State :=
  let (v, s) := takeFree s (2 ^ 32)
  let v := signed 32 v
  let x := seqOf s q
  let sel := selected q x w
  let forces := wordAllowed s x item romForces (mw w 57 55)
  let configs := wordAllowed s x item romConfigs (mw w 31 28)
  let s := if seqDps q then s else sel.foldl (fun s t =>
      let s := if forces then forceOp s q x w v t else s
      if configs then cfgOp s q w t else s) s
  let meas := mw w 47 45
  let alu (t : Nat) (y : Target) : Target := aluOp (tgtFull s q t) x w v (askMeas meas y)
  let s := modSeq s q fun z => { z with tgt := tmods {} z.tgt sel alu }
  let s := if meas = 1 ∨ meas = 2 then claimTurns s q sel else s
  let s := if mw w 33 32 = 1 then
      modSeq s q fun x => { x with staged := x.staged ++ sel.map fun t => stageEntry q w v t (tgtOf x t) }
    else s
  let s := if mw w 103 103 = 1 then commitStep s q item else s
  let imm := mw w 95 64
  modSeq s q fun x => { x with
    ctrs := if mw w 101 100 = 1 then tset 0 x.ctrs (mw w 99 98) (BitVec.ofNat 16 imm)
      else if mw w 101 100 = 2 then tmod 0 x.ctrs (mw w 99 98) fun c => if c = 0 then 0 else c - 1 else x.ctrs
    timer := if mw w 97 96 = 1 then imm % 2 ^ 24 else if mw w 97 96 = 2 then imm % 2 ^ 24 * 256 else x.timer
    unwind := if mw w 102 102 = 1 then BitVec.ofNat 14 imm else x.unwind }

/-- Does a running BURST drive a channel? -/
def driven (s : State) (t : Nat) : Bool :=
  tany s.bursts fun _ b => playing b && b.pebs.getLsbD (t / 64) &&
    (match siteOf s t with | some n => b.sites.getLsbD n | none => false)

/-- Does a word that ends the item's ROM routine leave PMU switches closed, or have closed them (Table 11.8)? -/
def romCloses (s : State) (x : Seq) (w : BitVec 144) : Bool :=
  (mw w 107 105 = 4 || (mw w 107 105 = 2 && x.stack.isEmpty))
    && (match x.item with
      | some slot => match romRoutine (slotOf s slot).msg x with
        | some r => [0x0140, 0x0200, 0x0280, 0x0300, 0x0380, 0x0400].contains r
        | none => false
      | none => false)

/-- Does closing a PMU switch in this word meet a channel that a running BURST drives (R187)? -/
def wordMisuse (s : State) (q : Nat) (w : BitVec 144) : Bool :=
  let x := seqOf s q
  ! seqDps q
    && ((mw w 57 55 = 5 && wordAllowed s x x.item romForces 5 && (selected q x w).any fun t =>
          ! unitSafe s t && driven s t)
      || (romCloses s x w && x.targets.any fun t => ! unitSafe s t && driven s t))

/-! Safe points, requests and ends (R220 to R222). -/

/-- Is a request waiting that the sequencer may take? -/
def seqRequested (x : Seq) : Bool := ! x.inUnwind && (x.reqAbort.isSome || x.reqPause)

/-- Does the sequencer stand at a safe point: a SAFE or WAIT word fetched, or a wait that has ended? -/
def atSafePoint (x : Seq) (w : BitVec 144) : Bool :=
  if x.waiting then x.timer = 0 else mw w 104 104 = 1 || mw w 107 105 = 3

/-- May the fetched word execute: a routine that runs, no hold, no request that a safe point takes first? -/
def mayRun (x : Seq) (w : BitVec 144) : Bool :=
  routineOn x && ! x.held && ! x.waiting && ! (seqRequested x && atSafePoint x w)

/-- The sequencer after its item. -/
def idleSeq (x : Seq) : Seq :=
  { x with
    item := none, adrift := false, waiting := false, reqAbort := none, reqHost := false, reqFault := false
    reqPause := false, inUnwind := false, held := false
    targets := [], staged := [], steps := 0, entries := 0, tFirst := 0, tLast := 0
    tgt := x.tgt.map fun e => (e.1, { e.2 with want := 0 }) }

/-- The end of a MEASURE item: the header is final, then the terminal state (R225, R92). -/
def finishMeasure (s : State) (q slot : Nat) (reason : Option Nat) (extra : Nat) : State :=
  let x := seqOf s q
  let a := pAddr56 (slotOf s slot).msg
  let s := memWrite s a (measHeader s slot x reason.isSome)
  let s := modSeq s q idleSeq
  endItem s slot reason fun l =>
    partialIf reason.isSome (x.steps ≠ 0) (flagSlot extra { l with result := BitVec.ofNat 64 a })

/-- The end of a routine, and of its item where that has not ended before. -/
def endRoutine (s : State) (q : Nat) (item : Option Nat) (reason : Option Nat) : State :=
  match item with
  | some slot => finishMeasure s q slot reason 0
  | none => modSeq s q idleSeq

/-- Runs an executable word of one of the SEQ codes ks and then k, from the item, the formed address and the state. -/
def runWord (s : State) (q : Nat) (ks : List Nat) (k : Option Nat → BitVec 14 → State → State) : Out :=
  let x := seqOf s q
  let w := fetchWord x x.addr
  if mayRun x w ∧ ks.contains (mw w 107 105) then
    if wordMisuse s q w then .fault .pmuOnDriven
    else .next (k x.item (formedAddr s q w) (wordOps s q x.item w))
  else .next s

/-- GO (R214); SEQ 6 and 7 act as GO. -/
def execSeqGo (seq : Nat) (s : State) : Out :=
  runWord s seq [0, 6, 7] fun _ a s => modSeq s seq fun x => { x with addr := a }

/-- CALL (R214). -/
def execSeqCall (seq : Nat) (s : State) : Out :=
  runWord s seq [1] fun _ a s => modSeq s seq fun x => { x with stack := ((x.addr + 1) :: x.stack).take 8, addr := a }

/-- RETURN (R214): on an empty stack it acts as END. -/
def execSeqReturn (seq : Nat) (s : State) : Out :=
  runWord s seq [2] fun item _ s =>
    match (seqOf s seq).stack with
    | a :: rest => modSeq s seq fun x => { x with addr := a, stack := rest }
    | [] => endRoutine (romEnd s seq item) seq item none

/-- WAIT (R214): holds at the word until the wait timer is zero. -/
def execSeqWait (seq : Nat) (s : State) : Out :=
  runWord s seq [3] fun _ a s => modSeq s seq fun x =>
    if x.timer = 0 then { x with addr := a } else { x with waiting := true, formed := a }

/-- TIMER_DONE (R214): the timer is zero; the waiting word goes on unless a request takes the end of its wait. -/
def execTimerDone (seq : Nat) (s : State) : Out :=
  let x := seqOf s seq
  if x.held then .next s
  else if x.waiting ∧ ¬ seqRequested x then
    .next (modSeq s seq fun x => { x with timer := 0, waiting := false, addr := x.formed })
  else .next (modSeq s seq fun x => { x with timer := 0 })

/-- END (R214). -/
def execSeqEnd (seq : Nat) (s : State) : Out :=
  runWord s seq [4] fun item _ s => endRoutine (romEnd s seq item) seq item none

/-- Applies the entry snapshot to a target still different (R221); no switch closes in the unit safe state. -/
def applySnap (s : State) (q t : Nat) : State :=
  let y := (tgtOf (seqOf s q) t).snap
  let s := setPmuRange (setPmuMode s t y.fi) t y.range
  let s := if (dacOf s (forceKey t)).active = y.force then s else writeForce s t y.force y.forceV
  let g := t / 8
  let s := if (dacOf s (clampKey g 5)).active = y.clampHi then s else writeClamp s g 5 y.clampHi y.hiV
  let s := if (dacOf s (clampKey g 6)).active = y.clampLo then s else writeClamp s g 6 y.clampLo y.loV
  if y.pmuOn then (if unitSafe s t ∨ (chanOf s t).pmuOn then s else modChan s t connectPmu)
  else if (chanOf s t).pmuOn then modChan s t (releasePmu (unitSafe s t)) else s

/-- UNWIND_DONE (R221). Where a routine runs the word with no request, no cause is stated: the free value. -/
def execUnwindDone (seq : Nat) (s : State) : Out :=
  runWord s seq [5] fun item _ s =>
    let x := seqOf s seq
    let s := if seqDps seq then s else x.targets.foldl (fun s t => applySnap s seq t) s
    match x.reqAbort with
    | some r => endRoutine s seq item (some r.toNat)
    | none =>
      let (r, s) := takeFree s 256
      endRoutine s seq item (some r)

/-- The state of an item's slot, where the routine has one. -/
def putItemState (s : State) (item : Option Nat) (st : IState) : State :=
  match item with
  | some slot => modSlot s slot fun l => { l with st := st }
  | none => s

/-- MSEQ_REQUEST_TAKEN (R220): an abort or fault goes to the unwind address, a pause holds the item (R221, R222). A
request that is taken pends no more. -/
def execMseqRequestTaken (seq : Nat) (s : State) : Out :=
  let x := seqOf s seq
  if routineOn x ∧ seqRequested x ∧ (x.held ∨ atSafePoint x (fetchWord x x.addr)) then
    if x.reqAbort.isSome then
      .next (putItemState (modSeq s seq fun x => { x with
          addr := x.unwind, inUnwind := true, waiting := false, held := false, reqPause := false, reqHost := false
          reqFault := false }) x.item .inFlight)
    else if x.held then .next s
    else .next (settleMode (putItemState (modSeq s seq fun x => { x with held := true, reqPause := false }) x.item .held))
  else .next s

/-- Raises an abort or fault request at a sequencer (R220): the first cause stands, and a request during the unwind is
ignored. -/
def raiseRequest (reason : Nat) (x : Seq) : Seq :=
  if x.inUnwind then x
  else
    { x with
      reqAbort := if x.reqAbort.isSome then x.reqAbort else some (BitVec.ofNat 8 reason)
      reqHost := x.reqHost || reason ≠ rAbortedFault, reqFault := x.reqFault || reason = rAbortedFault }

/-- An abort or fault request to the routine of an item. -/
def requestMeasure (s : State) (q slot reason : Nat) : State :=
  modSlot (modSeq s q (raiseRequest reason))
    slot fun l => { l with cause := if l.cause.isNone then some (BitVec.ofNat 8 reason) else l.cause }

/-- The entry to BYPASS, and a FATAL fault, end the item at once (R61, R100), while its routine takes the request at its
next safe point and unwinds (R220, R221). -/
def detachMeasure (s : State) (q slot reason extra : Nat) : State :=
  let x := seqOf s q
  let a := pAddr56 (slotOf s slot).msg
  let s := memWrite s a (measHeader s slot x true)
  let s := modSeq s q fun x => { raiseRequest reason x with item := none, adrift := true, reqPause := false }
  endItem s slot (some reason) fun l =>
    partialIf true (x.steps ≠ 0) (flagSlot extra { l with result := BitVec.ofNat 64 a })

/-- The sequencer itself is at fault: it stops without an unwind, and the PMU switches of its targets open (R221). -/
def stopMeasure (s : State) (q slot reason extra : Nat) : State :=
  let x := seqOf s q
  let s := if seqDps q then s
    else { s with chans := tmods {} s.chans x.targets fun t c => releasePmu (unitSafe s t) c }
  finishMeasure s q slot (some reason) extra

/-! Dispatch (R211, R215, R218, R221, R224). -/

/-- The snapshot of a target. -/
def snapOf (s : State) (t : Nat) : Snap :=
  let c := chanOf s t
  { force := (dacOf s (forceKey t)).active, fi := c.pmuFi, range := c.range
    clampHi := (dacOf s (clampKey (t / 8) 5)).active, clampLo := (dacOf s (clampKey (t / 8) 6)).active
    forceV := (dacOf s (forceKey t)).activeV, hiV := (dacOf s (clampKey (t / 8) 5)).activeV
    loV := (dacOf s (clampKey (t / 8) 6)).activeV, pmuOn := c.pmuOn }

/-- What an item takes at dispatch: the corrections in force (R340) and its targets' states (R221). -/
def snapTargets (s : State) (m : Msg) : State :=
  let s := modSeq s (pMseq m) fun x => { x with gen := s.press.gen }
  if seqDps (pMseq m) then s
  else modSeq s (pMseq m) fun x => { x with tgt := tmods {} x.tgt (measTargets m) fun t y => { y with snap := snapOf s t } }

/-- Starts the routine of a MEASURE item; a pause that has been asked for reaches it too (R62). -/
def startMeasure (s : State) (slot : Nat) : State :=
  let l := slotOf s slot
  let m := l.msg
  let q := pMseq m
  let args := tset 0 ((List.range 15).foldl (fun t i => tset 0 t (i + 1) (BitVec.ofNat 32 (bytesAt l.ext (4 * i) 4)))
    ([] : Tab Word)) 0 (BitVec.ofNat 32 (pArg0 m))
  modSeq s q fun x => { idleSeq x with
    item := some slot, addr := BitVec.ofNat 14 (pRoutine m + 0x2000 * pStore m), stack := [], args := args
    unwind := 0x10#14, targets := measTargets m, reqPause := s.dev.pauseReq }

/-- Does a BAD store fail the item (R218), or a check keep it waiting (R115)? -/
def storeBad (s : State) (m : Msg) : Bool :=
  (seqOf s (pMseq m)).pState = .bad || (pStore m = 1 && (seqOf s (pMseq m)).wState = .bad)
def storeWaits (s : State) (m : Msg) : Bool :=
  (seqOf s (pMseq m)).pState = .verifying || (pStore m = 1 && (seqOf s (pMseq m)).wState = .verifying)

/-- MEASURE_DISPATCH (R221), once a routine whose item has ended before has unwound. -/
def execMeasureDispatch (slot : Nat) (s : State) : Out :=
  let m := (slotOf s slot).msg
  if canDispatch s slot .measure ∧ ¬ storeWaits s m ∧ ¬ (seqOf s (pMseq m)).adrift then
    if storeBad s m then .next (endItem (takeItem s slot) slot (some rSignature) id)
    else
      let (s, now) := armItem (snapTargets (takeItem s slot) m) slot
      .next (if now then startMeasure s slot else holdAsked s slot)
  else .next s

/-- RANGE_CHANGE_DONE (R206, R282). -/
def execRangeChangeDone (dps : Bool) (n : Nat) (s : State) : Out :=
  let t := if s.hw.running then some s.hw.count else none
  if dps then .next (modDps s n fun d => { d with ranging := false, tRange := if d.ranging then t else d.tRange })
  else .next (modChan s n fun x => { x with ranging := false, tRange := if x.ranging then t else x.tRange })

/-- A held routine goes on (R222): from the word it holds at, or past the wait whose end it holds at. -/
def goOn (x : Seq) : Seq :=
  if x.waiting ∧ x.timer = 0 then { x with held := false, waiting := false, addr := x.formed } else { x with held := false }

/-- Resumes a held sequencer; its targets request their conversions again. -/
def resumeMeasure (s : State) (q slot : Nat) : State :=
  if (seqOf s q).held then
    let s := modSlot (modSeq s q goOn) slot fun l => { l with st := .inFlight }
    claimTurns s q ((seqOf s q).targets.filter fun t => (tgtOf (seqOf s q) t).want ≠ 0)
  else s

/-- A pause request to the sequencer of an item (R62, R220). -/
def pauseMeasure (s : State) (q : Nat) : State :=
  modSeq s q fun x => if x.inUnwind ∨ x.held then x else { x with reqPause := true }

end Sys2Proof.Machine
end

