-- ==== Sys2Proof/Machine/Acquire.lean ====
section
/-! DEFINITION. Acquisition: conversions, triggers, reduction, measurements and the record (R253 to R259, R227). -/

namespace Sys2Proof.Machine

/-- A sample word (Table 13.6). -/
def sampleWord (current : Bool) (range : Nat) (end_ clamp ranging : Bool) (gap : Nat) (v : Int) : Word :=
  BitVec.ofNat 32 (b2n current * 2 ^ 30 + (if current then range else 0) * 2 ^ 27 + b2n end_ * 2 ^ 26
    + b2n clamp * 2 ^ 25 + b2n ranging * 2 ^ 24 + gap * 2 ^ 20 + (v % 2 ^ 20).toNat)

/-- Fields of a sample word. -/
def swCurrent (w : Word) : Bool := bitsOf w.toNat 31 30 = 1
def swRanging (w : Word) : Bool := w.getLsbD 24
def swGap (w : Word) : Nat := bitsOf w.toNat 23 20
def swFlags (w : Word) : Word := w &&& 0x07000000#32
def withGap (w : Word) (g : Nat) : Word := (w &&& 0xFF0FFFFF#32) ||| BitVec.ofNat 32 (g * 2 ^ 20)

/-- The physical value of a word, in 1/524288 of nV or fA, through its own quantity and range (R254). -/
def swPhys (dadc : Bool) (w : Word) : Int :=
  let r := bitsOf w.toNat 29 27
  physical (swCurrent w) (if dadc then dpsRange r else pmuRange r) (signed 20 w.toNat)

/-- A value in LSB of the quantity and range at dispatch, as physical value (R254). -/
def levelPhys (dadc : Bool) (a : Acq) (v : Int) : Int :=
  physical (a.qty = 1) (if dadc then dpsRange a.range else pmuRange a.range) v

/-- The crossing between two samples in 1/256 slot after the first (R255). -/
def crossOffset (level v0 v1 : Int) (slots : Nat) : Int :=
  let d := v1 - v0
  if 0 < d then roundDiv (256 * slots * (level - v0)) d.toNat
  else roundDiv (256 * slots * (v0 - level)) (-d).toNat

/-- Slots between two slot starts. -/
def slotsBetween (a b : Count) : Nat := (b - a).toNat / slotLsb

/-! Reduction (R256). -/

/-- Chops a list into pieces of n. -/
def chunks {α : Type} (n : Nat) : Nat → List α → List (List α)
  | 0, _ => []
  | f + 1, l => if l = [] then [] else l.take n :: chunks n f (l.drop n)

/-- The extreme sample of a list by physical value; better keeps ties on the earlier one. -/
def extreme (dadc : Bool) (less : Int → Int → Bool) : List Word → Option Word
  | [] => none
  | w :: ws => some (ws.foldl (fun m x => if less (swPhys dadc x) (swPhys dadc m) then x else m) w)

/-- The pair of an interval: the words of its smallest and largest sample, with the interval's flags. -/
def pairBytes (dadc : Bool) (ws : List Word) : List Byte :=
  let flags := ws.foldl (fun m w => m ||| swFlags w) 0
  let gap := if ws.all fun w => swGap w = 0 then 0 else 15
  let fix (w : Word) : List Byte := le 4 (withGap (w ||| flags) gap).toNat
  let good := ws.filter fun w => ¬ swRanging w
  match extreme dadc (fun a b => a < b) good, extreme dadc (fun a b => b < a) good with
  | some lo, some hi => fix lo ++ fix hi
  | _, _ =>
    let w := (ws.headD 0) &&& 0xF8000000#32
    fix w ++ fix w

/-- The record's data (R256). -/
def recordData (m : Msg) (ws : List Word) : List Byte :=
  if pReduce m = 0 then ws.flatMap fun w => le 4 w.toNat
  else
    let used := ws.take (pSamples m)
    (chunks (pReduce m) used.length used).flatMap (pairBytes (pSource m = 1))

/-- Bytes of data that n samples complete, in 64-byte units. -/
def wholeUnits (m : Msg) (n : Nat) : Nat := if pReduce m = 0 then n / 16 else n / pReduce m / 8

/-! Measurements (R257, Table 13.7). -/

/-- The walk over the samples that counts crossings: the side last taken (some true above), the sample before, the
first passage of the level since the side was left, and what has been counted. -/
structure Cross where
  side  : Option Bool := none
  prev  : Option (Int × Count) := none
  up    : Option Count := none
  all   : Nat := 0
  rises : List Count := []
deriving DecidableEq, Repr

/-- One sample of that walk. -/
def crossStep (level band : Int) (c : Cross) (x : Int × Count) : Cross :=
  let up := match c.up, c.prev with
    | some t, _ => some t
    | none, some (v0, t0) =>
      if c.side = some false ∧ v0 < level ∧ level ≤ x.1 then
        some (t0 + BitVec.ofNat 64 (crossOffset level v0 x.1 (slotsBetween t0 x.2) * 1000).toNat)
      else none
    | none, none => none
  let c := { c with prev := some x, up := up }
  if level + band ≤ x.1 then
    if c.side = some false then
      { c with side := some true, all := c.all + 1, rises := c.rises ++ [up.getD x.2], up := none }
    else { c with side := some true, up := none }
  else if x.1 ≤ level - band then
    if c.side = some true then { c with side := some false, all := c.all + 1, up := none }
    else { c with side := some false, up := none }
  else c

/-- The mean of values in physical units, to the nearest nV or fA. -/
def meanOf (vs : List Int) : Int := roundDiv vs.sum (physUnit * vs.length)

/-- The rounded root mean square. -/
def rmsOf (vs : List Int) : Nat :=
  (isqrt (4 * (vs.foldl (fun n v => n + v.natAbs * v.natAbs) 0) / (vs.length * physUnit * physUnit)) + 1) / 2

/-- Mean above the midpoint less mean at or below it; none where nothing lies above. -/
def amplitudeOf (vs : List Int) (lo hi : Int) : Option Int :=
  let top := vs.filter fun v => lo + hi < 2 * v
  let bot := vs.filter fun v => 2 * v ≤ lo + hi
  if top = [] ∨ bot = [] then none
  else some (roundDiv (top.sum * bot.length - bot.sum * top.length) (top.length * bot.length * physUnit))

/-- Bytes 40 to 103 of the header of a COMPLETE record. A measurement over no sample has no stated value: the free
value v (log 13). -/
def measurements (m : Msg) (a : Acq) (v : Nat) : List Byte :=
  let dadc := pSource m = 1
  let good := a.samples.filter fun x => ¬ swRanging x.word
  let vs := good.map fun x => swPhys dadc x.word
  let level := levelPhys dadc a (pTrigLevel m)
  let band := levelPhys dadc a 8
  let c := (good.map fun x => (swPhys dadc x.word, x.time)).foldl (crossStep level band) {}
  let lo := vs.foldl min (vs.headD 0)
  let hi := vs.foldl max (vs.headD 0)
  let free (x : List Byte) : List Byte := if vs = [] then le 8 v else x
  let period := match c.rises.head?, c.rises.getLast? with
    | some f, some l => if 2 ≤ c.rises.length then roundDiv ((l - f).toNat : Int) (c.rises.length - 1) else 0
    | _, _ => 0
  le 4 vs.length ++ le 4 (a.samples.length - vs.length) ++ free (leInt 8 (roundDiv lo physUnit))
    ++ free (leInt 8 (roundDiv hi physUnit)) ++ free (leInt 8 (meanOf vs)) ++ free (le 8 (rmsOf vs))
    ++ (match amplitudeOf vs lo hi with | some x => leInt 8 x | none => le 8 v)
    ++ leInt 8 period ++ le 4 c.all ++ le 4 c.rises.length

/-- The record's header (Table 13.8). -/
def acqHeader (s : State) (slot : Nat) (a : Acq) (ok : Bool) (meas : List Byte) : List Byte :=
  let m := (slotOf s slot).msg
  let any (p : Word → Bool) : Nat := b2n (a.samples.any fun x => p x.word)
  let flags := any swRanging + 2 * any (fun w => w.getLsbD 25) + 4 * any (fun w => w.getLsbD 26)
    + 8 * any (fun w => swGap w ≠ 0) + 16 * b2n (pReduce m ≠ 0)
  let first := match a.samples.head? with | some x => x.time.toNat | none => 0
  le 2 (itemId s slot) ++ le 1 (pSource m) ++ le 1 (pConverter m) ++ le 1 (pInput m) ++ le 1 (pTrigger m)
    ++ le 1 (if ok then 4 else 5) ++ le 1 flags ++ le 4 (pSamples m) ++ le 4 a.samples.length ++ le 8 first
    ++ le 8 a.tTrig.toNat ++ le 2 a.off ++ le 1 a.sync ++ le 1 a.qty ++ le 4 (pReduce m)
    ++ (if ok then meas else zeros 64) ++ zeros 24

/-- The end of an ACQUIRE item (R259): the data not yet written, the header, the terminal state. -/
def finishAcquire (s : State) (slot : Nat) (reason : Option Nat) (extra : Nat) : State :=
  let m := (slotOf s slot).msg
  let k := pBuffer m
  let (v, s) := takeFree s (2 ^ 64)
  let a := acqOf s k
  let done := wholeUnits m a.samples.length
  let base := pAddr56 m
  let s := memWrite s (base + 128 + 64 * done) ((recordData m (a.samples.map (·.word))).drop (64 * done))
  let s := memWrite s base (acqHeader s slot a reason.isNone (measurements m a v))
  let s := { s with acqs := tdel s.acqs k }
  endItem s slot reason fun l =>
    partialIf reason.isSome (a.samples ≠ []) (flagSlot extra { l with result := BitVec.ofNat 64 base })

/-! Conversions. -/

/-- Samples the record takes: a crossing stores at least two (R255). -/
def samplesNeeded (m : Msg) : Nat :=
  if pTrigger m = 1 ∨ pTrigger m = 2 then max 2 (pSamples m) else pSamples m

/-- Puts a sample into the record; 64-byte units are written as they fill. -/
def storeSample (s : State) (slot k : Nat) (x : Sample) : State :=
  let m := (slotOf s slot).msg
  let s := modAcq s k fun a => { a with
    samples := a.samples ++ [x], sync := if a.samples = [] then x.sync else a.sync }
  let s := modSlot s slot fun l => { l with progress := l.progress + 1, afar := l.afar || isRemote s (pAddr56 m) }
  let n := (acqOf s k).samples.length
  if wholeUnits m (n - 1) < wholeUnits m n then
    memWrite s (pAddr56 m + 128 + 64 * wholeUnits m (n - 1))
      (((recordData m ((acqOf s k).samples.map (·.word))).drop (64 * wholeUnits m (n - 1))).take 64)
  else s

/-- Does a sample arm, or fire, the crossing trigger? -/
def crossArms (m : Msg) (level band v : Int) : Bool := if pTrigger m = 1 then v ≤ level - band else level + band ≤ v
def crossFires (m : Msg) (level v : Int) : Bool := if pTrigger m = 1 then level ≤ v else v ≤ level

/-- 12 ns, after which an edge on TRIG_IN reaches capture, in LSB: 76.8 × M (R255). -/
def captureDelay (s : State) : Count := BitVec.ofInt 64 (roundDiv (768 * s.clock.mLock.toNat) (10 * 2 ^ 20))

/-- A sample of the record's input (R255). -/
def takeSample (s : State) (slot k : Nat) (x : Sample) : State :=
  let m := (slotOf s slot).msg
  let dadc := pSource m = 1
  let a := acqOf s k
  let first : Sample := { x with word := withGap x.word 0 }
  if a.samples ≠ [] then storeSample s slot k x
  else if pTrigger m = 0 then storeSample (modAcq s k fun a => { a with tTrig := x.time }) slot k first
  else if 3 ≤ pTrigger m then
    (if a.edge ∧ countPast x.time (a.tTrig + captureDelay s) then storeSample s slot k first else s)
  else if swRanging x.word then s
  else
    let v := swPhys dadc x.word
    let level := levelPhys dadc a (pTrigLevel m)
    match a.prev with
    | some p =>
      if a.armedX ∧ crossFires m level v then
        let gap := min 15 (slotsBetween p.time x.time - 1)
        let off := (crossOffset level (swPhys dadc p.word) v (gap + 1)).toNat
        let s := modAcq s k fun a => { a with off := off, tTrig := p.time + BitVec.ofNat 64 (off * 1000) }
        storeSample (storeSample s slot k { p with word := withGap p.word 0 }) slot k
          { x with word := withGap x.word gap }
      else
        let arms := crossArms m level (levelPhys dadc a 8) v
        modAcq s k fun a => { a with prev := some x, armedX := a.armedX || arms }
    | none =>
      let arms := crossArms m level (levelPhys dadc a 8) v
      modAcq s k fun a => { a with prev := some x, armedX := arms }

/-- The start of the slot whose conversion completes now (R253). -/
def slotStart (s : State) : Count := if s.hw.running then s.hw.count - BitVec.ofNat 64 slotLsb else 0

/-- Gives a conversion, as read with the corrections latched, to the routine that asked for it. -/
def giveRoutine (s : State) (q t : Nat) (v : Int) (clamped : Bool) : State :=
  let cur := (tgtOf (seqOf s q) t).want = 1
  let rang := convRanging s q t
  let r := tgtRange s q t
  let phys := physical cur (tgtFull s q t) v
  let time := slotStart s
  let give (y : Target) : Target := { y with
    want := 0, got := true, value := phys, clamp := clamped, rang := rang, current := cur, range := r, time := time }
  modSeq s q fun x => { x with
    tFirst := (if x.tFirst = 0 then time else x.tFirst), tgt := tmod {} x.tgt t give }

/-- The conversion of an input goes to the routine that asked for it or to the ACQUIRE of the input, one turn each where
both want it (R227), read with the corrections that its item latched (R340); on a DADC in the order of their requests (Table 1.4). A DADC sample carries CLAMP while the current
limit acts (R283). -/
def giveConversion (dadc : Bool) (conv input : Nat) (value : Int) (endOfScale clamped : Bool) (gap : Nat)
    (s : State) : State :=
  let t := convTarget dadc conv input
  let q := convSeq dadc conv
  let k := convKey dadc conv
  let clamped := clamped || (dadc && (dpsOf s t).limitOn)
  let acq := acquireOn s k input
  let turn := acq.isSome && (acqOf s k).turn
  if routineWants s dadc q t input ∧ ¬ turn then
    let cur := (tgtOf (seqOf s q) t).want = 1
    let s := giveRoutine s q t (reading (seqOf s q).gen dadc conv input cur (tgtRange s q t) value) clamped
    if acq.isSome then modAcq s k fun a => { a with turn := true } else s
  else
    match acq with
    | none => s
    | some slot =>
      let cur := if dadc then input = 1 else (chanOf s t).pmuOn && ! (chanOf s t).pmuFi
      let time := match (acqOf s k).tConv with
        | some p => p + BitVec.ofNat 64 ((gap + 1) * slotLsb)
        | none => slotStart s
      let range := if dadc then (dpsOf s t).range else (chanOf s t).range
      let x : Sample := {
        word := sampleWord cur range endOfScale clamped (convRanging s q t) (gap % 16)
          (reading (acqOf s k).gen dadc conv input cur range value), time := time
        sync := syncCode (statusAt s time) }
      let turn := dadc && ! routineWants s dadc q t input
      let s := takeSample (modAcq s k fun a => { a with turn := turn, tConv := some time }) slot k x
      if samplesNeeded (slotOf s slot).msg ≤ (acqOf s k).samples.length then finishAcquire s slot none 0 else s

/-- CONVERSION_DONE (R253): a conversion of an input whose turn it is. Its slot began one slot before; gap is the count
of slots since the input's previous conversion, less one. -/
def execConversionDone (dadc : Bool) (conv input : Nat) (value : Int) (endOfScale clamped : Bool) (gap : Nat)
    (s : State) : Out :=
  if hasTurn s dadc conv input then
    .next (passTurn (giveConversion dadc conv input value endOfScale clamped gap s) dadc conv input)
  else .next s

/-- The record's input asks for conversions from now on (R227, R255); on a DADC the record's turn comes first unless a
routine has asked before (Table 1.4). -/
def beginAcquire (s : State) (slot : Nat) : State :=
  let m := (slotOf s slot).msg
  let dadc := pSource m = 1
  let conv := pConverter m
  let wanted := routineWants s dadc (convSeq dadc conv) (convTarget dadc conv (pInput m)) (pInput m)
  claimTurn (modAcq s (pBuffer m) fun a => { a with started := true, turn := dadc && ! wanted }) dadc conv

/-- Starts an ACQUIRE item (R255): quantity and range in force are those of TRIG_LEVEL. -/
def startAcquire (s : State) (slot : Nat) (now : Bool) : State :=
  let m := (slotOf s slot).msg
  let k := pBuffer m
  let ch := 8 * pConverter m + pInput m
  let cur := if pSource m = 1 then pInput m = 1 else (chanOf s ch).pmuOn && ! (chanOf s ch).pmuFi
  let range := if pSource m = 1 then (dpsOf s (pConverter m)).range else (chanOf s ch).range
  let s := modAcq s k fun _ => { item := some slot, qty := b2n cur, range := range, gen := s.press.gen }
  if now then beginAcquire s slot else s

/-- ACQUIRE_DISPATCH (R255). -/
def execAcquireDispatch (slot : Nat) (s : State) : Out :=
  if canDispatch s slot .acquire then
    let (s, now) := armItem (takeItem s slot) slot
    .next (startAcquire s slot now)
  else .next s

/-- An edge on TRIG_IN reaches the ACQUIRE items that wait for it (R255). -/
def trigAcquire (s : State) (input : Nat) : State :=
  let t := stamp s
  let ks := tkeys s.acqs fun _ a => a.started && ! a.edge && (match a.item with
    | some slot => pTrigger (slotOf s slot).msg = 3 + input
    | none => false)
  { s with acqs := tmods {} s.acqs ks fun _ a => { a with edge := true, tTrig := t } }

end Sys2Proof.Machine
end

