-- ==== Sys2Proof/Machine/DmaCh.lean ====
section
/-! DEFINITION. The DMA channels: descriptors, reads, write beats, write-back, errors and stops (R268 to R275). -/

namespace Sys2Proof.Machine

def dmaOf (s : State) (c : Nat) : Dma := tget {} s.dmas c
def modDma (s : State) (c : Nat) (f : Dma → Dma) : State := { s with dmas := tmod {} s.dmas c f }

/-- Pattern-space address of a 64-bit field. -/
def addr41 (x : BitVec 64) : Nat := x.toNat % 2 ^ 41

/-- Fields of CTRL (Table 14.4). -/
def dmaLast (d : Dma) : Bool := d.ctrl.getLsbD 30
def dmaQsrc (d : Dma) : Bool := d.ctrl.getLsbD 29
def dmaPeek (d : Dma) : Bool := d.ctrl.getLsbD 28
def dmaFixed (d : Dma) : Bool := d.ctrl.getLsbD 27
def dmaQueue (d : Dma) : Nat := d.src.toNat % 16

/-- Bytes of a local access to an address up to its page's end, and the length a packet gives: whole 32-byte units. -/
def pageCut (a n : Nat) : Nat := min n (65536 - a % 65536)
def unit32 (n : Nat) : Nat := (n + 31) / 32 * 32

/-- Sends the MEM_RD of an access that no local copy serves (R270). -/
def dmaRead (s : State) (c a n : Nat) : State :=
  match localStatus s a n with
  | some _ => s
  | none => sendRequest s 0x20 (homeNode a) a (unit32 n) [] (some c) none

/-- The answer an access meets: the device's own for its own pages, else what the home node answers (R148, R409). -/
def answerOf (s : State) (a n status : Nat) : Nat := (localStatus s a n).getD status

/-- Drops the oldest outstanding request of a class that a channel has sent. -/
def dropOutst : Nat → Nat → List Outst → List Outst
  | _, _, [] => []
  | c, cls, o :: os =>
    if o.dma = some c ∧ o.cls.toNat = cls then os else o :: dropOutst c cls os
def settleOutst (s : State) (c cls : Nat) : State :=
  { s with fabric := { s.fabric with outst := dropOutst c cls s.fabric.outst } }

/-- The status that the oldest outstanding request of a channel meets: UNREACHABLE where this node could not send it
(R320). -/
def outstStatus (s : State) (c cls status : Nat) : Nat :=
  match s.fabric.outst.find? fun o => o.dma = some c && o.cls.toNat = cls with
  | some o => if o.dead then 3 else status
  | none => status

/-- The channel fetches a descriptor (R268). -/
def fetchDesc (s : State) (c a : Nat) : State :=
  dmaRead (modDma s c fun d => { d with phase := .fetching, start := true, addr := a }) c a 64

/-- TRANSFER_DISPATCH (R268). -/
def execTransferDispatch (slot : Nat) (s : State) : Out :=
  let c := pDma (slotOf s slot).msg
  if canDispatch s slot .transfer ∧ (dmaOf s c).phase = .idle then
    let s := modDma (takeItem s slot) c fun _ => { item := some slot }
    .next (fetchDesc s c (pDesc (slotOf s slot).msg))
  else .next s

/-- The end of a TRANSFER item; the channel is idle again (R269, R273). After entry to BYPASS every end is
ABORTED_HOST, whatever the descriptor in progress gave (R61). -/
def finishTransfer (s : State) (c : Nat) (reason : Option Nat) : State :=
  match (dmaOf s c).item with
  | some slot =>
    let reason := if (slotOf s slot).flags &&& BitVec.ofNat 16 fFord = 0 then reason else some rAbortedHost
    let s := { s with dmas := tdel s.dmas c }
    endItem s slot reason fun l => partialIf reason.isSome (l.progress ≠ 0) l
  | none => { s with dmas := tdel s.dmas c }

/-- The item end that a descriptor status gives (Table 14.5). -/
def statusEnd (st : Nat) : Nat :=
  if st = 1 then rBus else if st = 2 then rLate else if st = 3 then rUnreachable else rAbortedFault

/-- Write-back of bytes 32 to 63 (R271, Table 14.3); the queue's OVERRUN and DROPPED are reported and cleared. A
descriptor outside the bounds of R269 changes no queue: it reports neither (log 143). -/
def writeBack (s : State) (c : Nat) : State :=
  let d := dmaOf s c
  let q := queueOf s (dmaQueue d)
  let qs := dmaQsrc d && ! d.bad
  let st := d.status.toNat + d.lastValid * 256 + (if qs && q.overrun then 65536 else 0)
  let bytes := le 4 st ++ le 4 d.done ++ le 4 (if qs then q.dropped.toNat else 0) ++ zeros 4
    ++ le 8 (stamp s).toNat ++ zeros 8
  let s := if qs then modQueue s (dmaQueue d) fun q => { q with overrun := false, dropped := 0 } else s
  memWrite (modDma s c fun d => { d with phase := .writeback }) (d.addr + 32) bytes

/-- Is every access of the descriptor answered and nothing more to be issued (R271)? -/
def dmaSettled (d : Dma) : Bool :=
  d.reads = [] && d.beats = [] && d.gather = [] && (d.failed || d.total ≤ d.asked)

/-- Sends the gathered write beats as one MEM_WR (R270). -/
def flushGather (s : State) (c : Nat) : State :=
  let d := dmaOf s c
  let n := d.gather.length
  if n = 0 then s
  else
    let a := addr41 d.dst + d.gatherAt
    sendRequest (modDma s c fun d => { d with gather := [], beats := d.beats ++ [(d.gatherAt, n)] })
      0x22 (homeNode a) a (unit32 n) (d.gather ++ zeros (unit32 n - n)) (some c) none

/-- Once no further beat comes, sends what is gathered, and goes on to the write-back once every response has
returned. -/
def settleDma (s : State) (c : Nat) : State :=
  let d := dmaOf s c
  if d.phase ≠ .moving then s
  else
    let s := if d.failed ∨ d.reads = [] ∧ d.total ≤ d.asked then flushGather s c else s
    if dmaSettled (dmaOf s c) then writeBack s c else s

/-- Records the first cause of a descriptor's failure (R273). -/
def failDma (s : State) (c code : Nat) : State :=
  modDma s c fun d => if d.failed then d else { d with failed := true, status := BitVec.ofNat 8 code }

/-- The status code of an error answer: LATE_ERROR once the count has reached zero (Table 14.5). -/
def errorCode (d : Dma) (st : Nat) : Nat := if d.count = 0 then 2 else if st = 3 then 3 else 1

/-- The ranges a descriptor in flight occupies: source, destination, descriptor (R275). -/
def dmaRanges (d : Dma) : List (Nat × Nat) :=
  (if dmaQsrc d then [] else [(addr41 d.src, d.total)]) ++ [(addr41 d.dst, d.total), (d.addr, 64)]
def meets (a b : Nat × Nat) : Bool := a.1 < b.1 + b.2 && b.1 < a.1 + a.2

/-- The misuses of a descriptor (R5, R272, R275). One outside the bounds of R269 reads and moves nothing. -/
def descMisuse (s : State) (c : Nat) (d : Dma) (raw : List Byte) : Option Fault :=
  let others := (s.dmas.filter fun e => e.1 ≠ c && e.2.phase ≠ .idle && e.2.phase ≠ .fetching && ! e.2.bad).map Prod.snd
  let owned := (s.dmas.filter fun e => e.1 ≠ c && (e.2.phase = .moving || e.2.phase = .writeback)).map Prod.snd
  let dst := (addr41 d.dst, d.total)
  if d.ctrl.toNat % 2 ^ 27 ≠ 0 ∨ d.dst.toNat / 2 ^ 41 ≠ 0
      ∨ (if dmaQsrc d then d.src.toNat / 16 else d.src.toNat / 2 ^ 41) ≠ 0
      ∨ (¬ d.ctrl.getLsbD 30 ∧ d.next.toNat / 2 ^ 41 ≠ 0) ∨ ¬ (allZero ((raw.drop 44).take 4) ∧ allZero (raw.drop 56)) then some .reservedField
  else if owned.any fun o => meets (o.addr, 64) (d.addr, 64) then some .dmaOverlap
  else if d.bad then none
  else if dmaQsrc d ∧ owned.any (fun o => ! o.bad && dmaQsrc o && dmaQueue o = dmaQueue d) then some .queueTwoReaders
  else if (if dmaQsrc d then [(d.addr, 64)] else [(addr41 d.src, d.total), (d.addr, 64)]).any (meets dst)
      ∨ others.any (fun o => (dmaRanges o).any (meets dst))
      ∨ others.any (fun o => (dmaRanges d).any (meets (addr41 o.dst, o.total))) then some .dmaOverlap
  else none

/-- A loaded descriptor begins (R269, R272): a queue source outside its bounds ends at once with BUS_ERROR. -/
def beginDesc (s : State) (c : Nat) (d : Dma) : State :=
  if d.bad then
    writeBack (modDma s c fun _ => { d with phase := .moving, failed := true, status := 1 }) c
  else
    let s := modDma s c fun _ => { d with phase := .moving }
    settleDma (if dmaQsrc d then modQueue s (dmaQueue d) markQueue else s) c

/-- A descriptor arrives with its answer's status and bytes. -/
def descArrives (s : State) (c status : Nat) (rem : Remote) : Out :=
  let d := dmaOf s c
  if d.phase ≠ .fetching then .next s
  else
    let st := answerOf s d.addr 64 status
    match (if st = 0 then readBytes s rem d.addr 64 else none) with
    | none => .next (finishTransfer s c (some (if st = 3 then rUnreachable else rBus)))
    | some raw =>
      let n := bytesAt raw 4 4
      let d := { d with
        ctrl := BitVec.ofNat 32 (bytesAt raw 0 4), count := n, total := n, size := n
        src := BitVec.ofNat 64 (bytesAt raw 8 8), dst := BitVec.ofNat 64 (bytesAt raw 16 8)
        next := BitVec.ofNat 64 (bytesAt raw 24 8), asked := 0, reads := [], beats := [], done := 0, status := 0
        failed := false, lastValid := 0, drained := false, gather := [] }
      let d := { d with bad := dmaQsrc d && (14 ≤ dmaQueue d || n % 32 ≠ 0) }
      if ¬ d.ctrl.getLsbD 31 then .next (finishTransfer s c none)
      else
        match descMisuse s c d raw with
        | some f => .fault f
        | none => .next (beginDesc s c d)

/-- DMA_DESCRIPTOR_FETCHED (R268). -/
def execDmaDescriptorFetched (ch status : Nat) (rem : Remote) (s : State) : Out :=
  if (dmaOf s ch).phase = .fetching then descArrives (settleOutst s ch 0x20) ch (outstStatus s ch 0x20 status) rem
  else .next s

/-- Does a channel ask the read engine for a burst (R270)? -/
def dmaAsks (d : Dma) : Bool :=
  d.phase = .moving && ! d.failed && ! d.drained && d.asked < d.total && d.reads.length < 64

/-- How far a channel stands from the one asked first, round the 16 channels (R268, R270). -/
def dmaRank (s : State) (c : Nat) : Nat := (c + 16 - s.fabric.dmaTurn % 16) % 16

/-- Is it the channel's turn: does no channel nearer the turn ask (R270; log 143)? -/
def dmaFirst (s : State) (c : Nat) : Bool :=
  s.dmas.all fun e => ! (dmaAsks e.2 && dmaRank s e.1 < dmaRank s c)

/-- DMA_BUFFER_GRANTED (R270): the channel's next read burst of up to 1 KiB is issued, in its turn. A burst to memory
ends at its page's end. -/
def execDmaBufferGranted (ch : Nat) (s : State) : Out :=
  let d := dmaOf s ch
  if dmaAsks d ∧ 0 < s.bufFree ∧ dmaFirst s ch then
    let n := min 1024 (d.total - d.asked)
    let n := if dmaQsrc d then n else pageCut (addr41 d.src + d.asked) n
    let s := { s with bufFree := s.bufFree - 1, fabric := { s.fabric with dmaTurn := (ch + 1) % 16 } }
    let s := modDma s ch fun d => { d with
      asked := d.asked + n, reads := d.reads ++ [(d.asked, n)] }
    .next (if dmaQsrc d then s else dmaRead s ch (addr41 d.src + d.asked) n)
  else .next s

/-- Adds remote write beats to the packet being gathered, which is sent once it is full or reaches its page's end, and
before a beat that does not follow on from it (R270). -/
def gatherBeats (s : State) (c off : Nat) (bs : List Byte) : State :=
  let s := if off = (dmaOf s c).gatherAt + (dmaOf s c).gather.length then s else flushGather s c
  let s := modDma s c fun d => { d with
    gatherAt := if d.gather = [] then off else d.gatherAt, gather := d.gather ++ bs }
  let d := dmaOf s c
  if 2048 ≤ d.gather.length ∨ (addr41 d.dst + off + bs.length) % 65536 = 0 then flushGather s c else s

/-- Issues one local write of up to 64 bytes, which is answered by itself (R270). -/
def localBeat (s : State) (c a off : Nat) (bs : List Byte) : State :=
  let s := modDma (flushGather s c) c fun d => { d with beats := d.beats ++ [(off, bs.length)] }
  match localOf s a with
  | some l => if memReady s then writeLocal s l bs else s
  | none => s

/-- Issues the write beats at an offset (R270): local beats one by one, remote ones gathered into packets of up to
2,048 bytes within a page. The count counts down as they are issued. -/
def issueBeats : Nat → State → Nat → Nat → List Byte → State
  | 0, s, _, _, _ => s
  | f + 1, s, c, off, bs =>
    if bs = [] then s
    else
      let a := addr41 (dmaOf s c).dst + off
      let here := ! isRemote s a
      let n := if here then pageCut a (min 64 bs.length) else pageCut a (min bs.length (2048 - (dmaOf s c).gather.length))
      let s := modDma s c fun d => { d with count := d.count - n }
      let s := if here then localBeat s c a off (bs.take n) else gatherBeats s c off (bs.take n)
      issueBeats f s c (off + n) (bs.drop n)

/-- Takes k words from a queue: bytes, VALID of the last word, whether an idle word ended a drain, and the queue. -/
def takeWords (fixed : Bool) : Nat → Queue → List Byte × Nat × Bool × Queue
  | 0, q => ([], 0, false, q)
  | k + 1, q =>
    let (w, q') := readQueue q
    if w.valid = 0 ∧ ¬ fixed then ([], 0, true, q)
    else
      let (bs, v, e, q'') := takeWords fixed k q'
      (w.bytes ++ bs, if bs = [] then w.valid else v, e, q'')

/-- The bytes of a burst arrive: its block is freed as its beats are issued. -/
def burstArrives (s : State) (c off n : Nat) (status : Nat) (rem : Remote) : State :=
  let d := dmaOf s c
  let s := modDma { s with bufFree := s.bufFree + 1 } c fun d => { d with reads := d.reads.filter (·.1 ≠ off) }
  if d.failed then settleDma s c
  else if dmaQsrc d then
    let (bs, v, idle, q) := takeWords (dmaFixed d) (n / 32) (queueOf s (dmaQueue d))
    let s := modQueue s (dmaQueue d) fun _ => q
    let s := modDma s c fun d => { d with lastValid := if bs = [] then d.lastValid else v }
    let s := if idle then
        { modDma s c fun d => { d with
            drained := true, total := off + bs.length, asked := off + bs.length, count := bs.length, reads := [] }
          with bufFree := s.bufFree + (dmaOf s c).reads.length }
      else s
    settleDma (issueBeats (bs.length + 1) s c off bs) c
  else
    let a := addr41 d.src + off
    let st := answerOf s a n status
    match (if st = 0 then readBytes s rem a n else none) with
    | none => settleDma (failDma s c (errorCode d (if st = 3 then 3 else 1))) c
    | some bs => settleDma (issueBeats (bs.length + 1) s c off bs) c

/-- DMA_READ_RESPONSE (R270): the oldest burst's data returns. -/
def execDmaReadResponse (ch status : Nat) (rem : Remote) (s : State) : Out :=
  let d := dmaOf s ch
  match d.phase, d.reads with
  | .moving, (off, n) :: _ =>
    if dmaQsrc d ∨ (localStatus s (addr41 d.src + off) n).isSome then .next (burstArrives s ch off n status rem)
    else .next (burstArrives (settleOutst s ch 0x20) ch off n (outstStatus s ch 0x20 status) rem)
  | _, _ => .next s

/-- A write answer for the beats at an offset. -/
def beatsAnswered (s : State) (c off n status : Nat) : State :=
  let d := dmaOf s c
  let st := answerOf s (addr41 d.dst + off) n status
  let s := modDma s c fun d => { d with
    beats := d.beats.filter (·.1 ≠ off), done := if st = 0 then d.done + n else d.done }
  settleDma (if st = 0 then s else failDma s c (errorCode d st)) c

/-- DMA_WRITE_RESPONSE (R270): the oldest write's answer returns. -/
def execDmaWriteResponse (ch status : Nat) (s : State) : Out :=
  let d := dmaOf s ch
  match d.phase, d.beats with
  | .moving, (off, n) :: _ =>
    if (localStatus s (addr41 d.dst + off) n).isSome then .next (beatsAnswered s ch off n status)
    else .next (beatsAnswered (settleOutst s ch 0x22) ch off n (outstStatus s ch 0x22 status))
  | _, _ => .next s

/-- A descriptor is complete: the queue is released, or rewound with PEEK or after a failure (R272), and the chain goes
on, ends, or stops for an abort (R273, R274). -/
def descDone (s : State) (c : Nat) : State :=
  let d := dmaOf s c
  let ok := d.status = 0
  let s := if dmaQsrc d ∧ ¬ d.bad ∧ d.status ≠ 4 then
      modQueue s (dmaQueue d) fun q => if ok ∧ ¬ dmaPeek d then releaseQueue (markQueue q) else rewindQueue q
    else s
  if ¬ ok then finishTransfer s c (some (statusEnd d.status.toNat))
  else
    match d.item with
    | none => s
    | some slot =>
      let s := modSlot s slot fun l => { l with progress := l.progress + 1, result := BitVec.ofNat 64 d.addr
                                                afar := l.afar || isRemote s (addr41 d.dst) }
      if dmaLast d ∧ (slotOf s slot).flags &&& BitVec.ofNat 16 fFord = 0 then finishTransfer s c none
      else
        match (slotOf s slot).cause with
        | some r => finishTransfer s c (some r.toNat)
        | none => fetchDesc s c (addr41 d.next)

/-- The queue source of a descriptor that does not complete is rewound and nothing freed (R272, R274), unless the queue
itself has been reset. -/
def rewindSource (s : State) (d : Dma) : State :=
  if (d.phase = .moving ∨ d.phase = .writeback) ∧ dmaQsrc d ∧ ¬ d.bad ∧ d.status ≠ 4 then
    modQueue s (dmaQueue d) rewindQueue
  else s

/-- The write-back is answered: CTRL is written with OWN cleared, with the bytes beside it where the descriptor lies in
another node's memory (log 100); or an error ends the item BUS_ERROR, and a queue source is rewound (R271, R272). -/
def writebackAnswered (s : State) (c status : Nat) : State :=
  let d := dmaOf s c
  if answerOf s (d.addr + 32) 32 status ≠ 0 then finishTransfer (rewindSource s d) c (some rBus)
  else
    let rest := le 4 d.size ++ le 8 d.src.toNat ++ le 8 d.dst.toNat ++ le 8 d.next.toNat
    descDone (memWrite s d.addr (le 4 (d.ctrl.toNat % 2 ^ 31) ++ if isRemote s d.addr then rest else [])) c

/-- DMA_WRITEBACK_ACK (R271). -/
def execDmaWritebackAck (ch status : Nat) (s : State) : Out :=
  if (dmaOf s ch).phase = .writeback then
    let mine (o : Outst) : Bool := o.dma.isNone && o.cls = 0x22#8 && o.addr = (dmaOf s ch).addr + 32
    let status := if s.fabric.outst.any fun o => mine o && o.dead then 3 else status
    .next (writebackAnswered { s with fabric := { s.fabric with
      outst := s.fabric.outst.filter fun o => ! mine o } } ch status)
  else .next s

/-- A channel stops without write-back, its item ending otherwise (R274): a queue source is rewound. -/
def stopDma (s : State) (c : Nat) : State :=
  let d := dmaOf s c
  if d.phase = .idle then s
  else
    modDma (rewindSource s d) c fun d => { d with phase := .stopping, item := none, start := false }

/-- The wait of a stopped channel is over. -/
def idleDma (s : State) (c : Nat) : State :=
  { s with
    bufFree := s.bufFree + (dmaOf s c).reads.length, dmas := tdel s.dmas c
    fabric := { s.fabric with outst := s.fabric.outst.filter fun o => o.dma ≠ some c } }

/-- DMA_STOP_WAIT_END (R274): the wait for outstanding responses is over; OWN stays set. On a channel that entry to
BYPASS stops with a descriptor that does not complete in time, it ends the item (R61). -/
def execDmaStopWaitEnd (ch : Nat) (s : State) : Out :=
  let d := dmaOf s ch
  if d.phase = .stopping then .next (idleDma s ch)
  else
    match d.item with
    | some slot =>
      let l := slotOf s slot
      if s.dev.mode = .bypass ∧ l.cause.isSome then
        .next (idleDma (endItem (stopDma s ch) slot (some rAbortedHost) fun l => partialIf true (l.progress ≠ 0) l) ch)
      else .next s
    | none => .next s

end Sys2Proof.Machine
end

