-- ==== Sys2Proof/Machine/DpsCh.lean ====
section
/-! DEFINITION. DUT power supplies: enabling, ramps, the package current manager, records and discharge (chapter 15). -/

namespace Sys2Proof.Machine

/-- The set point in µV. -/
def setMicrovolts (d : Dps) : Nat := d.set / 2 ^ 32

/-- The channels of the gang that a channel stands in (R281). -/
def gangOf (s : State) (n : Nat) : List Nat :=
  match (dpsOf s n).leader with
  | some l => (List.range 48).filter fun k => (dpsOf s k).leader = some l
  | none => [n]
def gangLeader (s : State) (n : Nat) : Nat := ((dpsOf s n).leader).getD n

/-- A DPS record (Table 15.4). -/
def dpsRecord (s : State) (id n event : Nat) (uv ua : Int) : List Byte :=
  le 8 (stamp s).toNat ++ le 2 id ++ le 1 n ++ le 1 event ++ le 1 (syncCode s.hw.status) ++ zeros 3
    ++ leInt 4 uv ++ leInt 4 ua

/-- Writes a DPS record with given output figures. -/
def putDps (s : State) (id n event : Nat) (uv ua : Int) : State :=
  (queueWrite s 12 4 (liveCount s) (dpsRecord s id (gangLeader s n) event uv ua)).1

/-- The item concerned with a channel, as ITEM_ID. -/
def dpsItemId (s : State) (n : Nat) : Nat :=
  match dpsBusy s n with
  | some slot => itemId s slot
  | none => 0

/-- Load of a channel, its gang's total for a leader, in µA. -/
def loadTotal (s : State) (n : Nat) : Nat := ((gangOf s n).map fun k => (dpsOf s k).load).sum

/-- The output of a channel in µV: its set point, or, where the limit or the headroom holds it below, a free value
(R283). -/
def outputNow (s : State) (n : Nat) : Nat × State :=
  if (dpsOf s n).limitOn || (dpsOf s n).dropout then takeFree s (2 ^ 32) else (setMicrovolts (dpsOf s n), s)

/-- Records of an event on every channel of an item, a gang by its leader (R284). -/
def itemRecords (s : State) (slot event : Nat) : State :=
  (((dpsList (pDpsMask (slotOf s slot).msg)).map (gangLeader s)).dedup).foldl
    (fun s n =>
      let (uv, s) := outputNow s n
      putDps s (itemId s slot) n event uv (loadTotal s n)) s

/-! The package current manager (R285, R286). -/

/-- A channel's present contribution: µA and pW. -/
def presentShare (s : State) (n : Nat) : Nat × Nat :=
  let d := dpsOf s n
  let out := if d.limitOn || d.dropout then d.low else setMicrovolts d
  if d.enabled then (d.load, (s.power.vps.getD (n / 12) 0 - out) * d.load) else (0, 0)

/-- The contribution of a channel under a list of reservations. -/
def share (s : State) (rs : List Resv) (n : Nat) : Nat × Nat :=
  match rs.find? fun r => r.chan = n with
  | some r => (r.amps, r.power)
  | none => presentShare s n

/-- Do the accounts keep 12 A per rail, 32 A and 18 W for the package? -/
def withinBudget (s : State) (rs : List Resv) : Bool :=
  let sh := (List.range 48).map (share s rs)
  ((List.range 4).all fun g => (((sh.drop (12 * g)).take 12).map Prod.fst).sum ≤ 12000000)
    && (sh.map Prod.fst).sum ≤ 32000000 && (sh.map Prod.snd).sum ≤ 18 * 10 ^ 12

/-- The reservations of an item. -/
def reserve (s : State) (slot : Nat) : List Resv :=
  let m := (slotOf s slot).msg
  (dpsList (pDpsMask m)).map fun n =>
    let d := dpsOf s n
    { slot := slot, chan := n, amps := d.limit
      power := (s.power.vps.getD (n / 12) 0 - min (setMicrovolts d) (pTarget m)) * d.limit }

/-- Is the item admitted? -/
def admitted (s : State) (slot : Nat) : Bool := s.resvs.any fun r => r.slot = slot && r.over_ = 0

/-- Items held on the budget, in slot-write order. -/
def budgetHeld (s : State) : List Nat := slotsInOrder s fun l => inFlight l && l.budget

/-- Admits an item: its reservation, the start of its ramp from where each channel stands, and the BEGIN records
(Table 15.4; log 145). -/
def takeBudget (s : State) (slot : Nat) : State :=
  let rs := reserve s slot
  let chans := rs.map (·.chan)
  let s := modSlot { s with
      resvs := s.resvs.filter (fun r => ! chans.contains r.chan) ++ rs
      dps := tmods {} s.dps chans fun _ d => { d with strobed := false, goal := none } } slot
    fun l => { l with budget := false }
  itemRecords s slot 0

/-- May the item be admitted now? -/
def fits (s : State) (slot : Nat) : Bool :=
  let rs := reserve s slot
  withinBudget s (rs ++ s.resvs)

/-- Admits held items in order, until one does not fit (R286). -/
def admitHeld : List Nat → State → State
  | [], s => s
  | i :: is, s => if (slotOf s i).st = .inFlight ∧ fits s i then admitHeld is (takeBudget s i) else s

/-! Items (R278 to R280). -/

/-- Enables a disabled channel at 0 V. -/
def enableDps (d : Dps) : Dps :=
  if d.enabled then d else { d with enabled := true, passive := false, discharging := false, set := 0, goal := none }

/-- The start of a DPS item: its ramp asks for admission, which an item held before it in slot-write order blocks
(R286). -/
def startDps (s : State) (slot : Nat) : State :=
  if (budgetHeld s).all (fun i => (slotOf s slot).order < (slotOf s i).order) ∧ fits s slot then takeBudget s slot
  else itemRecords (modSlot s slot fun l => flagSlot fBudgetHeld { l with budget := true }) slot 6

/-- DPS_DISPATCH (R278): disabled channels are enabled at dispatch, whenever the ramp begins. -/
def execDpsDispatch (slot : Nat) (s : State) : Out :=
  if canDispatch s slot .dps then
    let s := takeItem s slot
    let s := { s with dps := tmods {} s.dps (dpsList (pDpsMask (slotOf s slot).msg)) fun _ d => enableDps d }
    let (s, now) := armItem s slot
    .next (holdAsked (if now then startDps s slot else s) slot)
  else .next s

/-- What remains of a channel's register after its item: TARGET, or the set point where the ramp stopped; a strobe or
CLR_N that came meanwhile applies from now on at the slew limit (Table 15.3), and an output that CLR_N has cleared stays at its clear code until
its group strobes (R35). -/
def settleSet (s : State) (n : Nat) : State :=
  let d := dpsOf s n
  let clrLow := s.power.clrLow
  let s := if d.strobed then s
    else modDac s (dpsKey n) fun x => { x with
      active := codeFor (corrOf s (dpsKey n)) (setMicrovolts d), activeV := some (setMicrovolts d : Int), slew := none
      held := if x.byClr then x.held else clrLow }
  let x := dacOf s (dpsKey n)
  modDps s n fun d =>
    let d' := { d with strobed := false }
    if d.enabled && (d.strobed || x.held) then slewTo (setOfDac x) d' else d'

/-- RESULT of a DPS item: the output of its lowest channel and the greatest load (Table 6.8). -/
def dpsResult (s : State) (m : Msg) : BitVec 64 × State :=
  let ns := dpsList (pDpsMask m)
  let ua := (ns.map fun n => (dpsOf s n).load).foldl max 0
  let (uv, s) := outputNow s (ns.headD 0)
  (BitVec.ofNat 64 (uv % 2 ^ 32 + ua % 2 ^ 32 * 2 ^ 32), s)

/-- The end of a DPS item (R279, R280, Table 6.8). One whose ramp has not begun leaves the active registers (R286). -/
def finishDps (s : State) (slot : Nat) (reason : Option Nat) (extra : Nat) : State :=
  let ns := dpsList (pDpsMask (slotOf s slot).msg)
  let (r, s) := dpsResult s (slotOf s slot).msg
  let begun := ! (slotOf s slot).armed
  let ramped := begun && ! (slotOf s slot).budget
  let s := if begun then modQueue (itemRecords s slot 1) 12 flushQueue else s
  let s := if ramped then ns.foldl settleSet s else s
  let s := { s with resvs := s.resvs.map fun r => if r.slot = slot ∧ r.over_ = 0 then { r with over_ := 1 } else r }
  endItem s slot reason fun l =>
    partialIf reason.isSome (begun && reason ≠ some rAbortedFault && l.progress ≠ 0)
      (flagSlot extra { l with result := r })

/-- The move of one update in 2^-32 µV: SLEW µV/µs over 16 control-clock periods of the root at M_LOCK (R279). -/
def rampStep (s : State) (slew : Nat) : Nat := slew * 512 * 2 ^ 52 / (100 * s.clock.mLock.toNat)

/-- A ramp update ends a correction's slew of the set-point DAC, whose register takes the update's code; a code that a
strobe has brought meanwhile stays (R339, Table 15.3). -/
def rampCode (s : State) (n : Nat) : State :=
  let d := dpsOf s n
  if d.strobed then s
  else modDac s (dpsKey n) fun x => { x with
    slew := none, active := codeFor (corrOf s (dpsKey n)) (setMicrovolts d), activeV := some (setMicrovolts d : Int) }

/-- DPS_RAMP_STEP (R279): one update of an admitted item; an abort takes effect here (R280). -/
def execDpsRampStep (slot : Nat) (s : State) : Out :=
  let l := slotOf s slot
  if l.st = .inFlight ∧ l.kind = some .dps ∧ ¬ l.budget ∧ ¬ l.armed ∧ admitted s slot then
    match l.cause with
    | some r => .next (finishDps s slot (some r.toNat) 0)
    | none =>
      let ns := dpsList (pDpsMask l.msg)
      let target := pTarget l.msg * 2 ^ 32
      let k := rampStep s (pSlew l.msg)
      let s := ns.foldl rampCode { s with dps := tmods {} s.dps ns fun _ d => { d with set := towards d.set target k } }
      let s := modSlot s slot fun l => { l with progress := l.progress + 1 }
      .next (if ns.all fun n => (dpsOf s n).set = target then finishDps s slot none 0 else s)
  else .next s

/-- DPS_BUDGET_TIMEOUT (R286). -/
def execDpsBudgetTimeout (slot : Nat) (s : State) : Out :=
  let l := slotOf s slot
  if l.st = .inFlight ∧ l.kind = some .dps ∧ l.budget then .next (finishDps s slot (some rBudget) 0) else .next s

/-- The output that the manager reads of a channel whose limit or headroom acts: a free value (R283, R285). -/
def readLow (s : State) (n : Nat) : State :=
  let (v, s) := takeFree s (2 ^ 32)
  modDps s n fun d => { d with low := v }

/-- CURRENT_MANAGER_REFRESH (R285): the monitors' figures (channel, µA) and the rails; a reservation has ended at the
first refresh for which 10 µs have passed since its item's end; held items are admitted in order. -/
def execCurrentManagerRefresh (loads : List (Nat × Nat)) (vps : List Nat) (s : State) : Out :=
  let s := { s with
    dps := loads.foldl (fun t e => tmod {} t e.1 fun d => { d with load := e.2 }) s.dps
    power := { s.power with vps := vps }
    resvs := (s.resvs.map fun r => if r.over_ = 0 then r else { r with over_ := r.over_ + 1 }).filter (·.over_ ≤ 11) }
  let s := (tkeys s.dps fun _ d => d.limitOn || d.dropout).foldl readLow s
  .next (admitHeld (budgetHeld s) s)

/-- DPS_LIMIT_CHANGE (R283). -/
def execDpsLimitChange (n : Nat) (acts : Bool) (microvolts microamps : Int) (s : State) : Out :=
  .next (putDps (modDps s n fun d => { d with limitOn := acts }) (dpsItemId s n) n (if acts then 2 else 3)
    microvolts microamps)

/-- DPS_DROPOUT (R283). -/
def execDpsDropout (n : Nat) (lost : Bool) (microvolts microamps : Int) (s : State) : Out :=
  .next (putDps (modDps s n fun d => { d with dropout := lost }) (dpsItemId s n) n (if lost then 4 else 5)
    microvolts microamps)

/-! Discharge (R289, R278). -/

/-- A channel's regulator is disabled and its discharge begins. -/
def dischargeDps (d : Dps) : Dps :=
  if d.enabled then
    { d with enabled := false, discharging := true, limitOn := false, dropout := false, ranging := false, set := 0, goal := none }
  else d
def dischargeGroup (s : State) (g : Nat) : State :=
  { s with dps := tmods {} s.dps ((List.range 12).map (12 * g + ·)) fun _ d => dischargeDps d }

/-- The disarm is complete: every output is disabled and discharged, so the mapped disconnects open and DONE is posted
(R278). During SERVICE it waits for the return to ARMED (R373). -/
def finishDisarm (s : State) : State :=
  if s.dev.mode = .armed ∧ s.dev.disarming ∧ (List.range 48).all (fun n => ! (dpsOf s n).enabled && ! (dpsOf s n).discharging) then
    let s := { s with
      chans := s.chans.foldl (fun t e =>
        tset {} t e.1 { e.2 with closed := e.2.pmuOn && e.2.closed, armed := false, drvOn := false }) s.chans
      pebs := s.pebs.foldl (fun t e => tset {} t e.1 { e.2 with rest := .none }) s.pebs
      dev := { s.dev with disarming := false, armedSched := none, armedMap := [], siteEnable := 0 } }
    answerOwed (submitDue (setMode s .idle)) (isOp 0x0004) fun q => doneResp s q 0 []
  else s

/-- Is a channel's output at or below 50 mV, or its ramp over (R278)? While the limit or the headroom acts, the output
lies below its set point (R283). -/
def disarmRamped (d : Dps) : Bool := d.goal.isNone || setMicrovolts d ≤ 50000 || d.limitOn || d.dropout

/-- DPS_DISARM_OUTPUT_DISABLE (R278). -/
def execDpsDisarmOutputDisable (n : Nat) (s : State) : Out :=
  if s.dev.disarming ∧ (dpsOf s n).enabled ∧ disarmRamped (dpsOf s n) then .next (finishDisarm (modDps s n dischargeDps)) else .next s

/-- DPS_DISCHARGE_DONE (R289): the passive path closes. The record's figures, at or below 50 mV, are not stated: free
values. -/
def execDpsDischargeDone (n : Nat) (s : State) : Out :=
  if (dpsOf s n).discharging then
    let s := modDps s n fun d => { d with discharging := false, passive := true }
    let (uv, s) := takeFree s 50001
    let (ua, s) := takeFree s (2 ^ 32)
    .next (finishDisarm (putDps s 0 n 7 uv ua))
  else .next s

/-- PAUSE and RESUME of a DPS item (Table 15.3). -/
def pauseDps (s : State) (slot : Nat) : State := modSlot s slot fun l => { l with st := .held }
def resumeDps (s : State) (slot : Nat) : State := modSlot s slot fun l => { l with st := .inFlight }

/-- An abort of a DPS item: at the next ramp step, or at once where it stands held or waits (R97, R280). -/
def abortDps (s : State) (slot reason : Nat) : State :=
  let l := slotOf s slot
  if l.st = .inFlight ∧ admitted s slot then
    modSlot s slot fun l => { l with cause := if l.cause.isNone then some (BitVec.ofNat 8 reason) else l.cause }
  else finishDps s slot (some reason) 0

end Sys2Proof.Machine
end

