-- ==== Sys2Proof/Machine/Flags.lean ====
section
/-! DEFINITION. The flag computations: the clock flags and status record (R57), the Levee log as its registers show it
(R361 to R363), and the balls FAULT_N and ALERT_N. -/

namespace Sys2Proof.Machine

/-! Balls that follow the state (Table 2.7). -/

/-- Is HWSYNC_OUT connected to HWSYNC_IN by the Ford: while its switches are closed (R22, R325), and until Headwater takes
the chain? -/
def hwsyncThrough (s : State) : Bool := s.power.fordClosed || s.hw.syncMode < 2

/-- DDR_RESET_N: low until the interface is trained; in SAFE the memory is held in self-refresh. -/
def ddrResetHigh (s : State) : Bool := s.mem.avail

/-! Clock flags (Table 3.5). -/

/-- CLK_FLAGS. -/
def clkFlags (s : State) : Nat :=
  b2n s.clock.locked + 2 * b2n s.clock.refOk + 4 * b2n s.clock.onBypass + 8 * b2n s.clock.stepActive
    + 16 * b2n s.clock.relocking + 32 * b2n s.clock.syncDegraded + 64 * b2n s.clock.syncWarn

/-- The clock status record from message offset b. -/
def clockFields (s : State) (b : Nat) : List (Nat × Nat × Nat) :=
  [(b, 4, s.clock.mLock.toNat), (b + 4, 4, s.clock.mNow.toNat), (b + 8, 4, clkFlags s),
   (b + 12, 1, syncCode s.hw.status), (b + 13, 1, s.hw.syncMode), (b + 16, 8, (stamp s).toNat),
   (b + 24, 4, s.hw.offsetComp.toNat), (b + 28, 4, if 2 ≤ s.hw.syncMode then s.hw.hopDelay.toNat else 0),
   (b + 32, 8, s.hw.lastLoss.toNat), (b + 40, 4, s.hw.lossCount.toNat), (b + 44, 2, s.hw.errLast.toNat)]

/-- Applies a change and posts OPC_CLOCK_NOTICE where CLK_FLAGS or SYNC_STATUS has changed (Table 6.18, R410). -/
def changeClock (s : State) (f : State → State) : State :=
  let t := f s
  if clkFlags t = clkFlags s ∧ t.hw.status = s.hw.status then t
  else
    let t := if t.hw.status = s.hw.status then t
      else { t with hw := { t.hw with statWas := s.hw.status, statAt := stamp t } }
    deviceNotice t 3 0x0F05 48 (clockFields t 16)

/-! The event log (R361, R362). -/

/-- Unacknowledged records: the indices from ACK_TO up to HEAD. -/
def unacked (s : State) : Nat := (s.levee.head - s.levee.ackTo).toNat

/-- Is an index among the unacknowledged ones? -/
def isUnacked (s : State) (i : BitVec 16) : Bool := (i - s.levee.ackTo).toNat < unacked s

/-- The record in the entry of an index. -/
def recAt (s : State) (i : BitVec 16) : EvRec := tget {} s.levee.log (i.toNat % 512)

/-- The unacknowledged records, the earliest first. -/
def openRecords (s : State) : List EvRec :=
  (List.range (min 512 (unacked s))).map fun k => recAt s (s.levee.ackTo + BitVec.ofNat 16 k)

/-- Does a record carry INJECTED without REAL: a rehearsal (R360)? -/
def rehearsal (r : EvRec) : Bool := r.flags.getLsbD 1 && ! r.flags.getLsbD 2

/-- Is a CONTAINED record of the region unacknowledged (R49, R359)? A rehearsal's record counts (log 33). -/
def containedOpen (s : State) (region : Nat) : Bool :=
  (openRecords s).any fun r => r.cls = 1 && r.region.toNat = region

/-- Is an injection running (LEVEE_STATUS.INJECTING)? -/
def injecting (s : State) : Bool := s.levee.inject.isSome

/-- FAULT_N is low. -/
def faultLow (s : State) : Bool := s.dev.mode = .safe && ! s.power.porHeld && ! s.power.warmHeld

/-- LEVEE_STATUS (Table 19.6). -/
def leveeStatus (s : State) : Nat :=
  b2n (s.levee.ctrl &&& 0x1F#32 = 0x1F#32) * 2 ^ 31 + b2n (faultLow s) * 2 ^ 30
    + b2n s.levee.cellarOk * 2 ^ 29 + b2n (s.levee.shadows ≠ []) * 2 ^ 28 + b2n (injecting s) * 2 ^ 27
    + min 512 (unacked s) * 2 ^ 16 + s.levee.lost.toNat

/-- An event record (Table 19.5). -/
def eventBytes (r : EvRec) : List Byte :=
  le 2 r.index.toNat ++ le 1 r.cls ++ le 1 r.base ++ le 2 r.det.toNat ++ le 2 r.region.toNat ++ le 8 r.time.toNat
    ++ le 2 r.flags.toNat ++ le 2 r.link.toNat ++ le 4 r.detail.toNat ++ le 4 r.ns ++ le 4 r.repeats.toNat

/-! The status balls (R363, Table 2.7). -/

/-- Does a response ring with ALERT_EN set hold entries? -/
def ringAlert (s : State) : Bool :=
  [0, 3].any fun n => (mbOf s n).alertEn && (mbOf s n).rspHead ≠ (mbOf s n).rspTail

/-- ALERT_N is low. -/
def alertLow (s : State) : Bool :=
  ! s.power.porHeld
    && (ringAlert s || s.dev.mode = .safe
      || (openRecords s).any fun r => r.cls = 1 || r.cls = 2 || (r.cls = 0 && s.levee.ctrl.getLsbD 7))

end Sys2Proof.Machine
end

