-- ==== Sys2Proof/Machine/LaneCh.lean ====
section
/-! DEFINITION. The DUT lanes: tests, checkers, eye scan, training observation and the result record (chapter 16). -/

namespace Sys2Proof.Machine

def laneOf (s : State) (n : Nat) : Lane := tget {} s.lanes n
def modLane (s : State) (n : Nat) (f : Lane → Lane) : State := { s with lanes := tmod {} s.lanes n f }
def lgOf (s : State) (g : Nat) : LaneGrp := tget {} s.lgs g

/-- Lane rate of a rate code at M_LOCK, in Mbit/s (Table 16.1): root × 2, × 1, ÷ 2, ÷ 4. -/
def laneMbps (s : State) (rate : Nat) : Nat := s.clock.mLock.toNat * 25 * 2 ^ (3 - rate) / 2 ^ 20

/-- Is the rate below 2.0 Gbit/s (R291)? -/
def rateLow (s : State) (rate : Nat) : Bool := s.clock.mLock.toNat * 25 * 2 ^ (3 - rate) < 2000 * 2 ^ 20

/-- Bytes per lane entry (R300). -/
def laneStride (test : Nat) : Nat := if test = 2 then 8256 else if test = 3 then 320 else 64

/-- A lane entry (Table 16.7), with the point counts or events of its test. -/
def laneEntry (test n : Nat) (x : Lane) : List Byte :=
  let fl := b2n x.locked + 2 * b2n x.synced + 4 * b2n x.inv + 8 * b2n x.noLock + 16 * b2n x.noSync
  le 2 n ++ le 1 fl ++ zeros 1 ++ le 4 x.losses ++ le 8 x.bits ++ le 8 (if test = 0 then x.errs else 0)
    ++ le 4 (if test = 0 then x.resyncs else 0) ++ leInt 4 (if x.locked then x.freq else 0) ++ le 8 x.tLock.toNat
    ++ le 8 x.tSync.toNat ++ le 8 x.tErr.toNat ++ le 4 (if test = 3 then x.lost else 0) ++ zeros 4
    ++ (if test = 2 then (List.range 2048).flatMap fun i => le 4 (x.points.getD i 0)
      else if test = 3 then (List.range 16).flatMap fun i =>
        match x.events[i]? with
        | some e => le 8 e.time.toNat ++ le 1 e.cls ++ le 1 (b2n e.inv) ++ zeros 6
        | none => zeros 16
      else [])

/-! What the transmitters send (R294, R296). -/

/-- The degree of a PRBS and its second tap. -/
def prbsTap (p : Nat) : Nat := if p = 7 then 6 else if p = 9 then 5 else if p = 15 then 14 else if p = 23 then 18 else 28

/-- The register of a PRBS generator after i bits, from the all-ones state; the oldest bit is the highest. -/
def prbsAt (p : Nat) : Nat → Nat
  | 0 => 2 ^ p - 1
  | i + 1 =>
    let x := prbsAt p i
    (2 * x + b2n (x.testBit (p - 1) != x.testBit (prbsTap p - 1))) % 2 ^ p

/-- Bit i of the sequence of lane 28g + k, delayed by 64 × k bits. -/
def prbsBit (p k i : Nat) : Bool :=
  let per := 2 ^ p - 1
  (prbsAt p ((i + per - 64 * k % per) % per)).testBit (p - 1)

/-- The signal of a lane in UI i of its item, none in electrical idle: the PRBS, or its role of Table 16.3. Every
transmitter of a group that is not ACTIVE is idle (R302). The framing pattern goes out from its leftmost bit (log 146). -/
def laneSends (s : State) (n i : Nat) : Option Bool :=
  let x := laneOf s n
  let k := n % 28
  match x.tx && unitState s (unitLg (n / 28)) = .active, x.item with
  | true, some slot =>
    let g := lgOf s (n / 28)
    some (if g.fwd ∧ k = 16 then i % 8 < 4
      else if g.fwd ∧ (k = 17 ∨ k = 18) then i % 2 = 0
      else if g.fwd ∧ k = 19 ∧ g.cfg.getLsbD 13 then i % 2 = 1
      else prbsBit (pPrbs (slotOf s slot).msg) k i)
  | _, _ => none

/-- What a transmit ball holds (Table 2.7, R302). -/
inductive TxBall where
  | highZ | commonMode | level (high : Bool)
deriving DecidableEq, Repr

/-- The P and the N ball of a lane in UI i of its item: both at the common mode in electrical idle; in SE mode the N ball
stays there (Table 16.2), and the P ball too in idle (R302). -/
def txBalls (s : State) (n i : Nat) : TxBall × TxBall :=
  if ! s.power.pdOn.getLsbD (5 + n / 28) then (.highZ, .highZ)
  else match laneSends s n i with
    | none => (.commonMode, .commonMode)
    | some b => (.level b, if (lgOf s (n / 28)).cfg.getLsbD 13 then .commonMode else .level (! b))

/-- The receive balls of a group are terminated while its domain is on (R302). -/
def laneTerminated (s : State) (g : Nat) : Bool := s.power.pdOn.getLsbD (5 + g)

/-- The result header (Table 16.6). -/
def laneHeader (s : State) (slot : Nat) (ok : Bool) (tStart : Nat) : List Byte :=
  let m := (slotOf s slot).msg
  let g := lgOf s (pLaneGroup m)
  let ls := laneList m
  le 2 (itemId s slot) ++ le 1 (pLaneGroup m) ++ le 1 (pTest m) ++ le 1 (pPrbs m) ++ le 1 g.rate ++ le 1 (b2n g.fwd)
    ++ le 1 (if ok then 4 else 5) ++ le 4 (pLaneMask m) ++ le 4 g.cfg.toNat ++ le 8 (pBits m)
    ++ le 8 tStart ++ le 8 (stamp s).toNat ++ le 4 (laneMbps s g.rate)
    ++ le 2 ls.length ++ le 2 (laneStride (pTest m)) ++ zeros 16

/-- PROGRESS: BITS of the lowest named lane ÷ 65,536 (R301). -/
def laneProgress (s : State) (slot : Nat) : State :=
  let n := (laneList (slotOf s slot).msg).headD 0
  let p := min 0xFFFFFFFF ((laneOf s n).bits / 65536)
  modSlot s slot fun l => { l with progress := BitVec.ofNat 32 p }

/-- The lanes of an item: the named ones and the clock lanes it transmits on. -/
def itemLanes (s : State) (slot : Nat) : List Nat := tkeys s.lanes fun _ x => x.item = some slot

/-- What a lane keeps when an item takes it or leaves it: what its receiver has locked to, and since when. -/
def freeLane (x : Lane) : Lane :=
  if x.locked then { rx := x.rx, locked := true, freq := x.freq, tLock := x.tLock, everLock := true } else { rx := x.rx }

/-- The end of a LANE item (R300, R301): the record, idle transmitters, the terminal state. T_START of an item that ends
before its first UI is not stated: a free value (log 99). -/
def finishLane (s : State) (slot : Nat) (reason : Option Nat) (extra : Nat) : State :=
  let m := (slotOf s slot).msg
  let begun := (itemLanes s slot).any fun n => (laneOf s n).begun
  let s := laneProgress s slot
  let (v, s) := if begun then ((laneOf s ((laneList m).headD 0)).tStart.toNat, s) else takeFree s (2 ^ 64)
  let s := memWrite s (pAddr56 m) (laneHeader s slot reason.isNone v ++ (laneList m).flatMap fun n =>
    laneEntry (pTest m) n (laneOf s n))
  let some_ := (laneList m).any fun n => (laneOf s n).bits ≠ 0
  let s := { s with lanes := tmods {} s.lanes (itemLanes s slot) fun _ x => freeLane x }
  endItem s slot reason fun l =>
    partialIf reason.isSome some_ (flagSlot extra { l with result := BitVec.ofNat 64 (pAddr56 m) })

/-- The lanes of an item, and the clock lanes, from its dispatch on: their receivers are watched (R293, R294). -/
def takeLanes (s : State) (slot : Nat) : State :=
  let m := (slotOf s slot).msg
  { s with lanes := tmods {} s.lanes ((laneList m ++ clockLanes s m).dedup) fun _ x =>
      { freeLane x with item := some slot } }

/-- The start of a LANE item (R296): its lanes leave idle in one UI, but for TEST 3. -/
def startLane (s : State) (slot : Nat) : State :=
  let m := (slotOf s slot).msg
  let t := stamp s
  { s with lanes := tmods {} s.lanes (itemLanes s slot) fun _ x => { x with begun := true, tx := pTest m ≠ 3, tStart := t } }

/-- LANE_DISPATCH (R296). -/
def execLaneDispatch (slot : Nat) (s : State) : Out :=
  if canDispatch s slot .lane then
    let (s, now) := armItem (takeItem s slot) slot
    let s := takeLanes s slot
    .next (if now then startLane s slot else s)
  else .next s

/-- The slot and test of a lane that an item names and that is not finished, and of one whose test has begun. -/
def laneHeld (s : State) (n : Nat) : Option (Nat × Nat) :=
  match (laneOf s n).item with
  | some slot =>
    let m := (slotOf s slot).msg
    if (laneList m).contains n ∧ ¬ (laneOf s n).done then some (slot, pTest m) else none
  | none => none
def laneRun (s : State) (n : Nat) : Option (Nat × Nat) := if (laneOf s n).begun then laneHeld s n else none

/-- A lane changes, and its item ends once every named lane is finished (R301). -/
def laneStep (s : State) (slot n : Nat) (f : Lane → Lane) : State :=
  let s := laneProgress (modLane s n f) slot
  if (laneList (slotOf s slot).msg).all fun k => (laneOf s k).done then finishLane s slot none 0 else s

/-- A receiver gains its clock; T_LOCK is that of the first time (R293, Table 16.7). -/
def gainRx (t : Count) (freq : Int) (x : Lane) : Lane :=
  { x with locked := true, freq := freq, tLock := (if x.everLock then x.tLock else t), everLock := true, rx := true }

/-- A receiver that no test still watches gains or loses its clock: outside a test, in an ACTIVE group (R293, R303); the
entry of a finished lane says whether it is locked at the end (R300). -/
def idleRx (s : State) (n : Nat) (gain : Option Int) : State :=
  let free := (laneOf s n).item.isNone
  match gain with
  | some f => if free ∧ unitState s (unitLg (n / 28)) ≠ .active then s else modLane s n (gainRx (stamp s) f)
  | none => modLane s n fun x => { x with locked := false, rx := false, everLock := x.everLock && ! free }

/-- LANE_RX_LOCK (R293, R294). -/
def execLaneRxLock (lane : Nat) (freqOffset : Int) (s : State) : Out :=
  match laneHeld s lane with
  | some (slot, _) => .next (laneStep s slot lane (gainRx (stamp s) freqOffset))
  | none => .next (idleRx s lane (some freqOffset))

/-- Does a lane that is marked NO_LOCK or NO_SYNC count as finished? Not in TEST 3 (R299), nor in TEST 1, which ends when
every lane has sent its bits (R296; log 155), nor in TEST 0 with BITS zero (R297). -/
def markFinishes (test bits : Nat) : Bool := test = 2 || (test = 0 && bits ≠ 0)

/-- NO_LOCK (R293, R294): 100 µs from dispatch have passed with no clock. -/
def execNoLock (lane : Nat) (s : State) : Out :=
  match laneHeld s lane with
  | some (slot, test) =>
    if (laneOf s lane).everLock then .next s
    else
      let fin := markFinishes test (pBits (slotOf s slot).msg)
      .next (laneStep s slot lane fun x => { x with noLock := true, done := fin })
  | none => .next s

/-- LANE_PRBS_SYNC (R297). -/
def execLanePrbsSync (lane : Nat) (inverted : Bool) (s : State) : Out :=
  let t := stamp s
  match laneRun s lane with
  | some (slot, test) =>
    if test = 0 ∧ (laneOf s lane).locked then
      .next (laneStep s slot lane fun x => { x with
        sync := true, inv := inverted, tSync := (if x.synced then x.tSync else t), synced := true })
    else .next s
  | none => .next s

/-- Counted bits and errors join a lane's counts, with the Headwater count at the first of those errors; a lane is
finished at BITS, and with BITS zero never (R297). -/
def addBits (want bits errors : Nat) (t : Count) (x : Lane) : Lane :=
  { x with
    bits := x.bits + bits, errs := x.errs + errors, tErr := (if x.errs = 0 ∧ errors ≠ 0 then t else x.tErr)
    done := want ≠ 0 && want ≤ x.bits + bits }

/-- LANE_SYNC_DROP (R297): bits and errors counted since the last report, the dropped window of 64 bits with more than 16
errors included. -/
def execLaneSyncDrop (lane bits : Nat) (errors : BitErrors) (s : State) : Out :=
  match laneRun s lane with
  | some (slot, test) =>
    let want := pBits (slotOf s slot).msg
    if test = 0 ∧ (laneOf s lane).sync ∧ 64 ≤ bits ∧ 16 < errors.count then
      .next (laneStep s slot lane fun x => { addBits want bits errors.count errors.first x with
        sync := false, resyncs := x.resyncs + 1 })
    else .next s
  | none => .next s

/-- NO_SYNC (R297). -/
def execNoSync (lane : Nat) (s : State) : Out :=
  match laneRun s lane with
  | some (slot, test) =>
    if test = 0 ∧ (laneOf s lane).everLock ∧ ¬ (laneOf s lane).synced then
      let fin := markFinishes 0 (pBits (slotOf s slot).msg)
      .next (laneStep s slot lane fun x => { x with noSync := true, done := fin })
    else .next s
  | none => .next s

/-- LANE_LOCK_LOSS (R297). -/
def execLaneLockLoss (lane : Nat) (s : State) : Out :=
  match laneHeld s lane with
  | some (slot, _) =>
    if (laneOf s lane).locked then
      .next (laneStep s slot lane fun x => { x with
        locked := false, sync := false, losses := x.losses + 1, rx := false })
    else .next s
  | none => .next (idleRx s lane none)

/-- LANE_BITS_REACHED (R297): bits and errors counted since the last report. A PRBS checker counts from its first sync on,
and from a drop of sync or a loss of lock to the next sync not at all. -/
def execLaneBitsReached (lane bits : Nat) (errors : BitErrors) (s : State) : Out :=
  match laneRun s lane with
  | some (slot, test) =>
    let want := pBits (slotOf s slot).msg
    if test = 2 ∨ (test = 0 ∧ ¬ (laneOf s lane).sync) then .next s
    else .next (laneStep s slot lane (addBits want bits (if test = 0 then errors.count else 0) errors.first))
  | none => .next s

/-- EYE_POINT_DONE (R298). -/
def execEyePointDone (lane mismatches : Nat) (s : State) : Out :=
  match laneRun s lane with
  | some (slot, test) =>
    let per := if pBits (slotOf s slot).msg = 0 then 1048576 else pBits (slotOf s slot).msg
    if test = 2 then
      .next (laneStep s slot lane fun x => { x with
        points := x.points ++ [mismatches], bits := x.bits + per, done := 2048 ≤ x.points.length + 1 })
    else .next s
  | none => .next s

/-- A change of class is an event, up to 16 (R299). -/
def seeClass (t : Count) (cls : Nat) (inv : Bool) (x : Lane) : Lane :=
  if x.seen = some cls then x
  else
    let x := { x with seen := some cls }
    if x.events.length < 16 then { x with events := x.events ++ [{ time := t, cls := cls, inv := inv }] }
    else { x with lost := satInc32 x.lost }

/-- LANE_CLASS_RECOGNISED (R299). -/
def execLaneClassRecognised (lane cls : Nat) (inverted : Bool) (s : State) : Out :=
  let t := stamp s
  match laneRun s lane with
  | some (slot, test) =>
    if test = 3 ∧ cls < 9 then
      .next (laneStep s slot lane (seeClass t cls inverted))
    else .next s
  | none => .next s

end Sys2Proof.Machine
end

