-- ==== Sys2Proof/Machine/Sluice.lean ====
section
/-! DEFINITION. Sluice's refill: the known path, the fetches, the segment cache and the layer pages (R147 to R152,
R162 to R167). -/

namespace Sys2Proof.Machine

def schedOf (s : State) (n : Nat) : Sched := tget {} s.cfg.scheds n
def modSched (s : State) (n : Nat) (f : Sched → Sched) : State :=
  { s with cfg := { s.cfg with scheds := tmod {} s.cfg.scheds n f } }

/-- The metadata image a BURST plays. -/
def burstImg (s : State) (b : Burst) : List Byte := (schedOf s b.sched).image

/-- The descriptor of a segment in an image. -/
def descIn (img : List Byte) (seg : Nat) : SegDesc := segDesc img ((img.drop (secOffset img 1 + 64 * seg)).take 64)
def descBytes (img : List Byte) (seg : Nat) : List Byte := (img.drop (secOffset img 1 + 64 * seg)).take 64

/-- The junction record of an image, its cover entries for a segment, and LEAD of a segment. -/
def juncIn (img : List Byte) (j : Nat) : Junc := juncRec img ((img.drop (secOffset img 2 + 32 * j)).take 32)
def coversIn (img : List Byte) (d : SegDesc) : List Cover :=
  coverRecs (coverCount img d) (img.drop (secOffset img 7 + 576 + 32 * d.layerEntry))
def leadIn (img : List Byte) (seg : Nat) : Nat := bytesAt img (secOffset img 8 + 64 + 32 * seg) 2

/-- Is a slice resident? -/
def resident (b : Burst) (k : Slice) : Bool := b.cache.any fun e => e.1 = k
def metaKey (ord seg : Nat) (k : SliceKind) : Slice := { ord := ord, seg := seg, kind := k, granule := 0 }

/-- The descriptor, where its record is resident. -/
def knownDesc (img : List Byte) (b : Burst) (ord seg : Nat) : Option SegDesc :=
  if resident b (metaKey ord seg .desc) then some (descIn img seg) else none

/-- The successor along the known path: the selection in the segment in play, NEXT elsewhere; none where the path stops
(a junction not yet decided, an unknown descriptor) or ends. -/
def pathNext (img : List Byte) (b : Burst) (ord seg : Nat) : Option Nat :=
  if ord = b.ord ∧ b.sampled then b.sel
  else
    match knownDesc img b ord seg with
    | some d => if d.junction.isSome then none else d.next
    | none => none

/-- The known path from a segment on, with its places, at most n segments (R151). -/
def pathFrom (img : List Byte) (b : Burst) : Nat → Nat → Nat → List (Nat × Nat)
  | 0, _, _ => []
  | n + 1, ord, seg =>
    (ord, seg) :: (match pathNext img b ord seg with
      | some nx => pathFrom img b n (ord + 1) nx
      | none => [])

def knownPath (img : List Byte) (b : Burst) : List (Nat × Nat) := pathFrom img b 64 b.ord b.seg

/-- The candidates: the successors of the junction that the known path ends with (R151, R152). -/
def candidates (img : List Byte) (b : Burst) : List (Nat × Nat) :=
  match (knownPath img b).getLast? with
  | none => []
  | some (ord, seg) =>
    if ord = b.ord ∧ b.sampled then []
    else
      match knownDesc img b ord seg with
      | none => []
      | some d =>
        match d.junction with
        | none => []
        | some j =>
          if resident b (metaKey ord seg .junction) then
            ((juncIn img j).succ.filterMap id).dedup.map fun n => (ord + 1, n)
          else []

/-- The segments tracked: path and candidates, at most 64 of each BURST (R151; log 152). -/
def tracked (img : List Byte) (b : Burst) : List (Nat × Nat) := (knownPath img b ++ candidates img b).take 64

/-- Vectors from the vector next to play to the start of a tracked segment; for a candidate, to the junction's
boundary (R151). -/
def distTo (img : List Byte) (b : Burst) (ord : Nat) : Nat :=
  (((knownPath img b).filter fun e => e.1 < ord).foldl (fun n e => n + (descIn img e.2).length) 0) - b.vec

/-- Address and bytes of a fetch: a metadata record, a slice of a track (R133), a pinned body. Overlay parts are formed
apart, word by word. -/
def sliceAddr (img : List Byte) (imgAddr : Nat) (k : Slice) : Nat × Nat :=
  let d := descIn img k.seg
  match k.kind with
  | .ctl t => (d.data + t * d.length + 64 * k.granule, 64)
  | .src g => (d.data + imgNct img * d.length + g * d.length * d.width + 64 * d.width * k.granule, 64 * d.width)
  | .desc => (imgAddr + secOffset img 1 + 64 * k.seg, 64)
  | .plan => (imgAddr + secOffset img 8 + 64 + 32 * k.seg, 32)
  | .junction => (imgAddr + secOffset img 2 + 32 * (d.junction.getD 0), 32)
  | .cover => (imgAddr + secOffset img 7 + 576 + 32 * d.layerEntry, 32 * coverCount img d)
  | .pin => (d.data, (imgNct img + imgNslg img * d.width) * d.length)
  | .ovl _ _ _ => (0, 256)

/-- Bytes a slice takes in the cache. -/
def sliceSize (img : List Byte) (k : Slice) : Nat := (sliceAddr img 0 k).2

/-- Bytes of some slices of a BURST. -/
def sizeOf_ (s : State) (b : Burst) (ks : List Slice) : Nat := ks.foldl (fun n k => n + sliceSize (burstImg s b) k) 0

/-- Bytes pinned, bodies still being fetched among them, and bytes of streaming data over every BURST in play (R150). -/
def pinnedBytes (s : State) : Nat :=
  s.bursts.foldl (fun n e => e.2.pinned.foldl (fun n p => n + p.2.length)
    (n + sizeOf_ s e.2 (e.2.issued.filter fun k => k.kind = .pin))) 0
def streamBytes (s : State) : Nat :=
  s.bursts.foldl (fun n e =>
    n + sizeOf_ s e.2 (e.2.cache.map Prod.fst ++ e.2.issued.filter fun k => k.kind ≠ .pin)) 0

/-- Is there streaming room for a slice: the cache's 96 MiB less the pinned area in use (R150; log 25)? -/
def roomFor (s : State) (n : Nat) : Bool := streamBytes s + n + pinnedBytes s ≤ 96 * 2 ^ 20

/-- Where the word of vector v stands in the page of a cover entry: its lane group's block, then 4 bytes a vector
(Table 7.5). -/
def coverOffset (c : Cover) (dlg v : Nat) : Nat :=
  let blocks := ((List.range dlg).filter fun j => bitOf c.dlgs j).length
  c.page + blocks * ((4 * c.count + 63) / 64 * 64) + 4 * (v - c.first)

def layerOf (s : State) (p l : Nat) : Layer := tget {} (pebOf s p).layers l
def modLayer (s : State) (p l : Nat) (f : Layer → Layer) : State :=
  modPeb s p fun x => { x with layers := tmod {} x.layers l f }

/-- Flips of a layer from the segment after the one in play up to place ord, on segment seg there. -/
def flipsAhead (img : List Byte) (b : Burst) (p l ord seg : Nat) : Nat :=
  let flips (n : Nat) : Nat :=
    if (coversIn img (descIn img n)).any fun c => c.flip && c.peb = p && c.layer = l then 1 else 0
  (((knownPath img b).filter fun e => (b.ord < e.1 || ¬ b.begun) && e.1 < ord).foldl (fun n e => n + flips e.2) 0)
    + (if b.ord < ord ∨ ¬ b.begun then flips seg else 0)

/-- The pool page that will be FRONT when a segment plays (R163). -/
def pageWhen (s : State) (b : Burst) (p l ord seg : Nat) : Nat :=
  let y := layerOf s p l
  if y.pages = 0 then 0 else (y.front + flipsAhead (burstImg s b) b p l ord seg) % y.pages

/-- Address of the page an overlay part is read from. -/
def ovlPage (s : State) (b : Burst) (k : Slice) (p l : Nat) : Nat :=
  ((layerOf s p l).pool + pageWhen s b p l k.ord k.seg) * 65536

/-- The cover entries of a layer and lane group in a segment. -/
def ovlCovers (s : State) (b : Burst) (k : Slice) (p l dlg : Nat) : List Cover :=
  (coversIn (burstImg s b) (descIn (burstImg s b) k.seg)).filter fun c => c.peb = p && c.layer = l && bitOf c.dlgs dlg

/-- The address ranges a fetch reads. -/
def sliceRanges (s : State) (b : Burst) (k : Slice) : List (Nat × Nat) :=
  match k.kind with
  | .ovl p l dlg =>
    (ovlCovers s b k p l dlg).flatMap fun c =>
      let lo := max c.first (64 * k.granule)
      let n := 4 * (min (c.first + c.count) (64 * (k.granule + 1)) - lo)
      let off := coverOffset c dlg lo % 65536
      [(ovlPage s b k p l + off, min n (65536 - off)), (ovlPage s b k p l, n - (65536 - off))]
  | _ => [sliceAddr (burstImg s b) (schedOf s b.sched).addr k]

/-- Sends MEM_RD for what lies between two addresses on other nodes, in at most n packets cut at multiples of 2,048
(R148, R312). -/
def sendReads : Nat → State → Nat → Nat → Nat → State
  | 0, s, _, _, _ => s
  | n + 1, s, slot, lo, hi =>
    if hi ≤ lo then s
    else
      let e := min hi (lo / 2048 * 2048 + 2048)
      let s := if (localStatus s lo 1).isSome then s
        else sendRequest s 0x20 (homeNode lo) lo (e - lo) [] none (some slot)
      sendReads n s slot e hi

/-- The packets of a fetch that goes out: whole units of 32 bytes of the pages the device does not hold. -/
def sendFetch (s : State) (slot : Nat) (k : Slice) : State :=
  ((sliceRanges s (burstOf s slot) k).filter fun e => e.2 ≠ 0).foldl (fun s e =>
    sendReads (e.2 / 2048 + 2) s slot (e.1 / 32 * 32) ((e.1 + e.2 + 31) / 32 * 32)) s

/-- The page turns NEXT at the first overlay fetch issued for a coming flip (R163). One that is still DRAINING keeps its
release to come, with the frees which that release settles (R164). -/
def touchPage (s : State) (slot : Nat) (k : Slice) : State :=
  match k.kind with
  | .ovl p l _ =>
    let b := burstOf s slot
    let g := pageWhen s b p l k.ord k.seg
    let y := layerOf s p l
    if y.pages = 0 ∨ g = y.front then s
    else
      modLayer s p l fun y =>
        let y := if tget .idle y.st g = .draining then
            { y with drain := y.drain ++ [(g, (y.freePend.filter (· = g)).length)]
                     freePend := y.freePend.filter (· ≠ g) }
          else y
        { y with st := tset .idle y.st g .next }
  | _ => s

/-- A fetch goes out. -/
def issueNow (s : State) (slot : Nat) (k : Slice) : State :=
  touchPage (sendFetch (modBurst s slot fun b => { b with issued := b.issued ++ [k] }) slot k) slot k

/-- Is a fetch one of a metadata record? -/
def isMeta (k : Slice) : Bool :=
  match k.kind with | .desc => true | .plan => true | .junction => true | .cover => true | _ => false

/-- Do two fetches bring the same data? An overlay part of another pass comes from another page. -/
def sameData (k l : Slice) : Bool :=
  k.seg = l.seg && k.kind = l.kind && k.granule = l.granule
    && (k.ord = l.ord || (match k.kind with | .ovl _ _ _ => false | _ => true))

/-- Issues a fetch, or holds it for room: body slices go out in vector order, metadata ahead of them (R150, R151). A
fetch already known stays as it is, and data whose read never completed counts as late until the BURST is terminal, in
every later pass (R149). -/
def issueFetch (s : State) (slot : Nat) (k : Slice) : State :=
  let b := burstOf s slot
  if resident b k ∨ b.issued.contains k ∨ b.waiting.contains k ∨ b.lost.any (sameData k) then s
  else if (isMeta k || b.waiting.isEmpty) ∧ roomFor s (sliceSize (burstImg s b) k) then issueNow s slot k
  else
    let queue (l : List Slice) : List Slice :=
      if isMeta k then l.takeWhile isMeta ++ k :: l.dropWhile isMeta else l ++ [k]
    modBurst s slot fun b => { b with waiting := queue b.waiting }

/-- Issues the metadata fetches of every tracked segment (R150, R151). -/
def trackPath (s : State) (slot : Nat) : State :=
  let b := burstOf s slot
  let img := burstImg s b
  (tracked img b).foldl (fun s e =>
    let s := issueFetch (issueFetch s slot (metaKey e.1 e.2 .desc)) slot (metaKey e.1 e.2 .plan)
    match knownDesc img b e.1 e.2 with
    | none => s
    | some d =>
      let s := if d.junction.isSome then issueFetch s slot (metaKey e.1 e.2 .junction) else s
      if coverCount img d = 0 then s else issueFetch s slot (metaKey e.1 e.2 .cover)) s

/-- A PEB of the BURST's that the image plays. -/
def imagePebs (img : List Byte) (b : Burst) : List Nat := (burstPebs b).filter fun p => bitOf (imgPebs img) p

/-- Is a source track skipped: every destination lane group that plays it, on every claimed PEB, under FULL (R155)? -/
def skippedTrack (img : List Byte) (b : Burst) (d : SegDesc) (g : Nat) : Bool :=
  let dests := ((imagePebs img b).flatMap fun p => (List.range 8).map fun k => (p, k)).filter fun e =>
    cloneSlg img (8 * e.1 + e.2) = some g
  dests ≠ [] && dests.all fun e =>
    (coversIn img d).any fun c => c.full && c.peb = e.1 && bitOf c.dlgs e.2

/-- Overlay parts a granule needs: (PEB, layer, lane group) of the cover entries on claimed PEBs that meet it. -/
def overlayParts (img : List Byte) (b : Burst) (d : SegDesc) (g : Nat) : List SliceKind :=
  ((coversIn img d).filter fun c =>
    (imagePebs img b).contains c.peb && 1 ≤ c.layer && c.layer ≤ 3 && c.first < 64 * (g + 1)
      && 64 * g < c.first + c.count).flatMap fun c =>
    ((List.range 8).filter fun k => bitOf c.dlgs k).map fun k => .ovl c.peb c.layer k

/-- Are the cover entries of a segment known: its cover record resident, or none to read (R167)? -/
def coversKnown (img : List Byte) (b : Burst) (ord seg : Nat) : Bool :=
  coverCount img (descIn img seg) = 0 || resident b (metaKey ord seg .cover)

/-- The fetches of one granule of a body (R151, R155); a pinned body needs its overlay parts only. Without the cover
entries there are no overlay parts to fetch and no track to skip (R167). -/
def granuleKeys (img : List Byte) (b : Burst) (ord seg g : Nat) : List Slice :=
  let d := descIn img seg
  let known := coversKnown img b ord seg
  let tracks := if (tget [] b.pinned seg) ≠ [] then [] else
    (List.range (imgNct img)).map SliceKind.ctl
      ++ ((List.range (imgNslg img)).filter fun k => ¬ (known ∧ skippedTrack img b d k)).map SliceKind.src
  (tracks ++ (if known then (overlayParts img b d g).dedup else [])).map fun k =>
    { ord := ord, seg := seg, kind := k, granule := g }

/-- Granules of a segment, and its opening granules (R152). -/
def granules (d : SegDesc) : Nat := d.length / 64
def opening (d : SegDesc) : Nat := min 16 (granules d)

/-- Is every fetch of a segment's opening granules resident? -/
def openingReady (s : State) (b : Burst) (ord seg : Nat) : Bool :=
  let img := burstImg s b
  resident b (metaKey ord seg .desc) && coversKnown img b ord seg
    && (List.range (opening (descIn img seg))).all fun g => (granuleKeys img b ord seg g).all (resident b)

/-- The word of a lane group in one vector, pin by pin: from the first of the entries that holds the pin in PIN_MASK,
each given with its own word (R146); zero where none does. -/
def mergeWords (dlg : Nat) (ws : List (Cover × Nat)) : Nat :=
  (List.range 8).foldl (fun w j =>
    match ws.find? fun e => bitOf e.1.pins (8 * dlg + j) with
    | some e => w + bitsOf e.2 (4 * j + 3) (4 * j) * 16 ^ j
    | none => w) 0

/-- The bytes of an overlay part: one word for each vector of the granule, from the cover entries of the layer that
cover it; reads past the end of the page wrap within it (R146, Table 7.5). None where a byte cannot be read. -/
def overlayBytes (s : State) (rem : Remote) (b : Burst) (k : Slice) (p l dlg : Nat) : Option (List Byte) :=
  (List.range 64).foldlM (fun bs i =>
    let v := 64 * k.granule + i
    let cs := (ovlCovers s b k p l dlg).filter fun c => c.first ≤ v && v < c.first + c.count
    (cs.mapM fun c =>
      ((List.range 4).mapM fun j => readByte s rem (ovlPage s b k p l + (coverOffset c dlg v + j) % 65536)).map
        fun w => (c, unle w)).map fun ws => bs ++ le 4 (mergeWords dlg ws)) []

/-- What a fetch brings, where it can be read. -/
def fetchBytes (s : State) (rem : Remote) (b : Burst) (k : Slice) : Option (List Byte) :=
  match k.kind with
  | .ovl p l dlg => overlayBytes s rem b k p l dlg
  | _ =>
    let (a, n) := sliceAddr (burstImg s b) (schedOf s b.sched).addr k
    readBytes s rem a n

/-- Moves waiting fetches into the streaming area while there is room, in order (R150). -/
def admitWaiting : Nat → State → Nat → State
  | 0, s, _ => s
  | n + 1, s, slot =>
    match (burstOf s slot).waiting with
    | [] => s
    | k :: rest =>
      if roomFor s (sliceSize (burstImg s (burstOf s slot)) k) then
        admitWaiting n (issueNow (modBurst s slot fun b => { b with waiting := rest }) slot k) slot
      else s

/-- Drops what p holds of from the BURST's fetches and cache. What never completed stays known (R149), but for a pinned
body, which is played unpinned (R147). -/
def dropSlices (s : State) (slot : Nat) (p : Slice → Bool) : State :=
  modBurst s slot fun b => { b with
    cache := b.cache.filter (fun e => ¬ p e.1), issued := b.issued.filter (fun k => ¬ p k),
    waiting := b.waiting.filter (fun k => ¬ p k), lost := b.lost.filter (fun k => ¬ (p k ∧ k.kind = .pin)) }

/-- Issues the fetches of a segment's granules from lo up to hi. -/
def issueGranules (s : State) (slot ord seg lo hi : Nat) : State :=
  let b := burstOf s slot
  let img := burstImg s b
  ((List.range hi).filter fun g => lo ≤ g).foldl (fun s g =>
    (granuleKeys img b ord seg g).foldl (fun s k => issueFetch s slot k) s) s

/-- Is the segment on the known path, rather than a candidate? -/
def onPath (img : List Byte) (b : Burst) (ord seg : Nat) : Bool := (knownPath img b).contains (ord, seg)

/-- Sets up the layer state of a PEB at dispatch, where the image has pool records and the layer's differs from the one
in force (R162). A new pool starts with no frees pending and no counts of frees (log 152). -/
def setPools (s : State) (img : List Byte) (p : Nat) : State :=
  if (imgFind img 7).isNone then s
  else [1, 2, 3].foldl (fun s l =>
    let (a, n) := poolOf img p l
    if (layerOf s p l).pool = a ∧ (layerOf s p l).pages = n then s
    else modLayer s p l fun _ => { pool := a, pages := n, st := if n = 0 then [] else [(0, .front)] }) s

/-- One flip of a layer at the start boundary of segment seg (R163): NEXT becomes FRONT, the old front drains. -/
def flipLayer (s : State) (slot p l seg vaddr : Nat) (time : Count) : State :=
  let y := layerOf s p l
  if y.pages = 0 then s
  else
    let g := (y.front + 1) % y.pages
    let s := modLayer s p l fun y => { y with
      front := g, flips := y.flips + 1, tFlip := time,
      st := tset .idle (tset .idle y.st y.front .draining) g .front }
    capRec s slot p (rec32 s 0x24 p vaddr l [(4, (layerOf s p l).flips.toNat), (4, seg), (8, time.toNat), (4, g)])

/-- The flips at the start boundary of a segment: each layer of a claimed PEB with a FLIP entry, once (R163). -/
def flipLayers (s : State) (slot seg vaddr : Nat) (time : Count) : State :=
  let b := burstOf s slot
  let img := burstImg s b
  ((((coversIn img (descIn img seg)).filter fun c => c.flip && (imagePebs img b).contains c.peb && 1 ≤ c.layer
      && c.layer ≤ 3).map fun c => (c.peb, c.layer)).dedup).foldl
    (fun s e => flipLayer s slot e.1 e.2 seg vaddr time) s

end Sys2Proof.Machine
end

