-- ==== Sys2Proof/Machine/Vector.lean ====
section
/-! DEFINITION. One vector at the pins: underrun, composition, edges, driver states, compares and capture (R134 to
R137, R154, R165, R170 to R176, R245 to R250). -/

namespace Sys2Proof.Machine

/-- The lane groups whose slice is absent at the vector next to play: (destination lane group, cause) with the causes
of Table 13.2. A lane group under a FULL entry needs no base slice (R146), whether or not another one fetches it. -/
def missingLanes (s : State) (b : Burst) : List (Nat × Nat) :=
  let img := burstImg s b
  let d := descIn img b.seg
  let here (k : SliceKind) : Bool := resident b { ord := b.ord, seg := b.seg, kind := k, granule := b.vec / 64 }
  let pin := tget [] b.pinned b.seg ≠ []
  let fresh (l : Nat) : Bool := ! b.ur.getLsbD l
  (imagePebs img b).flatMap fun p =>
    if ¬ pin ∧ ¬ b.ctlUr.getLsbD p ∧ ¬ here (.ctl (cloneCt img p)) then
      ((List.range 8).filter fun k => fresh (8 * p + k)).map fun k => (8 * p + k, 2)
    else
      ((List.range 8).filter fun k => fresh (8 * p + k)).filterMap fun k =>
        let full := (coversIn img d).any fun c => c.full && c.peb = p && bitOf c.dlgs k
        let base := match cloneSlg img (8 * p + k) with
          | some g => ! pin && ! full && ! here (.src g)
          | none => false
        let lay := (coversIn img d).any fun c =>
          c.peb = p && bitOf c.dlgs k && 1 ≤ c.layer && c.layer ≤ 3 && c.first ≤ b.vec
            && b.vec < c.first + c.count && ! here (.ovl p c.layer k)
        if base then some (8 * p + k, 0) else if lay then some (8 * p + k, 1) else none

/-- A control track slice missing for a PEB whose lane groups are all in underrun already. -/
def missingTracks (s : State) (b : Burst) : List Nat :=
  let img := burstImg s b
  if tget [] b.pinned b.seg ≠ [] then []
  else (imagePebs img b).filter fun p => ! b.ctlUr.getLsbD p && ! resident b
    { ord := b.ord, seg := b.seg, kind := .ctl (cloneCt img p), granule := b.vec / 64 }

/-- The sites, among those of the BURST, with a channel in one of the lane groups. -/
def laneSites (s : State) (b : Burst) (lanes : List Nat) : BitVec 64 :=
  (lanes.flatMap fun l => (List.range 8).filterMap fun j => siteOf s (8 * l + j)).foldl
    (fun m n => if b.sites.getLsbD n then putBit m n true else m) 0

/-- A mask of lane groups of one PEB. -/
def peb8 (lanes : List Nat) (p : Nat) : Nat :=
  (lanes.filter fun l => l / 8 = p).foldl (fun m l => m + 2 ^ (l % 8)) 0

/-- Marks lane groups in underrun at a vector address, with their UNDERRUN records (R165). In a segment that is not
stall-safe this is the cause that ends the BURST, unless another came first (R97, R166). -/
def markUnderrun (s : State) (slot : Nat) (lanes : List (Nat × Nat)) (tracks : List Nat) (vaddr : Nat) : State :=
  let b := burstOf s slot
  let d := descIn (burstImg s b) b.seg
  let s := (burstPebs b).foldl (fun s p => [2, 0, 1, 3].foldl (fun s c =>
    let m := peb8 ((lanes.filter fun e => e.2 = c).map Prod.fst) p
    if m = 0 then s
    else
      let r := rec16 s 0x02 p (vaddr % 2 ^ 40) m [(4, b.seg), (1, c)]
      if (tget noRun (burstOf s slot).runs p).first = vaddr then capPut s slot p r else capRec s slot p r) s) s
  let sites := laneSites s b (lanes.map Prod.fst)
  let s := modBurst s slot fun b => { b with
    ur := lanes.foldl (fun m e => putBit m e.1 true) b.ur
    ctlUr := tracks.foldl (fun m p => putBit m p true) b.ctlUr
    segUr := true, segUrSites := b.segUrSites ||| sites
    passFail := if b.vec + 65 ≤ d.length then b.passFail ||| sites else b.passFail }
  if d.stallSafe then s
  else modSlot s slot fun l => { l with cause := if l.cause.isNone then some (BitVec.ofNat 8 rUnderrun) else l.cause }

/-- Applies the underruns at the vector next to play. -/
def applyUnderrun (s : State) (slot : Nat) : State :=
  let b := burstOf s slot
  let ls := missingLanes s b
  let ts := missingTracks s b
  if ls = [] ∧ ts = [] then s else markUnderrun s slot ls ts b.vaddr

/-- The word of a track at the vector next to play, from the pinned body or the slice (R133). -/
def trackWord (img : List Byte) (b : Burst) (d : SegDesc) (k : SliceKind) : Nat :=
  match tget [] b.pinned b.seg with
  | [] =>
    match b.cache.find? fun e => e.1 = { ord := b.ord, seg := b.seg, kind := k, granule := b.vec / 64 } with
    | some e =>
      match k with
      | .ctl _ => bytesAt e.2 (b.vec % 64) 1
      | .ovl _ _ _ => bytesAt e.2 (4 * (b.vec % 64)) 4
      | _ => bytesAt e.2 (d.width * (b.vec % 64)) d.width
    | none => 0
  | body =>
    match k with
    | .ctl t => bytesAt body (t * d.length + b.vec) 1
    | .src g => bytesAt body (imgNct img * d.length + g * d.length * d.width + b.vec * d.width) d.width
    | _ =>
      match b.cache.find? fun e => e.1 = { ord := b.ord, seg := b.seg, kind := k, granule := b.vec / 64 } with
      | some e => bytesAt e.2 (4 * (b.vec % 64)) 4
      | none => 0

/-- The background symbol of pin c of a PEB (R136). -/
def backSymbol (s : State) (p c : Nat) : Nat := bitsOf (pebOf s p).back.toNat (4 * c + 3) (4 * c)

/-- What a pin plays in a vector: its resolved symbol, whether it was substituted by the background vector or by
match-loop masking, and whether its compare can be counted. -/
structure Action where
  sym     : Nat
  subst   : Bool
  counted : Bool
deriving DecidableEq, Repr

/-- The overlay symbol of pin c: of the highest-numbered layer that covers pin and vector (R146). A pin whose lane group
is not in DLG_MASK has no block, and counts as not covered (log 152). -/
def overlaySymbol (img : List Byte) (b : Burst) (d : SegDesc) (p c : Nat) : Option Nat :=
  [3, 2, 1].findSome? fun l =>
    if (coversIn img d).any fun e =>
      e.peb = p && e.layer = l && bitOf e.pins c && bitOf e.dlgs (c / 8) && e.first ≤ b.vec
        && b.vec < e.first + e.count
    then
      let w := trackWord img b d (.ovl p l (c / 8))
      some (bitsOf w (4 * (c % 8) + 3) (4 * (c % 8)))
    else none

/-- Composition of pin c of PEBp (R154): base, layers, sites, match-loop masking, then K. A lane group that names 0xFFFF
plays the background vector substituted, under a FULL entry too (R145). -/
def composePin (s : State) (b : Burst) (img : List Byte) (d : SegDesc) (p c : Nat) : Action :=
  let ch := chanOf s (64 * p + c)
  let site := siteOf s (64 * p + c)
  let inMask : Bool := match site with | some n => b.sites.getLsbD n | none => false
  let masked : Bool := match site with | some n => inMask && b.masked.getLsbD n | none => false
  let lane := 8 * p + c / 8
  let back : Action := { sym := backSymbol s p c, subst := true, counted := false }
  let raw : Action :=
    if ¬ bitOf (imgPebs img) p ∨ b.ur.getLsbD lane ∨ ¬ inMask then back
    else
      match overlaySymbol img b d p c with
      | some x => { sym := x, subst := false, counted := true }
      | none =>
        match cloneSlg img lane with
        | none => back
        | some g =>
          if (coversIn img d).any fun e => e.full && e.peb = p && bitOf e.dlgs (c / 8) then
            { back with subst := false, counted := true }
          else
            { sym := symbolOf d.width (pinCompare (pebOf s p).pinmode d.pm c) (trackWord img b d (.src g)) (c % 8)
              subst := false, counted := true }
  if masked then { sym := ch.hold.toNat, subst := true, counted := false }
  else if raw.sym = 7 then { raw with sym := ch.last.toNat } else raw

/-- The symbol without its alternate form (Table 7.8). -/
def plainSym (x : Nat) : Nat :=
  if x = 0xB then 0 else if x = 0xC then 1 else if x = 0xD then 2 else if x = 0xE then 3 else if x = 0xF then 8 else x

def driveSym (x : Nat) : Bool := plainSym x = 0 || plainSym x = 1 || plainSym x = 8 || plainSym x = 9
def compareSym (x : Nat) : Bool := plainSym x = 2 || plainSym x = 3 || plainSym x = 6 || plainSym x = 8 || plainSym x = 0xA

/-- The six edges of a symbol in a timing set: normal, or alternate for 0xB to 0xF (R170). -/
def edgesFor (t : Option (List Byte)) (ts c sym k : Nat) : Option Nat := edgeOf t ts c (if 0xB ≤ sym then 6 + k else k)

/-- The driver-off edge of a symbol that turns the driver off (R173). -/
def offEdge (e : Nat → Option Nat) : Nat × Nat :=
  match e 3, e 0 with
  | some o, _ => (3, o)
  | none, some o => (0, o)
  | none, none => (0, 0)

/-- The drive edges that occur, by number and offset (R171, R173). -/
def driveEdges (e : Nat → Option Nat) (sym : Nat) (on : Bool) : List (Nat × Nat) :=
  if driveSym sym then [0, 1, 2, 3].filterMap fun k => (e k).map fun o => (k, o)
  else if on then [offEdge e] else []

/-- The compare edges that occur (R172). -/
def compareEdges (e : Nat → Option Nat) (sym : Nat) : List (Nat × Nat) :=
  if compareSym sym then [4, 5].filterMap fun k => (e k).map fun o => (k, o) else []

/-- Driver state after a vector's drive edges, D1 to D4 in order (Table 9.1). -/
def driveEdge (sym : Nat) (x : Bool × Bool) (k : Nat) : Bool × Bool :=
  match k with
  | 0 => (true, x.2)
  | 1 => (true, plainSym sym ≠ 0)
  | 2 => (x.1, false)
  | _ => (false, x.2)
def driverAfter (sym : Nat) (es : List (Nat × Nat)) (on high : Bool) : Bool × Bool :=
  if driveSym sym then es.foldl (fun x e => driveEdge sym x e.1) (on, high) else (false, high)

/-- Are drive edges, given by number and offset, in order and 128 LSB apart, but for a D1 that coincides with D2
(Table 9.3)? -/
def driveSpaced : List (Nat × Nat) → Bool
  | a :: b :: l => ((a.1 = 0 && b.1 = 1 && a.2 = b.2) || a.2 + 128 ≤ b.2) && driveSpaced (b :: l)
  | _ => true
/-- Do the six words of one channel, normal or alternate, keep Table 9.3 as written? -/
def wordsLegal (per : Nat) (e : Nat → Option Nat) : Bool :=
  (List.range 6).all (fun k => match e k with | some o => o < 2 * per | none => true)
    && driveSpaced ([0, 1, 2, 3].filterMap fun k => (e k).map fun o => (k, o))
    && (match e 4, e 5 with | some a, some b => a ≤ b | _, _ => true)

/-- Does a timing set keep Table 9.3 as written: its period, and the normal and the alternate words of every channel
(R176)? -/
def setLegal (t : Option (List Byte)) (ts : Nat) : Bool :=
  t.isNone
    || (320 ≤ periodOf t ts && periodOf t ts ≤ 4194304
      && (List.range 64).all fun c => [0, 6].all fun k => wordsLegal (periodOf t ts) fun i => edgeOf t ts c (k + i))

/-- Do the edges that a vector's symbol uses keep Table 9.3 in absolute time, against the edges of the vector before
(R176)? -/
def codesLegal (e : Nat → Option Nat) (sym start : Nat) (prev : List Edge)
    (drive cmp : List (Nat × Nat)) : Bool :=
  let lastDrive := ((prev.filter fun x => x.n < 4).map (·.at_)).getLast?
  let lastCmp := ((prev.filter fun x => 4 ≤ x.n).map (·.at_)).getLast?
  let firstD := (drive.map Prod.snd).head?
  let firstC := (cmp.map Prod.snd).head?
  driveSpaced drive
    && (match lastDrive, firstD with | some a, some b => a + 128 ≤ (start : Int) + b | _, _ => true)
    && (match lastCmp, firstC with | some a, some b => a + 64 ≤ (start : Int) + b | _, _ => true)
    && (plainSym sym ≠ 9 || ((e 1).isSome && (e 2).isSome))

/-- Does a comparator state pass the symbol (R172)? latch is the capture latch before the vector. -/
def levelPasses (sym : Nat) (latch l : Lvl) : Bool :=
  match plainSym sym with
  | 2 => l = .low
  | 3 => l = .high
  | 8 => l = .high
  | 6 => l = .mid
  | _ => l = latch

/-- What the comparator of a channel showed; a channel that the command does not list showed MID (log 18). -/
def seenOf (seen : List Seen) (c : Nat) : Seen := (seen.find? fun x => x.ch = c).getD { ch := c, all := [.mid], final := .mid }

/-- Is the compare a window: both edges, C1 before C2 (R172)? -/
def isWindow (cmp : List (Nat × Nat)) : Bool := match cmp with | [a, b] => a.2 < b.2 | _ => false

/-- The correction of a drive edge by the transition it makes: driver-on and driver-off take the mean of the rising and
the falling correction; D2 at the instant of a D1 that turns the driver on is one transition with it (R176, R178). An
edge that changes nothing takes that of the level it sets. -/
def driveCorr (x : Chan) (before after : Bool × Bool) (merged : Bool) : Nat :=
  if merged || before.1 ≠ after.1 then (x.rise + x.fall) / 2 else if after.2 then x.rise else x.fall

/-- The drive edges of a vector with their corrections, in order, from a driver state on. -/
def firedDrives (x : Chan) (sym : Nat) (start : Int) : Bool × Bool → List (Nat × Nat) → List Edge
  | _, [] => []
  | st, (k, o) :: es =>
    let st' := if driveSym sym then driveEdge sym st k else (false, st.2)
    let merged := k = 0 && ! st.1 && (es.head? = some (1, o))
    let es' := firedDrives x sym start st' es
    { n := k, at_ := start + o, corr := driveCorr x st st' false }
      :: (match merged, es' with
        | true, d2 :: l => { d2 with corr := (x.rise + x.fall) / 2 } :: l
        | _, l => l)

/-- The tap at which an edge fires after the start of its timing-clock cycle, the reference instant having a fine phase
(R177). -/
def Edge.tap (fine : Nat) (e : Edge) : Nat := ((e.at_ + fine + e.corr) % 256).toNat

/-- The delay-line setting of an edge: its tap, by the channel's linearity table (R177). -/
def tapSetting (x : Chan) (fine : Nat) (e : Edge) : Int := e.tap fine + tget 0 x.taps (e.tap fine)

/-- One channel in one vector: the channel after it, and whether its counted compare failed. live: the channel's delay
line is locked; without it no edge is placed (R177). A channel whose PMU is connected keeps its driver off and its
termination released (R187, Table 10.7). -/
def playPin (x : Chan) (a : Action) (e : Nat → Option Nat) (start : Int) (live holdVec masked maskBit : Bool)
    (see : Seen) : Chan × Bool :=
  let drive := if live && ! x.pmuOn then driveEdges e a.sym x.drvOn else []
  let cmp := if live then compareEdges e a.sym else []
  let reads := compareSym a.sym && cmp ≠ []
  let pass := if isWindow cmp then see.all.all (levelPasses a.sym x.latch) else levelPasses a.sym x.latch see.final
  let loads := reads && plainSym a.sym ≠ 0xA && ! a.subst
  let after := if ! live then (x.drvOn, x.drvHigh) else if x.pmuOn then (false, x.drvHigh)
    else driverAfter a.sym drive x.drvOn x.drvHigh
  ({ x with
      drvOn := after.1, drvHigh := after.2, released := x.pmuOn || plainSym a.sym = 5, last := BitVec.ofNat 4 a.sym
      hold := if holdVec && ! masked then BitVec.ofNat 4 a.sym else x.hold
      latch := if loads then see.final else x.latch
      edges := firedDrives x a.sym start (x.drvOn, x.drvHigh) drive
        ++ cmp.map fun y => { n := y.1, at_ := start + y.2, corr := x.cmp } },
   reads && a.counted && ! maskBit && ! pass)

/-- What the control track gives one PEB: timing set, MASK and MARK (R137); a PEB outside PEB_MASK plays TS0, and a PEB
whose track is in underrun the timing set of the last vector (R142, R154). -/
def pebControl (s : State) (b : Burst) (img : List Byte) (d : SegDesc) (p : Nat) : Nat × Bool × Bool :=
  if ¬ bitOf (imgPebs img) p then (0, false, false)
  else if b.ctlUr.getLsbD p then ((pebOf s p).restTs, false, false)
  else
    let w := trackWord img b d (.ctl (cloneCt img p))
    (w % 64, bitOf w 6, bitOf w 7)

/-- Is the site of a channel masked by a match loop? -/
def siteMasked (s : State) (b : Burst) (c : Nat) : Bool :=
  match siteOf s c with | some n => b.sites.getLsbD n && b.masked.getLsbD n | none => false

/-- The edges channel c of PEBp uses in its action of this vector. -/
def pinEdges (s : State) (p c ts sym k : Nat) : Option Nat := edgesFor (pebOf s p).timing ts c sym k

/-- The claimed PEBs that play: those that no CONTAINED fault has taken (R168). -/
def livePebs (b : Burst) : List Nat := (burstPebs b).filter fun p => ! b.faulty.getLsbD p

/-- The misuses a vector can show: a connected PMU on a driven channel, and codes outside Table 9.3 (R367). -/
def vectorMisuse (s : State) (b : Burst) (img : List Byte) (d : SegDesc) : Option Fault :=
  let pins := (livePebs b).flatMap fun p => (List.range 64).map fun c => (p, c)
  if pins.any fun e => (chanOf s (64 * e.1 + e.2)).pmuOn && (match siteOf s (64 * e.1 + e.2) with
      | some n => b.sites.getLsbD n
      | none => false) then some .pmuOnDriven
  else if (livePebs b).all (fun p => setLegal (pebOf s p).timing (pebControl s b img d p).1) ∧ pins.all fun e =>
      let (ts, _, _) := pebControl s b img d e.1
      let a := composePin s b img d e.1 e.2
      let x := chanOf s (64 * e.1 + e.2)
      let ed := pinEdges s e.1 e.2 ts a.sym
      codesLegal ed a.sym (tget 0 b.sAcc e.1) x.edges
        (driveEdges ed a.sym x.drvOn) (compareEdges ed a.sym) then none
  else some .timingCodes

/-- Plays one PEB's part of the vector: its channels, its fails, its MARKER, and its accumulator. -/
def playPeb (s : State) (slot : Nat) (img : List Byte) (d : SegDesc) (seen : List Seen) (p : Nat) : State :=
  let b := burstOf s slot
  let (ts, maskBit, mark) := pebControl s b img d p
  let start := tget 0 b.sAcc p
  let outs := (List.range 64).map fun c =>
    let a := composePin s b img d p c
    (c, playPin (chanOf s (64 * p + c)) a (pinEdges s p c ts a.sym) start s.clock.delayLocked (b.vec = d.hold)
      (siteMasked s b (64 * p + c)) maskBit (seenOf seen (64 * p + c)))
  let fails := (outs.filter fun o => o.2.2).map fun o => 64 * p + o.1
  let mask := fails.foldl (fun m c => putBit m (c % 64) true) (0 : BitVec 64)
  let s := { s with chans := outs.foldl (fun t o => tset {} t (64 * p + o.1) o.2.1) s.chans }
  let s := addFails s slot p mask (b.vaddr % 2 ^ 40)
  let s := if fails = [] then s else countFails s slot fails (b.vaddr % 2 ^ 40)
  let s := if b.vec + 65 ≤ d.length then
      modBurst s slot fun b => { b with
        passFail := b.passFail ||| (fails.filterMap (siteOf s)).foldl
          (fun m n => putBit m n true) 0 }
    else s
  let s := if mark then
      capRec s slot p (rec32 s 0x28 p (b.vaddr % 2 ^ 40) 0
        [(4, b.seg), (4, b.vec), (8, (timeAt b p).toNat)])
    else s
  let s := modPeb s p fun x => { x with restTs := ts }
  let per := periodOf (pebOf s p).timing ts
  modBurst s slot fun b => { b with
    sAcc := tset 0 b.sAcc p (start + per), cAcc := tmod 0 b.cAcc p (· + countLsb s per) }

/-- Ends the vector: the counters advance and slices whose last vector has been played are freed (R150, R174, R244). -/
def endVector (s : State) (slot : Nat) : State :=
  let b := burstOf s slot
  let s := modBurst s slot fun b => { b with
    vec := b.vec + 1, counter := b.counter + 1, vaddr := (b.vaddr + 1) % 2 ^ 40, lastTs := (pebOf s (leadPeb b)).restTs
    tLast := timeAt b (leadPeb b) }
  if b.vec % 64 = 63 then
    dropSlices s slot fun k => k.ord = b.ord && k.granule = b.vec / 64
      && (match k.kind with | .ctl _ => true | .src _ => true | .ovl _ _ _ => true | _ => false)
  else s

/-- May the vector next to play be played: BURST in play, inside its segment, a due selection made (R157)? -/
def vectorDue (s : State) (b : Burst) : Bool :=
  let d := descIn (burstImg s b) b.seg
  b.phase = .playing && b.vec < d.length && ! (d.junction.isSome && ! b.sampled && b.vec + 48 = d.length)

/-- VECTOR_PLAY (R248). -/
def execVectorPlay (slot : Nat) (seen : List Seen) (s : State) : Out :=
  if vectorDue s (burstOf s slot) then
    let s := modBurst (applyUnderrun s slot) slot fun b => { b with vecFails := 0 }
    let b := burstOf s slot
    let img := burstImg s b
    let d := descIn img b.seg
    match vectorMisuse s b img d with
    | some f => .fault f
    | none => .next (endVector ((livePebs b).foldl (fun s p => playPeb s slot img d seen p) s) slot)
  else .next s

/-! What a PEB plays between vectors (R160, R166, R168, Table 8.3). -/

/-- The channels of a PEB play one vector of the symbols given, at the timing set of the last vector, with every compare
masked; K repeats the last action (R136, R160, R166). -/
def idlePeb (s : State) (p : Nat) (start : Int) (sym : Nat → Nat) : State :=
  let ts := (pebOf s p).restTs
  { s with chans := tmods {} s.chans ((List.range 64).map (64 * p + ·)) fun k x =>
    let c := k % 64
    let y := if sym c = 7 then x.last.toNat else sym c
    (playPin x { sym := y, subst := true, counted := false } (pinEdges s p c ts y) start s.clock.delayLocked false true
      true (seenOf [] k)).1 }

/-- The live PEBs of a BURST play between two of its vectors, over n vectors so far none (R160, R166). -/
def idleBurst (s : State) (slot : Nat) (sym : State → Nat → Nat → Nat) : State :=
  let b := burstOf s slot
  (livePebs b).foldl (fun s p =>
    idlePeb s p (tget 0 b.sAcc p - periodOf (pebOf s p).timing (pebOf s p).restTs) (sym s p)) s

/-- A PEB at rest plays by the tables and the timing set it has now (Table 8.3). -/
def replayRest (s : State) (p : Nat) : State :=
  match (pebOf s p).rest with
  | .armed => idlePeb s p 0 (backSymbol s p)
  | .background => idlePeb s p 0 (backSymbol s p)
  | .keep => idlePeb s p 0 fun _ => 7
  | _ => s

/-- What a PEB plays outside a BURST from now on (Table 8.3). -/
def restPeb (s : State) (p : Nat) (rest : Rest) : State :=
  let s := modPeb s p fun x => { x with rest := rest }
  match rest with
  | .armed => replayRest (modPeb s p fun x => { x with restTs := 0 }) p
  | .background => replayRest s p
  | .driversOff =>
    { s with chans := tmods {} s.chans ((List.range 64).map (64 * p + ·)) fun _ x => { x with drvOn := false } }
  | _ => s

end Sys2Proof.Machine
end

