-- ==== Sys2Proof/Machine/Playback.lean ====
section
/-! DEFINITION. Pattern playback: dispatch, start, fetches, junctions, boundaries, stalls and holds of a BURST, and the
release of layer pages (chapters 8 and 9). -/

namespace Sys2Proof.Machine

/-! Dispatch and pinning (R142, R147, R153, R162). -/

/-- Every correction of a PEB's channels takes its new value whole at a dispatch (R178). -/
def settleCorrections (s : State) (p : Nat) : State :=
  { s with chans := tmods {} s.chans ((List.range 64).map (64 * p + ·)) fun _ x =>
    { x with rise := x.riseNew, fall := x.fallNew, cmp := x.cmpNew } }

/-- The state of a claimed PEB's channels at the dispatch of a BURST: hold registers at X, K acts as X, latches at MID
(R136, R159, R250). -/
def startPins (s : State) (p : Nat) : State :=
  { s with chans := tmods {} s.chans ((List.range 64).map (64 * p + ·)) fun _ x =>
    { x with hold := 4, last := 4, latch := .mid, edges := [] } }

/-- Writes a claimed PEB's tables from the on-die copy, where the image plays the PEB (R142). -/
def loadTables (s : State) (img : List Byte) (p : Nat) : State :=
  if bitOf (imgPebs img) p then
    modPeb s p fun x => { x with timing := tableFor img 3 200768 p, pinmode := tableFor img 4 576 p }
  else s

/-- The segments marked PIN, in ascending order (R147). Sluice takes the marks from the image as loaded, without a read
of the descriptors: how it learns them is not stated (log 152). -/
def pinSegments (img : List Byte) : List Nat := (List.range (imgSegs img)).filter fun n => (descIn img n).pin

/-- Goes on with the pinned bodies: the next one that fits the 64 MiB is fetched as soon as the cache has room for it, one
that does not is played unpinned; after the last, the ENTRY segment's metadata is read (R147, R150, R153). n bounds the
bodies skipped. -/
def nextPin : Nat → State → Nat → State
  | 0, s, _ => s
  | n + 1, s, slot =>
    let b := burstOf s slot
    match b.pinLeft with
    | [] => trackPath (modBurst s slot fun b => { b with phase := .fetching }) slot
    | g :: rest =>
      let k := metaKey 0 g .pin
      if pinnedBytes s + sliceSize (burstImg s b) k ≤ 64 * 2 ^ 20 then
        if roomFor s (sliceSize (burstImg s b) k) then
          sendFetch (modBurst s slot fun b => { b with issued := b.issued ++ [k] }) slot k
        else s
      else nextPin n (modBurst s slot fun b => { b with pinLeft := rest }) slot

/-- Is a pinned body of the BURST being fetched, or known not to arrive? -/
def pinFetching (b : Burst) : Bool := (b.issued ++ b.lost).any fun k => k.kind = .pin

/-- The BURST that pins: the first in dispatch order of those that have bodies left to load (R150). -/
def pinTurn (s : State) : Option Nat :=
  (s.bursts.filter fun e => e.2.phase = .pinning).foldl (fun o e =>
    match o with
    | none => some e.1
    | some i => if e.2.turn < (burstOf s i).turn then some e.1 else some i) none

/-- The BURSTs go on pinning, in dispatch order, as far as no body is on its way; at most n of them. -/
def settlePinsGo : Nat → State → State
  | 0, s => s
  | n + 1, s =>
    match pinTurn s with
    | none => s
    | some i =>
      if pinFetching (burstOf s i) then s
      else
        let s := nextPin ((burstOf s i).pinLeft.length + 1) s i
        if (burstOf s i).phase = .pinning then s else settlePinsGo n s
def settlePins (s : State) : State := settlePinsGo (s.bursts.length + 1) s

/-! The end of a BURST. -/

/-- The transfer of a PEB's shadow tables into its active ones (R121, R161). -/
def transferTables (s : State) (p : Nat) : State :=
  modPeb s p fun x => { x with
    timing := x.timingSh, pinmode := x.pinmodeSh, timingDirty := false, pinmodeDirty := false }

/-- The commits that are due at a boundary transfer; one that came late for the boundary before sets COMMIT_LATE (R161). -/
def transferDue (s : State) (slot : Nat) (due late : BitVec 12) : State :=
  let s := (setBits 12 (due ||| late).toNat).foldl transferTables s
  if late = 0 then s else modSlot s slot (flagSlot fCommitLate)

/-- The end of a BURST (R92, R168, R247, R251): END, where its stream was opened, and the summary first, then the PEBs'
idle play at the timing set of each one's last vector, and the terminal state; a BURST that waits to pin goes on
(R150). Commits that wait for a boundary transfer (R121, R161; log 141). rest gives what each claimed PEB plays from then on. -/
def finishBurst (s : State) (slot : Nat) (reason : Option Nat) (rest : Nat → Rest) (extra : Nat) : State :=
  let s := flushJunction (closeRuns s slot) slot
  let b := burstOf s slot
  let s := transferDue s slot (b.commit ||| b.commitLate) b.lateDue
  let s := match b.phase with
    | .hold _ => modBurst s slot fun b => { b with holds := b.holds + 1 }
    | .stall => modBurst s slot fun b => { b with
        stalls := b.stalls + 1, stallVecs := b.stallVecs + pauseVectors s b }
    | _ => s
  let b := burstOf s slot
  let l := slotOf s slot
  let state := if reason.isSome then 5 else 4
  let code := reason.getD 0
  let s := if b.begun then
      capAll s slot fun s p => rec32 s 0x22 p (b.vaddr % 2 ^ 40) state
        [(2, itemId s slot), (1, code), (1, 0), (4, l.progress.toNat), (8, b.tLast.toNat),
         (5, (if b.faulty.getLsbD p then b.faultTo else b.segStart) % 2 ^ 40)]
    else s
  let s := if b.begun then (burstPebs b).foldl (fun s p => modQueue s p flushQueue) s else s
  let s := memWrite s (Msg.field l.msg 56 8) (summaryBytes s slot state code l.progress.toNat)
  let s := (burstPebs b).foldl (fun s p => restPeb s p (if b.faulty.getLsbD p then .driversOff else rest p)) s
  let open_ := s.fabric.outst.map fun o => if o.slot = some slot then { o with slot := none } else o
  let s := { s with bursts := tdel s.bursts slot, fabric := { s.fabric with outst := open_ } }
  endItem (settlePins s) slot reason fun l =>
    partialIf reason.isSome (l.progress ≠ 0)
      (flagSlot extra { l with result := BitVec.ofNat 64 (Msg.field l.msg 56 8) })

/-- The CLOCK record of a loss of reference: after every record already in the stream, at the first vector of the
segment in play, or of the one after which play holds or stalls (R246, R247). -/
def clockRecord (s : State) (slot : Nat) : State :=
  let b := burstOf s slot
  if b.begun then
    let s := flushJunction (closeRuns s slot) slot
    capAll s slot fun s p => rec16 s 0x03 p (b.segAt % 2 ^ 40) 0 [(4, b.seg)]
  else s

/-- Is the schedule of a BURST VALID? One whose schedule is not waits (R115). -/
def schedReady (s : State) (slot : Nat) : Bool := (schedOf s (pSched (slotOf s slot).msg)).st = .valid

/-- BURST_DISPATCH (R153). -/
def execBurstDispatch (slot : Nat) (s : State) : Out :=
  let m := (slotOf s slot).msg
  let img := (schedOf s (pSched m)).image
  if canDispatch s slot .burst ∧ schedReady s slot then
    if (pinSegments img).any fun n => descReserved (descBytes img n) then .fault .reservedField else
    let jump := (slotOf s slot).jump
    let s := takeItem s slot
    let pebs := pebsOfSites s (pSites m)
    let nb : Burst :=
      { sched := pSched m, entry := pEntry m, seg := pEntry m, sites := BitVec.ofNat 64 (pSites m),
        pebs := pebs.foldl (fun x p => putBit x p true) 0, pinLeft := pinSegments img,
        jump := jump.map (fun c => (c, 0)), turn := s.bursts.foldl (fun n e => max n (e.2.turn + 1)) 0,
        pause := if s.dev.pauseReq then some { stamp := 0, fromSeg := false } else none }
    let s := { s with bursts := tset {} s.bursts slot nb }
    let s := pebs.foldl (fun s p =>
      setPools (loadTables (settleCorrections (startPins (modPeb s p fun x => { x with rest := .none }) p) p) img p)
        img p) s
    .next (settlePins s)
  else .next s

/-- PIN_BODY_ABANDONED (R147): the body is played as unpinned, and loading goes on with the next. -/
def execPinBodyAbandoned (slot seg : Nat) (s : State) : Out :=
  let b := burstOf s slot
  if b.phase = .pinning ∧ b.pinLeft.head? = some seg ∧ pinFetching b then
    let s := dropSlices s slot fun k => k = metaKey 0 seg .pin
    .next (settlePins (modBurst s slot fun b => { b with pinLeft := b.pinLeft.tail }))
  else .next s

/-! Fetches (R150, R151, R165). -/

/-- Has the segment's body fetch been issued? -/
def bodyIssued (b : Burst) (ord seg : Nat) : Bool :=
  (b.issued ++ b.waiting ++ b.lost ++ b.cache.map Prod.fst).any fun k =>
    k.ord = ord && k.seg = seg && (match k.kind with | .ctl _ => true | .src _ => true | .ovl _ _ _ => true | _ => false)

/-- Issues a segment's body fetches: the whole segment on the known path, the opening granules of a candidate (R152). -/
def issueBody (s : State) (slot ord seg : Nat) : State :=
  let b := burstOf s slot
  let img := burstImg s b
  let d := descIn img seg
  issueGranules s slot ord seg 0 (if onPath img b ord seg then granules d else opening d)

/-- SEGMENT_FETCH_ISSUE (R151): within LEAD granules, or as soon as the descriptor is resident where the plan entry is
not (R167). -/
def execSegmentFetchIssue (slot ord seg : Nat) (s : State) : Out :=
  let b := burstOf s slot
  let img := burstImg s b
  if inFlight (slotOf s slot) ∧ b.phase ≠ .pinning ∧ (tracked img b).contains (ord, seg)
      ∧ resident b (metaKey ord seg .desc)
      ∧ (¬ resident b (metaKey ord seg .plan) ∨ distTo img b ord ≤ 64 * leadIn img seg)
      ∧ ¬ bodyIssued b ord seg then
    .next (issueBody s slot ord seg)
  else .next s

/-- What a metadata record shows of misuse: it differs from the image loaded (R130), breaks the granule or length
rules (R132), or has a reserved field set (R5; log 68). -/
def metaMisuse (img : List Byte) (k : Slice) (bs : List Byte) : Option Fault :=
  let (a, n) := sliceAddr img 0 k
  if bs ≠ (img.drop a).take n then some .imageChanged
  else
    match k.kind with
    | .desc =>
      if bytesAt bs 8 4 < 256 ∨ bytesAt bs 8 4 % 64 ≠ 0 then some .imageGranule
      else if descReserved bs then some .reservedField
      else none
    | .junction => if juncReserved bs then some .reservedField else none
    | .cover => if coverReserved bs then some .reservedField else none
    | .plan => if planReserved bs then some .reservedField else none
    | _ => none

/-- Was a read of the fetch answered UNREACHABLE by this node itself (R149, R320)? -/
def fetchDead (s : State) (slot : Nat) (k : Slice) : Bool :=
  s.fabric.outst.any fun o => o.dead && o.slot = some slot &&
    (sliceRanges s (burstOf s slot) k).any fun e => e.1 / 32 * 32 ≤ o.addr && o.addr < e.1 + e.2

/-- FETCH_RESIDENT (R165): the fetch ends; one that cannot be read never completes (R149). -/
def execFetchResident (slot : Nat) (key : Slice) (rem : Remote) (s : State) : Out :=
  let b := burstOf s slot
  if b.issued.contains key then
    let s := modBurst s slot fun b => { b with issued := b.issued.erase key }
    match (if fetchDead s slot key then none else fetchBytes s rem b key) with
    | none => .next (modBurst s slot fun b => { b with lost := b.lost ++ [key] })
    | some bs =>
      match (if isMeta key then metaMisuse (burstImg s b) key bs else none) with
      | some f => .fault f
      | none =>
        match key.kind with
        | .pin =>
          .next (settlePins (modBurst s slot fun b =>
            { b with pinned := tset [] b.pinned key.seg bs, pinLeft := b.pinLeft.erase key.seg }))
        | .cover =>
          let s := modBurst s slot fun b => { b with cache := b.cache ++ [(key, bs)] }
          .next (if bodyIssued b key.ord key.seg then issueBody s slot key.ord key.seg else s)
        | _ => .next (trackPath (modBurst s slot fun b => { b with cache := b.cache ++ [(key, bs)] }) slot)
  else .next s

/-- UNDERRUN (R165): a slice that the vector next to play needs is absent. -/
def execUnderrun (slot : Nat) (s : State) : Out :=
  let b := burstOf s slot
  if b.phase = .playing ∧ b.vec < (descIn (burstImg s b) b.seg).length then .next (applyUnderrun s slot) else .next s

/-- STREAMING_ROOM_FREED (R150): waiting fetches go out, and pinned bodies for which there was no room. -/
def execStreamingRoomFreed (slot : Nat) (s : State) : Out :=
  .next (settlePins (admitWaiting ((burstOf s slot).waiting.length) s slot))

/-! The start (R153, R179). -/

/-- Vector 0 of ENTRY plays at the reference instant: BEGIN, then the flips of ENTRY (R163, R246). -/
def beginBurst (s : State) (slot : Nat) (t : Count) (fine : Nat) : State :=
  let s := modSlot s slot fun l => { l with armed := false }
  let s := modBurst s slot fun b => { b with phase := .playing, begun := true, tRef := t, tZero := t, tLast := t, fine := fine }
  let b := burstOf s slot
  let s := capAll s slot fun s p => rec32 s 0x21 p 0 b.sched
    [(2, itemId s slot), (2, 0), (4, b.entry), (8, t.toNat), (8, b.sites.toNat)]
  flipLayers s slot b.seg 0 t

/-- BURST_START (R153, R179): the opening granules are resident; the start is armed, or play begins. -/
def execBurstStart (slot : Nat) (s : State) : Out :=
  let b := burstOf s slot
  let l := slotOf s slot
  if l.st = .inFlight ∧ b.phase = .fetching ∧ openingReady s b 0 b.entry then
    if pStartAt l.msg then
      if countPast (stamp s) (pStartTime l.msg) then
        if syncReady s l ∧ s.clock.locked then .next (beginBurst (modSlot s slot (flagSlot fTimePast)) slot (stamp s) 0)
        else
          .next (modBurst (modSlot s slot fun l => flagSlot fTimePast { l with armed := true }) slot fun b =>
            { b with phase := .armed })
      else .next (modBurst (modSlot s slot fun l => { l with armed := true }) slot fun b => { b with phase := .armed })
    else .next (beginBurst s slot (stamp s) 0)
  else .next s

/-! Junctions (R139, R157, R159, R167). -/

/-- The sites of a MATCH junction's set that have matched once this pass is counted in. -/
def matchedNow (s : State) (b : Burst) (j : Junc) (before : BitVec 64) : BitVec 64 :=
  let set := BitVec.ofNat 64 j.sites &&& b.sites
  (List.range 64).foldl (fun m n =>
    if set.getLsbD n ∧ (before.getLsbD n ∨ siteChannels s n = [] ∨ ¬ b.passFail.getLsbD n) then putBit m n true
    else m) before

/-- The selection at a junction: successor index, source (Table 13.2) and the new iteration count. -/
def selectIndex (b : Burst) (j : Junc) (m : BitVec 64) (count : Nat) : Nat × Nat × Nat :=
  if j.isMatch then
    let set := BitVec.ofNat 64 j.sites &&& b.sites
    let hit := if j.any then (m &&& set) ≠ 0 else (m &&& set) = set
    if hit then (1, 2, 0) else if j.limit ≠ 0 ∧ count = j.limit then (2, 3, 0) else (0, 2, count + 1)
  else
    match b.jump with
    | some (c, _) => (c % 4, 1, 0)
    | none => (j.default, 0, 0)

/-- The sites that other junctions hold matched, and so masked (R139). -/
def matchedElsewhere (b : Burst) (j : Nat) : BitVec 64 :=
  b.matched.foldl (fun m e => if e.1 = j then m else m ||| e.2) 0

/-- The selection made: the pending record, the successor, the sites to mask or unmask, the candidates freed (R152). -/
def selectAt (s : State) (slot j : Nat) (d : SegDesc) : State :=
  let b := burstOf s slot
  let img := burstImg s b
  let r := juncIn img j
  let before := tget 0 b.matched j
  let m := if r.isMatch then matchedNow s b r before else before
  let (ix, src, count) := selectIndex b r m (tget 0 b.iters j)
  let succ := (r.succ.getD ix none)
  let leaves := r.isMatch && ix ≠ 0
  let time := timeAt b (leadPeb b)
  let jr := rec32 s 0x23 0 ((b.segStart + d.length) % 2 ^ 40) (ix + (if r.isMatch then 4 else 0) + 8 * src)
    [(4, b.seg), (4, succ.getD 0xFFFFFFFF), (8, time.toNat), (4, if r.isMatch then count else 0)]
  let s := modBurst s slot fun b => { b with
    sampled := true, sel := succ, junc := jr
    jump := if r.isMatch then b.jump else none
    iters := if r.isMatch then tset 0 b.iters j count else b.iters
    matched := if r.isMatch then tset 0 b.matched j (if leaves then 0 else m) else b.matched
    toMask := if r.isMatch ∧ ¬ leaves then b.toMask ||| m else b.toMask
    unmask := if leaves then b.unmask ||| (m &&& ~~~matchedElsewhere b j) else b.unmask }
  let s := dropSlices s slot fun k => k.ord = b.ord + 1 && some k.seg ≠ succ
  let s := match succ with
    | some n => if bodyIssued (burstOf s slot) (b.ord + 1) n then issueBody s slot (b.ord + 1) n else s
    | none => s
  trackPath s slot

/-- JUNCTION_SAMPLING_POINT (R139). A junction record that is not resident is played as JUNCTION clear, and the segment
counts as underrun at its last vector (R167). -/
def execJunctionSamplingPoint (slot : Nat) (s : State) : Out :=
  let b := burstOf s slot
  let d := descIn (burstImg s b) b.seg
  if b.phase = .playing ∧ b.vec + 48 = d.length ∧ ¬ b.sampled then
    match d.junction with
    | none => .next s
    | some j =>
      if resident b (metaKey b.ord b.seg .junction) then .next (selectAt s slot j d)
      else
        .next (trackPath (modBurst s slot fun b => { b with sampled := true, sel := d.next, segLate := true }) slot)
  else .next s

/-! Boundaries (R158 to R167, R178, R181). -/

/-- One step of a correction toward its new value (R178). -/
def stepToward (x y : Nat) : Nat := if x < y then x + 1 else if y < x then x - 1 else x
def stepCorrections (s : State) (p : Nat) : State :=
  { s with chans := tmods {} s.chans ((List.range 64).map (64 * p + ·)) fun _ x =>
    { x with rise := stepToward x.rise x.riseNew, fall := stepToward x.fall x.fallNew
             cmp := stepToward x.cmp x.cmpNew } }

/-- By how much a phase reset lengthens the last vector of a PEB: up to the next timing-clock cycle (R181). -/
def phaseMore (b : Burst) (p : Nat) : Nat := (256 - (b.fine + tget 0 b.sAcc p) % 256) % 256

/-- The phase reset at a boundary (R181): on every PEB a new reference instant at a cycle's start, with its Headwater
count, and its PHASE record. S is counted from the earliest of them from then on. Edges still outstanding keep their
times. -/
def phaseReset (s : State) (slot succ : Nat) : State :=
  let b := burstOf s slot
  let at_ (p : Nat) : Nat := tget 0 b.sAcc p + phaseMore b p
  let base := ((burstPebs b).map at_).foldl min (at_ (leadPeb b))
  let count (p : Nat) : Nat := tget 0 b.cAcc p + countLsb s (phaseMore b p)
  let lsb := ((burstPebs b).map count).foldl min (count (leadPeb b)) / 2 ^ 32
  let s := modBurst s slot fun b => { b with
    tRef := b.tRef + BitVec.ofNat 64 lsb, fine := 0, counter := 0, phases := b.phases + 1, phaseArm := false
    sAcc := (burstPebs b).foldl (fun t p => tset 0 t p (at_ p - base)) []
    cAcc := (burstPebs b).foldl (fun t p => tset 0 t p (count p - lsb * 2 ^ 32)) [] }
  let s := capAll s slot fun s p => rec32 s 0x25 p (b.vaddr % 2 ^ 40) 0
    [(4, succ), (4, s.clock.mNow.toNat), (8, (timeAt (burstOf s slot) p).toNat)]
  let s := modSlot s slot (flagSlot fRootStepped)
  (burstPebs b).foldl (fun s p =>
    { s with chans := tmods {} s.chans ((List.range 64).map (64 * p + ·)) fun _ x =>
      { x with edges := x.edges.map fun e => { e with at_ := e.at_ - base } } }) s

/-- Play crosses the boundary into succ: phase reset, commits, correction steps, flips; then the segment's vector 0 is
next (R161, R163, R178, R181). -/
def crossBoundary (s : State) (slot succ : Nat) : State :=
  let b := burstOf s slot
  let s := if b.phaseArm then phaseReset s slot succ else s
  let s := transferDue s slot b.commit b.lateDue
  let s := (burstPebs b).foldl stepCorrections s
  let b := burstOf s slot
  let time := timeAt b (leadPeb b)
  let s := flipLayers s slot succ (b.vaddr % 2 ^ 40) time
  let s := dropSlices s slot fun k => k.ord ≤ b.ord && k.kind ≠ .pin
  let s := modBurst s slot fun b => { b with
    phase := .playing, seg := succ, ord := b.ord + 1, vec := 0, segStart := b.vaddr, segAt := b.vaddr
    sel := none, sampled := false
    commit := 0, lateDue := b.commitLate, commitLate := 0
    masked := (b.masked ||| b.toMask) &&& ~~~b.unmask, toMask := 0, unmask := 0, passFail := 0
    ur := 0, ctlUr := 0, segUr := false, segLate := false, segUrSites := 0
    pause := b.pause.map fun r => { r with fromSeg := false } }
  trackPath s slot

/-- The successor on which play stands at the boundary. -/
def successor (s : State) (b : Burst) : Option Nat :=
  if b.sampled then b.sel else (descIn (burstImg s b) b.seg).next

/-- Play leaves the boundary: a stall, in which the background vector plays, where an underrun occurred and the
successor's opening granules are not all resident, else the crossing (R166). -/
def leaveBoundary (s : State) (slot : Nat) : State :=
  let b := burstOf s slot
  match successor s b with
  | none => s
  | some n =>
    if b.segUr ∧ ¬ openingReady s b (b.ord + 1) n then
      idleBurst (modBurst s slot fun b => { b with phase := .stall, tPause := timeAt b (leadPeb b) }) slot backSymbol
    else crossBoundary s slot n

/-- Is a pause request taken at this boundary (R160)? -/
def pauseTaken (b : Burst) (d : SegDesc) : Bool :=
  match b.pause with
  | some r => d.pauseOk && (! r.fromSeg || r.stamp + 48 < d.length)
  | none => false

/-- The BURST holds at the boundary: each pin plays its hold register (R160, R346). -/
def enterHold (s : State) (slot : Nat) : State :=
  let b := burstOf s slot
  let thr := match b.pause with | some r => r.throttle | none => false
  let s := modBurst s slot fun b => { b with
    phase := .hold thr, pause := none, tPause := timeAt b (leadPeb b) }
  let s := idleBurst s slot fun s p c => (chanOf s (64 * p + c)).hold.toNat
  settleMode (modSlot s slot fun l => if thr then flagSlot fThrottled l else { l with st := .held })

/-- The segment in play is not counted for PEBs that a CONTAINED fault has taken: their pins, and the sites with a
channel there (R251). -/
def dropFaulty (s : State) (slot : Nat) : State :=
  let gone (c : Nat) : Bool := (burstOf s slot).faulty.getLsbD (c / 64)
  let sites := ((List.range 768).filter gone).filterMap (siteOf s)
  if (burstOf s slot).faulty = 0 then s
  else modBurst s slot fun b => { b with
    segFails := b.segFails.filter fun e => ! sites.contains e.1
    segFirst := b.segFirst.filter fun e => ! sites.contains e.1
    segPins := b.segPins.filter fun e => ! gone e.1
    segUrSites := sites.foldl (fun m n => putBit m n false) b.segUrSites }

/-- The compares of the vector just played leave the counts and the open runs: the underrun that a boundary finds is at
that vector (R167, R252). -/
def uncountLast (s : State) (slot : Nat) : State :=
  let b := burstOf s slot
  let v := (b.vaddr + 2 ^ 40 - 1) % 2 ^ 40
  let cut (r : Run) : Run :=
    if r.len = 0 ∨ (r.first + r.len - 1) % 2 ^ 40 ≠ v then r else if r.len = 1 then noRun else { r with len := r.len - 1 }
  modBurst s slot fun b => { b with
    vecFails := 0, segFails := (setBits 64 b.vecFails.toNat).foldl (fun t n => tmod 0 t n (· - 1)) b.segFails
    segFirst := b.segFirst.filter fun e => e.2 ≠ v, segPins := b.segPins.filter fun e => e.2 ≠ v
    runs := (burstPebs b).foldl (fun t p => tmod noRun t p cut) b.runs }

/-- BURST_SEGMENT_BOUNDARY (R166). A pause that is pending where the path ends holds nothing: the BURST ends (log 152). -/
def execBurstSegmentBoundary (slot : Nat) (s : State) : Out :=
  let b := burstOf s slot
  let img := burstImg s b
  let d := descIn img b.seg
  if b.phase = .playing ∧ b.vec = d.length ∧ (d.junction = none ∨ b.sampled) then
    let succ := successor s b
    let late := b.segLate || (match succ with
      | some n => ! resident b (metaKey (b.ord + 1) n .desc)
      | none => false)
    let s := if late then
        markUnderrun (uncountLast s slot) slot (((burstPebs b).flatMap fun p => (List.range 8).map fun k => (8 * p + k, 3)).filter
          fun e => ! b.ur.getLsbD e.1) []
          ((b.vaddr + 2 ^ 40 - 1) % 2 ^ 40)
      else s
    let s := closeRuns s slot
    let cause := (slotOf s slot).cause.map BitVec.toNat
    let last (s : State) (reason : Option Nat) (rest : Rest) : Out := .next (finishBurst s slot reason (fun _ => rest) 0)
    if cause = some rUnderrun then last (mergeSegment s slot false d.length) (some rUnderrun) .background
    else
      let s := mergeSegment (dropFaulty s slot) slot true d.length
      let s := modSlot s slot fun l =>
        { (if (burstOf s slot).segUr then flagSlot fUnderrunSeen l else l) with progress := l.progress + 1 }
      let s := flushJunction s slot
      match succ with
      | none =>
        if cause = some rAbortedFault ∨ (cause.isSome ∧ (burstOf s slot).jump.isSome) then
          last s cause .background
        else if (burstOf s slot).jump.isSome then last s (some rNotTaken) .keep
        else last s none .keep
      | some _ =>
        if cause.isSome then last s cause .background
        else if pauseTaken (burstOf s slot) d then .next (enterHold s slot)
        else .next (leaveBoundary s slot)
  else .next s

/-- Advances every accumulator of the BURST by whole vectors of the last timing set of each PEB (R160, R182); the edges
of the last of them stand where it played. -/
def idleVectors (s : State) (slot n : Nat) : State :=
  let s := (livePebs (burstOf s slot)).foldl (fun s p =>
    let per := periodOf (pebOf s p).timing (pebOf s p).restTs
    { s with chans := tmods {} s.chans ((List.range 64).map (64 * p + ·)) fun _ x =>
      { x with edges := x.edges.map fun e => { e with at_ := e.at_ + n * per } } }) s
  let per (p : Nat) : Nat := periodOf (pebOf s p).timing (pebOf s p).restTs
  modBurst s slot fun b => { b with
    sAcc := (burstPebs b).foldl (fun t p => tmod 0 t p (· + n * per p)) b.sAcc
    cAcc := (burstPebs b).foldl (fun t p => tmod 0 t p (· + n * countLsb s (per p))) b.cAcc
    counter := b.counter + n }

/-- The STALL or HOLD record of a pause of n vectors that ends now (Table 13.2). -/
def pauseRecord (s : State) (slot type b7 n : Nat) : State :=
  let b := burstOf s slot
  let per := periodOf (pebOf s (leadPeb b)).timing b.lastTs
  let fin := b.tPause + BitVec.ofNat 64 (n * countLsb s per / 2 ^ 32)
  capAll s slot fun s p => rec32 s type p (b.vaddr % 2 ^ 40) b7
    [(4, (successor s b).getD 0xFFFFFFFF), (4, n), (8, b.tPause.toNat), (8, fin.toNat)]

/-- STALL_END (R166): the successor's opening granules are resident. -/
def execStallEnd (slot vectors : Nat) (s : State) : Out :=
  let b := burstOf s slot
  match successor s b with
  | some n =>
    if b.phase = .stall ∧ openingReady s b (b.ord + 1) n then
      let s := pauseRecord s slot 0x26 0 vectors
      let s := modBurst s slot fun b => { b with stalls := b.stalls + 1, stallVecs := b.stallVecs + vectors }
      .next (crossBoundary (idleVectors s slot vectors) slot n)
    else .next s
  | none => .next s

/-- A hold of n vectors ends: its HOLD record, and play leaves the boundary (R160). -/
def endHold (s : State) (slot b7 n : Nat) : State :=
  let s := pauseRecord s slot 0x27 b7 n
  let s := modBurst s slot fun b => { b with holds := b.holds + 1 }
  leaveBoundary (idleVectors s slot n) slot

/-- THROTTLE_HOLD_END (R346). -/
def execThrottleHoldEnd (slot vectors : Nat) (s : State) : Out :=
  if (burstOf s slot).phase = .hold true then .next (endHold s slot 1 vectors) else .next s

/-- OPC_RESUME on a held BURST (R160): the hold's vectors follow from the count. -/
def resumeBurst (s : State) (slot : Nat) : State :=
  if (burstOf s slot).phase = .hold false then
    let n := pauseVectors s (burstOf s slot)
    endHold (modSlot s slot fun l => { l with st := .inFlight }) slot 0 n
  else s

/-- The index of the vector in play at the pins, with which a request is stamped (R156). -/
def stampVec (b : Burst) : Nat := b.vec - 1

/-- A pause request for a BURST (R160); a pause that OPC_PAUSE or a trigger asks for stands over one for throttling. -/
def requestPause (s : State) (slot : Nat) (throttle : Bool) : State :=
  modBurst s slot fun b => { b with pause :=
    match b.pause with
    | some r => some { r with throttle := r.throttle && throttle }
    | none => some { stamp := stampVec b, fromSeg := b.begun, throttle := throttle } }

/-- A jump request for a BURST in flight (R122). -/
def requestJump (s : State) (slot cond : Nat) : State :=
  modBurst s slot fun b => { b with jump := some (cond, stampVec b) }

/-- A commit for the PEBs of a BURST in play (R121, R161). -/
def requestCommit (s : State) (slot : Nat) (pebs : BitVec 12) : State :=
  let d := descIn (burstImg s (burstOf s slot)) (burstOf s slot).seg
  modBurst s slot fun b =>
    if b.phase = .playing ∧ d.length ≤ stampVec b + 64 then
      { b with commitLate := b.commitLate ||| (pebs &&& ~~~(b.commit ||| b.lateDue)) }
    else { b with commit := b.commit ||| pebs }

/-- An abort of a BURST (R97, R168): at once where it stands at a boundary or has not begun, else at the end of the
segment in play. -/
def abortBurst (s : State) (slot reason : Nat) : State :=
  if (burstOf s slot).phase = .playing then
    modSlot s slot fun l => { l with cause := if l.cause.isNone then some (BitVec.ofNat 8 reason) else l.cause }
  else finishBurst s slot (some reason) (fun _ => .background) 0

/-- Is a fetch from a page of a layer outstanding (R164)? The fetches of the segments played are freed at the boundary. -/
def pageFetching (s : State) (p l page : Nat) : Bool :=
  s.bursts.any fun e => e.2.issued.any fun k =>
    match k.kind with
    | .ovl q m _ => q = p && m = l && pageWhen s e.2 p l k.ord k.seg = page
    | _ => false

/-- LAYER_PAGE_RELEASE (R164): every free that was pending for the page's time as front takes effect. A page that has
become NEXT again stays NEXT. -/
def execLayerPageRelease (peb layer page : Nat) (s : State) : Out :=
  let y := layerOf s peb layer
  match y.drain.find? fun e => e.1 = page with
  | some e =>
    .next (modLayer s peb layer fun y => { y with
      drain := y.drain.erase e, deferred := y.deferred - BitVec.ofNat 32 e.2 })
  | none =>
  if tget .idle y.st page = .draining ∧ ¬ pageFetching s peb layer page then
    if y.freePend.contains page then
      .next (modLayer s peb layer fun y => { y with
        st := tset .idle y.st page .free, freePend := y.freePend.filter (· ≠ page)
        deferred := y.deferred - BitVec.ofNat 32 (y.freePend.filter (· = page)).length })
    else .next (modLayer s peb layer fun y => { y with st := tset .idle y.st page .idle })
  else .next s

end Sys2Proof.Machine
end

