-- ==== Sys2Proof/Machine/Press.lean ====
section
/-! DEFINITION. Press: the classes, the corrections and how they come into force, and the end of a CAL item
(R335 to R340). Its commands stand in Calib.lean. -/

namespace Sys2Proof.Machine

/-! The two-level stores of Press and Levee (R228). A microword picks a nanoword and carries an immediate; what the
nanowords do is what chapters 18 and 19 have the engines do. -/

/-- The microword of Press's microstore at an address. -/
def pressWord (s : State) (a : BitVec 12) : BitVec 16 := (s.boot.pressStore >>> (16 * a.toNat)).setWidth 16

/-- The nanostore address and the immediate of a microword, and the nanoword that Press or Levee runs for it. -/
def nanoAddr (w : BitVec 16) : Byte := w.extractLsb' 8 8
def microImm (w : BitVec 16) : Byte := w.setWidth 8
def pressNanoword (s : State) (a : BitVec 12) : BitVec 192 := Config.pressNano (nanoAddr (pressWord s a))
def leveeNanoword (a : BitVec 9) : BitVec 192 := Config.leveeNano (nanoAddr (Config.leveeMicro a))

/-- The classes of an item in the order they run: ADC, levels, PMU, timing, DPS, TDC, lanes (R336). -/
def classOrder (classes : Nat) : List Nat := [4, 0, 1, 2, 3, 5, 6].filter (bitOf classes)

/-- The DACs of a unit: a PEB's level, clamp and PMU force DACs, a DPS group's set points (R339). -/
def unitDacs (u : Nat) : List Nat :=
  if u < 12 then pebDacs u ++ (List.range 64).map fun c => forceKey (64 * u + c)
  else if 0x100 ≤ u ∧ u < 0x104 then (List.range 12).map fun k => dpsKey (12 * (u - 0x100) + k)
  else []

/-- A correction of the model by class and index. Classes levels, PMU and DPS: index DAC key × 20 + j with j 0 the offset
in nV, 1 the gain in parts per 10^9, 2 to 18 the linearity points in nV; PMU and DPS indices from 2^23 on are the
measure path's: channel × 16 of a PMU, or unit × 1024 + channel of the group × 32 of a DPS, + 2 × range + j for the
current, + 14 + j or + 30 + j for the voltage, j 0 the offset and 1 the gain. Timing: channel × 3 + j for rise, fall and compare, from 2^23 on channel × 256 + tap the linearity of
the delay line (R177). TDC: TDC × 256 + tap the deviation of W, from 2^23
on TDC × 16 + input the LAT. ADC: unit × 1024 + converter × 19 + j, with j as for a DAC and the MONC of clamp group g of
a PEB as converter 8 + g. Lanes: lane × 5 + j with j 0 the swing, 1 the termination, 2 and 3 the offsets of the two
samplers, 4 the phase step (R304). -/
def corrValue (s : State) (c i : Nat) : Int :=
  if (c = 0 ∨ c = 1 ∨ c = 3) ∧ i < 2 ^ 23 then
    let r := corrOf s (i / 20)
    if i % 20 = 0 then r.e else if i % 20 = 1 then r.g else r.lin.getD (i % 20 - 2) 0
  else if c = 2 then
    if 2 ^ 23 ≤ i then tget 0 (chanOf s ((i - 2 ^ 23) / 256)).taps ((i - 2 ^ 23) % 256)
    else
    let x := chanOf s (i / 3)
    if i % 3 = 0 then x.riseNew else if i % 3 = 1 then x.fallNew else x.cmpNew
  else if c = 5 then (if i < 2 ^ 23 then tget 0 s.tdcW i else tget 0 s.tdcLat (i - 2 ^ 23))
  else tget 0 s.press.gen (c * 2 ^ 24 + i)

/-- A list with entry j set, padded with zeros to 17 points. -/
def setPoint (l : List Int) (j : Nat) (v : Int) : List Int := (List.range 17).map fun k => if k = j then v else l.getD k 0

/-- One new correction comes into force whole; the timing ones as targets of the steps of R178. -/
def applyCorr (s : State) (e : Nat × Nat × Int) : State :=
  let (c, i, v) := e
  if (c = 0 ∨ c = 1 ∨ c = 3) ∧ i < 2 ^ 23 then
    let set (r : Corr) : Corr :=
      if i % 20 = 0 then { r with e := v } else if i % 20 = 1 then { r with g := v }
      else { r with lin := setPoint r.lin (i % 20 - 2) v }
    { s with corrs := tmod {} s.corrs (i / 20) set }
  else if c = 2 ∧ 2 ^ 23 ≤ i then
    modChan s ((i - 2 ^ 23) / 256) fun x => { x with taps := tset 0 x.taps ((i - 2 ^ 23) % 256) v }
  else if c = 2 then
    modChan s (i / 3) fun x =>
      if i % 3 = 0 then { x with riseNew := v.toNat } else if i % 3 = 1 then { x with fallNew := v.toNat }
      else { x with cmpNew := v.toNat }
  else if c = 5 then
    if i < 2 ^ 23 then { s with tdcW := tset 0 s.tdcW i v } else { s with tdcLat := tset 0 s.tdcLat (i - 2 ^ 23) v }
  else { s with press := { s.press with gen := tset 0 s.press.gen (c * 2 ^ 24 + i) v } }

/-- Is it a correction that Press takes in a class on a unit: one of the unit's own DACs, channels or TDCs? -/
def ofUnit (c u i : Nat) : Bool :=
  if (c = 0 ∨ c = 1 ∨ c = 3) ∧ i < 2 ^ 23 then (unitDacs u).contains (i / 20) && i % 20 < 19
  else if c = 2 then (if i < 2 ^ 23 then i / 3 / 64 = u else (i - 2 ^ 23) / 256 / 64 = u)
  else if c = 5 then (if i < 2 ^ 23 then i / 256 < 192 else (i - 2 ^ 23) / 16 < 192)
  else if c = 4 then i / 1024 = u && i % 1024 < 19 * (if u < 12 then 16 else 12)
  else if c = 6 then u = unitLg (i / 140)
  else decide ((c = 1 ∨ c = 3) ∧ (i - 2 ^ 23) / 1024 = u)

/-- The corrections that a class brings, from what it has measured. The timing class measures delays (R183): the stamps'
mean less the programmed count for the edges, less the tap-to-ball delay, and the strobe code at the 50% transition, less
the delay of the rising edge, for the compare; each correction makes up the device's latency. The other results stand for
the corrections themselves (log 154). -/
def riseDelay (s : State) (ks : List (Nat × Int)) (ch : Nat) : Int :=
  match ks.find? (·.1 = 3 * ch) with
  | some k => k.2 - Config.tapToBall ch
  | none => Config.ballLatency - (chanOf s ch).riseNew
def fromDelay (s : State) (ks : List (Nat × Int)) (k : Nat × Int) : Nat × Int :=
  if 2 ^ 23 ≤ k.1 then k
  else if k.1 % 3 = 2 then (k.1, Config.ballLatency - (k.2 - riseDelay s ks (k.1 / 3)))
  else (k.1, Config.ballLatency - (k.2 - Config.tapToBall (k.1 / 3)))
def classValues (s : State) (c : Nat) (ks : List (Nat × Int)) : List (Nat × Int) :=
  if c = 2 then ks.map (fromDelay s ks) else ks

/-- W[n] of a TDC with the new corrections of a class. -/
def newBin (s : State) (ks : List (Nat × Int)) (t n : Nat) : Int :=
  16 * n + match ks.find? (·.1 = 256 * t + n) with
    | some k => k.2
    | none => tget 0 s.tdcW (256 * t + n)

/-- Is no tap of a TDC wider than 2 LSB, its 256 widths totalling 256 LSB (R241)? -/
def binsFit (s : State) (ks : List (Nat × Int)) (t : Nat) : Bool :=
  (List.range 256).all fun n =>
    let w := (if n = 255 then 4096 + newBin s ks t 0 else newBin s ks t (n + 1)) - newBin s ks t n
    0 ≤ w && w ≤ 32

/-- Do the results of a class lie in its correction range: timing corrections from 0 to 191 LSB (R183), LAT within 256
LSB and the bins of every TDC in order (R241)? The other classes have no range but what Press reports. -/
def classFits (s : State) (c : Nat) (ks : List (Nat × Int)) : Bool :=
  if c = 2 then ks.all fun k => 2 ^ 23 ≤ k.1 || (0 ≤ k.2 && k.2 ≤ 191)
  else if c = 5 then
    (ks.all fun k => k.1 < 2 ^ 23 || (-4096 ≤ k.2 && k.2 ≤ 4096))
      && ((ks.filterMap fun k => if k.1 < 2 ^ 23 then some (k.1 / 256) else none).dedup.all (binsFit s ks))
  else true

/-- Recomputed codes of one DAC: the shadow at once, the active code by slewing (R339). -/
def recode (c : Corr) (d : Dac) : Dac :=
  { d with
    shadow := match d.value with | some v => codeFor c v | none => d.shadow
    slew := match d.activeV with
      | some v => if codeFor c v = d.active then none else some (codeFor c v)
      | none => d.slew }

/-- The change of a correction in DAC codes or timing LSB, where the spec gives one; none for gains and the converters'
corrections. -/
def corrChange (s : State) (e : Nat × Nat × Int) : Option Nat :=
  let (c, i, v) := e
  let d := v - corrValue s c i
  if (c = 0 ∨ c = 1 ∨ c = 3) ∧ i < 2 ^ 23 ∧ i % 20 ≠ 1 then some (roundDiv d 78125).natAbs
  else if c = 2 ∧ i < 2 ^ 23 then some d.natAbs
  else if c = 5 then some (roundDiv d 16).natAbs else none

/-- RESULT of a CAL item (Table 6.8): corrections changed, and the largest change; v where no unit of it is stated. -/
def calResult (s : State) (v : Nat) : Nat :=
  let ch := s.press.staged.filter fun e => corrValue s e.1 e.2.1 ≠ e.2.2
  let sizes := ch.map (corrChange s)
  let top := if sizes.any Option.isNone then v else (sizes.filterMap id).foldl max 0
  min 0xFFFF ch.length + 65536 * (top % 65536)

/-- Press is free again. -/
def freePress (s : State) : State :=
  { s with press := { s.press with item := none, left := [], staged := [], temp := 0, temps := [] } }

/-- A PEB that leaves MAINTENANCE for ACTIVE keeps its disconnects open; nothing drives them (R210). -/
def quietPeb (s : State) (p : Nat) : State :=
  { s with chans := tmods {} s.chans ((List.range 64).map (64 * p + ·)) fun _ x =>
    { x with closed := false, armed := false, drvOn := false, pmuOn := false, released := true } }

/-- A unit enters MAINTENANCE (R16, Table 10.7). -/
def enterMaintenance (s : State) (u : Nat) (byHost : Bool) : State :=
  let s := if unitState s u = .maintenance then s else setUnit s u .maintenance byHost
  let s := modUnit s u fun v => { v with faulted := false }
  if u < 12 then quietPeb s u else s

/-- The channels of a PEB with termination as configured, or released by the Z symbol in force (R191). -/
def restorePeb (s : State) (p : Nat) : State :=
  { s with chans := tmods {} s.chans ((List.range 64).map (64 * p + ·)) fun _ x => { x with released := x.last = 5 } }

/-- Where a unit goes that would be ACTIVE again: QUIESCING where a switch-off of its domain has been ordered (R32). -/
def backTo (s : State) (u : Nat) : UState := if (unitOf s u).toOff then .quiescing else .active

/-- A held unit other than the item's own returns to ACTIVE (R241). -/
def releaseOther (s : State) (u : Nat) : State :=
  if unitState s u = .maintenance then restorePeb (setUnit s u (backTo s u) false) u else s

/-- Where the item's own unit goes from MAINTENANCE. A unit that a host request holds stays in MAINTENANCE, its action
done, unless it goes OFFLINE (R375). -/
def releaseOwn (s : State) (u : Nat) (dst : UState) : State :=
  match (unitOf s u).holder, dst with
  | .host a _, .active => modUnit s u fun v => { v with holder := .host a true }
  | _, _ =>
    let goal := if dst = .active then backTo s u else dst
    let s := modUnit (setUnit s u goal false) u fun v => { v with holder := .none }
    if u < 12 ∧ dst = .active then restorePeb s u else s

/-- Does a host request hold the unit (R374, R375)? -/
def hostHeld (s : State) (u : Nat) : Bool :=
  match (unitOf s u).holder with
  | .host _ _ => true
  | _ => false

/-- The end of a CAL item in flight that is not COMPLETE (R336): nothing in force changes. A unit that a host request
holds goes OFFLINE, its action having failed (R375). -/
def failCal (s : State) (slot reason : Nat) (dst : UState) (extra : Nat) : State :=
  let l := slotOf s slot
  let u := pUnit l.msg
  let held := hostHeld s u
  let s := ((heldUnits s l).filter (· ≠ u)).foldl releaseOther s
  let s := releaseOwn (freePress s) u (if held then .offline else dst)
  let s := if held then modUnit s u fun v => { v with faulted := true } else s
  endItem s slot (some reason) (flagSlot extra)

/-- Where a CAL item's unit goes when the item is stopped from outside the unit's region: ACTIVE with its previous
corrections, OFFLINE where it has none, or where the item was the one that was to bring it on (R336, R61, R411). -/
def afterStop (s : State) (u : Nat) : UState :=
  if (unitOf s u).corrected ∧ ¬ (unitOf s u).fresh then .active else .offline

end Sys2Proof.Machine
end

