-- ==== Sys2Proof/Machine/TdcCh.lean ====
section
/-! DEFINITION. The TDCs: edges, measurements, statistics and TDC items (R229 to R240). -/

namespace Sys2Proof.Machine

def tdcOf (s : State) (t : Nat) : Tdc := tget {} s.tdcs t
def modTdc (s : State) (t : Nat) (f : Tdc → Tdc) : State := { s with tdcs := tmod {} s.tdcs t f }

/-- W[n] of a TDC in 1/16 LSB: 16 × n but for the calibrated deviation (R232, R241). -/
def binPos (s : State) (t n : Nat) : Int := 16 * n + tget 0 s.tdcW (256 * t + n)

/-- The stamp of an edge that reaches tap n at the k-th timing-clock edge (R232). -/
def edgeStamp (s : State) (t input k n : Nat) : Int :=
  (countAt s k).toNat * 16 - binPos s t n - tget 0 s.tdcLat (16 * t + input)

/-- The inputs in force: those of the item, else those configured (R113, R231). -/
def tdcInputs (x : Tdc) : Byte × Byte := if x.item.isSome then (x.startIn, x.stopIn) else (x.start, x.stop)

/-- One input for both: the same code and, but for HW_MARK, the same polarity (R235, Table 12.1; log 30). -/
def oneInput (x : Tdc) : Bool :=
  (tdcInputs x).1 = (tdcInputs x).2 && ((tdcInputs x).1 = 0x0E#8 || x.startUp = x.stopUp)

/-- A TDC with measurement armed (R235): prescalers cleared, no stamps, a dead-time edge that came before marked
(R234). -/
def armMeasurement (x : Tdc) : Tdc :=
  { x with
    pcS := 0, pcE := 0, sStamp := none, eStamp := none, dead := x.deadNext, stepped := false, deadNext := false
    armed := true, closed := none }

/-- A measurement is closed at a count: until the next is armed, no edge belongs to one (R235). -/
def closeMeasurement (c : Count) (x : Tdc) : Tdc :=
  { x with
    sStamp := none, eStamp := none, dead := false, stepped := false, armed := false
    closed := if x.index = x.series then none else some c }

/-- The next measurement of a series is armed at the first timing-clock cycle after both stamps: at the first edge that
is sampled at another count (R235; log 144). -/
def rearmed (s : State) (k : Nat) (x : Tdc) : Tdc :=
  match x.closed with
  | some c => if c = countAt s k ∧ s.hw.running then x else armMeasurement x
  | none => x

/-- Has the count reached a multiple of 262,144 in the cycle that the k-th timing-clock edge ends (Table 12.1)? -/
def markReached (s : State) (k : Nat) : Bool :=
  s.hw.running && (countAt s k).toNat % 262144 < (cycleLsb s (2 ^ 22) + (2 ^ 32 - 1)) / 2 ^ 32
def markNumber (s : State) (k : Nat) : Nat := (countAt s k).toNat / 262144

/-- Can an input deliver an edge: the array on and the timing clock running; a lane clock in an ACTIVE group, a
recovered one while its lane is locked; one HW_MARK edge for each mark (Table 12.1, R230, R233, R303)? -/
def edgeComes (s : State) (t : Nat) (x : Tdc) (input k : Nat) : Bool :=
  s.power.pdOn.getLsbD 13 && s.clock.locked && cycleComes s k
    && (if input = 0x0C ∨ input = 0x0D then
        unitState s (unitLg (t / 28)) = .active
          && (input = 0x0D || (lgOf s (t / 28)).fwd || (laneOf s t).rx)
      else if input = 0x0E then markReached s k && x.mark ≠ some (markNumber s k)
      else true)

/-- The reported interval and its flags, bits as in Table 12.3: ORDER, COINCIDENT, DEADTIME, STEPPED, SATURATED. Counts are
compared modulo 2^64 over a window of 2^63 (R50). -/
def intervalOf (diff : Int) (dead stepped : Bool) : Int × BitVec 5 :=
  let diff := (diff + 2 ^ 67) % 2 ^ 68 - 2 ^ 67
  let top : Int := 2 ^ 47 - 1
  let r := if diff.natAbs < 16 then 0 else roundDiv diff 16
  let sat := top < r || r < -top
  let fl := b2n (diff ≤ -16) + 2 * b2n (diff.natAbs < 16) + 4 * b2n dead + 8 * b2n stepped + 16 * b2n sat
  (clampTo (-top) top r, BitVec.ofNat 5 fl)

/-- The record of a measurement (Table 12.3). -/
def tdcRecord (id t sync index : Nat) (start interval : Int) (flags : BitVec 5) : List Byte :=
  leInt 8 (roundDiv start 16) ++ leInt 6 interval ++ le 1 t ++ le 1 (flags.toNat + 32 * sync) ++ le 4 index
    ++ le 2 id ++ zeros 2

/-- Adds a measurement to the statistics (Table 12.4); STEPPED and SATURATED ones stay out (Table 12.2). -/
def addStats (x : Tdc) (interval : Int) (fl : BitVec 5) : Tdc :=
  let x := { x with
    flags := x.flags ||| fl, orders := x.orders + b2n (fl.getLsbD 0), index := x.index + 1 }
  if fl.getLsbD 3 ∨ fl.getLsbD 4 then x
  else { x with
    used := x.used + 1, sum := x.sum + interval, sumsq := x.sumsq + interval.natAbs * interval.natAbs
    min := if x.used = 0 then interval else min x.min interval
    max := if x.used = 0 then interval else max x.max interval }

/-- The statistics record of a TDC (Table 12.4). -/
def statsBytes (t : Nat) (x : Tdc) : List Byte :=
  le 2 t ++ le 1 x.startIn.toNat ++ le 1 x.stopIn.toNat ++ le 1 x.e ++ le 1 x.flags.toNat ++ zeros 2
    ++ le 4 x.index ++ le 4 x.used ++ le 4 x.orders ++ le 4 x.deads.toNat ++ leInt 8 x.min ++ leInt 8 x.max
    ++ leInt 8 x.sum ++ le 16 x.sumsq

/-- The TDCs of an item, ascending. -/
def itemTdcs (m : Msg) : List Nat := (List.range (pTdcCount m)).map (pTdcFirst m + ·)

/-- The end of a TDC item (R239, R240, R264): the statistics, the flush where it has written a record, the terminal
state. -/
def finishTdc (s : State) (slot : Nat) (reason : Option Nat) (extra : Nat) : State :=
  let m := (slotOf s slot).msg
  let ts := itemTdcs m
  let started := ts.any fun t => (tdcOf s t).item = some slot
  let s := if started then memWrite s (pStats m) (ts.flatMap fun t => statsBytes t (tdcOf s t)) else s
  let some_ := started && ts.any fun t => (tdcOf s t).index ≠ 0
  let s := if some_ then modQueue s 13 flushQueue else s
  let s := { s with tdcs := tmods {} s.tdcs ts fun _ x =>
    if x.item = some slot then { x with item := none, armed := false, closed := none } else x }
  endItem s slot reason fun l =>
    partialIf reason.isSome some_ (flagSlot extra { l with result := BitVec.ofNat 64 (pStats m) })

/-- Completes the measurement of a TDC whose two stamps are taken (R236, R238). -/
def endMeasurement (s : State) (slot t k : Nat) (a b : Int) : State :=
  let x := tdcOf s t
  let (iv, fl) := intervalOf (b - a) x.dead x.stepped
  let s := (queueWrite s 13 3 ((liveCount s).map fun _ => countAt s k)
    (tdcRecord (itemId s slot) t x.eSync x.index a iv fl)).1
  let s := modTdc s t fun x => closeMeasurement (countAt s k) (addStats x iv fl)
  let s := modSlot s slot fun l => { l with progress := l.progress + 1 }
  if (itemTdcs (slotOf s slot).msg).all fun t => (tdcOf s t).index = (tdcOf s t).series then finishTdc s slot none 0
  else s

/-- A dead-time edge (R234): counted, and flagged on the measurement in progress, or on the next one
(log 144). -/
def deadEdge (x : Tdc) : Tdc :=
  { x with deads := satInc x.deads, dead := x.dead || x.armed, deadNext := x.deadNext || ! x.armed }

/-- The stamp of a passed edge; one on an input already stamped is ignored (R235). -/
def stampEdge (x : Tdc) (toStop : Bool) (st : Int) (sync : Nat) : Tdc :=
  if toStop then (if x.eStamp.isSome then x else { x with eStamp := some st, eSync := sync })
  else (if x.sStamp.isSome then x else { x with sStamp := some st })

/-- An edge passes an input's prescaler, or is counted there (R234). -/
def prescale (x : Tdc) (second : Bool) (mark : Option Nat) : Tdc × Bool :=
  let pc := (if second then x.pcE else x.pcS) + 1
  let passed := 2 ^ x.e ≤ pc
  let pc := if passed then 0 else pc
  let x := if mark.isSome then { x with mark := mark } else x
  (if second then { x with pcE := pc } else { x with pcS := pc }, passed)

/-- TDC_EDGE (R232): an edge of the selected polarity arrives at an input and is sampled, at a tap, at a timing-clock
edge. The prescaler passes every 2^e-th (R234); a
passed edge less than 2.0 ns after the previous one (near) is counted as dead time; else it is stamped, where a
measurement is in progress. -/
def execTdcEdge (tdc : Nat) (stop : Bool) (sampled : EdgeAt) (near : Bool) (s : State) : Out :=
  let x := rearmed s sampled.cycle (tdcOf s tdc)
  let second := stop && ! oneInput x
  let input := if second then (tdcInputs x).2.toNat else (tdcInputs x).1.toNat
  if ¬ edgeComes s tdc x input sampled.cycle then .next s
  else
    let (x, passed) := prescale x second (if input = 0x0E then some (markNumber s sampled.cycle) else none)
    let s := modTdc s tdc fun _ => x
    match passed, near, x.item, x.armed with
    | false, _, _, _ => .next s
    | true, true, _, _ => .next (modTdc s tdc deadEdge)
    | true, false, some slot, true =>
      let y := stampEdge x (second || (oneInput x && x.sStamp.isSome)) (edgeStamp s tdc input sampled.cycle (sampled.tap % 256))
        (syncCode s.hw.status)
      let s := modTdc s tdc fun _ => y
      match y.sStamp, y.eStamp with
      | some a, some b => .next (endMeasurement s slot tdc sampled.cycle a b)
      | _, _ => .next s
    | true, false, _, _ => .next s

/-- The TDCs of an item that is dispatched: their inputs are latched and the statistics cleared; no measurement is armed
yet (R231, R238, Table 12.4). -/
def claimTdcs (s : State) (slot : Nat) : State :=
  let m := (slotOf s slot).msg
  { s with tdcs := tmods {} s.tdcs (itemTdcs m) fun _ x => { x with
      item := some slot, index := 0, series := pSeries m, used := 0, orders := 0, deads := 0, min := 0, max := 0
      sum := 0, sumsq := 0, flags := 0, startIn := x.start, stopIn := x.stop, sStamp := none, eStamp := none
      armed := false, closed := none, mark := none } }

/-- Arms measurement 0 on every claimed TDC (R238). -/
def startTdc (s : State) (slot : Nat) : State :=
  { s with tdcs := tmods {} s.tdcs (itemTdcs (slotOf s slot).msg) fun _ x => armMeasurement x }

/-- TDC_DISPATCH (R238). -/
def execTdcDispatch (slot : Nat) (s : State) : Out :=
  if canDispatch s slot .tdc then
    let (s, now) := armItem (claimTdcs (takeItem s slot) slot) slot
    .next (if now then startTdc s slot else s)
  else .next s

/-- The count restarts or jumps: a multiple that it reaches again is a mark again (Table 12.1). -/
def clearMarks (s : State) : State :=
  { s with tdcs := tmods {} s.tdcs (tkeys s.tdcs fun _ x => x.mark.isSome) fun _ x => { x with mark := none } }

/-- A step of the count between two stamps (R237). -/
def stepTdcs (s : State) : State :=
  { s with tdcs := tmods {} s.tdcs (tkeys s.tdcs fun _ x => x.item.isSome) fun _ x =>
      if x.sStamp.isSome ∨ x.eStamp.isSome then { x with stepped := true } else x }

end Sys2Proof.Machine
end

