-- ==== Sys2Proof/Machine/Stops.lean ====
section
/-! DEFINITION. How items stop, kind by kind, and the states the outputs go to: abort, time limit, CONTAINED and FATAL
faults, loss of the clock, entry to BYPASS (R46, R47, R61, R97, R109, R168, R350, R351, Tables 3.2, 5.10 and 10.7). -/

namespace Sys2Proof.Machine

/-! Outputs (Tables 4.1, 10.7). -/

/-- A channel in its unit safe state: driver off, disconnect and PMU switch open, released. -/
def safeChan (x : Chan) : Chan := { x with closed := false, armed := false, drvOn := false, pmuOn := false, released := true }

/-- A channel as in IDLE: driver off, disconnect and PMU switch open; the PMU no longer releases the termination, a Z
symbol in force does (R191). -/
def idleChan (x : Chan) : Chan :=
  { x with closed := false, armed := false, drvOn := false, pmuOn := false
           released := if x.pmuOn then x.last = 5 else x.released }

def allChans : List Nat := List.range 768
def pebChans (p : Nat) : List Nat := (List.range 64).map (64 * p + ·)

/-- The unit safe state of a unit (Table 10.7, R289, R302). -/
def unitSafeState (s : State) (u : Nat) : State :=
  if u < 12 then
    modPeb { s with chans := tmods {} s.chans (pebChans u) fun _ x => safeChan x } u fun p => { p with rest := .driversOff }
  else if 0x100 ≤ u ∧ u < 0x104 then dischargeGroup s (u - 0x100)
  else if 0x200 ≤ u ∧ u < 0x204 then
    { s with lanes := tmods {} s.lanes ((List.range 28).map (28 * (u - 0x200) + ·)) fun _ x => { x with tx := false } }
  else s

/-- Every output as in IDLE (Table 4.1). -/
def idleOutputs (s : State) : State :=
  (List.range 4).foldl dischargeGroup { s with
    chans := tmods {} s.chans (s.chans.map Prod.fst) fun _ x => idleChan x
    pebs := tmods {} s.pebs (s.pebs.map Prod.fst) fun _ x => { x with rest := .none }
    lanes := tmods {} s.lanes (s.lanes.map Prod.fst) fun _ x => { x with tx := false } }

/-- Every output as in SAFE (R351). -/
def safeOutputs (s : State) : State :=
  (List.range 4).foldl dischargeGroup { s with
    chans := tmods {} s.chans allChans fun _ x => safeChan x
    pebs := tmods {} s.pebs (List.range 12) fun _ x => { x with rest := .driversOff }
    lanes := tmods {} s.lanes (s.lanes.map Prod.fst) fun _ x => { x with tx := false } }

/-! Ends. -/

/-- Does the item's routine run on its sequencer? -/
def routineRuns (s : State) (slot : Nat) : Bool := (seqOf s (pMseq (slotOf s slot).msg)).item = some slot

/-- The routine whose item has ended under it stops with its sequencer. -/
def stopAdrift (s : State) (u : Nat) : State :=
  if 0x400 ≤ u ∧ (seqOf s (u - 0x400)).adrift then modSeq s (u - 0x400) idleSeq else s

/-- The end of a TRANSFER whose channel stops without write-back (R274). -/
def cutTransfer (s : State) (slot reason extra : Nat) : State :=
  endItem (stopDma s (pDma (slotOf s slot).msg)) slot (some reason) fun l =>
    partialIf true (l.progress ≠ 0) (flagSlot extra l)

/-- Ends an item in flight at once. rest: what the PEBs of a BURST play; dst: where a CAL item's unit goes. -/
def endNow (s : State) (slot reason extra : Nat) (rest : Nat → Rest) (dst : UState) : State :=
  match (slotOf s slot).kind with
  | some .burst => finishBurst s slot (some reason) rest extra
  | some .measure =>
    if routineRuns s slot then stopMeasure s (pMseq (slotOf s slot).msg) slot reason extra
    else endItem s slot (some reason) (flagSlot extra)
  | some .tdc => finishTdc s slot (some reason) extra
  | some .acquire => finishAcquire s slot (some reason) extra
  | some .transfer => cutTransfer s slot reason extra
  | some .cal => failCal s slot reason dst extra
  | some .levels => endItem s slot (some reason) (flagSlot extra)
  | some .dps =>
    let ns := dpsList (pDpsMask (slotOf s slot).msg)
    let s := finishDps s slot (some reason) extra
    if reason = rAbortedFault ∨ reason = rLedger then { s with dps := tmods {} s.dps ns fun _ d => dischargeDps d }
    else s
  | some .lane => finishLane s slot (some reason) extra
  | none => s

/-- An item's end at the entry to BYPASS or at a FATAL fault: a routine that runs is left to unwind (R220). -/
def endAway (s : State) (slot reason extra : Nat) (rest : Nat → Rest) (dst : UState) : State :=
  if (slotOf s slot).kind = some .measure ∧ routineRuns s slot then
    detachMeasure s (pMseq (slotOf s slot).msg) slot reason extra
  else endNow s slot reason extra rest dst

/-- A request to end a MEASURE item at its next safe point; one that has not begun ends at once (R220). -/
def askMeasure (s : State) (slot reason : Nat) : State :=
  if routineRuns s slot then requestMeasure s (pMseq (slotOf s slot).msg) slot reason
  else endItem s slot (some reason) id

/-- Records the first cause for a TRANSFER's descriptor boundary. -/
def markCause (s : State) (slot reason : Nat) : State :=
  modSlot s slot fun l => { l with cause := if l.cause.isNone then some (BitVec.ofNat 8 reason) else l.cause }

/-- The end of a QUEUED item; RESULT of a DPS item holds the outputs all the same (R112). -/
def endQueued (s : State) (slot reason extra : Nat) : State :=
  if (slotOf s slot).kind = some .dps then
    let (r, s) := dpsResult s (slotOf s slot).msg
    endItem s slot (some reason) fun l => flagSlot extra { l with result := r }
  else endItem s slot (some reason) (flagSlot extra)

/-- An abort by the host (R97): at once for a QUEUED item, else at the kind's stopping point. -/
def abortItem (s : State) (slot : Nat) : State :=
  let l := slotOf s slot
  if l.st = .queued then endQueued s slot rAbortedHost 0
  else
    match l.kind with
    | some .burst => abortBurst s slot rAbortedHost
    | some .measure => askMeasure s slot rAbortedHost
    | some .transfer => markCause s slot rAbortedHost
    | some .dps => abortDps s slot rAbortedHost
    | some .cal => failCal s slot rAbortedHost (afterStop s (pUnit l.msg)) 0
    | _ => endNow s slot rAbortedHost 0 (fun _ => .background) .offline

/-- ITEM_TIME_LIMIT (R109): TIME_LIMIT excludes time spent HELD. -/
def execItemTimeLimit (slot : Nat) (s : State) : Out :=
  let l := slotOf s slot
  if l.st = .inFlight ∧ pTimeLimit l.msg ≠ 0 then
    match l.kind with
    | some .measure => .next (askMeasure s slot rTimeout)
    | some .tdc => .next (finishTdc s slot (some rTimeout) 0)
    | some .acquire => .next (finishAcquire s slot (some rTimeout) 0)
    | some .lane => .next (finishLane s slot (some rTimeout) 0)
    | _ => .next s
  else .next s

/-! CONTAINED faults in a unit (R350, Table 19.2). -/

/-- A CONTAINED fault of a PEB meets a BURST: the PEB plays no more, and its results of the segment in play are not
counted; the others play to the segment's end, and the BURST ends there (R168, R251; log 142). Where no other PEB is
left, or play stands at a boundary or has not begun, it ends at once. -/
def faultBurst (s : State) (u slot : Nat) : State :=
  let s := modBurst s slot fun b => { b with
    faulty := if u < 12 then putBit b.faulty u true else b.faulty
    faultTo := if b.faulty = 0 then b.segStart else b.faultTo }
  if livePebs (burstOf s slot) = [] then finishBurst s slot (some rAbortedFault) (fun _ => .driversOff) 0
  else abortBurst s slot rAbortedFault

/-- The end of one item that touches a unit at fault. -/
def faultItem (s : State) (u slot : Nat) : State :=
  let l := slotOf s slot
  match l.kind with
  | some .measure =>
    if unitSeq (pMseq l.msg) = u then endNow s slot rAbortedFault 0 (fun _ => .background) .offline
    else askMeasure s slot rAbortedFault
  | some .burst => faultBurst s u slot
  | some .cal =>
    if pUnit l.msg = u then failCal s slot rAbortedFault .offline 0
    else
      let s := if (heldUnits s l).contains u then setUnit s u .offline false else s
      failCal s slot rAbortedFault (afterStop s (pUnit l.msg)) 0
  | _ => endNow s slot rAbortedFault 0 (fun p => if p = u then .driversOff else .background) .offline

/-- The slots in flight that p holds of, in slot-write order. -/
def flyingSlots (s : State) (p : Slot → Bool) : List Nat := slotsInOrder s fun l => inFlight l && p l

/-- Does a request concern a unit (Table 6.15)? -/
def onUnit (op u : Nat) (q : Msg) : Bool := isOp op q && Msg.field q 16 2 = u

/-- An OPC_UNIT_MAINTAIN whose unit goes OFFLINE on the way is answered REFUSED_BUSY (R374). -/
def refuseMaintain (s : State) (u : Nat) : State := answerOwed s (onUnit 0x0601 u) fun q => refusal s q 0x17 0xFFFF

/-- A unit goes OFFLINE by a fault: its items in flight end, it takes its safe state, and no one holds it (R17, R350,
R358, R375). Queued items that claim it wait; CALIBRATE does not wait for them (log 40). -/
def containUnit (s : State) (u : Nat) : State :=
  let ss := flyingSlots s fun l => (touchedUnits s l).contains u
  let s := stopAdrift (unitSafeState s u) u
  let s := setUnit (ss.foldl (fun s i => if inFlight (slotOf s i) then faultItem s u i else s) s) u .offline false
  let s := modUnit s u fun v => { v with holder := .none, lossOff := false, faulted := true }
  settleCal (refuseMaintain (unitSafeState s u) u)

/-! OPC_SYNC_MEASURE (R53, R54, R331). -/

/-- Does an exchange of a port still run: it is measured, short of its count, and not cut off? -/
def measuring (s : State) (p : Nat) : Bool :=
  s.fabric.measMask.getLsbD p && (portOf s p).xDone < s.fabric.measN
    && (portUp (portOf s p) || (portOf s p).st = .training)

/-- The 16 bytes of a port's report: means rounded to nearest, and the spread of the offsets (log 51). -/
def measReport (q : PortState) : List Byte :=
  if q.xDone = 0 then zeros 16
  else leInt 4 (roundDiv q.xSum (2 * q.xDone)) ++ leInt 4 (roundDiv q.xDelay (2 * q.xDone))
    ++ leInt 4 (roundDiv (q.xMax - q.xMin) 2) ++ le 4 q.xDone

/-- The hop delay of chain mode: the measured link delay of a port and the fixed difference (R54). -/
def hopOf (q : PortState) : BitVec 32 :=
  if q.xDone = 0 then 0 else BitVec.ofInt 32 (roundDiv q.xDelay (2 * q.xDone) + Config.hopFixed)

/-- The request of an opcode that waits for its response. -/
def owedReq (s : State) (op : Nat) : Option Msg :=
  ([0, 1, 2, 3].flatMap fun n => (mbOf s n).owed).findSome? fun o =>
    if o.ready.isNone && isOp op o.req then some o.req else none

/-- Once no exchange runs, the entries of the ports named are written, the others left as they are (R106), and DONE is
posted; a chain slave takes its hop delay. -/
def settleMeasure (s : State) : State :=
  if s.fabric.measN = 0 ∨ (List.range 4).any (measuring s) then s
  else
    let ps := (List.range 4).filter fun p => s.fabric.measMask.getLsbD p
    let hop := if s.hw.syncMode = 2 ∧ s.fabric.measMask.getLsbD s.hw.upstream ∧ (portOf s s.hw.upstream).xDone ≠ 0
      then hopOf (portOf s s.hw.upstream) else s.hw.hopDelay
    let s := { s with
      hw := { s.hw with hopDelay := hop }
      fabric := { s.fabric with measN := 0, measMask := 0 } }
    match owedReq s 0x0205 with
    | some q =>
      let s := ps.foldl (fun s p => memWrite s (Msg.field q 16 8 + 16 * p) (measReport (portOf s p))) s
      answerOwed s (isOp 0x0205) fun q => doneResp s q 0 []
    | none => s

/-! The Ford (R25, R325, R326). -/

/-- A port whose Ford is closed: isolated, with nothing held and no neighbour. -/
def closedPort (q : PortState) : PortState :=
  { drop := q.drop, retries := q.retries, xDone := q.xDone, xSum := q.xSum, xMin := q.xMin, xMax := q.xMax
    xDelay := q.xDelay }

/-- A port closes with the Ford: its unit's change is noticed whoever was training it (R327). -/
def closePort (s : State) (p : Nat) : State :=
  let old := portUnit (portOf s p)
  let s := modPort s p closedPort
  unitNotice s (unitPort p) old (portUnit (portOf s p))

/-- The Ford closes at once: what the device held is in its neighbours' replay buffers. -/
def closeFord (s : State) : State :=
  if s.power.fordClosed then s
  else
    let draining := s.power.fordDrain
    let s := { s with power := { s.power with fordClosed := true, fordDrain := false } }
    let s := settleMeasure ((List.range 4).foldl closePort s)
    if draining then answerOwed s (isOp 0x0007) fun q => doneResp s q 0 [] else s

/-- A port begins to train (R309). -/
def trainPort (q : PortState) : PortState := { q with st := .training, full := false, lanes := 0 }

/-- The Ford opens, and each of the four ports goes on as f has it. The first opening after a reset changes no calibrated
path; a later one sets SYNC_DEGRADED (R55; log 34). -/
def openFordWith (s : State) (f : PortState → PortState) : State :=
  if s.power.fordClosed then
    let again := s.power.fordOpened
    let s := { s with power := { s.power with fordClosed := false, fordOpened := true } }
    let s := (List.range 4).foldl (fun s p => changePort s p f) s
    if again then changeClock s fun s => { s with clock := { s.clock with syncDegraded := true } } else s
  else s

/-- The Ford opens and the four ports train (Table 17.5). -/
def openFord (s : State) : State := openFordWith s trainPort

/-- Is the Ford to be open: PD4 on, FORD_CLOSE_N high, CALIBRATE or a later mode but BYPASS, and SAFE as it was, no bypass
pending (Table 17.5)? -/
def fordMayOpen (s : State) : Bool :=
  s.power.pdOn.getLsbD 4 && ! s.power.fordPinLow && ! s.power.bypassPend
    && (match s.dev.mode with
      | .calibrate | .idle | .armed | .run | .pause | .service | .diagnostic => true
      | _ => false)

/-- Spabry opens the Ford where Table 17.5 has it open. -/
def settleFord (s : State) : State := if fordMayOpen s then openFord s else s

/-! BYPASS (R61). -/

/-- One item's end at entry to BYPASS. A TRANSFER ends at its descriptor's boundary, or with DMA_STOP_WAIT_END. -/
def bypassItem (s : State) (slot : Nat) : State :=
  let l := slotOf s slot
  if l.st = .queued then endQueued s slot rAbortedHost fFord
  else if l.kind = some .transfer then modSlot (markCause s slot rAbortedHost) slot (flagSlot fFord)
  else if inFlight l then endAway s slot rAbortedHost fFord (fun _ => .none) (afterStop s (pUnit l.msg))
  else s

/-- Requests whose mode change can no longer come are answered REFUSED_MODE (R59; log 32). -/
def refuseWaiting (s : State) (ops : List Nat) (mode : Nat) : State :=
  ops.foldl (fun s op => answerEvery s (isOp op) fun s q => refusal s q 0x11 mode) s

/-- Entry to BYPASS but for the Ford: every non-terminal item ends, the outputs go to their IDLE states. -/
def endForBypass (s : State) : State :=
  let s := setMode s .bypass
  let s := { s with
    power := { s.power with bypassPend := false }
    dev := { s.dev with pauseReq := false, disarming := false, testing := false, armedSched := none } }
  let s := (slotsInOrder s openSlot).foldl bypassItem s
  let s := { s with dev := { s.dev with armedMap := [], siteEnable := 0 } }
  refuseWaiting (idleOutputs s) [0x0004, 0x0005] 11

/-- Entry to BYPASS with the Ford closed at once. -/
def enterBypass (s : State) : State := endForBypass (closeFord s)

/-- An entry to IDLE with the switches held closed on the host's word goes on to BYPASS (R61, R117). -/
def settleBypass (s : State) : State := if s.dev.mode = .idle ∧ s.power.bypassPend then enterBypass s else s

/-! FATAL (R100, R351). -/

/-- One item's end at a FATAL fault (log 35). -/
def safeItem (s : State) (slot : Nat) : State :=
  let l := slotOf s slot
  if l.st = .queued then endQueued s slot rAbortedFault 0
  else if inFlight l then endAway s slot rAbortedFault 0 (fun _ => .driversOff) .offline
  else s

/-- Every unit but the ports is OFFLINE in SAFE (R63). -/
def unitsOffline (s : State) : State :=
  allUnits.foldl (fun s u =>
    modUnit (setUnit s u .offline false) u fun v => { v with holder := .none, toOff := false, lossOff := false }) s

/-- The device safe state. The Cellar stops for an event in region CELLAR. A request that waits for what SAFE rules out
is answered; OPC_SERVICE_BEGIN is not (R123; log 32). What SERVICE has held back is posted, while the Cellar runs (R99). -/
def enterSafe (s : State) (cellar : Bool) : State :=
  let s := if cellar then { s with levee := { s.levee with cellarOk := false } } else s
  if s.dev.mode = .safe ∨ s.dev.mode = .off then s
  else
    let held := s.svc.notices
    let s := setMode (safeOutputs s) .safe
    let s := { s with
      dev := { s.dev with pauseReq := false, pauseOver := false, disarming := false, testing := false }
      levee := { s.levee with dogRun := s.levee.dogRun || s.levee.dogSvc, dogSvc := false }
      power := { s.power with
        fordDrain := false, pdOffOrd := 0
        pdBusy := s.power.pdBusy &&& ~~~(s.power.pdOffOrd &&& ~~~s.power.pdOnOrd) }
      svc := {}
      mbs := s.mbs.map fun e => (e.1, { e.2 with owed := e.2.owed.filter fun o =>
        ! (o.ready.isNone && isOp 0x0901 o.req) }) }
    let s := if spabryUp s then
        retireOwn (postHeld ([0, 1, 2, 3].foldl (fun s n => flushOwed ((mbOf s n).owed.length) s n) s) held)
      else s
    let s := (slotsInOrder s openSlot).foldl safeItem s
    let s := unitsOffline (selfRefresh { s with resvs := [] })
    let s := answerEvery s (isOp 0x0601) fun s q => refusal s q 0x17 0xFFFF
    refuseWaiting s [0x0002, 0x0004, 0x0005, 0x0007, 0x0008] 10

/-! Loss of the clock (R46, R47, Table 3.2). -/

/-- One item in flight at a loss of reference or lock. A LEVELS item that waits for TRIG_IN is not Headwater-timed and
goes on to its end (log 36). -/
def clockItem (s : State) (slot : Nat) : State :=
  let l := slotOf s slot
  match l.kind with
  | some .burst => finishBurst (clockRecord s slot) slot (some rClock) (fun _ => .driversOff) 0
  | some .levels => if pStrobe l.msg = 0 then endItem s slot (some rClock) id else s
  | some .measure => modSlot s slot (flagSlot fClkByp)
  | some .dps => modSlot s slot (flagSlot fClkByp)
  | some .transfer => s
  | some .cal =>
    failCal s slot rClock (if clockedUnit (pUnit l.msg) then .offline else afterStop s (pUnit l.msg)) 0
  | _ => endNow s slot rClock 0 (fun _ => .driversOff) .offline

/-- The units that a loss takes OFFLINE, which the relock returns (R46, R49); one that has not been calibrated since its
domain came on stays OFFLINE (R411). -/
def clockUnits (s : State) : State :=
  (allUnits.filter clockedUnit).foldl (fun s u =>
    if unitState s u = .offline then s
    else
      let s := setUnit s u .offline false
      let s := modUnit s u fun v => { v with holder := .none, lossOff := ! v.fresh }
      refuseMaintain s u) s

/-- Channels of PEBs that were playing: driver off (R46). -/
def clockPins (s : State) : State :=
  let ps := (List.range 12).filter fun p =>
    (pebOf s p).rest ≠ .none || s.bursts.any fun e => e.2.pebs.getLsbD p
  ps.foldl (fun s p =>
    modPeb { s with chans := tmods {} s.chans (pebChans p) fun _ x => { x with drvOn := false } } p
      fun x => { x with rest := .driversOff }) s

end Sys2Proof.Machine
end

