-- ==== Sys2Proof/Machine/Levee.lean ====
section
/-! DEFINITION. Levee: detectors, regions, classification, the reaction shadow, the event log, injection, and the
CONTAINED reactions (chapter 19). -/

namespace Sys2Proof.Machine

/-! Detectors and regions (Tables 19.2, 19.3). -/

def domOn (s : State) (pd : Nat) : Bool := s.power.pdOn.getLsbD pd

/-- Is a rail's domain on? VDD_IO and VDD_AON feed domains that are always on (R353; log 37). Rails are numbered in the
order of housekeeping slots 11 to 25. -/
def railFeeds (s : State) (r : Nat) : Bool :=
  if r = 4 then (1 :: 13 :: 30 :: 31 :: (List.range 12).map (14 + ·) ++ (List.range 4).map (26 + ·)).any (domOn s)
  else if r = 7 ∨ r = 8 then domOn s 11 else true

/-- Base class and regions of the events of a RAIL detection (R353). -/
def railEvents (s : State) (r : Nat) : Nat × List Nat :=
  if r = 5 ∨ r = 6 then (1, (List.range 12).filter fun p => domOn s (14 + p))
  else if r = 9 ∨ r = 10 then
    (1, (((List.range 4).filter fun g => domOn s (5 + g)).map unitLg)
      ++ (if domOn s 4 then (List.range 4).map unitPort else []))
  else if 11 ≤ r then (1, if domOn s (26 + (r - 11)) then [unitDps (r - 11)] else [])
  else (2, if railFeeds s r then [0x0808] else [])

/-- Regions in which CAL_FAIL arises: the units that are calibrated, in the order of their codes (R355). -/
def calUnits : List Nat := List.range 12 ++ (List.range 4).map unitDps ++ (List.range 4).map unitLg ++ [unitTdc]

/-- Base class and regions of a detector; none for a code that Table 19.3 does not hold. -/
def detInfo (s : State) (det detail : Nat) (uncorr : Bool) : Option (Nat × List Nat) :=
  let i := det % 256
  let ecc (top : Nat) : Nat := if uncorr then top else 0
  let one (n base region : Nat) : Option (Nat × List Nat) := if i < n then some (base, [region]) else none
  match det / 256 with
  | 0x01 => one 4 (ecc 2) 0x0800
  | 0x02 => one 1 2 0x0800
  | 0x03 => one 2 2 0x0800
  | 0x04 => one 1 (ecc 1) 0x0801
  | 0x05 => one 8 (ecc 1) 0x0802
  | 0x06 => one 2 (ecc 1) 0x0803
  | 0x07 => one 16 (ecc 1) (0x0400 + i)
  | 0x08 => one 14 (if bitOf detail 31 then 1 else ecc 1) (0x0900 + i)
  | 0x09 => one 1 (ecc 1) 0x0804
  | 0x0A => one 4 (ecc 1) (0x0500 + i)
  | 0x10 => one 12 1 i
  | 0x11 => one 17 1 (if i < 12 then i else if i < 16 then unitDps (i - 12) else unitTdc)
  | 0x20 => one 96 1 (i / 8)
  | 0x21 => one 12 1 i
  | 0x22 => one 4 1 (unitDps i)
  | 0x23 => one 4 1 (unitDps i)
  | 0x24 => one 192 1 unitTdc
  | 0x25 => one 4 1 (unitLg i)
  | 0x26 => if i = 0 then some (1, calUnits) else none
  | 0x30 => one 1 2 0x0806
  | 0x31 => one 1 2 0x0806
  | 0x32 => if i < 15 then some (railEvents s i) else none
  | 0x33 => one 1 1 0x0805
  | 0x34 => one 4 2 0x0807
  | 0x35 => one 8 0 0x0807
  | 0x36 => one 1 2 0x0809
  | 0x3E => one 1 3 0x0809
  | 0x3F => one 3 3 0x0806
  | _ => none

/-- The domain in which a detector watches a region, where it can be off (Table 2.6, R211, R354). The watchdogs are
Levee's own. -/
def detDomain (det region : Nat) : Option Nat :=
  if region < 0x400 ∨ region / 256 = 5 then unitDomain region
  else if region / 256 = 4 ∨ (region = 0x0800 ∧ det / 256 ≠ 3) then some 3
  else if region / 256 = 9 then some 12
  else if region = 0x0802 then some 11
  else if region = 0x0803 then some (9 + det % 256)
  else if region = 0x0804 then some 12
  else if region = 0x0805 then some 31
  else none

/-- Is the detector enabled: its supervision control, if it has one (Table 19.9)? -/
def detEnabled (s : State) (det : Nat) : Bool :=
  match det / 256 with
  | 0x20 => s.levee.ctrl.getLsbD 0
  | 0x21 => s.levee.ctrl.getLsbD 1
  | 0x22 => s.levee.ctrl.getLsbD 2
  | 0x25 => s.levee.ctrl.getLsbD 3
  | _ => true

/-- Does the detector watch at all: enabled, and its domain on? A stop of the timing clock is no loss of a delay line's
lock (R233). -/
def detWatches (s : State) (det region : Nat) : Bool :=
  detEnabled s det && (det / 256 ≠ 0x24 || s.clock.locked) && (match detDomain det region with | some pd => domOn s pd | none => true)

/-- The regions whose CONTAINED reaction is FATAL (Table 19.2). -/
def fatalRegion (r : Nat) : Bool := r = 0x0800 || r = 0x0806 || r = 0x0808 || r = 0x0809

/-! Classification (R355 to R358). -/

/-- One event. -/
structure Event where
  det      : Nat
  region   : Nat
  base     : Nat
  detail   : Nat
  uncorr   : Bool := false
  spabry   : Bool := false
  injected : Bool := false
  real     : Bool := false
  ns       : Nat := 0
deriving DecidableEq, Repr

/-- The first open shadow that covers a region. -/
def shadowOver (s : State) (region : Nat) : Option Shadow :=
  s.levee.shadows.find? fun h => match h.region with
    | some r => r.toNat = region
    | none => true

/-- The earliest record against which an event of a base class escalates (R357). -/
def escalator (s : State) (region base : Nat) : Option (BitVec 16) :=
  ((openRecords s).find? fun r => r.region.toNat = region && r.cls = base && ! rehearsal r).map (·.index)

/-- Applied class, LINK and ESCALATED. THERMAL, REAL and UNCLASSED events are exempt from the shadow. The shadow of a lost
event has no record that LINK could name (log 157). -/
def classify (s : State) (e : Event) : Nat × Option (BitVec 16) × Bool :=
  let shadow := if e.base = 3 ∨ e.det / 256 = 0x34 ∨ e.real then none else shadowOver s e.region
  match shadow with
  | some h => (4, if h.logged then some h.index else none, false)
  | none =>
    let top (c : Nat) : Nat := if c = 1 ∧ fatalRegion e.region then 2 else c
    if e.base = 1 ∨ (e.base = 0 ∧ ¬ fatalRegion e.region) then
      match escalator s e.region e.base with
      | some i => (top (e.base + 1), some i, true)
      | none => (top e.base, none, false)
    else (e.base, none, false)

/-! The log (R361). -/

/-- Is the event recorded: free entries as R361 asks? -/
def recordable (s : State) (cls : Nat) (real : Bool) : Bool :=
  let free := 512 - unacked s
  17 ≤ free || (0 < free && (cls = 1 || cls = 2 || real))

/-- An event that is not recorded counts in LOST. -/
def loseEvent (s : State) : State :=
  { s with levee := { s.levee with
      lost := if s.levee.lost = BitVec.allOnes 16 then s.levee.lost else s.levee.lost + 1, ovf := true } }

/-- OPC_EVENT_NOTICE (Table 6.18): CORRECTED under bit 0, CONTAINED and FATAL under bit 1. -/
def eventNotice (s : State) (r : EvRec) : State :=
  let fields := [(16, 2, r.index.toNat), (18, 1, r.cls), (20, 2, r.det.toNat), (22, 2, r.region.toNat),
    (24, 8, r.time.toNat)]
  if r.cls = 0 then deviceNotice s 0 0x0F03 16 fields
  else if r.cls = 1 ∨ r.cls = 2 then deviceNotice s 1 0x0F03 16 fields
  else s

/-- Writes a record. -/
def writeRecord (s : State) (e : Event) (cls : Nat) (link : Option (BitVec 16)) (esc : Bool) : State :=
  let flags := b2n esc + 2 * b2n e.injected + 4 * b2n e.real + 8 * b2n link.isSome + 16 * b2n s.levee.ovf
    + 32 * b2n e.spabry + 64 * b2n e.uncorr + 256 * syncCode s.hw.status
  let r : EvRec :=
    { index := s.levee.head, cls := cls, base := e.base, det := BitVec.ofNat 16 e.det
      region := BitVec.ofNat 16 e.region, time := stamp s, flags := BitVec.ofNat 16 flags, link := link.getD 0
      detail := BitVec.ofNat 32 e.detail, ns := if cls = 1 ∨ cls = 2 then e.ns % 2 ^ 32 else 0 }
  let s := { s with levee := { s.levee with
      log := tset {} s.levee.log (s.levee.head.toNat % 512) r, head := s.levee.head + 1, ovf := false } }
  eventNotice s r

/-! CONTAINED reactions of the shared blocks and the queues (Table 19.2). -/

/-- A queue reset (R267): a descriptor in progress on it ends QRESET, and the items that write into it end, a BURST at the
end of the segment in play (R97, R168). -/
def resetQueue (s : State) (q : Nat) : State :=
  let s := modQueue s q fun _ => emptyQueue
  let cs := (List.range 16).filter fun c =>
    (dmaOf s c).phase = .moving && dmaQsrc (dmaOf s c) && dmaQueue (dmaOf s c) = q
  let s := cs.foldl (fun s c => settleDma (failDma s c 4) c) s
  let ss := flyingSlots s fun l =>
    if q < 12 then l.kind = some .burst && (pebsOfSites s (pSites l.msg)).contains q
    else if q = 12 then l.kind = some .dps else l.kind = some .tdc
  ss.foldl (fun s i => if q < 12 then abortBurst s i rAbortedFault
    else endNow s i rAbortedFault 0 (fun _ => .background) .offline) s

/-- The replacement record of a slot (R101). -/
def ledgerRecord (t : Count) (l : Slot) : Slot :=
  { gen := l.gen, kind := l.kind, st := .failed, reason := BitVec.ofNat 8 rLedger, mailbox := l.mailbox, tag := l.tag,
    node := l.node, tEnd := t, order := l.order }

/-- An uncorrectable error in a slot (R101). An item that ends by it has its notice with the replacement record. -/
def ledgerError (s : State) (slot : Nat) : State :=
  let l := slotOf s slot
  if l.st = .free then s
  else
    let s := if l.own ∧ openSlot l then modUnit s (pUnit l.msg) fun v => { v with marked := false } else s
    let s := modSlot s slot fun x => { x with own := false, msg := putBit x.msg 17 false }
    let s := if l.st = .queued then endItem s slot (some rLedger) id
      else if inFlight l then
        endNow s slot rLedger 0 (fun _ => .background) (afterStop s (pUnit l.msg))
      else s
    let t := stamp s
    let s := modSlot s slot (ledgerRecord t)
    if l.own then retireSlot s slot
    else if openSlot l ∧ (Msg.field l.msg 2 2).testBit 1 then
      notice s l.mailbox l.node.toNat (cameByFabric l.msg) 0x0F01 l.tag.toNat (itemId s slot) 48 (recordFields s slot 16)
    else s

/-- Does an access of n bytes at an address meet a page? -/
def inPage (page a n : Nat) : Bool := a / 65536 ≤ page && page ≤ (a + n - 1) / 65536 && n ≠ 0

/-- The items with an access to a page outstanding. -/
def pageReaders (s : State) (page : Nat) : List Nat :=
  let dma := (List.range 16).filterMap fun c =>
    let d := dmaOf s c
    if (d.phase = .fetching && inPage page d.addr 64)
        || (d.phase = .moving && ! dmaQsrc d && inPage page (addr41 d.src) d.total) then d.item else none
  dma ++ tkeys s.bursts fun _ b => b.issued.any fun k =>
    let a := sliceAddr (burstImg s b) (schedOf s b.sched).addr k
    inPage page a.1 a.2

/-- Is a byte of local memory written since training (R409)? -/
def writtenAt (s : State) (l : Nat) : Bool := tget false s.mem.written (l / 65536)

/-- Does a page read as zero throughout, with no ECC event (R409)? It may lie across two pages of local memory. -/
def pageSilent (s : State) (page : Nat) : Bool :=
  match tget 0 s.cfg.homes page with
  | 0 => false
  | o + 1 => ! writtenAt s o && ! writtenAt s (o + 65535)

/-- An error of local memory (Table 19.2): the event names the page, not the word nor the item, so both are free
values; an uncorrectable word is poisoned. -/
def memoryError (s : State) (page : Nat) (uncorr : Bool) : State :=
  let (w, s) := takeFree s 8192
  let s := match tget 0 s.cfg.homes page with
    | 0 => s
    | o + 1 =>
      if uncorr ∧ writtenAt s (o + 8 * w) then { s with levee := { s.levee with poison := ((o / 8 + w) :: s.levee.poison).dedup } } else s
  let rs := pageReaders s page
  let (k, s) := takeFree s (rs.length + 1)
  match rs[k]? with
  | some i =>
    if (slotOf s i).kind = some .transfer then cutTransfer s i rAbortedFault 0 else abortBurst s i rAbortedFault
  | none => s

/-- A BURST without the piece of its data, streamed or pinned, that lay in an invalidated line of the cache. -/
def invalidate (n : Nat) (b : Burst) : Burst :=
  if n < b.cache.length then { b with cache := b.cache.eraseIdx n }
  else { b with pinned := b.pinned.eraseIdx (n - b.cache.length) }

/-- An error of the segment cache: a BURST with data in the affected line ends, and the line is invalidated. Which BURSTs
those are, and which of their data the line held, is not stated: free choices. Play goes on to the end of the segment
(R168; log 38). -/
def cacheError (s : State) : State :=
  (tkeys s.bursts fun _ b => b.cache ≠ [] || b.pinned ≠ []).foldl (fun s i =>
    let b := burstOf s i
    let (k, s) := takeFree s (b.cache.length + b.pinned.length + 1)
    match k with
    | 0 => s
    | n + 1 =>
      if inFlight (slotOf s i) then abortBurst (modBurst s i (invalidate n)) i rAbortedFault else s) s

/-- An error of the shared DMA buffer (R274): the channel that holds the block. -/
def bufferError (s : State) (detail : Nat) : State :=
  if bitOf detail 20 then
    match (dmaOf s (bitsOf detail 19 16)).item with
    | some i => cutTransfer s i rAbortedFault 0
    | none => s
  else s

/-- The reference is outside 0.1 %: CAL items in flight end, and Press waits (Table 19.2). -/
def referenceError (s : State) : State :=
  let s := { s with house := { s.house with refWait := some 0 } }
  (flyingSlots s fun l => l.kind = some .cal).foldl (fun s i =>
    failCal s i rAbortedFault (afterStop s (pUnit (slotOf s i).msg)) 0) s

/-- A port goes DOWN; its packets are held (R311). -/
def portDown (s : State) (p : Nat) : State :=
  if (portOf s p).st = .bypassed then s
  else
    settleCopies (settleMeasure (reroute (changePort s p fun q =>
      { q with st := .down, lanes := 0, full := false, byHost := false }) p))

/-- The CONTAINED reaction of a region. -/
def reactContained (s : State) (e : Event) : State :=
  let r := e.region
  if r < 0x500 then containUnit s r
  else if r / 256 = 5 then portDown s (r % 256)
  else if r / 256 = 9 then resetQueue s (r % 256)
  else if r = 0x0801 then ledgerError s (e.detail % 2048)
  else if r = 0x0802 then memoryError s (e.detail % 2 ^ 25) e.uncorr
  else if r = 0x0803 then cacheError s
  else if r = 0x0804 then bufferError s e.detail
  else if r = 0x0805 then referenceError s
  else s

/-! Detection. -/

/-- The latch of a detector instance for a region, while its record is unacknowledged (R354). -/
def latchOf (s : State) (det region : Nat) : Option (BitVec 16) :=
  (s.levee.latches.find? fun l => l.det.toNat = det && l.region.toNat = region && isUnacked s l.index).map (·.index)

/-- A further detection of a latched instance adds to REPEATS. -/
def repeatRecord (s : State) (i : BitVec 16) : State :=
  { s with levee := { s.levee with log := tmod {} s.levee.log (i.toNat % 512) fun r =>
      { r with repeats := if r.repeats = BitVec.allOnes 32 then r.repeats else r.repeats + 1 } } }

/-- Records an event and opens its shadow; an event that finds no room counts in LOST, and its reaction still runs
(R361). -/
def logEvent (s : State) (e : Event) (cls : Nat) (link : Option (BitVec 16)) (esc : Bool) : State :=
  let i := s.levee.head
  let kept := recordable s cls e.real
  let s := if kept then
      let s := writeRecord s e cls link esc
      { s with levee := { s.levee with latches :=
          (s.levee.latches.filter fun l => ! (l.det.toNat = e.det && l.region.toNat = e.region))
            ++ [{ det := BitVec.ofNat 16 e.det, region := BitVec.ofNat 16 e.region, index := i }] } }
    else loseEvent s
  if cls = 1 ∨ cls = 2 then
    { s with levee := { s.levee with
        thermLost := s.levee.thermLost || (! kept && cls = 1 && e.region = 0x0807)
        shadows := s.levee.shadows
          ++ [{ index := i, region := if cls = 2 then none else some (BitVec.ofNat 16 e.region), logged := kept }] } }
  else s

/-- One event: a latched instance repeats its record; else it is classified, recorded and reacted to. A FATAL event in
region CELLAR halts the Cellar first, so that it posts no notice. -/
def raise (s : State) (e : Event) : State :=
  match latchOf s e.det e.region with
  | some i => repeatRecord s i
  | none =>
    let (cls, link, esc) := classify s e
    let halts := cls = 2 ∧ e.region = 0x0800
    let s := if halts then { s with levee := { s.levee with cellarOk := false } } else s
    let s := logEvent s e cls link esc
    if cls = 2 then enterSafe s (e.region = 0x0800)
    else if cls = 1 then settleBypass (reactContained s e)
    else s

/-- Is a detection masked: of a page that reads as zero (R409); of a DPS output that is not enabled, or whose limit or
headroom acts; of a transmitter that is not in electrical idle (R352); of a DAC read in its band (R197)? -/
def detMasked (s : State) (det region detail read : Nat) : Bool :=
  (region = 0x0802 && pageSilent s (detail % 2 ^ 25))
    || (det / 256 = 0x22 && (! (dpsOf s detail).enabled || (dpsOf s detail).limitOn || (dpsOf s detail).dropout))
    || (det / 256 = 0x25 && (laneOf s detail).tx && unitState s (unitLg (detail / 28)) = .active)
    || (det / 256 = 0x20 && readInBand s (det % 256) detail read)

/-- The regions in which a detection raises an event: that of a rail that feeds units, every one of them that is on, in
the order of their codes (R353, R355). -/
def eventRegions (det region : Nat) (rs : List Nat) : List Nat := if det / 256 = 0x32 then rs else [region]

/-- A detection by a detector that watches the region. During an injection into the instance it is REAL (R360). read is
what a monitoring converter read. -/
def detect (s : State) (det region detail read : Nat) (uncorr spabry : Bool) (ns : Nat) : State :=
  match detInfo s det detail uncorr with
  | some (base, rs) =>
    if rs.contains region ∧ detWatches s det region ∧ ¬ detMasked s det region detail read then
      let inj := match s.levee.inject with | some x => x.det.toNat = det | none => false
      let s := if inj then { s with levee := { s.levee with inject := s.levee.inject.map fun x => { x with raw := true } } }
        else s
      (eventRegions det region rs).foldl (fun s r => raise s
        { det := det, region := r, base := base, detail := detail, uncorr := uncorr, spabry := spabry,
          injected := inj, real := inj, ns := ns }) s
    else s
  | none => s

/-- LEVEE_DETECTION (R355). Levee watches from the release of power-on reset; a warm reset that is held prevails over
what a detection would do (R60). -/
def execLeveeDetection (detector region : BitVec 16) (detail : Detail) (uncorrectable : Bool)
    (reactionNs : Nat) (s : State) : Out :=
  if inReset s then .next s
  else .next (detect s detector.toNat region.toNat detail.word.toNat detail.read uncorrectable (detector = 0x3403#16) reactionNs)

/-- REACTION_SHADOW_CLOSE (R356): the shadow that an originating record opened closes. Shadows close in the order they
opened: of two with one index, the first is that of a lost event (log 157). -/
def execReactionShadowClose (index : BitVec 16) (s : State) : Out :=
  .next { s with levee := { s.levee with shadows := s.levee.shadows.eraseP fun h => h.index = index } }

/-- A detection that the device raises by itself, its reaction time a free value (log 13). -/
def detectOwn (s : State) (det region detail : Nat) (spabry : Bool) : State :=
  let (ns, s) := takeFree s (2 ^ 32)
  detect s det region detail 0 false spabry ns

/-- A DETAIL that Table 19.3 allows a detector, made from a free value; a QUEUE event of base CORRECTED is no pointer
mismatch. -/
def allowedDetail (det x : Nat) : Nat :=
  let i := det % 256
  match det / 256 with
  | 0x02 | 0x03 | 0x0A | 0x24 | 0x30 | 0x31 | 0x36 => 0
  | 0x04 => x % 2048
  | 0x05 => x % 2 ^ 25
  | 0x08 => x % 2 ^ 31
  | 0x09 => x % 256 + x / 256 % 32 * 2 ^ 16
  | 0x20 => 8 * i + x % 8 + [0, 1, 2, 3, 4, 5, 6, 8, 9].getD (x / 8 % 9) 0 * 2 ^ 16
  | 0x21 => 64 * i + x % 64 + x / 64 % 3 * 2 ^ 16
  | 0x22 => 12 * i + x % 12
  | 0x25 => 28 * i + x % 28
  | 0x26 => x % 7
  | 0x35 => x % 2
  | _ => x

/-- The record of a rehearsal (R360): at the class a real event would have, with no reaction, shadow or latch. Its
DETAIL is a free value among those that Table 19.3 allows. -/
def rehearse (s : State) (det : Nat) (base region : Nat) : State :=
  let (x, s) := takeFree s (2 ^ 32)
  let detail := allowedDetail det x
  let (ns, s) := takeFree s (2 ^ 32)
  let e : Event := { det := det, region := region, base := base, detail := detail, injected := true, ns := ns }
  let (cls, link, esc) := classify s e
  if recordable s cls false then writeRecord s e cls link esc else loseEvent s

/-- INJECTION_END (R360): 2 cycles after the last injected cycle. -/
def execInjectionEnd (s : State) : Out :=
  match s.levee.inject with
  | none => .next s
  | some x =>
    let s := { s with levee := { s.levee with inject := none } }
    if x.raw then .next s
    else
      match detInfo s x.det.toNat 0 false with
      | some (base, rs) => .next (rs.foldl (fun s r => rehearse s x.det.toNat base r) s)
      | none => .next s

/-! Acknowledgement and control (R362, R364). -/

/-- Acknowledges up to an index; ignored where it does not lie among the unacknowledged ones. Latches rearm. Which
acknowledgement ends the THERMAL reaction of a lost event, which has no record, is not stated: a free choice (log 157). -/
def ackEvents (s : State) (n : BitVec 16) : State :=
  if isUnacked s n then
    let (k, s) := if s.levee.thermLost then takeFree s 2 else (0, s)
    let s := { s with levee := { s.levee with ackTo := n + 1, thermLost := s.levee.thermLost && k = 0 } }
    { s with levee := { s.levee with latches := s.levee.latches.filter fun l => isUnacked s l.index } }
  else s

/-- LEVEE_ACK_WRITE (R362). -/
def execLeveeAckWrite (value : Word) (s : State) : Out :=
  if s.power.porHeld then .next s else .next (ackEvents s (value.setWidth 16))

/-- Writes LEVEE_CTRL and records SUPERVISION (R364). -/
def writeCtrl (s : State) (value : Word) : State :=
  let v := value &&& 0x9F#32
  let s := { s with levee := { s.levee with ctrl := v } }
  raise s { det := 0x3E00, region := 0x0809, base := 3, detail := v.toNat }

/-- LEVEE_CTRL_WRITE (R364). -/
def execLeveeCtrlWrite (value : Word) (s : State) : Out :=
  if s.power.porHeld then .next s else .next (writeCtrl s value)

/-- Clears the latches of the detectors whose domain switches off (R354). -/
def clearLatches (s : State) (pd : Nat) : State :=
  let ls := s.levee.latches.filter fun l => detDomain l.det.toNat l.region.toNat ≠ some pd
  { s with levee := { s.levee with latches := ls } }

/-! Watchdogs and the overload (R73, R287, R352, R370). -/

/-- WATCHDOG (R352): the run watchdog stops at entry to SERVICE, which has its own limit (R370). -/
def execWatchdog (which : Dog) (s : State) : Out :=
  match which with
  | .run => if s.levee.dogRun then .next (detectOwn { s with levee := { s.levee with dogRun := false } } 0x0300 0x0800 0 false) else .next s
  | .service => if s.levee.dogSvc then .next (detectOwn { s with levee := { s.levee with dogSvc := false } } 0x0300 0x0800 0 false) else .next s
  | .bootReport => if s.levee.dogBoot then .next (detectOwn { s with levee := { s.levee with dogBoot := false } } 0x0301 0x0800 0 false) else .next s

/-- Current of a DPS group in µA: the present figures. -/
def groupAmps (s : State) (g : Nat) : Nat := ((List.range 12).map fun k => (presentShare s (12 * g + k)).1).sum

/-- DPS_OVERLOAD (R287): the group with the largest current. The channel that the record names is not stated: a free
value. -/
def execDpsOverload (s : State) : Out :=
  if withinBudget s [] then .next s
  else
    let g := (List.range 4).foldl (fun b g => if groupAmps s b < groupAmps s g then g else b) 0
    let (k, s) := takeFree s 12
    let n := 12 * g + k
    let (uv, s) := outputNow s n
    let s := putDps s (dpsItemId s n) n 8 uv (loadTotal s n)
    .next (detectOwn s (0x2300 + g) (unitDps g)
      (((List.range 48).map fun n => (presentShare s n).1).sum / 1000 % 2 ^ 32) false)

end Sys2Proof.Machine
end

