-- ==== Sys2Proof/Machine/Calib.lean ====
section
/-! DEFINITION. Service temperatures, and the commands of Press: dispatch of a CAL item, the end of a class, the slew of
corrections, the reference (R184, R242, R333 to R341). -/

namespace Sys2Proof.Machine

/-! Temperatures (R341, R344). In 1/16 °C. -/

/-- TEMP of HK_TEMPn. -/
def hkTemp (s : State) (n : Nat) : Int := signed 16 (tget (0 : Word) s.house.temp n).toNat

/-- Is an unacknowledged CONTAINED record of the thermal region, no rehearsal's, in the log (Table 19.2)? -/
def thermalContained (s : State) : Bool :=
  s.levee.thermLost || (openRecords s).any fun r => r.cls = 1 && r.region = 0x0807 && ! rehearsal r

/-- Are service temperatures taken from the remote diodes? -/
def remoteDiodes (s : State) : Bool :=
  s.power.refFull && ! thermalContained s
    && (match s.dev.mode with
      | .off | .boot | .loaded | .diagnostic | .safe => false
      | _ => true)

/-- The on-chip diode of the die of TDn: its HK_TEMP number. -/
def onChip (n : Nat) : Nat := if n < 2 then 8 else if n < 5 then 9 else 10

/-- Is the reading that stands for TDn its own, rather than the on-chip one of its die? -/
def fromRemote (s : State) (n : Nat) : Bool := remoteDiodes s && ! (tget (0 : Word) s.house.temp n).getLsbD 30

/-- The reading that stands for TDn. -/
def diodeTemp (s : State) (n : Nat) : Int := if fromRemote s n then hkTemp s n else hkTemp s (onChip n)

/-- The diode of a unit (Table 18.2). -/
def unitDiode (u : Nat) : Nat :=
  if u < 12 then [2, 2, 2, 3, 3, 3, 5, 5, 5, 6, 6, 6].getD u 0
  else if u = 0x100 ∨ u = 0x101 then 4 else if u = 0x102 ∨ u = 0x103 then 7
  else if 0x400 ≤ u ∧ u < 0x410 then 1 else 0

/-- The diodes of a unit: the TDC array has four. -/
def unitDiodes (u : Nat) : List Nat := if u = unitTdc then [2, 3, 5, 6] else [unitDiode u]

/-- The service temperature of a unit: the mean of its diodes' readings. -/
def unitTemp (s : State) (u : Nat) : Int := roundDiv ((unitDiodes u).map (diodeTemp s)).sum (unitDiodes u).length

/-! Dispatch. -/

/-- Is the TDC array calibrated at the present M_LOCK (R242)? -/
def arrayCalibrated (s : State) : Bool :=
  (unitOf s unitTdc).corrected && (unitOf s unitTdc).calM = s.clock.mLock

/-- Does the item run the timing class of a PEB with no item before it that would calibrate the array (R336, R242)? -/
def lacksArray (s : State) (l : Slot) : Bool :=
  bitOf (pClasses l.msg) 2 && pUnit l.msg < 12 && ! arrayCalibrated s
    && ! s.ledger.any fun e => openSlot e.2 && e.2.kind = some .cal && pUnit e.2.msg = unitTdc
      && (inFlight e.2 || e.2.order < l.order)

/-- A failed calibration: the unit goes OFFLINE and CAL_FAIL names the class (R336, Table 19.3). -/
def calFails (s : State) (slot c : Nat) : State :=
  let u := pUnit (slotOf s slot).msg
  let s := failCal s slot rCalLimit .offline 0
  let s := modUnit s u fun v => { v with faulted := true }
  detectOwn s 0x2600 u c false

/-- Does a DPS class meet an enabled channel (R336)? -/
def dpsEnabled (s : State) (l : Slot) : Bool :=
  bitOf (pClasses l.msg) 3 && (List.range 12).any fun k => (dpsOf s (12 * (pUnit l.msg - 0x100) + k)).enabled

/-- A unit that the item takes: its own, and the other PEBs that are not OFFLINE (R241; log 39). -/
def takeUnit (u : Nat) (s : State) (v : Nat) : State :=
  if v = u ∨ unitState s v ≠ .offline then enterMaintenance s v false else s

/-- CAL_DISPATCH (R336). -/
def execCalDispatch (slot : Nat) (s : State) : Out :=
  let l := slotOf s slot
  let u := pUnit l.msg
  if lacksArray s l then
    if canDispatch (modUnit s unitTdc fun v => { v with st := .active }) slot .cal then
      .next (settleBypass (calFails (takeItem s slot) slot 2))
    else .next s
  else if canDispatch s slot .cal then
    let s := takeItem s slot
    if dpsEnabled s l then
      let s := if hostHeld s u then modUnit (releaseOwn s u .offline) u fun v => { v with faulted := true } else s
      .next (endItem s slot (some rUnitEnabled) id)
    else
      let s := (heldUnits s l).foldl (takeUnit u) s
      .next { s with press := { s.press with
        item := some slot, left := classOrder (pClasses l.msg), staged := [], temp := unitTemp s u
        temps := (unitDiodes u).map fun n => (diodeTemp s n, fromRemote s n) } }
  else .next s

/-! The end of a class. -/

/-- The item's unit after its last class: its corrections are in force (R336, R339). -/
def calibrated (s : State) (classes : Nat) (v : UnitSt) : UnitSt :=
  { v with
    corrected := true, fresh := false, calTemp := s.press.temp, calTime := stamp s, calSlot := s.house.slots, calDiodes := s.press.temps, due := 0
    calM := if bitOf classes 2 ∨ bitOf classes 5 then s.clock.mLock else v.calM }

/-- The last class has ended: the staged corrections come into force, the units go back, the item is COMPLETE. -/
def completeCal (s : State) (slot : Nat) : State :=
  let l := slotOf s slot
  let u := pUnit l.msg
  let (v, s) := takeFree s 65536
  let r := calResult s v
  let s := s.press.staged.foldl applyCorr s
  let s := { s with dacs := tmods {} s.dacs (unitDacs u) fun k d => recode (corrOf s k) d }
  let s := modUnit s u (calibrated s (pClasses l.msg))
  let s := ((heldUnits s l).filter (· ≠ u)).foldl releaseOther s
  let s := releaseOwn (freePress s) u .active
  endItem s slot none fun l => { l with result := BitVec.ofNat 64 r }

/-- CAL_CLASS_DONE (R336). A result outside the class's range ends the item, whatever the command calls it. -/
def execCalClassDone (result : CalResult) (s : State) : Out :=
  match s.press.item, s.press.left with
  | some slot, c :: rest =>
    match result with
    | .outOfRange => .next (settleBypass (calFails s slot c))
    | .inRange ks =>
      let ks := classValues s c (ks.filter fun k => ofUnit c (pUnit (slotOf s slot).msg) k.1)
      if ¬ classFits s c ks then .next (settleBypass (calFails s slot c))
      else
      let staged := s.press.staged ++ ks.map fun k => (c, k.1, k.2)
      let s := { s with press := { s.press with left := rest, staged := staged } }
      let s := modSlot s slot fun l => { l with progress := l.progress + 1 }
      if rest = [] then .next (settleBypass (completeCal s slot)) else .next s
  | _, _ => .next s

/-! Slew and reference. -/

/-- One code toward the target (R339). -/
def slewOnce (d : Dac) : Dac :=
  match d.slew with
  | none => d
  | some t =>
    if d.active = t then { d with slew := none }
    else
      let a := if d.active.toNat < t.toNat then d.active + 1 else d.active - 1
      { d with active := a, slew := if a = t then none else some t }
def slewDac (s : State) (d : Dac) : Dac := leaving s false d (slewOnce d)

/-- CORRECTION_SLEW_STEP (R339): every DAC whose slew runs moves by one code; a DPS channel's set point follows. -/
def execCorrectionSlewStep (s : State) : Out :=
  let ks := tkeys s.dacs fun _ d => d.slew.isSome
  let s := { s with dacs := tmods {} s.dacs ks fun _ d => slewDac s d }
  .next (((List.range 48).filter fun n => ks.contains (dpsKey n) && ! ramping s n).foldl followDac s)

/-- REFERENCE_FULL_ACCURACY (R333). -/
def execReferenceFullAccuracy (s : State) : Out :=
  .next (if s.power.pdOn.getLsbD 31 then { s with power := { s.power with refFull := true } } else s)

/-! Units to be calibrated again or for the first time (R184, R411). -/

/-- May Spabry submit this unit's CAL item now? The TDC array's waits in ARMED, RUN and PAUSE, and
in a SERVICE that goes back to one of them (R345, R371, R411). -/
def defers (s : State) : Bool :=
  match if s.dev.mode = .service then s.dev.cameFrom else s.dev.mode with
  | .armed | .run | .pause => true
  | _ => false

/-- The unit of a domain that has come on (R411): an item with every class that applies, unless one still waits. -/
def calOnPower (s : State) (u : Nat) : State :=
  if s.ledger.any fun e => openSlot e.2 && e.2.own && e.2.kind = some .cal && pUnit e.2.msg = u
      && pClasses e.2.msg = classesOf u then s
  else if u = unitTdc ∧ defers s then modUnit s u fun v => { v with due := classesOf u }
  else submitCal s u (classesOf u) false

/-- A unit is marked for recalibration, and its item submitted. -/
def markCal (s : State) (u classes : Nat) : State :=
  submitCal (modUnit s u fun v => { v with marked := true }) u classes false

/-- After a relock at a different M (R184). -/
def calAfterRelock (s : State) : State :=
  let s := if s.power.pdOn.getLsbD 13 then markCal s unitTdc 0x20 else s
  ((List.range 12).filter fun p => s.power.pdOn.getLsbD (14 + p)).foldl (fun s p => markCal s p 4) s

end Sys2Proof.Machine
end

