-- ==== Sys2Proof/Machine/Triggers.lean ====
section
/-! DEFINITION. Window monitors and the TRIG_IN inputs (R199 to R203), and the requests to pause and to go on that they
share with OPC_PAUSE and OPC_RESUME (R62, R156, R160). -/

namespace Sys2Proof.Machine

/-! Pause and resume (R62). -/

/-- A pausable item is asked to hold. A MEASURE item whose routine has not begun, and a DPS item, hold at once. -/
def pauseItem (s : State) (slot : Nat) : State :=
  let l := slotOf s slot
  match l.kind with
  | some .burst => requestPause s slot false
  | some .measure =>
    if routineRuns s slot then pauseMeasure s (pMseq l.msg) else modSlot s slot fun l => { l with st := .held }
  | some .dps => pauseDps s slot
  | _ => s

/-- Every pausable item in flight is asked to hold; PAUSE follows once all are held. -/
def beginPause (s : State) : State :=
  let ss := slotsInOrder s fun l => l.st = .inFlight && pausable l
  settleMode (ss.foldl pauseItem { s with dev := { s.dev with pauseReq := true } })

/-- A held item goes on. -/
def resumeItem (s : State) (slot : Nat) : State :=
  let l := slotOf s slot
  if l.st ≠ .held then s
  else
    match l.kind with
    | some .burst => resumeBurst s slot
    | some .measure =>
      if routineRuns s slot then resumeMeasure s (pMseq l.msg) slot else modSlot s slot fun l => { l with st := .inFlight }
    | some .dps => resumeDps s slot
    | _ => s

/-! Reports of a monitor (Tables 10.4, 10.5). -/

/-- The fixed 4 ns that an event's time is less by, in LSB: 25.6 × M. -/
def fourNs (s : State) : Count := BitVec.ofInt 64 (roundDiv (256 * s.clock.mLock.toNat) (10 * 2 ^ 20))

/-- The event record of channel c (Table 10.5). -/
def wmonRecord (s : State) (c : Nat) (high : Bool) (flags : Nat) : List Byte :=
  let t := if s.hw.running then s.hw.count - fourNs s else 0
  le 8 t.toNat ++ le 2 (c + 2 ^ 14 * syncCode s.hw.status) ++ le 1 (b2n high) ++ le 1 flags
    ++ le 4 (chanOf s c).mon.coal.toNat

/-- The vector in play at the pins, for a WMON record: the successor's vector 0 where play stands at a boundary or has
not left the reference instant (R247). -/
def wmonVaddr (b : Burst) : Nat :=
  if b.phase = .playing ∧ b.vec ≠ 0 then (b.vaddr + 2 ^ 40 - 1) % 2 ^ 40 else b.vaddr

/-- The BURST in play on a PEB. -/
def burstOn (s : State) (p : Nat) : Option Nat := (tkeys s.bursts fun _ b => playing b && b.pebs.getLsbD p).head?

/-- An event of a monitor that is reported: to the capture stream and to the result queue, as it is routed (R201). -/
def wmonReport (s : State) (c : Nat) (high : Bool) (flags : Nat) : State :=
  let s := modChan s c fun x => { x with mon := { x.mon with rep := some high } }
  let r := wmonRecord s c high flags
  let p := c / 64
  let s :=
    if (chanOf s c).mon.route.getLsbD 0 then
      match burstOn s p with
      | some i => capRec s i p (capHeader s 0x29 p (wmonVaddr (burstOf s i)) 0 ++ zeros 8 ++ r)
      | none => s
    else s
  if (chanOf s c).mon.route.getLsbD 1 then (queueWrite s p 2 (liveCount s) r).1 else s

/-- A threshold code in µV: code 256 is 0 V, one code 5 mV. -/
def threshold (c : BitVec 10) : Int := 5000 * ((c.toNat : Int) - 256)

/-- The output that a ball at a voltage gives a monitor: HIGH above the high threshold, LOW below the low one; none in
the band between them, where the output keeps its last state (R199). -/
def ballLevel (m : Wmon) (ball : Int) : Option Bool :=
  if threshold m.hi < ball then some true else if ball < threshold m.lo then some false else none

/-- Judges monitors afresh: definite and reported with FIRST where the ball lies outside the band, else INDETERMINATE
(Table 10.4). A ball that is not listed stands at 0 V. -/
def judgeMons (s : State) (cs : List Nat) (balls : List (Nat × Int)) : State :=
  cs.foldl (fun s c =>
    let lvl := ballLevel (chanOf s c).mon (((balls.find? fun e => e.1 = c).map Prod.snd).getD 0)
    let s := modChan s c fun x => { x with mon := { x.mon with st := lvl, rep := none, stuck := false } }
    match lvl with
    | some h => wmonReport s c h 1
    | none => s) s

/-- Is a monitor of the channel powered (its PEB's domain on)? -/
def monOn (s : State) (c : Nat) : Bool := c < 768 && s.power.pdOn.getLsbD (14 + c / 64)

/-- WMON_TRANSITION (R199, R200): the ball has stayed at a voltage, in µV, for 4 ns; where that lies beyond the other
threshold, the output changes. -/
def execWmonTransition (ch : Nat) (ball : Int) (within20 : Bool) (s : State) : Out :=
  let m := (chanOf s ch).mon
  match ballLevel m ball with
  | none => .next s
  | some high =>
    if ¬ monOn s ch ∨ m.st = some high then .next s
    else
      let put (f : Wmon → Wmon) : State := modChan s ch fun x => { x with mon := f { x.mon with st := some high } }
      if m.st = none then .next (wmonReport (put id) ch high 1)
      else if m.stuck then .next (wmonReport (put fun m => { m with stuck := false }) ch high 2)
      else if within20 then .next (put fun m => { m with coal := satInc m.coal })
      else .next (wmonReport (put id) ch high 0)

/-- WMON_STUCK (R200): HIGH past the stuck hold. -/
def execWmonStuck (ch : Nat) (s : State) : Out :=
  let m := (chanOf s ch).mon
  if monOn s ch ∧ m.st = some true ∧ m.hold ≠ 0 then
    .next (modChan s ch fun x => { x with mon := { x.mon with stuck := true } })
  else .next s

/-! TRIG_IN (R203). -/

def trigOf (s : State) (i : Nat) : Trig := tget {} s.cfg.trig i
def modTrig (s : State) (i : Nat) (f : Trig → Trig) : State :=
  { s with cfg := { s.cfg with trig := tmod {} s.cfg.trig i f } }

/-- A jump edge reaches every BURST in play on the PEBs of its mask (R156). -/
def trigJump (s : State) (pebs : BitVec 12) (cond : Nat) : State :=
  (tkeys s.bursts fun _ b => playing b && b.pebs &&& pebs ≠ 0).foldl (fun s i => requestJump s i cond) s

/-- A pause edge: in RUN, and in SERVICE entered from RUN, where PAUSE follows on return (Table 20.2). -/
def trigPause (s : State) : State :=
  if s.dev.mode = .run ∨ (s.dev.mode = .service ∧ s.dev.cameFrom = .run) then beginPause s else s

/-- A rising edge that is reported: its function, the strobes that wait for it (R193), and the records (R255). -/
def fireTrig (s : State) (i : Nat) : State :=
  let x := trigOf s i
  let s := if x.fn = 1 then trigPause s else if x.fn = 2 then trigJump s x.pebs x.cond else s
  let s := (flyingSlots s fun l => l.kind = some .levels && l.armed && pStrobe l.msg = i + 1).foldl fireLevels s
  trigAcquire s i

/-- TRIG_IN_EDGE (R203): an edge within 20 ns of the last reported one is coalesced and fires nothing. -/
def execTrigInEdge (input : Nat) (rising : Bool) (within20 : Bool) (s : State) : Out :=
  let m := (trigOf s input).mon
  if 4 ≤ input ∨ m.st = some rising ∨ inReset s then .next s
  else
    let put (f : Wmon → Wmon) : State :=
      modTrig s input fun x => { x with mon := f { x.mon with st := some rising } }
    if m.stuck then .next (put fun m => { m with stuck := false, rep := some rising })
    else if within20 then .next (put fun m => { m with coal := satInc m.coal })
    else
      let s := put fun m => { m with rep := some rising }
      .next (if rising then fireTrig s input else s)

/-- TRIG_IN_STUCK (R203). -/
def execTrigInStuck (input : Nat) (s : State) : Out :=
  let m := (trigOf s input).mon
  if input < 4 ∧ m.st = some true ∧ m.hold ≠ 0 then
    .next (modTrig s input fun x => { x with mon := { x.mon with stuck := true } })
  else .next s

/-- WMON_COALESCE_END (R200, R203): 20 ns after the last reported event, an output that differs is reported with
COALESCED_SINCE. Monitors 768 to 771 are the TRIG_IN inputs, for which such a report fires nothing. -/
def execWmonCoalesceEnd (mon : Nat) (s : State) : Out :=
  if mon < 768 then
    let m := (chanOf s mon).mon
    match m.st with
    | some h =>
      if monOn s mon ∧ ¬ m.stuck ∧ m.rep.isSome ∧ m.rep ≠ m.st then .next (wmonReport s mon h 4) else .next s
    | none => .next s
  else if mon < 772 then .next (modTrig s (mon - 768) fun x => { x with mon := { x.mon with rep := x.mon.st } })
  else .next s

end Sys2Proof.Machine
end

