-- ==== Sys2Proof/Machine/Clocks.lean ====
section
/-! DEFINITION. The clocks and Headwater: loss, lock and small steps, HWSYNC pulses, Headwater-timed actions
(R40 to R57, R410). ADPLL_LOCK_COMPLETE itself stands in Boot.lean, since a Trellis boot goes on at lock. -/

namespace Sys2Proof.Machine

/-! Small helpers. -/

/-- Is M legal (R39): 50.0 to 80.0, bits [31:28] zero? -/
def mLegal (m : Nat) : Bool := 50 * 2 ^ 20 ≤ m && m ≤ 80 * 2 ^ 20

/-- Is a target within ±0.2 % of M_LOCK (R42)? -/
def withinStep (lock m : Nat) : Bool := 500 * (if m ≤ lock then lock - m else m - lock) ≤ lock

/-- Trains every port that is neither BYPASSED nor DOWN (R311). -/
def retrainPorts (s : State) : State :=
  (List.range 4).foldl (fun s p =>
    if (portOf s p).st = .bypassed ∨ (portOf s p).st = .down then s else changePort s p trainPort) s

/-- Is a port in training? -/
def portsTraining (s : State) : Bool := (List.range 4).any fun p => (portOf s p).st = .training

/-- Headwater's status once the root is there (Table 3.3). -/
def freeStatus (s : State) : SyncStatus := if s.hw.syncMode = 0 then .free else .acquiring

/-- The end of a small step answers the requests for one (Table 6.11; log 41). -/
def answerSteps (s : State) : State := answerEvery s (isOp 0x0203) fun s q => doneResp s q 0 []

/-- OPC_CLOCK_LOCK, and a step carried out as a relock, are answered at lock once no port is in training (Table 6.11;
log 41); so is a small step that a loss or a lock request cut short (log 137). -/
def settleLock (s : State) : State :=
  if s.clock.locked ∧ ¬ portsTraining s then
    let s := answerEvery s (isOp 0x0202) fun s q => doneResp s q 0 []
    if s.clock.stepActive then s else answerSteps s
  else s

/-! Lock (R40, R44, R49). -/

/-- A relock toward m begins: the root stops, Headwater coasts, and the ports retrain. -/
def startLock (s : State) (m : BitVec 28) : State :=
  let s := changeClock s fun s => { s with
    clock := { s.clock with
      relocking := true, locked := false, onBypass := true, stepActive := false, lockTarget := m, delayLocked := false }
    hw := { s.hw with status := if s.hw.running then .coast else s.hw.status, slew := 0 } }
  retrainPorts s

/-- May a lock complete: one runs, PD1 is on, HWREF is valid? -/
def lockReady (s : State) : Bool := s.clock.relocking && s.power.pdOn.getLsbD 1 && s.clock.refOk && ! inReset s

/-- Headwater starts from zero, as PD2 and the lock both stand (R50). -/
def startCount (s : State) : State :=
  clearMarks { s with hw := { s.hw with
    count := 0, frac := 0, phase := 0, running := true, status := freeStatus s, slew := 0, pulse := none } }

/-- Lock completes (R40, R44, R49, R184, R291). -/
def completeLock (s : State) : State :=
  let old := s.clock.mLock
  let m := s.clock.lockTarget
  let s := changeClock s fun s =>
    let s := { s with clock := { s.clock with
      locked := true, onBypass := false, relocking := false, lost := false, mLock := m, mNow := m } }
    if s.hw.running then { s with hw := { s.hw with status := freeStatus s } }
    else if s.power.pdOn.getLsbD 2 then startCount s else s
  let s := { s with lgs := tmods {} s.lgs (List.range 4) fun _ x => { x with low := x.low || rateLow s x.rate } }
  let s := retrainPorts s
  let s := if old ≠ m ∧ old ≠ 0 ∧ spabryUp s then calAfterRelock s else s
  settleLock s

/-- Is the switch-off of a unit's domain ordered (R32)? -/
def offOrdered (s : State) (u : Nat) : Bool :=
  match unitDomain u with
  | some d => s.power.pdOffOrd.getLsbD d
  | none => false

/-- DELAY_LINE_LOCKED (R49): the units that the loss took OFFLINE return, but for those with an unacknowledged
CONTAINED record in their region, and for those whose domain is to switch off (R32). -/
def execDelayLineLocked (s : State) : Out :=
  if s.clock.locked ∧ ¬ s.clock.delayLocked then
    let s := { s with clock := { s.clock with delayLocked := true } }
    .next ((allUnits.filter fun u => (unitOf s u).lossOff).foldl (fun s u =>
      let s := modUnit s u fun v => { v with lossOff := false }
      if unitState s u = .maintenance then s
      else if containedOpen s u then modUnit s u fun v => { v with faulted := true }
      else if offOrdered s u then modUnit s u fun v => { v with toOff := true }
      else setUnit s u .active false) s)
  else .next s

/-! Loss (R45 to R48). -/

/-- Number of a cause (detector CLOCK_LOSS, instances 0 to 2). -/
def causeIx : LossCause → Nat
  | .missingEdge => 0
  | .frequency => 1
  | .lock => 2

/-- The clocks at a loss. A requested relock that it interrupts keeps its target (log 41). -/
def loseClock (s : State) : State :=
  let goal := if s.clock.relocking then s.clock.lockTarget else s.clock.mLock
  { s with
    clock := { s.clock with
      locked := false, onBypass := true, relocking := false, stepActive := false, lost := true, delayLocked := false
      mNow := s.clock.mLock, lockTarget := goal }
    hw := { s.hw with
      status := if s.hw.running then .coast else s.hw.status, slew := 0, lastLoss := stamp s
      lossCount := if s.hw.lossCount = BitVec.allOnes 32 then s.hw.lossCount else s.hw.lossCount + 1 } }

/-- A loss of the reference where there is no lock to lose: it is counted, and a relock that waits begins its 1 ms anew
(R45, R48, R49, Table 3.5). -/
def loseRef (s : State) : State :=
  { s with
    clock := { s.clock with refOk := false, relocking := if s.clock.lost then false else s.clock.relocking }
    hw := { s.hw with
      lastLoss := stamp s
      lossCount := if s.hw.lossCount = BitVec.allOnes 32 then s.hw.lossCount else s.hw.lossCount + 1 } }

/-- The CLOCK_LOSS event (R48). -/
def lossEvent (cause : LossCause) : Event := { det := 0x3F00 + causeIx cause, region := 0x0806, base := 3, detail := 0 }

/-- A Trellis boot without a valid HWREF waits, with ERROR NO_REF; its step stands until HWREF is back (R67). -/
def bootNoRef (s : State) : State :=
  if s.dev.mode = .boot ∧ s.boot.wait ≠ .none ∧ s.boot.wait ≠ .strap ∧ ¬ s.clock.refOk then
    { s with boot := { s.boot with error := 0x06#8 } }
  else s

/-- REF_LOSS_DETECTED (R45 to R48): every detection is logged. Where the ADPLL has no lock to lose, nothing else follows. -/
def execRefLossDetected (cause : LossCause) (s : State) : Out :=
  if inReset s then .next s
  else if s.clock.locked ∨ (s.clock.relocking ∧ ¬ s.clock.lost ∧ s.clock.mLock ≠ 0) then
    let s := changeClock s fun s =>
      loseClock { s with clock := { s.clock with refOk := s.clock.refOk && cause = .lock } }
    let s := raise (bootNoRef s) (lossEvent cause)
    let ss := flyingSlots s fun _ => true
    let s := clockPins { clockUnits s with
      lanes := tmods {} s.lanes (s.lanes.map Prod.fst) fun _ x => { x with tx := false } }
    let s := ss.foldl (fun s i => if inFlight (slotOf s i) then clockItem s i else s) s
    .next (settleBypass (settleCal (retrainPorts s)))
  else if cause = .lock then .next s
  else .next (raise (bootNoRef (changeClock s loseRef)) (lossEvent cause))

/-- RELOCK_START (R49): HWREF has been valid for 1 ms. After a loss the relock begins. -/
def execRelockStart (s : State) : Out :=
  if inReset s then .next s
  else if s.clock.lost ∧ ¬ s.clock.relocking then
    .next (startLock { s with clock := { s.clock with refOk := true } } s.clock.lockTarget)
  else .next (changeClock s fun s => { s with clock := { s.clock with refOk := true } })

/-! Small steps (R42, R43). -/

/-- CLOCK_STEP_REACHED (R42): M is at the target, and every BURST in flight will reset its phase (R43). -/
def execClockStepReached (s : State) : Out :=
  if s.clock.stepActive then
    let s := changeClock s fun s => { s with clock := { s.clock with stepActive := false, mNow := s.clock.stepTarget } }
    let ks := tkeys s.bursts fun _ b => playing b
    let s := { s with bursts := tmods {} s.bursts ks fun _ b => { b with phaseArm := true } }
    .next (answerSteps s)
  else .next s

/-! HWSYNC (R52 to R54, R410). -/

/-- The sync period in units of 2^-20 LSB: µs × 6,400 × M_LOCK. -/
def syncPeriod (s : State) : Nat := s.hw.periodUs * 6400 * s.clock.mLock.toNat

/-- The whole multiple of P nearest to the count, rounded to an LSB. -/
def nearestMultiple (s : State) : Count :=
  if syncPeriod s = 0 then s.hw.count
  else
    let k := (2 * s.hw.count.toNat * 2 ^ 20 + syncPeriod s) / (2 * syncPeriod s)
    BitVec.ofNat 64 ((2 * k * syncPeriod s + 2 ^ 20) / 2 ^ 21)

/-- The compensation of R53 or R54. -/
def syncComp (s : State) : Int :=
  if s.hw.syncMode = 1 then s.hw.offsetComp.toInt else if s.hw.syncMode = 2 then (s.hw.hopDelay.toNat : Int) else 0

/-- The aligned count of a pulse: its epoch, or the nearest multiple, with the compensation added. -/
def alignedCount (s : State) : Count := s.hw.epoch.getD (nearestMultiple s) + BitVec.ofInt 64 (syncComp s)

/-- The count jumps (R237). -/
def jumpCount (s : State) (c : Count) : State :=
  if c = s.hw.count then s else clearMarks (stepTdcs { s with hw := { s.hw with count := c, frac := 0 } })

/-- An epoch received since the sync mode was set waits for the next pulse (R332, R410). -/
def takeEpoch (s : State) (c : Count) : State :=
  if s.hw.syncMode = 0 then s else { s with hw := { s.hw with epoch := some c, epochSeen := true } }

/-- The TIME_EPOCH broadcast of OPC_SYNC_EPOCH, which the device takes itself too, and DONE. -/
def sendEpoch (s : State) (c : Count) : State :=
  let s := sendBroadcast s 8 0 { mkPacket s 0x32 0 0 c.toNat s.hw.periodUs 0 [] with route := 0x09#8 }
  answerEvery (takeEpoch { s with hw := { s.hw with epochOut := none } } c) (isOp 0x0207) fun s q => doneResp s q 0 []

/-- After a pulse: the epoch that waited for it is broadcast. -/
def afterPulse (s : State) : State :=
  match s.hw.epochOut with
  | some c => sendEpoch s c
  | none => s

/-- A pulse that is taken (R410). In SYNCED an epoch that it does not meet counts as used all the same (log 136). -/
def takePulse (s : State) : State :=
  let goal := alignedCount s
  let dev := (s.hw.count - goal).toInt
  let s := { s with hw := { s.hw with errLast := BitVec.ofInt 16 (clampTo (-32767) 32767 dev) } }
  if s.hw.status = .acquiring then
    if s.hw.epochSeen then
      let s := jumpCount s goal
      { s with hw := { s.hw with status := .synced, epoch := none, slew := 0 } }
    else s
  else
    let s := { s with clock := { s.clock with syncWarn := false }, hw := { s.hw with epoch := none } }
    if dev.natAbs ≤ 256 then { s with hw := { s.hw with slew := -dev, slewPhase := 0 } }
    else { s with hw := { s.hw with status := .acquiring, slew := 0 } }

/-- A pulse on HWSYNC_OUT: a chain slave regenerates what it takes, a chain master drives its own (R54), but for a device
that its Ford crosses (R22). -/
def driveSync (s : State) : State :=
  if ¬ hwsyncThrough s then { s with hw := { s.hw with syncOut := some s.hw.count } } else s

/-- The count at the last pulse taken, from which the next is foreseen (R332). -/
def notePulse (s : State) : State := { s with hw := { s.hw with pulse := some s.hw.count } }

/-- HWSYNC_PULSE (R410): not taken with no sync mode, by a chain master, in COAST, or while PD2 is off. -/
def execHwsyncPulse (s : State) : Out :=
  if s.hw.running ∧ (s.hw.syncMode = 1 ∨ s.hw.syncMode = 2) ∧ (s.hw.status = .acquiring ∨ s.hw.status = .synced) then
    .next (afterPulse (driveSync (notePulse (changeClock s takePulse))))
  else .next s

/-- CHAIN_MASTER_PULSE (R410): the master passes to SYNCED, and applies an epoch it has received. -/
def execChainMasterPulse (s : State) : Out :=
  if s.hw.running ∧ s.hw.syncMode = 3 ∧ (s.hw.status = .acquiring ∨ s.hw.status = .synced) then
    .next (afterPulse (driveSync (changeClock s fun s =>
      let s := match s.hw.epoch with
        | some c => jumpCount s c
        | none => s
      { s with hw := { s.hw with status := .synced, epoch := none } })))
  else .next s

/-- SYNC_PULSE_MISSING (R410). -/
def execSyncPulseMissing (s : State) : Out :=
  if s.hw.running ∧ s.hw.status = .synced then
    .next (changeClock s fun s => { s with clock := { s.clock with syncWarn := true } })
  else .next s

/-! Headwater-timed actions (R52). -/

/-- The action of an armed item. -/
def fireItem (s : State) (slot : Nat) : State :=
  let l := slotOf s slot
  let s := modSlot s slot fun l => { l with armed := false }
  match l.kind with
  | some .burst =>
    if l.flags.getLsbD 2 then beginBurst s slot (stamp s) 0
    else beginBurst s slot (pStartTime l.msg) ((pStartTime l.msg).toNat % 256)
  | some .levels => fireLevels s slot
  | some .measure => startMeasure s slot
  | some .tdc => startTdc s slot
  | some .acquire => beginAcquire s slot
  | some .dps => startDps s slot
  | some .lane => startLane s slot
  | _ => s

/-- HEADWATER_TIMED_FIRE (R52): the timing clock runs, the count is at or past the item's START_TIME, and SYNCED holds where it must. A LEVELS
item that waits for TRIG_IN is not Headwater-timed. -/
def execHeadwaterTimedFire (slot : Nat) (s : State) : Out :=
  let l := slotOf s slot
  if l.st = .inFlight ∧ l.armed ∧ pStartAt l.msg ∧ ¬ (l.kind = some .levels ∧ pStrobe l.msg ≠ 0)
      ∧ s.hw.running ∧ s.clock.locked ∧ timePast s slot ∧ syncReady s l then
    .next (fireItem s slot)
  else .next s

end Sys2Proof.Machine
end

