-- ==== Sys2Proof/Machine/Domains.lean ====
section
/-! DEFINITION. The power domains: what each depends on, ordering and cancelling switches, what a domain that comes on
or goes off does to the blocks it holds (R27, R31 to R33, R411, R412, Table 2.6). DOMAIN_READY stands in Boot.lean, UNIT_QUIESCED in Units.lean. -/

namespace Sys2Proof.Machine

/-- The domains a domain depends on (Table 2.6). -/
def domDeps (d : Nat) : List Nat :=
  if d = 2 ∨ (4 ≤ d ∧ d ≤ 13) then [1]
  else if 14 ≤ d ∧ d ≤ 25 then [1, 30, 31]
  else if 26 ≤ d ∧ d ≤ 29 then [31]
  else if d = 30 then [1, 31] else []

/-- The rails a domain draws on, in the order of housekeeping slots 11 to 25 (Table 2.6, Table 18.3). -/
def domRails (d : Nat) : List Nat :=
  if d = 0 then [0]
  else if d = 1 ∨ d = 13 ∨ d = 30 then [1, 4]
  else if d = 2 then [1]
  else if d = 3 ∨ d = 9 ∨ d = 10 ∨ d = 12 then [1, 2]
  else if d = 4 then [1, 9, 10]
  else if 5 ≤ d ∧ d ≤ 8 then [9, 10]
  else if d = 11 then [1, 7, 8]
  else if 14 ≤ d ∧ d ≤ 25 then [5, 6, 4, 1]
  else if 26 ≤ d ∧ d ≤ 29 then [4, 11 + (d - 26)]
  else [4]

/-- Is every rail of the domain present (R27)? -/
def railsPresent (s : State) (d : Nat) : Bool := (domRails d).all fun r => s.power.rails.getLsbD r

/-- A mask with one bit. -/
def bit32 (d : Nat) : BitVec 32 := 1#32 <<< d

/-- The domain that holds a unit which a power cycle takes off and brings on again, no switch-off being ordered (R376);
zero: none. -/
def cycledBack (s : State) (d : Nat) : Bool :=
  match domainUnit d with
  | some u => (unitOf s u).cycling && ! (unitOf s u).toOff
  | none => false

/-- The domains that will be on when every ordered switch has completed. -/
def domGoal (s : State) : BitVec 32 :=
  ((s.power.pdOn ||| s.power.pdOnOrd) &&& ~~~s.power.pdOffOrd)
    ||| (List.range 32).foldl (fun m d => if cycledBack s d then m ||| bit32 d else m) 0

/-- The lowest domain whose switch, as a request with these masks orders it, breaks a rule of R27 or R31: switched on
without a rail or a domain it depends on, or switched off under a domain that depends on it. PD0 and PD3 are never
switched off (Table 6.9; log 121). -/
def domFault (s : State) (on off : BitVec 32) : Option Nat :=
  let goal := (domGoal s ||| on) &&& ~~~off
  (List.range 32).find? fun d =>
    (off.getLsbD d && (d = 0 || d = 3 || (List.range 32).any fun e => goal.getLsbD e && (domDeps e).contains d))
      || (on.getLsbD d && (! railsPresent s d || (domDeps d).any fun e => ! goal.getLsbD e))

/-! Ordering (R31, R32). -/

/-- Is the unit that a domain holds being power-cycled (R376)? -/
def cycled (s : State) (d : Nat) : Bool :=
  match domainUnit d with
  | some u => (unitOf s u).cycling
  | none => false

/-- A switch-on of one domain is ordered; a switch-off whose switch has not opened is cancelled, and its unit returns
to ACTIVE without losing its calibration, or goes on to the MAINTENANCE that a host request asked for; one that a fault
or a loss has taken OFFLINE meanwhile stays there (Table 4.3). A power cycle closes its switch again by itself. -/
def orderOn1 (s : State) (d : Nat) : State :=
  if cycled s d then
    match domainUnit d with
    | some u => modUnit s u fun v => { v with toOff := false }
    | none => s
  else if s.power.pdOffOrd.getLsbD d then
    let s := { s with power := { s.power with
      pdOffOrd := s.power.pdOffOrd &&& ~~~bit32 d
      pdBusy := if s.power.pdOnOrd.getLsbD d then s.power.pdBusy else s.power.pdBusy &&& ~~~bit32 d } }
    match domainUnit d with
    | some u =>
      let was := (unitOf s u).toOff
      let s := modUnit s u fun v => { v with toOff := false }
      if (unitState s u = .quiescing ∧ ¬ hostHeld s u)
          ∨ (was ∧ unitState s u = .offline ∧ ¬ (unitOf s u).faulted ∧ ¬ (unitOf s u).lossOff ∧ ¬ (unitOf s u).fresh) then
        setUnit s u .active true
      else s
    | none => s
  else if s.power.pdOn.getLsbD d then s
  else { s with power := { s.power with
    pdOnOrd := s.power.pdOnOrd ||| bit32 d, pdBusy := s.power.pdBusy ||| bit32 d } }

/-- A switch-off of one domain is ordered: its unit leaves for OFFLINE. A unit in MAINTENANCE goes once it is released
(log 42). A switch-on whose switch has not yet closed is cancelled, and with it a power cycle; a domain still on its way
to ready comes on first (log 130). -/
def orderOff1 (s : State) (d : Nat) : State :=
  if s.power.pdOnOrd.getLsbD d ∧ ¬ s.power.pdOn.getLsbD d ∧ ¬ s.power.pdRise.getLsbD d then
    let s := { s with power := { s.power with
      pdOnOrd := s.power.pdOnOrd &&& ~~~bit32 d, pdBusy := s.power.pdBusy &&& ~~~bit32 d } }
    match domainUnit d with
    | some u =>
      if (unitOf s u).cycling then
        modUnit (setUnit s u .offline true) u fun v => { v with cycling := false, holder := .none }
      else s
    | none => s
  else if s.power.pdOn.getLsbD d ∨ s.power.pdOnOrd.getLsbD d then
    let s := { s with power := { s.power with
      pdOffOrd := s.power.pdOffOrd ||| bit32 d, pdBusy := s.power.pdBusy ||| bit32 d } }
    match domainUnit d with
    | some u =>
      let st := unitState s u
      let s := modUnit s u fun v => { v with toOff := st ≠ .offline || v.cycling }
      if st = .active then setUnit s u .quiescing true else s
    | none => s
  else s

/-- Is a lock under way that a request began? What depends on PD1 then waits for it (Table 2.6; log 47). -/
def lockPending (s : State) : Bool := s.clock.relocking && ! s.clock.lost

/-- Closes the switch of every ordered domain whose dependencies are on (R31). -/
def closeSwitches (s : State) : State :=
  let ready := (List.range 32).filter fun d =>
    s.power.pdOnOrd.getLsbD d && ! s.power.pdRise.getLsbD d && ! s.power.pdOn.getLsbD d
      && (domDeps d).all fun e => s.power.pdOn.getLsbD e && ! (e = 1 && lockPending s)
  { s with power := { s.power with pdRise := ready.foldl (fun m d => m ||| bit32 d) s.power.pdRise } }

/-- Orders every switch of a request at once. -/
def orderSwitches (s : State) (on off : BitVec 32) : State :=
  let s := (setBits 32 off.toNat).foldl orderOff1 s
  closeSwitches ((setBits 32 on.toNat).foldl orderOn1 s)

/-! A domain comes on. -/

/-- The DACs of a unit that has just come on: codes with the final corrections, outputs at the clear codes (R35, R339,
Table 2.7). -/
def freshDac (clrLow : Bool) (c : Corr) (d : Dac) : Dac :=
  { d with
    held := true, byClr := clrLow, slew := none, past := []
    shadow := match d.value with | some v => codeFor c v | none => d.shadow
    active := match d.activeV with | some v => codeFor c v | none => d.active }

/-- What a domain that comes on does; a unit that was power-cycled stays in MAINTENANCE and is calibrated (R374), or
OFFLINE where a fault has struck it (R375). balls: the voltages at the balls of a PEB's channels. -/
def domainOn (s : State) (d : Nat) (balls : List (Nat × Int)) : State :=
  if d = 1 then
    if ¬ s.clock.relocking ∧ ¬ s.clock.locked ∧ ¬ s.clock.lost ∧ s.clock.mLock ≠ 0 then startLock s s.clock.mLock else s
  else if d = 2 then (if s.clock.locked then changeClock s startCount else s)
  else if d = 4 then settleFord s
  else
    match domainUnit d with
    | some u =>
      let s := { s with dacs := tmods {} s.dacs (unitDacs u) fun k x => freshDac s.power.clrLow (corrOf s k) x }
      let s := if u < 12 then judgeMons s ((List.range 64).map (64 * u + ·)) balls else s
      let cycling := (unitOf s u).cycling
      let s := modUnit s u fun v => { v with cycling := false }
      if cycling ∧ unitState s u = .maintenance then submitCal s u (classesOf u) true
      else if cycling ∧ (unitOf s u).faulted then s
      else
        let s := modUnit s u fun v => { v with st := .offline, faulted := false, lossOff := false, toOff := false, fresh := true }
        if spabryUp s ∧ s.dev.mode ≠ .safe then calOnPower s u else s
    | none => s

/-- A domain passes its ready time and is released from isolation (DOMAIN_READY, which stands in Boot.lean). -/
def domainReady (s : State) (pd : Nat) (balls : List (Nat × Int)) : State :=
  let b := bit32 pd
  let s := { s with power := { s.power with
    pdOn := s.power.pdOn ||| b, pdOnOrd := s.power.pdOnOrd &&& ~~~b, pdRise := s.power.pdRise &&& ~~~b
    pdBusy := if s.power.pdOffOrd.getLsbD pd then s.power.pdBusy else s.power.pdBusy &&& ~~~b } }
  settleBypass (settleCal (closeSwitches (domainOn s pd balls)))

/-- LPDDR_TRAINING_DONE (R409): local memory is available, and nothing in it has been written. -/
def execLpddrTrainingDone (mib : Nat) (s : State) : Out :=
  if s.power.pdOn.getLsbD 11 ∧ ¬ s.mem.avail ∧ s.dev.mode ≠ .safe then
    .next { s with mem := { avail := true, mib := mib } }
  else .next s

/-! A domain goes off. -/

/-- The lanes of a group that goes off. -/
def lanesOff (s : State) (g : Nat) : State :=
  { s with lanes := (List.range 28).foldl (fun t k => tset {} t (28 * g + k) {}) s.lanes }

/-- What a domain that goes off takes with it. -/
def domainOff (s : State) (d : Nat) : State :=
  let s := clearLatches s d
  if d = 1 then
    changeClock s fun s => { s with clock := { s.clock with
      locked := false, onBypass := true, stepActive := false, relocking := false, lost := false, delayLocked := false } }
  else if d = 2 then
    changeClock s fun s => { s with hw := { s.hw with
      running := false, count := 0, frac := 0, slew := 0, status := freeStatus s, epoch := none } }
  else if d = 4 then closeFord s
  else if 5 ≤ d ∧ d ≤ 8 then lanesOff s (d - 5)
  else if d = 11 then
    { s with mem := {}, levee := { s.levee with poison := [] } }
  else if d = 12 then { s with queues := [], dmas := [], bufFree := 256 }
  else if d = 30 then { s with acqs := [] }
  else if d = 31 then { s with power := { s.power with refFull := false } }
  else
    match domainUnit d with
    | some u =>
      let s := modUnit (unitSafeState s u) u fun v => { v with lossOff := false, marked := false }
      let s := if u < 12 then { s with chans := tmods {} s.chans (pebChans u) fun _ x => { x with drvHigh := false } }
        else s
      { s with dacs := tmods {} s.dacs (unitDacs u) fun _ x => { x with slew := none, held := true } }
    | none => s

/-- May the switch open: nothing on depends on the domain, its unit is OFFLINE or power-cycled, and a DPS group has
discharged? -/
def mayOpen (s : State) (d : Nat) : Bool :=
  s.power.pdOn.getLsbD d && s.power.pdOffOrd.getLsbD d
    && (List.range 32).all (fun e => ! ((domDeps e).contains d && (s.power.pdOn.getLsbD e || s.power.pdRise.getLsbD e)))
    && (match domainUnit d with
      | some u => unitState s u = .offline || (cycled s d && unitState s u = .maintenance)
      | none => true)
    && (d < 26 || 30 ≤ d
      || (List.range 12).all fun k => ! (dpsOf s (12 * (d - 26) + k)).enabled && ! (dpsOf s (12 * (d - 26) + k)).discharging)

/-- DOMAIN_SWITCH_OPENED (R32). A power cycle closes the switch again at once (R376), unless the host has ordered the
domain off meanwhile: the unit is then OFFLINE. -/
def execDomainSwitchOpened (pd : Nat) (s : State) : Out :=
  if pd < 32 ∧ mayOpen s pd ∧ ¬ inReset s then
    let b := bit32 pd
    let s := { s with power := { s.power with
      pdOn := s.power.pdOn &&& ~~~b, pdOffOrd := s.power.pdOffOrd &&& ~~~b
      pdBusy := if s.power.pdOnOrd.getLsbD pd then s.power.pdBusy else s.power.pdBusy &&& ~~~b } }
    let s := domainOff s pd
    match domainUnit pd with
    | none => .next (closeSwitches s)
    | some u =>
      if (unitOf s u).cycling ∧ ¬ (unitOf s u).toOff then
        .next (closeSwitches { s with power := { s.power with
          pdOnOrd := s.power.pdOnOrd ||| b, pdBusy := s.power.pdBusy ||| b } })
      else
        let s := if unitState s u = .maintenance then setUnit s u .offline true else s
        let s := modUnit s u fun v => { v with toOff := false, cycling := false, holder := .none }
        .next (closeSwitches s)
  else .next s

end Sys2Proof.Machine
end

