-- ==== Sys2Proof/Machine/Resets.lean ====
section
/-! DEFINITION. Resets and the control pins: POR_N, WRST_N, RST_CTRL, CLR_N, FORD_CLOSE_N (R12, R24, R25, R29, R30, R35,
R60, R65, R390). The releases, which begin a boot, stand in Boot.lean. -/

namespace Sys2Proof.Machine

/-! Power-on reset. -/

/-- A DPS channel at a reset: disabled; an enabled one discharges, then its passive path closes (Table 2.7). -/
def resetDps (d : Dps) : Dps :=
  if d.enabled ∨ d.discharging then { discharging := true, passive := false } else {}

/-- A table with f of every entry, canonical. -/
def tmapAll {α : Type} [DecidableEq α] (d : α) (t : Tab α) (f : α → α) : Tab α :=
  t.foldl (fun r e => tset d r e.1 (f e.2)) []

/-- While CLR_N is low through a reset, the set-point DACs wait for a strobe after its release (R35). -/
def clearedDacs (clrLow : Bool) (t : Tab Dac) : Tab Dac :=
  if clrLow then tmods {} t ((List.range 48).map dpsKey) fun _ d => { d with byClr := true } else t

/-- POWER_ON_RESET (R29): everything is cleared, domains other than PD0 switch off, the Ford closes; an enabled DPS
output discharges (Table 2.7). The levels at the pins and the rails are the board's and stay. -/
def execPowerOnReset (s : State) : Out :=
  .next {
    pending := s.pending, free := s.free
    power := { rails := s.power.rails, clrLow := s.power.clrLow, fordPinLow := s.power.fordPinLow, pdOn := 1#32 }
    dps := tmapAll {} s.dps resetDps
    dacs := clearedDacs s.power.clrLow []
    clock := { refOk := s.clock.refOk } }

/-! Warm reset. -/

/-- A DAC at a warm reset: its clear codes stay in PD0, its registers hold the clear code (R192, R196). -/
def resetDac (d : Dac) : Dac := { active := d.clear, shadow := d.clear, clear := d.clear, clearI := d.clearI }

/-- A TRIG_IN input at a warm reset: its level is the board's. -/
def resetTrig (x : Trig) : Trig := { mon := { st := x.mon.st, rep := x.mon.st } }

/-- The part of Levee's state that PD0 keeps (R361, R364, R65). The latches of every other domain's detectors are
cleared, since those domains switch off (R354). -/
def keptLevee (l : Levee) : Levee :=
  { log := l.log, head := l.head, ackTo := l.ackTo, lost := l.lost, ovf := l.ovf, ctrl := l.ctrl, cellarOk := l.cellarOk, thermLost := l.thermLost
    latches := l.latches.filter fun x => (detDomain x.det.toNat x.region.toNat).getD 0 = 0 }

/-- The ledger at a warm reset: a LANE item that has counted bits will end PARTIAL (R301). -/
def keepBits (s : State) : Tab Slot :=
  tmods {} s.ledger (tkeys s.ledger fun i l => inFlight l && l.kind = some .lane &&
    (itemLanes s i).any fun n => (laneOf s n).bits ≠ 0) fun _ l => { l with afar := true }

/-- A warm reset: PD0 stays (ledger, boot ROM state, clear codes, event log, housekeeping registers), every other
domain switches off, the outputs are in reset. -/
def warmHold (s : State) (cause : Nat) : State :=
  { pending := s.pending, free := s.free, ledger := keepBits s, order := s.order, msp := s.msp, jtag := s.jtag
    power := {
      warmHeld := true, node := s.power.node, src := s.power.src, rails := s.power.rails, clrLow := s.power.clrLow
      fordPinLow := s.power.fordPinLow, pdOn := 1#32, cause := cause }
    dev := { mode := s.dev.mode, prev := s.dev.prev, changes := s.dev.changes }
    clock := { refOk := s.clock.refOk }
    hw := { lastLoss := s.hw.lastLoss, lossCount := s.hw.lossCount }
    boot := { excess := s.boot.excess, error := s.boot.error, warm := true }
    dacs := clearedDacs s.power.clrLow (tmapAll {} s.dacs resetDac)
    dps := tmapAll {} s.dps resetDps
    cfg := { trig := tmapAll {} s.cfg.trig resetTrig }
    house := { temp := s.house.temp, rail := s.house.rail, ref0 := s.house.ref0, ref1 := s.house.ref1,
               slot := s.house.slot, round := s.house.round, slots := s.house.slots, subst := s.house.subst }
    levee := keptLevee s.levee }

/-- WARM_RESET (R30): WRST_N, or the write to RST_CTRL that was accepted, takes effect. -/
def execWarmReset (s : State) : Out :=
  if s.power.porHeld ∨ s.power.warmHeld then .next s
  else .next (warmHold s (if s.power.warmSched then 2 else 1))

/-- A write to RST_CTRL (R390): WARM with KEY 0x5A schedules a warm reset. -/
def writeRstCtrl (s : State) (v : Word) : State :=
  if v.getLsbD 0 ∧ (v >>> 8).setWidth 8 = 0x5A#8 then { s with power := { s.power with warmSched := true } } else s

/-- RST_CTRL_WARM (R390). -/
def execRstCtrlWarm (value : Word) (s : State) : Out :=
  if inReset s then .next s else .next (writeRstCtrl s value)

/-! CLR_N (R35). -/

/-- CLR_N_ASSERT: every DAC's output stands at its clear code. -/
def execClrNAssert (s : State) : Out :=
  let s := { s with
    power := { s.power with clrLow := true }
    dacs := tmods {} s.dacs (((tkeys s.dacs fun _ d => ! d.held || ! d.byClr)
      ++ (List.range 48).map dpsKey).dedup) fun _ d => { d with held := true, byClr := true } }
  .next (((List.range 48).filter fun n => (dpsOf s n).enabled).foldl followDac s)

/-- CLR_N_RELEASE: each DAC stays at its clear code until its next strobe or write. -/
def execClrNRelease (s : State) : Out := .next { s with power := { s.power with clrLow := false } }

/-! FORD_CLOSE_N (R25, R60, R61, R67). -/

/-- Entry to BYPASS from a mode of firmware; before the boot report the items wait for its sweep (R74; log 43). -/
def toBypass (s : State) : State := if s.boot.reported then enterBypass s else setMode (closeFord s) .bypass

/-- A download that a Trellis boot discards. -/
def dropDownload (b : Boot) : Boot := { b with img := [], got := 0, covered := [], offered := 0, source := none, phase := .waiting }

/-- FORD_CLOSE_N falls in BOOT: a Trellis boot that has opened the Ford waits, and discards a download under way. -/
def bootFordFalls (s : State) : State :=
  match s.boot.wait with
  | .measure | .train | .request =>
    { s with boot :=
      if s.boot.phase = .verifying then { s.boot with wait := .ford }
      else { dropDownload s.boot with wait := .ford, error := 0x09#8 } }
  | _ => s

/-- FORD_CLOSE_N_FALL (R25). -/
def execFordCloseNFall (s : State) : Out :=
  let s := closeFord { s with power := { s.power with fordPinLow := true } }
  if inReset s then .next s
  else
    match s.dev.mode with
    | .loaded | .calibrate | .idle | .armed | .run | .pause | .diagnostic => .next (toBypass s)
    | .service => .next { s with svc := { s.svc with ford := true } }
    | .boot => .next (bootFordFalls s)
    | _ => .next s

/-- FORD_CLOSE_N_RISE (R25): in BOOT a Trellis boot that waits for it reopens the Ford and measures again; without HWREF it
waits on (R67). -/
def execFordCloseNRise (s : State) : Out :=
  let s := { s with power := { s.power with fordPinLow := false } }
  if ¬ inReset s ∧ s.dev.mode = .boot ∧ s.boot.wait = .ford ∧ s.clock.refOk then
    .next (openFordWith { s with boot := { s.boot with wait := .measure } } fun q => { q with st := .down })
  else .next s

end Sys2Proof.Machine
end

