-- ==== Sys2Proof/Machine/Boot.lean ====
section
/-! DEFINITION. The boot ROM and the start of Spabry (R24, R67 to R74, R328, R330), and the two commands through which a
Trellis boot goes on: ADPLL_LOCK_COMPLETE and DOMAIN_READY. -/

namespace Sys2Proof.Machine

/-! The stages of a Trellis boot (R67). -/

def bootError (s : State) (code : Nat) (w : BootWait) : State :=
  { s with boot := { s.boot with error := BitVec.ofNat 8 code, wait := w } }

/-- The rate measurement: the Ford is open, and no port trains before its end (R67). -/
def bootMeasure (s : State) : State :=
  let s := openFordWith { s with boot := { s.boot with wait := .measure } } fun q => { q with st := .down }
  (List.range 4).foldl (fun s p =>
    if (portOf s p).st = .training then changePort s p fun q => { q with st := .down, lanes := 0, full := false } else s) s

/-- The step before the rate measurement: the Ford opens, or the boot waits for FORD_CLOSE_N. -/
def bootFord (s : State) : State := if s.power.fordPinLow then bootError s 0x09 .ford else bootMeasure s

/-- All four ports train at root × 1. -/
def bootTrain (s : State) : State :=
  (List.range 4).foldl (fun s p => changePort s p trainPort) { s with boot := { s.boot with wait := .train } }

/-- After lock: PD4, or the wait for the lane rails. -/
def bootRails (s : State) : State :=
  if s.power.rails.getLsbD 9 ∧ s.power.rails.getLsbD 10 then
    let s := { s with boot := { s.boot with wait := .pd4 } }
    if s.power.pdOn.getLsbD 4 then bootFord s else orderSwitches s (bit32 4) 0
  else bootError s 0x08 .rail

/-- M = 80.0. -/
def m80 : BitVec 28 := 0x5000000#28

/-- HWREF is valid: PD1 is on or ordered, and the ADPLL locks at M = 80.0. -/
def bootLock (s : State) : State :=
  startLock (orderSwitches { s with boot := { s.boot with wait := .lock } } (bit32 1) 0) m80

/-- The boot that BOOT_SRC selects (R67). -/
def startBoot (s : State) : State :=
  if s.power.src = 0 then s
  else if s.power.src = 1 then (if s.clock.refOk then bootLock s else bootError s 0x06 .ref)
  else bootError s 0x01 .strap

/-- Reset ends: PD0 and PD3 are on, MB0's PATH is BOOT_SRC[0], the device is in BOOT. -/
def enterBoot (s : State) : State :=
  let s := { s with
    power := { s.power with porHeld := false, warmHeld := false, pdOn := 0x9#32 }
    levee := { s.levee with cellarOk := true } }
  let s := modMb s 0 fun b => { b with path := s.power.src.getLsbD 0 }
  startBoot (setMode s .boot)

/-- POWER_ON_RESET_RELEASE (R24, R67). -/
def execPowerOnResetRelease (node : BitVec 11) (src : BitVec 2) (s : State) : Out :=
  if s.power.porHeld then .next (enterBoot { s with power := { s.power with node := node, src := src } }) else .next s

/-- WARM_RESET_RELEASE (R67): the straps of the last power-on reset stand. -/
def execWarmResetRelease (s : State) : Out := if s.power.warmHeld then .next (enterBoot s) else .next s

/-- ADPLL_LOCK_COMPLETE (R40). -/
def execAdpllLockComplete (s : State) : Out :=
  if lockReady s then
    let s := closeSwitches (completeLock s)
    if s.dev.mode = .boot ∧ s.boot.wait = .lock then .next (bootRails s)
    else if s.dev.mode = .boot ∧ s.boot.wait = .train then .next (bootTrain s)
    else .next (settleBypass (settleCal s))
  else .next s

/-- DOMAIN_READY (R31). -/
def execDomainReady (pd : Nat) (balls : List (Nat × Int)) (s : State) : Out :=
  if pd < 32 ∧ s.power.pdRise.getLsbD pd ∧ ¬ inReset s then
    let s := domainReady s pd balls
    if s.dev.mode = .boot ∧ pd = 4 ∧ s.boot.wait = .pd4 ∧ s.clock.refOk then .next (bootFord s) else .next s
  else .next s

/-- A Trellis boot that has waited for HWREF goes on from its step (R67). -/
def bootResume (s : State) : State :=
  match s.boot.wait with
  | .ref => bootLock s
  | .rail => bootRails s
  | .pd4 => if s.power.pdOn.getLsbD 4 then bootFord s else s
  | .ford => bootFord s
  | _ => s

/-- BOOT_REF_VALID (R67): HWREF is valid again, where a Trellis boot waits for it. -/
def execBootRefValid (s : State) : Out :=
  if s.dev.mode = .boot ∧ s.boot.wait ≠ .none ∧ s.boot.wait ≠ .strap ∧ s.boot.error = 0x06#8 ∧ ¬ inReset s then
    .next (bootResume { s with clock := { s.clock with refOk := true } })
  else .next s

/-- BOOT_RAIL_READY (R67): AVDD_LANE and AVDDH_LANE read inside tolerance. -/
def execBootRailReady (s : State) : Out :=
  if s.dev.mode = .boot ∧ s.boot.wait = .rail ∧ s.clock.refOk ∧ ¬ inReset s then
    .next (bootRails { s with power := { s.power with rails := putBit (putBit s.power.rails 9 true) 10 true } })
  else .next s

/-- BOOT_RATE_MEASURED (R67), against HWREF: the ADPLL relocks where M lies more than ±0.2 % from the lock point, and the
ports train at the lock. -/
def execBootRateMeasured (m : BitVec 28) (s : State) : Out :=
  if s.dev.mode = .boot ∧ s.boot.wait = .measure ∧ s.clock.refOk ∧ ¬ inReset s ∧ mLegal m.toNat then
    if withinStep s.clock.mLock.toNat m.toNat then .next (bootTrain s)
    else .next (startLock { s with boot := { s.boot with wait := .train } } m)
  else .next s

/-- BOOT_RATE_TIMEOUT (R67): M = 80.0 is kept. A repeated measurement that times out keeps the present lock point, which
an earlier one may have chosen (log 135). -/
def execBootRateTimeout (s : State) : Out :=
  if s.dev.mode = .boot ∧ s.boot.wait = .measure ∧ s.clock.refOk ∧ ¬ inReset s then .next (bootTrain s) else .next s

/-- BOOT_TRAIN_TIMEOUT (R67): the rate is measured again. -/
def execBootTrainTimeout (s : State) : Out :=
  if s.dev.mode = .boot ∧ s.boot.wait = .train ∧ s.clock.locked ∧ ¬ inReset s then .next (bootMeasure s) else .next s

/-- A port has trained: boot requests begin. -/
def bootTrained (s : State) : State :=
  if s.dev.mode = .boot ∧ s.boot.wait = .train then { s with boot := { s.boot with wait := .request } } else s

/-- BOOT_REQUEST_TIMER (R67, R328): on every trained port, until a download begins. -/
def execBootRequestTimer (s : State) : Out :=
  if s.dev.mode = .boot ∧ s.boot.wait = .request ∧ (s.boot.phase = .waiting ∨ s.boot.phase = .failed) ∧ ¬ inReset s then
    .next (((List.range 4).filter fun p => portUp (portOf s p)).foldl (fun s p =>
      holdFor s p 8 (mkPacket s 0x50 (portOf s p).nbAddr.toNat 0 (3 + 256 * s.boot.attempts.toNat) 0 0 [])) s)
  else .next s

/-- BOOT_SOURCE_SILENT (R71). -/
def execBootSourceSilent (s : State) : Out :=
  if s.dev.mode = .boot ∧ s.boot.phase = .receiving ∧ s.boot.source.isSome then
    .next { s with boot := { dropDownload s.boot with error := 0x07#8 } }
  else .next s

/-! The image (R68 to R73). -/

/-- The image body that the cores run from (R369). -/
def runningBank (s : State) : List Byte := if s.boot.bank = 0 then s.boot.bank0 else s.boot.bank1

/-- The bytes of the image received, n of them. -/
def bootBytes (s : State) (n : Nat) : List Byte := (List.range n).map fun i => tget 0 s.boot.img i

/-- Checks 1 to 4 of Table 4.5 on a header: the ERROR of the first that fails. -/
def headerError (h : List Byte) : Option Nat :=
  if ¬ (bytesAt h 0 4 = 0x4B574657 ∧ bytesAt h 4 2 = 1 ∧ bytesAt h 6 2 = 128) then some 2
  else if ¬ (allZero ((h.drop 24).take 40) ∧ allZero ((h.drop 96).take 32)) then some 2
  else if ¬ bitOf (bytesAt h 8 4) 3 then some 3
  else
    let b := bytesAt h 16 4
    let e := bytesAt h 20 4
    if b % 64 = 0 ∧ 64 ≤ b ∧ b ≤ 4194304 ∧ e % 4 = 0 ∧ e < b then none else some 4

/-- Check 5: the digest covers header bytes 0 to 63 and the whole body. -/
def digestOk (img : List Byte) : Bool := sha256 (img.take 64 ++ img.drop 128) = (img.drop 64).take 32

/-- BOOT_DONE to the source (R330). -/
def sendBootDone (s : State) (dest code : Nat) : State := sendPlain s 8 (mkPacket s 0x53 dest code 0 0 0 [])

/-- A failed check (R72). -/
def bootFails (s : State) (code : Nat) : State :=
  let s := match s.boot.source with
    | some d => sendBootDone s d.toNat code
    | none => s
  { s with boot := { dropDownload s.boot with
      phase := .failed, error := BitVec.ofNat 8 code
      attempts := if s.boot.attempts = BitVec.allOnes 8 then s.boot.attempts else s.boot.attempts + 1 } }

/-- A new download begins: ERROR is cleared (Table 4.7). -/
def beginDownload (s : State) : State :=
  { s with boot := { dropDownload s.boot with
      phase := .receiving, error := 0, source := s.boot.source, offered := s.boot.offered } }

/-- Bytes of the whole image, once its header is there. -/
def imageLen (s : State) : Nat := 128 + bytesAt (bootBytes s 128) 16 4

/-- One byte of a stream (R70). -/
def streamByte (s : State) (b : Byte) : State :=
  if s.boot.phase = .verifying ∨ s.boot.phase = .started then { s with boot := { s.boot with excess := true } }
  else
    let s := if s.boot.phase = .receiving then s else beginDownload s
    let s := { s with boot := { s.boot with img := tset 0 s.boot.img s.boot.got b, got := s.boot.got + 1 } }
    if s.boot.got = 128 then
      match headerError (bootBytes s 128) with
      | some e => bootFails s e
      | none => s
    else if 128 < s.boot.got ∧ s.boot.got = imageLen s then { s with boot := { s.boot with phase := .verifying } }
    else s

/-- The Cellar starts at ENTRY (R73). The report watchdog runs. -/
def startCellar (s : State) : State :=
  let img := bootBytes s (imageLen s)
  let s := match s.boot.source with
    | some d => sendBootDone s d.toNat 0
    | none => s
  let s := { s with
    boot := { s.boot with
      phase := .started, bank0 := img.drop 128, bank1 := [], bank := 0, version := BitVec.ofNat 32 (bytesAt img 12 4)
      running := true, reported := false, img := [], got := 0, covered := [], wait := .none }
    levee := { s.levee with dogBoot := true } }
  let s := setMode s .loaded
  if s.power.fordPinLow then toBypass s else s

/-- BOOT_DIGEST_DONE (R69). -/
def execBootDigestDone (s : State) : Out :=
  if s.dev.mode = .boot ∧ s.boot.phase = .verifying ∧ ¬ inReset s then
    if digestOk (bootBytes s (imageLen s)) then .next (startCellar s) else .next (bootFails s 5)
  else .next s

/-- A write to BOOT_CTRL: RESTART in BOOT (R70). -/
def writeBootCtrl (s : State) (v : Word) : State :=
  if v.getLsbD 0 ∧ s.dev.mode = .boot then { s with boot := dropDownload s.boot } else s

/-- BOOT_RESTART (R70). -/
def execBootRestart (value : Word) (s : State) : Out := if inReset s then .next s else .next (writeBootCtrl s value)

/-! The boot report (R74). -/

/-- A slot that the report sweeps: PARTIAL where a completed result lies in another node's memory, all else being lost with
the domains that held it (R98). -/
def sweepSlot (t : Count) (l : Slot) : Slot :=
  { l with st := .failed, reason := BitVec.ofNat 8 rReset, tEnd := t, cause := none, armed := false, budget := false,
           flags := if l.afar then l.flags ||| 64 else l.flags }

/-- BOOT_REPORT (R74): the slots are swept, then the report is posted. Over Trellis its destination is not stated: a free
value (log 23). The run watchdog takes over from the report's, and Spabry retires the swept items of its own (R95). -/
def execBootReport (s : State) : Out :=
  if s.boot.running ∧ ¬ s.boot.reported ∧ (s.dev.mode = .loaded ∨ s.dev.mode = .bypass) then
    let open_ := slotsWhere s openSlot
    let t := stamp s
    let s := open_.foldl (fun s i => modSlot s i (sweepSlot t)) s
    let s := { s with boot := { s.boot with reported := true, pressStore := Config.pressMicro (runningBank s) }, levee := { s.levee with dogBoot := false, dogRun := true } }
    let src := match s.boot.source with
      | some d => d.toNat
      | none => 0
    let fields := [(16, 4, s.boot.version.toNat), (20, 1, 3), (21, 1, s.power.cause), (22, 2, open_.length),
      (24, 2, src), (26, 2, unacked s), (28, 4, s.boot.attempts.toNat)]
    let (d, s) := takeFree s 2048
    .next (retireOwn (noticeNow s 0 (if (mbOf s 0).path then d else 0) (mbOf s 0).path (mkNotice s 0x0F02 0 0 48 fields)))
  else .next s

end Sys2Proof.Machine
end

