-- ==== Sys2Proof/Machine/Inbox.lean ====
section
/-! DEFINITION. Mailbox messages that arrive over Trellis: the request rings and the broadcast requests that wait for
room in them (R81, R88, R321, R323). -/

namespace Sys2Proof.Machine

/-- A message as it enters a request ring: NODE is the sender's address, VIA_FABRIC and BROADCAST tell how it came
(Tables 5.4, 5.5). -/
def arrived (pkt : Packet) (bcast : Bool) : Msg :=
  putBit (putBit (msgOfBytes (pkt.data.take 10 ++ le 2 (pkt.src.toNat % 2048) ++ pkt.data.drop 12)) 19 true) 20 bcast

/-- Has the request ring of a mailbox room (R79)? -/
def ringRoom (s : State) (n : Nat) : Bool := occupancy (mbOf s n).reqHead (mbOf s n).reqTail < 256

/-- The Trellis interface writes a request entry and advances REQ_HEAD. -/
def putRequest (s : State) (n : Nat) (m : Msg) : State :=
  modMb s n fun b => { b with req := tset 0 b.req (b.reqHead.toNat % 256) m, reqHead := b.reqHead + 1 }

/-- The Trellis interface answers a message for MB0 with REFUSED_PATH itself (R81); it stands in no ring. Table 6.3 gives
no DETAIL for this status: a free value (log 57). -/
def refusePath (s : State) (pkt : Packet) (bcast : Bool) : State :=
  let (d, s) := takeFree s (2 ^ 32)
  sendMsg s 4 (pkt.src.toNat % 2048) (refusal s (arrived pkt bcast) 0x19 d)

/-- The mailbox a packet names (Table 17.3). -/
def boxOf (pkt : Packet) : Nat := pkt.arg0.toNat % 4

/-- Does MB0 take messages by its window (R81)? -/
def wrongPath (s : State) (n : Nat) : Bool := n = 0 && ! (mbOf s 0).path

/-- Can a broadcast request be taken now? One for a mailbox that takes none needs no room. -/
def bcastReady (s : State) (pkt : Packet) : Bool :=
  2 ≤ boxOf pkt || wrongPath s (boxOf pkt) || ringRoom s (boxOf pkt)

/-- Takes a broadcast request; one that names MB2 or MB3 is discarded. -/
def takeBcast (s : State) (pkt : Packet) : State :=
  if 2 ≤ boxOf pkt then s
  else if wrongPath s (boxOf pkt) then refusePath s pkt true
  else putRequest s (boxOf pkt) (arrived pkt true)

/-- Takes what a port's ingress holds, while there is room, at most n messages. -/
def drainPort : Nat → State → Nat → State
  | 0, s, _ => s
  | n + 1, s, p =>
    match (portOf s p).ingress with
    | [] => s
    | pkt :: rest =>
      if bcastReady s pkt then
        drainPort n (takeBcast (freeInput (modPort s p fun q => { q with ingress := rest }) (2 * p + pktDl pkt) pkt) pkt) p
      else s

/-- Takes the broadcast requests that now find room. -/
def drainIngress (s : State) : State :=
  (List.range 4).foldl (fun s p => drainPort (portOf s p).ingress.length s p) s

end Sys2Proof.Machine
end

