-- ==== Sys2Proof/Machine/Req.lean ====
section
/-! DEFINITION. Taking a request (R85, R86) and the checks that come before a command's own (R102 to R107, R119). -/

namespace Sys2Proof.Machine

/-- The mode sets of Table 6.4. -/
def setAny : List Mode := [.loaded, .calibrate, .idle, .armed, .run, .pause, .diagnostic, .safe, .bypass]
def setUp : List Mode := [.calibrate, .idle, .armed, .run, .pause, .diagnostic, .safe, .bypass]
def setOp : List Mode := [.idle, .armed, .run, .pause]
def setIa : List Mode := [.idle, .armed]

/-- The commands of Tables 6.9 to 6.17 with their mode sets. -/
def commandModes : List (Nat × List Mode) :=
  [(0x0001, setAny), (0x0002, [.loaded]), (0x0003, [.idle]), (0x0004, [.armed]), (0x0005, [.run]), (0x0006, [.pause]),
   (0x0007, [.loaded, .idle]), (0x0008, [.bypass]), (0x0009, [.idle]), (0x000A, [.diagnostic]), (0x000B, setOp),
   (0x000C, setAny), (0x000D, setOp)]
  ++ [(0x0101, setOp), (0x0102, setOp), (0x0103, setAny), (0x0104, setAny)]
  ++ [(0x0201, setAny), (0x0202, [.idle, .armed, .pause]), (0x0203, setOp), (0x0204, setIa), (0x0205, setIa),
      (0x0206, setIa), (0x0207, setIa)]
  ++ [(0x0301, [.idle]), (0x0302, setIa), (0x0303, setIa), (0x0304, setOp), (0x0305, [.idle, .armed, .pause]),
      (0x0306, setOp), (0x0307, setIa), (0x0308, setOp)]
  ++ [(0x0401, setOp), (0x0402, setIa), (0x0403, [.idle]), (0x0404, setOp), (0x0405, setOp), (0x0406, setOp),
      (0x0407, setIa)]
  ++ [(0x0501, setIa), (0x0502, setIa), (0x0503, setOp), (0x0504, [.armed, .run, .pause]), (0x0505, setOp),
      (0x0506, setOp)]
  ++ [(0x0601, setOp), (0x0602, setOp), (0x0603, setUp), (0x0604, setOp)]
  ++ [(0x0701, setUp), (0x0702, setOp), (0x0703, [.idle]), (0x0704, setOp)]
  ++ [(0x0801, setUp), (0x0802, setUp), (0x0803, .diagnostic :: setOp), (0x0901, setOp)]

/-- The mode set of an opcode; none for an unknown one (R102). -/
def modesOf (op : Nat) : Option (List Mode) := (commandModes.find? fun e => e.1 = op).map (·.2)

/-- What MB1 takes, and what may not come as a broadcast (R119). -/
def mb1Takes : List Nat := [0x0001, 0x0201, 0x0101, 0x0102, 0x0103, 0x0104]
def notBroadcast (op : Nat) : Bool :=
  [0x0102, 0x0103, 0x0104, 0x0504, 0x0301, 0x0703, 0x0206, 0x0205].contains op || (6 ≤ op / 256 && op / 256 ≤ 9)

/-! Taking. -/

/-- The request at REQ_TAIL. -/
def frontReq (s : State) (n : Nat) : Msg := tget 0 (mbOf s n).req ((mbOf s n).reqTail.toNat % 256)

/-- May Spabry take a request of the mailbox: one waits, and a response entry is free for it (R86)? -/
def takeable (s : State) (n : Nat) : Bool := (mbOf s n).reqHead ≠ (mbOf s n).reqTail && 1 ≤ rspFree (mbOf s n)

/-- MB0, MB1 and MB3 in turn (R85): rr is the mailbox whose turn it is. -/
def turnOrder (rr : Nat) : List Nat := if rr = 1 then [1, 3, 0] else if rr = 3 then [3, 0, 1] else [0, 1, 3]
def turnAfter (n : Nat) : Nat := if n = 0 then 1 else if n = 1 then 3 else 0

/-- The mailbox that Spabry takes its next request from, if it takes one now: not during SERVICE, not before the boot
report, and not while a Ford drain holds it (R74, R85, R97, R99). -/
def nextMailbox (s : State) : Option Nat :=
  if ¬ spabryUp s ∨ s.dev.mode = .service ∨ inReset s ∨ s.power.fordDrain then none
  else (2 :: turnOrder s.rr).find? (takeable s)

/-- Takes the front request of a mailbox: it is copied, and REQ_TAIL advances past it (R80), which may let in
a broadcast request that waited (R321). Payload beyond LENGTH reads zero (R104). -/
def takeFront (s : State) (n : Nat) : Msg × State :=
  let m := trimmed (frontReq s n)
  let s := drainIngress (modMb s n fun b => { b with reqTail := b.reqTail + 1 })
  (m, if n = 2 then s else { s with rr := turnAfter n })

/-! Checks. -/

/-- A reserved field of the header that is not zero (R5, Tables 5.4, 5.5). -/
def headReserved (m : Msg) : Bool :=
  Msg.field m 2 2 / 128 ≠ 0 || Msg.field m 6 2 / 4096 ≠ 0 || Msg.field m 10 2 / 2048 ≠ 0
    || (extLen m ≠ 0 && extAddr m / 2 ^ 41 ≠ 0)

/-- A command's reserved fields, as (offset, bytes) spans: is one not zero? -/
def resvAt (spans : List (Nat × Nat)) (m : Msg) : Bool := spans.any fun e => Msg.field m e.1 e.2 ≠ 0
def noResv (_ : Msg) : Bool := false

/-- Is the extension of the length the command needs (Tables 6.9 to 6.17)? -/
def extFits (m : Msg) : Bool :=
  let n := extLen m
  match Msg.field m 0 2 with
  | 0x0101 => n = 0 || (pKind m = 1 && n = 64)
  | 0x0103 => n = 0 || n = 64 * Msg.field m 26 2
  | 0x0104 => n % 4 = 0
  | 0x0205 => n = 64
  | 0x0301 => n = 768
  | 0x0303 => n % 8 = 0
  | 0x0401 => n % 8 = 0
  | 0x0403 => n % 8 = 0
  | 0x0404 => n = 200768
  | 0x0405 => n = 576
  | 0x0801 => n = 32 * Msg.field m 26 2
  | _ => n = 0

/-- Does the command write its extension ("out", R106)? -/
def extOut (m : Msg) : Bool := [0x0103, 0x0205, 0x0801].contains (Msg.field m 0 2)

/-- The extension that a command reads, where every byte of it can be read. -/
def readExt (s : State) (rem : Remote) (m : Msg) : Option (List Byte) :=
  if extLen m = 0 then some [] else readBytes s rem (extAddr m) (extLen m)

/-- Can the extension be written: no page of it is one the device itself finds not held or unavailable (log 48)? -/
def extWritable (s : State) (m : Msg) : Bool :=
  extLen m = 0 || (List.range (extLen m / 65536 + 2)).all fun k =>
    let a := extAddr m + min (65536 * k) (extLen m - 1)
    match localStatus s a 1 with
    | some 1 => false
    | some 3 => false
    | _ => true

/-- Check 2 of Table 6.2; an extension that cannot be read or written fails it too (log 48). -/
def lengthFails (s : State) (rem : Remote) (m : Msg) : Bool :=
  48 < Msg.field m 8 1 || 16777216 < extLen m || (extLen m ≠ 0 && extAddr m % 64 ≠ 0) || ! extFits m
    || (if extOut m then ! extWritable s m else (readExt s rem m).isNone)

/-- The item a request names: its slot. -/
def namedSlot (m : Msg) : Nat := Msg.field m 6 2 % 2048

/-- The first check that fails, of those given as (fails, STATUS, DETAIL). -/
def firstFail (cs : List (Bool × Nat × Nat)) : Option (Nat × Nat) := (cs.find? (·.1)).map (·.2)

/-- A submission of a kind that the mode does not dispatch (R58). -/
def kindRefused (s : State) (m : Msg) : Bool :=
  Msg.field m 0 2 = 0x0101 && (s.dev.mode = .idle || s.dev.mode = .pause) && pKind m ≠ 4 && pKind m ≠ 5 && pKind m ≤ 8

/-- Checks 2 to 5 of Table 6.2, for an opcode that is known. -/
def earlyChecks (s : State) (n : Nat) (rem : Remote) (m : Msg) : List (Bool × Nat × Nat) :=
  let op := Msg.field m 0 2
  [(lengthFails s rem m, 0x18, 0),
   (! ((modesOf op).getD []).contains s.dev.mode || kindRefused s m, 0x11, modeCode s.dev.mode),
   (n = 1 && ! mb1Takes.contains op, 0x10, 1),
   (reqFlag m 4 && notBroadcast op, 0x10, 2),
   ((op = 0x0102 || op = 0x0504) && Msg.field m 6 2 % 4096 ≠ itemId s (namedSlot m), 0x15, itemId s (namedSlot m))]

/-- Posts a refusal. -/
def refuse (s : State) (n : Nat) (m : Msg) (e : Nat × Nat) : State := respond s n m (refusal s m e.1 e.2)

/-- Posts DONE with a payload. -/
def done (s : State) (n : Nat) (m : Msg) (len : Nat) (fields : List (Nat × Nat × Nat)) : State :=
  respond s n m (doneResp s m len fields)

/-- Carries out a command of which the request at the front of mailbox n is an instance: reserved fields of the header are
a misuse (R367), then come checks 2 to 5, then the reserved fields of the command, its own checks, its effect. Payload
bytes that the command's row neither names nor marks reserved are not judged (R114; log 132). With no such request
nothing happens (log 15). -/
def serve (op n : Nat) (rem : Remote) (s : State) (resv : Msg → Bool) (own : State → Msg → List (Bool × Nat × Nat))
    (run : State → Msg → Out) : Out :=
  if nextMailbox s = some n ∧ Msg.field (frontReq s n) 0 2 = op then
    let (m, s) := takeFront s n
    if headReserved m then .fault .reservedField
    else
      match firstFail (earlyChecks s n rem m) with
      | some e => .next (refuse s n m e)
      | none =>
        if resv m then .fault .reservedField
        else
          match firstFail (own s m) with
          | some e => .next (refuse s n m e)
          | none => run s m
  else .next s

/-- The commonest form: the effect never stops. -/
def serveNext (op n : Nat) (s : State) (resv : Msg → Bool) (own : State → Msg → List (Bool × Nat × Nat))
    (run : State → Msg → State) : Out :=
  serve op n [] s resv own fun s m => .next (run s m)

/-- No checks of its own. -/
def noChecks (_ : State) (_ : Msg) : List (Bool × Nat × Nat) := []

/-- UNKNOWN_OPCODE_REQUEST (R102). -/
def execUnknownOpcodeRequest (mb : Nat) (s : State) : Out :=
  if nextMailbox s = some mb ∧ modesOf (Msg.field (frontReq s mb) 0 2) = none then
    let (m, s) := takeFront s mb
    if headReserved m then .fault .reservedField else .next (refuse s mb m (0x10, 0))
  else .next s

/-- The lowest slot whose item p holds of, as the DETAIL of REFUSED_BUSY. -/
def busyItem (s : State) (p : Slot → Bool) : Option Nat := ((slotsWhere s p).head?).map (itemId s)

/-- REFUSED_BUSY with the ITEM_ID of one blocking item. -/
def busyIf (b : Option Nat) : Bool × Nat × Nat := (b.isSome, 0x17, b.getD 0)

/-- REFUSED_RANGE at a message offset; REFUSED_BUSY with no item as the blocker. -/
def range (bad : Bool) (off : Nat) : Bool × Nat × Nat := (bad, 0x14, off)
def busy (bad : Bool) : Bool × Nat × Nat := (bad, 0x17, 0xFFFF)

end Sys2Proof.Machine
end

