-- ==== Sys2Proof/Machine/Regs.lean ====
section
/-! DEFINITION. The hardware registers and windows of Table 21.3 as every path reads and writes them (R79 to R81, R387,
R389 to R392). -/

namespace Sys2Proof.Machine

/-! Reads. -/

/-- A register that holds the fields (low bit, value). -/
def packWord (fs : List (Nat × Nat)) : Word := BitVec.ofNat 32 (fs.map fun f => f.2 * 2 ^ f.1).sum

/-- PHASE of BOOT_STATUS (Table 4.7). -/
def phaseCode : BootPhase → Nat
  | .waiting => 0 | .receiving => 1 | .verifying => 2 | .started => 3 | .failed => 4

/-- BOOT_STATUS (Table 4.7). -/
def bootStatus (s : State) : Word :=
  packWord [(24, b2n s.boot.excess), (16, s.boot.error.toNat), (12, phaseCode s.boot.phase), (11, b2n s.boot.warm),
    (8, s.power.src.toNat), (0, s.boot.attempts.toNat)]

/-- Is a master unit running or a select held (Table 21.5)? -/
def mbusy (s : State) : Bool := s.msp.unit || s.msp.selHeld

/-- MSP_STATUS (Table 21.5). -/
def mspStatus (s : State) : Word :=
  packWord [(15, b2n (mbusy s)), (8, modeCode s.dev.mode), (7, b2n (alertLow s)), (5, b2n s.msp.contention),
    (4, b2n s.msp.badAddr), (3, b2n s.msp.badOp), (2, b2n s.msp.overclock), (1, b2n s.msp.frame), (0, b2n s.msp.underrun)]

/-- MSP_MCTRL (Table 21.6). -/
def mspMctrl (s : State) : Word :=
  packWord [(30, b2n s.msp.mdone), (28, s.msp.merr), (27, b2n s.msp.holdCs), (26, b2n s.msp.mode3), (24, s.msp.cs),
    (16, s.msp.len), (8, s.msp.div)]

/-- MBn_DOORBELL (Table 5.2). -/
def doorbellWord (b : Mailbox) : Word :=
  packWord [(31, b2n b.dbOverrun), (30, b2n b.entryBlocked), (29, b2n b.path), (16, b.reqTail.toNat), (0, b.reqHead.toNat)]

/-- MBn_RSP_INDEX (Table 5.3). -/
def rspIndexWord (b : Mailbox) : Word :=
  packWord [(31, b2n b.tailErr), (30, b2n b.alertEn), (16, b.rspTail.toNat), (0, b.rspHead.toNat)]

/-- HW_TIME_LO: zero while PD2 is off (R389). -/
def hwTimeLo (s : State) : Word := if s.power.pdOn.getLsbD 2 then s.hw.count.setWidth 32 else 0

/-- The snapshot of a path. -/
def pathSnap (s : State) : Path → Word
  | .msp => s.hw.snapMsp
  | .jtag => s.hw.snapJtag
  | .fabric => s.hw.snapFab

/-- Word k of a message in a mailbox entry. -/
def msgWord (m : Msg) (k : Nat) : Word := BitVec.ofNat 32 (Msg.field m (4 * k) 4)

/-- The word of a window (mailboxes, Levee log) at a word-aligned address; none outside. During a warm reset the mailbox
window reads zero (R389). -/
def windowWord (s : State) (a : Nat) : Option Word :=
  if 0x20000 ≤ a ∧ a < 0x40000 then
    let b := mbOf s ((a - 0x20000) / 0x8000)
    let e := a % 0x4000 / 64
    some (if s.power.warmHeld then 0
      else if a % 0x8000 < 0x4000 then msgWord (tget 0 b.req e) (a % 64 / 4)
      else msgWord (tget 0 b.rsp e) (a % 64 / 4))
  else if 0x40000 ≤ a ∧ a < 0x44000 then
    some (BitVec.ofNat 32 (bytesAt (eventBytes (tget {} s.levee.log (a % 0x4000 / 32))) (a % 32) 4))
  else none

/-- The word of a register; none outside the map. Write-only fields read zero. -/
def registerWord (s : State) (path : Path) (a : Nat) : Option Word :=
  if a = 0x0 then some 0x4B570300#32
  else if a = 0x4 then some (packWord [(16, ownAddr s), (0, 3)])
  else if 0x8 ≤ a ∧ a < 0x18 then some ((Config.fuseId >>> (8 * (a - 8))).setWidth 32)
  else if a = 0x20 then some (packWord [(8, s.dev.changes.toNat), (4, modeCode s.dev.prev), (0, modeCode s.dev.mode)])
  else if a = 0x24 then some (bootStatus s)
  else if a = 0x28 ∨ a = 0x30 ∨ a = 0x208 then some 0
  else if a = 0x40 then some s.power.pdOn
  else if a = 0x44 then some s.power.pdBusy
  else if a = 0x50 then some (hwTimeLo s)
  else if a = 0x54 then some (if s.power.pdOn.getLsbD 2 then pathSnap s path else 0)
  else if a = 0x60 then some (mspStatus s)
  else if a = 0x64 then some (mspMctrl s)
  else if a = 0x68 then some s.msp.mtx
  else if a = 0x6C then some s.msp.mrx
  else if 0x100 ≤ a ∧ a < 0x120 then
    let b := mbOf s ((a - 0x100) / 8)
    some (if s.power.warmHeld then 0 else if a % 8 = 0 then doorbellWord b else rspIndexWord b)
  else if a = 0x200 then some (BitVec.ofNat 32 (leveeStatus s))
  else if a = 0x204 then some (packWord [(16, s.levee.ackTo.toNat), (0, s.levee.head.toNat)])
  else if a = 0x20C then some s.levee.ctrl
  else if 0x300 ≤ a ∧ a < 0x32C then some (tget 0 s.house.temp ((a - 0x300) / 4))
  else if 0x340 ≤ a ∧ a < 0x37C then some (tget 0 s.house.rail ((a - 0x340) / 4))
  else if a = 0x380 then some s.house.ref0
  else if a = 0x384 then some s.house.ref1
  else windowWord s a

/-- Does a word lie in the map, for a path other than STREAM (R386)? The boot window takes STREAM alone. -/
def mapped (s : State) (a : Nat) : Bool := (registerWord s .msp a).isSome

/-- The latch of HW_TIME_LO: bits [63:32] go to the path's snapshot (R391). -/
def latchTime (s : State) (path : Path) : State :=
  let v : Word := if s.power.pdOn.getLsbD 2 then (s.hw.count >>> 32).setWidth 32 else 0
  match path with
  | .msp => { s with hw := { s.hw with snapMsp := v } }
  | .jtag => { s with hw := { s.hw with snapJtag := v } }
  | .fabric => { s with hw := { s.hw with snapFab := v } }

/-- Reads the words at a, a + 4, …: their values, zero outside the map, and the state with its latches. -/
def readWords : Nat → State → Path → Nat → List Word × State
  | 0, s, _, _ => ([], s)
  | n + 1, s, path, a =>
    let w := (registerWord s path a).getD 0
    let r := readWords n (if a = 0x50 then latchTime s path else s) path (a + 4)
    (w :: r.1, r.2)

/-- Do all n words from a lie in the map? -/
def allMapped (s : State) (a n : Nat) : Bool := (List.range n).all fun k => mapped s (a + 4 * k)

/-! Writes. -/

/-- Do window writes serve a mailbox: MB0 with PATH 0, and MB3 (R80, R81)? -/
def windowServes (s : State) (n : Nat) : Bool := n = 3 || (n = 0 && ! (mbOf s 0).path)

/-- Is a request entry free (R79)? -/
def entryFree (b : Mailbox) (e : Nat) : Bool := occupancy b.reqHead b.reqTail ≤ (e + 512 - b.reqTail.toNat) % 256

/-- A write to a request entry (R80). -/
def writeEntry (s : State) (n e k : Nat) (v : Word) : State :=
  if windowServes s n ∧ entryFree (mbOf s n) e then
    let m := tget 0 (mbOf s n).req e
    let m := (m &&& ~~~(0xFFFFFFFF#512 <<< (32 * k))) ||| (v.setWidth 512 <<< (32 * k))
    modMb s n fun b => { b with req := tset 0 b.req e m }
  else modMb s n fun b => { b with entryBlocked := true }

/-- The REQ_HEAD part of a doorbell write (R80). -/
def writeHead (s : State) (n : Nat) (h : BitVec 9) : State :=
  let b := mbOf s n
  if h = b.reqHead then s
  else if ¬ windowServes s n then modMb s n fun b => { b with entryBlocked := true }
  else if occupancy h b.reqTail ≤ 256 ∧ occupancy b.reqHead b.reqTail ≤ occupancy h b.reqTail then
    modMb s n fun b => { b with reqHead := h }
  else modMb s n fun b => { b with dbOverrun := true }

/-- Sends the response entry at index i of MB0, which the window has not released, to a node that no rule names: a free
value (log 23). -/
def sendUnread (s : State) (i : BitVec 9) : State :=
  let (d, s) := takeFree s 2048
  sendMsg s 0 d (tget 0 (mbOf s 0).rsp (i.toNat % 256))

/-- The PATH part (R80, R81): it takes effect while the request ring is empty. With PATH 1 the Trellis interface takes
what stands in the response ring (Table 5.3). -/
def writePath (s : State) (path : Bool) : State :=
  let b := mbOf s 0
  if path ≠ b.path ∧ b.reqHead = b.reqTail then
    let s := modMb s 0 fun b => { b with path := path }
    if path then
      (List.range (occupancy b.rspHead b.rspTail)).foldl (fun s k => sendUnread s (b.rspTail + BitVec.ofNat 9 k)) s
    else
      { s with fabric := { s.fabric with copies := s.fabric.copies.map fun c =>
        if c.mb = 0 then { c with mb := 4 } else c } }
  else s

/-- A write to MBn_DOORBELL (R80): a flag that the write sets wins over its own clearing. -/
def writeDoorbell (s : State) (n : Nat) (v : Word) : State :=
  let s := modMb s n fun b => { b with
    dbOverrun := b.dbOverrun && ! v.getLsbD 31, entryBlocked := b.entryBlocked && ! v.getLsbD 30 }
  let s := writeHead s n (v.setWidth 9)
  if n = 0 then writePath s (v.getLsbD 29) else s

/-- The RSP_TAIL part of an index write (R80). A write that leaves RSP_TAIL as it stands is none. -/
def writeTail (s : State) (n : Nat) (t : BitVec 9) : State :=
  let b := mbOf s n
  if t = b.rspTail then s
  else if windowServes s n ∧ (t - b.rspTail).toNat ≤ occupancy b.rspHead b.rspTail then
    modMb s n fun b => { b with rspTail := t }
  else modMb s n fun b => { b with tailErr := true }

/-- A write to MBn_RSP_INDEX. -/
def writeRspIndex (s : State) (n : Nat) (v : Word) : State :=
  let s := modMb s n fun b => { b with
    tailErr := b.tailErr && ! v.getLsbD 31, alertEn := if n = 0 ∨ n = 3 then v.getLsbD 30 else b.alertEn }
  writeTail s n ((v >>> 16).setWidth 9)

/-- Clears the W1C flags of MSP_STATUS. -/
def clearMsp (s : State) (v : Word) : State :=
  { s with msp := { s.msp with
      contention := s.msp.contention && ! v.getLsbD 5, badAddr := s.msp.badAddr && ! v.getLsbD 4
      badOp := s.msp.badOp && ! v.getLsbD 3, overclock := s.msp.overclock && ! v.getLsbD 2
      frame := s.msp.frame && ! v.getLsbD 1, underrun := s.msp.underrun && ! v.getLsbD 0 } }

/-- A write to MSP_MCTRL (R387, Table 21.6). While a unit runs it acts on MDONE alone; with a select held between units
it sets the next one up, and a change of CS raises the select (log 44). START with CS 0 ends NO_SELECT. -/
def writeMctrl (s : State) (busy : Bool) (v : Word) : State :=
  let done := s.msp.mdone && ! v.getLsbD 30
  if busy then { s with msp := { s.msp with mdone := done } }
  else
    let cs := ((v >>> 24).setWidth 2).toNat
    let m := { s.msp with
      mdone := done, holdCs := v.getLsbD 27, mode3 := v.getLsbD 26, cs := cs, len := ((v >>> 16).setWidth 5).toNat
      div := ((v >>> 8).setWidth 8).toNat, selHeld := s.msp.selHeld && cs = s.msp.cs }
    let m := if v.getLsbD 31 then
        (if cs = 0 then { m with merr := 2, mdone := true } else { m with unit := true })
      else m
    { s with msp := m }

/-- A write of one word inside a unit of writes; busy tells whether a master unit ran when the unit began. Writes to RO
and unmapped addresses change nothing (R389). -/
def writeWord (s : State) (busy : Bool) (a : Nat) (v : Word) : State :=
  if a = 0x24 then { s with boot := { s.boot with excess := s.boot.excess && ! v.getLsbD 24 } }
  else if a = 0x28 then writeBootCtrl s v
  else if a = 0x30 then writeRstCtrl s v
  else if a = 0x60 then clearMsp s v
  else if a = 0x64 then writeMctrl s busy v
  else if a = 0x68 then (if busy then s else { s with msp := { s.msp with mtx := v } })
  else if 0x100 ≤ a ∧ a < 0x120 then
    if s.power.warmHeld then s
    else if a % 8 = 0 then writeDoorbell s ((a - 0x100) / 8) v
    else writeRspIndex s ((a - 0x100) / 8) v
  else if a = 0x208 then ackEvents s (v.setWidth 16)
  else if a = 0x20C then writeCtrl s v
  else if 0x20000 ≤ a ∧ a < 0x40000 ∧ a % 0x8000 < 0x4000 then
    if s.power.warmHeld then s else writeEntry s ((a - 0x20000) / 0x8000) (a % 0x4000 / 64) (a % 64 / 4) v
  else s

/-- Writes words from address a as one unit (R392). -/
def writeWords (s : State) (a : Nat) (ws : List Word) : State :=
  let busy := s.msp.unit
  ((List.range ws.length).zip ws).foldl (fun s e => writeWord s busy (a + 4 * e.1) e.2) s

/-! The commands that name one register. They come by any path, and act from the release of power-on reset. -/

/-- A register write outside the commands of their own (R389). -/
def execRegisterWrite (addr : BitVec 24) (value : Word) (s : State) : Out :=
  if s.power.porHeld ∨ addr.toNat % 4 ≠ 0 then .next s else .next (writeWords s addr.toNat [value])

/-- HW_TIME_LO_READ (R391). -/
def execHwTimeLoRead (path : Path) (s : State) : Out := if s.power.porHeld then .next s else .next (latchTime s path)

/-- MB_DOORBELL_WRITE (R80). -/
def execMbDoorbellWrite (n : Nat) (value : Word) (s : State) : Out :=
  if inReset s ∨ 4 ≤ n then .next s else .next (writeDoorbell s n value)

/-- MB0_PATH_CHANGE (R81). -/
def execMb0PathChange (path : Bool) (s : State) : Out := if inReset s then .next s else .next (writePath s path)

/-- RSP_TAIL_WRITE (R80). -/
def execRspTailWrite (n : Nat) (value : Word) (s : State) : Out :=
  if inReset s ∨ 4 ≤ n then .next s else .next (writeRspIndex s n value)

/-- REQUEST_ENTRY_WRITE (R80). -/
def execRequestEntryWrite (n entry word : Nat) (value : Word) (s : State) : Out :=
  if inReset s ∨ 4 ≤ n ∨ 256 ≤ entry ∨ 16 ≤ word then .next s else .next (writeEntry s n entry word value)

end Sys2Proof.Machine
end

