-- ==== Sys2Proof/Machine/Port.lean ====
section
/-! DEFINITION. The management port's frames and master transfers (R381 to R388), and JTAG (R393 to R395). -/

namespace Sys2Proof.Machine

/-! Slave frames. -/

/-- Contention (R388): the unit ends, the drivers are released; MSP_MRX is a free value (log 13). -/
def contend (s : State) : State :=
  let (x, s) := takeFree s (2 ^ 32)
  { s with msp := { s.msp with
      unit := false, selHeld := false, merr := 1, mdone := true, contention := true, mrx := BitVec.ofNat 32 x } }

/-- A frame: nothing during power-on reset; while a unit runs or a select is held its select is contention, and the
frame is ignored in full (R388, R389). A frame that is served shifts MSP_STATUS out during its header (R383). -/
def mspFrame (s : State) (f : State → State) : State :=
  if s.power.porHeld then s else if mbusy s then contend s
  else f { s with msp := { s.msp with header := mspStatus s } }

/-- The flags a frame raises, set after it has ended (R383). -/
def raiseFlags (s : State) (badAddr badOp overclock frame underrun : Bool) : State :=
  { s with msp := { s.msp with
      badAddr := s.msp.badAddr || badAddr, badOp := s.msp.badOp || badOp, overclock := s.msp.overclock || overclock
      frame := s.msp.frame || frame, underrun := s.msp.underrun || underrun } }

/-- The words shifted out: a word that is late repeats the one before it (R385); prev is the status word at first. -/
def shiftWords : List Word → Nat → Nat → Word → List Word
  | [], _, _, _ => []
  | w :: ws, k, late, prev =>
    let x := if bitOf late k then prev else w
    x :: shiftWords ws (k + 1) late x

/-- A READ or READ_SLOW of n words, of which the first shifted ones were whole before the select rose; bit k of late:
word k was not ready when due (R383 to R386). -/
def readFrame (s : State) (a n late shifted : Nat) (extra : Bool) : State :=
  let status := mspStatus s
  let bad := ! allMapped s a n
  let (ws, s) := readWords n s .msp a
  let k := min n shifted
  let s := { s with msp := { s.msp with out := (shiftWords ws 0 late status).take k } }
  raiseFlags s bad false (extra && k = n) (k < n) (late % 2 ^ k ≠ 0)

/-- A READ frame, or one with a misaligned address, which acts as a reserved opcode (R386). -/
def readOrBad (s : State) (a n late shifted : Nat) (extra : Bool) : State :=
  if n = 0 ∨ 16 < n then s
  else if a % 4 ≠ 0 then raiseFlags { s with msp := { s.msp with out := [] } } false true false false false
  else readFrame s a n late shifted extra

/-- MSP_READ (R385). -/
def execMspRead (addr : BitVec 24) (n late shifted : Nat) (extra : Bool) (s : State) : Out :=
  .next (mspFrame s fun s => readOrBad s addr.toNat n late shifted extra)

/-- MSP_READ_SLOW (R385): the same after 32 turnaround clocks, which serve every address. -/
def execMspReadSlow (addr : BitVec 24) (n late shifted : Nat) (extra : Bool) (s : State) : Out :=
  .next (mspFrame s fun s => readOrBad s addr.toNat n late shifted extra)

/-- A WRITE frame (R382, R384, R386): cut short it commits nothing; extra clocks past its length are ignored. -/
def writeFrame (s : State) (a : Nat) (ws : List Word) (cut extra : Bool) : State :=
  let s := { s with msp := { s.msp with out := [] } }
  if cut then raiseFlags s false false false true false
  else if ¬ allMapped s a ws.length then raiseFlags s true false extra false false
  else raiseFlags (writeWords s a ws) false false extra false false

/-- MSP_WRITE (R382). -/
def execMspWrite (addr : BitVec 24) (words : List Word) (cut : Bool) (extra : Bool) (s : State) : Out :=
  .next (mspFrame s fun s =>
    if words = [] ∨ 16 < words.length then s
    else if addr.toNat % 4 ≠ 0 then raiseFlags { s with msp := { s.msp with out := [] } } false true false false false
    else writeFrame s addr.toNat words cut extra)

/-- The bytes of a word, byte 0 first (R382). -/
def wordBytes (w : Word) : List Byte := le 4 w.toNat

/-- MSP_STREAM (R386): accepted at the boot window in BOOT; its bytes go to the download where BOOT_SRC selects the port
(log 45). -/
def execMspStream (addr : BitVec 24) (words : List Word) (partialWord : Bool) (s : State) : Out :=
  .next (mspFrame s fun s =>
    let s := { s with msp := { s.msp with out := [] } }
    if addr.toNat % 4 ≠ 0 then raiseFlags s false true false false false
    else if addr = 0x100000#24 ∧ s.dev.mode = .boot ∧ ¬ s.power.warmHeld then
      let s := if s.power.src = 0 then (words.flatMap wordBytes).foldl streamByte s else s
      raiseFlags s false false false partialWord false
    else raiseFlags s true false false partialWord false)

/-- MSP_RESERVED_OPCODE (R382, R386). -/
def execMspReservedOpcode (opcode : Byte) (addr : BitVec 24) (s : State) : Out :=
  .next (mspFrame s fun s =>
    if 0x30 < opcode.toNat ∨ addr.toNat % 4 ≠ 0 then
      raiseFlags { s with msp := { s.msp with out := [] } } false true false false false
    else s)

/-! Master transfers. -/

/-- What the port drives (R381): the selects as levels, CS3 first. -/
structure PortDrive where
  sdo : Bool
  sck : Bool
  cs  : Option (BitVec 3)
deriving DecidableEq, Repr

/-- The pins that the port drives while MSP_CS0_N has a level. As a slave it drives MSP_SDO alone, and only under a low
select whose frame is not ignored for contention. A master unit drives MSP_SCK, MSP_SDO and the selects, that of CS low; between units with the select held, only
the selects; contention has released all of them (R381, R387, R388). In reset every one is high-impedance (Table 2.7). -/
def portDrive (s : State) (cs0Low ignored : Bool) : PortDrive :=
  if s.power.porHeld then { sdo := false, sck := false, cs := none }
  else if mbusy s then
    { sdo := s.msp.unit, sck := s.msp.unit, cs := some (~~~ (BitVec.twoPow 3 (s.msp.cs - 1))) }
  else { sdo := cs0Low && ! ignored, sck := false, cs := none }

/-- MSP_MASTER_START (R387): a write of MSP_MCTRL. -/
def execMspMasterStart (value : Word) (s : State) : Out :=
  if s.power.porHeld then .next s else .next (writeMctrl s s.msp.unit value)

/-- LEN in force: values 0 to 2 act as 3 (Table 21.6). -/
def unitLen (s : State) : Nat := max 3 s.msp.len

/-- MSP_MASTER_UNIT_END (R387). -/
def execMspMasterUnitEnd (sdi : Word) (s : State) : Out :=
  if s.msp.unit then
    .next { s with msp := { s.msp with
      unit := false, selHeld := s.msp.holdCs, mdone := true, merr := 0
      sent := BitVec.ofNat 32 (s.msp.mtx.toNat % 2 ^ (unitLen s + 1))
      mrx := BitVec.ofNat 32 (sdi.toNat % 2 ^ (unitLen s + 1)) } }
  else .next s

/-- CONTENTION (R388). -/
def execContention (s : State) : Out := if mbusy s then .next (contend s) else .next s

/-! JTAG. -/

/-- The TAP instructions that may control the balls (R394). -/
def ballCodes : List Byte := [0x00, 0x03, 0x04, 0x05, 0x06]

/-- Is one of them loaded? -/
def ballCodeLoaded (s : State) : Bool := ballCodes.contains s.jtag.ir

/-- Does the boundary register control the balls: in BOOT and DIAGNOSTIC alone (R394)? -/
def jtagControls (s : State) : Bool := ballCodeLoaded s && (s.dev.mode = .boot || s.dev.mode = .diagnostic)

/-- The end of the requested self-test: the report is written, the device returns to IDLE (R59). -/
def endSelfTest (s : State) (report : List Byte) : State :=
  let s := memWrite s (s.dev.testAddr.toNat % 2 ^ 41) report
  settleBypass (setMode { s with dev := { s.dev with testing := false } } .idle)

/-- SELF_TEST_END (R59). -/
def execSelfTestEnd (report : List Byte) (s : State) : Out :=
  if s.dev.mode = .diagnostic ∧ s.dev.testing then .next (endSelfTest s report) else .next s

/-- 64 free bytes: a failed report, whose content no rule gives (log 46). -/
def freeReport : Nat → State → List Byte × State
  | 0, s => ([], s)
  | n + 1, s =>
    let (x, s) := takeFree s 256
    let r := freeReport n s
    (BitVec.ofNat 8 x :: r.1, r.2)

/-- Loads an instruction; one of R394 in DIAGNOSTIC ends a running self-test with a failed report. -/
def loadIr (s : State) (ir : Byte) : State :=
  let s := { s with jtag := { s.jtag with ir := ir } }
  if ballCodeLoaded s ∧ s.dev.mode = .diagnostic ∧ s.dev.testing then
    let (r, s) := freeReport 64 s
    endSelfTest s r
  else s

/-- EXTEST (R394). -/
def execExtest (s : State) : Out := .next (loadIr s 0x00)
/-- SAMPLE/PRELOAD (R393): the boundary cells. -/
def execSamplePreload (cells : List Bool) (s : State) : Out :=
  .next (loadIr { s with jtag := { s.jtag with cells := cells } } 0x01)
/-- IDCODE (R393). -/
def execIdcode (s : State) : Out := .next (loadIr s 0x02)
/-- CLAMP (R394). -/
def execClamp (s : State) : Out := .next (loadIr s 0x03)
/-- HIGHZ (R394). -/
def execHighz (s : State) : Out := .next (loadIr s 0x04)
/-- EXTEST_PULSE (R394). -/
def execExtestPulse (s : State) : Out := .next (loadIr s 0x05)
/-- EXTEST_TRAIN (R394). -/
def execExtestTrain (s : State) : Out := .next (loadIr s 0x06)
/-- BYPASS (R393). -/
def execBypass (s : State) : Out := .next (loadIr s 0xFF)

/-- The data register that the TAP selects: 0 bypass, 1 boundary, 2 identification, 3 REG_ACCESS (Table 21.8, R394). -/
def tapRegister (s : State) : Nat :=
  if s.jtag.ir = 0x20#8 then 3
  else if s.jtag.ir = 0x02#8 then 2
  else if s.jtag.ir = 0x01#8 then 1
  else if s.jtag.ir ∈ [0x00#8, 0x05#8, 0x06#8] ∧ jtagControls s then 1
  else 0

/-- The identification register. -/
def idCode : Word := 0x3B5709CB#32

/-- What Capture-DR loads with REG_ACCESS: the word, DONE and BADADDR (R395). -/
def regCapture (s : State) : BitVec 64 :=
  BitVec.ofNat 64 (s.jtag.data.toNat + b2n s.jtag.done * 2 ^ 32 + b2n s.jtag.badAddr * 2 ^ 33)

/-- REG_ACCESS (R395): Update-DR starts the access. A misaligned address acts as a reserved operation (R386). -/
def execRegAccess (dr : BitVec 64) (s : State) : Out :=
  let s := loadIr s 0x20
  let op := ((dr >>> 62).setWidth 2).toNat
  let a := ((dr >>> 32).setWidth 24).toNat
  let w : Word := dr.setWidth 32
  if s.power.porHeld ∨ a % 4 ≠ 0 ∨ op = 0 ∨ op = 3 then .next s
  else
    let bad := ! mapped s a
    if op = 1 then
      let (ws, s) := readWords 1 s .jtag a
      .next { s with jtag := { s.jtag with data := ws.headD 0, done := true, badAddr := bad } }
    else
      let s := writeWords s a [w]
      .next { s with jtag := { s.jtag with data := w, done := true, badAddr := bad } }

end Sys2Proof.Machine
end

