-- ==== Sys2Proof/Machine/ReqDevice.lean ====
section
/-! DEFINITION. The commands of group 0x00: device and mode (Table 6.9; R59, R62, R76, R114, R116 to R118, R278, R326). -/

namespace Sys2Proof.Machine

/-- OPC_IDENTITY. -/
def execOpcIdentity (mb : Nat) (s : State) : Out :=
  serveNext 0x0001 mb s noResv noChecks fun s m =>
    done s mb m 32 [(16, 4, 0x4B570300), (20, 1, 3), (22, 2, ownAddr s), (24, 16, Config.fuseId.toNat),
      (40, 4, s.boot.version.toNat), (44, 4, s.mem.mib)]

/-! OPC_DEVICE_START (R76, R77, R63). -/

/-- The units of the start mask, in the order of R338. -/
def startUnits (mask : BitVec 32) : List Nat :=
  allUnits.filter fun u => match unitDomain u with
    | some d => mask.getLsbD d
    | none => false

/-- Entry to CALIBRATE (R76, R77): the lock, the switches, PD1 among them (log 139), the sequencers, and the initial CAL
items. -/
def startDevice (s : State) (m : BitVec 28) (mask : BitVec 32) : State :=
  let locked := s.clock.locked ∧ s.clock.mLock = m ∧ s.clock.mNow = m
  let s := setMode { s with dev := { s.dev with started := true, startMask := mask } } .calibrate
  let s := if locked then s else startLock s m
  let s := orderSwitches s (mask ||| bit32 1) 0
  let s := (List.range 16).foldl (fun s q => setUnit s (unitSeq q) .active false) s
  let s := (startUnits mask).foldl (fun s u => submitCal s u (classesOf u) false) s
  settleFord s

/-- OPC_DEVICE_START. -/
def execOpcDeviceStart (mb : Nat) (s : State) : Out :=
  serveNext 0x0002 mb s noResv
    (fun s m =>
      let bad := domFault s (BitVec.ofNat 32 (Msg.field m 20 4)) 0
      [range (! mLegal (Msg.field m 16 4)) 16, (bad.isSome, 0x13, bad.getD 0)])
    fun s m =>
      let s := startDevice s (BitVec.ofNat 28 (Msg.field m 16 4)) (BitVec.ofNat 32 (Msg.field m 20 4))
      settleBypass (settleCal (done s mb m 0 []))

/-! OPC_ARM and OPC_DISARM (R116, R278). -/

/-- The channels that the site map maps. -/
def mappedIn (map : Tab Byte) : List Nat := tkeys map fun c b => c < 768 && b.getLsbD 7

/-- The sites that the map uses. -/
def sitesUsed (map : Tab Byte) : Nat :=
  (mappedIn map).foldl (fun v c => v ||| 2 ^ ((tget 0 map c).toNat % 64)) 0

/-- The load groups that hold a PEB with a mapped channel, or a DPS channel (log 49). -/
def armGroups (s : State) (map : Tab Byte) : List Nat :=
  (List.range 8).filter fun g =>
    (groupPebs s g).any (fun p => (mappedIn map).any fun c => c / 64 = p) || groupDps s g ≠ []

/-- The effect of OPC_ARM. The channels of a PEB in MAINTENANCE or OFFLINE stay disconnected (R345, Table 10.7); the others
play the background vector at TS0 (R209, Table 8.3), but for one whose PMU a routine has left connected (log 148). -/
def armDevice (s : State) (id : Nat) (sites : BitVec 64) : State :=
  let map := s.dev.siteMap
  let s := (armGroups s map).foldl strobeGroup s
  let cs := (mappedIn map).filter fun c => unitState s (c / 64) = .active || unitState s (c / 64) = .quiescing
  let s := { s with
    chans := tmods {} s.chans cs fun _ x => { x with closed := true, armed := true }
    dev := { s.dev with armedMap := map, siteEnable := sites, armedSched := some id } }
  setMode (((cs.map (· / 64)).dedup).foldl (fun s p => restPeb s p .armed) s) .armed

/-- OPC_ARM (R116). DETAIL 24 also names a mapped PEB that belongs to no load group (log 140). -/
def execOpcArm (mb : Nat) (s : State) : Out :=
  serveNext 0x0003 mb s (resvAt [(17, 7)])
    (fun s m =>
      let st := (schedOf s (Msg.field m 16 1)).st
      let sites := Msg.field m 24 8
      let used := sitesUsed s.dev.siteMap
      [range (15 < Msg.field m 16 1 || st = .empty || st = .bad) 16,
       range ((List.range 64).any fun i => bitOf sites i && ! bitOf used i) 24,
       range ((mappedIn s.dev.siteMap).any fun c => (pebOf s (c / 64)).group.isNone) 24])
    fun s m => done (armDevice s (Msg.field m 16 1) (BitVec.ofNat 64 (Msg.field m 24 8))) mb m 0 []

/-- OPC_DISARM: every enabled channel ramps to 0 V, is disabled and discharged (DPS_DISARM_OUTPUT_DISABLE,
DPS_DISCHARGE_DONE); then the disconnects open and DONE is posted. -/
def execOpcDisarm (mb : Nat) (s : State) : Out :=
  serveNext 0x0004 mb s noResv
    (fun s _ =>
      [busyIf (busyItem s fun l => openSlot l && l.kind ≠ some .cal && l.kind ≠ some .transfer), busy s.dev.disarming])
    fun s m =>
      let s := { s with
        dev := { s.dev with disarming := true }
        dps := tmods {} s.dps (tkeys s.dps fun _ d => d.enabled) fun _ d => slewTo 0 d }
      settleBypass (finishDisarm (deferResp s mb m))

/-! Pause and resume. -/

/-- OPC_PAUSE; a second one before the first has taken effect is answered with it (log 26). -/
def execOpcPause (mb : Nat) (s : State) : Out :=
  serveNext 0x0005 mb s noResv noChecks fun s m => beginPause (deferResp s mb m)

/-- OPC_RESUME: the held items go on; with none left in flight the device goes on to ARMED. -/
def execOpcResume (mb : Nat) (s : State) : Out :=
  serveNext 0x0006 mb s noResv noChecks fun s m =>
    let s := (slotsInOrder s fun l => l.st = .held).foldl resumeItem (setMode s .run)
    settleMode (done s mb m 0 [])

/-! BYPASS. -/

/-- OPC_BYPASS_ENTER (R117, R326): from IDLE the device enters BYPASS; the Ford closes with a drain, and DONE follows.
From LOADED the mode stays until IDLE is reached. -/
def execOpcBypassEnter (mb : Nat) (s : State) : Out :=
  serveNext 0x0007 mb s noResv noChecks fun s m =>
    let s := deferResp s mb m
    let s := if s.dev.mode = .idle then endForBypass s else { s with power := { s.power with bypassPend := true } }
    if s.power.fordClosed then answerOwed s (isOp 0x0007) fun q => doneResp s q 0 []
    else { s with power := { s.power with fordDrain := true } }

/-- FORD_DRAIN_DONE (R326): nothing is held and nothing waits for its ACK; the switches close. -/
def execFordDrainDone (s : State) : Out :=
  if s.power.fordDrain ∧ (List.range 4).all (fun p => (portOf s p).waiting = [] ∧ (portOf s p).ingress = [] ∧ (portOf s p).replay = []) then
    .next (closeFord s)
  else .next s

/-- DONE for what waits for port training: BYPASS_EXIT, and PORT_CONFIG of a port that is up (Tables 6.9, 6.16). -/
def answerTrained (s : State) : State :=
  let s := if portsTraining s then s else answerEvery s (isOp 0x0008) fun s q => doneResp s q 0 []
  let up (q : Msg) : Bool := isOp 0x0702 q && portUp (portOf s (Msg.field q 16 1))
  answerEvery s up fun s q => doneResp s q 0 []

/-- OPC_BYPASS_EXIT (R59): the Ford opens where PD4 is on; DONE once the ports have trained. -/
def execOpcBypassExit (mb : Nat) (s : State) : Out :=
  serveNext 0x0008 mb s noResv (fun s _ => [busy s.power.fordPinLow]) fun s m =>
    let s := deferResp { s with power := { s.power with bypassPend := false } } mb m
    let s := if s.dev.started then submitDue (setMode s .idle) else setMode s .loaded
    answerTrained (if s.power.pdOn.getLsbD 4 then openFord s else s)

/-! DIAGNOSTIC. -/

/-- OPC_DIAG_ENTER: a mask of zero asks for no test, and DIAGNOSTIC stays until OPC_DIAG_EXIT. -/
def execOpcDiagEnter (mb : Nat) (s : State) : Out :=
  serveNext 0x0009 mb s noResv noChecks fun s m =>
    let mask := BitVec.ofNat 32 (Msg.field m 16 4)
    let s := { s with dev := { s.dev with
      testing := mask ≠ 0, testMask := mask, testAddr := BitVec.ofNat 64 (Msg.field m 24 8) } }
    done (setMode s .diagnostic) mb m 0 []

/-- OPC_DIAG_EXIT: refused while an instruction of R394 is loaded. -/
def execOpcDiagExit (mb : Nat) (s : State) : Out :=
  serveNext 0x000A mb s noResv (fun s _ => [busy (ballCodeLoaded s)]) fun s m =>
    settleBypass (submitDue (done (setMode { s with dev := { s.dev with testing := false } } .idle) mb m 0 []))

/-! Domains and notices. -/

/-- The kinds that use capture, the result queues or DMA (R412). -/
def usesQueues (k : Option Kind) : Bool :=
  [some .burst, some .measure, some .tdc, some .acquire, some .transfer, some .dps, some .lane].contains k

/-- OPC_PD_SET (R31 to R33, R412). -/
def execOpcPdSet (mb : Nat) (s : State) : Out :=
  serveNext 0x000B mb s noResv
    (fun s m =>
      let on := BitVec.ofNat 32 (Msg.field m 16 4)
      let off := BitVec.ofNat 32 (Msg.field m 20 4)
      let bad := domFault s on off
      [range (on &&& off ≠ 0) 16, (bad.isSome, 0x13, bad.getD 0),
       busyIf (if off.getLsbD 12 then busyItem s fun l => openSlot l && usesQueues l.kind else none)])
    fun s m =>
      done (orderSwitches s (BitVec.ofNat 32 (Msg.field m 16 4)) (BitVec.ofNat 32 (Msg.field m 20 4))) mb m 0 []

/-- The rails of power-up step n (Table 2.4), in the order of housekeeping slots 11 to 25. -/
def stepRails (n : Nat) : List Nat :=
  match n with
  | 1 => [0] | 2 => [2, 3] | 3 => [1] | 4 => [4] | 5 => [7, 8, 9, 10] | 6 => [5, 6] | 7 => [11, 12, 13, 14] | _ => []

/-- Rails present, bit n for step n. -/
def stepMask (s : State) : Nat :=
  ([1, 2, 3, 4, 5, 6, 7].map fun n => if (stepRails n).all fun r => s.power.rails.getLsbD r then 2 ^ n else 0).sum

/-- OPC_PD_QUERY. -/
def execOpcPdQuery (mb : Nat) (s : State) : Out :=
  serveNext 0x000C mb s noResv noChecks fun s m =>
    done s mb m 12 [(16, 4, s.power.pdOn.toNat), (20, 4, s.power.pdBusy.toNat), (24, 4, stepMask s)]

/-- OPC_NOTICE_CONFIG (R118): bits [31:5] are reserved. -/
def execOpcNoticeConfig (mb : Nat) (s : State) : Out :=
  serveNext 0x000D mb s (fun m => 32 ≤ Msg.field m 16 4) noChecks fun s m =>
    done { s with dev := { s.dev with noticeEn := BitVec.ofNat 32 (Msg.field m 16 4) } } mb m 0 []

end Sys2Proof.Machine
end

