-- ==== Sys2Proof/Machine/ReqClock.lean ====
section
/-! DEFINITION. The commands of group 0x02: clock and sync (Table 6.11; R42 to R44, R53, R57, R331, R332, R410). -/

namespace Sys2Proof.Machine

/-- OPC_CLOCK_STATUS (R57). -/
def execOpcClockStatus (mb : Nat) (s : State) : Out :=
  serveNext 0x0201 mb s noResv noChecks fun s m => done s mb m 48 (clockFields s 16)

/-! Lock and step (R42 to R44). -/

/-- Does an item stand in the way of a relock (R44)? -/
def blocksRelock (l : Slot) : Bool :=
  (inFlight l && (l.kind = some .burst || l.kind = some .tdc || l.kind = some .lane || l.kind = some .cal))
    || (inFlight l && l.kind = some .levels && l.armed && pStrobe l.msg = 0)

/-- Is the ADPLL locked at m with no small step in force (R44)? -/
def lockedAt (s : State) (m : Nat) : Bool :=
  s.clock.locked && s.clock.mLock.toNat = m && s.clock.mNow.toNat = m && ! s.clock.stepActive

/-- The domain rule of a lock: PD1 on. -/
def needsPd1 (s : State) : Bool × Nat × Nat := (! domOn s 1, 0x13, 1)

/-- OPC_CLOCK_LOCK; one that comes while a requested lock runs replaces its target (log 138). -/
def execOpcClockLock (mb : Nat) (s : State) : Out :=
  serveNext 0x0202 mb s noResv
    (fun s m =>
      let goal := Msg.field m 16 4
      [range (! mLegal goal) 16, needsPd1 s, busyIf (if lockedAt s goal then none else busyItem s blocksRelock)])
    fun s m =>
      let goal := Msg.field m 16 4
      if lockedAt s goal then done s mb m 0 [] else startLock (deferResp s mb m) (BitVec.ofNat 28 goal)

/-- A small step begins: a phase reset that is armed waits for its end (R43). -/
def startStep (s : State) (goal slew : Nat) : State :=
  let s := changeClock s fun s => { s with clock := { s.clock with
    stepActive := true, stepTarget := BitVec.ofNat 28 goal, stepSlew := slew, stepFrom := s.clock.mNow, stepTicks := 0 } }
  { s with bursts := tmods {} s.bursts (s.bursts.map Prod.fst) fun _ b => { b with phaseArm := false } }

/-- OPC_CLOCK_STEP: a target beyond ±0.2 % is a relock; in RUN that is a misuse (R44). While the root is not locked a
small step is turned away (log 52). -/
def execOpcClockStep (mb : Nat) (s : State) : Out :=
  serve 0x0203 mb [] s noResv
    (fun s m =>
      let goal := Msg.field m 16 4
      let small := withinStep s.clock.mLock.toNat goal
      [range (! mLegal goal) 16, range (Msg.field m 20 2 = 0 || 10 < Msg.field m 20 2) 20, needsPd1 s,
       busyIf (if small || s.dev.mode = .run then none else busyItem s blocksRelock), busy (small && ! s.clock.locked)])
    fun s m =>
      let goal := Msg.field m 16 4
      let s' := deferResp s mb m
      if withinStep s.clock.mLock.toNat goal then .next (startStep s' goal (Msg.field m 20 2))
      else if s.dev.mode = .run then .fault .stepInRun
      else .next (startLock s' (BitVec.ofNat 28 goal))

/-! Sync (R53, R54, R410). -/

/-- A sync mode is set: no epoch has been received since, and the count is not aligned. An epoch that waited for a pulse
of the former mode is sent. -/
def setSync (s : State) (mode upstream period : Nat) : State :=
  let hop := if mode = 2 then hopOf (portOf s upstream) else 0
  changeClock (afterPulse s) fun s =>
    let s := { s with hw := { s.hw with
      syncMode := mode, upstream := upstream, periodUs := period, epoch := none, epochSeen := false, slew := 0
      pulse := none, hopDelay := hop } }
    if s.hw.status = .coast then s else { s with hw := { s.hw with status := freeStatus s } }

/-- OPC_SYNC_CONFIG. -/
def execOpcSyncConfig (mb : Nat) (s : State) : Out :=
  serveNext 0x0204 mb s (resvAt [(18, 2)])
    (fun s m =>
      let mode := Msg.field m 16 1
      [range (3 < mode) 16, range (mode = 2 && 3 < Msg.field m 17 1) 17,
       range (Msg.field m 20 4 < 1000 || 1000000 < Msg.field m 20 4) 20,
       busyIf (busyItem s fun l => openSlot l && pStartAt l.msg)])
    fun s m => done (setSync s (Msg.field m 16 1) (Msg.field m 17 1 % 4) (Msg.field m 20 4)) mb m 0 []

/-- A TIME_XCHG goes out on a port, with a TAG of its own (R322). -/
def sendXchg (s : State) (p : Nat) : State :=
  let tag := freshTag s
  let s := modPort { s with fabric := { s.fabric with nextTag := tag + 1 } } p fun q => { q with xTag := some tag }
  holdFor s p 8 (mkPacket s 0x30 (portOf s p).nbAddr.toNat 0 0 0 tag.toNat [])

/-- The exchanges of OPC_SYNC_MEASURE begin on the named ports that are up. -/
def startMeasuring (s : State) (mask n : Nat) : State :=
  let ps := (List.range 4).filter fun p => bitOf mask p && portUp (portOf s p)
  let s := { s with fabric := { s.fabric with measN := n, measMask := ps.foldl (fun m p => putBit m p true) 0 } }
  let s := ps.foldl (fun s p => modPort s p fun q => { q with
    xT1 := none, xDone := 0, xSum := 0, xMin := 0, xMax := 0, xDelay := 0 }) s
  settleMeasure (ps.foldl sendXchg s)

/-- OPC_SYNC_MEASURE: a port that is not up reports no exchange. -/
def execOpcSyncMeasure (mb : Nat) (s : State) : Out :=
  serveNext 0x0205 mb s (resvAt [(25, 1)])
    (fun s m => [range (15 < Msg.field m 24 1) 24, range (Msg.field m 26 2 = 0 || 4096 < Msg.field m 26 2) 26,
      busy (s.fabric.measN ≠ 0)])
    fun s m => startMeasuring (deferResp s mb m) (Msg.field m 24 1) (Msg.field m 26 2)

/-- OPC_SYNC_OFFSET. -/
def execOpcSyncOffset (mb : Nat) (s : State) : Out :=
  serveNext 0x0206 mb s noResv noChecks fun s m =>
    let s := changeClock s fun s => { s with
      hw := { s.hw with offsetComp := BitVec.ofNat 32 (Msg.field m 16 4) }
      clock := { s.clock with syncDegraded := false } }
    done s mb m 0 []

/-- The advance of the count since a pulse: since the last one taken, or, for a chain master and where none has been
taken, past a multiple of the period. -/
def sincePulse (s : State) : Nat :=
  match s.hw.pulse with
  | some c => (s.hw.count - c).toNat
  | none => s.hw.count.toNat

/-- Do fewer than 100 µs remain before the device's next pulse (R332)? Until the first pulse is taken, a count that is
not aligned foresees none, and the packet goes at once (log 53). -/
def pulseNear (s : State) : Bool :=
  s.hw.running && (s.hw.pulse.isSome || s.hw.status = .synced || (s.hw.syncMode = 3 && s.hw.status = .acquiring))
    && syncPeriod s ≠ 0
    && syncPeriod s - sincePulse s * 2 ^ 20 % syncPeriod s < 100 * 6400 * s.clock.mLock.toNat

/-- OPC_SYNC_EPOCH (R332): sent at once, or just after the next pulse. -/
def execOpcSyncEpoch (mb : Nat) (s : State) : Out :=
  serveNext 0x0207 mb s noResv noChecks fun s m =>
    let c : Count := BitVec.ofNat 64 (Msg.field m 16 8)
    let near := pulseNear s
    let s := deferResp s mb m
    if near then { s with hw := { s.hw with epochOut := some c } } else sendEpoch s c

end Sys2Proof.Machine
end

