-- ==== Sys2Proof/Machine/ReqItems.lean ====
section
/-! DEFINITION. The commands of group 0x01: items and the ledger (Table 6.10; R64, R94 to R97, R108 to R112, R218, R224,
R260, R279, R281, R291, R300). -/

namespace Sys2Proof.Machine

/-! Helpers of the checks. -/

/-- Are n bytes from an address in pages the device holds locally (R148)? -/
def heldLocally (s : State) (a n : Nat) : Bool :=
  (List.range ((a + n - 1) / 65536 + 1 - a / 65536)).all fun k => tget 0 s.cfg.homes (a / 65536 + k) ≠ 0

/-- A record address that is misaligned, or whose extent is not held locally (R260, R300). -/
def badRecord (s : State) (a n : Nat) : Bool := a % 64 ≠ 0 || ! heldLocally s a n

/-- The lowest of these domains that is off, as the REFUSED_DOMAIN check (R64). -/
def domainsOff (s : State) (ds : List Nat) : Bool × Nat × Nat :=
  let off := (List.range 32).find? fun d => ds.contains d && ! domOn s d
  (off.isSome, 0x13, off.getD 0)

/-- The domains of units. -/
def unitDomains (us : List Nat) : List Nat := us.filterMap unitDomain

/-- The claimed units of a submission. -/
def askedUnits (s : State) (m : Msg) : List Nat :=
  claimUnits s { kind := kindOf (pKind m), msg := m } ++ heldUnits s { kind := kindOf (pKind m), msg := m }

/-- Domains a submission needs on: those of its units, PD12 for the kinds of R412, and the pattern engine half and the
converters for the kinds that use them (log 50). A CAL item needs its own unit's, and the TDC array's where it runs the
timing class of a PEB, whose TDCs it claims (Table 1.3). -/
def askedDomains (s : State) (m : Msg) : List Nat :=
  let own := unitDomains (askedUnits s m)
  match kindOf (pKind m) with
  | some .burst => own ++ (askedUnits s m).map (fun p => if p < 6 then 9 else 10) ++ [12]
  | some .acquire => own ++ [12, 30]
  | some .cal => unitDomains (pUnit m :: claimUnits s { kind := some .cal, msg := m })
  | some .levels => own
  | some _ => own ++ [12]
  | none => []

/-! The parameters of each kind (Table 6.6). -/

/-- Segments of a schedule: of the image in force, or of the one being checked. -/
def schedSegs (x : Sched) : Nat :=
  match x.st, x.check with
  | .valid, _ => imgSegs x.image
  | _, some (_, _, n) => n
  | _, none => 0

def burstRange (s : State) (m : Msg) : List (Bool × Nat × Nat) :=
  let x := schedOf s (pSched m)
  [range (15 < pSched m || x.st = .empty) 40,
   range (schedSegs x ≤ pEntry m) 44,
   range (pSites m = 0 || (List.range 64).any fun i => bitOf (pSites m) i && ! s.dev.siteEnable.getLsbD i) 48,
   range (badRecord s (pAddr56 m) 7296) 56]

/-- Argument n of a submission: ARG0, or a word of the extension (R224). -/
def measArg (m : Msg) (ext : List Byte) (n : Nat) : Nat := if n = 0 then pArg0 m else bytesAt ext (4 * (n - 1)) 4

/-- The ROM routines of Table 11.8: whether it is one for DPS channels. -/
def romDps (entry : Nat) : Option Bool :=
  if [0x0100, 0x0140, 0x0180, 0x0200, 0x0280, 0x0300, 0x0380, 0x0400, 0x0480, 0x0500].contains entry then some false
  else if entry = 0x0580 ∨ entry = 0x0600 then some true else none

/-- Is an argument of a ROM routine outside Table 11.8? -/
def romArgsBad (entry : Nat) (a : Nat → Nat) : Bool :=
  let bad (n lo hi : Nat) : Bool := a n < lo || hi < a n
  match entry with
  | 0x0100 => bad 0 0 2 || bad 1 0 255 || bad 2 0 255
  | 0x0140 => bad 0 0 1 || bad 1 0 4
  | 0x0200 => bad 1 0 4 || bad 2 1 65536
  | 0x0280 => bad 1 0 4 || bad 2 1 65536
  | 0x0300 => bad 2 0 4 || bad 3 1 65536
  | 0x0400 => bad 2 1 256 || bad 3 0 4 || bad 4 1 65536
  | 0x0480 => bad 3 0 4 || bad 4 1 20 || bad 5 1 65536
  | 0x0580 => bad 0 1 65536
  | 0x0600 => bad 0 1 65536
  | _ => false

def measureRange (s : State) (m : Msg) (ext : List Byte) : List (Bool × Nat × Nat) :=
  let rom := pStore m = 0
  [range (15 < pMseq m) 40,
   range (1 < pStore m || (! rom && (seqOf s (pMseq m)).wState = .empty)) 41,
   range ((if rom then 8191 else 2047) < pRoutine m
     || (rom && (match romDps (pRoutine m) with | some d => d ≠ decide (12 ≤ pMseq m) | none => false))) 42,
   range (rom && romArgsBad (pRoutine m) (measArg m ext)) 52,
   range (pAddr56 m % 64 ≠ 0) 56]

def tdcRange (m : Msg) : List (Bool × Nat × Nat) :=
  [range (191 < pTdcFirst m) 40,
   range (pTdcCount m = 0 || 192 < pTdcFirst m + pTdcCount m) 41,
   range (pSeries m = 0 || 65536 < pSeries m) 44,
   range (pStats m % 64 ≠ 0) 48]

/-- Bytes that an ACQUIRE record takes (R258). -/
def recordExtent (m : Msg) : Nat :=
  128 + (if pReduce m = 0 then 4 * pSamples m else 8 * ((pSamples m + pReduce m - 1) / pReduce m))
    + (if pSamples m = 1 then 4 else 0)

def acquireRange (s : State) (m : Msg) : List (Bool × Nat × Nat) :=
  [range (1 < pSource m) 40,
   range ((if pSource m = 0 then 95 else 47) < pConverter m) 41,
   range ((if pSource m = 0 then 7 else 1) < pInput m) 42,
   range (6 < pTrigger m) 43,
   range (pSamples m = 0 || 1048576 < pSamples m) 44,
   range (pReduce m = 1 || 65536 < pReduce m) 48,
   range (badRecord s (pAddr56 m) (recordExtent m)) 56]

def transferRange (m : Msg) : List (Bool × Nat × Nat) := [range (15 < pDma m) 40, range (pDesc m % 64 ≠ 0) 48]

/-- A sequencer and a port have no class to calibrate. -/
def calRange (m : Msg) : List (Bool × Nat × Nat) :=
  [range (! unitKnown (pUnit m) || classesOf (pUnit m) = 0) 40,
   range ((List.range 7).any fun c => bitOf (pClasses m) c && ! bitOf (classesOf (pUnit m)) c) 42]

def levelsRange (m : Msg) : List (Bool × Nat × Nat) := [range (7 < pGroup m) 40, range (4 < pStrobe m) 41]

def dpsRangeChecks (s : State) (m : Msg) : List (Bool × Nat × Nat) :=
  let ns := dpsList (pDpsMask m)
  [range (ns.any fun n => (gangOf s n).any fun k => ! ns.contains k) 40,
   range (3000000 < pTarget m) 48,
   range (pSlew m = 0 || ns.any (fun n => slewLimit (dpsOf s n).range < pSlew m) || 100000 < pSlew m) 52]

def laneRange (s : State) (m : Msg) : List (Bool × Nat × Nat) :=
  [range (pLaneGroup m ≤ 3 && (lgOf s (pLaneGroup m)).low) 17,
   range (3 < pLaneGroup m) 40,
   range (3 < pTest m) 41,
   range (! [7, 9, 15, 23, 31].contains (pPrbs m)) 42,
   range (pLaneMask m = 0) 44,
   range (badRecord s (pAddr56 m) (64 + laneStride (pTest m) * (laneList m).length)) 56]

def kindRange (s : State) (m : Msg) (ext : List Byte) : List (Bool × Nat × Nat) :=
  match kindOf (pKind m) with
  | some .burst => burstRange s m
  | some .measure => measureRange s m ext
  | some .tdc => tdcRange m
  | some .acquire => acquireRange s m
  | some .transfer => transferRange m
  | some .cal => calRange m
  | some .levels => levelsRange m
  | some .dps => dpsRangeChecks s m
  | some .lane => laneRange s m
  | none => []

/-- The kinds that take no START_AT, and those that take no TIME_LIMIT (R109). -/
def noStartAt (k : Nat) : Bool := k = 4 || k = 5
def noTimeLimit (k : Nat) : Bool := k = 0 || k = 4 || k = 5 || k = 6

/-- Is the ledger full for a mailbox (R94)? -/
def ledgerFull (s : State) (mb : Nat) : Bool := freeSlots s = 0 || ((mb = 1 || mb = 3) && freeSlots s < 64)

/-- A DPS item meets a sine that is on (Table 15.3). -/
def sineBlocks (s : State) (m : Msg) : Bool :=
  kindOf (pKind m) = some .dps && (dpsList (pDpsMask m)).any fun n => (dpsOf s n).sine.on

/-- The checks of a submission from the field ranges on. -/
def submitChecks (s : State) (mb : Nat) (m : Msg) (ext : List Byte) : List (Bool × Nat × Nat) :=
  [range (extLen m = 0 && extAddr m ≠ 0) 16, range (8 < pKind m) 24, range (pStartAt m && noStartAt (pKind m)) 25,
   range (pTimeLimit m ≠ 0 && noTimeLimit (pKind m)) 28]
  ++ kindRange s m ext
  ++ [domainsOff s (askedDomains s m), (ledgerFull s mb, 0x12, freeSlots s), busy (sineBlocks s m)]

/-! Reserved fields of a submission (Tables 6.5, 6.6, R110). -/

/-- Bits above 40 of an address field. -/
def highAddr (m : Msg) (off : Nat) : Bool := Msg.field m off 8 / 2 ^ 41 ≠ 0

def submitReserved (m : Msg) : Bool :=
  let f (off n : Nat) : Bool := Msg.field m off n ≠ 0
  Msg.field m 25 1 / 2 ≠ 0 || f 26 2
    || (match kindOf (pKind m) with
      | some .burst => f 41 3 || highAddr m 56
      | some .measure => highAddr m 56 || (12 ≤ pMseq m && pMseq m ≤ 15 && pTargets m / 4096 ≠ 0)
      | some .tdc => f 42 2 || f 56 8 || highAddr m 48
      | some .acquire => highAddr m 56
      | some .transfer => f 41 7 || f 56 8 || highAddr m 48
      | some .cal => Msg.field m 42 2 / 128 ≠ 0 || f 44 20
      | some .levels => f 42 22
      | some .dps => f 46 2 || f 56 8
      | some .lane => f 43 1 || Msg.field m 44 4 / 2 ^ 28 ≠ 0 || highAddr m 56
      | none => false)

/-! OPC_ITEM_SUBMIT (R108). -/

/-- The item of an accepted submission, and its response. A BURST on a schedule whose check has failed, and a
MEASURE on a store whose check has, end at once (R115, R218). -/
def acceptItem (s : State) (mb : Nat) (m : Msg) (ext : List Byte) : State :=
  match lowestFree s, kindOf (pKind m) with
  | some i, some k =>
    let s := newItem s i k mb m ext false false
    let s := respond s mb m (mkResp s m 0 10 (itemId s i)
      [(16, 8, (slotOf s i).tSubmit.toNat), (24, 2, freeSlots s)])
    if (k = .burst ∧ (schedOf s (pSched m)).st = .bad) ∨ (k = .measure ∧ storeBad s m) then
      endItem s i (some rSignature) id
    else s
  | _, _ => s

/-- OPC_ITEM_SUBMIT. -/
def execOpcItemSubmit (mb : Nat) (rem : Remote) (s : State) : Out :=
  serve 0x0101 mb rem s submitReserved (fun s m => submitChecks s mb m ((readExt s rem m).getD [])) fun s m =>
    let ext := (readExt s rem m).getD []
    if bytesAt ext 60 4 ≠ 0 then .fault .reservedField else .next (acceptItem s mb m ext)

/-! OPC_ITEM_ABORT (R97, R119). -/

/-- A request through MB1 for an item that was not submitted through MB1 by the same node. -/
def foreign (s : State) (mb : Nat) (m : Msg) (i : Nat) : Bool :=
  mb = 1 && ! ((slotOf s i).mailbox = 1 && (slotOf s i).node.toNat % 2048 = senderOf m && (slotOf s i).st ≠ .free)

/-- OPC_ITEM_ABORT: of an item that is not terminal the abort is DONE, with the end under R97. A free slot under its
present ITEM_ID is out of range (log 134). -/
def execOpcItemAbort (mb : Nat) (s : State) : Out :=
  serveNext 0x0102 mb s noResv
    (fun s m => [range ((slotOf s (namedSlot m)).st = .free || foreign s mb m (namedSlot m)) 6])
    fun s m =>
      let i := namedSlot m
      if terminal (slotOf s i) then respond s mb m (mkResp s m 0x02 0 0xFFFF [])
      else settleBypass (abortItem (done s mb m 0 []) i)

/-! OPC_LEDGER_READ (R96). -/

/-- OPC_LEDGER_READ: one record, or the records of a slot range in the extension. -/
def execOpcLedgerRead (mb : Nat) (s : State) : Out :=
  serveNext 0x0103 mb s noResv
    (fun _ m =>
      let first := Msg.field m 24 2
      let n := Msg.field m 26 2
      if extLen m = 0 then [] else [range (2047 < first) 24, range (n = 0 || 2048 < n || 2048 < first + n) 26])
    fun s m =>
      if extLen m = 0 then done s mb m 48 (recordFields s (Msg.field m 16 2 % 2048) 16)
      else
        let bytes := (List.range (Msg.field m 26 2)).flatMap fun k => recordBytes s (Msg.field m 24 2 + k)
        done (memWrite s (extAddr m) bytes) mb m 0 []

/-! OPC_LEDGER_RETIRE (R95). -/

/-- The ITEM_IDs of a list request. -/
def retireIds (m : Msg) : List Nat := (List.range (Msg.field m 16 1)).map fun k => Msg.field m (18 + 2 * k) 2 % 4096

/-- Why a named item is not retired: STATUS and DETAIL. -/
def retireFault (s : State) (mb : Nat) (m : Msg) (id : Nat) : Option (Nat × Nat) :=
  let i := id % 2048
  if itemId s i ≠ id then some (0x15, itemId s i)
  else if foreign s mb m i then some (0x14, 6)
  else if ! terminal (slotOf s i) then some (0x16, id)
  else none

/-- Retires what can be retired: the count, and the first failure. A second naming of a slot in one list finds it retired,
and fails (log 153). -/
def retireList (s : State) (mb : Nat) (m : Msg) (ids : List Nat) : State × Nat × Option (Nat × Nat) :=
  ids.foldl (fun r id =>
    match retireFault r.1 mb m id with
    | some e => (r.1, r.2.1, r.2.2.orElse fun _ => some e)
    | none => (retireSlot r.1 (id % 2048), r.2.1 + 1, r.2.2)) (s, 0, none)

/-- The items of the range entries of an extension: each slot that is not free, under its present ITEM_ID; a range ends
at slot 2,047. -/
def rangeIds (s : State) (ext : List Byte) : List Nat :=
  ((List.range (ext.length / 4)).flatMap fun k =>
    let first := bytesAt ext (4 * k) 2 % 2048
    ((List.range (bytesAt ext (4 * k + 2) 2)).filterMap fun j => if first + j < 2048 then some (first + j) else none)).filterMap
    fun i => if (slotOf s i).st = .free then none else some (itemId s i)

/-- OPC_LEDGER_RETIRE. -/
def execOpcLedgerRetire (mb : Nat) (rem : Remote) (s : State) : Out :=
  serve 0x0104 mb rem s (fun m => extLen m = 0 && Msg.field m 17 1 ≠ 0)
    (fun _ m => if extLen m = 0 then [range (Msg.field m 16 1 = 0 || 23 < Msg.field m 16 1) 16] else [])
    fun s m =>
      let ids := if extLen m = 0 then retireIds m else rangeIds s ((readExt s rem m).getD [])
      let (s, n, bad) := retireList s mb m ids
      .next (submitUnslotted (match bad with
        | some (status, detail) => respond s mb m (mkResp s m status 6 0xFFFF [(16, 4, detail), (20, 2, n)])
        | none => done s mb m 0 []))

end Sys2Proof.Machine
end

