-- ==== Sys2Proof/Machine/ReqFabric.lean ====
section
/-! DEFINITION. The commands of group 0x07: the fabric, page homes and boot serving (Table 6.16; R148, R310, R311, R329,
R378). -/

namespace Sys2Proof.Machine

/-- Code of a port state (Table 17.1). -/
def portCode : PortSt → Nat
  | .down => 0 | .training => 1 | .up => 2 | .degraded => 3 | .bypassed => 4

/-- A port's entry in OPC_FABRIC_STATUS from an offset. -/
def portFields (q : PortState) (b : Nat) : List (Nat × Nat × Nat) :=
  [(b, 1, q.lanes.toNat), (b + 1, 1, b2n (! q.full)), (b + 2, 1, portCode q.st), (b + 4, 4, q.retries.toNat)]

/-- OPC_FABRIC_STATUS. -/
def execOpcFabricStatus (mb : Nat) (s : State) : Out :=
  serveNext 0x0701 mb s noResv noChecks fun s m =>
    done s mb m 32 ((List.range 4).flatMap fun p => portFields (portOf s p) (16 + 8 * p))

/-- OPC_PORT_CONFIG (R311, R378): the port trains, with or without a lane; a change of its lanes changes the link
delay. DONE follows its training. -/
def execOpcPortConfig (mb : Nat) (s : State) : Out :=
  serveNext 0x0702 mb s noResv
    (fun s m =>
      let a := Msg.field m 17 1
      [range (3 < Msg.field m 16 1) 16, range (2 < a) 17, range (a = 1 && 3 < Msg.field m 18 1) 18,
       (! domOn s 4, 0x13, 4), busy s.power.fordClosed])
    fun s m =>
      let p := Msg.field m 16 1
      let a := Msg.field m 17 1
      let drop (q : PortState) : Option Nat := if a = 1 then some (Msg.field m 18 1) else if a = 2 then none else q.drop
      let s := modPort (deferResp s mb m) p fun q => { trainPort q with byHost := true, drop := drop q }
      if a = 0 then s else changeClock s fun s => { s with clock := { s.clock with syncDegraded := true } }

/-- Local memory there is to hold pages, in bytes: as found at training, else the most that can be fitted. -/
def localBytes (s : State) : Nat := if s.mem.avail then s.mem.mib * 2 ^ 20 else 2 ^ 36

/-- OPC_PAGE_HOME (R148): the pages are held from the local offset on. -/
def execOpcPageHome (mb : Nat) (s : State) : Out :=
  serveNext 0x0703 mb s noResv
    (fun s m =>
      let first := Msg.field m 24 4
      let n := Msg.field m 28 4
      [range (33554431 < first) 24, range (33554432 < first + n) 28,
       range (localBytes s < Msg.field m 32 8 + 65536 * n) 32, domainsOff s [11]])
    fun s m =>
      let homes := (List.range (Msg.field m 28 4)).foldl (fun t k =>
        tset 0 t (Msg.field m 24 4 + k) (Msg.field m 32 8 + 65536 * k + 1)) s.cfg.homes
      done { s with cfg := { s.cfg with homes := homes } } mb m 0 []

/-- The port of a number. -/
def portAt (p : Nat) : Port := if p = 0 then .west else if p = 1 then .east else if p = 2 then .north else .south

/-- OPC_BOOT_SERVE (R329): boot requests of the named port are answered until the download ends. -/
def execOpcBootServe (mb : Nat) (s : State) : Out :=
  serveNext 0x0704 mb s (fun m => highAddr m 24)
    (fun s m => [range (3 < Msg.field m 16 1) 16, busy s.fabric.serve.isSome])
    fun s m =>
      let v : Serve := { port := portAt (Msg.field m 16 1), addr := Msg.field m 24 8, len := Msg.field m 32 4 }
      deferResp { s with fabric := { s.fabric with serve := some v } } mb m

/-- The serving ends: DONE. -/
def endServe (s : State) : State :=
  answerOwed { s with fabric := { s.fabric with serve := none } } (isOp 0x0704) fun q => doneResp s q 0 []

/-- BOOT_SERVE_SILENCE (R329). -/
def execBootServeSilence (s : State) : Out := if s.fabric.serve.isSome then .next (endServe s) else .next s

end Sys2Proof.Machine
end

