-- ==== Sys2Proof/Machine/Fabric.lean ====
section
/-! DEFINITION. The Trellis ports: training, link retry, credits, reception and forwarding (R307 to R320, R326). -/

namespace Sys2Proof.Machine

/-! Reception (R313, R314, R316). -/

/-- The input buffer a packet takes: 2 × port + DL (R316). -/
def inputOf (p : Nat) (pkt : Packet) : Nat := 2 * p + pktDl pkt

/-- Is a packet taken: its CRC good, in LSEQ order (R313, R314)? -/
def inOrder (q : PortState) (pkt : Packet) : Bool := pkt.crc = packetCrc pkt && pkt.lseq = q.rxSeq.setWidth 16

/-- A packet that arrives at a port that carries packets: taken into its input buffer and handed to f; else discarded,
with a NAK due (R314). -/
def receive (s : State) (p : Nat) (pkt : Packet) (f : State → Out) : Out :=
  if ¬ portUp (portOf s p) ∨ inReset s then .next s
  else if inOrder (portOf s p) pkt then f (modPort s p fun q => { q with rxSeq := q.rxSeq + 1, nakDue := false })
  else .next (modPort s p fun q => { q with nakDue := true })

/-- A packet that is delivered here leaves its input buffer. -/
def takeIn (s : State) (p : Nat) (pkt : Packet) : State := freeInput s (inputOf p pkt) pkt

/-- A packet of a class addressed to this node: taken, delivered, and handed to f. A packet of another class or for
another node is none of this row's. -/
def deliver (cls : Nat) (port : Port) (pkt : Packet) (s : State) (f : State → Out) : Out :=
  if pkt.cls.toNat = cls ∧ pkt.dest.toNat % 2048 = ownAddr s then
    receive s (portIx port) pkt fun s => f (takeIn s (portIx port) pkt)
  else .next s

/-- An answer to a request packet: its class, STATUS and data; ARG0, ARG1 and TAG are the request's (Table 17.2). -/
def answerPkt (s : State) (pkt : Packet) (cls status : Nat) (data : List Byte) : Packet :=
  mkPacket s cls (pkt.src.toNat % 2048) status pkt.arg0.toNat pkt.arg1.toNat pkt.tag.toNat data

/-! Forwarding. -/

/-- Link-control classes (R315), and the broadcast classes, which no DEST names. -/
def linkClass (pkt : Packet) : Bool := pkt.cls = 0x7E#8 || pkt.cls = 0x7F#8
def bcastClass (pkt : Packet) : Bool := pkt.cls = 0x32#8 || pkt.cls = 0x40#8

/-- PACKET_FORWARD (R318 to R320). A class that Table 17.3 does not hold is discarded here. -/
def execPacketForward (port : Port) (pkt : Packet) (s : State) : Out :=
  let p := portIx port
  if pkt.cls = 0 ∨ linkClass pkt ∨ bcastClass pkt then .next s
  else if ¬ classKnown pkt.cls.toNat then receive s p pkt fun s => .next (takeIn s p pkt)
  else if pkt.dest.toNat % 2048 = ownAddr s then .next s
  else receive s p pkt fun s => .next (sendPacket s (inputOf p pkt) pkt)

/-! Link retry (R314, R315). -/

/-- The packets that came by port p and that this node still answers for: held here, or sent on and not acknowledged. -/
def heldFrom (s : State) (p : Nat) : List Packet :=
  ((List.range 4).flatMap fun o =>
    ((portOf s o).waiting.filter fun e => e.1 ≠ 8 && e.1 % 16 / 2 = p).map Prod.snd
      ++ ((portOf s o).replay.filter fun r => r.1 = p).map fun r => r.2.1)
    ++ (portOf s p).ingress

/-- LSEQs, counted back from the next one expected, of those of them that came over the link as it stands. -/
def pendingBack (s : State) (p : Nat) : List Nat :=
  ((heldFrom s p).filter fun k => ! k.lseq.getLsbD 15).map fun k => ((portOf s p).rxSeq - k.lseq.setWidth 12).toNat

/-- The ACK of an input port: the LSEQ up to which every packet has been delivered or accepted beyond (R314). -/
def ackOf (s : State) (p : Nat) : BitVec 12 :=
  (portOf s p).rxSeq - 1 - BitVec.ofNat 12 ((pendingBack s p).foldl max 0)

/-- Credit counts as ARG1 holds them (R316). -/
def creditArg (t : Tab Byte) : Nat := ((List.range 8).map fun k => (tget 0 t k).toNat * 256 ^ k).sum

/-- Credit counts of ARG1. -/
def creditTab (a : BitVec 64) : Tab Byte :=
  (List.range 8).foldl (fun t k => tset 0 t k (BitVec.ofNat 8 (a.toNat / 256 ^ k))) []

/-- LINK_SEND_TIMER (R315): a LINK packet with what the port has to return; a NAK is named again until the packet it
asks for has come. A Ford drain returns no credits (R326). -/
def execLinkSendTimer (port : Port) (s : State) : Out :=
  let p := portIx port
  let q := portOf s p
  let shown := if s.power.fordDrain then q.shown else q.freed
  if portUp q ∧ ¬ inReset s ∧ (q.ackDue ∨ q.nakDue ∨ q.shown ≠ shown) then
    let arg0 := (ackOf s p).toNat + 4096 * (if q.nakDue then q.rxSeq.toNat else 0) + 2 ^ 24 * b2n q.nakDue
    let pkt := withCrc (mkPacket s 0x7F q.nbAddr.toNat 0 arg0 (creditArg shown) 0 [])
    .next (modPort s p fun q => { q with lastCtl := some pkt, ackDue := false, shown := shown })
  else .next s

/-- Is the LSEQ acknowledged by an ACK? -/
def ackCovers (ack : BitVec 12) (pkt : Packet) : Bool := (ack - pkt.lseq.setWidth 12).toNat < 2048

/-- A packet leaves the replay buffer: the port it came by has an ACK to return; an MBOX_RSP of this node's own is
link-acknowledged (R88, R314). -/
def ackPacket (s : State) (r : Nat × Packet × Packet) : State :=
  let s := if r.1 < 4 then modPort s r.1 fun q => { q with ackDue := true } else s
  if r.1 = 4 ∧ r.2.2.cls = 0x11#8 then
    { s with fabric := { s.fabric with copies := s.fabric.copies.map fun c =>
      if c.pkt.tag = r.2.2.tag then { c with acked := true } else c } }
  else s

/-- An ACK releases the replay buffer up to its LSEQ (R314). -/
def takeAck (s : State) (p : Nat) (ack : BitVec 12) : State :=
  let es := (portOf s p).replay
  let s := modPort s p fun q => { q with replay := es.dropWhile fun r => ackCovers ack r.2.2 }
  settleCopies ((es.takeWhile fun r => ackCovers ack r.2.2).foldl ackPacket s)

/-- A NAK for a packet in the replay buffer: the sender resends from it and counts a retry; the eighth for one LSEQ
retrains the port (R314). -/
def takeNak (s : State) (p : Nat) (l : BitVec 12) : State :=
  let q := portOf s p
  if q.replay.any fun r => r.2.2.lseq = l.setWidth 16 then
    let n := if q.nakSeq = l then q.naks + 1 else 1
    let s := modPort s p fun q => { q with retries := q.retries + 1, nakSeq := l, naks := if n = 8 then 0 else n }
    if n = 8 then changePort s p trainPort else s
  else s

/-- LINK (R314 to R316). -/
def execLink (port : Port) (pkt : Packet) (s : State) : Out :=
  let p := portIx port
  if pkt.cls = 0x7F#8 ∧ pkt.crc = packetCrc pkt ∧ portUp (portOf s p) ∧ ¬ inReset s then
    let a := pkt.arg0.toNat
    let s := takeAck s p (BitVec.ofNat 12 a)
    let s := modPort s p fun q => { q with credit := creditTab pkt.arg1 }
    let s := if bitOf a 24 then takeNak s p (BitVec.ofNat 12 (a / 4096)) else s
    .next (pumpPort (portOf s p).waiting.length s p)
  else .next s

/-! Training (R308 to R311). -/

/-- Is the neighbour one step away in the port's direction (R309)? -/
def adjacent (own nb p : Nat) : Bool :=
  ringSteps p own nb = 1 && (if p < 2 then rowOf own = rowOf nb else colOf own = colOf nb)

/-- The lanes this end offers. -/
def ownLanes (q : PortState) : BitVec 4 :=
  match q.drop with
  | some l => putBit 0xF#4 l false
  | none => 0xF#4

/-- TRAIN (R309): what the neighbour offers is kept, and this end's own TRAIN goes out. Another neighbour means that a
Ford between has changed: SYNC_DEGRADED (R55). -/
def execTrain (port : Port) (pkt : Packet) (s : State) : Out :=
  let p := portIx port
  let q := portOf s p
  if pkt.cls = 0x7E#8 ∧ pkt.crc = packetCrc pkt ∧ q.st = .training ∧ ¬ inReset s then
    let a := pkt.arg0
    let own := withCrc (mkPacket s 0x7E 0 0 (ownAddr s + 65536 * (ownLanes q).toNat + 2 ^ 20) s.clock.mLock.toNat 0 [])
    let other := q.nbKnown && q.nbAddr ≠ a.setWidth 11
    let s := modPort s p fun q => { q with
      nbAddr := a.setWidth 11, nbLanes := (a >>> 16).setWidth 4, nbFull := a.getLsbD 20, nbM := pkt.arg1.setWidth 28
      nbKnown := true, fresh := q.fresh || other, lastCtl := some own }
    .next (if other then changeClock s fun s => { s with clock := { s.clock with syncDegraded := true } } else s)
  else .next s

/-- A packet that came over a link which has since begun anew: its LSEQ names nothing on the new one. -/
def pastLink (k : Packet) : Packet := { k with lseq := k.lseq ||| 0x8000#16 }

/-- The packets that came by port p are no longer the link's to acknowledge. -/
def markPast (s : State) (p : Nat) : State :=
  let s := (List.range 4).foldl (fun s o => modPort s o fun q => { q with
    waiting := q.waiting.map fun e => if e.1 ≠ 8 ∧ e.1 % 16 / 2 = p then (e.1, pastLink e.2) else e
    replay := q.replay.map fun r => if r.1 = p then (r.1, pastLink r.2.1, r.2.2) else r }) s
  modPort s p fun q => { q with ingress := q.ingress.map pastLink }

/-- Sequence numbers and credits begin anew with another neighbour: what was sent and not acknowledged is sent again, and
the initial credits leave out what the input buffers still hold (R309, R311; log 58). -/
def restartLink (s : State) (p : Nat) : State :=
  let s := markPast s p
  let again (r : Nat × Packet × Packet) : Nat × Packet := (if r.1 < 4 then 16 + 2 * r.1 else 8, r.2.1)
  let here := (List.range 4).flatMap fun o => (portOf s o).waiting.filter fun e => e.1 < 8 && e.1 / 2 = p
  let held := here ++ (portOf s p).ingress.map fun k => (inputOf p k, k)
  let freed := held.foldl (fun t e => tmod 0 t (2 * pktVc e.2 + e.1 % 2) (· - BitVec.ofNat 8 (flitsOf e.2))) ([] : Tab Byte)
  modPort s p fun q => { q with
    fresh := false, waiting := q.replay.map again ++ q.waiting, replay := [], txSeq := 0, rxSeq := 0, naks := 0
    nakDue := false, ackDue := false, freed := freed, shown := freed, credit := [], used := [] }

/-- May an attempt succeed (R308, R309, R311): the lane clock runs, the ends' M_LOCK agree, and the lanes locked at both
ends are at least three? -/
def mayTrain (s : State) (q : PortState) (lanes : BitVec 4) : Bool :=
  q.st = .training && s.clock.locked && q.nbKnown && withinStep s.clock.mLock.toNat q.nbM.toNat
    && 3 ≤ (setBits 4 lanes.toNat).length && (lanes &&& q.nbLanes &&& ownLanes q) = lanes && ! inReset s

/-- Sends what can go of the packets held for a port. -/
def pumpHeld (s : State) (p : Nat) : State := settleCopies (pumpPort (portOf s p).waiting.length s p)

/-- PORT_TRAINED (R309): lanes are those locked at both ends, of which the link may use four, or the three there are.
Another lane set than before changes the link delay: SYNC_DEGRADED (R378). -/
def execPortTrained (port : Port) (lanes : BitVec 4) (full : Bool) (s : State) : Out :=
  let p := portIx port
  let q := portOf s p
  if mayTrain s q lanes ∧ full = (q.nbFull && adjacent (ownAddr s) q.nbAddr.toNat p) then
    let s := if q.fresh then restartLink s p else s
    let s := changePort s p fun q => { q with
      st := if lanes = 0xF#4 then .up else .degraded, lanes := lanes, full := full
      drop := if lanes = 0xF#4 then q.drop else (List.range 4).find? fun l => ! lanes.getLsbD l }
    let s := modPort s p fun q => { q with byHost := false, lastLanes := lanes }
    let s := if q.lastLanes = 0 ∨ q.lastLanes = lanes then s
      else changeClock s fun s => { s with clock := { s.clock with syncDegraded := true } }
    .next (settleMeasure (answerTrained (bootTrained (settleLock (pumpHeld (judgeHeld s p) p)))))
  else .next s

/-- PORT_RETRAIN (R311). -/
def execPortRetrain (port : Port) (s : State) : Out :=
  let p := portIx port
  if portUp (portOf s p) ∧ ¬ inReset s then .next (changePort s p trainPort) else .next s

/-- PORT_TRAIN_RETRY (R309): an attempt that fails leaves the port DOWN; 10 ms later the next one begins. During the rate
measurement of a Trellis boot no port trains (R67). -/
def execPortTrainRetry (port : Port) (s : State) : Out :=
  let p := portIx port
  if inReset s then .next s
  else
    match (portOf s p).st with
    | .training => .next (answerTrained (settleLock (portDown s p)))
    | .down => .next (if s.dev.mode = .boot ∧ s.boot.wait = .measure then s else changePort s p trainPort)
    | _ => .next s

/-- PORT_ACK_TIMEOUT (R314): packets are outstanding without ACK progress. -/
def execPortAckTimeout (port : Port) (s : State) : Out :=
  let p := portIx port
  if portUp (portOf s p) ∧ (portOf s p).replay ≠ [] ∧ ¬ inReset s then .next (changePort s p trainPort) else .next s

end Sys2Proof.Machine
end

