-- ==== Sys2Proof/Machine/FabricReq.lean ====
section
/-! DEFINITION. The packets addressed to this node: register access, mailbox messages, and reads and writes of its
memory (R81, R88, R148, R322 to R324). -/

namespace Sys2Proof.Machine

/-! Registers. -/

/-- May the words a REG packet names be reached: 1 to 8 of them, word-aligned, inside the map (R324, Table 17.3)? -/
def regReachable (s : State) (pkt : Packet) : Bool :=
  let a := pkt.arg0.toNat % 2 ^ 24
  let n := pkt.arg1.toNat
  1 ≤ n && n ≤ 8 && a % 4 = 0 && allMapped s a n

/-- REG_RD (R324): the answer holds one data flit, zero where nothing is read. -/
def execRegRd (port : Port) (pkt : Packet) (s : State) : Out :=
  deliver 0x01 port pkt s fun s =>
    if regReachable s pkt then
      let r := readWords pkt.arg1.toNat s .fabric (pkt.arg0.toNat % 2 ^ 24)
      let bs := r.1.flatMap fun w => le 4 w.toNat
      .next (sendPlain r.2 8 (answerPkt r.2 pkt 0x03 0 (bs ++ zeros (32 - bs.length))))
    else .next (sendPlain s 8 (answerPkt s pkt 0x03 1 (zeros 32)))

/-- REG_WR (R324, R392): the words are written as one unit. -/
def execRegWr (port : Port) (pkt : Packet) (s : State) : Out :=
  deliver 0x02 port pkt s fun s =>
    if regReachable s pkt ∧ pkt.data.length = 32 then
      let ws := (List.range pkt.arg1.toNat).map fun k => BitVec.ofNat 32 (bytesAt pkt.data (4 * k) 4)
      let s := writeWords s (pkt.arg0.toNat % 2 ^ 24) ws
      .next (sendPlain s 8 (answerPkt s pkt 0x03 0 []))
    else .next (sendPlain s 8 (answerPkt s pkt 0x03 1 []))

/-! Requests of this node and their answers (R322). -/

/-- The outstanding request that an answer names. -/
def outstOf (s : State) (tag : BitVec 16) (classes : List Nat) : Option Outst :=
  s.fabric.outst.find? fun o => o.tag = tag && classes.contains o.cls.toNat

/-- The request is outstanding no more. -/
def closeOutst (s : State) (tag : BitVec 16) : State :=
  { s with fabric := { s.fabric with outst := s.fabric.outst.filter fun o => o.tag ≠ tag } }

/-- REG_RSP (R322): it completes the outstanding request; an answer to none is discarded. -/
def execRegRsp (port : Port) (pkt : Packet) (s : State) : Out :=
  deliver 0x03 port pkt s fun s =>
    match outstOf s pkt.tag [0x01, 0x02] with
    | some o =>
      let ws := (List.range (pkt.data.length / 4)).map fun k => BitVec.ofNat 32 (bytesAt pkt.data (4 * k) 4)
      .next { closeOutst s o.tag with fabric := { (closeOutst s o.tag).fabric with lastReg := ws } }
    | none => .next s

/-- A Sluice read that is not answered with data never completes (R149, R324): the fetch that it was for. -/
def loseRead (s : State) (slot a : Nat) : State :=
  match (burstOf s slot).issued.find? fun k =>
    (sliceRanges s (burstOf s slot) k).any fun e => e.1 / 32 * 32 ≤ a && a < e.1 + e.2 with
  | some k => modBurst s slot fun b => { b with issued := b.issued.erase k, lost := b.lost ++ [k] }
  | none => s

/-- The answer of a read request, with the bytes it brings. A Sluice fetch takes its bytes with FETCH_RESIDENT. -/
def readAnswered (s : State) (o : Outst) (status : Nat) (rem : Remote) : Out :=
  match o.dma, o.slot with
  | some c, _ =>
    let d := dmaOf s c
    match d.phase with
    | .fetching => if d.addr = o.addr then descArrives s c status rem else .next s
    | .moving =>
      match d.reads.find? fun e => addr41 d.src + e.1 = o.addr with
      | some e => .next (burstArrives s c e.1 e.2 status rem)
      | none => .next s
    | _ => .next s
  | none, some slot => .next (if status = 0 then s else loseRead s slot o.addr)
  | none, none => .next s

/-- The DMA channel whose write-back goes to an address. -/
def writebackAt (s : State) (a : Nat) : Option Nat :=
  (List.range 16).find? fun c => (dmaOf s c).phase = .writeback && (dmaOf s c).addr + 32 = a

/-- The answer of a write request: it answers every beat gathered in the packet (R270). -/
def writeAnswered (s : State) (o : Outst) (status : Nat) : State :=
  match o.dma with
  | some c =>
    let d := dmaOf s c
    match d.beats.find? fun e => d.phase = .moving && addr41 d.dst + e.1 = o.addr with
    | some e => beatsAnswered s c e.1 e.2 status
    | none => s
  | none =>
    match writebackAt s o.addr with
    | some c => writebackAnswered s c status
    | none => s

/-- The bytes of a packet by address. -/
def packetBytesAt (a : Nat) (data : List Byte) : Remote := (List.range data.length).map fun i => (a + i, data.getD i 0)

/-- MEM_RD_RSP (R324). -/
def execMemRdRsp (port : Port) (pkt : Packet) (s : State) : Out :=
  deliver 0x21 port pkt s fun s =>
    match outstOf s pkt.tag [0x20] with
    | some o => readAnswered (closeOutst s o.tag) o pkt.status.toNat (packetBytesAt o.addr pkt.data)
    | none => .next s

/-- MEM_WR_ACK (R270). -/
def execMemWrAck (port : Port) (pkt : Packet) (s : State) : Out :=
  deliver 0x23 port pkt s fun s =>
    match outstOf s pkt.tag [0x22] with
    | some o => .next (writeAnswered (closeOutst s o.tag) o pkt.status.toNat)
    | none => .next s

/-- REQUEST_TIMEOUT (R322): it counts as answered UNREACHABLE. -/
def execRequestTimeout (tag : BitVec 16) (s : State) : Out :=
  match outstOf s tag [0x01, 0x02, 0x20, 0x22] with
  | some o =>
    let s := closeOutst s tag
    if o.cls = 0x20#8 then readAnswered s o 3 []
    else if o.cls = 0x22#8 then .next (writeAnswered s o 3)
    else .next s
  | none => .next s

/-! Mailbox messages (R81, R88, R323). -/

/-- Has a message with this TAG been taken from the node: is it among the last 256? -/
def takenBefore (s : State) (pkt : Packet) : Bool := (tget [] s.fabric.taken (pkt.src.toNat % 2048)).contains pkt.tag

/-- Keeps the TAG of a message taken. -/
def noteTaken (s : State) (pkt : Packet) : State :=
  { s with fabric := { s.fabric with
    taken := tmod [] s.fabric.taken (pkt.src.toNat % 2048) fun ts => (pkt.tag :: ts).take 256 } }

/-- MBOX_ACK for a message. -/
def sendAck (s : State) (pkt : Packet) (status : Nat) : State :=
  sendPlain s 8 (mkPacket s 0x12 (pkt.src.toNat % 2048) status 0 0 pkt.tag.toNat [])

/-- MBOX_REQ (R81, R323). -/
def execMboxReq (port : Port) (pkt : Packet) (s : State) : Out :=
  deliver 0x10 port pkt s fun s =>
    if 2 ≤ boxOf pkt then .next (sendAck s pkt 3)
    else if takenBefore s pkt then .next (sendAck s pkt 0)
    else if wrongPath s (boxOf pkt) then .next (refusePath (sendAck (noteTaken s pkt) pkt 0) pkt false)
    else if ringRoom s (boxOf pkt) then
      .next (sendAck (putRequest (noteTaken s pkt) (boxOf pkt) (arrived pkt false)) pkt 0)
    else .next (sendAck s pkt 1)

/-- MBOX_RSP (R323): the entry has reached the requester; it is acknowledged, once taken. -/
def execMboxRsp (port : Port) (pkt : Packet) (s : State) : Out :=
  deliver 0x11 port pkt s fun s => .next (sendAck (if takenBefore s pkt then s else noteTaken s pkt) pkt 0)

/-- MBOX_ACK (R323): STATUS 0, 2 and 3 release the copy; after RING_FULL it is sent again. -/
def execMboxAck (port : Port) (pkt : Packet) (s : State) : Out :=
  deliver 0x12 port pkt s fun s =>
    if pkt.status = 1 then .next s
    else .next (settleCopies { s with fabric := { s.fabric with copies := s.fabric.copies.map fun c =>
      if c.pkt.tag = pkt.tag then { c with got := true } else c } })

/-- MBOX_ACK_TIMEOUT (R323): the copy is sent again with the same TAG. -/
def execMboxAckTimeout (tag : BitVec 16) (s : State) : Out :=
  match s.fabric.copies.find? fun c => c.pkt.tag = tag && ! c.got with
  | some c => .next (sendPlain s 8 c.pkt)
  | none => .next s

/-! Memory (R148, R324, R409). -/

/-- Is the range of a memory packet one that Table 17.3 allows? -/
def memRange (a n : Nat) : Bool := n % 32 = 0 && 32 ≤ n && n ≤ 2048 && a % 65536 + n ≤ 65536

/-- The STATUS that turns away an access by another node (R324): unavailable memory answers UNREACHABLE, a range that the
class does not allow ERROR (log 59), a page not held NOT_HELD. -/
def homeRefuses (s : State) (a n : Nat) (fits : Bool) : Option Nat :=
  if ¬ memReady s then some 3
  else if ¬ (memRange a n ∧ fits) then some 2
  else if (localOf s a).isNone then some 1
  else none

/-- MEM_RD (R324): a word that cannot be corrected answers ERROR. -/
def execMemRd (port : Port) (pkt : Packet) (s : State) : Out :=
  deliver 0x20 port pkt s fun s =>
    let a := pkt.arg0.toNat % 2 ^ 41
    let n := pkt.arg1.toNat
    match homeRefuses s a n true, readBytes s [] a n with
    | some st, _ => .next (sendPlain s 8 (answerPkt s pkt 0x21 st []))
    | none, some bs => .next (sendPlain s 8 (answerPkt s pkt 0x21 0 bs))
    | none, none => .next (sendPlain s 8 (answerPkt s pkt 0x21 2 []))

/-- MEM_WR (R324): a write that is not turned away is made to the local copy. -/
def execMemWr (port : Port) (pkt : Packet) (s : State) : Out :=
  deliver 0x22 port pkt s fun s =>
    let a := pkt.arg0.toNat % 2 ^ 41
    let n := pkt.arg1.toNat
    match homeRefuses s a n (pkt.data.length = n) with
    | some st => .next (sendPlain s 8 (answerPkt s pkt 0x23 st []))
    | none =>
      let s := writePage s a pkt.data
      .next (sendPlain s 8 (answerPkt s pkt 0x23 0 []))

end Sys2Proof.Machine
end

