-- ==== Sys2Proof/Machine/FabricTime.lean ====
section
/-! DEFINITION. Time exchanges, broadcasts and boot packets (R53, R71, R321, R328 to R332). -/

namespace Sys2Proof.Machine

/-! Time (R331, R332). -/

/-- TIME_XCHG (R331): the answer goes back by the port the exchange came by, with the stamps of the exchange's arrival and
of its own leaving, at the c2-th and c3-th timing-clock edge since the last HWREF edge. -/
def execTimeXchg (port : Port) (pkt : Packet) (c2 c3 : Nat) (s : State) : Out :=
  deliver 0x30 port pkt s fun s =>
    .next (holdFor s (portIx port) 8
      (mkPacket s 0x31 (pkt.src.toNat % 2048) 0 (countAt s c2).toNat (leaveStamp s c3).toNat pkt.tag.toNat []))

/-- One exchange is added to a port's sums: twice the offset and twice the link delay (R53). -/
def addXchg (q : PortState) (t1 t2 t3 t4 : Count) : PortState :=
  let there := (t2 - t1).toInt
  let back := (t4 - t3).toInt
  let off := there - back
  { q with
    xT1 := none, xTag := none, xDone := q.xDone + 1, xSum := q.xSum + off, xDelay := q.xDelay + (there + back)
    xMin := if q.xDone = 0 then off else min q.xMin off, xMax := if q.xDone = 0 then off else max q.xMax off }

/-- TIME_XCHG_RSP (R331), which arrives at the c4-th timing-clock edge since the last HWREF edge: offset and link delay are computed, and the next exchange goes out. -/
def execTimeXchgRsp (port : Port) (pkt : Packet) (c4 : Nat) (s : State) : Out :=
  deliver 0x31 port pkt s fun s =>
    let p := portIx port
    match (portOf s p).xT1 with
    | some t1 =>
      if measuring s p ∧ (portOf s p).xTag = some pkt.tag then
        let s := modPort s p fun q => addXchg q t1 pkt.arg0 pkt.arg1 (countAt s c4)
        .next (if measuring s p then sendXchg s p else settleMeasure s)
      else .next s
    | none => .next s

/-! Broadcasts (R321). -/

/-- PHASE of a broadcast copy: 1 in the column. -/
def phaseOf (pkt : Packet) : Nat := b2n (pkt.route.getLsbD 5)

/-- A broadcast copy of a class arrives: it is passed on under R321 and handed to f. A copy whose BCAST bit is clear is
none. -/
def deliverCopy (cls : Nat) (port : Port) (pkt : Packet) (s : State) (f : State → State) : Out :=
  if pkt.cls.toNat = cls ∧ pkt.route.getLsbD 3 then
    receive s (portIx port) pkt fun s => .next (f (sendBroadcast s (inputOf (portIx port) pkt) (phaseOf pkt) pkt))
  else .next s

/-- TIME_EPOCH (R332). -/
def execTimeEpoch (port : Port) (pkt : Packet) (s : State) : Out :=
  deliverCopy 0x32 port pkt s fun s => takeEpoch (takeIn s (portIx port) pkt) pkt.arg0

/-- BCAST_REQ (R321): it waits at the ingress while its mailbox's ring is full, or others wait before it. -/
def execBcastReq (port : Port) (pkt : Packet) (s : State) : Out :=
  deliverCopy 0x40 port pkt s fun s =>
    drainIngress (modPort s (portIx port) fun q => { q with ingress := q.ingress ++ [pkt] })

/-! Boot packets (R71, R328 to R330). -/

/-- The pieces of an image of n bytes, of up to 2,048 bytes each: offset and length. -/
def imagePieces (n : Nat) : List (Nat × Nat) :=
  (List.range ((n + 2047) / 2048)).map fun k => (2048 * k, min 2048 (n - 2048 * k))

/-- One BOOT_DATA packet, filled up to whole flits. -/
def sendPiece (s : State) (dest off : Nat) (bs : List Byte) : State :=
  sendPlain s 8 (mkPacket s 0x52 dest 0 off 0 0 (bs ++ zeros ((32 - bs.length % 32) % 32)))

/-- The image goes out in ascending offset, up to the first piece that cannot be read (log 60). -/
def sendImage (rem : Remote) (dest addr : Nat) : List (Nat × Nat) → State → State
  | [], s => s
  | (off, n) :: ps, s =>
    match readBytes s rem (addr + off) n with
    | some bs => sendImage rem dest addr ps (sendPiece s dest off bs)
    | none => s

/-- BOOT_REQ (R329): on the served port it is answered with BOOT_OFFER, and the image follows. -/
def execBootReq (port : Port) (pkt : Packet) (rem : Remote) (s : State) : Out :=
  deliver 0x50 port pkt s fun s =>
    match s.fabric.serve with
    | some v =>
      if v.port = port then
        let dest := pkt.src.toNat % 2048
        let s := { s with fabric := { s.fabric with serve := some { v with to_ := some pkt.src } } }
        .next (sendImage rem dest v.addr (imagePieces v.len)
          (sendPlain s 8 (mkPacket s 0x51 dest 0 v.len 0 0 [])))
      else .next s
    | none => .next s

/-- BOOT_OFFER (R71, R328): the first one fixes the source, and a download begins. -/
def execBootOffer (port : Port) (pkt : Packet) (s : State) : Out :=
  deliver 0x51 port pkt s fun s =>
    if s.dev.mode = .boot ∧ s.boot.wait = .request ∧ (s.boot.phase = .waiting ∨ s.boot.phase = .failed) then
      .next (beginDownload { s with boot := { s.boot with
        source := some (pkt.src.setWidth 11), offered := pkt.arg0.toNat } })
    else .next s

/-- Stores image bytes at their offset; a later packet's data stands (R71). -/
def storePiece (b : Boot) (off : Nat) (bs : List Byte) : Boot :=
  { b with
    img := (List.range bs.length).foldl (fun t i => tset 0 t (off + i) (bs.getD i 0)) b.img
    covered := ((List.range (bs.length / 32)).map fun k => off / 32 + k).filter (fun u => ! b.covered.contains u)
      ++ b.covered }

/-- Are the units up to n bytes all covered? -/
def coveredTo (b : Boot) (n : Nat) : Bool := (List.range ((n + 31) / 32)).all fun u => b.covered.contains u

/-- What follows a packet of the image: the header is checked once it is there, and verification begins once the offered
length has arrived (R69, R328). -/
def afterPiece (s : State) (hadHeader : Bool) : State :=
  let h := coveredTo s.boot 128
  match (if h ∧ ¬ hadHeader then headerError (bootBytes s 128) else none) with
  | some e => bootFails s e
  | none => if coveredTo s.boot s.boot.offered then { s with boot := { s.boot with phase := .verifying } } else s

/-- BOOT_DATA (R71, R328, R330): the source's bytes are stored; any other node's are answered BOOT_DONE 0xFF. -/
def execBootData (port : Port) (pkt : Packet) (s : State) : Out :=
  deliver 0x52 port pkt s fun s =>
    if s.boot.source ≠ some (pkt.src.setWidth 11) then .next (sendBootDone s (pkt.src.toNat % 2048) 0xFF)
    else if s.dev.mode = .boot ∧ s.boot.phase = .receiving ∧ pkt.arg0.toNat % 32 = 0 then
      let had := coveredTo s.boot 128
      .next (afterPiece { s with boot := storePiece s.boot pkt.arg0.toNat pkt.data } had)
    else .next s

/-- BOOT_DONE (R329, R330): the booting neighbour's report ends the serving. -/
def execBootDone (port : Port) (pkt : Packet) (s : State) : Out :=
  deliver 0x53 port pkt s fun s =>
    match s.fabric.serve with
    | some v => .next (if v.to_ = some pkt.src then endServe s else s)
    | none => .next s

end Sys2Proof.Machine
end

