-- ==== Sys2Proof/Machine/House.lean ====
section
/-! DEFINITION. Housekeeping, recalibration on drift, and throttling (R334, R341 to R347). -/

namespace Sys2Proof.Machine

/-! Readings (Tables 18.3, 18.4, 21.7). -/

/-- The low bits of a reading, its round and VALID. -/
def hkWord (s : State) (valid : Bool) (flag : Bool) (v : Int) : Word :=
  BitVec.ofNat 32 ((v % 65536).toNat + 65536 * s.house.round.toNat + 2 ^ 30 * b2n flag + 2 ^ 31 * b2n valid)

/-- A reading that its sensor did not produce: VALID is clear, the rest stays. -/
def hkNone (w : Word) : Word := w &&& 0x7FFFFFFF#32

def setTemp (s : State) (n : Nat) (w : Word) : State :=
  { s with house := { s.house with temp := tset 0 s.house.temp n w } }

/-- A slot of TDn: the converter works only with PD31 at full accuracy (R341). A reading open or shorted is reported,
with 1 as its operand for a short (R344). -/
def readDiode (s : State) (n : Nat) (r : Option Int) (faulty : Bool) : State :=
  let old := tget (0 : Word) s.house.temp n
  if ¬ s.power.refFull then s
  else if faulty then
    detectOwn (setTemp s n (hkWord s false true (hkTemp s n))) (0x3500 + n) 0x0807 (if r = some 1 then 1 else 0) false
  else
    match r with
    | some v => setTemp s n (hkWord s true false v)
    | none => setTemp s n (hkNone old)

/-- A slot of an on-chip diode: 0.25 °C steps. -/
def readChip (s : State) (n : Nat) (r : Option Int) : State :=
  match r with
  | some v => setTemp s n (hkWord s true false (v / 4 * 4))
  | none => setTemp s n (hkNone (tget 0 s.house.temp n))

/-- Nominal of a rail in mV and its tolerance in percent (Table 2.3), in the order of slots 11 to 25. VPS0 to VPS3 have
a range instead. -/
def railNominal (k : Nat) : Int × Int :=
  [(800, 3), (750, 3), (800, 3), (1200, 5), (1800, 5), (5500, 5), (-2000, 5), (1050, 3), (500, 3), (900, 3), (1200, 3)].getD
    k (0, 0)

/-- Does a reading of rail k lie in Table 2.3? -/
def railInside (k : Nat) (mv : Int) : Bool :=
  if 11 ≤ k then 1200 ≤ mv && mv ≤ 4000
  else 100 * (mv - (railNominal k).1).natAbs ≤ (railNominal k).2.toNat * (railNominal k).1.natAbs

/-- A slot of a rail: the rail is present while its last reading lies in tolerance (log 133). -/
def readRail (s : State) (k : Nat) (r : Option Int) : State :=
  match r with
  | some v => { s with
    house := { s.house with rail := tset 0 s.house.rail k (hkWord s true (! railInside k v) v) }
    power := { s.power with rails := putBit s.power.rails k (railInside k v) } }
  | none => { s with house := { s.house with rail := tset 0 s.house.rail k (hkNone (tget 0 s.house.rail k)) } }

/-- Slot 26: a deviation above 0.1 % is reported, and ten rounds within it end Press's wait (Table 19.2). The reference
lies in PD31. -/
def readRef (s : State) (r : Option Int) : State :=
  if ¬ domOn s 31 then s
  else
    match r with
    | some v =>
      let bad := 1000 < v.natAbs
      let wait := match s.house.refWait with
        | some n => if bad then some 0 else if n + 1 = 10 then none else some (n + 1)
        | none => none
      let s := { s with house := { s.house with ref0 := hkWord s true false v, refWait := wait } }
      if bad then detectOwn s 0x3300 0x0805 (v % 2 ^ 32).toNat false else s
    | none => { s with house := { s.house with ref0 := hkNone s.house.ref0 } }

/-- Slot 27: the standard, in 0.25 Ω; outside 10 kΩ ±1 % the on-die resistor is used (R334). -/
def readStandard (s : State) (r : Option Int) : State :=
  match r with
  | some v =>
    let sub := v < 39600 || 40400 < v
    { s with house := { s.house with ref1 := hkWord s true sub v, subst := sub } }
  | none => { s with house := { s.house with ref1 := hkNone s.house.ref1 } }

/-- The HK_TEMP number that a slot reads (Table 18.3). -/
def slotTemp (n : Nat) : Option Nat :=
  if n ≤ 10 then some n else if 32 ≤ n ∧ n ≤ 42 then some (n - 32) else none

/-- One slot's reading. -/
def readSlot (s : State) (n : Nat) (r : Option Int) (faulty : Bool) : State :=
  match slotTemp n with
  | some k => if k < 8 then readDiode s k r faulty else readChip s k r
  | none =>
    if 11 ≤ n ∧ n ≤ 25 then readRail s (n - 11) r
    else if n = 26 then readRef s r
    else if n = 27 then readStandard s r
    else s

/-! Recalibration on drift (R343 to R345). -/

/-- Has the unit drifted: does a diode's reading lie further from its last one than the threshold? A change of source is
no drift. -/
def drifted (s : State) (u : Nat) : Bool :=
  ((unitDiodes u).zip (unitOf s u).calDiodes).any fun e =>
    fromRemote s e.1 = e.2.2 && s.cfg.drift < (diodeTemp s e.1 - e.2.1).natAbs

/-- Have 100 ms passed since the unit's last calibration: 6,400 housekeeping slots of 15.625 µs (R342)? -/
def calibratedLongAgo (s : State) (u : Nat) : Bool := 6400 < s.house.slots - (unitOf s u).calSlot

/-- Must the unit's drift item wait for IDLE (R345)? -/
def driftDefers (s : State) (u : Nat) : Bool :=
  defers s
    && (u = unitTdc || (u < 12 && (mappedIn s.dev.armedMap).any fun c => c / 64 = u)
      || (0x100 ≤ u && u < 0x104 && (List.range 12).any fun k => (dpsOf s (12 * (u - 0x100) + k)).enabled))

/-- A unit that is due: its item is submitted, or waits for the first IDLE. -/
def driftUnit (s : State) (u : Nat) : State :=
  let v := unitOf s u
  if v.st = .active ∧ v.corrected ∧ v.due = 0 ∧ drifted s u ∧ calibratedLongAgo s u
      ∧ ¬ calOpen s u then
    if driftDefers s u then modUnit s u fun v => { v with due := driftClasses u }
    else submitCal s u (driftClasses u) false
  else s

/-- The units compared after a temperature reading: those whose service temperature it gives. During SERVICE, and in the
modes that dispatch no CAL item, none is (Table 4.1, R371). -/
def driftCheck (s : State) (k : Nat) : State :=
  if s.cfg.auto ∧ spabryUp s ∧ s.dev.mode ≠ .service ∧ (s.dev.mode = .calibrate ∨ s.dev.mode = .idle ∨ defers s) then
    (calUnits.filter fun u => (unitDiodes u).any fun n => (if fromRemote s n then n else onChip n) = k).foldl driftUnit s
  else s

/-- A service junction of 145 °C or more read by a remote diode is raised through Spabry (R347). -/
def remoteTrip (s : State) (k : Nat) : State :=
  if k < 8 ∧ fromRemote s k ∧ 2320 ≤ hkTemp s k ∧ spabryUp s then
    detectOwn s 0x3403 0x0807 ((hkTemp s k) % 2 ^ 32).toNat true
  else s

/-! Throttling (R346). -/

/-- The hottest service junction: the highest service temperature. -/
def hottest (s : State) : Int := ((List.range 8).map (diodeTemp s)).foldl max (diodeTemp s 0)

/-- T_TH, 4 °C lower while a CONTAINED thermal record is unacknowledged (Table 19.2). -/
def throttleAt (s : State) : Int := (s.cfg.throttle : Int) - (if thermalContained s then 64 else 0)

/-- The next level, temperatures in 1/16 °C. -/
def nextLevel (level : Nat) (hot th : Int) : Nat :=
  if th + 64 ≤ hot then 2
  else if level = 0 then (if th ≤ hot then 1 else 0)
  else if hot < th - 32 then 0
  else if level = 2 ∧ hot < th + 32 then 1
  else level

/-- The window opens: every BURST that plays gets a throttling pause request. -/
def openWindow (s : State) : State :=
  let ks := tkeys s.bursts fun _ b => b.phase = .playing || b.phase = .stall
  ks.foldl (fun s i => requestPause s i true) { s with house := { s.house with window := true } }

/-- The end of a round. -/
def endRound (s : State) : State :=
  if spabryUp s ∧ s.dev.mode ≠ .service then
    let old := s.house.level
    let new := nextLevel old (hottest s) (throttleAt s)
    let s := { s with house := { s.house with level := new } }
    let s := if (old = 0) = (new = 0) then s
      else deviceNotice s 4 0x0F06 16
        [(16, 1, b2n (new ≠ 0)), (18, 2, (hottest s % 65536).toNat), (24, 8, (stamp s).toNat)]
    if new = 0 then s else openWindow s
  else s

/-- HOUSEKEEPING_SLOT (R342): the slot's reading, what follows from it, and the next slot. -/
def execHousekeepingSlot (reading : Option Int) (faulty : Bool) (s : State) : Out :=
  if inReset s then .next s
  else
    let s := { s with house := { s.house with slots := s.house.slots + 1 } }
    let n := s.house.slot
    let s := readSlot s n reading faulty
    let s := match slotTemp n with
      | some k => driftCheck (remoteTrip s k) k
      | none => s
    if n < 63 then .next { s with house := { s.house with slot := n + 1 } }
    else
      let s := endRound s
      .next { s with house := { s.house with slot := 0, round := s.house.round + 1 } }

/-- Would an item be dispatched but for the window, and what PAUSE and SERVICE hold back besides (R346)? -/
def windowHolds (s : State) (i : Nat) : Bool :=
  let t := { s with dev := { s.dev with mode := match s.dev.mode with
    | .service => s.dev.cameFrom
    | m => m } }
  let t := { t with dev := { t.dev with mode := if t.dev.mode = .pause then .run else t.dev.mode } }
  (canDispatch t i .burst && schedReady t i) || canDispatch t i .lane

/-- THROTTLE_WINDOW_END (R346): the items that the window kept QUEUED will carry THROTTLED. -/
def execThrottleWindowEnd (s : State) : Out :=
  if s.house.window then
    let s := { s with house := { s.house with window := false } }
    let held := slotsWhere s fun l => l.st = .queued && (l.kind = some .burst || l.kind = some .lane)
    .next ((held.filter (windowHolds s)).foldl
      (fun s i => modSlot s i (flagSlot fThrottled)) s)
  else .next s

end Sys2Proof.Machine
end

