-- ==== Sys2Proof/Machine/ReqConfig.lean ====
section
/-! DEFINITION. The commands of group 0x03: configuration and sites (Table 6.12; R113, R199, R200, R203, R207, R208,
R230, R281, R282, R288, R291, R292, R343). A field of an extension that is out of range is named by offset 16, where
EXT_ADDR stands (log 54). -/

namespace Sys2Proof.Machine

/-- REFUSED_BUSY for a resource that an item in flight claims, one of a unit that a CAL item holds among them (R113,
Table 1.3). -/
def claimed (s : State) (cs us : List Nat) : Bool × Nat × Nat :=
  busyIf (((s.ledger.filter fun e =>
    inFlight e.2 && ((claims s e.2).any cs.contains || (heldUnits s e.2).any us.contains)).head?).map fun e => itemId s e.1)

/-- The extension of a request, read (Table 6.2 has found it readable). -/
def extBytes (s : State) (rem : Remote) (m : Msg) : List Byte := (readExt s rem m).getD []

/-- The 8-byte entries of an extension, as numbers. -/
def entries8 (bs : List Byte) : List Nat := (List.range (bs.length / 8)).map fun k => bytesAt bs (8 * k) 8

/-! Sites, triggers, monitors. -/

/-- OPC_SITE_MAP. -/
def execOpcSiteMap (mb : Nat) (rem : Remote) (s : State) : Out :=
  serve 0x0301 mb rem s noResv noChecks fun s m =>
    let bs := extBytes s rem m
    if bs.any fun b => b.getLsbD 6 then .fault .reservedField
    else
      let map := (List.range 768).foldl (fun t c => tset 0 t c (bs.getD c 0)) []
      .next (done { s with dev := { s.dev with siteMap := map } } mb m 0 [])

/-- OPC_TRIG_CONFIG (R203). -/
def execOpcTrigConfig (mb : Nat) (s : State) : Out :=
  serveNext 0x0302 mb s (resvAt [(21, 3)])
    (fun _ m =>
      [range (3 < Msg.field m 16 1) 16, range (3 < Msg.field m 17 1) 17, range (4095 < Msg.field m 18 2) 18,
       range (3 < Msg.field m 20 1) 20, range (Msg.field m 24 4 = 0 || 1000000 < Msg.field m 24 4) 24])
    fun s m =>
      let s := modTrig s (Msg.field m 16 1) fun x => { x with
        fn := Msg.field m 17 1, pebs := BitVec.ofNat 12 (Msg.field m 18 2), cond := Msg.field m 20 1
        mon := { x.mon with hold := Msg.field m 24 4 } }
      done s mb m 0 []

/-- One entry of OPC_WMON_CONFIG: COALESCED counts from the configuration (Table 10.5). The lower of the two codes is
the low threshold (R199). -/
def setMonitor (s : State) (e : Nat) : State :=
  modChan s (e % 65536) fun x => { x with mon := {
    lo := BitVec.ofNat 10 (min (bitsOf e 25 16) (bitsOf e 35 26))
    hi := BitVec.ofNat 10 (max (bitsOf e 25 16) (bitsOf e 35 26)), route := BitVec.ofNat 3 (bitsOf e 38 36)
    hold := bitsOf e 63 39 } }

/-- OPC_WMON_CONFIG (R200): the monitors that are powered are judged afresh. balls: the voltages at the balls. -/
def execOpcWmonConfig (mb : Nat) (rem : Remote) (balls : List (Nat × Int)) (s : State) : Out :=
  serve 0x0303 mb rem s noResv
    (fun s m =>
      let es := entries8 (extBytes s rem m)
      [range (es.any fun e => 768 ≤ e % 65536) 16, claimed s [] (es.map fun e => e % 65536 / 64)])
    fun s m =>
      let es := entries8 (extBytes s rem m)
      let s := es.foldl setMonitor s
      let cs := ((es.map (· % 65536)).dedup).filter (monOn s)
      .next (done (judgeMons s cs balls) mb m 0 [])

/-! Converters and supplies. -/

/-- Is an input code in Table 12.1 for a TDC? -/
def tdcInputOk (t code : Nat) : Bool := code ≤ 0x0B || (code ≤ 0x0D && t < 112) || code = 0x0E

/-- OPC_TDC_CONFIG (R230). -/
def execOpcTdcConfig (mb : Nat) (s : State) : Out :=
  serveNext 0x0304 mb s noResv
    (fun s m =>
      let t := Msg.field m 16 1
      [range (191 < t) 16, range (! tdcInputOk t (Msg.field m 17 1)) 17, range (! tdcInputOk t (Msg.field m 18 1)) 18,
       range (8 < Msg.field m 20 1) 20, claimed s [claimOf 5 t] [unitTdc]])
    fun s m =>
      let s := modTdc s (Msg.field m 16 1) fun x => { x with
        start := BitVec.ofNat 8 (Msg.field m 17 1), stop := BitVec.ofNat 8 (Msg.field m 18 1)
        startUp := bitOf (Msg.field m 19 1) 0, stopUp := bitOf (Msg.field m 19 1) 1, e := Msg.field m 20 1 }
      done s mb m 0 []

/-- The gang leader that a request names; none for 0xFF. -/
def askedLeader (m : Msg) : Option Nat := if Msg.field m 25 1 = 0xFF then none else some (Msg.field m 25 1)

/-- Full scale of a DPS range in µA. -/
def dpsFullScale (r : Nat) : Nat := dpsRange r / 10 ^ 9

/-- The channels, none of those named, whose leader is one of those named: a request takes their gang apart. -/
def gangLost (s : State) (ns : List Nat) : List Nat :=
  (List.range 48).filter fun k => ! ns.contains k && (match (dpsOf s k).leader with
    | some x => ns.contains x
    | none => false)

/-- Does the request change a gang one of whose channels, before or after, is enabled (R281)? -/
def gangBusy (s : State) (ns : List Nat) (leader : Option Nat) : Bool :=
  (ns.any (fun n => (dpsOf s n).leader ≠ leader) || gangLost s ns ≠ [])
    && (ns ++ ns.flatMap (gangOf s) ++ gangLost s ns).any fun n => (dpsOf s n).enabled

/-- Is the gang of a request out of range: not 2 to 8 channels of one group (R281)? -/
def gangBad (ns : List Nat) (leader : Option Nat) : Bool :=
  leader.isSome && (ns.length < 2 || 8 < ns.length || ns.any fun n => n / 12 ≠ ns.headD 0 / 12)

/-- A channel's new configuration; an enabled one changes its range make-before-break (R282). -/
def configDps (leader : Option Nat) (r limit : Nat) (d : Dps) : Dps :=
  { d with range := r, leader := leader, limit := limit, ranging := d.ranging || (d.enabled && d.range ≠ r) }

/-- OPC_DPS_CONFIG: a gang that loses its leader is dissolved. The limit is 1 % to 100 % of full scale (Table 15.2). -/
def execOpcDpsConfig (mb : Nat) (s : State) : Out :=
  serveNext 0x0305 mb s (resvAt [(26, 2)])
    (fun s m =>
      let ns := dpsList (Msg.field m 16 8)
      let r := Msg.field m 24 1
      let l := askedLeader m
      let limit := Msg.field m 28 4
      [range (2 ^ 48 ≤ Msg.field m 16 8 || gangBad ns l) 16, range (5 < r) 24,
       range (match l with | some k => ! ns.contains k | none => false) 25,
       range (dpsFullScale r < limit || 100 * limit < dpsFullScale r) 28,
       claimed s (ns.map (claimOf 4)) (ns.map fun n => unitDps (n / 12)), busy (gangBusy s ns l)])
    fun s m =>
      let ns := dpsList (Msg.field m 16 8)
      let l := askedLeader m
      let s := { s with dps := tmods {} s.dps (gangLost s ns) fun _ d => { d with leader := none } }
      let s := { s with dps := tmods {} s.dps ns fun _ d => configDps l (Msg.field m 24 1) (Msg.field m 28 4) d }
      done s mb m 0 []

/-! Sines (R207, R208, R288). -/

/-- A sine's new configuration; amplitude and offset are read as signed (log 153). -/
def configSine (m : Msg) (x : Sine) : Sine :=
  if Msg.field m 32 1 = 0 then { x with off := x.on }
  else
    { on := true, off := false, phase := if x.on then x.phase else 0, step := BitVec.ofNat 32 (Msg.field m 20 4)
      amp := signed 32 (Msg.field m 24 4), offs := signed 32 (Msg.field m 28 4) }

/-- Does a DPS sine leave 0 V to 3.0 V (R288)? -/
def sineOut (m : Msg) : Bool :=
  let a := (signed 32 (Msg.field m 24 4)).natAbs
  let o := signed 32 (Msg.field m 28 4)
  Msg.field m 16 1 = 1 && Msg.field m 32 1 ≠ 0 && (o < a || 3000000 < o + a)

/-- OPC_SINE_CONFIG: of a gang the leader alone is named (R281). -/
def execOpcSineConfig (mb : Nat) (s : State) : Out :=
  serve 0x0306 mb [] s (resvAt [(17, 1)])
    (fun s m =>
      let dps := Msg.field m 16 1 = 1
      let n := Msg.field m 18 2
      [range (1 < Msg.field m 16 1) 16, range (if dps then 48 ≤ n || gangLeader s n ≠ n else 768 ≤ n) 18,
       claimed s [claimOf (if dps then 4 else 3) n] [if dps then unitDps (n / 12) else n / 64]])
    fun s m =>
      let n := Msg.field m 18 2
      if sineOut m then .fault .levelLimits
      else if Msg.field m 16 1 = 1 then .next (done (modDps s n fun d => { d with sine := configSine m d.sine }) mb m 0 [])
      else .next (done (modChan s n fun x => { x with sine := configSine m x.sine }) mb m 0 [])

/-! Lanes and calibration. -/

/-- OPC_LANE_CONFIG (R291, R292). -/
def execOpcLaneConfig (mb : Nat) (s : State) : Out :=
  serveNext 0x0307 mb s (fun m => resvAt [(19, 1)] m || Msg.field m 20 4 / 2 ^ 14 ≠ 0 || bitOf (Msg.field m 20 4) 12)
    (fun s m =>
      let g := Msg.field m 16 1
      [range (3 < g) 16, range (3 < Msg.field m 17 1 || rateLow s (Msg.field m 17 1)) 17, range (1 < Msg.field m 18 1) 18,
       claimed s ((List.range 28).map fun k => claimOf 10 (28 * g + k)) [unitLg g]])
    fun s m =>
      let x : LaneGrp :=
        { rate := Msg.field m 17 1, fwd := Msg.field m 18 1 = 1, cfg := BitVec.ofNat 32 (Msg.field m 20 4) }
      done { s with lgs := tset {} s.lgs (Msg.field m 16 1) x } mb m 0 []

/-- OPC_CAL_CONFIG (R343, R345, R346). -/
def execOpcCalConfig (mb : Nat) (s : State) : Out :=
  serveNext 0x0308 mb s noResv
    (fun _ m =>
      [range (Msg.field m 16 2 < 4 || 160 < Msg.field m 16 2) 16,
       range (Msg.field m 18 2 < 1600 || 2160 < Msg.field m 18 2) 18])
    fun s m =>
      done { s with cfg := { s.cfg with
        drift := Msg.field m 16 2, throttle := Msg.field m 18 2, auto := bitOf (Msg.field m 20 1) 0 } } mb m 0 []

end Sys2Proof.Machine
end

