-- ==== Sys2Proof/Machine/ReqLevels.lean ====
section
/-! DEFINITION. The commands of group 0x04: levels and timing (Table 6.13; R120, R121, R142, R143, R188, R192, R196,
R281). -/

namespace Sys2Proof.Machine

/-! Level entries. -/

/-- Fields of an entry: target, DAC, value. -/
def entTarget (e : Nat) : Nat := e % 65536
def entDac (e : Nat) : Nat := bitsOf e 23 16
def entValue (e : Nat) : Int := signed 32 (e / 2 ^ 32)

/-- Does the target have the DAC? Codes 8 and 9 are for clear codes alone; of a gang the leader is named (R281). -/
def entOk (s : State) (clear : Bool) (e : Nat) : Bool :=
  let t := entTarget e
  let d := entDac e
  if t < 768 then d ≤ 4 || (clear && (d = 8 || d = 9))
  else if 0x1000 ≤ t ∧ t < 0x1030 then d = 7 && gangLeader s (t - 0x1000) = t - 0x1000
  else 0x2000 ≤ t && t < 0x2060 && (d = 5 || d = 6)

/-- The DACs that an entry writes: a gang's members each take its set point. -/
def entKeys (s : State) (e : Nat) : List Nat :=
  let t := entTarget e
  if t < 768 then [if entDac e ≤ 4 then dacKey t (entDac e) else forceKey t]
  else if t < 0x2000 then (gangOf s (t - 0x1000)).map dpsKey
  else [clampKey (t - 0x2000) (entDac e)]

/-- Is the value outside Table 10.2, or a DPS set point above 3.0 V (R188, R277)? -/
def entMisuse (e : Nat) : Bool :=
  let v := entValue e
  match entDac e with
  | 5 => v < -1280000 || 3840000 < v
  | 6 => v < -1280000 || 3840000 < v
  | 7 => 3000000 < v
  | 9 => v < -1250000 || 1250000 < v
  | _ => v < -1000000 || 3600000 < v

/-- Reserved bits of an entry. -/
def entReserved (e : Nat) : Bool := bitsOf e 31 24 ≠ 0

/-- The entries of a request. -/
def levelEntries (s : State) (rem : Remote) (m : Msg) : List Nat := entries8 (extBytes s rem m)

/-- A request of level entries: misuses stop it, else each entry is written in order, so that the later one stands. -/
def levelRequest (op mb : Nat) (rem : Remote) (s : State) (clear : Bool) (write : State → Nat → State) : Out :=
  serve op mb rem s noResv (fun s m => [range ((levelEntries s rem m).any fun e => ! entOk s clear e) 16]) fun s m =>
    let es := levelEntries s rem m
    if es.any entReserved then .fault .reservedField
    else if es.any entMisuse then .fault .levelLimits
    else .next (done (es.foldl write s) mb m 0 [])

/-- Writes the shadows of an entry (R120, R192). -/
def writeLevel (s : State) (e : Nat) : State :=
  (entKeys s e).foldl (fun s k => modDac s k (writeShadow (codeFor (corrOf s k) (entValue e)) (entValue e))) s

/-- OPC_LEVELS_SET (R120). -/
def execOpcLevelsSet (mb : Nat) (rem : Remote) (s : State) : Out := levelRequest 0x0401 mb rem s false writeLevel

/-- Sets the clear code of an entry (R196). -/
def writeClear (s : State) (e : Nat) : State :=
  (entKeys s e).foldl (fun s k =>
    if entDac e = 9 then modDac s k fun d => { d with clearI := currentCode (entValue e) }
    else
      let c := codeFor (corrOf s k) (entValue e)
      modDac s k fun d => { d with clear := c }) s

/-- OPC_CLEAR_CODE (R196). -/
def execOpcClearCode (mb : Nat) (rem : Remote) (s : State) : Out := levelRequest 0x0403 mb rem s true writeClear

/-! Load groups (R192). -/

/-- The PEBs and DPS channels of a request. -/
def groupPebMask (m : Msg) : List Nat := setBits 12 (Msg.field m 18 2)
def groupDpsMask (m : Msg) : List Nat := dpsList (Msg.field m 24 8)

/-- The groups that a request touches: the new one, and those its members leave. -/
def touchedGroups (s : State) (m : Msg) : List Nat :=
  Msg.field m 16 1 :: ((groupPebMask m).filterMap fun p => (pebOf s p).group)
    ++ (groupDpsMask m).filterMap fun n => (dpsOf s n).group

/-- OPC_LOAD_GROUP (R192). -/
def execOpcLoadGroup (mb : Nat) (s : State) : Out :=
  serveNext 0x0402 mb s (resvAt [(17, 1)])
    (fun s m =>
      [range (7 < Msg.field m 16 1) 16, range (4095 < Msg.field m 18 2) 18, range (2 ^ 48 ≤ Msg.field m 24 8) 24,
       busyIf (busyItem s fun l => openSlot l && l.kind = some .levels && (touchedGroups s m).contains (pGroup l.msg))])
    fun s m =>
      let g := Msg.field m 16 1
      let s := { s with
        pebs := tmods {} s.pebs (groupPebMask m) fun _ x => { x with group := some g }
        dps := tmods {} s.dps (groupDpsMask m) fun _ d => { d with group := some g } }
      done s mb m 0 []

/-! Tables (R121, R142, R143). -/

/-- DIRECT of a table request. -/
def tableDirect (m : Msg) : Bool := bitOf (Msg.field m 25 1) 0

/-- Writes a table to a PEB: to the shadow, or to the active table with DIRECT, a misuse in RUN and PAUSE, as is a
reserved field of the table (bad) that is not zero (R142, Table 19.10; log 68). -/
def tableRequest (op mb : Nat) (rem : Remote) (s : State) (bad : List Byte → Bool) (write : Bool → List Byte → Peb → Peb) : Out :=
  serve op mb rem s noResv (fun _ m => [range (11 < Msg.field m 24 1) 24]) fun s m =>
    if tableDirect m ∧ (s.dev.mode = .run ∨ s.dev.mode = .pause) then .fault .directInPlay
    else if bad (extBytes s rem m) then .fault .reservedField
    else
      let p := Msg.field m 24 1
      let s' := modPeb s p (write (tableDirect m) (extBytes s rem m))
      .next (done (if tableDirect m then replayRest s' p else s') mb m 0 [])

/-- OPC_TIMING_SET. -/
def execOpcTimingSet (mb : Nat) (rem : Remote) (s : State) : Out :=
  tableRequest 0x0404 mb rem s timingReserved fun direct bs x =>
    if direct then { x with timing := some bs } else { x with timingSh := some bs, timingDirty := true }

/-- OPC_PINMODE_SET. -/
def execOpcPinmodeSet (mb : Nat) (rem : Remote) (s : State) : Out :=
  tableRequest 0x0405 mb rem s pinmodeReserved fun direct bs x =>
    if direct then { x with pinmode := some bs } else { x with pinmodeSh := some bs, pinmodeDirty := true }

/-- The commit of one PEB: at once, also for what the PEB plays at rest (Table 8.3), or armed in the BURST that plays it (R121, R161). -/
def commitPeb (s : State) (p : Nat) : State :=
  match burstOn s p with
  | some i => requestCommit s i (putBit 0 p true)
  | none => replayRest (transferTables s p) p

/-- OPC_TIMING_COMMIT. -/
def execOpcTimingCommit (mb : Nat) (s : State) : Out :=
  serveNext 0x0406 mb s noResv (fun _ m => [range (4095 < Msg.field m 16 2) 16]) fun s m =>
    done ((setBits 12 (Msg.field m 16 2)).foldl commitPeb s) mb m 0 []

/-- A PEB's background vector, for the underruns and the rests that begin from now on; one that plays goes on
(Table 6.13; log 151). -/
def setBackground (s : State) (p : Nat) (v : BitVec 256) : State := modPeb s p fun x => { x with back := v }

/-- OPC_BACKGROUND_SET. -/
def execOpcBackgroundSet (mb : Nat) (s : State) : Out :=
  serveNext 0x0407 mb s noResv (fun _ m => [range (11 < Msg.field m 16 1) 16]) fun s m =>
    done (setBackground s (Msg.field m 16 1) (BitVec.ofNat 256 (Msg.field m 24 32))) mb m 0 []

end Sys2Proof.Machine
end

