-- ==== Sys2Proof/Machine/ReqSched.lean ====
section
/-! DEFINITION. The commands of group 0x05: schedules and playback (Table 6.14; R115, R122, R126, R129, R130, R164), and the
end of a schedule's digest check. -/

namespace Sys2Proof.Machine

/-! The structural checks at load (R129, Table 7.4). -/

/-- n bytes from an address, one that cannot be read taken as zero. -/
def bytesOrZero (s : State) (rem : Remote) (a n : Nat) : List Byte :=
  (List.range n).map fun i => (readByte s rem (a + i)).getD 0

/-- Can every byte of a range be read? -/
def readable (s : State) (rem : Remote) (a n : Nat) : Bool := (List.range n).all fun i => (readByte s rem (a + i)).isSome

/-- Offsets of the headers of n level sets that lie in the section's remaining bytes (R144). -/
def levelHeads : Nat → List Byte → Nat → List Nat
  | 0, _, _ => []
  | n + 1, bs, off =>
    if bs.length < 64 then []
    else
      let len := 64 + (8 * bytesAt bs 0 4 + 63) / 64 * 64
      off :: levelHeads n (bs.drop len) (off + len)

/-- The same for the section LEVELS of an image, but for the last n of its sets. -/
def imgLevelHeads (img : List Byte) (n : Nat) : List Nat :=
  match imgFind img 5 with
  | some x => levelHeads (x.count - n) ((img.drop x.offset).take x.size) x.offset
  | none => []

/-- The ranges that the checks read, in the order of Table 7.4, with the last code that each serves: the header field by
field, the section table, ENTRIES of every level set but the last, which gives the place of the next header, the
PEB_MASK fields of the tables, and the control tracks of the CLONE map. -/
def loadRanges (img : List Byte) : List (Nat × List (Nat × Nat)) :=
  let heads := (imgLevelHeads img 1).map fun o => (o, 4)
  let masks (type size : Nat) : List (Nat × Nat) :=
    (List.range (secCount img type)).map fun i => (secOffset img type + size * i, 2)
  [(0x21, [(0, 8)]), (0x22, [(26, 2), (72, 56)]), (0x23, [(8, 4)]), (0x24, [(12, 14)]),
   (0x27, [(128, 16 * imgSections img)]), (0x28, heads), (0x29, masks 3 200768 ++ masks 4 576),
   (0x2A, [(secOffset img 6 + 192, 12)])]

/-- Walks the ranges in the order of the checks: the first code that fails before a range that cannot be read. -/
def firstLoadError (e : Option Nat) (ok : Nat × Nat → Bool) : List (Nat × List (Nat × Nat)) → Option Nat
  | [] => e
  | (last, rs) :: rest =>
    if rs.any fun r => ! ok r then some 0x2B
    else
      match e with
      | some c => if c ≤ last then some c else firstLoadError e ok rest
      | none => firstLoadError e ok rest

/-- The error code of a schedule image at an address, of the length the request gives; the header is read whatever that
length is (R129). -/
def loadError (s : State) (rem : Remote) (addr len : Nat) : Option Nat :=
  if addr % 64 ≠ 0 then some 0x20
  else
    let img := bytesOrZero s rem addr (min (max len 128) (2 ^ 28))
    firstLoadError (imageError img len) (fun r => readable s rem (addr + r.1) r.2) (loadRanges img)

/-- REFUSED_RANGE with DETAIL 0x100 plus the code (R115). -/
def imageRefusal (e : Option Nat) : Bool × Nat × Nat := (e.isSome, 0x14, 0x100 + e.getD 0)

/-! Loading and unloading. -/

/-- A schedule ID that is armed, or that a BURST which is not terminal names. -/
def schedBusy (s : State) (id : Nat) : List (Bool × Nat × Nat) :=
  [busyIf (busyItem s fun l => openSlot l && l.kind = some .burst && pSched l.msg = id),
   busy (s.dev.armedSched = some id)]

/-- OPC_SCHEDULE_LOAD (R129): a check that runs for the ID is abandoned, and the content in force stays until the new
check passes. -/
def execOpcScheduleLoad (mb : Nat) (rem : Remote) (s : State) : Out :=
  serve 0x0501 mb rem s (fun m => highAddr m 24)
    (fun s m =>
      let id := Msg.field m 16 1
      [range (15 < id) 16, imageRefusal (loadError s rem (Msg.field m 24 8) (Msg.field m 32 8))] ++ schedBusy s id)
    fun s m =>
      let a := Msg.field m 24 8
      let len := Msg.field m 32 8
      let segs := bytesAt (bytesOrZero s rem (a + 20) 4) 0 4
      .next (done (modSched s (Msg.field m 16 1) fun x => { x with st := .verifying, check := some (a, len, segs) }) mb m 0 [])

/-- Reserved fields of what the device copies on die at load (R130), and of the headers that no later read judges: the
plan header's (Table 7.15) and the level sets' (R144; log 68). -/
def imageReserved (img : List Byte) : Bool :=
  let tables (type size : Nat) : List (List Byte) :=
    (List.range (secCount img type)).map fun i => (img.drop (secOffset img type + size * i)).take size
  (tables 3 200768).any timingReserved || (tables 4 576).any pinmodeReserved
    || ! allZero ((img.drop (secOffset img 6 + 204)).take 52)
    || ((imgFind img 7).isSome && (List.range 36).any fun k =>
      let o := secOffset img 7 + 16 * k
      2 ^ 41 ≤ bytesAt img o 8 || bytesAt img (o + 12) 4 ≠ 0)
    || ((imgFind img 8).isSome && ! (allZero ((img.drop (secOffset img 8 + 4)).take 4)
      && allZero ((img.drop (secOffset img 8 + 40)).take 24)))
    || (imgLevelHeads img 0).any fun o => ! allZero ((img.drop (o + 12)).take 52)

/-- A check has failed: the ID is BAD, and every BURST that names it ends; none is in flight, since the load was
refused while one was not terminal (R115). -/
def schedFailed (s : State) (id : Nat) : State :=
  let s := modSched s id fun x => { x with st := .bad }
  (slotsInOrder s fun l => openSlot l && l.kind = some .burst && pSched l.msg = id).foldl
    (fun s i => endItem s i (some rSignature) fun l => l) s

/-- SCHEDULE_DIGEST_DONE (R115, R126): the new content replaces the old where the digest matches. -/
def execScheduleDigestDone (id : Nat) (rem : Remote) (s : State) : Out :=
  let x := schedOf s id
  match x.st, x.check with
  | .verifying, some (a, len, _) =>
    match readBytes s rem a len with
    | some img =>
      if digestWithout img 32 = (img.drop 32).take 32 then
        if imageReserved img then .fault .reservedField
        else .next (modSched s id fun _ => { st := .valid, addr := a, image := img, check := none })
      else .next (schedFailed s id)
    | none => .next (schedFailed s id)
  | _, _ => .next s

/-- OPC_SCHEDULE_UNLOAD (R129): a check that runs is abandoned. -/
def execOpcScheduleUnload (mb : Nat) (s : State) : Out :=
  serveNext 0x0502 mb s noResv
    (fun s m => range (15 < Msg.field m 16 1) 16 :: schedBusy s (Msg.field m 16 1))
    fun s m => done (modSched s (Msg.field m 16 1) fun _ => {}) mb m 0 []

/-- State of a schedule or a store (R115). -/
def storeCode : Store → Nat
  | .empty => 0 | .verifying => 1 | .valid => 2 | .bad => 3

/-- The image address of an ID: of the image being checked or failed where none is in force. -/
def schedAddr (x : Sched) : Nat :=
  match x.check with
  | some (a, _, _) => if x.image = [] then a else x.addr
  | none => x.addr

/-- OPC_SCHEDULE_STATUS. -/
def execOpcScheduleStatus (mb : Nat) (s : State) : Out :=
  serveNext 0x0503 mb s noResv (fun _ m => [range (15 < Msg.field m 16 1) 16]) fun s m =>
    let x := schedOf s (Msg.field m 16 1)
    done s mb m 16 [(16, 1, storeCode x.st), (24, 8, schedAddr x)]

/-! OPC_BURST_JUMP (R122). -/

/-- OPC_BURST_JUMP: a request on a QUEUED BURST becomes pending at its dispatch. -/
def execOpcBurstJump (mb : Nat) (s : State) : Out :=
  serveNext 0x0504 mb s noResv
    (fun s m => [range ((slotOf s (namedSlot m)).kind ≠ some .burst) 6, range (3 < Msg.field m 16 1) 16])
    fun s m =>
      let i := namedSlot m
      let c := Msg.field m 16 1
      if terminal (slotOf s i) then respond s mb m (mkResp s m 0x02 0 0xFFFF [])
      else if (slotOf s i).st = .queued then done (modSlot s i fun l => { l with jump := some c }) mb m 0 []
      else done (requestJump s i c) mb m 0 []

/-! Layers (R164). -/

/-- The index of a page in its pool, where the address names one. -/
def poolPage (y : Layer) (a : Nat) : Option Nat :=
  if a % 65536 = 0 ∧ y.pool ≤ a / 65536 ∧ a / 65536 < y.pool + y.pages then some (a / 65536 - y.pool) else none

/-- The layer and the page that a request names. -/
def askedLayer (s : State) (m : Msg) : Layer := layerOf s (Msg.field m 16 1) (Msg.field m 17 1)
def askedPage (s : State) (m : Msg) : Option Nat := poolPage (askedLayer s m) (Msg.field m 24 8)

/-- OPC_LAYER_FREE: at once on an IDLE or FREE page, deferred on a page in play. -/
def execOpcLayerFree (mb : Nat) (s : State) : Out :=
  serveNext 0x0505 mb s (fun m => highAddr m 24)
    (fun s m =>
      [range (11 < Msg.field m 16 1) 16, range (Msg.field m 17 1 = 0 || 3 < Msg.field m 17 1) 17,
       range (askedPage s m).isNone 24])
    fun s m =>
      let p := Msg.field m 16 1
      let l := Msg.field m 17 1
      let g := (askedPage s m).getD 0
      match tget .idle (askedLayer s m).st g with
      | .idle => done (modLayer s p l fun y => { y with st := tset .idle y.st g .free }) mb m 1 [(16, 1, 1)]
      | .free => done s mb m 1 [(16, 1, 1)]
      | _ =>
        let s := modLayer s p l fun y =>
          { y with freePend := y.freePend ++ [g], deferred := y.deferred + 1, inPlay := y.inPlay + 1 }
        done s mb m 1 [(16, 1, 0)]

/-- OPC_LAYER_STATUS: layer 0, the base, has no pages and never flips. -/
def execOpcLayerStatus (mb : Nat) (s : State) : Out :=
  serveNext 0x0506 mb s noResv
    (fun _ m => [range (11 < Msg.field m 16 1) 16, range (3 < Msg.field m 17 1) 17])
    fun s m =>
      let y := askedLayer s m
      done s mb m 24 [(16, 4, y.flips.toNat), (24, 8, y.tFlip.toNat), (32, 4, y.deferred.toNat), (36, 4, y.inPlay.toNat)]

end Sys2Proof.Machine
end

