-- ==== Sys2Proof/Machine/ReqService.lean ====
section
/-! DEFINITION. The commands of groups 0x08 and 0x09: events, injection and the change of firmware (Table 6.17; R123,
R360 to R362, R369 to R373). -/

namespace Sys2Proof.Machine

/-! Events. -/

/-- OPC_EVENT_READ: the entries of a range of indices, as they stand (log 71). -/
def execOpcEventRead (mb : Nat) (s : State) : Out :=
  serveNext 0x0801 mb s noResv
    noChecks
    fun s m =>
      let bytes := (List.range (Msg.field m 26 2)).flatMap fun k =>
        eventBytes (recAt s (BitVec.ofNat 16 (Msg.field m 24 2 + k)))
      done (memWrite s (extAddr m) bytes) mb m 0 []

/-- OPC_EVENT_ACK (R362): an index that is not among the unacknowledged ones changes nothing. -/
def execOpcEventAck (mb : Nat) (s : State) : Out :=
  serveNext 0x0802 mb s noResv noChecks fun s m => done (ackEvents s (BitVec.ofNat 16 (Msg.field m 16 2))) mb m 0 []

/-- Can no injection be made into the detector (R360): type 0x3E or 0x3F, not in Table 19.3, or disabled? -/
def noInjection (s : State) (det : Nat) : Bool :=
  det / 256 = 0x3E || det / 256 = 0x3F || (detInfo s det 0 false).isNone || ! detEnabled s det

/-- OPC_FAULT_INJECT (R360): INJECTION_END settles it 2 cycles after the last injected cycle. -/
def execOpcFaultInject (mb : Nat) (s : State) : Out :=
  serveNext 0x0803 mb s noResv
    (fun s m => [range (noInjection s (Msg.field m 16 2)) 16, range (Msg.field m 18 1 = 0) 18, busy (injecting s)])
    fun s m =>
      done { s with levee := { s.levee with inject := some { det := BitVec.ofNat 16 (Msg.field m 16 2) } } } mb m 0 []

/-! Firmware (R369 to R373). -/

/-- The CAL item in flight. -/
def calBusy (s : State) : Option Nat := busyItem s fun l => inFlight l && l.kind = some .cal

/-- ERROR of checks 1 to 4 on the image that a request names; a length other than the header gives fails check 4, a
header that cannot be read check 1 (log 55). -/
def serviceError (s : State) (rem : Remote) (a len : Nat) : Option Nat :=
  match readBytes s rem a 128 with
  | none => some 2
  | some h =>
    match headerError h with
    | some e => some e
    | none => if len = 128 + bytesAt h 16 4 then none else some 4

/-- FW_VERSION of the image at an address. -/
def imageVersion (s : State) (rem : Remote) (a : Nat) : Word :=
  BitVec.ofNat 32 (match readBytes s rem a 128 with
    | some h => bytesAt h 12 4
    | none => 0)

/-- OPC_SERVICE_BEGIN (R369): the header's checks; SERVICE_IMAGE_CHECKED settles the digest. -/
def execOpcServiceBegin (mb : Nat) (rem : Remote) (s : State) : Out :=
  serve 0x0901 mb rem s (fun m => highAddr m 24)
    (fun s m =>
      let a := Msg.field m 24 8
      let e := serviceError s rem a (Msg.field m 32 4)
      [(e.isSome, 0x14, 0x100 + e.getD 0),
       range (imageVersion s rem a >>> 24 ≠ s.boot.version >>> 24) 24, busyIf (calBusy s), busy s.svc.busy])
    fun s m =>
      let a := Msg.field m 24 8
      .next (deferResp { s with svc := { s.svc with
        busy := true, addr := a, len := Msg.field m 32 4, version := imageVersion s rem a } } mb m)

/-- The check's end with a refusal. -/
def refuseService (s : State) (status detail : Nat) : State :=
  answerOwed { s with svc := {} } (isOp 0x0901) fun q => refusal s q status detail

/-- SERVICE_IMAGE_CHECKED (R123, R369, R370): the body stands in the inactive bank. Where the mode or a CAL item has
come in the way since the request, the change is refused as at the request (log 56). -/
def execServiceImageChecked (rem : Remote) (s : State) : Out :=
  if s.svc.busy ∧ s.dev.mode ≠ .service then
    match readBytes s rem s.svc.addr s.svc.len with
    | none => .next (refuseService s 0x14 0x105)
    | some img =>
      if ¬ digestOk img then .next (refuseService s 0x14 0x105)
      else if ¬ setOp.contains s.dev.mode then .next (refuseService s 0x11 (modeCode s.dev.mode))
      else
        match calBusy s with
        | some i => .next (refuseService s 0x17 i)
        | none =>
          let body := img.drop 128
          let b := s.boot
          let boot := if b.bank = 0 then { b with bank1 := body } else { b with bank0 := body }
          .next (setMode { s with
            boot := boot, dev := { s.dev with cameFrom := s.dev.mode }
            levee := { s.levee with dogRun := false, dogSvc := true } } .service)
  else .next s

/-- PAUSE whose last held item an abort has ended during SERVICE goes on to ARMED (R373). -/
def resumePause (s : State) : State :=
  let over_ := s.dev.pauseOver && s.dev.mode = .pause && slotsWhere s (fun l => pausable l && inFlight l) = []
  let s := { s with dev := { s.dev with pauseOver := false } }
  if over_ then setMode s .armed else s

/-- SERVICE_BANK_CHANGE_DONE (R370 to R373): the cores run from the new bank; the response, then the notices that waited,
then the transitions whose condition holds, and what waited for the mode. -/
def execServiceBankChangeDone (s : State) : Out :=
  if s.dev.mode = .service then
    let v := s.svc
    let s := setMode s s.dev.cameFrom
    let body := if s.boot.bank = 0 then s.boot.bank1 else s.boot.bank0
    let s := { s with
      svc := {}
      boot := { s.boot with bank := 1 - s.boot.bank, version := v.version, pressStore := Config.pressMicro body }
      levee := { s.levee with dogRun := true, dogSvc := false } }
    let s := answerOwed s (isOp 0x0901) fun q => doneResp s q 0 []
    let s := [0, 1, 2, 3].foldl (fun s n => flushOwed ((mbOf s n).owed.length) s n) s
    let s := submitUnslotted (retireOwn (postHeld s v.notices))
    .next (if v.ford then toBypass s else settleFord (settleBypass (finishDisarm (resumePause (settleMode s)))))
  else .next s

end Sys2Proof.Machine
end

