-- ==== Sys2Proof/Machine/Sine.lean ====
section
/-! DEFINITION. Sine generation on PMU force DACs and DPS set points (R207, R208, R288). -/

namespace Sys2Proof.Machine

/-- The accumulator after 16 control-clock cycles; a disable takes effect at its wrap. -/
def advanceSine (x : Sine) : Sine :=
  let p := x.phase.toNat + 16 * x.step.toNat
  let ends := x.off && 2 ^ 32 ≤ p
  { x with phase := BitVec.ofNat 32 p, on := x.on && ! ends, off := x.off && ! ends }

/-- The output in µV: offset + amplitude × table ÷ 32,767, rounded to nearest (log 61). -/
def sineValue (x : Sine) : Int := x.offs + roundDiv (x.amp * (Config.sineTable ((x.phase >>> 22).setWidth 10)).toInt) 32767

/-- Does the channel's sine apply: its PMU in FV with the switch closed (R207)? -/
def pmuSine (x : Chan) : Bool := x.sine.on && x.pmuOn && ! x.pmuFi

/-- Does a DPS sine apply: the channel enabled, no DPS item ramping it (R288)? -/
def dpsSine (s : State) (n : Nat) : Bool := (dpsOf s n).sine.on && (dpsOf s n).enabled && ! ramping s n

/-- The sines that apply now, as (DAC, value): those of the members of a gang are their leader's. -/
def sineOutputs (s : State) : List (Nat × Int) :=
  ((s.chans.filter fun e => pmuSine e.2).map fun e => (forceKey e.1, sineValue e.2.sine))
    ++ ((tkeys s.dps fun n _ => dpsSine s n).flatMap fun n =>
      (gangOf s n).map fun k => (dpsKey k, sineValue (dpsOf s n).sine))

/-- Writes a sine's output to its DAC; CLR_N low keeps the clear code at the output (R208), and a set point that CLR_N
has cleared stays there until its load group strobes: only a PMU force DAC leaves it with the update (R35). -/
def writeSine (s : State) (e : Nat × Int) : State :=
  let clrLow := s.power.clrLow
  let code := codeFor (corrOf s e.1) e.2
  modDac s e.1 fun d =>
    leaving s false d { d with sineCode := some code, held := d.held && (clrLow || (0x5000 ≤ e.1 && d.byClr)) }

/-- The set point of a DPS channel follows a sine that applies and is not cleared. -/
def followSine (s : State) (e : Nat × Int) : State :=
  if 0x5000 ≤ e.1 ∧ ¬ (dacOf s e.1).held then
    modDps s ((e.1 - 0x5000) / 16) fun d => { d with set := e.2.toNat * 2 ^ 32, goal := none }
  else s

/-- A DAC that no sine applies to any more returns to its active value. -/
def endSine (s : State) (k : Nat) : State :=
  let s := modDac s k fun d => leaving s false d { d with sineCode := none }
  if 0x5000 ≤ k then followDac s ((k - 0x5000) / 16) else s

/-- SINE_UPDATE (R207). -/
def execSineUpdate (s : State) : Out :=
  let s := { s with
    chans := tmods {} s.chans (tkeys s.chans fun _ x => x.sine.on) fun _ x => { x with sine := advanceSine x.sine }
    dps := tmods {} s.dps (tkeys s.dps fun _ x => x.sine.on) fun _ x => { x with sine := advanceSine x.sine } }
  let es := sineOutputs s
  let s := (tkeys s.dacs fun k d => d.sineCode.isSome && ! es.any (·.1 = k)).foldl endSine s
  .next (es.foldl (fun s e => followSine (writeSine s e) e) s)

end Sys2Proof.Machine
end

