-- ==== Sys2Proof/Machine/Units.lean ====
section
/-! DEFINITION. Units in service: OPC_UNIT_MAINTAIN, OPC_UNIT_RELEASE, OPC_UNIT_STATUS, the end of QUIESCING, and the
sequencers' stores (Table 6.15; R32, R63, R217, R218, R358, R359, R374 to R377). -/

namespace Sys2Proof.Machine

/-! Maintenance (R374, R376). -/

/-- Does an item in flight claim or hold the unit? -/
def unitInUse (s : State) (u : Nat) : Bool :=
  s.ledger.any fun e => inFlight e.2 && (touchedUnits s e.2).contains u

/-- The power cycle of a unit's domain: its outputs take the unit safe state, and the switch opens and closes again. -/
def powerCycle (s : State) (u : Nat) : State :=
  match unitDomain u with
  | some d =>
    let s := unitSafeState (modUnit s u fun v => { v with cycling := true }) u
    { s with power := { s.power with
      pdOffOrd := s.power.pdOffOrd ||| bit32 d, pdBusy := s.power.pdBusy ||| bit32 d } }
  | none => s

/-- The unit enters MAINTENANCE for a host request, and its action begins (Table 20.3). -/
def beginMaintenance (s : State) (u action : Nat) : State :=
  let s := enterMaintenance s u true
  let s := modUnit s u fun v => { v with holder := .host action (action = 0) }
  if action = 1 then submitCal s u (classesOf u) true else if action = 2 then powerCycle s u else s

/-- The domain of a unit that is off (check 7 of Table 6.2). -/
def unitOff (s : State) (u : Nat) : Bool × Nat × Nat :=
  match unitDomain u with
  | some d => (! domOn s d, 0x13, d)
  | none => (false, 0x13, 0)

/-- Is action 1 asked for on a DPS group with an enabled channel? -/
def maintainEnabled (s : State) (u action : Nat) : Bool :=
  action = 1 && 0x100 ≤ u && u < 0x104 && (List.range 12).any fun k => (dpsOf s (12 * (u - 0x100) + k)).enabled

/-- OPC_UNIT_MAINTAIN: a unit that is OFFLINE enters MAINTENANCE at once, one that is ACTIVE through QUIESCING. -/
def execOpcUnitMaintain (mb : Nat) (s : State) : Out :=
  serveNext 0x0601 mb s noResv
    (fun s m =>
      let u := Msg.field m 16 2
      let a := Msg.field m 18 1
      [range (! unitKnown u || 0x500 ≤ u) 16, range (2 < a || (0x400 ≤ u && a ≠ 0)) 18, unitOff s u,
       busy (unitState s u = .quiescing || unitState s u = .maintenance
         || (unitState s u = .offline && containedOpen s u) || maintainEnabled s u a)])
    fun s m =>
      let u := Msg.field m 16 2
      let a := Msg.field m 18 1
      if unitState s u = .offline then done (beginMaintenance s u a) mb m 0 []
      else deferResp (setUnit (modUnit s u fun v => { v with holder := .host a false }) u .quiescing true) mb m

/-- UNIT_QUIESCED (R32, R63): no item in flight claims the unit any more. A switch-off takes it OFFLINE with its outputs
in the unit safe state, and an OPC_UNIT_MAINTAIN that waits is then refused. -/
def execUnitQuiesced (unit : Nat) (s : State) : Out :=
  if unit < 0x500 ∧ unitState s unit = .quiescing ∧ ¬ unitInUse s unit then
    if (unitOf s unit).toOff then
      let s := modUnit (setUnit (unitSafeState s unit) unit .offline true) unit fun v => { v with holder := .none }
      .next (refuseMaintain s unit)
    else
      match (unitOf s unit).holder with
      | .host a _ =>
        .next (answerOwed (beginMaintenance s unit a) (onUnit 0x0601 unit) fun q => doneResp s q 0 [])
      | _ => .next s
  else .next s

/-- May a host release the unit: held by a host request whose action has ended, no CONTAINED record of its region open,
no store check under way, and its clock there (R218, R359, R375)? -/
def mayRelease (s : State) (u : Nat) : Bool :=
  (match (unitOf s u).holder with
    | .host _ d => d
    | _ => false)
    && unitState s u = .maintenance && ! containedOpen s u && ! (unitOf s u).lossOff
    && ! (0x400 ≤ u && u < 0x410 && (seqOf s (u - 0x400)).check ≠ [])

/-- Is the unit ACTIVE and not held, so that its release changes nothing? -/
def freeActive (s : State) (u : Nat) : Bool := unitState s u = .active && (0x500 ≤ u || ! hostHeld s u)

/-- OPC_UNIT_RELEASE (R375). -/
def execOpcUnitRelease (mb : Nat) (s : State) : Out :=
  serveNext 0x0602 mb s noResv
    (fun s m =>
      let u := Msg.field m 16 2
      [range (! unitKnown u) 16, busy (! freeActive s u && ! mayRelease s u)])
    fun s m =>
      let u := Msg.field m 16 2
      if freeActive s u then done s mb m 0 []
      else
        let s := modUnit (setUnit s u (backTo s u) true) u fun v => { v with holder := .none }
        done (if u < 12 then restorePeb s u else s) mb m 0 []

/-- OPC_UNIT_STATUS. -/
def execOpcUnitStatus (mb : Nat) (s : State) : Out :=
  serveNext 0x0603 mb s noResv (fun _ m => [range (! unitKnown (Msg.field m 16 2)) 16]) fun s m =>
    let u := Msg.field m 16 2
    let v := unitOf s u
    done s mb m 16 [(16, 1, ustateCode (unitState s u)), (20, 4, (v.calTemp % 2 ^ 32).toNat), (24, 8, v.calTime.toNat)]

/-! Sequencer stores (R217, R218). -/

/-- Header fields of a store image (Table 11.4). -/
def stWords (img : List Byte) : Nat := bytesAt img 14 2
def stMatches (img : List Byte) : Nat := bytesAt img 16 2

/-- IMAGE_LEN that the counts give. -/
def stLen (img : List Byte) : Nat := (64 + 32 * stWords img + 8 * stMatches img + 63) / 64 * 64

/-- Match entry k of an image. -/
def stEntry (img : List Byte) (k : Nat) : Nat := bytesAt img (64 + 32 * stWords img + 8 * k) 8

/-- Does a match entry break Table 11.5? -/
def badEntry (img : List Byte) (e : Nat) : Bool :=
  bitsOf e 63 32 ≠ 0 || bitsOf e 30 22 ≠ 0 || bitsOf e 15 14 ≠ 0 || stWords img ≤ bitsOf e 21 16
    || 0x27FF < bitsOf e 13 0

/-- The checks of R217 in their order. -/
def storeError (img : List Byte) (len target : Nat) : Option Nat :=
  if ¬ (bytesAt img 0 4 = 0x4B574D43 ∧ bytesAt img 4 2 = 1 ∧ bytesAt img 6 2 = 64 ∧ bytesAt img 12 1 = target) then
    some 0x21
  else if ¬ (bytesAt img 13 1 = 0 ∧ allZero ((img.drop 18).take 14)) then some 0x22
  else if ¬ (bytesAt img 8 4 = stLen img ∧ bytesAt img 8 4 = len) then some 0x23
  else if ¬ (1 ≤ stWords img ∧ stWords img ≤ (if target = 0 then 2048 else 64)
      ∧ stMatches img ≤ (if target = 0 then 0 else 16)) then some 0x24
  else if (List.range (stMatches img)).any fun k => badEntry img (stEntry img k) then some 0x25
  else none

/-- The error code of a store image at an address; the header is read whatever the length in the request is, field by
field (R217). -/
def storeLoadError (s : State) (rem : Remote) (addr len target : Nat) : Option Nat :=
  let img := bytesOrZero s rem addr (max 64 (min len 131072))
  firstLoadError (storeError img len target) (fun r => readable s rem (addr + r.1) r.2)
    [(0x21, [(0, 8), (12, 1)]), (0x22, [(13, 1), (18, 14)]), (0x23, [(8, 4), (14, 4)]), (0x24, []),
     (0x25, [(64 + 32 * stWords img, 8 * stMatches img)])]

/-- Sets the state of a store. -/
def setStore (target : Nat) (st : Store) (x : Seq) : Seq :=
  if target = 0 then { x with wState := st } else { x with pState := st }

/-- OPC_MSEQ_LOAD: a check of the same store that runs is abandoned. -/
def execOpcMseqLoad (mb : Nat) (rem : Remote) (s : State) : Out :=
  serve 0x0604 mb rem s (fun m => highAddr m 24)
    (fun s m =>
      let q := Msg.field m 16 1
      let t := Msg.field m 17 1
      let a := Msg.field m 24 8
      [range (15 < q) 16, range (1 < t) 17, range (a % 64 ≠ 0) 24,
       imageRefusal (storeLoadError s rem a (Msg.field m 32 4) t), busy (unitState s (unitSeq q) ≠ .maintenance)])
    fun s m =>
      let t := Msg.field m 17 1
      .next (done (modSeq s (Msg.field m 16 1) fun x => { setStore t .verifying x with
        check := x.check.filter (fun c => c.1 ≠ t) ++ [(t, Msg.field m 24 8, Msg.field m 32 4)] }) mb m 0 [])

/-- Microword n of an image; no other byte of its slot is checked or kept (R217). -/
def stWord (img : List Byte) (n : Nat) : BitVec 144 := BitVec.ofNat 144 (bytesAt img (64 + 32 * n) 18)

/-- The words of an image as a store's content. -/
def stTable (img : List Byte) : Tab (BitVec 144) :=
  (List.range (stWords img)).foldl (fun t n => tset 0 t n (stWord img n)) []

/-- The new content replaces the old whole: words beyond WORDS are zero, match registers without an entry disabled. -/
def fillStore (img : List Byte) (target : Nat) (x : Seq) : Seq :=
  if target = 0 then { x with store := stTable img }
  else
    let regs := (List.range (stMatches img)).foldl (fun t k =>
      let e := stEntry img k
      tset 0 t k (BitVec.ofNat 21 (bitsOf e 13 0 + 2 ^ 14 * bitsOf e 21 16 + 2 ^ 20 * bitsOf e 31 31))) []
    { x with patch := stTable img, matches_ := regs }

/-- A check has failed: the store is BAD, and the items that use it end (R115, R218). -/
def storeFailed (s : State) (q target : Nat) : State :=
  let s := modSeq s q (setStore target .bad)
  (slotsInOrder s fun l => openSlot l && l.kind = some .measure && pMseq l.msg = q && (target = 1 || pStore l.msg = 1)).foldl
    (fun s i => endNow s i rSignature 0 (fun _ => .background) .offline) s

/-- MSEQ_DIGEST_DONE (R218): the oldest check of the sequencer ends. -/
def execMseqDigestDone (seq : Nat) (rem : Remote) (s : State) : Out :=
  match (seqOf s seq).check with
  | (t, a, len) :: rest =>
    let s := modSeq s seq fun x => { x with check := rest }
    match readBytes s rem a len with
    | some img =>
      if digestWithout img 32 = (img.drop 32).take 32 then
        .next (modSeq s seq fun x => setStore t .valid (fillStore img t x))
      else .next (storeFailed s seq t)
    | none => .next (storeFailed s seq t)
  | [] => .next s

end Sys2Proof.Machine
end

