-- ==== Sys2Proof/Machine/Dispatch.lean ====
section
/-! DEFINITION. exec: the meaning of each command, one arm per constructor of Instr, in the table's order. -/

namespace Sys2Proof.Machine

def exec (i : Instr) (s : State) : Host.Outcome State Fault Refusal :=
  match i with
  | .powerOnReset => Sys2Proof.Machine.execPowerOnReset s
  | .powerOnResetRelease node src => Sys2Proof.Machine.execPowerOnResetRelease node src s
  | .warmReset => Sys2Proof.Machine.execWarmReset s
  | .warmResetRelease => Sys2Proof.Machine.execWarmResetRelease s
  | .rstCtrlWarm value => Sys2Proof.Machine.execRstCtrlWarm value s
  | .clrNAssert => Sys2Proof.Machine.execClrNAssert s
  | .clrNRelease => Sys2Proof.Machine.execClrNRelease s
  | .fordCloseNFall => Sys2Proof.Machine.execFordCloseNFall s
  | .fordCloseNRise => Sys2Proof.Machine.execFordCloseNRise s
  | .trigInEdge input rising within20 => Sys2Proof.Machine.execTrigInEdge input rising within20 s
  | .trigInStuck input => Sys2Proof.Machine.execTrigInStuck input s
  | .refLossDetected cause => Sys2Proof.Machine.execRefLossDetected cause s
  | .relockStart => Sys2Proof.Machine.execRelockStart s
  | .adpllLockComplete => Sys2Proof.Machine.execAdpllLockComplete s
  | .clockStepReached => Sys2Proof.Machine.execClockStepReached s
  | .hwsyncPulse => Sys2Proof.Machine.execHwsyncPulse s
  | .chainMasterPulse => Sys2Proof.Machine.execChainMasterPulse s
  | .syncPulseMissing => Sys2Proof.Machine.execSyncPulseMissing s
  | .headwaterTimedFire slot => Sys2Proof.Machine.execHeadwaterTimedFire slot s
  | .domainReady pd balls => Sys2Proof.Machine.execDomainReady pd balls s
  | .unitQuiesced unit => Sys2Proof.Machine.execUnitQuiesced unit s
  | .lpddrTrainingDone mib => Sys2Proof.Machine.execLpddrTrainingDone mib s
  | .bootRateMeasured m => Sys2Proof.Machine.execBootRateMeasured m s
  | .bootRateTimeout => Sys2Proof.Machine.execBootRateTimeout s
  | .bootTrainTimeout => Sys2Proof.Machine.execBootTrainTimeout s
  | .bootRailReady => Sys2Proof.Machine.execBootRailReady s
  | .bootRefValid => Sys2Proof.Machine.execBootRefValid s
  | .bootRequestTimer => Sys2Proof.Machine.execBootRequestTimer s
  | .bootSourceSilent => Sys2Proof.Machine.execBootSourceSilent s
  | .bootDigestDone => Sys2Proof.Machine.execBootDigestDone s
  | .bootReport => Sys2Proof.Machine.execBootReport s
  | .watchdog which => Sys2Proof.Machine.execWatchdog which s
  | .bootRestart value => Sys2Proof.Machine.execBootRestart value s
  | .mspWrite addr words cut extra => Sys2Proof.Machine.execMspWrite addr words cut extra s
  | .mspRead addr n late shifted extra => Sys2Proof.Machine.execMspRead addr n late shifted extra s
  | .mspReadSlow addr n late shifted extra => Sys2Proof.Machine.execMspReadSlow addr n late shifted extra s
  | .mspStream addr words partialWord => Sys2Proof.Machine.execMspStream addr words partialWord s
  | .mspReservedOpcode opcode addr => Sys2Proof.Machine.execMspReservedOpcode opcode addr s
  | .mspMasterStart value => Sys2Proof.Machine.execMspMasterStart value s
  | .mspMasterUnitEnd sdi => Sys2Proof.Machine.execMspMasterUnitEnd sdi s
  | .contention => Sys2Proof.Machine.execContention s
  | .hwTimeLoRead path => Sys2Proof.Machine.execHwTimeLoRead path s
  | .mbDoorbellWrite n value => Sys2Proof.Machine.execMbDoorbellWrite n value s
  | .mb0PathChange path => Sys2Proof.Machine.execMb0PathChange path s
  | .rspTailWrite n value => Sys2Proof.Machine.execRspTailWrite n value s
  | .requestEntryWrite n entry word value => Sys2Proof.Machine.execRequestEntryWrite n entry word value s
  | .leveeAckWrite value => Sys2Proof.Machine.execLeveeAckWrite value s
  | .leveeCtrlWrite value => Sys2Proof.Machine.execLeveeCtrlWrite value s
  | .registerWrite addr value => Sys2Proof.Machine.execRegisterWrite addr value s
  | .regAccess dr => Sys2Proof.Machine.execRegAccess dr s
  | .extest => Sys2Proof.Machine.execExtest s
  | .samplePreload cells => Sys2Proof.Machine.execSamplePreload cells s
  | .idcode => Sys2Proof.Machine.execIdcode s
  | .clamp => Sys2Proof.Machine.execClamp s
  | .highz => Sys2Proof.Machine.execHighz s
  | .extestPulse => Sys2Proof.Machine.execExtestPulse s
  | .extestTrain => Sys2Proof.Machine.execExtestTrain s
  | .bypass => Sys2Proof.Machine.execBypass s
  | .unknownOpcodeRequest mb => Sys2Proof.Machine.execUnknownOpcodeRequest mb s
  | .opcIdentity mb => Sys2Proof.Machine.execOpcIdentity mb s
  | .opcDeviceStart mb => Sys2Proof.Machine.execOpcDeviceStart mb s
  | .opcArm mb => Sys2Proof.Machine.execOpcArm mb s
  | .opcDisarm mb => Sys2Proof.Machine.execOpcDisarm mb s
  | .opcPause mb => Sys2Proof.Machine.execOpcPause mb s
  | .opcResume mb => Sys2Proof.Machine.execOpcResume mb s
  | .opcBypassEnter mb => Sys2Proof.Machine.execOpcBypassEnter mb s
  | .fordDrainDone => Sys2Proof.Machine.execFordDrainDone s
  | .opcBypassExit mb => Sys2Proof.Machine.execOpcBypassExit mb s
  | .opcDiagEnter mb => Sys2Proof.Machine.execOpcDiagEnter mb s
  | .opcDiagExit mb => Sys2Proof.Machine.execOpcDiagExit mb s
  | .selfTestEnd report => Sys2Proof.Machine.execSelfTestEnd report s
  | .opcPdSet mb => Sys2Proof.Machine.execOpcPdSet mb s
  | .opcPdQuery mb => Sys2Proof.Machine.execOpcPdQuery mb s
  | .opcNoticeConfig mb => Sys2Proof.Machine.execOpcNoticeConfig mb s
  | .opcItemSubmit mb rem => Sys2Proof.Machine.execOpcItemSubmit mb rem s
  | .opcItemAbort mb => Sys2Proof.Machine.execOpcItemAbort mb s
  | .opcLedgerRead mb => Sys2Proof.Machine.execOpcLedgerRead mb s
  | .opcLedgerRetire mb rem => Sys2Proof.Machine.execOpcLedgerRetire mb rem s
  | .opcClockStatus mb => Sys2Proof.Machine.execOpcClockStatus mb s
  | .opcClockLock mb => Sys2Proof.Machine.execOpcClockLock mb s
  | .opcClockStep mb => Sys2Proof.Machine.execOpcClockStep mb s
  | .opcSyncConfig mb => Sys2Proof.Machine.execOpcSyncConfig mb s
  | .opcSyncMeasure mb => Sys2Proof.Machine.execOpcSyncMeasure mb s
  | .opcSyncOffset mb => Sys2Proof.Machine.execOpcSyncOffset mb s
  | .opcSyncEpoch mb => Sys2Proof.Machine.execOpcSyncEpoch mb s
  | .opcSiteMap mb rem => Sys2Proof.Machine.execOpcSiteMap mb rem s
  | .opcTrigConfig mb => Sys2Proof.Machine.execOpcTrigConfig mb s
  | .opcWmonConfig mb rem balls => Sys2Proof.Machine.execOpcWmonConfig mb rem balls s
  | .opcTdcConfig mb => Sys2Proof.Machine.execOpcTdcConfig mb s
  | .opcDpsConfig mb => Sys2Proof.Machine.execOpcDpsConfig mb s
  | .opcSineConfig mb => Sys2Proof.Machine.execOpcSineConfig mb s
  | .opcLaneConfig mb => Sys2Proof.Machine.execOpcLaneConfig mb s
  | .opcCalConfig mb => Sys2Proof.Machine.execOpcCalConfig mb s
  | .opcLevelsSet mb rem => Sys2Proof.Machine.execOpcLevelsSet mb rem s
  | .opcLoadGroup mb => Sys2Proof.Machine.execOpcLoadGroup mb s
  | .opcClearCode mb rem => Sys2Proof.Machine.execOpcClearCode mb rem s
  | .opcTimingSet mb rem => Sys2Proof.Machine.execOpcTimingSet mb rem s
  | .opcPinmodeSet mb rem => Sys2Proof.Machine.execOpcPinmodeSet mb rem s
  | .opcTimingCommit mb => Sys2Proof.Machine.execOpcTimingCommit mb s
  | .opcBackgroundSet mb => Sys2Proof.Machine.execOpcBackgroundSet mb s
  | .opcScheduleLoad mb rem => Sys2Proof.Machine.execOpcScheduleLoad mb rem s
  | .scheduleDigestDone id rem => Sys2Proof.Machine.execScheduleDigestDone id rem s
  | .opcScheduleUnload mb => Sys2Proof.Machine.execOpcScheduleUnload mb s
  | .opcScheduleStatus mb => Sys2Proof.Machine.execOpcScheduleStatus mb s
  | .opcBurstJump mb => Sys2Proof.Machine.execOpcBurstJump mb s
  | .opcLayerFree mb => Sys2Proof.Machine.execOpcLayerFree mb s
  | .opcLayerStatus mb => Sys2Proof.Machine.execOpcLayerStatus mb s
  | .opcUnitMaintain mb => Sys2Proof.Machine.execOpcUnitMaintain mb s
  | .opcUnitRelease mb => Sys2Proof.Machine.execOpcUnitRelease mb s
  | .opcUnitStatus mb => Sys2Proof.Machine.execOpcUnitStatus mb s
  | .opcMseqLoad mb rem => Sys2Proof.Machine.execOpcMseqLoad mb rem s
  | .mseqDigestDone seq rem => Sys2Proof.Machine.execMseqDigestDone seq rem s
  | .opcFabricStatus mb => Sys2Proof.Machine.execOpcFabricStatus mb s
  | .opcPortConfig mb => Sys2Proof.Machine.execOpcPortConfig mb s
  | .opcPageHome mb => Sys2Proof.Machine.execOpcPageHome mb s
  | .opcBootServe mb => Sys2Proof.Machine.execOpcBootServe mb s
  | .bootServeSilence => Sys2Proof.Machine.execBootServeSilence s
  | .opcEventRead mb => Sys2Proof.Machine.execOpcEventRead mb s
  | .opcEventAck mb => Sys2Proof.Machine.execOpcEventAck mb s
  | .opcFaultInject mb => Sys2Proof.Machine.execOpcFaultInject mb s
  | .injectionEnd => Sys2Proof.Machine.execInjectionEnd s
  | .opcServiceBegin mb rem => Sys2Proof.Machine.execOpcServiceBegin mb rem s
  | .serviceImageChecked rem => Sys2Proof.Machine.execServiceImageChecked rem s
  | .serviceBankChangeDone => Sys2Proof.Machine.execServiceBankChangeDone s
  | .itemTimeLimit slot => Sys2Proof.Machine.execItemTimeLimit slot s
  | .burstDispatch slot => Sys2Proof.Machine.execBurstDispatch slot s
  | .pinBodyAbandoned slot seg => Sys2Proof.Machine.execPinBodyAbandoned slot seg s
  | .burstStart slot => Sys2Proof.Machine.execBurstStart slot s
  | .segmentFetchIssue slot ord seg => Sys2Proof.Machine.execSegmentFetchIssue slot ord seg s
  | .fetchResident slot key rem => Sys2Proof.Machine.execFetchResident slot key rem s
  | .streamingRoomFreed slot => Sys2Proof.Machine.execStreamingRoomFreed slot s
  | .junctionSamplingPoint slot => Sys2Proof.Machine.execJunctionSamplingPoint slot s
  | .underrun slot => Sys2Proof.Machine.execUnderrun slot s
  | .burstSegmentBoundary slot => Sys2Proof.Machine.execBurstSegmentBoundary slot s
  | .stallEnd slot vectors => Sys2Proof.Machine.execStallEnd slot vectors s
  | .throttleHoldEnd slot vectors => Sys2Proof.Machine.execThrottleHoldEnd slot vectors s
  | .layerPageRelease peb layer page => Sys2Proof.Machine.execLayerPageRelease peb layer page s
  | .queueFlushTimeout q => Sys2Proof.Machine.execQueueFlushTimeout q s
  | .wmonTransition ch ball within20 => Sys2Proof.Machine.execWmonTransition ch ball within20 s
  | .wmonCoalesceEnd mon => Sys2Proof.Machine.execWmonCoalesceEnd mon s
  | .wmonStuck ch => Sys2Proof.Machine.execWmonStuck ch s
  | .measureDispatch slot => Sys2Proof.Machine.execMeasureDispatch slot s
  | .mseqRequestTaken seq => Sys2Proof.Machine.execMseqRequestTaken seq s
  | .seqGo seq => Sys2Proof.Machine.execSeqGo seq s
  | .seqCall seq => Sys2Proof.Machine.execSeqCall seq s
  | .seqReturn seq => Sys2Proof.Machine.execSeqReturn seq s
  | .seqWait seq => Sys2Proof.Machine.execSeqWait seq s
  | .timerDone seq => Sys2Proof.Machine.execTimerDone seq s
  | .seqEnd seq => Sys2Proof.Machine.execSeqEnd seq s
  | .unwindDone seq => Sys2Proof.Machine.execUnwindDone seq s
  | .conversionDone dadc conv input value endOfScale clamped gap => Sys2Proof.Machine.execConversionDone dadc conv input value endOfScale clamped gap s
  | .rangeChangeDone dps n => Sys2Proof.Machine.execRangeChangeDone dps n s
  | .tdcDispatch slot => Sys2Proof.Machine.execTdcDispatch slot s
  | .tdcEdge tdc stop sampled near => Sys2Proof.Machine.execTdcEdge tdc stop sampled near s
  | .acquireDispatch slot => Sys2Proof.Machine.execAcquireDispatch slot s
  | .transferDispatch slot => Sys2Proof.Machine.execTransferDispatch slot s
  | .dmaDescriptorFetched ch status rem => Sys2Proof.Machine.execDmaDescriptorFetched ch status rem s
  | .dmaBufferGranted ch => Sys2Proof.Machine.execDmaBufferGranted ch s
  | .dmaReadResponse ch status rem => Sys2Proof.Machine.execDmaReadResponse ch status rem s
  | .dmaWriteResponse ch status => Sys2Proof.Machine.execDmaWriteResponse ch status s
  | .dmaWritebackAck ch status => Sys2Proof.Machine.execDmaWritebackAck ch status s
  | .dmaStopWaitEnd ch => Sys2Proof.Machine.execDmaStopWaitEnd ch s
  | .calDispatch slot => Sys2Proof.Machine.execCalDispatch slot s
  | .calClassDone result => Sys2Proof.Machine.execCalClassDone result s
  | .correctionSlewStep => Sys2Proof.Machine.execCorrectionSlewStep s
  | .referenceFullAccuracy => Sys2Proof.Machine.execReferenceFullAccuracy s
  | .levelsDispatch slot => Sys2Proof.Machine.execLevelsDispatch slot s
  | .dpsDispatch slot => Sys2Proof.Machine.execDpsDispatch slot s
  | .currentManagerRefresh loads vps => Sys2Proof.Machine.execCurrentManagerRefresh loads vps s
  | .dpsRampStep slot => Sys2Proof.Machine.execDpsRampStep slot s
  | .dpsBudgetTimeout slot => Sys2Proof.Machine.execDpsBudgetTimeout slot s
  | .dpsLimitChange n acts microvolts microamps => Sys2Proof.Machine.execDpsLimitChange n acts microvolts microamps s
  | .dpsDropout n lost microvolts microamps => Sys2Proof.Machine.execDpsDropout n lost microvolts microamps s
  | .dpsOverload => Sys2Proof.Machine.execDpsOverload s
  | .dpsDisarmOutputDisable n => Sys2Proof.Machine.execDpsDisarmOutputDisable n s
  | .dpsDischargeDone n => Sys2Proof.Machine.execDpsDischargeDone n s
  | .laneDispatch slot => Sys2Proof.Machine.execLaneDispatch slot s
  | .laneRxLock lane freqOffset => Sys2Proof.Machine.execLaneRxLock lane freqOffset s
  | .noLock lane => Sys2Proof.Machine.execNoLock lane s
  | .lanePrbsSync lane inverted => Sys2Proof.Machine.execLanePrbsSync lane inverted s
  | .laneSyncDrop lane bits errors => Sys2Proof.Machine.execLaneSyncDrop lane bits errors s
  | .noSync lane => Sys2Proof.Machine.execNoSync lane s
  | .laneLockLoss lane => Sys2Proof.Machine.execLaneLockLoss lane s
  | .laneBitsReached lane bits errors => Sys2Proof.Machine.execLaneBitsReached lane bits errors s
  | .eyePointDone lane mismatches => Sys2Proof.Machine.execEyePointDone lane mismatches s
  | .laneClassRecognised lane cls inverted => Sys2Proof.Machine.execLaneClassRecognised lane cls inverted s
  | .portRetrain port => Sys2Proof.Machine.execPortRetrain port s
  | .portTrained port lanes full => Sys2Proof.Machine.execPortTrained port lanes full s
  | .portTrainRetry port => Sys2Proof.Machine.execPortTrainRetry port s
  | .portAckTimeout port => Sys2Proof.Machine.execPortAckTimeout port s
  | .linkSendTimer port => Sys2Proof.Machine.execLinkSendTimer port s
  | .link port pkt => Sys2Proof.Machine.execLink port pkt s
  | .train port pkt => Sys2Proof.Machine.execTrain port pkt s
  | .packetForward port pkt => Sys2Proof.Machine.execPacketForward port pkt s
  | .regRd port pkt => Sys2Proof.Machine.execRegRd port pkt s
  | .regWr port pkt => Sys2Proof.Machine.execRegWr port pkt s
  | .regRsp port pkt => Sys2Proof.Machine.execRegRsp port pkt s
  | .mboxReq port pkt => Sys2Proof.Machine.execMboxReq port pkt s
  | .mboxRsp port pkt => Sys2Proof.Machine.execMboxRsp port pkt s
  | .mboxAck port pkt => Sys2Proof.Machine.execMboxAck port pkt s
  | .mboxAckTimeout tag => Sys2Proof.Machine.execMboxAckTimeout tag s
  | .memRd port pkt => Sys2Proof.Machine.execMemRd port pkt s
  | .memRdRsp port pkt => Sys2Proof.Machine.execMemRdRsp port pkt s
  | .memWr port pkt => Sys2Proof.Machine.execMemWr port pkt s
  | .memWrAck port pkt => Sys2Proof.Machine.execMemWrAck port pkt s
  | .requestTimeout tag => Sys2Proof.Machine.execRequestTimeout tag s
  | .timeXchg port pkt c2 c3 => Sys2Proof.Machine.execTimeXchg port pkt c2 c3 s
  | .timeXchgRsp port pkt c4 => Sys2Proof.Machine.execTimeXchgRsp port pkt c4 s
  | .timeEpoch port pkt => Sys2Proof.Machine.execTimeEpoch port pkt s
  | .bcastReq port pkt => Sys2Proof.Machine.execBcastReq port pkt s
  | .bootReq port pkt rem => Sys2Proof.Machine.execBootReq port pkt rem s
  | .bootOffer port pkt => Sys2Proof.Machine.execBootOffer port pkt s
  | .bootData port pkt => Sys2Proof.Machine.execBootData port pkt s
  | .bootDone port pkt => Sys2Proof.Machine.execBootDone port pkt s
  | .leveeDetection detector region detail uncorrectable reactionNs => Sys2Proof.Machine.execLeveeDetection detector region detail uncorrectable reactionNs s
  | .reactionShadowClose index => Sys2Proof.Machine.execReactionShadowClose index s
  | .housekeepingSlot reading faulty => Sys2Proof.Machine.execHousekeepingSlot reading faulty s
  | .throttleWindowEnd => Sys2Proof.Machine.execThrottleWindowEnd s
  | .vectorPlay slot seen => Sys2Proof.Machine.execVectorPlay slot seen s
  | .delayLineLocked => Sys2Proof.Machine.execDelayLineLocked s
  | .domainSwitchOpened pd => Sys2Proof.Machine.execDomainSwitchOpened pd s
  | .sineUpdate => Sys2Proof.Machine.execSineUpdate s

end Sys2Proof.Machine
end

