-- ==== Sys2Proof/Machine/Idle.lean ====
section
/-! DEFINITION. What 10 ns of idle time do: the Headwater count advances (R50 to R52), a small clock step goes on (R42), and set
points of DPS channels slew (R278; log 2). -/

namespace Sys2Proof.Machine

/-- The count advances by 64 × M_LOCK LSB in a HWREF period: M/4 cycles of the timing clock, 256 × M_LOCK/M in each, at
any M; the fraction has 32 bits. mNow moves the phase of the timing clock against HWREF (R50). -/
def advanceCount (h : Headwater) (mLock mNow : Nat) : Headwater :=
  let sum := h.frac.toNat + 64 * mLock * 2 ^ 12
  { h with
    count := h.count + BitVec.ofNat 64 (sum / 2 ^ 32), frac := BitVec.ofNat 32 (sum % 2 ^ 32)
    phase := h.phase + BitVec.ofNat 22 mNow }

/-- In SYNCED a correction is slewed by 1 LSB per µs (Table 3.3). -/
def slewCount (h : Headwater) : Headwater :=
  if h.status ≠ .synced ∨ h.slew = 0 then h
  else if h.slewPhase < 99 then { h with slewPhase := h.slewPhase + 1 }
  else if 0 < h.slew then { h with slewPhase := 0, count := h.count + 1, slew := h.slew - 1 }
  else { h with slewPhase := 0, count := h.count - 1, slew := h.slew + 1 }

/-- M on the ramp of a small step, t periods of 10 ns after it began (R42): slew ppm of M_LOCK a µs, toward the target
(log 2). -/
def rampM (c : Clock) (t : Nat) : BitVec 28 :=
  let way := c.stepSlew * c.mLock.toNat * t / 100000000
  if c.stepFrom.toNat ≤ c.stepTarget.toNat then BitVec.ofNat 28 (min c.stepTarget.toNat (c.stepFrom.toNat + way))
  else BitVec.ofNat 28 (max c.stepTarget.toNat (c.stepFrom.toNat - way))

/-- A small step goes on for one period. -/
def rampClock (c : Clock) : Clock :=
  if c.stepActive then { c with stepTicks := c.stepTicks + 1, mNow := rampM c (c.stepTicks + 1) } else c

/-- A set point under a strobe, CLR_N or OPC_DISARM moves at the highest SLEW of its range for 10 ns (R278). -/
def slewDps (d : Dps) : Dps :=
  match d.goal with
  | some x =>
    let y := towards d.set x (slewLimit d.range * 2 ^ 32 / 100)
    { d with set := y, goal := if y = x then none else some x }
  | none => d

/-- One tick of 10 ns on an empty queue. -/
def idleTick (s : State) : State :=
  let s := { s with
    clock := rampClock s.clock
    dps := tmods {} s.dps (tkeys s.dps fun _ d => d.goal.isSome) fun _ d => slewDps d }
  if s.hw.running then { s with hw := slewCount (advanceCount s.hw s.clock.mLock.toNat s.clock.mNow.toNat) } else s

end Sys2Proof.Machine
end

