-- ==== Sys2Proof/Safety.lean ====
section
/-! DEFINITION. The terms that statements use: the parts of State, what may differ between two states, and what it means
that a command completes. A run is safe while every step answers a next state: the faults are the misuses of Table 19.10
(R367), for which the spec holds no statement. -/

namespace Sys2Proof.Machine

/-- The parts of State, one for each field. -/
inductive Part where
  | pending | power | dev | units | clock | hw | boot | mbs | rr | ledger | order | cfg
  | dacs | corrs | chans | pebs | bursts | seqs | tdcs | tdcW | tdcLat | acqs | dps | resvs
  | lgs | lanes | queues | dmas | bufFree | fabric | press | house | levee | svc | mem | msp
  | jtag | free
deriving DecidableEq

/-- A part is the same in both states. -/
def Part.same : Part → State → State → Prop
  | .pending, s, t => t.pending = s.pending
  | .power, s, t => t.power = s.power
  | .dev, s, t => t.dev = s.dev
  | .units, s, t => t.units = s.units
  | .clock, s, t => t.clock = s.clock
  | .hw, s, t => t.hw = s.hw
  | .boot, s, t => t.boot = s.boot
  | .mbs, s, t => t.mbs = s.mbs
  | .rr, s, t => t.rr = s.rr
  | .ledger, s, t => t.ledger = s.ledger
  | .order, s, t => t.order = s.order
  | .cfg, s, t => t.cfg = s.cfg
  | .dacs, s, t => t.dacs = s.dacs
  | .corrs, s, t => t.corrs = s.corrs
  | .chans, s, t => t.chans = s.chans
  | .pebs, s, t => t.pebs = s.pebs
  | .bursts, s, t => t.bursts = s.bursts
  | .seqs, s, t => t.seqs = s.seqs
  | .tdcs, s, t => t.tdcs = s.tdcs
  | .tdcW, s, t => t.tdcW = s.tdcW
  | .tdcLat, s, t => t.tdcLat = s.tdcLat
  | .acqs, s, t => t.acqs = s.acqs
  | .dps, s, t => t.dps = s.dps
  | .resvs, s, t => t.resvs = s.resvs
  | .lgs, s, t => t.lgs = s.lgs
  | .lanes, s, t => t.lanes = s.lanes
  | .queues, s, t => t.queues = s.queues
  | .dmas, s, t => t.dmas = s.dmas
  | .bufFree, s, t => t.bufFree = s.bufFree
  | .fabric, s, t => t.fabric = s.fabric
  | .press, s, t => t.press = s.press
  | .house, s, t => t.house = s.house
  | .levee, s, t => t.levee = s.levee
  | .svc, s, t => t.svc = s.svc
  | .mem, s, t => t.mem = s.mem
  | .msp, s, t => t.msp = s.msp
  | .jtag, s, t => t.jtag = s.jtag
  | .free, s, t => t.free = s.free

/-- t differs from s at most in the parts listed. -/
structure Touch (ps : List Part) (s t : State) : Prop where
  same : ∀ p, p ∉ ps → p.same s t

/-- The command c completes in s: exec answers a next state that P holds of, which differs from s at most in the parts
listed. -/
def Completes (c : Instr) (s : State) (ps : List Part) (P : State → Prop) : Prop :=
  ∃ t, exec c s = .next t ∧ P t ∧ Touch ps s t

/-- The item in slot i of s has ended in t: COMPLETE, or FAILED with the reason given, at the time of s (R91, R92). -/
def Ended (s t : State) (i : Nat) (reason : Option Nat) : Prop :=
  (slotOf t i).st = (if reason.isSome then .failed else .complete) ∧ (slotOf t i).reason = BitVec.ofNat 8 (reason.getD 0)
    ∧ (slotOf t i).tEnd = stamp s

/-- The item in slot i is a host's and not yet terminal. -/
def HostItem (s : State) (i : Nat) : Prop := openSlot (slotOf s i) = true ∧ (slotOf s i).own = false

/-- The command c has no effect in s. -/
def Idle (c : Instr) (s : State) : Prop := exec c s = .next s

/-- The command c stops the machine in s with the misuse f. -/
def Misuses (c : Instr) (s : State) (f : Fault) : Prop := exec c s = .fault f

end Sys2Proof.Machine
end

