-- ==== Sys2Proof/Certificates/Slice0/Obligations.lean ====
section
/-! DEFINITION. The statements about the model, for the provers. Each docstring names the rules a statement rests on; a clause
that rests on a choice of the model names its log entry. -/

open Sys2Proof Sys2Proof.Machine

/-- A step runs the command at the front of the queue. For every command c and state s, a step of s with c at the front of
its queue is exec of c on s with the queue's rest. [derived: 00_scope.md; log 62.] -/
def Obligations.StepRunsFrontCommand : Prop :=
  ∀ (c : Instr) (rest : List Instr) (s : State), step { s with pending := c :: rest } = exec c { s with pending := rest }

/-- A step on an empty queue lets 10 ns pass: the Headwater count advances by 64 × M_LOCK, and only ramps move beside it.
With no command waiting a step answers a next state that differs at most in the Headwater, the clock's ramp and the
DPS set points (model's choice, log 2). While the count does not run the Headwater stays. While it runs and no
correction is being slewed, the count with its 32 fraction bits advances by 64 × M_LOCK (M in units of 2^-20) modulo
2^64, as it does per HWREF period of 10 ns, and the timing clock's phase against HWREF by M/4 of its cycles. M moves
only during a small step, to its place on the ramp one period on (R42); a DPS set point moves only toward a goal that
a strobe, CLR_N or a disarm gave it, by at most what the highest SLEW of its range allows in 10 ns (R278). [derived:
R42; R50; R278; log 2.] -/
def Obligations.IdleTickAdvancesHeadwater : Prop :=
  ∀ s : State, s.pending = [] →
    ∃ t, step s = .next t ∧ Touch [.hw, .clock, .dps] s t ∧ (s.hw.running = false → t.hw = s.hw)
      ∧ (s.clock.stepActive = false → t.clock = s.clock)
      ∧ (s.clock.stepActive = true → t.clock = { s.clock with
          stepTicks := s.clock.stepTicks + 1, mNow := rampM s.clock (s.clock.stepTicks + 1) })
      ∧ (TabWf {} s.dps → ∀ n, ((dpsOf s n).goal = none → dpsOf t n = dpsOf s n)
        ∧ ∀ x, (dpsOf s n).goal = some x →
          let y := towards (dpsOf s n).set x (slewLimit (dpsOf s n).range * 2 ^ 32 / 100)
          dpsOf t n = { dpsOf s n with set := y, goal := if y = x then none else some x })
      ∧ (s.hw.running = true → s.hw.status ≠ .synced ∨ s.hw.slew = 0 →
          t.hw.phase = s.hw.phase + BitVec.ofNat 22 t.clock.mNow.toNat
          ∧ (s.hw.count.toNat * 2 ^ 32 + s.hw.frac.toNat + 64 * s.clock.mLock.toNat * 2 ^ 12) % 2 ^ 96
              = t.hw.count.toNat * 2 ^ 32 + t.hw.frac.toNat)

/-- No command changes the queue of waiting commands. Whenever exec of any command answers a next state, the queue of
waiting commands is as before. [derived: 00_scope.md; log 62.] -/
def Obligations.CommandsLeaveTheQueue : Prop :=
  ∀ (c : Instr) (s t : State), exec c s = .next t → t.pending = s.pending

/-- Every step keeps local memory in its canonical form. For every state, whether or not a run reaches it: if local memory
lists its bytes with strictly rising addresses and lists no zero byte, and a step answers a next state, then the next
state's local memory has that form too. All 222 commands and the idle tick are covered. [derived: R148; R409.] -/
def Obligations.EveryStepKeepsMemoryCanonical : Prop :=
  ∀ s t : State, Memory.wf s.mem.bytes = true → step s = .next t → Memory.wf t.mem.bytes = true

/-- A write to local memory reads back, and every byte outside it reads as before. In canonical memory, after a write of
bytes at a local address each of those bytes reads back, and every byte at any other address reads as before.
[derived: R148; R409.] -/
def Obligations.LocalWriteReadsBack : Prop :=
  ∀ (s : State) (l : Nat) (bs : List Byte) (a : Nat), Memory.wf s.mem.bytes = true →
    localByte (writeLocal s l bs) a = if l ≤ a ∧ a < l + bs.length then bs.getD (a - l) 0 else localByte s a

/-- The corrections of the device change only at the end of a calibration class and at a reset. A command that answers a
next state and is none of CAL_CLASS_DONE, WARM_RESET and POWER_ON_RESET leaves the DAC corrections, the TDC bin
weights and the TDC input latencies as they are. [derived: R339; R336; R29; R30.] -/
def Obligations.CorrectionsChangeOnlyByCalibration : Prop :=
  ∀ (c : Instr) (s t : State), exec c s = .next t → (∀ r, c ≠ .calClassDone r) → c ≠ .warmReset → c ≠ .powerOnReset →
    t.corrs = s.corrs ∧ t.tdcW = s.tdcW ∧ t.tdcLat = s.tdcLat

/-- What the reset columns give at reset. After reset: DEV_MODE is BOOT, PD_STATUS is 0x9 (Table 2.6a), nothing is
switching, the Ford is closed, the count does not run, FAULT_LEVEE_CTRL's DET enables stand, every ledger slot is
FREE, every ring index is zero, no BURST, item or packet is in progress, the queue is empty and local memory lists
nothing. That State.reset is the machine held in power-on reset is the model's choice (log 1). [derived: R31; R65;
R79; R90; log 1.] -/
def Obligations.ResetValuesOfTheDevice : Prop :=
  let s := State.reset
  s.dev.mode = .boot ∧ s.power.porHeld = true ∧ s.power.pdOn = 0x9#32 ∧ s.power.pdBusy = 0 ∧ s.power.fordClosed = true
    ∧ s.hw.running = false ∧ s.clock.locked = false ∧ s.clock.onBypass = true ∧ s.levee.ctrl = 0x1F#32
    ∧ (∀ i, (slotOf s i).st = .free) ∧ (∀ n, mbOf s n = {}) ∧ s.bursts = [] ∧ s.queues = [] ∧ s.dmas = []
    ∧ s.fabric.copies = [] ∧ s.pending = [] ∧ s.mem.bytes = []

/-- Local memory is in canonical form at reset. The reset state's local memory has the canonical form that every step
keeps. [derived: R409.] -/
def Obligations.ResetMemoryCanonical : Prop :=
  Memory.wf State.reset.mem.bytes = true

/-- POWER_ON_RESET clears the ledger and every register and leaves only PD0 on, with the Ford closed. In every state,
POWER_ON_RESET answers the reset state but for what the board holds (the rails, the levels at CLR_N and FORD_CLOSE_N,
whether HWREF is valid), the outputs that discharge, the queue and the model's free-value counter (log 13), and for
the set-point DACs, which wait for a strobe while CLR_N is low (R35); only PD0 is on and the Ford is closed. A DPS
channel that was enabled, or discharging, is disabled and discharges with its passive path open (Table 2.7); every
other is as after reset. [derived: R29; R31; R34; Table 2.7.] -/
def Obligations.PowerOnResetClearsTheDevice : Prop :=
  (∀ s : State, exec .powerOnReset s = .next { State.reset with
    pending := s.pending, free := s.free
    power := { State.reset.power with
      rails := s.power.rails, clrLow := s.power.clrLow, fordPinLow := s.power.fordPinLow, pdOn := 1#32 }
    dps := tmapAll {} s.dps resetDps
    dacs := clearedDacs s.power.clrLow []
    clock := { State.reset.clock with refOk := s.clock.refOk } })
  ∧ ∀ s t : State, TabWf {} s.dps → exec .powerOnReset s = .next t → ∀ n, dpsOf t n =
    if (dpsOf s n).enabled = true ∨ (dpsOf s n).discharging = true then { discharging := true, passive := false } else {}

/-- The boot that BOOT_SRC src selects has begun in t, from s (R67). -/
def bootBegun (s t : State) (src : BitVec 2) : Prop :=
  t.dev.mode = .boot ∧ t.power.porHeld = false ∧ t.power.warmHeld = false ∧ t.power.pdOn = 0x9#32
    ∧ (mbOf t 0).path = src.getLsbD 0
    ∧ (src = 0#2 → t.boot = s.boot ∧ t.clock = s.clock)
    ∧ (src = 1#2 → s.clock.refOk = false → t.boot.error = 0x06#8 ∧ t.boot.wait = .ref)
    ∧ (src = 1#2 → s.clock.refOk = true → t.boot.wait = .lock ∧ t.clock.relocking = true ∧ t.clock.lockTarget = 0x5000000#28)
    ∧ (2 ≤ src.toNat → t.boot.error = 0x01#8 ∧ t.boot.wait = .strap)

/-- A release of reset enters BOOT and starts the boot that BOOT_SRC selects. No firmware runs in reset.
POWER_ON_RESET_RELEASE in power-on reset samples the straps, and WARM_RESET_RELEASE in a warm reset keeps those
sampled before; either way the device is in BOOT with PD0 and PD3 on, and PATH of mailbox 0 is BOOT_SRC bit 0. A
reserved BOOT_SRC gives the strap error, 0b00 changes nothing more, 0b01 waits for HWREF or begins a lock at M = 80.0.
Everything outside the parts listed stays. [derived: R24; R67; R31.] -/
def Obligations.ResetReleaseStartsTheBoot : Prop :=
  (∀ (node : BitVec 11) (src : BitVec 2) (s : State), s.power.porHeld = true → s.boot.running = false → TabWf {} s.mbs →
      Completes (.powerOnResetRelease node src) s [.power, .dev, .units, .clock, .hw, .boot, .mbs, .fabric, .levee, .svc, .free] fun t =>
        t.power.node = node ∧ t.power.src = src ∧ bootBegun s t src)
    ∧ (∀ s : State, s.power.warmHeld = true → s.boot.running = false → TabWf {} s.mbs →
      Completes .warmResetRelease s [.power, .dev, .units, .clock, .hw, .boot, .mbs, .fabric, .levee, .svc, .free] fun t =>
        t.power.node = s.power.node ∧ t.power.src = s.power.src ∧ bootBegun s t s.power.src)

/-- A warm reset keeps PD0 and clears the rest; RST_CTRL schedules one. Outside reset, WARM_RESET keeps the ledger, the
management port, JTAG, the event log with its pointers, BOOT_STATUS's ERROR, the straps and every clear code;
mailboxes are cleared, all domains but PD0 are off, and CAUSE says whether a pin or RST_CTRL caused it. A DPS channel
that was enabled discharges. RST_CTRL_WARM with WARM and KEY 0x5A only schedules the warm reset; any other value
changes nothing. In a reset that is held neither has an effect. [derived: R30; R65; R196; R390.] -/
def Obligations.WarmResetKeepsPd0 : Prop :=
  (∀ s : State, s.power.porHeld = true ∨ s.power.warmHeld = true → Idle .warmReset s)
    ∧ (∀ (v : Word) (s : State), inReset s = true → Idle (.rstCtrlWarm v) s)
    ∧ (∀ s : State, s.power.porHeld = false → s.power.warmHeld = false → TabWf {} s.dacs → TabWf {} s.dps →
      Completes .warmReset s [.power, .dev, .units, .clock, .hw, .boot, .mbs, .rr, .ledger, .cfg, .dacs, .corrs, .chans, .pebs, .bursts, .seqs, .tdcs, .tdcW, .tdcLat, .acqs, .dps, .resvs, .lgs, .lanes, .queues, .dmas, .bufFree, .fabric, .press, .house, .levee, .svc, .mem] fun t =>
        t.power.warmHeld = true ∧ t.power.pdOn = 1#32 ∧ t.power.cause = (if s.power.warmSched then 2 else 1)
          ∧ t.power.node = s.power.node ∧ t.power.src = s.power.src ∧ t.dev.mode = s.dev.mode
          ∧ t.levee.log = s.levee.log ∧ t.levee.head = s.levee.head ∧ t.levee.ackTo = s.levee.ackTo
          ∧ t.boot.error = s.boot.error ∧ t.boot.running = false ∧ t.mbs = [] ∧ t.mem.bytes = []
          ∧ (∀ k, (dacOf t k).clear = (dacOf s k).clear ∧ (dacOf t k).clearI = (dacOf s k).clearI
            ∧ (dacOf t k).active = (dacOf s k).clear ∧ (dacOf t k).held = true)
          ∧ ∀ n, (dpsOf s n).enabled = true → (dpsOf t n).enabled = false ∧ (dpsOf t n).discharging = true)
    ∧ (∀ (v : Word) (s : State), inReset s = false →
      exec (.rstCtrlWarm v) s = .next (if v.getLsbD 0 ∧ (v >>> 8).setWidth 8 = 0x5A#8
        then { s with power := { s.power with warmSched := true } } else s))

/-- CLR_N low holds every DAC at its clear code, and its release moves none. CLR_N_ASSERT sets every DAC's output to its
clear code while its shadow and active registers keep their values; CLR_N_RELEASE only ends the level, so each DAC
stays at its clear code. [derived: R35.] -/
def Obligations.ClearPinHoldsEveryDac : Prop :=
  (∀ s : State, TabWf {} s.dacs → Completes .clrNAssert s [.power, .dacs, .dps] fun t =>
      t.power = { s.power with clrLow := true } ∧ ∀ k, (dacOf t k).held = true ∧ (dacOf t k).active = (dacOf s k).active
        ∧ (dacOf t k).shadow = (dacOf s k).shadow ∧ (dacOf t k).clear = (dacOf s k).clear)
    ∧ (∀ s : State, exec .clrNRelease s = .next { s with power := { s.power with clrLow := false } })

/-- FORD_CLOSE_N closes the Ford in every state, and its rise opens it again only for a Trellis boot that waits. In every
state the fall completes: the pin's level is kept and the Ford is closed. In a mode from which Table 4.2 allows it the
device is then in BYPASS, with no pin map where firmware has reported; in SAFE, BYPASS and reset the mode and the boot
stay as they are; in SERVICE the mode stays and the fall is remembered for its end; in BOOT a Trellis boot that has
opened the Ford waits for it, and discards with ERROR 9 a download that is not yet being verified. In every state the
rise completes: the level is kept; the switches, the boot and everything else stay as they are, unless a Trellis boot
waits for the Ford with HWREF valid: it then reopens it and measures again, in BOOT as before. [derived: R25; R67;
R61; log 43.] -/
def Obligations.FordPinClosesTheFord : Prop :=
  (∀ s : State, Completes .fordCloseNFall s [.power, .dev, .units, .hw, .boot, .mbs, .ledger, .order, .dacs, .chans, .pebs, .bursts, .seqs, .tdcs, .acqs, .dps, .resvs, .lanes, .queues, .dmas, .fabric, .press, .levee, .svc, .mem, .free] fun t =>
      t.power.fordPinLow = true ∧ t.power.fordClosed = true
      ∧ (inReset s = true ∨ s.dev.mode = .safe ∨ s.dev.mode = .bypass → t.dev = s.dev ∧ t.boot = s.boot ∧ t.ledger = s.ledger)
      ∧ (inReset s = false → s.dev.mode = .service → t.dev = s.dev ∧ t.boot = s.boot ∧ t.svc.ford = true)
      ∧ (inReset s = false → s.dev.mode = .boot → t.dev = s.dev
          ∧ (s.boot.wait ≠ .measure → s.boot.wait ≠ .train → s.boot.wait ≠ .request → t.boot = s.boot)
          ∧ (s.boot.wait = .measure ∨ s.boot.wait = .train ∨ s.boot.wait = .request → t.boot.wait = .ford
            ∧ (s.boot.phase = .verifying → t.boot = { s.boot with wait := .ford })
            ∧ (s.boot.phase ≠ .verifying → t.boot.phase = .waiting ∧ t.boot.img = [] ∧ t.boot.got = 0
              ∧ t.boot.source = none ∧ t.boot.error = 0x09#8)))
      ∧ (inReset s = false → s.dev.mode = .loaded ∨ s.dev.mode = .calibrate ∨ s.dev.mode = .idle ∨ s.dev.mode = .armed
          ∨ s.dev.mode = .run ∨ s.dev.mode = .pause ∨ s.dev.mode = .diagnostic →
          t.dev.mode = .bypass ∧ t.boot = s.boot ∧ (s.boot.reported = true → t.dev.armedMap = [] ∧ t.dev.siteEnable = 0)))
    ∧ (∀ s : State, Completes .fordCloseNRise s [.power, .clock, .hw, .boot, .mbs, .fabric, .svc, .free] fun t =>
        t.power.fordPinLow = false ∧ t.dev = s.dev
        ∧ (inReset s = false → s.dev.mode = .boot → s.boot.wait = .ford → s.clock.refOk = true →
          t.power.fordClosed = false ∧ t.boot = { s.boot with wait := .measure })
        ∧ (¬ (inReset s = false ∧ s.dev.mode = .boot ∧ s.boot.wait = .ford ∧ s.clock.refOk = true) →
          t = { s with power := { s.power with fordPinLow := false } }))

/-- The stages of a Trellis boot follow one another. In BOOT, outside reset, each event takes the boot from the stage it
waits in to the next: BOOT_REF_VALID, in the wait that ERROR NO_REF tells of, makes HWREF valid and goes on from that
step: the lock at M = 80.0, the rails, or the measurement once FORD_CLOSE_N is high; BOOT_RAIL_READY with HWREF valid
goes on to PD4, and without it nothing goes on; BOOT_RATE_MEASURED with a legal M and a valid HWREF trains all four
ports, at the present lock point or, where M is more than 0.2 % from it, after a relock; BOOT_RATE_TIMEOUT keeps M and
trains them; BOOT_TRAIN_TIMEOUT of a locked device returns to the measurement with no port in training; without HWREF,
or a lock, they change nothing; BOOT_REQUEST_TIMER puts a request on every port that is up and changes nothing but the
fabric; BOOT_SOURCE_SILENT discards the download with ERROR 7; BOOT_RESTART with RESTART set discards it without
error. [derived: R67; R71; R70; R328.] -/
def Obligations.TrellisBootGoesOn : Prop :=
  (∀ s : State, s.dev.mode = .boot → inReset s = false →
      (s.boot.wait ≠ .none → s.boot.wait ≠ .strap → s.boot.error = 0x06#8 →
        Completes .bootRefValid s [.power, .units, .clock, .hw, .boot, .mbs, .fabric, .svc, .free] fun t => t.clock.refOk = true
          ∧ (s.boot.wait = .ref → t.boot.wait = .lock ∧ t.clock.relocking = true ∧ t.clock.lockTarget = 0x5000000#28)
          ∧ (s.boot.wait = .ford → t.boot.wait = if s.power.fordPinLow then .ford else .measure)
          ∧ (s.boot.wait = .lock ∨ s.boot.wait = .measure ∨ s.boot.wait = .train ∨ s.boot.wait = .request → t.boot = s.boot))
      ∧ (s.boot.wait = .rail → s.clock.refOk = true → Completes .bootRailReady s [.power, .units, .clock, .hw, .boot, .mbs, .fabric, .svc, .free] fun t =>
        t.power.rails.getLsbD 9 = true ∧ t.power.rails.getLsbD 10 = true ∧ t.boot.wait ≠ .rail)
      ∧ (s.clock.refOk = false → Idle .bootRailReady s)
      ∧ (∀ m : BitVec 28, s.boot.wait = .measure → s.clock.refOk = true → mLegal m.toNat = true →
        Completes (.bootRateMeasured m) s [.clock, .hw, .boot, .mbs, .fabric, .svc, .free] fun t => t.boot = { s.boot with wait := .train }
          ∧ (withinStep s.clock.mLock.toNat m.toNat = true → TabWf {} s.fabric.ports →
              t.clock = s.clock ∧ ∀ p, p < 4 → (portOf t p).st = .training)
          ∧ (withinStep s.clock.mLock.toNat m.toNat = false → t.clock.relocking = true ∧ t.clock.lockTarget = m))
      ∧ (s.boot.wait = .measure → s.clock.refOk = true → TabWf {} s.fabric.ports →
        Completes .bootRateTimeout s [.boot, .mbs, .fabric, .svc, .free] fun t => t.boot = { s.boot with wait := .train }
          ∧ t.clock = s.clock ∧ ∀ p, p < 4 → (portOf t p).st = .training)
      ∧ (s.boot.wait = .measure → s.clock.refOk = false →
        (∀ m, Idle (.bootRateMeasured m) s) ∧ Idle .bootRateTimeout s)
      ∧ (s.boot.wait = .train → s.clock.locked = true → TabWf {} s.fabric.ports →
        Completes .bootTrainTimeout s [.power, .clock, .hw, .boot, .mbs, .fabric, .svc, .free] fun t => t.boot = { s.boot with wait := .measure }
          ∧ ∀ p, p < 4 → (portOf t p).st ≠ .training)
      ∧ (s.boot.wait = .train → s.clock.locked = false → Idle .bootTrainTimeout s)
      ∧ (s.boot.wait = .request → s.boot.phase = .waiting ∨ s.boot.phase = .failed → TabWf {} s.fabric.ports →
        Completes .bootRequestTimer s [.fabric] fun t => ∀ p, p < 4 → portUp (portOf s p) = true →
          (∃ e, e ∈ (portOf t p).waiting ∧ e.2.cls = 0x50#8) ∨ ∃ r, r ∈ (portOf t p).replay ∧ r.2.2.cls = 0x50#8)
      ∧ (s.boot.phase = .receiving → s.boot.source.isSome = true → Completes .bootSourceSilent s [.boot] fun t =>
        t.boot.error = 0x07#8 ∧ t.boot.phase = .waiting ∧ t.boot.img = [] ∧ t.boot.source = none)
      ∧ (∀ v : Word, v.getLsbD 0 = true → Completes (.bootRestart v) s [.boot] fun t =>
        t.boot.phase = .waiting ∧ t.boot.img = [] ∧ t.boot.got = 0 ∧ t.boot.error = s.boot.error))

/-- The digest starts the Cellar or fails the image, and Spabry's report ends the boot. At BOOT_DIGEST_DONE with an image
received, a digest that agrees starts the Cellar with the body of the image in the active bank (the entry named
startCellar), and one that does not counts the attempt, sets ERROR 5 and PHASE FAILED, and the device stays in BOOT.
At BOOT_REPORT every open item of a host ends FAILED:RESET, one of Spabry's own is retired besides (R95), and the run
watchdog takes over. [derived: R69; R72; R73; R74; R95.] -/
def Obligations.ImageStartsOrFails : Prop :=
  (∀ s : State, s.dev.mode = .boot → s.boot.phase = .verifying → inReset s = false →
      (digestOk (bootBytes s (imageLen s)) = true → exec .bootDigestDone s = .next (startCellar s))
      ∧ (digestOk (bootBytes s (imageLen s)) = false → Completes .bootDigestDone s [.boot, .fabric] fun t =>
        t.boot.phase = .failed ∧ t.boot.error = 0x05#8 ∧ t.boot.img = [] ∧ t.boot.running = s.boot.running
          ∧ t.boot.attempts = (if s.boot.attempts = BitVec.allOnes 8 then s.boot.attempts else s.boot.attempts + 1)))
    ∧ (∀ s : State, s.power.fordPinLow = false → Touch [.power, .dev, .units, .hw, .boot, .mbs, .ledger, .order, .dacs, .chans, .pebs, .bursts, .seqs, .tdcs, .acqs, .dps, .resvs, .lanes, .queues, .dmas, .fabric, .press, .levee, .svc, .mem, .free] s (startCellar s)
        ∧ (startCellar s).boot.running = true ∧ (startCellar s).boot.reported = false ∧ (startCellar s).dev.mode = .loaded
        ∧ (startCellar s).boot.phase = .started ∧ (startCellar s).levee.dogBoot = true
        ∧ (startCellar s).boot.bank0 = (bootBytes s (imageLen s)).drop 128)
    ∧ (∀ s : State, s.boot.running = true → s.boot.reported = false → s.dev.mode = .loaded ∨ s.dev.mode = .bypass →
      Completes .bootReport s [.boot, .mbs, .ledger, .fabric, .levee, .free] fun t =>
        t.boot.reported = true ∧ t.levee.dogBoot = false ∧ t.levee.dogRun = true ∧ t.dev.mode = s.dev.mode
          ∧ (TabWf {} s.ledger → ∀ i, openSlot (slotOf s i) = true →
            ((slotOf s i).own = false →
              (slotOf t i).st = .failed ∧ (slotOf t i).reason = 3#8 ∧ (slotOf t i).tEnd = stamp s)
            ∧ ((slotOf s i).own = true → (slotOf t i).st = .free)))

/-- A loss stops the timing clocks at once, and a valid HWREF begins the relock. Outside reset, REF_LOSS_DETECTED while
locked, or during a requested relock of a device that has been locked, leaves the clocks on the bypass oscillator,
unlocked and lost, with M_LOCK kept, and REF_OK cleared unless the cause is the lock detector. Outside CALIBRATE, with
no item in flight and no bypass pending, every PEB, every lane group and the TDC array are then OFFLINE, Headwater
coasts where its count runs, and the loss is counted. With no lock to lose nothing stops: a loss of the reference is
counted and ends a running relock after a loss, and a Trellis boot that waits takes ERROR NO_REF; one the lock
detector finds changes nothing. RELOCK_START after a loss sets REF_OK and begins the relock toward the same target,
Headwater coasting; without a loss it only sets REF_OK. DELAY_LINE_LOCKED, once after a lock, marks the delay lines
locked and returns each unit that the loss took OFFLINE to ACTIVE, unless it has a CONTAINED record open, is in
MAINTENANCE or is to switch off; it concerns no other unit. Otherwise, and for the other two in reset, nothing
changes. [derived: R45; R46; R48; R49; R67.] -/
def Obligations.LossOfReferenceStopsTheClocks : Prop :=
  (∀ s : State, inReset s = true → (∀ cause, Idle (.refLossDetected cause) s) ∧ Idle .relockStart s)
    ∧ (∀ s : State, ¬ (s.clock.locked = true ∧ s.clock.delayLocked = false) → Idle .delayLineLocked s)
    ∧ (∀ (cause : LossCause) (s : State), inReset s = false →
      s.clock.locked = true ∨ (s.clock.relocking = true ∧ s.clock.lost = false ∧ s.clock.mLock ≠ 0) →
      Completes (.refLossDetected cause) s [.power, .dev, .units, .clock, .hw, .boot, .mbs, .ledger, .order, .dacs, .chans, .pebs, .bursts, .seqs, .tdcs, .acqs, .dps, .resvs, .lanes, .queues, .dmas, .fabric, .press, .house, .levee, .svc, .mem, .free] fun t =>
        t.clock.locked = false ∧ t.clock.onBypass = true ∧ t.clock.lost = true ∧ t.clock.relocking = false
          ∧ t.clock.stepActive = false ∧ t.clock.delayLocked = false ∧ t.clock.mLock = s.clock.mLock
          ∧ t.clock.refOk = (s.clock.refOk && cause = .lock)
          ∧ (s.dev.mode ≠ .calibrate → s.power.bypassPend = false → (∀ i, inFlight (slotOf s i) = false) → TabWf {} s.units →
            (∀ u, u ∈ allUnits → clockedUnit u = true → unitState t u = .offline)
              ∧ t.hw.status = (if s.hw.running then .coast else s.hw.status)
              ∧ t.hw.lossCount = (if s.hw.lossCount = BitVec.allOnes 32 then s.hw.lossCount else s.hw.lossCount + 1)))
    ∧ (∀ (cause : LossCause) (s : State), inReset s = false →
      ¬ (s.clock.locked = true ∨ (s.clock.relocking = true ∧ s.clock.lost = false ∧ s.clock.mLock ≠ 0)) →
      (cause = .lock → Idle (.refLossDetected cause) s)
      ∧ (cause ≠ .lock → Completes (.refLossDetected cause) s [.power, .dev, .units, .clock, .hw, .boot, .mbs, .ledger, .order, .dacs, .chans, .pebs, .bursts, .seqs, .tdcs, .acqs, .dps, .resvs, .lanes, .queues, .dmas, .fabric, .press, .house, .levee, .svc, .mem, .free] fun t =>
        t.clock = { s.clock with refOk := false, relocking := s.clock.relocking && ! s.clock.lost }
          ∧ (s.dev.mode = .boot → s.boot.wait ≠ .none → s.boot.wait ≠ .strap → t.boot.error = 0x06#8)
          ∧ (s.dev.mode ≠ .boot → t.boot = s.boot)))
    ∧ (∀ s : State, inReset s = false → s.clock.lost = true → s.clock.relocking = false →
      Completes .relockStart s [.clock, .hw, .mbs, .fabric, .svc, .free] fun t =>
        t.clock.refOk = true ∧ t.clock.relocking = true ∧ t.clock.lockTarget = s.clock.lockTarget ∧ t.clock.lost = true
          ∧ t.hw.status = (if s.hw.running then .coast else s.hw.status) ∧ t.hw.slew = 0 ∧ t.hw.count = s.hw.count)
    ∧ (∀ s : State, inReset s = false → ¬ (s.clock.lost = true ∧ s.clock.relocking = false) →
      Completes .relockStart s [.clock, .mbs, .fabric, .svc, .free] fun t => t.clock = { s.clock with refOk := true })
    ∧ (∀ s : State, s.clock.locked = true → s.clock.delayLocked = false →
      Completes .delayLineLocked s [.units, .clock, .mbs, .fabric, .svc, .free] fun t => t.clock = { s.clock with delayLocked := true }
        ∧ (TabWf {} s.units → ∀ u, u ∈ allUnits →
          ((unitOf s u).lossOff = false → unitOf t u = unitOf s u)
          ∧ ((unitOf s u).lossOff = true → unitState s u ≠ .maintenance → containedOpen s u = false →
            offOrdered s u = false → unitState t u = .active ∧ (unitOf t u).lossOff = false)))

/-- The ADPLL locks at its target, which becomes M_LOCK. ADPLL_LOCK_COMPLETE with a lock under way, PD1 on, HWREF valid
and no reset ends the relock: the clocks leave the bypass oscillator, and M_LOCK and M are the target. Where no step
of M is due, CLOCK_STEP_REACHED changes nothing; else it ends the step with M at its target, and every BURST that
plays will reset its phase. [derived: R40; R44; R49; R50.] -/
def Obligations.LockCompletesAtTheTarget : Prop :=
  (∀ s : State, lockReady s = true → Completes .adpllLockComplete s [.power, .dev, .units, .clock, .hw, .boot, .mbs, .ledger, .order, .dacs, .chans, .pebs, .bursts, .seqs, .tdcs, .acqs, .dps, .resvs, .lgs, .lanes, .queues, .dmas, .fabric, .press, .levee, .svc, .mem, .free] fun t =>
      t.clock.locked = true ∧ t.clock.relocking = false ∧ t.clock.onBypass = false ∧ t.clock.lost = false
        ∧ t.clock.mLock = s.clock.lockTarget ∧ t.clock.mNow = s.clock.lockTarget)
    ∧ (∀ s : State, lockReady s = false → Idle .adpllLockComplete s)
    ∧ (∀ s : State, s.clock.stepActive = true → TabWf {} s.bursts →
      Completes .clockStepReached s [.clock, .bursts, .mbs, .fabric, .svc, .free] fun t =>
        t.clock = { s.clock with stepActive := false, mNow := s.clock.stepTarget }
          ∧ ∀ i, burstOf t i = if playing (burstOf s i) then { burstOf s i with phaseArm := true } else burstOf s i)
    ∧ (∀ s : State, s.clock.stepActive = false → Idle .clockStepReached s)

/-- HWSYNC pulses align the Headwater and pass down a chain. With the count running, a sync mode of 1 or 2, no epoch
waiting to be sent, and status ACQUIRING or SYNCED, HWSYNC_PULSE records the deviation from the aligned count. In
ACQUIRING it moves the count to the aligned count and enters SYNCED if an epoch has been received, and else changes
neither. In SYNCED it clears SYNC_WARN and slews a deviation of at most 256 LSB away, or returns to ACQUIRING. In mode
3 CHAIN_MASTER_PULSE enters SYNCED, at the epoch received if there is one. With the Ford open a chain slave (mode 2)
and the chain master drive HWSYNC_OUT at the count that then stands; mode 1, and a device that its closed Ford
crosses, drives none. An epoch that waited for the pulse is broadcast after it, and the device takes it too. A pulse
in another mode or status changes nothing. SYNC_PULSE_MISSING in SYNCED sets SYNC_WARN, and else nothing. [derived:
R410; R52; R53; R54; R57.] -/
def Obligations.SyncPulsesAlignTheHeadwater : Prop :=
  (∀ s : State, s.hw.running = true → s.hw.syncMode = 1 ∨ s.hw.syncMode = 2 → s.hw.epochOut = none →
      let drives := s.power.fordClosed = false ∧ s.hw.syncMode = 2
      (s.hw.status = .acquiring → s.hw.epochSeen = false →
        Completes .hwsyncPulse s [.hw, .clock, .tdcs, .mbs, .fabric, .svc, .free] fun t =>
          t.clock = s.clock ∧ t.tdcs = s.tdcs ∧ t.hw = { s.hw with
            errLast := BitVec.ofInt 16 (clampTo (-32767) 32767 (s.hw.count - alignedCount s).toInt)
            pulse := some s.hw.count, syncOut := if drives then some s.hw.count else s.hw.syncOut })
      ∧ (s.hw.status = .acquiring → s.hw.epochSeen = true →
        Completes .hwsyncPulse s [.hw, .clock, .tdcs, .mbs, .fabric, .svc, .free] fun t =>
          t.clock = s.clock ∧ t.hw.count = alignedCount s ∧ t.hw.status = .synced ∧ t.hw.epoch = none ∧ t.hw.slew = 0
            ∧ t.hw.syncOut = (if drives then some (alignedCount s) else s.hw.syncOut))
      ∧ (s.hw.status = .synced →
        Completes .hwsyncPulse s [.hw, .clock, .tdcs, .mbs, .fabric, .svc, .free] fun t =>
          t.clock = { s.clock with syncWarn := false } ∧ t.hw.count = s.hw.count ∧ t.hw.epoch = none
            ∧ t.hw.syncOut = (if drives then some s.hw.count else s.hw.syncOut)
            ∧ ((s.hw.count - alignedCount s).toInt.natAbs ≤ 256 →
                t.hw.status = .synced ∧ t.hw.slew = -(s.hw.count - alignedCount s).toInt)
            ∧ (256 < (s.hw.count - alignedCount s).toInt.natAbs → t.hw.status = .acquiring ∧ t.hw.slew = 0)))
    ∧ (∀ s : State, s.hw.running = true → s.hw.syncMode = 3 → s.hw.status = .acquiring ∨ s.hw.status = .synced →
      s.hw.epochOut = none →
      Completes .chainMasterPulse s [.hw, .clock, .tdcs, .mbs, .fabric, .svc, .free] fun t =>
        t.clock = s.clock ∧ t.hw.status = .synced ∧ t.hw.epoch = none ∧ t.hw.count = s.hw.epoch.getD s.hw.count
          ∧ t.hw.syncOut = (if s.power.fordClosed then s.hw.syncOut else some t.hw.count))
    ∧ (∀ (c : Instr) (e : Count) (s : State), s.hw.running = true → s.hw.status = .acquiring ∨ s.hw.status = .synced →
      s.hw.epochOut = some e →
      (c = .hwsyncPulse ∧ (s.hw.syncMode = 1 ∨ s.hw.syncMode = 2)) ∨ (c = .chainMasterPulse ∧ s.hw.syncMode = 3) →
      Completes c s [.hw, .clock, .tdcs, .mbs, .fabric, .svc, .free] fun t =>
        t.hw.epochOut = none ∧ t.hw.epoch = some e ∧ t.hw.epochSeen = true)
    ∧ (∀ s : State, ¬ (s.hw.running = true ∧ (s.hw.status = .acquiring ∨ s.hw.status = .synced)) →
      Idle .hwsyncPulse s ∧ Idle .chainMasterPulse s)
    ∧ (∀ s : State, (s.hw.syncMode ≠ 1 → s.hw.syncMode ≠ 2 → Idle .hwsyncPulse s)
      ∧ (s.hw.syncMode ≠ 3 → Idle .chainMasterPulse s))
    ∧ (∀ s : State, s.hw.running = true → s.hw.status = .synced →
      Completes .syncPulseMissing s [.clock, .mbs, .fabric, .svc, .free] fun t => t.clock = { s.clock with syncWarn := true })
    ∧ (∀ s : State, ¬ (s.hw.running = true ∧ s.hw.status = .synced) → Idle .syncPulseMissing s)

/-- A domain past its ready time is on, and one whose switch has opened is off. Outside reset, DOMAIN_READY of a domain
whose switch has closed sets its PD_STATUS bit. DOMAIN_SWITCH_OPENED of a domain that may open (nothing on depends on
it, its unit is OFFLINE or power-cycled, its DPS channels are discharged) clears its PD_STATUS bit.
LPDDR_TRAINING_DONE with PD11 on makes local memory available with nothing in it written. In any other state each of
the three changes nothing. [derived: R31; R32; R33; R409; R412.] -/
def Obligations.DomainsComeOnAndGoOff : Prop :=
  (∀ (pd : Nat) (balls : List (Nat × Int)) (s : State), pd < 32 → s.power.pdRise.getLsbD pd = true → inReset s = false →
      Completes (.domainReady pd balls) s [.power, .dev, .units, .clock, .hw, .boot, .mbs, .ledger, .order, .dacs, .chans, .pebs, .bursts, .seqs, .tdcs, .acqs, .dps, .resvs, .lanes, .queues, .dmas, .fabric, .press, .levee, .svc, .mem, .free] fun t => t.power.pdOn = s.power.pdOn ||| bit32 pd)
    ∧ (∀ (pd : Nat) (s : State), ¬ (pd < 32 ∧ s.power.pdRise.getLsbD pd = true ∧ inReset s = false) →
      ∀ balls, Idle (.domainReady pd balls) s)
    ∧ (∀ (pd : Nat) (s : State), ¬ (pd < 32 ∧ mayOpen s pd = true ∧ inReset s = false) → Idle (.domainSwitchOpened pd) s)
    ∧ (∀ (pd : Nat) (s : State), pd < 32 → mayOpen s pd = true → inReset s = false →
      Completes (.domainSwitchOpened pd) s [.power, .units, .clock, .hw, .mbs, .dacs, .chans, .pebs, .acqs, .dps, .lanes, .queues, .dmas, .bufFree, .fabric, .levee, .svc, .mem, .free] fun t => t.power.pdOn = s.power.pdOn &&& ~~~bit32 pd)
    ∧ (∀ (mib : Nat) (s : State), s.power.pdOn.getLsbD 11 = true → s.mem.avail = false → s.dev.mode ≠ .safe →
      exec (.lpddrTrainingDone mib) s = .next { s with mem := { avail := true, mib := mib } })
    ∧ (∀ (mib : Nat) (s : State), ¬ (s.power.pdOn.getLsbD 11 = true ∧ s.mem.avail = false ∧ s.dev.mode ≠ .safe) →
      Idle (.lpddrTrainingDone mib) s)

/-- MSP_READ and MSP_READ_SLOW shift out the words at an address and touch only the port and the HW_TIME snapshot. Outside
power-on reset and with no master unit or held select, a READ or READ_SLOW frame of 1 to 16 words from an aligned
address shifts MSP_STATUS out during its header and then the words that the registers hold (all of them, where the
frame is whole and no word is late), sets FRAME where the select rose early, OVERCLOCK where clocks followed the last
word, BADADDR where a word lies outside the map, and UNDERRUN where a word was late. A misaligned address sets BADOP
and shifts nothing. Nothing but the port's flags and HW_TIME's latches changes. [derived: R383; R384; R385; R386;
R388; R391.] -/
def Obligations.ReadFramesShiftRegisterWords : Prop :=
  ∀ (addr : BitVec 24) (n late shifted : Nat) (extra : Bool) (s : State) (c : Instr),
    c = .mspRead addr n late shifted extra ∨ c = .mspReadSlow addr n late shifted extra →
    s.power.porHeld = false → mbusy s = false → 1 ≤ n → n ≤ 16 →
    let u := { s with msp := { s.msp with header := mspStatus s } }
    (addr.toNat % 4 = 0 → Completes c s [.msp, .hw] fun t =>
      (late = 0 → n ≤ shifted → t.msp.out = (readWords n u .msp addr.toNat).1)
        ∧ t.msp.header = mspStatus s ∧ t.msp.out.length = min n shifted
        ∧ t.msp.badAddr = (s.msp.badAddr || ! allMapped u addr.toNat n) ∧ t.msp.badOp = s.msp.badOp
        ∧ t.msp.overclock = (s.msp.overclock || (extra && decide (n ≤ shifted)))
        ∧ t.msp.frame = (s.msp.frame || decide (shifted < n))
        ∧ t.msp.underrun = (s.msp.underrun || decide (late % 2 ^ min n shifted ≠ 0))
        ∧ t.hw.count = s.hw.count)
    ∧ (addr.toNat % 4 ≠ 0 → exec c s = .next { u with msp := { u.msp with out := [], badOp := true } })

/-- MSP_WRITE commits its words as one unit, or nothing. Outside power-on reset and with no master unit or held select, a
WRITE frame of 1 to 16 words at an aligned address whose words all lie in the map is carried out word by word and sets
OVERCLOCK where clocks followed; one word has the effect of REGISTER_WRITE at its address, and a frame that clears
MSP_STATUS bits never clears the flag it raises itself. Cut short it commits nothing and sets FRAME; with a word
outside the map it commits nothing and sets BADADDR; at a misaligned address it commits nothing and sets BADOP. A
reserved opcode commits nothing and sets BADOP. [derived: R382; R383; R384; R386; R389; R392.] -/
def Obligations.WriteFramesCommitWhole : Prop :=
  ∀ (addr : BitVec 24) (ws : List Word) (extra : Bool) (s : State), s.power.porHeld = false → mbusy s = false →
    ws ≠ [] → ws.length ≤ 16 →
    let u := { s with msp := { s.msp with header := mspStatus s, out := [] } }
    (addr.toNat % 4 = 0 → allMapped u addr.toNat ws.length = true →
      exec (.mspWrite addr ws false extra) s = .next (raiseFlags (writeWords u addr.toNat ws) false false extra false false))
    ∧ (∀ v : Word, addr.toNat % 4 = 0 → allMapped u addr.toNat 1 = true →
      exec (.mspWrite addr [v] false false) s = exec (.registerWrite addr v) u)
    ∧ (∀ v : Word, Completes (.mspWrite 0x60#24 [v] false true) s [.msp] fun t =>
      t.msp.overclock = true ∧ t.msp.frame = (s.msp.frame && ! v.getLsbD 1) ∧ t.msp.badOp = (s.msp.badOp && ! v.getLsbD 3)
        ∧ t.msp.badAddr = (s.msp.badAddr && ! v.getLsbD 4) ∧ t.msp.contention = (s.msp.contention && ! v.getLsbD 5)
        ∧ t.msp.underrun = (s.msp.underrun && ! v.getLsbD 0) ∧ t.msp.header = mspStatus s)
    ∧ (addr.toNat % 4 = 0 → allMapped u addr.toNat ws.length = false → exec (.mspWrite addr ws false extra) s
        = .next { u with msp := { u.msp with badAddr := true, overclock := u.msp.overclock || extra } })
    ∧ (addr.toNat % 4 = 0 → exec (.mspWrite addr ws true extra) s = .next { u with msp := { u.msp with frame := true } })
    ∧ (addr.toNat % 4 ≠ 0 → ∀ cut, exec (.mspWrite addr ws cut extra) s
        = .next { u with msp := { u.msp with badOp := true } })
    ∧ (∀ op : Byte, 0x30 < op.toNat ∨ addr.toNat % 4 ≠ 0 → exec (.mspReservedOpcode op addr) s
        = .next { u with msp := { u.msp with badOp := true } })

/-- MSP_STREAM is taken at the boot window in BOOT and nowhere else. Outside reset and with no master unit or held select,
a STREAM frame at the boot window in BOOT adds its bytes to the download, byte by byte, where BOOT_SRC selects the
port; with another BOOT_SRC they are dropped (model's choice, log 45). A byte that starts a download sets PHASE
RECEIVING and is byte 0. Any other aligned address, or any mode but BOOT, sets BADADDR and stores nothing; FRAME tells
of a last word cut short. [derived: R386; R70; log 45.] -/
def Obligations.StreamFramesFeedTheDownload : Prop :=
  (∀ (ws : List Word) (cut : Bool) (s : State), s.power.porHeld = false → s.power.warmHeld = false → mbusy s = false →
      s.dev.mode = .boot →
      let u := { s with msp := { s.msp with header := mspStatus s, out := [] } }
      (s.power.src = 0#2 → exec (.mspStream 0x100000#24 ws cut) s
        = .next (raiseFlags ((ws.flatMap wordBytes).foldl streamByte u) false false false cut false))
      ∧ (s.power.src ≠ 0#2 → exec (.mspStream 0x100000#24 ws cut) s
        = .next { u with msp := { u.msp with frame := u.msp.frame || cut } }))
    ∧ (∀ (addr : BitVec 24) (ws : List Word) (cut : Bool) (s : State), s.power.porHeld = false → mbusy s = false →
      addr.toNat % 4 = 0 → addr ≠ 0x100000#24 ∨ s.dev.mode ≠ .boot ∨ s.power.warmHeld = true →
      exec (.mspStream addr ws cut) s
        = .next { s with msp := { s.msp with
            header := mspStatus s, out := [], badAddr := true, frame := s.msp.frame || cut } })
    ∧ (∀ (b : Byte) (s : State), s.boot.phase = .waiting ∨ s.boot.phase = .failed →
      (streamByte s b).boot.phase = .receiving ∧ (streamByte s b).boot.got = 1 ∧ tget 0 (streamByte s b).boot.img 0 = b
        ∧ (streamByte s b).boot.error = 0#8)

/-- A master unit starts by MSP_MCTRL, ends with its word, and yields to a slave select. A write of MSP_MCTRL with START
while no unit runs takes over the settings and runs a unit, or with CS 0 ends at once with NO_SELECT; while a unit
runs it acts on MDONE alone. The end of a unit sets MDONE, clears MERR, holds the select where HOLD_CS asks for it and
keeps the LEN + 1 lowest bits received (LEN 0 to 2 act as 3), those of MSP_MTX having been shifted out. A slave select
while a unit runs or a select is held ends the unit with MERR CONTENTION and sets the flag; the frame itself is
ignored, and MSP_MRX is then an open value (log 13). [derived: R387; R388; log 44.] -/
def Obligations.MasterUnitsRunAndContend : Prop :=
  (∀ (v : Word) (s : State), s.power.porHeld = false → s.msp.unit = false →
      Completes (.mspMasterStart v) s [.msp] fun t =>
        t.msp.len = ((v >>> 16).setWidth 5).toNat ∧ t.msp.cs = ((v >>> 24).setWidth 2).toNat
          ∧ t.msp.div = ((v >>> 8).setWidth 8).toNat ∧ t.msp.holdCs = v.getLsbD 27 ∧ t.msp.mode3 = v.getLsbD 26
          ∧ t.msp.mtx = s.msp.mtx
          ∧ (v.getLsbD 31 = true → t.msp.cs ≠ 0 → t.msp.unit = true)
          ∧ (v.getLsbD 31 = true → t.msp.cs = 0 → t.msp.unit = false ∧ t.msp.mdone = true ∧ t.msp.merr = 2)
          ∧ (v.getLsbD 31 = false → t.msp.unit = false ∧ t.msp.merr = s.msp.merr))
    ∧ (∀ (v : Word) (s : State), s.power.porHeld = false → s.msp.unit = true →
      exec (.mspMasterStart v) s = .next { s with msp := { s.msp with mdone := s.msp.mdone && ! v.getLsbD 30 } })
    ∧ (∀ (x : Word) (s : State), s.msp.unit = true → exec (.mspMasterUnitEnd x) s = .next { s with msp := { s.msp with
        unit := false, selHeld := s.msp.holdCs, mdone := true, merr := 0
        mrx := BitVec.ofNat 32 (x.toNat % 2 ^ (max 3 s.msp.len + 1))
        sent := BitVec.ofNat 32 (s.msp.mtx.toNat % 2 ^ (max 3 s.msp.len + 1)) } })
    ∧ (∀ (c : Instr) (s : State), mbusy s = true → s.power.porHeld = false →
      (c = .contention ∨ (∃ a n l k x, c = .mspRead a n l k x) ∨ (∃ a n l k x, c = .mspReadSlow a n l k x)
        ∨ (∃ a ws k x, c = .mspWrite a ws k x) ∨ (∃ a ws k, c = .mspStream a ws k) ∨ (∃ o a, c = .mspReservedOpcode o a)) →
      Completes c s [.msp, .free] fun t => t.msp.contention = true ∧ t.msp.unit = false ∧ t.msp.selHeld = false
        ∧ t.msp.mdone = true ∧ t.msp.merr = 1 ∧ t.msp.out = s.msp.out ∧ t.msp.header = s.msp.header ∧ t.msp.mtx = s.msp.mtx)

/-- Writes to the mailbox registers move the ring indices or raise a flag. Outside reset, for mailboxes whose window
serves them (MB3, and MB0 with PATH 0): a doorbell write moves REQ_HEAD forward by entries the ring has room for, and
else keeps it and sets DB_OVERRUN; a write of RSP_TAIL moves it over entries that stand in the ring, and else keeps it
and sets TAIL_ERR; a write to a free request entry stores the word, and one to an entry that holds a request, or on a
mailbox its window does not serve, stores nothing and sets ENTRY_BLOCKED. MB0_PATH_CHANGE takes effect while MB0's
request ring is empty and changes nothing else there. [derived: R79; R80; R81.] -/
def Obligations.MailboxRegistersFollowTheirRules : Prop :=
  (∀ (n : Nat) (v : Word) (s : State), inReset s = false → n < 4 → TabWf {} s.mbs → windowServes s n = true → n ≠ 0 →
      Completes (.mbDoorbellWrite n v) s [.mbs] fun t =>
        let b := mbOf s n
        let h : BitVec 9 := v.setWidth 9
        (mbOf t n).reqTail = b.reqTail
          ∧ (mbOf t n).reqHead = (if occupancy h b.reqTail ≤ 256 ∧ occupancy b.reqHead b.reqTail ≤ occupancy h b.reqTail
              then h else b.reqHead)
          ∧ (h ≠ b.reqHead → ¬ (occupancy h b.reqTail ≤ 256 ∧ occupancy b.reqHead b.reqTail ≤ occupancy h b.reqTail) →
              (mbOf t n).dbOverrun = true)
          ∧ ∀ k, k ≠ n → mbOf t k = mbOf s k)
    ∧ (∀ (v : Word) (s : State), inReset s = false → TabWf {} s.mbs → windowServes s 0 = true → v.getLsbD 29 = false →
      Completes (.mbDoorbellWrite 0 v) s [.mbs] fun t =>
        let b := mbOf s 0
        let h : BitVec 9 := v.setWidth 9
        (mbOf t 0).reqTail = b.reqTail ∧ (mbOf t 0).path = false
          ∧ (mbOf t 0).reqHead = (if occupancy h b.reqTail ≤ 256 ∧ occupancy b.reqHead b.reqTail ≤ occupancy h b.reqTail
              then h else b.reqHead))
    ∧ (∀ (n : Nat) (v : Word) (s : State), inReset s = false → n < 4 → TabWf {} s.mbs → windowServes s n = true →
      Completes (.rspTailWrite n v) s [.mbs] fun t =>
        let b := mbOf s n
        let x : BitVec 9 := (v >>> 16).setWidth 9
        (mbOf t n).rspHead = b.rspHead
          ∧ (mbOf t n).rspTail = (if (x - b.rspTail).toNat ≤ occupancy b.rspHead b.rspTail then x else b.rspTail)
          ∧ (occupancy b.rspHead b.rspTail < (x - b.rspTail).toNat → (mbOf t n).tailErr = true))
    ∧ (∀ (n e k : Nat) (v : Word) (s : State), inReset s = false → n < 4 → e < 256 → k < 16 → TabWf {} s.mbs →
      TabWf 0 (mbOf s n).req →
      Completes (.requestEntryWrite n e k v) s [.mbs] fun t =>
        (windowServes s n = true → entryFree (mbOf s n) e = true →
          msgWord (tget 0 (mbOf t n).req e) k = v ∧ (mbOf t n).entryBlocked = (mbOf s n).entryBlocked
            ∧ ∀ j, j < 16 → j ≠ k → msgWord (tget 0 (mbOf t n).req e) j = msgWord (tget 0 (mbOf s n).req e) j)
        ∧ (¬ (windowServes s n = true ∧ entryFree (mbOf s n) e = true) →
          (mbOf t n).req = (mbOf s n).req ∧ (mbOf t n).entryBlocked = true))
    ∧ (∀ (p : Bool) (s : State), inReset s = false → TabWf {} s.mbs → (mbOf s 0).reqHead = (mbOf s 0).reqTail →
      (mbOf s 0).rspHead = (mbOf s 0).rspTail →
      Completes (.mb0PathChange p) s [.mbs, .fabric] fun t => mbOf t 0 = { mbOf s 0 with path := p })
    ∧ (∀ (p : Bool) (s : State), (mbOf s 0).reqHead ≠ (mbOf s 0).reqTail → Idle (.mb0PathChange p) s)

/-- A register write acts by its address, and addresses that take none change nothing. Outside power-on reset a write to
an aligned address that is no writable register (BOOT_STATUS, BOOT_CTRL, RST_CTRL, MSP_STATUS, MSP_MCTRL, MSP_MTX, the
mailbox registers, LEVEE_ACK, LEVEE_CTRL, the request entries) changes nothing; MSP_MTX takes the word while no unit
runs; MSP_STATUS clears the flags written 1. A read of HW_TIME_LO keeps bits 63 to 32 of the count for its path while
PD2 is on, and zero while it is off. [derived: R389; R391; R364; R390; Table 21.3.] -/
def Obligations.RegisterAccessesFollowTheMap : Prop :=
  (∀ (addr : BitVec 24) (v : Word) (s : State), s.power.porHeld = false → addr.toNat % 4 = 0 →
      ¬ (addr.toNat ∈ [0x24, 0x28, 0x30, 0x60, 0x64, 0x68, 0x208, 0x20C] ∨ (0x100 ≤ addr.toNat ∧ addr.toNat < 0x120)
        ∨ (0x20000 ≤ addr.toNat ∧ addr.toNat < 0x40000 ∧ addr.toNat % 0x8000 < 0x4000)) →
      Idle (.registerWrite addr v) s)
    ∧ (∀ (v : Word) (s : State), s.power.porHeld = false → s.msp.unit = false →
      exec (.registerWrite 0x68#24 v) s = .next { s with msp := { s.msp with mtx := v } })
    ∧ (∀ (v : Word) (s : State), s.power.porHeld = false →
      exec (.registerWrite 0x60#24 v) s = .next { s with msp := { s.msp with
        contention := s.msp.contention && ! v.getLsbD 5, badAddr := s.msp.badAddr && ! v.getLsbD 4
        badOp := s.msp.badOp && ! v.getLsbD 3, overclock := s.msp.overclock && ! v.getLsbD 2
        frame := s.msp.frame && ! v.getLsbD 1, underrun := s.msp.underrun && ! v.getLsbD 0 } })
    ∧ (∀ (p : Path) (s : State), s.power.porHeld = false → Completes (.hwTimeLoRead p) s [.hw] fun t =>
        pathSnap t p = (if s.power.pdOn.getLsbD 2 then (s.hw.count >>> 32).setWidth 32 else 0) ∧ t.hw.count = s.hw.count
          ∧ ∀ q, q ≠ p → pathSnap t q = pathSnap s q)

/-- The self-test that ran in s is over in t: back in IDLE, or on to BYPASS (R59, R61). -/
def testOver (s t : State) : Prop :=
  (s.power.bypassPend = false → t.power = s.power ∧ t.dev = { s.dev with
      testing := false, mode := .idle, prev := .diagnostic, changes := s.dev.changes + 1 })
    ∧ (s.power.bypassPend = true → t.dev.mode = .bypass ∧ t.power.fordClosed = true ∧ t.dev.armedMap = [])

/-- The TAP loads its instructions in every state, and REG_ACCESS carries out one register access. In every state each
JTAG command completes and its code stands in the instruction register; SAMPLE/PRELOAD also takes the boundary cells,
and IDCODE and BYPASS do nothing more. Each of EXTEST, EXTEST_PULSE, EXTEST_TRAIN, CLAMP and HIGHZ ends a self-test
that runs in DIAGNOSTIC, which returns to IDLE, or goes on to BYPASS where the host holds the switches closed; without
one it changes nothing more. REG_ACCESS with operation 1 reads the word at its aligned address, and with operation 2
has the effect of REGISTER_WRITE there; both set DONE and BADADDR. Operations 0 and 3, misaligned addresses and any
access in power-on reset only load the instruction. SELF_TEST_END in DIAGNOSTIC with a self-test running writes the
report at the address that OPC_DIAG_ENTER gave and leaves DIAGNOSTIC as above; at any other time it changes nothing.
[derived: R393; R394; R395; R59; R61; log 46.] -/
def Obligations.TapInstructionsLoad : Prop :=
  (∀ (c : Instr) (code : Byte) (s : State), (c, code) ∈
        [(.extest, 0x00#8), (.clamp, 0x03#8), (.highz, 0x04#8), (.extestPulse, 0x05#8), (.extestTrain, 0x06#8)] →
      Completes c s [.power, .dev, .units, .hw, .mbs, .ledger, .order, .dacs, .chans, .pebs, .bursts, .seqs, .tdcs, .acqs, .dps, .resvs, .lanes, .queues, .dmas, .fabric, .press, .levee, .svc, .mem, .jtag, .free] fun t => t.jtag = { s.jtag with ir := code }
        ∧ (s.dev.mode = .diagnostic → s.dev.testing = true → testOver s t)
        ∧ (¬ (s.dev.mode = .diagnostic ∧ s.dev.testing = true) → t = { s with jtag := { s.jtag with ir := code } }))
    ∧ (∀ s : State, Completes .idcode s [.jtag] (fun t => t.jtag = { s.jtag with ir := 0x02#8 })
      ∧ Completes .bypass s [.jtag] (fun t => t.jtag = { s.jtag with ir := 0xFF#8 })
      ∧ ∀ cells, Completes (.samplePreload cells) s [.jtag] fun t => t.jtag = { s.jtag with ir := 0x01#8, cells := cells })
    ∧ (∀ (a : BitVec 24) (w : Word) (pad : BitVec 6) (s : State), s.power.porHeld = false → a.toNat % 4 = 0 →
      (Completes (.regAccess (1#2 ++ pad ++ a ++ w)) s [.jtag, .hw] fun t =>
        t.jtag = { s.jtag with ir := 0x20#8, data := (registerWord s .jtag a.toNat).getD 0, done := true
                               badAddr := ! mapped s a.toNat })
      ∧ (Completes (.regAccess (2#2 ++ pad ++ a ++ w)) s [.power, .dev, .units, .hw, .boot, .mbs, .ledger, .order, .dacs, .chans, .pebs, .bursts, .seqs, .tdcs, .acqs, .dps, .resvs, .lanes, .queues, .dmas, .fabric, .press, .house, .levee, .svc, .mem, .msp, .jtag, .free] fun t =>
        t.jtag = { s.jtag with ir := 0x20#8, data := w, done := true, badAddr := ! mapped s a.toNat }
          ∧ ∃ v, exec (.registerWrite a w) { s with jtag := { s.jtag with ir := 0x20#8 } } = .next v
            ∧ t = { v with jtag := t.jtag }))
    ∧ (∀ (dr : BitVec 64) (s : State),
      dr.getLsbD 63 = dr.getLsbD 62 ∨ s.power.porHeld = true ∨ dr.getLsbD 32 = true ∨ dr.getLsbD 33 = true →
      exec (.regAccess dr) s = .next { s with jtag := { s.jtag with ir := 0x20#8 } })
    ∧ (∀ (r : List Byte) (s : State), s.dev.mode = .diagnostic → s.dev.testing = true →
      Completes (.selfTestEnd r) s [.power, .dev, .units, .hw, .mbs, .ledger, .order, .dacs, .chans, .pebs, .bursts, .seqs, .tdcs, .acqs, .dps, .resvs, .lanes, .queues, .dmas, .fabric, .press, .levee, .svc, .mem, .free] fun t => testOver s t ∧
        (s.power.bypassPend = false → t.mem = (memWrite s (s.dev.testAddr.toNat % 2 ^ 41) r).mem))
    ∧ (∀ (r : List Byte) (s : State), ¬ (s.dev.mode = .diagnostic ∧ s.dev.testing = true) → Idle (.selfTestEnd r) s)

/-- A direct response repeats its request's opcode, TAG and ITEM and stands at RSP_HEAD. A refusal repeats the OPCODE, TAG
and ITEM of its request and carries RESPONSE, LENGTH 4, its STATUS, the device's address and its DETAIL. On a mailbox
that owes no earlier response, a response is written at RSP_HEAD and RSP_HEAD advances by one; where the request came
through the window and the window serves the ring nothing else changes, and where it came over Trellis only the fabric
and the ring's tail may; one that QUIET suppresses changes nothing. During SERVICE it waits behind those of earlier
requests. [derived: R82; R85; R86; R88; R105; R371; Table 5.4; Table 5.5.] -/
def Obligations.ResponsesStandInTheRing : Prop :=
  (∀ (s : State) (q : Msg) (st d : Nat), st < 256 → d < 2 ^ 32 →
      let r := refusal s q st d
      Msg.field r 0 2 = Msg.field q 0 2 ∧ Msg.field r 2 2 = 1 ∧ Msg.field r 4 2 = Msg.field q 4 2
        ∧ Msg.field r 6 2 = Msg.field q 6 2 ∧ Msg.field r 8 1 = 4 ∧ Msg.field r 9 1 = st
        ∧ Msg.field r 10 2 = ownAddr s ∧ Msg.field r 16 4 = d)
    ∧ (∀ (s : State) (n : Nat) (q r : Msg), TabWf {} s.mbs → (mbOf s n).owed = [] →
      (s.dev.mode ≠ .service → silent q r = false → cameByFabric q = false → viaFabric s n = false →
        mbOf (respond s n q r) n = { mbOf s n with
            rsp := tset 0 (mbOf s n).rsp ((mbOf s n).rspHead.toNat % 256) r, rspHead := (mbOf s n).rspHead + 1 }
          ∧ (∀ k, k ≠ n → mbOf (respond s n q r) k = mbOf s k) ∧ Touch [.mbs] s (respond s n q r))
      ∧ (s.dev.mode ≠ .service → silent q r = false → cameByFabric q = true →
        (mbOf (respond s n q r) n).rsp = tset 0 (mbOf s n).rsp ((mbOf s n).rspHead.toNat % 256) r
          ∧ (mbOf (respond s n q r) n).rspHead = (mbOf s n).rspHead + 1 ∧ Touch [.mbs, .fabric] s (respond s n q r))
      ∧ (s.dev.mode ≠ .service → silent q r = true →
        (∀ k, mbOf (respond s n q r) k = mbOf s k) ∧ Touch [.mbs] s (respond s n q r)))
    ∧ (∀ (s : State) (n : Nat) (q r : Msg), TabWf {} s.mbs → s.dev.mode = .service →
      mbOf (respond s n q r) n = { mbOf s n with owed := (mbOf s n).owed ++ [{ req := q, ready := some r }] }
        ∧ Touch [.mbs] s (respond s n q r))

/-- The opcode, the mailbox and the memory of other devices that a request command is given. -/
def requestOf : Instr → Option (Nat × Nat × Remote)
  | .opcIdentity n => some (0x0001, n, []) | .opcDeviceStart n => some (0x0002, n, []) | .opcArm n => some (0x0003, n, [])
  | .opcDisarm n => some (0x0004, n, []) | .opcPause n => some (0x0005, n, []) | .opcResume n => some (0x0006, n, [])
  | .opcBypassEnter n => some (0x0007, n, []) | .opcBypassExit n => some (0x0008, n, [])
  | .opcDiagEnter n => some (0x0009, n, []) | .opcDiagExit n => some (0x000A, n, []) | .opcPdSet n => some (0x000B, n, [])
  | .opcPdQuery n => some (0x000C, n, []) | .opcNoticeConfig n => some (0x000D, n, [])
  | .opcItemSubmit n rem => some (0x0101, n, rem) | .opcItemAbort n => some (0x0102, n, [])
  | .opcLedgerRead n => some (0x0103, n, []) | .opcLedgerRetire n rem => some (0x0104, n, rem)
  | .opcClockStatus n => some (0x0201, n, []) | .opcClockLock n => some (0x0202, n, [])
  | .opcClockStep n => some (0x0203, n, []) | .opcSyncConfig n => some (0x0204, n, [])
  | .opcSyncMeasure n => some (0x0205, n, []) | .opcSyncOffset n => some (0x0206, n, [])
  | .opcSyncEpoch n => some (0x0207, n, []) | .opcSiteMap n rem => some (0x0301, n, rem)
  | .opcTrigConfig n => some (0x0302, n, []) | .opcWmonConfig n rem _ => some (0x0303, n, rem)
  | .opcTdcConfig n => some (0x0304, n, []) | .opcDpsConfig n => some (0x0305, n, [])
  | .opcSineConfig n => some (0x0306, n, []) | .opcLaneConfig n => some (0x0307, n, [])
  | .opcCalConfig n => some (0x0308, n, []) | .opcLevelsSet n rem => some (0x0401, n, rem)
  | .opcLoadGroup n => some (0x0402, n, []) | .opcClearCode n rem => some (0x0403, n, rem)
  | .opcTimingSet n rem => some (0x0404, n, rem) | .opcPinmodeSet n rem => some (0x0405, n, rem)
  | .opcTimingCommit n => some (0x0406, n, []) | .opcBackgroundSet n => some (0x0407, n, [])
  | .opcScheduleLoad n rem => some (0x0501, n, rem) | .opcScheduleUnload n => some (0x0502, n, [])
  | .opcScheduleStatus n => some (0x0503, n, []) | .opcBurstJump n => some (0x0504, n, [])
  | .opcLayerFree n => some (0x0505, n, []) | .opcLayerStatus n => some (0x0506, n, [])
  | .opcUnitMaintain n => some (0x0601, n, []) | .opcUnitRelease n => some (0x0602, n, [])
  | .opcUnitStatus n => some (0x0603, n, []) | .opcMseqLoad n rem => some (0x0604, n, rem)
  | .opcFabricStatus n => some (0x0701, n, []) | .opcPortConfig n => some (0x0702, n, [])
  | .opcPageHome n => some (0x0703, n, []) | .opcBootServe n => some (0x0704, n, [])
  | .opcEventRead n => some (0x0801, n, []) | .opcEventAck n => some (0x0802, n, [])
  | .opcFaultInject n => some (0x0803, n, []) | .opcServiceBegin n rem => some (0x0901, n, rem)
  | _ => none

/-- A reserved field of a command's own is not zero (R367, Tables 6.5, 6.6, 6.9 to 6.17). -/
def commandReserved (m : Msg) : Bool :=
  match Msg.field m 0 2 with
  | 0x0003 => resvAt [(17, 7)] m
  | 0x000D => 32 ≤ Msg.field m 16 4
  | 0x0101 => submitReserved m
  | 0x0104 => extLen m = 0 && Msg.field m 17 1 ≠ 0
  | 0x0204 => resvAt [(18, 2)] m
  | 0x0205 => resvAt [(25, 1)] m
  | 0x0302 => resvAt [(21, 3)] m
  | 0x0305 => resvAt [(26, 2)] m
  | 0x0306 => resvAt [(17, 1)] m
  | 0x0307 => resvAt [(19, 1)] m || Msg.field m 20 4 / 2 ^ 14 ≠ 0 || bitOf (Msg.field m 20 4) 12
  | 0x0402 => resvAt [(17, 1)] m
  | 0x0501 => highAddr m 24
  | 0x0505 => highAddr m 24
  | 0x0604 => highAddr m 24
  | 0x0704 => highAddr m 24
  | 0x0901 => highAddr m 24
  | _ => false

/-- Request m of an opcode is taken from mailbox n in s, and u is left. -/
def Taken (op n : Nat) (s : State) (m : Msg) (u : State) : Prop :=
  nextMailbox s = some n ∧ Msg.field (frontReq s n) 0 2 = op ∧ takeFront s n = (m, u)

/-- The request taken has its reserved fields zero, and no check that precedes the command's own refuses it. -/
def Asked (op n : Nat) (rem : Remote) (s : State) (m : Msg) (u : State) : Prop :=
  Taken op n s m u ∧ headReserved m = false ∧ commandReserved m = false ∧ firstFail (earlyChecks u n rem m) = none

/-- The direct response to request m, taken from mailbox n, comes later (R85). -/
def Owes (n : Nat) (m : Msg) (t : State) : Prop := ∃ o ∈ (mbOf t n).owed, o.req = m ∧ o.ready = none

/-- A request command acts only on the request Spabry takes next, and its early checks come before its effect. For each of
the 57 request commands: where the request that Spabry takes next is not one of that opcode in that mailbox, nothing
changes (log 15). Where it is one, it leaves its ring; a reserved field of its header that is not zero is a misuse,
which stops the machine; else the first of checks 2 to 5 of Table 6.2 that fails gives the refusal, and nothing but
the mailboxes, the fabric, the round-robin turn and the model's free counter (log 13) changes; past them a reserved
field of the command that is not zero is a misuse. Payload bytes that a command's table neither names nor calls
reserved are not judged (model's choice, log 132). A request of an unknown opcode is refused with REFUSED_OPCODE,
DETAIL 0. [derived: R85; R86; R102; R103; R107; R119; R367; Table 6.2; Table 19.10; log 15; log 132.] -/
def Obligations.RequestsAreCheckedInOrder : Prop :=
  (∀ (c : Instr) (op n : Nat) (rem : Remote) (s : State), requestOf c = some (op, n, rem) →
      (¬ (nextMailbox s = some n ∧ Msg.field (frontReq s n) 0 2 = op) → Idle c s)
      ∧ ∀ (m : Msg) (u : State), Taken op n s m u →
        (headReserved m = true → Misuses c s .reservedField)
        ∧ (headReserved m = false → ∀ e, firstFail (earlyChecks u n rem m) = some e →
          Completes c s [.mbs, .rr, .fabric, .free] fun t => t = refuse u n m e)
        ∧ (headReserved m = false → firstFail (earlyChecks u n rem m) = none → commandReserved m = true →
          Misuses c s .reservedField))
    ∧ (∀ (n : Nat) (s u : State) (m : Msg) (op : Nat), Taken op n s m u → modesOf op = none → headReserved m = false →
      Completes (.unknownOpcodeRequest n) s [.mbs, .rr, .fabric, .free] fun t => t = refuse u n m (0x10, 0))
    ∧ (∀ (n : Nat) (s : State), (nextMailbox s = some n → modesOf (Msg.field (frontReq s n) 0 2) ≠ none) →
      Idle (.unknownOpcodeRequest n) s)

/-- In LOADED only OPC_DEVICE_START, ledger, clock, identity and power-domain queries and OPC_BYPASS_ENTER are accepted.
In LOADED, a request of any other opcode, known or not, whose header's reserved fields are zero (R367) is answered
with a refusal (a STATUS of 0x10 or more), and the device stays in LOADED. A request of OPC_DEVICE_START,
OPC_LEDGER_READ, OPC_LEDGER_RETIRE, OPC_CLOCK_STATUS, OPC_IDENTITY, OPC_PD_QUERY or OPC_BYPASS_ENTER passes the mode
check. [stated: R75.] -/
def Obligations.LoadedAcceptsSevenCommands : Prop :=
  (∀ (c : Instr) (op n : Nat) (rem : Remote) (s u : State) (m : Msg), s.dev.mode = .loaded →
      requestOf c = some (op, n, rem) ∨ (c = .unknownOpcodeRequest n ∧ modesOf op = none) →
      Taken op n s m u → headReserved m = false →
      ¬ op ∈ [0x0001, 0x0002, 0x0007, 0x000C, 0x0103, 0x0104, 0x0201] →
      ∃ st d, 0x10 ≤ st ∧ exec c s = .next (refuse u n m (st, d)) ∧ (refuse u n m (st, d)).dev = s.dev)
    ∧ (∀ op ∈ [0x0001, 0x0002, 0x0007, 0x000C, 0x0103, 0x0104, 0x0201], ((modesOf op).getD []).contains .loaded = true)

/-- The range and domain checks of a submission that come before the ledger's. -/
def submitFits (u : State) (m : Msg) (ext : List Byte) : Prop :=
  (extLen m = 0 → extAddr m = 0) ∧ pKind m ≤ 8 ∧ (pStartAt m = true → noStartAt (pKind m) = false) ∧ (pTimeLimit m ≠ 0 → noTimeLimit (pKind m) = false)
    ∧ firstFail (kindRange u m ext) = none ∧ (∀ d ∈ askedDomains u m, d < 32 → domOn u d = true)

/-- MB1 and MB3 leave 64 ledger slots free, and MB0 and MB2 may use every slot. For a submission that every earlier check
lets pass: through MB1 or MB3 it is refused with REFUSED_LEDGER_FULL while fewer than 64 slots are free, with the
number of free slots as DETAIL; through MB0 or MB2 it is accepted while any slot is free (where no sine is on at a
channel of a DPS submission, Table 15.3). [stated: R94.] -/
def Obligations.LedgerRoomDependsOnTheMailbox : Prop :=
  ∀ (n : Nat) (rem : Remote) (s u : State) (m : Msg), Asked 0x0101 n rem s m u →
    let ext := (readExt u rem m).getD []
    submitFits u m ext →
    (n = 1 ∨ n = 3 → freeSlots u < 64 → Completes (.opcItemSubmit n rem) s [.mbs, .rr, .fabric, .free] fun t =>
      t = refuse u n m (0x12, freeSlots u))
    ∧ ((n = 0 ∨ n = 2) ∧ 0 < freeSlots u ∨ (n = 1 ∨ n = 3) ∧ 64 ≤ freeSlots u → sineBlocks u m = false →
        bytesAt ext 60 4 = 0 → TabWf {} s.ledger →
      Completes (.opcItemSubmit n rem) s [.dev, .units, .mbs, .rr, .ledger, .order, .fabric, .svc, .free] fun t =>
        ∃ i, lowestFree s = some i ∧ (slotOf t i).msg = m ∧ (slotOf t i).kind = kindOf (pKind m)
          ∧ (slotOf t i).mailbox = n ∧ (slotOf t i).st ≠ .free)

/-- An accepted submission becomes a QUEUED item in the lowest free slot. An accepted submission (of a BURST whose
schedule is not BAD, of a MEASURE item whose store is not, or of another kind) writes one record into the lowest free
slot: QUEUED, with the slot's generation bit, its kind, mailbox, TAG, NODE and T_SUBMIT, with the address of its
record as RESULT (Table 6.8), and with no flags, reason or progress; every other slot, and everything but the ledger,
the mailboxes and what the response sends over the fabric, stays. The submission leaves its ring; its response is
RECEIVED with the ITEM_ID, T_SUBMIT and the free slots left. [derived: R66; R83; R92; R108; R115; Table 5.7.] -/
def Obligations.SubmissionsTakeTheLowestFreeSlot : Prop :=
  ∀ (n : Nat) (rem : Remote) (s u : State) (m : Msg) (k : Kind) (i : Nat), Asked 0x0101 n rem s m u → TabWf {} s.ledger →
    let ext := (readExt u rem m).getD []
    firstFail (submitChecks u n m ext) = none → bytesAt ext 60 4 = 0 → kindOf (pKind m) = some k → lowestFree s = some i →
    (k = .burst → (schedOf s (pSched m)).st ≠ .bad) → (k = .measure → storeBad s m = false) →
    Completes (.opcItemSubmit n rem) s [.mbs, .rr, .fabric, .free, .ledger, .order] fun t =>
      slotOf t i = { gen := (slotOf s i).gen, kind := some k, st := .queued, mailbox := n
                     tag := BitVec.ofNat 16 (Msg.field m 4 2), node := BitVec.ofNat 16 (Msg.field m 10 2)
                     tSubmit := stamp s, result := recordAddr k m, msg := m, ext := ext, order := s.order }
        ∧ (slotOf s i).st = .free ∧ (∀ j, j < i → (slotOf s j).st ≠ .free) ∧ (∀ j, j ≠ i → slotOf t j = slotOf s j)
        ∧ ∃ v : State, t = respond v n m (mkResp v m 0 10 (itemId v i)
            [(16, 8, (stamp s).toNat), (24, 2, freeSlots v)]) ∧ itemId v i = itemId s i

/-- The command answers the request m with DONE and a payload, and changes nothing but the mailboxes. -/
def Answers (c : Instr) (n : Nat) (s u : State) (m : Msg) (len : Nat) (fields : List (Nat × Nat × Nat)) : Prop :=
  Completes c s [.mbs, .rr, .fabric, .free] fun t => t = done u n m len fields

/-- The command refuses the request m with a STATUS and a DETAIL, and changes nothing but the mailboxes. -/
def Refuses (c : Instr) (n : Nat) (s u : State) (m : Msg) (status detail : Nat) : Prop :=
  Completes c s [.mbs, .rr, .fabric, .free] fun t => t = refuse u n m (status, detail)

/-- Queries answer DONE with the record asked for and change nothing but the mailboxes. OPC_IDENTITY, OPC_PD_QUERY,
OPC_CLOCK_STATUS, OPC_SCHEDULE_STATUS, OPC_LAYER_STATUS, OPC_UNIT_STATUS, OPC_FABRIC_STATUS and OPC_LEDGER_READ
without an extension answer DONE with the fields of their tables, from the state as it stands; a field out of range is
refused with its offset. OPC_LEDGER_READ with an extension and OPC_EVENT_READ write the records of the range into it
(which ends the poison of a word written) and answer DONE; a range of OPC_LEDGER_READ that leaves the slots, or names
none, is refused with its offset. Nothing else changes but the mailboxes, the turn, what the fabric carries and the
model's free counter (log 13). [derived: R96; R57; R115; R164; R310; R33; R361; Tables 6.9 to 6.17.] -/
def Obligations.QueriesAnswerWithTheirRecords : Prop :=
  ∀ (n : Nat) (s u : State) (m : Msg),
    (Asked 0x0001 n [] s m u → Answers (.opcIdentity n) n s u m 32 [(16, 4, 0x4B570300), (20, 1, 3), (22, 2, ownAddr s),
      (24, 16, Config.fuseId.toNat), (40, 4, s.boot.version.toNat), (44, 4, s.mem.mib)])
    ∧ (Asked 0x000C n [] s m u → Answers (.opcPdQuery n) n s u m 12
      [(16, 4, s.power.pdOn.toNat), (20, 4, s.power.pdBusy.toNat), (24, 4, stepMask s)])
    ∧ (Asked 0x0201 n [] s m u → Answers (.opcClockStatus n) n s u m 48 (clockFields s 16))
    ∧ (Asked 0x0503 n [] s m u → (15 < Msg.field m 16 1 → Refuses (.opcScheduleStatus n) n s u m 0x14 16)
      ∧ (Msg.field m 16 1 ≤ 15 → Answers (.opcScheduleStatus n) n s u m 16
        [(16, 1, storeCode (schedOf s (Msg.field m 16 1)).st), (24, 8, schedAddr (schedOf s (Msg.field m 16 1)))]))
    ∧ (Asked 0x0506 n [] s m u → (11 < Msg.field m 16 1 → Refuses (.opcLayerStatus n) n s u m 0x14 16)
      ∧ (Msg.field m 16 1 ≤ 11 → 3 < Msg.field m 17 1 → Refuses (.opcLayerStatus n) n s u m 0x14 17)
      ∧ (Msg.field m 16 1 ≤ 11 → Msg.field m 17 1 ≤ 3 →
        let y := layerOf s (Msg.field m 16 1) (Msg.field m 17 1)
        Answers (.opcLayerStatus n) n s u m 24
          [(16, 4, y.flips.toNat), (24, 8, y.tFlip.toNat), (32, 4, y.deferred.toNat), (36, 4, y.inPlay.toNat)]))
    ∧ (Asked 0x0603 n [] s m u → (unitKnown (Msg.field m 16 2) = false → Refuses (.opcUnitStatus n) n s u m 0x14 16)
      ∧ (unitKnown (Msg.field m 16 2) = true →
        let v := unitOf s (Msg.field m 16 2)
        Answers (.opcUnitStatus n) n s u m 16 [(16, 1, ustateCode (unitState u (Msg.field m 16 2))),
          (20, 4, (v.calTemp % 2 ^ 32).toNat), (24, 8, v.calTime.toNat)]))
    ∧ (Asked 0x0701 n [] s m u → Answers (.opcFabricStatus n) n s u m 32
      ((List.range 4).flatMap fun p => portFields (portOf u p) (16 + 8 * p)))
    ∧ (Asked 0x0103 n [] s m u →
      (extLen m = 0 → Answers (.opcLedgerRead n) n s u m 48 (recordFields s (Msg.field m 16 2 % 2048) 16))
      ∧ (extLen m ≠ 0 → 2047 < Msg.field m 24 2 → Refuses (.opcLedgerRead n) n s u m 0x14 24)
      ∧ (extLen m ≠ 0 → Msg.field m 24 2 ≤ 2047 → Msg.field m 26 2 = 0 ∨ 2048 < Msg.field m 24 2 + Msg.field m 26 2 →
        Refuses (.opcLedgerRead n) n s u m 0x14 26)
      ∧ (extLen m ≠ 0 → 1 ≤ Msg.field m 26 2 → Msg.field m 24 2 + Msg.field m 26 2 ≤ 2048 →
        Completes (.opcLedgerRead n) s [.mbs, .rr, .fabric, .free, .mem, .levee] fun t =>
          t = done (memWrite u (extAddr m) ((List.range (Msg.field m 26 2)).flatMap fun k =>
            recordBytes s (Msg.field m 24 2 + k))) n m 0 []))
    ∧ (Asked 0x0801 n [] s m u → Completes (.opcEventRead n) s [.mbs, .rr, .fabric, .free, .mem, .levee] fun t =>
        t = done (memWrite u (extAddr m) ((List.range (Msg.field m 26 2)).flatMap fun k =>
          eventBytes (recAt s (BitVec.ofNat 16 (Msg.field m 24 2 + k))))) n m 0 [])

/-- Configuration requests write the registers they name, and no other. With fields in range and no item in flight that
claims the resource or, as a CAL item does, holds its unit, OPC_NOTICE_CONFIG, OPC_SITE_MAP, OPC_TRIG_CONFIG,
OPC_TDC_CONFIG, OPC_DPS_CONFIG, OPC_LANE_CONFIG and OPC_CAL_CONFIG write the fields of the request into the registers
of the resource named; every other resource of the kind keeps its own, and nothing changes outside the parts listed. A
reserved bit in a site map entry is a misuse. A DPS channel that is enabled and changes its range is marked ranging,
and a channel whose gang leader leaves is in no gang. [derived: R113; R118; R203; R230; R281; R282; R291; R343; Table
6.12.] -/
def Obligations.ConfigurationRequestsSetTheirRegisters : Prop :=
  ∀ (n : Nat) (rem : Remote) (s u : State) (m : Msg),
    (Asked 0x000D n [] s m u → Completes (.opcNoticeConfig n) s [.mbs, .rr, .fabric, .free, .dev] fun t =>
      t.dev = { s.dev with noticeEn := BitVec.ofNat 32 (Msg.field m 16 4) })
    ∧ (Asked 0x0301 n rem s m u →
      let bs := (readExt u rem m).getD []
      (bs.any (fun b => b.getLsbD 6) = true → Misuses (.opcSiteMap n rem) s .reservedField)
      ∧ (bs.any (fun b => b.getLsbD 6) = false → Completes (.opcSiteMap n rem) s [.mbs, .rr, .fabric, .free, .dev] fun t =>
        t.dev = { s.dev with siteMap := t.dev.siteMap } ∧ ∀ c, c < 768 → tget 0 t.dev.siteMap c = bs.getD c 0))
    ∧ (Asked 0x0302 n [] s m u → TabWf {} s.cfg.trig → Msg.field m 16 1 ≤ 3 → Msg.field m 17 1 ≤ 3 →
      Msg.field m 18 2 ≤ 4095 → Msg.field m 20 1 ≤ 3 → 1 ≤ Msg.field m 24 4 → Msg.field m 24 4 ≤ 1000000 →
      Completes (.opcTrigConfig n) s [.mbs, .rr, .fabric, .free, .cfg] fun t =>
        let x := trigOf s (Msg.field m 16 1)
        trigOf t (Msg.field m 16 1) = { x with
            fn := Msg.field m 17 1, pebs := BitVec.ofNat 12 (Msg.field m 18 2), cond := Msg.field m 20 1
            mon := { x.mon with hold := Msg.field m 24 4 } }
          ∧ (∀ i, i ≠ Msg.field m 16 1 → trigOf t i = trigOf s i) ∧ t.cfg = { s.cfg with trig := t.cfg.trig })
    ∧ (Asked 0x0304 n [] s m u → TabWf {} s.tdcs → Msg.field m 16 1 ≤ 191 → Msg.field m 20 1 ≤ 8 →
      tdcInputOk (Msg.field m 16 1) (Msg.field m 17 1) = true → tdcInputOk (Msg.field m 16 1) (Msg.field m 18 1) = true →
      (claimed u [claimOf 5 (Msg.field m 16 1)] [unitTdc]).1 = false →
      Completes (.opcTdcConfig n) s [.mbs, .rr, .fabric, .free, .tdcs] fun t =>
        tdcOf t (Msg.field m 16 1) = { tdcOf s (Msg.field m 16 1) with
            start := BitVec.ofNat 8 (Msg.field m 17 1), stop := BitVec.ofNat 8 (Msg.field m 18 1)
            startUp := bitOf (Msg.field m 19 1) 0, stopUp := bitOf (Msg.field m 19 1) 1, e := Msg.field m 20 1 }
          ∧ ∀ i, i ≠ Msg.field m 16 1 → tdcOf t i = tdcOf s i)
    ∧ (Asked 0x0305 n [] s m u → TabWf {} s.dps →
      let ns := dpsList (Msg.field m 16 8)
      let l := askedLeader m
      Msg.field m 16 8 < 2 ^ 48 → gangBad ns l = false → Msg.field m 24 1 ≤ 5 → (∀ k, l = some k → k ∈ ns) →
      dpsFullScale (Msg.field m 24 1) ≤ 100 * Msg.field m 28 4 → Msg.field m 28 4 ≤ dpsFullScale (Msg.field m 24 1) →
      (claimed u (ns.map (claimOf 4)) (ns.map fun k => unitDps (k / 12))).1 = false → gangBusy u ns l = false →
      Completes (.opcDpsConfig n) s [.mbs, .rr, .fabric, .free, .dps] fun t =>
        (∀ k ∈ ns, dpsOf t k = { dpsOf s k with
            range := Msg.field m 24 1, leader := l, limit := Msg.field m 28 4
            ranging := (dpsOf s k).ranging || ((dpsOf s k).enabled && decide ((dpsOf s k).range ≠ Msg.field m 24 1)) })
          ∧ ∀ k, k ∉ ns → (dpsOf t k = dpsOf s k ∨
            (∃ x ∈ ns, (dpsOf s k).leader = some x ∧ dpsOf t k = { dpsOf s k with leader := none })))
    ∧ (Asked 0x0307 n [] s m u → TabWf {} s.lgs → Msg.field m 16 1 ≤ 3 → Msg.field m 17 1 ≤ 3 →
      rateLow u (Msg.field m 17 1) = false → Msg.field m 18 1 ≤ 1 →
      (claimed u ((List.range 28).map fun k => claimOf 10 (28 * Msg.field m 16 1 + k)) [unitLg (Msg.field m 16 1)]).1 = false →
      Completes (.opcLaneConfig n) s [.mbs, .rr, .fabric, .free, .lgs] fun t =>
        lgOf t (Msg.field m 16 1) = { rate := Msg.field m 17 1, fwd := decide (Msg.field m 18 1 = 1)
                                      cfg := BitVec.ofNat 32 (Msg.field m 20 4) }
          ∧ ∀ g, g ≠ Msg.field m 16 1 → lgOf t g = lgOf s g)
    ∧ (Asked 0x0308 n [] s m u → 4 ≤ Msg.field m 16 2 → Msg.field m 16 2 ≤ 160 → 1600 ≤ Msg.field m 18 2 →
      Msg.field m 18 2 ≤ 2160 → Completes (.opcCalConfig n) s [.mbs, .rr, .fabric, .free, .cfg] fun t =>
        t.cfg = { s.cfg with drift := Msg.field m 16 2, throttle := Msg.field m 18 2, auto := bitOf (Msg.field m 20 1) 0 })

/-- OPC_WMON_CONFIG sets and judges monitors afresh, and OPC_SINE_CONFIG starts or stops a sine. OPC_WMON_CONFIG whose
entries name channels below 768, none in a PEB that an item in flight claims or holds, sets each named monitor's
thresholds, routing and stuck hold, the later of two entries for one channel standing and the lower of its two codes
being the low threshold; every monitor named that is powered is judged by its ball's voltage (one not listed stands at
0 V), HIGH above the high threshold and LOW below the low one, which is reported, and else INDETERMINATE; no other
channel changes. A channel of 768 or more is refused with offset 16 (log 54), and one that an item claims is refused
busy. OPC_SINE_CONFIG with ENABLE sets the step, amplitude and offset and keeps the phase of a sine that is on,
starting one that is off at phase 0; without ENABLE the sine is marked to stop. A DPS sine that leaves 0 V to 3.0 V is
a misuse. [derived: R199; R200; R207; R208; R281; R288; Table 6.12; Table 10.5.] -/
def Obligations.MonitorsAndSinesTakeTheirConfiguration : Prop :=
  ∀ (n : Nat) (rem : Remote) (balls : List (Nat × Int)) (s u : State) (m : Msg),
    (Asked 0x0303 n rem s m u →
      let es := entries8 ((readExt u rem m).getD [])
      let busy := claimed u [] (es.map fun e => e % 65536 / 64)
      let ball (c : Nat) : Int := ((balls.find? fun e => e.1 = c).map Prod.snd).getD 0
      (es.any (fun e => 768 ≤ e % 65536) = true → Refuses (.opcWmonConfig n rem balls) n s u m 0x14 16)
      ∧ (es.any (fun e => 768 ≤ e % 65536) = false → busy.1 = true →
        Refuses (.opcWmonConfig n rem balls) n s u m busy.2.1 busy.2.2)
      ∧ (es.any (fun e => 768 ≤ e % 65536) = false → busy.1 = false → TabWf {} s.chans →
        Completes (.opcWmonConfig n rem balls) s [.mbs, .rr, .chans, .bursts, .queues, .fabric, .free] fun t =>
          (∀ c, c ∉ es.map (· % 65536) → chanOf t c = chanOf s c)
          ∧ ∀ e f, es = f ++ [e] →
            let c := e % 65536
            let w : Wmon := {
              lo := BitVec.ofNat 10 (min (bitsOf e 25 16) (bitsOf e 35 26))
              hi := BitVec.ofNat 10 (max (bitsOf e 25 16) (bitsOf e 35 26))
              route := BitVec.ofNat 3 (bitsOf e 38 36), hold := bitsOf e 63 39 }
            let l : Option Bool :=
              if s.power.pdOn.getLsbD (14 + c / 64) = false then none
              else if threshold w.hi < ball c then some true
              else if ball c < threshold w.lo then some false else none
            chanOf t c = { chanOf s c with mon := { w with st := l, rep := l } }))
    ∧ (Asked 0x0306 n [] s m u →
      let k := Msg.field m 18 2
      (Msg.field m 16 1 = 0 → k < 768 → (claimed u [claimOf 3 k] [k / 64]).1 = false → TabWf {} s.chans →
        Completes (.opcSineConfig n) s [.mbs, .rr, .fabric, .free, .chans] fun t =>
          (chanOf t k = { chanOf s k with sine := configSine m (chanOf s k).sine }) ∧ ∀ j, j ≠ k → chanOf t j = chanOf s j)
      ∧ (Msg.field m 16 1 = 1 → k < 48 → gangLeader u k = k → (claimed u [claimOf 4 k] [unitDps (k / 12)]).1 = false → TabWf {} s.dps →
        (sineOut m = true → Misuses (.opcSineConfig n) s .levelLimits)
        ∧ (sineOut m = false → Completes (.opcSineConfig n) s [.mbs, .rr, .fabric, .free, .dps] fun t =>
          (dpsOf t k = { dpsOf s k with sine := configSine m (dpsOf s k).sine }) ∧ ∀ j, j ≠ k → dpsOf t j = dpsOf s j)))
    ∧ (∀ x : Sine, (Msg.field m 32 1 = 0 → configSine m x = { x with off := x.on })
      ∧ (Msg.field m 32 1 ≠ 0 → (configSine m x).on = true ∧ (configSine m x).off = false
        ∧ (configSine m x).phase = (if x.on then x.phase else 0)
        ∧ (configSine m x).step = BitVec.ofNat 32 (Msg.field m 20 4)
        ∧ (configSine m x).amp = signed 32 (Msg.field m 24 4) ∧ (configSine m x).offs = signed 32 (Msg.field m 28 4)))

/-- OPC_LEVELS_SET writes shadows, OPC_CLEAR_CODE clear codes, and OPC_LOAD_GROUP moves members. An entry list whose
targets have the DACs they name is written in order: OPC_LEVELS_SET writes the shadow code of each DAC an entry names
(a gang leader's entry those of its members) and no active code; OPC_CLEAR_CODE writes clear codes alone. A value
outside Table 10.2 is a misuse, and so is a reserved bit. An entry whose target has no such DAC is refused with offset
16 (log 54). OPC_LOAD_GROUP moves the PEBs and DPS channels it names into the group and no other; while a LEVELS item
that is not terminal names a group concerned it is refused BUSY. [derived: R120; R188; R192; R196; R277; R281; Table
6.13; Table 10.2.] -/
def Obligations.LevelRequestsWriteShadowsAndClearCodes : Prop :=
  ∀ (n : Nat) (rem : Remote) (s u : State) (m : Msg), TabWf {} s.dacs →
    (∀ (op : Nat) (clear : Bool), (op = 0x0401 ∧ clear = false) ∨ (op = 0x0403 ∧ clear = true) → Asked op n rem s m u →
      let c := if clear then Instr.opcClearCode n rem else Instr.opcLevelsSet n rem
      let es := levelEntries u rem m
      (es.any (fun e => ! entOk u clear e) = true → Refuses c n s u m 0x14 16)
      ∧ (es.any (fun e => ! entOk u clear e) = false → es.any entReserved = true → Misuses c s .reservedField)
      ∧ (es.any (fun e => ! entOk u clear e) = false → es.any entReserved = false → es.any entMisuse = true →
          Misuses c s .levelLimits)
      ∧ (es.any (fun e => ! entOk u clear e) = false → es.any entReserved = false → es.any entMisuse = false →
        Completes c s [.mbs, .rr, .fabric, .free, .dacs] fun t =>
          (∀ k, (∀ e ∈ es, k ∉ entKeys u e) → dacOf t k = dacOf s k)
          ∧ (∀ k, (dacOf t k).active = (dacOf s k).active ∧ (dacOf t k).held = (dacOf s k).held)
          ∧ (clear = false → (∀ k, (dacOf t k).clear = (dacOf s k).clear)
            ∧ ∀ e f, es = f ++ [e] → ∀ k ∈ entKeys u e, (dacOf t k).shadow = codeFor (corrOf s k) (entValue e))
          ∧ (clear = true → (∀ k, (dacOf t k).shadow = (dacOf s k).shadow)
            ∧ ∀ e f, es = f ++ [e] → entDac e ≠ 9 → ∀ k ∈ entKeys u e, (dacOf t k).clear = codeFor (corrOf s k) (entValue e))))
    ∧ (Asked 0x0402 n [] s m u → TabWf {} s.pebs → TabWf {} s.dps → TabWf {} s.ledger → Msg.field m 16 1 ≤ 7 → Msg.field m 18 2 ≤ 4095 →
      Msg.field m 24 8 < 2 ^ 48 →
      ((∀ i, openSlot (slotOf u i) = true → (slotOf u i).kind = some .levels →
          ¬ (pGroup (slotOf u i).msg) ∈ touchedGroups u m) →
        Completes (.opcLoadGroup n) s [.mbs, .rr, .fabric, .free, .pebs, .dps] fun t =>
          (∀ p, pebOf t p = if p ∈ groupPebMask m then { pebOf s p with group := some (Msg.field m 16 1) } else pebOf s p)
          ∧ ∀ k, dpsOf t k = if k ∈ groupDpsMask m then { dpsOf s k with group := some (Msg.field m 16 1) } else dpsOf s k))

/-- OPC_TIMING_SET and OPC_PINMODE_SET write a table, OPC_TIMING_COMMIT commits, OPC_BACKGROUND_SET sets the vector.
OPC_TIMING_SET and OPC_PINMODE_SET write their extension into the shadow table of the PEB named and mark it to be
committed; with DIRECT outside RUN and PAUSE they write the active table, and with DIRECT in RUN or PAUSE they are a
misuse, as is a table with a reserved field that is not zero. A PEB above 11 is refused with offset 24.
OPC_BACKGROUND_SET sets the background vector of its PEB and changes no pin (log 151). OPC_TIMING_COMMIT commits each
PEB of its mask: where no BURST plays the PEB its shadow tables become the active ones at once; where one does, the
PEB's tables stay and the commit is armed in that BURST. Every PEB not named keeps all it has, and so does every
channel of it. [derived: R121; R142; R143; R161; Table 6.13; Table 19.10.] -/
def Obligations.TablesAreWrittenAndCommitted : Prop :=
  ∀ (n : Nat) (rem : Remote) (s u : State) (m : Msg), TabWf {} s.pebs →
    (Asked 0x0404 n rem s m u → let p := Msg.field m 24 1
      let bs := (readExt u rem m).getD []
      (11 < p → Refuses (.opcTimingSet n rem) n s u m 0x14 24)
      ∧ (p ≤ 11 → tableDirect m = true → s.dev.mode = .run ∨ s.dev.mode = .pause →
        Misuses (.opcTimingSet n rem) s .directInPlay)
      ∧ (p ≤ 11 → ¬ (tableDirect m = true ∧ (s.dev.mode = .run ∨ s.dev.mode = .pause)) → timingReserved bs = true →
        Misuses (.opcTimingSet n rem) s .reservedField)
      ∧ (p ≤ 11 → ¬ (tableDirect m = true ∧ (s.dev.mode = .run ∨ s.dev.mode = .pause)) → timingReserved bs = false →
        Completes (.opcTimingSet n rem) s [.mbs, .rr, .fabric, .free, .pebs, .chans] fun t => (∀ q, q ≠ p → pebOf t q = pebOf s q)
          ∧ (tableDirect m = false → t.chans = s.chans) ∧ (TabWf {} s.chans → ∀ c, c / 64 ≠ p → chanOf t c = chanOf s c)
          ∧ pebOf t p = if tableDirect m then { pebOf s p with timing := some bs }
            else { pebOf s p with timingSh := some bs, timingDirty := true }))
    ∧ (Asked 0x0405 n rem s m u → let p := Msg.field m 24 1
      let bs := (readExt u rem m).getD []
      (11 < p → Refuses (.opcPinmodeSet n rem) n s u m 0x14 24)
      ∧ (p ≤ 11 → tableDirect m = true → s.dev.mode = .run ∨ s.dev.mode = .pause →
        Misuses (.opcPinmodeSet n rem) s .directInPlay)
      ∧ (p ≤ 11 → ¬ (tableDirect m = true ∧ (s.dev.mode = .run ∨ s.dev.mode = .pause)) → pinmodeReserved bs = true →
        Misuses (.opcPinmodeSet n rem) s .reservedField)
      ∧ (p ≤ 11 → ¬ (tableDirect m = true ∧ (s.dev.mode = .run ∨ s.dev.mode = .pause)) → pinmodeReserved bs = false →
        Completes (.opcPinmodeSet n rem) s [.mbs, .rr, .fabric, .free, .pebs, .chans] fun t => (∀ q, q ≠ p → pebOf t q = pebOf s q)
          ∧ (tableDirect m = false → t.chans = s.chans) ∧ (TabWf {} s.chans → ∀ c, c / 64 ≠ p → chanOf t c = chanOf s c)
          ∧ pebOf t p = if tableDirect m then { pebOf s p with pinmode := some bs }
            else { pebOf s p with pinmodeSh := some bs, pinmodeDirty := true }))
    ∧ (Asked 0x0407 n [] s m u → Msg.field m 16 1 ≤ 11 →
      Completes (.opcBackgroundSet n) s [.mbs, .rr, .fabric, .free, .pebs] fun t => let p := Msg.field m 16 1
        pebOf t p = { pebOf s p with back := BitVec.ofNat 256 (Msg.field m 24 32) }
          ∧ ∀ q, q ≠ p → pebOf t q = pebOf s q)
    ∧ (Asked 0x0406 n [] s m u → Msg.field m 16 2 ≤ 4095 → TabWf {} s.bursts → TabWf {} s.chans →
      Completes (.opcTimingCommit n) s [.mbs, .rr, .fabric, .free, .pebs, .chans, .bursts] fun t =>
        (∀ p, p ∉ setBits 12 (Msg.field m 16 2) → pebOf t p = pebOf s p)
        ∧ (∀ c, c / 64 ∉ setBits 12 (Msg.field m 16 2) → chanOf t c = chanOf s c)
        ∧ ∀ p ∈ setBits 12 (Msg.field m 16 2),
          (burstOn s p = none → (pebOf t p).timingDirty = false ∧ (pebOf t p).pinmodeDirty = false
            ∧ (pebOf t p).timing = (pebOf s p).timingSh ∧ (pebOf t p).pinmode = (pebOf s p).pinmodeSh)
          ∧ ∀ i, burstOn s p = some i → pebOf t p = pebOf s p ∧ ((burstOf t i).commit.getLsbD p = true
            ∨ (burstOf t i).commitLate.getLsbD p = true ∨ (burstOf t i).lateDue.getLsbD p = true))

/-- OPC_CLOCK_LOCK and OPC_CLOCK_STEP start a lock or a small step, and the sync commands set their registers. With a
legal M, PD1 on and no item in the way, OPC_CLOCK_LOCK at an M other than the one locked at starts a lock towards it
and owes its response; at that M it answers DONE. OPC_CLOCK_STEP within 0.2 % of the lock point starts a small step
from the present M while the root is locked; beyond it, it is a lock outside RUN and a misuse in RUN. OPC_SYNC_CONFIG
sets mode, upstream port and period, clears the epoch and the slew; OPC_SYNC_OFFSET sets the compensation and ends
SYNC_DEGRADED; OPC_SYNC_MEASURE begins its exchanges, one TAG out on each named port that is up, and with none up it
is over at once; while one runs it is refused. OPC_SYNC_EPOCH is kept for the next pulse where less than 100 µs
remain, and else it is sent at once and the device takes the epoch itself, but in sync mode 0. [derived: R42; R43;
R44; R53; R331; R332; R410; Table 6.11; Table 19.10.] -/
def Obligations.ClockRequestsLockStepAndSync : Prop :=
  ∀ (n : Nat) (s u : State) (m : Msg), TabWf {} s.mbs →
    (Asked 0x0202 n [] s m u → mLegal (Msg.field m 16 4) = true → domOn s 1 = true →
      (lockedAt s (Msg.field m 16 4) = true → Answers (.opcClockLock n) n s u m 0 [])
      ∧ (lockedAt s (Msg.field m 16 4) = false → ∀ i, busyItem s blocksRelock = some i →
        Refuses (.opcClockLock n) n s u m 0x17 i)
      ∧ (lockedAt s (Msg.field m 16 4) = false → busyItem s blocksRelock = none →
        Completes (.opcClockLock n) s [.clock, .hw, .mbs, .rr, .fabric, .svc, .free] fun t =>
          t.clock.relocking = true ∧ t.clock.lockTarget = BitVec.ofNat 28 (Msg.field m 16 4) ∧ t.clock.onBypass = true
            ∧ t.clock.locked = false ∧ t.clock.mLock = s.clock.mLock ∧ t.hw.count = s.hw.count ∧ Owes n m t))
    ∧ (Asked 0x0203 n [] s m u → mLegal (Msg.field m 16 4) = true → domOn s 1 = true → 1 ≤ Msg.field m 20 2 →
      Msg.field m 20 2 ≤ 10 →
      (withinStep s.clock.mLock.toNat (Msg.field m 16 4) = true → s.clock.locked = true →
        Completes (.opcClockStep n) s [.clock, .hw, .mbs, .rr, .bursts, .fabric, .svc, .free] fun t =>
          t.clock = { s.clock with
              stepActive := true, stepTarget := BitVec.ofNat 28 (Msg.field m 16 4), stepSlew := Msg.field m 20 2
              stepFrom := s.clock.mNow, stepTicks := 0 }
            ∧ t.hw = s.hw)
      ∧ (withinStep s.clock.mLock.toNat (Msg.field m 16 4) = false → s.dev.mode = .run →
        Misuses (.opcClockStep n) s .stepInRun)
      ∧ (withinStep s.clock.mLock.toNat (Msg.field m 16 4) = false → s.dev.mode ≠ .run → busyItem s blocksRelock = none →
        Completes (.opcClockStep n) s [.clock, .hw, .mbs, .rr, .bursts, .fabric, .svc, .free] fun t =>
          t.clock.relocking = true ∧ t.clock.lockTarget = BitVec.ofNat 28 (Msg.field m 16 4)))
    ∧ (Asked 0x0204 n [] s m u → Msg.field m 16 1 ≤ 3 → (Msg.field m 16 1 = 2 → Msg.field m 17 1 ≤ 3) →
      1000 ≤ Msg.field m 20 4 → Msg.field m 20 4 ≤ 1000000 → busyItem s (fun l => openSlot l && pStartAt l.msg) = none →
      Completes (.opcSyncConfig n) s [.hw, .mbs, .rr, .fabric, .svc, .free] fun t =>
        t.hw.syncMode = Msg.field m 16 1 ∧ t.hw.upstream = Msg.field m 17 1 % 4 ∧ t.hw.periodUs = Msg.field m 20 4
          ∧ t.hw.epoch = none ∧ t.hw.epochSeen = false ∧ t.hw.slew = 0)
    ∧ (Asked 0x0206 n [] s m u → Completes (.opcSyncOffset n) s [.clock, .hw, .mbs, .rr, .fabric, .svc, .free] fun t =>
        t.hw = { s.hw with offsetComp := BitVec.ofNat 32 (Msg.field m 16 4) }
          ∧ t.clock = { s.clock with syncDegraded := false })
    ∧ (Asked 0x0205 n [] s m u → Msg.field m 24 1 ≤ 15 → 1 ≤ Msg.field m 26 2 → Msg.field m 26 2 ≤ 4096 →
      let up (p : Nat) : Bool := bitOf (Msg.field m 24 1) p && portUp (portOf u p)
      (u.fabric.measN ≠ 0 → Refuses (.opcSyncMeasure n) n s u m 0x17 0xFFFF)
      ∧ (u.fabric.measN = 0 → TabWf {} s.fabric.ports → (∃ p, p < 4 ∧ up p = true) →
        Completes (.opcSyncMeasure n) s [.hw, .mbs, .rr, .fabric, .levee, .mem, .free] fun t => t.fabric.measN = Msg.field m 26 2
          ∧ ∀ p, p < 4 → t.fabric.measMask.getLsbD p = up p
            ∧ (up p = true → (portOf t p).xTag.isSome = true ∧ (portOf t p).xDone = 0 ∧ (portOf t p).xSum = 0))
      ∧ (u.fabric.measN = 0 → (∀ p, p < 4 → up p = false) →
        Completes (.opcSyncMeasure n) s [.hw, .mbs, .rr, .fabric, .levee, .mem, .free] fun t => t.fabric.measN = 0))
    ∧ (Asked 0x0207 n [] s m u →
      (pulseNear s = true → Completes (.opcSyncEpoch n) s [.hw, .mbs, .rr, .fabric, .free] fun t =>
        t.hw = { s.hw with epochOut := some (BitVec.ofNat 64 (Msg.field m 16 8)) })
      ∧ (pulseNear s = false → Completes (.opcSyncEpoch n) s [.hw, .mbs, .rr, .fabric, .free] fun t =>
        t.hw = if s.hw.syncMode = 0 then { s.hw with epochOut := none }
          else { s.hw with epochOut := none, epoch := some (BitVec.ofNat 64 (Msg.field m 16 8)), epochSeen := true }))

/-- The device requests of Table 6.9 change the mode as Table 4.2 states, with the effects beside. OPC_DEVICE_START with a
legal M and a mask that Table 2.6 allows enters CALIBRATE and keeps its mask; a lock at another M than the one locked
at begins; CALIBRATE ends at once, in IDLE or where the switches are held closed in BYPASS, only where nothing is left
to do. OPC_ARM enters ARMED with the sites and the schedule of the request and the site map in force; each mapped
channel of an ACTIVE or QUIESCING PEB is connected and its PEB plays the background vector; every other channel keeps
its switches, and a channel of another PEB all it has. OPC_DISARM begins the slew to 0 V of every enabled DPS channel,
or, with every output off and discharged, opens the disconnects and enters IDLE; an item that is not terminal, or a
disarm under way, refuses it. OPC_PAUSE asks the pausable items to hold, a DPS item holding at once: the device is in
ARMED where nothing works, in PAUSE where every pausable item is held, and else in RUN with the pause pending.
OPC_RESUME lets held DPS items go on and returns to RUN, or to ARMED where nothing works. OPC_DIAG_ENTER enters
DIAGNOSTIC and keeps its test mask and address; OPC_DIAG_EXIT returns to IDLE and ends the test, and is refused while
an instruction of R394 is loaded. OPC_BYPASS_ENTER enters BYPASS from IDLE, with no pin map, and asks for the drain
where the Ford is open; from LOADED it is kept for later. OPC_BYPASS_EXIT enters IDLE, or LOADED before a start, and
opens the Ford where PD4 is on; FORD_CLOSE_N low refuses it. FORD_DRAIN_DONE closes the Ford where a drain is asked
for and nothing is held, owed or unacknowledged, and else changes nothing. [derived: R59; R62; R76; R77; R114; R116;
R117; R278; R326; R394; Table 4.2; Table 6.9.] -/
def Obligations.ModeRequestsChangeTheMode : Prop :=
  ∀ (n : Nat) (s u : State) (m : Msg),
    (Asked 0x0002 n [] s m u → mLegal (Msg.field m 16 4) = true → domFault u (BitVec.ofNat 32 (Msg.field m 20 4)) 0 = none →
      Completes (.opcDeviceStart n) s [.power, .dev, .units, .clock, .hw, .mbs, .rr, .ledger, .order, .dacs, .chans, .pebs, .bursts, .seqs, .tdcs, .acqs, .dps, .resvs, .lanes, .queues, .dmas, .fabric, .press, .levee, .svc, .mem, .free] fun t =>
        (t.dev.mode = .calibrate ∨ t.dev.mode = .idle ∨ t.dev.mode = .bypass)
          ∧ (t.dev.mode = .calibrate → slotsWhere t (calPending t) ≠ [] ∨ ∃ x ∈ allUnits, (unitOf t x).unslotted ≠ 0)
          ∧ (t.dev.mode = .bypass → s.power.bypassPend = true)
          ∧ (t.dev.mode ≠ .bypass → t.dev.started = true ∧ t.dev.startMask = BitVec.ofNat 32 (Msg.field m 20 4))
          ∧ ((s.clock.locked = false ∨ s.clock.mLock ≠ BitVec.ofNat 28 (Msg.field m 16 4)
              ∨ s.clock.mNow ≠ BitVec.ofNat 28 (Msg.field m 16 4)) →
            t.clock.relocking = true ∧ t.clock.onBypass = true ∧ t.clock.lockTarget = BitVec.ofNat 28 (Msg.field m 16 4)))
    ∧ (Asked 0x0003 n [] s m u → TabWf {} s.chans → TabWf {} s.pebs → s.dev.mode = .idle → Msg.field m 16 1 ≤ 15 →
      (schedOf s (Msg.field m 16 1)).st ≠ .empty → (schedOf s (Msg.field m 16 1)).st ≠ .bad →
      (∀ i, i < 64 → bitOf (Msg.field m 24 8) i = true → bitOf (sitesUsed s.dev.siteMap) i = true) →
      (∀ c ∈ mappedIn s.dev.siteMap, (pebOf s (c / 64)).group ≠ none) →
      let conn (c : Nat) : Prop := c ∈ mappedIn s.dev.siteMap
        ∧ (unitState s (c / 64) = .active ∨ unitState s (c / 64) = .quiescing)
      Completes (.opcArm n) s [.dev, .mbs, .rr, .dacs, .chans, .pebs, .dps, .fabric, .free] fun t =>
        t.dev.mode = .armed ∧ t.dev.prev = .idle ∧ t.dev.armedMap = s.dev.siteMap
          ∧ t.dev.siteEnable = BitVec.ofNat 64 (Msg.field m 24 8) ∧ t.dev.armedSched = some (Msg.field m 16 1)
          ∧ (∀ c, (conn c → (chanOf t c).closed = true ∧ (chanOf t c).armed = true)
            ∧ (¬ conn c → (chanOf t c).closed = (chanOf s c).closed ∧ (chanOf t c).armed = (chanOf s c).armed))
          ∧ (∀ c, conn c → (pebOf t (c / 64)).rest = .armed ∧ (pebOf t (c / 64)).restTs = 0)
          ∧ ∀ c, (∀ k, conn k → k / 64 ≠ c / 64) → chanOf t c = chanOf s c)
    ∧ (Asked 0x0004 n [] s m u →
      let open_ := busyItem u fun l => openSlot l && l.kind ≠ some .cal && l.kind ≠ some .transfer
      (∀ i, open_ = some i → Refuses (.opcDisarm n) n s u m 0x17 i)
      ∧ (open_ = none → s.dev.disarming = true → Refuses (.opcDisarm n) n s u m 0x17 0xFFFF)
      ∧ (open_ = none → s.dev.disarming = false → s.dev.mode = .armed → TabWf {} s.dps →
        ((∃ k, k < 48 ∧ ((dpsOf s k).enabled = true ∨ (dpsOf s k).discharging = true)) →
          Completes (.opcDisarm n) s [.mbs, .rr, .fabric, .free, .dev, .dps] fun t =>
            t.dev = { s.dev with disarming := true }
              ∧ ∀ k, dpsOf t k = if (dpsOf s k).enabled then slewTo 0 (dpsOf s k) else dpsOf s k)
        ∧ ((∀ k, (dpsOf s k).enabled = false ∧ (dpsOf s k).discharging = false) → s.power.bypassPend = false →
          TabWf {} s.chans → Completes (.opcDisarm n) s [.power, .dev, .units, .hw, .mbs, .rr, .ledger, .order, .dacs, .chans, .pebs, .bursts, .seqs, .tdcs, .acqs, .dps, .resvs, .lanes, .queues, .dmas, .fabric, .press, .levee, .svc, .mem, .free] fun t =>
            t.dev.mode = .idle ∧ t.dev.disarming = false ∧ t.dev.armedMap = [] ∧ t.dev.siteEnable = 0
              ∧ t.dev.armedSched = none ∧ (∀ c, (chanOf t c).armed = false
                ∧ (chanOf t c).closed = ((chanOf s c).pmuOn && (chanOf s c).closed)))))
    ∧ (Asked 0x0005 n [] s m u → s.dev.mode = .run → Completes (.opcPause n) s [.dev, .mbs, .rr, .ledger, .bursts, .seqs, .fabric, .free] fun t =>
        t.dev.mode = (if slotsWhere t working = [] then .armed
            else if slotsWhere t (fun l => pausable l && l.st = .inFlight) = [] then .pause else .run)
          ∧ (t.dev.pauseReq = true ↔ t.dev.mode = .run)
          ∧ (TabWf {} s.ledger → ∀ i, (slotOf s i).kind = some .dps → (slotOf s i).st = .inFlight →
            slotOf t i = { slotOf s i with st := .held }))
    ∧ (Asked 0x0006 n [] s m u → s.dev.mode = .pause → s.dev.pauseReq = false →
      Completes (.opcResume n) s [.dev, .mbs, .rr, .ledger, .chans, .pebs, .bursts, .seqs, .queues, .fabric, .free] fun t =>
        t.dev.mode = (if slotsWhere t working = [] then .armed else .run)
          ∧ (TabWf {} s.ledger → (∀ j, (slotOf s j).st = .held → (slotOf s j).kind = some .dps) →
            ∀ i, (slotOf s i).st = .held → slotOf t i = { slotOf s i with st := .inFlight }))
    ∧ (Asked 0x0009 n [] s m u → s.dev.mode = .idle → Completes (.opcDiagEnter n) s [.dev, .mbs, .rr, .fabric, .free] fun t =>
        t.dev = { s.dev with
          mode := .diagnostic, prev := .idle, changes := s.dev.changes + 1
          testing := decide (BitVec.ofNat 32 (Msg.field m 16 4) ≠ 0), testMask := BitVec.ofNat 32 (Msg.field m 16 4)
          testAddr := BitVec.ofNat 64 (Msg.field m 24 8) })
    ∧ (Asked 0x000A n [] s m u → (ballCodeLoaded s = true → Refuses (.opcDiagExit n) n s u m 0x17 0xFFFF)
      ∧ (ballCodeLoaded s = false → s.dev.mode = .diagnostic → Completes (.opcDiagExit n) s [.power, .dev, .units, .hw, .mbs, .rr, .ledger, .order, .dacs, .chans, .pebs, .bursts, .seqs, .tdcs, .acqs, .dps, .resvs, .lanes, .queues, .dmas, .fabric, .press, .levee, .svc, .mem, .free] fun t =>
        (s.power.bypassPend = false → t.power = s.power ∧ t.dev = { s.dev with
            testing := false, mode := .idle, prev := .diagnostic, changes := s.dev.changes + 1 })
          ∧ (s.power.bypassPend = true → t.dev.mode = .bypass ∧ t.power.fordClosed = true ∧ t.dev.armedMap = [])))
    ∧ (Asked 0x0007 n [] s m u →
      (s.dev.mode = .loaded → Completes (.opcBypassEnter n) s [.mbs, .rr, .fabric, .free, .power] fun t =>
        t.power = { s.power with bypassPend := true, fordDrain := s.power.fordDrain || ! s.power.fordClosed })
      ∧ (s.dev.mode = .idle → Completes (.opcBypassEnter n) s [.power, .dev, .units, .mbs, .rr, .ledger, .order, .dacs, .chans, .pebs, .bursts, .seqs, .tdcs, .acqs, .dps, .resvs, .lanes, .queues, .dmas, .fabric, .press, .levee, .svc, .mem, .free] fun t =>
        t.dev.mode = .bypass ∧ t.dev.armedMap = [] ∧ t.dev.siteEnable = 0
          ∧ t.power = { s.power with bypassPend := false, fordDrain := s.power.fordDrain || ! s.power.fordClosed }))
    ∧ (Asked 0x0008 n [] s m u → (s.power.fordPinLow = true → Refuses (.opcBypassExit n) n s u m 0x17 0xFFFF)
      ∧ (s.power.fordPinLow = false → Completes (.opcBypassExit n) s [.power, .dev, .units, .clock, .hw, .mbs, .rr, .ledger, .order, .fabric, .svc, .free] fun t =>
        t.dev.mode = (if s.dev.started then .idle else .loaded) ∧ t.power.bypassPend = false
          ∧ t.power.fordClosed = (s.power.fordClosed && ! s.power.pdOn.getLsbD 4)))
    ∧ (s.power.fordDrain = true →
        (∀ p, p < 4 → (portOf s p).waiting = [] ∧ (portOf s p).ingress = [] ∧ (portOf s p).replay = []) →
        Completes .fordDrainDone s [.power, .hw, .mbs, .fabric, .levee, .svc, .mem, .free] fun t => t.power.fordClosed = true ∧ t.dev = s.dev
          ∧ t.power = if s.power.fordClosed then s.power else { s.power with fordClosed := true, fordDrain := false })
    ∧ (s.power.fordDrain = false ∨ (∃ p, p < 4 ∧
          ((portOf s p).waiting ≠ [] ∨ (portOf s p).ingress ≠ [] ∨ (portOf s p).replay ≠ [])) → Idle .fordDrainDone s)

/-- OPC_PD_SET orders switches, and units are maintained and released by request. OPC_PD_SET with disjoint masks that
break no dependency answers DONE, orders the switches it names and leaves PD_STATUS as it is; a bit in both masks is
refused with offset 16. OPC_UNIT_MAINTAIN of an ACTIVE unit makes it QUIESCING and owes its response; of a unit
OFFLINE with no CONTAINED record open it makes it MAINTENANCE at once; of a unit that is QUIESCING or in MAINTENANCE
it is refused. UNIT_QUIESCED, once no item in flight touches the unit, makes it MAINTENANCE for a host request, or
OFFLINE for a switch-off; before, it changes nothing. OPC_UNIT_RELEASE of a unit the host may release gives the unit
the state it returns to and no holder. [derived: R31; R33; R63; R359; R374; R375; R412; Table 6.9; Table 6.15; Table
20.3.] -/
def Obligations.DomainAndUnitRequests : Prop :=
  ∀ (n : Nat) (s u : State) (m : Msg), TabWf {} s.units →
    (Asked 0x000B n [] s m u →
      let on := BitVec.ofNat 32 (Msg.field m 16 4)
      let off := BitVec.ofNat 32 (Msg.field m 20 4)
      (on &&& off ≠ 0 → Refuses (.opcPdSet n) n s u m 0x14 16)
      ∧ (on &&& off = 0 → ∀ d, domFault u on off = some d → Refuses (.opcPdSet n) n s u m 0x13 d)
      ∧ (on &&& off = 0 → domFault u on off = none →
        (off.getLsbD 12 = true → busyItem u (fun l => openSlot l && usesQueues l.kind) = none) →
        Completes (.opcPdSet n) s [.power, .units, .mbs, .rr, .fabric, .svc, .free] fun t =>
          t = done (orderSwitches u on off) n m 0 [] ∧ t.power.pdOn = s.power.pdOn))
    ∧ (Asked 0x0601 n [] s m u →
      let x := Msg.field m 16 2
      let a := Msg.field m 18 1
      unitKnown x = true → x < 0x500 → a ≤ 2 → (0x400 ≤ x → a = 0) → (unitOff u x).1 = false →
      maintainEnabled u x a = false →
      (unitState s x = .active → Completes (.opcUnitMaintain n) s [.power, .units, .mbs, .rr, .ledger, .order, .chans, .pebs, .dps, .lanes, .fabric, .svc, .free] fun t =>
          unitState t x = .quiescing ∧ (unitOf t x).holder = .host a false ∧ (TabWf {} s.mbs → Owes n m t))
      ∧ (unitState s x = .offline → containedOpen s x = false →
        Completes (.opcUnitMaintain n) s [.power, .units, .mbs, .rr, .ledger, .order, .chans, .pebs, .dps, .lanes, .fabric, .svc, .free] fun t =>
          unitState t x = .maintenance ∧ (unitOf t x).holder = .host a (decide (a = 0)))
      ∧ (unitState s x = .quiescing ∨ unitState s x = .maintenance → Refuses (.opcUnitMaintain n) n s u m 0x17 0xFFFF))
    ∧ (∀ x, x < 0x500 → unitState s x = .quiescing → unitInUse s x = false →
      ((unitOf s x).toOff = true → Completes (.unitQuiesced x) s [.power, .units, .mbs, .ledger, .order, .chans, .pebs, .dps, .lanes, .fabric, .svc, .free] fun t =>
        unitState t x = .offline ∧ (unitOf t x).holder = .none)
      ∧ (∀ a d, (unitOf s x).toOff = false → (unitOf s x).holder = .host a d →
        Completes (.unitQuiesced x) s [.power, .units, .mbs, .ledger, .order, .chans, .pebs, .dps, .lanes, .fabric, .svc, .free] fun t =>
          unitState t x = .maintenance ∧ (unitOf t x).holder = .host a (decide (a = 0))))
    ∧ (∀ x, unitState s x ≠ .quiescing ∨ unitInUse s x = true → Idle (.unitQuiesced x) s)
    ∧ (Asked 0x0602 n [] s m u →
      let x := Msg.field m 16 2
      unitKnown x = true →
      (freeActive u x = true → Answers (.opcUnitRelease n) n s u m 0 [])
      ∧ (freeActive u x = false → mayRelease u x = false → Refuses (.opcUnitRelease n) n s u m 0x17 0xFFFF)
      ∧ (freeActive u x = false → mayRelease u x = true → x < 0x500 →
        Completes (.opcUnitRelease n) s [.units, .mbs, .rr, .chans, .fabric, .svc, .free] fun t =>
          unitState t x = backTo u x ∧ (unitOf t x).holder = .none ∧ ∀ y, y ≠ x → unitOf t y = unitOf s y))

/-- No command but a power-on reset or the release of a reset takes the device out of SAFE. In SAFE with no disarm under
way (which every run's SAFE is, by the statement ModesStayConsistent), every one of the 222 commands other than
POWER_ON_RESET, POWER_ON_RESET_RELEASE and WARM_RESET_RELEASE that answers a next state leaves the device in SAFE with
no disarm under way; so does the idle tick. A warm reset itself keeps DEV_MODE until its release (R30). [derived: R60;
R351; 04_modes_and_boot.md.] -/
def Obligations.SafeIsLeftOnlyByReset : Prop :=
  (∀ (c : Instr) (s t : State), s.dev.mode = .safe → s.dev.disarming = false → exec c s = .next t →
      c ≠ .powerOnReset → (∀ n b, c ≠ .powerOnResetRelease n b) → c ≠ .warmResetRelease →
      t.dev.mode = .safe ∧ t.dev.disarming = false)
    ∧ (∀ s t : State, s.pending = [] → s.dev.mode = .safe → s.dev.disarming = false → step s = .next t →
      t.dev.mode = .safe ∧ t.dev.disarming = false)

/-- In SAFE no disarm is under way, and SERVICE goes back to a mode other than SAFE and SERVICE. -/
def modesConsistent (s : State) : Prop :=
  (s.dev.mode = .safe → s.dev.disarming = false)
    ∧ (s.dev.mode = .service → s.dev.cameFrom ≠ .safe ∧ s.dev.cameFrom ≠ .service)

/-- In SAFE no disarm is under way and SERVICE returns to a mode outside SAFE, at reset and after every step. The state at
reset has the property, and every step that answers a next state keeps it: where the device is in SAFE no disarm is
under way, and where it is in SERVICE the mode it came from is neither SAFE nor SERVICE. [derived: R60; R351; R369;
R370; R278.] -/
def Obligations.ModesStayConsistent : Prop :=
  modesConsistent State.reset ∧ ∀ s t : State, modesConsistent s → step s = .next t → modesConsistent t

/-- In t the first cause that will end the item of slot i is kept: r where none was before. -/
def causeKept (s t : State) (i r : Nat) : Prop :=
  slotOf t i = { slotOf s i with cause := if (slotOf s i).cause = none then some (BitVec.ofNat 8 r) else (slotOf s i).cause }

/-- An item's end is recorded in its slot, an abort ends it by its kind's rule, and retiring frees the slot. In every mode
the end of an item that is open and the host's writes its final state, reason and T_END into its slot and leaves every
other slot that is not free. OPC_ITEM_ABORT of a terminal item answers ALREADY_TERMINAL (STATUS 0x02), of a free slot
or of another node's item through MB1 is refused with offset 6. Of an open item it completes and, unless the switches
held closed take the device on to BYPASS, ends with ABORTED_HOST at once a QUEUED item and an item of kind TDC,
ACQUIRE, LANE, LEVELS or CAL; in the slot of a TRANSFER in flight, of a BURST that plays, of a MEASURE whose routine
runs and of a DPS item that ramps it keeps the first cause for the stopping point; every other ends at once.
OPC_LEDGER_RETIRE frees each terminal item it names and toggles the slot's generation bit, and leaves every other slot
that is not free; where Spabry has no submission of its own waiting for a slot, those are the only slots that change;
where an item cannot be retired, the response names the first failure and the number retired. ITEM_TIME_LIMIT ends a
TDC, ACQUIRE or LANE item of a host that has a limit with TIMEOUT, asks the routine of a MEASURE item to stop, or ends
one whose routine has not begun, and changes nothing for any other. [derived: R91; R92; R95; R97; R109; R119; R220;
Table 5.9; Table 6.10; log 129.] -/
def Obligations.ItemsEndAreAbortedAndRetired : Prop :=
  (∀ (s : State) (i : Nat) (reason : Option Nat) (f : Slot → Slot), TabWf {} s.ledger → HostItem s i →
      (f (slotOf s i)).own = false →
      slotOf (endItem s i reason f) i = { f (slotOf s i) with
          st := if reason.isSome then .failed else .complete, reason := BitVec.ofNat 8 (reason.getD 0)
          tEnd := stamp s, cause := none, armed := false, budget := false }
        ∧ (∀ j, j ≠ i → (slotOf s j).st ≠ .free → slotOf (endItem s i reason f) j = slotOf s j)
        ∧ Touch [.dev, .units, .mbs, .ledger, .order, .fabric, .svc] s (endItem s i reason f))
    ∧ (∀ (n : Nat) (s u : State) (m : Msg), Asked 0x0102 n [] s m u → TabWf {} s.ledger →
      let i := namedSlot m
      let l := slotOf s i
      (l.st = .free ∨ foreign s n m i = true → Refuses (.opcItemAbort n) n s u m 0x14 6)
      ∧ (l.st ≠ .free → foreign s n m i = false → terminal l = true →
        Completes (.opcItemAbort n) s [.mbs, .rr, .fabric, .free] fun t =>
          t = respond u n m (mkResp u m 0x02 0 0xFFFF []))
      ∧ (foreign s n m i = false → HostItem s i → Completes (.opcItemAbort n) s [.power, .dev, .units, .hw, .mbs, .rr, .ledger, .order, .dacs, .chans, .pebs, .bursts, .seqs, .tdcs, .acqs, .dps, .resvs, .lanes, .queues, .dmas, .fabric, .press, .levee, .svc, .mem, .free] fun t =>
        s.power.bypassPend = false →
          (l.st = .queued ∨ l.kind = some .tdc ∨ l.kind = some .acquire ∨ l.kind = some .lane ∨ l.kind = some .levels
            ∨ l.kind = some .cal → Ended s t i (some 1))
          ∧ (l.st ≠ .queued →
            (l.kind = some .transfer → causeKept s t i 1)
            ∧ (l.kind = some .burst → if (burstOf s i).phase = .playing then causeKept s t i 1 else Ended s t i (some 1))
            ∧ (l.kind = some .measure → if (seqOf s (pMseq l.msg)).item = some i then causeKept s t i 1
              else Ended s t i (some 1))
            ∧ (l.kind = some .dps → if l.st = .inFlight ∧ admitted s i = true then causeKept s t i 1
              else Ended s t i (some 1)))))
    ∧ (∀ (n : Nat) (rem : Remote) (s u : State) (m : Msg), Asked 0x0104 n rem s m u → TabWf {} s.ledger →
      (extLen m = 0 → Msg.field m 16 1 = 0 ∨ 23 < Msg.field m 16 1 → Refuses (.opcLedgerRetire n rem) n s u m 0x14 16)
      ∧ (extLen m ≠ 0 ∨ (1 ≤ Msg.field m 16 1 ∧ Msg.field m 16 1 ≤ 23) →
        let ids := if extLen m = 0 then retireIds m else rangeIds u ((readExt u rem m).getD [])
        Completes (.opcLedgerRetire n rem) s [.units, .mbs, .rr, .ledger, .order, .fabric, .free] fun t =>
          (∀ j, (slotOf s j).st ≠ .free → (∀ id ∈ ids, retireFault s n m id = none → id % 2048 ≠ j) →
            slotOf t j = slotOf s j)
          ∧ ((∀ x, (unitOf s x).unslotted = 0) →
            (∀ id ∈ ids, retireFault s n m id = none → slotOf t (id % 2048) = { gen := ! (slotOf s (id % 2048)).gen })
            ∧ (∀ j, (∀ id ∈ ids, retireFault s n m id = none → id % 2048 ≠ j) → slotOf t j = slotOf s j)
            ∧ ∀ v k bad, retireList u n m ids = (v, k, bad) → t = match bad with
              | none => done v n m 0 []
              | some (st, d) => respond v n m (mkResp v m st 6 0xFFFF [(16, 4, d), (20, 2, k)]))))
    ∧ (∀ (i : Nat) (s : State), (slotOf s i).st = .inFlight → pTimeLimit (slotOf s i).msg ≠ 0 → TabWf {} s.ledger → Completes (.itemTimeLimit i) s [.dev, .units, .mbs, .ledger, .order, .seqs, .tdcs, .acqs, .lanes, .queues, .fabric, .levee, .svc, .mem, .free] fun t =>
        ((slotOf s i).own = false →
          ((slotOf s i).kind = some .tdc ∨ (slotOf s i).kind = some .acquire ∨ (slotOf s i).kind = some .lane →
            Ended s t i (some 12))
          ∧ ((slotOf s i).kind = some .measure →
            if (seqOf s (pMseq (slotOf s i).msg)).item = some i then causeKept s t i 12 else Ended s t i (some 12)))
        ∧ ((slotOf s i).kind ≠ some .tdc → (slotOf s i).kind ≠ some .acquire → (slotOf s i).kind ≠ some .lane →
          (slotOf s i).kind ≠ some .measure → t = s))
    ∧ (∀ (i : Nat) (s : State), (slotOf s i).st ≠ .inFlight ∨ pTimeLimit (slotOf s i).msg = 0 → Idle (.itemTimeLimit i) s)

/-- A schedule or a store is VERIFYING until its digest is done, and then VALID with the new content or BAD.
OPC_SCHEDULE_LOAD whose structural checks pass makes the ID VERIFYING with its content in force kept; an image error
is refused with 0x100 plus its code. At SCHEDULE_DIGEST_DONE a matching digest makes the ID VALID with the image, a
reserved field of it that is not zero is a misuse, and a mismatch or an unreadable image makes it BAD and ends the
BURSTs that name it. OPC_SCHEDULE_UNLOAD empties the ID. OPC_MSEQ_LOAD and MSEQ_DIGEST_DONE do the same to a
sequencer's store or patch memory. OPC_BURST_JUMP keeps the condition in a QUEUED BURST, requests the jump in one in
flight, and answers a terminal one with STATUS 0x02. OPC_LAYER_FREE frees an IDLE page at once and defers a page in
play. [derived: R115; R122; R126; R129; R130; R164; R217; R218; Table 6.14; Table 6.15.] -/
def Obligations.SchedulesAndStoresAreCheckedThenReplaced : Prop :=
  (∀ (n : Nat) (rem : Remote) (s u : State) (m : Msg), Asked 0x0501 n rem s m u → TabWf {} s.cfg.scheds →
      let id := Msg.field m 16 1
      let a := Msg.field m 24 8
      let len := Msg.field m 32 8
      id ≤ 15 →
      (∀ e, loadError u rem a len = some e → Refuses (.opcScheduleLoad n rem) n s u m 0x14 (0x100 + e))
      ∧ (loadError u rem a len = none → firstFail (schedBusy u id) = none →
        Completes (.opcScheduleLoad n rem) s [.mbs, .rr, .fabric, .free, .cfg] fun t =>
          (schedOf t id).st = .verifying ∧ (schedOf t id).image = (schedOf s id).image ∧ (schedOf t id).addr = (schedOf s id).addr
            ∧ (∃ g, (schedOf t id).check = some (a, len, g)) ∧ ∀ j, j ≠ id → schedOf t j = schedOf s j))
    ∧ (∀ (id : Nat) (rem : Remote) (s : State) (a len g : Nat), TabWf {} s.cfg.scheds → (schedOf s id).st = .verifying →
      (schedOf s id).check = some (a, len, g) →
      (∀ img, readBytes s rem a len = some img → digestWithout img 32 = (img.drop 32).take 32 →
        (imageReserved img = true → Misuses (.scheduleDigestDone id rem) s .reservedField)
        ∧ (imageReserved img = false → Completes (.scheduleDigestDone id rem) s [.cfg] fun t =>
          schedOf t id = { st := .valid, addr := a, image := img, check := none } ∧ ∀ j, j ≠ id → schedOf t j = schedOf s j))
      ∧ ((∀ img, readBytes s rem a len = some img → digestWithout img 32 ≠ (img.drop 32).take 32) → TabWf {} s.ledger →
        Completes (.scheduleDigestDone id rem) s [.dev, .units, .mbs, .ledger, .order, .cfg, .fabric, .svc] fun t =>
          schedOf t id = { schedOf s id with st := .bad } ∧ (∀ j, j ≠ id → schedOf t j = schedOf s j)
            ∧ ∀ i, HostItem s i → (slotOf s i).kind = some .burst → pSched (slotOf s i).msg = id → Ended s t i (some 9)))
    ∧ (∀ (id : Nat) (rem : Remote) (s : State), (schedOf s id).st ≠ .verifying → Idle (.scheduleDigestDone id rem) s)
    ∧ (∀ (n : Nat) (s u : State) (m : Msg), Asked 0x0502 n [] s m u → TabWf {} s.cfg.scheds → Msg.field m 16 1 ≤ 15 →
      firstFail (schedBusy u (Msg.field m 16 1)) = none →
      Completes (.opcScheduleUnload n) s [.mbs, .rr, .fabric, .free, .cfg] fun t =>
        schedOf t (Msg.field m 16 1) = {} ∧ ∀ j, j ≠ Msg.field m 16 1 → schedOf t j = schedOf s j)
    ∧ (∀ (n : Nat) (rem : Remote) (s u : State) (m : Msg), Asked 0x0604 n rem s m u → TabWf {} s.seqs →
      let q := Msg.field m 16 1
      let k := Msg.field m 17 1
      q ≤ 15 → k ≤ 1 → Msg.field m 24 8 % 64 = 0 →
      (∀ e, storeLoadError u rem (Msg.field m 24 8) (Msg.field m 32 4) k = some e →
        Refuses (.opcMseqLoad n rem) n s u m 0x14 (0x100 + e))
      ∧ (storeLoadError u rem (Msg.field m 24 8) (Msg.field m 32 4) k = none → unitState s (unitSeq q) = .maintenance →
        Completes (.opcMseqLoad n rem) s [.mbs, .rr, .fabric, .free, .seqs] fun t =>
          (if k = 0 then (seqOf t q).wState else (seqOf t q).pState) = .verifying
            ∧ (seqOf t q).store = (seqOf s q).store ∧ (seqOf t q).patch = (seqOf s q).patch
            ∧ (k, Msg.field m 24 8, Msg.field m 32 4) ∈ (seqOf t q).check ∧ ∀ j, j ≠ q → seqOf t j = seqOf s j))
    ∧ (∀ (q : Nat) (rem : Remote) (s : State) (k a len : Nat) (rest : List (Nat × Nat × Nat)), TabWf {} s.seqs →
      (seqOf s q).check = (k, a, len) :: rest →
      (∀ img, readBytes s rem a len = some img → digestWithout img 32 = (img.drop 32).take 32 →
        Completes (.mseqDigestDone q rem) s [.seqs] fun t =>
          seqOf t q = setStore k .valid (fillStore img k { seqOf s q with check := rest }) ∧ ∀ j, j ≠ q → seqOf t j = seqOf s j)
      ∧ ((∀ img, readBytes s rem a len = some img → digestWithout img 32 ≠ (img.drop 32).take 32) → TabWf {} s.ledger →
        Completes (.mseqDigestDone q rem) s [.dev, .units, .mbs, .ledger, .order, .dacs, .chans, .pebs, .bursts, .seqs, .tdcs, .acqs, .dps, .resvs, .lanes, .queues, .dmas, .fabric, .press, .levee, .svc, .mem, .free] fun t =>
          (if k = 0 then (seqOf t q).wState else (seqOf t q).pState) = .bad
            ∧ ∀ i, HostItem s i → (slotOf s i).kind = some .measure → pMseq (slotOf s i).msg = q →
              k = 1 ∨ pStore (slotOf s i).msg = 1 → Ended s t i (some 9)))
    ∧ (∀ (q : Nat) (rem : Remote) (s : State), (seqOf s q).check = [] → Idle (.mseqDigestDone q rem) s)
    ∧ (∀ (n : Nat) (s u : State) (m : Msg), Asked 0x0504 n [] s m u → TabWf {} s.ledger →
      (slotOf s (namedSlot m)).kind = some .burst → Msg.field m 16 1 ≤ 3 →
      (terminal (slotOf s (namedSlot m)) = true →
        Completes (.opcBurstJump n) s [.mbs, .rr, .fabric, .free] fun t =>
          t = respond u n m (mkResp u m 0x02 0 0xFFFF []))
      ∧ ((slotOf s (namedSlot m)).st = .queued →
        Completes (.opcBurstJump n) s [.mbs, .rr, .fabric, .free, .ledger] fun t =>
          slotOf t (namedSlot m) = { slotOf s (namedSlot m) with jump := some (Msg.field m 16 1) }
            ∧ ∀ j, j ≠ namedSlot m → slotOf t j = slotOf s j)
      ∧ (inFlight (slotOf s (namedSlot m)) = true → TabWf {} s.bursts →
        Completes (.opcBurstJump n) s [.mbs, .rr, .fabric, .free, .bursts] fun t =>
          burstOf t (namedSlot m) = { burstOf s (namedSlot m) with
              jump := some (Msg.field m 16 1, (burstOf s (namedSlot m)).vec - 1) }
            ∧ ∀ j, j ≠ namedSlot m → burstOf t j = burstOf s j))
    ∧ (∀ (n : Nat) (s u : State) (m : Msg) (g : Nat), Asked 0x0505 n [] s m u → TabWf {} s.pebs → Msg.field m 16 1 ≤ 11 →
      1 ≤ Msg.field m 17 1 → Msg.field m 17 1 ≤ 3 → askedPage s m = some g →
      let p := Msg.field m 16 1
      let l := Msg.field m 17 1
      let y := layerOf s p l
      (tget .idle y.st g = .free → Answers (.opcLayerFree n) n s u m 1 [(16, 1, 1)])
      ∧ (tget .idle y.st g ≠ .free → TabWf {} (pebOf s p).layers →
        Completes (.opcLayerFree n) s [.mbs, .rr, .fabric, .free, .pebs] fun t =>
          layerOf t p l = (if tget .idle y.st g = .idle then { y with st := tset .idle y.st g .free }
            else { y with freePend := y.freePend ++ [g], deferred := y.deferred + 1, inPlay := y.inPlay + 1 })
          ∧ (∀ k, k ≠ l → layerOf t p k = layerOf s p k) ∧ (∀ q, q ≠ p → pebOf t q = pebOf s q)))

/-- OPC_PORT_CONFIG trains a port, OPC_PAGE_HOME places pages, OPC_BOOT_SERVE starts serving. With PD4 on and the Ford
open, OPC_PORT_CONFIG puts the port it names into TRAINING for the host, with the lane dropped or restored as asked,
owes its response, and leaves the other ports' states and lanes; a change of lanes sets SYNC_DEGRADED; with the Ford
closed it is refused. OPC_PAGE_HOME gives each page of its range its local offset, in order, and leaves every other
page. OPC_BOOT_SERVE keeps the port, address and length to be served and owes its response, and while one serves a
second is refused; BOOT_SERVE_SILENCE ends the serving, and changes nothing where none runs. [derived: R148; R311;
R329; R378; Table 6.16; Table 17.1.] -/
def Obligations.FabricRequestsTrainHomeAndServe : Prop :=
  ∀ (n : Nat) (s u : State) (m : Msg),
    (Asked 0x0702 n [] s m u → TabWf {} u.fabric.ports →
      let p := Msg.field m 16 1
      let a := Msg.field m 17 1
      p ≤ 3 → a ≤ 2 → (a = 1 → Msg.field m 18 1 ≤ 3) → domOn s 4 = true →
      (s.power.fordClosed = true → Refuses (.opcPortConfig n) n s u m 0x17 0xFFFF)
      ∧ (s.power.fordClosed = false → Completes (.opcPortConfig n) s [.clock, .hw, .mbs, .rr, .fabric, .svc, .free] fun t =>
        (portOf t p).st = .training ∧ (portOf t p).byHost = true ∧ (TabWf {} s.mbs → Owes n m t)
          ∧ (portOf t p).drop = (if a = 1 then some (Msg.field m 18 1) else if a = 2 then none else (portOf u p).drop)
          ∧ (a = 0 → t.clock = s.clock ∧ ∀ q, q < 4 → q ≠ p → portOf t q = portOf u q)
          ∧ (a ≠ 0 → t.clock = { s.clock with syncDegraded := true }
            ∧ ∀ q, q < 4 → q ≠ p → (portOf t q).st = (portOf u q).st ∧ (portOf t q).drop = (portOf u q).drop)))
    ∧ (Asked 0x0703 n [] s m u → TabWf 0 s.cfg.homes →
      let f := Msg.field m 24 4
      let k := Msg.field m 28 4
      let o := Msg.field m 32 8
      f ≤ 33554431 → f + k ≤ 33554432 → o + 65536 * k ≤ localBytes s → domOn s 11 = true →
      Completes (.opcPageHome n) s [.mbs, .rr, .fabric, .free, .cfg] fun t =>
        (∀ j, tget 0 t.cfg.homes j = if f ≤ j ∧ j < f + k then o + 65536 * (j - f) + 1 else tget 0 s.cfg.homes j)
          ∧ t.cfg = { s.cfg with homes := t.cfg.homes })
    ∧ (Asked 0x0704 n [] s m u → Msg.field m 16 1 ≤ 3 →
      (u.fabric.serve = none → Completes (.opcBootServe n) s [.mbs, .rr, .fabric, .free] fun t =>
        t.fabric = { u.fabric with serve := some {
          port := portAt (Msg.field m 16 1), addr := Msg.field m 24 8, len := Msg.field m 32 4 } }
        ∧ (TabWf {} s.mbs → Owes n m t) ∧ ∀ j, j ≠ n → mbOf t j = mbOf u j)
      ∧ (u.fabric.serve.isSome = true → Refuses (.opcBootServe n) n s u m 0x17 0xFFFF))
    ∧ (s.fabric.serve.isSome = true → Completes .bootServeSilence s [.fabric, .mbs] fun t => t.fabric.serve = none)
    ∧ (s.fabric.serve = none → Idle .bootServeSilence s)

/-- An acknowledgement up to the index k (R362); which one ends the reaction of a lost THERMAL event is the model's free choice
(log 157). -/
def acked (s t : State) (k : BitVec 16) : Prop :=
  (isUnacked s k = true → t.levee = { s.levee with
        ackTo := k + 1, latches := t.levee.latches, thermLost := t.levee.thermLost }
      ∧ (s.levee.thermLost = false → t.levee.thermLost = false ∧ t.free = s.free)
      ∧ ∀ l, l ∈ t.levee.latches ↔ l ∈ s.levee.latches ∧ isUnacked t l.index = true)
    ∧ (isUnacked s k = false → t.levee = s.levee)

/-- Events are acknowledged in order, injections rehearse a record, LEVEE_CTRL writes are recorded. OPC_EVENT_ACK and
LEVEE_ACK_WRITE of an unacknowledged index move ACK_TO past it and drop the latches of the records acknowledged; of
any other index they change nothing of Levee. OPC_FAULT_INJECT of a detector that may be injected starts an injection,
and while one runs a second is refused; INJECTION_END ends it, and with none running changes nothing: where no
detection has come meanwhile and the log has room it writes one record for each region of the detector, marked
INJECTED, and else none. LEVEE_CTRL_WRITE sets LEVEE_CTRL to the value's defined bits and, where the log has room and
no such record is latched, writes a SUPERVISION record (detector 0x3E00, region 0x0809) with them as its detail.
[derived: R354; R360; R361; R362; R364; Table 6.17; Table 19.6.] -/
def Obligations.EventsAreAcknowledgedAndInjected : Prop :=
  (∀ (v : Word) (s : State),
      (s.power.porHeld = false → Completes (.leveeAckWrite v) s [.levee, .free] fun t => acked s t (v.setWidth 16))
      ∧ (s.power.porHeld = true → Idle (.leveeAckWrite v) s))
    ∧ (∀ (n : Nat) (s u : State) (m : Msg),
      (Asked 0x0802 n [] s m u → Completes (.opcEventAck n) s [.mbs, .rr, .fabric, .free, .levee] fun t =>
        acked u t (BitVec.ofNat 16 (Msg.field m 16 2)))
      ∧ (Asked 0x0803 n [] s m u → 1 ≤ Msg.field m 18 1 →
        (noInjection s (Msg.field m 16 2) = true → Refuses (.opcFaultInject n) n s u m 0x14 16)
        ∧ (noInjection s (Msg.field m 16 2) = false → injecting s = true →
          Refuses (.opcFaultInject n) n s u m 0x17 0xFFFF)
        ∧ (noInjection s (Msg.field m 16 2) = false → injecting s = false →
          Completes (.opcFaultInject n) s [.mbs, .rr, .fabric, .free, .levee] fun t =>
            t.levee = { s.levee with inject := some { det := BitVec.ofNat 16 (Msg.field m 16 2) } })))
    ∧ (∀ s : State, (s.levee.inject = none → Idle .injectionEnd s)
      ∧ (∀ x, s.levee.inject = some x → Completes .injectionEnd s [.levee, .mbs, .fabric, .svc, .free] fun t =>
        t.levee.inject = none ∧ t.levee.ackTo = s.levee.ackTo ∧ t.levee.latches = s.levee.latches
          ∧ t.levee.shadows = s.levee.shadows
          ∧ (x.raw = true ∨ detInfo s x.det.toNat 0 false = none → t = { s with levee := { s.levee with inject := none } })
          ∧ (∀ base rs, x.raw = false → detInfo s x.det.toNat 0 false = some (base, rs) → unacked s + rs.length ≤ 496 →
            TabWf {} s.levee.log → t.levee.head = s.levee.head + BitVec.ofNat 16 rs.length
              ∧ ∀ region, rs = [region] → (recAt t s.levee.head).det = x.det ∧ (recAt t s.levee.head).base = base
                ∧ (recAt t s.levee.head).region = BitVec.ofNat 16 region ∧ (recAt t s.levee.head).time = stamp s
                ∧ (recAt t s.levee.head).flags.getLsbD 1 = true)))
    ∧ (∀ (v : Word) (s : State), s.power.porHeld = true → Idle (.leveeCtrlWrite v) s)
    ∧ (∀ (v : Word) (s : State), s.power.porHeld = false → latchOf s 0x3E00 0x0809 = none → unacked s ≤ 495 →
      TabWf {} s.levee.log →
      Completes (.leveeCtrlWrite v) s [.power, .dev, .units, .hw, .mbs, .ledger, .order, .dacs, .chans, .pebs, .bursts, .seqs, .tdcs, .acqs, .dps, .resvs, .lanes, .queues, .dmas, .fabric, .press, .house, .levee, .svc, .mem, .free] fun t =>
        t.levee.ctrl = v &&& 0x9F#32 ∧ t.levee.head = s.levee.head + 1 ∧ t.levee.ackTo = s.levee.ackTo
          ∧ (recAt t s.levee.head).det = 0x3E00#16 ∧ (recAt t s.levee.head).region = 0x0809#16
          ∧ (recAt t s.levee.head).cls = 3 ∧ (recAt t s.levee.head).detail = v &&& 0x9F#32
          ∧ (recAt t s.levee.head).time = stamp s ∧ t.dev = s.dev)

/-- OPC_SERVICE_BEGIN checks an image, which SERVICE installs in the other bank. OPC_SERVICE_BEGIN whose image's header
passes, of the version in force's major number, with no CAL item in flight and no change under way, keeps the image's
address, length and version and owes its response; a header error is refused with 0x100 plus its code.
SERVICE_IMAGE_CHECKED with a digest that agrees, in a mode of OP with no CAL item in flight, enters SERVICE, puts the
body into the inactive bank and hands the watchdog over; where the digest does not agree, the image cannot be read,
the mode is not one of OP or a CAL item is in flight, the change is over and the firmware stays as it is.
SERVICE_BANK_CHANGE_DONE makes the other bank the active one, with the new version and the microcode that its image
carries (log 14), and ends SERVICE: in BYPASS where FORD_CLOSE_N fell during it, and in IDLE where it came from IDLE
and the host does not hold the switches closed; it changes nothing in another mode. [derived: R123; R369; R370; R371;
R372; R373; Table 6.17.] -/
def Obligations.FirmwareChangesInService : Prop :=
  (∀ (n : Nat) (rem : Remote) (s u : State) (m : Msg), Asked 0x0901 n rem s m u →
      let a := Msg.field m 24 8
      let len := Msg.field m 32 4
      (∀ e, serviceError u rem a len = some e → Refuses (.opcServiceBegin n rem) n s u m 0x14 (0x100 + e))
      ∧ (serviceError u rem a len = none → imageVersion u rem a >>> 24 ≠ s.boot.version >>> 24 →
        Refuses (.opcServiceBegin n rem) n s u m 0x14 24)
      ∧ (serviceError u rem a len = none → imageVersion u rem a >>> 24 = s.boot.version >>> 24 → calBusy s = none →
        s.svc.busy = false → Completes (.opcServiceBegin n rem) s [.mbs, .rr, .fabric, .free, .svc] fun t =>
          t.svc = { s.svc with busy := true, addr := a, len := len, version := imageVersion u rem a }
            ∧ (TabWf {} s.mbs → Owes n m t)))
    ∧ (∀ (rem : Remote) (s : State), s.svc.busy = true → s.dev.mode ≠ .service →
      (readBytes s rem s.svc.addr s.svc.len = none
          ∨ (∃ img, readBytes s rem s.svc.addr s.svc.len = some img ∧ digestOk img = false)
          ∨ s.dev.mode ∉ [Mode.idle, .armed, .run, .pause] ∨ (calBusy s).isSome = true →
        Completes (.serviceImageChecked rem) s [.mbs, .fabric, .svc] fun t => t.svc = {})
      ∧ (∀ img, readBytes s rem s.svc.addr s.svc.len = some img → digestOk img = true →
        s.dev.mode ∈ [Mode.idle, .armed, .run, .pause] → calBusy s = none →
        Completes (.serviceImageChecked rem) s [.boot, .dev, .levee] fun t =>
          t.dev = { s.dev with
            mode := .service, prev := s.dev.mode, changes := s.dev.changes + 1, cameFrom := s.dev.mode }
          ∧ t.boot = (if s.boot.bank = 0 then { s.boot with bank1 := img.drop 128 }
              else { s.boot with bank0 := img.drop 128 })
          ∧ t.levee = { s.levee with dogRun := false, dogSvc := true }))
    ∧ (∀ (rem : Remote) (s : State), s.svc.busy = false ∨ s.dev.mode = .service → Idle (.serviceImageChecked rem) s)
    ∧ (∀ s : State, s.dev.mode = .service → Completes .serviceBankChangeDone s [.power, .dev, .units, .clock, .hw, .boot, .mbs, .ledger, .order, .dacs, .chans, .pebs, .bursts, .seqs, .tdcs, .acqs, .dps, .resvs, .lanes, .queues, .dmas, .fabric, .press, .levee, .svc, .mem, .free] fun t =>
        t.boot = { s.boot with
          bank := 1 - s.boot.bank, version := s.svc.version
          pressStore := Config.pressMicro (if s.boot.bank = 0 then s.boot.bank1 else s.boot.bank0) }
        ∧ (s.svc.ford = true → t.dev.mode = .bypass)
        ∧ (s.svc.ford = false → s.dev.cameFrom = .idle → s.power.bypassPend = false → t.dev.mode = .idle))
    ∧ (∀ s : State, s.dev.mode ≠ .service → Idle .serviceBankChangeDone s)

/-- A detection is repeated, recorded or escalated, and a FATAL one enters SAFE. While a reset is held, of a detector that
does not watch the region, or masked there (detMasked: a page that reads as zero, a DPS output that is off, at its
limit or short of headroom, a transmitter that drives, a DAC that its monitoring converter reads in its band), a
detection changes nothing. With no injection running, and of any detector but a rail's, one whose latch stands adds to
its record's REPEATS. Otherwise a CORRECTED event of a region with no shadow and no earlier open record of its class
writes one record of class 0 where the log has room; a FATAL event enters SAFE; a CONTAINED event against an open
CONTAINED record of its region escalates and enters SAFE. A watchdog that runs and fires enters SAFE where its record
is not latched; one that does not run changes nothing. REACTION_SHADOW_CLOSE removes the first shadow of its record,
and no other. [derived: R351; R352; R354; R355; R356; R357; R358; R361; Tables 19.2, 19.3.] -/
def Obligations.DetectionsAreClassifiedAndReactedTo : Prop :=
  (∀ (det region : BitVec 16) (detail : Word) (read : Nat) (unc : Bool) (ns : Nat) (s : State),
      let c := Instr.leveeDetection det region ⟨detail, read⟩ unc ns
      (inReset s = true → Idle c s)
      ∧ (inReset s = false → detInfo s det.toNat detail.toNat unc = none → Idle c s)
      ∧ (inReset s = false → ∀ base rs, detInfo s det.toNat detail.toNat unc = some (base, rs) →
        (region.toNat ∉ rs ∨ detWatches s det.toNat region.toNat = false
            ∨ detMasked s det.toNat region.toNat detail.toNat read = true → Idle c s)
        ∧ (region.toNat ∈ rs → detWatches s det.toNat region.toNat = true →
            detMasked s det.toNat region.toNat detail.toNat read = false → s.levee.inject = none → det.toNat / 256 ≠ 0x32 →
          (∀ i, latchOf s det.toNat region.toNat = some i → TabWf {} s.levee.log → Completes c s [.levee] fun t =>
            recAt t i = { recAt s i with repeats :=
                if (recAt s i).repeats = BitVec.allOnes 32 then (recAt s i).repeats else (recAt s i).repeats + 1 }
              ∧ (∀ j, j.toNat % 512 ≠ i.toNat % 512 → recAt t j = recAt s j) ∧ t.levee.head = s.levee.head)
          ∧ (latchOf s det.toNat region.toNat = none → base = 0 → det.toNat / 256 ≠ 0x34 →
            shadowOver s region.toNat = none → escalator s region.toNat 0 = none → fatalRegion region.toNat = false →
            unacked s ≤ 495 → TabWf {} s.levee.log →
            Completes c s [.levee, .mbs, .fabric, .svc, .free] fun t =>
              t.levee.head = s.levee.head + 1 ∧ (recAt t s.levee.head).cls = 0 ∧ (recAt t s.levee.head).det = det
                ∧ (recAt t s.levee.head).region = region ∧ (recAt t s.levee.head).detail = detail
                ∧ t.levee.shadows = s.levee.shadows)
          ∧ (latchOf s det.toNat region.toNat = none → base = 2 → shadowOver s region.toNat = none → s.dev.mode ≠ .off →
            Completes c s [.power, .dev, .units, .hw, .mbs, .ledger, .order, .dacs, .chans, .pebs, .bursts, .seqs, .tdcs, .acqs, .dps, .resvs, .lanes, .queues, .dmas, .fabric, .press, .house, .levee, .svc, .mem, .free] fun t => t.dev.mode = .safe)
          ∧ (latchOf s det.toNat region.toNat = none → base = 1 → det.toNat / 256 ≠ 0x34 →
            shadowOver s region.toNat = none → (escalator s region.toNat 1).isSome = true → s.dev.mode ≠ .off →
            Completes c s [.power, .dev, .units, .hw, .mbs, .ledger, .order, .dacs, .chans, .pebs, .bursts, .seqs, .tdcs, .acqs, .dps, .resvs, .lanes, .queues, .dmas, .fabric, .press, .house, .levee, .svc, .mem, .free] fun t => t.dev.mode = .safe))))
    ∧ (∀ s : State, s.dev.mode ≠ .off → s.levee.inject = none →
      (s.levee.dogRun = true → latchOf s 0x0300 0x0800 = none → shadowOver s 0x0800 = none →
        Completes (.watchdog .run) s [.power, .dev, .units, .hw, .mbs, .ledger, .order, .dacs, .chans, .pebs, .bursts, .seqs, .tdcs, .acqs, .dps, .resvs, .lanes, .queues, .dmas, .fabric, .press, .house, .levee, .svc, .mem, .free] fun t => t.dev.mode = .safe)
      ∧ (s.levee.dogSvc = true → latchOf s 0x0300 0x0800 = none → shadowOver s 0x0800 = none →
        Completes (.watchdog .service) s [.power, .dev, .units, .hw, .mbs, .ledger, .order, .dacs, .chans, .pebs, .bursts, .seqs, .tdcs, .acqs, .dps, .resvs, .lanes, .queues, .dmas, .fabric, .press, .house, .levee, .svc, .mem, .free] fun t => t.dev.mode = .safe)
      ∧ (s.levee.dogBoot = true → latchOf s 0x0301 0x0800 = none → shadowOver s 0x0800 = none →
        Completes (.watchdog .bootReport) s [.power, .dev, .units, .hw, .mbs, .ledger, .order, .dacs, .chans, .pebs, .bursts, .seqs, .tdcs, .acqs, .dps, .resvs, .lanes, .queues, .dmas, .fabric, .press, .house, .levee, .svc, .mem, .free] fun t => t.dev.mode = .safe))
    ∧ (∀ s : State, (s.levee.dogRun = false → Idle (.watchdog .run) s) ∧ (s.levee.dogSvc = false → Idle (.watchdog .service) s)
      ∧ (s.levee.dogBoot = false → Idle (.watchdog .bootReport) s))
    ∧ (∀ (i : BitVec 16) (s : State), Completes (.reactionShadowClose i) s [.levee] fun t =>
        t.levee = { s.levee with shadows := t.levee.shadows }
          ∧ ((∀ h ∈ s.levee.shadows, h.index ≠ i) → t.levee.shadows = s.levee.shadows)
          ∧ ∀ a h b, s.levee.shadows = a ++ h :: b → h.index = i → (∀ g ∈ a, g.index ≠ i) → t.levee.shadows = a ++ b)

/-- In t the monitor of channel c has the configuration w and has reported its output with the flags f: the record stands in
the result queue where it is routed there, and no other channel changes (R201, Table 10.5). -/
def monReported (s t : State) (c : Nat) (high : Bool) (f : Nat) (w : Wmon) : Prop :=
  chanOf t c = { chanOf s c with mon := w } ∧ (∀ j, j ≠ c → chanOf t j = chanOf s j)
    ∧ (w.route.getLsbD 0 = false ∨ burstOn s (c / 64) = none → t.bursts = s.bursts ∧ t.queues =
      if w.route.getLsbD 1 then
        (queueWrite s (c / 64) 2 (liveCount s)
          (wmonRecord (modChan s c fun y => { y with mon := w }) c high f)).1.queues
      else s.queues)

/-- A LEVELS item in slot k waits for an edge of TRIG_IN i (R193). -/
def strobeWaits (s : State) (i k : Nat) : Prop :=
  inFlight (slotOf s k) = true ∧ (slotOf s k).kind = some .levels ∧ (slotOf s k).armed = true
    ∧ pStrobe (slotOf s k).msg = i + 1

/-- A monitor's transition is reported, coalesced or ends a stuck state, and a TRIG_IN edge fires its function. A ball
above the high threshold gives HIGH and one below the low threshold LOW; between them, on a monitor that is off, or
where the output has not changed, WMON_TRANSITION changes nothing. Of a monitor that is powered, a change within 20 ns
of the last event adds to COALESCED and reports nothing; the first definite output is reported with FIRST, and one out
of STUCK with UNSTUCK; any other is reported with no flag. A report sets the reported level and writes the record to
the result queue where it is routed there (and to the streams of a BURST that plays the PEB); no other channel
changes. The end of a coalescing time reports an output that differs with COALESCED_SINCE. HIGH past the stuck hold
makes the monitor STUCK. A TRIG_IN edge within 20 ns is coalesced and fires nothing; out of STUCK it fires nothing; a
falling edge only becomes the reported level, and a rising one fires: function 1 asks for PAUSE in RUN, function 2
requests its jump in every BURST that plays on its PEBs, the LEVELS items that wait for the input strobe and complete,
and the ACQUIRE items that wait for it take the edge. An edge that changes nothing, in reset or at no input, changes
nothing. [derived: R199; R200; R201; R202; R203; R62; R156; R193; R255; Tables 10.4, 10.5.] -/
def Obligations.MonitorsAndTriggersReportEdges : Prop :=
  (∀ (c : Nat) (ball : Int) (within : Bool) (s : State), TabWf {} s.chans →
      let x := (chanOf s c).mon
      let out : Option Bool :=
        if threshold x.hi < ball then some true else if ball < threshold x.lo then some false else none
      let parts : List Part := [.chans, .bursts, .queues]
      (out = none ∨ monOn s c = false ∨ x.st = out → Idle (.wmonTransition c ball within) s)
      ∧ (∀ high, out = some high → monOn s c = true →
        (x.st = none → Completes (.wmonTransition c ball within) s parts fun t =>
          monReported s t c high 1 { x with st := some high, rep := some high })
        ∧ (x.st = some (! high) → x.stuck = true → Completes (.wmonTransition c ball within) s parts fun t =>
          monReported s t c high 2 { x with st := some high, stuck := false, rep := some high })
        ∧ (x.st = some (! high) → x.stuck = false → within = false → Completes (.wmonTransition c ball within) s parts fun t =>
          monReported s t c high 0 { x with st := some high, rep := some high })
        ∧ (x.st = some (! high) → x.stuck = false → within = true →
          Completes (.wmonTransition c ball within) s [.chans] fun t =>
            chanOf t c = { chanOf s c with mon := { x with st := some high, coal := satInc x.coal } }
              ∧ ∀ j, j ≠ c → chanOf t j = chanOf s j))
      ∧ (∀ h, monOn s c = true → x.st = some h → x.stuck = false → x.rep = some (! h) →
        Completes (.wmonCoalesceEnd c) s parts fun t => monReported s t c h 4 { x with rep := some h })
      ∧ (c < 768 → x.rep = x.st ∨ x.st = none ∨ x.rep = none ∨ x.stuck = true ∨ monOn s c = false →
        Idle (.wmonCoalesceEnd c) s)
      ∧ (monOn s c = true → x.st = some true → x.hold ≠ 0 → Completes (.wmonStuck c) s [.chans] fun t =>
        chanOf t c = { chanOf s c with mon := { x with stuck := true } } ∧ ∀ j, j ≠ c → chanOf t j = chanOf s j)
      ∧ (x.st ≠ some true ∨ x.hold = 0 ∨ monOn s c = false → Idle (.wmonStuck c) s))
    ∧ (∀ (i : Nat) (rising within : Bool) (s : State), TabWf {} s.cfg.trig →
      let x := (trigOf s i).mon
      let w : Wmon := { x with st := some rising, rep := some rising }
      (4 ≤ i ∨ x.st = some rising ∨ inReset s = true → Idle (.trigInEdge i rising within) s)
      ∧ (i < 4 → x.st ≠ some rising → inReset s = false →
        (x.stuck = true → Completes (.trigInEdge i rising within) s [.cfg] fun t =>
          trigOf t i = { trigOf s i with mon := { w with stuck := false } })
        ∧ (x.stuck = false → within = true → Completes (.trigInEdge i rising within) s [.cfg] fun t =>
          trigOf t i = { trigOf s i with mon := { x with st := some rising, coal := satInc x.coal } })
        ∧ (x.stuck = false → within = false → rising = false → Completes (.trigInEdge i rising within) s [.cfg] fun t =>
          trigOf t i = { trigOf s i with mon := w })
        ∧ (x.stuck = false → within = false → rising = true →
          Completes (.trigInEdge i rising within) s [.dev, .units, .mbs, .ledger, .order, .cfg, .dacs, .bursts, .seqs, .acqs, .dps, .fabric, .svc] fun t =>
            trigOf t i = { trigOf s i with mon := w }
            ∧ ((∀ k, ¬ strobeWaits s i k) →
              ((trigOf s i).fn ≠ 1 → t.dev = s.dev)
              ∧ ((trigOf s i).fn = 1 → s.dev.mode = .run → t.dev.mode = .run → t.dev.pauseReq = true))
            ∧ ((trigOf s i).fn = 2 → TabWf {} s.bursts → ∀ b, playing (burstOf s b) = true →
              (burstOf s b).pebs &&& (trigOf s i).pebs ≠ 0 →
              burstOf t b = { burstOf s b with jump := some ((trigOf s i).cond, (burstOf s b).vec - 1) })
            ∧ (TabWf {} s.ledger → (∀ k, (slotOf s k).kind = some .levels → (slotOf s k).own = false) →
              ∀ k, strobeWaits s i k → Ended s t k none)
            ∧ (TabWf {} s.acqs → ∀ k slot, (acqOf s k).started = true → (acqOf s k).edge = false →
              (acqOf s k).item = some slot → inFlight (slotOf s slot) = true → (slotOf s slot).kind = some .acquire →
              pTrigger (slotOf s slot).msg = 3 + i →
              (acqOf t k).edge = true ∧ (acqOf t k).tTrig = stamp s)))
      ∧ (i < 4 → x.st = some true → x.hold ≠ 0 → Completes (.trigInStuck i) s [.cfg] fun t =>
          trigOf t i = { trigOf s i with mon := { x with stuck := true } } ∧ ∀ j, j ≠ i → trigOf t j = trigOf s j)
      ∧ (4 ≤ i ∨ x.st ≠ some true ∨ x.hold = 0 → Idle (.trigInStuck i) s))
    ∧ (∀ (i : Nat) (s : State), i < 4 → TabWf {} s.cfg.trig → Completes (.wmonCoalesceEnd (768 + i)) s [.cfg] fun t =>
        trigOf t i = { trigOf s i with mon := { (trigOf s i).mon with rep := (trigOf s i).mon.st } })

/-- Housekeeping takes a reading per slot, and queues, correction slews and sines move on their own time. Outside reset,
HOUSEKEEPING_SLOT takes the reading of its slot (readSlot) and goes on to the next; after slot 63 comes slot 0 and the
next round. A rail's reading stands in its register with VALID and OUTSIDE and decides whether the rail is present.
REFERENCE_FULL_ACCURACY stands while PD31 is on. THROTTLE_WINDOW_END ends the window and changes nothing else but
THROTTLED flags. QUEUE_FLUSH_TIMEOUT completes the partial read word of its queue with zeros. CORRECTION_SLEW_STEP
moves every DAC whose slew runs by one code, and no other. SINE_UPDATE advances every sine that is on by 16 steps, and
no other. [derived: R333; R334; R341; R342; R344; R346; R264; R339; R207; Tables 18.3, 18.4.] -/
def Obligations.HousekeepingReadsAndThrottles : Prop :=
  (∀ (r : Option Int) (f : Bool) (s : State), inReset s = false → Completes (.housekeepingSlot r f) s [.power, .dev, .units, .hw, .mbs, .ledger, .order, .dacs, .chans, .pebs, .bursts, .seqs, .tdcs, .acqs, .dps, .resvs, .lanes, .queues, .dmas, .fabric, .press, .house, .levee, .svc, .mem, .free] fun t =>
        t.house.slot = (if s.house.slot < 63 then s.house.slot + 1 else 0)
          ∧ t.house.round = (if s.house.slot < 63 then s.house.round else s.house.round + 1))
    ∧ (∀ (r : Option Int) (f : Bool) (s : State), inReset s = true → Idle (.housekeepingSlot r f) s)
    ∧ (∀ (v : Int) (f : Bool) (s : State), inReset s = false → 11 ≤ s.house.slot → s.house.slot ≤ 25 → TabWf 0 s.house.rail →
      Completes (.housekeepingSlot (some v) f) s [.house, .power] fun t =>
        let k := s.house.slot - 11
        tget 0 t.house.rail k = hkWord s true (! railInside k v) v ∧ t.power.rails.getLsbD k = railInside k v
          ∧ (∀ j, j ≠ k → tget 0 t.house.rail j = tget 0 s.house.rail j) ∧ t.power.pdOn = s.power.pdOn)
    ∧ (∀ s : State, Completes .referenceFullAccuracy s [.power] fun t =>
        t.power = { s.power with refFull := s.power.refFull || s.power.pdOn.getLsbD 31 })
    ∧ (∀ s : State, (s.house.window = true → TabWf {} s.ledger → Completes .throttleWindowEnd s [.house, .ledger] fun t =>
        t.house = { s.house with window := false }
          ∧ ∀ i, slotOf t i = slotOf s i ∨ ((slotOf s i).st = .queued ∧ slotOf t i = flagSlot 128 (slotOf s i)))
      ∧ (s.house.window = false → Idle .throttleWindowEnd s))
    ∧ (∀ (q : Nat) (s : State), TabWf {} s.queues →
      (q < 14 → Completes (.queueFlushTimeout q) s [.queues] fun t => (∀ j, j ≠ q → queueOf t j = queueOf s j)
        ∧ ((queueOf s q).part = [] → queueOf t q = queueOf s q)
        ∧ ((queueOf s q).part ≠ [] → (queueOf t q).part = [] ∧ (queueOf t q).words = (queueOf s q).words
            ++ [{ bytes := (queueOf s q).part ++ zeros (32 - (queueOf s q).part.length), valid := (queueOf s q).part.length }]))
      ∧ (14 ≤ q → Idle (.queueFlushTimeout q) s))
    ∧ (∀ s : State, TabWf {} s.dacs → Completes .correctionSlewStep s [.dacs, .dps] fun t =>
        ∀ k, ((dacOf s k).slew = none → dacOf t k = dacOf s k)
          ∧ (∀ x, (dacOf s k).slew = some x → (dacOf s k).active ≠ x →
            (dacOf t k).active = (if (dacOf s k).active.toNat < x.toNat then (dacOf s k).active + 1 else (dacOf s k).active - 1)
              ∧ (dacOf t k).shadow = (dacOf s k).shadow ∧ (dacOf t k).clear = (dacOf s k).clear))
    ∧ (∀ s : State, TabWf {} s.chans → Completes .sineUpdate s [.dacs, .chans, .dps] fun t =>
        ∀ c, ((chanOf s c).sine.on = true → (chanOf t c).sine.phase
            = BitVec.ofNat 32 ((chanOf s c).sine.phase.toNat + 16 * (chanOf s c).sine.step.toNat))
          ∧ ((chanOf s c).sine.on = false → chanOf t c = chanOf s c))

/-- The dispatch commands of a slot but CAL's, each with the kind it dispatches. -/
def dispatches (i : Nat) : List (Kind × Instr) :=
  [(.burst, .burstDispatch i), (.measure, .measureDispatch i), (.tdc, .tdcDispatch i), (.acquire, .acquireDispatch i),
   (.transfer, .transferDispatch i), (.levels, .levelsDispatch i), (.dps, .dpsDispatch i), (.lane, .laneDispatch i)]

/-- The item in slot i has been dispatched in t, from s. -/
def dispatched (i : Nat) (k : Kind) (s t : State) : Prop :=
  (slotOf t i).st = .inFlight ∧ (slotOf t i).tStart = stamp s ∧ (slotOf t i).msg = (slotOf s i).msg
    ∧ t.dev.mode = if s.dev.mode = .armed ∧ k ≠ .transfer then .run else s.dev.mode

/-- Dispatched, or held at once because a pause is asked for (R62). -/
def dispatchedOrHeld (i : Nat) (k : Kind) (s t : State) : Prop :=
  (s.dev.pauseReq = false → dispatched i k s t)
    ∧ (s.dev.pauseReq = true → (slotOf t i).st = .held ∧ (slotOf t i).tStart = stamp s)

/-- Does the action of the item in slot i take place at its dispatch (R52)? -/
def actsNow (s : State) (i : Nat) : Bool :=
  ! pStartAt (slotOf s i).msg || (timePast s i && syncReady s (slotOf s i) && s.clock.locked)

/-- The DACs of a group take their shadow codes, and no other changes (R193). -/
def groupLoaded (g : Nat) (s t : State) : Prop :=
  ∀ k, ((dacOf t k).shadow = (dacOf s k).shadow ∧ (dacOf t k).clear = (dacOf s k).clear)
    ∧ (k ∉ groupDacs s g → dacOf t k = dacOf s k)
    ∧ (k ∈ groupDacs s g → (dacOf t k).active = (dacOf s k).shadow ∧ (dacOf t k).dirty = false ∧ (dacOf t k).slew = none
      ∧ (dacOf t k).byClr = s.power.clrLow)

/-- The command fails class k of the CAL item in slot i: the item ends with CAL_LIMIT, its unit goes OFFLINE with the
corrections as they were, Press is free, and CAL_FAIL is detected in the unit's region (R336, Table 19.3). -/
def FailsCal (c : Instr) (s : State) (i k : Nat) : Prop :=
  ∃ v, exec c s = .next (settleBypass (detectOwn v 0x2600 (pUnit (slotOf s i).msg) k false))
    ∧ (HostItem s i → Ended s v i (some 13)) ∧ (unitOf v (pUnit (slotOf s i).msg)).st = .offline
    ∧ (unitOf v (pUnit (slotOf s i).msg)).faulted = true ∧ v.press.item = none ∧ v.press.staged = []
    ∧ v.corrs = s.corrs ∧ v.tdcW = s.tdcW ∧ v.tdcLat = s.tdcLat

/-- An item that may be dispatched goes IN_FLIGHT, is started, armed or held; a timed action fires at its START_TIME. A
dispatch of an item that may not be dispatched as that kind (canDispatch) changes nothing; nor does that of a BURST
whose schedule is not VALID, of a MEASURE item whose store is being verified or whose sequencer still unwinds, or of a
TRANSFER whose channel still waits. Else the item is IN_FLIGHT with T_START the present count, and ARMED becomes RUN
but for CAL and TRANSFER; where a pause is asked for, a DPS item, and a MEASURE item that waits for its START_TIME,
are HELD at once. The unit that carries the item names it: the BURST its schedule and ENTRY, the sequencer its
routine's first word, the TDCs, the acquisition buffer, the DMA channel, the lanes. A DPS item enables its channels. A
PIN descriptor with a reserved field set is a misuse; a store found BAD ends the MEASURE item with SIGNATURE. A LEVELS
item ends COMPLETE with its strobe made, or is armed where it waits for TRIG_IN or its START_TIME lies ahead. CAL
keeps the item as the one in progress with its classes in order, but ends with UNIT_ENABLED where a class needs an
enabled DPS channel off, and fails its timing class where the TDC array has no calibration. HEADWATER_TIMED_FIRE at or
past START_TIME, the timing clock running, performs the armed item's action; else it changes nothing. [derived: R15;
R16; R52; R64; R91; R115; R153; R193; R221; R268; R336; Table 5.10.] -/
def Obligations.ItemsAreDispatchedWhenTheyMay : Prop :=
  ∀ (i : Nat) (s : State), TabWf {} s.ledger →
    let l := slotOf s i
    let m := l.msg
    (∀ k c, (k, c) ∈ dispatches i → canDispatch s i k = false → Idle c s)
    ∧ (canDispatch s i .burst = true →
      TabWf {} s.bursts →
      let img := (schedOf s (pSched m)).image
      let reserved := (pinSegments img).any fun n => descReserved (descBytes img n)
      ((schedOf s (pSched m)).st ≠ .valid → Idle (.burstDispatch i) s)
      ∧ ((schedOf s (pSched m)).st = .valid → reserved = true → Misuses (.burstDispatch i) s .reservedField)
      ∧ ((schedOf s (pSched m)).st = .valid → reserved = false →
        Completes (.burstDispatch i) s [.dev, .ledger, .chans, .pebs, .bursts, .fabric] fun t => dispatched i .burst s t
          ∧ (burstOf t i).sched = pSched m ∧ (burstOf t i).entry = pEntry m ∧ (burstOf t i).seg = pEntry m
          ∧ ((burstOf t i).phase = .pinning ∨ (burstOf t i).phase = .fetching)
          ∧ ∀ j, j ≠ i → (burstOf s j).phase ≠ .pinning → burstOf t j = burstOf s j))
    ∧ (canDispatch s i .measure = true → TabWf {} s.seqs →
      let q := pMseq m
      (storeWaits s m = true ∨ (seqOf s q).adrift = true → Idle (.measureDispatch i) s)
      ∧ (storeWaits s m = false → (seqOf s q).adrift = false →
        (storeBad s m = true → Completes (.measureDispatch i) s [.dev, .units, .mbs, .ledger, .order, .seqs, .fabric, .svc] fun t =>
          (HostItem s i → Ended s t i (some 9)) ∧ t.seqs = s.seqs)
        ∧ (storeBad s m = false → actsNow s i = true →
          Completes (.measureDispatch i) s [.dev, .units, .mbs, .ledger, .order, .seqs, .fabric, .svc] fun t => dispatched i .measure s t
            ∧ (seqOf t q).item = some i ∧ (seqOf t q).addr = BitVec.ofNat 14 (pRoutine m + 0x2000 * pStore m)
            ∧ (seqOf t q).reqPause = s.dev.pauseReq ∧ (seqOf t q).gen = s.press.gen ∧ (seqOf t q).stack = []
            ∧ ∀ r, r ≠ q → seqOf t r = seqOf s r)
        ∧ (storeBad s m = false → actsNow s i = false →
          Completes (.measureDispatch i) s [.dev, .units, .mbs, .ledger, .order, .seqs, .fabric, .svc] fun t => dispatchedOrHeld i .measure s t
            ∧ (slotOf t i).armed = true ∧ (seqOf t q).item = (seqOf s q).item ∧ (seqOf t q).gen = s.press.gen
            ∧ ∀ r, r ≠ q → seqOf t r = seqOf s r)))
    ∧ (canDispatch s i .tdc = true → TabWf {} s.tdcs →
      Completes (.tdcDispatch i) s [.dev, .ledger, .tdcs] fun t => dispatched i .tdc s t
        ∧ ∀ n, (n ∈ itemTdcs m → (tdcOf t n).item = some i ∧ (tdcOf t n).index = 0 ∧ (tdcOf t n).series = pSeries m
            ∧ (tdcOf t n).sum = 0 ∧ (tdcOf t n).armed = actsNow s i)
          ∧ (n ∉ itemTdcs m → tdcOf t n = tdcOf s n))
    ∧ (canDispatch s i .acquire = true → TabWf {} s.acqs →
      Completes (.acquireDispatch i) s [.dev, .ledger, .seqs, .acqs] fun t => dispatched i .acquire s t
        ∧ (acqOf t (pBuffer m)).item = some i ∧ (acqOf t (pBuffer m)).samples = []
        ∧ (acqOf t (pBuffer m)).started = actsNow s i ∧ (acqOf t (pBuffer m)).gen = s.press.gen
        ∧ ∀ k, k ≠ pBuffer m → acqOf t k = acqOf s k)
    ∧ (canDispatch s i .transfer = true →
      ((dmaOf s (pDma m)).phase ≠ .idle → Idle (.transferDispatch i) s)
      ∧ ((dmaOf s (pDma m)).phase = .idle → TabWf {} s.dmas →
        Completes (.transferDispatch i) s [.dev, .ledger, .dmas, .fabric] fun t => dispatched i .transfer s t
          ∧ (dmaOf t (pDma m)).item = some i ∧ (dmaOf t (pDma m)).phase = .fetching
          ∧ (dmaOf t (pDma m)).addr = pDesc m))
    ∧ (canDispatch s i .levels = true →
      (pStrobe m ≠ 0 ∨ actsNow s i = false →
        Completes (.levelsDispatch i) s [.dev, .ledger] fun t => dispatched i .levels s t ∧ (slotOf t i).armed = true)
      ∧ (pStrobe m = 0 → actsNow s i = true → TabWf {} s.dacs →
        Completes (.levelsDispatch i) s [.dev, .units, .mbs, .ledger, .order, .dacs, .dps, .fabric, .svc] fun t => groupLoaded (pGroup m) s t
          ∧ (HostItem s i → Ended s t i none ∧ (slotOf t i).progress = 1
            ∧ (slotOf t i).result = BitVec.ofNat 64 (stamp s).toNat)))
    ∧ (canDispatch s i .dps = true → TabWf {} s.dps →
      Completes (.dpsDispatch i) s [.dev, .mbs, .ledger, .dps, .resvs, .queues, .fabric, .free] fun t => dispatchedOrHeld i .dps s t
        ∧ ∀ n, (n ∈ dpsList (pDpsMask m) → (dpsOf t n).enabled = true
            ∧ (dpsOf t n).set = (if (dpsOf s n).enabled then (dpsOf s n).set else 0))
          ∧ (n ∉ dpsList (pDpsMask m) → (dpsOf t n).enabled = (dpsOf s n).enabled))
    ∧ (canDispatch s i .lane = true → TabWf {} s.lanes →
      Completes (.laneDispatch i) s [.dev, .ledger, .lanes] fun t => dispatched i .lane s t
        ∧ ∀ n, n ∈ laneList m → (laneOf t n).item = some i ∧ (actsNow s i = true → (laneOf t n).begun = true))
    ∧ (lacksArray s l = false →
      (canDispatch s i .cal = false → Idle (.calDispatch i) s)
      ∧ (canDispatch s i .cal = true → dpsEnabled s l = false →
        Completes (.calDispatch i) s [.dev, .units, .mbs, .ledger, .chans, .fabric, .press, .svc, .free] fun t =>
          t.press.item = some i ∧ t.press.left = classOrder (pClasses m) ∧ t.press.staged = []
            ∧ (slotOf t i).st = .inFlight ∧ (slotOf t i).tStart = stamp s ∧ t.dev = s.dev)
      ∧ (canDispatch s i .cal = true → dpsEnabled s l = true → TabWf {} s.units →
        Completes (.calDispatch i) s [.power, .dev, .units, .hw, .mbs, .ledger, .order, .dacs, .chans, .pebs, .bursts, .seqs, .tdcs, .acqs, .dps, .resvs, .lanes, .queues, .dmas, .fabric, .press, .house, .levee, .svc, .mem, .free] fun t => (HostItem s i → Ended s t i (some 15))
          ∧ t.press.item = s.press.item ∧ t.press.left = s.press.left ∧ t.press.staged = s.press.staged
          ∧ (hostHeld s (pUnit m) = true → (unitOf t (pUnit m)).st = .offline ∧ (unitOf t (pUnit m)).faulted = true)))
    ∧ (lacksArray s l = true →
      let v := modUnit s unitTdc fun v => { v with st := .active }
      (canDispatch v i .cal = false → Idle (.calDispatch i) s)
      ∧ (canDispatch v i .cal = true → TabWf {} s.units → FailsCal (.calDispatch i) s i 2))
    ∧ (let due := l.st = .inFlight ∧ l.armed = true ∧ pStartAt m = true ∧ (l.kind = some .levels → pStrobe m = 0)
        ∧ s.hw.running = true ∧ s.clock.locked = true ∧ timePast s i = true ∧ syncReady s l = true
      (¬ due → Idle (.headwaterTimedFire i) s)
      ∧ (due → TabWf {} s.bursts → TabWf {} s.seqs → TabWf {} s.tdcs → TabWf {} s.acqs → TabWf {} s.dps →
          TabWf {} s.lanes → TabWf {} s.dacs →
        Completes (.headwaterTimedFire i) s [.dev, .units, .mbs, .ledger, .order, .dacs, .pebs, .bursts, .seqs, .tdcs, .acqs, .dps, .resvs, .lanes, .queues, .fabric, .svc, .free] fun t =>
        (l.kind ≠ some .levels → (slotOf t i).st = .inFlight ∧ (slotOf t i).armed = false ∧ (slotOf t i).tStart = l.tStart)
        ∧ (l.kind = some .levels → groupLoaded (pGroup m) s t ∧ (HostItem s i → Ended s t i none))
        ∧ (l.kind = some .burst → (burstOf t i).phase = .playing ∧ (burstOf t i).begun = true
          ∧ (burstOf t i).tRef = if l.flags.getLsbD 2 then stamp s else pStartTime m)
        ∧ (l.kind = some .measure → (seqOf t (pMseq m)).item = some i
          ∧ (seqOf t (pMseq m)).addr = BitVec.ofNat 14 (pRoutine m + 0x2000 * pStore m)
          ∧ (seqOf t (pMseq m)).reqPause = s.dev.pauseReq)
        ∧ (l.kind = some .tdc → ∀ n, n ∈ itemTdcs m → (tdcOf t n).armed = true ∧ (tdcOf t n).index = (tdcOf s n).index)
        ∧ (l.kind = some .acquire → (acqOf t (pBuffer m)).started = true
          ∧ (acqOf t (pBuffer m)).item = (acqOf s (pBuffer m)).item)
        ∧ (l.kind = some .dps → (∀ n, (dpsOf t n).set = (dpsOf s n).set ∧ (dpsOf t n).enabled = (dpsOf s n).enabled)
          ∧ (dpsList (pDpsMask m) ≠ [] → (slotOf t i).budget = true ∨ admitted t i = true))
        ∧ (l.kind = some .lane → ∀ n, n ∈ itemLanes s i → (laneOf t n).begun = true ∧ (laneOf t n).tStart = stamp s)))

/-- Fetches are issued, waited for and taken in order; a BURST starts when its opening granules are resident.
SEGMENT_FETCH_ISSUE of a tracked segment whose time has come (its descriptor resident; its plan entry absent or its
LEAD reached) issues, or keeps waiting, every fetch of its opening granules; else nothing changes. FETCH_RESIDENT of a
fetch in progress puts the bytes read into the cache, counts one that cannot be read as lost, and stops at metadata
that differ from the image loaded; of any other fetch it changes nothing. PIN_BODY_ABANDONED of the body being pinned
goes on with the next. STREAMING_ROOM_FREED admits waiting fetches in order until one finds no room. BURST_START of a
BURST whose opening granules are resident begins play at the present count, or arms it for a START_TIME ahead; until
then it changes nothing. None of them changes another BURST, but that one which waits for its turn to pin may then go
on. [derived: R147; R149; R150; R151; R153; R165; R179; R130; R132; R5.] -/
def Obligations.BurstsFetchAndStart : Prop :=
  ∀ (i : Nat) (s : State), TabWf {} s.bursts → TabWf {} s.ledger →
    let b := burstOf s i
    let img := burstImg s b
    (∀ ord seg : Nat,
      let due := inFlight (slotOf s i) = true ∧ b.phase ≠ .pinning ∧ (ord, seg) ∈ tracked img b
        ∧ resident b (metaKey ord seg .desc) = true
        ∧ (resident b (metaKey ord seg .plan) = false ∨ distTo img b ord ≤ 64 * leadIn img seg)
        ∧ bodyIssued b ord seg = false
      (¬ due → Idle (.segmentFetchIssue i ord seg) s)
      ∧ (due → Completes (.segmentFetchIssue i ord seg) s [.pebs, .bursts, .fabric] fun t =>
        (∀ j, j ≠ i → burstOf t j = burstOf s j)
          ∧ ∀ g, g < opening (descIn img seg) → ∀ k, k ∈ granuleKeys img b ord seg g →
            resident (burstOf t i) k = true ∨ k ∈ (burstOf t i).issued ∨ k ∈ (burstOf t i).waiting
              ∨ (burstOf t i).lost.any (sameData k) = true))
    ∧ (∀ (k : Slice) (rem : Remote),
      let got := if fetchDead s i k = true then none else fetchBytes s rem b k
      (k ∉ b.issued → Idle (.fetchResident i k rem) s)
      ∧ (k ∈ b.issued → got = none →
        Completes (.fetchResident i k rem) s [.bursts] fun t =>
          burstOf t i = { b with issued := b.issued.erase k, lost := b.lost ++ [k] }
            ∧ ∀ j, j ≠ i → burstOf t j = burstOf s j)
      ∧ (k ∈ b.issued → ∀ bs, got = some bs →
        (∀ f, isMeta k = true → metaMisuse img k bs = some f → Misuses (.fetchResident i k rem) s f)
        ∧ ((isMeta k = false ∨ metaMisuse img k bs = none) → k.kind ≠ .pin →
          Completes (.fetchResident i k rem) s [.pebs, .bursts, .fabric] fun t =>
            (burstOf t i).cache = b.cache ++ [(k, bs)] ∧ ∀ j, j ≠ i → burstOf t j = burstOf s j)
        ∧ (k.kind = .pin → Completes (.fetchResident i k rem) s [.pebs, .bursts, .fabric] fun t =>
            (burstOf t i).pinned = tset [] b.pinned k.seg bs
              ∧ ∀ j, j ≠ i → (burstOf s j).phase ≠ .pinning → burstOf t j = burstOf s j)))
    ∧ (∀ seg : Nat,
      (¬ (b.phase = .pinning ∧ b.pinLeft.head? = some seg ∧ pinFetching b = true) → Idle (.pinBodyAbandoned i seg) s)
      ∧ (b.phase = .pinning → b.pinLeft.head? = some seg → pinFetching b = true →
        Completes (.pinBodyAbandoned i seg) s [.pebs, .bursts, .fabric] fun t =>
          (burstOf t i).pinned = b.pinned ∧ (∃ n, (burstOf t i).pinLeft = b.pinLeft.tail.drop n)
            ∧ ∀ j, j ≠ i → (burstOf s j).phase ≠ .pinning → burstOf t j = burstOf s j))
    ∧ Completes (.streamingRoomFreed i) s [.pebs, .bursts, .fabric] (fun t =>
        (b.phase ≠ .pinning → ∃ n, (burstOf t i).waiting = b.waiting.drop n
            ∧ (burstOf t i).issued = b.issued ++ b.waiting.take n)
          ∧ ((∀ j, (burstOf s j).phase ≠ .pinning) → ∀ k rest, (burstOf t i).waiting = k :: rest →
            roomFor t (sliceSize img k) = false)
          ∧ ∀ j, j ≠ i → (burstOf s j).phase ≠ .pinning → burstOf t j = burstOf s j)
    ∧ (let ready := (slotOf s i).st = .inFlight ∧ b.phase = .fetching ∧ openingReady s b 0 b.entry = true
      (¬ ready → Idle (.burstStart i) s)
      ∧ (ready → pStartAt (slotOf s i).msg = true → countPast (stamp s) (pStartTime (slotOf s i).msg) = false →
        Completes (.burstStart i) s [.ledger, .bursts] fun t =>
          (slotOf t i).armed = true ∧ burstOf t i = { b with phase := .armed })
      ∧ (ready → pStartAt (slotOf s i).msg = false →
        Completes (.burstStart i) s [.ledger, .pebs, .bursts, .queues] fun t =>
          (burstOf t i).phase = .playing ∧ (burstOf t i).tRef = stamp s ∧ (burstOf t i).tZero = stamp s ∧ (burstOf t i).begun = true
            ∧ (burstOf t i).vec = b.vec ∧ ∀ j, j ≠ i → burstOf t j = burstOf s j)
      ∧ (ready → pStartAt (slotOf s i).msg = true → countPast (stamp s) (pStartTime (slotOf s i).msg) = true →
        Completes (.burstStart i) s [.ledger, .pebs, .bursts, .queues] fun t =>
          (burstOf t i).phase = (if syncReady s (slotOf s i) ∧ s.clock.locked = true then .playing else .armed)
            ∧ (slotOf t i).flags.getLsbD 2 = true))

/-- A vector plays on every claimed PEB, a junction selects, a boundary is crossed or held, pages are released.
VECTOR_PLAY of a vector that is due plays it in turn on each claimed PEB that no CONTAINED fault has taken and moves
the BURST to the next vector and vector address; codes outside Table 9.3 or a PMU connected to a driven channel are
misuse; where none is due nothing changes. Playing a PEB's part gives each of its 64 channels the state its action
leaves (playPin) and no other. UNDERRUN where a slice is absent marks its lane groups and, in a segment that is not
stall-safe, is the cause of the end. At the sampling point of a junction whose record is resident the successor is the
one selected, else NEXT. At a boundary with no cause of an end, a BURST with no successor ends COMPLETE, or with
NOT_TAKEN where a jump is pending; an underrun that is the cause, or another cause where there is a successor, ends it
with that reason; one whose successor is ready goes on with vector 0 of it, or holds where a pause is taken. STALL_END
counts the stall and crosses; THROTTLE_HOLD_END counts the hold. LAYER_PAGE_RELEASE makes a draining page, no fetch
from it outstanding, free where a free is pending, else idle; of a page that has become NEXT again it settles the
frees alone. Out of place, each changes nothing. [derived: R139; R152; R157; R160; R164; R165; R166; R171; R172; R173;
R174; R248.] -/
def Obligations.BurstsPlayVectorsAndCrossBoundaries : Prop :=
  (∀ (i : Nat) (seen : List Seen) (s : State), TabWf {} s.bursts →
      let u := modBurst (applyUnderrun s i) i fun b => { b with vecFails := 0 }
      let img := burstImg u (burstOf u i)
      let d := descIn img (burstOf u i).seg
      (vectorDue s (burstOf s i) = false → Idle (.vectorPlay i seen) s)
      ∧ (vectorDue s (burstOf s i) = true → ∀ f, vectorMisuse u (burstOf u i) img d = some f →
        Misuses (.vectorPlay i seen) s f)
      ∧ (vectorDue s (burstOf s i) = true → vectorMisuse u (burstOf u i) img d = none →
        Completes (.vectorPlay i seen) s [.ledger, .chans, .pebs, .bursts, .queues] fun t =>
          t.chans = ((livePebs (burstOf u i)).foldl (fun s p => playPeb s i img d seen p) u).chans
            ∧ (burstOf t i).vec = (burstOf s i).vec + 1 ∧ (burstOf t i).vaddr = ((burstOf s i).vaddr + 1) % 2 ^ 40
            ∧ (burstOf t i).tRef = (burstOf s i).tRef ∧ (burstOf t i).seg = (burstOf s i).seg
            ∧ (∀ c, c / 64 ∉ livePebs (burstOf s i) → chanOf t c = chanOf s c)
            ∧ ∀ j, j ≠ i → burstOf t j = burstOf s j))
    ∧ (∀ (s : State) (i p : Nat) (img : List Byte) (d : SegDesc) (seen : List Seen), TabWf {} s.chans →
      let b := burstOf s i
      let ctl := pebControl s b img d p
      (∀ c, c < 64 →
        let a := composePin s b img d p c
        chanOf (playPeb s i img d seen p) (64 * p + c)
          = (playPin (chanOf s (64 * p + c)) a (pinEdges s p c ctl.1 a.sym) (tget (0 : Nat) b.sAcc p : Nat) s.clock.delayLocked
              (b.vec = d.hold) (siteMasked s b (64 * p + c)) ctl.2.1 (seenOf seen (64 * p + c))).1)
      ∧ ∀ c, c / 64 ≠ p → chanOf (playPeb s i img d seen p) c = chanOf s c)
    ∧ (∀ (i : Nat) (s : State), TabWf {} s.bursts → TabWf {} s.ledger →
      let b := burstOf s i
      let d := descIn (burstImg s b) b.seg
      let lacks := b.phase = .playing ∧ b.vec < d.length ∧ (missingLanes s b ≠ [] ∨ missingTracks s b ≠ [])
      (¬ lacks → Idle (.underrun i) s)
      ∧ (lacks → Completes (.underrun i) s [.ledger, .bursts, .queues] fun t =>
        (burstOf t i).segUr = true ∧ (∀ e, e ∈ missingLanes s b → (burstOf t i).ur.getLsbD e.1 = true)
          ∧ (slotOf t i).cause = (if d.stallSafe then (slotOf s i).cause else some ((slotOf s i).cause.getD 5))
          ∧ ∀ j, j ≠ i → burstOf t j = burstOf s j))
    ∧ (∀ (i : Nat) (s : State), TabWf {} s.bursts →
      let b := burstOf s i
      let img := burstImg s b
      let d := descIn img b.seg
      (¬ (b.phase = .playing ∧ b.vec + 48 = d.length ∧ b.sampled = false) ∨ d.junction = none →
        Idle (.junctionSamplingPoint i) s)
      ∧ (b.phase = .playing → b.vec + 48 = d.length → b.sampled = false → ∀ j, d.junction = some j →
        (resident b (metaKey b.ord b.seg .junction) = true →
          let r := juncIn img j
          let before := tget 0 b.matched j
          let m := if r.isMatch then matchedNow s b r before else before
          Completes (.junctionSamplingPoint i) s [.pebs, .bursts, .fabric] fun t =>
            (burstOf t i).sampled = true
              ∧ (burstOf t i).sel = r.succ.getD (selectIndex b r m (tget 0 b.iters j)).1 none
              ∧ ∀ k, k ≠ i → burstOf t k = burstOf s k)
        ∧ (resident b (metaKey b.ord b.seg .junction) = false →
          Completes (.junctionSamplingPoint i) s [.pebs, .bursts, .fabric] fun t =>
            (burstOf t i).sampled = true ∧ (burstOf t i).sel = d.next ∧ (burstOf t i).segLate = true)))
    ∧ (∀ (i : Nat) (s : State), TabWf {} s.bursts → TabWf {} s.ledger →
      let b := burstOf s i
      let d := descIn (burstImg s b) b.seg
      let ends := b.phase = .playing ∧ b.vec = d.length ∧ (d.junction = none ∨ b.sampled = true)
      (¬ ends → Idle (.burstSegmentBoundary i) s)
      ∧ (ends → Completes (.burstSegmentBoundary i) s [.dev, .units, .mbs, .ledger, .order, .chans, .pebs, .bursts, .queues, .fabric, .levee, .svc, .mem, .free] fun t =>
        ∀ j, j ≠ i → (burstOf s j).phase ≠ .pinning → burstOf t j = burstOf s j)
      ∧ (ends → b.segLate = false → (slotOf s i).cause = none → b.jump = none → successor s b = none →
        Completes (.burstSegmentBoundary i) s [.dev, .units, .mbs, .ledger, .order, .chans, .pebs, .bursts, .queues, .fabric, .levee, .svc, .mem, .free] fun t => burstOf t i = {}
          ∧ (HostItem s i → Ended s t i none ∧ (slotOf t i).progress = (slotOf s i).progress + 1))
      ∧ (ends → b.segLate = false → (∀ n, successor s b = some n → resident b (metaKey (b.ord + 1) n .desc) = true) →
          ∀ r, (slotOf s i).cause = some r → r = 5 ∨ (successor s b).isSome = true →
        Completes (.burstSegmentBoundary i) s [.dev, .units, .mbs, .ledger, .order, .chans, .pebs, .bursts, .queues, .fabric, .levee, .svc, .mem, .free] fun t => burstOf t i = {}
          ∧ (HostItem s i → Ended s t i (some r.toNat)))
      ∧ (ends → b.segLate = false → (slotOf s i).cause = none → b.jump.isSome = true → successor s b = none →
        Completes (.burstSegmentBoundary i) s [.dev, .units, .mbs, .ledger, .order, .chans, .pebs, .bursts, .queues, .fabric, .levee, .svc, .mem, .free] fun t => burstOf t i = {}
          ∧ (HostItem s i → Ended s t i (some 7)))
      ∧ (ends → b.segLate = false → (slotOf s i).cause = none → b.segUr = false → ∀ n, successor s b = some n →
          resident b (metaKey (b.ord + 1) n .desc) = true →
        (pauseTaken b d = false → Completes (.burstSegmentBoundary i) s [.dev, .units, .mbs, .ledger, .order, .chans, .pebs, .bursts, .queues, .fabric, .levee, .svc, .mem, .free] fun t =>
          (burstOf t i).phase = .playing ∧ (burstOf t i).seg = n ∧ (burstOf t i).ord = b.ord + 1
            ∧ (burstOf t i).vec = 0 ∧ (slotOf t i).progress = (slotOf s i).progress + 1)
        ∧ (pauseTaken b d = true → ∀ r, b.pause = some r →
          Completes (.burstSegmentBoundary i) s [.dev, .units, .mbs, .ledger, .order, .chans, .pebs, .bursts, .queues, .fabric, .levee, .svc, .mem, .free] fun t =>
            (burstOf t i).phase = .hold r.throttle ∧ (burstOf t i).pause = none ∧ (burstOf t i).seg = b.seg)))
    ∧ (∀ (i n : Nat) (s : State), TabWf {} s.bursts →
      let b := burstOf s i
      (b.phase ≠ .stall ∨ successor s b = none → Idle (.stallEnd i n) s)
      ∧ (b.phase = .stall → ∀ g, successor s b = some g →
        (openingReady s b (b.ord + 1) g = false → Idle (.stallEnd i n) s)
        ∧ (openingReady s b (b.ord + 1) g = true →
          Completes (.stallEnd i n) s [.ledger, .chans, .pebs, .bursts, .queues, .fabric] fun t =>
            (burstOf t i).phase = .playing ∧ (burstOf t i).seg = g ∧ (burstOf t i).vec = 0
              ∧ (burstOf t i).stalls = b.stalls + 1 ∧ (burstOf t i).stallVecs = b.stallVecs + n))
      ∧ (b.phase ≠ .hold true → Idle (.throttleHoldEnd i n) s)
      ∧ (b.phase = .hold true → Completes (.throttleHoldEnd i n) s [.ledger, .chans, .pebs, .bursts, .queues, .fabric] fun t =>
          (burstOf t i).holds = b.holds + 1 ∧ ∀ j, j ≠ i → burstOf t j = burstOf s j))
    ∧ (∀ (p l g : Nat) (s : State), TabWf {} s.pebs → TabWf {} (pebOf s p).layers → TabWf .idle (layerOf s p l).st →
      (∀ e, (layerOf s p l).drain.find? (fun e => e.1 = g) = some e → Completes (.layerPageRelease p l g) s [.pebs] fun t =>
        layerOf t p l = { layerOf s p l with
          drain := (layerOf s p l).drain.erase e, deferred := (layerOf s p l).deferred - BitVec.ofNat 32 e.2 })
      ∧ ((∀ e ∈ (layerOf s p l).drain, e.1 ≠ g) →
          tget .idle (layerOf s p l).st g ≠ .draining ∨ pageFetching s p l g = true → Idle (.layerPageRelease p l g) s)
      ∧ ((∀ e ∈ (layerOf s p l).drain, e.1 ≠ g) → tget .idle (layerOf s p l).st g = .draining → pageFetching s p l g = false →
        Completes (.layerPageRelease p l g) s [.pebs] fun t =>
          tget .idle (layerOf t p l).st g = (if g ∈ (layerOf s p l).freePend then .free else .idle)
            ∧ g ∉ (layerOf t p l).freePend
            ∧ ∀ h, h ≠ g → tget .idle (layerOf t p l).st h = tget .idle (layerOf s p l).st h))

/-- The word commands of a sequencer, each with the SEQ codes it runs. -/
def wordCommands (q : Nat) : List (List Nat × Instr) :=
  [([0, 6, 7], .seqGo q), ([1], .seqCall q), ([2], .seqReturn q), ([3], .seqWait q), ([4], .seqEnd q),
   ([5], .unwindDone q)]

/-- The word w of sequencer q may run in s: for an item, or to unwind once its item has ended (R220). -/
def wordRuns (q : Nat) (w : BitVec 144) (s : State) : Prop :=
  w = fetchWord (seqOf s q) (seqOf s q).addr ∧ mayRun (seqOf s q) w = true

/-- The routine of sequencer q is over in t, and its item, a host's, has ended with the reason. -/
def routineOver (q : Nat) (reason : Option Nat) (s t : State) : Prop :=
  (seqOf t q).item = none ∧ (seqOf t q).adrift = false ∧ (seqOf t q).targets = []
    ∧ ∀ i, (seqOf s q).item = some i → HostItem s i → Ended s t i reason

/-- A sequencer's word runs its operations and goes to its next address, waits, calls, returns or ends. A word that may
run (a routine, no hold, no wait, no request that its safe point takes first) and has the SEQ code of the command
runs: GO, and the reserved codes, go to the formed address; CALL also stacks the address after the word; RETURN takes
the top of the stack, or ends the item on an empty one; WAIT goes on where the timer is zero and else waits with its
formed address; END ends the item COMPLETE, and UNWIND_DONE with the first cause requested. A word's timer, unwind and
counter fields load the timer, the unwind address and the counter. A word that closes a PMU switch on a channel a
BURST drives is misuse. Any other word, or one that may not run, changes nothing. TIMER_DONE clears the timer and lets
the waiting word go on unless a request is to be taken; a request taken at a safe point goes to the unwind address or
holds the item. RANGE_CHANGE_DONE ends a range change and keeps the instant of its end, by which a conversion that
overlapped it is told. None of the words changes another sequencer. [derived: R187; R206; R213; R214; R220; R221;
R222; R282; Table 11.1.] -/
def Obligations.SequencersRunTheirWords : Prop :=
  (∀ (q : Nat) (s : State) (ks : List Nat) (c : Instr), (ks, c) ∈ wordCommands q →
      ((∀ w, wordRuns q w s → mw w 107 105 ∉ ks) → Idle c s)
      ∧ (∀ w, wordRuns q w s → mw w 107 105 ∈ ks → wordMisuse s q w = true → Misuses c s .pmuOnDriven)
      ∧ (∀ w, wordRuns q w s → mw w 107 105 ∈ ks → wordMisuse s q w = false →
        Completes c s [.dev, .units, .mbs, .ledger, .order, .dacs, .chans, .seqs, .fabric, .levee, .svc, .mem, .free] fun t =>
          ∀ r, r ≠ q → seqOf t r = seqOf s r))
    ∧ (∀ (q : Nat) (w : BitVec 144) (s : State), TabWf {} s.seqs → TabWf {} s.ledger → wordRuns q w s →
        wordMisuse s q w = false →
      let x := seqOf s q
      let imm := mw w 95 64
      let timer := if mw w 97 96 = 1 then imm % 2 ^ 24 else if mw w 97 96 = 2 then imm % 2 ^ 24 * 256 else x.timer
      (mw w 107 105 ∈ [0, 6, 7] → Completes (.seqGo q) s [.ledger, .dacs, .chans, .seqs, .fabric, .levee, .mem, .free] fun t =>
        (seqOf t q).addr = formedAddr s q w ∧ (seqOf t q).item = x.item ∧ (seqOf t q).stack = x.stack
          ∧ (seqOf t q).timer = timer
          ∧ (seqOf t q).unwind = (if mw w 102 102 = 1 then BitVec.ofNat 14 imm else x.unwind)
          ∧ (mw w 101 100 = 1 → TabWf 0 x.ctrs → tget 0 (seqOf t q).ctrs (mw w 99 98) = BitVec.ofNat 16 imm))
      ∧ (mw w 107 105 = 1 → Completes (.seqCall q) s [.ledger, .dacs, .chans, .seqs, .fabric, .levee, .mem, .free] fun t =>
        (seqOf t q).addr = formedAddr s q w ∧ (seqOf t q).stack = ((x.addr + 1) :: x.stack).take 8)
      ∧ (mw w 107 105 = 2 →
        (∀ a rest, x.stack = a :: rest → Completes (.seqReturn q) s [.dev, .units, .mbs, .ledger, .order, .dacs, .chans, .seqs, .fabric, .levee, .svc, .mem, .free] fun t =>
          (seqOf t q).addr = a ∧ (seqOf t q).stack = rest ∧ (seqOf t q).item = x.item)
        ∧ (x.stack = [] → Completes (.seqReturn q) s [.dev, .units, .mbs, .ledger, .order, .dacs, .chans, .seqs, .fabric, .levee, .svc, .mem, .free] (routineOver q none s)))
      ∧ (mw w 107 105 = 3 → Completes (.seqWait q) s [.ledger, .dacs, .chans, .seqs, .fabric, .levee, .mem, .free] fun t =>
        (timer = 0 → (seqOf t q).addr = formedAddr s q w ∧ (seqOf t q).waiting = false)
          ∧ (timer ≠ 0 → (seqOf t q).addr = x.addr ∧ (seqOf t q).waiting = true
            ∧ (seqOf t q).formed = formedAddr s q w ∧ (seqOf t q).timer = timer))
      ∧ (mw w 107 105 = 4 → Completes (.seqEnd q) s [.dev, .units, .mbs, .ledger, .order, .dacs, .chans, .seqs, .fabric, .levee, .svc, .mem, .free] (routineOver q none s))
      ∧ (mw w 107 105 = 5 → ∀ r, x.reqAbort = some r →
        Completes (.unwindDone q) s [.dev, .units, .mbs, .ledger, .order, .dacs, .chans, .seqs, .fabric, .levee, .svc, .mem, .free] (routineOver q (some r.toNat) s))
      ∧ (mw w 107 105 = 5 → x.reqAbort = none → Completes (.unwindDone q) s [.dev, .units, .mbs, .ledger, .order, .dacs, .chans, .seqs, .fabric, .levee, .svc, .mem, .free] fun t =>
        ∃ r, routineOver q (some r) s t))
    ∧ (∀ (q : Nat) (s : State), TabWf {} s.seqs →
      let x := seqOf s q
      (x.held = true → Idle (.timerDone q) s)
      ∧ (x.held = false → Completes (.timerDone q) s [.seqs] fun t =>
        seqOf t q = (if x.waiting ∧ seqRequested x = false then { x with timer := 0, waiting := false, addr := x.formed }
          else { x with timer := 0 })
        ∧ ∀ r, r ≠ q → seqOf t r = seqOf s r))
    ∧ (∀ (q : Nat) (s : State), TabWf {} s.seqs → TabWf {} s.ledger →
      let x := seqOf s q
      let taken := routineOn x = true ∧ seqRequested x = true
        ∧ (x.held = true ∨ atSafePoint x (fetchWord x x.addr) = true) ∧ (x.reqAbort.isSome = true ∨ x.held = false)
      (¬ taken → Idle (.mseqRequestTaken q) s)
      ∧ (taken → x.reqAbort.isSome = true →
        Completes (.mseqRequestTaken q) s [.ledger, .seqs] fun t =>
          seqOf t q = { x with addr := x.unwind, inUnwind := true, waiting := false, held := false, reqPause := false
                               reqHost := false, reqFault := false }
            ∧ ∀ i, x.item = some i → (slotOf t i).st = .inFlight)
      ∧ (taken → x.reqAbort = none →
        Completes (.mseqRequestTaken q) s [.dev, .mbs, .ledger, .seqs, .fabric] fun t =>
          seqOf t q = { x with held := true, reqPause := false } ∧ ∀ i, x.item = some i → (slotOf t i).st = .held))
    ∧ (∀ (n : Nat) (s : State), TabWf {} s.dps → TabWf {} s.chans →
      let now := if s.hw.running then some s.hw.count else none
      (Completes (.rangeChangeDone true n) s [.dps] fun t =>
        dpsOf t n = { dpsOf s n with
          ranging := false, tRange := if (dpsOf s n).ranging then now else (dpsOf s n).tRange }
        ∧ ∀ k, k ≠ n → dpsOf t k = dpsOf s k)
      ∧ Completes (.rangeChangeDone false n) s [.chans] fun t =>
        chanOf t n = { chanOf s n with
          ranging := false, tRange := if (chanOf s n).ranging then now else (chanOf s n).tRange }
        ∧ ∀ k, k ≠ n → chanOf t k = chanOf s k)

/-- TDC edges are prescaled and stamped, conversions reach their taker, a calibration class ends staged or failed. A
TDC_EDGE that its input cannot deliver (edgeComes) changes nothing; else the measurement due is armed first, and every
2^e-th edge of an input passes the prescaler: one that comes too near counts as dead time and is flagged on the
measurement in progress or on the next; with no measurement armed the edge does no more; the first start edge and the
first stop edge are stamped, a further one on a stamped input is ignored, and with both stamps the measurement is
counted with its interval in the sums (but for a stepped or saturated one) and closed; the last one of the last TDC
ends the item COMPLETE. CONVERSION_DONE of an input whose turn it is not changes nothing; else no other sequencer
changes: one that a routine waits for gives it the physical value of the corrected reading, with CLAMP also while a
DPS channel's limit acts; one for an ACQUIRE item in flight appends the sample word, and the last one ends the item
COMPLETE; one that nobody waits for moves the turn alone. How the converter and path corrections form the reading is
the model's free value (log 150). CAL_CLASS_DONE outside its range fails the item's class; within it the corrections
are staged and PROGRESS counts the class; after the last class each comes into force whole in its place, the item is
COMPLETE, its unit ACTIVE again and Press free. With no CAL item in progress it changes nothing. [derived: R227; R232;
R234; R235; R236; R237; R239; R253; R254; R255; R336; R340.] -/
def Obligations.EdgesConversionsAndClassesAreTaken : Prop :=
  (∀ (n : Nat) (stop : Bool) (cycle tap : Nat) (near : Bool) (s : State), TabWf {} s.tdcs → TabWf {} s.ledger →
      let c := Instr.tdcEdge n stop ⟨cycle, tap⟩ near
      let x := rearmed s cycle (tdcOf s n)
      let second := stop && ! oneInput x
      let input := if second then (tdcInputs x).2.toNat else (tdcInputs x).1.toNat
      let pc := (if second then x.pcE else x.pcS) + 1
      let mark := if input = 0x0E then some (markNumber s cycle) else x.mark
      let toStop := second || (oneInput x && x.sStamp.isSome)
      let st := edgeStamp s n input cycle (tap % 256)
      let measured (a b : Int) : Prop := Completes c s [.dev, .units, .mbs, .ledger, .order, .tdcs, .queues, .fabric, .levee, .svc, .mem, .free] fun t =>
        let r := intervalOf (b - a) x.dead x.stepped
        (tdcOf t n).index = x.index + 1 ∧ (tdcOf t n).sStamp = none ∧ (tdcOf t n).eStamp = none
          ∧ (tdcOf t n).armed = false
          ∧ (tdcOf t n).closed = (if x.index + 1 = x.series then none else some (countAt s cycle))
          ∧ (tdcOf t n).sum = (if r.2.getLsbD 3 ∨ r.2.getLsbD 4 then x.sum else x.sum + r.1)
          ∧ ∀ i, x.item = some i → n ∈ itemTdcs (slotOf s i).msg → x.index + 1 = x.series →
            (∀ k ∈ itemTdcs (slotOf s i).msg, k ≠ n → (tdcOf s k).index = (tdcOf s k).series) → HostItem s i →
            Ended s t i none
      (edgeComes s n x input cycle = false → Idle c s)
      ∧ (edgeComes s n x input cycle = true →
        (pc < 2 ^ x.e → Completes c s [.tdcs] fun t =>
          tdcOf t n = if second then { x with pcE := pc, mark := mark } else { x with pcS := pc, mark := mark })
        ∧ (2 ^ x.e ≤ pc → near = true → Completes c s [.tdcs] fun t =>
          (tdcOf t n).deads = satInc x.deads ∧ (tdcOf t n).dead = (x.dead || x.armed)
            ∧ (tdcOf t n).deadNext = (x.deadNext || ! x.armed) ∧ (tdcOf t n).sStamp = x.sStamp
            ∧ (tdcOf t n).eStamp = x.eStamp)
        ∧ (2 ^ x.e ≤ pc → near = false → x.item = none ∨ x.armed = false →
          Completes c s [.tdcs] fun t =>
            tdcOf t n = if second then { x with pcE := 0, mark := mark } else { x with pcS := 0, mark := mark })
        ∧ (2 ^ x.e ≤ pc → near = false → x.item.isSome = true → x.armed = true →
          (x.sStamp = none → x.eStamp = none → Completes c s [.tdcs] fun t =>
            (tdcOf t n).sStamp = (if toStop then none else some st) ∧ (tdcOf t n).eStamp = if toStop then some st else none)
          ∧ (∀ a, x.sStamp = some a → x.eStamp = none → toStop = false → Completes c s [.tdcs] fun t =>
            (tdcOf t n).sStamp = some a ∧ (tdcOf t n).eStamp = none)
          ∧ (∀ b, x.sStamp = none → x.eStamp = some b → toStop = true → Completes c s [.tdcs] fun t =>
            (tdcOf t n).sStamp = none ∧ (tdcOf t n).eStamp = some b)
          ∧ (∀ a, x.sStamp = some a → x.eStamp = none → toStop = true → measured a st)
          ∧ (∀ b, x.sStamp = none → x.eStamp = some b → toStop = false → measured st b))))
    ∧ (∀ (dadc : Bool) (conv input : Nat) (value : Int) (eos clamped : Bool) (gap : Nat) (s : State), TabWf {} s.seqs →
      let c := Instr.conversionDone dadc conv input value eos clamped gap
      let ch := convTarget dadc conv input
      let q := convSeq dadc conv
      let k := convKey dadc conv
      let wants := routineWants s dadc q ch input
      let clamp := clamped || (dadc && (dpsOf s ch).limitOn)
      (hasTurn s dadc conv input = false → Idle c s)
      ∧ (hasTurn s dadc conv input = true →
        (Completes c s [.dev, .units, .mbs, .ledger, .order, .seqs, .acqs, .fabric, .levee, .svc, .mem, .free] fun t => tget 0 (seqOf t q).lastIn k = input + 1
          ∧ ∀ r, r ≠ q → seqOf t r = seqOf s r)
        ∧ (wants = false → acquireOn s k input = none → Completes c s [.seqs] fun t =>
          seqOf t q = { seqOf s q with turns := (seqOf t q).turns, lastIn := (seqOf t q).lastIn })
        ∧ (wants = true → acquireOn s k input = none ∨ (acqOf s k).turn = false → TabWf {} (seqOf s q).tgt →
          Completes c s [.seqs, .acqs] fun t =>
            let y := tgtOf (seqOf t q) ch
            let cur := (tgtOf (seqOf s q) ch).want = 1
            y.got = true ∧ y.want = 0 ∧ y.clamp = clamp ∧ y.rang = convRanging s q ch ∧ y.time = slotStart s
              ∧ y.value = physical cur (tgtFull s q ch)
                (reading (seqOf s q).gen dadc conv input cur (tgtRange s q ch) value))
        ∧ (∀ i, wants = false ∨ (acqOf s k).turn = true → acquireOn s k input = some i → TabWf {} s.acqs →
            (acqOf s k).samples ≠ [] ∨ pTrigger (slotOf s i).msg = 0 → TabWf {} s.ledger →
          Completes c s [.dev, .units, .mbs, .ledger, .order, .seqs, .acqs, .fabric, .levee, .svc, .mem, .free] fun t =>
            let cur := if dadc then input = 1 else (chanOf s ch).pmuOn = true ∧ (chanOf s ch).pmuFi = false
            let range := if dadc then (dpsOf s ch).range else (chanOf s ch).range
            let w := sampleWord (decide cur) range eos clamp (convRanging s q ch) (gap % 16)
              (reading (acqOf s k).gen dadc conv input (decide cur) range value)
            ((acqOf s k).samples.length + 1 < samplesNeeded (slotOf s i).msg →
              ∃ x : Sample, (acqOf t k).samples = (acqOf s k).samples ++ [x]
                ∧ x.word = (if (acqOf s k).samples = [] then withGap w 0 else w)
                ∧ (slotOf t i).progress = (slotOf s i).progress + 1)
            ∧ (samplesNeeded (slotOf s i).msg ≤ (acqOf s k).samples.length + 1 → pBuffer (slotOf s i).msg = k →
              HostItem s i → Ended s t i none ∧ (acqOf t k).item = none))))
    ∧ (∀ s : State,
      (∀ r, s.press.item = none ∨ s.press.left = [] → Idle (.calClassDone r) s)
      ∧ (∀ i k rest, s.press.item = some i → s.press.left = k :: rest → TabWf {} s.ledger → TabWf {} s.units →
        FailsCal (.calClassDone .outOfRange) s i k
        ∧ ∀ rs : List (Nat × Int),
          let c := Instr.calClassDone (.inRange rs)
          let u := pUnit (slotOf s i).msg
          let fit := classValues s k (rs.filter fun e => ofUnit k u e.1)
          let staged := s.press.staged ++ fit.map fun e => (k, e.1, e.2)
          (classFits s k fit = false → FailsCal c s i k)
          ∧ (classFits s k fit = true → rest ≠ [] → Completes c s [.ledger, .press] fun t =>
            t.press = { s.press with left := rest, staged := staged }
              ∧ slotOf t i = { slotOf s i with progress := (slotOf s i).progress + 1 })
          ∧ (classFits s k fit = true → rest = [] → s.power.bypassPend = false →
            Completes c s [.power, .dev, .units, .hw, .mbs, .ledger, .order, .dacs, .corrs, .chans, .pebs, .bursts, .seqs, .tdcs, .tdcW, .tdcLat, .acqs, .dps, .resvs, .lanes, .queues, .dmas, .fabric, .press, .house, .levee, .svc, .mem, .free] fun t => t.press.item = none ∧ t.press.staged = []
              ∧ (HostItem s i → Ended s t i none)
              ∧ (hostHeld s u = false → (unitOf s u).toOff = false → u < 0x500 → (unitOf t u).st = .active)
              ∧ t.corrs = (staged.foldl applyCorr s).corrs ∧ t.press.gen = (staged.foldl applyCorr s).press.gen
              ∧ t.tdcW = (staged.foldl applyCorr s).tdcW ∧ t.tdcLat = (staged.foldl applyCorr s).tdcLat)))
    ∧ (∀ (s : State) (i : Nat) (v : Int),
      let set (c : Nat) : State := applyCorr s (c, i, v)
      (i < 2 ^ 23 → set 5 = { s with tdcW := tset 0 s.tdcW i v })
        ∧ (2 ^ 23 ≤ i → set 5 = { s with tdcLat := tset 0 s.tdcLat (i - 2 ^ 23) v })
        ∧ (i < 2 ^ 23 → TabWf {} s.chans → Touch [.chans] s (set 2)
          ∧ (i % 3 = 0 → chanOf (set 2) (i / 3) = { chanOf s (i / 3) with riseNew := v.toNat })
          ∧ (i % 3 = 1 → chanOf (set 2) (i / 3) = { chanOf s (i / 3) with fallNew := v.toNat })
          ∧ (i % 3 = 2 → chanOf (set 2) (i / 3) = { chanOf s (i / 3) with cmpNew := v.toNat }))
        ∧ (∀ c, c = 4 ∨ c = 6 ∨ (2 ^ 23 ≤ i ∧ (c = 1 ∨ c = 3)) →
          set c = { s with press := { s.press with gen := tset 0 s.press.gen (c * 2 ^ 24 + i) v } })
        ∧ (∀ c, c = 0 ∨ c = 1 ∨ c = 3 → i < 2 ^ 23 → TabWf {} s.corrs → Touch [.corrs] s (set c)
          ∧ (i % 20 = 0 → tget {} (set c).corrs (i / 20) = { tget {} s.corrs (i / 20) with e := v })
          ∧ (i % 20 = 1 → tget {} (set c).corrs (i / 20) = { tget {} s.corrs (i / 20) with g := v })
          ∧ ∀ j, j ≠ i / 20 → tget {} (set c).corrs j = tget {} s.corrs j))

/-- What a channel takes from a descriptor's bytes. -/
def descTaken (d : Dma) (raw : List Byte) : Dma :=
  let e := { d with
    ctrl := BitVec.ofNat 32 (bytesAt raw 0 4), count := bytesAt raw 4 4, total := bytesAt raw 4 4
    size := bytesAt raw 4 4, src := BitVec.ofNat 64 (bytesAt raw 8 8), dst := BitVec.ofNat 64 (bytesAt raw 16 8)
    next := BitVec.ofNat 64 (bytesAt raw 24 8), asked := 0, reads := [], beats := [], done := 0, status := 0
    failed := false, lastValid := 0, drained := false, gather := [] }
  { e with bad := dmaQsrc e && (14 ≤ dmaQueue e || bytesAt raw 4 4 % 32 ≠ 0) }

/-- The command e frees channel c and ends its item with the reason; one that the entry to BYPASS has stopped, with
ABORTED_HOST (R61, R273). -/
def ChannelOver (e : Instr) (ps : List Part) (s : State) (c : Nat) (r : Option Nat) : Prop :=
  Completes e s ps fun t => (dmaOf t c).phase = .idle ∧ (dmaOf t c).item = none ∧ (∀ j, j ≠ c → dmaOf t j = dmaOf s j)
    ∧ ∀ i, (dmaOf s c).item = some i → HostItem s i →
      Ended s t i (if (slotOf s i).flags &&& BitVec.ofNat 16 fFord = 0 then r else some 1)

/-- The command e brings channel c its descriptor's bytes with the status a (R268, R269, R275). -/
def TakesDescriptor (e : Instr) (ps : List Part) (s : State) (c a : Nat) (rem : Remote) : Prop :=
  let d := dmaOf s c
  (a ≠ 0 ∨ readBytes s rem d.addr 64 = none → ChannelOver e ps s c (some (if a = 3 then 11 else 10)))
    ∧ (a = 0 → ∀ raw, readBytes s rem d.addr 64 = some raw →
      let y := descTaken d raw
      (y.ctrl.getLsbD 31 = false → ChannelOver e ps s c none)
      ∧ (y.ctrl.getLsbD 31 = true →
        (∀ f, descMisuse s c y raw = some f → Misuses e s f)
        ∧ (descMisuse s c y raw = none → Completes e s ps fun t =>
            (dmaOf t c).ctrl = y.ctrl ∧ (dmaOf t c).src = y.src ∧ (dmaOf t c).dst = y.dst ∧ (dmaOf t c).next = y.next
              ∧ (dmaOf t c).total = y.total ∧ (dmaOf t c).item = d.item
              ∧ ((dmaOf t c).phase = .moving ∨ (dmaOf t c).phase = .writeback) ∧ ∀ j, j ≠ c → dmaOf t j = dmaOf s j)))

/-- The command e brings channel c the burst at an offset: its block is free again (R270). -/
def TakesBurst (e : Instr) (ps : List Part) (s : State) (c off : Nat) : Prop :=
  Completes e s ps fun t => (∀ x, x ∈ (dmaOf t c).reads → x.1 ≠ off) ∧ s.bufFree < t.bufFree
    ∧ (dmaOf t c).item = (dmaOf s c).item ∧ ∀ j, j ≠ c → dmaOf t j = dmaOf s j

/-- The command e brings channel c the answer a to its n bytes at an offset (R270, R273). -/
def TakesWrite (e : Instr) (ps : List Part) (s : State) (c off n a : Nat) : Prop :=
  let d := dmaOf s c
  Completes e s ps fun t => (∀ x, x ∈ (dmaOf t c).beats → x.1 ≠ off)
    ∧ (dmaOf t c).done = (if a = 0 then d.done + n else d.done) ∧ (a ≠ 0 → (dmaOf t c).failed = true)
    ∧ (a ≠ 0 → d.failed = false → (dmaOf t c).status = BitVec.ofNat 8 (errorCode d a))
    ∧ ∀ j, j ≠ c → dmaOf t j = dmaOf s j

/-- The command e brings channel c the answer a to its write-back (R271 to R274). -/
def TakesWriteback (e : Instr) (ps : List Part) (s : State) (c a : Nat) : Prop :=
  let d := dmaOf s c
  (a ≠ 0 → ChannelOver e ps s c (some 10))
    ∧ (a = 0 → d.status ≠ 0 → ChannelOver e ps s c (some (statusEnd d.status.toNat)))
    ∧ (dmaQsrc d = true → d.bad = false → d.status ≠ 4 → TabWf {} s.queues → Completes e s ps fun t =>
        queueOf t (dmaQueue d) = if a = 0 ∧ d.status = 0 ∧ dmaPeek d = false then
          releaseQueue (markQueue (queueOf s (dmaQueue d))) else rewindQueue (queueOf s (dmaQueue d)))
    ∧ (∀ i, a = 0 → d.status = 0 → d.item = some i →
      let last := dmaLast d = true ∧ (slotOf s i).flags &&& BitVec.ofNat 16 fFord = 0
      (last → ChannelOver e ps s c none)
      ∧ (¬ last → ∀ r, (slotOf s i).cause = some r → ChannelOver e ps s c (some r.toNat))
      ∧ (¬ last → (slotOf s i).cause = none → Completes e s ps fun t =>
          (dmaOf t c).phase = .fetching ∧ (dmaOf t c).addr = addr41 d.next
            ∧ (slotOf t i).progress = (slotOf s i).progress + 1 ∧ (slotOf t i).result = BitVec.ofNat 64 d.addr
            ∧ ∀ j, j ≠ c → dmaOf t j = dmaOf s j))

/-- A DMA channel takes a descriptor, reads, writes, writes back and goes on, ends or stops. DMA_DESCRIPTOR_FETCHED of a
descriptor that cannot be read ends the item with BUS or UNREACHABLE, one whose OWN is clear ends it COMPLETE, and
either frees the channel; one with a reserved field set or a range that meets another is misuse; else the channel
takes its fields. DMA_BUFFER_GRANTED, where no channel nearer the turn asks, issues the next read burst of up to 1
KiB, takes a buffer block and passes the turn. DMA_READ_RESPONSE answers the oldest read and gives the block back;
DMA_WRITE_RESPONSE answers the oldest write, counting its bytes as done or failing the descriptor. DMA_WRITEBACK_ACK
ends the item after an error (BUS), after a failed descriptor (by its status), after LAST (COMPLETE) or at a cause
that waits, else fetches the next descriptor; a queue source is released, or rewound with PEEK or after a failure.
DMA_STOP_WAIT_END frees a stopped channel and its buffer blocks, and in BYPASS ends an item under an abort. Every end
of an item that the entry to BYPASS stops is ABORTED_HOST. Out of its phase each changes nothing; no channel changes
another. [derived: R268; R269; R270; R271; R272; R273; R274; R275; R5; Table 14.3; Table 14.5.] -/
def Obligations.DmaChannelsMoveTheirDescriptors : Prop :=
  ∀ (c st : Nat) (rem : Remote) (s : State), TabWf {} s.dmas → TabWf {} s.ledger →
    let d := dmaOf s c
    (d.phase ≠ .fetching → Idle (.dmaDescriptorFetched c st rem) s)
    ∧ (d.phase = .fetching → TakesDescriptor (.dmaDescriptorFetched c st rem) [.dev, .units, .mbs, .ledger, .order, .queues, .dmas, .fabric, .levee, .svc, .mem, .free]
        s c (answerOf s d.addr 64 (outstStatus s c 0x20 st)) rem)
    ∧ (let due := d.phase = .moving ∧ d.failed = false ∧ d.drained = false ∧ d.asked < d.total ∧ 0 < s.bufFree
        ∧ d.reads.length < 64 ∧ dmaFirst s c = true
      (¬ due → Idle (.dmaBufferGranted c) s)
      ∧ (due →
        let m := min 1024 (d.total - d.asked)
        let n := if dmaQsrc d then m else pageCut (addr41 d.src + d.asked) m
        Completes (.dmaBufferGranted c) s [.dmas, .bufFree, .fabric] fun t => t.bufFree = s.bufFree - 1
          ∧ t.fabric.dmaTurn = (c + 1) % 16 ∧ dmaOf t c = { d with asked := d.asked + n, reads := d.reads ++ [(d.asked, n)] }
          ∧ ∀ j, j ≠ c → dmaOf t j = dmaOf s j))
    ∧ (d.phase ≠ .moving ∨ d.reads = [] → Idle (.dmaReadResponse c st rem) s)
    ∧ (∀ off n rest, d.phase = .moving → d.reads = (off, n) :: rest →
      TakesBurst (.dmaReadResponse c st rem) [.queues, .dmas, .bufFree, .fabric, .levee, .mem, .free] s c off)
    ∧ (d.phase ≠ .moving ∨ d.beats = [] → Idle (.dmaWriteResponse c st) s)
    ∧ (∀ off n rest, d.phase = .moving → d.beats = (off, n) :: rest → d.gather = [] ∨ d.gatherAt ≠ off →
      TakesWrite (.dmaWriteResponse c st) [.queues, .dmas, .fabric, .levee, .mem, .free] s c off n
        (answerOf s (addr41 d.dst + off) n (outstStatus s c 0x22 st)))
    ∧ (d.phase ≠ .writeback → Idle (.dmaWritebackAck c st) s)
    ∧ (d.phase = .writeback →
      let dead := s.fabric.outst.any fun o => o.dma.isNone && o.cls = 0x22#8 && o.addr = d.addr + 32 && o.dead
      TakesWriteback (.dmaWritebackAck c st) [.dev, .units, .mbs, .ledger, .order, .queues, .dmas, .fabric, .levee, .svc, .mem, .free] s c
        (answerOf s (d.addr + 32) 32 (if dead then 3 else st)))
    ∧ (d.phase = .stopping → Completes (.dmaStopWaitEnd c) s [.dmas, .bufFree, .fabric] fun t =>
        (dmaOf t c).phase = .idle ∧ (dmaOf t c).item = none ∧ t.bufFree = s.bufFree + d.reads.length
          ∧ (∀ o, o ∈ t.fabric.outst ↔ o ∈ s.fabric.outst ∧ o.dma ≠ some c) ∧ ∀ j, j ≠ c → dmaOf t j = dmaOf s j)
    ∧ (d.phase ≠ .stopping →
      (d.item = none → Idle (.dmaStopWaitEnd c) s)
      ∧ ∀ i, d.item = some i →
        (s.dev.mode ≠ .bypass ∨ (slotOf s i).cause = none → Idle (.dmaStopWaitEnd c) s)
        ∧ (s.dev.mode = .bypass → (slotOf s i).cause.isSome = true →
          ChannelOver (.dmaStopWaitEnd c) [.dev, .units, .mbs, .ledger, .order, .queues, .dmas, .bufFree, .fabric, .svc] s c (some 1)))

/-- Supply set points move by their slew, limits and drop-outs are recorded, the disarm disables and discharges.
DPS_RAMP_STEP of an admitted item moves every channel's set point toward the target by at most one update's move,
whose value its DAC takes, and counts it; where all have arrived the item is COMPLETE, and an abort ends it there.
CURRENT_MANAGER_REFRESH takes the loads and rails, and no reservation outlives its item by more than eleven refreshes,
the first of which may follow at once. DPS_BUDGET_TIMEOUT ends an item that waits for the budget with BUDGET and
leaves every set point. DPS_LIMIT_CHANGE and DPS_DROPOUT set the channel's state and write its record. DPS_OVERLOAD,
where the accounts exceed the budget, is a detection in the group with the largest current. DPS_DISARM_OUTPUT_DISABLE
disables an enabled output during a disarm once its ramp is over, its set point is at or below 50 mV or its limit or
headroom acts, and starts its discharge; DPS_DISCHARGE_DONE closes the passive path, and the last one ends the disarm
in IDLE. Out of place, each changes nothing. [derived: R278; R279; R280; R283; R284; R285; R286; R287; R289; Table
15.3; Table 15.4.] -/
def Obligations.SuppliesRampWithinTheBudget : Prop :=
  (∀ (i : Nat) (s : State), TabWf {} s.dps → TabWf {} s.ledger → TabWf {} s.dacs →
      let l := slotOf s i
      let due := l.st = .inFlight ∧ l.kind = some .dps ∧ l.budget = false ∧ l.armed = false ∧ admitted s i = true
      let ns := dpsList (pDpsMask l.msg)
      let goal := pTarget l.msg * 2 ^ 32
      let k := rampStep s (pSlew l.msg)
      (¬ due → Idle (.dpsRampStep i) s)
      ∧ (due → ∀ r, l.cause = some r → Completes (.dpsRampStep i) s [.dev, .units, .mbs, .ledger, .order, .dacs, .dps, .resvs, .queues, .fabric, .svc, .free] fun t =>
          (HostItem s i → Ended s t i (some r.toNat)) ∧ admitted t i = false ∧ ∀ n, (dpsOf t n).set = (dpsOf s n).set)
      ∧ (due → l.cause = none → (∃ n, n ∈ ns ∧ towards (dpsOf s n).set goal k ≠ goal) →
        Completes (.dpsRampStep i) s [.ledger, .dacs, .dps] fun t =>
          (∀ n, n ∈ ns → dpsOf t n = { dpsOf s n with set := towards (dpsOf s n).set goal k }
              ∧ ((dpsOf s n).strobed = false → (dacOf t (dpsKey n)).slew = none
                ∧ (dacOf t (dpsKey n)).activeV = some (setMicrovolts (dpsOf t n) : Int)))
            ∧ (∀ n, n ∉ ns → dpsOf t n = dpsOf s n) ∧ (slotOf t i).progress = l.progress + 1
            ∧ (slotOf t i).st = .inFlight)
      ∧ (due → l.cause = none → (∀ n, n ∈ ns → towards (dpsOf s n).set goal k = goal) →
        Completes (.dpsRampStep i) s [.dev, .units, .mbs, .ledger, .order, .dacs, .dps, .resvs, .queues, .fabric, .svc, .free] fun t =>
          (HostItem s i → Ended s t i none ∧ (slotOf t i).progress = l.progress + 1) ∧ admitted t i = false
            ∧ (∀ n, n ∈ ns → (dpsOf t n).set = goal) ∧ ∀ n, n ∉ ns → (dpsOf t n).set = (dpsOf s n).set)
      ∧ (l.st = .inFlight → l.kind = some .dps → l.budget = true →
        Completes (.dpsBudgetTimeout i) s [.dev, .units, .mbs, .ledger, .order, .dacs, .dps, .resvs, .queues, .fabric, .svc, .free] fun t =>
          (HostItem s i → Ended s t i (some 6)) ∧ t.dacs = s.dacs ∧ t.dps = s.dps)
      ∧ (¬ (l.st = .inFlight ∧ l.kind = some .dps ∧ l.budget = true) → Idle (.dpsBudgetTimeout i) s))
    ∧ (∀ (loads : List (Nat × Nat)) (vps : List Nat) (s : State), TabWf {} s.dps →
      Completes (.currentManagerRefresh loads vps) s [.power, .ledger, .dps, .resvs, .queues, .free] fun t =>
        t.power = { s.power with vps := vps }
          ∧ (∀ n, (dpsOf t n).load = ((loads.filter fun e => e.1 = n).getLast?.map Prod.snd).getD (dpsOf s n).load
            ∧ (dpsOf t n).set = (dpsOf s n).set ∧ (dpsOf t n).enabled = (dpsOf s n).enabled)
          ∧ ∀ r, r ∈ t.resvs → r.over_ ≤ 11)
    ∧ (∀ (n : Nat) (on : Bool) (uv ua : Int) (s : State), TabWf {} s.dps →
      let rec_ (e : Nat) := dpsRecord s (dpsItemId s n) (gangLeader s n) e uv ua
      Completes (.dpsLimitChange n on uv ua) s [.dps, .queues] (fun t =>
        dpsOf t n = { dpsOf s n with limitOn := on } ∧ (∀ m, m ≠ n → dpsOf t m = dpsOf s m)
          ∧ t.queues = (queueWrite s 12 4 (liveCount s) (rec_ (if on then 2 else 3))).1.queues)
      ∧ Completes (.dpsDropout n on uv ua) s [.dps, .queues] fun t =>
        dpsOf t n = { dpsOf s n with dropout := on } ∧ (∀ m, m ≠ n → dpsOf t m = dpsOf s m)
          ∧ t.queues = (queueWrite s 12 4 (liveCount s) (rec_ (if on then 4 else 5))).1.queues)
    ∧ (∀ s : State,
      (withinBudget s [] = true → Idle .dpsOverload s)
      ∧ (withinBudget s [] = false → ∃ g u, g < 4 ∧ (∀ h, h < 4 → groupAmps s h ≤ groupAmps s g)
        ∧ Touch [.queues, .free] s u
        ∧ exec .dpsOverload s = .next (detectOwn u (0x2300 + g) (unitDps g)
            (((List.range 48).map fun n => (presentShare s n).1).sum / 1000 % 2 ^ 32) false)))
    ∧ (∀ (n : Nat) (s : State), n < 48 → TabWf {} s.dps →
      (s.dev.disarming = false ∨ (dpsOf s n).enabled = false ∨ disarmRamped (dpsOf s n) = false → Idle (.dpsDisarmOutputDisable n) s)
      ∧ (s.dev.disarming = true → (dpsOf s n).enabled = true → disarmRamped (dpsOf s n) = true →
        Completes (.dpsDisarmOutputDisable n) s [.dps] fun t =>
          (dpsOf t n).enabled = false ∧ (dpsOf t n).discharging = true ∧ (dpsOf t n).set = 0
            ∧ ∀ m, m ≠ n → dpsOf t m = dpsOf s m)
      ∧ ((dpsOf s n).discharging = false → Idle (.dpsDischargeDone n) s)
      ∧ ((dpsOf s n).discharging = true →
        Completes (.dpsDischargeDone n) s [.dev, .units, .mbs, .ledger, .order, .chans, .pebs, .dps, .queues, .fabric, .free] fun t =>
          dpsOf t n = { dpsOf s n with discharging := false, passive := true } ∧ (∀ m, m ≠ n → dpsOf t m = dpsOf s m)
            ∧ (s.dev.mode = .armed → s.dev.disarming = true → (dpsOf s n).enabled = false →
              (∀ m, m < 48 → m ≠ n → (dpsOf s m).enabled = false ∧ (dpsOf s m).discharging = false) →
              t.dev.mode = .idle ∧ t.dev.disarming = false ∧ t.dev.armedMap = [])))

/-- The reports of a lane whose test has begun. -/
def laneReports (n bits errors cls mis : Nat) (at_ : Count) (inv : Bool) : List Instr :=
  [.lanePrbsSync n inv, .laneSyncDrop n bits ⟨errors, at_⟩, .noSync n, .laneBitsReached n bits ⟨errors, at_⟩, .eyePointDone n mis,
   .laneClassRecognised n cls inv]

/-- The command makes x of lane n of the item in slot i (R301). -/
def LaneTakes (c : Instr) (s : State) (i n : Nat) (x : Lane) : Prop :=
  Completes c s [.dev, .units, .mbs, .ledger, .order, .lanes, .fabric, .levee, .svc, .mem, .free] fun t =>
    let ls := laneList (slotOf s i).msg
    let after (k : Nat) : Lane := if k = n then x else laneOf s k
    ((∃ k, k ∈ ls ∧ (after k).done = false) → (∀ k, laneOf t k = after k)
        ∧ slotOf t i = { slotOf s i with
          progress := BitVec.ofNat 32 (min 0xFFFFFFFF ((after (ls.headD 0)).bits / 65536)) })
      ∧ ((∀ k, k ∈ ls → (after k).done = true) → (∀ k, (laneOf t k).item ≠ some i)
        ∧ (HostItem s i → Ended s t i none))

/-- A lane's reports join its counts, and the item ends once every named lane is finished. A report of a lane that no item
names, or that is finished, and one but lock, its loss and no lock of a lane whose test has not begun, changes nothing
but, for lock and its loss, what the receiver keeps. Else the lane takes it: lock with its frequency offset and first
instant; loss of lock; no lock and no sync as marks, which finish the lane in TEST 2 and in TEST 0 with BITS (R296;
TEST 1 goes on, log 155); PRBS sync (TEST 0, locked) and its loss with the bits and errors counted and the instant of
the first error; bits and errors reaching the item's BITS, in TEST 0 in sync alone; an eye point's mismatches (TEST 2)
up to 2,048; a change of class (TEST 3) up to 16 events and a count beyond. After each, PROGRESS follows the lowest
named lane; while a named lane is not finished the item goes on and no other lane changes; once all are, the item ends
COMPLETE and none of its lanes holds it any longer. [derived: R293; R294; R296; R297; R298; R299; R300; R301; Table
16.6; Table 16.7.] -/
def Obligations.LanesRunTheirTests : Prop :=
  ∀ (s : State) (n bits errors cls mis : Nat) (freq : Int) (inv : Bool) (at_ : Count),
    TabWf {} s.lanes → TabWf {} s.ledger →
    let y := laneOf s n
    let now := stamp s
    (laneRun s n = none → ∀ c, c ∈ laneReports n bits errors cls mis at_ inv → Idle c s)
    ∧ (laneHeld s n = none → Idle (.noLock n) s
      ∧ (y.item = none → unitState s (unitLg (n / 28)) ≠ .active → Idle (.laneRxLock n freq) s)
      ∧ (y.item.isSome = true ∨ unitState s (unitLg (n / 28)) = .active →
        Completes (.laneRxLock n freq) s [.lanes] fun t => laneOf t n = { y with
            locked := true, freq := freq, tLock := (if y.everLock then y.tLock else now), everLock := true, rx := true }
          ∧ ∀ k, k ≠ n → laneOf t k = laneOf s k)
      ∧ (Completes (.laneLockLoss n) s [.lanes] fun t => laneOf t n = { y with
            locked := false, rx := false, everLock := y.everLock && y.item.isSome }
          ∧ ∀ k, k ≠ n → laneOf t k = laneOf s k))
    ∧ (∀ i test, laneHeld s n = some (i, test) →
      LaneTakes (.laneRxLock n freq) s i n { y with
          locked := true, freq := freq, tLock := (if y.everLock then y.tLock else now), everLock := true, rx := true }
      ∧ (y.everLock = true → Idle (.noLock n) s)
      ∧ (y.everLock = false → LaneTakes (.noLock n) s i n { y with
          noLock := true, done := test = 2 || (test = 0 && pBits (slotOf s i).msg ≠ 0) })
      ∧ (y.locked = false → Idle (.laneLockLoss n) s)
      ∧ (y.locked = true → LaneTakes (.laneLockLoss n) s i n { y with
          locked := false, sync := false, losses := y.losses + 1, rx := false }))
    ∧ (∀ i test, laneRun s n = some (i, test) →
      let want := pBits (slotOf s i).msg
      let per := if want = 0 then 1048576 else want
      let fin := want ≠ 0 && want ≤ y.bits + bits
      let counted (e : Nat) : Lane := { y with
        bits := y.bits + bits, errs := y.errs + e, tErr := (if y.errs = 0 ∧ e ≠ 0 then at_ else y.tErr), done := fin }
      (test ≠ 0 ∨ y.locked = false → Idle (.lanePrbsSync n inv) s)
      ∧ (test = 0 → y.locked = true → LaneTakes (.lanePrbsSync n inv) s i n { y with
          sync := true, inv := inv, tSync := (if y.synced then y.tSync else now), synced := true })
      ∧ (test ≠ 0 ∨ y.sync = false ∨ bits < 64 ∨ errors ≤ 16 → Idle (.laneSyncDrop n bits ⟨errors, at_⟩) s)
      ∧ (test = 0 → y.sync = true → 64 ≤ bits → 16 < errors → LaneTakes (.laneSyncDrop n bits ⟨errors, at_⟩) s i n
          { counted errors with sync := false, resyncs := y.resyncs + 1 })
      ∧ (test ≠ 0 ∨ y.everLock = false ∨ y.synced = true → Idle (.noSync n) s)
      ∧ (test = 0 → y.everLock = true → y.synced = false →
        LaneTakes (.noSync n) s i n { y with noSync := true, done := decide (want ≠ 0) })
      ∧ (test = 2 ∨ (test = 0 ∧ y.sync = false) → Idle (.laneBitsReached n bits ⟨errors, at_⟩) s)
      ∧ (test = 0 → y.sync = true → LaneTakes (.laneBitsReached n bits ⟨errors, at_⟩) s i n (counted errors))
      ∧ (test ≠ 0 → test ≠ 2 → LaneTakes (.laneBitsReached n bits ⟨errors, at_⟩) s i n (counted 0))
      ∧ (test ≠ 2 → Idle (.eyePointDone n mis) s)
      ∧ (test = 2 → LaneTakes (.eyePointDone n mis) s i n { y with
          points := y.points ++ [mis], bits := y.bits + per, done := 2048 ≤ y.points.length + 1 })
      ∧ (test ≠ 3 ∨ 9 ≤ cls → Idle (.laneClassRecognised n cls inv) s)
      ∧ (test = 3 → cls < 9 → LaneTakes (.laneClassRecognised n cls inv) s i n (
          if y.seen = some cls then y
          else if y.events.length < 16 then
            { y with seen := some cls, events := y.events ++ [{ time := now, cls := cls, inv := inv }] }
          else { y with seen := some cls, lost := satInc32 y.lost })))

/-- A packet that f holds of stands at port p in t, from an input: held, or sent and not acknowledged (R314, R316). -/
def Stands (t : State) (p input : Nat) (f : Packet → Prop) : Prop :=
  (∃ x, (input, x) ∈ (portOf t p).waiting ∧ f x) ∨ ∃ r, r ∈ (portOf t p).replay ∧ r.1 = input % 16 / 2 ∧ f r.2.2

/-- Are the packets alike but for ROUTE, LSEQ and CRC, and the t1 that a TIME_XCHG takes as it leaves (R331)? -/
def alike (k x : Packet) : Prop :=
  x.cls = k.cls ∧ x.dest = k.dest ∧ x.src = k.src ∧ x.status = k.status ∧ x.arg1 = k.arg1
    ∧ x.tag = k.tag ∧ x.data = k.data ∧ (k.cls ≠ 0x30#8 → x.arg0 = k.arg0)

/-- In t the packet k from an input stands at the port that routing chooses for it in u, where there is one (R318 to R320). -/
def Sent (u t : State) (input : Nat) (k : Packet) : Prop :=
  routable u (enterRing u input k) = true → ∃ p, p < 4 ∧ Stands t p input (alike k)

/-- Ports train, trains are answered, links return credits and acknowledgements, packets are forwarded. Outside reset,
PORT_RETRAIN of a port that is up, PORT_ACK_TIMEOUT of one with packets in its replay buffer and PORT_TRAIN_RETRY of
one that is DOWN (but during the rate measurement of a boot) put it into TRAINING; PORT_TRAIN_RETRY of one in TRAINING
puts it DOWN. TRAIN at a port in TRAINING keeps what the neighbour offers and sends this end's own. PORT_TRAINED of an
attempt that may succeed brings the port UP on four lanes, or DEGRADED on three; other lanes than before set
SYNC_DEGRADED, and a boot that waited for it goes on to its requests. LINK_SEND_TIMER with something to return sends a
LINK packet with ACK, NAK and credits, and the NAK stays due; LINK takes the neighbour's credits, releases what its
ACK covers and counts a retry for a NAK. PACKET_FORWARD of a packet in order for another node takes it and holds or
sends it at the port of its route, or answers a request that has none with UNREACHABLE; out of order it leaves a NAK
due; of an unknown class it is discarded. Out of place, each changes nothing. [derived: R308; R309; R310; R311; R313;
R314; R315; R316; R318; R320; R326; Table 17.1.] -/
def Obligations.PortsTrainAndKeepTheirLinks : Prop :=
  (∀ (port : Port) (s : State), TabWf {} s.fabric.ports →
      let p := portIx port
      let q := portOf s p
      (portUp q = false ∨ inReset s = true → Idle (.portRetrain port) s)
      ∧ (portUp q = true → inReset s = false →
        Completes (.portRetrain port) s [.mbs, .fabric, .svc, .free] fun t => (portOf t p).st = .training)
      ∧ (portUp q = false ∨ inReset s = true ∨ q.replay = [] → Idle (.portAckTimeout port) s)
      ∧ (portUp q = true → inReset s = false → q.replay ≠ [] →
        Completes (.portAckTimeout port) s [.mbs, .fabric, .svc, .free] fun t => (portOf t p).st = .training)
      ∧ (let rates := s.dev.mode = .boot ∧ s.boot.wait = .measure
        (inReset s = true ∨ (q.st ≠ .training ∧ q.st ≠ .down) ∨ (q.st = .down ∧ rates) → Idle (.portTrainRetry port) s)
        ∧ (inReset s = false → q.st = .training →
          Completes (.portTrainRetry port) s [.hw, .mbs, .fabric, .levee, .svc, .mem, .free] fun t => (portOf t p).st = .down)
        ∧ (inReset s = false → q.st = .down → ¬ rates →
          Completes (.portTrainRetry port) s [.hw, .mbs, .fabric, .levee, .svc, .mem, .free] fun t => (portOf t p).st = .training))
      ∧ (let shown := if s.power.fordDrain then q.shown else q.freed
        let due := portUp q = true ∧ inReset s = false ∧ (q.ackDue = true ∨ q.nakDue = true ∨ q.shown ≠ shown)
        (¬ due → Idle (.linkSendTimer port) s)
        ∧ (due → Completes (.linkSendTimer port) s [.fabric] fun t =>
          (∃ k, portOf t p = { q with lastCtl := some k, ackDue := false, shown := shown }
            ∧ k.cls = 0x7F#8 ∧ k.crc = packetCrc k ∧ k.arg0.setWidth 12 = ackOf s p
            ∧ k.arg0.getLsbD 24 = q.nakDue ∧ (q.nakDue = true → (k.arg0 >>> 12).setWidth 12 = q.rxSeq)
            ∧ k.arg1 = BitVec.ofNat 64 (creditArg shown))
          ∧ ∀ r, r ≠ p → portOf t r = portOf s r))
      ∧ (∀ lanes full,
        let may := mayTrain s q lanes = true ∧ full = (q.nbFull && adjacent (ownAddr s) q.nbAddr.toNat p)
        (¬ may → Idle (.portTrained port lanes full) s)
        ∧ (may → Completes (.portTrained port lanes full) s [.clock, .hw, .boot, .mbs, .fabric, .levee, .svc, .mem, .free] fun t =>
          t.clock = (if q.lastLanes = 0 ∨ q.lastLanes = lanes then s.clock else { s.clock with syncDegraded := true })
          ∧ t.boot = (if s.dev.mode = .boot ∧ s.boot.wait = .train then { s.boot with wait := .request } else s.boot)
          ∧ (portOf t p).lastLanes = lanes ∧ (portOf t p).st = (if lanes = 0xF#4 then .up else .degraded)
          ∧ (portOf t p).lanes = lanes ∧ (portOf t p).full = full ∧ (portOf t p).byHost = false
          ∧ ∀ r, r ≠ p → (portOf t r).st = (portOf s r).st ∧ (portOf t r).lanes = (portOf s r).lanes)))
    ∧ (∀ (port : Port) (pkt : Packet) (s : State), TabWf {} s.fabric.ports →
      let p := portIx port
      let q := portOf s p
      let trains := pkt.cls = 0x7E#8 ∧ pkt.crc = packetCrc pkt ∧ q.st = .training ∧ inReset s = false
      let links := pkt.cls = 0x7F#8 ∧ pkt.crc = packetCrc pkt ∧ portUp q = true ∧ inReset s = false
      (¬ trains → Idle (.train port pkt) s)
      ∧ (trains → Completes (.train port pkt) s [.clock, .hw, .mbs, .fabric, .svc, .free] fun t =>
        (portOf t p).nbAddr = pkt.arg0.setWidth 11 ∧ (portOf t p).nbLanes = (pkt.arg0 >>> 16).setWidth 4
          ∧ (portOf t p).nbFull = pkt.arg0.getLsbD 20 ∧ (portOf t p).nbM = pkt.arg1.setWidth 28
          ∧ (portOf t p).nbKnown = true ∧ (portOf t p).st = .training
          ∧ (∃ k, (portOf t p).lastCtl = some k ∧ k.cls = 0x7E#8 ∧ k.arg1 = BitVec.ofNat 64 s.clock.mLock.toNat)
          ∧ t.clock = if q.nbKnown = true ∧ q.nbAddr ≠ pkt.arg0.setWidth 11 then { s.clock with syncDegraded := true }
            else s.clock)
      ∧ (¬ links → Idle (.link port pkt) s)
      ∧ (links → Completes (.link port pkt) s [.mbs, .fabric, .svc, .free] fun t =>
        let left := q.replay.dropWhile fun r => ackCovers (pkt.arg0.setWidth 12) r.2.2
        (portOf t p).credit = creditTab pkt.arg1
          ∧ (pkt.arg0.getLsbD 24 = false → q.waiting = [] → (portOf t p).replay = left)
          ∧ (portOf t p).retries = (if pkt.arg0.getLsbD 24 = true
              ∧ left.any (fun r => r.2.2.lseq = BitVec.ofNat 16 (pkt.arg0.toNat / 4096 % 4096)) = true
            then q.retries + 1 else q.retries))
      ∧ (pkt.cls = 0 ∨ linkClass pkt = true ∨ bcastClass pkt = true
          ∨ (classKnown pkt.cls.toNat = true ∧ pkt.dest.toNat % 2048 = ownAddr s) → Idle (.packetForward port pkt) s)
      ∧ (pkt.cls ≠ 0 → linkClass pkt = false → bcastClass pkt = false →
          (classKnown pkt.cls.toNat = true → pkt.dest.toNat % 2048 ≠ ownAddr s) →
        (portUp q = false ∨ inReset s = true → Idle (.packetForward port pkt) s)
        ∧ (portUp q = true → inReset s = false →
          (inOrder q pkt = false → Completes (.packetForward port pkt) s [.fabric] fun t =>
            portOf t p = { q with nakDue := true } ∧ ∀ r, r ≠ p → portOf t r = portOf s r)
          ∧ (inOrder q pkt = true → Completes (.packetForward port pkt) s [.fabric] fun t =>
            (portOf t p).rxSeq = q.rxSeq + 1 ∧ (portOf t p).nakDue = false
              ∧ (classKnown pkt.cls.toNat = true → Sent s t (inputOf p pkt) pkt)
              ∧ (∀ ans, classKnown pkt.cls.toNat = true → routable s (enterRing s (inputOf p pkt) pkt) = false →
                answerClass pkt.cls.toNat = some ans → Sent s t 8 (unreachableAnswer s pkt ans))))))

/-- The commands that deliver a packet to this node, with their classes (Table 17.3). -/
def deliveries (port : Port) (k : Packet) (x y : Nat) (rem : Remote) : List (Nat × Instr) :=
  [(0x01, .regRd port k), (0x02, .regWr port k), (0x03, .regRsp port k), (0x10, .mboxReq port k),
   (0x11, .mboxRsp port k), (0x12, .mboxAck port k), (0x20, .memRd port k), (0x21, .memRdRsp port k),
   (0x22, .memWr port k), (0x23, .memWrAck port k), (0x30, .timeXchg port k x y), (0x31, .timeXchgRsp port k x),
   (0x50, .bootReq port k rem), (0x51, .bootOffer port k), (0x52, .bootData port k), (0x53, .bootDone port k)]

/-- A packet of a class for this node arrives in order in s; u is s with the packet taken (R314, R316). -/
def Arrives (cls : Nat) (port : Port) (k : Packet) (s u : State) : Prop :=
  k.cls.toNat = cls ∧ k.dest.toNat % 2048 = ownAddr s ∧ portUp (portOf s (portIx port)) = true ∧ inReset s = false
    ∧ inOrder (portOf s (portIx port)) k = true
    ∧ u = takeIn (modPort s (portIx port) fun q => { q with rxSeq := q.rxSeq + 1, nakDue := false }) (portIx port) k

/-- The answer to the packet k of this node has been sent: its class, STATUS and data. -/
def Answered (s t : State) (k : Packet) (cls status : Nat) (data : List Byte) : Prop :=
  Sent s t 8 (answerPkt s k cls status data)

/-- MBOX_ACK for the packet k has been sent. -/
def Acked (s t : State) (k : Packet) (status : Nat) : Prop :=
  Sent s t 8 (mkPacket s 0x12 (k.src.toNat % 2048) status 0 0 k.tag.toNat [])

/-- The fetch of the BURST in slot i that a read of an address was for (R149). -/
def lateFetch (s : State) (i a : Nat) : Option Slice :=
  (burstOf s i).issued.find? fun k =>
    (sliceRanges s (burstOf s i) k).any fun e => e.1 / 32 * 32 ≤ a && a < e.1 + e.2

/-- The TAG is outstanding no more, and the other requests are as they were. -/
def Closed (s t : State) (tag : BitVec 16) : Prop := t.fabric.outst = s.fabric.outst.filter fun o => o.tag ≠ tag

/-- Packets for this node are taken in order; requests are answered, answers close what is outstanding. A packet of a
class for this node changes nothing at a port that is not up or in reset, leaves a NAK due out of order, and else is
taken; of another class or for another node it is none of the command's. An answer stands at the port of its route,
where there is one. REG_RD and REG_WR of words within the map are answered with STATUS 0, else 1, a write of one word
having the effect of REGISTER_WRITE; MEM_RD and MEM_WR with the STATUS of the page's state, a read with its bytes, and
a write is made to the local copy first. MBOX_REQ is acknowledged taken once only, with the ring full, on the wrong
path or for a mailbox that takes none; taken, it stands in the request ring. MBOX_RSP is acknowledged and its TAG
kept. Answers close the request they name and reach its DMA channel, with the effects of that channel's own commands,
or its fetch; an answer to none is discarded; a time-out counts as UNREACHABLE. MBOX_ACK releases the copy but after
RING_FULL; MBOX_ACK_TIMEOUT sends it again. [derived: R81; R148; R149; R270; R312; R313; R314; R322; R323; R324; R392;
Table 17.3.] -/
def Obligations.PacketsForThisNodeAreAnswered : Prop :=
  (∀ (port : Port) (k : Packet) (x y : Nat) (rem : Remote) (s : State) (cls : Nat) (c : Instr),
      TabWf {} s.fabric.ports → (cls, c) ∈ deliveries port k x y rem →
      (k.cls.toNat ≠ cls ∨ k.dest.toNat % 2048 ≠ ownAddr s → Idle c s)
      ∧ (k.cls.toNat = cls → k.dest.toNat % 2048 = ownAddr s →
        (portUp (portOf s (portIx port)) = false ∨ inReset s = true → Idle c s)
        ∧ (portUp (portOf s (portIx port)) = true → inReset s = false → inOrder (portOf s (portIx port)) k = false →
          Completes c s [.fabric] fun t => portOf t (portIx port) = { portOf s (portIx port) with nakDue := true }
            ∧ ∀ r, r ≠ portIx port → portOf t r = portOf s r)))
    ∧ (∀ (port : Port) (k : Packet) (s u : State), TabWf {} s.fabric.ports → TabWf {} s.dmas → TabWf {} s.ledger →
      TabWf {} s.bursts →
      let a24 := k.arg0.toNat % 2 ^ 24
      let a := k.arg0.toNat % 2 ^ 41
      let n := k.arg1.toNat
      (Arrives 0x01 port k s u →
        (regReachable s k = false → Completes (.regRd port k) s [.fabric] fun t => Answered s t k 0x03 1 (zeros 32))
        ∧ (regReachable s k = true → Completes (.regRd port k) s [.hw, .fabric] fun t =>
          let bs := (readWords n u .fabric a24).1.flatMap fun w => le 4 w.toNat
          Answered s t k 0x03 0 (bs ++ zeros (32 - bs.length)) ∧ t.hw.count = s.hw.count))
      ∧ (Arrives 0x02 port k s u →
        (regReachable s k = false ∨ k.data.length ≠ 32 →
          Completes (.regWr port k) s [.fabric] fun t => Answered s t k 0x03 1 [])
        ∧ (regReachable s k = true → k.data.length = 32 →
          Completes (.regWr port k) s [.power, .dev, .units, .hw, .boot, .mbs, .ledger, .order, .dacs, .chans, .pebs, .bursts, .seqs, .tdcs, .acqs, .dps, .resvs, .lanes, .queues, .dmas, .fabric, .press, .house, .levee, .svc, .mem, .msp, .free] fun t =>
            Touch [.fabric] (writeWords u a24 ((List.range n).map fun j => BitVec.ofNat 32 (bytesAt k.data (4 * j) 4))) t
            ∧ (n = 1 → ∃ v, exec (.registerWrite (BitVec.ofNat 24 a24) (BitVec.ofNat 32 (bytesAt k.data 0 4))) u = .next v
              ∧ Touch [.fabric] v t ∧ Answered v t k 0x03 0 [])))
      ∧ (Arrives 0x20 port k s u →
        (∀ st, homeRefuses s a n true = some st →
          Completes (.memRd port k) s [.fabric] fun t => Answered s t k 0x21 st [])
        ∧ (homeRefuses s a n true = none → readBytes s [] a n = none →
          Completes (.memRd port k) s [.fabric] fun t => Answered s t k 0x21 2 [])
        ∧ (∀ bs, homeRefuses s a n true = none → readBytes s [] a n = some bs →
          Completes (.memRd port k) s [.fabric] fun t => Answered s t k 0x21 0 bs))
      ∧ (Arrives 0x22 port k s u →
        (∀ st, homeRefuses s a n (k.data.length = n) = some st →
          Completes (.memWr port k) s [.fabric] fun t => Answered s t k 0x23 st [])
        ∧ (homeRefuses s a n (k.data.length = n) = none → Memory.wf s.mem.bytes = true → ∀ l, localOf s a = some l →
          Completes (.memWr port k) s [.fabric, .levee, .mem] fun t => Answered s t k 0x23 0 [] ∧ ∀ x,
            localByte t x = if l ≤ x ∧ x < l + k.data.length then k.data.getD (x - l) 0 else localByte s x))
      ∧ (Arrives 0x10 port k s u →
        (2 ≤ boxOf k → Completes (.mboxReq port k) s [.fabric] fun t => Acked s t k 3)
        ∧ (boxOf k < 2 → takenBefore s k = true → Completes (.mboxReq port k) s [.fabric] fun t => Acked s t k 0)
        ∧ (boxOf k < 2 → takenBefore s k = false → wrongPath s (boxOf k) = true → TabWf {} s.mbs →
          Completes (.mboxReq port k) s [.mbs, .fabric, .free] fun t => Acked s t k 0 ∧ takenBefore t k = true
            ∧ ∀ b, (mbOf t b).req = (mbOf s b).req ∧ (mbOf t b).reqHead = (mbOf s b).reqHead)
        ∧ (boxOf k < 2 → takenBefore s k = false → wrongPath s (boxOf k) = false → ringRoom s (boxOf k) = false →
          Completes (.mboxReq port k) s [.fabric] fun t => Acked s t k 1 ∧ takenBefore t k = false)
        ∧ (boxOf k < 2 → takenBefore s k = false → wrongPath s (boxOf k) = false → ringRoom s (boxOf k) = true →
            TabWf {} s.mbs → TabWf 0 (mbOf s (boxOf k)).req →
          Completes (.mboxReq port k) s [.mbs, .fabric] fun t => Acked s t k 0 ∧ takenBefore t k = true
              ∧ (mbOf t (boxOf k)).reqHead = (mbOf s (boxOf k)).reqHead + 1
              ∧ tget 0 (mbOf t (boxOf k)).req ((mbOf s (boxOf k)).reqHead.toNat % 256) = arrived k false
              ∧ ∀ j, j ≠ boxOf k → mbOf t j = mbOf s j))
      ∧ (Arrives 0x11 port k s u →
        Completes (.mboxRsp port k) s [.fabric] fun t => Acked s t k 0 ∧ takenBefore t k = true)
      ∧ (Arrives 0x12 port k s u →
        (k.status = 1 → Completes (.mboxAck port k) s [.fabric] fun t => t.fabric.copies = s.fabric.copies)
        ∧ (k.status ≠ 1 → Completes (.mboxAck port k) s [.mbs, .fabric] fun t =>
          (∀ c, c ∈ t.fabric.copies → c.pkt.tag = k.tag → c.got = true ∧ c.mb ≠ 4)))
      ∧ (Arrives 0x03 port k s u →
        (outstOf s k.tag [0x01, 0x02] = none → Completes (.regRsp port k) s [.fabric] fun t => t = u)
        ∧ ((outstOf s k.tag [0x01, 0x02]).isSome = true → Completes (.regRsp port k) s [.fabric] fun t =>
          Closed s t k.tag
            ∧ t.fabric.lastReg = (List.range (k.data.length / 4)).map fun j => BitVec.ofNat 32 (bytesAt k.data (4 * j) 4)))
      ∧ (Arrives 0x21 port k s u →
        (outstOf s k.tag [0x20] = none → Completes (.memRdRsp port k) s [.fabric] fun t => t = u)
        ∧ (∀ o, outstOf s k.tag [0x20] = some o →
          (o.dma = none → o.slot = none ∨ k.status = 0 → Completes (.memRdRsp port k) s [.fabric] fun t =>
            Closed s t k.tag)
          ∧ (∀ i f, o.dma = none → o.slot = some i → k.status ≠ 0 → lateFetch s i o.addr = some f →
            Completes (.memRdRsp port k) s [.bursts, .fabric] fun t => Closed s t k.tag
              ∧ burstOf t i = { burstOf s i with
                issued := (burstOf s i).issued.erase f, lost := (burstOf s i).lost ++ [f] }
              ∧ ∀ j, j ≠ i → burstOf t j = burstOf s j)
          ∧ (∀ c, o.dma = some c → (dmaOf s c).phase = .fetching → (dmaOf s c).addr = o.addr →
            TakesDescriptor (.memRdRsp port k) [.dev, .units, .mbs, .ledger, .order, .bursts, .queues, .dmas, .bufFree, .fabric, .levee, .svc, .mem, .free] s c (answerOf s o.addr 64 k.status.toNat)
              (packetBytesAt o.addr k.data))
          ∧ (∀ c e, o.dma = some c → (dmaOf s c).phase = .moving →
              (dmaOf s c).reads.find? (fun e => addr41 (dmaOf s c).src + e.1 = o.addr) = some e →
            TakesBurst (.memRdRsp port k) [.dev, .units, .mbs, .ledger, .order, .bursts, .queues, .dmas, .bufFree, .fabric, .levee, .svc, .mem, .free] s c e.1)))
      ∧ (Arrives 0x23 port k s u →
        (outstOf s k.tag [0x22] = none → Completes (.memWrAck port k) s [.fabric] fun t => t = u)
        ∧ (∀ o, outstOf s k.tag [0x22] = some o →
          (∀ c e, o.dma = some c → (dmaOf s c).phase = .moving →
              (dmaOf s c).beats.find? (fun e => addr41 (dmaOf s c).dst + e.1 = o.addr) = some e →
              (dmaOf s c).gather = [] ∨ (dmaOf s c).gatherAt ≠ e.1 →
            TakesWrite (.memWrAck port k) [.dev, .units, .mbs, .ledger, .order, .queues, .dmas, .fabric, .levee, .svc, .mem, .free] s c e.1 e.2
              (answerOf s (addr41 (dmaOf s c).dst + e.1) e.2 k.status.toNat))
          ∧ (∀ c, o.dma = none → writebackAt s o.addr = some c →
            TakesWriteback (.memWrAck port k) [.dev, .units, .mbs, .ledger, .order, .queues, .dmas, .fabric, .levee, .svc, .mem, .free] s c (answerOf s o.addr 32 k.status.toNat))
          ∧ (o.dma = none → writebackAt s o.addr = none → Completes (.memWrAck port k) s [.fabric] fun t =>
            Closed s t k.tag))))
    ∧ (∀ (tag : BitVec 16) (s : State), TabWf {} s.dmas → TabWf {} s.ledger → TabWf {} s.bursts → TabWf {} s.fabric.ports →
      (outstOf s tag [0x01, 0x02, 0x20, 0x22] = none → Idle (.requestTimeout tag) s)
      ∧ (∀ o, outstOf s tag [0x01, 0x02, 0x20, 0x22] = some o →
        (o.cls = 0x01#8 ∨ o.cls = 0x02#8 → Completes (.requestTimeout tag) s [.fabric] fun t => Closed s t tag)
        ∧ (∀ c e, o.cls = 0x22#8 → o.dma = some c → (dmaOf s c).phase = .moving →
            (dmaOf s c).beats.find? (fun e => addr41 (dmaOf s c).dst + e.1 = o.addr) = some e →
            (dmaOf s c).gather = [] ∨ (dmaOf s c).gatherAt ≠ e.1 →
          TakesWrite (.requestTimeout tag) [.dev, .units, .mbs, .ledger, .order, .bursts, .queues, .dmas, .bufFree, .fabric, .levee, .svc, .mem, .free] s c e.1 e.2
            (answerOf s (addr41 (dmaOf s c).dst + e.1) e.2 3))
        ∧ (∀ c, o.cls = 0x22#8 → o.dma = none → writebackAt s o.addr = some c →
          TakesWriteback (.requestTimeout tag) [.dev, .units, .mbs, .ledger, .order, .bursts, .queues, .dmas, .bufFree, .fabric, .levee, .svc, .mem, .free] s c (answerOf s o.addr 32 3))
        ∧ (∀ c, o.cls = 0x20#8 → o.dma = some c → (dmaOf s c).phase = .fetching → (dmaOf s c).addr = o.addr →
          TakesDescriptor (.requestTimeout tag) [.dev, .units, .mbs, .ledger, .order, .bursts, .queues, .dmas, .bufFree, .fabric, .levee, .svc, .mem, .free] s c (answerOf s o.addr 64 3) [])
        ∧ (∀ c e, o.cls = 0x20#8 → o.dma = some c → (dmaOf s c).phase = .moving →
            (dmaOf s c).reads.find? (fun e => addr41 (dmaOf s c).src + e.1 = o.addr) = some e →
          TakesBurst (.requestTimeout tag) [.dev, .units, .mbs, .ledger, .order, .bursts, .queues, .dmas, .bufFree, .fabric, .levee, .svc, .mem, .free] s c e.1)
        ∧ (∀ i f, o.cls = 0x20#8 → o.dma = none → o.slot = some i → lateFetch s i o.addr = some f →
          Completes (.requestTimeout tag) s [.bursts, .fabric] fun t => Closed s t tag
            ∧ burstOf t i = { burstOf s i with
              issued := (burstOf s i).issued.erase f, lost := (burstOf s i).lost ++ [f] }))
      ∧ ((∀ c, c ∈ s.fabric.copies → c.pkt.tag = tag → c.got = true) → Idle (.mboxAckTimeout tag) s)
      ∧ (∀ c, s.fabric.copies.find? (fun c => c.pkt.tag = tag && ! c.got) = some c →
        Completes (.mboxAckTimeout tag) s [.fabric] fun t => Sent s t 8 c.pkt ∧ t.fabric.copies = s.fabric.copies))

/-- A broadcast copy of a class arrives in order in s (R321). -/
def CopyArrives (cls : Nat) (port : Port) (k : Packet) (s : State) : Prop :=
  k.cls.toNat = cls ∧ k.route.getLsbD 3 = true ∧ portUp (portOf s (portIx port)) = true ∧ inReset s = false
    ∧ inOrder (portOf s (portIx port)) k = true

/-- The copies of a broadcast have been passed on: EAST in its row, and SOUTH (R321). -/
def PassedOn (s t : State) (port : Port) (k : Packet) : Prop :=
  let out (p : Nat) : Prop := copyOffered s p (k.src.toNat % 2048) = true → (portOf s p).st ≠ .down →
    (portOf s p).st ≠ .bypassed → Stands t p (inputOf (portIx port) k) (alike k)
  (k.route.getLsbD 5 = false → out 1) ∧ out 3

/-- Time exchanges are summed, epochs and broadcasts pass on, boot packets carry an image. TIME_XCHG is answered by the
port it came by, with the count at its arrival and the count at the answer's leaving less the transmit latency;
TIME_XCHG_RSP of a measurement in progress with its TAG adds its offset and delay to the port's sums, and the next
exchange goes out while some are left; else it changes nothing more. A TIME_EPOCH copy is passed on and, in a sync
mode, kept as the epoch; a BCAST_REQ copy is passed on and stands in the request ring of the mailbox it names where
that has room, else at the port. BOOT_REQ on the served port makes its sender the destination of the offer and the
image. BOOT_OFFER to a node that waits for one fixes the source and begins a download. BOOT_DATA of the source is
stored, and verification begins once all that was offered is there; a header error fails the boot; another node's is
answered 0xFF. BOOT_DONE of the neighbour served ends the serving. [derived: R53; R69; R71; R321; R328; R329; R330;
R331; R332; Table 17.3.] -/
def Obligations.TimeBroadcastAndBootPacketsAreTaken : Prop :=
  (∀ (port : Port) (k : Packet) (c2 c3 : Nat) (rem : Remote) (s u : State), TabWf {} s.fabric.ports →
      let p := portIx port
      let src := k.src.toNat % 2048
      let off := k.arg0.toNat
      (Arrives 0x30 port k s u → Completes (.timeXchg port k c2 c3) s [.fabric] fun t =>
        Stands t p 8 (alike (mkPacket s 0x31 src 0 (countAt s c2).toNat (leaveStamp s c3).toNat k.tag.toNat [])))
      ∧ (Arrives 0x31 port k s u →
        let due := measuring s p = true ∧ (portOf s p).xTag = some k.tag
        (¬ due ∨ (portOf s p).xT1 = none → Completes (.timeXchgRsp port k c2) s [.fabric] fun t => t = u)
        ∧ (∀ t1, (portOf s p).xT1 = some t1 → due → Completes (.timeXchgRsp port k c2) s [.hw, .mbs, .fabric, .levee, .mem, .free] fun t =>
          let t4 := countAt s c2
          (portOf t p).xDone = (portOf s p).xDone + 1
          ∧ (portOf t p).xSum = (portOf s p).xSum + ((k.arg0 - t1).toInt - (t4 - k.arg1).toInt)
          ∧ (portOf t p).xDelay = (portOf s p).xDelay + ((k.arg0 - t1).toInt + (t4 - k.arg1).toInt)
          ∧ ((portOf s p).xDone + 1 < s.fabric.measN → Stands t p 8 fun x => x.cls = 0x30#8 ∧ some x.tag = (portOf t p).xTag)))
      ∧ (Arrives 0x50 port k s u →
        ((∀ v, s.fabric.serve = some v → v.port ≠ port) → Completes (.bootReq port k rem) s [.fabric] fun t => t = u)
        ∧ (∀ v, s.fabric.serve = some v → v.port = port → Completes (.bootReq port k rem) s [.fabric] fun t =>
          t.fabric.serve = some { v with to_ := some k.src }
            ∧ Sent s t 8 (mkPacket s 0x51 src 0 v.len 0 0 [])))
      ∧ (Arrives 0x51 port k s u →
        let due := s.dev.mode = .boot ∧ s.boot.wait = .request ∧ (s.boot.phase = .waiting ∨ s.boot.phase = .failed)
        (¬ due → Completes (.bootOffer port k) s [.fabric] fun t => t = u)
        ∧ (due → Completes (.bootOffer port k) s [.boot, .fabric] fun t =>
          t.boot.phase = .receiving ∧ t.boot.source = some (k.src.setWidth 11) ∧ t.boot.offered = off
            ∧ t.boot.error = 0 ∧ t.boot.img = [] ∧ t.boot.covered = []))
      ∧ (Arrives 0x52 port k s u →
        (s.boot.source ≠ some (k.src.setWidth 11) → Completes (.bootData port k) s [.fabric] fun t =>
          Sent s t 8 (mkPacket s 0x53 src 0xFF 0 0 0 []))
        ∧ (s.boot.source = some (k.src.setWidth 11) →
          let due := s.dev.mode = .boot ∧ s.boot.phase = .receiving ∧ off % 32 = 0
          let w := storePiece s.boot off k.data
          (¬ due → Completes (.bootData port k) s [.fabric] fun t => t = u)
          ∧ (due → coveredTo w 128 = coveredTo s.boot 128 → Completes (.bootData port k) s [.boot, .fabric] fun t =>
            t.boot = if coveredTo w s.boot.offered then { w with phase := .verifying } else w)
          ∧ (∀ e, due → coveredTo w 128 = true → coveredTo s.boot 128 = false →
              headerError (bootBytes { s with boot := w } 128) = some e →
            Completes (.bootData port k) s [.boot, .fabric] fun t => t.boot.phase = .failed ∧ t.boot.error = BitVec.ofNat 8 e
              ∧ t.boot.source = none ∧ t.boot.img = [] ∧ Sent s t 8 (mkPacket s 0x53 src e 0 0 0 []))))
      ∧ (Arrives 0x53 port k s u →
        (∀ v, s.fabric.serve = some v → v.to_ = some k.src → Completes (.bootDone port k) s [.mbs, .fabric] fun t =>
          t.fabric.serve = none)
        ∧ ((∀ v, s.fabric.serve = some v → v.to_ ≠ some k.src) →
          Completes (.bootDone port k) s [.fabric] fun t => t = u)))
    ∧ (∀ (port : Port) (k : Packet) (s : State) (cls : Nat) (c : Instr), TabWf {} s.fabric.ports →
      (cls, c) ∈ [(0x32, Instr.timeEpoch port k), (0x40, Instr.bcastReq port k)] →
      (k.cls.toNat ≠ cls ∨ k.route.getLsbD 3 = false ∨ portUp (portOf s (portIx port)) = false ∨ inReset s = true →
        Idle c s)
      ∧ (k.cls.toNat = cls → k.route.getLsbD 3 = true → portUp (portOf s (portIx port)) = true → inReset s = false →
        inOrder (portOf s (portIx port)) k = false → Completes c s [.fabric] fun t =>
          portOf t (portIx port) = { portOf s (portIx port) with nakDue := true }
            ∧ ∀ r, r ≠ portIx port → portOf t r = portOf s r))
    ∧ (∀ (port : Port) (k : Packet) (s : State), TabWf {} s.fabric.ports →
      (CopyArrives 0x32 port k s → Completes (.timeEpoch port k) s [.hw, .fabric] fun t => PassedOn s t port k
        ∧ t.hw = if s.hw.syncMode = 0 then s.hw else { s.hw with epoch := some k.arg0, epochSeen := true })
      ∧ (CopyArrives 0x40 port k s → (∀ r, r < 4 → (portOf s r).ingress = []) →
        (boxOf k < 2 → wrongPath s (boxOf k) = false → ringRoom s (boxOf k) = true →
            TabWf {} s.mbs → TabWf 0 (mbOf s (boxOf k)).req →
          Completes (.bcastReq port k) s [.mbs, .fabric] fun t => PassedOn s t port k
              ∧ (mbOf t (boxOf k)).reqHead = (mbOf s (boxOf k)).reqHead + 1
              ∧ tget 0 (mbOf t (boxOf k)).req ((mbOf s (boxOf k)).reqHead.toNat % 256) = arrived k true
              ∧ (portOf t (portIx port)).ingress = [])
        ∧ (boxOf k < 2 → wrongPath s (boxOf k) = false → ringRoom s (boxOf k) = false →
          Completes (.bcastReq port k) s [.fabric] fun t => PassedOn s t port k
            ∧ (portOf t (portIx port)).ingress = [k])))
end

