-- ==== Sys2Proof/Laws/Touch.lean ====
section
/-! SUPPORT. The parts of State, and what a function may touch: the frame relation of every later law. -/

namespace Sys2Proof.Machine

theorem Part.same_refl (p : Part) (s : State) : p.same s s := by cases p <;> rfl

theorem Part.same_trans {p : Part} {s t u : State} (h : p.same s t) (k : p.same t u) : p.same s u := by
  cases p <;> exact Eq.trans k h

theorem Touch.refl (ps : List Part) (s : State) : Touch ps s s := ⟨fun p _ => p.same_refl s⟩

/-- A function that touches the parts a, after what touches the parts b. -/
theorem Touch.app {a b : List Part} {s t u : State} (k : Touch a t u) (hs : a ⊆ b) (h : Touch b s t) : Touch b s u :=
  ⟨fun p hp => Part.same_trans (h.same p hp) (k.same p fun ha => hp (hs ha))⟩

/-- In sequence. -/
theorem Touch.trans {b : List Part} {s t u : State} (k : Touch b t u) (h : Touch b s t) : Touch b s u :=
  ⟨fun p hp => Part.same_trans (h.same p hp) (k.same p hp)⟩

/-- More parts. -/
theorem Touch.mono {a b : List Part} {s t : State} (h : Touch a s t) (hs : a ⊆ b) : Touch b s t :=
  ⟨fun p hp => h.same p fun ha => hp (hs ha)⟩

/-- The state of a pair. -/
theorem Touch.snd {α : Type} {b : List Part} {s t : State} {x : α} {p : α × State} (h : p = (x, t)) (k : Touch b s p.2) :
    Touch b s t := by subst h; exact k

theorem Touch.fst {α : Type} {b : List Part} {s t : State} {x : α} {p : State × α} (h : p = (t, x)) (k : Touch b s p.1) :
    Touch b s t := by subst h; exact k

theorem Touch.ite {b : List Part} {s t u : State} {c : Prop} [Decidable c] (h : Touch b s t) (k : Touch b s u) :
    Touch b s (if c then t else u) := by
  split
  · exact h
  · exact k

theorem Touch.foldl {α : Type} {b : List Part} {s t : State} {g : State → α → State} {l : List α}
    (h : Touch b s t) (k : ∀ u x, Touch b u (g u x)) : Touch b s (l.foldl g t) := by
  induction l generalizing t with
  | nil => exact h
  | cons x l ih => exact ih ((k t x).trans h)

theorem Touch.foldlFst {α β : Type} {b : List Part} {s : State} {p : State × β} {g : State × β → α → State × β}
    {l : List α} (h : Touch b s p.1) (k : ∀ u x, Touch b u.1 (g u x).1) : Touch b s (l.foldl g p).1 := by
  induction l generalizing p with
  | nil => exact h
  | cons x l ih => exact ih ((k p x).trans h)

/-- What a meaning touches when it answers a next state. -/
structure TouchOut (ps : List Part) (s : State) (o : Host.Outcome State Fault Refusal) : Prop where
  next_same : ∀ t, o = .next t → Touch ps s t

theorem TouchOut.next {b : List Part} {s t : State} (h : Touch b s t) : TouchOut b s (.next t) :=
  ⟨fun u hu => by cases hu; exact h⟩

theorem TouchOut.fault {b : List Part} {s : State} {f : Fault} : TouchOut b s (.fault f) := ⟨fun u hu => by cases hu⟩

theorem TouchOut.ite {b : List Part} {s : State} {c : Prop} [Decidable c] {x y : Host.Outcome State Fault Refusal}
    (h : TouchOut b s x) (k : TouchOut b s y) : TouchOut b s (if c then x else y) := by
  split
  · exact h
  · exact k

/-- A meaning that goes on from a state already touched. -/
theorem TouchOut.app {a b : List Part} {s t : State} {o : Host.Outcome State Fault Refusal} (k : TouchOut a t o)
    (hs : a ⊆ b) (h : Touch b s t) : TouchOut b s o :=
  ⟨fun u hu => Touch.app (k.next_same u hu) hs h⟩

theorem TouchOut.trans {b : List Part} {s t : State} {o : Host.Outcome State Fault Refusal} (k : TouchOut b t o)
    (h : Touch b s t) : TouchOut b s o :=
  ⟨fun u hu => Touch.trans (k.next_same u hu) h⟩

theorem TouchOut.mono {a b : List Part} {s : State} {o : Host.Outcome State Fault Refusal} (h : TouchOut a s o)
    (hs : a ⊆ b) : TouchOut b s o :=
  ⟨fun u hu => Touch.mono (h.next_same u hu) hs⟩

/-! A part that is not touched is as before. -/

section

variable {a : List Part} {s t : State} (k : Touch a s t)
include k

theorem Touch.pending (h : Part.pending ∉ a := by decide) : t.pending = s.pending := k.same _ h
theorem Touch.power (h : Part.power ∉ a := by decide) : t.power = s.power := k.same _ h
theorem Touch.dev (h : Part.dev ∉ a := by decide) : t.dev = s.dev := k.same _ h
theorem Touch.units (h : Part.units ∉ a := by decide) : t.units = s.units := k.same _ h
theorem Touch.clock (h : Part.clock ∉ a := by decide) : t.clock = s.clock := k.same _ h
theorem Touch.hw (h : Part.hw ∉ a := by decide) : t.hw = s.hw := k.same _ h
theorem Touch.boot (h : Part.boot ∉ a := by decide) : t.boot = s.boot := k.same _ h
theorem Touch.mbs (h : Part.mbs ∉ a := by decide) : t.mbs = s.mbs := k.same _ h
theorem Touch.rr (h : Part.rr ∉ a := by decide) : t.rr = s.rr := k.same _ h
theorem Touch.ledger (h : Part.ledger ∉ a := by decide) : t.ledger = s.ledger := k.same _ h
theorem Touch.order (h : Part.order ∉ a := by decide) : t.order = s.order := k.same _ h
theorem Touch.cfg (h : Part.cfg ∉ a := by decide) : t.cfg = s.cfg := k.same _ h
theorem Touch.dacs (h : Part.dacs ∉ a := by decide) : t.dacs = s.dacs := k.same _ h
theorem Touch.corrs (h : Part.corrs ∉ a := by decide) : t.corrs = s.corrs := k.same _ h
theorem Touch.chans (h : Part.chans ∉ a := by decide) : t.chans = s.chans := k.same _ h
theorem Touch.pebs (h : Part.pebs ∉ a := by decide) : t.pebs = s.pebs := k.same _ h
theorem Touch.bursts (h : Part.bursts ∉ a := by decide) : t.bursts = s.bursts := k.same _ h
theorem Touch.seqs (h : Part.seqs ∉ a := by decide) : t.seqs = s.seqs := k.same _ h
theorem Touch.tdcs (h : Part.tdcs ∉ a := by decide) : t.tdcs = s.tdcs := k.same _ h
theorem Touch.tdcW (h : Part.tdcW ∉ a := by decide) : t.tdcW = s.tdcW := k.same _ h
theorem Touch.tdcLat (h : Part.tdcLat ∉ a := by decide) : t.tdcLat = s.tdcLat := k.same _ h
theorem Touch.acqs (h : Part.acqs ∉ a := by decide) : t.acqs = s.acqs := k.same _ h
theorem Touch.dps (h : Part.dps ∉ a := by decide) : t.dps = s.dps := k.same _ h
theorem Touch.resvs (h : Part.resvs ∉ a := by decide) : t.resvs = s.resvs := k.same _ h
theorem Touch.lgs (h : Part.lgs ∉ a := by decide) : t.lgs = s.lgs := k.same _ h
theorem Touch.lanes (h : Part.lanes ∉ a := by decide) : t.lanes = s.lanes := k.same _ h
theorem Touch.queues (h : Part.queues ∉ a := by decide) : t.queues = s.queues := k.same _ h
theorem Touch.dmas (h : Part.dmas ∉ a := by decide) : t.dmas = s.dmas := k.same _ h
theorem Touch.bufFree (h : Part.bufFree ∉ a := by decide) : t.bufFree = s.bufFree := k.same _ h
theorem Touch.fabric (h : Part.fabric ∉ a := by decide) : t.fabric = s.fabric := k.same _ h
theorem Touch.press (h : Part.press ∉ a := by decide) : t.press = s.press := k.same _ h
theorem Touch.house (h : Part.house ∉ a := by decide) : t.house = s.house := k.same _ h
theorem Touch.levee (h : Part.levee ∉ a := by decide) : t.levee = s.levee := k.same _ h
theorem Touch.svc (h : Part.svc ∉ a := by decide) : t.svc = s.svc := k.same _ h
theorem Touch.mem (h : Part.mem ∉ a := by decide) : t.mem = s.mem := k.same _ h
theorem Touch.msp (h : Part.msp ∉ a := by decide) : t.msp = s.msp := k.same _ h
theorem Touch.jtag (h : Part.jtag ∉ a := by decide) : t.jtag = s.jtag := k.same _ h
theorem Touch.free (h : Part.free ∉ a := by decide) : t.free = s.free := k.same _ h

end

/-! Updates of single parts, and of those that change together. -/

theorem Touch.set_power {b : List Part} {s e : State} {x} (h0 : Part.power ∈ b) (h : Touch b s e) :
    Touch b s { e with power := x } :=
  ⟨fun p hp => by cases p <;> first | exact h.same _ hp | exact absurd h0 hp⟩

theorem Touch.set_dev {b : List Part} {s e : State} {x} (h0 : Part.dev ∈ b) (h : Touch b s e) :
    Touch b s { e with dev := x } :=
  ⟨fun p hp => by cases p <;> first | exact h.same _ hp | exact absurd h0 hp⟩

theorem Touch.set_units {b : List Part} {s e : State} {x} (h0 : Part.units ∈ b) (h : Touch b s e) :
    Touch b s { e with units := x } :=
  ⟨fun p hp => by cases p <;> first | exact h.same _ hp | exact absurd h0 hp⟩

theorem Touch.set_clock {b : List Part} {s e : State} {x} (h0 : Part.clock ∈ b) (h : Touch b s e) :
    Touch b s { e with clock := x } :=
  ⟨fun p hp => by cases p <;> first | exact h.same _ hp | exact absurd h0 hp⟩

theorem Touch.set_hw {b : List Part} {s e : State} {x} (h0 : Part.hw ∈ b) (h : Touch b s e) :
    Touch b s { e with hw := x } :=
  ⟨fun p hp => by cases p <;> first | exact h.same _ hp | exact absurd h0 hp⟩

theorem Touch.set_boot {b : List Part} {s e : State} {x} (h0 : Part.boot ∈ b) (h : Touch b s e) :
    Touch b s { e with boot := x } :=
  ⟨fun p hp => by cases p <;> first | exact h.same _ hp | exact absurd h0 hp⟩

theorem Touch.set_mbs {b : List Part} {s e : State} {x} (h0 : Part.mbs ∈ b) (h : Touch b s e) :
    Touch b s { e with mbs := x } :=
  ⟨fun p hp => by cases p <;> first | exact h.same _ hp | exact absurd h0 hp⟩

theorem Touch.set_rr {b : List Part} {s e : State} {x} (h0 : Part.rr ∈ b) (h : Touch b s e) :
    Touch b s { e with rr := x } :=
  ⟨fun p hp => by cases p <;> first | exact h.same _ hp | exact absurd h0 hp⟩

theorem Touch.set_ledger {b : List Part} {s e : State} {x} (h0 : Part.ledger ∈ b) (h : Touch b s e) :
    Touch b s { e with ledger := x } :=
  ⟨fun p hp => by cases p <;> first | exact h.same _ hp | exact absurd h0 hp⟩

theorem Touch.set_order {b : List Part} {s e : State} {x} (h0 : Part.order ∈ b) (h : Touch b s e) :
    Touch b s { e with order := x } :=
  ⟨fun p hp => by cases p <;> first | exact h.same _ hp | exact absurd h0 hp⟩

theorem Touch.set_cfg {b : List Part} {s e : State} {x} (h0 : Part.cfg ∈ b) (h : Touch b s e) :
    Touch b s { e with cfg := x } :=
  ⟨fun p hp => by cases p <;> first | exact h.same _ hp | exact absurd h0 hp⟩

theorem Touch.set_dacs {b : List Part} {s e : State} {x} (h0 : Part.dacs ∈ b) (h : Touch b s e) :
    Touch b s { e with dacs := x } :=
  ⟨fun p hp => by cases p <;> first | exact h.same _ hp | exact absurd h0 hp⟩

theorem Touch.set_corrs {b : List Part} {s e : State} {x} (h0 : Part.corrs ∈ b) (h : Touch b s e) :
    Touch b s { e with corrs := x } :=
  ⟨fun p hp => by cases p <;> first | exact h.same _ hp | exact absurd h0 hp⟩

theorem Touch.set_chans {b : List Part} {s e : State} {x} (h0 : Part.chans ∈ b) (h : Touch b s e) :
    Touch b s { e with chans := x } :=
  ⟨fun p hp => by cases p <;> first | exact h.same _ hp | exact absurd h0 hp⟩

theorem Touch.set_pebs {b : List Part} {s e : State} {x} (h0 : Part.pebs ∈ b) (h : Touch b s e) :
    Touch b s { e with pebs := x } :=
  ⟨fun p hp => by cases p <;> first | exact h.same _ hp | exact absurd h0 hp⟩

theorem Touch.set_bursts {b : List Part} {s e : State} {x} (h0 : Part.bursts ∈ b) (h : Touch b s e) :
    Touch b s { e with bursts := x } :=
  ⟨fun p hp => by cases p <;> first | exact h.same _ hp | exact absurd h0 hp⟩

theorem Touch.set_seqs {b : List Part} {s e : State} {x} (h0 : Part.seqs ∈ b) (h : Touch b s e) :
    Touch b s { e with seqs := x } :=
  ⟨fun p hp => by cases p <;> first | exact h.same _ hp | exact absurd h0 hp⟩

theorem Touch.set_tdcs {b : List Part} {s e : State} {x} (h0 : Part.tdcs ∈ b) (h : Touch b s e) :
    Touch b s { e with tdcs := x } :=
  ⟨fun p hp => by cases p <;> first | exact h.same _ hp | exact absurd h0 hp⟩

theorem Touch.set_tdcW {b : List Part} {s e : State} {x} (h0 : Part.tdcW ∈ b) (h : Touch b s e) :
    Touch b s { e with tdcW := x } :=
  ⟨fun p hp => by cases p <;> first | exact h.same _ hp | exact absurd h0 hp⟩

theorem Touch.set_tdcLat {b : List Part} {s e : State} {x} (h0 : Part.tdcLat ∈ b) (h : Touch b s e) :
    Touch b s { e with tdcLat := x } :=
  ⟨fun p hp => by cases p <;> first | exact h.same _ hp | exact absurd h0 hp⟩

theorem Touch.set_acqs {b : List Part} {s e : State} {x} (h0 : Part.acqs ∈ b) (h : Touch b s e) :
    Touch b s { e with acqs := x } :=
  ⟨fun p hp => by cases p <;> first | exact h.same _ hp | exact absurd h0 hp⟩

theorem Touch.set_dps {b : List Part} {s e : State} {x} (h0 : Part.dps ∈ b) (h : Touch b s e) :
    Touch b s { e with dps := x } :=
  ⟨fun p hp => by cases p <;> first | exact h.same _ hp | exact absurd h0 hp⟩

theorem Touch.set_resvs {b : List Part} {s e : State} {x} (h0 : Part.resvs ∈ b) (h : Touch b s e) :
    Touch b s { e with resvs := x } :=
  ⟨fun p hp => by cases p <;> first | exact h.same _ hp | exact absurd h0 hp⟩

theorem Touch.set_lgs {b : List Part} {s e : State} {x} (h0 : Part.lgs ∈ b) (h : Touch b s e) :
    Touch b s { e with lgs := x } :=
  ⟨fun p hp => by cases p <;> first | exact h.same _ hp | exact absurd h0 hp⟩

theorem Touch.set_lanes {b : List Part} {s e : State} {x} (h0 : Part.lanes ∈ b) (h : Touch b s e) :
    Touch b s { e with lanes := x } :=
  ⟨fun p hp => by cases p <;> first | exact h.same _ hp | exact absurd h0 hp⟩

theorem Touch.set_queues {b : List Part} {s e : State} {x} (h0 : Part.queues ∈ b) (h : Touch b s e) :
    Touch b s { e with queues := x } :=
  ⟨fun p hp => by cases p <;> first | exact h.same _ hp | exact absurd h0 hp⟩

theorem Touch.set_dmas {b : List Part} {s e : State} {x} (h0 : Part.dmas ∈ b) (h : Touch b s e) :
    Touch b s { e with dmas := x } :=
  ⟨fun p hp => by cases p <;> first | exact h.same _ hp | exact absurd h0 hp⟩

theorem Touch.set_bufFree {b : List Part} {s e : State} {x} (h0 : Part.bufFree ∈ b) (h : Touch b s e) :
    Touch b s { e with bufFree := x } :=
  ⟨fun p hp => by cases p <;> first | exact h.same _ hp | exact absurd h0 hp⟩

theorem Touch.set_fabric {b : List Part} {s e : State} {x} (h0 : Part.fabric ∈ b) (h : Touch b s e) :
    Touch b s { e with fabric := x } :=
  ⟨fun p hp => by cases p <;> first | exact h.same _ hp | exact absurd h0 hp⟩

theorem Touch.set_press {b : List Part} {s e : State} {x} (h0 : Part.press ∈ b) (h : Touch b s e) :
    Touch b s { e with press := x } :=
  ⟨fun p hp => by cases p <;> first | exact h.same _ hp | exact absurd h0 hp⟩

theorem Touch.set_house {b : List Part} {s e : State} {x} (h0 : Part.house ∈ b) (h : Touch b s e) :
    Touch b s { e with house := x } :=
  ⟨fun p hp => by cases p <;> first | exact h.same _ hp | exact absurd h0 hp⟩

theorem Touch.set_levee {b : List Part} {s e : State} {x} (h0 : Part.levee ∈ b) (h : Touch b s e) :
    Touch b s { e with levee := x } :=
  ⟨fun p hp => by cases p <;> first | exact h.same _ hp | exact absurd h0 hp⟩

theorem Touch.set_svc {b : List Part} {s e : State} {x} (h0 : Part.svc ∈ b) (h : Touch b s e) :
    Touch b s { e with svc := x } :=
  ⟨fun p hp => by cases p <;> first | exact h.same _ hp | exact absurd h0 hp⟩

theorem Touch.set_mem {b : List Part} {s e : State} {x} (h0 : Part.mem ∈ b) (h : Touch b s e) :
    Touch b s { e with mem := x } :=
  ⟨fun p hp => by cases p <;> first | exact h.same _ hp | exact absurd h0 hp⟩

theorem Touch.set_msp {b : List Part} {s e : State} {x} (h0 : Part.msp ∈ b) (h : Touch b s e) :
    Touch b s { e with msp := x } :=
  ⟨fun p hp => by cases p <;> first | exact h.same _ hp | exact absurd h0 hp⟩

theorem Touch.set_jtag {b : List Part} {s e : State} {x} (h0 : Part.jtag ∈ b) (h : Touch b s e) :
    Touch b s { e with jtag := x } :=
  ⟨fun p hp => by cases p <;> first | exact h.same _ hp | exact absurd h0 hp⟩

theorem Touch.set_free {b : List Part} {s e : State} {x} (h0 : Part.free ∈ b) (h : Touch b s e) :
    Touch b s { e with free := x } :=
  ⟨fun p hp => by cases p <;> first | exact h.same _ hp | exact absurd h0 hp⟩

theorem Touch.set_power_dev {b : List Part} {s e : State} {x y} (h0 : Part.power ∈ b) (h1 : Part.dev ∈ b) (h : Touch b s e) :
    Touch b s { e with power := x, dev := y } :=
  ⟨fun p hp => by cases p <;> first | exact h.same _ hp | exact absurd h0 hp | exact absurd h1 hp⟩

theorem Touch.set_power_boot {b : List Part} {s e : State} {x y} (h0 : Part.power ∈ b) (h1 : Part.boot ∈ b) (h : Touch b s e) :
    Touch b s { e with power := x, boot := y } :=
  ⟨fun p hp => by cases p <;> first | exact h.same _ hp | exact absurd h0 hp | exact absurd h1 hp⟩

theorem Touch.set_power_dacs {b : List Part} {s e : State} {x y} (h0 : Part.power ∈ b) (h1 : Part.dacs ∈ b) (h : Touch b s e) :
    Touch b s { e with power := x, dacs := y } :=
  ⟨fun p hp => by cases p <;> first | exact h.same _ hp | exact absurd h0 hp | exact absurd h1 hp⟩

theorem Touch.set_power_house {b : List Part} {s e : State} {x y} (h0 : Part.power ∈ b) (h1 : Part.house ∈ b) (h : Touch b s e) :
    Touch b s { e with power := x, house := y } :=
  ⟨fun p hp => by cases p <;> first | exact h.same _ hp | exact absurd h0 hp | exact absurd h1 hp⟩

theorem Touch.set_clock_hw {b : List Part} {s e : State} {x y} (h0 : Part.clock ∈ b) (h1 : Part.hw ∈ b) (h : Touch b s e) :
    Touch b s { e with clock := x, hw := y } :=
  ⟨fun p hp => by cases p <;> first | exact h.same _ hp | exact absurd h0 hp | exact absurd h1 hp⟩

theorem Touch.set_hw_fabric {b : List Part} {s e : State} {x y} (h0 : Part.hw ∈ b) (h1 : Part.fabric ∈ b) (h : Touch b s e) :
    Touch b s { e with hw := x, fabric := y } :=
  ⟨fun p hp => by cases p <;> first | exact h.same _ hp | exact absurd h0 hp | exact absurd h1 hp⟩

theorem Touch.set_boot_levee {b : List Part} {s e : State} {x y} (h0 : Part.boot ∈ b) (h1 : Part.levee ∈ b) (h : Touch b s e) :
    Touch b s { e with boot := x, levee := y } :=
  ⟨fun p hp => by cases p <;> first | exact h.same _ hp | exact absurd h0 hp | exact absurd h1 hp⟩

theorem Touch.set_chans_dps {b : List Part} {s e : State} {x y} (h0 : Part.chans ∈ b) (h1 : Part.dps ∈ b) (h : Touch b s e) :
    Touch b s { e with chans := x, dps := y } :=
  ⟨fun p hp => by cases p <;> first | exact h.same _ hp | exact absurd h0 hp | exact absurd h1 hp⟩

theorem Touch.set_pebs_dps {b : List Part} {s e : State} {x y} (h0 : Part.pebs ∈ b) (h1 : Part.dps ∈ b) (h : Touch b s e) :
    Touch b s { e with pebs := x, dps := y } :=
  ⟨fun p hp => by cases p <;> first | exact h.same _ hp | exact absurd h0 hp | exact absurd h1 hp⟩

theorem Touch.set_bursts_fabric {b : List Part} {s e : State} {x y} (h0 : Part.bursts ∈ b) (h1 : Part.fabric ∈ b) (h : Touch b s e) :
    Touch b s { e with bursts := x, fabric := y } :=
  ⟨fun p hp => by cases p <;> first | exact h.same _ hp | exact absurd h0 hp | exact absurd h1 hp⟩

theorem Touch.set_levee_mem {b : List Part} {s e : State} {x y} (h0 : Part.levee ∈ b) (h1 : Part.mem ∈ b) (h : Touch b s e) :
    Touch b s { e with levee := x, mem := y } :=
  ⟨fun p hp => by cases p <;> first | exact h.same _ hp | exact absurd h0 hp | exact absurd h1 hp⟩

theorem Touch.set_power_dps_resvs {b : List Part} {s e : State} {x y z} (h0 : Part.power ∈ b) (h1 : Part.dps ∈ b) (h2 : Part.resvs ∈ b) (h : Touch b s e) :
    Touch b s { e with power := x, dps := y, resvs := z } :=
  ⟨fun p hp => by cases p <;> first | exact h.same _ hp | exact absurd h0 hp | exact absurd h1 hp | exact absurd h2 hp⟩

theorem Touch.set_dev_boot_levee {b : List Part} {s e : State} {x y z} (h0 : Part.dev ∈ b) (h1 : Part.boot ∈ b) (h2 : Part.levee ∈ b) (h : Touch b s e) :
    Touch b s { e with dev := x, boot := y, levee := z } :=
  ⟨fun p hp => by cases p <;> first | exact h.same _ hp | exact absurd h0 hp | exact absurd h1 hp | exact absurd h2 hp⟩

theorem Touch.set_dev_chans_pebs {b : List Part} {s e : State} {x y z} (h0 : Part.dev ∈ b) (h1 : Part.chans ∈ b) (h2 : Part.pebs ∈ b) (h : Touch b s e) :
    Touch b s { e with dev := x, chans := y, pebs := z } :=
  ⟨fun p hp => by cases p <;> first | exact h.same _ hp | exact absurd h0 hp | exact absurd h1 hp | exact absurd h2 hp⟩

theorem Touch.set_boot_levee_svc {b : List Part} {s e : State} {x y z} (h0 : Part.boot ∈ b) (h1 : Part.levee ∈ b) (h2 : Part.svc ∈ b) (h : Touch b s e) :
    Touch b s { e with boot := x, levee := y, svc := z } :=
  ⟨fun p hp => by cases p <;> first | exact h.same _ hp | exact absurd h0 hp | exact absurd h1 hp | exact absurd h2 hp⟩

theorem Touch.set_cfg_levee_mem {b : List Part} {s e : State} {x y z} (h0 : Part.cfg ∈ b) (h1 : Part.levee ∈ b) (h2 : Part.mem ∈ b) (h : Touch b s e) :
    Touch b s { e with cfg := x, levee := y, mem := z } :=
  ⟨fun p hp => by cases p <;> first | exact h.same _ hp | exact absurd h0 hp | exact absurd h1 hp | exact absurd h2 hp⟩

theorem Touch.set_chans_pebs_lanes {b : List Part} {s e : State} {x y z} (h0 : Part.chans ∈ b) (h1 : Part.pebs ∈ b) (h2 : Part.lanes ∈ b) (h : Touch b s e) :
    Touch b s { e with chans := x, pebs := y, lanes := z } :=
  ⟨fun p hp => by cases p <;> first | exact h.same _ hp | exact absurd h0 hp | exact absurd h1 hp | exact absurd h2 hp⟩

theorem Touch.set_queues_dmas_bufFree {b : List Part} {s e : State} {x y z} (h0 : Part.queues ∈ b) (h1 : Part.dmas ∈ b) (h2 : Part.bufFree ∈ b) (h : Touch b s e) :
    Touch b s { e with queues := x, dmas := y, bufFree := z } :=
  ⟨fun p hp => by cases p <;> first | exact h.same _ hp | exact absurd h0 hp | exact absurd h1 hp | exact absurd h2 hp⟩

theorem Touch.set_dmas_bufFree_fabric {b : List Part} {s e : State} {x y z} (h0 : Part.dmas ∈ b) (h1 : Part.bufFree ∈ b) (h2 : Part.fabric ∈ b) (h : Touch b s e) :
    Touch b s { e with dmas := x, bufFree := y, fabric := z } :=
  ⟨fun p hp => by cases p <;> first | exact h.same _ hp | exact absurd h0 hp | exact absurd h1 hp | exact absurd h2 hp⟩

theorem Touch.set_power_dev_mbs_svc {b : List Part} {s e : State} {x y z w} (h0 : Part.power ∈ b) (h1 : Part.dev ∈ b) (h2 : Part.mbs ∈ b) (h3 : Part.svc ∈ b) (h : Touch b s e) :
    Touch b s { e with power := x, dev := y, mbs := z, svc := w } :=
  ⟨fun p hp => by cases p <;> first | exact h.same _ hp | exact absurd h0 hp | exact absurd h1 hp | exact absurd h2 hp | exact absurd h3 hp⟩

theorem Touch.set_bufFree_fabric {b : List Part} {s e : State} {x y} (h0 : Part.bufFree ∈ b) (h1 : Part.fabric ∈ b) (h : Touch b s e) :
    Touch b s { e with bufFree := x, fabric := y } :=
  ⟨fun p hp => by cases p <;> first | exact h.same _ hp | exact absurd h0 hp | exact absurd h1 hp⟩

theorem Touch.set_clock_dps {b : List Part} {s e : State} {x y} (h0 : Part.clock ∈ b) (h1 : Part.dps ∈ b) (h : Touch b s e) :
    Touch b s { e with clock := x, dps := y } :=
  ⟨fun p hp => by cases p <;> first | exact h.same _ hp | exact absurd h0 hp | exact absurd h1 hp⟩

theorem Touch.set_clock_hw_dps {b : List Part} {s e : State} {x y z} (h0 : Part.clock ∈ b) (h1 : Part.hw ∈ b) (h2 : Part.dps ∈ b) (h : Touch b s e) :
    Touch b s { e with clock := x, hw := y, dps := z } :=
  ⟨fun p hp => by cases p <;> first | exact h.same _ hp | exact absurd h0 hp | exact absurd h1 hp | exact absurd h2 hp⟩

theorem Touch.set_dev_chans {b : List Part} {s e : State} {x y} (h0 : Part.dev ∈ b) (h1 : Part.chans ∈ b) (h : Touch b s e) :
    Touch b s { e with dev := x, chans := y } :=
  ⟨fun p hp => by cases p <;> first | exact h.same _ hp | exact absurd h0 hp | exact absurd h1 hp⟩

theorem Touch.set_dev_dps {b : List Part} {s e : State} {x y} (h0 : Part.dev ∈ b) (h1 : Part.dps ∈ b) (h : Touch b s e) :
    Touch b s { e with dev := x, dps := y } :=
  ⟨fun p hp => by cases p <;> first | exact h.same _ hp | exact absurd h0 hp | exact absurd h1 hp⟩

theorem Touch.set_resvs_mem {b : List Part} {s e : State} {x y} (h0 : Part.resvs ∈ b) (h1 : Part.mem ∈ b) (h : Touch b s e) :
    Touch b s { e with resvs := x, mem := y } :=
  ⟨fun p hp => by cases p <;> first | exact h.same _ hp | exact absurd h0 hp | exact absurd h1 hp⟩

theorem Touch.set_power_levee {b : List Part} {s e : State} {x y} (h0 : Part.power ∈ b) (h1 : Part.levee ∈ b) (h : Touch b s e) :
    Touch b s { e with power := x, levee := y } :=
  ⟨fun p hp => by cases p <;> first | exact h.same _ hp | exact absurd h0 hp | exact absurd h1 hp⟩

theorem Touch.set_dps_resvs {b : List Part} {s e : State} {x y} (h0 : Part.dps ∈ b) (h1 : Part.resvs ∈ b) (h : Touch b s e) :
    Touch b s { e with dps := x, resvs := y } :=
  ⟨fun p hp => by cases p <;> first | exact h.same _ hp | exact absurd h0 hp | exact absurd h1 hp⟩

theorem Touch.set_power_dev_mbs_levee_svc {b : List Part} {s e : State} {x y z w u} (h0 : Part.power ∈ b) (h1 : Part.dev ∈ b) (h2 : Part.mbs ∈ b) (h3 : Part.levee ∈ b) (h4 : Part.svc ∈ b) (h : Touch b s e) :
    Touch b s { e with power := x, dev := y, mbs := z, levee := w, svc := u } :=
  ⟨fun p hp => by cases p <;> first | exact h.same _ hp | exact absurd h0 hp | exact absurd h1 hp | exact absurd h2 hp | exact absurd h3 hp | exact absurd h4 hp⟩

end Sys2Proof.Machine
end

