-- ==== Sys2Proof/Laws/Route.lean ====
section
/-! SUPPORT. What each function of Machine/Route.lean may touch. -/

namespace Sys2Proof.Machine

theorem modPort_touch (s : State) (p : ℕ) (f : PortState → PortState) :
    Touch [.fabric] s (modPort s p f) := by
  unfold modPort
  dsimp only
  refine Touch.set_fabric (by decide) ?_
  exact Touch.refl _ _

theorem freeInput_touch (s : State) (input : ℕ) (pkt : Packet) :
    Touch [.fabric] s (freeInput s input pkt) := by
  unfold freeInput
  apply Touch.ite
  · (apply Touch.app (modPort_touch ..); · decide)
    exact Touch.refl _ _
  · exact Touch.refl _ _

theorem sendOne_touch (s : State) (p : ℕ) (e : ℕ × Packet) :
    Touch [.fabric] s (sendOne s p e) := by
  unfold sendOne
  dsimp only
  (apply Touch.app (freeInput_touch ..); · decide)
  (apply Touch.app (modPort_touch ..); · decide)
  exact Touch.refl _ _

theorem pumpPort_touch (a0 : ℕ) (s : State) (a2 : ℕ) :
    Touch [.fabric] s (pumpPort a0 s a2) := by
  induction a0 generalizing s a2 with
  | zero =>
    unfold pumpPort
    exact Touch.refl _ _
  | succ n ih =>
    unfold pumpPort
    split
    · apply Touch.trans (ih ..)
      (apply Touch.app (sendOne_touch ..); · decide)
      exact Touch.refl _ _
    · exact Touch.refl _ _

theorem holdFor_touch (s : State) (p : ℕ) (input : ℕ) (pkt : Packet) :
    Touch [.fabric] s (holdFor s p input pkt) := by
  unfold holdFor
  dsimp only
  (apply Touch.app (pumpPort_touch ..); · decide)
  (apply Touch.app (modPort_touch ..); · decide)
  exact Touch.refl _ _

theorem sendPlain_touch (s : State) (input : ℕ) (pkt : Packet) :
    Touch [.fabric] s (sendPlain s input pkt) := by
  unfold sendPlain
  split
  · (apply Touch.app (holdFor_touch ..); · decide)
    exact Touch.refl _ _
  · (apply Touch.app (freeInput_touch ..); · decide)
    exact Touch.refl _ _

theorem sendCopy_touch (s : State) (p : ℕ) (input : ℕ) (pkt : Packet) :
    Touch [.fabric] s (sendCopy s p input pkt) := by
  unfold sendCopy
  dsimp only
  apply Touch.ite
  · exact Touch.refl _ _
  · (apply Touch.app (holdFor_touch ..); · decide)
    exact Touch.refl _ _

theorem sendBroadcast_touch (s : State) (input : ℕ) (phase : ℕ) (pkt : Packet) :
    Touch [.fabric] s (sendBroadcast s input phase pkt) := by
  unfold sendBroadcast
  dsimp only
  apply Touch.ite
  · (apply Touch.app (sendCopy_touch ..); · decide)
    apply Touch.ite
    · (apply Touch.app (sendCopy_touch ..); · decide)
      exact Touch.refl _ _
    · exact Touch.refl _ _
  · apply Touch.ite
    · (apply Touch.app (sendCopy_touch ..); · decide)
      exact Touch.refl _ _
    · exact Touch.refl _ _

theorem ownUnreachable_touch (s : State) (pkt : Packet) :
    Touch [.fabric] s (ownUnreachable s pkt) := by
  unfold ownUnreachable
  dsimp only
  refine Touch.set_fabric (by decide) ?_
  exact Touch.refl _ _

theorem endHere_touch (s : State) (input : ℕ) (pkt : Packet) :
    Touch [.fabric] s (endHere s input pkt) := by
  unfold endHere
  dsimp only
  apply Touch.ite
  · (apply Touch.app (ownUnreachable_touch ..); · decide)
    (apply Touch.app (freeInput_touch ..); · decide)
    exact Touch.refl _ _
  · split
    · (apply Touch.app (sendPlain_touch ..); · decide)
      (apply Touch.app (freeInput_touch ..); · decide)
      exact Touch.refl _ _
    · (apply Touch.app (freeInput_touch ..); · decide)
      exact Touch.refl _ _

theorem sendInRing_touch (s : State) (input : ℕ) (pkt : Packet) :
    Touch [.fabric] s (sendInRing s input pkt) := by
  unfold sendInRing
  split
  · (apply Touch.app (holdFor_touch ..); · decide)
    exact Touch.refl _ _
  · (apply Touch.app (endHere_touch ..); · decide)
    exact Touch.refl _ _

theorem sendPacket_touch (s : State) (input : ℕ) (pkt : Packet) :
    Touch [.fabric] s (sendPacket s input pkt) := by
  unfold sendPacket
  (apply Touch.app (sendInRing_touch ..); · decide)
  exact Touch.refl _ _

theorem judgeHeld_touch (s : State) (p : ℕ) :
    Touch [.fabric] s (judgeHeld s p) := by
  unfold judgeHeld
  dsimp only
  apply Touch.foldl
  · (apply Touch.app (modPort_touch ..); · decide)
    exact Touch.refl _ _
  · intro u v
    apply Touch.ite
    · (apply Touch.app (freeInput_touch ..); · decide)
      exact Touch.refl _ _
    · (apply Touch.app (endHere_touch ..); · decide)
      exact Touch.refl _ _

theorem reroute_touch (s : State) (p : ℕ) :
    Touch [.fabric] s (reroute s p) := by
  unfold reroute
  dsimp only
  apply Touch.foldl
  · (apply Touch.app (modPort_touch ..); · decide)
    exact Touch.refl _ _
  · intro u v
    apply Touch.ite
    · (apply Touch.app (freeInput_touch ..); · decide)
      exact Touch.refl _ _
    · (apply Touch.app (sendInRing_touch ..); · decide)
      exact Touch.refl _ _

end Sys2Proof.Machine
end

