-- ==== Sys2Proof/Laws/Ops.lean ====
section
/-! SUPPORT. What each function of Machine/Ops.lean may touch. -/

namespace Sys2Proof.Machine

theorem modSlot_touch (s : State) (i : ℕ) (f : Slot → Slot) :
    Touch [.ledger] s (modSlot s i f) := by
  unfold modSlot
  refine Touch.set_ledger (by decide) ?_
  exact Touch.refl _ _

theorem retireSlot_touch (s : State) (i : ℕ) :
    Touch [.ledger] s (retireSlot s i) := by
  unfold retireSlot
  (apply Touch.app (modSlot_touch ..); · decide)
  exact Touch.refl _ _

theorem retireOwn_touch (s : State) :
    Touch [.ledger] s (retireOwn s) := by
  unfold retireOwn
  apply Touch.foldl
  · exact Touch.refl _ _
  · intro u v
    (apply Touch.app (retireSlot_touch ..); · decide)
    exact Touch.refl _ _

theorem modMb_touch (s : State) (n : ℕ) (f : Mailbox → Mailbox) :
    Touch [.mbs] s (modMb s n f) := by
  unfold modMb
  refine Touch.set_mbs (by decide) ?_
  exact Touch.refl _ _

theorem keepEntry_touch (s : State) (n : ℕ) :
    Touch [.fabric] s (keepEntry s n) := by
  unfold keepEntry
  dsimp only
  refine Touch.set_fabric (by decide) ?_
  exact Touch.refl _ _

theorem settleCopies_touch (s : State) :
    Touch [.mbs, .fabric] s (settleCopies s) := by
  unfold settleCopies
  dsimp only
  refine Touch.set_fabric (by decide) ?_
  apply Touch.foldl
  · exact Touch.refl _ _
  · intro u v
    (apply Touch.app (modMb_touch ..); · decide)
    refine Touch.set_fabric (by decide) ?_
    exact Touch.refl _ _

theorem sendMsg_touch (s : State) (mb : ℕ) (dest : ℕ) (m : Msg) :
    Touch [.mbs, .fabric] s (sendMsg s mb dest m) := by
  unfold sendMsg
  dsimp only
  apply Touch.ite
  · (apply Touch.app (sendPacket_touch ..); · decide)
    refine Touch.set_fabric (by decide) ?_
    exact Touch.refl _ _
  · apply Touch.ite
    · (apply Touch.app (settleCopies_touch ..); · decide)
      refine Touch.set_fabric (by decide) ?_
      exact Touch.refl _ _
    · refine Touch.set_fabric (by decide) ?_
      exact Touch.refl _ _

theorem postRing_touch (s : State) (n : ℕ) (dest : ℕ) (fabric : Bool) (m : Msg) :
    Touch [.mbs, .fabric] s (postRing s n dest fabric m) := by
  unfold postRing
  dsimp only
  apply Touch.ite
  · (apply Touch.app (sendMsg_touch ..); · decide)
    (apply Touch.app (modMb_touch ..); · decide)
    exact Touch.refl _ _
  · apply Touch.ite
    · (apply Touch.app (keepEntry_touch ..); · decide)
      (apply Touch.app (modMb_touch ..); · decide)
      exact Touch.refl _ _
    · (apply Touch.app (modMb_touch ..); · decide)
      exact Touch.refl _ _

theorem noticeNow_touch (s : State) (n : ℕ) (dest : ℕ) (fabric : Bool) (m : Msg) :
    Touch [.mbs, .fabric] s (noticeNow s n dest fabric m) := by
  unfold noticeNow
  dsimp only
  apply Touch.ite
  · (apply Touch.app (postRing_touch ..); · decide)
    (apply Touch.app (modMb_touch ..); · decide)
    exact Touch.refl _ _
  · (apply Touch.app (modMb_touch ..); · decide)
    exact Touch.refl _ _

theorem placeNotice_touch (s : State) (n : ℕ) (dest : ℕ) (fabric : Bool) (m : Msg) :
    Touch [.mbs, .fabric] s (placeNotice s n dest fabric m) := by
  unfold placeNotice
  split
  · (apply Touch.app (modMb_touch ..); · decide)
    exact Touch.refl _ _
  · (apply Touch.app (noticeNow_touch ..); · decide)
    exact Touch.refl _ _

theorem notice_touch (s : State) (n : ℕ) (dest : ℕ) (fabric : Bool) (op : ℕ) (tag : ℕ) (item : ℕ) (len : ℕ) (fields : List (ℕ × ℕ × ℕ)) :
    Touch [.mbs, .fabric, .svc] s (notice s n dest fabric op tag item len fields) := by
  unfold notice
  dsimp only
  apply Touch.ite
  · exact Touch.refl _ _
  · apply Touch.ite
    · refine Touch.set_svc (by decide) ?_
      exact Touch.refl _ _
    · (apply Touch.app (placeNotice_touch ..); · decide)
      exact Touch.refl _ _

theorem takeFree_touch (s : State) (bound : ℕ) :
    Touch [.free] s (takeFree s bound).2 := by
  unfold takeFree
  dsimp only
  refine Touch.set_free (by decide) ?_
  exact Touch.refl _ _

theorem deviceNotice_touch (s : State) (bit : ℕ) (op : ℕ) (len : ℕ) (fields : List (ℕ × ℕ × ℕ)) :
    Touch [.mbs, .fabric, .svc, .free] s (deviceNotice s bit op len fields) := by
  unfold deviceNotice
  dsimp only
  apply Touch.ite
  · apply Touch.ite
    · (apply Touch.app (notice_touch ..); · decide)
      (apply Touch.app (takeFree_touch ..); · decide)
      exact Touch.refl _ _
    · (apply Touch.app (notice_touch ..); · decide)
      exact Touch.refl _ _
  · exact Touch.refl _ _

theorem unitNotice_touch (s : State) (a1 : ℕ) (old : UState) (new : UState) :
    Touch [.mbs, .fabric, .svc, .free] s (unitNotice s a1 old new) := by
  unfold unitNotice
  apply Touch.ite
  · exact Touch.refl _ _
  · (apply Touch.app (deviceNotice_touch ..); · decide)
    exact Touch.refl _ _

theorem changePort_touch (s : State) (p : ℕ) (f : PortState → PortState) :
    Touch [.mbs, .fabric, .svc, .free] s (changePort s p f) := by
  unfold changePort
  dsimp only
  apply Touch.ite
  · (apply Touch.app (modPort_touch ..); · decide)
    exact Touch.refl _ _
  · (apply Touch.app (unitNotice_touch ..); · decide)
    (apply Touch.app (modPort_touch ..); · decide)
    exact Touch.refl _ _

theorem selfRefresh_touch (s : State) :
    Touch [.mem] s (selfRefresh s) := by
  unfold selfRefresh
  dsimp only
  refine Touch.set_mem (by decide) ?_
  exact Touch.refl _ _

theorem postDirect_touch (s : State) (n : ℕ) (req : Msg) (rsp : Msg) :
    Touch [.mbs, .fabric] s (postDirect s n req rsp) := by
  unfold postDirect
  apply Touch.ite
  · exact Touch.refl _ _
  · (apply Touch.app (postRing_touch ..); · decide)
    exact Touch.refl _ _

theorem flushOwed_touch (a0 : ℕ) (s : State) (a2 : ℕ) :
    Touch [.mbs, .fabric] s (flushOwed a0 s a2) := by
  induction a0 generalizing s a2 with
  | zero =>
    unfold flushOwed
    exact Touch.refl _ _
  | succ n ih =>
    unfold flushOwed
    dsimp only
    apply Touch.ite
    · exact Touch.refl _ _
    · split
      · apply Touch.trans (ih ..)
        apply Touch.foldl
        · (apply Touch.app (postDirect_touch ..); · decide)
          (apply Touch.app (modMb_touch ..); · decide)
          exact Touch.refl _ _
        · intro u v
          (apply Touch.app (noticeNow_touch ..); · decide)
          exact Touch.refl _ _
      · exact Touch.refl _ _

theorem answerOwed_touch (s : State) (p : Msg → Bool) (rsp : Msg → Msg) :
    Touch [.mbs, .fabric] s (answerOwed s p rsp) := by
  unfold answerOwed
  dsimp only
  split
  · (apply Touch.app (flushOwed_touch ..); · decide)
    (apply Touch.app (modMb_touch ..); · decide)
    exact Touch.refl _ _
  · exact Touch.refl _ _

theorem answerAll_touch (a0 : ℕ) (s : State) (a2 : Msg → Bool) (a3 : State → Msg → Msg) :
    Touch [.mbs, .fabric] s (answerAll a0 s a2 a3) := by
  induction a0 generalizing s a2 a3 with
  | zero =>
    unfold answerAll
    exact Touch.refl _ _
  | succ n ih =>
    unfold answerAll
    apply Touch.trans (ih ..)
    (apply Touch.app (answerOwed_touch ..); · decide)
    exact Touch.refl _ _

theorem answerEvery_touch (s : State) (p : Msg → Bool) (f : State → Msg → Msg) :
    Touch [.mbs, .fabric] s (answerEvery s p f) := by
  unfold answerEvery
  (apply Touch.app (answerAll_touch ..); · decide)
  exact Touch.refl _ _

theorem modUnit_touch (s : State) (a1 : ℕ) (f : UnitSt → UnitSt) :
    Touch [.units] s (modUnit s a1 f) := by
  unfold modUnit
  refine Touch.set_units (by decide) ?_
  exact Touch.refl _ _

theorem setUnit_touch (s : State) (a1 : ℕ) (new : UState) (byHost : Bool) :
    Touch [.units, .mbs, .fabric, .svc, .free] s (setUnit s a1 new byHost) := by
  unfold setUnit
  dsimp only
  apply Touch.ite
  · (apply Touch.app (modUnit_touch ..); · decide)
    exact Touch.refl _ _
  · (apply Touch.app (unitNotice_touch ..); · decide)
    (apply Touch.app (modUnit_touch ..); · decide)
    exact Touch.refl _ _

theorem throughMb2_touch (s : State) (req : Msg) (rsp : Msg) :
    Touch [.mbs] s (throughMb2 s req rsp) := by
  unfold throughMb2
  (apply Touch.app (modMb_touch ..); · decide)
  exact Touch.refl _ _

theorem postHeld_touch (s : State) (ns : List (ℕ × Msg)) :
    Touch [.mbs, .fabric] s (postHeld s ns) := by
  unfold postHeld
  apply Touch.foldl
  · exact Touch.refl _ _
  · intro u v
    (apply Touch.app (placeNotice_touch ..); · decide)
    exact Touch.refl _ _

theorem freeBytes_touch (s : State) (n : ℕ) :
    Touch [.free] s (freeBytes s n).2 := by
  unfold freeBytes
  dsimp only
  split
  · dsimp only
    exact Touch.refl _ _
  · dsimp only
    (apply Touch.app (takeFree_touch ..); · decide)
    exact Touch.refl _ _

theorem sendRequest_touch (s : State) (cls : ℕ) (dest : ℕ) (arg0 : ℕ) (arg1 : ℕ) (data : List Byte) (dma : Option ℕ) (slot : Option ℕ) :
    Touch [.fabric] s (sendRequest s cls dest arg0 arg1 data dma slot) := by
  unfold sendRequest
  dsimp only
  (apply Touch.app (sendPacket_touch ..); · decide)
  refine Touch.set_fabric (by decide) ?_
  exact Touch.refl _ _

theorem writeLocal_touch (s : State) (l : ℕ) (bs : List Byte) :
    Touch [.levee, .mem] s (writeLocal s l bs) := by
  unfold writeLocal
  dsimp only
  refine Touch.set_levee_mem (by decide) (by decide) ?_
  exact Touch.refl _ _

theorem writePage_touch (s : State) (a1 : ℕ) (bs : List Byte) :
    Touch [.fabric, .levee, .mem, .free] s (writePage s a1 bs) := by
  unfold writePage
  dsimp only
  split
  · apply Touch.ite
    · (apply Touch.app (writeLocal_touch ..); · decide)
      exact Touch.refl _ _
    · exact Touch.refl _ _
  · apply Touch.ite
    · exact Touch.refl _ _
    · (apply Touch.app (sendRequest_touch ..); · decide)
      (apply Touch.app (freeBytes_touch ..); · decide)
      (apply Touch.app (freeBytes_touch ..); · decide)
      exact Touch.refl _ _

theorem memWriteGo_touch (a0 : ℕ) (s : State) (a2 : ℕ) (a3 : List Byte) :
    Touch [.fabric, .levee, .mem, .free] s (memWriteGo a0 s a2 a3) := by
  induction a0 generalizing s a2 a3 with
  | zero =>
    unfold memWriteGo
    exact Touch.refl _ _
  | succ n ih =>
    unfold memWriteGo
    dsimp only
    apply Touch.ite
    · exact Touch.refl _ _
    · apply Touch.trans (ih ..)
      (apply Touch.app (writePage_touch ..); · decide)
      exact Touch.refl _ _

theorem respond_touch (s : State) (n : ℕ) (req : Msg) (rsp : Msg) :
    Touch [.mbs, .fabric] s (respond s n req rsp) := by
  unfold respond
  dsimp only
  (apply Touch.app (flushOwed_touch ..); · decide)
  (apply Touch.app (modMb_touch ..); · decide)
  exact Touch.refl _ _

theorem newItem_touch (s : State) (i : ℕ) (k : Kind) (mb : ℕ) (req : Msg) (ext : List Byte) (own : Bool) (act : Bool) :
    Touch [.ledger, .order] s (newItem s i k mb req ext own act) := by
  unfold newItem
  dsimp only
  refine Touch.set_order (by decide) ?_
  (apply Touch.app (modSlot_touch ..); · decide)
  exact Touch.refl _ _

theorem submitCal_touch (s : State) (unit : ℕ) (classes : ℕ) (act : Bool) :
    Touch [.units, .mbs, .ledger, .order] s (submitCal s unit classes act) := by
  unfold submitCal
  dsimp only
  apply Touch.ite
  · (apply Touch.app (modUnit_touch ..); · decide)
    exact Touch.refl _ _
  · split
    · (apply Touch.app (throughMb2_touch ..); · decide)
      (apply Touch.app (newItem_touch ..); · decide)
      exact Touch.refl _ _
    · (apply Touch.app (modUnit_touch ..); · decide)
      (apply Touch.app (throughMb2_touch ..); · decide)
      exact Touch.refl _ _

theorem submitUnslotted_touch (s : State) :
    Touch [.units, .mbs, .ledger, .order] s (submitUnslotted s) := by
  unfold submitUnslotted
  dsimp only
  apply Touch.ite
  · exact Touch.refl _ _
  · apply Touch.foldl
    · exact Touch.refl _ _
    · intro u v
      apply Touch.ite
      · exact Touch.refl _ _
      · (apply Touch.app (submitCal_touch ..); · decide)
        (apply Touch.app (modUnit_touch ..); · decide)
        exact Touch.refl _ _

theorem setMode_touch (s : State) (m : Mode) :
    Touch [.dev] s (setMode s m) := by
  unfold setMode
  dsimp only
  apply Touch.ite
  · exact Touch.refl _ _
  · refine Touch.set_dev (by decide) ?_
    exact Touch.refl _ _

theorem settleMode_touch (s : State) :
    Touch [.dev, .mbs, .fabric] s (settleMode s) := by
  unfold settleMode
  dsimp only
  apply Touch.ite
  · exact Touch.refl _ _
  · apply Touch.ite
    · apply Touch.ite
      · (apply Touch.app (answerEvery_touch ..); · decide)
        (apply Touch.app (setMode_touch ..); · decide)
        refine Touch.set_dev (by decide) ?_
        exact Touch.refl _ _
      · (apply Touch.app (setMode_touch ..); · decide)
        refine Touch.set_dev (by decide) ?_
        exact Touch.refl _ _
    · apply Touch.ite
      · (apply Touch.app (answerEvery_touch ..); · decide)
        (apply Touch.app (setMode_touch ..); · decide)
        refine Touch.set_dev (by decide) ?_
        exact Touch.refl _ _
      · exact Touch.refl _ _

theorem deferResp_touch (s : State) (n : ℕ) (req : Msg) :
    Touch [.mbs] s (deferResp s n req) := by
  unfold deferResp
  (apply Touch.app (modMb_touch ..); · decide)
  exact Touch.refl _ _

theorem settlePause_touch (s : State) (l : Slot) (reason : Option ℕ) :
    Touch [.dev] s (settlePause s l reason) := by
  unfold settlePause
  dsimp only
  apply Touch.ite
  · apply Touch.ite
    · (apply Touch.app (setMode_touch ..); · decide)
      exact Touch.refl _ _
    · apply Touch.ite
      · refine Touch.set_dev (by decide) ?_
        exact Touch.refl _ _
      · exact Touch.refl _ _
  · exact Touch.refl _ _

theorem itemDone_touch (s : State) (i : ℕ) :
    Touch [.mbs, .ledger, .fabric, .svc] s (itemDone s i) := by
  unfold itemDone
  dsimp only
  apply Touch.ite
  · apply Touch.ite
    · (apply Touch.app (retireSlot_touch ..); · decide)
      exact Touch.refl _ _
    · exact Touch.refl _ _
  · apply Touch.ite
    · (apply Touch.app (notice_touch ..); · decide)
      exact Touch.refl _ _
    · exact Touch.refl _ _

theorem submitDue_touch (s : State) :
    Touch [.units, .mbs, .ledger, .order] s (submitDue s) := by
  unfold submitDue
  dsimp only
  apply Touch.foldl
  · exact Touch.refl _ _
  · intro u v
    apply Touch.ite
    · exact Touch.refl _ _
    · (apply Touch.app (submitCal_touch ..); · decide)
      (apply Touch.app (modUnit_touch ..); · decide)
      exact Touch.refl _ _

theorem settleCal_touch (s : State) :
    Touch [.dev, .units, .mbs, .ledger, .order] s (settleCal s) := by
  unfold settleCal
  apply Touch.ite
  · (apply Touch.app (submitDue_touch ..); · decide)
    (apply Touch.app (setMode_touch ..); · decide)
    exact Touch.refl _ _
  · exact Touch.refl _ _

theorem endItem_touch (s : State) (i : ℕ) (reason : Option ℕ) (f : Slot → Slot) :
    Touch [.dev, .units, .mbs, .ledger, .order, .fabric, .svc] s (endItem s i reason f) := by
  unfold endItem
  dsimp only
  apply Touch.ite
  · (apply Touch.app (settleCal_touch ..); · decide)
    (apply Touch.app (settlePause_touch ..); · decide)
    (apply Touch.app (settleMode_touch ..); · decide)
    apply Touch.ite
    · (apply Touch.app (submitUnslotted_touch ..); · decide)
      (apply Touch.app (itemDone_touch ..); · decide)
      apply Touch.ite
      · (apply Touch.app (modUnit_touch ..); · decide)
        (apply Touch.app (modSlot_touch ..); · decide)
        exact Touch.refl _ _
      · (apply Touch.app (modSlot_touch ..); · decide)
        exact Touch.refl _ _
    · (apply Touch.app (itemDone_touch ..); · decide)
      apply Touch.ite
      · (apply Touch.app (modUnit_touch ..); · decide)
        (apply Touch.app (modSlot_touch ..); · decide)
        exact Touch.refl _ _
      · (apply Touch.app (modSlot_touch ..); · decide)
        exact Touch.refl _ _
  · exact Touch.refl _ _

theorem memWrite_touch (s : State) (a1 : ℕ) (bs : List Byte) :
    Touch [.fabric, .levee, .mem, .free] s (memWrite s a1 bs) := by
  unfold memWrite
  (apply Touch.app (memWriteGo_touch ..); · decide)
  exact Touch.refl _ _

end Sys2Proof.Machine
end

