-- ==== Sys2Proof/Laws/Queue.lean ====
section
/-! SUPPORT. What each function of Machine/Queue.lean may touch. -/

namespace Sys2Proof.Machine

theorem modQueue_touch (s : State) (q : ℕ) (f : Queue → Queue) :
    Touch [.queues] s (modQueue s q f) := by
  unfold modQueue
  refine Touch.set_queues (by decide) ?_
  exact Touch.refl _ _

theorem queueWrite_touch (s : State) (q : ℕ) (tag : ℕ) (t : Option Count) (a4 : List Byte) :
    Touch [.queues] s (queueWrite s q tag t a4).1 := by
  unfold queueWrite
  dsimp only
  split
  · dsimp only
    (apply Touch.app (modQueue_touch ..); · decide)
    exact Touch.refl _ _
  · dsimp only
    exact Touch.refl _ _

theorem execQueueFlushTimeout_touch (q : ℕ) (s : State) :
    TouchOut [.queues] s (execQueueFlushTimeout q s) := by
  unfold execQueueFlushTimeout
  apply TouchOut.ite
  · apply TouchOut.next
    (apply Touch.app (modQueue_touch ..); · decide)
    exact Touch.refl _ _
  · apply TouchOut.next
    exact Touch.refl _ _

end Sys2Proof.Machine
end

