-- ==== Sys2Proof/Laws/Capture.lean ====
section
/-! SUPPORT. What each function of Machine/Capture.lean may touch. -/

namespace Sys2Proof.Machine

theorem modBurst_touch (s : State) (i : ℕ) (f : Burst → Burst) :
    Touch [.bursts] s (modBurst s i f) := by
  unfold modBurst
  refine Touch.set_bursts (by decide) ?_
  exact Touch.refl _ _

theorem mergeSegment_touch (s : State) (slot : ℕ) (counted : Bool) (length : ℕ) :
    Touch [.bursts] s (mergeSegment s slot counted length) := by
  unfold mergeSegment
  dsimp only
  (apply Touch.app (modBurst_touch ..); · decide)
  exact Touch.refl _ _

theorem modChan_touch (s : State) (c : ℕ) (f : Chan → Chan) :
    Touch [.chans] s (modChan s c f) := by
  unfold modChan
  refine Touch.set_chans (by decide) ?_
  exact Touch.refl _ _

theorem capPut_touch (s : State) (slot : ℕ) (peb : ℕ) (a3 : List Byte) :
    Touch [.bursts, .queues] s (capPut s slot peb a3) := by
  unfold capPut
  dsimp only
  apply Touch.ite
  · (apply Touch.app (modBurst_touch ..); · decide)
    (apply Touch.app (queueWrite_touch ..); · decide)
    exact Touch.refl _ _
  · (apply Touch.app (queueWrite_touch ..); · decide)
    exact Touch.refl _ _

theorem capRec_touch (s : State) (slot : ℕ) (peb : ℕ) (a3 : List Byte) :
    Touch [.bursts, .queues] s (capRec s slot peb a3) := by
  unfold capRec
  dsimp only
  apply Touch.ite
  · (apply Touch.app (modBurst_touch ..); · decide)
    exact Touch.refl _ _
  · apply Touch.ite
    · (apply Touch.app (capPut_touch ..); · decide)
      exact Touch.refl _ _
    · (apply Touch.app (modBurst_touch ..); · decide)
      exact Touch.refl _ _

theorem capAll_touch (s : State) (slot : ℕ) (a2 : State → ℕ → List Byte) :
    Touch [.bursts, .queues] s (capAll s slot a2) := by
  unfold capAll
  apply Touch.foldl
  · exact Touch.refl _ _
  · intro u v
    (apply Touch.app (capRec_touch ..); · decide)
    exact Touch.refl _ _

theorem flushJunction_touch (s : State) (slot : ℕ) :
    Touch [.bursts, .queues] s (flushJunction s slot) := by
  unfold flushJunction
  dsimp only
  apply Touch.ite
  · exact Touch.refl _ _
  · (apply Touch.app (modBurst_touch ..); · decide)
    (apply Touch.app (capAll_touch ..); · decide)
    exact Touch.refl _ _

theorem countFails_touch (s : State) (slot : ℕ) (chs : List ℕ) (vaddr : ℕ) :
    Touch [.bursts] s (countFails s slot chs vaddr) := by
  unfold countFails
  dsimp only
  (apply Touch.app (modBurst_touch ..); · decide)
  exact Touch.refl _ _

theorem closeRun_touch (s : State) (slot : ℕ) (peb : ℕ) :
    Touch [.bursts, .queues] s (closeRun s slot peb) := by
  unfold closeRun
  dsimp only
  apply Touch.ite
  · exact Touch.refl _ _
  · apply Touch.foldl
    · apply Touch.ite
      · (apply Touch.app (modBurst_touch ..); · decide)
        exact Touch.refl _ _
      · (apply Touch.app (capPut_touch ..); · decide)
        (apply Touch.app (modBurst_touch ..); · decide)
        exact Touch.refl _ _
    · intro u v
      (apply Touch.app (capPut_touch ..); · decide)
      exact Touch.refl _ _

theorem addFails_touch (s : State) (slot : ℕ) (peb : ℕ) (mask : BitVec 64) (vaddr : ℕ) :
    Touch [.bursts, .queues] s (addFails s slot peb mask vaddr) := by
  unfold addFails
  dsimp only
  apply Touch.ite
  · (apply Touch.app (closeRun_touch ..); · decide)
    exact Touch.refl _ _
  · apply Touch.ite
    · (apply Touch.app (modBurst_touch ..); · decide)
      exact Touch.refl _ _
    · (apply Touch.app (modBurst_touch ..); · decide)
      (apply Touch.app (closeRun_touch ..); · decide)
      exact Touch.refl _ _

theorem closeRuns_touch (s : State) (slot : ℕ) :
    Touch [.bursts, .queues] s (closeRuns s slot) := by
  unfold closeRuns
  apply Touch.foldl
  · exact Touch.refl _ _
  · intro u v
    (apply Touch.app (closeRun_touch ..); · decide)
    exact Touch.refl _ _

theorem modPeb_touch (s : State) (p : ℕ) (f : Peb → Peb) :
    Touch [.pebs] s (modPeb s p f) := by
  unfold modPeb
  refine Touch.set_pebs (by decide) ?_
  exact Touch.refl _ _

end Sys2Proof.Machine
end

