-- ==== Sys2Proof/Laws/Claims.lean ====
section
/-! SUPPORT. What each function of Machine/Claims.lean may touch. -/

namespace Sys2Proof.Machine

theorem modDps_touch (s : State) (n : ℕ) (f : Dps → Dps) :
    Touch [.dps] s (modDps s n f) := by
  unfold modDps
  refine Touch.set_dps (by decide) ?_
  exact Touch.refl _ _

theorem takeItem_touch (s : State) (i : ℕ) :
    Touch [.dev, .ledger] s (takeItem s i) := by
  unfold takeItem
  dsimp only
  apply Touch.ite
  · (apply Touch.app (setMode_touch ..); · decide)
    (apply Touch.app (modSlot_touch ..); · decide)
    exact Touch.refl _ _
  · (apply Touch.app (modSlot_touch ..); · decide)
    exact Touch.refl _ _

end Sys2Proof.Machine
end

