-- ==== Sys2Proof/Laws/Levels.lean ====
section
/-! SUPPORT. What each function of Machine/Levels.lean may touch. -/

namespace Sys2Proof.Machine

theorem modDac_touch (s : State) (k : ℕ) (f : Dac → Dac) :
    Touch [.dacs] s (modDac s k f) := by
  unfold modDac
  refine Touch.set_dacs (by decide) ?_
  exact Touch.refl _ _

theorem writeForce_touch (s : State) (ch : ℕ) (code : BitVec 16) (uv : Option ℤ) :
    Touch [.dacs] s (writeForce s ch code uv) := by
  unfold writeForce
  dsimp only
  (apply Touch.app (modDac_touch ..); · decide)
  exact Touch.refl _ _

theorem holdAsked_touch (s : State) (slot : ℕ) :
    Touch [.dev, .mbs, .ledger, .fabric] s (holdAsked s slot) := by
  unfold holdAsked
  apply Touch.ite
  · (apply Touch.app (settleMode_touch ..); · decide)
    (apply Touch.app (modSlot_touch ..); · decide)
    exact Touch.refl _ _
  · exact Touch.refl _ _

theorem armItem_touch (s : State) (slot : ℕ) :
    Touch [.ledger] s (armItem s slot).1 := by
  unfold armItem
  dsimp only
  split
  · dsimp only
    exact Touch.refl _ _
  · split
    · split
      · dsimp only
        (apply Touch.app (modSlot_touch ..); · decide)
        exact Touch.refl _ _
      · dsimp only
        (apply Touch.app (modSlot_touch ..); · decide)
        exact Touch.refl _ _
    · dsimp only
      (apply Touch.app (modSlot_touch ..); · decide)
      exact Touch.refl _ _

theorem followDac_touch (s : State) (n : ℕ) :
    Touch [.dps] s (followDac s n) := by
  unfold followDac
  apply Touch.ite
  · (apply Touch.app (modDps_touch ..); · decide)
    exact Touch.refl _ _
  · apply Touch.ite
    · (apply Touch.app (modDps_touch ..); · decide)
      exact Touch.refl _ _
    · exact Touch.refl _ _

theorem strobeGroup_touch (s : State) (g : ℕ) :
    Touch [.dacs, .dps] s (strobeGroup s g) := by
  unfold strobeGroup
  dsimp only
  apply Touch.foldl
  · refine Touch.set_dacs (by decide) ?_
    exact Touch.refl _ _
  · intro u v
    (apply Touch.app (followDac_touch ..); · decide)
    exact Touch.refl _ _

theorem fireLevels_touch (s : State) (slot : ℕ) :
    Touch [.dev, .units, .mbs, .ledger, .order, .dacs, .dps, .fabric, .svc] s (fireLevels s slot) := by
  unfold fireLevels
  dsimp only
  (apply Touch.app (endItem_touch ..); · decide)
  (apply Touch.app (strobeGroup_touch ..); · decide)
  exact Touch.refl _ _

theorem execLevelsDispatch_touch (slot : ℕ) (s : State) :
    TouchOut [.dev, .units, .mbs, .ledger, .order, .dacs, .dps, .fabric, .svc] s (execLevelsDispatch slot s) := by
  unfold execLevelsDispatch
  dsimp only
  apply TouchOut.ite
  · apply TouchOut.ite
    · apply TouchOut.next
      (apply Touch.app (modSlot_touch ..); · decide)
      (apply Touch.app (takeItem_touch ..); · decide)
      exact Touch.refl _ _
    · apply TouchOut.next
      apply Touch.ite
      · (apply Touch.app (fireLevels_touch ..); · decide)
        (apply Touch.app (armItem_touch ..); · decide)
        (apply Touch.app (takeItem_touch ..); · decide)
        exact Touch.refl _ _
      · (apply Touch.app (armItem_touch ..); · decide)
        (apply Touch.app (takeItem_touch ..); · decide)
        exact Touch.refl _ _
  · apply TouchOut.next
    exact Touch.refl _ _

theorem writeClamp_touch (s : State) (g : ℕ) (d : ℕ) (code : BitVec 16) (uv : Option ℤ) :
    Touch [.dacs] s (writeClamp s g d code uv) := by
  unfold writeClamp
  (apply Touch.app (modDac_touch ..); · decide)
  exact Touch.refl _ _

end Sys2Proof.Machine
end

