-- ==== Sys2Proof/Laws/Mseq.lean ====
section
/-! SUPPORT. What each function of Machine/Mseq.lean may touch. -/

namespace Sys2Proof.Machine

theorem setForce_touch (s : State) (t : ℕ) (v : ℤ) :
    Touch [.dacs] s (setForce s t v) := by
  unfold setForce
  apply Touch.ite
  · (apply Touch.app (writeForce_touch ..); · decide)
    exact Touch.refl _ _
  · (apply Touch.app (writeForce_touch ..); · decide)
    exact Touch.refl _ _

theorem setPmuMode_touch (s : State) (t : ℕ) (fi : Bool) :
    Touch [.dacs, .chans] s (setPmuMode s t fi) := by
  unfold setPmuMode
  dsimp only
  apply Touch.ite
  · exact Touch.refl _ _
  · (apply Touch.app (modDac_touch ..); · decide)
    (apply Touch.app (modChan_touch ..); · decide)
    exact Touch.refl _ _

theorem setPmuRange_touch (s : State) (t : ℕ) (r : ℕ) :
    Touch [.dacs, .chans] s (setPmuRange s t r) := by
  unfold setPmuRange
  dsimp only
  apply Touch.ite
  · exact Touch.refl _ _
  · (apply Touch.app (modDac_touch ..); · decide)
    (apply Touch.app (modChan_touch ..); · decide)
    exact Touch.refl _ _

theorem applyForce_touch (s : State) (t : ℕ) (fi : Bool) (range : ℕ) (v : ℤ) :
    Touch [.dacs, .chans] s (applyForce s t fi range v) := by
  unfold applyForce
  dsimp only
  (apply Touch.app (setForce_touch ..); · decide)
  (apply Touch.app (setPmuRange_touch ..); · decide)
  (apply Touch.app (setPmuMode_touch ..); · decide)
  apply Touch.ite
  · exact Touch.refl _ _
  · (apply Touch.app (modChan_touch ..); · decide)
    exact Touch.refl _ _

theorem release_touch (s : State) (t : ℕ) :
    Touch [.chans] s (release s t) := by
  unfold release
  (apply Touch.app (modChan_touch ..); · decide)
  exact Touch.refl _ _

theorem romLeaves_touch (r : ℕ) (a1 : Seq) (s : State) (t : ℕ) :
    Touch [.dacs, .chans] s (romLeaves r a1 s t) := by
  unfold romLeaves
  dsimp only
  split
  · (apply Touch.app (modChan_touch ..); · decide)
    exact Touch.refl _ _
  · (apply Touch.app (applyForce_touch ..); · decide)
    exact Touch.refl _ _
  · (apply Touch.app (release_touch ..); · decide)
    exact Touch.refl _ _
  · apply Touch.ite
    · (apply Touch.app (release_touch ..); · decide)
      (apply Touch.app (applyForce_touch ..); · decide)
      exact Touch.refl _ _
    · (apply Touch.app (applyForce_touch ..); · decide)
      exact Touch.refl _ _
  · apply Touch.ite
    · (apply Touch.app (release_touch ..); · decide)
      (apply Touch.app (applyForce_touch ..); · decide)
      exact Touch.refl _ _
    · (apply Touch.app (applyForce_touch ..); · decide)
      exact Touch.refl _ _
  · (apply Touch.app (applyForce_touch ..); · decide)
    exact Touch.refl _ _
  · (apply Touch.app (release_touch ..); · decide)
    (apply Touch.app (applyForce_touch ..); · decide)
    exact Touch.refl _ _
  · (apply Touch.app (applyForce_touch ..); · decide)
    exact Touch.refl _ _
  · exact Touch.refl _ _

theorem modSeq_touch (s : State) (q : ℕ) (f : Seq → Seq) :
    Touch [.seqs] s (modSeq s q f) := by
  unfold modSeq
  refine Touch.set_seqs (by decide) ?_
  exact Touch.refl _ _

theorem cfgOp_touch (s : State) (q : ℕ) (w : BitVec 144) (t : ℕ) :
    Touch [.chans, .seqs] s (cfgOp s q w t) := by
  unfold cfgOp
  dsimp only
  split
  · (apply Touch.app (modChan_touch ..); · decide)
    exact Touch.refl _ _
  · (apply Touch.app (modChan_touch ..); · decide)
    exact Touch.refl _ _
  · (apply Touch.app (modChan_touch ..); · decide)
    exact Touch.refl _ _
  · (apply Touch.app (modSeq_touch ..); · decide)
    exact Touch.refl _ _
  · exact Touch.refl _ _

theorem claimTurn_touch (s : State) (dadc : Bool) (conv : ℕ) :
    Touch [.seqs] s (claimTurn s dadc conv) := by
  unfold claimTurn
  dsimp only
  (apply Touch.app (modSeq_touch ..); · decide)
  exact Touch.refl _ _

theorem claimTurns_touch (s : State) (q : ℕ) (ts : List ℕ) :
    Touch [.seqs] s (claimTurns s q ts) := by
  unfold claimTurns
  apply Touch.foldl
  · exact Touch.refl _ _
  · intro u v
    (apply Touch.app (claimTurn_touch ..); · decide)
    exact Touch.refl _ _

theorem commitStep_touch (s : State) (q : ℕ) (item : Option ℕ) :
    Touch [.ledger, .seqs, .fabric, .levee, .mem, .free] s (commitStep s q item) := by
  unfold commitStep
  dsimp only
  split
  · (apply Touch.app (modSeq_touch ..); · decide)
    exact Touch.refl _ _
  · (apply Touch.app (modSlot_touch ..); · decide)
    (apply Touch.app (memWrite_touch ..); · decide)
    (apply Touch.app (modSeq_touch ..); · decide)
    (apply Touch.app (memWrite_touch ..); · decide)
    (apply Touch.app (modSlot_touch ..); · decide)
    exact Touch.refl _ _

theorem forceOp_touch (s : State) (q : ℕ) (a2 : Seq) (w : BitVec 144) (v : ℤ) (t : ℕ) :
    Touch [.dacs, .chans] s (forceOp s q a2 w v t) := by
  unfold forceOp
  dsimp only
  split
  · exact Touch.refl _ _
  · (apply Touch.app (setForce_touch ..); · decide)
    exact Touch.refl _ _
  · (apply Touch.app (setPmuMode_touch ..); · decide)
    exact Touch.refl _ _
  · (apply Touch.app (setPmuMode_touch ..); · decide)
    exact Touch.refl _ _
  · (apply Touch.app (setPmuRange_touch ..); · decide)
    exact Touch.refl _ _
  · apply Touch.ite
    · exact Touch.refl _ _
    · (apply Touch.app (modChan_touch ..); · decide)
      exact Touch.refl _ _
  · (apply Touch.app (modChan_touch ..); · decide)
    exact Touch.refl _ _
  · (apply Touch.app (writeClamp_touch ..); · decide)
    (apply Touch.app (writeClamp_touch ..); · decide)
    exact Touch.refl _ _

theorem wordOps_touch (s : State) (q : ℕ) (item : Option ℕ) (w : BitVec 144) :
    Touch [.ledger, .dacs, .chans, .seqs, .fabric, .levee, .mem, .free] s (wordOps s q item w) := by
  unfold wordOps
  dsimp only
  (apply Touch.app (modSeq_touch ..); · decide)
  apply Touch.ite
  · (apply Touch.app (commitStep_touch ..); · decide)
    apply Touch.ite
    · (apply Touch.app (modSeq_touch ..); · decide)
      apply Touch.ite
      · (apply Touch.app (claimTurns_touch ..); · decide)
        (apply Touch.app (modSeq_touch ..); · decide)
        apply Touch.ite
        · (apply Touch.app (takeFree_touch ..); · decide)
          exact Touch.refl _ _
        · apply Touch.foldl
          · (apply Touch.app (takeFree_touch ..); · decide)
            exact Touch.refl _ _
          · intro u v
            apply Touch.ite
            · (apply Touch.app (cfgOp_touch ..); · decide)
              apply Touch.ite
              · (apply Touch.app (forceOp_touch ..); · decide)
                exact Touch.refl _ _
              · exact Touch.refl _ _
            · apply Touch.ite
              · (apply Touch.app (forceOp_touch ..); · decide)
                exact Touch.refl _ _
              · exact Touch.refl _ _
      · (apply Touch.app (modSeq_touch ..); · decide)
        apply Touch.ite
        · (apply Touch.app (takeFree_touch ..); · decide)
          exact Touch.refl _ _
        · apply Touch.foldl
          · (apply Touch.app (takeFree_touch ..); · decide)
            exact Touch.refl _ _
          · intro u v
            apply Touch.ite
            · (apply Touch.app (cfgOp_touch ..); · decide)
              apply Touch.ite
              · (apply Touch.app (forceOp_touch ..); · decide)
                exact Touch.refl _ _
              · exact Touch.refl _ _
            · apply Touch.ite
              · (apply Touch.app (forceOp_touch ..); · decide)
                exact Touch.refl _ _
              · exact Touch.refl _ _
    · apply Touch.ite
      · (apply Touch.app (claimTurns_touch ..); · decide)
        (apply Touch.app (modSeq_touch ..); · decide)
        apply Touch.ite
        · (apply Touch.app (takeFree_touch ..); · decide)
          exact Touch.refl _ _
        · apply Touch.foldl
          · (apply Touch.app (takeFree_touch ..); · decide)
            exact Touch.refl _ _
          · intro u v
            apply Touch.ite
            · (apply Touch.app (cfgOp_touch ..); · decide)
              apply Touch.ite
              · (apply Touch.app (forceOp_touch ..); · decide)
                exact Touch.refl _ _
              · exact Touch.refl _ _
            · apply Touch.ite
              · (apply Touch.app (forceOp_touch ..); · decide)
                exact Touch.refl _ _
              · exact Touch.refl _ _
      · (apply Touch.app (modSeq_touch ..); · decide)
        apply Touch.ite
        · (apply Touch.app (takeFree_touch ..); · decide)
          exact Touch.refl _ _
        · apply Touch.foldl
          · (apply Touch.app (takeFree_touch ..); · decide)
            exact Touch.refl _ _
          · intro u v
            apply Touch.ite
            · (apply Touch.app (cfgOp_touch ..); · decide)
              apply Touch.ite
              · (apply Touch.app (forceOp_touch ..); · decide)
                exact Touch.refl _ _
              · exact Touch.refl _ _
            · apply Touch.ite
              · (apply Touch.app (forceOp_touch ..); · decide)
                exact Touch.refl _ _
              · exact Touch.refl _ _
  · apply Touch.ite
    · (apply Touch.app (modSeq_touch ..); · decide)
      apply Touch.ite
      · (apply Touch.app (claimTurns_touch ..); · decide)
        (apply Touch.app (modSeq_touch ..); · decide)
        apply Touch.ite
        · (apply Touch.app (takeFree_touch ..); · decide)
          exact Touch.refl _ _
        · apply Touch.foldl
          · (apply Touch.app (takeFree_touch ..); · decide)
            exact Touch.refl _ _
          · intro u v
            apply Touch.ite
            · (apply Touch.app (cfgOp_touch ..); · decide)
              apply Touch.ite
              · (apply Touch.app (forceOp_touch ..); · decide)
                exact Touch.refl _ _
              · exact Touch.refl _ _
            · apply Touch.ite
              · (apply Touch.app (forceOp_touch ..); · decide)
                exact Touch.refl _ _
              · exact Touch.refl _ _
      · (apply Touch.app (modSeq_touch ..); · decide)
        apply Touch.ite
        · (apply Touch.app (takeFree_touch ..); · decide)
          exact Touch.refl _ _
        · apply Touch.foldl
          · (apply Touch.app (takeFree_touch ..); · decide)
            exact Touch.refl _ _
          · intro u v
            apply Touch.ite
            · (apply Touch.app (cfgOp_touch ..); · decide)
              apply Touch.ite
              · (apply Touch.app (forceOp_touch ..); · decide)
                exact Touch.refl _ _
              · exact Touch.refl _ _
            · apply Touch.ite
              · (apply Touch.app (forceOp_touch ..); · decide)
                exact Touch.refl _ _
              · exact Touch.refl _ _
    · apply Touch.ite
      · (apply Touch.app (claimTurns_touch ..); · decide)
        (apply Touch.app (modSeq_touch ..); · decide)
        apply Touch.ite
        · (apply Touch.app (takeFree_touch ..); · decide)
          exact Touch.refl _ _
        · apply Touch.foldl
          · (apply Touch.app (takeFree_touch ..); · decide)
            exact Touch.refl _ _
          · intro u v
            apply Touch.ite
            · (apply Touch.app (cfgOp_touch ..); · decide)
              apply Touch.ite
              · (apply Touch.app (forceOp_touch ..); · decide)
                exact Touch.refl _ _
              · exact Touch.refl _ _
            · apply Touch.ite
              · (apply Touch.app (forceOp_touch ..); · decide)
                exact Touch.refl _ _
              · exact Touch.refl _ _
      · (apply Touch.app (modSeq_touch ..); · decide)
        apply Touch.ite
        · (apply Touch.app (takeFree_touch ..); · decide)
          exact Touch.refl _ _
        · apply Touch.foldl
          · (apply Touch.app (takeFree_touch ..); · decide)
            exact Touch.refl _ _
          · intro u v
            apply Touch.ite
            · (apply Touch.app (cfgOp_touch ..); · decide)
              apply Touch.ite
              · (apply Touch.app (forceOp_touch ..); · decide)
                exact Touch.refl _ _
              · exact Touch.refl _ _
            · apply Touch.ite
              · (apply Touch.app (forceOp_touch ..); · decide)
                exact Touch.refl _ _
              · exact Touch.refl _ _

theorem romEnd_touch (s : State) (q : ℕ) (item : Option ℕ) :
    Touch [.dacs, .chans] s (romEnd s q item) := by
  unfold romEnd
  dsimp only
  split
  · split
    · apply Touch.ite
      · exact Touch.refl _ _
      · apply Touch.foldl
        · exact Touch.refl _ _
        · intro u v
          (apply Touch.app (romLeaves_touch ..); · decide)
          exact Touch.refl _ _
    · exact Touch.refl _ _
  · exact Touch.refl _ _

theorem runWord_touch {b : List Part} (h0 : Part.ledger ∈ b) (h1 : Part.dacs ∈ b) (h2 : Part.chans ∈ b) (h3 : Part.seqs ∈ b) (h4 : Part.fabric ∈ b) (h5 : Part.levee ∈ b) (h6 : Part.mem ∈ b) (h7 : Part.free ∈ b) (s : State) (q : ℕ) (ks : List ℕ) (k : Option ℕ → BitVec 14 → State → State)
    (h : ∀ t0 t1 t2, Touch b t2 (k t0 t1 t2)) :
    TouchOut b s (runWord s q ks k) := by
  unfold runWord
  dsimp only
  apply TouchOut.ite
  · apply TouchOut.ite
    · apply TouchOut.fault
    · apply TouchOut.next
      apply Touch.trans (h ..)
      (apply Touch.app (wordOps_touch ..); · simp_all)
      exact Touch.refl _ _
  · apply TouchOut.next
    exact Touch.refl _ _

theorem execSeqGo_touch (seq : ℕ) (s : State) :
    TouchOut [.ledger, .dacs, .chans, .seqs, .fabric, .levee, .mem, .free] s (execSeqGo seq s) := by
  unfold execSeqGo
  refine TouchOut.trans (runWord_touch (by decide) (by decide) (by decide) (by decide) (by decide) (by decide) (by decide) (by decide) (h := ?_) ..) ?_
  · intro t0 t1 t2
    (apply Touch.app (modSeq_touch ..); · decide)
    exact Touch.refl _ _
  · exact Touch.refl _ _

theorem finishMeasure_touch (s : State) (q : ℕ) (slot : ℕ) (reason : Option ℕ) (extra : ℕ) :
    Touch [.dev, .units, .mbs, .ledger, .order, .seqs, .fabric, .levee, .svc, .mem, .free] s (finishMeasure s q slot reason extra) := by
  unfold finishMeasure
  dsimp only
  (apply Touch.app (endItem_touch ..); · decide)
  (apply Touch.app (modSeq_touch ..); · decide)
  (apply Touch.app (memWrite_touch ..); · decide)
  exact Touch.refl _ _

theorem execSeqWait_touch (seq : ℕ) (s : State) :
    TouchOut [.ledger, .dacs, .chans, .seqs, .fabric, .levee, .mem, .free] s (execSeqWait seq s) := by
  unfold execSeqWait
  refine TouchOut.trans (runWord_touch (by decide) (by decide) (by decide) (by decide) (by decide) (by decide) (by decide) (by decide) (h := ?_) ..) ?_
  · intro t0 t1 t2
    (apply Touch.app (modSeq_touch ..); · decide)
    exact Touch.refl _ _
  · exact Touch.refl _ _

theorem applySnap_touch (s : State) (q : ℕ) (t : ℕ) :
    Touch [.dacs, .chans] s (applySnap s q t) := by
  unfold applySnap
  dsimp only
  apply Touch.ite
  · apply Touch.ite
    · apply Touch.ite
      · apply Touch.ite
        · apply Touch.ite
          · (apply Touch.app (setPmuRange_touch ..); · decide)
            (apply Touch.app (setPmuMode_touch ..); · decide)
            exact Touch.refl _ _
          · (apply Touch.app (writeForce_touch ..); · decide)
            (apply Touch.app (setPmuRange_touch ..); · decide)
            (apply Touch.app (setPmuMode_touch ..); · decide)
            exact Touch.refl _ _
        · (apply Touch.app (writeClamp_touch ..); · decide)
          apply Touch.ite
          · (apply Touch.app (setPmuRange_touch ..); · decide)
            (apply Touch.app (setPmuMode_touch ..); · decide)
            exact Touch.refl _ _
          · (apply Touch.app (writeForce_touch ..); · decide)
            (apply Touch.app (setPmuRange_touch ..); · decide)
            (apply Touch.app (setPmuMode_touch ..); · decide)
            exact Touch.refl _ _
      · (apply Touch.app (writeClamp_touch ..); · decide)
        apply Touch.ite
        · apply Touch.ite
          · (apply Touch.app (setPmuRange_touch ..); · decide)
            (apply Touch.app (setPmuMode_touch ..); · decide)
            exact Touch.refl _ _
          · (apply Touch.app (writeForce_touch ..); · decide)
            (apply Touch.app (setPmuRange_touch ..); · decide)
            (apply Touch.app (setPmuMode_touch ..); · decide)
            exact Touch.refl _ _
        · (apply Touch.app (writeClamp_touch ..); · decide)
          apply Touch.ite
          · (apply Touch.app (setPmuRange_touch ..); · decide)
            (apply Touch.app (setPmuMode_touch ..); · decide)
            exact Touch.refl _ _
          · (apply Touch.app (writeForce_touch ..); · decide)
            (apply Touch.app (setPmuRange_touch ..); · decide)
            (apply Touch.app (setPmuMode_touch ..); · decide)
            exact Touch.refl _ _
    · (apply Touch.app (modChan_touch ..); · decide)
      apply Touch.ite
      · apply Touch.ite
        · apply Touch.ite
          · (apply Touch.app (setPmuRange_touch ..); · decide)
            (apply Touch.app (setPmuMode_touch ..); · decide)
            exact Touch.refl _ _
          · (apply Touch.app (writeForce_touch ..); · decide)
            (apply Touch.app (setPmuRange_touch ..); · decide)
            (apply Touch.app (setPmuMode_touch ..); · decide)
            exact Touch.refl _ _
        · (apply Touch.app (writeClamp_touch ..); · decide)
          apply Touch.ite
          · (apply Touch.app (setPmuRange_touch ..); · decide)
            (apply Touch.app (setPmuMode_touch ..); · decide)
            exact Touch.refl _ _
          · (apply Touch.app (writeForce_touch ..); · decide)
            (apply Touch.app (setPmuRange_touch ..); · decide)
            (apply Touch.app (setPmuMode_touch ..); · decide)
            exact Touch.refl _ _
      · (apply Touch.app (writeClamp_touch ..); · decide)
        apply Touch.ite
        · apply Touch.ite
          · (apply Touch.app (setPmuRange_touch ..); · decide)
            (apply Touch.app (setPmuMode_touch ..); · decide)
            exact Touch.refl _ _
          · (apply Touch.app (writeForce_touch ..); · decide)
            (apply Touch.app (setPmuRange_touch ..); · decide)
            (apply Touch.app (setPmuMode_touch ..); · decide)
            exact Touch.refl _ _
        · (apply Touch.app (writeClamp_touch ..); · decide)
          apply Touch.ite
          · (apply Touch.app (setPmuRange_touch ..); · decide)
            (apply Touch.app (setPmuMode_touch ..); · decide)
            exact Touch.refl _ _
          · (apply Touch.app (writeForce_touch ..); · decide)
            (apply Touch.app (setPmuRange_touch ..); · decide)
            (apply Touch.app (setPmuMode_touch ..); · decide)
            exact Touch.refl _ _
  · apply Touch.ite
    · (apply Touch.app (modChan_touch ..); · decide)
      apply Touch.ite
      · apply Touch.ite
        · apply Touch.ite
          · (apply Touch.app (setPmuRange_touch ..); · decide)
            (apply Touch.app (setPmuMode_touch ..); · decide)
            exact Touch.refl _ _
          · (apply Touch.app (writeForce_touch ..); · decide)
            (apply Touch.app (setPmuRange_touch ..); · decide)
            (apply Touch.app (setPmuMode_touch ..); · decide)
            exact Touch.refl _ _
        · (apply Touch.app (writeClamp_touch ..); · decide)
          apply Touch.ite
          · (apply Touch.app (setPmuRange_touch ..); · decide)
            (apply Touch.app (setPmuMode_touch ..); · decide)
            exact Touch.refl _ _
          · (apply Touch.app (writeForce_touch ..); · decide)
            (apply Touch.app (setPmuRange_touch ..); · decide)
            (apply Touch.app (setPmuMode_touch ..); · decide)
            exact Touch.refl _ _
      · (apply Touch.app (writeClamp_touch ..); · decide)
        apply Touch.ite
        · apply Touch.ite
          · (apply Touch.app (setPmuRange_touch ..); · decide)
            (apply Touch.app (setPmuMode_touch ..); · decide)
            exact Touch.refl _ _
          · (apply Touch.app (writeForce_touch ..); · decide)
            (apply Touch.app (setPmuRange_touch ..); · decide)
            (apply Touch.app (setPmuMode_touch ..); · decide)
            exact Touch.refl _ _
        · (apply Touch.app (writeClamp_touch ..); · decide)
          apply Touch.ite
          · (apply Touch.app (setPmuRange_touch ..); · decide)
            (apply Touch.app (setPmuMode_touch ..); · decide)
            exact Touch.refl _ _
          · (apply Touch.app (writeForce_touch ..); · decide)
            (apply Touch.app (setPmuRange_touch ..); · decide)
            (apply Touch.app (setPmuMode_touch ..); · decide)
            exact Touch.refl _ _
    · apply Touch.ite
      · apply Touch.ite
        · apply Touch.ite
          · (apply Touch.app (setPmuRange_touch ..); · decide)
            (apply Touch.app (setPmuMode_touch ..); · decide)
            exact Touch.refl _ _
          · (apply Touch.app (writeForce_touch ..); · decide)
            (apply Touch.app (setPmuRange_touch ..); · decide)
            (apply Touch.app (setPmuMode_touch ..); · decide)
            exact Touch.refl _ _
        · (apply Touch.app (writeClamp_touch ..); · decide)
          apply Touch.ite
          · (apply Touch.app (setPmuRange_touch ..); · decide)
            (apply Touch.app (setPmuMode_touch ..); · decide)
            exact Touch.refl _ _
          · (apply Touch.app (writeForce_touch ..); · decide)
            (apply Touch.app (setPmuRange_touch ..); · decide)
            (apply Touch.app (setPmuMode_touch ..); · decide)
            exact Touch.refl _ _
      · (apply Touch.app (writeClamp_touch ..); · decide)
        apply Touch.ite
        · apply Touch.ite
          · (apply Touch.app (setPmuRange_touch ..); · decide)
            (apply Touch.app (setPmuMode_touch ..); · decide)
            exact Touch.refl _ _
          · (apply Touch.app (writeForce_touch ..); · decide)
            (apply Touch.app (setPmuRange_touch ..); · decide)
            (apply Touch.app (setPmuMode_touch ..); · decide)
            exact Touch.refl _ _
        · (apply Touch.app (writeClamp_touch ..); · decide)
          apply Touch.ite
          · (apply Touch.app (setPmuRange_touch ..); · decide)
            (apply Touch.app (setPmuMode_touch ..); · decide)
            exact Touch.refl _ _
          · (apply Touch.app (writeForce_touch ..); · decide)
            (apply Touch.app (setPmuRange_touch ..); · decide)
            (apply Touch.app (setPmuMode_touch ..); · decide)
            exact Touch.refl _ _

theorem requestMeasure_touch (s : State) (q : ℕ) (slot : ℕ) (reason : ℕ) :
    Touch [.ledger, .seqs] s (requestMeasure s q slot reason) := by
  unfold requestMeasure
  (apply Touch.app (modSlot_touch ..); · decide)
  (apply Touch.app (modSeq_touch ..); · decide)
  exact Touch.refl _ _

theorem endRoutine_touch (s : State) (q : ℕ) (item : Option ℕ) (reason : Option ℕ) :
    Touch [.dev, .units, .mbs, .ledger, .order, .seqs, .fabric, .levee, .svc, .mem, .free] s (endRoutine s q item reason) := by
  unfold endRoutine
  split
  · (apply Touch.app (finishMeasure_touch ..); · decide)
    exact Touch.refl _ _
  · (apply Touch.app (modSeq_touch ..); · decide)
    exact Touch.refl _ _

theorem execSeqEnd_touch (seq : ℕ) (s : State) :
    TouchOut [.dev, .units, .mbs, .ledger, .order, .dacs, .chans, .seqs, .fabric, .levee, .svc, .mem, .free] s (execSeqEnd seq s) := by
  unfold execSeqEnd
  refine TouchOut.trans (runWord_touch (by decide) (by decide) (by decide) (by decide) (by decide) (by decide) (by decide) (by decide) (h := ?_) ..) ?_
  · intro t0 t1 t2
    (apply Touch.app (endRoutine_touch ..); · decide)
    (apply Touch.app (romEnd_touch ..); · decide)
    exact Touch.refl _ _
  · exact Touch.refl _ _

theorem putItemState_touch (s : State) (item : Option ℕ) (st : IState) :
    Touch [.ledger] s (putItemState s item st) := by
  unfold putItemState
  split
  · (apply Touch.app (modSlot_touch ..); · decide)
    exact Touch.refl _ _
  · exact Touch.refl _ _

theorem execRangeChangeDone_touch (dps : Bool) (n : ℕ) (s : State) :
    TouchOut [.chans, .dps] s (execRangeChangeDone dps n s) := by
  unfold execRangeChangeDone
  dsimp only
  apply TouchOut.ite
  · apply TouchOut.next
    (apply Touch.app (modDps_touch ..); · decide)
    exact Touch.refl _ _
  · apply TouchOut.next
    (apply Touch.app (modChan_touch ..); · decide)
    exact Touch.refl _ _

theorem passTurn_touch (s : State) (dadc : Bool) (conv : ℕ) (input : ℕ) :
    Touch [.seqs] s (passTurn s dadc conv input) := by
  unfold passTurn
  dsimp only
  (apply Touch.app (modSeq_touch ..); · decide)
  exact Touch.refl _ _

theorem stopMeasure_touch (s : State) (q : ℕ) (slot : ℕ) (reason : ℕ) (extra : ℕ) :
    Touch [.dev, .units, .mbs, .ledger, .order, .chans, .seqs, .fabric, .levee, .svc, .mem, .free] s (stopMeasure s q slot reason extra) := by
  unfold stopMeasure
  dsimp only
  (apply Touch.app (finishMeasure_touch ..); · decide)
  apply Touch.ite
  · exact Touch.refl _ _
  · refine Touch.set_chans (by decide) ?_
    exact Touch.refl _ _

theorem execTimerDone_touch (seq : ℕ) (s : State) :
    TouchOut [.seqs] s (execTimerDone seq s) := by
  unfold execTimerDone
  dsimp only
  apply TouchOut.ite
  · apply TouchOut.next
    exact Touch.refl _ _
  · apply TouchOut.ite
    · apply TouchOut.next
      (apply Touch.app (modSeq_touch ..); · decide)
      exact Touch.refl _ _
    · apply TouchOut.next
      (apply Touch.app (modSeq_touch ..); · decide)
      exact Touch.refl _ _

theorem pauseMeasure_touch (s : State) (q : ℕ) :
    Touch [.seqs] s (pauseMeasure s q) := by
  unfold pauseMeasure
  (apply Touch.app (modSeq_touch ..); · decide)
  exact Touch.refl _ _

theorem modAcq_touch (s : State) (k : ℕ) (f : Acq → Acq) :
    Touch [.acqs] s (modAcq s k f) := by
  unfold modAcq
  refine Touch.set_acqs (by decide) ?_
  exact Touch.refl _ _

theorem startMeasure_touch (s : State) (slot : ℕ) :
    Touch [.seqs] s (startMeasure s slot) := by
  unfold startMeasure
  dsimp only
  (apply Touch.app (modSeq_touch ..); · decide)
  exact Touch.refl _ _

theorem detachMeasure_touch (s : State) (q : ℕ) (slot : ℕ) (reason : ℕ) (extra : ℕ) :
    Touch [.dev, .units, .mbs, .ledger, .order, .seqs, .fabric, .levee, .svc, .mem, .free] s (detachMeasure s q slot reason extra) := by
  unfold detachMeasure
  dsimp only
  (apply Touch.app (endItem_touch ..); · decide)
  (apply Touch.app (modSeq_touch ..); · decide)
  (apply Touch.app (memWrite_touch ..); · decide)
  exact Touch.refl _ _

theorem snapTargets_touch (s : State) (m : Msg) :
    Touch [.seqs] s (snapTargets s m) := by
  unfold snapTargets
  dsimp only
  apply Touch.ite
  · (apply Touch.app (modSeq_touch ..); · decide)
    exact Touch.refl _ _
  · (apply Touch.app (modSeq_touch ..); · decide)
    (apply Touch.app (modSeq_touch ..); · decide)
    exact Touch.refl _ _

theorem execMeasureDispatch_touch (slot : ℕ) (s : State) :
    TouchOut [.dev, .units, .mbs, .ledger, .order, .seqs, .fabric, .svc] s (execMeasureDispatch slot s) := by
  unfold execMeasureDispatch
  dsimp only
  apply TouchOut.ite
  · apply TouchOut.ite
    · apply TouchOut.next
      (apply Touch.app (endItem_touch ..); · decide)
      (apply Touch.app (takeItem_touch ..); · decide)
      exact Touch.refl _ _
    · apply TouchOut.next
      apply Touch.ite
      · (apply Touch.app (startMeasure_touch ..); · decide)
        (apply Touch.app (armItem_touch ..); · decide)
        (apply Touch.app (snapTargets_touch ..); · decide)
        (apply Touch.app (takeItem_touch ..); · decide)
        exact Touch.refl _ _
      · (apply Touch.app (holdAsked_touch ..); · decide)
        (apply Touch.app (armItem_touch ..); · decide)
        (apply Touch.app (snapTargets_touch ..); · decide)
        (apply Touch.app (takeItem_touch ..); · decide)
        exact Touch.refl _ _
  · apply TouchOut.next
    exact Touch.refl _ _

theorem execUnwindDone_touch (seq : ℕ) (s : State) :
    TouchOut [.dev, .units, .mbs, .ledger, .order, .dacs, .chans, .seqs, .fabric, .levee, .svc, .mem, .free] s (execUnwindDone seq s) := by
  unfold execUnwindDone
  dsimp only
  refine TouchOut.trans (runWord_touch (by decide) (by decide) (by decide) (by decide) (by decide) (by decide) (by decide) (by decide) (h := ?_) ..) ?_
  · intro t0 t1 t2
    split
    · (apply Touch.app (endRoutine_touch ..); · decide)
      apply Touch.ite
      · exact Touch.refl _ _
      · apply Touch.foldl
        · exact Touch.refl _ _
        · intro u v
          (apply Touch.app (applySnap_touch ..); · decide)
          exact Touch.refl _ _
    · (apply Touch.app (endRoutine_touch ..); · decide)
      (apply Touch.app (takeFree_touch ..); · decide)
      apply Touch.ite
      · exact Touch.refl _ _
      · apply Touch.foldl
        · exact Touch.refl _ _
        · intro u v
          (apply Touch.app (applySnap_touch ..); · decide)
          exact Touch.refl _ _
  · exact Touch.refl _ _

theorem execMseqRequestTaken_touch (seq : ℕ) (s : State) :
    TouchOut [.dev, .mbs, .ledger, .seqs, .fabric] s (execMseqRequestTaken seq s) := by
  unfold execMseqRequestTaken
  dsimp only
  apply TouchOut.ite
  · apply TouchOut.ite
    · apply TouchOut.next
      (apply Touch.app (putItemState_touch ..); · decide)
      (apply Touch.app (modSeq_touch ..); · decide)
      exact Touch.refl _ _
    · apply TouchOut.ite
      · apply TouchOut.next
        exact Touch.refl _ _
      · apply TouchOut.next
        (apply Touch.app (settleMode_touch ..); · decide)
        (apply Touch.app (putItemState_touch ..); · decide)
        (apply Touch.app (modSeq_touch ..); · decide)
        exact Touch.refl _ _
  · apply TouchOut.next
    exact Touch.refl _ _

theorem execSeqReturn_touch (seq : ℕ) (s : State) :
    TouchOut [.dev, .units, .mbs, .ledger, .order, .dacs, .chans, .seqs, .fabric, .levee, .svc, .mem, .free] s (execSeqReturn seq s) := by
  unfold execSeqReturn
  refine TouchOut.trans (runWord_touch (by decide) (by decide) (by decide) (by decide) (by decide) (by decide) (by decide) (by decide) (h := ?_) ..) ?_
  · intro t0 t1 t2
    split
    · (apply Touch.app (modSeq_touch ..); · decide)
      exact Touch.refl _ _
    · (apply Touch.app (endRoutine_touch ..); · decide)
      (apply Touch.app (romEnd_touch ..); · decide)
      exact Touch.refl _ _
  · exact Touch.refl _ _

theorem execSeqCall_touch (seq : ℕ) (s : State) :
    TouchOut [.ledger, .dacs, .chans, .seqs, .fabric, .levee, .mem, .free] s (execSeqCall seq s) := by
  unfold execSeqCall
  refine TouchOut.trans (runWord_touch (by decide) (by decide) (by decide) (by decide) (by decide) (by decide) (by decide) (by decide) (h := ?_) ..) ?_
  · intro t0 t1 t2
    (apply Touch.app (modSeq_touch ..); · decide)
    exact Touch.refl _ _
  · exact Touch.refl _ _

theorem resumeMeasure_touch (s : State) (q : ℕ) (slot : ℕ) :
    Touch [.ledger, .seqs] s (resumeMeasure s q slot) := by
  unfold resumeMeasure
  dsimp only
  apply Touch.ite
  · (apply Touch.app (claimTurns_touch ..); · decide)
    (apply Touch.app (modSlot_touch ..); · decide)
    (apply Touch.app (modSeq_touch ..); · decide)
    exact Touch.refl _ _
  · exact Touch.refl _ _

end Sys2Proof.Machine
end

