-- ==== Sys2Proof/Laws/Acquire.lean ====
section
/-! SUPPORT. What each function of Machine/Acquire.lean may touch. -/

namespace Sys2Proof.Machine

theorem beginAcquire_touch (s : State) (slot : ℕ) :
    Touch [.seqs, .acqs] s (beginAcquire s slot) := by
  unfold beginAcquire
  dsimp only
  (apply Touch.app (claimTurn_touch ..); · decide)
  (apply Touch.app (modAcq_touch ..); · decide)
  exact Touch.refl _ _

theorem startAcquire_touch (s : State) (slot : ℕ) (now : Bool) :
    Touch [.seqs, .acqs] s (startAcquire s slot now) := by
  unfold startAcquire
  dsimp only
  apply Touch.ite
  · (apply Touch.app (beginAcquire_touch ..); · decide)
    (apply Touch.app (modAcq_touch ..); · decide)
    exact Touch.refl _ _
  · (apply Touch.app (modAcq_touch ..); · decide)
    exact Touch.refl _ _

theorem trigAcquire_touch (s : State) (input : ℕ) :
    Touch [.acqs] s (trigAcquire s input) := by
  unfold trigAcquire
  dsimp only
  refine Touch.set_acqs (by decide) ?_
  exact Touch.refl _ _

theorem finishAcquire_touch (s : State) (slot : ℕ) (reason : Option ℕ) (extra : ℕ) :
    Touch [.dev, .units, .mbs, .ledger, .order, .acqs, .fabric, .levee, .svc, .mem, .free] s (finishAcquire s slot reason extra) := by
  unfold finishAcquire
  dsimp only
  (apply Touch.app (endItem_touch ..); · decide)
  refine Touch.set_acqs (by decide) ?_
  (apply Touch.app (memWrite_touch ..); · decide)
  (apply Touch.app (memWrite_touch ..); · decide)
  (apply Touch.app (takeFree_touch ..); · decide)
  exact Touch.refl _ _

theorem giveRoutine_touch (s : State) (q : ℕ) (t : ℕ) (v : ℤ) (clamped : Bool) :
    Touch [.seqs] s (giveRoutine s q t v clamped) := by
  unfold giveRoutine
  dsimp only
  (apply Touch.app (modSeq_touch ..); · decide)
  exact Touch.refl _ _

theorem storeSample_touch (s : State) (slot : ℕ) (k : ℕ) (a3 : Sample) :
    Touch [.ledger, .acqs, .fabric, .levee, .mem, .free] s (storeSample s slot k a3) := by
  unfold storeSample
  dsimp only
  apply Touch.ite
  · (apply Touch.app (memWrite_touch ..); · decide)
    (apply Touch.app (modSlot_touch ..); · decide)
    (apply Touch.app (modAcq_touch ..); · decide)
    exact Touch.refl _ _
  · (apply Touch.app (modSlot_touch ..); · decide)
    (apply Touch.app (modAcq_touch ..); · decide)
    exact Touch.refl _ _

theorem takeSample_touch (s : State) (slot : ℕ) (k : ℕ) (a3 : Sample) :
    Touch [.ledger, .acqs, .fabric, .levee, .mem, .free] s (takeSample s slot k a3) := by
  unfold takeSample
  dsimp only
  apply Touch.ite
  · (apply Touch.app (storeSample_touch ..); · decide)
    exact Touch.refl _ _
  · apply Touch.ite
    · (apply Touch.app (storeSample_touch ..); · decide)
      (apply Touch.app (modAcq_touch ..); · decide)
      exact Touch.refl _ _
    · apply Touch.ite
      · apply Touch.ite
        · (apply Touch.app (storeSample_touch ..); · decide)
          exact Touch.refl _ _
        · exact Touch.refl _ _
      · apply Touch.ite
        · exact Touch.refl _ _
        · split
          · apply Touch.ite
            · (apply Touch.app (storeSample_touch ..); · decide)
              (apply Touch.app (storeSample_touch ..); · decide)
              (apply Touch.app (modAcq_touch ..); · decide)
              exact Touch.refl _ _
            · (apply Touch.app (modAcq_touch ..); · decide)
              exact Touch.refl _ _
          · (apply Touch.app (modAcq_touch ..); · decide)
            exact Touch.refl _ _

theorem giveConversion_touch (dadc : Bool) (conv : ℕ) (input : ℕ) (value : ℤ) (endOfScale : Bool) (clamped : Bool) (gap : ℕ) (s : State) :
    Touch [.dev, .units, .mbs, .ledger, .order, .seqs, .acqs, .fabric, .levee, .svc, .mem, .free] s (giveConversion dadc conv input value endOfScale clamped gap s) := by
  unfold giveConversion
  dsimp only
  apply Touch.ite
  · apply Touch.ite
    · (apply Touch.app (modAcq_touch ..); · decide)
      (apply Touch.app (giveRoutine_touch ..); · decide)
      exact Touch.refl _ _
    · (apply Touch.app (giveRoutine_touch ..); · decide)
      exact Touch.refl _ _
  · split
    · exact Touch.refl _ _
    · apply Touch.ite
      · (apply Touch.app (finishAcquire_touch ..); · decide)
        (apply Touch.app (takeSample_touch ..); · decide)
        (apply Touch.app (modAcq_touch ..); · decide)
        exact Touch.refl _ _
      · (apply Touch.app (takeSample_touch ..); · decide)
        (apply Touch.app (modAcq_touch ..); · decide)
        exact Touch.refl _ _

theorem execConversionDone_touch (dadc : Bool) (conv : ℕ) (input : ℕ) (value : ℤ) (endOfScale : Bool) (clamped : Bool) (gap : ℕ) (s : State) :
    TouchOut [.dev, .units, .mbs, .ledger, .order, .seqs, .acqs, .fabric, .levee, .svc, .mem, .free] s (execConversionDone dadc conv input value endOfScale clamped gap s) := by
  unfold execConversionDone
  apply TouchOut.ite
  · apply TouchOut.next
    (apply Touch.app (passTurn_touch ..); · decide)
    (apply Touch.app (giveConversion_touch ..); · decide)
    exact Touch.refl _ _
  · apply TouchOut.next
    exact Touch.refl _ _

theorem execAcquireDispatch_touch (slot : ℕ) (s : State) :
    TouchOut [.dev, .ledger, .seqs, .acqs] s (execAcquireDispatch slot s) := by
  unfold execAcquireDispatch
  dsimp only
  apply TouchOut.ite
  · apply TouchOut.next
    (apply Touch.app (startAcquire_touch ..); · decide)
    (apply Touch.app (armItem_touch ..); · decide)
    (apply Touch.app (takeItem_touch ..); · decide)
    exact Touch.refl _ _
  · apply TouchOut.next
    exact Touch.refl _ _

end Sys2Proof.Machine
end

