-- ==== Sys2Proof/Laws/DmaCh.lean ====
section
/-! SUPPORT. What each function of Machine/DmaCh.lean may touch. -/

namespace Sys2Proof.Machine

theorem modDma_touch (s : State) (c : ℕ) (f : Dma → Dma) :
    Touch [.dmas] s (modDma s c f) := by
  unfold modDma
  refine Touch.set_dmas (by decide) ?_
  exact Touch.refl _ _

theorem rewindSource_touch (s : State) (d : Dma) :
    Touch [.queues] s (rewindSource s d) := by
  unfold rewindSource
  apply Touch.ite
  · (apply Touch.app (modQueue_touch ..); · decide)
    exact Touch.refl _ _
  · exact Touch.refl _ _

theorem stopDma_touch (s : State) (c : ℕ) :
    Touch [.queues, .dmas] s (stopDma s c) := by
  unfold stopDma
  dsimp only
  apply Touch.ite
  · exact Touch.refl _ _
  · (apply Touch.app (modDma_touch ..); · decide)
    (apply Touch.app (rewindSource_touch ..); · decide)
    exact Touch.refl _ _

theorem dmaRead_touch (s : State) (c : ℕ) (a2 : ℕ) (n : ℕ) :
    Touch [.fabric] s (dmaRead s c a2 n) := by
  unfold dmaRead
  split
  · exact Touch.refl _ _
  · (apply Touch.app (sendRequest_touch ..); · decide)
    exact Touch.refl _ _

theorem fetchDesc_touch (s : State) (c : ℕ) (a2 : ℕ) :
    Touch [.dmas, .fabric] s (fetchDesc s c a2) := by
  unfold fetchDesc
  (apply Touch.app (dmaRead_touch ..); · decide)
  (apply Touch.app (modDma_touch ..); · decide)
  exact Touch.refl _ _

theorem execTransferDispatch_touch (slot : ℕ) (s : State) :
    TouchOut [.dev, .ledger, .dmas, .fabric] s (execTransferDispatch slot s) := by
  unfold execTransferDispatch
  dsimp only
  apply TouchOut.ite
  · apply TouchOut.next
    (apply Touch.app (fetchDesc_touch ..); · decide)
    (apply Touch.app (modDma_touch ..); · decide)
    (apply Touch.app (takeItem_touch ..); · decide)
    exact Touch.refl _ _
  · apply TouchOut.next
    exact Touch.refl _ _

theorem flushGather_touch (s : State) (c : ℕ) :
    Touch [.dmas, .fabric] s (flushGather s c) := by
  unfold flushGather
  dsimp only
  apply Touch.ite
  · exact Touch.refl _ _
  · (apply Touch.app (sendRequest_touch ..); · decide)
    (apply Touch.app (modDma_touch ..); · decide)
    exact Touch.refl _ _

theorem writeBack_touch (s : State) (c : ℕ) :
    Touch [.queues, .dmas, .fabric, .levee, .mem, .free] s (writeBack s c) := by
  unfold writeBack
  dsimp only
  (apply Touch.app (memWrite_touch ..); · decide)
  (apply Touch.app (modDma_touch ..); · decide)
  apply Touch.ite
  · (apply Touch.app (modQueue_touch ..); · decide)
    exact Touch.refl _ _
  · exact Touch.refl _ _

theorem settleDma_touch (s : State) (c : ℕ) :
    Touch [.queues, .dmas, .fabric, .levee, .mem, .free] s (settleDma s c) := by
  unfold settleDma
  dsimp only
  apply Touch.ite
  · exact Touch.refl _ _
  · apply Touch.ite
    · (apply Touch.app (writeBack_touch ..); · decide)
      apply Touch.ite
      · (apply Touch.app (flushGather_touch ..); · decide)
        exact Touch.refl _ _
      · exact Touch.refl _ _
    · apply Touch.ite
      · (apply Touch.app (flushGather_touch ..); · decide)
        exact Touch.refl _ _
      · exact Touch.refl _ _

theorem gatherBeats_touch (s : State) (c : ℕ) (off : ℕ) (bs : List Byte) :
    Touch [.dmas, .fabric] s (gatherBeats s c off bs) := by
  unfold gatherBeats
  dsimp only
  apply Touch.ite
  · (apply Touch.app (flushGather_touch ..); · decide)
    (apply Touch.app (modDma_touch ..); · decide)
    apply Touch.ite
    · exact Touch.refl _ _
    · (apply Touch.app (flushGather_touch ..); · decide)
      exact Touch.refl _ _
  · (apply Touch.app (modDma_touch ..); · decide)
    apply Touch.ite
    · exact Touch.refl _ _
    · (apply Touch.app (flushGather_touch ..); · decide)
      exact Touch.refl _ _

theorem finishTransfer_touch (s : State) (c : ℕ) (reason : Option ℕ) :
    Touch [.dev, .units, .mbs, .ledger, .order, .dmas, .fabric, .svc] s (finishTransfer s c reason) := by
  unfold finishTransfer
  dsimp only
  split
  · (apply Touch.app (endItem_touch ..); · decide)
    refine Touch.set_dmas (by decide) ?_
    exact Touch.refl _ _
  · refine Touch.set_dmas (by decide) ?_
    exact Touch.refl _ _

theorem failDma_touch (s : State) (c : ℕ) (code : ℕ) :
    Touch [.dmas] s (failDma s c code) := by
  unfold failDma
  (apply Touch.app (modDma_touch ..); · decide)
  exact Touch.refl _ _

theorem beatsAnswered_touch (s : State) (c : ℕ) (off : ℕ) (n : ℕ) (status : ℕ) :
    Touch [.queues, .dmas, .fabric, .levee, .mem, .free] s (beatsAnswered s c off n status) := by
  unfold beatsAnswered
  dsimp only
  (apply Touch.app (settleDma_touch ..); · decide)
  apply Touch.ite
  · (apply Touch.app (modDma_touch ..); · decide)
    exact Touch.refl _ _
  · (apply Touch.app (failDma_touch ..); · decide)
    (apply Touch.app (modDma_touch ..); · decide)
    exact Touch.refl _ _

theorem beginDesc_touch (s : State) (c : ℕ) (d : Dma) :
    Touch [.queues, .dmas, .fabric, .levee, .mem, .free] s (beginDesc s c d) := by
  unfold beginDesc
  dsimp only
  apply Touch.ite
  · (apply Touch.app (writeBack_touch ..); · decide)
    (apply Touch.app (modDma_touch ..); · decide)
    exact Touch.refl _ _
  · (apply Touch.app (settleDma_touch ..); · decide)
    apply Touch.ite
    · (apply Touch.app (modQueue_touch ..); · decide)
      (apply Touch.app (modDma_touch ..); · decide)
      exact Touch.refl _ _
    · (apply Touch.app (modDma_touch ..); · decide)
      exact Touch.refl _ _

theorem descDone_touch (s : State) (c : ℕ) :
    Touch [.dev, .units, .mbs, .ledger, .order, .queues, .dmas, .fabric, .svc] s (descDone s c) := by
  unfold descDone
  dsimp only
  apply Touch.ite
  · (apply Touch.app (finishTransfer_touch ..); · decide)
    apply Touch.ite
    · (apply Touch.app (modQueue_touch ..); · decide)
      exact Touch.refl _ _
    · exact Touch.refl _ _
  · split
    · apply Touch.ite
      · (apply Touch.app (modQueue_touch ..); · decide)
        exact Touch.refl _ _
      · exact Touch.refl _ _
    · apply Touch.ite
      · (apply Touch.app (finishTransfer_touch ..); · decide)
        (apply Touch.app (modSlot_touch ..); · decide)
        apply Touch.ite
        · (apply Touch.app (modQueue_touch ..); · decide)
          exact Touch.refl _ _
        · exact Touch.refl _ _
      · split
        · (apply Touch.app (finishTransfer_touch ..); · decide)
          (apply Touch.app (modSlot_touch ..); · decide)
          apply Touch.ite
          · (apply Touch.app (modQueue_touch ..); · decide)
            exact Touch.refl _ _
          · exact Touch.refl _ _
        · (apply Touch.app (fetchDesc_touch ..); · decide)
          (apply Touch.app (modSlot_touch ..); · decide)
          apply Touch.ite
          · (apply Touch.app (modQueue_touch ..); · decide)
            exact Touch.refl _ _
          · exact Touch.refl _ _

theorem writebackAnswered_touch (s : State) (c : ℕ) (status : ℕ) :
    Touch [.dev, .units, .mbs, .ledger, .order, .queues, .dmas, .fabric, .levee, .svc, .mem, .free] s (writebackAnswered s c status) := by
  unfold writebackAnswered
  dsimp only
  apply Touch.ite
  · (apply Touch.app (finishTransfer_touch ..); · decide)
    (apply Touch.app (rewindSource_touch ..); · decide)
    exact Touch.refl _ _
  · (apply Touch.app (descDone_touch ..); · decide)
    (apply Touch.app (memWrite_touch ..); · decide)
    exact Touch.refl _ _

theorem localBeat_touch (s : State) (c : ℕ) (a2 : ℕ) (off : ℕ) (bs : List Byte) :
    Touch [.dmas, .fabric, .levee, .mem] s (localBeat s c a2 off bs) := by
  unfold localBeat
  dsimp only
  split
  · apply Touch.ite
    · (apply Touch.app (writeLocal_touch ..); · decide)
      (apply Touch.app (modDma_touch ..); · decide)
      (apply Touch.app (flushGather_touch ..); · decide)
      exact Touch.refl _ _
    · (apply Touch.app (modDma_touch ..); · decide)
      (apply Touch.app (flushGather_touch ..); · decide)
      exact Touch.refl _ _
  · (apply Touch.app (modDma_touch ..); · decide)
    (apply Touch.app (flushGather_touch ..); · decide)
    exact Touch.refl _ _

theorem settleOutst_touch (s : State) (c : ℕ) (cls : ℕ) :
    Touch [.fabric] s (settleOutst s c cls) := by
  unfold settleOutst
  dsimp only
  refine Touch.set_fabric (by decide) ?_
  exact Touch.refl _ _

theorem execDmaWritebackAck_touch (ch : ℕ) (status : ℕ) (s : State) :
    TouchOut [.dev, .units, .mbs, .ledger, .order, .queues, .dmas, .fabric, .levee, .svc, .mem, .free] s (execDmaWritebackAck ch status s) := by
  unfold execDmaWritebackAck
  dsimp only
  apply TouchOut.ite
  · apply TouchOut.next
    (apply Touch.app (writebackAnswered_touch ..); · decide)
    refine Touch.set_fabric (by decide) ?_
    exact Touch.refl _ _
  · apply TouchOut.next
    exact Touch.refl _ _

theorem execDmaBufferGranted_touch (ch : ℕ) (s : State) :
    TouchOut [.dmas, .bufFree, .fabric] s (execDmaBufferGranted ch s) := by
  unfold execDmaBufferGranted
  dsimp only
  apply TouchOut.ite
  · apply TouchOut.next
    apply Touch.ite
    · (apply Touch.app (modDma_touch ..); · decide)
      refine Touch.set_bufFree_fabric (by decide) (by decide) ?_
      exact Touch.refl _ _
    · (apply Touch.app (dmaRead_touch ..); · decide)
      (apply Touch.app (modDma_touch ..); · decide)
      refine Touch.set_bufFree_fabric (by decide) (by decide) ?_
      exact Touch.refl _ _
  · apply TouchOut.next
    exact Touch.refl _ _

theorem issueBeats_touch (a0 : ℕ) (s : State) (a2 : ℕ) (a3 : ℕ) (a4 : List Byte) :
    Touch [.dmas, .fabric, .levee, .mem] s (issueBeats a0 s a2 a3 a4) := by
  induction a0 generalizing s a2 a3 a4 with
  | zero =>
    unfold issueBeats
    exact Touch.refl _ _
  | succ n ih =>
    unfold issueBeats
    dsimp only
    apply Touch.ite
    · exact Touch.refl _ _
    · apply Touch.trans (ih ..)
      apply Touch.ite
      · (apply Touch.app (localBeat_touch ..); · decide)
        (apply Touch.app (modDma_touch ..); · decide)
        exact Touch.refl _ _
      · (apply Touch.app (gatherBeats_touch ..); · decide)
        (apply Touch.app (modDma_touch ..); · decide)
        exact Touch.refl _ _

theorem burstArrives_touch (s : State) (c : ℕ) (off : ℕ) (n : ℕ) (status : ℕ) (rem : Remote) :
    Touch [.queues, .dmas, .bufFree, .fabric, .levee, .mem, .free] s (burstArrives s c off n status rem) := by
  unfold burstArrives
  dsimp only
  apply Touch.ite
  · (apply Touch.app (settleDma_touch ..); · decide)
    (apply Touch.app (modDma_touch ..); · decide)
    refine Touch.set_bufFree (by decide) ?_
    exact Touch.refl _ _
  · apply Touch.ite
    · (apply Touch.app (settleDma_touch ..); · decide)
      (apply Touch.app (issueBeats_touch ..); · decide)
      apply Touch.ite
      · refine Touch.set_bufFree (by decide) ?_
        (apply Touch.app (modDma_touch ..); · decide)
        (apply Touch.app (modDma_touch ..); · decide)
        (apply Touch.app (modQueue_touch ..); · decide)
        (apply Touch.app (modDma_touch ..); · decide)
        refine Touch.set_bufFree (by decide) ?_
        exact Touch.refl _ _
      · (apply Touch.app (modDma_touch ..); · decide)
        (apply Touch.app (modQueue_touch ..); · decide)
        (apply Touch.app (modDma_touch ..); · decide)
        refine Touch.set_bufFree (by decide) ?_
        exact Touch.refl _ _
    · split
      · (apply Touch.app (settleDma_touch ..); · decide)
        (apply Touch.app (failDma_touch ..); · decide)
        (apply Touch.app (modDma_touch ..); · decide)
        refine Touch.set_bufFree (by decide) ?_
        exact Touch.refl _ _
      · (apply Touch.app (settleDma_touch ..); · decide)
        (apply Touch.app (issueBeats_touch ..); · decide)
        (apply Touch.app (modDma_touch ..); · decide)
        refine Touch.set_bufFree (by decide) ?_
        exact Touch.refl _ _

theorem execDmaReadResponse_touch (ch : ℕ) (status : ℕ) (rem : Remote) (s : State) :
    TouchOut [.queues, .dmas, .bufFree, .fabric, .levee, .mem, .free] s (execDmaReadResponse ch status rem s) := by
  unfold execDmaReadResponse
  dsimp only
  split
  · apply TouchOut.ite
    · apply TouchOut.next
      (apply Touch.app (burstArrives_touch ..); · decide)
      exact Touch.refl _ _
    · apply TouchOut.next
      (apply Touch.app (burstArrives_touch ..); · decide)
      (apply Touch.app (settleOutst_touch ..); · decide)
      exact Touch.refl _ _
  · apply TouchOut.next
    exact Touch.refl _ _

theorem idleDma_touch (s : State) (c : ℕ) :
    Touch [.dmas, .bufFree, .fabric] s (idleDma s c) := by
  unfold idleDma
  dsimp only
  refine Touch.set_dmas_bufFree_fabric (by decide) (by decide) (by decide) ?_
  exact Touch.refl _ _

theorem execDmaWriteResponse_touch (ch : ℕ) (status : ℕ) (s : State) :
    TouchOut [.queues, .dmas, .fabric, .levee, .mem, .free] s (execDmaWriteResponse ch status s) := by
  unfold execDmaWriteResponse
  dsimp only
  split
  · apply TouchOut.ite
    · apply TouchOut.next
      (apply Touch.app (beatsAnswered_touch ..); · decide)
      exact Touch.refl _ _
    · apply TouchOut.next
      (apply Touch.app (beatsAnswered_touch ..); · decide)
      (apply Touch.app (settleOutst_touch ..); · decide)
      exact Touch.refl _ _
  · apply TouchOut.next
    exact Touch.refl _ _

theorem execDmaStopWaitEnd_touch (ch : ℕ) (s : State) :
    TouchOut [.dev, .units, .mbs, .ledger, .order, .queues, .dmas, .bufFree, .fabric, .svc] s (execDmaStopWaitEnd ch s) := by
  unfold execDmaStopWaitEnd
  dsimp only
  apply TouchOut.ite
  · apply TouchOut.next
    (apply Touch.app (idleDma_touch ..); · decide)
    exact Touch.refl _ _
  · split
    · apply TouchOut.ite
      · apply TouchOut.next
        (apply Touch.app (idleDma_touch ..); · decide)
        (apply Touch.app (endItem_touch ..); · decide)
        (apply Touch.app (stopDma_touch ..); · decide)
        exact Touch.refl _ _
      · apply TouchOut.next
        exact Touch.refl _ _
    · apply TouchOut.next
      exact Touch.refl _ _

theorem descArrives_touch (s : State) (c : ℕ) (status : ℕ) (rem : Remote) :
    TouchOut [.dev, .units, .mbs, .ledger, .order, .queues, .dmas, .fabric, .levee, .svc, .mem, .free] s (descArrives s c status rem) := by
  unfold descArrives
  dsimp only
  apply TouchOut.ite
  · apply TouchOut.next
    exact Touch.refl _ _
  · split
    · apply TouchOut.next
      (apply Touch.app (finishTransfer_touch ..); · decide)
      exact Touch.refl _ _
    · apply TouchOut.ite
      · apply TouchOut.next
        (apply Touch.app (finishTransfer_touch ..); · decide)
        exact Touch.refl _ _
      · split
        · apply TouchOut.fault
        · apply TouchOut.next
          (apply Touch.app (beginDesc_touch ..); · decide)
          exact Touch.refl _ _

theorem execDmaDescriptorFetched_touch (ch : ℕ) (status : ℕ) (rem : Remote) (s : State) :
    TouchOut [.dev, .units, .mbs, .ledger, .order, .queues, .dmas, .fabric, .levee, .svc, .mem, .free] s (execDmaDescriptorFetched ch status rem s) := by
  unfold execDmaDescriptorFetched
  apply TouchOut.ite
  · (apply TouchOut.app (descArrives_touch ..); · decide)
    (apply Touch.app (settleOutst_touch ..); · decide)
    exact Touch.refl _ _
  · apply TouchOut.next
    exact Touch.refl _ _

end Sys2Proof.Machine
end

