-- ==== Sys2Proof/Laws/DpsCh.lean ====
section
/-! SUPPORT. What each function of Machine/DpsCh.lean may touch. -/

namespace Sys2Proof.Machine

theorem rampCode_touch (s : State) (n : ℕ) :
    Touch [.dacs] s (rampCode s n) := by
  unfold rampCode
  dsimp only
  apply Touch.ite
  · exact Touch.refl _ _
  · (apply Touch.app (modDac_touch ..); · decide)
    exact Touch.refl _ _

theorem outputNow_touch (s : State) (n : ℕ) :
    Touch [.free] s (outputNow s n).2 := by
  unfold outputNow
  split
  · (apply Touch.app (takeFree_touch ..); · decide)
    exact Touch.refl _ _
  · dsimp only
    exact Touch.refl _ _

theorem putDps_touch (s : State) (id : ℕ) (n : ℕ) (event : ℕ) (uv : ℤ) (ua : ℤ) :
    Touch [.queues] s (putDps s id n event uv ua) := by
  unfold putDps
  (apply Touch.app (queueWrite_touch ..); · decide)
  exact Touch.refl _ _

theorem itemRecords_touch (s : State) (slot : ℕ) (event : ℕ) :
    Touch [.queues, .free] s (itemRecords s slot event) := by
  unfold itemRecords
  dsimp only
  apply Touch.foldl
  · exact Touch.refl _ _
  · intro u v
    (apply Touch.app (putDps_touch ..); · decide)
    (apply Touch.app (outputNow_touch ..); · decide)
    exact Touch.refl _ _

theorem takeBudget_touch (s : State) (slot : ℕ) :
    Touch [.ledger, .dps, .resvs, .queues, .free] s (takeBudget s slot) := by
  unfold takeBudget
  dsimp only
  (apply Touch.app (itemRecords_touch ..); · decide)
  (apply Touch.app (modSlot_touch ..); · decide)
  refine Touch.set_dps_resvs (by decide) (by decide) ?_
  exact Touch.refl _ _

theorem startDps_touch (s : State) (slot : ℕ) :
    Touch [.ledger, .dps, .resvs, .queues, .free] s (startDps s slot) := by
  unfold startDps
  apply Touch.ite
  · (apply Touch.app (takeBudget_touch ..); · decide)
    exact Touch.refl _ _
  · (apply Touch.app (itemRecords_touch ..); · decide)
    (apply Touch.app (modSlot_touch ..); · decide)
    exact Touch.refl _ _

theorem execDpsDispatch_touch (slot : ℕ) (s : State) :
    TouchOut [.dev, .mbs, .ledger, .dps, .resvs, .queues, .fabric, .free] s (execDpsDispatch slot s) := by
  unfold execDpsDispatch
  dsimp only
  apply TouchOut.ite
  · apply TouchOut.next
    (apply Touch.app (holdAsked_touch ..); · decide)
    apply Touch.ite
    · (apply Touch.app (startDps_touch ..); · decide)
      (apply Touch.app (armItem_touch ..); · decide)
      refine Touch.set_dps (by decide) ?_
      (apply Touch.app (takeItem_touch ..); · decide)
      exact Touch.refl _ _
    · (apply Touch.app (armItem_touch ..); · decide)
      refine Touch.set_dps (by decide) ?_
      (apply Touch.app (takeItem_touch ..); · decide)
      exact Touch.refl _ _
  · apply TouchOut.next
    exact Touch.refl _ _

theorem admitHeld_touch (a0 : List ℕ) (s : State) :
    Touch [.ledger, .dps, .resvs, .queues, .free] s (admitHeld a0 s) := by
  induction a0 generalizing s with
  | nil =>
    unfold admitHeld
    exact Touch.refl _ _
  | cons y ys ih =>
    unfold admitHeld
    apply Touch.ite
    · apply Touch.trans (ih ..)
      (apply Touch.app (takeBudget_touch ..); · decide)
      exact Touch.refl _ _
    · exact Touch.refl _ _

theorem readLow_touch (s : State) (n : ℕ) :
    Touch [.dps, .free] s (readLow s n) := by
  unfold readLow
  dsimp only
  (apply Touch.app (modDps_touch ..); · decide)
  (apply Touch.app (takeFree_touch ..); · decide)
  exact Touch.refl _ _

theorem execCurrentManagerRefresh_touch (loads : List (ℕ × ℕ)) (vps : List ℕ) (s : State) :
    TouchOut [.power, .ledger, .dps, .resvs, .queues, .free] s (execCurrentManagerRefresh loads vps s) := by
  unfold execCurrentManagerRefresh
  dsimp only
  apply TouchOut.next
  (apply Touch.app (admitHeld_touch ..); · decide)
  apply Touch.foldl
  · refine Touch.set_power_dps_resvs (by decide) (by decide) (by decide) ?_
    exact Touch.refl _ _
  · intro u v
    (apply Touch.app (readLow_touch ..); · decide)
    exact Touch.refl _ _

theorem finishDisarm_touch (s : State) :
    Touch [.dev, .units, .mbs, .ledger, .order, .chans, .pebs, .fabric] s (finishDisarm s) := by
  unfold finishDisarm
  dsimp only
  apply Touch.ite
  · (apply Touch.app (answerOwed_touch ..); · decide)
    (apply Touch.app (submitDue_touch ..); · decide)
    (apply Touch.app (setMode_touch ..); · decide)
    refine Touch.set_dev_chans_pebs (by decide) (by decide) (by decide) ?_
    exact Touch.refl _ _
  · exact Touch.refl _ _

theorem execDpsDischargeDone_touch (n : ℕ) (s : State) :
    TouchOut [.dev, .units, .mbs, .ledger, .order, .chans, .pebs, .dps, .queues, .fabric, .free] s (execDpsDischargeDone n s) := by
  unfold execDpsDischargeDone
  dsimp only
  apply TouchOut.ite
  · apply TouchOut.next
    (apply Touch.app (finishDisarm_touch ..); · decide)
    (apply Touch.app (putDps_touch ..); · decide)
    (apply Touch.app (takeFree_touch ..); · decide)
    (apply Touch.app (takeFree_touch ..); · decide)
    (apply Touch.app (modDps_touch ..); · decide)
    exact Touch.refl _ _
  · apply TouchOut.next
    exact Touch.refl _ _

theorem dpsResult_touch (s : State) (m : Msg) :
    Touch [.free] s (dpsResult s m).2 := by
  unfold dpsResult
  dsimp only
  (apply Touch.app (outputNow_touch ..); · decide)
  exact Touch.refl _ _

theorem pauseDps_touch (s : State) (slot : ℕ) :
    Touch [.ledger] s (pauseDps s slot) := by
  unfold pauseDps
  (apply Touch.app (modSlot_touch ..); · decide)
  exact Touch.refl _ _

theorem settleSet_touch (s : State) (n : ℕ) :
    Touch [.dacs, .dps] s (settleSet s n) := by
  unfold settleSet
  dsimp only
  (apply Touch.app (modDps_touch ..); · decide)
  apply Touch.ite
  · exact Touch.refl _ _
  · (apply Touch.app (modDac_touch ..); · decide)
    exact Touch.refl _ _

theorem finishDps_touch (s : State) (slot : ℕ) (reason : Option ℕ) (extra : ℕ) :
    Touch [.dev, .units, .mbs, .ledger, .order, .dacs, .dps, .resvs, .queues, .fabric, .svc, .free] s (finishDps s slot reason extra) := by
  unfold finishDps
  dsimp only
  (apply Touch.app (endItem_touch ..); · decide)
  refine Touch.set_resvs (by decide) ?_
  apply Touch.ite
  · apply Touch.foldl
    · apply Touch.ite
      · (apply Touch.app (modQueue_touch ..); · decide)
        (apply Touch.app (itemRecords_touch ..); · decide)
        (apply Touch.app (dpsResult_touch ..); · decide)
        exact Touch.refl _ _
      · (apply Touch.app (dpsResult_touch ..); · decide)
        exact Touch.refl _ _
    · intro u v
      (apply Touch.app (settleSet_touch ..); · decide)
      exact Touch.refl _ _
  · apply Touch.ite
    · (apply Touch.app (modQueue_touch ..); · decide)
      (apply Touch.app (itemRecords_touch ..); · decide)
      (apply Touch.app (dpsResult_touch ..); · decide)
      exact Touch.refl _ _
    · (apply Touch.app (dpsResult_touch ..); · decide)
      exact Touch.refl _ _

theorem execDpsBudgetTimeout_touch (slot : ℕ) (s : State) :
    TouchOut [.dev, .units, .mbs, .ledger, .order, .dacs, .dps, .resvs, .queues, .fabric, .svc, .free] s (execDpsBudgetTimeout slot s) := by
  unfold execDpsBudgetTimeout
  dsimp only
  apply TouchOut.ite
  · apply TouchOut.next
    (apply Touch.app (finishDps_touch ..); · decide)
    exact Touch.refl _ _
  · apply TouchOut.next
    exact Touch.refl _ _

theorem execDpsLimitChange_touch (n : ℕ) (acts : Bool) (microvolts : ℤ) (microamps : ℤ) (s : State) :
    TouchOut [.dps, .queues] s (execDpsLimitChange n acts microvolts microamps s) := by
  unfold execDpsLimitChange
  apply TouchOut.next
  (apply Touch.app (putDps_touch ..); · decide)
  (apply Touch.app (modDps_touch ..); · decide)
  exact Touch.refl _ _

theorem resumeDps_touch (s : State) (slot : ℕ) :
    Touch [.ledger] s (resumeDps s slot) := by
  unfold resumeDps
  (apply Touch.app (modSlot_touch ..); · decide)
  exact Touch.refl _ _

theorem execDpsRampStep_touch (slot : ℕ) (s : State) :
    TouchOut [.dev, .units, .mbs, .ledger, .order, .dacs, .dps, .resvs, .queues, .fabric, .svc, .free] s (execDpsRampStep slot s) := by
  unfold execDpsRampStep
  dsimp only
  apply TouchOut.ite
  · split
    · apply TouchOut.next
      (apply Touch.app (finishDps_touch ..); · decide)
      exact Touch.refl _ _
    · apply TouchOut.next
      apply Touch.ite
      · (apply Touch.app (finishDps_touch ..); · decide)
        (apply Touch.app (modSlot_touch ..); · decide)
        apply Touch.foldl
        · refine Touch.set_dps (by decide) ?_
          exact Touch.refl _ _
        · intro u v
          (apply Touch.app (rampCode_touch ..); · decide)
          exact Touch.refl _ _
      · (apply Touch.app (modSlot_touch ..); · decide)
        apply Touch.foldl
        · refine Touch.set_dps (by decide) ?_
          exact Touch.refl _ _
        · intro u v
          (apply Touch.app (rampCode_touch ..); · decide)
          exact Touch.refl _ _
  · apply TouchOut.next
    exact Touch.refl _ _

theorem abortDps_touch (s : State) (slot : ℕ) (reason : ℕ) :
    Touch [.dev, .units, .mbs, .ledger, .order, .dacs, .dps, .resvs, .queues, .fabric, .svc, .free] s (abortDps s slot reason) := by
  unfold abortDps
  dsimp only
  apply Touch.ite
  · (apply Touch.app (modSlot_touch ..); · decide)
    exact Touch.refl _ _
  · (apply Touch.app (finishDps_touch ..); · decide)
    exact Touch.refl _ _

theorem execDpsDisarmOutputDisable_touch (n : ℕ) (s : State) :
    TouchOut [.dev, .units, .mbs, .ledger, .order, .chans, .pebs, .dps, .fabric] s (execDpsDisarmOutputDisable n s) := by
  unfold execDpsDisarmOutputDisable
  apply TouchOut.ite
  · apply TouchOut.next
    (apply Touch.app (finishDisarm_touch ..); · decide)
    (apply Touch.app (modDps_touch ..); · decide)
    exact Touch.refl _ _
  · apply TouchOut.next
    exact Touch.refl _ _

theorem dischargeGroup_touch (s : State) (g : ℕ) :
    Touch [.dps] s (dischargeGroup s g) := by
  unfold dischargeGroup
  refine Touch.set_dps (by decide) ?_
  exact Touch.refl _ _

theorem execDpsDropout_touch (n : ℕ) (lost : Bool) (microvolts : ℤ) (microamps : ℤ) (s : State) :
    TouchOut [.dps, .queues] s (execDpsDropout n lost microvolts microamps s) := by
  unfold execDpsDropout
  apply TouchOut.next
  (apply Touch.app (putDps_touch ..); · decide)
  (apply Touch.app (modDps_touch ..); · decide)
  exact Touch.refl _ _

end Sys2Proof.Machine
end

