-- ==== Sys2Proof/Laws/Flags.lean ====
section
/-! SUPPORT. What each function of Machine/Flags.lean may touch. -/

namespace Sys2Proof.Machine

theorem changeClock_touch {b : List Part} (h0 : Part.hw ∈ b) (h1 : Part.mbs ∈ b) (h2 : Part.fabric ∈ b) (h3 : Part.svc ∈ b) (h4 : Part.free ∈ b) (s : State) (f : State → State)
    (h : ∀ t0, Touch b t0 (f t0)) :
    Touch b s (changeClock s f) := by
  unfold changeClock
  dsimp only
  apply Touch.ite
  · apply Touch.trans (h ..)
    exact Touch.refl _ _
  · (apply Touch.app (deviceNotice_touch ..); · simp_all)
    apply Touch.ite
    · apply Touch.trans (h ..)
      exact Touch.refl _ _
    · refine Touch.set_hw (by assumption) ?_
      apply Touch.trans (h ..)
      exact Touch.refl _ _

end Sys2Proof.Machine
end

