-- ==== Sys2Proof/Laws/LaneCh.lean ====
section
/-! SUPPORT. What each function of Machine/LaneCh.lean may touch. -/

namespace Sys2Proof.Machine

theorem takeLanes_touch (s : State) (slot : ℕ) :
    Touch [.lanes] s (takeLanes s slot) := by
  unfold takeLanes
  dsimp only
  refine Touch.set_lanes (by decide) ?_
  exact Touch.refl _ _

theorem modLane_touch (s : State) (n : ℕ) (f : Lane → Lane) :
    Touch [.lanes] s (modLane s n f) := by
  unfold modLane
  refine Touch.set_lanes (by decide) ?_
  exact Touch.refl _ _

theorem idleRx_touch (s : State) (n : ℕ) (gain : Option ℤ) :
    Touch [.lanes] s (idleRx s n gain) := by
  unfold idleRx
  dsimp only
  split
  · apply Touch.ite
    · exact Touch.refl _ _
    · (apply Touch.app (modLane_touch ..); · decide)
      exact Touch.refl _ _
  · (apply Touch.app (modLane_touch ..); · decide)
    exact Touch.refl _ _

theorem laneProgress_touch (s : State) (slot : ℕ) :
    Touch [.ledger] s (laneProgress s slot) := by
  unfold laneProgress
  dsimp only
  (apply Touch.app (modSlot_touch ..); · decide)
  exact Touch.refl _ _

theorem finishLane_touch (s : State) (slot : ℕ) (reason : Option ℕ) (extra : ℕ) :
    Touch [.dev, .units, .mbs, .ledger, .order, .lanes, .fabric, .levee, .svc, .mem, .free] s (finishLane s slot reason extra) := by
  unfold finishLane
  dsimp only
  (apply Touch.app (endItem_touch ..); · decide)
  refine Touch.set_lanes (by decide) ?_
  (apply Touch.app (memWrite_touch ..); · decide)
  split
  · dsimp only
    (apply Touch.app (laneProgress_touch ..); · decide)
    exact Touch.refl _ _
  · (apply Touch.app (takeFree_touch ..); · decide)
    (apply Touch.app (laneProgress_touch ..); · decide)
    exact Touch.refl _ _

theorem laneStep_touch (s : State) (slot : ℕ) (n : ℕ) (f : Lane → Lane) :
    Touch [.dev, .units, .mbs, .ledger, .order, .lanes, .fabric, .levee, .svc, .mem, .free] s (laneStep s slot n f) := by
  unfold laneStep
  dsimp only
  apply Touch.ite
  · (apply Touch.app (finishLane_touch ..); · decide)
    (apply Touch.app (laneProgress_touch ..); · decide)
    (apply Touch.app (modLane_touch ..); · decide)
    exact Touch.refl _ _
  · (apply Touch.app (laneProgress_touch ..); · decide)
    (apply Touch.app (modLane_touch ..); · decide)
    exact Touch.refl _ _

theorem execEyePointDone_touch (lane : ℕ) (mismatches : ℕ) (s : State) :
    TouchOut [.dev, .units, .mbs, .ledger, .order, .lanes, .fabric, .levee, .svc, .mem, .free] s (execEyePointDone lane mismatches s) := by
  unfold execEyePointDone
  dsimp only
  split
  · apply TouchOut.ite
    · apply TouchOut.next
      (apply Touch.app (laneStep_touch ..); · decide)
      exact Touch.refl _ _
    · apply TouchOut.next
      exact Touch.refl _ _
  · apply TouchOut.next
    exact Touch.refl _ _

theorem execLaneRxLock_touch (lane : ℕ) (freqOffset : ℤ) (s : State) :
    TouchOut [.dev, .units, .mbs, .ledger, .order, .lanes, .fabric, .levee, .svc, .mem, .free] s (execLaneRxLock lane freqOffset s) := by
  unfold execLaneRxLock
  split
  · apply TouchOut.next
    (apply Touch.app (laneStep_touch ..); · decide)
    exact Touch.refl _ _
  · apply TouchOut.next
    (apply Touch.app (idleRx_touch ..); · decide)
    exact Touch.refl _ _

theorem execNoLock_touch (lane : ℕ) (s : State) :
    TouchOut [.dev, .units, .mbs, .ledger, .order, .lanes, .fabric, .levee, .svc, .mem, .free] s (execNoLock lane s) := by
  unfold execNoLock
  dsimp only
  split
  · apply TouchOut.ite
    · apply TouchOut.next
      exact Touch.refl _ _
    · apply TouchOut.next
      (apply Touch.app (laneStep_touch ..); · decide)
      exact Touch.refl _ _
  · apply TouchOut.next
    exact Touch.refl _ _

theorem execLaneClassRecognised_touch (lane : ℕ) (cls : ℕ) (inverted : Bool) (s : State) :
    TouchOut [.dev, .units, .mbs, .ledger, .order, .lanes, .fabric, .levee, .svc, .mem, .free] s (execLaneClassRecognised lane cls inverted s) := by
  unfold execLaneClassRecognised
  dsimp only
  split
  · apply TouchOut.ite
    · apply TouchOut.next
      (apply Touch.app (laneStep_touch ..); · decide)
      exact Touch.refl _ _
    · apply TouchOut.next
      exact Touch.refl _ _
  · apply TouchOut.next
    exact Touch.refl _ _

theorem execLaneBitsReached_touch (lane : ℕ) (bits : ℕ) (errors : BitErrors) (s : State) :
    TouchOut [.dev, .units, .mbs, .ledger, .order, .lanes, .fabric, .levee, .svc, .mem, .free] s (execLaneBitsReached lane bits errors s) := by
  unfold execLaneBitsReached
  dsimp only
  split
  · apply TouchOut.ite
    · apply TouchOut.next
      exact Touch.refl _ _
    · apply TouchOut.next
      (apply Touch.app (laneStep_touch ..); · decide)
      exact Touch.refl _ _
  · apply TouchOut.next
    exact Touch.refl _ _

theorem execLaneLockLoss_touch (lane : ℕ) (s : State) :
    TouchOut [.dev, .units, .mbs, .ledger, .order, .lanes, .fabric, .levee, .svc, .mem, .free] s (execLaneLockLoss lane s) := by
  unfold execLaneLockLoss
  split
  · apply TouchOut.ite
    · apply TouchOut.next
      (apply Touch.app (laneStep_touch ..); · decide)
      exact Touch.refl _ _
    · apply TouchOut.next
      exact Touch.refl _ _
  · apply TouchOut.next
    (apply Touch.app (idleRx_touch ..); · decide)
    exact Touch.refl _ _

theorem startLane_touch (s : State) (slot : ℕ) :
    Touch [.lanes] s (startLane s slot) := by
  unfold startLane
  dsimp only
  refine Touch.set_lanes (by decide) ?_
  exact Touch.refl _ _

theorem execLaneSyncDrop_touch (lane : ℕ) (bits : ℕ) (errors : BitErrors) (s : State) :
    TouchOut [.dev, .units, .mbs, .ledger, .order, .lanes, .fabric, .levee, .svc, .mem, .free] s (execLaneSyncDrop lane bits errors s) := by
  unfold execLaneSyncDrop
  dsimp only
  split
  · apply TouchOut.ite
    · apply TouchOut.next
      (apply Touch.app (laneStep_touch ..); · decide)
      exact Touch.refl _ _
    · apply TouchOut.next
      exact Touch.refl _ _
  · apply TouchOut.next
    exact Touch.refl _ _

theorem execLanePrbsSync_touch (lane : ℕ) (inverted : Bool) (s : State) :
    TouchOut [.dev, .units, .mbs, .ledger, .order, .lanes, .fabric, .levee, .svc, .mem, .free] s (execLanePrbsSync lane inverted s) := by
  unfold execLanePrbsSync
  dsimp only
  split
  · apply TouchOut.ite
    · apply TouchOut.next
      (apply Touch.app (laneStep_touch ..); · decide)
      exact Touch.refl _ _
    · apply TouchOut.next
      exact Touch.refl _ _
  · apply TouchOut.next
    exact Touch.refl _ _

theorem execLaneDispatch_touch (slot : ℕ) (s : State) :
    TouchOut [.dev, .ledger, .lanes] s (execLaneDispatch slot s) := by
  unfold execLaneDispatch
  dsimp only
  apply TouchOut.ite
  · apply TouchOut.next
    apply Touch.ite
    · (apply Touch.app (startLane_touch ..); · decide)
      (apply Touch.app (takeLanes_touch ..); · decide)
      (apply Touch.app (armItem_touch ..); · decide)
      (apply Touch.app (takeItem_touch ..); · decide)
      exact Touch.refl _ _
    · (apply Touch.app (takeLanes_touch ..); · decide)
      (apply Touch.app (armItem_touch ..); · decide)
      (apply Touch.app (takeItem_touch ..); · decide)
      exact Touch.refl _ _
  · apply TouchOut.next
    exact Touch.refl _ _

theorem execNoSync_touch (lane : ℕ) (s : State) :
    TouchOut [.dev, .units, .mbs, .ledger, .order, .lanes, .fabric, .levee, .svc, .mem, .free] s (execNoSync lane s) := by
  unfold execNoSync
  dsimp only
  split
  · apply TouchOut.ite
    · apply TouchOut.next
      (apply Touch.app (laneStep_touch ..); · decide)
      exact Touch.refl _ _
    · apply TouchOut.next
      exact Touch.refl _ _
  · apply TouchOut.next
    exact Touch.refl _ _

end Sys2Proof.Machine
end

