-- ==== Sys2Proof/Laws/Sluice.lean ====
section
/-! SUPPORT. What each function of Machine/Sluice.lean may touch. -/

namespace Sys2Proof.Machine

theorem modSched_touch (s : State) (n : ℕ) (f : Sched → Sched) :
    Touch [.cfg] s (modSched s n f) := by
  unfold modSched
  dsimp only
  refine Touch.set_cfg (by decide) ?_
  exact Touch.refl _ _

theorem modLayer_touch (s : State) (p : ℕ) (l : ℕ) (f : Layer → Layer) :
    Touch [.pebs] s (modLayer s p l f) := by
  unfold modLayer
  (apply Touch.app (modPeb_touch ..); · decide)
  exact Touch.refl _ _

theorem setPools_touch (s : State) (img : List Byte) (p : ℕ) :
    Touch [.pebs] s (setPools s img p) := by
  unfold setPools
  dsimp only
  apply Touch.ite
  · exact Touch.refl _ _
  · apply Touch.foldl
    · exact Touch.refl _ _
    · intro u v
      apply Touch.ite
      · exact Touch.refl _ _
      · (apply Touch.app (modLayer_touch ..); · decide)
        exact Touch.refl _ _

theorem sendReads_touch (a0 : ℕ) (s : State) (a2 : ℕ) (a3 : ℕ) (a4 : ℕ) :
    Touch [.fabric] s (sendReads a0 s a2 a3 a4) := by
  induction a0 generalizing s a2 a3 a4 with
  | zero =>
    unfold sendReads
    exact Touch.refl _ _
  | succ n ih =>
    unfold sendReads
    dsimp only
    apply Touch.ite
    · exact Touch.refl _ _
    · apply Touch.trans (ih ..)
      apply Touch.ite
      · exact Touch.refl _ _
      · (apply Touch.app (sendRequest_touch ..); · decide)
        exact Touch.refl _ _

theorem sendFetch_touch (s : State) (slot : ℕ) (k : Slice) :
    Touch [.fabric] s (sendFetch s slot k) := by
  unfold sendFetch
  apply Touch.foldl
  · exact Touch.refl _ _
  · intro u v
    (apply Touch.app (sendReads_touch ..); · decide)
    exact Touch.refl _ _

theorem touchPage_touch (s : State) (slot : ℕ) (k : Slice) :
    Touch [.pebs] s (touchPage s slot k) := by
  unfold touchPage
  dsimp only
  split
  · apply Touch.ite
    · exact Touch.refl _ _
    · (apply Touch.app (modLayer_touch ..); · decide)
      exact Touch.refl _ _
  · exact Touch.refl _ _

theorem issueNow_touch (s : State) (slot : ℕ) (k : Slice) :
    Touch [.pebs, .bursts, .fabric] s (issueNow s slot k) := by
  unfold issueNow
  (apply Touch.app (touchPage_touch ..); · decide)
  (apply Touch.app (sendFetch_touch ..); · decide)
  (apply Touch.app (modBurst_touch ..); · decide)
  exact Touch.refl _ _

theorem issueFetch_touch (s : State) (slot : ℕ) (k : Slice) :
    Touch [.pebs, .bursts, .fabric] s (issueFetch s slot k) := by
  unfold issueFetch
  dsimp only
  apply Touch.ite
  · exact Touch.refl _ _
  · apply Touch.ite
    · (apply Touch.app (issueNow_touch ..); · decide)
      exact Touch.refl _ _
    · (apply Touch.app (modBurst_touch ..); · decide)
      exact Touch.refl _ _

theorem trackPath_touch (s : State) (slot : ℕ) :
    Touch [.pebs, .bursts, .fabric] s (trackPath s slot) := by
  unfold trackPath
  dsimp only
  apply Touch.foldl
  · exact Touch.refl _ _
  · intro u v
    split
    · (apply Touch.app (issueFetch_touch ..); · decide)
      (apply Touch.app (issueFetch_touch ..); · decide)
      exact Touch.refl _ _
    · apply Touch.ite
      · apply Touch.ite
        · (apply Touch.app (issueFetch_touch ..); · decide)
          (apply Touch.app (issueFetch_touch ..); · decide)
          (apply Touch.app (issueFetch_touch ..); · decide)
          exact Touch.refl _ _
        · (apply Touch.app (issueFetch_touch ..); · decide)
          (apply Touch.app (issueFetch_touch ..); · decide)
          exact Touch.refl _ _
      · (apply Touch.app (issueFetch_touch ..); · decide)
        apply Touch.ite
        · (apply Touch.app (issueFetch_touch ..); · decide)
          (apply Touch.app (issueFetch_touch ..); · decide)
          (apply Touch.app (issueFetch_touch ..); · decide)
          exact Touch.refl _ _
        · (apply Touch.app (issueFetch_touch ..); · decide)
          (apply Touch.app (issueFetch_touch ..); · decide)
          exact Touch.refl _ _

theorem flipLayer_touch (s : State) (slot : ℕ) (p : ℕ) (l : ℕ) (seg : ℕ) (vaddr : ℕ) (time : Count) :
    Touch [.pebs, .bursts, .queues] s (flipLayer s slot p l seg vaddr time) := by
  unfold flipLayer
  dsimp only
  apply Touch.ite
  · exact Touch.refl _ _
  · (apply Touch.app (capRec_touch ..); · decide)
    (apply Touch.app (modLayer_touch ..); · decide)
    exact Touch.refl _ _

theorem admitWaiting_touch (a0 : ℕ) (s : State) (a2 : ℕ) :
    Touch [.pebs, .bursts, .fabric] s (admitWaiting a0 s a2) := by
  induction a0 generalizing s a2 with
  | zero =>
    unfold admitWaiting
    exact Touch.refl _ _
  | succ n ih =>
    unfold admitWaiting
    split
    · exact Touch.refl _ _
    · apply Touch.ite
      · apply Touch.trans (ih ..)
        (apply Touch.app (issueNow_touch ..); · decide)
        (apply Touch.app (modBurst_touch ..); · decide)
        exact Touch.refl _ _
      · exact Touch.refl _ _

theorem issueGranules_touch (s : State) (slot : ℕ) (ord : ℕ) (seg : ℕ) (lo : ℕ) (hi : ℕ) :
    Touch [.pebs, .bursts, .fabric] s (issueGranules s slot ord seg lo hi) := by
  unfold issueGranules
  dsimp only
  apply Touch.foldl
  · exact Touch.refl _ _
  · intro u v
    apply Touch.foldl
    · exact Touch.refl _ _
    · intro u v
      (apply Touch.app (issueFetch_touch ..); · decide)
      exact Touch.refl _ _

theorem flipLayers_touch (s : State) (slot : ℕ) (seg : ℕ) (vaddr : ℕ) (time : Count) :
    Touch [.pebs, .bursts, .queues] s (flipLayers s slot seg vaddr time) := by
  unfold flipLayers
  dsimp only
  apply Touch.foldl
  · exact Touch.refl _ _
  · intro u v
    (apply Touch.app (flipLayer_touch ..); · decide)
    exact Touch.refl _ _

theorem dropSlices_touch (s : State) (slot : ℕ) (p : Slice → Bool) :
    Touch [.bursts] s (dropSlices s slot p) := by
  unfold dropSlices
  (apply Touch.app (modBurst_touch ..); · decide)
  exact Touch.refl _ _

end Sys2Proof.Machine
end

