-- ==== Sys2Proof/Laws/Vector.lean ====
section
/-! SUPPORT. What each function of Machine/Vector.lean may touch. -/

namespace Sys2Proof.Machine

theorem endVector_touch (s : State) (slot : ℕ) :
    Touch [.bursts] s (endVector s slot) := by
  unfold endVector
  dsimp only
  apply Touch.ite
  · (apply Touch.app (dropSlices_touch ..); · decide)
    (apply Touch.app (modBurst_touch ..); · decide)
    exact Touch.refl _ _
  · (apply Touch.app (modBurst_touch ..); · decide)
    exact Touch.refl _ _

theorem markUnderrun_touch (s : State) (slot : ℕ) (lanes : List (ℕ × ℕ)) (tracks : List ℕ) (vaddr : ℕ) :
    Touch [.ledger, .bursts, .queues] s (markUnderrun s slot lanes tracks vaddr) := by
  unfold markUnderrun
  dsimp only
  apply Touch.ite
  · (apply Touch.app (modBurst_touch ..); · decide)
    apply Touch.foldl
    · exact Touch.refl _ _
    · intro u v
      apply Touch.foldl
      · exact Touch.refl _ _
      · intro u v
        apply Touch.ite
        · exact Touch.refl _ _
        · apply Touch.ite
          · (apply Touch.app (capPut_touch ..); · decide)
            exact Touch.refl _ _
          · (apply Touch.app (capRec_touch ..); · decide)
            exact Touch.refl _ _
  · (apply Touch.app (modSlot_touch ..); · decide)
    (apply Touch.app (modBurst_touch ..); · decide)
    apply Touch.foldl
    · exact Touch.refl _ _
    · intro u v
      apply Touch.foldl
      · exact Touch.refl _ _
      · intro u v
        apply Touch.ite
        · exact Touch.refl _ _
        · apply Touch.ite
          · (apply Touch.app (capPut_touch ..); · decide)
            exact Touch.refl _ _
          · (apply Touch.app (capRec_touch ..); · decide)
            exact Touch.refl _ _

theorem applyUnderrun_touch (s : State) (slot : ℕ) :
    Touch [.ledger, .bursts, .queues] s (applyUnderrun s slot) := by
  unfold applyUnderrun
  dsimp only
  apply Touch.ite
  · exact Touch.refl _ _
  · (apply Touch.app (markUnderrun_touch ..); · decide)
    exact Touch.refl _ _

theorem playPeb_touch (s : State) (slot : ℕ) (img : List Byte) (d : SegDesc) (seen : List Seen) (p : ℕ) :
    Touch [.chans, .pebs, .bursts, .queues] s (playPeb s slot img d seen p) := by
  unfold playPeb
  dsimp only
  (apply Touch.app (modBurst_touch ..); · decide)
  (apply Touch.app (modPeb_touch ..); · decide)
  apply Touch.ite
  · (apply Touch.app (capRec_touch ..); · decide)
    apply Touch.ite
    · (apply Touch.app (modBurst_touch ..); · decide)
      apply Touch.ite
      · (apply Touch.app (addFails_touch ..); · decide)
        refine Touch.set_chans (by decide) ?_
        exact Touch.refl _ _
      · (apply Touch.app (countFails_touch ..); · decide)
        (apply Touch.app (addFails_touch ..); · decide)
        refine Touch.set_chans (by decide) ?_
        exact Touch.refl _ _
    · apply Touch.ite
      · (apply Touch.app (addFails_touch ..); · decide)
        refine Touch.set_chans (by decide) ?_
        exact Touch.refl _ _
      · (apply Touch.app (countFails_touch ..); · decide)
        (apply Touch.app (addFails_touch ..); · decide)
        refine Touch.set_chans (by decide) ?_
        exact Touch.refl _ _
  · apply Touch.ite
    · (apply Touch.app (modBurst_touch ..); · decide)
      apply Touch.ite
      · (apply Touch.app (addFails_touch ..); · decide)
        refine Touch.set_chans (by decide) ?_
        exact Touch.refl _ _
      · (apply Touch.app (countFails_touch ..); · decide)
        (apply Touch.app (addFails_touch ..); · decide)
        refine Touch.set_chans (by decide) ?_
        exact Touch.refl _ _
    · apply Touch.ite
      · (apply Touch.app (addFails_touch ..); · decide)
        refine Touch.set_chans (by decide) ?_
        exact Touch.refl _ _
      · (apply Touch.app (countFails_touch ..); · decide)
        (apply Touch.app (addFails_touch ..); · decide)
        refine Touch.set_chans (by decide) ?_
        exact Touch.refl _ _

theorem idlePeb_touch (s : State) (p : ℕ) (start : ℤ) (sym : ℕ → ℕ) :
    Touch [.chans] s (idlePeb s p start sym) := by
  unfold idlePeb
  dsimp only
  refine Touch.set_chans (by decide) ?_
  exact Touch.refl _ _

theorem replayRest_touch (s : State) (p : ℕ) :
    Touch [.chans] s (replayRest s p) := by
  unfold replayRest
  split
  · (apply Touch.app (idlePeb_touch ..); · decide)
    exact Touch.refl _ _
  · (apply Touch.app (idlePeb_touch ..); · decide)
    exact Touch.refl _ _
  · (apply Touch.app (idlePeb_touch ..); · decide)
    exact Touch.refl _ _
  · exact Touch.refl _ _

theorem idleBurst_touch (s : State) (slot : ℕ) (sym : State → ℕ → ℕ → ℕ) :
    Touch [.chans] s (idleBurst s slot sym) := by
  unfold idleBurst
  dsimp only
  apply Touch.foldl
  · exact Touch.refl _ _
  · intro u v
    (apply Touch.app (idlePeb_touch ..); · decide)
    exact Touch.refl _ _

theorem restPeb_touch (s : State) (p : ℕ) (rest : Rest) :
    Touch [.chans, .pebs] s (restPeb s p rest) := by
  unfold restPeb
  dsimp only
  split
  · (apply Touch.app (replayRest_touch ..); · decide)
    (apply Touch.app (modPeb_touch ..); · decide)
    (apply Touch.app (modPeb_touch ..); · decide)
    exact Touch.refl _ _
  · (apply Touch.app (replayRest_touch ..); · decide)
    (apply Touch.app (modPeb_touch ..); · decide)
    exact Touch.refl _ _
  · refine Touch.set_chans (by decide) ?_
    (apply Touch.app (modPeb_touch ..); · decide)
    exact Touch.refl _ _
  · (apply Touch.app (modPeb_touch ..); · decide)
    exact Touch.refl _ _

theorem execVectorPlay_touch (slot : ℕ) (seen : List Seen) (s : State) :
    TouchOut [.ledger, .chans, .pebs, .bursts, .queues] s (execVectorPlay slot seen s) := by
  unfold execVectorPlay
  dsimp only
  apply TouchOut.ite
  · split
    · apply TouchOut.fault
    · apply TouchOut.next
      (apply Touch.app (endVector_touch ..); · decide)
      apply Touch.foldl
      · (apply Touch.app (modBurst_touch ..); · decide)
        (apply Touch.app (applyUnderrun_touch ..); · decide)
        exact Touch.refl _ _
      · intro u v
        (apply Touch.app (playPeb_touch ..); · decide)
        exact Touch.refl _ _
  · apply TouchOut.next
    exact Touch.refl _ _

end Sys2Proof.Machine
end

