-- ==== Sys2Proof/Laws/Playback.lean ====
section
/-! SUPPORT. What each function of Machine/Playback.lean may touch. -/

namespace Sys2Proof.Machine

theorem idleVectors_touch (s : State) (slot : ℕ) (n : ℕ) :
    Touch [.chans, .bursts] s (idleVectors s slot n) := by
  unfold idleVectors
  dsimp only
  (apply Touch.app (modBurst_touch ..); · decide)
  apply Touch.foldl
  · exact Touch.refl _ _
  · intro u v
    refine Touch.set_chans (by decide) ?_
    exact Touch.refl _ _

theorem phaseReset_touch (s : State) (slot : ℕ) (succ : ℕ) :
    Touch [.ledger, .chans, .bursts, .queues] s (phaseReset s slot succ) := by
  unfold phaseReset
  dsimp only
  apply Touch.foldl
  · (apply Touch.app (modSlot_touch ..); · decide)
    (apply Touch.app (capAll_touch ..); · decide)
    (apply Touch.app (modBurst_touch ..); · decide)
    exact Touch.refl _ _
  · intro u v
    refine Touch.set_chans (by decide) ?_
    exact Touch.refl _ _

theorem stepCorrections_touch (s : State) (p : ℕ) :
    Touch [.chans] s (stepCorrections s p) := by
  unfold stepCorrections
  refine Touch.set_chans (by decide) ?_
  exact Touch.refl _ _

theorem transferTables_touch (s : State) (p : ℕ) :
    Touch [.pebs] s (transferTables s p) := by
  unfold transferTables
  (apply Touch.app (modPeb_touch ..); · decide)
  exact Touch.refl _ _

theorem transferDue_touch (s : State) (slot : ℕ) (due : BitVec 12) (late : BitVec 12) :
    Touch [.ledger, .pebs] s (transferDue s slot due late) := by
  unfold transferDue
  dsimp only
  apply Touch.ite
  · apply Touch.foldl
    · exact Touch.refl _ _
    · intro u v
      (apply Touch.app (transferTables_touch ..); · decide)
      exact Touch.refl _ _
  · (apply Touch.app (modSlot_touch ..); · decide)
    apply Touch.foldl
    · exact Touch.refl _ _
    · intro u v
      (apply Touch.app (transferTables_touch ..); · decide)
      exact Touch.refl _ _

theorem crossBoundary_touch (s : State) (slot : ℕ) (succ : ℕ) :
    Touch [.ledger, .chans, .pebs, .bursts, .queues, .fabric] s (crossBoundary s slot succ) := by
  unfold crossBoundary
  dsimp only
  (apply Touch.app (trackPath_touch ..); · decide)
  (apply Touch.app (modBurst_touch ..); · decide)
  (apply Touch.app (dropSlices_touch ..); · decide)
  (apply Touch.app (flipLayers_touch ..); · decide)
  apply Touch.foldl
  · (apply Touch.app (transferDue_touch ..); · decide)
    apply Touch.ite
    · (apply Touch.app (phaseReset_touch ..); · decide)
      exact Touch.refl _ _
    · exact Touch.refl _ _
  · intro u v
    (apply Touch.app (stepCorrections_touch ..); · decide)
    exact Touch.refl _ _

theorem leaveBoundary_touch (s : State) (slot : ℕ) :
    Touch [.ledger, .chans, .pebs, .bursts, .queues, .fabric] s (leaveBoundary s slot) := by
  unfold leaveBoundary
  dsimp only
  split
  · exact Touch.refl _ _
  · apply Touch.ite
    · (apply Touch.app (idleBurst_touch ..); · decide)
      (apply Touch.app (modBurst_touch ..); · decide)
      exact Touch.refl _ _
    · (apply Touch.app (crossBoundary_touch ..); · decide)
      exact Touch.refl _ _

theorem pauseRecord_touch (s : State) (slot : ℕ) (type : ℕ) (b7 : ℕ) (n : ℕ) :
    Touch [.bursts, .queues] s (pauseRecord s slot type b7 n) := by
  unfold pauseRecord
  dsimp only
  (apply Touch.app (capAll_touch ..); · decide)
  exact Touch.refl _ _

theorem endHold_touch (s : State) (slot : ℕ) (b7 : ℕ) (n : ℕ) :
    Touch [.ledger, .chans, .pebs, .bursts, .queues, .fabric] s (endHold s slot b7 n) := by
  unfold endHold
  dsimp only
  (apply Touch.app (leaveBoundary_touch ..); · decide)
  (apply Touch.app (idleVectors_touch ..); · decide)
  (apply Touch.app (modBurst_touch ..); · decide)
  (apply Touch.app (pauseRecord_touch ..); · decide)
  exact Touch.refl _ _

theorem execStallEnd_touch (slot : ℕ) (vectors : ℕ) (s : State) :
    TouchOut [.ledger, .chans, .pebs, .bursts, .queues, .fabric] s (execStallEnd slot vectors s) := by
  unfold execStallEnd
  dsimp only
  split
  · apply TouchOut.ite
    · apply TouchOut.next
      (apply Touch.app (crossBoundary_touch ..); · decide)
      (apply Touch.app (idleVectors_touch ..); · decide)
      (apply Touch.app (modBurst_touch ..); · decide)
      (apply Touch.app (pauseRecord_touch ..); · decide)
      exact Touch.refl _ _
    · apply TouchOut.next
      exact Touch.refl _ _
  · apply TouchOut.next
    exact Touch.refl _ _

theorem requestPause_touch (s : State) (slot : ℕ) (throttle : Bool) :
    Touch [.bursts] s (requestPause s slot throttle) := by
  unfold requestPause
  (apply Touch.app (modBurst_touch ..); · decide)
  exact Touch.refl _ _

theorem issueBody_touch (s : State) (slot : ℕ) (ord : ℕ) (seg : ℕ) :
    Touch [.pebs, .bursts, .fabric] s (issueBody s slot ord seg) := by
  unfold issueBody
  dsimp only
  (apply Touch.app (issueGranules_touch ..); · decide)
  exact Touch.refl _ _

theorem selectAt_touch (s : State) (slot : ℕ) (j : ℕ) (d : SegDesc) :
    Touch [.pebs, .bursts, .fabric] s (selectAt s slot j d) := by
  unfold selectAt
  dsimp only
  (apply Touch.app (trackPath_touch ..); · decide)
  split
  · apply Touch.ite
    · (apply Touch.app (issueBody_touch ..); · decide)
      (apply Touch.app (dropSlices_touch ..); · decide)
      (apply Touch.app (modBurst_touch ..); · decide)
      exact Touch.refl _ _
    · (apply Touch.app (dropSlices_touch ..); · decide)
      (apply Touch.app (modBurst_touch ..); · decide)
      exact Touch.refl _ _
  · (apply Touch.app (dropSlices_touch ..); · decide)
    (apply Touch.app (modBurst_touch ..); · decide)
    exact Touch.refl _ _

theorem loadTables_touch (s : State) (img : List Byte) (p : ℕ) :
    Touch [.pebs] s (loadTables s img p) := by
  unfold loadTables
  apply Touch.ite
  · (apply Touch.app (modPeb_touch ..); · decide)
    exact Touch.refl _ _
  · exact Touch.refl _ _

theorem settleCorrections_touch (s : State) (p : ℕ) :
    Touch [.chans] s (settleCorrections s p) := by
  unfold settleCorrections
  refine Touch.set_chans (by decide) ?_
  exact Touch.refl _ _

theorem nextPin_touch (a0 : ℕ) (s : State) (a2 : ℕ) :
    Touch [.pebs, .bursts, .fabric] s (nextPin a0 s a2) := by
  induction a0 generalizing s a2 with
  | zero =>
    unfold nextPin
    exact Touch.refl _ _
  | succ n ih =>
    unfold nextPin
    dsimp only
    split
    · (apply Touch.app (trackPath_touch ..); · decide)
      (apply Touch.app (modBurst_touch ..); · decide)
      exact Touch.refl _ _
    · apply Touch.ite
      · apply Touch.ite
        · (apply Touch.app (sendFetch_touch ..); · decide)
          (apply Touch.app (modBurst_touch ..); · decide)
          exact Touch.refl _ _
        · exact Touch.refl _ _
      · apply Touch.trans (ih ..)
        (apply Touch.app (modBurst_touch ..); · decide)
        exact Touch.refl _ _

theorem settlePinsGo_touch (a0 : ℕ) (s : State) :
    Touch [.pebs, .bursts, .fabric] s (settlePinsGo a0 s) := by
  induction a0 generalizing s with
  | zero =>
    unfold settlePinsGo
    exact Touch.refl _ _
  | succ n ih =>
    unfold settlePinsGo
    dsimp only
    split
    · exact Touch.refl _ _
    · apply Touch.ite
      · exact Touch.refl _ _
      · apply Touch.ite
        · (apply Touch.app (nextPin_touch ..); · decide)
          exact Touch.refl _ _
        · apply Touch.trans (ih ..)
          (apply Touch.app (nextPin_touch ..); · decide)
          exact Touch.refl _ _

theorem settlePins_touch (s : State) :
    Touch [.pebs, .bursts, .fabric] s (settlePins s) := by
  unfold settlePins
  (apply Touch.app (settlePinsGo_touch ..); · decide)
  exact Touch.refl _ _

theorem startPins_touch (s : State) (p : ℕ) :
    Touch [.chans] s (startPins s p) := by
  unfold startPins
  refine Touch.set_chans (by decide) ?_
  exact Touch.refl _ _

theorem execBurstDispatch_touch (slot : ℕ) (s : State) :
    TouchOut [.dev, .ledger, .chans, .pebs, .bursts, .fabric] s (execBurstDispatch slot s) := by
  unfold execBurstDispatch
  dsimp only
  apply TouchOut.ite
  · apply TouchOut.ite
    · apply TouchOut.fault
    · apply TouchOut.next
      (apply Touch.app (settlePins_touch ..); · decide)
      apply Touch.foldl
      · refine Touch.set_bursts (by decide) ?_
        (apply Touch.app (takeItem_touch ..); · decide)
        exact Touch.refl _ _
      · intro u v
        (apply Touch.app (setPools_touch ..); · decide)
        (apply Touch.app (loadTables_touch ..); · decide)
        (apply Touch.app (settleCorrections_touch ..); · decide)
        (apply Touch.app (startPins_touch ..); · decide)
        (apply Touch.app (modPeb_touch ..); · decide)
        exact Touch.refl _ _
  · apply TouchOut.next
    exact Touch.refl _ _

theorem beginBurst_touch (s : State) (slot : ℕ) (t : Count) (fine : ℕ) :
    Touch [.ledger, .pebs, .bursts, .queues] s (beginBurst s slot t fine) := by
  unfold beginBurst
  dsimp only
  (apply Touch.app (flipLayers_touch ..); · decide)
  (apply Touch.app (capAll_touch ..); · decide)
  (apply Touch.app (modBurst_touch ..); · decide)
  (apply Touch.app (modSlot_touch ..); · decide)
  exact Touch.refl _ _

theorem execBurstStart_touch (slot : ℕ) (s : State) :
    TouchOut [.ledger, .pebs, .bursts, .queues] s (execBurstStart slot s) := by
  unfold execBurstStart
  dsimp only
  apply TouchOut.ite
  · apply TouchOut.ite
    · apply TouchOut.ite
      · apply TouchOut.ite
        · apply TouchOut.next
          (apply Touch.app (beginBurst_touch ..); · decide)
          (apply Touch.app (modSlot_touch ..); · decide)
          exact Touch.refl _ _
        · apply TouchOut.next
          (apply Touch.app (modBurst_touch ..); · decide)
          (apply Touch.app (modSlot_touch ..); · decide)
          exact Touch.refl _ _
      · apply TouchOut.next
        (apply Touch.app (modBurst_touch ..); · decide)
        (apply Touch.app (modSlot_touch ..); · decide)
        exact Touch.refl _ _
    · apply TouchOut.next
      (apply Touch.app (beginBurst_touch ..); · decide)
      exact Touch.refl _ _
  · apply TouchOut.next
    exact Touch.refl _ _

theorem execJunctionSamplingPoint_touch (slot : ℕ) (s : State) :
    TouchOut [.pebs, .bursts, .fabric] s (execJunctionSamplingPoint slot s) := by
  unfold execJunctionSamplingPoint
  dsimp only
  apply TouchOut.ite
  · split
    · apply TouchOut.next
      exact Touch.refl _ _
    · apply TouchOut.ite
      · apply TouchOut.next
        (apply Touch.app (selectAt_touch ..); · decide)
        exact Touch.refl _ _
      · apply TouchOut.next
        (apply Touch.app (trackPath_touch ..); · decide)
        (apply Touch.app (modBurst_touch ..); · decide)
        exact Touch.refl _ _
  · apply TouchOut.next
    exact Touch.refl _ _

theorem resumeBurst_touch (s : State) (slot : ℕ) :
    Touch [.ledger, .chans, .pebs, .bursts, .queues, .fabric] s (resumeBurst s slot) := by
  unfold resumeBurst
  dsimp only
  apply Touch.ite
  · (apply Touch.app (endHold_touch ..); · decide)
    (apply Touch.app (modSlot_touch ..); · decide)
    exact Touch.refl _ _
  · exact Touch.refl _ _

theorem dropFaulty_touch (s : State) (slot : ℕ) :
    Touch [.bursts] s (dropFaulty s slot) := by
  unfold dropFaulty
  dsimp only
  apply Touch.ite
  · exact Touch.refl _ _
  · (apply Touch.app (modBurst_touch ..); · decide)
    exact Touch.refl _ _

theorem clockRecord_touch (s : State) (slot : ℕ) :
    Touch [.bursts, .queues] s (clockRecord s slot) := by
  unfold clockRecord
  dsimp only
  apply Touch.ite
  · (apply Touch.app (capAll_touch ..); · decide)
    (apply Touch.app (flushJunction_touch ..); · decide)
    (apply Touch.app (closeRuns_touch ..); · decide)
    exact Touch.refl _ _
  · exact Touch.refl _ _

theorem requestJump_touch (s : State) (slot : ℕ) (cond : ℕ) :
    Touch [.bursts] s (requestJump s slot cond) := by
  unfold requestJump
  (apply Touch.app (modBurst_touch ..); · decide)
  exact Touch.refl _ _

theorem finishBurst_touch (s : State) (slot : ℕ) (reason : Option ℕ) (rest : ℕ → Rest) (extra : ℕ) :
    Touch [.dev, .units, .mbs, .ledger, .order, .chans, .pebs, .bursts, .queues, .fabric, .levee, .svc, .mem, .free] s (finishBurst s slot reason rest extra) := by
  unfold finishBurst
  dsimp only
  (apply Touch.app (endItem_touch ..); · decide)
  (apply Touch.app (settlePins_touch ..); · decide)
  refine Touch.set_bursts_fabric (by decide) (by decide) ?_
  apply Touch.foldl
  · (apply Touch.app (memWrite_touch ..); · decide)
    apply Touch.ite
    · apply Touch.foldl
      · apply Touch.ite
        · (apply Touch.app (capAll_touch ..); · decide)
          split
          · (apply Touch.app (modBurst_touch ..); · decide)
            (apply Touch.app (transferDue_touch ..); · decide)
            (apply Touch.app (flushJunction_touch ..); · decide)
            (apply Touch.app (closeRuns_touch ..); · decide)
            exact Touch.refl _ _
          · (apply Touch.app (modBurst_touch ..); · decide)
            (apply Touch.app (transferDue_touch ..); · decide)
            (apply Touch.app (flushJunction_touch ..); · decide)
            (apply Touch.app (closeRuns_touch ..); · decide)
            exact Touch.refl _ _
          · (apply Touch.app (transferDue_touch ..); · decide)
            (apply Touch.app (flushJunction_touch ..); · decide)
            (apply Touch.app (closeRuns_touch ..); · decide)
            exact Touch.refl _ _
        · split
          · (apply Touch.app (modBurst_touch ..); · decide)
            (apply Touch.app (transferDue_touch ..); · decide)
            (apply Touch.app (flushJunction_touch ..); · decide)
            (apply Touch.app (closeRuns_touch ..); · decide)
            exact Touch.refl _ _
          · (apply Touch.app (modBurst_touch ..); · decide)
            (apply Touch.app (transferDue_touch ..); · decide)
            (apply Touch.app (flushJunction_touch ..); · decide)
            (apply Touch.app (closeRuns_touch ..); · decide)
            exact Touch.refl _ _
          · (apply Touch.app (transferDue_touch ..); · decide)
            (apply Touch.app (flushJunction_touch ..); · decide)
            (apply Touch.app (closeRuns_touch ..); · decide)
            exact Touch.refl _ _
      · intro u v
        (apply Touch.app (modQueue_touch ..); · decide)
        exact Touch.refl _ _
    · apply Touch.ite
      · (apply Touch.app (capAll_touch ..); · decide)
        split
        · (apply Touch.app (modBurst_touch ..); · decide)
          (apply Touch.app (transferDue_touch ..); · decide)
          (apply Touch.app (flushJunction_touch ..); · decide)
          (apply Touch.app (closeRuns_touch ..); · decide)
          exact Touch.refl _ _
        · (apply Touch.app (modBurst_touch ..); · decide)
          (apply Touch.app (transferDue_touch ..); · decide)
          (apply Touch.app (flushJunction_touch ..); · decide)
          (apply Touch.app (closeRuns_touch ..); · decide)
          exact Touch.refl _ _
        · (apply Touch.app (transferDue_touch ..); · decide)
          (apply Touch.app (flushJunction_touch ..); · decide)
          (apply Touch.app (closeRuns_touch ..); · decide)
          exact Touch.refl _ _
      · split
        · (apply Touch.app (modBurst_touch ..); · decide)
          (apply Touch.app (transferDue_touch ..); · decide)
          (apply Touch.app (flushJunction_touch ..); · decide)
          (apply Touch.app (closeRuns_touch ..); · decide)
          exact Touch.refl _ _
        · (apply Touch.app (modBurst_touch ..); · decide)
          (apply Touch.app (transferDue_touch ..); · decide)
          (apply Touch.app (flushJunction_touch ..); · decide)
          (apply Touch.app (closeRuns_touch ..); · decide)
          exact Touch.refl _ _
        · (apply Touch.app (transferDue_touch ..); · decide)
          (apply Touch.app (flushJunction_touch ..); · decide)
          (apply Touch.app (closeRuns_touch ..); · decide)
          exact Touch.refl _ _
  · intro u v
    (apply Touch.app (restPeb_touch ..); · decide)
    exact Touch.refl _ _

theorem execSegmentFetchIssue_touch (slot : ℕ) (ord : ℕ) (seg : ℕ) (s : State) :
    TouchOut [.pebs, .bursts, .fabric] s (execSegmentFetchIssue slot ord seg s) := by
  unfold execSegmentFetchIssue
  dsimp only
  apply TouchOut.ite
  · apply TouchOut.next
    (apply Touch.app (issueBody_touch ..); · decide)
    exact Touch.refl _ _
  · apply TouchOut.next
    exact Touch.refl _ _

theorem execUnderrun_touch (slot : ℕ) (s : State) :
    TouchOut [.ledger, .bursts, .queues] s (execUnderrun slot s) := by
  unfold execUnderrun
  dsimp only
  apply TouchOut.ite
  · apply TouchOut.next
    (apply Touch.app (applyUnderrun_touch ..); · decide)
    exact Touch.refl _ _
  · apply TouchOut.next
    exact Touch.refl _ _

theorem execFetchResident_touch (slot : ℕ) (key : Slice) (rem : Remote) (s : State) :
    TouchOut [.pebs, .bursts, .fabric] s (execFetchResident slot key rem s) := by
  unfold execFetchResident
  dsimp only
  apply TouchOut.ite
  · split
    · apply TouchOut.next
      (apply Touch.app (modBurst_touch ..); · decide)
      (apply Touch.app (modBurst_touch ..); · decide)
      exact Touch.refl _ _
    · split
      · apply TouchOut.fault
      · split
        · apply TouchOut.next
          (apply Touch.app (settlePins_touch ..); · decide)
          (apply Touch.app (modBurst_touch ..); · decide)
          (apply Touch.app (modBurst_touch ..); · decide)
          exact Touch.refl _ _
        · apply TouchOut.next
          apply Touch.ite
          · (apply Touch.app (issueBody_touch ..); · decide)
            (apply Touch.app (modBurst_touch ..); · decide)
            (apply Touch.app (modBurst_touch ..); · decide)
            exact Touch.refl _ _
          · (apply Touch.app (modBurst_touch ..); · decide)
            (apply Touch.app (modBurst_touch ..); · decide)
            exact Touch.refl _ _
        · apply TouchOut.next
          (apply Touch.app (trackPath_touch ..); · decide)
          (apply Touch.app (modBurst_touch ..); · decide)
          (apply Touch.app (modBurst_touch ..); · decide)
          exact Touch.refl _ _
  · apply TouchOut.next
    exact Touch.refl _ _

theorem abortBurst_touch (s : State) (slot : ℕ) (reason : ℕ) :
    Touch [.dev, .units, .mbs, .ledger, .order, .chans, .pebs, .bursts, .queues, .fabric, .levee, .svc, .mem, .free] s (abortBurst s slot reason) := by
  unfold abortBurst
  apply Touch.ite
  · (apply Touch.app (modSlot_touch ..); · decide)
    exact Touch.refl _ _
  · (apply Touch.app (finishBurst_touch ..); · decide)
    exact Touch.refl _ _

theorem uncountLast_touch (s : State) (slot : ℕ) :
    Touch [.bursts] s (uncountLast s slot) := by
  unfold uncountLast
  dsimp only
  (apply Touch.app (modBurst_touch ..); · decide)
  exact Touch.refl _ _

theorem execLayerPageRelease_touch (peb : ℕ) (layer : ℕ) (page : ℕ) (s : State) :
    TouchOut [.pebs] s (execLayerPageRelease peb layer page s) := by
  unfold execLayerPageRelease
  dsimp only
  split
  · apply TouchOut.next
    (apply Touch.app (modLayer_touch ..); · decide)
    exact Touch.refl _ _
  · apply TouchOut.ite
    · apply TouchOut.ite
      · apply TouchOut.next
        (apply Touch.app (modLayer_touch ..); · decide)
        exact Touch.refl _ _
      · apply TouchOut.next
        (apply Touch.app (modLayer_touch ..); · decide)
        exact Touch.refl _ _
    · apply TouchOut.next
      exact Touch.refl _ _

theorem enterHold_touch (s : State) (slot : ℕ) :
    Touch [.dev, .mbs, .ledger, .chans, .bursts, .fabric] s (enterHold s slot) := by
  unfold enterHold
  dsimp only
  (apply Touch.app (settleMode_touch ..); · decide)
  (apply Touch.app (modSlot_touch ..); · decide)
  (apply Touch.app (idleBurst_touch ..); · decide)
  (apply Touch.app (modBurst_touch ..); · decide)
  exact Touch.refl _ _

theorem execBurstSegmentBoundary_touch (slot : ℕ) (s : State) :
    TouchOut [.dev, .units, .mbs, .ledger, .order, .chans, .pebs, .bursts, .queues, .fabric, .levee, .svc, .mem, .free] s (execBurstSegmentBoundary slot s) := by
  unfold execBurstSegmentBoundary
  dsimp only
  apply TouchOut.ite
  · apply TouchOut.ite
    · apply TouchOut.next
      (apply Touch.app (finishBurst_touch ..); · decide)
      (apply Touch.app (mergeSegment_touch ..); · decide)
      (apply Touch.app (closeRuns_touch ..); · decide)
      apply Touch.ite
      · (apply Touch.app (markUnderrun_touch ..); · decide)
        (apply Touch.app (uncountLast_touch ..); · decide)
        exact Touch.refl _ _
      · exact Touch.refl _ _
    · split
      · apply TouchOut.ite
        · apply TouchOut.next
          (apply Touch.app (finishBurst_touch ..); · decide)
          (apply Touch.app (flushJunction_touch ..); · decide)
          (apply Touch.app (modSlot_touch ..); · decide)
          (apply Touch.app (mergeSegment_touch ..); · decide)
          (apply Touch.app (dropFaulty_touch ..); · decide)
          (apply Touch.app (closeRuns_touch ..); · decide)
          apply Touch.ite
          · (apply Touch.app (markUnderrun_touch ..); · decide)
            (apply Touch.app (uncountLast_touch ..); · decide)
            exact Touch.refl _ _
          · exact Touch.refl _ _
        · apply TouchOut.ite
          · apply TouchOut.next
            (apply Touch.app (finishBurst_touch ..); · decide)
            (apply Touch.app (flushJunction_touch ..); · decide)
            (apply Touch.app (modSlot_touch ..); · decide)
            (apply Touch.app (mergeSegment_touch ..); · decide)
            (apply Touch.app (dropFaulty_touch ..); · decide)
            (apply Touch.app (closeRuns_touch ..); · decide)
            apply Touch.ite
            · (apply Touch.app (markUnderrun_touch ..); · decide)
              (apply Touch.app (uncountLast_touch ..); · decide)
              exact Touch.refl _ _
            · exact Touch.refl _ _
          · apply TouchOut.next
            (apply Touch.app (finishBurst_touch ..); · decide)
            (apply Touch.app (flushJunction_touch ..); · decide)
            (apply Touch.app (modSlot_touch ..); · decide)
            (apply Touch.app (mergeSegment_touch ..); · decide)
            (apply Touch.app (dropFaulty_touch ..); · decide)
            (apply Touch.app (closeRuns_touch ..); · decide)
            apply Touch.ite
            · (apply Touch.app (markUnderrun_touch ..); · decide)
              (apply Touch.app (uncountLast_touch ..); · decide)
              exact Touch.refl _ _
            · exact Touch.refl _ _
      · apply TouchOut.ite
        · apply TouchOut.next
          (apply Touch.app (finishBurst_touch ..); · decide)
          (apply Touch.app (flushJunction_touch ..); · decide)
          (apply Touch.app (modSlot_touch ..); · decide)
          (apply Touch.app (mergeSegment_touch ..); · decide)
          (apply Touch.app (dropFaulty_touch ..); · decide)
          (apply Touch.app (closeRuns_touch ..); · decide)
          apply Touch.ite
          · (apply Touch.app (markUnderrun_touch ..); · decide)
            (apply Touch.app (uncountLast_touch ..); · decide)
            exact Touch.refl _ _
          · exact Touch.refl _ _
        · apply TouchOut.ite
          · apply TouchOut.next
            (apply Touch.app (enterHold_touch ..); · decide)
            (apply Touch.app (flushJunction_touch ..); · decide)
            (apply Touch.app (modSlot_touch ..); · decide)
            (apply Touch.app (mergeSegment_touch ..); · decide)
            (apply Touch.app (dropFaulty_touch ..); · decide)
            (apply Touch.app (closeRuns_touch ..); · decide)
            apply Touch.ite
            · (apply Touch.app (markUnderrun_touch ..); · decide)
              (apply Touch.app (uncountLast_touch ..); · decide)
              exact Touch.refl _ _
            · exact Touch.refl _ _
          · apply TouchOut.next
            (apply Touch.app (leaveBoundary_touch ..); · decide)
            (apply Touch.app (flushJunction_touch ..); · decide)
            (apply Touch.app (modSlot_touch ..); · decide)
            (apply Touch.app (mergeSegment_touch ..); · decide)
            (apply Touch.app (dropFaulty_touch ..); · decide)
            (apply Touch.app (closeRuns_touch ..); · decide)
            apply Touch.ite
            · (apply Touch.app (markUnderrun_touch ..); · decide)
              (apply Touch.app (uncountLast_touch ..); · decide)
              exact Touch.refl _ _
            · exact Touch.refl _ _
  · apply TouchOut.next
    exact Touch.refl _ _

theorem execStreamingRoomFreed_touch (slot : ℕ) (s : State) :
    TouchOut [.pebs, .bursts, .fabric] s (execStreamingRoomFreed slot s) := by
  unfold execStreamingRoomFreed
  apply TouchOut.next
  (apply Touch.app (settlePins_touch ..); · decide)
  (apply Touch.app (admitWaiting_touch ..); · decide)
  exact Touch.refl _ _

theorem requestCommit_touch (s : State) (slot : ℕ) (pebs : BitVec 12) :
    Touch [.bursts] s (requestCommit s slot pebs) := by
  unfold requestCommit
  dsimp only
  (apply Touch.app (modBurst_touch ..); · decide)
  exact Touch.refl _ _

theorem execPinBodyAbandoned_touch (slot : ℕ) (seg : ℕ) (s : State) :
    TouchOut [.pebs, .bursts, .fabric] s (execPinBodyAbandoned slot seg s) := by
  unfold execPinBodyAbandoned
  dsimp only
  apply TouchOut.ite
  · apply TouchOut.next
    (apply Touch.app (settlePins_touch ..); · decide)
    (apply Touch.app (modBurst_touch ..); · decide)
    (apply Touch.app (dropSlices_touch ..); · decide)
    exact Touch.refl _ _
  · apply TouchOut.next
    exact Touch.refl _ _

theorem execThrottleHoldEnd_touch (slot : ℕ) (vectors : ℕ) (s : State) :
    TouchOut [.ledger, .chans, .pebs, .bursts, .queues, .fabric] s (execThrottleHoldEnd slot vectors s) := by
  unfold execThrottleHoldEnd
  apply TouchOut.ite
  · apply TouchOut.next
    (apply Touch.app (endHold_touch ..); · decide)
    exact Touch.refl _ _
  · apply TouchOut.next
    exact Touch.refl _ _

end Sys2Proof.Machine
end

