-- ==== Sys2Proof/Laws/Press.lean ====
section
/-! SUPPORT. What each function of Machine/Press.lean may touch. -/

namespace Sys2Proof.Machine

theorem applyCorr_touch (s : State) (e : ℕ × ℕ × ℤ) :
    Touch [.corrs, .chans, .tdcW, .tdcLat, .press] s (applyCorr s e) := by
  unfold applyCorr
  dsimp only
  apply Touch.ite
  · refine Touch.set_corrs (by decide) ?_
    exact Touch.refl _ _
  · apply Touch.ite
    · (apply Touch.app (modChan_touch ..); · decide)
      exact Touch.refl _ _
    · apply Touch.ite
      · (apply Touch.app (modChan_touch ..); · decide)
        exact Touch.refl _ _
      · apply Touch.ite
        · apply Touch.ite
          · refine Touch.set_tdcW (by decide) ?_
            exact Touch.refl _ _
          · refine Touch.set_tdcLat (by decide) ?_
            exact Touch.refl _ _
        · refine Touch.set_press (by decide) ?_
          exact Touch.refl _ _

theorem restorePeb_touch (s : State) (p : ℕ) :
    Touch [.chans] s (restorePeb s p) := by
  unfold restorePeb
  refine Touch.set_chans (by decide) ?_
  exact Touch.refl _ _

theorem freePress_touch (s : State) :
    Touch [.press] s (freePress s) := by
  unfold freePress
  dsimp only
  refine Touch.set_press (by decide) ?_
  exact Touch.refl _ _

theorem quietPeb_touch (s : State) (p : ℕ) :
    Touch [.chans] s (quietPeb s p) := by
  unfold quietPeb
  refine Touch.set_chans (by decide) ?_
  exact Touch.refl _ _

theorem enterMaintenance_touch (s : State) (a1 : ℕ) (byHost : Bool) :
    Touch [.units, .mbs, .chans, .fabric, .svc, .free] s (enterMaintenance s a1 byHost) := by
  unfold enterMaintenance
  dsimp only
  apply Touch.ite
  · (apply Touch.app (quietPeb_touch ..); · decide)
    (apply Touch.app (modUnit_touch ..); · decide)
    apply Touch.ite
    · exact Touch.refl _ _
    · (apply Touch.app (setUnit_touch ..); · decide)
      exact Touch.refl _ _
  · (apply Touch.app (modUnit_touch ..); · decide)
    apply Touch.ite
    · exact Touch.refl _ _
    · (apply Touch.app (setUnit_touch ..); · decide)
      exact Touch.refl _ _

theorem releaseOther_touch (s : State) (a1 : ℕ) :
    Touch [.units, .mbs, .chans, .fabric, .svc, .free] s (releaseOther s a1) := by
  unfold releaseOther
  apply Touch.ite
  · (apply Touch.app (restorePeb_touch ..); · decide)
    (apply Touch.app (setUnit_touch ..); · decide)
    exact Touch.refl _ _
  · exact Touch.refl _ _

theorem releaseOwn_touch (s : State) (a1 : ℕ) (dst : UState) :
    Touch [.units, .mbs, .chans, .fabric, .svc, .free] s (releaseOwn s a1 dst) := by
  unfold releaseOwn
  dsimp only
  split
  · (apply Touch.app (modUnit_touch ..); · decide)
    exact Touch.refl _ _
  · apply Touch.ite
    · (apply Touch.app (restorePeb_touch ..); · decide)
      (apply Touch.app (modUnit_touch ..); · decide)
      (apply Touch.app (setUnit_touch ..); · decide)
      exact Touch.refl _ _
    · (apply Touch.app (modUnit_touch ..); · decide)
      (apply Touch.app (setUnit_touch ..); · decide)
      exact Touch.refl _ _

theorem failCal_touch (s : State) (slot : ℕ) (reason : ℕ) (dst : UState) (extra : ℕ) :
    Touch [.dev, .units, .mbs, .ledger, .order, .chans, .fabric, .press, .svc, .free] s (failCal s slot reason dst extra) := by
  unfold failCal
  dsimp only
  (apply Touch.app (endItem_touch ..); · decide)
  apply Touch.ite
  · (apply Touch.app (modUnit_touch ..); · decide)
    (apply Touch.app (releaseOwn_touch ..); · decide)
    (apply Touch.app (freePress_touch ..); · decide)
    apply Touch.foldl
    · exact Touch.refl _ _
    · intro u v
      (apply Touch.app (releaseOther_touch ..); · decide)
      exact Touch.refl _ _
  · (apply Touch.app (releaseOwn_touch ..); · decide)
    (apply Touch.app (freePress_touch ..); · decide)
    apply Touch.foldl
    · exact Touch.refl _ _
    · intro u v
      (apply Touch.app (releaseOther_touch ..); · decide)
      exact Touch.refl _ _

end Sys2Proof.Machine
end

