-- ==== Sys2Proof/Laws/TdcCh.lean ====
section
/-! SUPPORT. What each function of Machine/TdcCh.lean may touch. -/

namespace Sys2Proof.Machine

theorem finishTdc_touch (s : State) (slot : ℕ) (reason : Option ℕ) (extra : ℕ) :
    Touch [.dev, .units, .mbs, .ledger, .order, .tdcs, .queues, .fabric, .levee, .svc, .mem, .free] s (finishTdc s slot reason extra) := by
  unfold finishTdc
  dsimp only
  (apply Touch.app (endItem_touch ..); · decide)
  refine Touch.set_tdcs (by decide) ?_
  apply Touch.ite
  · (apply Touch.app (modQueue_touch ..); · decide)
    apply Touch.ite
    · (apply Touch.app (memWrite_touch ..); · decide)
      exact Touch.refl _ _
    · exact Touch.refl _ _
  · apply Touch.ite
    · (apply Touch.app (memWrite_touch ..); · decide)
      exact Touch.refl _ _
    · exact Touch.refl _ _

theorem modTdc_touch (s : State) (t : ℕ) (f : Tdc → Tdc) :
    Touch [.tdcs] s (modTdc s t f) := by
  unfold modTdc
  refine Touch.set_tdcs (by decide) ?_
  exact Touch.refl _ _

theorem endMeasurement_touch (s : State) (slot : ℕ) (t : ℕ) (k : ℕ) (a4 : ℤ) (a5 : ℤ) :
    Touch [.dev, .units, .mbs, .ledger, .order, .tdcs, .queues, .fabric, .levee, .svc, .mem, .free] s (endMeasurement s slot t k a4 a5) := by
  unfold endMeasurement
  dsimp only
  apply Touch.ite
  · (apply Touch.app (finishTdc_touch ..); · decide)
    (apply Touch.app (modSlot_touch ..); · decide)
    (apply Touch.app (modTdc_touch ..); · decide)
    (apply Touch.app (queueWrite_touch ..); · decide)
    exact Touch.refl _ _
  · (apply Touch.app (modSlot_touch ..); · decide)
    (apply Touch.app (modTdc_touch ..); · decide)
    (apply Touch.app (queueWrite_touch ..); · decide)
    exact Touch.refl _ _

theorem execTdcEdge_touch (tdc : ℕ) (stop : Bool) (sampled : EdgeAt) (near : Bool) (s : State) :
    TouchOut [.dev, .units, .mbs, .ledger, .order, .tdcs, .queues, .fabric, .levee, .svc, .mem, .free] s (execTdcEdge tdc stop sampled near s) := by
  unfold execTdcEdge
  dsimp only
  apply TouchOut.ite
  · apply TouchOut.next
    exact Touch.refl _ _
  · split
    · apply TouchOut.next
      (apply Touch.app (modTdc_touch ..); · decide)
      exact Touch.refl _ _
    · apply TouchOut.next
      (apply Touch.app (modTdc_touch ..); · decide)
      (apply Touch.app (modTdc_touch ..); · decide)
      exact Touch.refl _ _
    · split
      · apply TouchOut.next
        (apply Touch.app (endMeasurement_touch ..); · decide)
        (apply Touch.app (modTdc_touch ..); · decide)
        (apply Touch.app (modTdc_touch ..); · decide)
        exact Touch.refl _ _
      · apply TouchOut.next
        (apply Touch.app (modTdc_touch ..); · decide)
        (apply Touch.app (modTdc_touch ..); · decide)
        exact Touch.refl _ _
    · apply TouchOut.next
      (apply Touch.app (modTdc_touch ..); · decide)
      exact Touch.refl _ _

theorem stepTdcs_touch (s : State) :
    Touch [.tdcs] s (stepTdcs s) := by
  unfold stepTdcs
  refine Touch.set_tdcs (by decide) ?_
  exact Touch.refl _ _

theorem claimTdcs_touch (s : State) (slot : ℕ) :
    Touch [.tdcs] s (claimTdcs s slot) := by
  unfold claimTdcs
  dsimp only
  refine Touch.set_tdcs (by decide) ?_
  exact Touch.refl _ _

theorem clearMarks_touch (s : State) :
    Touch [.tdcs] s (clearMarks s) := by
  unfold clearMarks
  refine Touch.set_tdcs (by decide) ?_
  exact Touch.refl _ _

theorem startTdc_touch (s : State) (slot : ℕ) :
    Touch [.tdcs] s (startTdc s slot) := by
  unfold startTdc
  refine Touch.set_tdcs (by decide) ?_
  exact Touch.refl _ _

theorem execTdcDispatch_touch (slot : ℕ) (s : State) :
    TouchOut [.dev, .ledger, .tdcs] s (execTdcDispatch slot s) := by
  unfold execTdcDispatch
  dsimp only
  apply TouchOut.ite
  · apply TouchOut.next
    apply Touch.ite
    · (apply Touch.app (startTdc_touch ..); · decide)
      (apply Touch.app (armItem_touch ..); · decide)
      (apply Touch.app (claimTdcs_touch ..); · decide)
      (apply Touch.app (takeItem_touch ..); · decide)
      exact Touch.refl _ _
    · (apply Touch.app (armItem_touch ..); · decide)
      (apply Touch.app (claimTdcs_touch ..); · decide)
      (apply Touch.app (takeItem_touch ..); · decide)
      exact Touch.refl _ _
  · apply TouchOut.next
    exact Touch.refl _ _

end Sys2Proof.Machine
end

