-- ==== Sys2Proof/Laws/Stops.lean ====
section
/-! SUPPORT. What each function of Machine/Stops.lean may touch. -/

namespace Sys2Proof.Machine

theorem askMeasure_touch (s : State) (slot : ℕ) (reason : ℕ) :
    Touch [.dev, .units, .mbs, .ledger, .order, .seqs, .fabric, .svc] s (askMeasure s slot reason) := by
  unfold askMeasure
  apply Touch.ite
  · (apply Touch.app (requestMeasure_touch ..); · decide)
    exact Touch.refl _ _
  · (apply Touch.app (endItem_touch ..); · decide)
    exact Touch.refl _ _

theorem closePort_touch (s : State) (p : ℕ) :
    Touch [.mbs, .fabric, .svc, .free] s (closePort s p) := by
  unfold closePort
  dsimp only
  (apply Touch.app (unitNotice_touch ..); · decide)
  (apply Touch.app (modPort_touch ..); · decide)
  exact Touch.refl _ _

theorem cutTransfer_touch (s : State) (slot : ℕ) (reason : ℕ) (extra : ℕ) :
    Touch [.dev, .units, .mbs, .ledger, .order, .queues, .dmas, .fabric, .svc] s (cutTransfer s slot reason extra) := by
  unfold cutTransfer
  (apply Touch.app (endItem_touch ..); · decide)
  (apply Touch.app (stopDma_touch ..); · decide)
  exact Touch.refl _ _

theorem endNow_touch (s : State) (slot : ℕ) (reason : ℕ) (extra : ℕ) (rest : ℕ → Rest) (dst : UState) :
    Touch [.dev, .units, .mbs, .ledger, .order, .dacs, .chans, .pebs, .bursts, .seqs, .tdcs, .acqs, .dps, .resvs, .lanes, .queues, .dmas, .fabric, .press, .levee, .svc, .mem, .free] s (endNow s slot reason extra rest dst) := by
  unfold endNow
  dsimp only
  split
  · (apply Touch.app (finishBurst_touch ..); · decide)
    exact Touch.refl _ _
  · apply Touch.ite
    · (apply Touch.app (stopMeasure_touch ..); · decide)
      exact Touch.refl _ _
    · (apply Touch.app (endItem_touch ..); · decide)
      exact Touch.refl _ _
  · (apply Touch.app (finishTdc_touch ..); · decide)
    exact Touch.refl _ _
  · (apply Touch.app (finishAcquire_touch ..); · decide)
    exact Touch.refl _ _
  · (apply Touch.app (cutTransfer_touch ..); · decide)
    exact Touch.refl _ _
  · (apply Touch.app (failCal_touch ..); · decide)
    exact Touch.refl _ _
  · (apply Touch.app (endItem_touch ..); · decide)
    exact Touch.refl _ _
  · apply Touch.ite
    · refine Touch.set_dps (by decide) ?_
      (apply Touch.app (finishDps_touch ..); · decide)
      exact Touch.refl _ _
    · (apply Touch.app (finishDps_touch ..); · decide)
      exact Touch.refl _ _
  · (apply Touch.app (finishLane_touch ..); · decide)
    exact Touch.refl _ _
  · exact Touch.refl _ _

theorem endAway_touch (s : State) (slot : ℕ) (reason : ℕ) (extra : ℕ) (rest : ℕ → Rest) (dst : UState) :
    Touch [.dev, .units, .mbs, .ledger, .order, .dacs, .chans, .pebs, .bursts, .seqs, .tdcs, .acqs, .dps, .resvs, .lanes, .queues, .dmas, .fabric, .press, .levee, .svc, .mem, .free] s (endAway s slot reason extra rest dst) := by
  unfold endAway
  apply Touch.ite
  · (apply Touch.app (detachMeasure_touch ..); · decide)
    exact Touch.refl _ _
  · (apply Touch.app (endNow_touch ..); · decide)
    exact Touch.refl _ _

theorem endQueued_touch (s : State) (slot : ℕ) (reason : ℕ) (extra : ℕ) :
    Touch [.dev, .units, .mbs, .ledger, .order, .fabric, .svc, .free] s (endQueued s slot reason extra) := by
  unfold endQueued
  dsimp only
  apply Touch.ite
  · (apply Touch.app (endItem_touch ..); · decide)
    (apply Touch.app (dpsResult_touch ..); · decide)
    exact Touch.refl _ _
  · (apply Touch.app (endItem_touch ..); · decide)
    exact Touch.refl _ _

theorem safeItem_touch (s : State) (slot : ℕ) :
    Touch [.dev, .units, .mbs, .ledger, .order, .dacs, .chans, .pebs, .bursts, .seqs, .tdcs, .acqs, .dps, .resvs, .lanes, .queues, .dmas, .fabric, .press, .levee, .svc, .mem, .free] s (safeItem s slot) := by
  unfold safeItem
  dsimp only
  apply Touch.ite
  · (apply Touch.app (endQueued_touch ..); · decide)
    exact Touch.refl _ _
  · apply Touch.ite
    · (apply Touch.app (endAway_touch ..); · decide)
      exact Touch.refl _ _
    · exact Touch.refl _ _

theorem markCause_touch (s : State) (slot : ℕ) (reason : ℕ) :
    Touch [.ledger] s (markCause s slot reason) := by
  unfold markCause
  (apply Touch.app (modSlot_touch ..); · decide)
  exact Touch.refl _ _

theorem faultBurst_touch (s : State) (a1 : ℕ) (slot : ℕ) :
    Touch [.dev, .units, .mbs, .ledger, .order, .chans, .pebs, .bursts, .queues, .fabric, .levee, .svc, .mem, .free] s (faultBurst s a1 slot) := by
  unfold faultBurst
  dsimp only
  apply Touch.ite
  · (apply Touch.app (finishBurst_touch ..); · decide)
    (apply Touch.app (modBurst_touch ..); · decide)
    exact Touch.refl _ _
  · (apply Touch.app (abortBurst_touch ..); · decide)
    (apply Touch.app (modBurst_touch ..); · decide)
    exact Touch.refl _ _

theorem faultItem_touch (s : State) (a1 : ℕ) (slot : ℕ) :
    Touch [.dev, .units, .mbs, .ledger, .order, .dacs, .chans, .pebs, .bursts, .seqs, .tdcs, .acqs, .dps, .resvs, .lanes, .queues, .dmas, .fabric, .press, .levee, .svc, .mem, .free] s (faultItem s a1 slot) := by
  unfold faultItem
  dsimp only
  split
  · apply Touch.ite
    · (apply Touch.app (endNow_touch ..); · decide)
      exact Touch.refl _ _
    · (apply Touch.app (askMeasure_touch ..); · decide)
      exact Touch.refl _ _
  · (apply Touch.app (faultBurst_touch ..); · decide)
    exact Touch.refl _ _
  · apply Touch.ite
    · (apply Touch.app (failCal_touch ..); · decide)
      exact Touch.refl _ _
    · (apply Touch.app (failCal_touch ..); · decide)
      apply Touch.ite
      · (apply Touch.app (setUnit_touch ..); · decide)
        exact Touch.refl _ _
      · exact Touch.refl _ _
  · (apply Touch.app (endNow_touch ..); · decide)
    exact Touch.refl _ _

theorem safeOutputs_touch (s : State) :
    Touch [.chans, .pebs, .dps, .lanes] s (safeOutputs s) := by
  unfold safeOutputs
  apply Touch.foldl
  · refine Touch.set_chans_pebs_lanes (by decide) (by decide) (by decide) ?_
    exact Touch.refl _ _
  · intro u v
    (apply Touch.app (dischargeGroup_touch ..); · decide)
    exact Touch.refl _ _

theorem settleMeasure_touch (s : State) :
    Touch [.hw, .mbs, .fabric, .levee, .mem, .free] s (settleMeasure s) := by
  unfold settleMeasure
  dsimp only
  apply Touch.ite
  · exact Touch.refl _ _
  · split
    · (apply Touch.app (answerOwed_touch ..); · decide)
      apply Touch.foldl
      · refine Touch.set_hw_fabric (by decide) (by decide) ?_
        exact Touch.refl _ _
      · intro u v
        (apply Touch.app (memWrite_touch ..); · decide)
        exact Touch.refl _ _
    · refine Touch.set_hw_fabric (by decide) (by decide) ?_
      exact Touch.refl _ _

theorem closeFord_touch (s : State) :
    Touch [.power, .hw, .mbs, .fabric, .levee, .svc, .mem, .free] s (closeFord s) := by
  unfold closeFord
  dsimp only
  apply Touch.ite
  · exact Touch.refl _ _
  · apply Touch.ite
    · (apply Touch.app (answerOwed_touch ..); · decide)
      (apply Touch.app (settleMeasure_touch ..); · decide)
      apply Touch.foldl
      · refine Touch.set_power (by decide) ?_
        exact Touch.refl _ _
      · intro u v
        (apply Touch.app (closePort_touch ..); · decide)
        exact Touch.refl _ _
    · (apply Touch.app (settleMeasure_touch ..); · decide)
      apply Touch.foldl
      · refine Touch.set_power (by decide) ?_
        exact Touch.refl _ _
      · intro u v
        (apply Touch.app (closePort_touch ..); · decide)
        exact Touch.refl _ _

theorem openFordWith_touch (s : State) (f : PortState → PortState) :
    Touch [.power, .clock, .hw, .mbs, .fabric, .svc, .free] s (openFordWith s f) := by
  unfold openFordWith
  dsimp only
  apply Touch.ite
  · apply Touch.ite
    · refine Touch.trans (changeClock_touch (by decide) (by decide) (by decide) (by decide) (by decide) (h := ?_) ..) ?_
      · intro t0
        refine Touch.set_clock (by decide) ?_
        exact Touch.refl _ _
      · apply Touch.foldl
        · refine Touch.set_power (by decide) ?_
          exact Touch.refl _ _
        · intro u v
          (apply Touch.app (changePort_touch ..); · decide)
          exact Touch.refl _ _
    · apply Touch.foldl
      · refine Touch.set_power (by decide) ?_
        exact Touch.refl _ _
      · intro u v
        (apply Touch.app (changePort_touch ..); · decide)
        exact Touch.refl _ _
  · exact Touch.refl _ _

theorem unitsOffline_touch (s : State) :
    Touch [.units, .mbs, .fabric, .svc, .free] s (unitsOffline s) := by
  unfold unitsOffline
  apply Touch.foldl
  · exact Touch.refl _ _
  · intro u v
    (apply Touch.app (modUnit_touch ..); · decide)
    (apply Touch.app (setUnit_touch ..); · decide)
    exact Touch.refl _ _

theorem refuseWaiting_touch (s : State) (ops : List ℕ) (mode : ℕ) :
    Touch [.mbs, .fabric] s (refuseWaiting s ops mode) := by
  unfold refuseWaiting
  apply Touch.foldl
  · exact Touch.refl _ _
  · intro u v
    (apply Touch.app (answerEvery_touch ..); · decide)
    exact Touch.refl _ _

theorem clockPins_touch (s : State) :
    Touch [.chans, .pebs] s (clockPins s) := by
  unfold clockPins
  dsimp only
  apply Touch.foldl
  · exact Touch.refl _ _
  · intro u v
    (apply Touch.app (modPeb_touch ..); · decide)
    refine Touch.set_chans (by decide) ?_
    exact Touch.refl _ _

theorem bypassItem_touch (s : State) (slot : ℕ) :
    Touch [.dev, .units, .mbs, .ledger, .order, .dacs, .chans, .pebs, .bursts, .seqs, .tdcs, .acqs, .dps, .resvs, .lanes, .queues, .dmas, .fabric, .press, .levee, .svc, .mem, .free] s (bypassItem s slot) := by
  unfold bypassItem
  dsimp only
  apply Touch.ite
  · (apply Touch.app (endQueued_touch ..); · decide)
    exact Touch.refl _ _
  · apply Touch.ite
    · (apply Touch.app (modSlot_touch ..); · decide)
      (apply Touch.app (markCause_touch ..); · decide)
      exact Touch.refl _ _
    · apply Touch.ite
      · (apply Touch.app (endAway_touch ..); · decide)
        exact Touch.refl _ _
      · exact Touch.refl _ _

theorem idleOutputs_touch (s : State) :
    Touch [.chans, .pebs, .dps, .lanes] s (idleOutputs s) := by
  unfold idleOutputs
  apply Touch.foldl
  · refine Touch.set_chans_pebs_lanes (by decide) (by decide) (by decide) ?_
    exact Touch.refl _ _
  · intro u v
    (apply Touch.app (dischargeGroup_touch ..); · decide)
    exact Touch.refl _ _

theorem endForBypass_touch (s : State) :
    Touch [.power, .dev, .units, .mbs, .ledger, .order, .dacs, .chans, .pebs, .bursts, .seqs, .tdcs, .acqs, .dps, .resvs, .lanes, .queues, .dmas, .fabric, .press, .levee, .svc, .mem, .free] s (endForBypass s) := by
  unfold endForBypass
  dsimp only
  (apply Touch.app (refuseWaiting_touch ..); · decide)
  (apply Touch.app (idleOutputs_touch ..); · decide)
  refine Touch.set_dev (by decide) ?_
  apply Touch.foldl
  · refine Touch.set_power_dev (by decide) (by decide) ?_
    (apply Touch.app (setMode_touch ..); · decide)
    exact Touch.refl _ _
  · intro u v
    (apply Touch.app (bypassItem_touch ..); · decide)
    exact Touch.refl _ _

theorem enterBypass_touch (s : State) :
    Touch [.power, .dev, .units, .hw, .mbs, .ledger, .order, .dacs, .chans, .pebs, .bursts, .seqs, .tdcs, .acqs, .dps, .resvs, .lanes, .queues, .dmas, .fabric, .press, .levee, .svc, .mem, .free] s (enterBypass s) := by
  unfold enterBypass
  (apply Touch.app (endForBypass_touch ..); · decide)
  (apply Touch.app (closeFord_touch ..); · decide)
  exact Touch.refl _ _

theorem stopAdrift_touch (s : State) (a1 : ℕ) :
    Touch [.seqs] s (stopAdrift s a1) := by
  unfold stopAdrift
  apply Touch.ite
  · (apply Touch.app (modSeq_touch ..); · decide)
    exact Touch.refl _ _
  · exact Touch.refl _ _

theorem execItemTimeLimit_touch (slot : ℕ) (s : State) :
    TouchOut [.dev, .units, .mbs, .ledger, .order, .seqs, .tdcs, .acqs, .lanes, .queues, .fabric, .levee, .svc, .mem, .free] s (execItemTimeLimit slot s) := by
  unfold execItemTimeLimit
  dsimp only
  apply TouchOut.ite
  · split
    · apply TouchOut.next
      (apply Touch.app (askMeasure_touch ..); · decide)
      exact Touch.refl _ _
    · apply TouchOut.next
      (apply Touch.app (finishTdc_touch ..); · decide)
      exact Touch.refl _ _
    · apply TouchOut.next
      (apply Touch.app (finishAcquire_touch ..); · decide)
      exact Touch.refl _ _
    · apply TouchOut.next
      (apply Touch.app (finishLane_touch ..); · decide)
      exact Touch.refl _ _
    · apply TouchOut.next
      exact Touch.refl _ _
  · apply TouchOut.next
    exact Touch.refl _ _

theorem clockItem_touch (s : State) (slot : ℕ) :
    Touch [.dev, .units, .mbs, .ledger, .order, .dacs, .chans, .pebs, .bursts, .seqs, .tdcs, .acqs, .dps, .resvs, .lanes, .queues, .dmas, .fabric, .press, .levee, .svc, .mem, .free] s (clockItem s slot) := by
  unfold clockItem
  dsimp only
  split
  · (apply Touch.app (finishBurst_touch ..); · decide)
    (apply Touch.app (clockRecord_touch ..); · decide)
    exact Touch.refl _ _
  · apply Touch.ite
    · (apply Touch.app (endItem_touch ..); · decide)
      exact Touch.refl _ _
    · exact Touch.refl _ _
  · (apply Touch.app (modSlot_touch ..); · decide)
    exact Touch.refl _ _
  · (apply Touch.app (modSlot_touch ..); · decide)
    exact Touch.refl _ _
  · exact Touch.refl _ _
  · (apply Touch.app (failCal_touch ..); · decide)
    exact Touch.refl _ _
  · (apply Touch.app (endNow_touch ..); · decide)
    exact Touch.refl _ _

theorem refuseMaintain_touch (s : State) (a1 : ℕ) :
    Touch [.mbs, .fabric] s (refuseMaintain s a1) := by
  unfold refuseMaintain
  (apply Touch.app (answerOwed_touch ..); · decide)
  exact Touch.refl _ _

theorem clockUnits_touch (s : State) :
    Touch [.units, .mbs, .fabric, .svc, .free] s (clockUnits s) := by
  unfold clockUnits
  dsimp only
  apply Touch.foldl
  · exact Touch.refl _ _
  · intro u v
    apply Touch.ite
    · exact Touch.refl _ _
    · (apply Touch.app (refuseMaintain_touch ..); · decide)
      (apply Touch.app (modUnit_touch ..); · decide)
      (apply Touch.app (setUnit_touch ..); · decide)
      exact Touch.refl _ _

theorem enterSafe_touch (s : State) (cellar : Bool) :
    Touch [.power, .dev, .units, .mbs, .ledger, .order, .dacs, .chans, .pebs, .bursts, .seqs, .tdcs, .acqs, .dps, .resvs, .lanes, .queues, .dmas, .fabric, .press, .levee, .svc, .mem, .free] s (enterSafe s cellar) := by
  unfold enterSafe
  dsimp only
  apply Touch.ite
  · apply Touch.ite
    · refine Touch.set_levee (by decide) ?_
      exact Touch.refl _ _
    · exact Touch.refl _ _
  · (apply Touch.app (refuseWaiting_touch ..); · decide)
    (apply Touch.app (answerEvery_touch ..); · decide)
    (apply Touch.app (unitsOffline_touch ..); · decide)
    (apply Touch.app (selfRefresh_touch ..); · decide)
    refine Touch.set_resvs (by decide) ?_
    apply Touch.foldl
    · apply Touch.ite
      · (apply Touch.app (retireOwn_touch ..); · decide)
        (apply Touch.app (postHeld_touch ..); · decide)
        apply Touch.foldl
        · refine Touch.set_power_dev_mbs_levee_svc (by decide) (by decide) (by decide) (by decide) (by decide) ?_
          (apply Touch.app (setMode_touch ..); · decide)
          (apply Touch.app (safeOutputs_touch ..); · decide)
          apply Touch.ite
          · refine Touch.set_levee (by decide) ?_
            exact Touch.refl _ _
          · exact Touch.refl _ _
        · intro u v
          (apply Touch.app (flushOwed_touch ..); · decide)
          exact Touch.refl _ _
      · refine Touch.set_power_dev_mbs_levee_svc (by decide) (by decide) (by decide) (by decide) (by decide) ?_
        (apply Touch.app (setMode_touch ..); · decide)
        (apply Touch.app (safeOutputs_touch ..); · decide)
        apply Touch.ite
        · refine Touch.set_levee (by decide) ?_
          exact Touch.refl _ _
        · exact Touch.refl _ _
    · intro u v
      (apply Touch.app (safeItem_touch ..); · decide)
      exact Touch.refl _ _

theorem settleBypass_touch (s : State) :
    Touch [.power, .dev, .units, .hw, .mbs, .ledger, .order, .dacs, .chans, .pebs, .bursts, .seqs, .tdcs, .acqs, .dps, .resvs, .lanes, .queues, .dmas, .fabric, .press, .levee, .svc, .mem, .free] s (settleBypass s) := by
  unfold settleBypass
  apply Touch.ite
  · (apply Touch.app (enterBypass_touch ..); · decide)
    exact Touch.refl _ _
  · exact Touch.refl _ _

theorem openFord_touch (s : State) :
    Touch [.power, .clock, .hw, .mbs, .fabric, .svc, .free] s (openFord s) := by
  unfold openFord
  (apply Touch.app (openFordWith_touch ..); · decide)
  exact Touch.refl _ _

theorem unitSafeState_touch (s : State) (a1 : ℕ) :
    Touch [.chans, .pebs, .dps, .lanes] s (unitSafeState s a1) := by
  unfold unitSafeState
  apply Touch.ite
  · (apply Touch.app (modPeb_touch ..); · decide)
    refine Touch.set_chans (by decide) ?_
    exact Touch.refl _ _
  · apply Touch.ite
    · (apply Touch.app (dischargeGroup_touch ..); · decide)
      exact Touch.refl _ _
    · apply Touch.ite
      · refine Touch.set_lanes (by decide) ?_
        exact Touch.refl _ _
      · exact Touch.refl _ _

theorem settleFord_touch (s : State) :
    Touch [.power, .clock, .hw, .mbs, .fabric, .svc, .free] s (settleFord s) := by
  unfold settleFord
  apply Touch.ite
  · (apply Touch.app (openFord_touch ..); · decide)
    exact Touch.refl _ _
  · exact Touch.refl _ _

theorem containUnit_touch (s : State) (a1 : ℕ) :
    Touch [.dev, .units, .mbs, .ledger, .order, .dacs, .chans, .pebs, .bursts, .seqs, .tdcs, .acqs, .dps, .resvs, .lanes, .queues, .dmas, .fabric, .press, .levee, .svc, .mem, .free] s (containUnit s a1) := by
  unfold containUnit
  dsimp only
  (apply Touch.app (settleCal_touch ..); · decide)
  (apply Touch.app (refuseMaintain_touch ..); · decide)
  (apply Touch.app (unitSafeState_touch ..); · decide)
  (apply Touch.app (modUnit_touch ..); · decide)
  (apply Touch.app (setUnit_touch ..); · decide)
  apply Touch.foldl
  · (apply Touch.app (stopAdrift_touch ..); · decide)
    (apply Touch.app (unitSafeState_touch ..); · decide)
    exact Touch.refl _ _
  · intro u v
    apply Touch.ite
    · (apply Touch.app (faultItem_touch ..); · decide)
      exact Touch.refl _ _
    · exact Touch.refl _ _

theorem abortItem_touch (s : State) (slot : ℕ) :
    Touch [.dev, .units, .mbs, .ledger, .order, .dacs, .chans, .pebs, .bursts, .seqs, .tdcs, .acqs, .dps, .resvs, .lanes, .queues, .dmas, .fabric, .press, .levee, .svc, .mem, .free] s (abortItem s slot) := by
  unfold abortItem
  dsimp only
  apply Touch.ite
  · (apply Touch.app (endQueued_touch ..); · decide)
    exact Touch.refl _ _
  · split
    · (apply Touch.app (abortBurst_touch ..); · decide)
      exact Touch.refl _ _
    · (apply Touch.app (askMeasure_touch ..); · decide)
      exact Touch.refl _ _
    · (apply Touch.app (markCause_touch ..); · decide)
      exact Touch.refl _ _
    · (apply Touch.app (abortDps_touch ..); · decide)
      exact Touch.refl _ _
    · (apply Touch.app (failCal_touch ..); · decide)
      exact Touch.refl _ _
    · (apply Touch.app (endNow_touch ..); · decide)
      exact Touch.refl _ _

end Sys2Proof.Machine
end

