-- ==== Sys2Proof/Laws/Levee.lean ====
section
/-! SUPPORT. What each function of Machine/Levee.lean may touch. -/

namespace Sys2Proof.Machine

theorem ledgerError_touch (s : State) (slot : ℕ) :
    Touch [.dev, .units, .mbs, .ledger, .order, .dacs, .chans, .pebs, .bursts, .seqs, .tdcs, .acqs, .dps, .resvs, .lanes, .queues, .dmas, .fabric, .press, .levee, .svc, .mem, .free] s (ledgerError s slot) := by
  unfold ledgerError
  dsimp only
  apply Touch.ite
  · exact Touch.refl _ _
  · apply Touch.ite
    · (apply Touch.app (retireSlot_touch ..); · decide)
      (apply Touch.app (modSlot_touch ..); · decide)
      apply Touch.ite
      · (apply Touch.app (endItem_touch ..); · decide)
        (apply Touch.app (modSlot_touch ..); · decide)
        apply Touch.ite
        · (apply Touch.app (modUnit_touch ..); · decide)
          exact Touch.refl _ _
        · exact Touch.refl _ _
      · apply Touch.ite
        · (apply Touch.app (endNow_touch ..); · decide)
          (apply Touch.app (modSlot_touch ..); · decide)
          apply Touch.ite
          · (apply Touch.app (modUnit_touch ..); · decide)
            exact Touch.refl _ _
          · exact Touch.refl _ _
        · (apply Touch.app (modSlot_touch ..); · decide)
          apply Touch.ite
          · (apply Touch.app (modUnit_touch ..); · decide)
            exact Touch.refl _ _
          · exact Touch.refl _ _
    · apply Touch.ite
      · (apply Touch.app (notice_touch ..); · decide)
        (apply Touch.app (modSlot_touch ..); · decide)
        apply Touch.ite
        · (apply Touch.app (endItem_touch ..); · decide)
          (apply Touch.app (modSlot_touch ..); · decide)
          apply Touch.ite
          · (apply Touch.app (modUnit_touch ..); · decide)
            exact Touch.refl _ _
          · exact Touch.refl _ _
        · apply Touch.ite
          · (apply Touch.app (endNow_touch ..); · decide)
            (apply Touch.app (modSlot_touch ..); · decide)
            apply Touch.ite
            · (apply Touch.app (modUnit_touch ..); · decide)
              exact Touch.refl _ _
            · exact Touch.refl _ _
          · (apply Touch.app (modSlot_touch ..); · decide)
            apply Touch.ite
            · (apply Touch.app (modUnit_touch ..); · decide)
              exact Touch.refl _ _
            · exact Touch.refl _ _
      · (apply Touch.app (modSlot_touch ..); · decide)
        apply Touch.ite
        · (apply Touch.app (endItem_touch ..); · decide)
          (apply Touch.app (modSlot_touch ..); · decide)
          apply Touch.ite
          · (apply Touch.app (modUnit_touch ..); · decide)
            exact Touch.refl _ _
          · exact Touch.refl _ _
        · apply Touch.ite
          · (apply Touch.app (endNow_touch ..); · decide)
            (apply Touch.app (modSlot_touch ..); · decide)
            apply Touch.ite
            · (apply Touch.app (modUnit_touch ..); · decide)
              exact Touch.refl _ _
            · exact Touch.refl _ _
          · (apply Touch.app (modSlot_touch ..); · decide)
            apply Touch.ite
            · (apply Touch.app (modUnit_touch ..); · decide)
              exact Touch.refl _ _
            · exact Touch.refl _ _

theorem loseEvent_touch (s : State) :
    Touch [.levee] s (loseEvent s) := by
  unfold loseEvent
  dsimp only
  refine Touch.set_levee (by decide) ?_
  exact Touch.refl _ _

theorem eventNotice_touch (s : State) (r : EvRec) :
    Touch [.mbs, .fabric, .svc, .free] s (eventNotice s r) := by
  unfold eventNotice
  dsimp only
  apply Touch.ite
  · (apply Touch.app (deviceNotice_touch ..); · decide)
    exact Touch.refl _ _
  · apply Touch.ite
    · (apply Touch.app (deviceNotice_touch ..); · decide)
      exact Touch.refl _ _
    · exact Touch.refl _ _

theorem writeRecord_touch (s : State) (e : Event) (cls : ℕ) (link : Option (BitVec 16)) (esc : Bool) :
    Touch [.mbs, .fabric, .levee, .svc, .free] s (writeRecord s e cls link esc) := by
  unfold writeRecord
  dsimp only
  (apply Touch.app (eventNotice_touch ..); · decide)
  refine Touch.set_levee (by decide) ?_
  exact Touch.refl _ _

theorem logEvent_touch (s : State) (e : Event) (cls : ℕ) (link : Option (BitVec 16)) (esc : Bool) :
    Touch [.mbs, .fabric, .levee, .svc, .free] s (logEvent s e cls link esc) := by
  unfold logEvent
  dsimp only
  apply Touch.ite
  · refine Touch.set_levee (by decide) ?_
    apply Touch.ite
    · refine Touch.set_levee (by decide) ?_
      (apply Touch.app (writeRecord_touch ..); · decide)
      exact Touch.refl _ _
    · (apply Touch.app (loseEvent_touch ..); · decide)
      exact Touch.refl _ _
  · apply Touch.ite
    · refine Touch.set_levee (by decide) ?_
      (apply Touch.app (writeRecord_touch ..); · decide)
      exact Touch.refl _ _
    · (apply Touch.app (loseEvent_touch ..); · decide)
      exact Touch.refl _ _

theorem memoryError_touch (s : State) (page : ℕ) (uncorr : Bool) :
    Touch [.dev, .units, .mbs, .ledger, .order, .chans, .pebs, .bursts, .queues, .dmas, .fabric, .levee, .svc, .mem, .free] s (memoryError s page uncorr) := by
  unfold memoryError
  dsimp only
  split
  · apply Touch.ite
    · (apply Touch.app (cutTransfer_touch ..); · decide)
      (apply Touch.app (takeFree_touch ..); · decide)
      split
      · (apply Touch.app (takeFree_touch ..); · decide)
        exact Touch.refl _ _
      · apply Touch.ite
        · refine Touch.set_levee (by decide) ?_
          (apply Touch.app (takeFree_touch ..); · decide)
          exact Touch.refl _ _
        · (apply Touch.app (takeFree_touch ..); · decide)
          exact Touch.refl _ _
    · (apply Touch.app (abortBurst_touch ..); · decide)
      (apply Touch.app (takeFree_touch ..); · decide)
      split
      · (apply Touch.app (takeFree_touch ..); · decide)
        exact Touch.refl _ _
      · apply Touch.ite
        · refine Touch.set_levee (by decide) ?_
          (apply Touch.app (takeFree_touch ..); · decide)
          exact Touch.refl _ _
        · (apply Touch.app (takeFree_touch ..); · decide)
          exact Touch.refl _ _
  · (apply Touch.app (takeFree_touch ..); · decide)
    split
    · (apply Touch.app (takeFree_touch ..); · decide)
      exact Touch.refl _ _
    · apply Touch.ite
      · refine Touch.set_levee (by decide) ?_
        (apply Touch.app (takeFree_touch ..); · decide)
        exact Touch.refl _ _
      · (apply Touch.app (takeFree_touch ..); · decide)
        exact Touch.refl _ _

theorem bufferError_touch (s : State) (detail : ℕ) :
    Touch [.dev, .units, .mbs, .ledger, .order, .queues, .dmas, .fabric, .svc] s (bufferError s detail) := by
  unfold bufferError
  apply Touch.ite
  · split
    · (apply Touch.app (cutTransfer_touch ..); · decide)
      exact Touch.refl _ _
    · exact Touch.refl _ _
  · exact Touch.refl _ _

theorem cacheError_touch (s : State) :
    Touch [.dev, .units, .mbs, .ledger, .order, .chans, .pebs, .bursts, .queues, .fabric, .levee, .svc, .mem, .free] s (cacheError s) := by
  unfold cacheError
  dsimp only
  apply Touch.foldl
  · exact Touch.refl _ _
  · intro u v
    split
    · (apply Touch.app (takeFree_touch ..); · decide)
      exact Touch.refl _ _
    · apply Touch.ite
      · (apply Touch.app (abortBurst_touch ..); · decide)
        (apply Touch.app (modBurst_touch ..); · decide)
        (apply Touch.app (takeFree_touch ..); · decide)
        exact Touch.refl _ _
      · (apply Touch.app (takeFree_touch ..); · decide)
        exact Touch.refl _ _

theorem portDown_touch (s : State) (p : ℕ) :
    Touch [.hw, .mbs, .fabric, .levee, .svc, .mem, .free] s (portDown s p) := by
  unfold portDown
  apply Touch.ite
  · exact Touch.refl _ _
  · (apply Touch.app (settleCopies_touch ..); · decide)
    (apply Touch.app (settleMeasure_touch ..); · decide)
    (apply Touch.app (reroute_touch ..); · decide)
    (apply Touch.app (changePort_touch ..); · decide)
    exact Touch.refl _ _

theorem referenceError_touch (s : State) :
    Touch [.dev, .units, .mbs, .ledger, .order, .chans, .fabric, .press, .house, .svc, .free] s (referenceError s) := by
  unfold referenceError
  dsimp only
  apply Touch.foldl
  · refine Touch.set_house (by decide) ?_
    exact Touch.refl _ _
  · intro u v
    (apply Touch.app (failCal_touch ..); · decide)
    exact Touch.refl _ _

theorem resetQueue_touch (s : State) (q : ℕ) :
    Touch [.dev, .units, .mbs, .ledger, .order, .dacs, .chans, .pebs, .bursts, .seqs, .tdcs, .acqs, .dps, .resvs, .lanes, .queues, .dmas, .fabric, .press, .levee, .svc, .mem, .free] s (resetQueue s q) := by
  unfold resetQueue
  dsimp only
  apply Touch.foldl
  · apply Touch.foldl
    · (apply Touch.app (modQueue_touch ..); · decide)
      exact Touch.refl _ _
    · intro u v
      (apply Touch.app (settleDma_touch ..); · decide)
      (apply Touch.app (failDma_touch ..); · decide)
      exact Touch.refl _ _
  · intro u v
    apply Touch.ite
    · (apply Touch.app (abortBurst_touch ..); · decide)
      exact Touch.refl _ _
    · (apply Touch.app (endNow_touch ..); · decide)
      exact Touch.refl _ _

theorem reactContained_touch (s : State) (e : Event) :
    Touch [.dev, .units, .hw, .mbs, .ledger, .order, .dacs, .chans, .pebs, .bursts, .seqs, .tdcs, .acqs, .dps, .resvs, .lanes, .queues, .dmas, .fabric, .press, .house, .levee, .svc, .mem, .free] s (reactContained s e) := by
  unfold reactContained
  dsimp only
  apply Touch.ite
  · (apply Touch.app (containUnit_touch ..); · decide)
    exact Touch.refl _ _
  · apply Touch.ite
    · (apply Touch.app (portDown_touch ..); · decide)
      exact Touch.refl _ _
    · apply Touch.ite
      · (apply Touch.app (resetQueue_touch ..); · decide)
        exact Touch.refl _ _
      · apply Touch.ite
        · (apply Touch.app (ledgerError_touch ..); · decide)
          exact Touch.refl _ _
        · apply Touch.ite
          · (apply Touch.app (memoryError_touch ..); · decide)
            exact Touch.refl _ _
          · apply Touch.ite
            · (apply Touch.app (cacheError_touch ..); · decide)
              exact Touch.refl _ _
            · apply Touch.ite
              · (apply Touch.app (bufferError_touch ..); · decide)
                exact Touch.refl _ _
              · apply Touch.ite
                · (apply Touch.app (referenceError_touch ..); · decide)
                  exact Touch.refl _ _
                · exact Touch.refl _ _

theorem repeatRecord_touch (s : State) (i : BitVec 16) :
    Touch [.levee] s (repeatRecord s i) := by
  unfold repeatRecord
  dsimp only
  refine Touch.set_levee (by decide) ?_
  exact Touch.refl _ _

theorem raise_touch (s : State) (e : Event) :
    Touch [.power, .dev, .units, .hw, .mbs, .ledger, .order, .dacs, .chans, .pebs, .bursts, .seqs, .tdcs, .acqs, .dps, .resvs, .lanes, .queues, .dmas, .fabric, .press, .house, .levee, .svc, .mem, .free] s (raise s e) := by
  unfold raise
  dsimp only
  split
  · (apply Touch.app (repeatRecord_touch ..); · decide)
    exact Touch.refl _ _
  · apply Touch.ite
    · (apply Touch.app (enterSafe_touch ..); · decide)
      (apply Touch.app (logEvent_touch ..); · decide)
      apply Touch.ite
      · refine Touch.set_levee (by decide) ?_
        exact Touch.refl _ _
      · exact Touch.refl _ _
    · apply Touch.ite
      · (apply Touch.app (settleBypass_touch ..); · decide)
        (apply Touch.app (reactContained_touch ..); · decide)
        (apply Touch.app (logEvent_touch ..); · decide)
        apply Touch.ite
        · refine Touch.set_levee (by decide) ?_
          exact Touch.refl _ _
        · exact Touch.refl _ _
      · (apply Touch.app (logEvent_touch ..); · decide)
        apply Touch.ite
        · refine Touch.set_levee (by decide) ?_
          exact Touch.refl _ _
        · exact Touch.refl _ _

theorem writeCtrl_touch (s : State) (value : Word) :
    Touch [.power, .dev, .units, .hw, .mbs, .ledger, .order, .dacs, .chans, .pebs, .bursts, .seqs, .tdcs, .acqs, .dps, .resvs, .lanes, .queues, .dmas, .fabric, .press, .house, .levee, .svc, .mem, .free] s (writeCtrl s value) := by
  unfold writeCtrl
  dsimp only
  (apply Touch.app (raise_touch ..); · decide)
  refine Touch.set_levee (by decide) ?_
  exact Touch.refl _ _

theorem detect_touch (s : State) (det : ℕ) (region : ℕ) (detail : ℕ) (read : ℕ) (uncorr : Bool) (spabry : Bool) (ns : ℕ) :
    Touch [.power, .dev, .units, .hw, .mbs, .ledger, .order, .dacs, .chans, .pebs, .bursts, .seqs, .tdcs, .acqs, .dps, .resvs, .lanes, .queues, .dmas, .fabric, .press, .house, .levee, .svc, .mem, .free] s (detect s det region detail read uncorr spabry ns) := by
  unfold detect
  dsimp only
  split
  · apply Touch.ite
    · apply Touch.foldl
      · apply Touch.ite
        · refine Touch.set_levee (by decide) ?_
          exact Touch.refl _ _
        · exact Touch.refl _ _
      · intro u v
        (apply Touch.app (raise_touch ..); · decide)
        exact Touch.refl _ _
    · exact Touch.refl _ _
  · exact Touch.refl _ _

theorem detectOwn_touch (s : State) (det : ℕ) (region : ℕ) (detail : ℕ) (spabry : Bool) :
    Touch [.power, .dev, .units, .hw, .mbs, .ledger, .order, .dacs, .chans, .pebs, .bursts, .seqs, .tdcs, .acqs, .dps, .resvs, .lanes, .queues, .dmas, .fabric, .press, .house, .levee, .svc, .mem, .free] s (detectOwn s det region detail spabry) := by
  unfold detectOwn
  dsimp only
  (apply Touch.app (detect_touch ..); · decide)
  (apply Touch.app (takeFree_touch ..); · decide)
  exact Touch.refl _ _

theorem execDpsOverload_touch (s : State) :
    TouchOut [.power, .dev, .units, .hw, .mbs, .ledger, .order, .dacs, .chans, .pebs, .bursts, .seqs, .tdcs, .acqs, .dps, .resvs, .lanes, .queues, .dmas, .fabric, .press, .house, .levee, .svc, .mem, .free] s (execDpsOverload s) := by
  unfold execDpsOverload
  dsimp only
  apply TouchOut.ite
  · apply TouchOut.next
    exact Touch.refl _ _
  · apply TouchOut.next
    (apply Touch.app (detectOwn_touch ..); · decide)
    (apply Touch.app (putDps_touch ..); · decide)
    (apply Touch.app (outputNow_touch ..); · decide)
    (apply Touch.app (takeFree_touch ..); · decide)
    exact Touch.refl _ _

theorem execReactionShadowClose_touch (index : BitVec 16) (s : State) :
    TouchOut [.levee] s (execReactionShadowClose index s) := by
  unfold execReactionShadowClose
  dsimp only
  apply TouchOut.next
  refine Touch.set_levee (by decide) ?_
  exact Touch.refl _ _

theorem execLeveeDetection_touch (detector : BitVec 16) (region : BitVec 16) (detail : Detail) (uncorrectable : Bool) (reactionNs : ℕ) (s : State) :
    TouchOut [.power, .dev, .units, .hw, .mbs, .ledger, .order, .dacs, .chans, .pebs, .bursts, .seqs, .tdcs, .acqs, .dps, .resvs, .lanes, .queues, .dmas, .fabric, .press, .house, .levee, .svc, .mem, .free] s (execLeveeDetection detector region detail uncorrectable reactionNs s) := by
  unfold execLeveeDetection
  apply TouchOut.ite
  · apply TouchOut.next
    exact Touch.refl _ _
  · apply TouchOut.next
    (apply Touch.app (detect_touch ..); · decide)
    exact Touch.refl _ _

theorem execLeveeCtrlWrite_touch (value : Word) (s : State) :
    TouchOut [.power, .dev, .units, .hw, .mbs, .ledger, .order, .dacs, .chans, .pebs, .bursts, .seqs, .tdcs, .acqs, .dps, .resvs, .lanes, .queues, .dmas, .fabric, .press, .house, .levee, .svc, .mem, .free] s (execLeveeCtrlWrite value s) := by
  unfold execLeveeCtrlWrite
  apply TouchOut.ite
  · apply TouchOut.next
    exact Touch.refl _ _
  · apply TouchOut.next
    (apply Touch.app (writeCtrl_touch ..); · decide)
    exact Touch.refl _ _

theorem clearLatches_touch (s : State) (pd : ℕ) :
    Touch [.levee] s (clearLatches s pd) := by
  unfold clearLatches
  dsimp only
  refine Touch.set_levee (by decide) ?_
  exact Touch.refl _ _

theorem execWatchdog_touch (which : Dog) (s : State) :
    TouchOut [.power, .dev, .units, .hw, .mbs, .ledger, .order, .dacs, .chans, .pebs, .bursts, .seqs, .tdcs, .acqs, .dps, .resvs, .lanes, .queues, .dmas, .fabric, .press, .house, .levee, .svc, .mem, .free] s (execWatchdog which s) := by
  unfold execWatchdog
  dsimp only
  split
  · apply TouchOut.ite
    · apply TouchOut.next
      (apply Touch.app (detectOwn_touch ..); · decide)
      refine Touch.set_levee (by decide) ?_
      exact Touch.refl _ _
    · apply TouchOut.next
      exact Touch.refl _ _
  · apply TouchOut.ite
    · apply TouchOut.next
      (apply Touch.app (detectOwn_touch ..); · decide)
      refine Touch.set_levee (by decide) ?_
      exact Touch.refl _ _
    · apply TouchOut.next
      exact Touch.refl _ _
  · apply TouchOut.ite
    · apply TouchOut.next
      (apply Touch.app (detectOwn_touch ..); · decide)
      refine Touch.set_levee (by decide) ?_
      exact Touch.refl _ _
    · apply TouchOut.next
      exact Touch.refl _ _

theorem ackEvents_touch (s : State) (n : BitVec 16) :
    Touch [.levee, .free] s (ackEvents s n) := by
  unfold ackEvents
  dsimp only
  apply Touch.ite
  · refine Touch.set_levee (by decide) ?_
    split
    · (apply Touch.app (takeFree_touch ..); · decide)
      exact Touch.refl _ _
    · dsimp only
      exact Touch.refl _ _
  · exact Touch.refl _ _

theorem execLeveeAckWrite_touch (value : Word) (s : State) :
    TouchOut [.levee, .free] s (execLeveeAckWrite value s) := by
  unfold execLeveeAckWrite
  apply TouchOut.ite
  · apply TouchOut.next
    exact Touch.refl _ _
  · apply TouchOut.next
    (apply Touch.app (ackEvents_touch ..); · decide)
    exact Touch.refl _ _

theorem rehearse_touch (s : State) (det : ℕ) (base : ℕ) (region : ℕ) :
    Touch [.mbs, .fabric, .levee, .svc, .free] s (rehearse s det base region) := by
  unfold rehearse
  dsimp only
  apply Touch.ite
  · (apply Touch.app (writeRecord_touch ..); · decide)
    (apply Touch.app (takeFree_touch ..); · decide)
    (apply Touch.app (takeFree_touch ..); · decide)
    exact Touch.refl _ _
  · (apply Touch.app (loseEvent_touch ..); · decide)
    (apply Touch.app (takeFree_touch ..); · decide)
    (apply Touch.app (takeFree_touch ..); · decide)
    exact Touch.refl _ _

theorem execInjectionEnd_touch (s : State) :
    TouchOut [.mbs, .fabric, .levee, .svc, .free] s (execInjectionEnd s) := by
  unfold execInjectionEnd
  dsimp only
  split
  · apply TouchOut.next
    exact Touch.refl _ _
  · apply TouchOut.ite
    · apply TouchOut.next
      refine Touch.set_levee (by decide) ?_
      exact Touch.refl _ _
    · split
      · apply TouchOut.next
        apply Touch.foldl
        · refine Touch.set_levee (by decide) ?_
          exact Touch.refl _ _
        · intro u v
          (apply Touch.app (rehearse_touch ..); · decide)
          exact Touch.refl _ _
      · apply TouchOut.next
        refine Touch.set_levee (by decide) ?_
        exact Touch.refl _ _

end Sys2Proof.Machine
end

