-- ==== Sys2Proof/Laws/Calib.lean ====
section
/-! SUPPORT. What each function of Machine/Calib.lean may touch. -/

namespace Sys2Proof.Machine

theorem execCorrectionSlewStep_touch (s : State) :
    TouchOut [.dacs, .dps] s (execCorrectionSlewStep s) := by
  unfold execCorrectionSlewStep
  dsimp only
  apply TouchOut.next
  apply Touch.foldl
  · refine Touch.set_dacs (by decide) ?_
    exact Touch.refl _ _
  · intro u v
    (apply Touch.app (followDac_touch ..); · decide)
    exact Touch.refl _ _

theorem calFails_touch (s : State) (slot : ℕ) (c : ℕ) :
    Touch [.power, .dev, .units, .hw, .mbs, .ledger, .order, .dacs, .chans, .pebs, .bursts, .seqs, .tdcs, .acqs, .dps, .resvs, .lanes, .queues, .dmas, .fabric, .press, .house, .levee, .svc, .mem, .free] s (calFails s slot c) := by
  unfold calFails
  dsimp only
  (apply Touch.app (detectOwn_touch ..); · decide)
  (apply Touch.app (modUnit_touch ..); · decide)
  (apply Touch.app (failCal_touch ..); · decide)
  exact Touch.refl _ _

theorem calOnPower_touch (s : State) (a1 : ℕ) :
    Touch [.units, .mbs, .ledger, .order] s (calOnPower s a1) := by
  unfold calOnPower
  apply Touch.ite
  · exact Touch.refl _ _
  · apply Touch.ite
    · (apply Touch.app (modUnit_touch ..); · decide)
      exact Touch.refl _ _
    · (apply Touch.app (submitCal_touch ..); · decide)
      exact Touch.refl _ _

theorem takeUnit_touch (a0 : ℕ) (s : State) (v : ℕ) :
    Touch [.units, .mbs, .chans, .fabric, .svc, .free] s (takeUnit a0 s v) := by
  unfold takeUnit
  apply Touch.ite
  · (apply Touch.app (enterMaintenance_touch ..); · decide)
    exact Touch.refl _ _
  · exact Touch.refl _ _

theorem markCal_touch (s : State) (a1 : ℕ) (classes : ℕ) :
    Touch [.units, .mbs, .ledger, .order] s (markCal s a1 classes) := by
  unfold markCal
  (apply Touch.app (submitCal_touch ..); · decide)
  (apply Touch.app (modUnit_touch ..); · decide)
  exact Touch.refl _ _

theorem calAfterRelock_touch (s : State) :
    Touch [.units, .mbs, .ledger, .order] s (calAfterRelock s) := by
  unfold calAfterRelock
  dsimp only
  apply Touch.foldl
  · apply Touch.ite
    · (apply Touch.app (markCal_touch ..); · decide)
      exact Touch.refl _ _
    · exact Touch.refl _ _
  · intro u v
    (apply Touch.app (markCal_touch ..); · decide)
    exact Touch.refl _ _

theorem completeCal_touch (s : State) (slot : ℕ) :
    Touch [.dev, .units, .mbs, .ledger, .order, .dacs, .corrs, .chans, .tdcW, .tdcLat, .fabric, .press, .svc, .free] s (completeCal s slot) := by
  unfold completeCal
  dsimp only
  (apply Touch.app (endItem_touch ..); · decide)
  (apply Touch.app (releaseOwn_touch ..); · decide)
  (apply Touch.app (freePress_touch ..); · decide)
  apply Touch.foldl
  · (apply Touch.app (modUnit_touch ..); · decide)
    refine Touch.set_dacs (by decide) ?_
    apply Touch.foldl
    · (apply Touch.app (takeFree_touch ..); · decide)
      exact Touch.refl _ _
    · intro u v
      (apply Touch.app (applyCorr_touch ..); · decide)
      exact Touch.refl _ _
  · intro u v
    (apply Touch.app (releaseOther_touch ..); · decide)
    exact Touch.refl _ _

theorem execCalClassDone_touch (result : CalResult) (s : State) :
    TouchOut [.power, .dev, .units, .hw, .mbs, .ledger, .order, .dacs, .corrs, .chans, .pebs, .bursts, .seqs, .tdcs, .tdcW, .tdcLat, .acqs, .dps, .resvs, .lanes, .queues, .dmas, .fabric, .press, .house, .levee, .svc, .mem, .free] s (execCalClassDone result s) := by
  unfold execCalClassDone
  dsimp only
  split
  · split
    · apply TouchOut.next
      (apply Touch.app (settleBypass_touch ..); · decide)
      (apply Touch.app (calFails_touch ..); · decide)
      exact Touch.refl _ _
    · apply TouchOut.ite
      · apply TouchOut.next
        (apply Touch.app (settleBypass_touch ..); · decide)
        (apply Touch.app (calFails_touch ..); · decide)
        exact Touch.refl _ _
      · apply TouchOut.ite
        · apply TouchOut.next
          (apply Touch.app (settleBypass_touch ..); · decide)
          (apply Touch.app (completeCal_touch ..); · decide)
          (apply Touch.app (modSlot_touch ..); · decide)
          refine Touch.set_press (by decide) ?_
          exact Touch.refl _ _
        · apply TouchOut.next
          (apply Touch.app (modSlot_touch ..); · decide)
          refine Touch.set_press (by decide) ?_
          exact Touch.refl _ _
  · apply TouchOut.next
    exact Touch.refl _ _

theorem execReferenceFullAccuracy_touch (s : State) :
    TouchOut [.power] s (execReferenceFullAccuracy s) := by
  unfold execReferenceFullAccuracy
  dsimp only
  apply TouchOut.next
  apply Touch.ite
  · refine Touch.set_power (by decide) ?_
    exact Touch.refl _ _
  · exact Touch.refl _ _

theorem execCalDispatch_touch (slot : ℕ) (s : State) :
    TouchOut [.power, .dev, .units, .hw, .mbs, .ledger, .order, .dacs, .chans, .pebs, .bursts, .seqs, .tdcs, .acqs, .dps, .resvs, .lanes, .queues, .dmas, .fabric, .press, .house, .levee, .svc, .mem, .free] s (execCalDispatch slot s) := by
  unfold execCalDispatch
  dsimp only
  apply TouchOut.ite
  · apply TouchOut.ite
    · apply TouchOut.next
      (apply Touch.app (settleBypass_touch ..); · decide)
      (apply Touch.app (calFails_touch ..); · decide)
      (apply Touch.app (takeItem_touch ..); · decide)
      exact Touch.refl _ _
    · apply TouchOut.next
      exact Touch.refl _ _
  · apply TouchOut.ite
    · apply TouchOut.ite
      · apply TouchOut.next
        (apply Touch.app (endItem_touch ..); · decide)
        apply Touch.ite
        · (apply Touch.app (modUnit_touch ..); · decide)
          (apply Touch.app (releaseOwn_touch ..); · decide)
          (apply Touch.app (takeItem_touch ..); · decide)
          exact Touch.refl _ _
        · (apply Touch.app (takeItem_touch ..); · decide)
          exact Touch.refl _ _
      · apply TouchOut.next
        refine Touch.set_press (by decide) ?_
        apply Touch.foldl
        · (apply Touch.app (takeItem_touch ..); · decide)
          exact Touch.refl _ _
        · intro u v
          (apply Touch.app (takeUnit_touch ..); · decide)
          exact Touch.refl _ _
    · apply TouchOut.next
      exact Touch.refl _ _

end Sys2Proof.Machine
end

