-- ==== Sys2Proof/Laws/Triggers.lean ====
section
/-! SUPPORT. What each function of Machine/Triggers.lean may touch. -/

namespace Sys2Proof.Machine

theorem wmonReport_touch (s : State) (c : ℕ) (high : Bool) (flags : ℕ) :
    Touch [.chans, .bursts, .queues] s (wmonReport s c high flags) := by
  unfold wmonReport
  dsimp only
  apply Touch.ite
  · (apply Touch.app (queueWrite_touch ..); · decide)
    apply Touch.ite
    · split
      · (apply Touch.app (capRec_touch ..); · decide)
        (apply Touch.app (modChan_touch ..); · decide)
        exact Touch.refl _ _
      · (apply Touch.app (modChan_touch ..); · decide)
        exact Touch.refl _ _
    · (apply Touch.app (modChan_touch ..); · decide)
      exact Touch.refl _ _
  · apply Touch.ite
    · split
      · (apply Touch.app (capRec_touch ..); · decide)
        (apply Touch.app (modChan_touch ..); · decide)
        exact Touch.refl _ _
      · (apply Touch.app (modChan_touch ..); · decide)
        exact Touch.refl _ _
    · (apply Touch.app (modChan_touch ..); · decide)
      exact Touch.refl _ _

theorem execWmonTransition_touch (ch : ℕ) (ball : ℤ) (within20 : Bool) (s : State) :
    TouchOut [.chans, .bursts, .queues] s (execWmonTransition ch ball within20 s) := by
  unfold execWmonTransition
  dsimp only
  split
  · apply TouchOut.next
    exact Touch.refl _ _
  · apply TouchOut.ite
    · apply TouchOut.next
      exact Touch.refl _ _
    · apply TouchOut.ite
      · apply TouchOut.next
        (apply Touch.app (wmonReport_touch ..); · decide)
        (apply Touch.app (modChan_touch ..); · decide)
        exact Touch.refl _ _
      · apply TouchOut.ite
        · apply TouchOut.next
          (apply Touch.app (wmonReport_touch ..); · decide)
          (apply Touch.app (modChan_touch ..); · decide)
          exact Touch.refl _ _
        · apply TouchOut.ite
          · apply TouchOut.next
            (apply Touch.app (modChan_touch ..); · decide)
            exact Touch.refl _ _
          · apply TouchOut.next
            (apply Touch.app (wmonReport_touch ..); · decide)
            (apply Touch.app (modChan_touch ..); · decide)
            exact Touch.refl _ _

theorem pauseItem_touch (s : State) (slot : ℕ) :
    Touch [.ledger, .bursts, .seqs] s (pauseItem s slot) := by
  unfold pauseItem
  dsimp only
  split
  · (apply Touch.app (requestPause_touch ..); · decide)
    exact Touch.refl _ _
  · apply Touch.ite
    · (apply Touch.app (pauseMeasure_touch ..); · decide)
      exact Touch.refl _ _
    · (apply Touch.app (modSlot_touch ..); · decide)
      exact Touch.refl _ _
  · (apply Touch.app (pauseDps_touch ..); · decide)
    exact Touch.refl _ _
  · exact Touch.refl _ _

theorem beginPause_touch (s : State) :
    Touch [.dev, .mbs, .ledger, .bursts, .seqs, .fabric] s (beginPause s) := by
  unfold beginPause
  dsimp only
  (apply Touch.app (settleMode_touch ..); · decide)
  apply Touch.foldl
  · refine Touch.set_dev (by decide) ?_
    exact Touch.refl _ _
  · intro u v
    (apply Touch.app (pauseItem_touch ..); · decide)
    exact Touch.refl _ _

theorem trigPause_touch (s : State) :
    Touch [.dev, .mbs, .ledger, .bursts, .seqs, .fabric] s (trigPause s) := by
  unfold trigPause
  apply Touch.ite
  · (apply Touch.app (beginPause_touch ..); · decide)
    exact Touch.refl _ _
  · exact Touch.refl _ _

theorem execWmonStuck_touch (ch : ℕ) (s : State) :
    TouchOut [.chans] s (execWmonStuck ch s) := by
  unfold execWmonStuck
  dsimp only
  apply TouchOut.ite
  · apply TouchOut.next
    (apply Touch.app (modChan_touch ..); · decide)
    exact Touch.refl _ _
  · apply TouchOut.next
    exact Touch.refl _ _

theorem modTrig_touch (s : State) (i : ℕ) (f : Trig → Trig) :
    Touch [.cfg] s (modTrig s i f) := by
  unfold modTrig
  dsimp only
  refine Touch.set_cfg (by decide) ?_
  exact Touch.refl _ _

theorem resumeItem_touch (s : State) (slot : ℕ) :
    Touch [.ledger, .chans, .pebs, .bursts, .seqs, .queues, .fabric] s (resumeItem s slot) := by
  unfold resumeItem
  dsimp only
  apply Touch.ite
  · exact Touch.refl _ _
  · split
    · (apply Touch.app (resumeBurst_touch ..); · decide)
      exact Touch.refl _ _
    · apply Touch.ite
      · (apply Touch.app (resumeMeasure_touch ..); · decide)
        exact Touch.refl _ _
      · (apply Touch.app (modSlot_touch ..); · decide)
        exact Touch.refl _ _
    · (apply Touch.app (resumeDps_touch ..); · decide)
      exact Touch.refl _ _
    · exact Touch.refl _ _

theorem judgeMons_touch (s : State) (cs : List ℕ) (balls : List (ℕ × ℤ)) :
    Touch [.chans, .bursts, .queues] s (judgeMons s cs balls) := by
  unfold judgeMons
  dsimp only
  apply Touch.foldl
  · exact Touch.refl _ _
  · intro u v
    split
    · (apply Touch.app (wmonReport_touch ..); · decide)
      (apply Touch.app (modChan_touch ..); · decide)
      exact Touch.refl _ _
    · (apply Touch.app (modChan_touch ..); · decide)
      exact Touch.refl _ _

theorem trigJump_touch (s : State) (pebs : BitVec 12) (cond : ℕ) :
    Touch [.bursts] s (trigJump s pebs cond) := by
  unfold trigJump
  apply Touch.foldl
  · exact Touch.refl _ _
  · intro u v
    (apply Touch.app (requestJump_touch ..); · decide)
    exact Touch.refl _ _

theorem execWmonCoalesceEnd_touch (mon : ℕ) (s : State) :
    TouchOut [.cfg, .chans, .bursts, .queues] s (execWmonCoalesceEnd mon s) := by
  unfold execWmonCoalesceEnd
  dsimp only
  apply TouchOut.ite
  · split
    · apply TouchOut.ite
      · apply TouchOut.next
        (apply Touch.app (wmonReport_touch ..); · decide)
        exact Touch.refl _ _
      · apply TouchOut.next
        exact Touch.refl _ _
    · apply TouchOut.next
      exact Touch.refl _ _
  · apply TouchOut.ite
    · apply TouchOut.next
      (apply Touch.app (modTrig_touch ..); · decide)
      exact Touch.refl _ _
    · apply TouchOut.next
      exact Touch.refl _ _

theorem fireTrig_touch (s : State) (i : ℕ) :
    Touch [.dev, .units, .mbs, .ledger, .order, .dacs, .bursts, .seqs, .acqs, .dps, .fabric, .svc] s (fireTrig s i) := by
  unfold fireTrig
  dsimp only
  (apply Touch.app (trigAcquire_touch ..); · decide)
  apply Touch.foldl
  · apply Touch.ite
    · (apply Touch.app (trigPause_touch ..); · decide)
      exact Touch.refl _ _
    · apply Touch.ite
      · (apply Touch.app (trigJump_touch ..); · decide)
        exact Touch.refl _ _
      · exact Touch.refl _ _
  · intro u v
    (apply Touch.app (fireLevels_touch ..); · decide)
    exact Touch.refl _ _

theorem execTrigInStuck_touch (input : ℕ) (s : State) :
    TouchOut [.cfg] s (execTrigInStuck input s) := by
  unfold execTrigInStuck
  dsimp only
  apply TouchOut.ite
  · apply TouchOut.next
    (apply Touch.app (modTrig_touch ..); · decide)
    exact Touch.refl _ _
  · apply TouchOut.next
    exact Touch.refl _ _

theorem execTrigInEdge_touch (input : ℕ) (rising : Bool) (within20 : Bool) (s : State) :
    TouchOut [.dev, .units, .mbs, .ledger, .order, .cfg, .dacs, .bursts, .seqs, .acqs, .dps, .fabric, .svc] s (execTrigInEdge input rising within20 s) := by
  unfold execTrigInEdge
  dsimp only
  apply TouchOut.ite
  · apply TouchOut.next
    exact Touch.refl _ _
  · apply TouchOut.ite
    · apply TouchOut.next
      (apply Touch.app (modTrig_touch ..); · decide)
      exact Touch.refl _ _
    · apply TouchOut.ite
      · apply TouchOut.next
        (apply Touch.app (modTrig_touch ..); · decide)
        exact Touch.refl _ _
      · apply TouchOut.next
        apply Touch.ite
        · (apply Touch.app (fireTrig_touch ..); · decide)
          (apply Touch.app (modTrig_touch ..); · decide)
          exact Touch.refl _ _
        · (apply Touch.app (modTrig_touch ..); · decide)
          exact Touch.refl _ _

end Sys2Proof.Machine
end

