-- ==== Sys2Proof/Laws/Clocks.lean ====
section
/-! SUPPORT. What each function of Machine/Clocks.lean may touch. -/

namespace Sys2Proof.Machine

theorem retrainPorts_touch (s : State) :
    Touch [.mbs, .fabric, .svc, .free] s (retrainPorts s) := by
  unfold retrainPorts
  apply Touch.foldl
  · exact Touch.refl _ _
  · intro u v
    apply Touch.ite
    · exact Touch.refl _ _
    · (apply Touch.app (changePort_touch ..); · decide)
      exact Touch.refl _ _

theorem startLock_touch (s : State) (m : BitVec 28) :
    Touch [.clock, .hw, .mbs, .fabric, .svc, .free] s (startLock s m) := by
  unfold startLock
  dsimp only
  (apply Touch.app (retrainPorts_touch ..); · decide)
  refine Touch.trans (changeClock_touch (by decide) (by decide) (by decide) (by decide) (by decide) (h := ?_) ..) ?_
  · intro t0
    refine Touch.set_clock_hw (by decide) (by decide) ?_
    exact Touch.refl _ _
  · exact Touch.refl _ _

theorem execRelockStart_touch (s : State) :
    TouchOut [.clock, .hw, .mbs, .fabric, .svc, .free] s (execRelockStart s) := by
  unfold execRelockStart
  dsimp only
  apply TouchOut.ite
  · apply TouchOut.next
    exact Touch.refl _ _
  · apply TouchOut.ite
    · apply TouchOut.next
      (apply Touch.app (startLock_touch ..); · decide)
      refine Touch.set_clock (by decide) ?_
      exact Touch.refl _ _
    · apply TouchOut.next
      refine Touch.trans (changeClock_touch (by decide) (by decide) (by decide) (by decide) (by decide) (h := ?_) ..) ?_
      · intro t0
        refine Touch.set_clock (by decide) ?_
        exact Touch.refl _ _
      · exact Touch.refl _ _

theorem fireItem_touch (s : State) (slot : ℕ) :
    Touch [.dev, .units, .mbs, .ledger, .order, .dacs, .pebs, .bursts, .seqs, .tdcs, .acqs, .dps, .resvs, .lanes, .queues, .fabric, .svc, .free] s (fireItem s slot) := by
  unfold fireItem
  dsimp only
  split
  · apply Touch.ite
    · (apply Touch.app (beginBurst_touch ..); · decide)
      (apply Touch.app (modSlot_touch ..); · decide)
      exact Touch.refl _ _
    · (apply Touch.app (beginBurst_touch ..); · decide)
      (apply Touch.app (modSlot_touch ..); · decide)
      exact Touch.refl _ _
  · (apply Touch.app (fireLevels_touch ..); · decide)
    (apply Touch.app (modSlot_touch ..); · decide)
    exact Touch.refl _ _
  · (apply Touch.app (startMeasure_touch ..); · decide)
    (apply Touch.app (modSlot_touch ..); · decide)
    exact Touch.refl _ _
  · (apply Touch.app (startTdc_touch ..); · decide)
    (apply Touch.app (modSlot_touch ..); · decide)
    exact Touch.refl _ _
  · (apply Touch.app (beginAcquire_touch ..); · decide)
    (apply Touch.app (modSlot_touch ..); · decide)
    exact Touch.refl _ _
  · (apply Touch.app (startDps_touch ..); · decide)
    (apply Touch.app (modSlot_touch ..); · decide)
    exact Touch.refl _ _
  · (apply Touch.app (startLane_touch ..); · decide)
    (apply Touch.app (modSlot_touch ..); · decide)
    exact Touch.refl _ _
  · (apply Touch.app (modSlot_touch ..); · decide)
    exact Touch.refl _ _

theorem takeEpoch_touch (s : State) (c : Count) :
    Touch [.hw] s (takeEpoch s c) := by
  unfold takeEpoch
  dsimp only
  apply Touch.ite
  · exact Touch.refl _ _
  · refine Touch.set_hw (by decide) ?_
    exact Touch.refl _ _

theorem sendEpoch_touch (s : State) (c : Count) :
    Touch [.hw, .mbs, .fabric] s (sendEpoch s c) := by
  unfold sendEpoch
  dsimp only
  (apply Touch.app (answerEvery_touch ..); · decide)
  (apply Touch.app (takeEpoch_touch ..); · decide)
  refine Touch.set_hw (by decide) ?_
  (apply Touch.app (sendBroadcast_touch ..); · decide)
  exact Touch.refl _ _

theorem afterPulse_touch (s : State) :
    Touch [.hw, .mbs, .fabric] s (afterPulse s) := by
  unfold afterPulse
  split
  · (apply Touch.app (sendEpoch_touch ..); · decide)
    exact Touch.refl _ _
  · exact Touch.refl _ _

theorem driveSync_touch (s : State) :
    Touch [.hw] s (driveSync s) := by
  unfold driveSync
  dsimp only
  apply Touch.ite
  · refine Touch.set_hw (by decide) ?_
    exact Touch.refl _ _
  · exact Touch.refl _ _

theorem notePulse_touch (s : State) :
    Touch [.hw] s (notePulse s) := by
  unfold notePulse
  dsimp only
  refine Touch.set_hw (by decide) ?_
  exact Touch.refl _ _

theorem jumpCount_touch (s : State) (c : Count) :
    Touch [.hw, .tdcs] s (jumpCount s c) := by
  unfold jumpCount
  dsimp only
  apply Touch.ite
  · exact Touch.refl _ _
  · (apply Touch.app (clearMarks_touch ..); · decide)
    (apply Touch.app (stepTdcs_touch ..); · decide)
    refine Touch.set_hw (by decide) ?_
    exact Touch.refl _ _

theorem takePulse_touch (s : State) :
    Touch [.clock, .hw, .tdcs] s (takePulse s) := by
  unfold takePulse
  dsimp only
  apply Touch.ite
  · apply Touch.ite
    · refine Touch.set_hw (by decide) ?_
      (apply Touch.app (jumpCount_touch ..); · decide)
      refine Touch.set_hw (by decide) ?_
      exact Touch.refl _ _
    · refine Touch.set_hw (by decide) ?_
      exact Touch.refl _ _
  · apply Touch.ite
    · refine Touch.set_clock_hw (by decide) (by decide) ?_
      exact Touch.refl _ _
    · refine Touch.set_clock_hw (by decide) (by decide) ?_
      exact Touch.refl _ _

theorem execHwsyncPulse_touch (s : State) :
    TouchOut [.clock, .hw, .mbs, .tdcs, .fabric, .svc, .free] s (execHwsyncPulse s) := by
  unfold execHwsyncPulse
  apply TouchOut.ite
  · apply TouchOut.next
    (apply Touch.app (afterPulse_touch ..); · decide)
    (apply Touch.app (driveSync_touch ..); · decide)
    (apply Touch.app (notePulse_touch ..); · decide)
    refine Touch.trans (changeClock_touch (by decide) (by decide) (by decide) (by decide) (by decide) (h := ?_) ..) ?_
    · intro t0
      (apply Touch.app (takePulse_touch ..); · decide)
      exact Touch.refl _ _
    · exact Touch.refl _ _
  · apply TouchOut.next
    exact Touch.refl _ _

theorem startCount_touch (s : State) :
    Touch [.hw, .tdcs] s (startCount s) := by
  unfold startCount
  dsimp only
  (apply Touch.app (clearMarks_touch ..); · decide)
  refine Touch.set_hw (by decide) ?_
  exact Touch.refl _ _

theorem answerSteps_touch (s : State) :
    Touch [.mbs, .fabric] s (answerSteps s) := by
  unfold answerSteps
  (apply Touch.app (answerEvery_touch ..); · decide)
  exact Touch.refl _ _

theorem execClockStepReached_touch (s : State) :
    TouchOut [.clock, .hw, .mbs, .bursts, .fabric, .svc, .free] s (execClockStepReached s) := by
  unfold execClockStepReached
  dsimp only
  apply TouchOut.ite
  · apply TouchOut.next
    (apply Touch.app (answerSteps_touch ..); · decide)
    refine Touch.set_bursts (by decide) ?_
    refine Touch.trans (changeClock_touch (by decide) (by decide) (by decide) (by decide) (by decide) (h := ?_) ..) ?_
    · intro t0
      refine Touch.set_clock (by decide) ?_
      exact Touch.refl _ _
    · exact Touch.refl _ _
  · apply TouchOut.next
    exact Touch.refl _ _

theorem execDelayLineLocked_touch (s : State) :
    TouchOut [.units, .clock, .mbs, .fabric, .svc, .free] s (execDelayLineLocked s) := by
  unfold execDelayLineLocked
  dsimp only
  apply TouchOut.ite
  · apply TouchOut.next
    apply Touch.foldl
    · refine Touch.set_clock (by decide) ?_
      exact Touch.refl _ _
    · intro u v
      apply Touch.ite
      · (apply Touch.app (modUnit_touch ..); · decide)
        exact Touch.refl _ _
      · apply Touch.ite
        · (apply Touch.app (modUnit_touch ..); · decide)
          (apply Touch.app (modUnit_touch ..); · decide)
          exact Touch.refl _ _
        · apply Touch.ite
          · (apply Touch.app (modUnit_touch ..); · decide)
            (apply Touch.app (modUnit_touch ..); · decide)
            exact Touch.refl _ _
          · (apply Touch.app (setUnit_touch ..); · decide)
            (apply Touch.app (modUnit_touch ..); · decide)
            exact Touch.refl _ _
  · apply TouchOut.next
    exact Touch.refl _ _

theorem loseRef_touch (s : State) :
    Touch [.clock, .hw] s (loseRef s) := by
  unfold loseRef
  dsimp only
  refine Touch.set_clock_hw (by decide) (by decide) ?_
  exact Touch.refl _ _

theorem execHeadwaterTimedFire_touch (slot : ℕ) (s : State) :
    TouchOut [.dev, .units, .mbs, .ledger, .order, .dacs, .pebs, .bursts, .seqs, .tdcs, .acqs, .dps, .resvs, .lanes, .queues, .fabric, .svc, .free] s (execHeadwaterTimedFire slot s) := by
  unfold execHeadwaterTimedFire
  dsimp only
  apply TouchOut.ite
  · apply TouchOut.next
    (apply Touch.app (fireItem_touch ..); · decide)
    exact Touch.refl _ _
  · apply TouchOut.next
    exact Touch.refl _ _

theorem execChainMasterPulse_touch (s : State) :
    TouchOut [.hw, .mbs, .tdcs, .fabric, .svc, .free] s (execChainMasterPulse s) := by
  unfold execChainMasterPulse
  dsimp only
  apply TouchOut.ite
  · apply TouchOut.next
    (apply Touch.app (afterPulse_touch ..); · decide)
    (apply Touch.app (driveSync_touch ..); · decide)
    refine Touch.trans (changeClock_touch (by decide) (by decide) (by decide) (by decide) (by decide) (h := ?_) ..) ?_
    · intro t0
      refine Touch.set_hw (by decide) ?_
      split
      · (apply Touch.app (jumpCount_touch ..); · decide)
        exact Touch.refl _ _
      · exact Touch.refl _ _
    · exact Touch.refl _ _
  · apply TouchOut.next
    exact Touch.refl _ _

theorem settleLock_touch (s : State) :
    Touch [.mbs, .fabric] s (settleLock s) := by
  unfold settleLock
  dsimp only
  apply Touch.ite
  · apply Touch.ite
    · (apply Touch.app (answerEvery_touch ..); · decide)
      exact Touch.refl _ _
    · (apply Touch.app (answerSteps_touch ..); · decide)
      (apply Touch.app (answerEvery_touch ..); · decide)
      exact Touch.refl _ _
  · exact Touch.refl _ _

theorem bootNoRef_touch (s : State) :
    Touch [.boot] s (bootNoRef s) := by
  unfold bootNoRef
  dsimp only
  apply Touch.ite
  · refine Touch.set_boot (by decide) ?_
    exact Touch.refl _ _
  · exact Touch.refl _ _

theorem execSyncPulseMissing_touch (s : State) :
    TouchOut [.clock, .hw, .mbs, .fabric, .svc, .free] s (execSyncPulseMissing s) := by
  unfold execSyncPulseMissing
  dsimp only
  apply TouchOut.ite
  · apply TouchOut.next
    refine Touch.trans (changeClock_touch (by decide) (by decide) (by decide) (by decide) (by decide) (h := ?_) ..) ?_
    · intro t0
      refine Touch.set_clock (by decide) ?_
      exact Touch.refl _ _
    · exact Touch.refl _ _
  · apply TouchOut.next
    exact Touch.refl _ _

theorem loseClock_touch (s : State) :
    Touch [.clock, .hw] s (loseClock s) := by
  unfold loseClock
  dsimp only
  refine Touch.set_clock_hw (by decide) (by decide) ?_
  exact Touch.refl _ _

theorem completeLock_touch (s : State) :
    Touch [.units, .clock, .hw, .mbs, .ledger, .order, .tdcs, .lgs, .fabric, .svc, .free] s (completeLock s) := by
  unfold completeLock
  dsimp only
  (apply Touch.app (settleLock_touch ..); · decide)
  apply Touch.ite
  · (apply Touch.app (calAfterRelock_touch ..); · decide)
    (apply Touch.app (retrainPorts_touch ..); · decide)
    refine Touch.set_lgs (by decide) ?_
    refine Touch.trans (changeClock_touch (by decide) (by decide) (by decide) (by decide) (by decide) (h := ?_) ..) ?_
    · intro t0
      apply Touch.ite
      · refine Touch.set_clock_hw (by decide) (by decide) ?_
        exact Touch.refl _ _
      · apply Touch.ite
        · (apply Touch.app (startCount_touch ..); · decide)
          refine Touch.set_clock (by decide) ?_
          exact Touch.refl _ _
        · refine Touch.set_clock (by decide) ?_
          exact Touch.refl _ _
    · exact Touch.refl _ _
  · (apply Touch.app (retrainPorts_touch ..); · decide)
    refine Touch.set_lgs (by decide) ?_
    refine Touch.trans (changeClock_touch (by decide) (by decide) (by decide) (by decide) (by decide) (h := ?_) ..) ?_
    · intro t0
      apply Touch.ite
      · refine Touch.set_clock_hw (by decide) (by decide) ?_
        exact Touch.refl _ _
      · apply Touch.ite
        · (apply Touch.app (startCount_touch ..); · decide)
          refine Touch.set_clock (by decide) ?_
          exact Touch.refl _ _
        · refine Touch.set_clock (by decide) ?_
          exact Touch.refl _ _
    · exact Touch.refl _ _

theorem execRefLossDetected_touch (cause : LossCause) (s : State) :
    TouchOut [.power, .dev, .units, .clock, .hw, .boot, .mbs, .ledger, .order, .dacs, .chans, .pebs, .bursts, .seqs, .tdcs, .acqs, .dps, .resvs, .lanes, .queues, .dmas, .fabric, .press, .house, .levee, .svc, .mem, .free] s (execRefLossDetected cause s) := by
  unfold execRefLossDetected
  dsimp only
  apply TouchOut.ite
  · apply TouchOut.next
    exact Touch.refl _ _
  · apply TouchOut.ite
    · apply TouchOut.next
      (apply Touch.app (settleBypass_touch ..); · decide)
      (apply Touch.app (settleCal_touch ..); · decide)
      (apply Touch.app (retrainPorts_touch ..); · decide)
      apply Touch.foldl
      · (apply Touch.app (clockPins_touch ..); · decide)
        refine Touch.set_lanes (by decide) ?_
        (apply Touch.app (clockUnits_touch ..); · decide)
        (apply Touch.app (raise_touch ..); · decide)
        (apply Touch.app (bootNoRef_touch ..); · decide)
        refine Touch.trans (changeClock_touch (by decide) (by decide) (by decide) (by decide) (by decide) (h := ?_) ..) ?_
        · intro t0
          (apply Touch.app (loseClock_touch ..); · decide)
          refine Touch.set_clock (by decide) ?_
          exact Touch.refl _ _
        · exact Touch.refl _ _
      · intro u v
        apply Touch.ite
        · (apply Touch.app (clockItem_touch ..); · decide)
          exact Touch.refl _ _
        · exact Touch.refl _ _
    · apply TouchOut.ite
      · apply TouchOut.next
        exact Touch.refl _ _
      · apply TouchOut.next
        (apply Touch.app (raise_touch ..); · decide)
        (apply Touch.app (bootNoRef_touch ..); · decide)
        refine Touch.trans (changeClock_touch (by decide) (by decide) (by decide) (by decide) (by decide) (h := ?_) ..) ?_
        · intro t0
          (apply Touch.app (loseRef_touch ..); · decide)
          exact Touch.refl _ _
        · exact Touch.refl _ _

end Sys2Proof.Machine
end

