-- ==== Sys2Proof/Laws/Domains.lean ====
section
/-! SUPPORT. What each function of Machine/Domains.lean may touch. -/

namespace Sys2Proof.Machine

theorem closeSwitches_touch (s : State) :
    Touch [.power] s (closeSwitches s) := by
  unfold closeSwitches
  dsimp only
  refine Touch.set_power (by decide) ?_
  exact Touch.refl _ _

theorem lanesOff_touch (s : State) (g : ℕ) :
    Touch [.lanes] s (lanesOff s g) := by
  unfold lanesOff
  refine Touch.set_lanes (by decide) ?_
  exact Touch.refl _ _

theorem domainOff_touch (s : State) (d : ℕ) :
    Touch [.power, .units, .clock, .hw, .mbs, .dacs, .chans, .pebs, .acqs, .dps, .lanes, .queues, .dmas, .bufFree, .fabric, .levee, .svc, .mem, .free] s (domainOff s d) := by
  unfold domainOff
  dsimp only
  apply Touch.ite
  · refine Touch.trans (changeClock_touch (by decide) (by decide) (by decide) (by decide) (by decide) (h := ?_) ..) ?_
    · intro t0
      refine Touch.set_clock (by decide) ?_
      exact Touch.refl _ _
    · (apply Touch.app (clearLatches_touch ..); · decide)
      exact Touch.refl _ _
  · apply Touch.ite
    · refine Touch.trans (changeClock_touch (by decide) (by decide) (by decide) (by decide) (by decide) (h := ?_) ..) ?_
      · intro t0
        refine Touch.set_hw (by decide) ?_
        exact Touch.refl _ _
      · (apply Touch.app (clearLatches_touch ..); · decide)
        exact Touch.refl _ _
    · apply Touch.ite
      · (apply Touch.app (closeFord_touch ..); · decide)
        (apply Touch.app (clearLatches_touch ..); · decide)
        exact Touch.refl _ _
      · apply Touch.ite
        · (apply Touch.app (lanesOff_touch ..); · decide)
          (apply Touch.app (clearLatches_touch ..); · decide)
          exact Touch.refl _ _
        · apply Touch.ite
          · refine Touch.set_levee_mem (by decide) (by decide) ?_
            (apply Touch.app (clearLatches_touch ..); · decide)
            exact Touch.refl _ _
          · apply Touch.ite
            · refine Touch.set_queues_dmas_bufFree (by decide) (by decide) (by decide) ?_
              (apply Touch.app (clearLatches_touch ..); · decide)
              exact Touch.refl _ _
            · apply Touch.ite
              · refine Touch.set_acqs (by decide) ?_
                (apply Touch.app (clearLatches_touch ..); · decide)
                exact Touch.refl _ _
              · apply Touch.ite
                · refine Touch.set_power (by decide) ?_
                  (apply Touch.app (clearLatches_touch ..); · decide)
                  exact Touch.refl _ _
                · split
                  · refine Touch.set_dacs (by decide) ?_
                    apply Touch.ite
                    · refine Touch.set_chans (by decide) ?_
                      (apply Touch.app (modUnit_touch ..); · decide)
                      (apply Touch.app (unitSafeState_touch ..); · decide)
                      (apply Touch.app (clearLatches_touch ..); · decide)
                      exact Touch.refl _ _
                    · (apply Touch.app (modUnit_touch ..); · decide)
                      (apply Touch.app (unitSafeState_touch ..); · decide)
                      (apply Touch.app (clearLatches_touch ..); · decide)
                      exact Touch.refl _ _
                  · (apply Touch.app (clearLatches_touch ..); · decide)
                    exact Touch.refl _ _

theorem orderOn1_touch (s : State) (d : ℕ) :
    Touch [.power, .units, .mbs, .fabric, .svc, .free] s (orderOn1 s d) := by
  unfold orderOn1
  dsimp only
  apply Touch.ite
  · split
    · (apply Touch.app (modUnit_touch ..); · decide)
      exact Touch.refl _ _
    · exact Touch.refl _ _
  · apply Touch.ite
    · split
      · apply Touch.ite
        · (apply Touch.app (setUnit_touch ..); · decide)
          (apply Touch.app (modUnit_touch ..); · decide)
          refine Touch.set_power (by decide) ?_
          exact Touch.refl _ _
        · (apply Touch.app (modUnit_touch ..); · decide)
          refine Touch.set_power (by decide) ?_
          exact Touch.refl _ _
      · refine Touch.set_power (by decide) ?_
        exact Touch.refl _ _
    · apply Touch.ite
      · exact Touch.refl _ _
      · refine Touch.set_power (by decide) ?_
        exact Touch.refl _ _

theorem execLpddrTrainingDone_touch (mib : ℕ) (s : State) :
    TouchOut [.mem] s (execLpddrTrainingDone mib s) := by
  unfold execLpddrTrainingDone
  apply TouchOut.ite
  · apply TouchOut.next
    refine Touch.set_mem (by decide) ?_
    exact Touch.refl _ _
  · apply TouchOut.next
    exact Touch.refl _ _

theorem orderOff1_touch (s : State) (d : ℕ) :
    Touch [.power, .units, .mbs, .fabric, .svc, .free] s (orderOff1 s d) := by
  unfold orderOff1
  dsimp only
  apply Touch.ite
  · split
    · apply Touch.ite
      · (apply Touch.app (modUnit_touch ..); · decide)
        (apply Touch.app (setUnit_touch ..); · decide)
        refine Touch.set_power (by decide) ?_
        exact Touch.refl _ _
      · refine Touch.set_power (by decide) ?_
        exact Touch.refl _ _
    · refine Touch.set_power (by decide) ?_
      exact Touch.refl _ _
  · apply Touch.ite
    · split
      · apply Touch.ite
        · (apply Touch.app (setUnit_touch ..); · decide)
          (apply Touch.app (modUnit_touch ..); · decide)
          refine Touch.set_power (by decide) ?_
          exact Touch.refl _ _
        · (apply Touch.app (modUnit_touch ..); · decide)
          refine Touch.set_power (by decide) ?_
          exact Touch.refl _ _
      · refine Touch.set_power (by decide) ?_
        exact Touch.refl _ _
    · exact Touch.refl _ _

theorem orderSwitches_touch (s : State) (on : BitVec 32) (off : BitVec 32) :
    Touch [.power, .units, .mbs, .fabric, .svc, .free] s (orderSwitches s on off) := by
  unfold orderSwitches
  dsimp only
  (apply Touch.app (closeSwitches_touch ..); · decide)
  apply Touch.foldl
  · apply Touch.foldl
    · exact Touch.refl _ _
    · intro u v
      (apply Touch.app (orderOff1_touch ..); · decide)
      exact Touch.refl _ _
  · intro u v
    (apply Touch.app (orderOn1_touch ..); · decide)
    exact Touch.refl _ _

theorem execDomainSwitchOpened_touch (pd : ℕ) (s : State) :
    TouchOut [.power, .units, .clock, .hw, .mbs, .dacs, .chans, .pebs, .acqs, .dps, .lanes, .queues, .dmas, .bufFree, .fabric, .levee, .svc, .mem, .free] s (execDomainSwitchOpened pd s) := by
  unfold execDomainSwitchOpened
  dsimp only
  apply TouchOut.ite
  · split
    · apply TouchOut.next
      (apply Touch.app (closeSwitches_touch ..); · decide)
      (apply Touch.app (domainOff_touch ..); · decide)
      refine Touch.set_power (by decide) ?_
      exact Touch.refl _ _
    · apply TouchOut.ite
      · apply TouchOut.next
        (apply Touch.app (closeSwitches_touch ..); · decide)
        refine Touch.set_power (by decide) ?_
        (apply Touch.app (domainOff_touch ..); · decide)
        refine Touch.set_power (by decide) ?_
        exact Touch.refl _ _
      · apply TouchOut.next
        (apply Touch.app (closeSwitches_touch ..); · decide)
        (apply Touch.app (modUnit_touch ..); · decide)
        apply Touch.ite
        · (apply Touch.app (setUnit_touch ..); · decide)
          (apply Touch.app (domainOff_touch ..); · decide)
          refine Touch.set_power (by decide) ?_
          exact Touch.refl _ _
        · (apply Touch.app (domainOff_touch ..); · decide)
          refine Touch.set_power (by decide) ?_
          exact Touch.refl _ _
  · apply TouchOut.next
    exact Touch.refl _ _

theorem domainOn_touch (s : State) (d : ℕ) (balls : List (ℕ × ℤ)) :
    Touch [.power, .units, .clock, .hw, .mbs, .ledger, .order, .dacs, .chans, .bursts, .tdcs, .queues, .fabric, .svc, .free] s (domainOn s d balls) := by
  unfold domainOn
  dsimp only
  apply Touch.ite
  · apply Touch.ite
    · (apply Touch.app (startLock_touch ..); · decide)
      exact Touch.refl _ _
    · exact Touch.refl _ _
  · apply Touch.ite
    · apply Touch.ite
      · refine Touch.trans (changeClock_touch (by decide) (by decide) (by decide) (by decide) (by decide) (h := ?_) ..) ?_
        · intro t0
          (apply Touch.app (startCount_touch ..); · decide)
          exact Touch.refl _ _
        · exact Touch.refl _ _
      · exact Touch.refl _ _
    · apply Touch.ite
      · (apply Touch.app (settleFord_touch ..); · decide)
        exact Touch.refl _ _
      · split
        · apply Touch.ite
          · (apply Touch.app (submitCal_touch ..); · decide)
            (apply Touch.app (modUnit_touch ..); · decide)
            apply Touch.ite
            · (apply Touch.app (judgeMons_touch ..); · decide)
              refine Touch.set_dacs (by decide) ?_
              exact Touch.refl _ _
            · refine Touch.set_dacs (by decide) ?_
              exact Touch.refl _ _
          · apply Touch.ite
            · (apply Touch.app (modUnit_touch ..); · decide)
              apply Touch.ite
              · (apply Touch.app (judgeMons_touch ..); · decide)
                refine Touch.set_dacs (by decide) ?_
                exact Touch.refl _ _
              · refine Touch.set_dacs (by decide) ?_
                exact Touch.refl _ _
            · apply Touch.ite
              · (apply Touch.app (calOnPower_touch ..); · decide)
                (apply Touch.app (modUnit_touch ..); · decide)
                (apply Touch.app (modUnit_touch ..); · decide)
                apply Touch.ite
                · (apply Touch.app (judgeMons_touch ..); · decide)
                  refine Touch.set_dacs (by decide) ?_
                  exact Touch.refl _ _
                · refine Touch.set_dacs (by decide) ?_
                  exact Touch.refl _ _
              · (apply Touch.app (modUnit_touch ..); · decide)
                (apply Touch.app (modUnit_touch ..); · decide)
                apply Touch.ite
                · (apply Touch.app (judgeMons_touch ..); · decide)
                  refine Touch.set_dacs (by decide) ?_
                  exact Touch.refl _ _
                · refine Touch.set_dacs (by decide) ?_
                  exact Touch.refl _ _
        · exact Touch.refl _ _

theorem domainReady_touch (s : State) (pd : ℕ) (balls : List (ℕ × ℤ)) :
    Touch [.power, .dev, .units, .clock, .hw, .mbs, .ledger, .order, .dacs, .chans, .pebs, .bursts, .seqs, .tdcs, .acqs, .dps, .resvs, .lanes, .queues, .dmas, .fabric, .press, .levee, .svc, .mem, .free] s (domainReady s pd balls) := by
  unfold domainReady
  dsimp only
  (apply Touch.app (settleBypass_touch ..); · decide)
  (apply Touch.app (settleCal_touch ..); · decide)
  (apply Touch.app (closeSwitches_touch ..); · decide)
  (apply Touch.app (domainOn_touch ..); · decide)
  refine Touch.set_power (by decide) ?_
  exact Touch.refl _ _

end Sys2Proof.Machine
end

