-- ==== Sys2Proof/Laws/Resets.lean ====
section
/-! SUPPORT. What each function of Machine/Resets.lean may touch. -/

namespace Sys2Proof.Machine

theorem execClrNAssert_touch (s : State) :
    TouchOut [.power, .dacs, .dps] s (execClrNAssert s) := by
  unfold execClrNAssert
  dsimp only
  apply TouchOut.next
  apply Touch.foldl
  · refine Touch.set_power_dacs (by decide) (by decide) ?_
    exact Touch.refl _ _
  · intro u v
    (apply Touch.app (followDac_touch ..); · decide)
    exact Touch.refl _ _

theorem warmHold_touch (s : State) (cause : ℕ) :
    Touch [.power, .dev, .units, .clock, .hw, .boot, .mbs, .rr, .ledger, .cfg, .dacs, .corrs, .chans, .pebs, .bursts, .seqs, .tdcs, .tdcW, .tdcLat, .acqs, .dps, .resvs, .lgs, .lanes, .queues, .dmas, .bufFree, .fabric, .press, .house, .levee, .svc, .mem] s (warmHold s cause) := by
  unfold warmHold
  dsimp only
  constructor; intro p hp; cases p <;> first | rfl | exact absurd (by decide) hp

theorem execWarmReset_touch (s : State) :
    TouchOut [.power, .dev, .units, .clock, .hw, .boot, .mbs, .rr, .ledger, .cfg, .dacs, .corrs, .chans, .pebs, .bursts, .seqs, .tdcs, .tdcW, .tdcLat, .acqs, .dps, .resvs, .lgs, .lanes, .queues, .dmas, .bufFree, .fabric, .press, .house, .levee, .svc, .mem] s (execWarmReset s) := by
  unfold execWarmReset
  dsimp only
  apply TouchOut.ite
  · apply TouchOut.next
    exact Touch.refl _ _
  · apply TouchOut.next
    (apply Touch.app (warmHold_touch ..); · decide)
    exact Touch.refl _ _

theorem writeRstCtrl_touch (s : State) (v : Word) :
    Touch [.power] s (writeRstCtrl s v) := by
  unfold writeRstCtrl
  dsimp only
  apply Touch.ite
  · refine Touch.set_power (by decide) ?_
    exact Touch.refl _ _
  · exact Touch.refl _ _

theorem bootFordFalls_touch (s : State) :
    Touch [.boot] s (bootFordFalls s) := by
  unfold bootFordFalls
  dsimp only
  split
  · refine Touch.set_boot (by decide) ?_
    exact Touch.refl _ _
  · refine Touch.set_boot (by decide) ?_
    exact Touch.refl _ _
  · refine Touch.set_boot (by decide) ?_
    exact Touch.refl _ _
  · exact Touch.refl _ _

theorem toBypass_touch (s : State) :
    Touch [.power, .dev, .units, .hw, .mbs, .ledger, .order, .dacs, .chans, .pebs, .bursts, .seqs, .tdcs, .acqs, .dps, .resvs, .lanes, .queues, .dmas, .fabric, .press, .levee, .svc, .mem, .free] s (toBypass s) := by
  unfold toBypass
  apply Touch.ite
  · (apply Touch.app (enterBypass_touch ..); · decide)
    exact Touch.refl _ _
  · (apply Touch.app (setMode_touch ..); · decide)
    (apply Touch.app (closeFord_touch ..); · decide)
    exact Touch.refl _ _

theorem execFordCloseNFall_touch (s : State) :
    TouchOut [.power, .dev, .units, .hw, .boot, .mbs, .ledger, .order, .dacs, .chans, .pebs, .bursts, .seqs, .tdcs, .acqs, .dps, .resvs, .lanes, .queues, .dmas, .fabric, .press, .levee, .svc, .mem, .free] s (execFordCloseNFall s) := by
  unfold execFordCloseNFall
  dsimp only
  apply TouchOut.ite
  · apply TouchOut.next
    (apply Touch.app (closeFord_touch ..); · decide)
    refine Touch.set_power (by decide) ?_
    exact Touch.refl _ _
  · split
    · apply TouchOut.next
      (apply Touch.app (toBypass_touch ..); · decide)
      (apply Touch.app (closeFord_touch ..); · decide)
      refine Touch.set_power (by decide) ?_
      exact Touch.refl _ _
    · apply TouchOut.next
      (apply Touch.app (toBypass_touch ..); · decide)
      (apply Touch.app (closeFord_touch ..); · decide)
      refine Touch.set_power (by decide) ?_
      exact Touch.refl _ _
    · apply TouchOut.next
      (apply Touch.app (toBypass_touch ..); · decide)
      (apply Touch.app (closeFord_touch ..); · decide)
      refine Touch.set_power (by decide) ?_
      exact Touch.refl _ _
    · apply TouchOut.next
      (apply Touch.app (toBypass_touch ..); · decide)
      (apply Touch.app (closeFord_touch ..); · decide)
      refine Touch.set_power (by decide) ?_
      exact Touch.refl _ _
    · apply TouchOut.next
      (apply Touch.app (toBypass_touch ..); · decide)
      (apply Touch.app (closeFord_touch ..); · decide)
      refine Touch.set_power (by decide) ?_
      exact Touch.refl _ _
    · apply TouchOut.next
      (apply Touch.app (toBypass_touch ..); · decide)
      (apply Touch.app (closeFord_touch ..); · decide)
      refine Touch.set_power (by decide) ?_
      exact Touch.refl _ _
    · apply TouchOut.next
      (apply Touch.app (toBypass_touch ..); · decide)
      (apply Touch.app (closeFord_touch ..); · decide)
      refine Touch.set_power (by decide) ?_
      exact Touch.refl _ _
    · apply TouchOut.next
      refine Touch.set_svc (by decide) ?_
      (apply Touch.app (closeFord_touch ..); · decide)
      refine Touch.set_power (by decide) ?_
      exact Touch.refl _ _
    · apply TouchOut.next
      (apply Touch.app (bootFordFalls_touch ..); · decide)
      (apply Touch.app (closeFord_touch ..); · decide)
      refine Touch.set_power (by decide) ?_
      exact Touch.refl _ _
    · apply TouchOut.next
      (apply Touch.app (closeFord_touch ..); · decide)
      refine Touch.set_power (by decide) ?_
      exact Touch.refl _ _

theorem execFordCloseNRise_touch (s : State) :
    TouchOut [.power, .clock, .hw, .boot, .mbs, .fabric, .svc, .free] s (execFordCloseNRise s) := by
  unfold execFordCloseNRise
  dsimp only
  apply TouchOut.ite
  · apply TouchOut.next
    (apply Touch.app (openFordWith_touch ..); · decide)
    refine Touch.set_power_boot (by decide) (by decide) ?_
    exact Touch.refl _ _
  · apply TouchOut.next
    refine Touch.set_power (by decide) ?_
    exact Touch.refl _ _

theorem execClrNRelease_touch (s : State) :
    TouchOut [.power] s (execClrNRelease s) := by
  unfold execClrNRelease
  dsimp only
  apply TouchOut.next
  refine Touch.set_power (by decide) ?_
  exact Touch.refl _ _

theorem execRstCtrlWarm_touch (value : Word) (s : State) :
    TouchOut [.power] s (execRstCtrlWarm value s) := by
  unfold execRstCtrlWarm
  apply TouchOut.ite
  · apply TouchOut.next
    exact Touch.refl _ _
  · apply TouchOut.next
    (apply Touch.app (writeRstCtrl_touch ..); · decide)
    exact Touch.refl _ _

theorem execPowerOnReset_touch (s : State) :
    TouchOut [.power, .dev, .units, .clock, .hw, .boot, .mbs, .rr, .ledger, .order, .cfg, .dacs, .corrs, .chans, .pebs, .bursts, .seqs, .tdcs, .tdcW, .tdcLat, .acqs, .dps, .resvs, .lgs, .lanes, .queues, .dmas, .bufFree, .fabric, .press, .house, .levee, .svc, .mem, .msp, .jtag] s (execPowerOnReset s) := by
  unfold execPowerOnReset
  dsimp only
  apply TouchOut.next
  constructor; intro p hp; cases p <;> first | rfl | exact absurd (by decide) hp

end Sys2Proof.Machine
end

