-- ==== Sys2Proof/Laws/Boot.lean ====
section
/-! SUPPORT. What each function of Machine/Boot.lean may touch. -/

namespace Sys2Proof.Machine

theorem bootError_touch (s : State) (code : ℕ) (w : BootWait) :
    Touch [.boot] s (bootError s code w) := by
  unfold bootError
  dsimp only
  refine Touch.set_boot (by decide) ?_
  exact Touch.refl _ _

theorem bootLock_touch (s : State) :
    Touch [.power, .units, .clock, .hw, .boot, .mbs, .fabric, .svc, .free] s (bootLock s) := by
  unfold bootLock
  dsimp only
  (apply Touch.app (startLock_touch ..); · decide)
  (apply Touch.app (orderSwitches_touch ..); · decide)
  refine Touch.set_boot (by decide) ?_
  exact Touch.refl _ _

theorem startBoot_touch (s : State) :
    Touch [.power, .units, .clock, .hw, .boot, .mbs, .fabric, .svc, .free] s (startBoot s) := by
  unfold startBoot
  apply Touch.ite
  · exact Touch.refl _ _
  · apply Touch.ite
    · apply Touch.ite
      · (apply Touch.app (bootLock_touch ..); · decide)
        exact Touch.refl _ _
      · (apply Touch.app (bootError_touch ..); · decide)
        exact Touch.refl _ _
    · (apply Touch.app (bootError_touch ..); · decide)
      exact Touch.refl _ _

theorem enterBoot_touch (s : State) :
    Touch [.power, .dev, .units, .clock, .hw, .boot, .mbs, .fabric, .levee, .svc, .free] s (enterBoot s) := by
  unfold enterBoot
  dsimp only
  (apply Touch.app (startBoot_touch ..); · decide)
  (apply Touch.app (setMode_touch ..); · decide)
  (apply Touch.app (modMb_touch ..); · decide)
  refine Touch.set_power_levee (by decide) (by decide) ?_
  exact Touch.refl _ _

theorem execWarmResetRelease_touch (s : State) :
    TouchOut [.power, .dev, .units, .clock, .hw, .boot, .mbs, .fabric, .levee, .svc, .free] s (execWarmResetRelease s) := by
  unfold execWarmResetRelease
  apply TouchOut.ite
  · apply TouchOut.next
    (apply Touch.app (enterBoot_touch ..); · decide)
    exact Touch.refl _ _
  · apply TouchOut.next
    exact Touch.refl _ _

theorem writeBootCtrl_touch (s : State) (v : Word) :
    Touch [.boot] s (writeBootCtrl s v) := by
  unfold writeBootCtrl
  apply Touch.ite
  · refine Touch.set_boot (by decide) ?_
    exact Touch.refl _ _
  · exact Touch.refl _ _

theorem execBootRestart_touch (value : Word) (s : State) :
    TouchOut [.boot] s (execBootRestart value s) := by
  unfold execBootRestart
  apply TouchOut.ite
  · apply TouchOut.next
    exact Touch.refl _ _
  · apply TouchOut.next
    (apply Touch.app (writeBootCtrl_touch ..); · decide)
    exact Touch.refl _ _

theorem bootMeasure_touch (s : State) :
    Touch [.power, .clock, .hw, .boot, .mbs, .fabric, .svc, .free] s (bootMeasure s) := by
  unfold bootMeasure
  dsimp only
  apply Touch.foldl
  · (apply Touch.app (openFordWith_touch ..); · decide)
    refine Touch.set_boot (by decide) ?_
    exact Touch.refl _ _
  · intro u v
    apply Touch.ite
    · (apply Touch.app (changePort_touch ..); · decide)
      exact Touch.refl _ _
    · exact Touch.refl _ _

theorem bootFord_touch (s : State) :
    Touch [.power, .clock, .hw, .boot, .mbs, .fabric, .svc, .free] s (bootFord s) := by
  unfold bootFord
  apply Touch.ite
  · (apply Touch.app (bootError_touch ..); · decide)
    exact Touch.refl _ _
  · (apply Touch.app (bootMeasure_touch ..); · decide)
    exact Touch.refl _ _

theorem execDomainReady_touch (pd : ℕ) (balls : List (ℕ × ℤ)) (s : State) :
    TouchOut [.power, .dev, .units, .clock, .hw, .boot, .mbs, .ledger, .order, .dacs, .chans, .pebs, .bursts, .seqs, .tdcs, .acqs, .dps, .resvs, .lanes, .queues, .dmas, .fabric, .press, .levee, .svc, .mem, .free] s (execDomainReady pd balls s) := by
  unfold execDomainReady
  dsimp only
  apply TouchOut.ite
  · apply TouchOut.ite
    · apply TouchOut.next
      (apply Touch.app (bootFord_touch ..); · decide)
      (apply Touch.app (domainReady_touch ..); · decide)
      exact Touch.refl _ _
    · apply TouchOut.next
      (apply Touch.app (domainReady_touch ..); · decide)
      exact Touch.refl _ _
  · apply TouchOut.next
    exact Touch.refl _ _

theorem execBootRequestTimer_touch (s : State) :
    TouchOut [.fabric] s (execBootRequestTimer s) := by
  unfold execBootRequestTimer
  apply TouchOut.ite
  · apply TouchOut.next
    apply Touch.foldl
    · exact Touch.refl _ _
    · intro u v
      (apply Touch.app (holdFor_touch ..); · decide)
      exact Touch.refl _ _
  · apply TouchOut.next
    exact Touch.refl _ _

theorem sendBootDone_touch (s : State) (dest : ℕ) (code : ℕ) :
    Touch [.fabric] s (sendBootDone s dest code) := by
  unfold sendBootDone
  (apply Touch.app (sendPlain_touch ..); · decide)
  exact Touch.refl _ _

theorem bootFails_touch (s : State) (code : ℕ) :
    Touch [.boot, .fabric] s (bootFails s code) := by
  unfold bootFails
  dsimp only
  refine Touch.set_boot (by decide) ?_
  split
  · (apply Touch.app (sendBootDone_touch ..); · decide)
    exact Touch.refl _ _
  · exact Touch.refl _ _

theorem bootRails_touch (s : State) :
    Touch [.power, .units, .clock, .hw, .boot, .mbs, .fabric, .svc, .free] s (bootRails s) := by
  unfold bootRails
  dsimp only
  apply Touch.ite
  · apply Touch.ite
    · (apply Touch.app (bootFord_touch ..); · decide)
      refine Touch.set_boot (by decide) ?_
      exact Touch.refl _ _
    · (apply Touch.app (orderSwitches_touch ..); · decide)
      refine Touch.set_boot (by decide) ?_
      exact Touch.refl _ _
  · (apply Touch.app (bootError_touch ..); · decide)
    exact Touch.refl _ _

theorem bootTrain_touch (s : State) :
    Touch [.boot, .mbs, .fabric, .svc, .free] s (bootTrain s) := by
  unfold bootTrain
  dsimp only
  apply Touch.foldl
  · refine Touch.set_boot (by decide) ?_
    exact Touch.refl _ _
  · intro u v
    (apply Touch.app (changePort_touch ..); · decide)
    exact Touch.refl _ _

theorem execAdpllLockComplete_touch (s : State) :
    TouchOut [.power, .dev, .units, .clock, .hw, .boot, .mbs, .ledger, .order, .dacs, .chans, .pebs, .bursts, .seqs, .tdcs, .acqs, .dps, .resvs, .lgs, .lanes, .queues, .dmas, .fabric, .press, .levee, .svc, .mem, .free] s (execAdpllLockComplete s) := by
  unfold execAdpllLockComplete
  dsimp only
  apply TouchOut.ite
  · apply TouchOut.ite
    · apply TouchOut.next
      (apply Touch.app (bootRails_touch ..); · decide)
      (apply Touch.app (closeSwitches_touch ..); · decide)
      (apply Touch.app (completeLock_touch ..); · decide)
      exact Touch.refl _ _
    · apply TouchOut.ite
      · apply TouchOut.next
        (apply Touch.app (bootTrain_touch ..); · decide)
        (apply Touch.app (closeSwitches_touch ..); · decide)
        (apply Touch.app (completeLock_touch ..); · decide)
        exact Touch.refl _ _
      · apply TouchOut.next
        (apply Touch.app (settleBypass_touch ..); · decide)
        (apply Touch.app (settleCal_touch ..); · decide)
        (apply Touch.app (closeSwitches_touch ..); · decide)
        (apply Touch.app (completeLock_touch ..); · decide)
        exact Touch.refl _ _
  · apply TouchOut.next
    exact Touch.refl _ _

theorem execBootTrainTimeout_touch (s : State) :
    TouchOut [.power, .clock, .hw, .boot, .mbs, .fabric, .svc, .free] s (execBootTrainTimeout s) := by
  unfold execBootTrainTimeout
  apply TouchOut.ite
  · apply TouchOut.next
    (apply Touch.app (bootMeasure_touch ..); · decide)
    exact Touch.refl _ _
  · apply TouchOut.next
    exact Touch.refl _ _

theorem execBootRateMeasured_touch (m : BitVec 28) (s : State) :
    TouchOut [.clock, .hw, .boot, .mbs, .fabric, .svc, .free] s (execBootRateMeasured m s) := by
  unfold execBootRateMeasured
  dsimp only
  apply TouchOut.ite
  · apply TouchOut.ite
    · apply TouchOut.next
      (apply Touch.app (bootTrain_touch ..); · decide)
      exact Touch.refl _ _
    · apply TouchOut.next
      (apply Touch.app (startLock_touch ..); · decide)
      refine Touch.set_boot (by decide) ?_
      exact Touch.refl _ _
  · apply TouchOut.next
    exact Touch.refl _ _

theorem execBootSourceSilent_touch (s : State) :
    TouchOut [.boot] s (execBootSourceSilent s) := by
  unfold execBootSourceSilent
  dsimp only
  apply TouchOut.ite
  · apply TouchOut.next
    refine Touch.set_boot (by decide) ?_
    exact Touch.refl _ _
  · apply TouchOut.next
    exact Touch.refl _ _

theorem bootTrained_touch (s : State) :
    Touch [.boot] s (bootTrained s) := by
  unfold bootTrained
  dsimp only
  apply Touch.ite
  · refine Touch.set_boot (by decide) ?_
    exact Touch.refl _ _
  · exact Touch.refl _ _

theorem startCellar_touch (s : State) :
    Touch [.power, .dev, .units, .hw, .boot, .mbs, .ledger, .order, .dacs, .chans, .pebs, .bursts, .seqs, .tdcs, .acqs, .dps, .resvs, .lanes, .queues, .dmas, .fabric, .press, .levee, .svc, .mem, .free] s (startCellar s) := by
  unfold startCellar
  dsimp only
  apply Touch.ite
  · (apply Touch.app (toBypass_touch ..); · decide)
    (apply Touch.app (setMode_touch ..); · decide)
    refine Touch.set_boot_levee (by decide) (by decide) ?_
    split
    · (apply Touch.app (sendBootDone_touch ..); · decide)
      exact Touch.refl _ _
    · exact Touch.refl _ _
  · (apply Touch.app (setMode_touch ..); · decide)
    refine Touch.set_boot_levee (by decide) (by decide) ?_
    split
    · (apply Touch.app (sendBootDone_touch ..); · decide)
      exact Touch.refl _ _
    · exact Touch.refl _ _

theorem execBootDigestDone_touch (s : State) :
    TouchOut [.power, .dev, .units, .hw, .boot, .mbs, .ledger, .order, .dacs, .chans, .pebs, .bursts, .seqs, .tdcs, .acqs, .dps, .resvs, .lanes, .queues, .dmas, .fabric, .press, .levee, .svc, .mem, .free] s (execBootDigestDone s) := by
  unfold execBootDigestDone
  apply TouchOut.ite
  · apply TouchOut.ite
    · apply TouchOut.next
      (apply Touch.app (startCellar_touch ..); · decide)
      exact Touch.refl _ _
    · apply TouchOut.next
      (apply Touch.app (bootFails_touch ..); · decide)
      exact Touch.refl _ _
  · apply TouchOut.next
    exact Touch.refl _ _

theorem execPowerOnResetRelease_touch (node : BitVec 11) (src : BitVec 2) (s : State) :
    TouchOut [.power, .dev, .units, .clock, .hw, .boot, .mbs, .fabric, .levee, .svc, .free] s (execPowerOnResetRelease node src s) := by
  unfold execPowerOnResetRelease
  dsimp only
  apply TouchOut.ite
  · apply TouchOut.next
    (apply Touch.app (enterBoot_touch ..); · decide)
    refine Touch.set_power (by decide) ?_
    exact Touch.refl _ _
  · apply TouchOut.next
    exact Touch.refl _ _

theorem execBootRateTimeout_touch (s : State) :
    TouchOut [.boot, .mbs, .fabric, .svc, .free] s (execBootRateTimeout s) := by
  unfold execBootRateTimeout
  apply TouchOut.ite
  · apply TouchOut.next
    (apply Touch.app (bootTrain_touch ..); · decide)
    exact Touch.refl _ _
  · apply TouchOut.next
    exact Touch.refl _ _

theorem bootResume_touch (s : State) :
    Touch [.power, .units, .clock, .hw, .boot, .mbs, .fabric, .svc, .free] s (bootResume s) := by
  unfold bootResume
  split
  · (apply Touch.app (bootLock_touch ..); · decide)
    exact Touch.refl _ _
  · (apply Touch.app (bootRails_touch ..); · decide)
    exact Touch.refl _ _
  · apply Touch.ite
    · (apply Touch.app (bootFord_touch ..); · decide)
      exact Touch.refl _ _
    · exact Touch.refl _ _
  · (apply Touch.app (bootFord_touch ..); · decide)
    exact Touch.refl _ _
  · exact Touch.refl _ _

theorem execBootReport_touch (s : State) :
    TouchOut [.boot, .mbs, .ledger, .fabric, .levee, .free] s (execBootReport s) := by
  unfold execBootReport
  dsimp only
  apply TouchOut.ite
  · apply TouchOut.next
    (apply Touch.app (retireOwn_touch ..); · decide)
    (apply Touch.app (noticeNow_touch ..); · decide)
    (apply Touch.app (takeFree_touch ..); · decide)
    refine Touch.set_boot_levee (by decide) (by decide) ?_
    apply Touch.foldl
    · exact Touch.refl _ _
    · intro u v
      (apply Touch.app (modSlot_touch ..); · decide)
      exact Touch.refl _ _
  · apply TouchOut.next
    exact Touch.refl _ _

theorem execBootRefValid_touch (s : State) :
    TouchOut [.power, .units, .clock, .hw, .boot, .mbs, .fabric, .svc, .free] s (execBootRefValid s) := by
  unfold execBootRefValid
  dsimp only
  apply TouchOut.ite
  · apply TouchOut.next
    (apply Touch.app (bootResume_touch ..); · decide)
    refine Touch.set_clock (by decide) ?_
    exact Touch.refl _ _
  · apply TouchOut.next
    exact Touch.refl _ _

theorem execBootRailReady_touch (s : State) :
    TouchOut [.power, .units, .clock, .hw, .boot, .mbs, .fabric, .svc, .free] s (execBootRailReady s) := by
  unfold execBootRailReady
  dsimp only
  apply TouchOut.ite
  · apply TouchOut.next
    (apply Touch.app (bootRails_touch ..); · decide)
    refine Touch.set_power (by decide) ?_
    exact Touch.refl _ _
  · apply TouchOut.next
    exact Touch.refl _ _

theorem beginDownload_touch (s : State) :
    Touch [.boot] s (beginDownload s) := by
  unfold beginDownload
  dsimp only
  refine Touch.set_boot (by decide) ?_
  exact Touch.refl _ _

theorem streamByte_touch (s : State) (a1 : Byte) :
    Touch [.boot, .fabric] s (streamByte s a1) := by
  unfold streamByte
  dsimp only
  apply Touch.ite
  · refine Touch.set_boot (by decide) ?_
    exact Touch.refl _ _
  · apply Touch.ite
    · split
      · (apply Touch.app (bootFails_touch ..); · decide)
        refine Touch.set_boot (by decide) ?_
        apply Touch.ite
        · exact Touch.refl _ _
        · (apply Touch.app (beginDownload_touch ..); · decide)
          exact Touch.refl _ _
      · refine Touch.set_boot (by decide) ?_
        apply Touch.ite
        · exact Touch.refl _ _
        · (apply Touch.app (beginDownload_touch ..); · decide)
          exact Touch.refl _ _
    · apply Touch.ite
      · refine Touch.set_boot (by decide) ?_
        apply Touch.ite
        · exact Touch.refl _ _
        · (apply Touch.app (beginDownload_touch ..); · decide)
          exact Touch.refl _ _
      · refine Touch.set_boot (by decide) ?_
        apply Touch.ite
        · exact Touch.refl _ _
        · (apply Touch.app (beginDownload_touch ..); · decide)
          exact Touch.refl _ _

end Sys2Proof.Machine
end

