-- ==== Sys2Proof/Laws/Keeps.lean ====
section
/-! SUPPORT. What a function keeps: a property of the state that holds after it if it held before. -/

namespace Sys2Proof.Machine

/-- I holds of t if it holds of s. -/
structure Keeps (I : State → Prop) (s t : State) : Prop where
  keeps : I s → I t

variable {I : State → Prop}

theorem Keeps.refl (I : State → Prop) (s : State) : Keeps I s s := ⟨id⟩

theorem Keeps.trans {s t u : State} (k : Keeps I t u) (h : Keeps I s t) : Keeps I s u := ⟨fun w => k.keeps (h.keeps w)⟩

/-- A record update. -/
theorem Keeps.upd {a : List Part} {s t : State} (_ : Touch a s t) (h : I s → I t) : Keeps I s t := ⟨h⟩

theorem Keeps.ite {s t u : State} {c : Prop} [Decidable c] (h : Keeps I s t) (k : Keeps I s u) :
    Keeps I s (if c then t else u) := by
  split
  · exact h
  · exact k

theorem Keeps.foldl {α : Type} {s t : State} {g : State → α → State} {l : List α}
    (h : Keeps I s t) (k : ∀ u x, Keeps I u (g u x)) : Keeps I s (l.foldl g t) := by
  induction l generalizing t with
  | nil => exact h
  | cons x l ih => exact ih ((k t x).trans h)

theorem Keeps.foldlFst {α β : Type} {s : State} {p : State × β} {g : State × β → α → State × β}
    {l : List α} (h : Keeps I s p.1) (k : ∀ u x, Keeps I u.1 (g u x).1) : Keeps I s (l.foldl g p).1 := by
  induction l generalizing p with
  | nil => exact h
  | cons x l ih => exact ih ((k p x).trans h)

theorem Keeps.snd {α : Type} {s t : State} {x : α} {p : α × State} (h : p = (x, t)) (k : Keeps I s p.2) :
    Keeps I s t := by subst h; exact k

theorem Keeps.fst {α : Type} {s t : State} {x : α} {p : State × α} (h : p = (t, x)) (k : Keeps I s p.1) :
    Keeps I s t := by subst h; exact k

/-- I holds of every next state of a meaning if it holds of s. -/
structure KeepsOut (I : State → Prop) (s : State) (o : Host.Outcome State Fault Refusal) : Prop where
  next_keeps : ∀ t, o = .next t → Keeps I s t

theorem KeepsOut.next {s t : State} (h : Keeps I s t) : KeepsOut I s (.next t) := ⟨fun u hu => by cases hu; exact h⟩

theorem KeepsOut.fault {s : State} {f : Fault} : KeepsOut I s (.fault f) := ⟨fun u hu => by cases hu⟩

theorem KeepsOut.ite {s : State} {c : Prop} [Decidable c] {x y : Host.Outcome State Fault Refusal}
    (h : KeepsOut I s x) (k : KeepsOut I s y) : KeepsOut I s (if c then x else y) := by
  split
  · exact h
  · exact k

theorem KeepsOut.trans {s t : State} {o : Host.Outcome State Fault Refusal} (k : KeepsOut I t o) (h : Keeps I s t) :
    KeepsOut I s o :=
  ⟨fun u hu => (k.next_keeps u hu).trans h⟩

end Sys2Proof.Machine
end

