-- ==== Sys2Proof/Laws/PdOn.lean ====
section
/-! SUPPORT. What a domain that comes on or goes off does changes no other bit of PD_STATUS (R31 to R33). -/

namespace Sys2Proof.Machine

/-- PD_STATUS is c. -/
def PdOnIs (c : BitVec 32) (s : State) : Prop := s.power.pdOn = c

theorem pdOn_of_touch {c : BitVec 32} {a : List Part} {s t : State} (k : Touch a s t) (hm : Part.power ∉ a) : Keeps (PdOnIs c) s t :=
  ⟨fun h => by
    have e : t.power = s.power := k.same .power hm
    unfold PdOnIs
    rw [e]
    exact h⟩

theorem pdOn_of_touchOut {c : BitVec 32} {a : List Part} {s : State} {o : Out} (k : TouchOut a s o) (hm : Part.power ∉ a) :
    KeepsOut (PdOnIs c) s o :=
  ⟨fun t ht => pdOn_of_touch (k.next_same t ht) hm⟩

theorem modUnit_pdOn (c : BitVec 32) (s : State) (a1 : ℕ) (f : UnitSt → UnitSt) :
    Keeps (PdOnIs c) s (modUnit s a1 f) := by
  unfold modUnit
  refine Keeps.trans (pdOn_of_touch (Touch.set_units (b := [.units]) (by decide) (Touch.refl _ _)) (by decide)) ?_
  exact Keeps.refl _ _

theorem setUnit_pdOn (c : BitVec 32) (s : State) (a1 : ℕ) (new : UState) (byHost : Bool) :
    Keeps (PdOnIs c) s (setUnit s a1 new byHost) := by
  unfold setUnit
  dsimp only
  apply Keeps.ite
  · apply Keeps.trans (modUnit_pdOn ..)
    exact Keeps.refl _ _
  · refine Keeps.trans (pdOn_of_touch (unitNotice_touch ..) (by decide)) ?_
    apply Keeps.trans (modUnit_pdOn ..)
    exact Keeps.refl _ _

theorem setMode_pdOn (c : BitVec 32) (s : State) (m : Mode) :
    Keeps (PdOnIs c) s (setMode s m) := by
  unfold setMode
  dsimp only
  apply Keeps.ite
  · exact Keeps.refl _ _
  · refine Keeps.trans (pdOn_of_touch (Touch.set_dev (b := [.dev]) (by decide) (Touch.refl _ _)) (by decide)) ?_
    exact Keeps.refl _ _

theorem settleCal_pdOn (c : BitVec 32) (s : State) :
    Keeps (PdOnIs c) s (settleCal s) := by
  unfold settleCal
  apply Keeps.ite
  · refine Keeps.trans (pdOn_of_touch (submitDue_touch ..) (by decide)) ?_
    apply Keeps.trans (setMode_pdOn ..)
    exact Keeps.refl _ _
  · exact Keeps.refl _ _

theorem changeClock_pdOn (c : BitVec 32) (s : State) (f : State → State)
    (h : ∀ t0, Keeps (PdOnIs c) t0 (f t0)) :
    Keeps (PdOnIs c) s (changeClock s f) := by
  unfold changeClock
  dsimp only
  apply Keeps.ite
  · apply Keeps.trans (h ..)
    exact Keeps.refl _ _
  · refine Keeps.trans (pdOn_of_touch (deviceNotice_touch ..) (by decide)) ?_
    apply Keeps.ite
    · apply Keeps.trans (h ..)
      exact Keeps.refl _ _
    · refine Keeps.trans (pdOn_of_touch (Touch.set_hw (b := [.hw]) (by decide) (Touch.refl _ _)) (by decide)) ?_
      apply Keeps.trans (h ..)
      exact Keeps.refl _ _

theorem closeFord_pdOn (c : BitVec 32) (s : State) :
    Keeps (PdOnIs c) s (closeFord s) := by
  unfold closeFord
  dsimp only
  apply Keeps.ite
  · exact Keeps.refl _ _
  · apply Keeps.ite
    · refine Keeps.trans (pdOn_of_touch (answerOwed_touch ..) (by decide)) ?_
      refine Keeps.trans (pdOn_of_touch (settleMeasure_touch ..) (by decide)) ?_
      apply Keeps.foldl
      · refine Keeps.trans (Keeps.upd (Touch.set_power (b := [.power]) (by decide) (Touch.refl _ _)) fun h => h) ?_
        exact Keeps.refl _ _
      · intro u v
        refine Keeps.trans (pdOn_of_touch (closePort_touch ..) (by decide)) ?_
        exact Keeps.refl _ _
    · refine Keeps.trans (pdOn_of_touch (settleMeasure_touch ..) (by decide)) ?_
      apply Keeps.foldl
      · refine Keeps.trans (Keeps.upd (Touch.set_power (b := [.power]) (by decide) (Touch.refl _ _)) fun h => h) ?_
        exact Keeps.refl _ _
      · intro u v
        refine Keeps.trans (pdOn_of_touch (closePort_touch ..) (by decide)) ?_
        exact Keeps.refl _ _

theorem openFordWith_pdOn (c : BitVec 32) (s : State) (f : PortState → PortState) :
    Keeps (PdOnIs c) s (openFordWith s f) := by
  unfold openFordWith
  dsimp only
  apply Keeps.ite
  · apply Keeps.ite
    · refine Keeps.trans (changeClock_pdOn (h := ?_) ..) ?_
      · intro t0
        refine Keeps.trans (pdOn_of_touch (Touch.set_clock (b := [.clock]) (by decide) (Touch.refl _ _)) (by decide)) ?_
        exact Keeps.refl _ _
      · apply Keeps.foldl
        · refine Keeps.trans (Keeps.upd (Touch.set_power (b := [.power]) (by decide) (Touch.refl _ _)) fun h => h) ?_
          exact Keeps.refl _ _
        · intro u v
          refine Keeps.trans (pdOn_of_touch (changePort_touch ..) (by decide)) ?_
          exact Keeps.refl _ _
    · apply Keeps.foldl
      · refine Keeps.trans (Keeps.upd (Touch.set_power (b := [.power]) (by decide) (Touch.refl _ _)) fun h => h) ?_
        exact Keeps.refl _ _
      · intro u v
        refine Keeps.trans (pdOn_of_touch (changePort_touch ..) (by decide)) ?_
        exact Keeps.refl _ _
  · exact Keeps.refl _ _

theorem endForBypass_pdOn (c : BitVec 32) (s : State) :
    Keeps (PdOnIs c) s (endForBypass s) := by
  unfold endForBypass
  dsimp only
  refine Keeps.trans (pdOn_of_touch (refuseWaiting_touch ..) (by decide)) ?_
  refine Keeps.trans (pdOn_of_touch (idleOutputs_touch ..) (by decide)) ?_
  refine Keeps.trans (pdOn_of_touch (Touch.set_dev (b := [.dev]) (by decide) (Touch.refl _ _)) (by decide)) ?_
  apply Keeps.foldl
  · refine Keeps.trans (Keeps.upd (Touch.set_power_dev (b := [.power, .dev]) (by decide) (by decide) (Touch.refl _ _)) fun h => h) ?_
    apply Keeps.trans (setMode_pdOn ..)
    exact Keeps.refl _ _
  · intro u v
    refine Keeps.trans (pdOn_of_touch (bypassItem_touch ..) (by decide)) ?_
    exact Keeps.refl _ _

theorem enterBypass_pdOn (c : BitVec 32) (s : State) :
    Keeps (PdOnIs c) s (enterBypass s) := by
  unfold enterBypass
  apply Keeps.trans (endForBypass_pdOn ..)
  apply Keeps.trans (closeFord_pdOn ..)
  exact Keeps.refl _ _

theorem settleBypass_pdOn (c : BitVec 32) (s : State) :
    Keeps (PdOnIs c) s (settleBypass s) := by
  unfold settleBypass
  apply Keeps.ite
  · apply Keeps.trans (enterBypass_pdOn ..)
    exact Keeps.refl _ _
  · exact Keeps.refl _ _

theorem openFord_pdOn (c : BitVec 32) (s : State) :
    Keeps (PdOnIs c) s (openFord s) := by
  unfold openFord
  apply Keeps.trans (openFordWith_pdOn ..)
  exact Keeps.refl _ _

theorem settleFord_pdOn (c : BitVec 32) (s : State) :
    Keeps (PdOnIs c) s (settleFord s) := by
  unfold settleFord
  apply Keeps.ite
  · apply Keeps.trans (openFord_pdOn ..)
    exact Keeps.refl _ _
  · exact Keeps.refl _ _

theorem startLock_pdOn (c : BitVec 32) (s : State) (m : BitVec 28) :
    Keeps (PdOnIs c) s (startLock s m) := by
  unfold startLock
  dsimp only
  refine Keeps.trans (pdOn_of_touch (retrainPorts_touch ..) (by decide)) ?_
  refine Keeps.trans (changeClock_pdOn (h := ?_) ..) ?_
  · intro t0
    refine Keeps.trans (pdOn_of_touch (Touch.set_clock_hw (b := [.clock, .hw]) (by decide) (by decide) (Touch.refl _ _)) (by decide)) ?_
    exact Keeps.refl _ _
  · exact Keeps.refl _ _

theorem closeSwitches_pdOn (c : BitVec 32) (s : State) :
    Keeps (PdOnIs c) s (closeSwitches s) := by
  unfold closeSwitches
  dsimp only
  refine Keeps.trans (Keeps.upd (Touch.set_power (b := [.power]) (by decide) (Touch.refl _ _)) fun h => h) ?_
  exact Keeps.refl _ _

theorem domainOff_pdOn (c : BitVec 32) (s : State) (d : ℕ) :
    Keeps (PdOnIs c) s (domainOff s d) := by
  unfold domainOff
  dsimp only
  apply Keeps.ite
  · refine Keeps.trans (changeClock_pdOn (h := ?_) ..) ?_
    · intro t0
      refine Keeps.trans (pdOn_of_touch (Touch.set_clock (b := [.clock]) (by decide) (Touch.refl _ _)) (by decide)) ?_
      exact Keeps.refl _ _
    · refine Keeps.trans (pdOn_of_touch (clearLatches_touch ..) (by decide)) ?_
      exact Keeps.refl _ _
  · apply Keeps.ite
    · refine Keeps.trans (changeClock_pdOn (h := ?_) ..) ?_
      · intro t0
        refine Keeps.trans (pdOn_of_touch (Touch.set_hw (b := [.hw]) (by decide) (Touch.refl _ _)) (by decide)) ?_
        exact Keeps.refl _ _
      · refine Keeps.trans (pdOn_of_touch (clearLatches_touch ..) (by decide)) ?_
        exact Keeps.refl _ _
    · apply Keeps.ite
      · apply Keeps.trans (closeFord_pdOn ..)
        refine Keeps.trans (pdOn_of_touch (clearLatches_touch ..) (by decide)) ?_
        exact Keeps.refl _ _
      · apply Keeps.ite
        · refine Keeps.trans (pdOn_of_touch (lanesOff_touch ..) (by decide)) ?_
          refine Keeps.trans (pdOn_of_touch (clearLatches_touch ..) (by decide)) ?_
          exact Keeps.refl _ _
        · apply Keeps.ite
          · refine Keeps.trans (pdOn_of_touch (Touch.set_levee_mem (b := [.levee, .mem]) (by decide) (by decide) (Touch.refl _ _)) (by decide)) ?_
            refine Keeps.trans (pdOn_of_touch (clearLatches_touch ..) (by decide)) ?_
            exact Keeps.refl _ _
          · apply Keeps.ite
            · refine Keeps.trans (pdOn_of_touch (Touch.set_queues_dmas_bufFree (b := [.queues, .dmas, .bufFree]) (by decide) (by decide) (by decide) (Touch.refl _ _)) (by decide)) ?_
              refine Keeps.trans (pdOn_of_touch (clearLatches_touch ..) (by decide)) ?_
              exact Keeps.refl _ _
            · apply Keeps.ite
              · refine Keeps.trans (pdOn_of_touch (Touch.set_acqs (b := [.acqs]) (by decide) (Touch.refl _ _)) (by decide)) ?_
                refine Keeps.trans (pdOn_of_touch (clearLatches_touch ..) (by decide)) ?_
                exact Keeps.refl _ _
              · apply Keeps.ite
                · refine Keeps.trans (Keeps.upd (Touch.set_power (b := [.power]) (by decide) (Touch.refl _ _)) fun h => h) ?_
                  refine Keeps.trans (pdOn_of_touch (clearLatches_touch ..) (by decide)) ?_
                  exact Keeps.refl _ _
                · split
                  · refine Keeps.trans (pdOn_of_touch (Touch.set_dacs (b := [.dacs]) (by decide) (Touch.refl _ _)) (by decide)) ?_
                    apply Keeps.ite
                    · refine Keeps.trans (pdOn_of_touch (Touch.set_chans (b := [.chans]) (by decide) (Touch.refl _ _)) (by decide)) ?_
                      apply Keeps.trans (modUnit_pdOn ..)
                      refine Keeps.trans (pdOn_of_touch (unitSafeState_touch ..) (by decide)) ?_
                      refine Keeps.trans (pdOn_of_touch (clearLatches_touch ..) (by decide)) ?_
                      exact Keeps.refl _ _
                    · apply Keeps.trans (modUnit_pdOn ..)
                      refine Keeps.trans (pdOn_of_touch (unitSafeState_touch ..) (by decide)) ?_
                      refine Keeps.trans (pdOn_of_touch (clearLatches_touch ..) (by decide)) ?_
                      exact Keeps.refl _ _
                  · refine Keeps.trans (pdOn_of_touch (clearLatches_touch ..) (by decide)) ?_
                    exact Keeps.refl _ _

theorem orderOn1_pdOn (c : BitVec 32) (s : State) (d : ℕ) :
    Keeps (PdOnIs c) s (orderOn1 s d) := by
  unfold orderOn1
  dsimp only
  apply Keeps.ite
  · split
    · apply Keeps.trans (modUnit_pdOn ..)
      exact Keeps.refl _ _
    · exact Keeps.refl _ _
  · apply Keeps.ite
    · split
      · apply Keeps.ite
        · apply Keeps.trans (setUnit_pdOn ..)
          apply Keeps.trans (modUnit_pdOn ..)
          refine Keeps.trans (Keeps.upd (Touch.set_power (b := [.power]) (by decide) (Touch.refl _ _)) fun h => h) ?_
          exact Keeps.refl _ _
        · apply Keeps.trans (modUnit_pdOn ..)
          refine Keeps.trans (Keeps.upd (Touch.set_power (b := [.power]) (by decide) (Touch.refl _ _)) fun h => h) ?_
          exact Keeps.refl _ _
      · refine Keeps.trans (Keeps.upd (Touch.set_power (b := [.power]) (by decide) (Touch.refl _ _)) fun h => h) ?_
        exact Keeps.refl _ _
    · apply Keeps.ite
      · exact Keeps.refl _ _
      · refine Keeps.trans (Keeps.upd (Touch.set_power (b := [.power]) (by decide) (Touch.refl _ _)) fun h => h) ?_
        exact Keeps.refl _ _

theorem orderOff1_pdOn (c : BitVec 32) (s : State) (d : ℕ) :
    Keeps (PdOnIs c) s (orderOff1 s d) := by
  unfold orderOff1
  dsimp only
  apply Keeps.ite
  · split
    · apply Keeps.ite
      · apply Keeps.trans (modUnit_pdOn ..)
        apply Keeps.trans (setUnit_pdOn ..)
        refine Keeps.trans (Keeps.upd (Touch.set_power (b := [.power]) (by decide) (Touch.refl _ _)) fun h => h) ?_
        exact Keeps.refl _ _
      · refine Keeps.trans (Keeps.upd (Touch.set_power (b := [.power]) (by decide) (Touch.refl _ _)) fun h => h) ?_
        exact Keeps.refl _ _
    · refine Keeps.trans (Keeps.upd (Touch.set_power (b := [.power]) (by decide) (Touch.refl _ _)) fun h => h) ?_
      exact Keeps.refl _ _
  · apply Keeps.ite
    · split
      · apply Keeps.ite
        · apply Keeps.trans (setUnit_pdOn ..)
          apply Keeps.trans (modUnit_pdOn ..)
          refine Keeps.trans (Keeps.upd (Touch.set_power (b := [.power]) (by decide) (Touch.refl _ _)) fun h => h) ?_
          exact Keeps.refl _ _
        · apply Keeps.trans (modUnit_pdOn ..)
          refine Keeps.trans (Keeps.upd (Touch.set_power (b := [.power]) (by decide) (Touch.refl _ _)) fun h => h) ?_
          exact Keeps.refl _ _
      · refine Keeps.trans (Keeps.upd (Touch.set_power (b := [.power]) (by decide) (Touch.refl _ _)) fun h => h) ?_
        exact Keeps.refl _ _
    · exact Keeps.refl _ _

theorem orderSwitches_pdOn (c : BitVec 32) (s : State) (on : BitVec 32) (off : BitVec 32) :
    Keeps (PdOnIs c) s (orderSwitches s on off) := by
  unfold orderSwitches
  dsimp only
  apply Keeps.trans (closeSwitches_pdOn ..)
  apply Keeps.foldl
  · apply Keeps.foldl
    · exact Keeps.refl _ _
    · intro u v
      apply Keeps.trans (orderOff1_pdOn ..)
      exact Keeps.refl _ _
  · intro u v
    apply Keeps.trans (orderOn1_pdOn ..)
    exact Keeps.refl _ _

theorem domainOn_pdOn (c : BitVec 32) (s : State) (d : ℕ) (balls : List (ℕ × ℤ)) :
    Keeps (PdOnIs c) s (domainOn s d balls) := by
  unfold domainOn
  dsimp only
  apply Keeps.ite
  · apply Keeps.ite
    · apply Keeps.trans (startLock_pdOn ..)
      exact Keeps.refl _ _
    · exact Keeps.refl _ _
  · apply Keeps.ite
    · apply Keeps.ite
      · refine Keeps.trans (changeClock_pdOn (h := ?_) ..) ?_
        · intro t0
          refine Keeps.trans (pdOn_of_touch (startCount_touch ..) (by decide)) ?_
          exact Keeps.refl _ _
        · exact Keeps.refl _ _
      · exact Keeps.refl _ _
    · apply Keeps.ite
      · apply Keeps.trans (settleFord_pdOn ..)
        exact Keeps.refl _ _
      · split
        · apply Keeps.ite
          · refine Keeps.trans (pdOn_of_touch (submitCal_touch ..) (by decide)) ?_
            apply Keeps.trans (modUnit_pdOn ..)
            apply Keeps.ite
            · refine Keeps.trans (pdOn_of_touch (judgeMons_touch ..) (by decide)) ?_
              refine Keeps.trans (pdOn_of_touch (Touch.set_dacs (b := [.dacs]) (by decide) (Touch.refl _ _)) (by decide)) ?_
              exact Keeps.refl _ _
            · refine Keeps.trans (pdOn_of_touch (Touch.set_dacs (b := [.dacs]) (by decide) (Touch.refl _ _)) (by decide)) ?_
              exact Keeps.refl _ _
          · apply Keeps.ite
            · apply Keeps.trans (modUnit_pdOn ..)
              apply Keeps.ite
              · refine Keeps.trans (pdOn_of_touch (judgeMons_touch ..) (by decide)) ?_
                refine Keeps.trans (pdOn_of_touch (Touch.set_dacs (b := [.dacs]) (by decide) (Touch.refl _ _)) (by decide)) ?_
                exact Keeps.refl _ _
              · refine Keeps.trans (pdOn_of_touch (Touch.set_dacs (b := [.dacs]) (by decide) (Touch.refl _ _)) (by decide)) ?_
                exact Keeps.refl _ _
            · apply Keeps.ite
              · refine Keeps.trans (pdOn_of_touch (calOnPower_touch ..) (by decide)) ?_
                apply Keeps.trans (modUnit_pdOn ..)
                apply Keeps.trans (modUnit_pdOn ..)
                apply Keeps.ite
                · refine Keeps.trans (pdOn_of_touch (judgeMons_touch ..) (by decide)) ?_
                  refine Keeps.trans (pdOn_of_touch (Touch.set_dacs (b := [.dacs]) (by decide) (Touch.refl _ _)) (by decide)) ?_
                  exact Keeps.refl _ _
                · refine Keeps.trans (pdOn_of_touch (Touch.set_dacs (b := [.dacs]) (by decide) (Touch.refl _ _)) (by decide)) ?_
                  exact Keeps.refl _ _
              · apply Keeps.trans (modUnit_pdOn ..)
                apply Keeps.trans (modUnit_pdOn ..)
                apply Keeps.ite
                · refine Keeps.trans (pdOn_of_touch (judgeMons_touch ..) (by decide)) ?_
                  refine Keeps.trans (pdOn_of_touch (Touch.set_dacs (b := [.dacs]) (by decide) (Touch.refl _ _)) (by decide)) ?_
                  exact Keeps.refl _ _
                · refine Keeps.trans (pdOn_of_touch (Touch.set_dacs (b := [.dacs]) (by decide) (Touch.refl _ _)) (by decide)) ?_
                  exact Keeps.refl _ _
        · exact Keeps.refl _ _

theorem bootMeasure_pdOn (c : BitVec 32) (s : State) :
    Keeps (PdOnIs c) s (bootMeasure s) := by
  unfold bootMeasure
  dsimp only
  apply Keeps.foldl
  · apply Keeps.trans (openFordWith_pdOn ..)
    refine Keeps.trans (pdOn_of_touch (Touch.set_boot (b := [.boot]) (by decide) (Touch.refl _ _)) (by decide)) ?_
    exact Keeps.refl _ _
  · intro u v
    apply Keeps.ite
    · refine Keeps.trans (pdOn_of_touch (changePort_touch ..) (by decide)) ?_
      exact Keeps.refl _ _
    · exact Keeps.refl _ _

theorem bootFord_pdOn (c : BitVec 32) (s : State) :
    Keeps (PdOnIs c) s (bootFord s) := by
  unfold bootFord
  apply Keeps.ite
  · refine Keeps.trans (pdOn_of_touch (bootError_touch ..) (by decide)) ?_
    exact Keeps.refl _ _
  · apply Keeps.trans (bootMeasure_pdOn ..)
    exact Keeps.refl _ _

end Sys2Proof.Machine
end

