-- ==== Sys2Proof/Laws/Tab.lean ====
section
/-! SUPPORT. The laws of sparse tables: read after write, and the canonical form kept. -/

namespace Sys2Proof.Machine

variable {α : Type}

theorem tget_tput_same (d : α) (t : Tab α) (i : Nat) (v : α) : tget d (tput t i v) i = v := by
  induction t with
  | nil => simp [tput, tget]
  | cons e t ih =>
    obtain ⟨k, w⟩ := e
    simp only [tput]
    split
    · simp [tget]
    · split
      · simp [tget]
      · simp_all [tget]

theorem tget_tput_other (d : α) (t : Tab α) {i j : Nat} (v : α) (h : j ≠ i) :
    tget d (tput t i v) j = tget d t j := by
  induction t with
  | nil => simp [tput, tget, h]
  | cons e t ih =>
    obtain ⟨k, w⟩ := e
    simp only [tput]
    split
    · next hk => subst hk; simp [tget, h]
    · split
      · simp [tget, h]
      · simp only [tget, ih]

theorem tget_tdel_other (d : α) (t : Tab α) {i j : Nat} (h : j ≠ i) :
    tget d (tdel t i) j = tget d t j := by
  induction t with
  | nil => rfl
  | cons e t ih =>
    obtain ⟨k, w⟩ := e
    simp only [tdel]
    split
    · next hk => subst hk; simp [tget, h]
    · simp only [tget, ih]

theorem TabWfFrom.mono {d : α} {lo hi : Nat} {t : Tab α} (h : TabWfFrom d hi t) (hl : lo ≤ hi) :
    TabWfFrom d lo t := by
  cases t with
  | nil => trivial
  | cons e t => exact ⟨Nat.le_trans hl h.1, h.2⟩

theorem tget_below {d : α} {lo : Nat} {t : Tab α} (h : TabWfFrom d lo t) {i : Nat} (hi : i < lo) :
    tget d t i = d := by
  induction t generalizing lo with
  | nil => rfl
  | cons e t ih =>
    obtain ⟨k, w⟩ := e
    obtain ⟨h1, -, h3⟩ := h
    have : i ≠ k := by omega
    simp only [tget, this, if_false]
    exact ih h3 (by omega)

theorem tget_tdel_same {d : α} {lo : Nat} {t : Tab α} (h : TabWfFrom d lo t) (i : Nat) :
    tget d (tdel t i) i = d := by
  induction t generalizing lo with
  | nil => rfl
  | cons e t ih =>
    obtain ⟨k, w⟩ := e
    obtain ⟨-, -, h3⟩ := h
    simp only [tdel]
    split
    · next hk => subst hk; exact tget_below h3 (by omega)
    · next hk => simp only [tget, hk, if_false]; exact ih h3

theorem tput_wf {d : α} {lo : Nat} {t : Tab α} (h : TabWfFrom d lo t) {i : Nat} (hi : lo ≤ i) {v : α}
    (hv : v ≠ d) : TabWfFrom d lo (tput t i v) := by
  induction t generalizing lo with
  | nil => exact ⟨hi, hv, trivial⟩
  | cons e t ih =>
    obtain ⟨k, w⟩ := e
    obtain ⟨h1, h2, h3⟩ := h
    simp only [tput]
    split
    · next hk => subst hk; exact ⟨hi, hv, h3⟩
    · split
      · next hlt => exact ⟨hi, hv, by omega, h2, h3⟩
      · exact ⟨h1, h2, ih h3 (by omega)⟩

theorem tdel_wf {d : α} {lo : Nat} {t : Tab α} (h : TabWfFrom d lo t) (i : Nat) :
    TabWfFrom d lo (tdel t i) := by
  induction t generalizing lo with
  | nil => trivial
  | cons e t ih =>
    obtain ⟨k, w⟩ := e
    obtain ⟨h1, h2, h3⟩ := h
    simp only [tdel]
    split
    · exact h3.mono (by omega)
    · exact ⟨h1, h2, ih h3⟩

/-- The keys of a table in canonical form rise. -/
theorem keys_rise {d : α} {lo : Nat} {t : Tab α} (h : TabWfFrom d lo t) :
    (∀ k ∈ t.map Prod.fst, lo ≤ k) ∧ (t.map Prod.fst).Nodup := by
  induction t generalizing lo with
  | nil => simp
  | cons e t ih =>
    obtain ⟨h1, -, h3⟩ := h
    obtain ⟨i1, i2⟩ := ih h3
    rw [List.map_cons, List.nodup_cons]
    refine ⟨fun j hj => ?_, fun hj => by have := i1 _ hj; omega, i2⟩
    rcases List.mem_cons.mp hj with rfl | hj
    · exact h1
    · have := i1 j hj; omega

/-- The keys found in a table in canonical form are named once each. -/
theorem tkeys_nodup {d : α} {lo : Nat} {t : Tab α} (h : TabWfFrom d lo t) (p : Nat → α → Bool) : (tkeys t p).Nodup :=
  (keys_rise h).2.sublist (List.filter_sublist.map _)

variable [DecidableEq α]

/-- Every update keeps the canonical form. -/
theorem tset_wf {d : α} {t : Tab α} (h : TabWf d t) (i : Nat) (v : α) : TabWf d (tset d t i v) := by
  unfold tset
  split
  · exact tdel_wf h i
  · next hv => exact tput_wf h (Nat.zero_le i) hv

/-- A read after a write to the same place. -/
@[simp] theorem tget_tset_same {d : α} {t : Tab α} (h : TabWf d t) (i : Nat) (v : α) :
    tget d (tset d t i v) i = v := by
  unfold tset
  split
  · next hv => rw [tget_tdel_same h, hv]
  · exact tget_tput_same d t i v

/-- A write leaves every other place alone. -/
theorem tget_tset_other (d : α) (t : Tab α) {i j : Nat} (v : α) (h : j ≠ i) :
    tget d (tset d t i v) j = tget d t j := by
  unfold tset
  split
  · exact tget_tdel_other d t h
  · exact tget_tput_other d t v h

theorem tmod_wf {d : α} {t : Tab α} (h : TabWf d t) (i : Nat) (f : α → α) : TabWf d (tmod d t i f) :=
  tset_wf h i _

theorem tget_tmod_other (d : α) (t : Tab α) {i j : Nat} (f : α → α) (h : j ≠ i) :
    tget d (tmod d t i f) j = tget d t j := tget_tset_other d t _ h

theorem tmods_wf {d : α} {t : Tab α} (h : TabWf d t) (ks : List Nat) (f : Nat → α → α) :
    TabWf d (tmods d t ks f) := by
  unfold tmods
  induction ks generalizing t with
  | nil => exact h
  | cons k ks ih => exact ih (tmod_wf h k _)

/-- A read after the same update at many places. -/
theorem tget_tmods (d : α) (f : Nat → α → α) (hf : ∀ k x, f k (f k x) = f k x) (ks : List Nat) (t : Tab α) (h : TabWf d t) (i : Nat) :
    tget d (tmods d t ks f) i = if i ∈ ks then f i (tget d t i) else tget d t i := by
  unfold tmods
  induction ks generalizing t with
  | nil => simp
  | cons k ks ih =>
    rw [List.foldl_cons, ih _ (tmod_wf h k _)]
    by_cases e : i = k
    · subst e
      have : tget d (tmod d t i (f i)) i = f i (tget d t i) := tget_tset_same h _ _
      simp [this, hf]
    · rw [tget_tmod_other d t _ e]
      simp [e]

/-- A read after an update at places named once each. -/
theorem tget_tmods_nodup (d : α) (f : Nat → α → α) (ks : List Nat) (t : Tab α) (h : TabWf d t) (hk : ks.Nodup) (i : Nat) :
    tget d (tmods d t ks f) i = if i ∈ ks then f i (tget d t i) else tget d t i := by
  unfold tmods
  induction ks generalizing t with
  | nil => simp
  | cons k ks ih =>
    obtain ⟨h1, h2⟩ := List.nodup_cons.mp hk
    rw [List.foldl_cons, ih _ (tmod_wf h k _) h2]
    by_cases e : i = k
    · subst e
      have : tget d (tmod d t i (f i)) i = f i (tget d t i) := tget_tset_same h _ _
      simp [this, h1]
    · rw [tget_tmod_other d t _ e]; simp [e]

omit [DecidableEq α] in
/-- The keys whose entry p holds of, where p does not hold of the default. -/
theorem mem_tkeys {d : α} {lo : Nat} {t : Tab α} (h : TabWfFrom d lo t) (p : Nat → α → Bool) (i : Nat) (hp : p i d = false) :
    i ∈ tkeys t p ↔ p i (tget d t i) = true := by
  induction t generalizing lo with
  | nil => simp [tkeys, tget, hp]
  | cons e t ih =>
    obtain ⟨k, v⟩ := e
    obtain ⟨h1, h2, h3⟩ := h
    have ih := ih h3
    unfold tkeys at ih ⊢
    simp only [tget, List.filter_cons]
    by_cases e : i = k
    · subst e
      have : tget d t i = d := tget_below h3 (by omega)
      rw [this] at ih
      split
      · simp_all
      · simp_all
    · rw [if_neg e, ← ih]
      split
      · simp [e]
      · rfl

end Sys2Proof.Machine
end

