-- ==== Sys2Proof/Laws/State.lean ====
section
/-! SUPPORT. Updates of State: one lemma per field of State per update, and the read after each update. -/

namespace Sys2Proof.Machine

/-! modMb -/

section

variable (s : State) (i : Nat) (f : Mailbox → Mailbox)

@[simp] theorem modMb_pending : (modMb s i f).pending = s.pending := rfl
@[simp] theorem modMb_power : (modMb s i f).power = s.power := rfl
@[simp] theorem modMb_dev : (modMb s i f).dev = s.dev := rfl
@[simp] theorem modMb_units : (modMb s i f).units = s.units := rfl
@[simp] theorem modMb_clock : (modMb s i f).clock = s.clock := rfl
@[simp] theorem modMb_hw : (modMb s i f).hw = s.hw := rfl
@[simp] theorem modMb_boot : (modMb s i f).boot = s.boot := rfl
@[simp] theorem modMb_rr : (modMb s i f).rr = s.rr := rfl
@[simp] theorem modMb_ledger : (modMb s i f).ledger = s.ledger := rfl
@[simp] theorem modMb_order : (modMb s i f).order = s.order := rfl
@[simp] theorem modMb_cfg : (modMb s i f).cfg = s.cfg := rfl
@[simp] theorem modMb_dacs : (modMb s i f).dacs = s.dacs := rfl
@[simp] theorem modMb_corrs : (modMb s i f).corrs = s.corrs := rfl
@[simp] theorem modMb_chans : (modMb s i f).chans = s.chans := rfl
@[simp] theorem modMb_pebs : (modMb s i f).pebs = s.pebs := rfl
@[simp] theorem modMb_bursts : (modMb s i f).bursts = s.bursts := rfl
@[simp] theorem modMb_seqs : (modMb s i f).seqs = s.seqs := rfl
@[simp] theorem modMb_tdcs : (modMb s i f).tdcs = s.tdcs := rfl
@[simp] theorem modMb_tdcW : (modMb s i f).tdcW = s.tdcW := rfl
@[simp] theorem modMb_tdcLat : (modMb s i f).tdcLat = s.tdcLat := rfl
@[simp] theorem modMb_acqs : (modMb s i f).acqs = s.acqs := rfl
@[simp] theorem modMb_dps : (modMb s i f).dps = s.dps := rfl
@[simp] theorem modMb_resvs : (modMb s i f).resvs = s.resvs := rfl
@[simp] theorem modMb_lgs : (modMb s i f).lgs = s.lgs := rfl
@[simp] theorem modMb_lanes : (modMb s i f).lanes = s.lanes := rfl
@[simp] theorem modMb_queues : (modMb s i f).queues = s.queues := rfl
@[simp] theorem modMb_dmas : (modMb s i f).dmas = s.dmas := rfl
@[simp] theorem modMb_bufFree : (modMb s i f).bufFree = s.bufFree := rfl
@[simp] theorem modMb_fabric : (modMb s i f).fabric = s.fabric := rfl
@[simp] theorem modMb_press : (modMb s i f).press = s.press := rfl
@[simp] theorem modMb_house : (modMb s i f).house = s.house := rfl
@[simp] theorem modMb_levee : (modMb s i f).levee = s.levee := rfl
@[simp] theorem modMb_svc : (modMb s i f).svc = s.svc := rfl
@[simp] theorem modMb_mem : (modMb s i f).mem = s.mem := rfl
@[simp] theorem modMb_msp : (modMb s i f).msp = s.msp := rfl
@[simp] theorem modMb_jtag : (modMb s i f).jtag = s.jtag := rfl
@[simp] theorem modMb_free : (modMb s i f).free = s.free := rfl
@[simp] theorem modMb_mbs : (modMb s i f).mbs = tmod {} s.mbs i f := rfl

theorem mbOf_modMb_other {j : Nat} (h : j ≠ i) : mbOf (modMb s i f) j = mbOf s j := tget_tmod_other _ _ _ h

theorem mbOf_modMb_same (h : TabWf {} s.mbs) : mbOf (modMb s i f) i = f (mbOf s i) := tget_tset_same h _ _

end

/-! modUnit -/

section

variable (s : State) (i : Nat) (f : UnitSt → UnitSt)

@[simp] theorem modUnit_pending : (modUnit s i f).pending = s.pending := rfl
@[simp] theorem modUnit_power : (modUnit s i f).power = s.power := rfl
@[simp] theorem modUnit_dev : (modUnit s i f).dev = s.dev := rfl
@[simp] theorem modUnit_clock : (modUnit s i f).clock = s.clock := rfl
@[simp] theorem modUnit_hw : (modUnit s i f).hw = s.hw := rfl
@[simp] theorem modUnit_boot : (modUnit s i f).boot = s.boot := rfl
@[simp] theorem modUnit_mbs : (modUnit s i f).mbs = s.mbs := rfl
@[simp] theorem modUnit_rr : (modUnit s i f).rr = s.rr := rfl
@[simp] theorem modUnit_ledger : (modUnit s i f).ledger = s.ledger := rfl
@[simp] theorem modUnit_order : (modUnit s i f).order = s.order := rfl
@[simp] theorem modUnit_cfg : (modUnit s i f).cfg = s.cfg := rfl
@[simp] theorem modUnit_dacs : (modUnit s i f).dacs = s.dacs := rfl
@[simp] theorem modUnit_corrs : (modUnit s i f).corrs = s.corrs := rfl
@[simp] theorem modUnit_chans : (modUnit s i f).chans = s.chans := rfl
@[simp] theorem modUnit_pebs : (modUnit s i f).pebs = s.pebs := rfl
@[simp] theorem modUnit_bursts : (modUnit s i f).bursts = s.bursts := rfl
@[simp] theorem modUnit_seqs : (modUnit s i f).seqs = s.seqs := rfl
@[simp] theorem modUnit_tdcs : (modUnit s i f).tdcs = s.tdcs := rfl
@[simp] theorem modUnit_tdcW : (modUnit s i f).tdcW = s.tdcW := rfl
@[simp] theorem modUnit_tdcLat : (modUnit s i f).tdcLat = s.tdcLat := rfl
@[simp] theorem modUnit_acqs : (modUnit s i f).acqs = s.acqs := rfl
@[simp] theorem modUnit_dps : (modUnit s i f).dps = s.dps := rfl
@[simp] theorem modUnit_resvs : (modUnit s i f).resvs = s.resvs := rfl
@[simp] theorem modUnit_lgs : (modUnit s i f).lgs = s.lgs := rfl
@[simp] theorem modUnit_lanes : (modUnit s i f).lanes = s.lanes := rfl
@[simp] theorem modUnit_queues : (modUnit s i f).queues = s.queues := rfl
@[simp] theorem modUnit_dmas : (modUnit s i f).dmas = s.dmas := rfl
@[simp] theorem modUnit_bufFree : (modUnit s i f).bufFree = s.bufFree := rfl
@[simp] theorem modUnit_fabric : (modUnit s i f).fabric = s.fabric := rfl
@[simp] theorem modUnit_press : (modUnit s i f).press = s.press := rfl
@[simp] theorem modUnit_house : (modUnit s i f).house = s.house := rfl
@[simp] theorem modUnit_levee : (modUnit s i f).levee = s.levee := rfl
@[simp] theorem modUnit_svc : (modUnit s i f).svc = s.svc := rfl
@[simp] theorem modUnit_mem : (modUnit s i f).mem = s.mem := rfl
@[simp] theorem modUnit_msp : (modUnit s i f).msp = s.msp := rfl
@[simp] theorem modUnit_jtag : (modUnit s i f).jtag = s.jtag := rfl
@[simp] theorem modUnit_free : (modUnit s i f).free = s.free := rfl
@[simp] theorem modUnit_units : (modUnit s i f).units = tmod {} s.units i f := rfl

theorem unitOf_modUnit_other {j : Nat} (h : j ≠ i) : unitOf (modUnit s i f) j = unitOf s j := tget_tmod_other _ _ _ h

theorem unitOf_modUnit_same (h : TabWf {} s.units) : unitOf (modUnit s i f) i = f (unitOf s i) := tget_tset_same h _ _

end

/-! modSlot -/

section

variable (s : State) (i : Nat) (f : Slot → Slot)

@[simp] theorem modSlot_pending : (modSlot s i f).pending = s.pending := rfl
@[simp] theorem modSlot_power : (modSlot s i f).power = s.power := rfl
@[simp] theorem modSlot_dev : (modSlot s i f).dev = s.dev := rfl
@[simp] theorem modSlot_units : (modSlot s i f).units = s.units := rfl
@[simp] theorem modSlot_clock : (modSlot s i f).clock = s.clock := rfl
@[simp] theorem modSlot_hw : (modSlot s i f).hw = s.hw := rfl
@[simp] theorem modSlot_boot : (modSlot s i f).boot = s.boot := rfl
@[simp] theorem modSlot_mbs : (modSlot s i f).mbs = s.mbs := rfl
@[simp] theorem modSlot_rr : (modSlot s i f).rr = s.rr := rfl
@[simp] theorem modSlot_order : (modSlot s i f).order = s.order := rfl
@[simp] theorem modSlot_cfg : (modSlot s i f).cfg = s.cfg := rfl
@[simp] theorem modSlot_dacs : (modSlot s i f).dacs = s.dacs := rfl
@[simp] theorem modSlot_corrs : (modSlot s i f).corrs = s.corrs := rfl
@[simp] theorem modSlot_chans : (modSlot s i f).chans = s.chans := rfl
@[simp] theorem modSlot_pebs : (modSlot s i f).pebs = s.pebs := rfl
@[simp] theorem modSlot_bursts : (modSlot s i f).bursts = s.bursts := rfl
@[simp] theorem modSlot_seqs : (modSlot s i f).seqs = s.seqs := rfl
@[simp] theorem modSlot_tdcs : (modSlot s i f).tdcs = s.tdcs := rfl
@[simp] theorem modSlot_tdcW : (modSlot s i f).tdcW = s.tdcW := rfl
@[simp] theorem modSlot_tdcLat : (modSlot s i f).tdcLat = s.tdcLat := rfl
@[simp] theorem modSlot_acqs : (modSlot s i f).acqs = s.acqs := rfl
@[simp] theorem modSlot_dps : (modSlot s i f).dps = s.dps := rfl
@[simp] theorem modSlot_resvs : (modSlot s i f).resvs = s.resvs := rfl
@[simp] theorem modSlot_lgs : (modSlot s i f).lgs = s.lgs := rfl
@[simp] theorem modSlot_lanes : (modSlot s i f).lanes = s.lanes := rfl
@[simp] theorem modSlot_queues : (modSlot s i f).queues = s.queues := rfl
@[simp] theorem modSlot_dmas : (modSlot s i f).dmas = s.dmas := rfl
@[simp] theorem modSlot_bufFree : (modSlot s i f).bufFree = s.bufFree := rfl
@[simp] theorem modSlot_fabric : (modSlot s i f).fabric = s.fabric := rfl
@[simp] theorem modSlot_press : (modSlot s i f).press = s.press := rfl
@[simp] theorem modSlot_house : (modSlot s i f).house = s.house := rfl
@[simp] theorem modSlot_levee : (modSlot s i f).levee = s.levee := rfl
@[simp] theorem modSlot_svc : (modSlot s i f).svc = s.svc := rfl
@[simp] theorem modSlot_mem : (modSlot s i f).mem = s.mem := rfl
@[simp] theorem modSlot_msp : (modSlot s i f).msp = s.msp := rfl
@[simp] theorem modSlot_jtag : (modSlot s i f).jtag = s.jtag := rfl
@[simp] theorem modSlot_free : (modSlot s i f).free = s.free := rfl
@[simp] theorem modSlot_ledger : (modSlot s i f).ledger = tmod {} s.ledger i f := rfl

theorem slotOf_modSlot_other {j : Nat} (h : j ≠ i) : slotOf (modSlot s i f) j = slotOf s j := tget_tmod_other _ _ _ h

theorem slotOf_modSlot_same (h : TabWf {} s.ledger) : slotOf (modSlot s i f) i = f (slotOf s i) := tget_tset_same h _ _

end

/-! modQueue -/

section

variable (s : State) (i : Nat) (f : Queue → Queue)

@[simp] theorem modQueue_pending : (modQueue s i f).pending = s.pending := rfl
@[simp] theorem modQueue_power : (modQueue s i f).power = s.power := rfl
@[simp] theorem modQueue_dev : (modQueue s i f).dev = s.dev := rfl
@[simp] theorem modQueue_units : (modQueue s i f).units = s.units := rfl
@[simp] theorem modQueue_clock : (modQueue s i f).clock = s.clock := rfl
@[simp] theorem modQueue_hw : (modQueue s i f).hw = s.hw := rfl
@[simp] theorem modQueue_boot : (modQueue s i f).boot = s.boot := rfl
@[simp] theorem modQueue_mbs : (modQueue s i f).mbs = s.mbs := rfl
@[simp] theorem modQueue_rr : (modQueue s i f).rr = s.rr := rfl
@[simp] theorem modQueue_ledger : (modQueue s i f).ledger = s.ledger := rfl
@[simp] theorem modQueue_order : (modQueue s i f).order = s.order := rfl
@[simp] theorem modQueue_cfg : (modQueue s i f).cfg = s.cfg := rfl
@[simp] theorem modQueue_dacs : (modQueue s i f).dacs = s.dacs := rfl
@[simp] theorem modQueue_corrs : (modQueue s i f).corrs = s.corrs := rfl
@[simp] theorem modQueue_chans : (modQueue s i f).chans = s.chans := rfl
@[simp] theorem modQueue_pebs : (modQueue s i f).pebs = s.pebs := rfl
@[simp] theorem modQueue_bursts : (modQueue s i f).bursts = s.bursts := rfl
@[simp] theorem modQueue_seqs : (modQueue s i f).seqs = s.seqs := rfl
@[simp] theorem modQueue_tdcs : (modQueue s i f).tdcs = s.tdcs := rfl
@[simp] theorem modQueue_tdcW : (modQueue s i f).tdcW = s.tdcW := rfl
@[simp] theorem modQueue_tdcLat : (modQueue s i f).tdcLat = s.tdcLat := rfl
@[simp] theorem modQueue_acqs : (modQueue s i f).acqs = s.acqs := rfl
@[simp] theorem modQueue_dps : (modQueue s i f).dps = s.dps := rfl
@[simp] theorem modQueue_resvs : (modQueue s i f).resvs = s.resvs := rfl
@[simp] theorem modQueue_lgs : (modQueue s i f).lgs = s.lgs := rfl
@[simp] theorem modQueue_lanes : (modQueue s i f).lanes = s.lanes := rfl
@[simp] theorem modQueue_dmas : (modQueue s i f).dmas = s.dmas := rfl
@[simp] theorem modQueue_bufFree : (modQueue s i f).bufFree = s.bufFree := rfl
@[simp] theorem modQueue_fabric : (modQueue s i f).fabric = s.fabric := rfl
@[simp] theorem modQueue_press : (modQueue s i f).press = s.press := rfl
@[simp] theorem modQueue_house : (modQueue s i f).house = s.house := rfl
@[simp] theorem modQueue_levee : (modQueue s i f).levee = s.levee := rfl
@[simp] theorem modQueue_svc : (modQueue s i f).svc = s.svc := rfl
@[simp] theorem modQueue_mem : (modQueue s i f).mem = s.mem := rfl
@[simp] theorem modQueue_msp : (modQueue s i f).msp = s.msp := rfl
@[simp] theorem modQueue_jtag : (modQueue s i f).jtag = s.jtag := rfl
@[simp] theorem modQueue_free : (modQueue s i f).free = s.free := rfl
@[simp] theorem modQueue_queues : (modQueue s i f).queues = tmod {} s.queues i f := rfl

theorem queueOf_modQueue_other {j : Nat} (h : j ≠ i) : queueOf (modQueue s i f) j = queueOf s j := tget_tmod_other _ _ _ h

theorem queueOf_modQueue_same (h : TabWf {} s.queues) : queueOf (modQueue s i f) i = f (queueOf s i) := tget_tset_same h _ _

end

/-! modBurst -/

section

variable (s : State) (i : Nat) (f : Burst → Burst)

@[simp] theorem modBurst_pending : (modBurst s i f).pending = s.pending := rfl
@[simp] theorem modBurst_power : (modBurst s i f).power = s.power := rfl
@[simp] theorem modBurst_dev : (modBurst s i f).dev = s.dev := rfl
@[simp] theorem modBurst_units : (modBurst s i f).units = s.units := rfl
@[simp] theorem modBurst_clock : (modBurst s i f).clock = s.clock := rfl
@[simp] theorem modBurst_hw : (modBurst s i f).hw = s.hw := rfl
@[simp] theorem modBurst_boot : (modBurst s i f).boot = s.boot := rfl
@[simp] theorem modBurst_mbs : (modBurst s i f).mbs = s.mbs := rfl
@[simp] theorem modBurst_rr : (modBurst s i f).rr = s.rr := rfl
@[simp] theorem modBurst_ledger : (modBurst s i f).ledger = s.ledger := rfl
@[simp] theorem modBurst_order : (modBurst s i f).order = s.order := rfl
@[simp] theorem modBurst_cfg : (modBurst s i f).cfg = s.cfg := rfl
@[simp] theorem modBurst_dacs : (modBurst s i f).dacs = s.dacs := rfl
@[simp] theorem modBurst_corrs : (modBurst s i f).corrs = s.corrs := rfl
@[simp] theorem modBurst_chans : (modBurst s i f).chans = s.chans := rfl
@[simp] theorem modBurst_pebs : (modBurst s i f).pebs = s.pebs := rfl
@[simp] theorem modBurst_seqs : (modBurst s i f).seqs = s.seqs := rfl
@[simp] theorem modBurst_tdcs : (modBurst s i f).tdcs = s.tdcs := rfl
@[simp] theorem modBurst_tdcW : (modBurst s i f).tdcW = s.tdcW := rfl
@[simp] theorem modBurst_tdcLat : (modBurst s i f).tdcLat = s.tdcLat := rfl
@[simp] theorem modBurst_acqs : (modBurst s i f).acqs = s.acqs := rfl
@[simp] theorem modBurst_dps : (modBurst s i f).dps = s.dps := rfl
@[simp] theorem modBurst_resvs : (modBurst s i f).resvs = s.resvs := rfl
@[simp] theorem modBurst_lgs : (modBurst s i f).lgs = s.lgs := rfl
@[simp] theorem modBurst_lanes : (modBurst s i f).lanes = s.lanes := rfl
@[simp] theorem modBurst_queues : (modBurst s i f).queues = s.queues := rfl
@[simp] theorem modBurst_dmas : (modBurst s i f).dmas = s.dmas := rfl
@[simp] theorem modBurst_bufFree : (modBurst s i f).bufFree = s.bufFree := rfl
@[simp] theorem modBurst_fabric : (modBurst s i f).fabric = s.fabric := rfl
@[simp] theorem modBurst_press : (modBurst s i f).press = s.press := rfl
@[simp] theorem modBurst_house : (modBurst s i f).house = s.house := rfl
@[simp] theorem modBurst_levee : (modBurst s i f).levee = s.levee := rfl
@[simp] theorem modBurst_svc : (modBurst s i f).svc = s.svc := rfl
@[simp] theorem modBurst_mem : (modBurst s i f).mem = s.mem := rfl
@[simp] theorem modBurst_msp : (modBurst s i f).msp = s.msp := rfl
@[simp] theorem modBurst_jtag : (modBurst s i f).jtag = s.jtag := rfl
@[simp] theorem modBurst_free : (modBurst s i f).free = s.free := rfl
@[simp] theorem modBurst_bursts : (modBurst s i f).bursts = tmod {} s.bursts i f := rfl

theorem burstOf_modBurst_other {j : Nat} (h : j ≠ i) : burstOf (modBurst s i f) j = burstOf s j := tget_tmod_other _ _ _ h

theorem burstOf_modBurst_same (h : TabWf {} s.bursts) : burstOf (modBurst s i f) i = f (burstOf s i) := tget_tset_same h _ _

end

/-! modPeb -/

section

variable (s : State) (i : Nat) (f : Peb → Peb)

@[simp] theorem modPeb_pending : (modPeb s i f).pending = s.pending := rfl
@[simp] theorem modPeb_power : (modPeb s i f).power = s.power := rfl
@[simp] theorem modPeb_dev : (modPeb s i f).dev = s.dev := rfl
@[simp] theorem modPeb_units : (modPeb s i f).units = s.units := rfl
@[simp] theorem modPeb_clock : (modPeb s i f).clock = s.clock := rfl
@[simp] theorem modPeb_hw : (modPeb s i f).hw = s.hw := rfl
@[simp] theorem modPeb_boot : (modPeb s i f).boot = s.boot := rfl
@[simp] theorem modPeb_mbs : (modPeb s i f).mbs = s.mbs := rfl
@[simp] theorem modPeb_rr : (modPeb s i f).rr = s.rr := rfl
@[simp] theorem modPeb_ledger : (modPeb s i f).ledger = s.ledger := rfl
@[simp] theorem modPeb_order : (modPeb s i f).order = s.order := rfl
@[simp] theorem modPeb_cfg : (modPeb s i f).cfg = s.cfg := rfl
@[simp] theorem modPeb_dacs : (modPeb s i f).dacs = s.dacs := rfl
@[simp] theorem modPeb_corrs : (modPeb s i f).corrs = s.corrs := rfl
@[simp] theorem modPeb_chans : (modPeb s i f).chans = s.chans := rfl
@[simp] theorem modPeb_bursts : (modPeb s i f).bursts = s.bursts := rfl
@[simp] theorem modPeb_seqs : (modPeb s i f).seqs = s.seqs := rfl
@[simp] theorem modPeb_tdcs : (modPeb s i f).tdcs = s.tdcs := rfl
@[simp] theorem modPeb_tdcW : (modPeb s i f).tdcW = s.tdcW := rfl
@[simp] theorem modPeb_tdcLat : (modPeb s i f).tdcLat = s.tdcLat := rfl
@[simp] theorem modPeb_acqs : (modPeb s i f).acqs = s.acqs := rfl
@[simp] theorem modPeb_dps : (modPeb s i f).dps = s.dps := rfl
@[simp] theorem modPeb_resvs : (modPeb s i f).resvs = s.resvs := rfl
@[simp] theorem modPeb_lgs : (modPeb s i f).lgs = s.lgs := rfl
@[simp] theorem modPeb_lanes : (modPeb s i f).lanes = s.lanes := rfl
@[simp] theorem modPeb_queues : (modPeb s i f).queues = s.queues := rfl
@[simp] theorem modPeb_dmas : (modPeb s i f).dmas = s.dmas := rfl
@[simp] theorem modPeb_bufFree : (modPeb s i f).bufFree = s.bufFree := rfl
@[simp] theorem modPeb_fabric : (modPeb s i f).fabric = s.fabric := rfl
@[simp] theorem modPeb_press : (modPeb s i f).press = s.press := rfl
@[simp] theorem modPeb_house : (modPeb s i f).house = s.house := rfl
@[simp] theorem modPeb_levee : (modPeb s i f).levee = s.levee := rfl
@[simp] theorem modPeb_svc : (modPeb s i f).svc = s.svc := rfl
@[simp] theorem modPeb_mem : (modPeb s i f).mem = s.mem := rfl
@[simp] theorem modPeb_msp : (modPeb s i f).msp = s.msp := rfl
@[simp] theorem modPeb_jtag : (modPeb s i f).jtag = s.jtag := rfl
@[simp] theorem modPeb_free : (modPeb s i f).free = s.free := rfl
@[simp] theorem modPeb_pebs : (modPeb s i f).pebs = tmod {} s.pebs i f := rfl

theorem pebOf_modPeb_other {j : Nat} (h : j ≠ i) : pebOf (modPeb s i f) j = pebOf s j := tget_tmod_other _ _ _ h

theorem pebOf_modPeb_same (h : TabWf {} s.pebs) : pebOf (modPeb s i f) i = f (pebOf s i) := tget_tset_same h _ _

end

/-! modChan -/

section

variable (s : State) (i : Nat) (f : Chan → Chan)

@[simp] theorem modChan_pending : (modChan s i f).pending = s.pending := rfl
@[simp] theorem modChan_power : (modChan s i f).power = s.power := rfl
@[simp] theorem modChan_dev : (modChan s i f).dev = s.dev := rfl
@[simp] theorem modChan_units : (modChan s i f).units = s.units := rfl
@[simp] theorem modChan_clock : (modChan s i f).clock = s.clock := rfl
@[simp] theorem modChan_hw : (modChan s i f).hw = s.hw := rfl
@[simp] theorem modChan_boot : (modChan s i f).boot = s.boot := rfl
@[simp] theorem modChan_mbs : (modChan s i f).mbs = s.mbs := rfl
@[simp] theorem modChan_rr : (modChan s i f).rr = s.rr := rfl
@[simp] theorem modChan_ledger : (modChan s i f).ledger = s.ledger := rfl
@[simp] theorem modChan_order : (modChan s i f).order = s.order := rfl
@[simp] theorem modChan_cfg : (modChan s i f).cfg = s.cfg := rfl
@[simp] theorem modChan_dacs : (modChan s i f).dacs = s.dacs := rfl
@[simp] theorem modChan_corrs : (modChan s i f).corrs = s.corrs := rfl
@[simp] theorem modChan_pebs : (modChan s i f).pebs = s.pebs := rfl
@[simp] theorem modChan_bursts : (modChan s i f).bursts = s.bursts := rfl
@[simp] theorem modChan_seqs : (modChan s i f).seqs = s.seqs := rfl
@[simp] theorem modChan_tdcs : (modChan s i f).tdcs = s.tdcs := rfl
@[simp] theorem modChan_tdcW : (modChan s i f).tdcW = s.tdcW := rfl
@[simp] theorem modChan_tdcLat : (modChan s i f).tdcLat = s.tdcLat := rfl
@[simp] theorem modChan_acqs : (modChan s i f).acqs = s.acqs := rfl
@[simp] theorem modChan_dps : (modChan s i f).dps = s.dps := rfl
@[simp] theorem modChan_resvs : (modChan s i f).resvs = s.resvs := rfl
@[simp] theorem modChan_lgs : (modChan s i f).lgs = s.lgs := rfl
@[simp] theorem modChan_lanes : (modChan s i f).lanes = s.lanes := rfl
@[simp] theorem modChan_queues : (modChan s i f).queues = s.queues := rfl
@[simp] theorem modChan_dmas : (modChan s i f).dmas = s.dmas := rfl
@[simp] theorem modChan_bufFree : (modChan s i f).bufFree = s.bufFree := rfl
@[simp] theorem modChan_fabric : (modChan s i f).fabric = s.fabric := rfl
@[simp] theorem modChan_press : (modChan s i f).press = s.press := rfl
@[simp] theorem modChan_house : (modChan s i f).house = s.house := rfl
@[simp] theorem modChan_levee : (modChan s i f).levee = s.levee := rfl
@[simp] theorem modChan_svc : (modChan s i f).svc = s.svc := rfl
@[simp] theorem modChan_mem : (modChan s i f).mem = s.mem := rfl
@[simp] theorem modChan_msp : (modChan s i f).msp = s.msp := rfl
@[simp] theorem modChan_jtag : (modChan s i f).jtag = s.jtag := rfl
@[simp] theorem modChan_free : (modChan s i f).free = s.free := rfl
@[simp] theorem modChan_chans : (modChan s i f).chans = tmod {} s.chans i f := rfl

theorem chanOf_modChan_other {j : Nat} (h : j ≠ i) : chanOf (modChan s i f) j = chanOf s j := tget_tmod_other _ _ _ h

theorem chanOf_modChan_same (h : TabWf {} s.chans) : chanOf (modChan s i f) i = f (chanOf s i) := tget_tset_same h _ _

end

/-! modTdc -/

section

variable (s : State) (i : Nat) (f : Tdc → Tdc)

@[simp] theorem modTdc_pending : (modTdc s i f).pending = s.pending := rfl
@[simp] theorem modTdc_power : (modTdc s i f).power = s.power := rfl
@[simp] theorem modTdc_dev : (modTdc s i f).dev = s.dev := rfl
@[simp] theorem modTdc_units : (modTdc s i f).units = s.units := rfl
@[simp] theorem modTdc_clock : (modTdc s i f).clock = s.clock := rfl
@[simp] theorem modTdc_hw : (modTdc s i f).hw = s.hw := rfl
@[simp] theorem modTdc_boot : (modTdc s i f).boot = s.boot := rfl
@[simp] theorem modTdc_mbs : (modTdc s i f).mbs = s.mbs := rfl
@[simp] theorem modTdc_rr : (modTdc s i f).rr = s.rr := rfl
@[simp] theorem modTdc_ledger : (modTdc s i f).ledger = s.ledger := rfl
@[simp] theorem modTdc_order : (modTdc s i f).order = s.order := rfl
@[simp] theorem modTdc_cfg : (modTdc s i f).cfg = s.cfg := rfl
@[simp] theorem modTdc_dacs : (modTdc s i f).dacs = s.dacs := rfl
@[simp] theorem modTdc_corrs : (modTdc s i f).corrs = s.corrs := rfl
@[simp] theorem modTdc_chans : (modTdc s i f).chans = s.chans := rfl
@[simp] theorem modTdc_pebs : (modTdc s i f).pebs = s.pebs := rfl
@[simp] theorem modTdc_bursts : (modTdc s i f).bursts = s.bursts := rfl
@[simp] theorem modTdc_seqs : (modTdc s i f).seqs = s.seqs := rfl
@[simp] theorem modTdc_tdcW : (modTdc s i f).tdcW = s.tdcW := rfl
@[simp] theorem modTdc_tdcLat : (modTdc s i f).tdcLat = s.tdcLat := rfl
@[simp] theorem modTdc_acqs : (modTdc s i f).acqs = s.acqs := rfl
@[simp] theorem modTdc_dps : (modTdc s i f).dps = s.dps := rfl
@[simp] theorem modTdc_resvs : (modTdc s i f).resvs = s.resvs := rfl
@[simp] theorem modTdc_lgs : (modTdc s i f).lgs = s.lgs := rfl
@[simp] theorem modTdc_lanes : (modTdc s i f).lanes = s.lanes := rfl
@[simp] theorem modTdc_queues : (modTdc s i f).queues = s.queues := rfl
@[simp] theorem modTdc_dmas : (modTdc s i f).dmas = s.dmas := rfl
@[simp] theorem modTdc_bufFree : (modTdc s i f).bufFree = s.bufFree := rfl
@[simp] theorem modTdc_fabric : (modTdc s i f).fabric = s.fabric := rfl
@[simp] theorem modTdc_press : (modTdc s i f).press = s.press := rfl
@[simp] theorem modTdc_house : (modTdc s i f).house = s.house := rfl
@[simp] theorem modTdc_levee : (modTdc s i f).levee = s.levee := rfl
@[simp] theorem modTdc_svc : (modTdc s i f).svc = s.svc := rfl
@[simp] theorem modTdc_mem : (modTdc s i f).mem = s.mem := rfl
@[simp] theorem modTdc_msp : (modTdc s i f).msp = s.msp := rfl
@[simp] theorem modTdc_jtag : (modTdc s i f).jtag = s.jtag := rfl
@[simp] theorem modTdc_free : (modTdc s i f).free = s.free := rfl
@[simp] theorem modTdc_tdcs : (modTdc s i f).tdcs = tmod {} s.tdcs i f := rfl

theorem tdcOf_modTdc_other {j : Nat} (h : j ≠ i) : tdcOf (modTdc s i f) j = tdcOf s j := tget_tmod_other _ _ _ h

theorem tdcOf_modTdc_same (h : TabWf {} s.tdcs) : tdcOf (modTdc s i f) i = f (tdcOf s i) := tget_tset_same h _ _

end

/-! modDma -/

section

variable (s : State) (i : Nat) (f : Dma → Dma)

@[simp] theorem modDma_pending : (modDma s i f).pending = s.pending := rfl
@[simp] theorem modDma_power : (modDma s i f).power = s.power := rfl
@[simp] theorem modDma_dev : (modDma s i f).dev = s.dev := rfl
@[simp] theorem modDma_units : (modDma s i f).units = s.units := rfl
@[simp] theorem modDma_clock : (modDma s i f).clock = s.clock := rfl
@[simp] theorem modDma_hw : (modDma s i f).hw = s.hw := rfl
@[simp] theorem modDma_boot : (modDma s i f).boot = s.boot := rfl
@[simp] theorem modDma_mbs : (modDma s i f).mbs = s.mbs := rfl
@[simp] theorem modDma_rr : (modDma s i f).rr = s.rr := rfl
@[simp] theorem modDma_ledger : (modDma s i f).ledger = s.ledger := rfl
@[simp] theorem modDma_order : (modDma s i f).order = s.order := rfl
@[simp] theorem modDma_cfg : (modDma s i f).cfg = s.cfg := rfl
@[simp] theorem modDma_dacs : (modDma s i f).dacs = s.dacs := rfl
@[simp] theorem modDma_corrs : (modDma s i f).corrs = s.corrs := rfl
@[simp] theorem modDma_chans : (modDma s i f).chans = s.chans := rfl
@[simp] theorem modDma_pebs : (modDma s i f).pebs = s.pebs := rfl
@[simp] theorem modDma_bursts : (modDma s i f).bursts = s.bursts := rfl
@[simp] theorem modDma_seqs : (modDma s i f).seqs = s.seqs := rfl
@[simp] theorem modDma_tdcs : (modDma s i f).tdcs = s.tdcs := rfl
@[simp] theorem modDma_tdcW : (modDma s i f).tdcW = s.tdcW := rfl
@[simp] theorem modDma_tdcLat : (modDma s i f).tdcLat = s.tdcLat := rfl
@[simp] theorem modDma_acqs : (modDma s i f).acqs = s.acqs := rfl
@[simp] theorem modDma_dps : (modDma s i f).dps = s.dps := rfl
@[simp] theorem modDma_resvs : (modDma s i f).resvs = s.resvs := rfl
@[simp] theorem modDma_lgs : (modDma s i f).lgs = s.lgs := rfl
@[simp] theorem modDma_lanes : (modDma s i f).lanes = s.lanes := rfl
@[simp] theorem modDma_queues : (modDma s i f).queues = s.queues := rfl
@[simp] theorem modDma_bufFree : (modDma s i f).bufFree = s.bufFree := rfl
@[simp] theorem modDma_fabric : (modDma s i f).fabric = s.fabric := rfl
@[simp] theorem modDma_press : (modDma s i f).press = s.press := rfl
@[simp] theorem modDma_house : (modDma s i f).house = s.house := rfl
@[simp] theorem modDma_levee : (modDma s i f).levee = s.levee := rfl
@[simp] theorem modDma_svc : (modDma s i f).svc = s.svc := rfl
@[simp] theorem modDma_mem : (modDma s i f).mem = s.mem := rfl
@[simp] theorem modDma_msp : (modDma s i f).msp = s.msp := rfl
@[simp] theorem modDma_jtag : (modDma s i f).jtag = s.jtag := rfl
@[simp] theorem modDma_free : (modDma s i f).free = s.free := rfl
@[simp] theorem modDma_dmas : (modDma s i f).dmas = tmod {} s.dmas i f := rfl

theorem dmaOf_modDma_other {j : Nat} (h : j ≠ i) : dmaOf (modDma s i f) j = dmaOf s j := tget_tmod_other _ _ _ h

theorem dmaOf_modDma_same (h : TabWf {} s.dmas) : dmaOf (modDma s i f) i = f (dmaOf s i) := tget_tset_same h _ _

end

/-! modLane -/

section

variable (s : State) (i : Nat) (f : Lane → Lane)

@[simp] theorem modLane_pending : (modLane s i f).pending = s.pending := rfl
@[simp] theorem modLane_power : (modLane s i f).power = s.power := rfl
@[simp] theorem modLane_dev : (modLane s i f).dev = s.dev := rfl
@[simp] theorem modLane_units : (modLane s i f).units = s.units := rfl
@[simp] theorem modLane_clock : (modLane s i f).clock = s.clock := rfl
@[simp] theorem modLane_hw : (modLane s i f).hw = s.hw := rfl
@[simp] theorem modLane_boot : (modLane s i f).boot = s.boot := rfl
@[simp] theorem modLane_mbs : (modLane s i f).mbs = s.mbs := rfl
@[simp] theorem modLane_rr : (modLane s i f).rr = s.rr := rfl
@[simp] theorem modLane_ledger : (modLane s i f).ledger = s.ledger := rfl
@[simp] theorem modLane_order : (modLane s i f).order = s.order := rfl
@[simp] theorem modLane_cfg : (modLane s i f).cfg = s.cfg := rfl
@[simp] theorem modLane_dacs : (modLane s i f).dacs = s.dacs := rfl
@[simp] theorem modLane_corrs : (modLane s i f).corrs = s.corrs := rfl
@[simp] theorem modLane_chans : (modLane s i f).chans = s.chans := rfl
@[simp] theorem modLane_pebs : (modLane s i f).pebs = s.pebs := rfl
@[simp] theorem modLane_bursts : (modLane s i f).bursts = s.bursts := rfl
@[simp] theorem modLane_seqs : (modLane s i f).seqs = s.seqs := rfl
@[simp] theorem modLane_tdcs : (modLane s i f).tdcs = s.tdcs := rfl
@[simp] theorem modLane_tdcW : (modLane s i f).tdcW = s.tdcW := rfl
@[simp] theorem modLane_tdcLat : (modLane s i f).tdcLat = s.tdcLat := rfl
@[simp] theorem modLane_acqs : (modLane s i f).acqs = s.acqs := rfl
@[simp] theorem modLane_dps : (modLane s i f).dps = s.dps := rfl
@[simp] theorem modLane_resvs : (modLane s i f).resvs = s.resvs := rfl
@[simp] theorem modLane_lgs : (modLane s i f).lgs = s.lgs := rfl
@[simp] theorem modLane_queues : (modLane s i f).queues = s.queues := rfl
@[simp] theorem modLane_dmas : (modLane s i f).dmas = s.dmas := rfl
@[simp] theorem modLane_bufFree : (modLane s i f).bufFree = s.bufFree := rfl
@[simp] theorem modLane_fabric : (modLane s i f).fabric = s.fabric := rfl
@[simp] theorem modLane_press : (modLane s i f).press = s.press := rfl
@[simp] theorem modLane_house : (modLane s i f).house = s.house := rfl
@[simp] theorem modLane_levee : (modLane s i f).levee = s.levee := rfl
@[simp] theorem modLane_svc : (modLane s i f).svc = s.svc := rfl
@[simp] theorem modLane_mem : (modLane s i f).mem = s.mem := rfl
@[simp] theorem modLane_msp : (modLane s i f).msp = s.msp := rfl
@[simp] theorem modLane_jtag : (modLane s i f).jtag = s.jtag := rfl
@[simp] theorem modLane_free : (modLane s i f).free = s.free := rfl
@[simp] theorem modLane_lanes : (modLane s i f).lanes = tmod {} s.lanes i f := rfl

theorem laneOf_modLane_other {j : Nat} (h : j ≠ i) : laneOf (modLane s i f) j = laneOf s j := tget_tmod_other _ _ _ h

theorem laneOf_modLane_same (h : TabWf {} s.lanes) : laneOf (modLane s i f) i = f (laneOf s i) := tget_tset_same h _ _

end

/-! modDps -/

section

variable (s : State) (i : Nat) (f : Dps → Dps)

@[simp] theorem modDps_pending : (modDps s i f).pending = s.pending := rfl
@[simp] theorem modDps_power : (modDps s i f).power = s.power := rfl
@[simp] theorem modDps_dev : (modDps s i f).dev = s.dev := rfl
@[simp] theorem modDps_units : (modDps s i f).units = s.units := rfl
@[simp] theorem modDps_clock : (modDps s i f).clock = s.clock := rfl
@[simp] theorem modDps_hw : (modDps s i f).hw = s.hw := rfl
@[simp] theorem modDps_boot : (modDps s i f).boot = s.boot := rfl
@[simp] theorem modDps_mbs : (modDps s i f).mbs = s.mbs := rfl
@[simp] theorem modDps_rr : (modDps s i f).rr = s.rr := rfl
@[simp] theorem modDps_ledger : (modDps s i f).ledger = s.ledger := rfl
@[simp] theorem modDps_order : (modDps s i f).order = s.order := rfl
@[simp] theorem modDps_cfg : (modDps s i f).cfg = s.cfg := rfl
@[simp] theorem modDps_dacs : (modDps s i f).dacs = s.dacs := rfl
@[simp] theorem modDps_corrs : (modDps s i f).corrs = s.corrs := rfl
@[simp] theorem modDps_chans : (modDps s i f).chans = s.chans := rfl
@[simp] theorem modDps_pebs : (modDps s i f).pebs = s.pebs := rfl
@[simp] theorem modDps_bursts : (modDps s i f).bursts = s.bursts := rfl
@[simp] theorem modDps_seqs : (modDps s i f).seqs = s.seqs := rfl
@[simp] theorem modDps_tdcs : (modDps s i f).tdcs = s.tdcs := rfl
@[simp] theorem modDps_tdcW : (modDps s i f).tdcW = s.tdcW := rfl
@[simp] theorem modDps_tdcLat : (modDps s i f).tdcLat = s.tdcLat := rfl
@[simp] theorem modDps_acqs : (modDps s i f).acqs = s.acqs := rfl
@[simp] theorem modDps_resvs : (modDps s i f).resvs = s.resvs := rfl
@[simp] theorem modDps_lgs : (modDps s i f).lgs = s.lgs := rfl
@[simp] theorem modDps_lanes : (modDps s i f).lanes = s.lanes := rfl
@[simp] theorem modDps_queues : (modDps s i f).queues = s.queues := rfl
@[simp] theorem modDps_dmas : (modDps s i f).dmas = s.dmas := rfl
@[simp] theorem modDps_bufFree : (modDps s i f).bufFree = s.bufFree := rfl
@[simp] theorem modDps_fabric : (modDps s i f).fabric = s.fabric := rfl
@[simp] theorem modDps_press : (modDps s i f).press = s.press := rfl
@[simp] theorem modDps_house : (modDps s i f).house = s.house := rfl
@[simp] theorem modDps_levee : (modDps s i f).levee = s.levee := rfl
@[simp] theorem modDps_svc : (modDps s i f).svc = s.svc := rfl
@[simp] theorem modDps_mem : (modDps s i f).mem = s.mem := rfl
@[simp] theorem modDps_msp : (modDps s i f).msp = s.msp := rfl
@[simp] theorem modDps_jtag : (modDps s i f).jtag = s.jtag := rfl
@[simp] theorem modDps_free : (modDps s i f).free = s.free := rfl
@[simp] theorem modDps_dps : (modDps s i f).dps = tmod {} s.dps i f := rfl

theorem dpsOf_modDps_other {j : Nat} (h : j ≠ i) : dpsOf (modDps s i f) j = dpsOf s j := tget_tmod_other _ _ _ h

theorem dpsOf_modDps_same (h : TabWf {} s.dps) : dpsOf (modDps s i f) i = f (dpsOf s i) := tget_tset_same h _ _

end

/-! modDac -/

section

variable (s : State) (i : Nat) (f : Dac → Dac)

@[simp] theorem modDac_pending : (modDac s i f).pending = s.pending := rfl
@[simp] theorem modDac_power : (modDac s i f).power = s.power := rfl
@[simp] theorem modDac_dev : (modDac s i f).dev = s.dev := rfl
@[simp] theorem modDac_units : (modDac s i f).units = s.units := rfl
@[simp] theorem modDac_clock : (modDac s i f).clock = s.clock := rfl
@[simp] theorem modDac_hw : (modDac s i f).hw = s.hw := rfl
@[simp] theorem modDac_boot : (modDac s i f).boot = s.boot := rfl
@[simp] theorem modDac_mbs : (modDac s i f).mbs = s.mbs := rfl
@[simp] theorem modDac_rr : (modDac s i f).rr = s.rr := rfl
@[simp] theorem modDac_ledger : (modDac s i f).ledger = s.ledger := rfl
@[simp] theorem modDac_order : (modDac s i f).order = s.order := rfl
@[simp] theorem modDac_cfg : (modDac s i f).cfg = s.cfg := rfl
@[simp] theorem modDac_corrs : (modDac s i f).corrs = s.corrs := rfl
@[simp] theorem modDac_chans : (modDac s i f).chans = s.chans := rfl
@[simp] theorem modDac_pebs : (modDac s i f).pebs = s.pebs := rfl
@[simp] theorem modDac_bursts : (modDac s i f).bursts = s.bursts := rfl
@[simp] theorem modDac_seqs : (modDac s i f).seqs = s.seqs := rfl
@[simp] theorem modDac_tdcs : (modDac s i f).tdcs = s.tdcs := rfl
@[simp] theorem modDac_tdcW : (modDac s i f).tdcW = s.tdcW := rfl
@[simp] theorem modDac_tdcLat : (modDac s i f).tdcLat = s.tdcLat := rfl
@[simp] theorem modDac_acqs : (modDac s i f).acqs = s.acqs := rfl
@[simp] theorem modDac_dps : (modDac s i f).dps = s.dps := rfl
@[simp] theorem modDac_resvs : (modDac s i f).resvs = s.resvs := rfl
@[simp] theorem modDac_lgs : (modDac s i f).lgs = s.lgs := rfl
@[simp] theorem modDac_lanes : (modDac s i f).lanes = s.lanes := rfl
@[simp] theorem modDac_queues : (modDac s i f).queues = s.queues := rfl
@[simp] theorem modDac_dmas : (modDac s i f).dmas = s.dmas := rfl
@[simp] theorem modDac_bufFree : (modDac s i f).bufFree = s.bufFree := rfl
@[simp] theorem modDac_fabric : (modDac s i f).fabric = s.fabric := rfl
@[simp] theorem modDac_press : (modDac s i f).press = s.press := rfl
@[simp] theorem modDac_house : (modDac s i f).house = s.house := rfl
@[simp] theorem modDac_levee : (modDac s i f).levee = s.levee := rfl
@[simp] theorem modDac_svc : (modDac s i f).svc = s.svc := rfl
@[simp] theorem modDac_mem : (modDac s i f).mem = s.mem := rfl
@[simp] theorem modDac_msp : (modDac s i f).msp = s.msp := rfl
@[simp] theorem modDac_jtag : (modDac s i f).jtag = s.jtag := rfl
@[simp] theorem modDac_free : (modDac s i f).free = s.free := rfl
@[simp] theorem modDac_dacs : (modDac s i f).dacs = tmod {} s.dacs i f := rfl

theorem dacOf_modDac_other {j : Nat} (h : j ≠ i) : dacOf (modDac s i f) j = dacOf s j := tget_tmod_other _ _ _ h

theorem dacOf_modDac_same (h : TabWf {} s.dacs) : dacOf (modDac s i f) i = f (dacOf s i) := tget_tset_same h _ _

end

/-! modSeq -/

section

variable (s : State) (i : Nat) (f : Seq → Seq)

@[simp] theorem modSeq_pending : (modSeq s i f).pending = s.pending := rfl
@[simp] theorem modSeq_power : (modSeq s i f).power = s.power := rfl
@[simp] theorem modSeq_dev : (modSeq s i f).dev = s.dev := rfl
@[simp] theorem modSeq_units : (modSeq s i f).units = s.units := rfl
@[simp] theorem modSeq_clock : (modSeq s i f).clock = s.clock := rfl
@[simp] theorem modSeq_hw : (modSeq s i f).hw = s.hw := rfl
@[simp] theorem modSeq_boot : (modSeq s i f).boot = s.boot := rfl
@[simp] theorem modSeq_mbs : (modSeq s i f).mbs = s.mbs := rfl
@[simp] theorem modSeq_rr : (modSeq s i f).rr = s.rr := rfl
@[simp] theorem modSeq_ledger : (modSeq s i f).ledger = s.ledger := rfl
@[simp] theorem modSeq_order : (modSeq s i f).order = s.order := rfl
@[simp] theorem modSeq_cfg : (modSeq s i f).cfg = s.cfg := rfl
@[simp] theorem modSeq_dacs : (modSeq s i f).dacs = s.dacs := rfl
@[simp] theorem modSeq_corrs : (modSeq s i f).corrs = s.corrs := rfl
@[simp] theorem modSeq_chans : (modSeq s i f).chans = s.chans := rfl
@[simp] theorem modSeq_pebs : (modSeq s i f).pebs = s.pebs := rfl
@[simp] theorem modSeq_bursts : (modSeq s i f).bursts = s.bursts := rfl
@[simp] theorem modSeq_tdcs : (modSeq s i f).tdcs = s.tdcs := rfl
@[simp] theorem modSeq_tdcW : (modSeq s i f).tdcW = s.tdcW := rfl
@[simp] theorem modSeq_tdcLat : (modSeq s i f).tdcLat = s.tdcLat := rfl
@[simp] theorem modSeq_acqs : (modSeq s i f).acqs = s.acqs := rfl
@[simp] theorem modSeq_dps : (modSeq s i f).dps = s.dps := rfl
@[simp] theorem modSeq_resvs : (modSeq s i f).resvs = s.resvs := rfl
@[simp] theorem modSeq_lgs : (modSeq s i f).lgs = s.lgs := rfl
@[simp] theorem modSeq_lanes : (modSeq s i f).lanes = s.lanes := rfl
@[simp] theorem modSeq_queues : (modSeq s i f).queues = s.queues := rfl
@[simp] theorem modSeq_dmas : (modSeq s i f).dmas = s.dmas := rfl
@[simp] theorem modSeq_bufFree : (modSeq s i f).bufFree = s.bufFree := rfl
@[simp] theorem modSeq_fabric : (modSeq s i f).fabric = s.fabric := rfl
@[simp] theorem modSeq_press : (modSeq s i f).press = s.press := rfl
@[simp] theorem modSeq_house : (modSeq s i f).house = s.house := rfl
@[simp] theorem modSeq_levee : (modSeq s i f).levee = s.levee := rfl
@[simp] theorem modSeq_svc : (modSeq s i f).svc = s.svc := rfl
@[simp] theorem modSeq_mem : (modSeq s i f).mem = s.mem := rfl
@[simp] theorem modSeq_msp : (modSeq s i f).msp = s.msp := rfl
@[simp] theorem modSeq_jtag : (modSeq s i f).jtag = s.jtag := rfl
@[simp] theorem modSeq_free : (modSeq s i f).free = s.free := rfl
@[simp] theorem modSeq_seqs : (modSeq s i f).seqs = tmod {} s.seqs i f := rfl

theorem seqOf_modSeq_other {j : Nat} (h : j ≠ i) : seqOf (modSeq s i f) j = seqOf s j := tget_tmod_other _ _ _ h

theorem seqOf_modSeq_same (h : TabWf {} s.seqs) : seqOf (modSeq s i f) i = f (seqOf s i) := tget_tset_same h _ _

end

/-! modAcq -/

section

variable (s : State) (i : Nat) (f : Acq → Acq)

@[simp] theorem modAcq_pending : (modAcq s i f).pending = s.pending := rfl
@[simp] theorem modAcq_power : (modAcq s i f).power = s.power := rfl
@[simp] theorem modAcq_dev : (modAcq s i f).dev = s.dev := rfl
@[simp] theorem modAcq_units : (modAcq s i f).units = s.units := rfl
@[simp] theorem modAcq_clock : (modAcq s i f).clock = s.clock := rfl
@[simp] theorem modAcq_hw : (modAcq s i f).hw = s.hw := rfl
@[simp] theorem modAcq_boot : (modAcq s i f).boot = s.boot := rfl
@[simp] theorem modAcq_mbs : (modAcq s i f).mbs = s.mbs := rfl
@[simp] theorem modAcq_rr : (modAcq s i f).rr = s.rr := rfl
@[simp] theorem modAcq_ledger : (modAcq s i f).ledger = s.ledger := rfl
@[simp] theorem modAcq_order : (modAcq s i f).order = s.order := rfl
@[simp] theorem modAcq_cfg : (modAcq s i f).cfg = s.cfg := rfl
@[simp] theorem modAcq_dacs : (modAcq s i f).dacs = s.dacs := rfl
@[simp] theorem modAcq_corrs : (modAcq s i f).corrs = s.corrs := rfl
@[simp] theorem modAcq_chans : (modAcq s i f).chans = s.chans := rfl
@[simp] theorem modAcq_pebs : (modAcq s i f).pebs = s.pebs := rfl
@[simp] theorem modAcq_bursts : (modAcq s i f).bursts = s.bursts := rfl
@[simp] theorem modAcq_seqs : (modAcq s i f).seqs = s.seqs := rfl
@[simp] theorem modAcq_tdcs : (modAcq s i f).tdcs = s.tdcs := rfl
@[simp] theorem modAcq_tdcW : (modAcq s i f).tdcW = s.tdcW := rfl
@[simp] theorem modAcq_tdcLat : (modAcq s i f).tdcLat = s.tdcLat := rfl
@[simp] theorem modAcq_dps : (modAcq s i f).dps = s.dps := rfl
@[simp] theorem modAcq_resvs : (modAcq s i f).resvs = s.resvs := rfl
@[simp] theorem modAcq_lgs : (modAcq s i f).lgs = s.lgs := rfl
@[simp] theorem modAcq_lanes : (modAcq s i f).lanes = s.lanes := rfl
@[simp] theorem modAcq_queues : (modAcq s i f).queues = s.queues := rfl
@[simp] theorem modAcq_dmas : (modAcq s i f).dmas = s.dmas := rfl
@[simp] theorem modAcq_bufFree : (modAcq s i f).bufFree = s.bufFree := rfl
@[simp] theorem modAcq_fabric : (modAcq s i f).fabric = s.fabric := rfl
@[simp] theorem modAcq_press : (modAcq s i f).press = s.press := rfl
@[simp] theorem modAcq_house : (modAcq s i f).house = s.house := rfl
@[simp] theorem modAcq_levee : (modAcq s i f).levee = s.levee := rfl
@[simp] theorem modAcq_svc : (modAcq s i f).svc = s.svc := rfl
@[simp] theorem modAcq_mem : (modAcq s i f).mem = s.mem := rfl
@[simp] theorem modAcq_msp : (modAcq s i f).msp = s.msp := rfl
@[simp] theorem modAcq_jtag : (modAcq s i f).jtag = s.jtag := rfl
@[simp] theorem modAcq_free : (modAcq s i f).free = s.free := rfl
@[simp] theorem modAcq_acqs : (modAcq s i f).acqs = tmod {} s.acqs i f := rfl

theorem acqOf_modAcq_other {j : Nat} (h : j ≠ i) : acqOf (modAcq s i f) j = acqOf s j := tget_tmod_other _ _ _ h

theorem acqOf_modAcq_same (h : TabWf {} s.acqs) : acqOf (modAcq s i f) i = f (acqOf s i) := tget_tset_same h _ _

end

/-! modPort -/

section

variable (s : State) (i : Nat) (f : PortState → PortState)

@[simp] theorem modPort_pending : (modPort s i f).pending = s.pending := rfl
@[simp] theorem modPort_power : (modPort s i f).power = s.power := rfl
@[simp] theorem modPort_dev : (modPort s i f).dev = s.dev := rfl
@[simp] theorem modPort_units : (modPort s i f).units = s.units := rfl
@[simp] theorem modPort_clock : (modPort s i f).clock = s.clock := rfl
@[simp] theorem modPort_hw : (modPort s i f).hw = s.hw := rfl
@[simp] theorem modPort_boot : (modPort s i f).boot = s.boot := rfl
@[simp] theorem modPort_mbs : (modPort s i f).mbs = s.mbs := rfl
@[simp] theorem modPort_rr : (modPort s i f).rr = s.rr := rfl
@[simp] theorem modPort_ledger : (modPort s i f).ledger = s.ledger := rfl
@[simp] theorem modPort_order : (modPort s i f).order = s.order := rfl
@[simp] theorem modPort_cfg : (modPort s i f).cfg = s.cfg := rfl
@[simp] theorem modPort_dacs : (modPort s i f).dacs = s.dacs := rfl
@[simp] theorem modPort_corrs : (modPort s i f).corrs = s.corrs := rfl
@[simp] theorem modPort_chans : (modPort s i f).chans = s.chans := rfl
@[simp] theorem modPort_pebs : (modPort s i f).pebs = s.pebs := rfl
@[simp] theorem modPort_bursts : (modPort s i f).bursts = s.bursts := rfl
@[simp] theorem modPort_seqs : (modPort s i f).seqs = s.seqs := rfl
@[simp] theorem modPort_tdcs : (modPort s i f).tdcs = s.tdcs := rfl
@[simp] theorem modPort_tdcW : (modPort s i f).tdcW = s.tdcW := rfl
@[simp] theorem modPort_tdcLat : (modPort s i f).tdcLat = s.tdcLat := rfl
@[simp] theorem modPort_acqs : (modPort s i f).acqs = s.acqs := rfl
@[simp] theorem modPort_dps : (modPort s i f).dps = s.dps := rfl
@[simp] theorem modPort_resvs : (modPort s i f).resvs = s.resvs := rfl
@[simp] theorem modPort_lgs : (modPort s i f).lgs = s.lgs := rfl
@[simp] theorem modPort_lanes : (modPort s i f).lanes = s.lanes := rfl
@[simp] theorem modPort_queues : (modPort s i f).queues = s.queues := rfl
@[simp] theorem modPort_dmas : (modPort s i f).dmas = s.dmas := rfl
@[simp] theorem modPort_bufFree : (modPort s i f).bufFree = s.bufFree := rfl
@[simp] theorem modPort_press : (modPort s i f).press = s.press := rfl
@[simp] theorem modPort_house : (modPort s i f).house = s.house := rfl
@[simp] theorem modPort_levee : (modPort s i f).levee = s.levee := rfl
@[simp] theorem modPort_svc : (modPort s i f).svc = s.svc := rfl
@[simp] theorem modPort_mem : (modPort s i f).mem = s.mem := rfl
@[simp] theorem modPort_msp : (modPort s i f).msp = s.msp := rfl
@[simp] theorem modPort_jtag : (modPort s i f).jtag = s.jtag := rfl
@[simp] theorem modPort_free : (modPort s i f).free = s.free := rfl
@[simp] theorem modPort_fabric_ports : (modPort s i f).fabric.ports = tmod {} s.fabric.ports i f := rfl

theorem portOf_modPort_other {j : Nat} (h : j ≠ i) : portOf (modPort s i f) j = portOf s j := tget_tmod_other _ _ _ h

theorem portOf_modPort_same (h : TabWf {} s.fabric.ports) : portOf (modPort s i f) i = f (portOf s i) := tget_tset_same h _ _

end

/-! modSched -/

section

variable (s : State) (i : Nat) (f : Sched → Sched)

@[simp] theorem modSched_pending : (modSched s i f).pending = s.pending := rfl
@[simp] theorem modSched_power : (modSched s i f).power = s.power := rfl
@[simp] theorem modSched_dev : (modSched s i f).dev = s.dev := rfl
@[simp] theorem modSched_units : (modSched s i f).units = s.units := rfl
@[simp] theorem modSched_clock : (modSched s i f).clock = s.clock := rfl
@[simp] theorem modSched_hw : (modSched s i f).hw = s.hw := rfl
@[simp] theorem modSched_boot : (modSched s i f).boot = s.boot := rfl
@[simp] theorem modSched_mbs : (modSched s i f).mbs = s.mbs := rfl
@[simp] theorem modSched_rr : (modSched s i f).rr = s.rr := rfl
@[simp] theorem modSched_ledger : (modSched s i f).ledger = s.ledger := rfl
@[simp] theorem modSched_order : (modSched s i f).order = s.order := rfl
@[simp] theorem modSched_dacs : (modSched s i f).dacs = s.dacs := rfl
@[simp] theorem modSched_corrs : (modSched s i f).corrs = s.corrs := rfl
@[simp] theorem modSched_chans : (modSched s i f).chans = s.chans := rfl
@[simp] theorem modSched_pebs : (modSched s i f).pebs = s.pebs := rfl
@[simp] theorem modSched_bursts : (modSched s i f).bursts = s.bursts := rfl
@[simp] theorem modSched_seqs : (modSched s i f).seqs = s.seqs := rfl
@[simp] theorem modSched_tdcs : (modSched s i f).tdcs = s.tdcs := rfl
@[simp] theorem modSched_tdcW : (modSched s i f).tdcW = s.tdcW := rfl
@[simp] theorem modSched_tdcLat : (modSched s i f).tdcLat = s.tdcLat := rfl
@[simp] theorem modSched_acqs : (modSched s i f).acqs = s.acqs := rfl
@[simp] theorem modSched_dps : (modSched s i f).dps = s.dps := rfl
@[simp] theorem modSched_resvs : (modSched s i f).resvs = s.resvs := rfl
@[simp] theorem modSched_lgs : (modSched s i f).lgs = s.lgs := rfl
@[simp] theorem modSched_lanes : (modSched s i f).lanes = s.lanes := rfl
@[simp] theorem modSched_queues : (modSched s i f).queues = s.queues := rfl
@[simp] theorem modSched_dmas : (modSched s i f).dmas = s.dmas := rfl
@[simp] theorem modSched_bufFree : (modSched s i f).bufFree = s.bufFree := rfl
@[simp] theorem modSched_fabric : (modSched s i f).fabric = s.fabric := rfl
@[simp] theorem modSched_press : (modSched s i f).press = s.press := rfl
@[simp] theorem modSched_house : (modSched s i f).house = s.house := rfl
@[simp] theorem modSched_levee : (modSched s i f).levee = s.levee := rfl
@[simp] theorem modSched_svc : (modSched s i f).svc = s.svc := rfl
@[simp] theorem modSched_mem : (modSched s i f).mem = s.mem := rfl
@[simp] theorem modSched_msp : (modSched s i f).msp = s.msp := rfl
@[simp] theorem modSched_jtag : (modSched s i f).jtag = s.jtag := rfl
@[simp] theorem modSched_free : (modSched s i f).free = s.free := rfl
@[simp] theorem modSched_cfg_scheds : (modSched s i f).cfg.scheds = tmod {} s.cfg.scheds i f := rfl

theorem schedOf_modSched_other {j : Nat} (h : j ≠ i) : schedOf (modSched s i f) j = schedOf s j := tget_tmod_other _ _ _ h

theorem schedOf_modSched_same (h : TabWf {} s.cfg.scheds) : schedOf (modSched s i f) i = f (schedOf s i) := tget_tset_same h _ _

end

/-! modTrig -/

section

variable (s : State) (i : Nat) (f : Trig → Trig)

@[simp] theorem modTrig_pending : (modTrig s i f).pending = s.pending := rfl
@[simp] theorem modTrig_power : (modTrig s i f).power = s.power := rfl
@[simp] theorem modTrig_dev : (modTrig s i f).dev = s.dev := rfl
@[simp] theorem modTrig_units : (modTrig s i f).units = s.units := rfl
@[simp] theorem modTrig_clock : (modTrig s i f).clock = s.clock := rfl
@[simp] theorem modTrig_hw : (modTrig s i f).hw = s.hw := rfl
@[simp] theorem modTrig_boot : (modTrig s i f).boot = s.boot := rfl
@[simp] theorem modTrig_mbs : (modTrig s i f).mbs = s.mbs := rfl
@[simp] theorem modTrig_rr : (modTrig s i f).rr = s.rr := rfl
@[simp] theorem modTrig_ledger : (modTrig s i f).ledger = s.ledger := rfl
@[simp] theorem modTrig_order : (modTrig s i f).order = s.order := rfl
@[simp] theorem modTrig_dacs : (modTrig s i f).dacs = s.dacs := rfl
@[simp] theorem modTrig_corrs : (modTrig s i f).corrs = s.corrs := rfl
@[simp] theorem modTrig_chans : (modTrig s i f).chans = s.chans := rfl
@[simp] theorem modTrig_pebs : (modTrig s i f).pebs = s.pebs := rfl
@[simp] theorem modTrig_bursts : (modTrig s i f).bursts = s.bursts := rfl
@[simp] theorem modTrig_seqs : (modTrig s i f).seqs = s.seqs := rfl
@[simp] theorem modTrig_tdcs : (modTrig s i f).tdcs = s.tdcs := rfl
@[simp] theorem modTrig_tdcW : (modTrig s i f).tdcW = s.tdcW := rfl
@[simp] theorem modTrig_tdcLat : (modTrig s i f).tdcLat = s.tdcLat := rfl
@[simp] theorem modTrig_acqs : (modTrig s i f).acqs = s.acqs := rfl
@[simp] theorem modTrig_dps : (modTrig s i f).dps = s.dps := rfl
@[simp] theorem modTrig_resvs : (modTrig s i f).resvs = s.resvs := rfl
@[simp] theorem modTrig_lgs : (modTrig s i f).lgs = s.lgs := rfl
@[simp] theorem modTrig_lanes : (modTrig s i f).lanes = s.lanes := rfl
@[simp] theorem modTrig_queues : (modTrig s i f).queues = s.queues := rfl
@[simp] theorem modTrig_dmas : (modTrig s i f).dmas = s.dmas := rfl
@[simp] theorem modTrig_bufFree : (modTrig s i f).bufFree = s.bufFree := rfl
@[simp] theorem modTrig_fabric : (modTrig s i f).fabric = s.fabric := rfl
@[simp] theorem modTrig_press : (modTrig s i f).press = s.press := rfl
@[simp] theorem modTrig_house : (modTrig s i f).house = s.house := rfl
@[simp] theorem modTrig_levee : (modTrig s i f).levee = s.levee := rfl
@[simp] theorem modTrig_svc : (modTrig s i f).svc = s.svc := rfl
@[simp] theorem modTrig_mem : (modTrig s i f).mem = s.mem := rfl
@[simp] theorem modTrig_msp : (modTrig s i f).msp = s.msp := rfl
@[simp] theorem modTrig_jtag : (modTrig s i f).jtag = s.jtag := rfl
@[simp] theorem modTrig_free : (modTrig s i f).free = s.free := rfl
@[simp] theorem modTrig_cfg_trig : (modTrig s i f).cfg.trig = tmod {} s.cfg.trig i f := rfl

theorem trigOf_modTrig_other {j : Nat} (h : j ≠ i) : trigOf (modTrig s i f) j = trigOf s j := tget_tmod_other _ _ _ h

theorem trigOf_modTrig_same (h : TabWf {} s.cfg.trig) : trigOf (modTrig s i f) i = f (trigOf s i) := tget_tset_same h _ _

end

/-! Changes of mode (R60, R61). -/

theorem setMode_mode (s : State) (m : Mode) : (setMode s m).dev.mode = m := by
  unfold setMode
  split
  · assumption
  · rfl

theorem setMode_same {s : State} {m : Mode} (h : s.dev.mode = m) : setMode s m = s := if_pos h

theorem setMode_new {s : State} {m : Mode} (h : s.dev.mode ≠ m) : setMode s m =
    { s with dev := { s.dev with mode := m, prev := s.dev.mode, changes := s.dev.changes + 1 } } := if_neg h

end Sys2Proof.Machine
end

