-- ==== Sys2Proof/Laws/Shared.lean ====
section
/-! SUPPORT. What the shared operations do: the clock and its notices, the power switches. -/

namespace Sys2Proof.Machine

/-! Clocks (R44, R57). -/

theorem changeClock_clock (s : State) (f : State → State) : (changeClock s f).clock = (f s).clock := by
  unfold changeClock
  dsimp only
  split
  · rfl
  · rw [(deviceNotice_touch ..).same .clock (by decide)]
    split <;> rfl

/-- What a change leaves of Headwater: beside the change itself, the status it had and when it ended. -/
theorem changeClock_hw (s : State) (f : State → State) : (changeClock s f).hw =
    if (f s).hw.status = s.hw.status then (f s).hw
    else { (f s).hw with statWas := s.hw.status, statAt := stamp (f s) } := by
  unfold changeClock
  dsimp only
  split
  · next h => rw [if_pos h.2]
  · rw [(deviceNotice_touch ..).same .hw (by decide)]
    split <;> rfl

/-- A change that leaves the status alone. -/
theorem changeClock_hw_same {s : State} {f : State → State} (h : (f s).hw.status = s.hw.status) :
    (changeClock s f).hw = (f s).hw := by rw [changeClock_hw, if_pos h]

/-- A relock toward m begins. -/
theorem startLock_clock (s : State) (m : BitVec 28) : (startLock s m).clock = { s.clock with
    relocking := true, locked := false, onBypass := true, stepActive := false, lockTarget := m, delayLocked := false } := by
  unfold startLock
  dsimp only
  rw [(retrainPorts_touch _).same .clock (by decide), changeClock_clock]

/-! Power switches (R31 to R33). -/

theorem orderSwitches_pdOn_eq (s : State) (a b : BitVec 32) : (orderSwitches s a b).power.pdOn = s.power.pdOn :=
  (orderSwitches_pdOn s.power.pdOn s a b).keeps rfl

/-! Folds and tables. -/

/-- A fold keeps what each of its steps keeps. -/
theorem foldl_same {α β : Type} (p : State → β) (g : State → α → State) (h : ∀ s x, p (g s x) = p s) (l : List α)
    (s : State) : p (l.foldl g s) = p s := by
  induction l generalizing s with
  | nil => rfl
  | cons x l ih => rw [List.foldl_cons, ih, h]

theorem tget_foldl_tset {α : Type} [DecidableEq α] (d : α) (f : α → α) (hd : f d = d) (t : Tab α) (lo : Nat) (h : TabWfFrom d lo t) (r : Tab α)
   (hr : TabWf d r) (hlo : ∀ i, lo ≤ i → tget d r i = d) (i : Nat) :
    tget d (t.foldl (fun r e => tset d r e.1 (f e.2)) r) i = if i < lo then tget d r i else f (tget d t i) := by
  induction t generalizing lo r with
  | nil =>
    simp only [List.foldl_nil, tget]
    split
    · rfl
    · rw [hlo i (by omega), hd]
  | cons e t ih =>
    obtain ⟨k, v⟩ := e
    obtain ⟨h1, h2, h3⟩ := h
    simp only [List.foldl_cons, tget]
    rw [ih (k + 1) h3 _ (tset_wf hr k (f v)) (fun j hj => by rw [tget_tset_other _ _ _ (by omega)]; exact hlo j (by omega))]
    by_cases hi : i = k
    · subst hi; simp [tget_tset_same hr]; omega
    · rw [tget_tset_other _ _ _ hi]
      simp only [hi, if_false]
      by_cases a : i < lo
      · simp [a, show i < k + 1 by omega]
      · by_cases b : i < k + 1
        · have c : tget d t i = d := tget_below h3 (by omega)
          simp [a, b, c, hlo i (by omega), hd]
        · simp [a, b]

theorem tget_tmapAll {α : Type} [DecidableEq α] (d : α) (f : α → α) (hd : f d = d) (t : Tab α) (h : TabWf d t) (i : Nat) :
    tget d (tmapAll d t f) i = f (tget d t i) := by
  have := tget_foldl_tset d f hd t 0 h [] trivial (fun _ _ => rfl) i
  simpa [tmapAll] using this

/-! The Ford (R25, R325). -/

theorem closeFord_power (s : State) : (closeFord s).power = if s.power.fordClosed then s.power else { s.power with fordClosed := true, fordDrain := false } := by
  unfold closeFord
  split
  · rfl
  · dsimp only
    split
    · rw [(answerOwed_touch ..).same .power (by decide), (settleMeasure_touch _).same .power (by decide),
        foldl_same (fun s => s.power) _ (fun s p => (closePort_touch s p).same .power (by decide))]
    · rw [(settleMeasure_touch _).same .power (by decide),
        foldl_same (fun s => s.power) _ (fun s p => (closePort_touch s p).same .power (by decide))]

theorem openFordWith_power (s : State) (f : PortState → PortState) (h : s.power.fordClosed = true) :
    (openFordWith s f).power = { s.power with fordClosed := false, fordOpened := true } := by
  unfold openFordWith
  rw [if_pos h]
  dsimp only
  have e := foldl_same (fun s => s.power) _ (fun s p => (changePort_touch s p f).same .power (by decide)) (List.range 4)
    { s with power := { s.power with fordClosed := false, fordOpened := true } }
  split
  · rw [((changeClock_touch (b := [.clock, .hw, .mbs, .fabric, .svc, .free]) (by decide) (by decide) (by decide) (by decide) (by decide) _ _
      (fun t => Touch.set_clock (by decide) (Touch.refl _ _))).same .power (by decide))]
    exact e
  · exact e

theorem openFordWith_open (s : State) (f : PortState → PortState) :
    (openFordWith s f).power.fordClosed = false ∧ (openFordWith s f).power.fordPinLow = s.power.fordPinLow := by
  by_cases c : s.power.fordClosed = true
  · rw [openFordWith_power s f c]
    exact ⟨rfl, rfl⟩
  · have : openFordWith s f = s := if_neg c
    rw [this]
    exact ⟨by simpa using c, rfl⟩

theorem openFord_power (s : State) (h : s.power.fordClosed = true) :
    (openFord s).power = { s.power with fordClosed := false, fordOpened := true } := openFordWith_power s trainPort h

theorem openFord_open (s : State) :
    (openFord s).power.fordClosed = false ∧ (openFord s).power.fordPinLow = s.power.fordPinLow :=
  openFordWith_open s trainPort

/-! The ledger (R90). -/

theorem foldl_modSlot_ledger (f : Slot → Slot) (ks : List Nat) (s : State) :
    (ks.foldl (fun u i => modSlot u i f) s).ledger = tmods {} s.ledger ks fun _ => f := by
  unfold tmods
  induction ks generalizing s with
  | nil => rfl
  | cons k ks ih => rw [List.foldl_cons, List.foldl_cons, ih]; rfl

/-- A slot after an idempotent update of every slot whose item p holds of. -/
theorem slotOf_foldl_modSlot {s : State} (hw : TabWf {} s.ledger) (p : Slot → Bool) (hp : p {} = false) (f : Slot → Slot)
    (hf : ∀ l, f (f l) = f l) (i : Nat) : slotOf ((slotsWhere s p).foldl (fun u i => modSlot u i f) s) i =
      if p (slotOf s i) then f (slotOf s i) else slotOf s i := by
  unfold slotOf
  rw [foldl_modSlot_ledger, tget_tmods {} (fun _ => f) (fun _ => hf) _ _ hw]
  have mk := mem_tkeys hw (fun _ l => p l) i hp
  unfold slotsWhere
  by_cases h : p (tget {} s.ledger i) = true
  · rw [if_pos (mk.2 h), if_pos h]
  · rw [if_neg (fun k => h (mk.1 k)), if_neg h]

end Sys2Proof.Machine
end

