-- ==== Sys2Proof/Laws/Bypass.lean ====
section
/-! SUPPORT. BYPASS stays BYPASS over the ends of items; what the entry to BYPASS leaves (R61). -/

namespace Sys2Proof.Machine

/-- The device is in BYPASS. -/
def InBypass (s : State) : Prop := s.dev.mode = .bypass

theorem byp_of_touch {a : List Part} {s t : State} (k : Touch a s t) (hm : Part.dev ∉ a) : Keeps InBypass s t :=
  ⟨fun h => by
    have e : t.dev = s.dev := k.same .dev hm
    unfold InBypass
    rw [e]
    exact h⟩

theorem byp_of_touchOut {a : List Part} {s : State} {o : Out} (k : TouchOut a s o) (hm : Part.dev ∉ a) :
    KeepsOut InBypass s o :=
  ⟨fun t ht => byp_of_touch (k.next_same t ht) hm⟩

/-- What holds in BYPASS holds of a state that is as it was. -/
theorem Keeps.of_same {I : State → Prop} {s t : State} (h : I s → t = s) : Keeps I s t := ⟨fun k => by rw [h k]; exact k⟩

theorem settleMode_byp (s : State) : Keeps InBypass s (settleMode s) :=
  .of_same fun k => if_pos (by rw [k]; decide)

theorem settlePause_byp (s : State) (l : Slot) (reason : Option Nat) : Keeps InBypass s (settlePause s l reason) :=
  .of_same fun k => by
    unfold settlePause
    rw [k]
    simp

theorem settleCal_byp (s : State) : Keeps InBypass s (settleCal s) :=
  .of_same fun k => if_neg fun h => by have := h.1; rw [k] at this; exact absurd this (by decide)


theorem endItem_byp  (s : State) (i : ℕ) (reason : Option ℕ) (f : Slot → Slot) :
    Keeps InBypass s (endItem s i reason f) := by
  unfold endItem
  dsimp only
  apply Keeps.ite
  · apply Keeps.trans (settleCal_byp ..)
    apply Keeps.trans (settlePause_byp ..)
    apply Keeps.trans (settleMode_byp ..)
    apply Keeps.ite
    · refine Keeps.trans (byp_of_touch (submitUnslotted_touch ..) (by decide)) ?_
      refine Keeps.trans (byp_of_touch (itemDone_touch ..) (by decide)) ?_
      apply Keeps.ite
      · refine Keeps.trans (byp_of_touch (modUnit_touch ..) (by decide)) ?_
        refine Keeps.trans (byp_of_touch (modSlot_touch ..) (by decide)) ?_
        exact Keeps.refl _ _
      · refine Keeps.trans (byp_of_touch (modSlot_touch ..) (by decide)) ?_
        exact Keeps.refl _ _
    · refine Keeps.trans (byp_of_touch (itemDone_touch ..) (by decide)) ?_
      apply Keeps.ite
      · refine Keeps.trans (byp_of_touch (modUnit_touch ..) (by decide)) ?_
        refine Keeps.trans (byp_of_touch (modSlot_touch ..) (by decide)) ?_
        exact Keeps.refl _ _
      · refine Keeps.trans (byp_of_touch (modSlot_touch ..) (by decide)) ?_
        exact Keeps.refl _ _
  · exact Keeps.refl _ _

theorem finishMeasure_byp  (s : State) (q : ℕ) (slot : ℕ) (reason : Option ℕ) (extra : ℕ) :
    Keeps InBypass s (finishMeasure s q slot reason extra) := by
  unfold finishMeasure
  dsimp only
  apply Keeps.trans (endItem_byp ..)
  refine Keeps.trans (byp_of_touch (modSeq_touch ..) (by decide)) ?_
  refine Keeps.trans (byp_of_touch (memWrite_touch ..) (by decide)) ?_
  exact Keeps.refl _ _

theorem stopMeasure_byp  (s : State) (q : ℕ) (slot : ℕ) (reason : ℕ) (extra : ℕ) :
    Keeps InBypass s (stopMeasure s q slot reason extra) := by
  unfold stopMeasure
  dsimp only
  apply Keeps.trans (finishMeasure_byp ..)
  apply Keeps.ite
  · exact Keeps.refl _ _
  · refine Keeps.trans (byp_of_touch (Touch.set_chans (b := [.chans]) (by decide) (Touch.refl _ _)) (by decide)) ?_
    exact Keeps.refl _ _

theorem detachMeasure_byp  (s : State) (q : ℕ) (slot : ℕ) (reason : ℕ) (extra : ℕ) :
    Keeps InBypass s (detachMeasure s q slot reason extra) := by
  unfold detachMeasure
  dsimp only
  apply Keeps.trans (endItem_byp ..)
  refine Keeps.trans (byp_of_touch (modSeq_touch ..) (by decide)) ?_
  refine Keeps.trans (byp_of_touch (memWrite_touch ..) (by decide)) ?_
  exact Keeps.refl _ _

theorem finishAcquire_byp  (s : State) (slot : ℕ) (reason : Option ℕ) (extra : ℕ) :
    Keeps InBypass s (finishAcquire s slot reason extra) := by
  unfold finishAcquire
  dsimp only
  apply Keeps.trans (endItem_byp ..)
  refine Keeps.trans (byp_of_touch (Touch.set_acqs (b := [.acqs]) (by decide) (Touch.refl _ _)) (by decide)) ?_
  refine Keeps.trans (byp_of_touch (memWrite_touch ..) (by decide)) ?_
  refine Keeps.trans (byp_of_touch (memWrite_touch ..) (by decide)) ?_
  refine Keeps.trans (byp_of_touch (takeFree_touch ..) (by decide)) ?_
  exact Keeps.refl _ _

theorem finishBurst_byp  (s : State) (slot : ℕ) (reason : Option ℕ) (rest : ℕ → Rest) (extra : ℕ) :
    Keeps InBypass s (finishBurst s slot reason rest extra) := by
  unfold finishBurst
  dsimp only
  apply Keeps.trans (endItem_byp ..)
  refine Keeps.trans (byp_of_touch (settlePins_touch ..) (by decide)) ?_
  refine Keeps.trans (byp_of_touch (Touch.set_bursts_fabric (b := [.bursts, .fabric]) (by decide) (by decide) (Touch.refl _ _)) (by decide)) ?_
  apply Keeps.foldl
  · refine Keeps.trans (byp_of_touch (memWrite_touch ..) (by decide)) ?_
    apply Keeps.ite
    · apply Keeps.foldl
      · apply Keeps.ite
        · refine Keeps.trans (byp_of_touch (capAll_touch ..) (by decide)) ?_
          split
          · refine Keeps.trans (byp_of_touch (modBurst_touch ..) (by decide)) ?_
            refine Keeps.trans (byp_of_touch (transferDue_touch ..) (by decide)) ?_
            refine Keeps.trans (byp_of_touch (flushJunction_touch ..) (by decide)) ?_
            refine Keeps.trans (byp_of_touch (closeRuns_touch ..) (by decide)) ?_
            exact Keeps.refl _ _
          · refine Keeps.trans (byp_of_touch (modBurst_touch ..) (by decide)) ?_
            refine Keeps.trans (byp_of_touch (transferDue_touch ..) (by decide)) ?_
            refine Keeps.trans (byp_of_touch (flushJunction_touch ..) (by decide)) ?_
            refine Keeps.trans (byp_of_touch (closeRuns_touch ..) (by decide)) ?_
            exact Keeps.refl _ _
          · refine Keeps.trans (byp_of_touch (transferDue_touch ..) (by decide)) ?_
            refine Keeps.trans (byp_of_touch (flushJunction_touch ..) (by decide)) ?_
            refine Keeps.trans (byp_of_touch (closeRuns_touch ..) (by decide)) ?_
            exact Keeps.refl _ _
        · split
          · refine Keeps.trans (byp_of_touch (modBurst_touch ..) (by decide)) ?_
            refine Keeps.trans (byp_of_touch (transferDue_touch ..) (by decide)) ?_
            refine Keeps.trans (byp_of_touch (flushJunction_touch ..) (by decide)) ?_
            refine Keeps.trans (byp_of_touch (closeRuns_touch ..) (by decide)) ?_
            exact Keeps.refl _ _
          · refine Keeps.trans (byp_of_touch (modBurst_touch ..) (by decide)) ?_
            refine Keeps.trans (byp_of_touch (transferDue_touch ..) (by decide)) ?_
            refine Keeps.trans (byp_of_touch (flushJunction_touch ..) (by decide)) ?_
            refine Keeps.trans (byp_of_touch (closeRuns_touch ..) (by decide)) ?_
            exact Keeps.refl _ _
          · refine Keeps.trans (byp_of_touch (transferDue_touch ..) (by decide)) ?_
            refine Keeps.trans (byp_of_touch (flushJunction_touch ..) (by decide)) ?_
            refine Keeps.trans (byp_of_touch (closeRuns_touch ..) (by decide)) ?_
            exact Keeps.refl _ _
      · intro u v
        refine Keeps.trans (byp_of_touch (modQueue_touch ..) (by decide)) ?_
        exact Keeps.refl _ _
    · apply Keeps.ite
      · refine Keeps.trans (byp_of_touch (capAll_touch ..) (by decide)) ?_
        split
        · refine Keeps.trans (byp_of_touch (modBurst_touch ..) (by decide)) ?_
          refine Keeps.trans (byp_of_touch (transferDue_touch ..) (by decide)) ?_
          refine Keeps.trans (byp_of_touch (flushJunction_touch ..) (by decide)) ?_
          refine Keeps.trans (byp_of_touch (closeRuns_touch ..) (by decide)) ?_
          exact Keeps.refl _ _
        · refine Keeps.trans (byp_of_touch (modBurst_touch ..) (by decide)) ?_
          refine Keeps.trans (byp_of_touch (transferDue_touch ..) (by decide)) ?_
          refine Keeps.trans (byp_of_touch (flushJunction_touch ..) (by decide)) ?_
          refine Keeps.trans (byp_of_touch (closeRuns_touch ..) (by decide)) ?_
          exact Keeps.refl _ _
        · refine Keeps.trans (byp_of_touch (transferDue_touch ..) (by decide)) ?_
          refine Keeps.trans (byp_of_touch (flushJunction_touch ..) (by decide)) ?_
          refine Keeps.trans (byp_of_touch (closeRuns_touch ..) (by decide)) ?_
          exact Keeps.refl _ _
      · split
        · refine Keeps.trans (byp_of_touch (modBurst_touch ..) (by decide)) ?_
          refine Keeps.trans (byp_of_touch (transferDue_touch ..) (by decide)) ?_
          refine Keeps.trans (byp_of_touch (flushJunction_touch ..) (by decide)) ?_
          refine Keeps.trans (byp_of_touch (closeRuns_touch ..) (by decide)) ?_
          exact Keeps.refl _ _
        · refine Keeps.trans (byp_of_touch (modBurst_touch ..) (by decide)) ?_
          refine Keeps.trans (byp_of_touch (transferDue_touch ..) (by decide)) ?_
          refine Keeps.trans (byp_of_touch (flushJunction_touch ..) (by decide)) ?_
          refine Keeps.trans (byp_of_touch (closeRuns_touch ..) (by decide)) ?_
          exact Keeps.refl _ _
        · refine Keeps.trans (byp_of_touch (transferDue_touch ..) (by decide)) ?_
          refine Keeps.trans (byp_of_touch (flushJunction_touch ..) (by decide)) ?_
          refine Keeps.trans (byp_of_touch (closeRuns_touch ..) (by decide)) ?_
          exact Keeps.refl _ _
  · intro u v
    refine Keeps.trans (byp_of_touch (restPeb_touch ..) (by decide)) ?_
    exact Keeps.refl _ _

theorem finishLane_byp  (s : State) (slot : ℕ) (reason : Option ℕ) (extra : ℕ) :
    Keeps InBypass s (finishLane s slot reason extra) := by
  unfold finishLane
  dsimp only
  apply Keeps.trans (endItem_byp ..)
  refine Keeps.trans (byp_of_touch (Touch.set_lanes (b := [.lanes]) (by decide) (Touch.refl _ _)) (by decide)) ?_
  refine Keeps.trans (byp_of_touch (memWrite_touch ..) (by decide)) ?_
  split
  · dsimp only
    refine Keeps.trans (byp_of_touch (laneProgress_touch ..) (by decide)) ?_
    exact Keeps.refl _ _
  · refine Keeps.trans (byp_of_touch (takeFree_touch ..) (by decide)) ?_
    refine Keeps.trans (byp_of_touch (laneProgress_touch ..) (by decide)) ?_
    exact Keeps.refl _ _

theorem finishTdc_byp  (s : State) (slot : ℕ) (reason : Option ℕ) (extra : ℕ) :
    Keeps InBypass s (finishTdc s slot reason extra) := by
  unfold finishTdc
  dsimp only
  apply Keeps.trans (endItem_byp ..)
  refine Keeps.trans (byp_of_touch (Touch.set_tdcs (b := [.tdcs]) (by decide) (Touch.refl _ _)) (by decide)) ?_
  apply Keeps.ite
  · refine Keeps.trans (byp_of_touch (modQueue_touch ..) (by decide)) ?_
    apply Keeps.ite
    · refine Keeps.trans (byp_of_touch (memWrite_touch ..) (by decide)) ?_
      exact Keeps.refl _ _
    · exact Keeps.refl _ _
  · apply Keeps.ite
    · refine Keeps.trans (byp_of_touch (memWrite_touch ..) (by decide)) ?_
      exact Keeps.refl _ _
    · exact Keeps.refl _ _

theorem finishDps_byp  (s : State) (slot : ℕ) (reason : Option ℕ) (extra : ℕ) :
    Keeps InBypass s (finishDps s slot reason extra) := by
  unfold finishDps
  dsimp only
  apply Keeps.trans (endItem_byp ..)
  refine Keeps.trans (byp_of_touch (Touch.set_resvs (b := [.resvs]) (by decide) (Touch.refl _ _)) (by decide)) ?_
  apply Keeps.ite
  · apply Keeps.foldl
    · apply Keeps.ite
      · refine Keeps.trans (byp_of_touch (modQueue_touch ..) (by decide)) ?_
        refine Keeps.trans (byp_of_touch (itemRecords_touch ..) (by decide)) ?_
        refine Keeps.trans (byp_of_touch (dpsResult_touch ..) (by decide)) ?_
        exact Keeps.refl _ _
      · refine Keeps.trans (byp_of_touch (dpsResult_touch ..) (by decide)) ?_
        exact Keeps.refl _ _
    · intro u v
      refine Keeps.trans (byp_of_touch (settleSet_touch ..) (by decide)) ?_
      exact Keeps.refl _ _
  · apply Keeps.ite
    · refine Keeps.trans (byp_of_touch (modQueue_touch ..) (by decide)) ?_
      refine Keeps.trans (byp_of_touch (itemRecords_touch ..) (by decide)) ?_
      refine Keeps.trans (byp_of_touch (dpsResult_touch ..) (by decide)) ?_
      exact Keeps.refl _ _
    · refine Keeps.trans (byp_of_touch (dpsResult_touch ..) (by decide)) ?_
      exact Keeps.refl _ _

theorem failCal_byp  (s : State) (slot : ℕ) (reason : ℕ) (dst : UState) (extra : ℕ) :
    Keeps InBypass s (failCal s slot reason dst extra) := by
  unfold failCal
  dsimp only
  apply Keeps.trans (endItem_byp ..)
  apply Keeps.ite
  · refine Keeps.trans (byp_of_touch (modUnit_touch ..) (by decide)) ?_
    refine Keeps.trans (byp_of_touch (releaseOwn_touch ..) (by decide)) ?_
    refine Keeps.trans (byp_of_touch (freePress_touch ..) (by decide)) ?_
    apply Keeps.foldl
    · exact Keeps.refl _ _
    · intro u v
      refine Keeps.trans (byp_of_touch (releaseOther_touch ..) (by decide)) ?_
      exact Keeps.refl _ _
  · refine Keeps.trans (byp_of_touch (releaseOwn_touch ..) (by decide)) ?_
    refine Keeps.trans (byp_of_touch (freePress_touch ..) (by decide)) ?_
    apply Keeps.foldl
    · exact Keeps.refl _ _
    · intro u v
      refine Keeps.trans (byp_of_touch (releaseOther_touch ..) (by decide)) ?_
      exact Keeps.refl _ _

theorem cutTransfer_byp  (s : State) (slot : ℕ) (reason : ℕ) (extra : ℕ) :
    Keeps InBypass s (cutTransfer s slot reason extra) := by
  unfold cutTransfer
  apply Keeps.trans (endItem_byp ..)
  refine Keeps.trans (byp_of_touch (stopDma_touch ..) (by decide)) ?_
  exact Keeps.refl _ _

theorem endNow_byp  (s : State) (slot : ℕ) (reason : ℕ) (extra : ℕ) (rest : ℕ → Rest) (dst : UState) :
    Keeps InBypass s (endNow s slot reason extra rest dst) := by
  unfold endNow
  dsimp only
  split
  · apply Keeps.trans (finishBurst_byp ..)
    exact Keeps.refl _ _
  · apply Keeps.ite
    · apply Keeps.trans (stopMeasure_byp ..)
      exact Keeps.refl _ _
    · apply Keeps.trans (endItem_byp ..)
      exact Keeps.refl _ _
  · apply Keeps.trans (finishTdc_byp ..)
    exact Keeps.refl _ _
  · apply Keeps.trans (finishAcquire_byp ..)
    exact Keeps.refl _ _
  · apply Keeps.trans (cutTransfer_byp ..)
    exact Keeps.refl _ _
  · apply Keeps.trans (failCal_byp ..)
    exact Keeps.refl _ _
  · apply Keeps.trans (endItem_byp ..)
    exact Keeps.refl _ _
  · apply Keeps.ite
    · refine Keeps.trans (byp_of_touch (Touch.set_dps (b := [.dps]) (by decide) (Touch.refl _ _)) (by decide)) ?_
      apply Keeps.trans (finishDps_byp ..)
      exact Keeps.refl _ _
    · apply Keeps.trans (finishDps_byp ..)
      exact Keeps.refl _ _
  · apply Keeps.trans (finishLane_byp ..)
    exact Keeps.refl _ _
  · exact Keeps.refl _ _

theorem endAway_byp  (s : State) (slot : ℕ) (reason : ℕ) (extra : ℕ) (rest : ℕ → Rest) (dst : UState) :
    Keeps InBypass s (endAway s slot reason extra rest dst) := by
  unfold endAway
  apply Keeps.ite
  · apply Keeps.trans (detachMeasure_byp ..)
    exact Keeps.refl _ _
  · apply Keeps.trans (endNow_byp ..)
    exact Keeps.refl _ _

theorem endQueued_byp  (s : State) (slot : ℕ) (reason : ℕ) (extra : ℕ) :
    Keeps InBypass s (endQueued s slot reason extra) := by
  unfold endQueued
  dsimp only
  apply Keeps.ite
  · apply Keeps.trans (endItem_byp ..)
    refine Keeps.trans (byp_of_touch (dpsResult_touch ..) (by decide)) ?_
    exact Keeps.refl _ _
  · apply Keeps.trans (endItem_byp ..)
    exact Keeps.refl _ _

theorem bypassItem_byp  (s : State) (slot : ℕ) :
    Keeps InBypass s (bypassItem s slot) := by
  unfold bypassItem
  dsimp only
  apply Keeps.ite
  · apply Keeps.trans (endQueued_byp ..)
    exact Keeps.refl _ _
  · apply Keeps.ite
    · refine Keeps.trans (byp_of_touch (modSlot_touch ..) (by decide)) ?_
      refine Keeps.trans (byp_of_touch (markCause_touch ..) (by decide)) ?_
      exact Keeps.refl _ _
    · apply Keeps.ite
      · apply Keeps.trans (endAway_byp ..)
        exact Keeps.refl _ _
      · exact Keeps.refl _ _


theorem bypassItems_byp (is : List Nat) (s : State) : Keeps InBypass s (is.foldl bypassItem s) := by
  induction is generalizing s with
  | nil => exact Keeps.refl _ _
  | cons i is ih => exact (ih _).trans (bypassItem_byp s i)

theorem setMode_power (s : State) (m : Mode) : (setMode s m).power = s.power := (setMode_touch s m).same .power (by decide)

/-- The mode, the switches, the level at FORD_CLOSE_N and the pin map after the entry to BYPASS but for the Ford. -/
theorem endForBypass_keeps (s : State) :
    (endForBypass s).dev.mode = .bypass ∧ (endForBypass s).dev.armedMap = [] ∧ (endForBypass s).dev.siteEnable = 0
      ∧ (endForBypass s).power = { s.power with bypassPend := false } := by
  unfold endForBypass
  dsimp only
  have hr := fun u => (refuseWaiting_touch (idleOutputs u) [0x0004, 0x0005] 11).same
  have hi := fun u => (idleOutputs_touch u).same
  have e : ∀ u, (refuseWaiting (idleOutputs u) [0x0004, 0x0005] 11).dev = u.dev ∧
      (refuseWaiting (idleOutputs u) [0x0004, 0x0005] 11).power = u.power := fun u =>
    ⟨(hr u .dev (by decide)).trans (hi u .dev (by decide)), (hr u .power (by decide)).trans (hi u .power (by decide))⟩
  rw [(e _).1, (e _).2]
  refine ⟨(bypassItems_byp _ _).keeps ?_, rfl, rfl, ?_⟩
  · exact setMode_mode s .bypass
  · refine (foldl_same (fun u => u.power) _ (fun u i => (bypassItem_touch u i).same .power (by decide)) _ _).trans ?_
    dsimp only
    rw [setMode_power]

theorem closeFord_closes (s : State) : (closeFord s).power.fordClosed = true ∧ (closeFord s).dev = s.dev
    ∧ (closeFord s).power.fordPinLow = s.power.fordPinLow := by
  refine ⟨?_, (closeFord_touch s).same .dev (by decide), ?_⟩ <;> rw [closeFord_power] <;> split <;> first | assumption | rfl

/-- What the entry to BYPASS leaves: the mode, the Ford closed, no pin map. -/
theorem enterBypass_keeps (s : State) :
    (enterBypass s).dev.mode = .bypass ∧ (enterBypass s).dev.armedMap = [] ∧ (enterBypass s).dev.siteEnable = 0
      ∧ (enterBypass s).power.fordClosed = true ∧ (enterBypass s).power.fordPinLow = s.power.fordPinLow := by
  unfold enterBypass
  obtain ⟨h1, h2, h3, h4⟩ := endForBypass_keeps (closeFord s)
  obtain ⟨k1, -, k3⟩ := closeFord_closes s
  exact ⟨h1, h2, h3, by rw [h4]; exact k1, by rw [h4]; exact k3⟩

end Sys2Proof.Machine
end

