-- ==== Sys2Proof/Laws/Inbox.lean ====
section
/-! SUPPORT. What each function of Machine/Inbox.lean may touch. -/

namespace Sys2Proof.Machine

theorem putRequest_touch (s : State) (n : ℕ) (m : Msg) :
    Touch [.mbs] s (putRequest s n m) := by
  unfold putRequest
  (apply Touch.app (modMb_touch ..); · decide)
  exact Touch.refl _ _

theorem refusePath_touch (s : State) (pkt : Packet) (bcast : Bool) :
    Touch [.mbs, .fabric, .free] s (refusePath s pkt bcast) := by
  unfold refusePath
  dsimp only
  (apply Touch.app (sendMsg_touch ..); · decide)
  (apply Touch.app (takeFree_touch ..); · decide)
  exact Touch.refl _ _

theorem takeBcast_touch (s : State) (pkt : Packet) :
    Touch [.mbs, .fabric, .free] s (takeBcast s pkt) := by
  unfold takeBcast
  apply Touch.ite
  · exact Touch.refl _ _
  · apply Touch.ite
    · (apply Touch.app (refusePath_touch ..); · decide)
      exact Touch.refl _ _
    · (apply Touch.app (putRequest_touch ..); · decide)
      exact Touch.refl _ _

theorem drainPort_touch (a0 : ℕ) (s : State) (a2 : ℕ) :
    Touch [.mbs, .fabric, .free] s (drainPort a0 s a2) := by
  induction a0 generalizing s a2 with
  | zero =>
    unfold drainPort
    exact Touch.refl _ _
  | succ n ih =>
    unfold drainPort
    split
    · exact Touch.refl _ _
    · apply Touch.ite
      · apply Touch.trans (ih ..)
        (apply Touch.app (takeBcast_touch ..); · decide)
        (apply Touch.app (freeInput_touch ..); · decide)
        (apply Touch.app (modPort_touch ..); · decide)
        exact Touch.refl _ _
      · exact Touch.refl _ _

theorem drainIngress_touch (s : State) :
    Touch [.mbs, .fabric, .free] s (drainIngress s) := by
  unfold drainIngress
  apply Touch.foldl
  · exact Touch.refl _ _
  · intro u v
    (apply Touch.app (drainPort_touch ..); · decide)
    exact Touch.refl _ _

end Sys2Proof.Machine
end

