-- ==== Sys2Proof/Laws/Req.lean ====
section
/-! SUPPORT. What each function of Machine/Req.lean may touch. -/

namespace Sys2Proof.Machine

theorem refuse_touch (s : State) (n : ℕ) (m : Msg) (e : ℕ × ℕ) :
    Touch [.mbs, .fabric] s (refuse s n m e) := by
  unfold refuse
  (apply Touch.app (respond_touch ..); · decide)
  exact Touch.refl _ _

theorem takeFront_touch (s : State) (n : ℕ) :
    Touch [.mbs, .rr, .fabric, .free] s (takeFront s n).2 := by
  unfold takeFront
  dsimp only
  apply Touch.ite
  · (apply Touch.app (drainIngress_touch ..); · decide)
    (apply Touch.app (modMb_touch ..); · decide)
    exact Touch.refl _ _
  · refine Touch.set_rr (by decide) ?_
    (apply Touch.app (drainIngress_touch ..); · decide)
    (apply Touch.app (modMb_touch ..); · decide)
    exact Touch.refl _ _

theorem serve_touch {b : List Part} (h0 : Part.mbs ∈ b) (h1 : Part.rr ∈ b) (h2 : Part.fabric ∈ b) (h3 : Part.free ∈ b) (op : ℕ) (n : ℕ) (rem : Remote) (s : State) (resv : Msg → Bool) (own : State → Msg → List (Bool × ℕ × ℕ)) (run : State → Msg → Out)
    (h : ∀ t0 t1, TouchOut b t0 (run t0 t1)) :
    TouchOut b s (serve op n rem s resv own run) := by
  unfold serve
  dsimp only
  apply TouchOut.ite
  · apply TouchOut.ite
    · apply TouchOut.fault
    · split
      · apply TouchOut.next
        (apply Touch.app (refuse_touch ..); · simp_all)
        (apply Touch.app (takeFront_touch ..); · simp_all)
        exact Touch.refl _ _
      · apply TouchOut.ite
        · apply TouchOut.fault
        · split
          · apply TouchOut.next
            (apply Touch.app (refuse_touch ..); · simp_all)
            (apply Touch.app (takeFront_touch ..); · simp_all)
            exact Touch.refl _ _
          · apply TouchOut.trans (h ..)
            (apply Touch.app (takeFront_touch ..); · simp_all)
            exact Touch.refl _ _
  · apply TouchOut.next
    exact Touch.refl _ _

theorem serveNext_touch {b : List Part} (h0 : Part.mbs ∈ b) (h1 : Part.rr ∈ b) (h2 : Part.fabric ∈ b) (h3 : Part.free ∈ b) (op : ℕ) (n : ℕ) (s : State) (resv : Msg → Bool) (own : State → Msg → List (Bool × ℕ × ℕ)) (run : State → Msg → State)
    (h : ∀ t0 t1, Touch b t0 (run t0 t1)) :
    TouchOut b s (serveNext op n s resv own run) := by
  unfold serveNext
  refine TouchOut.trans (serve_touch (by assumption) (by assumption) (by assumption) (by assumption) (h := ?_) ..) ?_
  · intro t0 t1
    apply TouchOut.next
    apply Touch.trans (h ..)
    exact Touch.refl _ _
  · exact Touch.refl _ _

theorem done_touch (s : State) (n : ℕ) (m : Msg) (len : ℕ) (fields : List (ℕ × ℕ × ℕ)) :
    Touch [.mbs, .fabric] s (done s n m len fields) := by
  unfold done
  (apply Touch.app (respond_touch ..); · decide)
  exact Touch.refl _ _

theorem execUnknownOpcodeRequest_touch (mb : ℕ) (s : State) :
    TouchOut [.mbs, .rr, .fabric, .free] s (execUnknownOpcodeRequest mb s) := by
  unfold execUnknownOpcodeRequest
  dsimp only
  apply TouchOut.ite
  · apply TouchOut.ite
    · apply TouchOut.fault
    · apply TouchOut.next
      (apply Touch.app (refuse_touch ..); · decide)
      (apply Touch.app (takeFront_touch ..); · decide)
      exact Touch.refl _ _
  · apply TouchOut.next
    exact Touch.refl _ _

end Sys2Proof.Machine
end

