-- ==== Sys2Proof/Laws/Serve.lean ====
section
/-! SUPPORT. What taking a request comes to (R85, R86, R103, R367), and the fields of a message built from its fields. -/

namespace Sys2Proof.Machine

/-- With no such request at the front nothing happens. -/
theorem serve_idle {op n : Nat} {rem : Remote} {s : State} {resv : Msg → Bool}
    {own : State → Msg → List (Bool × Nat × Nat)} {run : State → Msg → Out}
    (h : ¬ (nextMailbox s = some n ∧ Msg.field (frontReq s n) 0 2 = op)) :
    serve op n rem s resv own run = .next s := by
  unfold serve; rw [if_neg h]

/-- A reserved field of the header stops the machine. -/
theorem serve_reserved {op n : Nat} {rem : Remote} {s u : State} {m : Msg} {resv : Msg → Bool}
    {own : State → Msg → List (Bool × Nat × Nat)} {run : State → Msg → Out}
    (h : nextMailbox s = some n ∧ Msg.field (frontReq s n) 0 2 = op) (ht : takeFront s n = (m, u))
    (h1 : headReserved m = true) : serve op n rem s resv own run = .fault .reservedField := by
  unfold serve; rw [if_pos h, ht]; dsimp only; rw [if_pos h1]

/-- The first early check that fails gives the refusal. -/
theorem serve_refused {op n : Nat} {rem : Remote} {s u : State} {m : Msg} {resv : Msg → Bool}
    {own : State → Msg → List (Bool × Nat × Nat)} {run : State → Msg → Out} {e : Nat × Nat}
    (h : nextMailbox s = some n ∧ Msg.field (frontReq s n) 0 2 = op) (ht : takeFront s n = (m, u))
    (h1 : headReserved m = false) (he : firstFail (earlyChecks u n rem m) = some e) :
    serve op n rem s resv own run = .next (refuse u n m e) := by
  unfold serve; rw [if_pos h, ht]; dsimp only; rw [if_neg (by simp [h1]), he]

/-- Past the early checks a reserved field of the command stops the machine. -/
theorem serve_misuse {op n : Nat} {rem : Remote} {s u : State} {m : Msg} {resv : Msg → Bool}
    {own : State → Msg → List (Bool × Nat × Nat)} {run : State → Msg → Out}
    (h : nextMailbox s = some n ∧ Msg.field (frontReq s n) 0 2 = op) (ht : takeFront s n = (m, u))
    (h1 : headReserved m = false) (he : firstFail (earlyChecks u n rem m) = none) (h2 : resv m = true) :
    serve op n rem s resv own run = .fault .reservedField := by
  unfold serve; rw [if_pos h, ht]; dsimp only; rw [if_neg (by simp [h1]), he]; dsimp only; rw [if_pos h2]

/-- Past the early checks, the first of the command's own that fails gives the refusal. -/
theorem serve_own {op n : Nat} {rem : Remote} {s u : State} {m : Msg} {resv : Msg → Bool}
    {own : State → Msg → List (Bool × Nat × Nat)} {run : State → Msg → Out} {e : Nat × Nat}
    (h : nextMailbox s = some n ∧ Msg.field (frontReq s n) 0 2 = op) (ht : takeFront s n = (m, u))
    (h1 : headReserved m = false) (he : firstFail (earlyChecks u n rem m) = none) (h2 : resv m = false)
    (ho : firstFail (own u m) = some e) : serve op n rem s resv own run = .next (refuse u n m e) := by
  unfold serve; rw [if_pos h, ht]; dsimp only; rw [if_neg (by simp [h1]), he]; dsimp only
  rw [if_neg (by simp [h2]), ho]

/-- Past all checks the command has its effect. -/
theorem serve_run {op n : Nat} {rem : Remote} {s u : State} {m : Msg} {resv : Msg → Bool}
    {own : State → Msg → List (Bool × Nat × Nat)} {run : State → Msg → Out}
    (h : nextMailbox s = some n ∧ Msg.field (frontReq s n) 0 2 = op) (ht : takeFront s n = (m, u))
    (h1 : headReserved m = false) (he : firstFail (earlyChecks u n rem m) = none) (h2 : resv m = false)
    (ho : firstFail (own u m) = none) : serve op n rem s resv own run = run u m := by
  unfold serve; rw [if_pos h, ht]; dsimp only; rw [if_neg (by simp [h1]), he]; dsimp only
  rw [if_neg (by simp [h2]), ho]

/-- A list of checks none of which fails. -/
theorem firstFail_none {cs : List (Bool × Nat × Nat)} : firstFail cs = none ↔ ∀ c ∈ cs, c.1 = false := by
  simp [firstFail, List.find?_eq_none]

theorem firstFail_nil : firstFail [] = none := rfl

theorem firstFail_cons {c : Bool × Nat × Nat} {cs : List (Bool × Nat × Nat)} :
    firstFail (c :: cs) = if c.1 = true then some c.2 else firstFail cs := by
  unfold firstFail
  rw [List.find?_cons]
  cases c.1 <;> rfl

/-- A request that passes the early checks comes in a mode of its set. -/
theorem early_mode {s : State} {n : Nat} {rem : Remote} {m : Msg} (h : firstFail (earlyChecks s n rem m) = none) :
    ((modesOf (Msg.field m 0 2)).getD []).contains s.dev.mode = true := by
  rw [firstFail_none] at h
  have := h (! ((modesOf (Msg.field m 0 2)).getD []).contains s.dev.mode || kindRefused s m, 0x11, modeCode s.dev.mode)
    (by unfold earlyChecks; simp)
  simp only [Bool.or_eq_false_iff, Bool.not_eq_false'] at this
  exact this.1

/-- A change of one mailbox, or of one slot, keeps its table in canonical form. -/
theorem modMb_wf {s : State} (h : TabWf {} s.mbs) (n : Nat) (f : Mailbox → Mailbox) : TabWf {} (modMb s n f).mbs :=
  tmod_wf h _ _

theorem modSlot_wf {s : State} (h : TabWf {} s.ledger) (n : Nat) (f : Slot → Slot) : TabWf {} (modSlot s n f).ledger :=
  tmod_wf h _ _

/-! Messages. -/

/-- Bit i of a message built from fields is set where one of them sets it. -/
theorem Msg.of_bit (fs : List (Nat × Nat × Nat)) (i : Nat) (hi : i < 512) :
    (Msg.of fs).getLsbD i
      = fs.any fun f => decide (8 * f.1 ≤ i) && decide (i - 8 * f.1 < 8 * f.2.1) && f.2.2.testBit (i - 8 * f.1) := by
  suffices h : ∀ (m : Msg), (fs.foldl (fun m f => m ||| (BitVec.ofNat 512 (f.2.2 % 2 ^ (8 * f.2.1)) <<< (8 * f.1))) m).getLsbD i
      = (m.getLsbD i || fs.any fun f =>
          decide (8 * f.1 ≤ i) && decide (i - 8 * f.1 < 8 * f.2.1) && f.2.2.testBit (i - 8 * f.1)) by
    unfold Msg.of; rw [h]; simp
  induction fs with
  | nil => intro m; simp
  | cons f fs ih =>
    intro m
    rw [List.foldl_cons, ih, List.any_cons, BitVec.getLsbD_or, BitVec.getLsbD_shiftLeft, BitVec.getLsbD_ofNat,
      Nat.testBit_mod_two_pow]
    by_cases h : i < 8 * f.1
    · simp [h, show ¬ 8 * f.1 ≤ i by omega]
    · simp [h, hi, show 8 * f.1 ≤ i by omega, show i - 8 * f.1 < 512 by omega, Bool.or_assoc]

/-- A field of a message that one of its fields gives and no other overlaps. -/
theorem Msg.of_field {fs : List (Nat × Nat × Nat)} {off n v : Nat} (hm : (off, n, v) ∈ fs) (hv : v < 2 ^ (8 * n))
    (hn : off + n ≤ 64) (hd : ∀ f ∈ fs, f = (off, n, v) ∨ f.1 + f.2.1 ≤ off ∨ off + n ≤ f.1) :
    Msg.field (Msg.of fs) off n = v := by
  apply Nat.eq_of_testBit_eq
  intro i
  unfold Msg.field
  rw [Nat.testBit_mod_two_pow, Nat.testBit_shiftRight]
  by_cases hi : i < 8 * n
  · have hb := Msg.of_bit fs (8 * off + i) (by omega)
    unfold BitVec.getLsbD at hb
    rw [hb]
    simp only [hi, decide_true, Bool.true_and]
    rw [Bool.eq_iff_iff, List.any_eq_true]
    constructor
    · rintro ⟨f, hf, h⟩
      simp only [Bool.and_eq_true, decide_eq_true_eq] at h
      rcases hd f hf with rfl | h' | h'
      · simpa [Nat.add_sub_cancel_left] using h.2
      · omega
      · omega
    · intro h
      exact ⟨_, hm, by simp [hi, h]⟩
  · rw [Nat.testBit_lt_two_pow (lt_of_lt_of_le hv (Nat.pow_le_pow_right (by omega) (by omega)))]
    simp [hi]

/-- The header of a request is read whole (R104). -/
theorem trimmed_head {m : Msg} {off n : Nat} (h : off + n ≤ 16) : Msg.field (trimmed m) off n = Msg.field m off n := by
  apply Nat.eq_of_testBit_eq
  intro i
  unfold Msg.field
  rw [Nat.testBit_mod_two_pow, Nat.testBit_shiftRight, Nat.testBit_mod_two_pow, Nat.testBit_shiftRight]
  by_cases hi : i < 8 * n
  · have k : (trimmed m).getLsbD (8 * off + i) = m.getLsbD (8 * off + i) := by
      unfold trimmed
      dsimp only
      rw [BitVec.getLsbD_and, BitVec.getLsbD_or, BitVec.getLsbD_ofNat, Nat.testBit_two_pow_sub_one]
      simp [show 8 * off + i < 512 by omega, show 8 * off + i < 8 * (16 + Msg.field m 8 1) by omega]
    simp only [BitVec.getLsbD] at k
    rw [k]
  · simp [hi]

/-- The request that is taken has the opcode of the one at the front. -/
theorem takeFront_op {s u : State} {m : Msg} {n : Nat} (h : takeFront s n = (m, u)) :
    Msg.field m 0 2 = Msg.field (frontReq s n) 0 2 := by
  have : m = trimmed (frontReq s n) := by
    unfold takeFront at h; exact (Prod.ext_iff.mp h).1.symm
  rw [this, trimmed_head (by omega)]

theorem Msg.field_lt (m : Msg) (off n : Nat) : Msg.field m off n < 2 ^ (8 * n) := Nat.mod_lt _ (by positivity)

end Sys2Proof.Machine
end

