-- ==== Sys2Proof/Laws/Ends.lean ====
section
/-! SUPPORT. What the end of an item leaves in the ledger (R91, R92), for each kind of item. -/

namespace Sys2Proof.Machine

variable {s : State} {i j : Nat}

/-- A submission of Spabry's own takes a free slot: every other keeps its item. -/
theorem submitCal_taken (u c : Nat) (a : Bool) (h : (slotOf s i).st ≠ .free) :
    slotOf (submitCal s u c a) i = slotOf s i := by
  unfold submitCal
  dsimp only
  split
  · rfl
  · split
    · next k hk =>
      have hf : (slotOf s k).st = .free := by
        have := List.find?_some hk
        simpa using this
      have hne : i ≠ k := fun e => h (e ▸ hf)
      show slotOf (newItem s k .cal 2 (calRequest u c) [] true a) i = slotOf s i
      unfold newItem slotOf modSlot
      dsimp only
      exact tget_tmod_other _ _ _ hne
    · rfl

theorem submitDue_taken (h : (slotOf s i).st ≠ .free) : slotOf (submitDue s) i = slotOf s i := by
  have key : ∀ (us : List Nat) (v : State), (slotOf v i).st ≠ .free → slotOf (us.foldl (fun s u =>
      let c := (unitOf s u).due
      if c = 0 ∨ (calOpen s u ∧ ¬ (unitOf s u).fresh) then s
      else submitCal (modUnit s u fun v => { v with due := 0 }) u c false) v) i = slotOf v i := by
    intro us
    induction us with
    | nil => intro v _; rfl
    | cons u us ih =>
      intro v hv
      rw [List.foldl_cons]
      have e : slotOf (let c := (unitOf v u).due
          if c = 0 ∨ (calOpen v u ∧ ¬ (unitOf v u).fresh) then v
          else submitCal (modUnit v u fun v => { v with due := 0 }) u c false) i = slotOf v i := by
        dsimp only
        split
        · rfl
        · exact submitCal_taken (s := modUnit v u fun v => { v with due := 0 }) u _ false hv
      rw [ih _ (by rw [e]; exact hv), e]
  exact key allUnits s h

theorem settleCal_taken (h : (slotOf s i).st ≠ .free) : slotOf (settleCal s) i = slotOf s i := by
  unfold settleCal
  split
  · have e : slotOf (setMode s .idle) i = slotOf s i := by unfold slotOf; rw [(setMode_touch s .idle).same .ledger (by decide)]
    rw [submitDue_taken (by rw [e]; exact h), e]
  · rfl

/-- What stands in the slot of a host's item that has ended. -/
def endedSlot (s : State) (reason : Option Nat) (l : Slot) : Slot :=
  { l with
    st := if reason.isSome then .failed else .complete, reason := BitVec.ofNat 8 (reason.getD 0)
    tEnd := stamp s, cause := none, armed := false, budget := false }

theorem endedSlot_taken (s : State) (r : Option Nat) (l : Slot) : (endedSlot s r l).st ≠ .free := by
  unfold endedSlot
  cases r <;> simp

/-- The end of a host's item: its slot in every mode, and that every other item stays. -/
theorem endItem_ended {reason : Option Nat} {f : Slot → Slot} (hw : TabWf {} s.ledger) (ho : openSlot (slotOf s i) = true)
    (hn : (slotOf s i).own = false) (hf : (f (slotOf s i)).own = false) :
    slotOf (endItem s i reason f) i = endedSlot s reason (f (slotOf s i))
      ∧ ∀ j, j ≠ i → (slotOf s j).st ≠ .free → slotOf (endItem s i reason f) j = slotOf s j := by
  unfold endItem
  rw [if_pos ho]
  dsimp only
  generalize hv : modSlot s i (fun l => { f l with
        st := if reason.isSome then .failed else .complete, reason := BitVec.ofNat 8 (reason.getD 0),
        tEnd := stamp s, cause := none, armed := false, budget := false }) = v
  have vi : slotOf v i = endedSlot s reason (f (slotOf s i)) := by rw [← hv]; exact slotOf_modSlot_same _ _ _ hw
  have vj : ∀ j, j ≠ i → slotOf v j = slotOf s j := fun j h => by rw [← hv]; exact slotOf_modSlot_other _ _ _ h
  rw [hn]
  simp only [Bool.false_eq_true, false_and, if_false]
  have hd : ∀ j, slotOf (itemDone v i) j = slotOf v j := by
    intro j
    unfold itemDone
    have : (slotOf v i).own = false := by rw [vi]; exact hf
    dsimp only
    rw [this]
    simp only [Bool.false_eq_true, if_false]
    split
    · unfold slotOf; rw [(notice_touch ..).same .ledger (by decide)]
    · rfl
  have hs : ∀ j, (slotOf v j).st ≠ .free →
      slotOf (settleCal (settlePause (settleMode (itemDone v i)) (slotOf s i) reason)) j = slotOf v j := by
    intro j hj
    have e : slotOf (settlePause (settleMode (itemDone v i)) (slotOf s i) reason) j = slotOf v j := by
      rw [← hd j]
      unfold slotOf
      rw [(settlePause_touch ..).same .ledger (by decide), (settleMode_touch ..).same .ledger (by decide)]
    rw [settleCal_taken (by rw [e]; exact hj), e]
  refine ⟨?_, fun j hj hf => ?_⟩
  · rw [hs i (by rw [vi]; exact endedSlot_taken _ _ _), vi]
  · rw [hs j (by rw [vj j hj]; exact hf), vj j hj]

/-- What changes nothing of an item's slot and of Headwater before its end changes nothing of what stands there then. -/
theorem endItem_after {t : State} {reason : Option Nat} {f : Slot → Slot} (hl : t.ledger = s.ledger) (hh : t.hw = s.hw)
    (hw : TabWf {} s.ledger) (ho : openSlot (slotOf s i) = true) (hn : (slotOf s i).own = false)
    (hf : (f (slotOf s i)).own = false) : slotOf (endItem t i reason f) i = endedSlot s reason (f (slotOf s i)) := by
  have e : slotOf t i = slotOf s i := by unfold slotOf; rw [hl]
  rw [(endItem_ended (by rw [hl]; exact hw) (by rw [e]; exact ho) (by rw [e]; exact hn) (by rw [e]; exact hf)).1, e]
  unfold endedSlot stamp
  rw [hh]

theorem partialIf_own (a b : Bool) (l : Slot) : (partialIf a b l).own = l.own := by
  unfold partialIf flagSlot
  split <;> rfl

/-! Each kind of item. -/

/-- The end of a host's item, after what leaves its slot and Headwater alone. -/
theorem Ended.of_touch {ps : List Part} {t : State} {reason : Option Nat} {f : Slot → Slot} (k : Touch ps s t)
    (hl : Part.ledger ∉ ps) (hh : Part.hw ∉ ps) (hw : TabWf {} s.ledger) (h : HostItem s i)
    (hf : (f (slotOf s i)).own = (slotOf s i).own) : Ended s (endItem t i reason f) i reason := by
  have e := endItem_after (f := f) (reason := reason) (k.same .ledger hl) (k.same .hw hh) hw h.1 h.2 (hf.trans h.2)
  refine ⟨?_, ?_, ?_⟩ <;> rw [e] <;> rfl

theorem endItem_ends {reason : Option Nat} {f : Slot → Slot} (hw : TabWf {} s.ledger) (h : HostItem s i)
    (hf : (f (slotOf s i)).own = (slotOf s i).own) : Ended s (endItem s i reason f) i reason :=
  Ended.of_touch (ps := []) (Touch.refl _ _) (by decide) (by decide) hw h hf

theorem finishTdc_ends {reason : Option Nat} {extra : Nat} (hw : TabWf {} s.ledger) (h : HostItem s i) :
    Ended s (finishTdc s i reason extra) i reason := by
  unfold finishTdc
  dsimp only
  refine Ended.of_touch (ps := [.fabric, .levee, .mem, .free, .queues, .tdcs]) ?_ (by decide) (by decide) hw h (partialIf_own ..)
  have k := Touch.ite (c := ((itemTdcs (slotOf s i).msg).any fun t => (tdcOf s t).item = some i) = true)
    ((memWrite_touch s (pStats (slotOf s i).msg) ((itemTdcs (slotOf s i).msg).flatMap fun t => statsBytes t (tdcOf s t))).mono
      (b := [.fabric, .levee, .mem, .free, .queues, .tdcs]) (by decide)) (Touch.refl _ s)
  refine Touch.set_tdcs (by decide) (Touch.ite (Touch.app (modQueue_touch ..) (by decide) k) k)

theorem finishAcquire_ends {reason : Option Nat} {extra : Nat} (hw : TabWf {} s.ledger) (h : HostItem s i) :
    Ended s (finishAcquire s i reason extra) i reason := by
  unfold finishAcquire
  dsimp only
  refine Ended.of_touch (ps := [.fabric, .levee, .mem, .free, .acqs]) ?_ (by decide) (by decide) hw h (partialIf_own ..)
  exact Touch.set_acqs (by decide) (Touch.app (memWrite_touch ..) (by decide) (Touch.app (memWrite_touch ..) (by decide)
    ((takeFree_touch ..).mono (by decide))))

theorem finishDps_ends {reason : Option Nat} {extra : Nat} (hw : TabWf {} s.ledger) (h : HostItem s i) :
    Ended s (finishDps s i reason extra) i reason := by
  unfold finishDps
  dsimp only
  refine Ended.of_touch (ps := [.free, .queues, .dacs, .dps, .resvs]) ?_ (by decide) (by decide) hw h (partialIf_own ..)
  refine Touch.set_resvs (by decide) (Touch.ite (Touch.foldl ?_ fun u x => (settleSet_touch u x).mono (by decide)) ?_)
  all_goals exact Touch.ite (Touch.app (modQueue_touch ..) (by decide) (Touch.app (itemRecords_touch ..) (by decide)
    ((dpsResult_touch ..).mono (by decide)))) ((dpsResult_touch ..).mono (by decide))

theorem endQueued_ends {reason extra : Nat} (hw : TabWf {} s.ledger) (h : HostItem s i) :
    Ended s (endQueued s i reason extra) i (some reason) := by
  unfold endQueued
  split
  · exact Ended.of_touch (dpsResult_touch ..) (by decide) (by decide) hw h rfl
  · exact endItem_ends hw h rfl

theorem fireLevels_ends (hw : TabWf {} s.ledger) (h : HostItem s i) : Ended s (fireLevels s i) i none := by
  unfold fireLevels
  dsimp only
  refine Ended.of_touch (strobeGroup_touch ..) (by decide) (by decide) hw h ?_
  split <;> rfl

theorem finishMeasure_ends {q : Nat} {reason : Option Nat} {extra : Nat} (hw : TabWf {} s.ledger) (h : HostItem s i) :
    Ended s (finishMeasure s q i reason extra) i reason := by
  unfold finishMeasure
  dsimp only
  exact Ended.of_touch (ps := [.fabric, .levee, .mem, .free, .seqs]) (Touch.app (modSeq_touch ..) (by decide)
    ((memWrite_touch ..).mono (by decide))) (by decide) (by decide) hw h (partialIf_own ..)

theorem failCal_ends {reason extra : Nat} {dst : UState} (hw : TabWf {} s.ledger) (h : HostItem s i) :
    Ended s (failCal s i reason dst extra) i (some reason) := by
  unfold failCal
  dsimp only
  have hf := Touch.foldl (b := [.units, .mbs, .chans, .fabric, .svc, .free, .press])
    (l := (heldUnits s (slotOf s i)).filter (· ≠ pUnit (slotOf s i).msg)) (Touch.refl _ s)
    (fun u x => (releaseOther_touch u x).mono (by decide))
  have hr := Touch.app (releaseOwn_touch (freePress (((heldUnits s (slotOf s i)).filter (· ≠ pUnit (slotOf s i).msg)).foldl
    releaseOther s)) (pUnit (slotOf s i).msg) (if hostHeld s (pUnit (slotOf s i).msg) then .offline else dst)) (by decide)
    (Touch.app (freePress_touch ..) (by decide) hf)
  exact Ended.of_touch (Touch.ite (Touch.app (modUnit_touch ..) (by decide) hr) hr) (by decide) (by decide) hw h rfl

/-- What goes before the end may change the item's slot, but not whose it is. -/
theorem Ended.of_slot {t u : State} {reason : Option Nat} {f : Slot → Slot} {ps : List Part} (k : Touch ps t u)
    (hl : Part.ledger ∉ ps) (hh : Part.hw ∉ ps) (ht : t.hw = s.hw) (hw : TabWf {} t.ledger) (h : HostItem t i)
    (hf : (f (slotOf t i)).own = (slotOf t i).own) : Ended s (endItem u i reason f) i reason := by
  have e := Ended.of_touch (reason := reason) k hl hh hw h hf
  have c : stamp t = stamp s := by unfold stamp; rw [ht]
  exact ⟨e.1, e.2.1, e.2.2.trans c⟩

theorem HostItem.modSlot {f : Slot → Slot} (hw : TabWf {} s.ledger) (h : HostItem s i)
    (hs : (f (slotOf s i)).st = (slotOf s i).st) (ho : (f (slotOf s i)).own = (slotOf s i).own) :
    HostItem (modSlot s i f) i := by
  have e : slotOf (Sys2Proof.Machine.modSlot s i f) i = f (slotOf s i) := slotOf_modSlot_same _ _ _ hw
  refine ⟨?_, ?_⟩ <;> rw [e]
  · have := h.1
    unfold openSlot at this ⊢
    rw [hs]
    exact this
  · exact ho.trans h.2

theorem HostItem.of_touch {ps : List Part} {t : State} (h : HostItem s i) (k : Touch ps s t) (hl : Part.ledger ∉ ps) :
    HostItem t i := by
  have e : slotOf t i = slotOf s i := by unfold slotOf; rw [k.same .ledger hl]
  exact ⟨by rw [e]; exact h.1, by rw [e]; exact h.2⟩

theorem finishLane_ends {reason : Option Nat} {extra : Nat} (hw : TabWf {} s.ledger) (h : HostItem s i) :
    Ended s (finishLane s i reason extra) i reason := by
  unfold finishLane
  dsimp only
  have hs : HostItem (laneProgress s i) i := HostItem.modSlot hw h rfl rfl
  refine Ended.of_slot (t := laneProgress s i) (ps := [.free, .fabric, .levee, .mem, .lanes]) ?_ (by decide) (by decide)
    rfl (modSlot_wf hw _ _) hs (partialIf_own ..)
  refine Touch.set_lanes (by decide) (Touch.app (memWrite_touch ..) (by decide) ?_)
  split
  · exact Touch.refl _ _
  · exact (takeFree_touch ..).mono (by decide)

theorem transferDue_slot (due late : BitVec 12) (hw : TabWf {} s.ledger) (h : HostItem s i) :
    HostItem (transferDue s i due late) i ∧ TabWf {} (transferDue s i due late).ledger ∧ (transferDue s i due late).hw = s.hw := by
  unfold transferDue
  dsimp only
  have k := Touch.foldl (b := [.pebs]) (l := setBits 12 (due ||| late).toNat) (Touch.refl _ s)
    (fun u x => transferTables_touch u x)
  have hw' := k.same .ledger (by decide)
  have h' := h.of_touch k (by decide)
  split
  · exact ⟨h', by rw [hw']; exact hw, k.same .hw (by decide)⟩
  · exact ⟨HostItem.modSlot (by rw [hw']; exact hw) h' rfl rfl, modSlot_wf (by rw [hw']; exact hw) _ _, k.same .hw (by decide)⟩

theorem finishBurst_ends {reason : Option Nat} {rest : Nat → Rest} {extra : Nat} (hw : TabWf {} s.ledger) (h : HostItem s i) :
    Ended s (finishBurst s i reason rest extra) i reason := by
  unfold finishBurst
  dsimp only
  generalize ha : flushJunction (closeRuns s i) i = a
  have ka : Touch [.bursts, .queues] s a := by rw [← ha]; exact Touch.app (flushJunction_touch ..) (by decide) (closeRuns_touch ..)
  obtain ⟨b1, b2, b3⟩ := transferDue_slot (s := a) ((burstOf a i).commit ||| (burstOf a i).commitLate) (burstOf a i).lateDue
    (by rw [ka.same .ledger (by decide)]; exact hw) (h.of_touch ka (by decide))
  generalize hb : transferDue a i ((burstOf a i).commit ||| (burstOf a i).commitLate) (burstOf a i).lateDue = b at b1 b2 b3
  refine Ended.of_slot (t := b) (ps := [.bursts, .queues, .fabric, .levee, .mem, .free, .chans, .pebs]) ?_ (by decide)
    (by decide) (b3.trans (ka.same .hw (by decide))) b2 b1 (partialIf_own ..)
  refine Touch.app (settlePins_touch ..) (by decide) ?_
  refine Touch.set_bursts_fabric (b := [.bursts, .queues, .fabric, .levee, .mem, .free, .chans, .pebs]) (by decide) (by decide) ?_
  refine Touch.foldl ?_ fun u x => (restPeb_touch u x _).mono (by decide)
  refine Touch.app (memWrite_touch ..) (by decide) ?_
  have kc : Touch [.bursts, .queues, .fabric, .levee, .mem, .free, .chans, .pebs] b (match (burstOf a i).phase with
      | .hold _ => modBurst b i fun b => { b with holds := b.holds + 1 }
      | .stall => modBurst b i fun c => { c with
          stalls := c.stalls + 1, stallVecs := c.stallVecs + pauseVectors b c }
      | _ => b) := by
    split
    · exact (modBurst_touch ..).mono (by decide)
    · exact (modBurst_touch ..).mono (by decide)
    · exact Touch.refl _ _
  refine Touch.ite (Touch.foldl ?_ fun u x => (modQueue_touch u x _).mono (by decide)) ?_
  all_goals exact Touch.ite (Touch.app (capAll_touch ..) (by decide) kc) kc

end Sys2Proof.Machine
end

