-- ==== Sys2Proof/Laws/Regs.lean ====
section
/-! SUPPORT. What each function of Machine/Regs.lean may touch. -/

namespace Sys2Proof.Machine

theorem writeHead_touch (s : State) (n : ℕ) (a2 : BitVec 9) :
    Touch [.mbs] s (writeHead s n a2) := by
  unfold writeHead
  dsimp only
  apply Touch.ite
  · exact Touch.refl _ _
  · apply Touch.ite
    · (apply Touch.app (modMb_touch ..); · decide)
      exact Touch.refl _ _
    · apply Touch.ite
      · (apply Touch.app (modMb_touch ..); · decide)
        exact Touch.refl _ _
      · (apply Touch.app (modMb_touch ..); · decide)
        exact Touch.refl _ _

theorem sendUnread_touch (s : State) (i : BitVec 9) :
    Touch [.mbs, .fabric, .free] s (sendUnread s i) := by
  unfold sendUnread
  dsimp only
  (apply Touch.app (sendMsg_touch ..); · decide)
  (apply Touch.app (takeFree_touch ..); · decide)
  exact Touch.refl _ _

theorem writePath_touch (s : State) (path : Bool) :
    Touch [.mbs, .fabric, .free] s (writePath s path) := by
  unfold writePath
  dsimp only
  apply Touch.ite
  · apply Touch.ite
    · apply Touch.foldl
      · (apply Touch.app (modMb_touch ..); · decide)
        exact Touch.refl _ _
      · intro u v
        (apply Touch.app (sendUnread_touch ..); · decide)
        exact Touch.refl _ _
    · refine Touch.set_fabric (by decide) ?_
      (apply Touch.app (modMb_touch ..); · decide)
      exact Touch.refl _ _
  · exact Touch.refl _ _

theorem writeDoorbell_touch (s : State) (n : ℕ) (v : Word) :
    Touch [.mbs, .fabric, .free] s (writeDoorbell s n v) := by
  unfold writeDoorbell
  dsimp only
  apply Touch.ite
  · (apply Touch.app (writePath_touch ..); · decide)
    (apply Touch.app (writeHead_touch ..); · decide)
    (apply Touch.app (modMb_touch ..); · decide)
    exact Touch.refl _ _
  · (apply Touch.app (writeHead_touch ..); · decide)
    (apply Touch.app (modMb_touch ..); · decide)
    exact Touch.refl _ _

theorem execMbDoorbellWrite_touch (n : ℕ) (value : Word) (s : State) :
    TouchOut [.mbs, .fabric, .free] s (execMbDoorbellWrite n value s) := by
  unfold execMbDoorbellWrite
  apply TouchOut.ite
  · apply TouchOut.next
    exact Touch.refl _ _
  · apply TouchOut.next
    (apply Touch.app (writeDoorbell_touch ..); · decide)
    exact Touch.refl _ _

theorem writeTail_touch (s : State) (n : ℕ) (t : BitVec 9) :
    Touch [.mbs] s (writeTail s n t) := by
  unfold writeTail
  dsimp only
  apply Touch.ite
  · exact Touch.refl _ _
  · apply Touch.ite
    · (apply Touch.app (modMb_touch ..); · decide)
      exact Touch.refl _ _
    · (apply Touch.app (modMb_touch ..); · decide)
      exact Touch.refl _ _

theorem latchTime_touch (s : State) (path : Path) :
    Touch [.hw] s (latchTime s path) := by
  unfold latchTime
  dsimp only
  split
  · refine Touch.set_hw (by decide) ?_
    exact Touch.refl _ _
  · refine Touch.set_hw (by decide) ?_
    exact Touch.refl _ _
  · refine Touch.set_hw (by decide) ?_
    exact Touch.refl _ _

theorem clearMsp_touch (s : State) (v : Word) :
    Touch [.msp] s (clearMsp s v) := by
  unfold clearMsp
  dsimp only
  refine Touch.set_msp (by decide) ?_
  exact Touch.refl _ _

theorem writeEntry_touch (s : State) (n : ℕ) (e : ℕ) (k : ℕ) (v : Word) :
    Touch [.mbs] s (writeEntry s n e k v) := by
  unfold writeEntry
  dsimp only
  apply Touch.ite
  · (apply Touch.app (modMb_touch ..); · decide)
    exact Touch.refl _ _
  · (apply Touch.app (modMb_touch ..); · decide)
    exact Touch.refl _ _

theorem writeMctrl_touch (s : State) (busy : Bool) (v : Word) :
    Touch [.msp] s (writeMctrl s busy v) := by
  unfold writeMctrl
  dsimp only
  apply Touch.ite
  · refine Touch.set_msp (by decide) ?_
    exact Touch.refl _ _
  · refine Touch.set_msp (by decide) ?_
    exact Touch.refl _ _

theorem writeRspIndex_touch (s : State) (n : ℕ) (v : Word) :
    Touch [.mbs] s (writeRspIndex s n v) := by
  unfold writeRspIndex
  dsimp only
  (apply Touch.app (writeTail_touch ..); · decide)
  (apply Touch.app (modMb_touch ..); · decide)
  exact Touch.refl _ _

theorem writeWord_touch (s : State) (busy : Bool) (a2 : ℕ) (v : Word) :
    Touch [.power, .dev, .units, .hw, .boot, .mbs, .ledger, .order, .dacs, .chans, .pebs, .bursts, .seqs, .tdcs, .acqs, .dps, .resvs, .lanes, .queues, .dmas, .fabric, .press, .house, .levee, .svc, .mem, .msp, .free] s (writeWord s busy a2 v) := by
  unfold writeWord
  dsimp only
  apply Touch.ite
  · refine Touch.set_boot (by decide) ?_
    exact Touch.refl _ _
  · apply Touch.ite
    · (apply Touch.app (writeBootCtrl_touch ..); · decide)
      exact Touch.refl _ _
    · apply Touch.ite
      · (apply Touch.app (writeRstCtrl_touch ..); · decide)
        exact Touch.refl _ _
      · apply Touch.ite
        · (apply Touch.app (clearMsp_touch ..); · decide)
          exact Touch.refl _ _
        · apply Touch.ite
          · (apply Touch.app (writeMctrl_touch ..); · decide)
            exact Touch.refl _ _
          · apply Touch.ite
            · apply Touch.ite
              · exact Touch.refl _ _
              · refine Touch.set_msp (by decide) ?_
                exact Touch.refl _ _
            · apply Touch.ite
              · apply Touch.ite
                · exact Touch.refl _ _
                · apply Touch.ite
                  · (apply Touch.app (writeDoorbell_touch ..); · decide)
                    exact Touch.refl _ _
                  · (apply Touch.app (writeRspIndex_touch ..); · decide)
                    exact Touch.refl _ _
              · apply Touch.ite
                · (apply Touch.app (ackEvents_touch ..); · decide)
                  exact Touch.refl _ _
                · apply Touch.ite
                  · (apply Touch.app (writeCtrl_touch ..); · decide)
                    exact Touch.refl _ _
                  · apply Touch.ite
                    · apply Touch.ite
                      · exact Touch.refl _ _
                      · (apply Touch.app (writeEntry_touch ..); · decide)
                        exact Touch.refl _ _
                    · exact Touch.refl _ _

theorem execHwTimeLoRead_touch (path : Path) (s : State) :
    TouchOut [.hw] s (execHwTimeLoRead path s) := by
  unfold execHwTimeLoRead
  apply TouchOut.ite
  · apply TouchOut.next
    exact Touch.refl _ _
  · apply TouchOut.next
    (apply Touch.app (latchTime_touch ..); · decide)
    exact Touch.refl _ _

theorem execRequestEntryWrite_touch (n : ℕ) (entry : ℕ) (word : ℕ) (value : Word) (s : State) :
    TouchOut [.mbs] s (execRequestEntryWrite n entry word value s) := by
  unfold execRequestEntryWrite
  apply TouchOut.ite
  · apply TouchOut.next
    exact Touch.refl _ _
  · apply TouchOut.next
    (apply Touch.app (writeEntry_touch ..); · decide)
    exact Touch.refl _ _

theorem execMb0PathChange_touch (path : Bool) (s : State) :
    TouchOut [.mbs, .fabric, .free] s (execMb0PathChange path s) := by
  unfold execMb0PathChange
  apply TouchOut.ite
  · apply TouchOut.next
    exact Touch.refl _ _
  · apply TouchOut.next
    (apply Touch.app (writePath_touch ..); · decide)
    exact Touch.refl _ _

theorem readWords_touch (a0 : ℕ) (s : State) (a2 : Path) (a3 : ℕ) :
    Touch [.hw] s (readWords a0 s a2 a3).2 := by
  induction a0 generalizing s a2 a3 with
  | zero =>
    unfold readWords
    dsimp only
    exact Touch.refl _ _
  | succ n ih =>
    unfold readWords
    dsimp only
    apply Touch.trans (ih ..)
    apply Touch.ite
    · (apply Touch.app (latchTime_touch ..); · decide)
      exact Touch.refl _ _
    · exact Touch.refl _ _

theorem execRspTailWrite_touch (n : ℕ) (value : Word) (s : State) :
    TouchOut [.mbs] s (execRspTailWrite n value s) := by
  unfold execRspTailWrite
  apply TouchOut.ite
  · apply TouchOut.next
    exact Touch.refl _ _
  · apply TouchOut.next
    (apply Touch.app (writeRspIndex_touch ..); · decide)
    exact Touch.refl _ _

theorem writeWords_touch (s : State) (a1 : ℕ) (ws : List Word) :
    Touch [.power, .dev, .units, .hw, .boot, .mbs, .ledger, .order, .dacs, .chans, .pebs, .bursts, .seqs, .tdcs, .acqs, .dps, .resvs, .lanes, .queues, .dmas, .fabric, .press, .house, .levee, .svc, .mem, .msp, .free] s (writeWords s a1 ws) := by
  unfold writeWords
  dsimp only
  apply Touch.foldl
  · exact Touch.refl _ _
  · intro u v
    (apply Touch.app (writeWord_touch ..); · decide)
    exact Touch.refl _ _

theorem execRegisterWrite_touch (addr : BitVec 24) (value : Word) (s : State) :
    TouchOut [.power, .dev, .units, .hw, .boot, .mbs, .ledger, .order, .dacs, .chans, .pebs, .bursts, .seqs, .tdcs, .acqs, .dps, .resvs, .lanes, .queues, .dmas, .fabric, .press, .house, .levee, .svc, .mem, .msp, .free] s (execRegisterWrite addr value s) := by
  unfold execRegisterWrite
  apply TouchOut.ite
  · apply TouchOut.next
    exact Touch.refl _ _
  · apply TouchOut.next
    (apply Touch.app (writeWords_touch ..); · decide)
    exact Touch.refl _ _

end Sys2Proof.Machine
end

