-- ==== Sys2Proof/Laws/Port.lean ====
section
/-! SUPPORT. What each function of Machine/Port.lean may touch. -/

namespace Sys2Proof.Machine

theorem raiseFlags_touch (s : State) (badAddr : Bool) (badOp : Bool) (overclock : Bool) (frame : Bool) (underrun : Bool) :
    Touch [.msp] s (raiseFlags s badAddr badOp overclock frame underrun) := by
  unfold raiseFlags
  dsimp only
  refine Touch.set_msp (by decide) ?_
  exact Touch.refl _ _

theorem readFrame_touch (s : State) (a1 : ℕ) (n : ℕ) (late : ℕ) (shifted : ℕ) (extra : Bool) :
    Touch [.hw, .msp] s (readFrame s a1 n late shifted extra) := by
  unfold readFrame
  dsimp only
  (apply Touch.app (raiseFlags_touch ..); · decide)
  refine Touch.set_msp (by decide) ?_
  (apply Touch.app (readWords_touch ..); · decide)
  exact Touch.refl _ _

theorem readOrBad_touch (s : State) (a1 : ℕ) (n : ℕ) (late : ℕ) (shifted : ℕ) (extra : Bool) :
    Touch [.hw, .msp] s (readOrBad s a1 n late shifted extra) := by
  unfold readOrBad
  dsimp only
  apply Touch.ite
  · exact Touch.refl _ _
  · apply Touch.ite
    · (apply Touch.app (raiseFlags_touch ..); · decide)
      refine Touch.set_msp (by decide) ?_
      exact Touch.refl _ _
    · (apply Touch.app (readFrame_touch ..); · decide)
      exact Touch.refl _ _

theorem writeFrame_touch (s : State) (a1 : ℕ) (ws : List Word) (cut : Bool) (extra : Bool) :
    Touch [.power, .dev, .units, .hw, .boot, .mbs, .ledger, .order, .dacs, .chans, .pebs, .bursts, .seqs, .tdcs, .acqs, .dps, .resvs, .lanes, .queues, .dmas, .fabric, .press, .house, .levee, .svc, .mem, .msp, .free] s (writeFrame s a1 ws cut extra) := by
  unfold writeFrame
  dsimp only
  apply Touch.ite
  · (apply Touch.app (raiseFlags_touch ..); · decide)
    refine Touch.set_msp (by decide) ?_
    exact Touch.refl _ _
  · apply Touch.ite
    · (apply Touch.app (raiseFlags_touch ..); · decide)
      refine Touch.set_msp (by decide) ?_
      exact Touch.refl _ _
    · (apply Touch.app (raiseFlags_touch ..); · decide)
      (apply Touch.app (writeWords_touch ..); · decide)
      refine Touch.set_msp (by decide) ?_
      exact Touch.refl _ _

theorem contend_touch (s : State) :
    Touch [.msp, .free] s (contend s) := by
  unfold contend
  dsimp only
  refine Touch.set_msp (by decide) ?_
  (apply Touch.app (takeFree_touch ..); · decide)
  exact Touch.refl _ _

theorem mspFrame_touch {b : List Part} (h0 : Part.msp ∈ b) (h1 : Part.free ∈ b) (s : State) (f : State → State)
    (h : ∀ t0, Touch b t0 (f t0)) :
    Touch b s (mspFrame s f) := by
  unfold mspFrame
  dsimp only
  apply Touch.ite
  · exact Touch.refl _ _
  · apply Touch.ite
    · (apply Touch.app (contend_touch ..); · simp_all)
      exact Touch.refl _ _
    · apply Touch.trans (h ..)
      refine Touch.set_msp (by assumption) ?_
      exact Touch.refl _ _

theorem execMspRead_touch (addr : BitVec 24) (n : ℕ) (late : ℕ) (shifted : ℕ) (extra : Bool) (s : State) :
    TouchOut [.hw, .msp, .free] s (execMspRead addr n late shifted extra s) := by
  unfold execMspRead
  apply TouchOut.next
  refine Touch.trans (mspFrame_touch (by decide) (by decide) (h := ?_) ..) ?_
  · intro t0
    (apply Touch.app (readOrBad_touch ..); · decide)
    exact Touch.refl _ _
  · exact Touch.refl _ _

theorem execMspMasterUnitEnd_touch (sdi : Word) (s : State) :
    TouchOut [.msp] s (execMspMasterUnitEnd sdi s) := by
  unfold execMspMasterUnitEnd
  dsimp only
  apply TouchOut.ite
  · apply TouchOut.next
    refine Touch.set_msp (by decide) ?_
    exact Touch.refl _ _
  · apply TouchOut.next
    exact Touch.refl _ _

theorem endSelfTest_touch (s : State) (report : List Byte) :
    Touch [.power, .dev, .units, .hw, .mbs, .ledger, .order, .dacs, .chans, .pebs, .bursts, .seqs, .tdcs, .acqs, .dps, .resvs, .lanes, .queues, .dmas, .fabric, .press, .levee, .svc, .mem, .free] s (endSelfTest s report) := by
  unfold endSelfTest
  dsimp only
  (apply Touch.app (settleBypass_touch ..); · decide)
  (apply Touch.app (setMode_touch ..); · decide)
  refine Touch.set_dev (by decide) ?_
  (apply Touch.app (memWrite_touch ..); · decide)
  exact Touch.refl _ _

theorem freeReport_touch (a0 : ℕ) (s : State) :
    Touch [.free] s (freeReport a0 s).2 := by
  induction a0 generalizing s with
  | zero =>
    unfold freeReport
    dsimp only
    exact Touch.refl _ _
  | succ n ih =>
    unfold freeReport
    dsimp only
    apply Touch.trans (ih ..)
    (apply Touch.app (takeFree_touch ..); · decide)
    exact Touch.refl _ _

theorem loadIr_touch (s : State) (ir : Byte) :
    Touch [.power, .dev, .units, .hw, .mbs, .ledger, .order, .dacs, .chans, .pebs, .bursts, .seqs, .tdcs, .acqs, .dps, .resvs, .lanes, .queues, .dmas, .fabric, .press, .levee, .svc, .mem, .jtag, .free] s (loadIr s ir) := by
  unfold loadIr
  dsimp only
  apply Touch.ite
  · (apply Touch.app (endSelfTest_touch ..); · decide)
    (apply Touch.app (freeReport_touch ..); · decide)
    refine Touch.set_jtag (by decide) ?_
    exact Touch.refl _ _
  · refine Touch.set_jtag (by decide) ?_
    exact Touch.refl _ _

theorem execBypass_touch (s : State) :
    TouchOut [.power, .dev, .units, .hw, .mbs, .ledger, .order, .dacs, .chans, .pebs, .bursts, .seqs, .tdcs, .acqs, .dps, .resvs, .lanes, .queues, .dmas, .fabric, .press, .levee, .svc, .mem, .jtag, .free] s (execBypass s) := by
  unfold execBypass
  apply TouchOut.next
  (apply Touch.app (loadIr_touch ..); · decide)
  exact Touch.refl _ _

theorem execSamplePreload_touch (cells : List Bool) (s : State) :
    TouchOut [.power, .dev, .units, .hw, .mbs, .ledger, .order, .dacs, .chans, .pebs, .bursts, .seqs, .tdcs, .acqs, .dps, .resvs, .lanes, .queues, .dmas, .fabric, .press, .levee, .svc, .mem, .jtag, .free] s (execSamplePreload cells s) := by
  unfold execSamplePreload
  dsimp only
  apply TouchOut.next
  (apply Touch.app (loadIr_touch ..); · decide)
  refine Touch.set_jtag (by decide) ?_
  exact Touch.refl _ _

theorem execClamp_touch (s : State) :
    TouchOut [.power, .dev, .units, .hw, .mbs, .ledger, .order, .dacs, .chans, .pebs, .bursts, .seqs, .tdcs, .acqs, .dps, .resvs, .lanes, .queues, .dmas, .fabric, .press, .levee, .svc, .mem, .jtag, .free] s (execClamp s) := by
  unfold execClamp
  apply TouchOut.next
  (apply Touch.app (loadIr_touch ..); · decide)
  exact Touch.refl _ _

theorem execRegAccess_touch (dr : BitVec 64) (s : State) :
    TouchOut [.power, .dev, .units, .hw, .boot, .mbs, .ledger, .order, .dacs, .chans, .pebs, .bursts, .seqs, .tdcs, .acqs, .dps, .resvs, .lanes, .queues, .dmas, .fabric, .press, .house, .levee, .svc, .mem, .msp, .jtag, .free] s (execRegAccess dr s) := by
  unfold execRegAccess
  dsimp only
  apply TouchOut.ite
  · apply TouchOut.next
    (apply Touch.app (loadIr_touch ..); · decide)
    exact Touch.refl _ _
  · apply TouchOut.ite
    · apply TouchOut.next
      refine Touch.set_jtag (by decide) ?_
      (apply Touch.app (readWords_touch ..); · decide)
      (apply Touch.app (loadIr_touch ..); · decide)
      exact Touch.refl _ _
    · apply TouchOut.next
      refine Touch.set_jtag (by decide) ?_
      (apply Touch.app (writeWords_touch ..); · decide)
      (apply Touch.app (loadIr_touch ..); · decide)
      exact Touch.refl _ _

theorem execMspMasterStart_touch (value : Word) (s : State) :
    TouchOut [.msp] s (execMspMasterStart value s) := by
  unfold execMspMasterStart
  apply TouchOut.ite
  · apply TouchOut.next
    exact Touch.refl _ _
  · apply TouchOut.next
    (apply Touch.app (writeMctrl_touch ..); · decide)
    exact Touch.refl _ _

theorem execMspStream_touch (addr : BitVec 24) (words : List Word) (partialWord : Bool) (s : State) :
    TouchOut [.boot, .fabric, .msp, .free] s (execMspStream addr words partialWord s) := by
  unfold execMspStream
  dsimp only
  apply TouchOut.next
  refine Touch.trans (mspFrame_touch (by decide) (by decide) (h := ?_) ..) ?_
  · intro t0
    apply Touch.ite
    · (apply Touch.app (raiseFlags_touch ..); · decide)
      refine Touch.set_msp (by decide) ?_
      exact Touch.refl _ _
    · apply Touch.ite
      · (apply Touch.app (raiseFlags_touch ..); · decide)
        apply Touch.ite
        · apply Touch.foldl
          · refine Touch.set_msp (by decide) ?_
            exact Touch.refl _ _
          · intro u v
            (apply Touch.app (streamByte_touch ..); · decide)
            exact Touch.refl _ _
        · refine Touch.set_msp (by decide) ?_
          exact Touch.refl _ _
      · (apply Touch.app (raiseFlags_touch ..); · decide)
        refine Touch.set_msp (by decide) ?_
        exact Touch.refl _ _
  · exact Touch.refl _ _

theorem execSelfTestEnd_touch (report : List Byte) (s : State) :
    TouchOut [.power, .dev, .units, .hw, .mbs, .ledger, .order, .dacs, .chans, .pebs, .bursts, .seqs, .tdcs, .acqs, .dps, .resvs, .lanes, .queues, .dmas, .fabric, .press, .levee, .svc, .mem, .free] s (execSelfTestEnd report s) := by
  unfold execSelfTestEnd
  apply TouchOut.ite
  · apply TouchOut.next
    (apply Touch.app (endSelfTest_touch ..); · decide)
    exact Touch.refl _ _
  · apply TouchOut.next
    exact Touch.refl _ _

theorem execMspReadSlow_touch (addr : BitVec 24) (n : ℕ) (late : ℕ) (shifted : ℕ) (extra : Bool) (s : State) :
    TouchOut [.hw, .msp, .free] s (execMspReadSlow addr n late shifted extra s) := by
  unfold execMspReadSlow
  apply TouchOut.next
  refine Touch.trans (mspFrame_touch (by decide) (by decide) (h := ?_) ..) ?_
  · intro t0
    (apply Touch.app (readOrBad_touch ..); · decide)
    exact Touch.refl _ _
  · exact Touch.refl _ _

theorem execExtestPulse_touch (s : State) :
    TouchOut [.power, .dev, .units, .hw, .mbs, .ledger, .order, .dacs, .chans, .pebs, .bursts, .seqs, .tdcs, .acqs, .dps, .resvs, .lanes, .queues, .dmas, .fabric, .press, .levee, .svc, .mem, .jtag, .free] s (execExtestPulse s) := by
  unfold execExtestPulse
  apply TouchOut.next
  (apply Touch.app (loadIr_touch ..); · decide)
  exact Touch.refl _ _

theorem execMspWrite_touch (addr : BitVec 24) (words : List Word) (cut : Bool) (extra : Bool) (s : State) :
    TouchOut [.power, .dev, .units, .hw, .boot, .mbs, .ledger, .order, .dacs, .chans, .pebs, .bursts, .seqs, .tdcs, .acqs, .dps, .resvs, .lanes, .queues, .dmas, .fabric, .press, .house, .levee, .svc, .mem, .msp, .free] s (execMspWrite addr words cut extra s) := by
  unfold execMspWrite
  dsimp only
  apply TouchOut.next
  refine Touch.trans (mspFrame_touch (by decide) (by decide) (h := ?_) ..) ?_
  · intro t0
    apply Touch.ite
    · exact Touch.refl _ _
    · apply Touch.ite
      · (apply Touch.app (raiseFlags_touch ..); · decide)
        refine Touch.set_msp (by decide) ?_
        exact Touch.refl _ _
      · (apply Touch.app (writeFrame_touch ..); · decide)
        exact Touch.refl _ _
  · exact Touch.refl _ _

theorem execHighz_touch (s : State) :
    TouchOut [.power, .dev, .units, .hw, .mbs, .ledger, .order, .dacs, .chans, .pebs, .bursts, .seqs, .tdcs, .acqs, .dps, .resvs, .lanes, .queues, .dmas, .fabric, .press, .levee, .svc, .mem, .jtag, .free] s (execHighz s) := by
  unfold execHighz
  apply TouchOut.next
  (apply Touch.app (loadIr_touch ..); · decide)
  exact Touch.refl _ _

theorem execIdcode_touch (s : State) :
    TouchOut [.power, .dev, .units, .hw, .mbs, .ledger, .order, .dacs, .chans, .pebs, .bursts, .seqs, .tdcs, .acqs, .dps, .resvs, .lanes, .queues, .dmas, .fabric, .press, .levee, .svc, .mem, .jtag, .free] s (execIdcode s) := by
  unfold execIdcode
  apply TouchOut.next
  (apply Touch.app (loadIr_touch ..); · decide)
  exact Touch.refl _ _

theorem execContention_touch (s : State) :
    TouchOut [.msp, .free] s (execContention s) := by
  unfold execContention
  apply TouchOut.ite
  · apply TouchOut.next
    (apply Touch.app (contend_touch ..); · decide)
    exact Touch.refl _ _
  · apply TouchOut.next
    exact Touch.refl _ _

theorem execExtest_touch (s : State) :
    TouchOut [.power, .dev, .units, .hw, .mbs, .ledger, .order, .dacs, .chans, .pebs, .bursts, .seqs, .tdcs, .acqs, .dps, .resvs, .lanes, .queues, .dmas, .fabric, .press, .levee, .svc, .mem, .jtag, .free] s (execExtest s) := by
  unfold execExtest
  apply TouchOut.next
  (apply Touch.app (loadIr_touch ..); · decide)
  exact Touch.refl _ _

theorem execMspReservedOpcode_touch (opcode : Byte) (addr : BitVec 24) (s : State) :
    TouchOut [.msp, .free] s (execMspReservedOpcode opcode addr s) := by
  unfold execMspReservedOpcode
  dsimp only
  apply TouchOut.next
  refine Touch.trans (mspFrame_touch (by decide) (by decide) (h := ?_) ..) ?_
  · intro t0
    apply Touch.ite
    · (apply Touch.app (raiseFlags_touch ..); · decide)
      refine Touch.set_msp (by decide) ?_
      exact Touch.refl _ _
    · exact Touch.refl _ _
  · exact Touch.refl _ _

theorem execExtestTrain_touch (s : State) :
    TouchOut [.power, .dev, .units, .hw, .mbs, .ledger, .order, .dacs, .chans, .pebs, .bursts, .seqs, .tdcs, .acqs, .dps, .resvs, .lanes, .queues, .dmas, .fabric, .press, .levee, .svc, .mem, .jtag, .free] s (execExtestTrain s) := by
  unfold execExtestTrain
  apply TouchOut.next
  (apply Touch.app (loadIr_touch ..); · decide)
  exact Touch.refl _ _

end Sys2Proof.Machine
end

