-- ==== Sys2Proof/Laws/ReqDevice.lean ====
section
/-! SUPPORT. What each function of Machine/ReqDevice.lean may touch. -/

namespace Sys2Proof.Machine

theorem execOpcPdQuery_touch (mb : ℕ) (s : State) :
    TouchOut [.mbs, .rr, .fabric, .free] s (execOpcPdQuery mb s) := by
  unfold execOpcPdQuery
  refine TouchOut.trans (serveNext_touch (by decide) (by decide) (by decide) (by decide) (h := ?_) ..) ?_
  · intro t0 t1
    (apply Touch.app (done_touch ..); · decide)
    exact Touch.refl _ _
  · exact Touch.refl _ _

theorem startDevice_touch (s : State) (m : BitVec 28) (mask : BitVec 32) :
    Touch [.power, .dev, .units, .clock, .hw, .mbs, .ledger, .order, .fabric, .svc, .free] s (startDevice s m mask) := by
  unfold startDevice
  dsimp only
  (apply Touch.app (settleFord_touch ..); · decide)
  apply Touch.foldl
  · apply Touch.foldl
    · (apply Touch.app (orderSwitches_touch ..); · decide)
      apply Touch.ite
      · (apply Touch.app (setMode_touch ..); · decide)
        refine Touch.set_dev (by decide) ?_
        exact Touch.refl _ _
      · (apply Touch.app (startLock_touch ..); · decide)
        (apply Touch.app (setMode_touch ..); · decide)
        refine Touch.set_dev (by decide) ?_
        exact Touch.refl _ _
    · intro u v
      (apply Touch.app (setUnit_touch ..); · decide)
      exact Touch.refl _ _
  · intro u v
    (apply Touch.app (submitCal_touch ..); · decide)
    exact Touch.refl _ _

theorem execOpcDeviceStart_touch (mb : ℕ) (s : State) :
    TouchOut [.power, .dev, .units, .clock, .hw, .mbs, .rr, .ledger, .order, .dacs, .chans, .pebs, .bursts, .seqs, .tdcs, .acqs, .dps, .resvs, .lanes, .queues, .dmas, .fabric, .press, .levee, .svc, .mem, .free] s (execOpcDeviceStart mb s) := by
  unfold execOpcDeviceStart
  dsimp only
  refine TouchOut.trans (serveNext_touch (by decide) (by decide) (by decide) (by decide) (h := ?_) ..) ?_
  · intro t0 t1
    (apply Touch.app (settleBypass_touch ..); · decide)
    (apply Touch.app (settleCal_touch ..); · decide)
    (apply Touch.app (done_touch ..); · decide)
    (apply Touch.app (startDevice_touch ..); · decide)
    exact Touch.refl _ _
  · exact Touch.refl _ _

theorem execOpcBypassEnter_touch (mb : ℕ) (s : State) :
    TouchOut [.power, .dev, .units, .mbs, .rr, .ledger, .order, .dacs, .chans, .pebs, .bursts, .seqs, .tdcs, .acqs, .dps, .resvs, .lanes, .queues, .dmas, .fabric, .press, .levee, .svc, .mem, .free] s (execOpcBypassEnter mb s) := by
  unfold execOpcBypassEnter
  dsimp only
  refine TouchOut.trans (serveNext_touch (by decide) (by decide) (by decide) (by decide) (h := ?_) ..) ?_
  · intro t0 t1
    apply Touch.ite
    · (apply Touch.app (answerOwed_touch ..); · decide)
      apply Touch.ite
      · (apply Touch.app (endForBypass_touch ..); · decide)
        (apply Touch.app (deferResp_touch ..); · decide)
        exact Touch.refl _ _
      · refine Touch.set_power (by decide) ?_
        (apply Touch.app (deferResp_touch ..); · decide)
        exact Touch.refl _ _
    · refine Touch.set_power (by decide) ?_
      apply Touch.ite
      · (apply Touch.app (endForBypass_touch ..); · decide)
        (apply Touch.app (deferResp_touch ..); · decide)
        exact Touch.refl _ _
      · refine Touch.set_power (by decide) ?_
        (apply Touch.app (deferResp_touch ..); · decide)
        exact Touch.refl _ _
  · exact Touch.refl _ _

theorem answerTrained_touch (s : State) :
    Touch [.mbs, .fabric] s (answerTrained s) := by
  unfold answerTrained
  dsimp only
  (apply Touch.app (answerEvery_touch ..); · decide)
  apply Touch.ite
  · exact Touch.refl _ _
  · (apply Touch.app (answerEvery_touch ..); · decide)
    exact Touch.refl _ _

theorem execOpcBypassExit_touch (mb : ℕ) (s : State) :
    TouchOut [.power, .dev, .units, .clock, .hw, .mbs, .rr, .ledger, .order, .fabric, .svc, .free] s (execOpcBypassExit mb s) := by
  unfold execOpcBypassExit
  dsimp only
  refine TouchOut.trans (serveNext_touch (by decide) (by decide) (by decide) (by decide) (h := ?_) ..) ?_
  · intro t0 t1
    (apply Touch.app (answerTrained_touch ..); · decide)
    apply Touch.ite
    · (apply Touch.app (openFord_touch ..); · decide)
      apply Touch.ite
      · (apply Touch.app (submitDue_touch ..); · decide)
        (apply Touch.app (setMode_touch ..); · decide)
        (apply Touch.app (deferResp_touch ..); · decide)
        refine Touch.set_power (by decide) ?_
        exact Touch.refl _ _
      · (apply Touch.app (setMode_touch ..); · decide)
        (apply Touch.app (deferResp_touch ..); · decide)
        refine Touch.set_power (by decide) ?_
        exact Touch.refl _ _
    · apply Touch.ite
      · (apply Touch.app (submitDue_touch ..); · decide)
        (apply Touch.app (setMode_touch ..); · decide)
        (apply Touch.app (deferResp_touch ..); · decide)
        refine Touch.set_power (by decide) ?_
        exact Touch.refl _ _
      · (apply Touch.app (setMode_touch ..); · decide)
        (apply Touch.app (deferResp_touch ..); · decide)
        refine Touch.set_power (by decide) ?_
        exact Touch.refl _ _
  · exact Touch.refl _ _

theorem execOpcDisarm_touch (mb : ℕ) (s : State) :
    TouchOut [.power, .dev, .units, .hw, .mbs, .rr, .ledger, .order, .dacs, .chans, .pebs, .bursts, .seqs, .tdcs, .acqs, .dps, .resvs, .lanes, .queues, .dmas, .fabric, .press, .levee, .svc, .mem, .free] s (execOpcDisarm mb s) := by
  unfold execOpcDisarm
  dsimp only
  refine TouchOut.trans (serveNext_touch (by decide) (by decide) (by decide) (by decide) (h := ?_) ..) ?_
  · intro t0 t1
    (apply Touch.app (settleBypass_touch ..); · decide)
    (apply Touch.app (finishDisarm_touch ..); · decide)
    (apply Touch.app (deferResp_touch ..); · decide)
    refine Touch.set_dev_dps (by decide) (by decide) ?_
    exact Touch.refl _ _
  · exact Touch.refl _ _

theorem execOpcDiagEnter_touch (mb : ℕ) (s : State) :
    TouchOut [.dev, .mbs, .rr, .fabric, .free] s (execOpcDiagEnter mb s) := by
  unfold execOpcDiagEnter
  dsimp only
  refine TouchOut.trans (serveNext_touch (by decide) (by decide) (by decide) (by decide) (h := ?_) ..) ?_
  · intro t0 t1
    (apply Touch.app (done_touch ..); · decide)
    (apply Touch.app (setMode_touch ..); · decide)
    refine Touch.set_dev (by decide) ?_
    exact Touch.refl _ _
  · exact Touch.refl _ _

theorem execOpcDiagExit_touch (mb : ℕ) (s : State) :
    TouchOut [.power, .dev, .units, .hw, .mbs, .rr, .ledger, .order, .dacs, .chans, .pebs, .bursts, .seqs, .tdcs, .acqs, .dps, .resvs, .lanes, .queues, .dmas, .fabric, .press, .levee, .svc, .mem, .free] s (execOpcDiagExit mb s) := by
  unfold execOpcDiagExit
  dsimp only
  refine TouchOut.trans (serveNext_touch (by decide) (by decide) (by decide) (by decide) (h := ?_) ..) ?_
  · intro t0 t1
    (apply Touch.app (settleBypass_touch ..); · decide)
    (apply Touch.app (submitDue_touch ..); · decide)
    (apply Touch.app (done_touch ..); · decide)
    (apply Touch.app (setMode_touch ..); · decide)
    refine Touch.set_dev (by decide) ?_
    exact Touch.refl _ _
  · exact Touch.refl _ _

theorem execFordDrainDone_touch (s : State) :
    TouchOut [.power, .hw, .mbs, .fabric, .levee, .svc, .mem, .free] s (execFordDrainDone s) := by
  unfold execFordDrainDone
  apply TouchOut.ite
  · apply TouchOut.next
    (apply Touch.app (closeFord_touch ..); · decide)
    exact Touch.refl _ _
  · apply TouchOut.next
    exact Touch.refl _ _

theorem armDevice_touch (s : State) (id : ℕ) (sites : BitVec 64) :
    Touch [.dev, .dacs, .chans, .pebs, .dps] s (armDevice s id sites) := by
  unfold armDevice
  dsimp only
  (apply Touch.app (setMode_touch ..); · decide)
  apply Touch.foldl
  · refine Touch.set_dev_chans (by decide) (by decide) ?_
    apply Touch.foldl
    · exact Touch.refl _ _
    · intro u v
      (apply Touch.app (strobeGroup_touch ..); · decide)
      exact Touch.refl _ _
  · intro u v
    (apply Touch.app (restPeb_touch ..); · decide)
    exact Touch.refl _ _

theorem execOpcArm_touch (mb : ℕ) (s : State) :
    TouchOut [.dev, .mbs, .rr, .dacs, .chans, .pebs, .dps, .fabric, .free] s (execOpcArm mb s) := by
  unfold execOpcArm
  dsimp only
  refine TouchOut.trans (serveNext_touch (by decide) (by decide) (by decide) (by decide) (h := ?_) ..) ?_
  · intro t0 t1
    (apply Touch.app (done_touch ..); · decide)
    (apply Touch.app (armDevice_touch ..); · decide)
    exact Touch.refl _ _
  · exact Touch.refl _ _

theorem execOpcIdentity_touch (mb : ℕ) (s : State) :
    TouchOut [.mbs, .rr, .fabric, .free] s (execOpcIdentity mb s) := by
  unfold execOpcIdentity
  refine TouchOut.trans (serveNext_touch (by decide) (by decide) (by decide) (by decide) (h := ?_) ..) ?_
  · intro t0 t1
    (apply Touch.app (done_touch ..); · decide)
    exact Touch.refl _ _
  · exact Touch.refl _ _

theorem execOpcPause_touch (mb : ℕ) (s : State) :
    TouchOut [.dev, .mbs, .rr, .ledger, .bursts, .seqs, .fabric, .free] s (execOpcPause mb s) := by
  unfold execOpcPause
  refine TouchOut.trans (serveNext_touch (by decide) (by decide) (by decide) (by decide) (h := ?_) ..) ?_
  · intro t0 t1
    (apply Touch.app (beginPause_touch ..); · decide)
    (apply Touch.app (deferResp_touch ..); · decide)
    exact Touch.refl _ _
  · exact Touch.refl _ _

theorem execOpcResume_touch (mb : ℕ) (s : State) :
    TouchOut [.dev, .mbs, .rr, .ledger, .chans, .pebs, .bursts, .seqs, .queues, .fabric, .free] s (execOpcResume mb s) := by
  unfold execOpcResume
  dsimp only
  refine TouchOut.trans (serveNext_touch (by decide) (by decide) (by decide) (by decide) (h := ?_) ..) ?_
  · intro t0 t1
    (apply Touch.app (settleMode_touch ..); · decide)
    (apply Touch.app (done_touch ..); · decide)
    apply Touch.foldl
    · (apply Touch.app (setMode_touch ..); · decide)
      exact Touch.refl _ _
    · intro u v
      (apply Touch.app (resumeItem_touch ..); · decide)
      exact Touch.refl _ _
  · exact Touch.refl _ _

theorem execOpcNoticeConfig_touch (mb : ℕ) (s : State) :
    TouchOut [.dev, .mbs, .rr, .fabric, .free] s (execOpcNoticeConfig mb s) := by
  unfold execOpcNoticeConfig
  dsimp only
  refine TouchOut.trans (serveNext_touch (by decide) (by decide) (by decide) (by decide) (h := ?_) ..) ?_
  · intro t0 t1
    (apply Touch.app (done_touch ..); · decide)
    refine Touch.set_dev (by decide) ?_
    exact Touch.refl _ _
  · exact Touch.refl _ _

theorem execOpcPdSet_touch (mb : ℕ) (s : State) :
    TouchOut [.power, .units, .mbs, .rr, .fabric, .svc, .free] s (execOpcPdSet mb s) := by
  unfold execOpcPdSet
  dsimp only
  refine TouchOut.trans (serveNext_touch (by decide) (by decide) (by decide) (by decide) (h := ?_) ..) ?_
  · intro t0 t1
    (apply Touch.app (done_touch ..); · decide)
    (apply Touch.app (orderSwitches_touch ..); · decide)
    exact Touch.refl _ _
  · exact Touch.refl _ _

end Sys2Proof.Machine
end

