-- ==== Sys2Proof/Laws/ReqClock.lean ====
section
/-! SUPPORT. What each function of Machine/ReqClock.lean may touch. -/

namespace Sys2Proof.Machine

theorem setSync_touch (s : State) (mode : ℕ) (upstream : ℕ) (period : ℕ) :
    Touch [.hw, .mbs, .fabric, .svc, .free] s (setSync s mode upstream period) := by
  unfold setSync
  dsimp only
  refine Touch.trans (changeClock_touch (by decide) (by decide) (by decide) (by decide) (by decide) (h := ?_) ..) ?_
  · intro t0
    apply Touch.ite
    · refine Touch.set_hw (by decide) ?_
      exact Touch.refl _ _
    · refine Touch.set_hw (by decide) ?_
      exact Touch.refl _ _
  · (apply Touch.app (afterPulse_touch ..); · decide)
    exact Touch.refl _ _

theorem execOpcSyncConfig_touch (mb : ℕ) (s : State) :
    TouchOut [.hw, .mbs, .rr, .fabric, .svc, .free] s (execOpcSyncConfig mb s) := by
  unfold execOpcSyncConfig
  dsimp only
  refine TouchOut.trans (serveNext_touch (by decide) (by decide) (by decide) (by decide) (h := ?_) ..) ?_
  · intro t0 t1
    (apply Touch.app (done_touch ..); · decide)
    (apply Touch.app (setSync_touch ..); · decide)
    exact Touch.refl _ _
  · exact Touch.refl _ _

theorem sendXchg_touch (s : State) (p : ℕ) :
    Touch [.fabric] s (sendXchg s p) := by
  unfold sendXchg
  dsimp only
  (apply Touch.app (holdFor_touch ..); · decide)
  (apply Touch.app (modPort_touch ..); · decide)
  refine Touch.set_fabric (by decide) ?_
  exact Touch.refl _ _

theorem startStep_touch (s : State) (goal : ℕ) (slew : ℕ) :
    Touch [.clock, .hw, .mbs, .bursts, .fabric, .svc, .free] s (startStep s goal slew) := by
  unfold startStep
  dsimp only
  refine Touch.set_bursts (by decide) ?_
  refine Touch.trans (changeClock_touch (by decide) (by decide) (by decide) (by decide) (by decide) (h := ?_) ..) ?_
  · intro t0
    refine Touch.set_clock (by decide) ?_
    exact Touch.refl _ _
  · exact Touch.refl _ _

theorem execOpcClockStep_touch (mb : ℕ) (s : State) :
    TouchOut [.clock, .hw, .mbs, .rr, .bursts, .fabric, .svc, .free] s (execOpcClockStep mb s) := by
  unfold execOpcClockStep
  dsimp only
  refine TouchOut.trans (serve_touch (by decide) (by decide) (by decide) (by decide) (h := ?_) ..) ?_
  · intro t0 t1
    apply TouchOut.ite
    · apply TouchOut.next
      (apply Touch.app (startStep_touch ..); · decide)
      (apply Touch.app (deferResp_touch ..); · decide)
      exact Touch.refl _ _
    · apply TouchOut.ite
      · apply TouchOut.fault
      · apply TouchOut.next
        (apply Touch.app (startLock_touch ..); · decide)
        (apply Touch.app (deferResp_touch ..); · decide)
        exact Touch.refl _ _
  · exact Touch.refl _ _

theorem execOpcClockStatus_touch (mb : ℕ) (s : State) :
    TouchOut [.mbs, .rr, .fabric, .free] s (execOpcClockStatus mb s) := by
  unfold execOpcClockStatus
  refine TouchOut.trans (serveNext_touch (by decide) (by decide) (by decide) (by decide) (h := ?_) ..) ?_
  · intro t0 t1
    (apply Touch.app (done_touch ..); · decide)
    exact Touch.refl _ _
  · exact Touch.refl _ _

theorem execOpcSyncEpoch_touch (mb : ℕ) (s : State) :
    TouchOut [.hw, .mbs, .rr, .fabric, .free] s (execOpcSyncEpoch mb s) := by
  unfold execOpcSyncEpoch
  dsimp only
  refine TouchOut.trans (serveNext_touch (by decide) (by decide) (by decide) (by decide) (h := ?_) ..) ?_
  · intro t0 t1
    apply Touch.ite
    · refine Touch.set_hw (by decide) ?_
      (apply Touch.app (deferResp_touch ..); · decide)
      exact Touch.refl _ _
    · (apply Touch.app (sendEpoch_touch ..); · decide)
      (apply Touch.app (deferResp_touch ..); · decide)
      exact Touch.refl _ _
  · exact Touch.refl _ _

theorem execOpcClockLock_touch (mb : ℕ) (s : State) :
    TouchOut [.clock, .hw, .mbs, .rr, .fabric, .svc, .free] s (execOpcClockLock mb s) := by
  unfold execOpcClockLock
  dsimp only
  refine TouchOut.trans (serveNext_touch (by decide) (by decide) (by decide) (by decide) (h := ?_) ..) ?_
  · intro t0 t1
    apply Touch.ite
    · (apply Touch.app (done_touch ..); · decide)
      exact Touch.refl _ _
    · (apply Touch.app (startLock_touch ..); · decide)
      (apply Touch.app (deferResp_touch ..); · decide)
      exact Touch.refl _ _
  · exact Touch.refl _ _

theorem startMeasuring_touch (s : State) (mask : ℕ) (n : ℕ) :
    Touch [.hw, .mbs, .fabric, .levee, .mem, .free] s (startMeasuring s mask n) := by
  unfold startMeasuring
  dsimp only
  (apply Touch.app (settleMeasure_touch ..); · decide)
  apply Touch.foldl
  · apply Touch.foldl
    · refine Touch.set_fabric (by decide) ?_
      exact Touch.refl _ _
    · intro u v
      (apply Touch.app (modPort_touch ..); · decide)
      exact Touch.refl _ _
  · intro u v
    (apply Touch.app (sendXchg_touch ..); · decide)
    exact Touch.refl _ _

theorem execOpcSyncMeasure_touch (mb : ℕ) (s : State) :
    TouchOut [.hw, .mbs, .rr, .fabric, .levee, .mem, .free] s (execOpcSyncMeasure mb s) := by
  unfold execOpcSyncMeasure
  refine TouchOut.trans (serveNext_touch (by decide) (by decide) (by decide) (by decide) (h := ?_) ..) ?_
  · intro t0 t1
    (apply Touch.app (startMeasuring_touch ..); · decide)
    (apply Touch.app (deferResp_touch ..); · decide)
    exact Touch.refl _ _
  · exact Touch.refl _ _

theorem execOpcSyncOffset_touch (mb : ℕ) (s : State) :
    TouchOut [.clock, .hw, .mbs, .rr, .fabric, .svc, .free] s (execOpcSyncOffset mb s) := by
  unfold execOpcSyncOffset
  dsimp only
  refine TouchOut.trans (serveNext_touch (by decide) (by decide) (by decide) (by decide) (h := ?_) ..) ?_
  · intro t0 t1
    (apply Touch.app (done_touch ..); · decide)
    refine Touch.trans (changeClock_touch (by decide) (by decide) (by decide) (by decide) (by decide) (h := ?_) ..) ?_
    · intro t0
      refine Touch.set_clock_hw (by decide) (by decide) ?_
      exact Touch.refl _ _
    · exact Touch.refl _ _
  · exact Touch.refl _ _

end Sys2Proof.Machine
end

