-- ==== Sys2Proof/Laws/ReqItems.lean ====
section
/-! SUPPORT. What each function of Machine/ReqItems.lean may touch. -/

namespace Sys2Proof.Machine

theorem retireList_touch (s : State) (mb : ℕ) (m : Msg) (ids : List ℕ) :
    Touch [.ledger] s (retireList s mb m ids).1 := by
  unfold retireList
  apply Touch.foldlFst
  · dsimp only
    exact Touch.refl _ _
  · intro u v
    split
    · dsimp only
      exact Touch.refl _ _
    · dsimp only
      (apply Touch.app (retireSlot_touch ..); · decide)
      exact Touch.refl _ _

theorem execOpcLedgerRetire_touch (mb : ℕ) (rem : Remote) (s : State) :
    TouchOut [.units, .mbs, .rr, .ledger, .order, .fabric, .free] s (execOpcLedgerRetire mb rem s) := by
  unfold execOpcLedgerRetire
  dsimp only
  refine TouchOut.trans (serve_touch (by decide) (by decide) (by decide) (by decide) (h := ?_) ..) ?_
  · intro t0 t1
    apply TouchOut.next
    (apply Touch.app (submitUnslotted_touch ..); · decide)
    split
    · (apply Touch.app (respond_touch ..); · decide)
      (apply Touch.app (retireList_touch ..); · decide)
      exact Touch.refl _ _
    · (apply Touch.app (done_touch ..); · decide)
      (apply Touch.app (retireList_touch ..); · decide)
      exact Touch.refl _ _
  · exact Touch.refl _ _

theorem acceptItem_touch (s : State) (mb : ℕ) (m : Msg) (ext : List Byte) :
    Touch [.dev, .units, .mbs, .ledger, .order, .fabric, .svc] s (acceptItem s mb m ext) := by
  unfold acceptItem
  dsimp only
  split
  · apply Touch.ite
    · (apply Touch.app (endItem_touch ..); · decide)
      (apply Touch.app (respond_touch ..); · decide)
      (apply Touch.app (newItem_touch ..); · decide)
      exact Touch.refl _ _
    · (apply Touch.app (respond_touch ..); · decide)
      (apply Touch.app (newItem_touch ..); · decide)
      exact Touch.refl _ _
  · exact Touch.refl _ _

theorem execOpcItemSubmit_touch (mb : ℕ) (rem : Remote) (s : State) :
    TouchOut [.dev, .units, .mbs, .rr, .ledger, .order, .fabric, .svc, .free] s (execOpcItemSubmit mb rem s) := by
  unfold execOpcItemSubmit
  dsimp only
  refine TouchOut.trans (serve_touch (by decide) (by decide) (by decide) (by decide) (h := ?_) ..) ?_
  · intro t0 t1
    apply TouchOut.ite
    · apply TouchOut.fault
    · apply TouchOut.next
      (apply Touch.app (acceptItem_touch ..); · decide)
      exact Touch.refl _ _
  · exact Touch.refl _ _

theorem execOpcItemAbort_touch (mb : ℕ) (s : State) :
    TouchOut [.power, .dev, .units, .hw, .mbs, .rr, .ledger, .order, .dacs, .chans, .pebs, .bursts, .seqs, .tdcs, .acqs, .dps, .resvs, .lanes, .queues, .dmas, .fabric, .press, .levee, .svc, .mem, .free] s (execOpcItemAbort mb s) := by
  unfold execOpcItemAbort
  dsimp only
  refine TouchOut.trans (serveNext_touch (by decide) (by decide) (by decide) (by decide) (h := ?_) ..) ?_
  · intro t0 t1
    apply Touch.ite
    · (apply Touch.app (respond_touch ..); · decide)
      exact Touch.refl _ _
    · (apply Touch.app (settleBypass_touch ..); · decide)
      (apply Touch.app (abortItem_touch ..); · decide)
      (apply Touch.app (done_touch ..); · decide)
      exact Touch.refl _ _
  · exact Touch.refl _ _

theorem execOpcLedgerRead_touch (mb : ℕ) (s : State) :
    TouchOut [.mbs, .rr, .fabric, .levee, .mem, .free] s (execOpcLedgerRead mb s) := by
  unfold execOpcLedgerRead
  dsimp only
  refine TouchOut.trans (serveNext_touch (by decide) (by decide) (by decide) (by decide) (h := ?_) ..) ?_
  · intro t0 t1
    apply Touch.ite
    · (apply Touch.app (done_touch ..); · decide)
      exact Touch.refl _ _
    · (apply Touch.app (done_touch ..); · decide)
      (apply Touch.app (memWrite_touch ..); · decide)
      exact Touch.refl _ _
  · exact Touch.refl _ _

end Sys2Proof.Machine
end

