-- ==== Sys2Proof/Laws/ReqFabric.lean ====
section
/-! SUPPORT. What each function of Machine/ReqFabric.lean may touch. -/

namespace Sys2Proof.Machine

theorem execOpcFabricStatus_touch (mb : ℕ) (s : State) :
    TouchOut [.mbs, .rr, .fabric, .free] s (execOpcFabricStatus mb s) := by
  unfold execOpcFabricStatus
  refine TouchOut.trans (serveNext_touch (by decide) (by decide) (by decide) (by decide) (h := ?_) ..) ?_
  · intro t0 t1
    (apply Touch.app (done_touch ..); · decide)
    exact Touch.refl _ _
  · exact Touch.refl _ _

theorem endServe_touch (s : State) :
    Touch [.mbs, .fabric] s (endServe s) := by
  unfold endServe
  dsimp only
  (apply Touch.app (answerOwed_touch ..); · decide)
  refine Touch.set_fabric (by decide) ?_
  exact Touch.refl _ _

theorem execBootServeSilence_touch (s : State) :
    TouchOut [.mbs, .fabric] s (execBootServeSilence s) := by
  unfold execBootServeSilence
  apply TouchOut.ite
  · apply TouchOut.next
    (apply Touch.app (endServe_touch ..); · decide)
    exact Touch.refl _ _
  · apply TouchOut.next
    exact Touch.refl _ _

theorem execOpcPageHome_touch (mb : ℕ) (s : State) :
    TouchOut [.mbs, .rr, .cfg, .fabric, .free] s (execOpcPageHome mb s) := by
  unfold execOpcPageHome
  dsimp only
  refine TouchOut.trans (serveNext_touch (by decide) (by decide) (by decide) (by decide) (h := ?_) ..) ?_
  · intro t0 t1
    (apply Touch.app (done_touch ..); · decide)
    refine Touch.set_cfg (by decide) ?_
    exact Touch.refl _ _
  · exact Touch.refl _ _

theorem execOpcBootServe_touch (mb : ℕ) (s : State) :
    TouchOut [.mbs, .rr, .fabric, .free] s (execOpcBootServe mb s) := by
  unfold execOpcBootServe
  dsimp only
  refine TouchOut.trans (serveNext_touch (by decide) (by decide) (by decide) (by decide) (h := ?_) ..) ?_
  · intro t0 t1
    (apply Touch.app (deferResp_touch ..); · decide)
    refine Touch.set_fabric (by decide) ?_
    exact Touch.refl _ _
  · exact Touch.refl _ _

theorem execOpcPortConfig_touch (mb : ℕ) (s : State) :
    TouchOut [.clock, .hw, .mbs, .rr, .fabric, .svc, .free] s (execOpcPortConfig mb s) := by
  unfold execOpcPortConfig
  dsimp only
  refine TouchOut.trans (serveNext_touch (by decide) (by decide) (by decide) (by decide) (h := ?_) ..) ?_
  · intro t0 t1
    apply Touch.ite
    · (apply Touch.app (modPort_touch ..); · decide)
      (apply Touch.app (deferResp_touch ..); · decide)
      exact Touch.refl _ _
    · refine Touch.trans (changeClock_touch (by decide) (by decide) (by decide) (by decide) (by decide) (h := ?_) ..) ?_
      · intro t0
        refine Touch.set_clock (by decide) ?_
        exact Touch.refl _ _
      · (apply Touch.app (modPort_touch ..); · decide)
        (apply Touch.app (deferResp_touch ..); · decide)
        exact Touch.refl _ _
  · exact Touch.refl _ _

end Sys2Proof.Machine
end

