-- ==== Sys2Proof/Laws/Fabric.lean ====
section
/-! SUPPORT. What each function of Machine/Fabric.lean may touch. -/

namespace Sys2Proof.Machine

theorem receive_touch {b : List Part} (h0 : Part.fabric ∈ b) (s : State) (p : ℕ) (pkt : Packet) (f : State → Out)
    (h : ∀ t0, TouchOut b t0 (f t0)) :
    TouchOut b s (receive s p pkt f) := by
  unfold receive
  apply TouchOut.ite
  · apply TouchOut.next
    exact Touch.refl _ _
  · apply TouchOut.ite
    · apply TouchOut.trans (h ..)
      (apply Touch.app (modPort_touch ..); · simp_all)
      exact Touch.refl _ _
    · apply TouchOut.next
      (apply Touch.app (modPort_touch ..); · simp_all)
      exact Touch.refl _ _

theorem execPortRetrain_touch (port : Port) (s : State) :
    TouchOut [.mbs, .fabric, .svc, .free] s (execPortRetrain port s) := by
  unfold execPortRetrain
  dsimp only
  apply TouchOut.ite
  · apply TouchOut.next
    (apply Touch.app (changePort_touch ..); · decide)
    exact Touch.refl _ _
  · apply TouchOut.next
    exact Touch.refl _ _

theorem execLinkSendTimer_touch (port : Port) (s : State) :
    TouchOut [.fabric] s (execLinkSendTimer port s) := by
  unfold execLinkSendTimer
  dsimp only
  apply TouchOut.ite
  · apply TouchOut.next
    (apply Touch.app (modPort_touch ..); · decide)
    exact Touch.refl _ _
  · apply TouchOut.next
    exact Touch.refl _ _

theorem takeIn_touch (s : State) (p : ℕ) (pkt : Packet) :
    Touch [.fabric] s (takeIn s p pkt) := by
  unfold takeIn
  (apply Touch.app (freeInput_touch ..); · decide)
  exact Touch.refl _ _

theorem deliver_touch {b : List Part} (h0 : Part.fabric ∈ b) (cls : ℕ) (port : Port) (pkt : Packet) (s : State) (f : State → Out)
    (h : ∀ t0, TouchOut b t0 (f t0)) :
    TouchOut b s (deliver cls port pkt s f) := by
  unfold deliver
  apply TouchOut.ite
  · refine TouchOut.trans (receive_touch (by assumption) (h := ?_) ..) ?_
    · intro t0
      apply TouchOut.trans (h ..)
      (apply Touch.app (takeIn_touch ..); · simp_all)
      exact Touch.refl _ _
    · exact Touch.refl _ _
  · apply TouchOut.next
    exact Touch.refl _ _

theorem ackPacket_touch (s : State) (r : ℕ × Packet × Packet) :
    Touch [.fabric] s (ackPacket s r) := by
  unfold ackPacket
  dsimp only
  apply Touch.ite
  · refine Touch.set_fabric (by decide) ?_
    apply Touch.ite
    · (apply Touch.app (modPort_touch ..); · decide)
      exact Touch.refl _ _
    · exact Touch.refl _ _
  · apply Touch.ite
    · (apply Touch.app (modPort_touch ..); · decide)
      exact Touch.refl _ _
    · exact Touch.refl _ _

theorem takeAck_touch (s : State) (p : ℕ) (ack : BitVec 12) :
    Touch [.mbs, .fabric] s (takeAck s p ack) := by
  unfold takeAck
  dsimp only
  (apply Touch.app (settleCopies_touch ..); · decide)
  apply Touch.foldl
  · (apply Touch.app (modPort_touch ..); · decide)
    exact Touch.refl _ _
  · intro u v
    (apply Touch.app (ackPacket_touch ..); · decide)
    exact Touch.refl _ _

theorem takeNak_touch (s : State) (p : ℕ) (l : BitVec 12) :
    Touch [.mbs, .fabric, .svc, .free] s (takeNak s p l) := by
  unfold takeNak
  dsimp only
  apply Touch.ite
  · apply Touch.ite
    · (apply Touch.app (changePort_touch ..); · decide)
      (apply Touch.app (modPort_touch ..); · decide)
      exact Touch.refl _ _
    · (apply Touch.app (modPort_touch ..); · decide)
      exact Touch.refl _ _
  · exact Touch.refl _ _

theorem execLink_touch (port : Port) (pkt : Packet) (s : State) :
    TouchOut [.mbs, .fabric, .svc, .free] s (execLink port pkt s) := by
  unfold execLink
  dsimp only
  apply TouchOut.ite
  · apply TouchOut.next
    (apply Touch.app (pumpPort_touch ..); · decide)
    apply Touch.ite
    · (apply Touch.app (takeNak_touch ..); · decide)
      (apply Touch.app (modPort_touch ..); · decide)
      (apply Touch.app (takeAck_touch ..); · decide)
      exact Touch.refl _ _
    · (apply Touch.app (modPort_touch ..); · decide)
      (apply Touch.app (takeAck_touch ..); · decide)
      exact Touch.refl _ _
  · apply TouchOut.next
    exact Touch.refl _ _

theorem execPortAckTimeout_touch (port : Port) (s : State) :
    TouchOut [.mbs, .fabric, .svc, .free] s (execPortAckTimeout port s) := by
  unfold execPortAckTimeout
  dsimp only
  apply TouchOut.ite
  · apply TouchOut.next
    (apply Touch.app (changePort_touch ..); · decide)
    exact Touch.refl _ _
  · apply TouchOut.next
    exact Touch.refl _ _

theorem execPortTrainRetry_touch (port : Port) (s : State) :
    TouchOut [.hw, .mbs, .fabric, .levee, .svc, .mem, .free] s (execPortTrainRetry port s) := by
  unfold execPortTrainRetry
  dsimp only
  apply TouchOut.ite
  · apply TouchOut.next
    exact Touch.refl _ _
  · split
    · apply TouchOut.next
      (apply Touch.app (answerTrained_touch ..); · decide)
      (apply Touch.app (settleLock_touch ..); · decide)
      (apply Touch.app (portDown_touch ..); · decide)
      exact Touch.refl _ _
    · apply TouchOut.next
      apply Touch.ite
      · exact Touch.refl _ _
      · (apply Touch.app (changePort_touch ..); · decide)
        exact Touch.refl _ _
    · apply TouchOut.next
      exact Touch.refl _ _

theorem pumpHeld_touch (s : State) (p : ℕ) :
    Touch [.mbs, .fabric] s (pumpHeld s p) := by
  unfold pumpHeld
  (apply Touch.app (settleCopies_touch ..); · decide)
  (apply Touch.app (pumpPort_touch ..); · decide)
  exact Touch.refl _ _

theorem execPacketForward_touch (port : Port) (pkt : Packet) (s : State) :
    TouchOut [.fabric] s (execPacketForward port pkt s) := by
  unfold execPacketForward
  dsimp only
  apply TouchOut.ite
  · apply TouchOut.next
    exact Touch.refl _ _
  · apply TouchOut.ite
    · refine TouchOut.trans (receive_touch (by decide) (h := ?_) ..) ?_
      · intro t0
        apply TouchOut.next
        (apply Touch.app (takeIn_touch ..); · decide)
        exact Touch.refl _ _
      · exact Touch.refl _ _
    · apply TouchOut.ite
      · apply TouchOut.next
        exact Touch.refl _ _
      · refine TouchOut.trans (receive_touch (by decide) (h := ?_) ..) ?_
        · intro t0
          apply TouchOut.next
          (apply Touch.app (sendPacket_touch ..); · decide)
          exact Touch.refl _ _
        · exact Touch.refl _ _

theorem markPast_touch (s : State) (p : ℕ) :
    Touch [.fabric] s (markPast s p) := by
  unfold markPast
  dsimp only
  (apply Touch.app (modPort_touch ..); · decide)
  apply Touch.foldl
  · exact Touch.refl _ _
  · intro u v
    (apply Touch.app (modPort_touch ..); · decide)
    exact Touch.refl _ _

theorem restartLink_touch (s : State) (p : ℕ) :
    Touch [.fabric] s (restartLink s p) := by
  unfold restartLink
  dsimp only
  (apply Touch.app (modPort_touch ..); · decide)
  (apply Touch.app (markPast_touch ..); · decide)
  exact Touch.refl _ _

theorem execPortTrained_touch (port : Port) (lanes : BitVec 4) (full : Bool) (s : State) :
    TouchOut [.clock, .hw, .boot, .mbs, .fabric, .levee, .svc, .mem, .free] s (execPortTrained port lanes full s) := by
  unfold execPortTrained
  dsimp only
  apply TouchOut.ite
  · apply TouchOut.next
    (apply Touch.app (settleMeasure_touch ..); · decide)
    (apply Touch.app (answerTrained_touch ..); · decide)
    (apply Touch.app (bootTrained_touch ..); · decide)
    (apply Touch.app (settleLock_touch ..); · decide)
    (apply Touch.app (pumpHeld_touch ..); · decide)
    (apply Touch.app (judgeHeld_touch ..); · decide)
    apply Touch.ite
    · (apply Touch.app (modPort_touch ..); · decide)
      (apply Touch.app (changePort_touch ..); · decide)
      apply Touch.ite
      · (apply Touch.app (restartLink_touch ..); · decide)
        exact Touch.refl _ _
      · exact Touch.refl _ _
    · refine Touch.trans (changeClock_touch (by decide) (by decide) (by decide) (by decide) (by decide) (h := ?_) ..) ?_
      · intro t0
        refine Touch.set_clock (by decide) ?_
        exact Touch.refl _ _
      · (apply Touch.app (modPort_touch ..); · decide)
        (apply Touch.app (changePort_touch ..); · decide)
        apply Touch.ite
        · (apply Touch.app (restartLink_touch ..); · decide)
          exact Touch.refl _ _
        · exact Touch.refl _ _
  · apply TouchOut.next
    exact Touch.refl _ _

theorem execTrain_touch (port : Port) (pkt : Packet) (s : State) :
    TouchOut [.clock, .hw, .mbs, .fabric, .svc, .free] s (execTrain port pkt s) := by
  unfold execTrain
  dsimp only
  apply TouchOut.ite
  · apply TouchOut.next
    apply Touch.ite
    · refine Touch.trans (changeClock_touch (by decide) (by decide) (by decide) (by decide) (by decide) (h := ?_) ..) ?_
      · intro t0
        refine Touch.set_clock (by decide) ?_
        exact Touch.refl _ _
      · (apply Touch.app (modPort_touch ..); · decide)
        exact Touch.refl _ _
    · (apply Touch.app (modPort_touch ..); · decide)
      exact Touch.refl _ _
  · apply TouchOut.next
    exact Touch.refl _ _

end Sys2Proof.Machine
end

