-- ==== Sys2Proof/Laws/FabricReq.lean ====
section
/-! SUPPORT. What each function of Machine/FabricReq.lean may touch. -/

namespace Sys2Proof.Machine

theorem execMemRd_touch (port : Port) (pkt : Packet) (s : State) :
    TouchOut [.fabric] s (execMemRd port pkt s) := by
  unfold execMemRd
  dsimp only
  refine TouchOut.trans (deliver_touch (by decide) (h := ?_) ..) ?_
  · intro t0
    split
    · apply TouchOut.next
      (apply Touch.app (sendPlain_touch ..); · decide)
      exact Touch.refl _ _
    · apply TouchOut.next
      (apply Touch.app (sendPlain_touch ..); · decide)
      exact Touch.refl _ _
    · apply TouchOut.next
      (apply Touch.app (sendPlain_touch ..); · decide)
      exact Touch.refl _ _
  · exact Touch.refl _ _

theorem noteTaken_touch (s : State) (pkt : Packet) :
    Touch [.fabric] s (noteTaken s pkt) := by
  unfold noteTaken
  dsimp only
  refine Touch.set_fabric (by decide) ?_
  exact Touch.refl _ _

theorem sendAck_touch (s : State) (pkt : Packet) (status : ℕ) :
    Touch [.fabric] s (sendAck s pkt status) := by
  unfold sendAck
  (apply Touch.app (sendPlain_touch ..); · decide)
  exact Touch.refl _ _

theorem execMboxRsp_touch (port : Port) (pkt : Packet) (s : State) :
    TouchOut [.fabric] s (execMboxRsp port pkt s) := by
  unfold execMboxRsp
  refine TouchOut.trans (deliver_touch (by decide) (h := ?_) ..) ?_
  · intro t0
    apply TouchOut.next
    (apply Touch.app (sendAck_touch ..); · decide)
    apply Touch.ite
    · exact Touch.refl _ _
    · (apply Touch.app (noteTaken_touch ..); · decide)
      exact Touch.refl _ _
  · exact Touch.refl _ _

theorem execRegWr_touch (port : Port) (pkt : Packet) (s : State) :
    TouchOut [.power, .dev, .units, .hw, .boot, .mbs, .ledger, .order, .dacs, .chans, .pebs, .bursts, .seqs, .tdcs, .acqs, .dps, .resvs, .lanes, .queues, .dmas, .fabric, .press, .house, .levee, .svc, .mem, .msp, .free] s (execRegWr port pkt s) := by
  unfold execRegWr
  dsimp only
  refine TouchOut.trans (deliver_touch (by decide) (h := ?_) ..) ?_
  · intro t0
    apply TouchOut.ite
    · apply TouchOut.next
      (apply Touch.app (sendPlain_touch ..); · decide)
      (apply Touch.app (writeWords_touch ..); · decide)
      exact Touch.refl _ _
    · apply TouchOut.next
      (apply Touch.app (sendPlain_touch ..); · decide)
      exact Touch.refl _ _
  · exact Touch.refl _ _

theorem closeOutst_touch (s : State) (tag : BitVec 16) :
    Touch [.fabric] s (closeOutst s tag) := by
  unfold closeOutst
  dsimp only
  refine Touch.set_fabric (by decide) ?_
  exact Touch.refl _ _

theorem execMboxAck_touch (port : Port) (pkt : Packet) (s : State) :
    TouchOut [.mbs, .fabric] s (execMboxAck port pkt s) := by
  unfold execMboxAck
  dsimp only
  refine TouchOut.trans (deliver_touch (by decide) (h := ?_) ..) ?_
  · intro t0
    apply TouchOut.ite
    · apply TouchOut.next
      exact Touch.refl _ _
    · apply TouchOut.next
      (apply Touch.app (settleCopies_touch ..); · decide)
      refine Touch.set_fabric (by decide) ?_
      exact Touch.refl _ _
  · exact Touch.refl _ _

theorem execRegRsp_touch (port : Port) (pkt : Packet) (s : State) :
    TouchOut [.fabric] s (execRegRsp port pkt s) := by
  unfold execRegRsp
  dsimp only
  refine TouchOut.trans (deliver_touch (by decide) (h := ?_) ..) ?_
  · intro t0
    split
    · apply TouchOut.next
      refine Touch.set_fabric (by decide) ?_
      (apply Touch.app (closeOutst_touch ..); · decide)
      exact Touch.refl _ _
    · apply TouchOut.next
      exact Touch.refl _ _
  · exact Touch.refl _ _

theorem loseRead_touch (s : State) (slot : ℕ) (a2 : ℕ) :
    Touch [.bursts] s (loseRead s slot a2) := by
  unfold loseRead
  split
  · (apply Touch.app (modBurst_touch ..); · decide)
    exact Touch.refl _ _
  · exact Touch.refl _ _

theorem execMboxAckTimeout_touch (tag : BitVec 16) (s : State) :
    TouchOut [.fabric] s (execMboxAckTimeout tag s) := by
  unfold execMboxAckTimeout
  split
  · apply TouchOut.next
    (apply Touch.app (sendPlain_touch ..); · decide)
    exact Touch.refl _ _
  · apply TouchOut.next
    exact Touch.refl _ _

theorem writeAnswered_touch (s : State) (o : Outst) (status : ℕ) :
    Touch [.dev, .units, .mbs, .ledger, .order, .queues, .dmas, .fabric, .levee, .svc, .mem, .free] s (writeAnswered s o status) := by
  unfold writeAnswered
  dsimp only
  split
  · split
    · (apply Touch.app (beatsAnswered_touch ..); · decide)
      exact Touch.refl _ _
    · exact Touch.refl _ _
  · split
    · (apply Touch.app (writebackAnswered_touch ..); · decide)
      exact Touch.refl _ _
    · exact Touch.refl _ _

theorem execMemWrAck_touch (port : Port) (pkt : Packet) (s : State) :
    TouchOut [.dev, .units, .mbs, .ledger, .order, .queues, .dmas, .fabric, .levee, .svc, .mem, .free] s (execMemWrAck port pkt s) := by
  unfold execMemWrAck
  refine TouchOut.trans (deliver_touch (by decide) (h := ?_) ..) ?_
  · intro t0
    split
    · apply TouchOut.next
      (apply Touch.app (writeAnswered_touch ..); · decide)
      (apply Touch.app (closeOutst_touch ..); · decide)
      exact Touch.refl _ _
    · apply TouchOut.next
      exact Touch.refl _ _
  · exact Touch.refl _ _

theorem execRegRd_touch (port : Port) (pkt : Packet) (s : State) :
    TouchOut [.hw, .fabric] s (execRegRd port pkt s) := by
  unfold execRegRd
  dsimp only
  refine TouchOut.trans (deliver_touch (by decide) (h := ?_) ..) ?_
  · intro t0
    apply TouchOut.ite
    · apply TouchOut.next
      (apply Touch.app (sendPlain_touch ..); · decide)
      (apply Touch.app (readWords_touch ..); · decide)
      exact Touch.refl _ _
    · apply TouchOut.next
      (apply Touch.app (sendPlain_touch ..); · decide)
      exact Touch.refl _ _
  · exact Touch.refl _ _

theorem execMemWr_touch (port : Port) (pkt : Packet) (s : State) :
    TouchOut [.fabric, .levee, .mem, .free] s (execMemWr port pkt s) := by
  unfold execMemWr
  dsimp only
  refine TouchOut.trans (deliver_touch (by decide) (h := ?_) ..) ?_
  · intro t0
    split
    · apply TouchOut.next
      (apply Touch.app (sendPlain_touch ..); · decide)
      exact Touch.refl _ _
    · apply TouchOut.next
      (apply Touch.app (sendPlain_touch ..); · decide)
      (apply Touch.app (writePage_touch ..); · decide)
      exact Touch.refl _ _
  · exact Touch.refl _ _

theorem readAnswered_touch (s : State) (o : Outst) (status : ℕ) (rem : Remote) :
    TouchOut [.dev, .units, .mbs, .ledger, .order, .bursts, .queues, .dmas, .bufFree, .fabric, .levee, .svc, .mem, .free] s (readAnswered s o status rem) := by
  unfold readAnswered
  dsimp only
  split
  · split
    · apply TouchOut.ite
      · (apply TouchOut.app (descArrives_touch ..); · decide)
        exact Touch.refl _ _
      · apply TouchOut.next
        exact Touch.refl _ _
    · split
      · apply TouchOut.next
        (apply Touch.app (burstArrives_touch ..); · decide)
        exact Touch.refl _ _
      · apply TouchOut.next
        exact Touch.refl _ _
    · apply TouchOut.next
      exact Touch.refl _ _
  · apply TouchOut.next
    apply Touch.ite
    · exact Touch.refl _ _
    · (apply Touch.app (loseRead_touch ..); · decide)
      exact Touch.refl _ _
  · apply TouchOut.next
    exact Touch.refl _ _

theorem execMboxReq_touch (port : Port) (pkt : Packet) (s : State) :
    TouchOut [.mbs, .fabric, .free] s (execMboxReq port pkt s) := by
  unfold execMboxReq
  refine TouchOut.trans (deliver_touch (by decide) (h := ?_) ..) ?_
  · intro t0
    apply TouchOut.ite
    · apply TouchOut.next
      (apply Touch.app (sendAck_touch ..); · decide)
      exact Touch.refl _ _
    · apply TouchOut.ite
      · apply TouchOut.next
        (apply Touch.app (sendAck_touch ..); · decide)
        exact Touch.refl _ _
      · apply TouchOut.ite
        · apply TouchOut.next
          (apply Touch.app (refusePath_touch ..); · decide)
          (apply Touch.app (sendAck_touch ..); · decide)
          (apply Touch.app (noteTaken_touch ..); · decide)
          exact Touch.refl _ _
        · apply TouchOut.ite
          · apply TouchOut.next
            (apply Touch.app (sendAck_touch ..); · decide)
            (apply Touch.app (putRequest_touch ..); · decide)
            (apply Touch.app (noteTaken_touch ..); · decide)
            exact Touch.refl _ _
          · apply TouchOut.next
            (apply Touch.app (sendAck_touch ..); · decide)
            exact Touch.refl _ _
  · exact Touch.refl _ _

theorem execMemRdRsp_touch (port : Port) (pkt : Packet) (s : State) :
    TouchOut [.dev, .units, .mbs, .ledger, .order, .bursts, .queues, .dmas, .bufFree, .fabric, .levee, .svc, .mem, .free] s (execMemRdRsp port pkt s) := by
  unfold execMemRdRsp
  refine TouchOut.trans (deliver_touch (by decide) (h := ?_) ..) ?_
  · intro t0
    split
    · (apply TouchOut.app (readAnswered_touch ..); · decide)
      (apply Touch.app (closeOutst_touch ..); · decide)
      exact Touch.refl _ _
    · apply TouchOut.next
      exact Touch.refl _ _
  · exact Touch.refl _ _

theorem execRequestTimeout_touch (tag : BitVec 16) (s : State) :
    TouchOut [.dev, .units, .mbs, .ledger, .order, .bursts, .queues, .dmas, .bufFree, .fabric, .levee, .svc, .mem, .free] s (execRequestTimeout tag s) := by
  unfold execRequestTimeout
  dsimp only
  split
  · apply TouchOut.ite
    · (apply TouchOut.app (readAnswered_touch ..); · decide)
      (apply Touch.app (closeOutst_touch ..); · decide)
      exact Touch.refl _ _
    · apply TouchOut.ite
      · apply TouchOut.next
        (apply Touch.app (writeAnswered_touch ..); · decide)
        (apply Touch.app (closeOutst_touch ..); · decide)
        exact Touch.refl _ _
      · apply TouchOut.next
        (apply Touch.app (closeOutst_touch ..); · decide)
        exact Touch.refl _ _
  · apply TouchOut.next
    exact Touch.refl _ _

end Sys2Proof.Machine
end

