-- ==== Sys2Proof/Laws/FabricTime.lean ====
section
/-! SUPPORT. What each function of Machine/FabricTime.lean may touch. -/

namespace Sys2Proof.Machine

theorem sendPiece_touch (s : State) (dest : ℕ) (off : ℕ) (bs : List Byte) :
    Touch [.fabric] s (sendPiece s dest off bs) := by
  unfold sendPiece
  (apply Touch.app (sendPlain_touch ..); · decide)
  exact Touch.refl _ _

theorem sendImage_touch (rem : Remote) (dest : ℕ) (addr : ℕ) (a3 : List (ℕ × ℕ)) (s : State) :
    Touch [.fabric] s (sendImage rem dest addr a3 s) := by
  induction a3 generalizing s with
  | nil =>
    unfold sendImage
    exact Touch.refl _ _
  | cons y ys ih =>
    unfold sendImage
    split
    · apply Touch.trans (ih ..)
      (apply Touch.app (sendPiece_touch ..); · decide)
      exact Touch.refl _ _
    · exact Touch.refl _ _

theorem deliverCopy_touch {b : List Part} (h0 : Part.fabric ∈ b) (cls : ℕ) (port : Port) (pkt : Packet) (s : State) (f : State → State)
    (h : ∀ t0, Touch b t0 (f t0)) :
    TouchOut b s (deliverCopy cls port pkt s f) := by
  unfold deliverCopy
  apply TouchOut.ite
  · refine TouchOut.trans (receive_touch (by assumption) (h := ?_) ..) ?_
    · intro t0
      apply TouchOut.next
      apply Touch.trans (h ..)
      (apply Touch.app (sendBroadcast_touch ..); · simp_all)
      exact Touch.refl _ _
    · exact Touch.refl _ _
  · apply TouchOut.next
    exact Touch.refl _ _

theorem execBootOffer_touch (port : Port) (pkt : Packet) (s : State) :
    TouchOut [.boot, .fabric] s (execBootOffer port pkt s) := by
  unfold execBootOffer
  dsimp only
  refine TouchOut.trans (deliver_touch (by decide) (h := ?_) ..) ?_
  · intro t0
    apply TouchOut.ite
    · apply TouchOut.next
      (apply Touch.app (beginDownload_touch ..); · decide)
      refine Touch.set_boot (by decide) ?_
      exact Touch.refl _ _
    · apply TouchOut.next
      exact Touch.refl _ _
  · exact Touch.refl _ _

theorem execTimeEpoch_touch (port : Port) (pkt : Packet) (s : State) :
    TouchOut [.hw, .fabric] s (execTimeEpoch port pkt s) := by
  unfold execTimeEpoch
  refine TouchOut.trans (deliverCopy_touch (by decide) (h := ?_) ..) ?_
  · intro t0
    (apply Touch.app (takeEpoch_touch ..); · decide)
    (apply Touch.app (takeIn_touch ..); · decide)
    exact Touch.refl _ _
  · exact Touch.refl _ _

theorem afterPiece_touch (s : State) (hadHeader : Bool) :
    Touch [.boot, .fabric] s (afterPiece s hadHeader) := by
  unfold afterPiece
  dsimp only
  split
  · (apply Touch.app (bootFails_touch ..); · decide)
    exact Touch.refl _ _
  · apply Touch.ite
    · refine Touch.set_boot (by decide) ?_
      exact Touch.refl _ _
    · exact Touch.refl _ _

theorem execTimeXchgRsp_touch (port : Port) (pkt : Packet) (c4 : ℕ) (s : State) :
    TouchOut [.hw, .mbs, .fabric, .levee, .mem, .free] s (execTimeXchgRsp port pkt c4 s) := by
  unfold execTimeXchgRsp
  dsimp only
  refine TouchOut.trans (deliver_touch (by decide) (h := ?_) ..) ?_
  · intro t0
    split
    · apply TouchOut.ite
      · apply TouchOut.next
        apply Touch.ite
        · (apply Touch.app (sendXchg_touch ..); · decide)
          (apply Touch.app (modPort_touch ..); · decide)
          exact Touch.refl _ _
        · (apply Touch.app (settleMeasure_touch ..); · decide)
          (apply Touch.app (modPort_touch ..); · decide)
          exact Touch.refl _ _
      · apply TouchOut.next
        exact Touch.refl _ _
    · apply TouchOut.next
      exact Touch.refl _ _
  · exact Touch.refl _ _

theorem execTimeXchg_touch (port : Port) (pkt : Packet) (c2 : ℕ) (c3 : ℕ) (s : State) :
    TouchOut [.fabric] s (execTimeXchg port pkt c2 c3 s) := by
  unfold execTimeXchg
  refine TouchOut.trans (deliver_touch (by decide) (h := ?_) ..) ?_
  · intro t0
    apply TouchOut.next
    (apply Touch.app (holdFor_touch ..); · decide)
    exact Touch.refl _ _
  · exact Touch.refl _ _

theorem execBootReq_touch (port : Port) (pkt : Packet) (rem : Remote) (s : State) :
    TouchOut [.fabric] s (execBootReq port pkt rem s) := by
  unfold execBootReq
  dsimp only
  refine TouchOut.trans (deliver_touch (by decide) (h := ?_) ..) ?_
  · intro t0
    split
    · apply TouchOut.ite
      · apply TouchOut.next
        (apply Touch.app (sendImage_touch ..); · decide)
        (apply Touch.app (sendPlain_touch ..); · decide)
        refine Touch.set_fabric (by decide) ?_
        exact Touch.refl _ _
      · apply TouchOut.next
        exact Touch.refl _ _
    · apply TouchOut.next
      exact Touch.refl _ _
  · exact Touch.refl _ _

theorem execBootDone_touch (port : Port) (pkt : Packet) (s : State) :
    TouchOut [.mbs, .fabric] s (execBootDone port pkt s) := by
  unfold execBootDone
  refine TouchOut.trans (deliver_touch (by decide) (h := ?_) ..) ?_
  · intro t0
    split
    · apply TouchOut.next
      apply Touch.ite
      · (apply Touch.app (endServe_touch ..); · decide)
        exact Touch.refl _ _
      · exact Touch.refl _ _
    · apply TouchOut.next
      exact Touch.refl _ _
  · exact Touch.refl _ _

theorem execBcastReq_touch (port : Port) (pkt : Packet) (s : State) :
    TouchOut [.mbs, .fabric, .free] s (execBcastReq port pkt s) := by
  unfold execBcastReq
  refine TouchOut.trans (deliverCopy_touch (by decide) (h := ?_) ..) ?_
  · intro t0
    (apply Touch.app (drainIngress_touch ..); · decide)
    (apply Touch.app (modPort_touch ..); · decide)
    exact Touch.refl _ _
  · exact Touch.refl _ _

theorem execBootData_touch (port : Port) (pkt : Packet) (s : State) :
    TouchOut [.boot, .fabric] s (execBootData port pkt s) := by
  unfold execBootData
  dsimp only
  refine TouchOut.trans (deliver_touch (by decide) (h := ?_) ..) ?_
  · intro t0
    apply TouchOut.ite
    · apply TouchOut.next
      (apply Touch.app (sendBootDone_touch ..); · decide)
      exact Touch.refl _ _
    · apply TouchOut.ite
      · apply TouchOut.next
        (apply Touch.app (afterPiece_touch ..); · decide)
        refine Touch.set_boot (by decide) ?_
        exact Touch.refl _ _
      · apply TouchOut.next
        exact Touch.refl _ _
  · exact Touch.refl _ _

end Sys2Proof.Machine
end

