-- ==== Sys2Proof/Laws/House.lean ====
section
/-! SUPPORT. What each function of Machine/House.lean may touch. -/

namespace Sys2Proof.Machine

theorem setTemp_touch (s : State) (n : ℕ) (w : Word) :
    Touch [.house] s (setTemp s n w) := by
  unfold setTemp
  dsimp only
  refine Touch.set_house (by decide) ?_
  exact Touch.refl _ _

theorem readChip_touch (s : State) (n : ℕ) (r : Option ℤ) :
    Touch [.house] s (readChip s n r) := by
  unfold readChip
  split
  · (apply Touch.app (setTemp_touch ..); · decide)
    exact Touch.refl _ _
  · (apply Touch.app (setTemp_touch ..); · decide)
    exact Touch.refl _ _

theorem readDiode_touch (s : State) (n : ℕ) (r : Option ℤ) (faulty : Bool) :
    Touch [.power, .dev, .units, .hw, .mbs, .ledger, .order, .dacs, .chans, .pebs, .bursts, .seqs, .tdcs, .acqs, .dps, .resvs, .lanes, .queues, .dmas, .fabric, .press, .house, .levee, .svc, .mem, .free] s (readDiode s n r faulty) := by
  unfold readDiode
  dsimp only
  apply Touch.ite
  · exact Touch.refl _ _
  · apply Touch.ite
    · (apply Touch.app (detectOwn_touch ..); · decide)
      (apply Touch.app (setTemp_touch ..); · decide)
      exact Touch.refl _ _
    · split
      · (apply Touch.app (setTemp_touch ..); · decide)
        exact Touch.refl _ _
      · (apply Touch.app (setTemp_touch ..); · decide)
        exact Touch.refl _ _

theorem readRail_touch (s : State) (k : ℕ) (r : Option ℤ) :
    Touch [.power, .house] s (readRail s k r) := by
  unfold readRail
  dsimp only
  split
  · refine Touch.set_power_house (by decide) (by decide) ?_
    exact Touch.refl _ _
  · refine Touch.set_house (by decide) ?_
    exact Touch.refl _ _

theorem readRef_touch (s : State) (r : Option ℤ) :
    Touch [.power, .dev, .units, .hw, .mbs, .ledger, .order, .dacs, .chans, .pebs, .bursts, .seqs, .tdcs, .acqs, .dps, .resvs, .lanes, .queues, .dmas, .fabric, .press, .house, .levee, .svc, .mem, .free] s (readRef s r) := by
  unfold readRef
  dsimp only
  apply Touch.ite
  · exact Touch.refl _ _
  · split
    · apply Touch.ite
      · (apply Touch.app (detectOwn_touch ..); · decide)
        refine Touch.set_house (by decide) ?_
        exact Touch.refl _ _
      · refine Touch.set_house (by decide) ?_
        exact Touch.refl _ _
    · refine Touch.set_house (by decide) ?_
      exact Touch.refl _ _

theorem readStandard_touch (s : State) (r : Option ℤ) :
    Touch [.house] s (readStandard s r) := by
  unfold readStandard
  dsimp only
  split
  · refine Touch.set_house (by decide) ?_
    exact Touch.refl _ _
  · refine Touch.set_house (by decide) ?_
    exact Touch.refl _ _

theorem readSlot_touch (s : State) (n : ℕ) (r : Option ℤ) (faulty : Bool) :
    Touch [.power, .dev, .units, .hw, .mbs, .ledger, .order, .dacs, .chans, .pebs, .bursts, .seqs, .tdcs, .acqs, .dps, .resvs, .lanes, .queues, .dmas, .fabric, .press, .house, .levee, .svc, .mem, .free] s (readSlot s n r faulty) := by
  unfold readSlot
  split
  · apply Touch.ite
    · (apply Touch.app (readDiode_touch ..); · decide)
      exact Touch.refl _ _
    · (apply Touch.app (readChip_touch ..); · decide)
      exact Touch.refl _ _
  · apply Touch.ite
    · (apply Touch.app (readRail_touch ..); · decide)
      exact Touch.refl _ _
    · apply Touch.ite
      · (apply Touch.app (readRef_touch ..); · decide)
        exact Touch.refl _ _
      · apply Touch.ite
        · (apply Touch.app (readStandard_touch ..); · decide)
          exact Touch.refl _ _
        · exact Touch.refl _ _

theorem execThrottleWindowEnd_touch (s : State) :
    TouchOut [.ledger, .house] s (execThrottleWindowEnd s) := by
  unfold execThrottleWindowEnd
  dsimp only
  apply TouchOut.ite
  · apply TouchOut.next
    apply Touch.foldl
    · refine Touch.set_house (by decide) ?_
      exact Touch.refl _ _
    · intro u v
      (apply Touch.app (modSlot_touch ..); · decide)
      exact Touch.refl _ _
  · apply TouchOut.next
    exact Touch.refl _ _

theorem driftUnit_touch (s : State) (a1 : ℕ) :
    Touch [.units, .mbs, .ledger, .order] s (driftUnit s a1) := by
  unfold driftUnit
  dsimp only
  apply Touch.ite
  · apply Touch.ite
    · (apply Touch.app (modUnit_touch ..); · decide)
      exact Touch.refl _ _
    · (apply Touch.app (submitCal_touch ..); · decide)
      exact Touch.refl _ _
  · exact Touch.refl _ _

theorem driftCheck_touch (s : State) (k : ℕ) :
    Touch [.units, .mbs, .ledger, .order] s (driftCheck s k) := by
  unfold driftCheck
  apply Touch.ite
  · apply Touch.foldl
    · exact Touch.refl _ _
    · intro u v
      (apply Touch.app (driftUnit_touch ..); · decide)
      exact Touch.refl _ _
  · exact Touch.refl _ _

theorem openWindow_touch (s : State) :
    Touch [.bursts, .house] s (openWindow s) := by
  unfold openWindow
  dsimp only
  apply Touch.foldl
  · refine Touch.set_house (by decide) ?_
    exact Touch.refl _ _
  · intro u v
    (apply Touch.app (requestPause_touch ..); · decide)
    exact Touch.refl _ _

theorem endRound_touch (s : State) :
    Touch [.mbs, .bursts, .fabric, .house, .svc, .free] s (endRound s) := by
  unfold endRound
  dsimp only
  apply Touch.ite
  · apply Touch.ite
    · apply Touch.ite
      · refine Touch.set_house (by decide) ?_
        exact Touch.refl _ _
      · (apply Touch.app (deviceNotice_touch ..); · decide)
        refine Touch.set_house (by decide) ?_
        exact Touch.refl _ _
    · (apply Touch.app (openWindow_touch ..); · decide)
      apply Touch.ite
      · refine Touch.set_house (by decide) ?_
        exact Touch.refl _ _
      · (apply Touch.app (deviceNotice_touch ..); · decide)
        refine Touch.set_house (by decide) ?_
        exact Touch.refl _ _
  · exact Touch.refl _ _

theorem remoteTrip_touch (s : State) (k : ℕ) :
    Touch [.power, .dev, .units, .hw, .mbs, .ledger, .order, .dacs, .chans, .pebs, .bursts, .seqs, .tdcs, .acqs, .dps, .resvs, .lanes, .queues, .dmas, .fabric, .press, .house, .levee, .svc, .mem, .free] s (remoteTrip s k) := by
  unfold remoteTrip
  apply Touch.ite
  · (apply Touch.app (detectOwn_touch ..); · decide)
    exact Touch.refl _ _
  · exact Touch.refl _ _

theorem execHousekeepingSlot_touch (reading : Option ℤ) (faulty : Bool) (s : State) :
    TouchOut [.power, .dev, .units, .hw, .mbs, .ledger, .order, .dacs, .chans, .pebs, .bursts, .seqs, .tdcs, .acqs, .dps, .resvs, .lanes, .queues, .dmas, .fabric, .press, .house, .levee, .svc, .mem, .free] s (execHousekeepingSlot reading faulty s) := by
  unfold execHousekeepingSlot
  dsimp only
  apply TouchOut.ite
  · apply TouchOut.next
    exact Touch.refl _ _
  · apply TouchOut.ite
    · apply TouchOut.next
      refine Touch.set_house (by decide) ?_
      split
      · (apply Touch.app (driftCheck_touch ..); · decide)
        (apply Touch.app (remoteTrip_touch ..); · decide)
        (apply Touch.app (readSlot_touch ..); · decide)
        refine Touch.set_house (by decide) ?_
        exact Touch.refl _ _
      · (apply Touch.app (readSlot_touch ..); · decide)
        refine Touch.set_house (by decide) ?_
        exact Touch.refl _ _
    · apply TouchOut.next
      refine Touch.set_house (by decide) ?_
      (apply Touch.app (endRound_touch ..); · decide)
      split
      · (apply Touch.app (driftCheck_touch ..); · decide)
        (apply Touch.app (remoteTrip_touch ..); · decide)
        (apply Touch.app (readSlot_touch ..); · decide)
        refine Touch.set_house (by decide) ?_
        exact Touch.refl _ _
      · (apply Touch.app (readSlot_touch ..); · decide)
        refine Touch.set_house (by decide) ?_
        exact Touch.refl _ _

end Sys2Proof.Machine
end

