-- ==== Sys2Proof/Laws/Idle.lean ====
section
/-! SUPPORT. What each function of Machine/Idle.lean may touch. -/

namespace Sys2Proof.Machine

theorem idleTick_touch (s : State) :
    Touch [.clock, .hw, .dps] s (idleTick s) := by
  unfold idleTick
  dsimp only
  apply Touch.ite
  · refine Touch.set_clock_hw_dps (by decide) (by decide) (by decide) ?_
    exact Touch.refl _ _
  · refine Touch.set_clock_dps (by decide) (by decide) ?_
    exact Touch.refl _ _

end Sys2Proof.Machine
end

