-- ==== Sys2Proof/Laws/Locked.lean ====
section
/-! SUPPORT. What follows a lock leaves the lock as it is (R40). -/

namespace Sys2Proof.Machine

/-- The ADPLL is locked at c. -/
def LockedAt (c : BitVec 28) (s : State) : Prop := s.clock.locked = true ∧ s.clock.relocking = false ∧ s.clock.onBypass = false ∧ s.clock.lost = false ∧ s.clock.mLock = c ∧ s.clock.mNow = c

theorem locked_of_touch {c : BitVec 28} {a : List Part} {s t : State} (k : Touch a s t) (hm : Part.clock ∉ a) : Keeps (LockedAt c) s t :=
  ⟨fun h => by
    have e : t.clock = s.clock := k.same .clock hm
    unfold LockedAt
    rw [e]
    exact h⟩

theorem locked_of_touchOut {c : BitVec 28} {a : List Part} {s : State} {o : Out} (k : TouchOut a s o) (hm : Part.clock ∉ a) :
    KeepsOut (LockedAt c) s o :=
  ⟨fun t ht => locked_of_touch (k.next_same t ht) hm⟩

theorem settleCal_locked (c : BitVec 28) (s : State) :
    Keeps (LockedAt c) s (settleCal s) := by
  unfold settleCal
  apply Keeps.ite
  · refine Keeps.trans (locked_of_touch (submitDue_touch ..) (by decide)) ?_
    refine Keeps.trans (locked_of_touch (setMode_touch ..) (by decide)) ?_
    exact Keeps.refl _ _
  · exact Keeps.refl _ _

theorem changeClock_locked (c : BitVec 28) (s : State) (f : State → State)
    (h : ∀ t0, Keeps (LockedAt c) t0 (f t0)) :
    Keeps (LockedAt c) s (changeClock s f) := by
  unfold changeClock
  dsimp only
  apply Keeps.ite
  · apply Keeps.trans (h ..)
    exact Keeps.refl _ _
  · refine Keeps.trans (locked_of_touch (deviceNotice_touch ..) (by decide)) ?_
    apply Keeps.ite
    · apply Keeps.trans (h ..)
      exact Keeps.refl _ _
    · refine Keeps.trans (locked_of_touch (Touch.set_hw (b := [.hw]) (by decide) (Touch.refl _ _)) (by decide)) ?_
      apply Keeps.trans (h ..)
      exact Keeps.refl _ _

theorem openFordWith_locked (c : BitVec 28) (s : State) (f : PortState → PortState) :
    Keeps (LockedAt c) s (openFordWith s f) := by
  unfold openFordWith
  dsimp only
  apply Keeps.ite
  · apply Keeps.ite
    · refine Keeps.trans (changeClock_locked (h := ?_) ..) ?_
      · intro t0
        refine Keeps.trans (Keeps.upd (Touch.set_clock (b := [.clock]) (by decide) (Touch.refl _ _)) fun h => h) ?_
        exact Keeps.refl _ _
      · apply Keeps.foldl
        · refine Keeps.trans (locked_of_touch (Touch.set_power (b := [.power]) (by decide) (Touch.refl _ _)) (by decide)) ?_
          exact Keeps.refl _ _
        · intro u v
          refine Keeps.trans (locked_of_touch (changePort_touch ..) (by decide)) ?_
          exact Keeps.refl _ _
    · apply Keeps.foldl
      · refine Keeps.trans (locked_of_touch (Touch.set_power (b := [.power]) (by decide) (Touch.refl _ _)) (by decide)) ?_
        exact Keeps.refl _ _
      · intro u v
        refine Keeps.trans (locked_of_touch (changePort_touch ..) (by decide)) ?_
        exact Keeps.refl _ _
  · exact Keeps.refl _ _

theorem settleBypass_locked (c : BitVec 28) (s : State) :
    Keeps (LockedAt c) s (settleBypass s) := by
  unfold settleBypass
  apply Keeps.ite
  · refine Keeps.trans (locked_of_touch (enterBypass_touch ..) (by decide)) ?_
    exact Keeps.refl _ _
  · exact Keeps.refl _ _

theorem calAfterRelock_locked (c : BitVec 28) (s : State) :
    Keeps (LockedAt c) s (calAfterRelock s) := by
  unfold calAfterRelock
  dsimp only
  apply Keeps.foldl
  · apply Keeps.ite
    · refine Keeps.trans (locked_of_touch (markCal_touch ..) (by decide)) ?_
      exact Keeps.refl _ _
    · exact Keeps.refl _ _
  · intro u v
    refine Keeps.trans (locked_of_touch (markCal_touch ..) (by decide)) ?_
    exact Keeps.refl _ _

theorem retrainPorts_locked (c : BitVec 28) (s : State) :
    Keeps (LockedAt c) s (retrainPorts s) := by
  unfold retrainPorts
  apply Keeps.foldl
  · exact Keeps.refl _ _
  · intro u v
    apply Keeps.ite
    · exact Keeps.refl _ _
    · refine Keeps.trans (locked_of_touch (changePort_touch ..) (by decide)) ?_
      exact Keeps.refl _ _

theorem settleLock_locked (c : BitVec 28) (s : State) :
    Keeps (LockedAt c) s (settleLock s) := by
  unfold settleLock
  dsimp only
  apply Keeps.ite
  · apply Keeps.ite
    · refine Keeps.trans (locked_of_touch (answerEvery_touch ..) (by decide)) ?_
      exact Keeps.refl _ _
    · refine Keeps.trans (locked_of_touch (answerSteps_touch ..) (by decide)) ?_
      refine Keeps.trans (locked_of_touch (answerEvery_touch ..) (by decide)) ?_
      exact Keeps.refl _ _
  · exact Keeps.refl _ _

theorem closeSwitches_locked (c : BitVec 28) (s : State) :
    Keeps (LockedAt c) s (closeSwitches s) := by
  unfold closeSwitches
  dsimp only
  refine Keeps.trans (locked_of_touch (Touch.set_power (b := [.power]) (by decide) (Touch.refl _ _)) (by decide)) ?_
  exact Keeps.refl _ _

theorem bootMeasure_locked (c : BitVec 28) (s : State) :
    Keeps (LockedAt c) s (bootMeasure s) := by
  unfold bootMeasure
  dsimp only
  apply Keeps.foldl
  · apply Keeps.trans (openFordWith_locked ..)
    refine Keeps.trans (locked_of_touch (Touch.set_boot (b := [.boot]) (by decide) (Touch.refl _ _)) (by decide)) ?_
    exact Keeps.refl _ _
  · intro u v
    apply Keeps.ite
    · refine Keeps.trans (locked_of_touch (changePort_touch ..) (by decide)) ?_
      exact Keeps.refl _ _
    · exact Keeps.refl _ _

theorem bootFord_locked (c : BitVec 28) (s : State) :
    Keeps (LockedAt c) s (bootFord s) := by
  unfold bootFord
  apply Keeps.ite
  · refine Keeps.trans (locked_of_touch (bootError_touch ..) (by decide)) ?_
    exact Keeps.refl _ _
  · apply Keeps.trans (bootMeasure_locked ..)
    exact Keeps.refl _ _

theorem bootRails_locked (c : BitVec 28) (s : State) :
    Keeps (LockedAt c) s (bootRails s) := by
  unfold bootRails
  dsimp only
  apply Keeps.ite
  · apply Keeps.ite
    · apply Keeps.trans (bootFord_locked ..)
      refine Keeps.trans (locked_of_touch (Touch.set_boot (b := [.boot]) (by decide) (Touch.refl _ _)) (by decide)) ?_
      exact Keeps.refl _ _
    · refine Keeps.trans (locked_of_touch (orderSwitches_touch ..) (by decide)) ?_
      refine Keeps.trans (locked_of_touch (Touch.set_boot (b := [.boot]) (by decide) (Touch.refl _ _)) (by decide)) ?_
      exact Keeps.refl _ _
  · refine Keeps.trans (locked_of_touch (bootError_touch ..) (by decide)) ?_
    exact Keeps.refl _ _

end Sys2Proof.Machine
end

