-- ==== Sys2Proof/Laws/Mem.lean ====
section
/-! SUPPORT. Local memory: every write keeps the canonical form, and what a read gives after a write. -/

namespace Sys2Proof.Machine

theorem tabWf_of_cellsWf {lo : Nat} {m : List Host.Cell} (h : cellsWf lo m = true) : TabWfFrom (0 : Byte) lo m := by
  induction m generalizing lo with
  | nil => trivial
  | cons e m ih =>
    obtain ⟨a, b⟩ := e
    simp only [cellsWf, Bool.and_eq_true, decide_eq_true_eq, ne_eq] at h
    exact ⟨h.1.1, h.1.2, ih h.2⟩

theorem cellsWf_of_tabWf {lo : Nat} {m : List Host.Cell} (h : TabWfFrom (0 : Byte) lo m) : cellsWf lo m = true := by
  induction m generalizing lo with
  | nil => rfl
  | cons e m ih =>
    obtain ⟨a, b⟩ := e
    obtain ⟨h1, h2, h3⟩ := h
    simp only [cellsWf, h1, ih h3, decide_true, Bool.true_and, Bool.and_true, decide_eq_true_eq]
    exact h2

/-- The canonical form of memory is that of a table whose default is zero. -/
theorem memory_wf_iff (m : List Host.Cell) : Memory.wf m = true ↔ TabWf (0 : Byte) m :=
  ⟨tabWf_of_cellsWf, cellsWf_of_tabWf⟩

theorem tset_memory_wf {m : List Host.Cell} (h : Memory.wf m = true) (a : Nat) (b : Byte) :
    Memory.wf (tset 0 m a b) = true :=
  (memory_wf_iff _).2 (tset_wf ((memory_wf_iff m).1 h) a b)

/-- The bytes of local memory after a write of bs at l. -/
theorem writeLocal_bytes (s : State) (l : Nat) (bs : List Byte) : (writeLocal s l bs).mem.bytes =
    (List.range bs.length).foldl (fun m i => tset 0 m (l + i) (bs.getD i 0)) s.mem.bytes := rfl

theorem foldl_tset_wf {m : List Host.Cell} (h : Memory.wf m = true) (l : Nat) (bs : List Byte) (is : List Nat) :
    Memory.wf (is.foldl (fun m i => tset 0 m (l + i) (bs.getD i 0)) m) = true := by
  induction is generalizing m with
  | nil => exact h
  | cons i is ih => exact ih (tset_memory_wf h _ _)

/-- A byte outside those written reads as before. -/
theorem foldl_tset_other (m : List Host.Cell) (l : Nat) (bs : List Byte) (is : List Nat) {a : Nat}
    (h : ∀ i ∈ is, a ≠ l + i) :
    tget 0 (is.foldl (fun m i => tset 0 m (l + i) (bs.getD i 0)) m) a = tget 0 m a := by
  induction is generalizing m with
  | nil => rfl
  | cons i is ih =>
    rw [List.foldl_cons, ih _ fun j hj => h j (List.mem_cons_of_mem _ hj)]
    exact tget_tset_other 0 m _ (h i (List.mem_cons_self ..))

/-- A byte written reads back, where the offsets are distinct. -/
theorem foldl_tset_same {m : List Host.Cell} (hm : Memory.wf m = true) (l : Nat) (bs : List Byte) {is : List Nat}
    (nd : is.Nodup) {i : Nat} (h : i ∈ is) :
    tget 0 (is.foldl (fun m i => tset 0 m (l + i) (bs.getD i 0)) m) (l + i) = bs.getD i 0 := by
  induction is generalizing m with
  | nil => cases h
  | cons j is ih =>
    rw [List.nodup_cons] at nd
    rw [List.foldl_cons]
    by_cases hj : i ∈ is
    · exact ih (tset_memory_wf hm _ _) nd.2 hj
    · have : i = j := (List.mem_cons.1 h).resolve_right hj
      subst this
      rw [foldl_tset_other _ _ _ _ fun k hk he => hj (by have : i = k := by omega
                                                         exact this ▸ hk)]
      exact tget_tset_same ((memory_wf_iff m).1 hm) _ _

/-- A byte of a local write outside it reads as before. -/
theorem localByte_writeLocal_other (s : State) (l : Nat) (bs : List Byte) {a : Nat} (h : a < l ∨ l + bs.length ≤ a) :
    localByte (writeLocal s l bs) a = localByte s a := by
  unfold localByte
  rw [writeLocal_bytes]
  refine foldl_tset_other _ _ _ _ fun i hi => ?_
  rw [List.mem_range] at hi
  omega

/-- A byte of a local write reads back. -/
theorem localByte_writeLocal_same (s : State) (h : Memory.wf s.mem.bytes = true) (l : Nat) (bs : List Byte) {i : Nat}
    (hi : i < bs.length) : localByte (writeLocal s l bs) (l + i) = bs.getD i 0 := by
  unfold localByte
  rw [writeLocal_bytes]
  exact foldl_tset_same h l bs List.nodup_range (List.mem_range.2 hi)

/-- t keeps the canonical form of memory that s has. -/
structure MemKeep (s t : State) : Prop where
  keeps : Memory.wf s.mem.bytes = true → Memory.wf t.mem.bytes = true

theorem MemKeep.refl (s : State) : MemKeep s s := ⟨id⟩

theorem MemKeep.trans {s t u : State} (k : MemKeep t u) (h : MemKeep s t) : MemKeep s u := ⟨fun w => k.keeps (h.keeps w)⟩

/-- What does not touch memory keeps it. -/
theorem MemKeep.touch {a : List Part} {s t u : State} (k : Touch a t u) (hm : Part.mem ∉ a) (h : MemKeep s t) :
    MemKeep s u :=
  ⟨fun w => by
    have e : u.mem = t.mem := k.same .mem hm
    rw [e]
    exact h.keeps w⟩

/-- Memory with nothing listed is canonical. -/
theorem MemKeep.empty {s t : State} (h : t.mem.bytes = []) : MemKeep s t := ⟨fun _ => by rw [h]; rfl⟩

theorem MemKeep.ite {s t u : State} {c : Prop} [Decidable c] (h : MemKeep s t) (k : MemKeep s u) :
    MemKeep s (if c then t else u) := by
  split
  · exact h
  · exact k

theorem MemKeep.foldl {α : Type} {s t : State} {g : State → α → State} {l : List α}
    (h : MemKeep s t) (k : ∀ u x, MemKeep u (g u x)) : MemKeep s (l.foldl g t) := by
  induction l generalizing t with
  | nil => exact h
  | cons x l ih => exact ih ((k t x).trans h)

theorem MemKeep.snd {α : Type} {s t : State} {x : α} {p : α × State} (h : p = (x, t)) (k : MemKeep s p.2) :
    MemKeep s t := by subst h; exact k

theorem MemKeep.fst {α : Type} {s t : State} {x : α} {p : State × α} (h : p = (t, x)) (k : MemKeep s p.1) :
    MemKeep s t := by subst h; exact k

/-- Every next state of a meaning keeps the canonical form. -/
structure MemKeepOut (s : State) (o : Host.Outcome State Fault Refusal) : Prop where
  next_keeps : ∀ t, o = .next t → MemKeep s t

theorem MemKeepOut.next {s t : State} (h : MemKeep s t) : MemKeepOut s (.next t) := ⟨fun u hu => by cases hu; exact h⟩

theorem MemKeepOut.fault {s : State} {f : Fault} : MemKeepOut s (.fault f) := ⟨fun u hu => by cases hu⟩

theorem MemKeepOut.ite {s : State} {c : Prop} [Decidable c] {x y : Host.Outcome State Fault Refusal}
    (h : MemKeepOut s x) (k : MemKeepOut s y) : MemKeepOut s (if c then x else y) := by
  split
  · exact h
  · exact k

theorem MemKeepOut.trans {s t : State} {o : Host.Outcome State Fault Refusal} (k : MemKeepOut t o) (h : MemKeep s t) :
    MemKeepOut s o :=
  ⟨fun u hu => (k.next_keeps u hu).trans h⟩

theorem MemKeepOut.touch {a : List Part} {s t : State} {o : Host.Outcome State Fault Refusal} (k : TouchOut a t o)
    (hm : Part.mem ∉ a) (h : MemKeep s t) : MemKeepOut s o :=
  ⟨fun u hu => MemKeep.touch (k.next_same u hu) hm h⟩

/-- Self-refresh keeps what is stored. -/
theorem selfRefresh_mem (s : State) : MemKeep s (selfRefresh s) := ⟨id⟩

theorem writeLocal_mem (s : State) (l : Nat) (bs : List Byte) : MemKeep s (writeLocal s l bs) :=
  ⟨fun w => foldl_tset_wf w l bs _⟩

end Sys2Proof.Machine
end

