-- ==== Sys2Proof/Laws/ReqConfig.lean ====
section
/-! SUPPORT. What each function of Machine/ReqConfig.lean may touch. -/

namespace Sys2Proof.Machine

theorem setMonitor_touch (s : State) (e : ℕ) :
    Touch [.chans] s (setMonitor s e) := by
  unfold setMonitor
  (apply Touch.app (modChan_touch ..); · decide)
  exact Touch.refl _ _

theorem execOpcSiteMap_touch (mb : ℕ) (rem : Remote) (s : State) :
    TouchOut [.dev, .mbs, .rr, .fabric, .free] s (execOpcSiteMap mb rem s) := by
  unfold execOpcSiteMap
  dsimp only
  refine TouchOut.trans (serve_touch (by decide) (by decide) (by decide) (by decide) (h := ?_) ..) ?_
  · intro t0 t1
    apply TouchOut.ite
    · apply TouchOut.fault
    · apply TouchOut.next
      (apply Touch.app (done_touch ..); · decide)
      refine Touch.set_dev (by decide) ?_
      exact Touch.refl _ _
  · exact Touch.refl _ _

theorem execOpcCalConfig_touch (mb : ℕ) (s : State) :
    TouchOut [.mbs, .rr, .cfg, .fabric, .free] s (execOpcCalConfig mb s) := by
  unfold execOpcCalConfig
  dsimp only
  refine TouchOut.trans (serveNext_touch (by decide) (by decide) (by decide) (by decide) (h := ?_) ..) ?_
  · intro t0 t1
    (apply Touch.app (done_touch ..); · decide)
    refine Touch.set_cfg (by decide) ?_
    exact Touch.refl _ _
  · exact Touch.refl _ _

theorem execOpcSineConfig_touch (mb : ℕ) (s : State) :
    TouchOut [.mbs, .rr, .chans, .dps, .fabric, .free] s (execOpcSineConfig mb s) := by
  unfold execOpcSineConfig
  dsimp only
  refine TouchOut.trans (serve_touch (by decide) (by decide) (by decide) (by decide) (h := ?_) ..) ?_
  · intro t0 t1
    apply TouchOut.ite
    · apply TouchOut.fault
    · apply TouchOut.ite
      · apply TouchOut.next
        (apply Touch.app (done_touch ..); · decide)
        (apply Touch.app (modDps_touch ..); · decide)
        exact Touch.refl _ _
      · apply TouchOut.next
        (apply Touch.app (done_touch ..); · decide)
        (apply Touch.app (modChan_touch ..); · decide)
        exact Touch.refl _ _
  · exact Touch.refl _ _

theorem execOpcDpsConfig_touch (mb : ℕ) (s : State) :
    TouchOut [.mbs, .rr, .dps, .fabric, .free] s (execOpcDpsConfig mb s) := by
  unfold execOpcDpsConfig
  dsimp only
  refine TouchOut.trans (serveNext_touch (by decide) (by decide) (by decide) (by decide) (h := ?_) ..) ?_
  · intro t0 t1
    (apply Touch.app (done_touch ..); · decide)
    refine Touch.set_dps (by decide) ?_
    exact Touch.refl _ _
  · exact Touch.refl _ _

theorem execOpcWmonConfig_touch (mb : ℕ) (rem : Remote) (balls : List (ℕ × ℤ)) (s : State) :
    TouchOut [.mbs, .rr, .chans, .bursts, .queues, .fabric, .free] s (execOpcWmonConfig mb rem balls s) := by
  unfold execOpcWmonConfig
  dsimp only
  refine TouchOut.trans (serve_touch (by decide) (by decide) (by decide) (by decide) (h := ?_) ..) ?_
  · intro t0 t1
    apply TouchOut.next
    (apply Touch.app (done_touch ..); · decide)
    (apply Touch.app (judgeMons_touch ..); · decide)
    apply Touch.foldl
    · exact Touch.refl _ _
    · intro u v
      (apply Touch.app (setMonitor_touch ..); · decide)
      exact Touch.refl _ _
  · exact Touch.refl _ _

theorem execOpcLaneConfig_touch (mb : ℕ) (s : State) :
    TouchOut [.mbs, .rr, .lgs, .fabric, .free] s (execOpcLaneConfig mb s) := by
  unfold execOpcLaneConfig
  dsimp only
  refine TouchOut.trans (serveNext_touch (by decide) (by decide) (by decide) (by decide) (h := ?_) ..) ?_
  · intro t0 t1
    (apply Touch.app (done_touch ..); · decide)
    refine Touch.set_lgs (by decide) ?_
    exact Touch.refl _ _
  · exact Touch.refl _ _

theorem execOpcTdcConfig_touch (mb : ℕ) (s : State) :
    TouchOut [.mbs, .rr, .tdcs, .fabric, .free] s (execOpcTdcConfig mb s) := by
  unfold execOpcTdcConfig
  dsimp only
  refine TouchOut.trans (serveNext_touch (by decide) (by decide) (by decide) (by decide) (h := ?_) ..) ?_
  · intro t0 t1
    (apply Touch.app (done_touch ..); · decide)
    (apply Touch.app (modTdc_touch ..); · decide)
    exact Touch.refl _ _
  · exact Touch.refl _ _

theorem execOpcTrigConfig_touch (mb : ℕ) (s : State) :
    TouchOut [.mbs, .rr, .cfg, .fabric, .free] s (execOpcTrigConfig mb s) := by
  unfold execOpcTrigConfig
  dsimp only
  refine TouchOut.trans (serveNext_touch (by decide) (by decide) (by decide) (by decide) (h := ?_) ..) ?_
  · intro t0 t1
    (apply Touch.app (done_touch ..); · decide)
    (apply Touch.app (modTrig_touch ..); · decide)
    exact Touch.refl _ _
  · exact Touch.refl _ _

end Sys2Proof.Machine
end

