-- ==== Sys2Proof/Laws/ReqLevels.lean ====
section
/-! SUPPORT. What each function of Machine/ReqLevels.lean may touch. -/

namespace Sys2Proof.Machine

theorem levelRequest_touch {b : List Part} (h0 : Part.mbs ∈ b) (h1 : Part.rr ∈ b) (h2 : Part.fabric ∈ b) (h3 : Part.free ∈ b) (op : ℕ) (mb : ℕ) (rem : Remote) (s : State) (clear : Bool) (write : State → ℕ → State)
    (h : ∀ t0 t1, Touch b t0 (write t0 t1)) :
    TouchOut b s (levelRequest op mb rem s clear write) := by
  unfold levelRequest
  dsimp only
  refine TouchOut.trans (serve_touch (by assumption) (by assumption) (by assumption) (by assumption) (h := ?_) ..) ?_
  · intro t0 t1
    apply TouchOut.ite
    · apply TouchOut.fault
    · apply TouchOut.ite
      · apply TouchOut.fault
      · apply TouchOut.next
        (apply Touch.app (done_touch ..); · simp_all)
        apply Touch.foldl
        · exact Touch.refl _ _
        · intro u v
          apply Touch.trans (h ..)
          exact Touch.refl _ _
  · exact Touch.refl _ _

theorem writeClear_touch (s : State) (e : ℕ) :
    Touch [.dacs] s (writeClear s e) := by
  unfold writeClear
  dsimp only
  apply Touch.foldl
  · exact Touch.refl _ _
  · intro u v
    apply Touch.ite
    · (apply Touch.app (modDac_touch ..); · decide)
      exact Touch.refl _ _
    · (apply Touch.app (modDac_touch ..); · decide)
      exact Touch.refl _ _

theorem execOpcClearCode_touch (mb : ℕ) (rem : Remote) (s : State) :
    TouchOut [.mbs, .rr, .dacs, .fabric, .free] s (execOpcClearCode mb rem s) := by
  unfold execOpcClearCode
  refine TouchOut.trans (levelRequest_touch (by decide) (by decide) (by decide) (by decide) (h := ?_) ..) ?_
  · intro t0 t1
    (apply Touch.app (writeClear_touch ..); · decide)
    exact Touch.refl _ _
  · exact Touch.refl _ _

theorem commitPeb_touch (s : State) (p : ℕ) :
    Touch [.chans, .pebs, .bursts] s (commitPeb s p) := by
  unfold commitPeb
  split
  · (apply Touch.app (requestCommit_touch ..); · decide)
    exact Touch.refl _ _
  · (apply Touch.app (replayRest_touch ..); · decide)
    (apply Touch.app (transferTables_touch ..); · decide)
    exact Touch.refl _ _

theorem execOpcTimingCommit_touch (mb : ℕ) (s : State) :
    TouchOut [.mbs, .rr, .chans, .pebs, .bursts, .fabric, .free] s (execOpcTimingCommit mb s) := by
  unfold execOpcTimingCommit
  refine TouchOut.trans (serveNext_touch (by decide) (by decide) (by decide) (by decide) (h := ?_) ..) ?_
  · intro t0 t1
    (apply Touch.app (done_touch ..); · decide)
    apply Touch.foldl
    · exact Touch.refl _ _
    · intro u v
      (apply Touch.app (commitPeb_touch ..); · decide)
      exact Touch.refl _ _
  · exact Touch.refl _ _

theorem writeLevel_touch (s : State) (e : ℕ) :
    Touch [.dacs] s (writeLevel s e) := by
  unfold writeLevel
  apply Touch.foldl
  · exact Touch.refl _ _
  · intro u v
    (apply Touch.app (modDac_touch ..); · decide)
    exact Touch.refl _ _

theorem execOpcLevelsSet_touch (mb : ℕ) (rem : Remote) (s : State) :
    TouchOut [.mbs, .rr, .dacs, .fabric, .free] s (execOpcLevelsSet mb rem s) := by
  unfold execOpcLevelsSet
  refine TouchOut.trans (levelRequest_touch (by decide) (by decide) (by decide) (by decide) (h := ?_) ..) ?_
  · intro t0 t1
    (apply Touch.app (writeLevel_touch ..); · decide)
    exact Touch.refl _ _
  · exact Touch.refl _ _

theorem tableRequest_touch (op : ℕ) (mb : ℕ) (rem : Remote) (s : State) (bad : List Byte → Bool) (write : Bool → List Byte → Peb → Peb) :
    TouchOut [.mbs, .rr, .chans, .pebs, .fabric, .free] s (tableRequest op mb rem s bad write) := by
  unfold tableRequest
  dsimp only
  refine TouchOut.trans (serve_touch (by decide) (by decide) (by decide) (by decide) (h := ?_) ..) ?_
  · intro t0 t1
    apply TouchOut.ite
    · apply TouchOut.fault
    · apply TouchOut.ite
      · apply TouchOut.fault
      · apply TouchOut.next
        (apply Touch.app (done_touch ..); · decide)
        apply Touch.ite
        · (apply Touch.app (replayRest_touch ..); · decide)
          (apply Touch.app (modPeb_touch ..); · decide)
          exact Touch.refl _ _
        · (apply Touch.app (modPeb_touch ..); · decide)
          exact Touch.refl _ _
  · exact Touch.refl _ _

theorem execOpcTimingSet_touch (mb : ℕ) (rem : Remote) (s : State) :
    TouchOut [.mbs, .rr, .chans, .pebs, .fabric, .free] s (execOpcTimingSet mb rem s) := by
  unfold execOpcTimingSet
  (apply TouchOut.app (tableRequest_touch ..); · decide)
  exact Touch.refl _ _

theorem execOpcLoadGroup_touch (mb : ℕ) (s : State) :
    TouchOut [.mbs, .rr, .pebs, .dps, .fabric, .free] s (execOpcLoadGroup mb s) := by
  unfold execOpcLoadGroup
  dsimp only
  refine TouchOut.trans (serveNext_touch (by decide) (by decide) (by decide) (by decide) (h := ?_) ..) ?_
  · intro t0 t1
    (apply Touch.app (done_touch ..); · decide)
    refine Touch.set_pebs_dps (by decide) (by decide) ?_
    exact Touch.refl _ _
  · exact Touch.refl _ _

theorem execOpcPinmodeSet_touch (mb : ℕ) (rem : Remote) (s : State) :
    TouchOut [.mbs, .rr, .chans, .pebs, .fabric, .free] s (execOpcPinmodeSet mb rem s) := by
  unfold execOpcPinmodeSet
  (apply TouchOut.app (tableRequest_touch ..); · decide)
  exact Touch.refl _ _

theorem setBackground_touch (s : State) (p : ℕ) (v : BitVec 256) :
    Touch [.pebs] s (setBackground s p v) := by
  unfold setBackground
  (apply Touch.app (modPeb_touch ..); · decide)
  exact Touch.refl _ _

theorem execOpcBackgroundSet_touch (mb : ℕ) (s : State) :
    TouchOut [.mbs, .rr, .pebs, .fabric, .free] s (execOpcBackgroundSet mb s) := by
  unfold execOpcBackgroundSet
  refine TouchOut.trans (serveNext_touch (by decide) (by decide) (by decide) (by decide) (h := ?_) ..) ?_
  · intro t0 t1
    (apply Touch.app (done_touch ..); · decide)
    (apply Touch.app (setBackground_touch ..); · decide)
    exact Touch.refl _ _
  · exact Touch.refl _ _

end Sys2Proof.Machine
end

