-- ==== Sys2Proof/Laws/ReqSched.lean ====
section
/-! SUPPORT. What each function of Machine/ReqSched.lean may touch. -/

namespace Sys2Proof.Machine

theorem execOpcBurstJump_touch (mb : ℕ) (s : State) :
    TouchOut [.mbs, .rr, .ledger, .bursts, .fabric, .free] s (execOpcBurstJump mb s) := by
  unfold execOpcBurstJump
  dsimp only
  refine TouchOut.trans (serveNext_touch (by decide) (by decide) (by decide) (by decide) (h := ?_) ..) ?_
  · intro t0 t1
    apply Touch.ite
    · (apply Touch.app (respond_touch ..); · decide)
      exact Touch.refl _ _
    · apply Touch.ite
      · (apply Touch.app (done_touch ..); · decide)
        (apply Touch.app (modSlot_touch ..); · decide)
        exact Touch.refl _ _
      · (apply Touch.app (done_touch ..); · decide)
        (apply Touch.app (requestJump_touch ..); · decide)
        exact Touch.refl _ _
  · exact Touch.refl _ _

theorem execOpcLayerFree_touch (mb : ℕ) (s : State) :
    TouchOut [.mbs, .rr, .pebs, .fabric, .free] s (execOpcLayerFree mb s) := by
  unfold execOpcLayerFree
  dsimp only
  refine TouchOut.trans (serveNext_touch (by decide) (by decide) (by decide) (by decide) (h := ?_) ..) ?_
  · intro t0 t1
    split
    · (apply Touch.app (done_touch ..); · decide)
      (apply Touch.app (modLayer_touch ..); · decide)
      exact Touch.refl _ _
    · (apply Touch.app (done_touch ..); · decide)
      exact Touch.refl _ _
    · (apply Touch.app (done_touch ..); · decide)
      (apply Touch.app (modLayer_touch ..); · decide)
      exact Touch.refl _ _
  · exact Touch.refl _ _

theorem execOpcScheduleUnload_touch (mb : ℕ) (s : State) :
    TouchOut [.mbs, .rr, .cfg, .fabric, .free] s (execOpcScheduleUnload mb s) := by
  unfold execOpcScheduleUnload
  refine TouchOut.trans (serveNext_touch (by decide) (by decide) (by decide) (by decide) (h := ?_) ..) ?_
  · intro t0 t1
    (apply Touch.app (done_touch ..); · decide)
    (apply Touch.app (modSched_touch ..); · decide)
    exact Touch.refl _ _
  · exact Touch.refl _ _

theorem execOpcScheduleStatus_touch (mb : ℕ) (s : State) :
    TouchOut [.mbs, .rr, .fabric, .free] s (execOpcScheduleStatus mb s) := by
  unfold execOpcScheduleStatus
  dsimp only
  refine TouchOut.trans (serveNext_touch (by decide) (by decide) (by decide) (by decide) (h := ?_) ..) ?_
  · intro t0 t1
    (apply Touch.app (done_touch ..); · decide)
    exact Touch.refl _ _
  · exact Touch.refl _ _

theorem execOpcScheduleLoad_touch (mb : ℕ) (rem : Remote) (s : State) :
    TouchOut [.mbs, .rr, .cfg, .fabric, .free] s (execOpcScheduleLoad mb rem s) := by
  unfold execOpcScheduleLoad
  dsimp only
  refine TouchOut.trans (serve_touch (by decide) (by decide) (by decide) (by decide) (h := ?_) ..) ?_
  · intro t0 t1
    apply TouchOut.next
    (apply Touch.app (done_touch ..); · decide)
    (apply Touch.app (modSched_touch ..); · decide)
    exact Touch.refl _ _
  · exact Touch.refl _ _

theorem schedFailed_touch (s : State) (id : ℕ) :
    Touch [.dev, .units, .mbs, .ledger, .order, .cfg, .fabric, .svc] s (schedFailed s id) := by
  unfold schedFailed
  dsimp only
  apply Touch.foldl
  · (apply Touch.app (modSched_touch ..); · decide)
    exact Touch.refl _ _
  · intro u v
    (apply Touch.app (endItem_touch ..); · decide)
    exact Touch.refl _ _

theorem execScheduleDigestDone_touch (id : ℕ) (rem : Remote) (s : State) :
    TouchOut [.dev, .units, .mbs, .ledger, .order, .cfg, .fabric, .svc] s (execScheduleDigestDone id rem s) := by
  unfold execScheduleDigestDone
  dsimp only
  split
  · split
    · apply TouchOut.ite
      · apply TouchOut.ite
        · apply TouchOut.fault
        · apply TouchOut.next
          (apply Touch.app (modSched_touch ..); · decide)
          exact Touch.refl _ _
      · apply TouchOut.next
        (apply Touch.app (schedFailed_touch ..); · decide)
        exact Touch.refl _ _
    · apply TouchOut.next
      (apply Touch.app (schedFailed_touch ..); · decide)
      exact Touch.refl _ _
  · apply TouchOut.next
    exact Touch.refl _ _

theorem execOpcLayerStatus_touch (mb : ℕ) (s : State) :
    TouchOut [.mbs, .rr, .fabric, .free] s (execOpcLayerStatus mb s) := by
  unfold execOpcLayerStatus
  dsimp only
  refine TouchOut.trans (serveNext_touch (by decide) (by decide) (by decide) (by decide) (h := ?_) ..) ?_
  · intro t0 t1
    (apply Touch.app (done_touch ..); · decide)
    exact Touch.refl _ _
  · exact Touch.refl _ _

end Sys2Proof.Machine
end

