-- ==== Sys2Proof/Laws/ReqService.lean ====
section
/-! SUPPORT. What each function of Machine/ReqService.lean may touch. -/

namespace Sys2Proof.Machine

theorem execOpcEventRead_touch (mb : ℕ) (s : State) :
    TouchOut [.mbs, .rr, .fabric, .levee, .mem, .free] s (execOpcEventRead mb s) := by
  unfold execOpcEventRead
  dsimp only
  refine TouchOut.trans (serveNext_touch (by decide) (by decide) (by decide) (by decide) (h := ?_) ..) ?_
  · intro t0 t1
    (apply Touch.app (done_touch ..); · decide)
    (apply Touch.app (memWrite_touch ..); · decide)
    exact Touch.refl _ _
  · exact Touch.refl _ _

theorem resumePause_touch (s : State) :
    Touch [.dev] s (resumePause s) := by
  unfold resumePause
  dsimp only
  apply Touch.ite
  · (apply Touch.app (setMode_touch ..); · decide)
    refine Touch.set_dev (by decide) ?_
    exact Touch.refl _ _
  · refine Touch.set_dev (by decide) ?_
    exact Touch.refl _ _

theorem execOpcEventAck_touch (mb : ℕ) (s : State) :
    TouchOut [.mbs, .rr, .fabric, .levee, .free] s (execOpcEventAck mb s) := by
  unfold execOpcEventAck
  refine TouchOut.trans (serveNext_touch (by decide) (by decide) (by decide) (by decide) (h := ?_) ..) ?_
  · intro t0 t1
    (apply Touch.app (done_touch ..); · decide)
    (apply Touch.app (ackEvents_touch ..); · decide)
    exact Touch.refl _ _
  · exact Touch.refl _ _

theorem execOpcFaultInject_touch (mb : ℕ) (s : State) :
    TouchOut [.mbs, .rr, .fabric, .levee, .free] s (execOpcFaultInject mb s) := by
  unfold execOpcFaultInject
  dsimp only
  refine TouchOut.trans (serveNext_touch (by decide) (by decide) (by decide) (by decide) (h := ?_) ..) ?_
  · intro t0 t1
    (apply Touch.app (done_touch ..); · decide)
    refine Touch.set_levee (by decide) ?_
    exact Touch.refl _ _
  · exact Touch.refl _ _

theorem refuseService_touch (s : State) (status : ℕ) (detail : ℕ) :
    Touch [.mbs, .fabric, .svc] s (refuseService s status detail) := by
  unfold refuseService
  (apply Touch.app (answerOwed_touch ..); · decide)
  refine Touch.set_svc (by decide) ?_
  exact Touch.refl _ _

theorem execServiceImageChecked_touch (rem : Remote) (s : State) :
    TouchOut [.dev, .boot, .mbs, .fabric, .levee, .svc] s (execServiceImageChecked rem s) := by
  unfold execServiceImageChecked
  dsimp only
  apply TouchOut.ite
  · split
    · apply TouchOut.next
      (apply Touch.app (refuseService_touch ..); · decide)
      exact Touch.refl _ _
    · apply TouchOut.ite
      · apply TouchOut.next
        (apply Touch.app (refuseService_touch ..); · decide)
        exact Touch.refl _ _
      · apply TouchOut.ite
        · apply TouchOut.next
          (apply Touch.app (refuseService_touch ..); · decide)
          exact Touch.refl _ _
        · split
          · apply TouchOut.next
            (apply Touch.app (refuseService_touch ..); · decide)
            exact Touch.refl _ _
          · apply TouchOut.next
            (apply Touch.app (setMode_touch ..); · decide)
            refine Touch.set_dev_boot_levee (by decide) (by decide) (by decide) ?_
            exact Touch.refl _ _
  · apply TouchOut.next
    exact Touch.refl _ _

theorem execOpcServiceBegin_touch (mb : ℕ) (rem : Remote) (s : State) :
    TouchOut [.mbs, .rr, .fabric, .svc, .free] s (execOpcServiceBegin mb rem s) := by
  unfold execOpcServiceBegin
  dsimp only
  refine TouchOut.trans (serve_touch (by decide) (by decide) (by decide) (by decide) (h := ?_) ..) ?_
  · intro t0 t1
    apply TouchOut.next
    (apply Touch.app (deferResp_touch ..); · decide)
    refine Touch.set_svc (by decide) ?_
    exact Touch.refl _ _
  · exact Touch.refl _ _

theorem execServiceBankChangeDone_touch (s : State) :
    TouchOut [.power, .dev, .units, .clock, .hw, .boot, .mbs, .ledger, .order, .dacs, .chans, .pebs, .bursts, .seqs, .tdcs, .acqs, .dps, .resvs, .lanes, .queues, .dmas, .fabric, .press, .levee, .svc, .mem, .free] s (execServiceBankChangeDone s) := by
  unfold execServiceBankChangeDone
  dsimp only
  apply TouchOut.ite
  · apply TouchOut.next
    apply Touch.ite
    · (apply Touch.app (toBypass_touch ..); · decide)
      (apply Touch.app (submitUnslotted_touch ..); · decide)
      (apply Touch.app (retireOwn_touch ..); · decide)
      (apply Touch.app (postHeld_touch ..); · decide)
      apply Touch.foldl
      · (apply Touch.app (answerOwed_touch ..); · decide)
        refine Touch.set_boot_levee_svc (by decide) (by decide) (by decide) ?_
        (apply Touch.app (setMode_touch ..); · decide)
        exact Touch.refl _ _
      · intro u v
        (apply Touch.app (flushOwed_touch ..); · decide)
        exact Touch.refl _ _
    · (apply Touch.app (settleFord_touch ..); · decide)
      (apply Touch.app (settleBypass_touch ..); · decide)
      (apply Touch.app (finishDisarm_touch ..); · decide)
      (apply Touch.app (resumePause_touch ..); · decide)
      (apply Touch.app (settleMode_touch ..); · decide)
      (apply Touch.app (submitUnslotted_touch ..); · decide)
      (apply Touch.app (retireOwn_touch ..); · decide)
      (apply Touch.app (postHeld_touch ..); · decide)
      apply Touch.foldl
      · (apply Touch.app (answerOwed_touch ..); · decide)
        refine Touch.set_boot_levee_svc (by decide) (by decide) (by decide) ?_
        (apply Touch.app (setMode_touch ..); · decide)
        exact Touch.refl _ _
      · intro u v
        (apply Touch.app (flushOwed_touch ..); · decide)
        exact Touch.refl _ _
  · apply TouchOut.next
    exact Touch.refl _ _

end Sys2Proof.Machine
end

