-- ==== Sys2Proof/Laws/Sine.lean ====
section
/-! SUPPORT. What each function of Machine/Sine.lean may touch. -/

namespace Sys2Proof.Machine

theorem followSine_touch (s : State) (e : ℕ × ℤ) :
    Touch [.dps] s (followSine s e) := by
  unfold followSine
  apply Touch.ite
  · (apply Touch.app (modDps_touch ..); · decide)
    exact Touch.refl _ _
  · exact Touch.refl _ _

theorem endSine_touch (s : State) (k : ℕ) :
    Touch [.dacs, .dps] s (endSine s k) := by
  unfold endSine
  dsimp only
  apply Touch.ite
  · (apply Touch.app (followDac_touch ..); · decide)
    (apply Touch.app (modDac_touch ..); · decide)
    exact Touch.refl _ _
  · (apply Touch.app (modDac_touch ..); · decide)
    exact Touch.refl _ _

theorem writeSine_touch (s : State) (e : ℕ × ℤ) :
    Touch [.dacs] s (writeSine s e) := by
  unfold writeSine
  dsimp only
  (apply Touch.app (modDac_touch ..); · decide)
  exact Touch.refl _ _

theorem execSineUpdate_touch (s : State) :
    TouchOut [.dacs, .chans, .dps] s (execSineUpdate s) := by
  unfold execSineUpdate
  dsimp only
  apply TouchOut.next
  apply Touch.foldl
  · apply Touch.foldl
    · refine Touch.set_chans_dps (by decide) (by decide) ?_
      exact Touch.refl _ _
    · intro u v
      (apply Touch.app (endSine_touch ..); · decide)
      exact Touch.refl _ _
  · intro u v
    (apply Touch.app (followSine_touch ..); · decide)
    (apply Touch.app (writeSine_touch ..); · decide)
    exact Touch.refl _ _

end Sys2Proof.Machine
end

