-- ==== Sys2Proof/Laws/Units.lean ====
section
/-! SUPPORT. What each function of Machine/Units.lean may touch. -/

namespace Sys2Proof.Machine

theorem powerCycle_touch (s : State) (a1 : ℕ) :
    Touch [.power, .units, .chans, .pebs, .dps, .lanes] s (powerCycle s a1) := by
  unfold powerCycle
  dsimp only
  split
  · refine Touch.set_power (by decide) ?_
    (apply Touch.app (unitSafeState_touch ..); · decide)
    (apply Touch.app (modUnit_touch ..); · decide)
    exact Touch.refl _ _
  · exact Touch.refl _ _

theorem beginMaintenance_touch (s : State) (a1 : ℕ) (action : ℕ) :
    Touch [.power, .units, .mbs, .ledger, .order, .chans, .pebs, .dps, .lanes, .fabric, .svc, .free] s (beginMaintenance s a1 action) := by
  unfold beginMaintenance
  dsimp only
  apply Touch.ite
  · (apply Touch.app (submitCal_touch ..); · decide)
    (apply Touch.app (modUnit_touch ..); · decide)
    (apply Touch.app (enterMaintenance_touch ..); · decide)
    exact Touch.refl _ _
  · apply Touch.ite
    · (apply Touch.app (powerCycle_touch ..); · decide)
      (apply Touch.app (modUnit_touch ..); · decide)
      (apply Touch.app (enterMaintenance_touch ..); · decide)
      exact Touch.refl _ _
    · (apply Touch.app (modUnit_touch ..); · decide)
      (apply Touch.app (enterMaintenance_touch ..); · decide)
      exact Touch.refl _ _

theorem execOpcUnitMaintain_touch (mb : ℕ) (s : State) :
    TouchOut [.power, .units, .mbs, .rr, .ledger, .order, .chans, .pebs, .dps, .lanes, .fabric, .svc, .free] s (execOpcUnitMaintain mb s) := by
  unfold execOpcUnitMaintain
  dsimp only
  refine TouchOut.trans (serveNext_touch (by decide) (by decide) (by decide) (by decide) (h := ?_) ..) ?_
  · intro t0 t1
    apply Touch.ite
    · (apply Touch.app (done_touch ..); · decide)
      (apply Touch.app (beginMaintenance_touch ..); · decide)
      exact Touch.refl _ _
    · (apply Touch.app (deferResp_touch ..); · decide)
      (apply Touch.app (setUnit_touch ..); · decide)
      (apply Touch.app (modUnit_touch ..); · decide)
      exact Touch.refl _ _
  · exact Touch.refl _ _

theorem execOpcUnitStatus_touch (mb : ℕ) (s : State) :
    TouchOut [.mbs, .rr, .fabric, .free] s (execOpcUnitStatus mb s) := by
  unfold execOpcUnitStatus
  dsimp only
  refine TouchOut.trans (serveNext_touch (by decide) (by decide) (by decide) (by decide) (h := ?_) ..) ?_
  · intro t0 t1
    (apply Touch.app (done_touch ..); · decide)
    exact Touch.refl _ _
  · exact Touch.refl _ _

theorem execOpcMseqLoad_touch (mb : ℕ) (rem : Remote) (s : State) :
    TouchOut [.mbs, .rr, .seqs, .fabric, .free] s (execOpcMseqLoad mb rem s) := by
  unfold execOpcMseqLoad
  dsimp only
  refine TouchOut.trans (serve_touch (by decide) (by decide) (by decide) (by decide) (h := ?_) ..) ?_
  · intro t0 t1
    apply TouchOut.next
    (apply Touch.app (done_touch ..); · decide)
    (apply Touch.app (modSeq_touch ..); · decide)
    exact Touch.refl _ _
  · exact Touch.refl _ _

theorem execOpcUnitRelease_touch (mb : ℕ) (s : State) :
    TouchOut [.units, .mbs, .rr, .chans, .fabric, .svc, .free] s (execOpcUnitRelease mb s) := by
  unfold execOpcUnitRelease
  dsimp only
  refine TouchOut.trans (serveNext_touch (by decide) (by decide) (by decide) (by decide) (h := ?_) ..) ?_
  · intro t0 t1
    apply Touch.ite
    · (apply Touch.app (done_touch ..); · decide)
      exact Touch.refl _ _
    · (apply Touch.app (done_touch ..); · decide)
      apply Touch.ite
      · (apply Touch.app (restorePeb_touch ..); · decide)
        (apply Touch.app (modUnit_touch ..); · decide)
        (apply Touch.app (setUnit_touch ..); · decide)
        exact Touch.refl _ _
      · (apply Touch.app (modUnit_touch ..); · decide)
        (apply Touch.app (setUnit_touch ..); · decide)
        exact Touch.refl _ _
  · exact Touch.refl _ _

theorem storeFailed_touch (s : State) (q : ℕ) (target : ℕ) :
    Touch [.dev, .units, .mbs, .ledger, .order, .dacs, .chans, .pebs, .bursts, .seqs, .tdcs, .acqs, .dps, .resvs, .lanes, .queues, .dmas, .fabric, .press, .levee, .svc, .mem, .free] s (storeFailed s q target) := by
  unfold storeFailed
  dsimp only
  apply Touch.foldl
  · (apply Touch.app (modSeq_touch ..); · decide)
    exact Touch.refl _ _
  · intro u v
    (apply Touch.app (endNow_touch ..); · decide)
    exact Touch.refl _ _

theorem execUnitQuiesced_touch (unit : ℕ) (s : State) :
    TouchOut [.power, .units, .mbs, .ledger, .order, .chans, .pebs, .dps, .lanes, .fabric, .svc, .free] s (execUnitQuiesced unit s) := by
  unfold execUnitQuiesced
  dsimp only
  apply TouchOut.ite
  · apply TouchOut.ite
    · apply TouchOut.next
      (apply Touch.app (refuseMaintain_touch ..); · decide)
      (apply Touch.app (modUnit_touch ..); · decide)
      (apply Touch.app (setUnit_touch ..); · decide)
      (apply Touch.app (unitSafeState_touch ..); · decide)
      exact Touch.refl _ _
    · split
      · apply TouchOut.next
        (apply Touch.app (answerOwed_touch ..); · decide)
        (apply Touch.app (beginMaintenance_touch ..); · decide)
        exact Touch.refl _ _
      · apply TouchOut.next
        exact Touch.refl _ _
  · apply TouchOut.next
    exact Touch.refl _ _

theorem execMseqDigestDone_touch (seq : ℕ) (rem : Remote) (s : State) :
    TouchOut [.dev, .units, .mbs, .ledger, .order, .dacs, .chans, .pebs, .bursts, .seqs, .tdcs, .acqs, .dps, .resvs, .lanes, .queues, .dmas, .fabric, .press, .levee, .svc, .mem, .free] s (execMseqDigestDone seq rem s) := by
  unfold execMseqDigestDone
  dsimp only
  split
  · split
    · apply TouchOut.ite
      · apply TouchOut.next
        (apply Touch.app (modSeq_touch ..); · decide)
        (apply Touch.app (modSeq_touch ..); · decide)
        exact Touch.refl _ _
      · apply TouchOut.next
        (apply Touch.app (storeFailed_touch ..); · decide)
        (apply Touch.app (modSeq_touch ..); · decide)
        exact Touch.refl _ _
    · apply TouchOut.next
      (apply Touch.app (storeFailed_touch ..); · decide)
      (apply Touch.app (modSeq_touch ..); · decide)
      exact Touch.refl _ _
  · apply TouchOut.next
    exact Touch.refl _ _

end Sys2Proof.Machine
end

