-- ==== Sys2Proof/Laws/Memory.lean ====
section
/-! SUPPORT. Every function that may touch local memory keeps its canonical form. -/

namespace Sys2Proof.Machine

theorem writePage_mem (s : State) (a1 : ℕ) (bs : List Byte) :
    MemKeep s (writePage s a1 bs) := by
  unfold writePage
  dsimp only
  split
  · apply MemKeep.ite
    · apply MemKeep.trans (writeLocal_mem ..)
      exact MemKeep.refl _
    · exact MemKeep.refl _
  · apply MemKeep.ite
    · exact MemKeep.refl _
    · (apply MemKeep.touch (sendRequest_touch ..); · decide)
      (apply MemKeep.touch (freeBytes_touch ..); · decide)
      (apply MemKeep.touch (freeBytes_touch ..); · decide)
      exact MemKeep.refl _

theorem memWriteGo_mem (a0 : ℕ) (s : State) (a2 : ℕ) (a3 : List Byte) :
    MemKeep s (memWriteGo a0 s a2 a3) := by
  induction a0 generalizing s a2 a3 with
  | zero =>
    unfold memWriteGo
    exact MemKeep.refl _
  | succ n ih =>
    unfold memWriteGo
    dsimp only
    apply MemKeep.ite
    · exact MemKeep.refl _
    · apply MemKeep.trans (ih ..)
      apply MemKeep.trans (writePage_mem ..)
      exact MemKeep.refl _

theorem memWrite_mem (s : State) (a1 : ℕ) (bs : List Byte) :
    MemKeep s (memWrite s a1 bs) := by
  unfold memWrite
  apply MemKeep.trans (memWriteGo_mem ..)
  exact MemKeep.refl _

theorem commitStep_mem (s : State) (q : ℕ) (item : Option ℕ) :
    MemKeep s (commitStep s q item) := by
  unfold commitStep
  dsimp only
  split
  · (apply MemKeep.touch (modSeq_touch ..); · decide)
    exact MemKeep.refl _
  · (apply MemKeep.touch (modSlot_touch ..); · decide)
    apply MemKeep.trans (memWrite_mem ..)
    (apply MemKeep.touch (modSeq_touch ..); · decide)
    apply MemKeep.trans (memWrite_mem ..)
    (apply MemKeep.touch (modSlot_touch ..); · decide)
    exact MemKeep.refl _

theorem wordOps_mem (s : State) (q : ℕ) (item : Option ℕ) (w : BitVec 144) :
    MemKeep s (wordOps s q item w) := by
  unfold wordOps
  dsimp only
  (apply MemKeep.touch (modSeq_touch ..); · decide)
  apply MemKeep.ite
  · apply MemKeep.trans (commitStep_mem ..)
    apply MemKeep.ite
    · (apply MemKeep.touch (modSeq_touch ..); · decide)
      apply MemKeep.ite
      · (apply MemKeep.touch (claimTurns_touch ..); · decide)
        (apply MemKeep.touch (modSeq_touch ..); · decide)
        apply MemKeep.ite
        · (apply MemKeep.touch (takeFree_touch ..); · decide)
          exact MemKeep.refl _
        · apply MemKeep.foldl
          · (apply MemKeep.touch (takeFree_touch ..); · decide)
            exact MemKeep.refl _
          · intro u v
            apply MemKeep.ite
            · (apply MemKeep.touch (cfgOp_touch ..); · decide)
              apply MemKeep.ite
              · (apply MemKeep.touch (forceOp_touch ..); · decide)
                exact MemKeep.refl _
              · exact MemKeep.refl _
            · apply MemKeep.ite
              · (apply MemKeep.touch (forceOp_touch ..); · decide)
                exact MemKeep.refl _
              · exact MemKeep.refl _
      · (apply MemKeep.touch (modSeq_touch ..); · decide)
        apply MemKeep.ite
        · (apply MemKeep.touch (takeFree_touch ..); · decide)
          exact MemKeep.refl _
        · apply MemKeep.foldl
          · (apply MemKeep.touch (takeFree_touch ..); · decide)
            exact MemKeep.refl _
          · intro u v
            apply MemKeep.ite
            · (apply MemKeep.touch (cfgOp_touch ..); · decide)
              apply MemKeep.ite
              · (apply MemKeep.touch (forceOp_touch ..); · decide)
                exact MemKeep.refl _
              · exact MemKeep.refl _
            · apply MemKeep.ite
              · (apply MemKeep.touch (forceOp_touch ..); · decide)
                exact MemKeep.refl _
              · exact MemKeep.refl _
    · apply MemKeep.ite
      · (apply MemKeep.touch (claimTurns_touch ..); · decide)
        (apply MemKeep.touch (modSeq_touch ..); · decide)
        apply MemKeep.ite
        · (apply MemKeep.touch (takeFree_touch ..); · decide)
          exact MemKeep.refl _
        · apply MemKeep.foldl
          · (apply MemKeep.touch (takeFree_touch ..); · decide)
            exact MemKeep.refl _
          · intro u v
            apply MemKeep.ite
            · (apply MemKeep.touch (cfgOp_touch ..); · decide)
              apply MemKeep.ite
              · (apply MemKeep.touch (forceOp_touch ..); · decide)
                exact MemKeep.refl _
              · exact MemKeep.refl _
            · apply MemKeep.ite
              · (apply MemKeep.touch (forceOp_touch ..); · decide)
                exact MemKeep.refl _
              · exact MemKeep.refl _
      · (apply MemKeep.touch (modSeq_touch ..); · decide)
        apply MemKeep.ite
        · (apply MemKeep.touch (takeFree_touch ..); · decide)
          exact MemKeep.refl _
        · apply MemKeep.foldl
          · (apply MemKeep.touch (takeFree_touch ..); · decide)
            exact MemKeep.refl _
          · intro u v
            apply MemKeep.ite
            · (apply MemKeep.touch (cfgOp_touch ..); · decide)
              apply MemKeep.ite
              · (apply MemKeep.touch (forceOp_touch ..); · decide)
                exact MemKeep.refl _
              · exact MemKeep.refl _
            · apply MemKeep.ite
              · (apply MemKeep.touch (forceOp_touch ..); · decide)
                exact MemKeep.refl _
              · exact MemKeep.refl _
  · apply MemKeep.ite
    · (apply MemKeep.touch (modSeq_touch ..); · decide)
      apply MemKeep.ite
      · (apply MemKeep.touch (claimTurns_touch ..); · decide)
        (apply MemKeep.touch (modSeq_touch ..); · decide)
        apply MemKeep.ite
        · (apply MemKeep.touch (takeFree_touch ..); · decide)
          exact MemKeep.refl _
        · apply MemKeep.foldl
          · (apply MemKeep.touch (takeFree_touch ..); · decide)
            exact MemKeep.refl _
          · intro u v
            apply MemKeep.ite
            · (apply MemKeep.touch (cfgOp_touch ..); · decide)
              apply MemKeep.ite
              · (apply MemKeep.touch (forceOp_touch ..); · decide)
                exact MemKeep.refl _
              · exact MemKeep.refl _
            · apply MemKeep.ite
              · (apply MemKeep.touch (forceOp_touch ..); · decide)
                exact MemKeep.refl _
              · exact MemKeep.refl _
      · (apply MemKeep.touch (modSeq_touch ..); · decide)
        apply MemKeep.ite
        · (apply MemKeep.touch (takeFree_touch ..); · decide)
          exact MemKeep.refl _
        · apply MemKeep.foldl
          · (apply MemKeep.touch (takeFree_touch ..); · decide)
            exact MemKeep.refl _
          · intro u v
            apply MemKeep.ite
            · (apply MemKeep.touch (cfgOp_touch ..); · decide)
              apply MemKeep.ite
              · (apply MemKeep.touch (forceOp_touch ..); · decide)
                exact MemKeep.refl _
              · exact MemKeep.refl _
            · apply MemKeep.ite
              · (apply MemKeep.touch (forceOp_touch ..); · decide)
                exact MemKeep.refl _
              · exact MemKeep.refl _
    · apply MemKeep.ite
      · (apply MemKeep.touch (claimTurns_touch ..); · decide)
        (apply MemKeep.touch (modSeq_touch ..); · decide)
        apply MemKeep.ite
        · (apply MemKeep.touch (takeFree_touch ..); · decide)
          exact MemKeep.refl _
        · apply MemKeep.foldl
          · (apply MemKeep.touch (takeFree_touch ..); · decide)
            exact MemKeep.refl _
          · intro u v
            apply MemKeep.ite
            · (apply MemKeep.touch (cfgOp_touch ..); · decide)
              apply MemKeep.ite
              · (apply MemKeep.touch (forceOp_touch ..); · decide)
                exact MemKeep.refl _
              · exact MemKeep.refl _
            · apply MemKeep.ite
              · (apply MemKeep.touch (forceOp_touch ..); · decide)
                exact MemKeep.refl _
              · exact MemKeep.refl _
      · (apply MemKeep.touch (modSeq_touch ..); · decide)
        apply MemKeep.ite
        · (apply MemKeep.touch (takeFree_touch ..); · decide)
          exact MemKeep.refl _
        · apply MemKeep.foldl
          · (apply MemKeep.touch (takeFree_touch ..); · decide)
            exact MemKeep.refl _
          · intro u v
            apply MemKeep.ite
            · (apply MemKeep.touch (cfgOp_touch ..); · decide)
              apply MemKeep.ite
              · (apply MemKeep.touch (forceOp_touch ..); · decide)
                exact MemKeep.refl _
              · exact MemKeep.refl _
            · apply MemKeep.ite
              · (apply MemKeep.touch (forceOp_touch ..); · decide)
                exact MemKeep.refl _
              · exact MemKeep.refl _

theorem runWord_mem (s : State) (q : ℕ) (ks : List ℕ) (k : Option ℕ → BitVec 14 → State → State)
    (h : ∀ t0 t1 t2, MemKeep t2 (k t0 t1 t2)) :
    MemKeepOut s (runWord s q ks k) := by
  unfold runWord
  dsimp only
  apply MemKeepOut.ite
  · apply MemKeepOut.ite
    · apply MemKeepOut.fault
    · apply MemKeepOut.next
      apply MemKeep.trans (h ..)
      apply MemKeep.trans (wordOps_mem ..)
      exact MemKeep.refl _
  · apply MemKeepOut.next
    exact MemKeep.refl _

theorem execSeqGo_mem (seq : ℕ) (s : State) :
    MemKeepOut s (execSeqGo seq s) := by
  unfold execSeqGo
  refine MemKeepOut.trans (runWord_mem (h := ?_) ..) ?_
  · intro t0 t1 t2
    (apply MemKeep.touch (modSeq_touch ..); · decide)
    exact MemKeep.refl _
  · exact MemKeep.refl _

theorem finishMeasure_mem (s : State) (q : ℕ) (slot : ℕ) (reason : Option ℕ) (extra : ℕ) :
    MemKeep s (finishMeasure s q slot reason extra) := by
  unfold finishMeasure
  dsimp only
  (apply MemKeep.touch (endItem_touch ..); · decide)
  (apply MemKeep.touch (modSeq_touch ..); · decide)
  apply MemKeep.trans (memWrite_mem ..)
  exact MemKeep.refl _

theorem execSeqWait_mem (seq : ℕ) (s : State) :
    MemKeepOut s (execSeqWait seq s) := by
  unfold execSeqWait
  refine MemKeepOut.trans (runWord_mem (h := ?_) ..) ?_
  · intro t0 t1 t2
    (apply MemKeep.touch (modSeq_touch ..); · decide)
    exact MemKeep.refl _
  · exact MemKeep.refl _

theorem endRoutine_mem (s : State) (q : ℕ) (item : Option ℕ) (reason : Option ℕ) :
    MemKeep s (endRoutine s q item reason) := by
  unfold endRoutine
  split
  · apply MemKeep.trans (finishMeasure_mem ..)
    exact MemKeep.refl _
  · (apply MemKeep.touch (modSeq_touch ..); · decide)
    exact MemKeep.refl _

theorem execSeqEnd_mem (seq : ℕ) (s : State) :
    MemKeepOut s (execSeqEnd seq s) := by
  unfold execSeqEnd
  refine MemKeepOut.trans (runWord_mem (h := ?_) ..) ?_
  · intro t0 t1 t2
    apply MemKeep.trans (endRoutine_mem ..)
    (apply MemKeep.touch (romEnd_touch ..); · decide)
    exact MemKeep.refl _
  · exact MemKeep.refl _

theorem stopMeasure_mem (s : State) (q : ℕ) (slot : ℕ) (reason : ℕ) (extra : ℕ) :
    MemKeep s (stopMeasure s q slot reason extra) := by
  unfold stopMeasure
  dsimp only
  apply MemKeep.trans (finishMeasure_mem ..)
  apply MemKeep.ite
  · exact MemKeep.refl _
  · refine MemKeep.touch (Touch.set_chans (b := [.chans]) (by decide) (Touch.refl _ _)) (by decide) ?_
    exact MemKeep.refl _

theorem detachMeasure_mem (s : State) (q : ℕ) (slot : ℕ) (reason : ℕ) (extra : ℕ) :
    MemKeep s (detachMeasure s q slot reason extra) := by
  unfold detachMeasure
  dsimp only
  (apply MemKeep.touch (endItem_touch ..); · decide)
  (apply MemKeep.touch (modSeq_touch ..); · decide)
  apply MemKeep.trans (memWrite_mem ..)
  exact MemKeep.refl _

theorem execUnwindDone_mem (seq : ℕ) (s : State) :
    MemKeepOut s (execUnwindDone seq s) := by
  unfold execUnwindDone
  dsimp only
  refine MemKeepOut.trans (runWord_mem (h := ?_) ..) ?_
  · intro t0 t1 t2
    split
    · apply MemKeep.trans (endRoutine_mem ..)
      apply MemKeep.ite
      · exact MemKeep.refl _
      · apply MemKeep.foldl
        · exact MemKeep.refl _
        · intro u v
          (apply MemKeep.touch (applySnap_touch ..); · decide)
          exact MemKeep.refl _
    · apply MemKeep.trans (endRoutine_mem ..)
      (apply MemKeep.touch (takeFree_touch ..); · decide)
      apply MemKeep.ite
      · exact MemKeep.refl _
      · apply MemKeep.foldl
        · exact MemKeep.refl _
        · intro u v
          (apply MemKeep.touch (applySnap_touch ..); · decide)
          exact MemKeep.refl _
  · exact MemKeep.refl _

theorem execSeqReturn_mem (seq : ℕ) (s : State) :
    MemKeepOut s (execSeqReturn seq s) := by
  unfold execSeqReturn
  refine MemKeepOut.trans (runWord_mem (h := ?_) ..) ?_
  · intro t0 t1 t2
    split
    · (apply MemKeep.touch (modSeq_touch ..); · decide)
      exact MemKeep.refl _
    · apply MemKeep.trans (endRoutine_mem ..)
      (apply MemKeep.touch (romEnd_touch ..); · decide)
      exact MemKeep.refl _
  · exact MemKeep.refl _

theorem execSeqCall_mem (seq : ℕ) (s : State) :
    MemKeepOut s (execSeqCall seq s) := by
  unfold execSeqCall
  refine MemKeepOut.trans (runWord_mem (h := ?_) ..) ?_
  · intro t0 t1 t2
    (apply MemKeep.touch (modSeq_touch ..); · decide)
    exact MemKeep.refl _
  · exact MemKeep.refl _

theorem finishAcquire_mem (s : State) (slot : ℕ) (reason : Option ℕ) (extra : ℕ) :
    MemKeep s (finishAcquire s slot reason extra) := by
  unfold finishAcquire
  dsimp only
  (apply MemKeep.touch (endItem_touch ..); · decide)
  refine MemKeep.touch (Touch.set_acqs (b := [.acqs]) (by decide) (Touch.refl _ _)) (by decide) ?_
  apply MemKeep.trans (memWrite_mem ..)
  apply MemKeep.trans (memWrite_mem ..)
  (apply MemKeep.touch (takeFree_touch ..); · decide)
  exact MemKeep.refl _

theorem storeSample_mem (s : State) (slot : ℕ) (k : ℕ) (a3 : Sample) :
    MemKeep s (storeSample s slot k a3) := by
  unfold storeSample
  dsimp only
  apply MemKeep.ite
  · apply MemKeep.trans (memWrite_mem ..)
    (apply MemKeep.touch (modSlot_touch ..); · decide)
    (apply MemKeep.touch (modAcq_touch ..); · decide)
    exact MemKeep.refl _
  · (apply MemKeep.touch (modSlot_touch ..); · decide)
    (apply MemKeep.touch (modAcq_touch ..); · decide)
    exact MemKeep.refl _

theorem takeSample_mem (s : State) (slot : ℕ) (k : ℕ) (a3 : Sample) :
    MemKeep s (takeSample s slot k a3) := by
  unfold takeSample
  dsimp only
  apply MemKeep.ite
  · apply MemKeep.trans (storeSample_mem ..)
    exact MemKeep.refl _
  · apply MemKeep.ite
    · apply MemKeep.trans (storeSample_mem ..)
      (apply MemKeep.touch (modAcq_touch ..); · decide)
      exact MemKeep.refl _
    · apply MemKeep.ite
      · apply MemKeep.ite
        · apply MemKeep.trans (storeSample_mem ..)
          exact MemKeep.refl _
        · exact MemKeep.refl _
      · apply MemKeep.ite
        · exact MemKeep.refl _
        · split
          · apply MemKeep.ite
            · apply MemKeep.trans (storeSample_mem ..)
              apply MemKeep.trans (storeSample_mem ..)
              (apply MemKeep.touch (modAcq_touch ..); · decide)
              exact MemKeep.refl _
            · (apply MemKeep.touch (modAcq_touch ..); · decide)
              exact MemKeep.refl _
          · (apply MemKeep.touch (modAcq_touch ..); · decide)
            exact MemKeep.refl _

theorem giveConversion_mem (dadc : Bool) (conv : ℕ) (input : ℕ) (value : ℤ) (endOfScale : Bool) (clamped : Bool) (gap : ℕ) (s : State) :
    MemKeep s (giveConversion dadc conv input value endOfScale clamped gap s) := by
  unfold giveConversion
  dsimp only
  apply MemKeep.ite
  · apply MemKeep.ite
    · (apply MemKeep.touch (modAcq_touch ..); · decide)
      (apply MemKeep.touch (giveRoutine_touch ..); · decide)
      exact MemKeep.refl _
    · (apply MemKeep.touch (giveRoutine_touch ..); · decide)
      exact MemKeep.refl _
  · split
    · exact MemKeep.refl _
    · apply MemKeep.ite
      · apply MemKeep.trans (finishAcquire_mem ..)
        apply MemKeep.trans (takeSample_mem ..)
        (apply MemKeep.touch (modAcq_touch ..); · decide)
        exact MemKeep.refl _
      · apply MemKeep.trans (takeSample_mem ..)
        (apply MemKeep.touch (modAcq_touch ..); · decide)
        exact MemKeep.refl _

theorem execConversionDone_mem (dadc : Bool) (conv : ℕ) (input : ℕ) (value : ℤ) (endOfScale : Bool) (clamped : Bool) (gap : ℕ) (s : State) :
    MemKeepOut s (execConversionDone dadc conv input value endOfScale clamped gap s) := by
  unfold execConversionDone
  apply MemKeepOut.ite
  · apply MemKeepOut.next
    (apply MemKeep.touch (passTurn_touch ..); · decide)
    apply MemKeep.trans (giveConversion_mem ..)
    exact MemKeep.refl _
  · apply MemKeepOut.next
    exact MemKeep.refl _

theorem finishBurst_mem (s : State) (slot : ℕ) (reason : Option ℕ) (rest : ℕ → Rest) (extra : ℕ) :
    MemKeep s (finishBurst s slot reason rest extra) := by
  unfold finishBurst
  dsimp only
  (apply MemKeep.touch (endItem_touch ..); · decide)
  (apply MemKeep.touch (settlePins_touch ..); · decide)
  refine MemKeep.touch (Touch.set_bursts_fabric (b := [.bursts, .fabric]) (by decide) (by decide) (Touch.refl _ _)) (by decide) ?_
  apply MemKeep.foldl
  · apply MemKeep.trans (memWrite_mem ..)
    apply MemKeep.ite
    · apply MemKeep.foldl
      · apply MemKeep.ite
        · (apply MemKeep.touch (capAll_touch ..); · decide)
          split
          · (apply MemKeep.touch (modBurst_touch ..); · decide)
            (apply MemKeep.touch (transferDue_touch ..); · decide)
            (apply MemKeep.touch (flushJunction_touch ..); · decide)
            (apply MemKeep.touch (closeRuns_touch ..); · decide)
            exact MemKeep.refl _
          · (apply MemKeep.touch (modBurst_touch ..); · decide)
            (apply MemKeep.touch (transferDue_touch ..); · decide)
            (apply MemKeep.touch (flushJunction_touch ..); · decide)
            (apply MemKeep.touch (closeRuns_touch ..); · decide)
            exact MemKeep.refl _
          · (apply MemKeep.touch (transferDue_touch ..); · decide)
            (apply MemKeep.touch (flushJunction_touch ..); · decide)
            (apply MemKeep.touch (closeRuns_touch ..); · decide)
            exact MemKeep.refl _
        · split
          · (apply MemKeep.touch (modBurst_touch ..); · decide)
            (apply MemKeep.touch (transferDue_touch ..); · decide)
            (apply MemKeep.touch (flushJunction_touch ..); · decide)
            (apply MemKeep.touch (closeRuns_touch ..); · decide)
            exact MemKeep.refl _
          · (apply MemKeep.touch (modBurst_touch ..); · decide)
            (apply MemKeep.touch (transferDue_touch ..); · decide)
            (apply MemKeep.touch (flushJunction_touch ..); · decide)
            (apply MemKeep.touch (closeRuns_touch ..); · decide)
            exact MemKeep.refl _
          · (apply MemKeep.touch (transferDue_touch ..); · decide)
            (apply MemKeep.touch (flushJunction_touch ..); · decide)
            (apply MemKeep.touch (closeRuns_touch ..); · decide)
            exact MemKeep.refl _
      · intro u v
        (apply MemKeep.touch (modQueue_touch ..); · decide)
        exact MemKeep.refl _
    · apply MemKeep.ite
      · (apply MemKeep.touch (capAll_touch ..); · decide)
        split
        · (apply MemKeep.touch (modBurst_touch ..); · decide)
          (apply MemKeep.touch (transferDue_touch ..); · decide)
          (apply MemKeep.touch (flushJunction_touch ..); · decide)
          (apply MemKeep.touch (closeRuns_touch ..); · decide)
          exact MemKeep.refl _
        · (apply MemKeep.touch (modBurst_touch ..); · decide)
          (apply MemKeep.touch (transferDue_touch ..); · decide)
          (apply MemKeep.touch (flushJunction_touch ..); · decide)
          (apply MemKeep.touch (closeRuns_touch ..); · decide)
          exact MemKeep.refl _
        · (apply MemKeep.touch (transferDue_touch ..); · decide)
          (apply MemKeep.touch (flushJunction_touch ..); · decide)
          (apply MemKeep.touch (closeRuns_touch ..); · decide)
          exact MemKeep.refl _
      · split
        · (apply MemKeep.touch (modBurst_touch ..); · decide)
          (apply MemKeep.touch (transferDue_touch ..); · decide)
          (apply MemKeep.touch (flushJunction_touch ..); · decide)
          (apply MemKeep.touch (closeRuns_touch ..); · decide)
          exact MemKeep.refl _
        · (apply MemKeep.touch (modBurst_touch ..); · decide)
          (apply MemKeep.touch (transferDue_touch ..); · decide)
          (apply MemKeep.touch (flushJunction_touch ..); · decide)
          (apply MemKeep.touch (closeRuns_touch ..); · decide)
          exact MemKeep.refl _
        · (apply MemKeep.touch (transferDue_touch ..); · decide)
          (apply MemKeep.touch (flushJunction_touch ..); · decide)
          (apply MemKeep.touch (closeRuns_touch ..); · decide)
          exact MemKeep.refl _
  · intro u v
    (apply MemKeep.touch (restPeb_touch ..); · decide)
    exact MemKeep.refl _

theorem abortBurst_mem (s : State) (slot : ℕ) (reason : ℕ) :
    MemKeep s (abortBurst s slot reason) := by
  unfold abortBurst
  apply MemKeep.ite
  · (apply MemKeep.touch (modSlot_touch ..); · decide)
    exact MemKeep.refl _
  · apply MemKeep.trans (finishBurst_mem ..)
    exact MemKeep.refl _

theorem execBurstSegmentBoundary_mem (slot : ℕ) (s : State) :
    MemKeepOut s (execBurstSegmentBoundary slot s) := by
  unfold execBurstSegmentBoundary
  dsimp only
  apply MemKeepOut.ite
  · apply MemKeepOut.ite
    · apply MemKeepOut.next
      apply MemKeep.trans (finishBurst_mem ..)
      (apply MemKeep.touch (mergeSegment_touch ..); · decide)
      (apply MemKeep.touch (closeRuns_touch ..); · decide)
      apply MemKeep.ite
      · (apply MemKeep.touch (markUnderrun_touch ..); · decide)
        (apply MemKeep.touch (uncountLast_touch ..); · decide)
        exact MemKeep.refl _
      · exact MemKeep.refl _
    · split
      · apply MemKeepOut.ite
        · apply MemKeepOut.next
          apply MemKeep.trans (finishBurst_mem ..)
          (apply MemKeep.touch (flushJunction_touch ..); · decide)
          (apply MemKeep.touch (modSlot_touch ..); · decide)
          (apply MemKeep.touch (mergeSegment_touch ..); · decide)
          (apply MemKeep.touch (dropFaulty_touch ..); · decide)
          (apply MemKeep.touch (closeRuns_touch ..); · decide)
          apply MemKeep.ite
          · (apply MemKeep.touch (markUnderrun_touch ..); · decide)
            (apply MemKeep.touch (uncountLast_touch ..); · decide)
            exact MemKeep.refl _
          · exact MemKeep.refl _
        · apply MemKeepOut.ite
          · apply MemKeepOut.next
            apply MemKeep.trans (finishBurst_mem ..)
            (apply MemKeep.touch (flushJunction_touch ..); · decide)
            (apply MemKeep.touch (modSlot_touch ..); · decide)
            (apply MemKeep.touch (mergeSegment_touch ..); · decide)
            (apply MemKeep.touch (dropFaulty_touch ..); · decide)
            (apply MemKeep.touch (closeRuns_touch ..); · decide)
            apply MemKeep.ite
            · (apply MemKeep.touch (markUnderrun_touch ..); · decide)
              (apply MemKeep.touch (uncountLast_touch ..); · decide)
              exact MemKeep.refl _
            · exact MemKeep.refl _
          · apply MemKeepOut.next
            apply MemKeep.trans (finishBurst_mem ..)
            (apply MemKeep.touch (flushJunction_touch ..); · decide)
            (apply MemKeep.touch (modSlot_touch ..); · decide)
            (apply MemKeep.touch (mergeSegment_touch ..); · decide)
            (apply MemKeep.touch (dropFaulty_touch ..); · decide)
            (apply MemKeep.touch (closeRuns_touch ..); · decide)
            apply MemKeep.ite
            · (apply MemKeep.touch (markUnderrun_touch ..); · decide)
              (apply MemKeep.touch (uncountLast_touch ..); · decide)
              exact MemKeep.refl _
            · exact MemKeep.refl _
      · apply MemKeepOut.ite
        · apply MemKeepOut.next
          apply MemKeep.trans (finishBurst_mem ..)
          (apply MemKeep.touch (flushJunction_touch ..); · decide)
          (apply MemKeep.touch (modSlot_touch ..); · decide)
          (apply MemKeep.touch (mergeSegment_touch ..); · decide)
          (apply MemKeep.touch (dropFaulty_touch ..); · decide)
          (apply MemKeep.touch (closeRuns_touch ..); · decide)
          apply MemKeep.ite
          · (apply MemKeep.touch (markUnderrun_touch ..); · decide)
            (apply MemKeep.touch (uncountLast_touch ..); · decide)
            exact MemKeep.refl _
          · exact MemKeep.refl _
        · apply MemKeepOut.ite
          · apply MemKeepOut.next
            (apply MemKeep.touch (enterHold_touch ..); · decide)
            (apply MemKeep.touch (flushJunction_touch ..); · decide)
            (apply MemKeep.touch (modSlot_touch ..); · decide)
            (apply MemKeep.touch (mergeSegment_touch ..); · decide)
            (apply MemKeep.touch (dropFaulty_touch ..); · decide)
            (apply MemKeep.touch (closeRuns_touch ..); · decide)
            apply MemKeep.ite
            · (apply MemKeep.touch (markUnderrun_touch ..); · decide)
              (apply MemKeep.touch (uncountLast_touch ..); · decide)
              exact MemKeep.refl _
            · exact MemKeep.refl _
          · apply MemKeepOut.next
            (apply MemKeep.touch (leaveBoundary_touch ..); · decide)
            (apply MemKeep.touch (flushJunction_touch ..); · decide)
            (apply MemKeep.touch (modSlot_touch ..); · decide)
            (apply MemKeep.touch (mergeSegment_touch ..); · decide)
            (apply MemKeep.touch (dropFaulty_touch ..); · decide)
            (apply MemKeep.touch (closeRuns_touch ..); · decide)
            apply MemKeep.ite
            · (apply MemKeep.touch (markUnderrun_touch ..); · decide)
              (apply MemKeep.touch (uncountLast_touch ..); · decide)
              exact MemKeep.refl _
            · exact MemKeep.refl _
  · apply MemKeepOut.next
    exact MemKeep.refl _

theorem finishLane_mem (s : State) (slot : ℕ) (reason : Option ℕ) (extra : ℕ) :
    MemKeep s (finishLane s slot reason extra) := by
  unfold finishLane
  dsimp only
  (apply MemKeep.touch (endItem_touch ..); · decide)
  refine MemKeep.touch (Touch.set_lanes (b := [.lanes]) (by decide) (Touch.refl _ _)) (by decide) ?_
  apply MemKeep.trans (memWrite_mem ..)
  split
  · dsimp only
    (apply MemKeep.touch (laneProgress_touch ..); · decide)
    exact MemKeep.refl _
  · (apply MemKeep.touch (takeFree_touch ..); · decide)
    (apply MemKeep.touch (laneProgress_touch ..); · decide)
    exact MemKeep.refl _

theorem laneStep_mem (s : State) (slot : ℕ) (n : ℕ) (f : Lane → Lane) :
    MemKeep s (laneStep s slot n f) := by
  unfold laneStep
  dsimp only
  apply MemKeep.ite
  · apply MemKeep.trans (finishLane_mem ..)
    (apply MemKeep.touch (laneProgress_touch ..); · decide)
    (apply MemKeep.touch (modLane_touch ..); · decide)
    exact MemKeep.refl _
  · (apply MemKeep.touch (laneProgress_touch ..); · decide)
    (apply MemKeep.touch (modLane_touch ..); · decide)
    exact MemKeep.refl _

theorem execEyePointDone_mem (lane : ℕ) (mismatches : ℕ) (s : State) :
    MemKeepOut s (execEyePointDone lane mismatches s) := by
  unfold execEyePointDone
  dsimp only
  split
  · apply MemKeepOut.ite
    · apply MemKeepOut.next
      apply MemKeep.trans (laneStep_mem ..)
      exact MemKeep.refl _
    · apply MemKeepOut.next
      exact MemKeep.refl _
  · apply MemKeepOut.next
    exact MemKeep.refl _

theorem execLaneRxLock_mem (lane : ℕ) (freqOffset : ℤ) (s : State) :
    MemKeepOut s (execLaneRxLock lane freqOffset s) := by
  unfold execLaneRxLock
  split
  · apply MemKeepOut.next
    apply MemKeep.trans (laneStep_mem ..)
    exact MemKeep.refl _
  · apply MemKeepOut.next
    (apply MemKeep.touch (idleRx_touch ..); · decide)
    exact MemKeep.refl _

theorem execNoLock_mem (lane : ℕ) (s : State) :
    MemKeepOut s (execNoLock lane s) := by
  unfold execNoLock
  dsimp only
  split
  · apply MemKeepOut.ite
    · apply MemKeepOut.next
      exact MemKeep.refl _
    · apply MemKeepOut.next
      apply MemKeep.trans (laneStep_mem ..)
      exact MemKeep.refl _
  · apply MemKeepOut.next
    exact MemKeep.refl _

theorem execLaneClassRecognised_mem (lane : ℕ) (cls : ℕ) (inverted : Bool) (s : State) :
    MemKeepOut s (execLaneClassRecognised lane cls inverted s) := by
  unfold execLaneClassRecognised
  dsimp only
  split
  · apply MemKeepOut.ite
    · apply MemKeepOut.next
      apply MemKeep.trans (laneStep_mem ..)
      exact MemKeep.refl _
    · apply MemKeepOut.next
      exact MemKeep.refl _
  · apply MemKeepOut.next
    exact MemKeep.refl _

theorem execLaneBitsReached_mem (lane : ℕ) (bits : ℕ) (errors : BitErrors) (s : State) :
    MemKeepOut s (execLaneBitsReached lane bits errors s) := by
  unfold execLaneBitsReached
  dsimp only
  split
  · apply MemKeepOut.ite
    · apply MemKeepOut.next
      exact MemKeep.refl _
    · apply MemKeepOut.next
      apply MemKeep.trans (laneStep_mem ..)
      exact MemKeep.refl _
  · apply MemKeepOut.next
    exact MemKeep.refl _

theorem execLaneLockLoss_mem (lane : ℕ) (s : State) :
    MemKeepOut s (execLaneLockLoss lane s) := by
  unfold execLaneLockLoss
  split
  · apply MemKeepOut.ite
    · apply MemKeepOut.next
      apply MemKeep.trans (laneStep_mem ..)
      exact MemKeep.refl _
    · apply MemKeepOut.next
      exact MemKeep.refl _
  · apply MemKeepOut.next
    (apply MemKeep.touch (idleRx_touch ..); · decide)
    exact MemKeep.refl _

theorem execLaneSyncDrop_mem (lane : ℕ) (bits : ℕ) (errors : BitErrors) (s : State) :
    MemKeepOut s (execLaneSyncDrop lane bits errors s) := by
  unfold execLaneSyncDrop
  dsimp only
  split
  · apply MemKeepOut.ite
    · apply MemKeepOut.next
      apply MemKeep.trans (laneStep_mem ..)
      exact MemKeep.refl _
    · apply MemKeepOut.next
      exact MemKeep.refl _
  · apply MemKeepOut.next
    exact MemKeep.refl _

theorem execLanePrbsSync_mem (lane : ℕ) (inverted : Bool) (s : State) :
    MemKeepOut s (execLanePrbsSync lane inverted s) := by
  unfold execLanePrbsSync
  dsimp only
  split
  · apply MemKeepOut.ite
    · apply MemKeepOut.next
      apply MemKeep.trans (laneStep_mem ..)
      exact MemKeep.refl _
    · apply MemKeepOut.next
      exact MemKeep.refl _
  · apply MemKeepOut.next
    exact MemKeep.refl _

theorem execNoSync_mem (lane : ℕ) (s : State) :
    MemKeepOut s (execNoSync lane s) := by
  unfold execNoSync
  dsimp only
  split
  · apply MemKeepOut.ite
    · apply MemKeepOut.next
      apply MemKeep.trans (laneStep_mem ..)
      exact MemKeep.refl _
    · apply MemKeepOut.next
      exact MemKeep.refl _
  · apply MemKeepOut.next
    exact MemKeep.refl _

theorem finishTdc_mem (s : State) (slot : ℕ) (reason : Option ℕ) (extra : ℕ) :
    MemKeep s (finishTdc s slot reason extra) := by
  unfold finishTdc
  dsimp only
  (apply MemKeep.touch (endItem_touch ..); · decide)
  refine MemKeep.touch (Touch.set_tdcs (b := [.tdcs]) (by decide) (Touch.refl _ _)) (by decide) ?_
  apply MemKeep.ite
  · (apply MemKeep.touch (modQueue_touch ..); · decide)
    apply MemKeep.ite
    · apply MemKeep.trans (memWrite_mem ..)
      exact MemKeep.refl _
    · exact MemKeep.refl _
  · apply MemKeep.ite
    · apply MemKeep.trans (memWrite_mem ..)
      exact MemKeep.refl _
    · exact MemKeep.refl _

theorem endMeasurement_mem (s : State) (slot : ℕ) (t : ℕ) (k : ℕ) (a4 : ℤ) (a5 : ℤ) :
    MemKeep s (endMeasurement s slot t k a4 a5) := by
  unfold endMeasurement
  dsimp only
  apply MemKeep.ite
  · apply MemKeep.trans (finishTdc_mem ..)
    (apply MemKeep.touch (modSlot_touch ..); · decide)
    (apply MemKeep.touch (modTdc_touch ..); · decide)
    (apply MemKeep.touch (queueWrite_touch ..); · decide)
    exact MemKeep.refl _
  · (apply MemKeep.touch (modSlot_touch ..); · decide)
    (apply MemKeep.touch (modTdc_touch ..); · decide)
    (apply MemKeep.touch (queueWrite_touch ..); · decide)
    exact MemKeep.refl _

theorem execTdcEdge_mem (tdc : ℕ) (stop : Bool) (sampled : EdgeAt) (near : Bool) (s : State) :
    MemKeepOut s (execTdcEdge tdc stop sampled near s) := by
  unfold execTdcEdge
  dsimp only
  apply MemKeepOut.ite
  · apply MemKeepOut.next
    exact MemKeep.refl _
  · split
    · apply MemKeepOut.next
      (apply MemKeep.touch (modTdc_touch ..); · decide)
      exact MemKeep.refl _
    · apply MemKeepOut.next
      (apply MemKeep.touch (modTdc_touch ..); · decide)
      (apply MemKeep.touch (modTdc_touch ..); · decide)
      exact MemKeep.refl _
    · split
      · apply MemKeepOut.next
        apply MemKeep.trans (endMeasurement_mem ..)
        (apply MemKeep.touch (modTdc_touch ..); · decide)
        (apply MemKeep.touch (modTdc_touch ..); · decide)
        exact MemKeep.refl _
      · apply MemKeepOut.next
        (apply MemKeep.touch (modTdc_touch ..); · decide)
        (apply MemKeep.touch (modTdc_touch ..); · decide)
        exact MemKeep.refl _
    · apply MemKeepOut.next
      (apply MemKeep.touch (modTdc_touch ..); · decide)
      exact MemKeep.refl _

theorem writeBack_mem (s : State) (c : ℕ) :
    MemKeep s (writeBack s c) := by
  unfold writeBack
  dsimp only
  apply MemKeep.trans (memWrite_mem ..)
  (apply MemKeep.touch (modDma_touch ..); · decide)
  apply MemKeep.ite
  · (apply MemKeep.touch (modQueue_touch ..); · decide)
    exact MemKeep.refl _
  · exact MemKeep.refl _

theorem settleDma_mem (s : State) (c : ℕ) :
    MemKeep s (settleDma s c) := by
  unfold settleDma
  dsimp only
  apply MemKeep.ite
  · exact MemKeep.refl _
  · apply MemKeep.ite
    · apply MemKeep.trans (writeBack_mem ..)
      apply MemKeep.ite
      · (apply MemKeep.touch (flushGather_touch ..); · decide)
        exact MemKeep.refl _
      · exact MemKeep.refl _
    · apply MemKeep.ite
      · (apply MemKeep.touch (flushGather_touch ..); · decide)
        exact MemKeep.refl _
      · exact MemKeep.refl _

theorem beatsAnswered_mem (s : State) (c : ℕ) (off : ℕ) (n : ℕ) (status : ℕ) :
    MemKeep s (beatsAnswered s c off n status) := by
  unfold beatsAnswered
  dsimp only
  apply MemKeep.trans (settleDma_mem ..)
  apply MemKeep.ite
  · (apply MemKeep.touch (modDma_touch ..); · decide)
    exact MemKeep.refl _
  · (apply MemKeep.touch (failDma_touch ..); · decide)
    (apply MemKeep.touch (modDma_touch ..); · decide)
    exact MemKeep.refl _

theorem beginDesc_mem (s : State) (c : ℕ) (d : Dma) :
    MemKeep s (beginDesc s c d) := by
  unfold beginDesc
  dsimp only
  apply MemKeep.ite
  · apply MemKeep.trans (writeBack_mem ..)
    (apply MemKeep.touch (modDma_touch ..); · decide)
    exact MemKeep.refl _
  · apply MemKeep.trans (settleDma_mem ..)
    apply MemKeep.ite
    · (apply MemKeep.touch (modQueue_touch ..); · decide)
      (apply MemKeep.touch (modDma_touch ..); · decide)
      exact MemKeep.refl _
    · (apply MemKeep.touch (modDma_touch ..); · decide)
      exact MemKeep.refl _

theorem writebackAnswered_mem (s : State) (c : ℕ) (status : ℕ) :
    MemKeep s (writebackAnswered s c status) := by
  unfold writebackAnswered
  dsimp only
  apply MemKeep.ite
  · (apply MemKeep.touch (finishTransfer_touch ..); · decide)
    (apply MemKeep.touch (rewindSource_touch ..); · decide)
    exact MemKeep.refl _
  · (apply MemKeep.touch (descDone_touch ..); · decide)
    apply MemKeep.trans (memWrite_mem ..)
    exact MemKeep.refl _

theorem localBeat_mem (s : State) (c : ℕ) (a2 : ℕ) (off : ℕ) (bs : List Byte) :
    MemKeep s (localBeat s c a2 off bs) := by
  unfold localBeat
  dsimp only
  split
  · apply MemKeep.ite
    · apply MemKeep.trans (writeLocal_mem ..)
      (apply MemKeep.touch (modDma_touch ..); · decide)
      (apply MemKeep.touch (flushGather_touch ..); · decide)
      exact MemKeep.refl _
    · (apply MemKeep.touch (modDma_touch ..); · decide)
      (apply MemKeep.touch (flushGather_touch ..); · decide)
      exact MemKeep.refl _
  · (apply MemKeep.touch (modDma_touch ..); · decide)
    (apply MemKeep.touch (flushGather_touch ..); · decide)
    exact MemKeep.refl _

theorem execDmaWritebackAck_mem (ch : ℕ) (status : ℕ) (s : State) :
    MemKeepOut s (execDmaWritebackAck ch status s) := by
  unfold execDmaWritebackAck
  dsimp only
  apply MemKeepOut.ite
  · apply MemKeepOut.next
    apply MemKeep.trans (writebackAnswered_mem ..)
    refine MemKeep.touch (Touch.set_fabric (b := [.fabric]) (by decide) (Touch.refl _ _)) (by decide) ?_
    exact MemKeep.refl _
  · apply MemKeepOut.next
    exact MemKeep.refl _

theorem issueBeats_mem (a0 : ℕ) (s : State) (a2 : ℕ) (a3 : ℕ) (a4 : List Byte) :
    MemKeep s (issueBeats a0 s a2 a3 a4) := by
  induction a0 generalizing s a2 a3 a4 with
  | zero =>
    unfold issueBeats
    exact MemKeep.refl _
  | succ n ih =>
    unfold issueBeats
    dsimp only
    apply MemKeep.ite
    · exact MemKeep.refl _
    · apply MemKeep.trans (ih ..)
      apply MemKeep.ite
      · apply MemKeep.trans (localBeat_mem ..)
        (apply MemKeep.touch (modDma_touch ..); · decide)
        exact MemKeep.refl _
      · (apply MemKeep.touch (gatherBeats_touch ..); · decide)
        (apply MemKeep.touch (modDma_touch ..); · decide)
        exact MemKeep.refl _

theorem burstArrives_mem (s : State) (c : ℕ) (off : ℕ) (n : ℕ) (status : ℕ) (rem : Remote) :
    MemKeep s (burstArrives s c off n status rem) := by
  unfold burstArrives
  dsimp only
  apply MemKeep.ite
  · apply MemKeep.trans (settleDma_mem ..)
    (apply MemKeep.touch (modDma_touch ..); · decide)
    refine MemKeep.touch (Touch.set_bufFree (b := [.bufFree]) (by decide) (Touch.refl _ _)) (by decide) ?_
    exact MemKeep.refl _
  · apply MemKeep.ite
    · apply MemKeep.trans (settleDma_mem ..)
      apply MemKeep.trans (issueBeats_mem ..)
      apply MemKeep.ite
      · refine MemKeep.touch (Touch.set_bufFree (b := [.bufFree]) (by decide) (Touch.refl _ _)) (by decide) ?_
        (apply MemKeep.touch (modDma_touch ..); · decide)
        (apply MemKeep.touch (modDma_touch ..); · decide)
        (apply MemKeep.touch (modQueue_touch ..); · decide)
        (apply MemKeep.touch (modDma_touch ..); · decide)
        refine MemKeep.touch (Touch.set_bufFree (b := [.bufFree]) (by decide) (Touch.refl _ _)) (by decide) ?_
        exact MemKeep.refl _
      · (apply MemKeep.touch (modDma_touch ..); · decide)
        (apply MemKeep.touch (modQueue_touch ..); · decide)
        (apply MemKeep.touch (modDma_touch ..); · decide)
        refine MemKeep.touch (Touch.set_bufFree (b := [.bufFree]) (by decide) (Touch.refl _ _)) (by decide) ?_
        exact MemKeep.refl _
    · split
      · apply MemKeep.trans (settleDma_mem ..)
        (apply MemKeep.touch (failDma_touch ..); · decide)
        (apply MemKeep.touch (modDma_touch ..); · decide)
        refine MemKeep.touch (Touch.set_bufFree (b := [.bufFree]) (by decide) (Touch.refl _ _)) (by decide) ?_
        exact MemKeep.refl _
      · apply MemKeep.trans (settleDma_mem ..)
        apply MemKeep.trans (issueBeats_mem ..)
        (apply MemKeep.touch (modDma_touch ..); · decide)
        refine MemKeep.touch (Touch.set_bufFree (b := [.bufFree]) (by decide) (Touch.refl _ _)) (by decide) ?_
        exact MemKeep.refl _

theorem execDmaReadResponse_mem (ch : ℕ) (status : ℕ) (rem : Remote) (s : State) :
    MemKeepOut s (execDmaReadResponse ch status rem s) := by
  unfold execDmaReadResponse
  dsimp only
  split
  · apply MemKeepOut.ite
    · apply MemKeepOut.next
      apply MemKeep.trans (burstArrives_mem ..)
      exact MemKeep.refl _
    · apply MemKeepOut.next
      apply MemKeep.trans (burstArrives_mem ..)
      (apply MemKeep.touch (settleOutst_touch ..); · decide)
      exact MemKeep.refl _
  · apply MemKeepOut.next
    exact MemKeep.refl _

theorem execDmaWriteResponse_mem (ch : ℕ) (status : ℕ) (s : State) :
    MemKeepOut s (execDmaWriteResponse ch status s) := by
  unfold execDmaWriteResponse
  dsimp only
  split
  · apply MemKeepOut.ite
    · apply MemKeepOut.next
      apply MemKeep.trans (beatsAnswered_mem ..)
      exact MemKeep.refl _
    · apply MemKeepOut.next
      apply MemKeep.trans (beatsAnswered_mem ..)
      (apply MemKeep.touch (settleOutst_touch ..); · decide)
      exact MemKeep.refl _
  · apply MemKeepOut.next
    exact MemKeep.refl _

theorem descArrives_mem (s : State) (c : ℕ) (status : ℕ) (rem : Remote) :
    MemKeepOut s (descArrives s c status rem) := by
  unfold descArrives
  dsimp only
  apply MemKeepOut.ite
  · apply MemKeepOut.next
    exact MemKeep.refl _
  · split
    · apply MemKeepOut.next
      (apply MemKeep.touch (finishTransfer_touch ..); · decide)
      exact MemKeep.refl _
    · apply MemKeepOut.ite
      · apply MemKeepOut.next
        (apply MemKeep.touch (finishTransfer_touch ..); · decide)
        exact MemKeep.refl _
      · split
        · apply MemKeepOut.fault
        · apply MemKeepOut.next
          apply MemKeep.trans (beginDesc_mem ..)
          exact MemKeep.refl _

theorem execDmaDescriptorFetched_mem (ch : ℕ) (status : ℕ) (rem : Remote) (s : State) :
    MemKeepOut s (execDmaDescriptorFetched ch status rem s) := by
  unfold execDmaDescriptorFetched
  apply MemKeepOut.ite
  · apply MemKeepOut.trans (descArrives_mem ..)
    (apply MemKeep.touch (settleOutst_touch ..); · decide)
    exact MemKeep.refl _
  · apply MemKeepOut.next
    exact MemKeep.refl _

theorem changeClock_mem (s : State) (f : State → State)
    (h : ∀ t0, MemKeep t0 (f t0)) :
    MemKeep s (changeClock s f) := by
  unfold changeClock
  dsimp only
  apply MemKeep.ite
  · apply MemKeep.trans (h ..)
    exact MemKeep.refl _
  · (apply MemKeep.touch (deviceNotice_touch ..); · decide)
    apply MemKeep.ite
    · apply MemKeep.trans (h ..)
      exact MemKeep.refl _
    · refine MemKeep.touch (Touch.set_hw (b := [.hw]) (by decide) (Touch.refl _ _)) (by decide) ?_
      apply MemKeep.trans (h ..)
      exact MemKeep.refl _

theorem endNow_mem (s : State) (slot : ℕ) (reason : ℕ) (extra : ℕ) (rest : ℕ → Rest) (dst : UState) :
    MemKeep s (endNow s slot reason extra rest dst) := by
  unfold endNow
  dsimp only
  split
  · apply MemKeep.trans (finishBurst_mem ..)
    exact MemKeep.refl _
  · apply MemKeep.ite
    · apply MemKeep.trans (stopMeasure_mem ..)
      exact MemKeep.refl _
    · (apply MemKeep.touch (endItem_touch ..); · decide)
      exact MemKeep.refl _
  · apply MemKeep.trans (finishTdc_mem ..)
    exact MemKeep.refl _
  · apply MemKeep.trans (finishAcquire_mem ..)
    exact MemKeep.refl _
  · (apply MemKeep.touch (cutTransfer_touch ..); · decide)
    exact MemKeep.refl _
  · (apply MemKeep.touch (failCal_touch ..); · decide)
    exact MemKeep.refl _
  · (apply MemKeep.touch (endItem_touch ..); · decide)
    exact MemKeep.refl _
  · apply MemKeep.ite
    · refine MemKeep.touch (Touch.set_dps (b := [.dps]) (by decide) (Touch.refl _ _)) (by decide) ?_
      (apply MemKeep.touch (finishDps_touch ..); · decide)
      exact MemKeep.refl _
    · (apply MemKeep.touch (finishDps_touch ..); · decide)
      exact MemKeep.refl _
  · apply MemKeep.trans (finishLane_mem ..)
    exact MemKeep.refl _
  · exact MemKeep.refl _

theorem endAway_mem (s : State) (slot : ℕ) (reason : ℕ) (extra : ℕ) (rest : ℕ → Rest) (dst : UState) :
    MemKeep s (endAway s slot reason extra rest dst) := by
  unfold endAway
  apply MemKeep.ite
  · apply MemKeep.trans (detachMeasure_mem ..)
    exact MemKeep.refl _
  · apply MemKeep.trans (endNow_mem ..)
    exact MemKeep.refl _

theorem safeItem_mem (s : State) (slot : ℕ) :
    MemKeep s (safeItem s slot) := by
  unfold safeItem
  dsimp only
  apply MemKeep.ite
  · (apply MemKeep.touch (endQueued_touch ..); · decide)
    exact MemKeep.refl _
  · apply MemKeep.ite
    · apply MemKeep.trans (endAway_mem ..)
      exact MemKeep.refl _
    · exact MemKeep.refl _

theorem faultBurst_mem (s : State) (a1 : ℕ) (slot : ℕ) :
    MemKeep s (faultBurst s a1 slot) := by
  unfold faultBurst
  dsimp only
  apply MemKeep.ite
  · apply MemKeep.trans (finishBurst_mem ..)
    (apply MemKeep.touch (modBurst_touch ..); · decide)
    exact MemKeep.refl _
  · apply MemKeep.trans (abortBurst_mem ..)
    (apply MemKeep.touch (modBurst_touch ..); · decide)
    exact MemKeep.refl _

theorem faultItem_mem (s : State) (a1 : ℕ) (slot : ℕ) :
    MemKeep s (faultItem s a1 slot) := by
  unfold faultItem
  dsimp only
  split
  · apply MemKeep.ite
    · apply MemKeep.trans (endNow_mem ..)
      exact MemKeep.refl _
    · (apply MemKeep.touch (askMeasure_touch ..); · decide)
      exact MemKeep.refl _
  · apply MemKeep.trans (faultBurst_mem ..)
    exact MemKeep.refl _
  · apply MemKeep.ite
    · (apply MemKeep.touch (failCal_touch ..); · decide)
      exact MemKeep.refl _
    · (apply MemKeep.touch (failCal_touch ..); · decide)
      apply MemKeep.ite
      · (apply MemKeep.touch (setUnit_touch ..); · decide)
        exact MemKeep.refl _
      · exact MemKeep.refl _
  · apply MemKeep.trans (endNow_mem ..)
    exact MemKeep.refl _

theorem settleMeasure_mem (s : State) :
    MemKeep s (settleMeasure s) := by
  unfold settleMeasure
  dsimp only
  apply MemKeep.ite
  · exact MemKeep.refl _
  · split
    · (apply MemKeep.touch (answerOwed_touch ..); · decide)
      apply MemKeep.foldl
      · refine MemKeep.touch (Touch.set_hw_fabric (b := [.hw, .fabric]) (by decide) (by decide) (Touch.refl _ _)) (by decide) ?_
        exact MemKeep.refl _
      · intro u v
        apply MemKeep.trans (memWrite_mem ..)
        exact MemKeep.refl _
    · refine MemKeep.touch (Touch.set_hw_fabric (b := [.hw, .fabric]) (by decide) (by decide) (Touch.refl _ _)) (by decide) ?_
      exact MemKeep.refl _

theorem closeFord_mem (s : State) :
    MemKeep s (closeFord s) := by
  unfold closeFord
  dsimp only
  apply MemKeep.ite
  · exact MemKeep.refl _
  · apply MemKeep.ite
    · (apply MemKeep.touch (answerOwed_touch ..); · decide)
      apply MemKeep.trans (settleMeasure_mem ..)
      apply MemKeep.foldl
      · refine MemKeep.touch (Touch.set_power (b := [.power]) (by decide) (Touch.refl _ _)) (by decide) ?_
        exact MemKeep.refl _
      · intro u v
        (apply MemKeep.touch (closePort_touch ..); · decide)
        exact MemKeep.refl _
    · apply MemKeep.trans (settleMeasure_mem ..)
      apply MemKeep.foldl
      · refine MemKeep.touch (Touch.set_power (b := [.power]) (by decide) (Touch.refl _ _)) (by decide) ?_
        exact MemKeep.refl _
      · intro u v
        (apply MemKeep.touch (closePort_touch ..); · decide)
        exact MemKeep.refl _

theorem bypassItem_mem (s : State) (slot : ℕ) :
    MemKeep s (bypassItem s slot) := by
  unfold bypassItem
  dsimp only
  apply MemKeep.ite
  · (apply MemKeep.touch (endQueued_touch ..); · decide)
    exact MemKeep.refl _
  · apply MemKeep.ite
    · (apply MemKeep.touch (modSlot_touch ..); · decide)
      (apply MemKeep.touch (markCause_touch ..); · decide)
      exact MemKeep.refl _
    · apply MemKeep.ite
      · apply MemKeep.trans (endAway_mem ..)
        exact MemKeep.refl _
      · exact MemKeep.refl _

theorem endForBypass_mem (s : State) :
    MemKeep s (endForBypass s) := by
  unfold endForBypass
  dsimp only
  (apply MemKeep.touch (refuseWaiting_touch ..); · decide)
  (apply MemKeep.touch (idleOutputs_touch ..); · decide)
  refine MemKeep.touch (Touch.set_dev (b := [.dev]) (by decide) (Touch.refl _ _)) (by decide) ?_
  apply MemKeep.foldl
  · refine MemKeep.touch (Touch.set_power_dev (b := [.power, .dev]) (by decide) (by decide) (Touch.refl _ _)) (by decide) ?_
    (apply MemKeep.touch (setMode_touch ..); · decide)
    exact MemKeep.refl _
  · intro u v
    apply MemKeep.trans (bypassItem_mem ..)
    exact MemKeep.refl _

theorem enterBypass_mem (s : State) :
    MemKeep s (enterBypass s) := by
  unfold enterBypass
  apply MemKeep.trans (endForBypass_mem ..)
  apply MemKeep.trans (closeFord_mem ..)
  exact MemKeep.refl _

theorem execItemTimeLimit_mem (slot : ℕ) (s : State) :
    MemKeepOut s (execItemTimeLimit slot s) := by
  unfold execItemTimeLimit
  dsimp only
  apply MemKeepOut.ite
  · split
    · apply MemKeepOut.next
      (apply MemKeep.touch (askMeasure_touch ..); · decide)
      exact MemKeep.refl _
    · apply MemKeepOut.next
      apply MemKeep.trans (finishTdc_mem ..)
      exact MemKeep.refl _
    · apply MemKeepOut.next
      apply MemKeep.trans (finishAcquire_mem ..)
      exact MemKeep.refl _
    · apply MemKeepOut.next
      apply MemKeep.trans (finishLane_mem ..)
      exact MemKeep.refl _
    · apply MemKeepOut.next
      exact MemKeep.refl _
  · apply MemKeepOut.next
    exact MemKeep.refl _

theorem clockItem_mem (s : State) (slot : ℕ) :
    MemKeep s (clockItem s slot) := by
  unfold clockItem
  dsimp only
  split
  · apply MemKeep.trans (finishBurst_mem ..)
    (apply MemKeep.touch (clockRecord_touch ..); · decide)
    exact MemKeep.refl _
  · apply MemKeep.ite
    · (apply MemKeep.touch (endItem_touch ..); · decide)
      exact MemKeep.refl _
    · exact MemKeep.refl _
  · (apply MemKeep.touch (modSlot_touch ..); · decide)
    exact MemKeep.refl _
  · (apply MemKeep.touch (modSlot_touch ..); · decide)
    exact MemKeep.refl _
  · exact MemKeep.refl _
  · (apply MemKeep.touch (failCal_touch ..); · decide)
    exact MemKeep.refl _
  · apply MemKeep.trans (endNow_mem ..)
    exact MemKeep.refl _

theorem enterSafe_mem (s : State) (cellar : Bool) :
    MemKeep s (enterSafe s cellar) := by
  unfold enterSafe
  dsimp only
  apply MemKeep.ite
  · apply MemKeep.ite
    · refine MemKeep.touch (Touch.set_levee (b := [.levee]) (by decide) (Touch.refl _ _)) (by decide) ?_
      exact MemKeep.refl _
    · exact MemKeep.refl _
  · (apply MemKeep.touch (refuseWaiting_touch ..); · decide)
    (apply MemKeep.touch (answerEvery_touch ..); · decide)
    (apply MemKeep.touch (unitsOffline_touch ..); · decide)
    apply MemKeep.trans (selfRefresh_mem ..)
    refine MemKeep.touch (Touch.set_resvs (b := [.resvs]) (by decide) (Touch.refl _ _)) (by decide) ?_
    apply MemKeep.foldl
    · apply MemKeep.ite
      · (apply MemKeep.touch (retireOwn_touch ..); · decide)
        (apply MemKeep.touch (postHeld_touch ..); · decide)
        apply MemKeep.foldl
        · refine MemKeep.touch (Touch.set_power_dev_mbs_levee_svc (b := [.power, .dev, .mbs, .levee, .svc]) (by decide) (by decide) (by decide) (by decide) (by decide) (Touch.refl _ _)) (by decide) ?_
          (apply MemKeep.touch (setMode_touch ..); · decide)
          (apply MemKeep.touch (safeOutputs_touch ..); · decide)
          apply MemKeep.ite
          · refine MemKeep.touch (Touch.set_levee (b := [.levee]) (by decide) (Touch.refl _ _)) (by decide) ?_
            exact MemKeep.refl _
          · exact MemKeep.refl _
        · intro u v
          (apply MemKeep.touch (flushOwed_touch ..); · decide)
          exact MemKeep.refl _
      · refine MemKeep.touch (Touch.set_power_dev_mbs_levee_svc (b := [.power, .dev, .mbs, .levee, .svc]) (by decide) (by decide) (by decide) (by decide) (by decide) (Touch.refl _ _)) (by decide) ?_
        (apply MemKeep.touch (setMode_touch ..); · decide)
        (apply MemKeep.touch (safeOutputs_touch ..); · decide)
        apply MemKeep.ite
        · refine MemKeep.touch (Touch.set_levee (b := [.levee]) (by decide) (Touch.refl _ _)) (by decide) ?_
          exact MemKeep.refl _
        · exact MemKeep.refl _
    · intro u v
      apply MemKeep.trans (safeItem_mem ..)
      exact MemKeep.refl _

theorem settleBypass_mem (s : State) :
    MemKeep s (settleBypass s) := by
  unfold settleBypass
  apply MemKeep.ite
  · apply MemKeep.trans (enterBypass_mem ..)
    exact MemKeep.refl _
  · exact MemKeep.refl _

theorem containUnit_mem (s : State) (a1 : ℕ) :
    MemKeep s (containUnit s a1) := by
  unfold containUnit
  dsimp only
  (apply MemKeep.touch (settleCal_touch ..); · decide)
  (apply MemKeep.touch (refuseMaintain_touch ..); · decide)
  (apply MemKeep.touch (unitSafeState_touch ..); · decide)
  (apply MemKeep.touch (modUnit_touch ..); · decide)
  (apply MemKeep.touch (setUnit_touch ..); · decide)
  apply MemKeep.foldl
  · (apply MemKeep.touch (stopAdrift_touch ..); · decide)
    (apply MemKeep.touch (unitSafeState_touch ..); · decide)
    exact MemKeep.refl _
  · intro u v
    apply MemKeep.ite
    · apply MemKeep.trans (faultItem_mem ..)
      exact MemKeep.refl _
    · exact MemKeep.refl _

theorem abortItem_mem (s : State) (slot : ℕ) :
    MemKeep s (abortItem s slot) := by
  unfold abortItem
  dsimp only
  apply MemKeep.ite
  · (apply MemKeep.touch (endQueued_touch ..); · decide)
    exact MemKeep.refl _
  · split
    · apply MemKeep.trans (abortBurst_mem ..)
      exact MemKeep.refl _
    · (apply MemKeep.touch (askMeasure_touch ..); · decide)
      exact MemKeep.refl _
    · (apply MemKeep.touch (markCause_touch ..); · decide)
      exact MemKeep.refl _
    · (apply MemKeep.touch (abortDps_touch ..); · decide)
      exact MemKeep.refl _
    · (apply MemKeep.touch (failCal_touch ..); · decide)
      exact MemKeep.refl _
    · apply MemKeep.trans (endNow_mem ..)
      exact MemKeep.refl _

theorem ledgerError_mem (s : State) (slot : ℕ) :
    MemKeep s (ledgerError s slot) := by
  unfold ledgerError
  dsimp only
  apply MemKeep.ite
  · exact MemKeep.refl _
  · apply MemKeep.ite
    · (apply MemKeep.touch (retireSlot_touch ..); · decide)
      (apply MemKeep.touch (modSlot_touch ..); · decide)
      apply MemKeep.ite
      · (apply MemKeep.touch (endItem_touch ..); · decide)
        (apply MemKeep.touch (modSlot_touch ..); · decide)
        apply MemKeep.ite
        · (apply MemKeep.touch (modUnit_touch ..); · decide)
          exact MemKeep.refl _
        · exact MemKeep.refl _
      · apply MemKeep.ite
        · apply MemKeep.trans (endNow_mem ..)
          (apply MemKeep.touch (modSlot_touch ..); · decide)
          apply MemKeep.ite
          · (apply MemKeep.touch (modUnit_touch ..); · decide)
            exact MemKeep.refl _
          · exact MemKeep.refl _
        · (apply MemKeep.touch (modSlot_touch ..); · decide)
          apply MemKeep.ite
          · (apply MemKeep.touch (modUnit_touch ..); · decide)
            exact MemKeep.refl _
          · exact MemKeep.refl _
    · apply MemKeep.ite
      · (apply MemKeep.touch (notice_touch ..); · decide)
        (apply MemKeep.touch (modSlot_touch ..); · decide)
        apply MemKeep.ite
        · (apply MemKeep.touch (endItem_touch ..); · decide)
          (apply MemKeep.touch (modSlot_touch ..); · decide)
          apply MemKeep.ite
          · (apply MemKeep.touch (modUnit_touch ..); · decide)
            exact MemKeep.refl _
          · exact MemKeep.refl _
        · apply MemKeep.ite
          · apply MemKeep.trans (endNow_mem ..)
            (apply MemKeep.touch (modSlot_touch ..); · decide)
            apply MemKeep.ite
            · (apply MemKeep.touch (modUnit_touch ..); · decide)
              exact MemKeep.refl _
            · exact MemKeep.refl _
          · (apply MemKeep.touch (modSlot_touch ..); · decide)
            apply MemKeep.ite
            · (apply MemKeep.touch (modUnit_touch ..); · decide)
              exact MemKeep.refl _
            · exact MemKeep.refl _
      · (apply MemKeep.touch (modSlot_touch ..); · decide)
        apply MemKeep.ite
        · (apply MemKeep.touch (endItem_touch ..); · decide)
          (apply MemKeep.touch (modSlot_touch ..); · decide)
          apply MemKeep.ite
          · (apply MemKeep.touch (modUnit_touch ..); · decide)
            exact MemKeep.refl _
          · exact MemKeep.refl _
        · apply MemKeep.ite
          · apply MemKeep.trans (endNow_mem ..)
            (apply MemKeep.touch (modSlot_touch ..); · decide)
            apply MemKeep.ite
            · (apply MemKeep.touch (modUnit_touch ..); · decide)
              exact MemKeep.refl _
            · exact MemKeep.refl _
          · (apply MemKeep.touch (modSlot_touch ..); · decide)
            apply MemKeep.ite
            · (apply MemKeep.touch (modUnit_touch ..); · decide)
              exact MemKeep.refl _
            · exact MemKeep.refl _

theorem memoryError_mem (s : State) (page : ℕ) (uncorr : Bool) :
    MemKeep s (memoryError s page uncorr) := by
  unfold memoryError
  dsimp only
  split
  · apply MemKeep.ite
    · (apply MemKeep.touch (cutTransfer_touch ..); · decide)
      (apply MemKeep.touch (takeFree_touch ..); · decide)
      split
      · (apply MemKeep.touch (takeFree_touch ..); · decide)
        exact MemKeep.refl _
      · apply MemKeep.ite
        · refine MemKeep.touch (Touch.set_levee (b := [.levee]) (by decide) (Touch.refl _ _)) (by decide) ?_
          (apply MemKeep.touch (takeFree_touch ..); · decide)
          exact MemKeep.refl _
        · (apply MemKeep.touch (takeFree_touch ..); · decide)
          exact MemKeep.refl _
    · apply MemKeep.trans (abortBurst_mem ..)
      (apply MemKeep.touch (takeFree_touch ..); · decide)
      split
      · (apply MemKeep.touch (takeFree_touch ..); · decide)
        exact MemKeep.refl _
      · apply MemKeep.ite
        · refine MemKeep.touch (Touch.set_levee (b := [.levee]) (by decide) (Touch.refl _ _)) (by decide) ?_
          (apply MemKeep.touch (takeFree_touch ..); · decide)
          exact MemKeep.refl _
        · (apply MemKeep.touch (takeFree_touch ..); · decide)
          exact MemKeep.refl _
  · (apply MemKeep.touch (takeFree_touch ..); · decide)
    split
    · (apply MemKeep.touch (takeFree_touch ..); · decide)
      exact MemKeep.refl _
    · apply MemKeep.ite
      · refine MemKeep.touch (Touch.set_levee (b := [.levee]) (by decide) (Touch.refl _ _)) (by decide) ?_
        (apply MemKeep.touch (takeFree_touch ..); · decide)
        exact MemKeep.refl _
      · (apply MemKeep.touch (takeFree_touch ..); · decide)
        exact MemKeep.refl _

theorem cacheError_mem (s : State) :
    MemKeep s (cacheError s) := by
  unfold cacheError
  dsimp only
  apply MemKeep.foldl
  · exact MemKeep.refl _
  · intro u v
    split
    · (apply MemKeep.touch (takeFree_touch ..); · decide)
      exact MemKeep.refl _
    · apply MemKeep.ite
      · apply MemKeep.trans (abortBurst_mem ..)
        (apply MemKeep.touch (modBurst_touch ..); · decide)
        (apply MemKeep.touch (takeFree_touch ..); · decide)
        exact MemKeep.refl _
      · (apply MemKeep.touch (takeFree_touch ..); · decide)
        exact MemKeep.refl _

theorem portDown_mem (s : State) (p : ℕ) :
    MemKeep s (portDown s p) := by
  unfold portDown
  apply MemKeep.ite
  · exact MemKeep.refl _
  · (apply MemKeep.touch (settleCopies_touch ..); · decide)
    apply MemKeep.trans (settleMeasure_mem ..)
    (apply MemKeep.touch (reroute_touch ..); · decide)
    (apply MemKeep.touch (changePort_touch ..); · decide)
    exact MemKeep.refl _

theorem resetQueue_mem (s : State) (q : ℕ) :
    MemKeep s (resetQueue s q) := by
  unfold resetQueue
  dsimp only
  apply MemKeep.foldl
  · apply MemKeep.foldl
    · (apply MemKeep.touch (modQueue_touch ..); · decide)
      exact MemKeep.refl _
    · intro u v
      apply MemKeep.trans (settleDma_mem ..)
      (apply MemKeep.touch (failDma_touch ..); · decide)
      exact MemKeep.refl _
  · intro u v
    apply MemKeep.ite
    · apply MemKeep.trans (abortBurst_mem ..)
      exact MemKeep.refl _
    · apply MemKeep.trans (endNow_mem ..)
      exact MemKeep.refl _

theorem reactContained_mem (s : State) (e : Event) :
    MemKeep s (reactContained s e) := by
  unfold reactContained
  dsimp only
  apply MemKeep.ite
  · apply MemKeep.trans (containUnit_mem ..)
    exact MemKeep.refl _
  · apply MemKeep.ite
    · apply MemKeep.trans (portDown_mem ..)
      exact MemKeep.refl _
    · apply MemKeep.ite
      · apply MemKeep.trans (resetQueue_mem ..)
        exact MemKeep.refl _
      · apply MemKeep.ite
        · apply MemKeep.trans (ledgerError_mem ..)
          exact MemKeep.refl _
        · apply MemKeep.ite
          · apply MemKeep.trans (memoryError_mem ..)
            exact MemKeep.refl _
          · apply MemKeep.ite
            · apply MemKeep.trans (cacheError_mem ..)
              exact MemKeep.refl _
            · apply MemKeep.ite
              · (apply MemKeep.touch (bufferError_touch ..); · decide)
                exact MemKeep.refl _
              · apply MemKeep.ite
                · (apply MemKeep.touch (referenceError_touch ..); · decide)
                  exact MemKeep.refl _
                · exact MemKeep.refl _

theorem raise_mem (s : State) (e : Event) :
    MemKeep s (raise s e) := by
  unfold raise
  dsimp only
  split
  · (apply MemKeep.touch (repeatRecord_touch ..); · decide)
    exact MemKeep.refl _
  · apply MemKeep.ite
    · apply MemKeep.trans (enterSafe_mem ..)
      (apply MemKeep.touch (logEvent_touch ..); · decide)
      apply MemKeep.ite
      · refine MemKeep.touch (Touch.set_levee (b := [.levee]) (by decide) (Touch.refl _ _)) (by decide) ?_
        exact MemKeep.refl _
      · exact MemKeep.refl _
    · apply MemKeep.ite
      · apply MemKeep.trans (settleBypass_mem ..)
        apply MemKeep.trans (reactContained_mem ..)
        (apply MemKeep.touch (logEvent_touch ..); · decide)
        apply MemKeep.ite
        · refine MemKeep.touch (Touch.set_levee (b := [.levee]) (by decide) (Touch.refl _ _)) (by decide) ?_
          exact MemKeep.refl _
        · exact MemKeep.refl _
      · (apply MemKeep.touch (logEvent_touch ..); · decide)
        apply MemKeep.ite
        · refine MemKeep.touch (Touch.set_levee (b := [.levee]) (by decide) (Touch.refl _ _)) (by decide) ?_
          exact MemKeep.refl _
        · exact MemKeep.refl _

theorem writeCtrl_mem (s : State) (value : Word) :
    MemKeep s (writeCtrl s value) := by
  unfold writeCtrl
  dsimp only
  apply MemKeep.trans (raise_mem ..)
  refine MemKeep.touch (Touch.set_levee (b := [.levee]) (by decide) (Touch.refl _ _)) (by decide) ?_
  exact MemKeep.refl _

theorem detect_mem (s : State) (det : ℕ) (region : ℕ) (detail : ℕ) (read : ℕ) (uncorr : Bool) (spabry : Bool) (ns : ℕ) :
    MemKeep s (detect s det region detail read uncorr spabry ns) := by
  unfold detect
  dsimp only
  split
  · apply MemKeep.ite
    · apply MemKeep.foldl
      · apply MemKeep.ite
        · refine MemKeep.touch (Touch.set_levee (b := [.levee]) (by decide) (Touch.refl _ _)) (by decide) ?_
          exact MemKeep.refl _
        · exact MemKeep.refl _
      · intro u v
        apply MemKeep.trans (raise_mem ..)
        exact MemKeep.refl _
    · exact MemKeep.refl _
  · exact MemKeep.refl _

theorem detectOwn_mem (s : State) (det : ℕ) (region : ℕ) (detail : ℕ) (spabry : Bool) :
    MemKeep s (detectOwn s det region detail spabry) := by
  unfold detectOwn
  dsimp only
  apply MemKeep.trans (detect_mem ..)
  (apply MemKeep.touch (takeFree_touch ..); · decide)
  exact MemKeep.refl _

theorem execDpsOverload_mem (s : State) :
    MemKeepOut s (execDpsOverload s) := by
  unfold execDpsOverload
  dsimp only
  apply MemKeepOut.ite
  · apply MemKeepOut.next
    exact MemKeep.refl _
  · apply MemKeepOut.next
    apply MemKeep.trans (detectOwn_mem ..)
    (apply MemKeep.touch (putDps_touch ..); · decide)
    (apply MemKeep.touch (outputNow_touch ..); · decide)
    (apply MemKeep.touch (takeFree_touch ..); · decide)
    exact MemKeep.refl _

theorem execLeveeDetection_mem (detector : BitVec 16) (region : BitVec 16) (detail : Detail) (uncorrectable : Bool) (reactionNs : ℕ) (s : State) :
    MemKeepOut s (execLeveeDetection detector region detail uncorrectable reactionNs s) := by
  unfold execLeveeDetection
  apply MemKeepOut.ite
  · apply MemKeepOut.next
    exact MemKeep.refl _
  · apply MemKeepOut.next
    apply MemKeep.trans (detect_mem ..)
    exact MemKeep.refl _

theorem execLeveeCtrlWrite_mem (value : Word) (s : State) :
    MemKeepOut s (execLeveeCtrlWrite value s) := by
  unfold execLeveeCtrlWrite
  apply MemKeepOut.ite
  · apply MemKeepOut.next
    exact MemKeep.refl _
  · apply MemKeepOut.next
    apply MemKeep.trans (writeCtrl_mem ..)
    exact MemKeep.refl _

theorem execWatchdog_mem (which : Dog) (s : State) :
    MemKeepOut s (execWatchdog which s) := by
  unfold execWatchdog
  dsimp only
  split
  · apply MemKeepOut.ite
    · apply MemKeepOut.next
      apply MemKeep.trans (detectOwn_mem ..)
      refine MemKeep.touch (Touch.set_levee (b := [.levee]) (by decide) (Touch.refl _ _)) (by decide) ?_
      exact MemKeep.refl _
    · apply MemKeepOut.next
      exact MemKeep.refl _
  · apply MemKeepOut.ite
    · apply MemKeepOut.next
      apply MemKeep.trans (detectOwn_mem ..)
      refine MemKeep.touch (Touch.set_levee (b := [.levee]) (by decide) (Touch.refl _ _)) (by decide) ?_
      exact MemKeep.refl _
    · apply MemKeepOut.next
      exact MemKeep.refl _
  · apply MemKeepOut.ite
    · apply MemKeepOut.next
      apply MemKeep.trans (detectOwn_mem ..)
      refine MemKeep.touch (Touch.set_levee (b := [.levee]) (by decide) (Touch.refl _ _)) (by decide) ?_
      exact MemKeep.refl _
    · apply MemKeepOut.next
      exact MemKeep.refl _

theorem calFails_mem (s : State) (slot : ℕ) (c : ℕ) :
    MemKeep s (calFails s slot c) := by
  unfold calFails
  dsimp only
  apply MemKeep.trans (detectOwn_mem ..)
  (apply MemKeep.touch (modUnit_touch ..); · decide)
  (apply MemKeep.touch (failCal_touch ..); · decide)
  exact MemKeep.refl _

theorem execCalClassDone_mem (result : CalResult) (s : State) :
    MemKeepOut s (execCalClassDone result s) := by
  unfold execCalClassDone
  dsimp only
  split
  · split
    · apply MemKeepOut.next
      apply MemKeep.trans (settleBypass_mem ..)
      apply MemKeep.trans (calFails_mem ..)
      exact MemKeep.refl _
    · apply MemKeepOut.ite
      · apply MemKeepOut.next
        apply MemKeep.trans (settleBypass_mem ..)
        apply MemKeep.trans (calFails_mem ..)
        exact MemKeep.refl _
      · apply MemKeepOut.ite
        · apply MemKeepOut.next
          apply MemKeep.trans (settleBypass_mem ..)
          (apply MemKeep.touch (completeCal_touch ..); · decide)
          (apply MemKeep.touch (modSlot_touch ..); · decide)
          refine MemKeep.touch (Touch.set_press (b := [.press]) (by decide) (Touch.refl _ _)) (by decide) ?_
          exact MemKeep.refl _
        · apply MemKeepOut.next
          (apply MemKeep.touch (modSlot_touch ..); · decide)
          refine MemKeep.touch (Touch.set_press (b := [.press]) (by decide) (Touch.refl _ _)) (by decide) ?_
          exact MemKeep.refl _
  · apply MemKeepOut.next
    exact MemKeep.refl _

theorem execCalDispatch_mem (slot : ℕ) (s : State) :
    MemKeepOut s (execCalDispatch slot s) := by
  unfold execCalDispatch
  dsimp only
  apply MemKeepOut.ite
  · apply MemKeepOut.ite
    · apply MemKeepOut.next
      apply MemKeep.trans (settleBypass_mem ..)
      apply MemKeep.trans (calFails_mem ..)
      (apply MemKeep.touch (takeItem_touch ..); · decide)
      exact MemKeep.refl _
    · apply MemKeepOut.next
      exact MemKeep.refl _
  · apply MemKeepOut.ite
    · apply MemKeepOut.ite
      · apply MemKeepOut.next
        (apply MemKeep.touch (endItem_touch ..); · decide)
        apply MemKeep.ite
        · (apply MemKeep.touch (modUnit_touch ..); · decide)
          (apply MemKeep.touch (releaseOwn_touch ..); · decide)
          (apply MemKeep.touch (takeItem_touch ..); · decide)
          exact MemKeep.refl _
        · (apply MemKeep.touch (takeItem_touch ..); · decide)
          exact MemKeep.refl _
      · apply MemKeepOut.next
        refine MemKeep.touch (Touch.set_press (b := [.press]) (by decide) (Touch.refl _ _)) (by decide) ?_
        apply MemKeep.foldl
        · (apply MemKeep.touch (takeItem_touch ..); · decide)
          exact MemKeep.refl _
        · intro u v
          (apply MemKeep.touch (takeUnit_touch ..); · decide)
          exact MemKeep.refl _
    · apply MemKeepOut.next
      exact MemKeep.refl _

theorem execRefLossDetected_mem (cause : LossCause) (s : State) :
    MemKeepOut s (execRefLossDetected cause s) := by
  unfold execRefLossDetected
  dsimp only
  apply MemKeepOut.ite
  · apply MemKeepOut.next
    exact MemKeep.refl _
  · apply MemKeepOut.ite
    · apply MemKeepOut.next
      apply MemKeep.trans (settleBypass_mem ..)
      (apply MemKeep.touch (settleCal_touch ..); · decide)
      (apply MemKeep.touch (retrainPorts_touch ..); · decide)
      apply MemKeep.foldl
      · (apply MemKeep.touch (clockPins_touch ..); · decide)
        refine MemKeep.touch (Touch.set_lanes (b := [.lanes]) (by decide) (Touch.refl _ _)) (by decide) ?_
        (apply MemKeep.touch (clockUnits_touch ..); · decide)
        apply MemKeep.trans (raise_mem ..)
        (apply MemKeep.touch (bootNoRef_touch ..); · decide)
        refine MemKeep.trans (changeClock_mem (h := ?_) ..) ?_
        · intro t0
          (apply MemKeep.touch (loseClock_touch ..); · decide)
          refine MemKeep.touch (Touch.set_clock (b := [.clock]) (by decide) (Touch.refl _ _)) (by decide) ?_
          exact MemKeep.refl _
        · exact MemKeep.refl _
      · intro u v
        apply MemKeep.ite
        · apply MemKeep.trans (clockItem_mem ..)
          exact MemKeep.refl _
        · exact MemKeep.refl _
    · apply MemKeepOut.ite
      · apply MemKeepOut.next
        exact MemKeep.refl _
      · apply MemKeepOut.next
        apply MemKeep.trans (raise_mem ..)
        (apply MemKeep.touch (bootNoRef_touch ..); · decide)
        refine MemKeep.trans (changeClock_mem (h := ?_) ..) ?_
        · intro t0
          (apply MemKeep.touch (loseRef_touch ..); · decide)
          exact MemKeep.refl _
        · exact MemKeep.refl _

theorem domainOff_mem (s : State) (d : ℕ) :
    MemKeep s (domainOff s d) := by
  unfold domainOff
  dsimp only
  apply MemKeep.ite
  · refine MemKeep.trans (changeClock_mem (h := ?_) ..) ?_
    · intro t0
      refine MemKeep.touch (Touch.set_clock (b := [.clock]) (by decide) (Touch.refl _ _)) (by decide) ?_
      exact MemKeep.refl _
    · (apply MemKeep.touch (clearLatches_touch ..); · decide)
      exact MemKeep.refl _
  · apply MemKeep.ite
    · refine MemKeep.trans (changeClock_mem (h := ?_) ..) ?_
      · intro t0
        refine MemKeep.touch (Touch.set_hw (b := [.hw]) (by decide) (Touch.refl _ _)) (by decide) ?_
        exact MemKeep.refl _
      · (apply MemKeep.touch (clearLatches_touch ..); · decide)
        exact MemKeep.refl _
    · apply MemKeep.ite
      · apply MemKeep.trans (closeFord_mem ..)
        (apply MemKeep.touch (clearLatches_touch ..); · decide)
        exact MemKeep.refl _
      · apply MemKeep.ite
        · (apply MemKeep.touch (lanesOff_touch ..); · decide)
          (apply MemKeep.touch (clearLatches_touch ..); · decide)
          exact MemKeep.refl _
        · apply MemKeep.ite
          · exact MemKeep.empty rfl
          · apply MemKeep.ite
            · refine MemKeep.touch (Touch.set_queues_dmas_bufFree (b := [.queues, .dmas, .bufFree]) (by decide) (by decide) (by decide) (Touch.refl _ _)) (by decide) ?_
              (apply MemKeep.touch (clearLatches_touch ..); · decide)
              exact MemKeep.refl _
            · apply MemKeep.ite
              · refine MemKeep.touch (Touch.set_acqs (b := [.acqs]) (by decide) (Touch.refl _ _)) (by decide) ?_
                (apply MemKeep.touch (clearLatches_touch ..); · decide)
                exact MemKeep.refl _
              · apply MemKeep.ite
                · refine MemKeep.touch (Touch.set_power (b := [.power]) (by decide) (Touch.refl _ _)) (by decide) ?_
                  (apply MemKeep.touch (clearLatches_touch ..); · decide)
                  exact MemKeep.refl _
                · split
                  · refine MemKeep.touch (Touch.set_dacs (b := [.dacs]) (by decide) (Touch.refl _ _)) (by decide) ?_
                    apply MemKeep.ite
                    · refine MemKeep.touch (Touch.set_chans (b := [.chans]) (by decide) (Touch.refl _ _)) (by decide) ?_
                      (apply MemKeep.touch (modUnit_touch ..); · decide)
                      (apply MemKeep.touch (unitSafeState_touch ..); · decide)
                      (apply MemKeep.touch (clearLatches_touch ..); · decide)
                      exact MemKeep.refl _
                    · (apply MemKeep.touch (modUnit_touch ..); · decide)
                      (apply MemKeep.touch (unitSafeState_touch ..); · decide)
                      (apply MemKeep.touch (clearLatches_touch ..); · decide)
                      exact MemKeep.refl _
                  · (apply MemKeep.touch (clearLatches_touch ..); · decide)
                    exact MemKeep.refl _

theorem execLpddrTrainingDone_mem (mib : ℕ) (s : State) :
    MemKeepOut s (execLpddrTrainingDone mib s) := by
  unfold execLpddrTrainingDone
  apply MemKeepOut.ite
  · apply MemKeepOut.next
    exact MemKeep.empty rfl
  · apply MemKeepOut.next
    exact MemKeep.refl _

theorem execDomainSwitchOpened_mem (pd : ℕ) (s : State) :
    MemKeepOut s (execDomainSwitchOpened pd s) := by
  unfold execDomainSwitchOpened
  dsimp only
  apply MemKeepOut.ite
  · split
    · apply MemKeepOut.next
      (apply MemKeep.touch (closeSwitches_touch ..); · decide)
      apply MemKeep.trans (domainOff_mem ..)
      refine MemKeep.touch (Touch.set_power (b := [.power]) (by decide) (Touch.refl _ _)) (by decide) ?_
      exact MemKeep.refl _
    · apply MemKeepOut.ite
      · apply MemKeepOut.next
        (apply MemKeep.touch (closeSwitches_touch ..); · decide)
        refine MemKeep.touch (Touch.set_power (b := [.power]) (by decide) (Touch.refl _ _)) (by decide) ?_
        apply MemKeep.trans (domainOff_mem ..)
        refine MemKeep.touch (Touch.set_power (b := [.power]) (by decide) (Touch.refl _ _)) (by decide) ?_
        exact MemKeep.refl _
      · apply MemKeepOut.next
        (apply MemKeep.touch (closeSwitches_touch ..); · decide)
        (apply MemKeep.touch (modUnit_touch ..); · decide)
        apply MemKeep.ite
        · (apply MemKeep.touch (setUnit_touch ..); · decide)
          apply MemKeep.trans (domainOff_mem ..)
          refine MemKeep.touch (Touch.set_power (b := [.power]) (by decide) (Touch.refl _ _)) (by decide) ?_
          exact MemKeep.refl _
        · apply MemKeep.trans (domainOff_mem ..)
          refine MemKeep.touch (Touch.set_power (b := [.power]) (by decide) (Touch.refl _ _)) (by decide) ?_
          exact MemKeep.refl _
  · apply MemKeepOut.next
    exact MemKeep.refl _

theorem domainReady_mem (s : State) (pd : ℕ) (balls : List (ℕ × ℤ)) :
    MemKeep s (domainReady s pd balls) := by
  unfold domainReady
  dsimp only
  apply MemKeep.trans (settleBypass_mem ..)
  (apply MemKeep.touch (settleCal_touch ..); · decide)
  (apply MemKeep.touch (closeSwitches_touch ..); · decide)
  (apply MemKeep.touch (domainOn_touch ..); · decide)
  refine MemKeep.touch (Touch.set_power (b := [.power]) (by decide) (Touch.refl _ _)) (by decide) ?_
  exact MemKeep.refl _

theorem warmHold_mem (s : State) (cause : ℕ) :
    MemKeep s (warmHold s cause) := by
  unfold warmHold
  exact MemKeep.empty rfl

theorem execWarmReset_mem (s : State) :
    MemKeepOut s (execWarmReset s) := by
  unfold execWarmReset
  apply MemKeepOut.ite
  · apply MemKeepOut.next
    exact MemKeep.refl _
  · apply MemKeepOut.next
    apply MemKeep.trans (warmHold_mem ..)
    exact MemKeep.refl _

theorem toBypass_mem (s : State) :
    MemKeep s (toBypass s) := by
  unfold toBypass
  apply MemKeep.ite
  · apply MemKeep.trans (enterBypass_mem ..)
    exact MemKeep.refl _
  · (apply MemKeep.touch (setMode_touch ..); · decide)
    apply MemKeep.trans (closeFord_mem ..)
    exact MemKeep.refl _

theorem execFordCloseNFall_mem (s : State) :
    MemKeepOut s (execFordCloseNFall s) := by
  unfold execFordCloseNFall
  dsimp only
  apply MemKeepOut.ite
  · apply MemKeepOut.next
    apply MemKeep.trans (closeFord_mem ..)
    refine MemKeep.touch (Touch.set_power (b := [.power]) (by decide) (Touch.refl _ _)) (by decide) ?_
    exact MemKeep.refl _
  · split
    · apply MemKeepOut.next
      apply MemKeep.trans (toBypass_mem ..)
      apply MemKeep.trans (closeFord_mem ..)
      refine MemKeep.touch (Touch.set_power (b := [.power]) (by decide) (Touch.refl _ _)) (by decide) ?_
      exact MemKeep.refl _
    · apply MemKeepOut.next
      apply MemKeep.trans (toBypass_mem ..)
      apply MemKeep.trans (closeFord_mem ..)
      refine MemKeep.touch (Touch.set_power (b := [.power]) (by decide) (Touch.refl _ _)) (by decide) ?_
      exact MemKeep.refl _
    · apply MemKeepOut.next
      apply MemKeep.trans (toBypass_mem ..)
      apply MemKeep.trans (closeFord_mem ..)
      refine MemKeep.touch (Touch.set_power (b := [.power]) (by decide) (Touch.refl _ _)) (by decide) ?_
      exact MemKeep.refl _
    · apply MemKeepOut.next
      apply MemKeep.trans (toBypass_mem ..)
      apply MemKeep.trans (closeFord_mem ..)
      refine MemKeep.touch (Touch.set_power (b := [.power]) (by decide) (Touch.refl _ _)) (by decide) ?_
      exact MemKeep.refl _
    · apply MemKeepOut.next
      apply MemKeep.trans (toBypass_mem ..)
      apply MemKeep.trans (closeFord_mem ..)
      refine MemKeep.touch (Touch.set_power (b := [.power]) (by decide) (Touch.refl _ _)) (by decide) ?_
      exact MemKeep.refl _
    · apply MemKeepOut.next
      apply MemKeep.trans (toBypass_mem ..)
      apply MemKeep.trans (closeFord_mem ..)
      refine MemKeep.touch (Touch.set_power (b := [.power]) (by decide) (Touch.refl _ _)) (by decide) ?_
      exact MemKeep.refl _
    · apply MemKeepOut.next
      apply MemKeep.trans (toBypass_mem ..)
      apply MemKeep.trans (closeFord_mem ..)
      refine MemKeep.touch (Touch.set_power (b := [.power]) (by decide) (Touch.refl _ _)) (by decide) ?_
      exact MemKeep.refl _
    · apply MemKeepOut.next
      refine MemKeep.touch (Touch.set_svc (b := [.svc]) (by decide) (Touch.refl _ _)) (by decide) ?_
      apply MemKeep.trans (closeFord_mem ..)
      refine MemKeep.touch (Touch.set_power (b := [.power]) (by decide) (Touch.refl _ _)) (by decide) ?_
      exact MemKeep.refl _
    · apply MemKeepOut.next
      (apply MemKeep.touch (bootFordFalls_touch ..); · decide)
      apply MemKeep.trans (closeFord_mem ..)
      refine MemKeep.touch (Touch.set_power (b := [.power]) (by decide) (Touch.refl _ _)) (by decide) ?_
      exact MemKeep.refl _
    · apply MemKeepOut.next
      apply MemKeep.trans (closeFord_mem ..)
      refine MemKeep.touch (Touch.set_power (b := [.power]) (by decide) (Touch.refl _ _)) (by decide) ?_
      exact MemKeep.refl _

theorem execPowerOnReset_mem (s : State) :
    MemKeepOut s (execPowerOnReset s) := by
  unfold execPowerOnReset
  apply MemKeepOut.next
  exact MemKeep.empty rfl

theorem execDomainReady_mem (pd : ℕ) (balls : List (ℕ × ℤ)) (s : State) :
    MemKeepOut s (execDomainReady pd balls s) := by
  unfold execDomainReady
  dsimp only
  apply MemKeepOut.ite
  · apply MemKeepOut.ite
    · apply MemKeepOut.next
      (apply MemKeep.touch (bootFord_touch ..); · decide)
      apply MemKeep.trans (domainReady_mem ..)
      exact MemKeep.refl _
    · apply MemKeepOut.next
      apply MemKeep.trans (domainReady_mem ..)
      exact MemKeep.refl _
  · apply MemKeepOut.next
    exact MemKeep.refl _

theorem execAdpllLockComplete_mem (s : State) :
    MemKeepOut s (execAdpllLockComplete s) := by
  unfold execAdpllLockComplete
  dsimp only
  apply MemKeepOut.ite
  · apply MemKeepOut.ite
    · apply MemKeepOut.next
      (apply MemKeep.touch (bootRails_touch ..); · decide)
      (apply MemKeep.touch (closeSwitches_touch ..); · decide)
      (apply MemKeep.touch (completeLock_touch ..); · decide)
      exact MemKeep.refl _
    · apply MemKeepOut.ite
      · apply MemKeepOut.next
        (apply MemKeep.touch (bootTrain_touch ..); · decide)
        (apply MemKeep.touch (closeSwitches_touch ..); · decide)
        (apply MemKeep.touch (completeLock_touch ..); · decide)
        exact MemKeep.refl _
      · apply MemKeepOut.next
        apply MemKeep.trans (settleBypass_mem ..)
        (apply MemKeep.touch (settleCal_touch ..); · decide)
        (apply MemKeep.touch (closeSwitches_touch ..); · decide)
        (apply MemKeep.touch (completeLock_touch ..); · decide)
        exact MemKeep.refl _
  · apply MemKeepOut.next
    exact MemKeep.refl _

theorem startCellar_mem (s : State) :
    MemKeep s (startCellar s) := by
  unfold startCellar
  dsimp only
  apply MemKeep.ite
  · apply MemKeep.trans (toBypass_mem ..)
    (apply MemKeep.touch (setMode_touch ..); · decide)
    refine MemKeep.touch (Touch.set_boot_levee (b := [.boot, .levee]) (by decide) (by decide) (Touch.refl _ _)) (by decide) ?_
    split
    · (apply MemKeep.touch (sendBootDone_touch ..); · decide)
      exact MemKeep.refl _
    · exact MemKeep.refl _
  · (apply MemKeep.touch (setMode_touch ..); · decide)
    refine MemKeep.touch (Touch.set_boot_levee (b := [.boot, .levee]) (by decide) (by decide) (Touch.refl _ _)) (by decide) ?_
    split
    · (apply MemKeep.touch (sendBootDone_touch ..); · decide)
      exact MemKeep.refl _
    · exact MemKeep.refl _

theorem execBootDigestDone_mem (s : State) :
    MemKeepOut s (execBootDigestDone s) := by
  unfold execBootDigestDone
  apply MemKeepOut.ite
  · apply MemKeepOut.ite
    · apply MemKeepOut.next
      apply MemKeep.trans (startCellar_mem ..)
      exact MemKeep.refl _
    · apply MemKeepOut.next
      (apply MemKeep.touch (bootFails_touch ..); · decide)
      exact MemKeep.refl _
  · apply MemKeepOut.next
    exact MemKeep.refl _

theorem serve_mem (op : ℕ) (n : ℕ) (rem : Remote) (s : State) (resv : Msg → Bool) (own : State → Msg → List (Bool × ℕ × ℕ)) (run : State → Msg → Out)
    (h : ∀ t0 t1, MemKeepOut t0 (run t0 t1)) :
    MemKeepOut s (serve op n rem s resv own run) := by
  unfold serve
  dsimp only
  apply MemKeepOut.ite
  · apply MemKeepOut.ite
    · apply MemKeepOut.fault
    · split
      · apply MemKeepOut.next
        (apply MemKeep.touch (refuse_touch ..); · decide)
        (apply MemKeep.touch (takeFront_touch ..); · decide)
        exact MemKeep.refl _
      · apply MemKeepOut.ite
        · apply MemKeepOut.fault
        · split
          · apply MemKeepOut.next
            (apply MemKeep.touch (refuse_touch ..); · decide)
            (apply MemKeep.touch (takeFront_touch ..); · decide)
            exact MemKeep.refl _
          · apply MemKeepOut.trans (h ..)
            (apply MemKeep.touch (takeFront_touch ..); · decide)
            exact MemKeep.refl _
  · apply MemKeepOut.next
    exact MemKeep.refl _

theorem serveNext_mem (op : ℕ) (n : ℕ) (s : State) (resv : Msg → Bool) (own : State → Msg → List (Bool × ℕ × ℕ)) (run : State → Msg → State)
    (h : ∀ t0 t1, MemKeep t0 (run t0 t1)) :
    MemKeepOut s (serveNext op n s resv own run) := by
  unfold serveNext
  refine MemKeepOut.trans (serve_mem (h := ?_) ..) ?_
  · intro t0 t1
    apply MemKeepOut.next
    apply MemKeep.trans (h ..)
    exact MemKeep.refl _
  · exact MemKeep.refl _

theorem writeWord_mem (s : State) (busy : Bool) (a2 : ℕ) (v : Word) :
    MemKeep s (writeWord s busy a2 v) := by
  unfold writeWord
  dsimp only
  apply MemKeep.ite
  · refine MemKeep.touch (Touch.set_boot (b := [.boot]) (by decide) (Touch.refl _ _)) (by decide) ?_
    exact MemKeep.refl _
  · apply MemKeep.ite
    · (apply MemKeep.touch (writeBootCtrl_touch ..); · decide)
      exact MemKeep.refl _
    · apply MemKeep.ite
      · (apply MemKeep.touch (writeRstCtrl_touch ..); · decide)
        exact MemKeep.refl _
      · apply MemKeep.ite
        · (apply MemKeep.touch (clearMsp_touch ..); · decide)
          exact MemKeep.refl _
        · apply MemKeep.ite
          · (apply MemKeep.touch (writeMctrl_touch ..); · decide)
            exact MemKeep.refl _
          · apply MemKeep.ite
            · apply MemKeep.ite
              · exact MemKeep.refl _
              · refine MemKeep.touch (Touch.set_msp (b := [.msp]) (by decide) (Touch.refl _ _)) (by decide) ?_
                exact MemKeep.refl _
            · apply MemKeep.ite
              · apply MemKeep.ite
                · exact MemKeep.refl _
                · apply MemKeep.ite
                  · (apply MemKeep.touch (writeDoorbell_touch ..); · decide)
                    exact MemKeep.refl _
                  · (apply MemKeep.touch (writeRspIndex_touch ..); · decide)
                    exact MemKeep.refl _
              · apply MemKeep.ite
                · (apply MemKeep.touch (ackEvents_touch ..); · decide)
                  exact MemKeep.refl _
                · apply MemKeep.ite
                  · apply MemKeep.trans (writeCtrl_mem ..)
                    exact MemKeep.refl _
                  · apply MemKeep.ite
                    · apply MemKeep.ite
                      · exact MemKeep.refl _
                      · (apply MemKeep.touch (writeEntry_touch ..); · decide)
                        exact MemKeep.refl _
                    · exact MemKeep.refl _

theorem writeWords_mem (s : State) (a1 : ℕ) (ws : List Word) :
    MemKeep s (writeWords s a1 ws) := by
  unfold writeWords
  dsimp only
  apply MemKeep.foldl
  · exact MemKeep.refl _
  · intro u v
    apply MemKeep.trans (writeWord_mem ..)
    exact MemKeep.refl _

theorem execRegisterWrite_mem (addr : BitVec 24) (value : Word) (s : State) :
    MemKeepOut s (execRegisterWrite addr value s) := by
  unfold execRegisterWrite
  apply MemKeepOut.ite
  · apply MemKeepOut.next
    exact MemKeep.refl _
  · apply MemKeepOut.next
    apply MemKeep.trans (writeWords_mem ..)
    exact MemKeep.refl _

theorem writeFrame_mem (s : State) (a1 : ℕ) (ws : List Word) (cut : Bool) (extra : Bool) :
    MemKeep s (writeFrame s a1 ws cut extra) := by
  unfold writeFrame
  dsimp only
  apply MemKeep.ite
  · (apply MemKeep.touch (raiseFlags_touch ..); · decide)
    refine MemKeep.touch (Touch.set_msp (b := [.msp]) (by decide) (Touch.refl _ _)) (by decide) ?_
    exact MemKeep.refl _
  · apply MemKeep.ite
    · (apply MemKeep.touch (raiseFlags_touch ..); · decide)
      refine MemKeep.touch (Touch.set_msp (b := [.msp]) (by decide) (Touch.refl _ _)) (by decide) ?_
      exact MemKeep.refl _
    · (apply MemKeep.touch (raiseFlags_touch ..); · decide)
      apply MemKeep.trans (writeWords_mem ..)
      refine MemKeep.touch (Touch.set_msp (b := [.msp]) (by decide) (Touch.refl _ _)) (by decide) ?_
      exact MemKeep.refl _

theorem mspFrame_mem (s : State) (f : State → State)
    (h : ∀ t0, MemKeep t0 (f t0)) :
    MemKeep s (mspFrame s f) := by
  unfold mspFrame
  dsimp only
  apply MemKeep.ite
  · exact MemKeep.refl _
  · apply MemKeep.ite
    · (apply MemKeep.touch (contend_touch ..); · decide)
      exact MemKeep.refl _
    · apply MemKeep.trans (h ..)
      refine MemKeep.touch (Touch.set_msp (b := [.msp]) (by decide) (Touch.refl _ _)) (by decide) ?_
      exact MemKeep.refl _

theorem endSelfTest_mem (s : State) (report : List Byte) :
    MemKeep s (endSelfTest s report) := by
  unfold endSelfTest
  dsimp only
  apply MemKeep.trans (settleBypass_mem ..)
  (apply MemKeep.touch (setMode_touch ..); · decide)
  refine MemKeep.touch (Touch.set_dev (b := [.dev]) (by decide) (Touch.refl _ _)) (by decide) ?_
  apply MemKeep.trans (memWrite_mem ..)
  exact MemKeep.refl _

theorem loadIr_mem (s : State) (ir : Byte) :
    MemKeep s (loadIr s ir) := by
  unfold loadIr
  dsimp only
  apply MemKeep.ite
  · apply MemKeep.trans (endSelfTest_mem ..)
    (apply MemKeep.touch (freeReport_touch ..); · decide)
    refine MemKeep.touch (Touch.set_jtag (b := [.jtag]) (by decide) (Touch.refl _ _)) (by decide) ?_
    exact MemKeep.refl _
  · refine MemKeep.touch (Touch.set_jtag (b := [.jtag]) (by decide) (Touch.refl _ _)) (by decide) ?_
    exact MemKeep.refl _

theorem execBypass_mem (s : State) :
    MemKeepOut s (execBypass s) := by
  unfold execBypass
  apply MemKeepOut.next
  apply MemKeep.trans (loadIr_mem ..)
  exact MemKeep.refl _

theorem execSamplePreload_mem (cells : List Bool) (s : State) :
    MemKeepOut s (execSamplePreload cells s) := by
  unfold execSamplePreload
  dsimp only
  apply MemKeepOut.next
  apply MemKeep.trans (loadIr_mem ..)
  refine MemKeep.touch (Touch.set_jtag (b := [.jtag]) (by decide) (Touch.refl _ _)) (by decide) ?_
  exact MemKeep.refl _

theorem execClamp_mem (s : State) :
    MemKeepOut s (execClamp s) := by
  unfold execClamp
  apply MemKeepOut.next
  apply MemKeep.trans (loadIr_mem ..)
  exact MemKeep.refl _

theorem execRegAccess_mem (dr : BitVec 64) (s : State) :
    MemKeepOut s (execRegAccess dr s) := by
  unfold execRegAccess
  dsimp only
  apply MemKeepOut.ite
  · apply MemKeepOut.next
    apply MemKeep.trans (loadIr_mem ..)
    exact MemKeep.refl _
  · apply MemKeepOut.ite
    · apply MemKeepOut.next
      refine MemKeep.touch (Touch.set_jtag (b := [.jtag]) (by decide) (Touch.refl _ _)) (by decide) ?_
      (apply MemKeep.touch (readWords_touch ..); · decide)
      apply MemKeep.trans (loadIr_mem ..)
      exact MemKeep.refl _
    · apply MemKeepOut.next
      refine MemKeep.touch (Touch.set_jtag (b := [.jtag]) (by decide) (Touch.refl _ _)) (by decide) ?_
      apply MemKeep.trans (writeWords_mem ..)
      apply MemKeep.trans (loadIr_mem ..)
      exact MemKeep.refl _

theorem execSelfTestEnd_mem (report : List Byte) (s : State) :
    MemKeepOut s (execSelfTestEnd report s) := by
  unfold execSelfTestEnd
  apply MemKeepOut.ite
  · apply MemKeepOut.next
    apply MemKeep.trans (endSelfTest_mem ..)
    exact MemKeep.refl _
  · apply MemKeepOut.next
    exact MemKeep.refl _

theorem execExtestPulse_mem (s : State) :
    MemKeepOut s (execExtestPulse s) := by
  unfold execExtestPulse
  apply MemKeepOut.next
  apply MemKeep.trans (loadIr_mem ..)
  exact MemKeep.refl _

theorem execMspWrite_mem (addr : BitVec 24) (words : List Word) (cut : Bool) (extra : Bool) (s : State) :
    MemKeepOut s (execMspWrite addr words cut extra s) := by
  unfold execMspWrite
  dsimp only
  apply MemKeepOut.next
  refine MemKeep.trans (mspFrame_mem (h := ?_) ..) ?_
  · intro t0
    apply MemKeep.ite
    · exact MemKeep.refl _
    · apply MemKeep.ite
      · (apply MemKeep.touch (raiseFlags_touch ..); · decide)
        refine MemKeep.touch (Touch.set_msp (b := [.msp]) (by decide) (Touch.refl _ _)) (by decide) ?_
        exact MemKeep.refl _
      · apply MemKeep.trans (writeFrame_mem ..)
        exact MemKeep.refl _
  · exact MemKeep.refl _

theorem execHighz_mem (s : State) :
    MemKeepOut s (execHighz s) := by
  unfold execHighz
  apply MemKeepOut.next
  apply MemKeep.trans (loadIr_mem ..)
  exact MemKeep.refl _

theorem execIdcode_mem (s : State) :
    MemKeepOut s (execIdcode s) := by
  unfold execIdcode
  apply MemKeepOut.next
  apply MemKeep.trans (loadIr_mem ..)
  exact MemKeep.refl _

theorem execExtest_mem (s : State) :
    MemKeepOut s (execExtest s) := by
  unfold execExtest
  apply MemKeepOut.next
  apply MemKeep.trans (loadIr_mem ..)
  exact MemKeep.refl _

theorem execExtestTrain_mem (s : State) :
    MemKeepOut s (execExtestTrain s) := by
  unfold execExtestTrain
  apply MemKeepOut.next
  apply MemKeep.trans (loadIr_mem ..)
  exact MemKeep.refl _

theorem execOpcDeviceStart_mem (mb : ℕ) (s : State) :
    MemKeepOut s (execOpcDeviceStart mb s) := by
  unfold execOpcDeviceStart
  dsimp only
  refine MemKeepOut.trans (serveNext_mem (h := ?_) ..) ?_
  · intro t0 t1
    apply MemKeep.trans (settleBypass_mem ..)
    (apply MemKeep.touch (settleCal_touch ..); · decide)
    (apply MemKeep.touch (done_touch ..); · decide)
    (apply MemKeep.touch (startDevice_touch ..); · decide)
    exact MemKeep.refl _
  · exact MemKeep.refl _

theorem execOpcBypassEnter_mem (mb : ℕ) (s : State) :
    MemKeepOut s (execOpcBypassEnter mb s) := by
  unfold execOpcBypassEnter
  dsimp only
  refine MemKeepOut.trans (serveNext_mem (h := ?_) ..) ?_
  · intro t0 t1
    apply MemKeep.ite
    · (apply MemKeep.touch (answerOwed_touch ..); · decide)
      apply MemKeep.ite
      · apply MemKeep.trans (endForBypass_mem ..)
        (apply MemKeep.touch (deferResp_touch ..); · decide)
        exact MemKeep.refl _
      · refine MemKeep.touch (Touch.set_power (b := [.power]) (by decide) (Touch.refl _ _)) (by decide) ?_
        (apply MemKeep.touch (deferResp_touch ..); · decide)
        exact MemKeep.refl _
    · refine MemKeep.touch (Touch.set_power (b := [.power]) (by decide) (Touch.refl _ _)) (by decide) ?_
      apply MemKeep.ite
      · apply MemKeep.trans (endForBypass_mem ..)
        (apply MemKeep.touch (deferResp_touch ..); · decide)
        exact MemKeep.refl _
      · refine MemKeep.touch (Touch.set_power (b := [.power]) (by decide) (Touch.refl _ _)) (by decide) ?_
        (apply MemKeep.touch (deferResp_touch ..); · decide)
        exact MemKeep.refl _
  · exact MemKeep.refl _

theorem execOpcDisarm_mem (mb : ℕ) (s : State) :
    MemKeepOut s (execOpcDisarm mb s) := by
  unfold execOpcDisarm
  dsimp only
  refine MemKeepOut.trans (serveNext_mem (h := ?_) ..) ?_
  · intro t0 t1
    apply MemKeep.trans (settleBypass_mem ..)
    (apply MemKeep.touch (finishDisarm_touch ..); · decide)
    (apply MemKeep.touch (deferResp_touch ..); · decide)
    refine MemKeep.touch (Touch.set_dev_dps (b := [.dev, .dps]) (by decide) (by decide) (Touch.refl _ _)) (by decide) ?_
    exact MemKeep.refl _
  · exact MemKeep.refl _

theorem execOpcDiagExit_mem (mb : ℕ) (s : State) :
    MemKeepOut s (execOpcDiagExit mb s) := by
  unfold execOpcDiagExit
  dsimp only
  refine MemKeepOut.trans (serveNext_mem (h := ?_) ..) ?_
  · intro t0 t1
    apply MemKeep.trans (settleBypass_mem ..)
    (apply MemKeep.touch (submitDue_touch ..); · decide)
    (apply MemKeep.touch (done_touch ..); · decide)
    (apply MemKeep.touch (setMode_touch ..); · decide)
    refine MemKeep.touch (Touch.set_dev (b := [.dev]) (by decide) (Touch.refl _ _)) (by decide) ?_
    exact MemKeep.refl _
  · exact MemKeep.refl _

theorem execFordDrainDone_mem (s : State) :
    MemKeepOut s (execFordDrainDone s) := by
  unfold execFordDrainDone
  apply MemKeepOut.ite
  · apply MemKeepOut.next
    apply MemKeep.trans (closeFord_mem ..)
    exact MemKeep.refl _
  · apply MemKeepOut.next
    exact MemKeep.refl _

theorem startMeasuring_mem (s : State) (mask : ℕ) (n : ℕ) :
    MemKeep s (startMeasuring s mask n) := by
  unfold startMeasuring
  dsimp only
  apply MemKeep.trans (settleMeasure_mem ..)
  apply MemKeep.foldl
  · apply MemKeep.foldl
    · refine MemKeep.touch (Touch.set_fabric (b := [.fabric]) (by decide) (Touch.refl _ _)) (by decide) ?_
      exact MemKeep.refl _
    · intro u v
      (apply MemKeep.touch (modPort_touch ..); · decide)
      exact MemKeep.refl _
  · intro u v
    (apply MemKeep.touch (sendXchg_touch ..); · decide)
    exact MemKeep.refl _

theorem execOpcSyncMeasure_mem (mb : ℕ) (s : State) :
    MemKeepOut s (execOpcSyncMeasure mb s) := by
  unfold execOpcSyncMeasure
  refine MemKeepOut.trans (serveNext_mem (h := ?_) ..) ?_
  · intro t0 t1
    apply MemKeep.trans (startMeasuring_mem ..)
    (apply MemKeep.touch (deferResp_touch ..); · decide)
    exact MemKeep.refl _
  · exact MemKeep.refl _

theorem execOpcItemAbort_mem (mb : ℕ) (s : State) :
    MemKeepOut s (execOpcItemAbort mb s) := by
  unfold execOpcItemAbort
  dsimp only
  refine MemKeepOut.trans (serveNext_mem (h := ?_) ..) ?_
  · intro t0 t1
    apply MemKeep.ite
    · (apply MemKeep.touch (respond_touch ..); · decide)
      exact MemKeep.refl _
    · apply MemKeep.trans (settleBypass_mem ..)
      apply MemKeep.trans (abortItem_mem ..)
      (apply MemKeep.touch (done_touch ..); · decide)
      exact MemKeep.refl _
  · exact MemKeep.refl _

theorem execOpcLedgerRead_mem (mb : ℕ) (s : State) :
    MemKeepOut s (execOpcLedgerRead mb s) := by
  unfold execOpcLedgerRead
  dsimp only
  refine MemKeepOut.trans (serveNext_mem (h := ?_) ..) ?_
  · intro t0 t1
    apply MemKeep.ite
    · (apply MemKeep.touch (done_touch ..); · decide)
      exact MemKeep.refl _
    · (apply MemKeep.touch (done_touch ..); · decide)
      apply MemKeep.trans (memWrite_mem ..)
      exact MemKeep.refl _
  · exact MemKeep.refl _

theorem receive_mem (s : State) (p : ℕ) (pkt : Packet) (f : State → Out)
    (h : ∀ t0, MemKeepOut t0 (f t0)) :
    MemKeepOut s (receive s p pkt f) := by
  unfold receive
  apply MemKeepOut.ite
  · apply MemKeepOut.next
    exact MemKeep.refl _
  · apply MemKeepOut.ite
    · apply MemKeepOut.trans (h ..)
      (apply MemKeep.touch (modPort_touch ..); · decide)
      exact MemKeep.refl _
    · apply MemKeepOut.next
      (apply MemKeep.touch (modPort_touch ..); · decide)
      exact MemKeep.refl _

theorem deliver_mem (cls : ℕ) (port : Port) (pkt : Packet) (s : State) (f : State → Out)
    (h : ∀ t0, MemKeepOut t0 (f t0)) :
    MemKeepOut s (deliver cls port pkt s f) := by
  unfold deliver
  apply MemKeepOut.ite
  · refine MemKeepOut.trans (receive_mem (h := ?_) ..) ?_
    · intro t0
      apply MemKeepOut.trans (h ..)
      (apply MemKeep.touch (takeIn_touch ..); · decide)
      exact MemKeep.refl _
    · exact MemKeep.refl _
  · apply MemKeepOut.next
    exact MemKeep.refl _

theorem execPortTrainRetry_mem (port : Port) (s : State) :
    MemKeepOut s (execPortTrainRetry port s) := by
  unfold execPortTrainRetry
  dsimp only
  apply MemKeepOut.ite
  · apply MemKeepOut.next
    exact MemKeep.refl _
  · split
    · apply MemKeepOut.next
      (apply MemKeep.touch (answerTrained_touch ..); · decide)
      (apply MemKeep.touch (settleLock_touch ..); · decide)
      apply MemKeep.trans (portDown_mem ..)
      exact MemKeep.refl _
    · apply MemKeepOut.next
      apply MemKeep.ite
      · exact MemKeep.refl _
      · (apply MemKeep.touch (changePort_touch ..); · decide)
        exact MemKeep.refl _
    · apply MemKeepOut.next
      exact MemKeep.refl _

theorem execPortTrained_mem (port : Port) (lanes : BitVec 4) (full : Bool) (s : State) :
    MemKeepOut s (execPortTrained port lanes full s) := by
  unfold execPortTrained
  dsimp only
  apply MemKeepOut.ite
  · apply MemKeepOut.next
    apply MemKeep.trans (settleMeasure_mem ..)
    (apply MemKeep.touch (answerTrained_touch ..); · decide)
    (apply MemKeep.touch (bootTrained_touch ..); · decide)
    (apply MemKeep.touch (settleLock_touch ..); · decide)
    (apply MemKeep.touch (pumpHeld_touch ..); · decide)
    (apply MemKeep.touch (judgeHeld_touch ..); · decide)
    apply MemKeep.ite
    · (apply MemKeep.touch (modPort_touch ..); · decide)
      (apply MemKeep.touch (changePort_touch ..); · decide)
      apply MemKeep.ite
      · (apply MemKeep.touch (restartLink_touch ..); · decide)
        exact MemKeep.refl _
      · exact MemKeep.refl _
    · refine MemKeep.trans (changeClock_mem (h := ?_) ..) ?_
      · intro t0
        refine MemKeep.touch (Touch.set_clock (b := [.clock]) (by decide) (Touch.refl _ _)) (by decide) ?_
        exact MemKeep.refl _
      · (apply MemKeep.touch (modPort_touch ..); · decide)
        (apply MemKeep.touch (changePort_touch ..); · decide)
        apply MemKeep.ite
        · (apply MemKeep.touch (restartLink_touch ..); · decide)
          exact MemKeep.refl _
        · exact MemKeep.refl _
  · apply MemKeepOut.next
    exact MemKeep.refl _

theorem execRegWr_mem (port : Port) (pkt : Packet) (s : State) :
    MemKeepOut s (execRegWr port pkt s) := by
  unfold execRegWr
  dsimp only
  refine MemKeepOut.trans (deliver_mem (h := ?_) ..) ?_
  · intro t0
    apply MemKeepOut.ite
    · apply MemKeepOut.next
      (apply MemKeep.touch (sendPlain_touch ..); · decide)
      apply MemKeep.trans (writeWords_mem ..)
      exact MemKeep.refl _
    · apply MemKeepOut.next
      (apply MemKeep.touch (sendPlain_touch ..); · decide)
      exact MemKeep.refl _
  · exact MemKeep.refl _

theorem writeAnswered_mem (s : State) (o : Outst) (status : ℕ) :
    MemKeep s (writeAnswered s o status) := by
  unfold writeAnswered
  dsimp only
  split
  · split
    · apply MemKeep.trans (beatsAnswered_mem ..)
      exact MemKeep.refl _
    · exact MemKeep.refl _
  · split
    · apply MemKeep.trans (writebackAnswered_mem ..)
      exact MemKeep.refl _
    · exact MemKeep.refl _

theorem execMemWrAck_mem (port : Port) (pkt : Packet) (s : State) :
    MemKeepOut s (execMemWrAck port pkt s) := by
  unfold execMemWrAck
  refine MemKeepOut.trans (deliver_mem (h := ?_) ..) ?_
  · intro t0
    split
    · apply MemKeepOut.next
      apply MemKeep.trans (writeAnswered_mem ..)
      (apply MemKeep.touch (closeOutst_touch ..); · decide)
      exact MemKeep.refl _
    · apply MemKeepOut.next
      exact MemKeep.refl _
  · exact MemKeep.refl _

theorem execMemWr_mem (port : Port) (pkt : Packet) (s : State) :
    MemKeepOut s (execMemWr port pkt s) := by
  unfold execMemWr
  dsimp only
  refine MemKeepOut.trans (deliver_mem (h := ?_) ..) ?_
  · intro t0
    split
    · apply MemKeepOut.next
      (apply MemKeep.touch (sendPlain_touch ..); · decide)
      exact MemKeep.refl _
    · apply MemKeepOut.next
      (apply MemKeep.touch (sendPlain_touch ..); · decide)
      apply MemKeep.trans (writePage_mem ..)
      exact MemKeep.refl _
  · exact MemKeep.refl _

theorem readAnswered_mem (s : State) (o : Outst) (status : ℕ) (rem : Remote) :
    MemKeepOut s (readAnswered s o status rem) := by
  unfold readAnswered
  dsimp only
  split
  · split
    · apply MemKeepOut.ite
      · apply MemKeepOut.trans (descArrives_mem ..)
        exact MemKeep.refl _
      · apply MemKeepOut.next
        exact MemKeep.refl _
    · split
      · apply MemKeepOut.next
        apply MemKeep.trans (burstArrives_mem ..)
        exact MemKeep.refl _
      · apply MemKeepOut.next
        exact MemKeep.refl _
    · apply MemKeepOut.next
      exact MemKeep.refl _
  · apply MemKeepOut.next
    apply MemKeep.ite
    · exact MemKeep.refl _
    · (apply MemKeep.touch (loseRead_touch ..); · decide)
      exact MemKeep.refl _
  · apply MemKeepOut.next
    exact MemKeep.refl _

theorem execMemRdRsp_mem (port : Port) (pkt : Packet) (s : State) :
    MemKeepOut s (execMemRdRsp port pkt s) := by
  unfold execMemRdRsp
  refine MemKeepOut.trans (deliver_mem (h := ?_) ..) ?_
  · intro t0
    split
    · apply MemKeepOut.trans (readAnswered_mem ..)
      (apply MemKeep.touch (closeOutst_touch ..); · decide)
      exact MemKeep.refl _
    · apply MemKeepOut.next
      exact MemKeep.refl _
  · exact MemKeep.refl _

theorem execRequestTimeout_mem (tag : BitVec 16) (s : State) :
    MemKeepOut s (execRequestTimeout tag s) := by
  unfold execRequestTimeout
  dsimp only
  split
  · apply MemKeepOut.ite
    · apply MemKeepOut.trans (readAnswered_mem ..)
      (apply MemKeep.touch (closeOutst_touch ..); · decide)
      exact MemKeep.refl _
    · apply MemKeepOut.ite
      · apply MemKeepOut.next
        apply MemKeep.trans (writeAnswered_mem ..)
        (apply MemKeep.touch (closeOutst_touch ..); · decide)
        exact MemKeep.refl _
      · apply MemKeepOut.next
        (apply MemKeep.touch (closeOutst_touch ..); · decide)
        exact MemKeep.refl _
  · apply MemKeepOut.next
    exact MemKeep.refl _

theorem deliverCopy_mem (cls : ℕ) (port : Port) (pkt : Packet) (s : State) (f : State → State)
    (h : ∀ t0, MemKeep t0 (f t0)) :
    MemKeepOut s (deliverCopy cls port pkt s f) := by
  unfold deliverCopy
  apply MemKeepOut.ite
  · refine MemKeepOut.trans (receive_mem (h := ?_) ..) ?_
    · intro t0
      apply MemKeepOut.next
      apply MemKeep.trans (h ..)
      (apply MemKeep.touch (sendBroadcast_touch ..); · decide)
      exact MemKeep.refl _
    · exact MemKeep.refl _
  · apply MemKeepOut.next
    exact MemKeep.refl _

theorem execTimeXchgRsp_mem (port : Port) (pkt : Packet) (c4 : ℕ) (s : State) :
    MemKeepOut s (execTimeXchgRsp port pkt c4 s) := by
  unfold execTimeXchgRsp
  dsimp only
  refine MemKeepOut.trans (deliver_mem (h := ?_) ..) ?_
  · intro t0
    split
    · apply MemKeepOut.ite
      · apply MemKeepOut.next
        apply MemKeep.ite
        · (apply MemKeep.touch (sendXchg_touch ..); · decide)
          (apply MemKeep.touch (modPort_touch ..); · decide)
          exact MemKeep.refl _
        · apply MemKeep.trans (settleMeasure_mem ..)
          (apply MemKeep.touch (modPort_touch ..); · decide)
          exact MemKeep.refl _
      · apply MemKeepOut.next
        exact MemKeep.refl _
    · apply MemKeepOut.next
      exact MemKeep.refl _
  · exact MemKeep.refl _

theorem readDiode_mem (s : State) (n : ℕ) (r : Option ℤ) (faulty : Bool) :
    MemKeep s (readDiode s n r faulty) := by
  unfold readDiode
  dsimp only
  apply MemKeep.ite
  · exact MemKeep.refl _
  · apply MemKeep.ite
    · apply MemKeep.trans (detectOwn_mem ..)
      (apply MemKeep.touch (setTemp_touch ..); · decide)
      exact MemKeep.refl _
    · split
      · (apply MemKeep.touch (setTemp_touch ..); · decide)
        exact MemKeep.refl _
      · (apply MemKeep.touch (setTemp_touch ..); · decide)
        exact MemKeep.refl _

theorem readRef_mem (s : State) (r : Option ℤ) :
    MemKeep s (readRef s r) := by
  unfold readRef
  dsimp only
  apply MemKeep.ite
  · exact MemKeep.refl _
  · split
    · apply MemKeep.ite
      · apply MemKeep.trans (detectOwn_mem ..)
        refine MemKeep.touch (Touch.set_house (b := [.house]) (by decide) (Touch.refl _ _)) (by decide) ?_
        exact MemKeep.refl _
      · refine MemKeep.touch (Touch.set_house (b := [.house]) (by decide) (Touch.refl _ _)) (by decide) ?_
        exact MemKeep.refl _
    · refine MemKeep.touch (Touch.set_house (b := [.house]) (by decide) (Touch.refl _ _)) (by decide) ?_
      exact MemKeep.refl _

theorem readSlot_mem (s : State) (n : ℕ) (r : Option ℤ) (faulty : Bool) :
    MemKeep s (readSlot s n r faulty) := by
  unfold readSlot
  split
  · apply MemKeep.ite
    · apply MemKeep.trans (readDiode_mem ..)
      exact MemKeep.refl _
    · (apply MemKeep.touch (readChip_touch ..); · decide)
      exact MemKeep.refl _
  · apply MemKeep.ite
    · (apply MemKeep.touch (readRail_touch ..); · decide)
      exact MemKeep.refl _
    · apply MemKeep.ite
      · apply MemKeep.trans (readRef_mem ..)
        exact MemKeep.refl _
      · apply MemKeep.ite
        · (apply MemKeep.touch (readStandard_touch ..); · decide)
          exact MemKeep.refl _
        · exact MemKeep.refl _

theorem remoteTrip_mem (s : State) (k : ℕ) :
    MemKeep s (remoteTrip s k) := by
  unfold remoteTrip
  apply MemKeep.ite
  · apply MemKeep.trans (detectOwn_mem ..)
    exact MemKeep.refl _
  · exact MemKeep.refl _

theorem execHousekeepingSlot_mem (reading : Option ℤ) (faulty : Bool) (s : State) :
    MemKeepOut s (execHousekeepingSlot reading faulty s) := by
  unfold execHousekeepingSlot
  dsimp only
  apply MemKeepOut.ite
  · apply MemKeepOut.next
    exact MemKeep.refl _
  · apply MemKeepOut.ite
    · apply MemKeepOut.next
      refine MemKeep.touch (Touch.set_house (b := [.house]) (by decide) (Touch.refl _ _)) (by decide) ?_
      split
      · (apply MemKeep.touch (driftCheck_touch ..); · decide)
        apply MemKeep.trans (remoteTrip_mem ..)
        apply MemKeep.trans (readSlot_mem ..)
        refine MemKeep.touch (Touch.set_house (b := [.house]) (by decide) (Touch.refl _ _)) (by decide) ?_
        exact MemKeep.refl _
      · apply MemKeep.trans (readSlot_mem ..)
        refine MemKeep.touch (Touch.set_house (b := [.house]) (by decide) (Touch.refl _ _)) (by decide) ?_
        exact MemKeep.refl _
    · apply MemKeepOut.next
      refine MemKeep.touch (Touch.set_house (b := [.house]) (by decide) (Touch.refl _ _)) (by decide) ?_
      (apply MemKeep.touch (endRound_touch ..); · decide)
      split
      · (apply MemKeep.touch (driftCheck_touch ..); · decide)
        apply MemKeep.trans (remoteTrip_mem ..)
        apply MemKeep.trans (readSlot_mem ..)
        refine MemKeep.touch (Touch.set_house (b := [.house]) (by decide) (Touch.refl _ _)) (by decide) ?_
        exact MemKeep.refl _
      · apply MemKeep.trans (readSlot_mem ..)
        refine MemKeep.touch (Touch.set_house (b := [.house]) (by decide) (Touch.refl _ _)) (by decide) ?_
        exact MemKeep.refl _

theorem levelRequest_mem (op : ℕ) (mb : ℕ) (rem : Remote) (s : State) (clear : Bool) (write : State → ℕ → State)
    (h : ∀ t0 t1, MemKeep t0 (write t0 t1)) :
    MemKeepOut s (levelRequest op mb rem s clear write) := by
  unfold levelRequest
  dsimp only
  refine MemKeepOut.trans (serve_mem (h := ?_) ..) ?_
  · intro t0 t1
    apply MemKeepOut.ite
    · apply MemKeepOut.fault
    · apply MemKeepOut.ite
      · apply MemKeepOut.fault
      · apply MemKeepOut.next
        (apply MemKeep.touch (done_touch ..); · decide)
        apply MemKeep.foldl
        · exact MemKeep.refl _
        · intro u v
          apply MemKeep.trans (h ..)
          exact MemKeep.refl _
  · exact MemKeep.refl _

theorem execOpcEventRead_mem (mb : ℕ) (s : State) :
    MemKeepOut s (execOpcEventRead mb s) := by
  unfold execOpcEventRead
  dsimp only
  refine MemKeepOut.trans (serveNext_mem (h := ?_) ..) ?_
  · intro t0 t1
    (apply MemKeep.touch (done_touch ..); · decide)
    apply MemKeep.trans (memWrite_mem ..)
    exact MemKeep.refl _
  · exact MemKeep.refl _

theorem execServiceBankChangeDone_mem (s : State) :
    MemKeepOut s (execServiceBankChangeDone s) := by
  unfold execServiceBankChangeDone
  dsimp only
  apply MemKeepOut.ite
  · apply MemKeepOut.next
    apply MemKeep.ite
    · apply MemKeep.trans (toBypass_mem ..)
      (apply MemKeep.touch (submitUnslotted_touch ..); · decide)
      (apply MemKeep.touch (retireOwn_touch ..); · decide)
      (apply MemKeep.touch (postHeld_touch ..); · decide)
      apply MemKeep.foldl
      · (apply MemKeep.touch (answerOwed_touch ..); · decide)
        refine MemKeep.touch (Touch.set_boot_levee_svc (b := [.boot, .levee, .svc]) (by decide) (by decide) (by decide) (Touch.refl _ _)) (by decide) ?_
        (apply MemKeep.touch (setMode_touch ..); · decide)
        exact MemKeep.refl _
      · intro u v
        (apply MemKeep.touch (flushOwed_touch ..); · decide)
        exact MemKeep.refl _
    · (apply MemKeep.touch (settleFord_touch ..); · decide)
      apply MemKeep.trans (settleBypass_mem ..)
      (apply MemKeep.touch (finishDisarm_touch ..); · decide)
      (apply MemKeep.touch (resumePause_touch ..); · decide)
      (apply MemKeep.touch (settleMode_touch ..); · decide)
      (apply MemKeep.touch (submitUnslotted_touch ..); · decide)
      (apply MemKeep.touch (retireOwn_touch ..); · decide)
      (apply MemKeep.touch (postHeld_touch ..); · decide)
      apply MemKeep.foldl
      · (apply MemKeep.touch (answerOwed_touch ..); · decide)
        refine MemKeep.touch (Touch.set_boot_levee_svc (b := [.boot, .levee, .svc]) (by decide) (by decide) (by decide) (Touch.refl _ _)) (by decide) ?_
        (apply MemKeep.touch (setMode_touch ..); · decide)
        exact MemKeep.refl _
      · intro u v
        (apply MemKeep.touch (flushOwed_touch ..); · decide)
        exact MemKeep.refl _
  · apply MemKeepOut.next
    exact MemKeep.refl _

theorem storeFailed_mem (s : State) (q : ℕ) (target : ℕ) :
    MemKeep s (storeFailed s q target) := by
  unfold storeFailed
  dsimp only
  apply MemKeep.foldl
  · (apply MemKeep.touch (modSeq_touch ..); · decide)
    exact MemKeep.refl _
  · intro u v
    apply MemKeep.trans (endNow_mem ..)
    exact MemKeep.refl _

theorem execMseqDigestDone_mem (seq : ℕ) (rem : Remote) (s : State) :
    MemKeepOut s (execMseqDigestDone seq rem s) := by
  unfold execMseqDigestDone
  dsimp only
  split
  · split
    · apply MemKeepOut.ite
      · apply MemKeepOut.next
        (apply MemKeep.touch (modSeq_touch ..); · decide)
        (apply MemKeep.touch (modSeq_touch ..); · decide)
        exact MemKeep.refl _
      · apply MemKeepOut.next
        apply MemKeep.trans (storeFailed_mem ..)
        (apply MemKeep.touch (modSeq_touch ..); · decide)
        exact MemKeep.refl _
    · apply MemKeepOut.next
      apply MemKeep.trans (storeFailed_mem ..)
      (apply MemKeep.touch (modSeq_touch ..); · decide)
      exact MemKeep.refl _
  · apply MemKeepOut.next
    exact MemKeep.refl _

end Sys2Proof.Machine
end

