-- ==== Sys2Proof/Laws/Modes.lean ====
section
/-! SUPPORT. In SAFE no disarm is under way, and SERVICE goes back to a mode of operation. -/

namespace Sys2Proof.Machine

/-- In SAFE no disarm is under way, and SERVICE goes back to a mode of operation. -/
def ModesOk (s : State) : Prop :=
  (s.dev.mode = .safe → s.dev.disarming = false)
    ∧ (s.dev.mode = .service → s.dev.cameFrom ≠ .safe ∧ s.dev.cameFrom ≠ .service)

theorem modes_of_touch {a : List Part} {s t : State} (k : Touch a s t) (hm : Part.dev ∉ a) : Keeps ModesOk s t :=
  ⟨fun h => by
    have e : t.dev = s.dev := k.same .dev hm
    unfold ModesOk
    rw [e]
    exact h⟩

theorem modes_of_touchOut {a : List Part} {s : State} {o : Out} (k : TouchOut a s o) (hm : Part.dev ∉ a) :
    KeepsOut ModesOk s o :=
  ⟨fun t ht => modes_of_touch (k.next_same t ht) hm⟩

/-- Entering a mode other than SAFE and SERVICE. -/
theorem setMode_modes (s : State) (m : Mode) (hm : m ≠ .safe ∧ m ≠ .service := by decide) : Keeps ModesOk s (setMode s m) :=
  ⟨fun h => by
    unfold setMode
    split
    · exact h
    · exact ⟨fun e => absurd e hm.1, fun e => absurd e hm.2⟩⟩

theorem retireOwn_modes  (s : State) :
    Keeps ModesOk s (retireOwn s) := by
  unfold retireOwn
  apply Keeps.foldl
  · exact Keeps.refl _ _
  · intro u v
    refine Keeps.trans (modes_of_touch (retireSlot_touch ..) (by decide)) ?_
    exact Keeps.refl _ _

theorem answerAll_modes  (a0 : ℕ) (s : State) (a2 : Msg → Bool) (a3 : State → Msg → Msg) :
    Keeps ModesOk s (answerAll a0 s a2 a3) := by
  induction a0 generalizing s a2 a3 with
  | zero =>
    unfold answerAll
    exact Keeps.refl _ _
  | succ n ih =>
    unfold answerAll
    apply Keeps.trans (ih ..)
    refine Keeps.trans (modes_of_touch (answerOwed_touch ..) (by decide)) ?_
    exact Keeps.refl _ _

theorem answerEvery_modes  (s : State) (p : Msg → Bool) (f : State → Msg → Msg) :
    Keeps ModesOk s (answerEvery s p f) := by
  unfold answerEvery
  apply Keeps.trans (answerAll_modes ..)
  exact Keeps.refl _ _

theorem settleMode_modes  (s : State) :
    Keeps ModesOk s (settleMode s) := by
  unfold settleMode
  dsimp only
  apply Keeps.ite
  · exact Keeps.refl _ _
  · apply Keeps.ite
    · apply Keeps.ite
      · apply Keeps.trans (answerEvery_modes ..)
        apply Keeps.trans (setMode_modes ..)
        refine Keeps.trans (Keeps.upd (Touch.set_dev (b := [.dev]) (by decide) (Touch.refl _ _)) (fun h => by first | exact h | exact ⟨fun _ => rfl, h.2⟩)) ?_
        exact Keeps.refl _ _
      · apply Keeps.trans (setMode_modes ..)
        refine Keeps.trans (Keeps.upd (Touch.set_dev (b := [.dev]) (by decide) (Touch.refl _ _)) (fun h => by first | exact h | exact ⟨fun _ => rfl, h.2⟩)) ?_
        exact Keeps.refl _ _
    · apply Keeps.ite
      · apply Keeps.trans (answerEvery_modes ..)
        apply Keeps.trans (setMode_modes ..)
        refine Keeps.trans (Keeps.upd (Touch.set_dev (b := [.dev]) (by decide) (Touch.refl _ _)) (fun h => by first | exact h | exact ⟨fun _ => rfl, h.2⟩)) ?_
        exact Keeps.refl _ _
      · exact Keeps.refl _ _

theorem settlePause_modes  (s : State) (l : Slot) (reason : Option ℕ) :
    Keeps ModesOk s (settlePause s l reason) := by
  unfold settlePause
  dsimp only
  apply Keeps.ite
  · apply Keeps.ite
    · apply Keeps.trans (setMode_modes ..)
      exact Keeps.refl _ _
    · apply Keeps.ite
      · refine Keeps.trans (Keeps.upd (Touch.set_dev (b := [.dev]) (by decide) (Touch.refl _ _)) (fun h => by first | exact h | exact ⟨fun _ => rfl, h.2⟩)) ?_
        exact Keeps.refl _ _
      · exact Keeps.refl _ _
  · exact Keeps.refl _ _

theorem settleCal_modes  (s : State) :
    Keeps ModesOk s (settleCal s) := by
  unfold settleCal
  apply Keeps.ite
  · refine Keeps.trans (modes_of_touch (submitDue_touch ..) (by decide)) ?_
    apply Keeps.trans (setMode_modes ..)
    exact Keeps.refl _ _
  · exact Keeps.refl _ _

theorem endItem_modes  (s : State) (i : ℕ) (reason : Option ℕ) (f : Slot → Slot) :
    Keeps ModesOk s (endItem s i reason f) := by
  unfold endItem
  dsimp only
  apply Keeps.ite
  · apply Keeps.trans (settleCal_modes ..)
    apply Keeps.trans (settlePause_modes ..)
    apply Keeps.trans (settleMode_modes ..)
    apply Keeps.ite
    · refine Keeps.trans (modes_of_touch (submitUnslotted_touch ..) (by decide)) ?_
      refine Keeps.trans (modes_of_touch (itemDone_touch ..) (by decide)) ?_
      apply Keeps.ite
      · refine Keeps.trans (modes_of_touch (modUnit_touch ..) (by decide)) ?_
        refine Keeps.trans (modes_of_touch (modSlot_touch ..) (by decide)) ?_
        exact Keeps.refl _ _
      · refine Keeps.trans (modes_of_touch (modSlot_touch ..) (by decide)) ?_
        exact Keeps.refl _ _
    · refine Keeps.trans (modes_of_touch (itemDone_touch ..) (by decide)) ?_
      apply Keeps.ite
      · refine Keeps.trans (modes_of_touch (modUnit_touch ..) (by decide)) ?_
        refine Keeps.trans (modes_of_touch (modSlot_touch ..) (by decide)) ?_
        exact Keeps.refl _ _
      · refine Keeps.trans (modes_of_touch (modSlot_touch ..) (by decide)) ?_
        exact Keeps.refl _ _
  · exact Keeps.refl _ _

theorem finishMeasure_modes  (s : State) (q : ℕ) (slot : ℕ) (reason : Option ℕ) (extra : ℕ) :
    Keeps ModesOk s (finishMeasure s q slot reason extra) := by
  unfold finishMeasure
  dsimp only
  apply Keeps.trans (endItem_modes ..)
  refine Keeps.trans (modes_of_touch (modSeq_touch ..) (by decide)) ?_
  refine Keeps.trans (modes_of_touch (memWrite_touch ..) (by decide)) ?_
  exact Keeps.refl _ _

theorem stopMeasure_modes  (s : State) (q : ℕ) (slot : ℕ) (reason : ℕ) (extra : ℕ) :
    Keeps ModesOk s (stopMeasure s q slot reason extra) := by
  unfold stopMeasure
  dsimp only
  apply Keeps.trans (finishMeasure_modes ..)
  apply Keeps.ite
  · exact Keeps.refl _ _
  · refine Keeps.trans (modes_of_touch (Touch.set_chans (b := [.chans]) (by decide) (Touch.refl _ _)) (by decide)) ?_
    exact Keeps.refl _ _

theorem detachMeasure_modes  (s : State) (q : ℕ) (slot : ℕ) (reason : ℕ) (extra : ℕ) :
    Keeps ModesOk s (detachMeasure s q slot reason extra) := by
  unfold detachMeasure
  dsimp only
  apply Keeps.trans (endItem_modes ..)
  refine Keeps.trans (modes_of_touch (modSeq_touch ..) (by decide)) ?_
  refine Keeps.trans (modes_of_touch (memWrite_touch ..) (by decide)) ?_
  exact Keeps.refl _ _

theorem finishAcquire_modes  (s : State) (slot : ℕ) (reason : Option ℕ) (extra : ℕ) :
    Keeps ModesOk s (finishAcquire s slot reason extra) := by
  unfold finishAcquire
  dsimp only
  apply Keeps.trans (endItem_modes ..)
  refine Keeps.trans (modes_of_touch (Touch.set_acqs (b := [.acqs]) (by decide) (Touch.refl _ _)) (by decide)) ?_
  refine Keeps.trans (modes_of_touch (memWrite_touch ..) (by decide)) ?_
  refine Keeps.trans (modes_of_touch (memWrite_touch ..) (by decide)) ?_
  refine Keeps.trans (modes_of_touch (takeFree_touch ..) (by decide)) ?_
  exact Keeps.refl _ _

theorem finishBurst_modes  (s : State) (slot : ℕ) (reason : Option ℕ) (rest : ℕ → Rest) (extra : ℕ) :
    Keeps ModesOk s (finishBurst s slot reason rest extra) := by
  unfold finishBurst
  dsimp only
  apply Keeps.trans (endItem_modes ..)
  refine Keeps.trans (modes_of_touch (settlePins_touch ..) (by decide)) ?_
  refine Keeps.trans (modes_of_touch (Touch.set_bursts_fabric (b := [.bursts, .fabric]) (by decide) (by decide) (Touch.refl _ _)) (by decide)) ?_
  apply Keeps.foldl
  · refine Keeps.trans (modes_of_touch (memWrite_touch ..) (by decide)) ?_
    apply Keeps.ite
    · apply Keeps.foldl
      · apply Keeps.ite
        · refine Keeps.trans (modes_of_touch (capAll_touch ..) (by decide)) ?_
          split
          · refine Keeps.trans (modes_of_touch (modBurst_touch ..) (by decide)) ?_
            refine Keeps.trans (modes_of_touch (transferDue_touch ..) (by decide)) ?_
            refine Keeps.trans (modes_of_touch (flushJunction_touch ..) (by decide)) ?_
            refine Keeps.trans (modes_of_touch (closeRuns_touch ..) (by decide)) ?_
            exact Keeps.refl _ _
          · refine Keeps.trans (modes_of_touch (modBurst_touch ..) (by decide)) ?_
            refine Keeps.trans (modes_of_touch (transferDue_touch ..) (by decide)) ?_
            refine Keeps.trans (modes_of_touch (flushJunction_touch ..) (by decide)) ?_
            refine Keeps.trans (modes_of_touch (closeRuns_touch ..) (by decide)) ?_
            exact Keeps.refl _ _
          · refine Keeps.trans (modes_of_touch (transferDue_touch ..) (by decide)) ?_
            refine Keeps.trans (modes_of_touch (flushJunction_touch ..) (by decide)) ?_
            refine Keeps.trans (modes_of_touch (closeRuns_touch ..) (by decide)) ?_
            exact Keeps.refl _ _
        · split
          · refine Keeps.trans (modes_of_touch (modBurst_touch ..) (by decide)) ?_
            refine Keeps.trans (modes_of_touch (transferDue_touch ..) (by decide)) ?_
            refine Keeps.trans (modes_of_touch (flushJunction_touch ..) (by decide)) ?_
            refine Keeps.trans (modes_of_touch (closeRuns_touch ..) (by decide)) ?_
            exact Keeps.refl _ _
          · refine Keeps.trans (modes_of_touch (modBurst_touch ..) (by decide)) ?_
            refine Keeps.trans (modes_of_touch (transferDue_touch ..) (by decide)) ?_
            refine Keeps.trans (modes_of_touch (flushJunction_touch ..) (by decide)) ?_
            refine Keeps.trans (modes_of_touch (closeRuns_touch ..) (by decide)) ?_
            exact Keeps.refl _ _
          · refine Keeps.trans (modes_of_touch (transferDue_touch ..) (by decide)) ?_
            refine Keeps.trans (modes_of_touch (flushJunction_touch ..) (by decide)) ?_
            refine Keeps.trans (modes_of_touch (closeRuns_touch ..) (by decide)) ?_
            exact Keeps.refl _ _
      · intro u v
        refine Keeps.trans (modes_of_touch (modQueue_touch ..) (by decide)) ?_
        exact Keeps.refl _ _
    · apply Keeps.ite
      · refine Keeps.trans (modes_of_touch (capAll_touch ..) (by decide)) ?_
        split
        · refine Keeps.trans (modes_of_touch (modBurst_touch ..) (by decide)) ?_
          refine Keeps.trans (modes_of_touch (transferDue_touch ..) (by decide)) ?_
          refine Keeps.trans (modes_of_touch (flushJunction_touch ..) (by decide)) ?_
          refine Keeps.trans (modes_of_touch (closeRuns_touch ..) (by decide)) ?_
          exact Keeps.refl _ _
        · refine Keeps.trans (modes_of_touch (modBurst_touch ..) (by decide)) ?_
          refine Keeps.trans (modes_of_touch (transferDue_touch ..) (by decide)) ?_
          refine Keeps.trans (modes_of_touch (flushJunction_touch ..) (by decide)) ?_
          refine Keeps.trans (modes_of_touch (closeRuns_touch ..) (by decide)) ?_
          exact Keeps.refl _ _
        · refine Keeps.trans (modes_of_touch (transferDue_touch ..) (by decide)) ?_
          refine Keeps.trans (modes_of_touch (flushJunction_touch ..) (by decide)) ?_
          refine Keeps.trans (modes_of_touch (closeRuns_touch ..) (by decide)) ?_
          exact Keeps.refl _ _
      · split
        · refine Keeps.trans (modes_of_touch (modBurst_touch ..) (by decide)) ?_
          refine Keeps.trans (modes_of_touch (transferDue_touch ..) (by decide)) ?_
          refine Keeps.trans (modes_of_touch (flushJunction_touch ..) (by decide)) ?_
          refine Keeps.trans (modes_of_touch (closeRuns_touch ..) (by decide)) ?_
          exact Keeps.refl _ _
        · refine Keeps.trans (modes_of_touch (modBurst_touch ..) (by decide)) ?_
          refine Keeps.trans (modes_of_touch (transferDue_touch ..) (by decide)) ?_
          refine Keeps.trans (modes_of_touch (flushJunction_touch ..) (by decide)) ?_
          refine Keeps.trans (modes_of_touch (closeRuns_touch ..) (by decide)) ?_
          exact Keeps.refl _ _
        · refine Keeps.trans (modes_of_touch (transferDue_touch ..) (by decide)) ?_
          refine Keeps.trans (modes_of_touch (flushJunction_touch ..) (by decide)) ?_
          refine Keeps.trans (modes_of_touch (closeRuns_touch ..) (by decide)) ?_
          exact Keeps.refl _ _
  · intro u v
    refine Keeps.trans (modes_of_touch (restPeb_touch ..) (by decide)) ?_
    exact Keeps.refl _ _

theorem finishLane_modes  (s : State) (slot : ℕ) (reason : Option ℕ) (extra : ℕ) :
    Keeps ModesOk s (finishLane s slot reason extra) := by
  unfold finishLane
  dsimp only
  apply Keeps.trans (endItem_modes ..)
  refine Keeps.trans (modes_of_touch (Touch.set_lanes (b := [.lanes]) (by decide) (Touch.refl _ _)) (by decide)) ?_
  refine Keeps.trans (modes_of_touch (memWrite_touch ..) (by decide)) ?_
  split
  · dsimp only
    refine Keeps.trans (modes_of_touch (laneProgress_touch ..) (by decide)) ?_
    exact Keeps.refl _ _
  · refine Keeps.trans (modes_of_touch (takeFree_touch ..) (by decide)) ?_
    refine Keeps.trans (modes_of_touch (laneProgress_touch ..) (by decide)) ?_
    exact Keeps.refl _ _

theorem finishTdc_modes  (s : State) (slot : ℕ) (reason : Option ℕ) (extra : ℕ) :
    Keeps ModesOk s (finishTdc s slot reason extra) := by
  unfold finishTdc
  dsimp only
  apply Keeps.trans (endItem_modes ..)
  refine Keeps.trans (modes_of_touch (Touch.set_tdcs (b := [.tdcs]) (by decide) (Touch.refl _ _)) (by decide)) ?_
  apply Keeps.ite
  · refine Keeps.trans (modes_of_touch (modQueue_touch ..) (by decide)) ?_
    apply Keeps.ite
    · refine Keeps.trans (modes_of_touch (memWrite_touch ..) (by decide)) ?_
      exact Keeps.refl _ _
    · exact Keeps.refl _ _
  · apply Keeps.ite
    · refine Keeps.trans (modes_of_touch (memWrite_touch ..) (by decide)) ?_
      exact Keeps.refl _ _
    · exact Keeps.refl _ _

theorem finishDisarm_modes  (s : State) :
    Keeps ModesOk s (finishDisarm s) := by
  unfold finishDisarm
  dsimp only
  apply Keeps.ite
  · refine Keeps.trans (modes_of_touch (answerOwed_touch ..) (by decide)) ?_
    refine Keeps.trans (modes_of_touch (submitDue_touch ..) (by decide)) ?_
    apply Keeps.trans (setMode_modes ..)
    refine Keeps.trans (Keeps.upd (Touch.set_dev_chans_pebs (b := [.dev, .chans, .pebs]) (by decide) (by decide) (by decide) (Touch.refl _ _)) (fun h => by first | exact h | exact ⟨fun _ => rfl, h.2⟩)) ?_
    exact Keeps.refl _ _
  · exact Keeps.refl _ _

theorem finishDps_modes  (s : State) (slot : ℕ) (reason : Option ℕ) (extra : ℕ) :
    Keeps ModesOk s (finishDps s slot reason extra) := by
  unfold finishDps
  dsimp only
  apply Keeps.trans (endItem_modes ..)
  refine Keeps.trans (modes_of_touch (Touch.set_resvs (b := [.resvs]) (by decide) (Touch.refl _ _)) (by decide)) ?_
  apply Keeps.ite
  · apply Keeps.foldl
    · apply Keeps.ite
      · refine Keeps.trans (modes_of_touch (modQueue_touch ..) (by decide)) ?_
        refine Keeps.trans (modes_of_touch (itemRecords_touch ..) (by decide)) ?_
        refine Keeps.trans (modes_of_touch (dpsResult_touch ..) (by decide)) ?_
        exact Keeps.refl _ _
      · refine Keeps.trans (modes_of_touch (dpsResult_touch ..) (by decide)) ?_
        exact Keeps.refl _ _
    · intro u v
      refine Keeps.trans (modes_of_touch (settleSet_touch ..) (by decide)) ?_
      exact Keeps.refl _ _
  · apply Keeps.ite
    · refine Keeps.trans (modes_of_touch (modQueue_touch ..) (by decide)) ?_
      refine Keeps.trans (modes_of_touch (itemRecords_touch ..) (by decide)) ?_
      refine Keeps.trans (modes_of_touch (dpsResult_touch ..) (by decide)) ?_
      exact Keeps.refl _ _
    · refine Keeps.trans (modes_of_touch (dpsResult_touch ..) (by decide)) ?_
      exact Keeps.refl _ _

theorem failCal_modes  (s : State) (slot : ℕ) (reason : ℕ) (dst : UState) (extra : ℕ) :
    Keeps ModesOk s (failCal s slot reason dst extra) := by
  unfold failCal
  dsimp only
  apply Keeps.trans (endItem_modes ..)
  apply Keeps.ite
  · refine Keeps.trans (modes_of_touch (modUnit_touch ..) (by decide)) ?_
    refine Keeps.trans (modes_of_touch (releaseOwn_touch ..) (by decide)) ?_
    refine Keeps.trans (modes_of_touch (freePress_touch ..) (by decide)) ?_
    apply Keeps.foldl
    · exact Keeps.refl _ _
    · intro u v
      refine Keeps.trans (modes_of_touch (releaseOther_touch ..) (by decide)) ?_
      exact Keeps.refl _ _
  · refine Keeps.trans (modes_of_touch (releaseOwn_touch ..) (by decide)) ?_
    refine Keeps.trans (modes_of_touch (freePress_touch ..) (by decide)) ?_
    apply Keeps.foldl
    · exact Keeps.refl _ _
    · intro u v
      refine Keeps.trans (modes_of_touch (releaseOther_touch ..) (by decide)) ?_
      exact Keeps.refl _ _

theorem cutTransfer_modes  (s : State) (slot : ℕ) (reason : ℕ) (extra : ℕ) :
    Keeps ModesOk s (cutTransfer s slot reason extra) := by
  unfold cutTransfer
  apply Keeps.trans (endItem_modes ..)
  refine Keeps.trans (modes_of_touch (stopDma_touch ..) (by decide)) ?_
  exact Keeps.refl _ _

theorem endNow_modes  (s : State) (slot : ℕ) (reason : ℕ) (extra : ℕ) (rest : ℕ → Rest) (dst : UState) :
    Keeps ModesOk s (endNow s slot reason extra rest dst) := by
  unfold endNow
  dsimp only
  split
  · apply Keeps.trans (finishBurst_modes ..)
    exact Keeps.refl _ _
  · apply Keeps.ite
    · apply Keeps.trans (stopMeasure_modes ..)
      exact Keeps.refl _ _
    · apply Keeps.trans (endItem_modes ..)
      exact Keeps.refl _ _
  · apply Keeps.trans (finishTdc_modes ..)
    exact Keeps.refl _ _
  · apply Keeps.trans (finishAcquire_modes ..)
    exact Keeps.refl _ _
  · apply Keeps.trans (cutTransfer_modes ..)
    exact Keeps.refl _ _
  · apply Keeps.trans (failCal_modes ..)
    exact Keeps.refl _ _
  · apply Keeps.trans (endItem_modes ..)
    exact Keeps.refl _ _
  · apply Keeps.ite
    · refine Keeps.trans (modes_of_touch (Touch.set_dps (b := [.dps]) (by decide) (Touch.refl _ _)) (by decide)) ?_
      apply Keeps.trans (finishDps_modes ..)
      exact Keeps.refl _ _
    · apply Keeps.trans (finishDps_modes ..)
      exact Keeps.refl _ _
  · apply Keeps.trans (finishLane_modes ..)
    exact Keeps.refl _ _
  · exact Keeps.refl _ _

theorem endAway_modes  (s : State) (slot : ℕ) (reason : ℕ) (extra : ℕ) (rest : ℕ → Rest) (dst : UState) :
    Keeps ModesOk s (endAway s slot reason extra rest dst) := by
  unfold endAway
  apply Keeps.ite
  · apply Keeps.trans (detachMeasure_modes ..)
    exact Keeps.refl _ _
  · apply Keeps.trans (endNow_modes ..)
    exact Keeps.refl _ _

theorem endQueued_modes  (s : State) (slot : ℕ) (reason : ℕ) (extra : ℕ) :
    Keeps ModesOk s (endQueued s slot reason extra) := by
  unfold endQueued
  dsimp only
  apply Keeps.ite
  · apply Keeps.trans (endItem_modes ..)
    refine Keeps.trans (modes_of_touch (dpsResult_touch ..) (by decide)) ?_
    exact Keeps.refl _ _
  · apply Keeps.trans (endItem_modes ..)
    exact Keeps.refl _ _

theorem safeItem_modes  (s : State) (slot : ℕ) :
    Keeps ModesOk s (safeItem s slot) := by
  unfold safeItem
  dsimp only
  apply Keeps.ite
  · apply Keeps.trans (endQueued_modes ..)
    exact Keeps.refl _ _
  · apply Keeps.ite
    · apply Keeps.trans (endAway_modes ..)
      exact Keeps.refl _ _
    · exact Keeps.refl _ _

theorem unitsOffline_modes  (s : State) :
    Keeps ModesOk s (unitsOffline s) := by
  unfold unitsOffline
  apply Keeps.foldl
  · exact Keeps.refl _ _
  · intro u v
    refine Keeps.trans (modes_of_touch (modUnit_touch ..) (by decide)) ?_
    refine Keeps.trans (modes_of_touch (setUnit_touch ..) (by decide)) ?_
    exact Keeps.refl _ _

theorem refuseWaiting_modes  (s : State) (ops : List ℕ) (mode : ℕ) :
    Keeps ModesOk s (refuseWaiting s ops mode) := by
  unfold refuseWaiting
  apply Keeps.foldl
  · exact Keeps.refl _ _
  · intro u v
    apply Keeps.trans (answerEvery_modes ..)
    exact Keeps.refl _ _

theorem bypassItem_modes  (s : State) (slot : ℕ) :
    Keeps ModesOk s (bypassItem s slot) := by
  unfold bypassItem
  dsimp only
  apply Keeps.ite
  · apply Keeps.trans (endQueued_modes ..)
    exact Keeps.refl _ _
  · apply Keeps.ite
    · refine Keeps.trans (modes_of_touch (modSlot_touch ..) (by decide)) ?_
      refine Keeps.trans (modes_of_touch (markCause_touch ..) (by decide)) ?_
      exact Keeps.refl _ _
    · apply Keeps.ite
      · apply Keeps.trans (endAway_modes ..)
        exact Keeps.refl _ _
      · exact Keeps.refl _ _

theorem endForBypass_modes  (s : State) :
    Keeps ModesOk s (endForBypass s) := by
  unfold endForBypass
  dsimp only
  apply Keeps.trans (refuseWaiting_modes ..)
  refine Keeps.trans (modes_of_touch (idleOutputs_touch ..) (by decide)) ?_
  refine Keeps.trans (Keeps.upd (Touch.set_dev (b := [.dev]) (by decide) (Touch.refl _ _)) (fun h => by first | exact h | exact ⟨fun _ => rfl, h.2⟩)) ?_
  apply Keeps.foldl
  · refine Keeps.trans (Keeps.upd (Touch.set_power_dev (b := [.power, .dev]) (by decide) (by decide) (Touch.refl _ _)) (fun h => by first | exact h | exact ⟨fun _ => rfl, h.2⟩)) ?_
    apply Keeps.trans (setMode_modes ..)
    exact Keeps.refl _ _
  · intro u v
    apply Keeps.trans (bypassItem_modes ..)
    exact Keeps.refl _ _

theorem enterBypass_modes  (s : State) :
    Keeps ModesOk s (enterBypass s) := by
  unfold enterBypass
  apply Keeps.trans (endForBypass_modes ..)
  refine Keeps.trans (modes_of_touch (closeFord_touch ..) (by decide)) ?_
  exact Keeps.refl _ _

theorem settleBypass_modes  (s : State) :
    Keeps ModesOk s (settleBypass s) := by
  unfold settleBypass
  apply Keeps.ite
  · apply Keeps.trans (enterBypass_modes ..)
    exact Keeps.refl _ _
  · exact Keeps.refl _ _

theorem settleFord_modes  (s : State) :
    Keeps ModesOk s (settleFord s) := by
  unfold settleFord
  apply Keeps.ite
  · refine Keeps.trans (modes_of_touch (openFord_touch ..) (by decide)) ?_
    exact Keeps.refl _ _
  · exact Keeps.refl _ _

theorem toBypass_modes  (s : State) :
    Keeps ModesOk s (toBypass s) := by
  unfold toBypass
  apply Keeps.ite
  · apply Keeps.trans (enterBypass_modes ..)
    exact Keeps.refl _ _
  · apply Keeps.trans (setMode_modes ..)
    refine Keeps.trans (modes_of_touch (closeFord_touch ..) (by decide)) ?_
    exact Keeps.refl _ _

theorem resumePause_modes  (s : State) :
    Keeps ModesOk s (resumePause s) := by
  unfold resumePause
  dsimp only
  apply Keeps.ite
  · apply Keeps.trans (setMode_modes ..)
    refine Keeps.trans (Keeps.upd (Touch.set_dev (b := [.dev]) (by decide) (Touch.refl _ _)) (fun h => by first | exact h | exact ⟨fun _ => rfl, h.2⟩)) ?_
    exact Keeps.refl _ _
  · refine Keeps.trans (Keeps.upd (Touch.set_dev (b := [.dev]) (by decide) (Touch.refl _ _)) (fun h => by first | exact h | exact ⟨fun _ => rfl, h.2⟩)) ?_
    exact Keeps.refl _ _

end Sys2Proof.Machine
end

