-- ==== Sys2Proof/Laws/Modes2.lean ====
section
/-! SUPPORT. The modes stay consistent over every command. -/

namespace Sys2Proof.Machine

theorem warmHold_modes (s : State) (cause : Nat) : Keeps ModesOk s (warmHold s cause) :=
  ⟨fun _ => ⟨fun _ => rfl, fun _ => by simp [warmHold]⟩⟩

theorem execPowerOnReset_modes (s : State) : KeepsOut ModesOk s (execPowerOnReset s) :=
  ⟨fun t ht => ⟨fun _ => by cases ht; exact ⟨nofun, nofun⟩⟩⟩

/-- SAFE is entered with no disarm under way. -/
theorem enterSafe_modes (s : State) (cellar : Bool) : Keeps ModesOk s (enterSafe s cellar) := by
  unfold enterSafe
  dsimp only
  have e : Keeps ModesOk s (if cellar = true then { s with levee := { s.levee with cellarOk := false } } else s) := by
    apply Keeps.ite
    · exact modes_of_touch (Touch.set_levee (b := [.levee]) (by decide) (Touch.refl _ _)) (by decide)
    · exact Keeps.refl _ _
  have g : ∀ u : State, u.dev.mode = .safe → u.dev.disarming = false → ModesOk u :=
    fun u hu hd => ⟨fun _ => hd, fun h => absurd (hu.symm.trans h) (by decide)⟩
  apply Keeps.ite
  · exact e
  · apply Keeps.trans (refuseWaiting_modes ..)
    apply Keeps.trans (answerEvery_modes ..)
    apply Keeps.trans (unitsOffline_modes ..)
    refine Keeps.trans (modes_of_touch (selfRefresh_touch ..) (by decide)) ?_
    refine Keeps.trans (modes_of_touch (Touch.set_resvs (b := [.resvs]) (by decide) (Touch.refl _ _)) (by decide)) ?_
    refine Keeps.foldl ?_ fun u x => safeItem_modes ..
    apply Keeps.ite
    · apply Keeps.trans (retireOwn_modes ..)
      refine Keeps.trans (modes_of_touch (postHeld_touch ..) (by decide)) ?_
      refine Keeps.foldl ?_ fun u x => modes_of_touch (flushOwed_touch ..) (by decide)
      exact ⟨fun _ => g _ (setMode_mode ..) rfl⟩
    · exact ⟨fun _ => g _ (setMode_mode ..) rfl⟩

theorem execServiceImageChecked_modes (rem : Remote) (s : State) : KeepsOut ModesOk s (execServiceImageChecked rem s) := by
  refine ⟨fun t ht => ⟨fun k => ?_⟩⟩
  have r : ∀ a b, ModesOk (refuseService s a b) := fun a b =>
    (modes_of_touch (refuseService_touch s a b) (by decide)).keeps k
  unfold execServiceImageChecked at ht
  split at ht
  · next hc =>
    split at ht
    · cases ht; exact r ..
    · split at ht
      · cases ht; exact r ..
      · split at ht
        · cases ht; exact r ..
        · next hm =>
          split at ht
          · cases ht; exact r ..
          · cases ht
            have hs : s.dev.mode ≠ .safe ∧ s.dev.mode ≠ .service := by
              refine ⟨fun e => ?_, hc.2⟩
              rw [e] at hm
              exact hm (by decide)
            unfold setMode
            dsimp only
            rw [if_neg hs.2]
            exact ⟨nofun, fun _ => hs⟩
  · cases ht; exact k

theorem execServiceBankChangeDone_modes (s : State) : KeepsOut ModesOk s (execServiceBankChangeDone s) := by
  refine ⟨fun t ht => ⟨fun k => ?_⟩⟩
  unfold execServiceBankChangeDone at ht
  split at ht
  · next hm =>
    dsimp only at ht
    cases ht
    apply (show ∀ x : State, ModesOk x → ModesOk (if s.svc.ford = true then toBypass x
        else settleFord (settleBypass (finishDisarm (resumePause (settleMode x))))) from
      fun x hx => by
        split
        · exact (toBypass_modes x).keeps hx
        · exact ((settleFord_modes _).trans ((settleBypass_modes _).trans ((finishDisarm_modes _).trans
            ((resumePause_modes _).trans (settleMode_modes x))))).keeps hx)
    refine (modes_of_touch (submitUnslotted_touch ..) (by decide)).keeps ?_
    apply (retireOwn_modes _).keeps
    refine (modes_of_touch (postHeld_touch ..) (by decide)).keeps ?_
    refine (Keeps.foldl (Keeps.refl _ _) fun u x => modes_of_touch (flushOwed_touch ..) (by decide)).keeps ?_
    refine (modes_of_touch (answerOwed_touch ..) (by decide)).keeps ?_
    refine (show ModesOk (setMode s s.dev.cameFrom) → _ from fun h => h) ?_
    exact (setMode_modes s s.dev.cameFrom (k.2 hm)).keeps k
  · cases ht; exact k

theorem takeItem_modes  (s : State) (i : ℕ) :
    Keeps ModesOk s (takeItem s i) := by
  unfold takeItem
  dsimp only
  apply Keeps.ite
  · apply Keeps.trans (setMode_modes ..)
    refine Keeps.trans (modes_of_touch (modSlot_touch ..) (by decide)) ?_
    exact Keeps.refl _ _
  · refine Keeps.trans (modes_of_touch (modSlot_touch ..) (by decide)) ?_
    exact Keeps.refl _ _

theorem holdAsked_modes  (s : State) (slot : ℕ) :
    Keeps ModesOk s (holdAsked s slot) := by
  unfold holdAsked
  apply Keeps.ite
  · apply Keeps.trans (settleMode_modes ..)
    refine Keeps.trans (modes_of_touch (modSlot_touch ..) (by decide)) ?_
    exact Keeps.refl _ _
  · exact Keeps.refl _ _

theorem fireLevels_modes  (s : State) (slot : ℕ) :
    Keeps ModesOk s (fireLevels s slot) := by
  unfold fireLevels
  dsimp only
  apply Keeps.trans (endItem_modes ..)
  refine Keeps.trans (modes_of_touch (strobeGroup_touch ..) (by decide)) ?_
  exact Keeps.refl _ _

theorem execLevelsDispatch_modes  (slot : ℕ) (s : State) :
    KeepsOut ModesOk s (execLevelsDispatch slot s) := by
  unfold execLevelsDispatch
  dsimp only
  apply KeepsOut.ite
  · apply KeepsOut.ite
    · apply KeepsOut.next
      refine Keeps.trans (modes_of_touch (modSlot_touch ..) (by decide)) ?_
      apply Keeps.trans (takeItem_modes ..)
      exact Keeps.refl _ _
    · apply KeepsOut.next
      apply Keeps.ite
      · apply Keeps.trans (fireLevels_modes ..)
        refine Keeps.trans (modes_of_touch (armItem_touch ..) (by decide)) ?_
        apply Keeps.trans (takeItem_modes ..)
        exact Keeps.refl _ _
      · refine Keeps.trans (modes_of_touch (armItem_touch ..) (by decide)) ?_
        apply Keeps.trans (takeItem_modes ..)
        exact Keeps.refl _ _
  · apply KeepsOut.next
    exact Keeps.refl _ _

theorem runWord_modes  (s : State) (q : ℕ) (ks : List ℕ) (k : Option ℕ → BitVec 14 → State → State)
    (h : ∀ t0 t1 t2, Keeps ModesOk t2 (k t0 t1 t2)) :
    KeepsOut ModesOk s (runWord s q ks k) := by
  unfold runWord
  dsimp only
  apply KeepsOut.ite
  · apply KeepsOut.ite
    · apply KeepsOut.fault
    · apply KeepsOut.next
      apply Keeps.trans (h ..)
      refine Keeps.trans (modes_of_touch (wordOps_touch ..) (by decide)) ?_
      exact Keeps.refl _ _
  · apply KeepsOut.next
    exact Keeps.refl _ _

theorem endRoutine_modes  (s : State) (q : ℕ) (item : Option ℕ) (reason : Option ℕ) :
    Keeps ModesOk s (endRoutine s q item reason) := by
  unfold endRoutine
  split
  · apply Keeps.trans (finishMeasure_modes ..)
    exact Keeps.refl _ _
  · refine Keeps.trans (modes_of_touch (modSeq_touch ..) (by decide)) ?_
    exact Keeps.refl _ _

theorem execSeqEnd_modes  (seq : ℕ) (s : State) :
    KeepsOut ModesOk s (execSeqEnd seq s) := by
  unfold execSeqEnd
  refine KeepsOut.trans (runWord_modes (h := ?_) ..) ?_
  · intro t0 t1 t2
    apply Keeps.trans (endRoutine_modes ..)
    refine Keeps.trans (modes_of_touch (romEnd_touch ..) (by decide)) ?_
    exact Keeps.refl _ _
  · exact Keeps.refl _ _

theorem execMeasureDispatch_modes  (slot : ℕ) (s : State) :
    KeepsOut ModesOk s (execMeasureDispatch slot s) := by
  unfold execMeasureDispatch
  dsimp only
  apply KeepsOut.ite
  · apply KeepsOut.ite
    · apply KeepsOut.next
      apply Keeps.trans (endItem_modes ..)
      apply Keeps.trans (takeItem_modes ..)
      exact Keeps.refl _ _
    · apply KeepsOut.next
      apply Keeps.ite
      · refine Keeps.trans (modes_of_touch (startMeasure_touch ..) (by decide)) ?_
        refine Keeps.trans (modes_of_touch (armItem_touch ..) (by decide)) ?_
        refine Keeps.trans (modes_of_touch (snapTargets_touch ..) (by decide)) ?_
        apply Keeps.trans (takeItem_modes ..)
        exact Keeps.refl _ _
      · apply Keeps.trans (holdAsked_modes ..)
        refine Keeps.trans (modes_of_touch (armItem_touch ..) (by decide)) ?_
        refine Keeps.trans (modes_of_touch (snapTargets_touch ..) (by decide)) ?_
        apply Keeps.trans (takeItem_modes ..)
        exact Keeps.refl _ _
  · apply KeepsOut.next
    exact Keeps.refl _ _

theorem execUnwindDone_modes  (seq : ℕ) (s : State) :
    KeepsOut ModesOk s (execUnwindDone seq s) := by
  unfold execUnwindDone
  dsimp only
  refine KeepsOut.trans (runWord_modes (h := ?_) ..) ?_
  · intro t0 t1 t2
    split
    · apply Keeps.trans (endRoutine_modes ..)
      apply Keeps.ite
      · exact Keeps.refl _ _
      · apply Keeps.foldl
        · exact Keeps.refl _ _
        · intro u v
          refine Keeps.trans (modes_of_touch (applySnap_touch ..) (by decide)) ?_
          exact Keeps.refl _ _
    · apply Keeps.trans (endRoutine_modes ..)
      refine Keeps.trans (modes_of_touch (takeFree_touch ..) (by decide)) ?_
      apply Keeps.ite
      · exact Keeps.refl _ _
      · apply Keeps.foldl
        · exact Keeps.refl _ _
        · intro u v
          refine Keeps.trans (modes_of_touch (applySnap_touch ..) (by decide)) ?_
          exact Keeps.refl _ _
  · exact Keeps.refl _ _

theorem execMseqRequestTaken_modes  (seq : ℕ) (s : State) :
    KeepsOut ModesOk s (execMseqRequestTaken seq s) := by
  unfold execMseqRequestTaken
  dsimp only
  apply KeepsOut.ite
  · apply KeepsOut.ite
    · apply KeepsOut.next
      refine Keeps.trans (modes_of_touch (putItemState_touch ..) (by decide)) ?_
      refine Keeps.trans (modes_of_touch (modSeq_touch ..) (by decide)) ?_
      exact Keeps.refl _ _
    · apply KeepsOut.ite
      · apply KeepsOut.next
        exact Keeps.refl _ _
      · apply KeepsOut.next
        apply Keeps.trans (settleMode_modes ..)
        refine Keeps.trans (modes_of_touch (putItemState_touch ..) (by decide)) ?_
        refine Keeps.trans (modes_of_touch (modSeq_touch ..) (by decide)) ?_
        exact Keeps.refl _ _
  · apply KeepsOut.next
    exact Keeps.refl _ _

theorem execSeqReturn_modes  (seq : ℕ) (s : State) :
    KeepsOut ModesOk s (execSeqReturn seq s) := by
  unfold execSeqReturn
  refine KeepsOut.trans (runWord_modes (h := ?_) ..) ?_
  · intro t0 t1 t2
    split
    · refine Keeps.trans (modes_of_touch (modSeq_touch ..) (by decide)) ?_
      exact Keeps.refl _ _
    · apply Keeps.trans (endRoutine_modes ..)
      refine Keeps.trans (modes_of_touch (romEnd_touch ..) (by decide)) ?_
      exact Keeps.refl _ _
  · exact Keeps.refl _ _

theorem giveConversion_modes  (dadc : Bool) (conv : ℕ) (input : ℕ) (value : ℤ) (endOfScale : Bool) (clamped : Bool) (gap : ℕ) (s : State) :
    Keeps ModesOk s (giveConversion dadc conv input value endOfScale clamped gap s) := by
  unfold giveConversion
  dsimp only
  apply Keeps.ite
  · apply Keeps.ite
    · refine Keeps.trans (modes_of_touch (modAcq_touch ..) (by decide)) ?_
      refine Keeps.trans (modes_of_touch (giveRoutine_touch ..) (by decide)) ?_
      exact Keeps.refl _ _
    · refine Keeps.trans (modes_of_touch (giveRoutine_touch ..) (by decide)) ?_
      exact Keeps.refl _ _
  · split
    · exact Keeps.refl _ _
    · apply Keeps.ite
      · apply Keeps.trans (finishAcquire_modes ..)
        refine Keeps.trans (modes_of_touch (takeSample_touch ..) (by decide)) ?_
        refine Keeps.trans (modes_of_touch (modAcq_touch ..) (by decide)) ?_
        exact Keeps.refl _ _
      · refine Keeps.trans (modes_of_touch (takeSample_touch ..) (by decide)) ?_
        refine Keeps.trans (modes_of_touch (modAcq_touch ..) (by decide)) ?_
        exact Keeps.refl _ _

theorem execConversionDone_modes  (dadc : Bool) (conv : ℕ) (input : ℕ) (value : ℤ) (endOfScale : Bool) (clamped : Bool) (gap : ℕ) (s : State) :
    KeepsOut ModesOk s (execConversionDone dadc conv input value endOfScale clamped gap s) := by
  unfold execConversionDone
  apply KeepsOut.ite
  · apply KeepsOut.next
    refine Keeps.trans (modes_of_touch (passTurn_touch ..) (by decide)) ?_
    apply Keeps.trans (giveConversion_modes ..)
    exact Keeps.refl _ _
  · apply KeepsOut.next
    exact Keeps.refl _ _

theorem execAcquireDispatch_modes  (slot : ℕ) (s : State) :
    KeepsOut ModesOk s (execAcquireDispatch slot s) := by
  unfold execAcquireDispatch
  dsimp only
  apply KeepsOut.ite
  · apply KeepsOut.next
    refine Keeps.trans (modes_of_touch (startAcquire_touch ..) (by decide)) ?_
    refine Keeps.trans (modes_of_touch (armItem_touch ..) (by decide)) ?_
    apply Keeps.trans (takeItem_modes ..)
    exact Keeps.refl _ _
  · apply KeepsOut.next
    exact Keeps.refl _ _

theorem execBurstDispatch_modes  (slot : ℕ) (s : State) :
    KeepsOut ModesOk s (execBurstDispatch slot s) := by
  unfold execBurstDispatch
  dsimp only
  apply KeepsOut.ite
  · apply KeepsOut.ite
    · apply KeepsOut.fault
    · apply KeepsOut.next
      refine Keeps.trans (modes_of_touch (settlePins_touch ..) (by decide)) ?_
      apply Keeps.foldl
      · refine Keeps.trans (modes_of_touch (Touch.set_bursts (b := [.bursts]) (by decide) (Touch.refl _ _)) (by decide)) ?_
        apply Keeps.trans (takeItem_modes ..)
        exact Keeps.refl _ _
      · intro u v
        refine Keeps.trans (modes_of_touch (setPools_touch ..) (by decide)) ?_
        refine Keeps.trans (modes_of_touch (loadTables_touch ..) (by decide)) ?_
        refine Keeps.trans (modes_of_touch (settleCorrections_touch ..) (by decide)) ?_
        refine Keeps.trans (modes_of_touch (startPins_touch ..) (by decide)) ?_
        refine Keeps.trans (modes_of_touch (modPeb_touch ..) (by decide)) ?_
        exact Keeps.refl _ _
  · apply KeepsOut.next
    exact Keeps.refl _ _

theorem abortBurst_modes  (s : State) (slot : ℕ) (reason : ℕ) :
    Keeps ModesOk s (abortBurst s slot reason) := by
  unfold abortBurst
  apply Keeps.ite
  · refine Keeps.trans (modes_of_touch (modSlot_touch ..) (by decide)) ?_
    exact Keeps.refl _ _
  · apply Keeps.trans (finishBurst_modes ..)
    exact Keeps.refl _ _

theorem enterHold_modes  (s : State) (slot : ℕ) :
    Keeps ModesOk s (enterHold s slot) := by
  unfold enterHold
  dsimp only
  apply Keeps.trans (settleMode_modes ..)
  refine Keeps.trans (modes_of_touch (modSlot_touch ..) (by decide)) ?_
  refine Keeps.trans (modes_of_touch (idleBurst_touch ..) (by decide)) ?_
  refine Keeps.trans (modes_of_touch (modBurst_touch ..) (by decide)) ?_
  exact Keeps.refl _ _

theorem execBurstSegmentBoundary_modes  (slot : ℕ) (s : State) :
    KeepsOut ModesOk s (execBurstSegmentBoundary slot s) := by
  unfold execBurstSegmentBoundary
  dsimp only
  apply KeepsOut.ite
  · apply KeepsOut.ite
    · apply KeepsOut.next
      apply Keeps.trans (finishBurst_modes ..)
      refine Keeps.trans (modes_of_touch (mergeSegment_touch ..) (by decide)) ?_
      refine Keeps.trans (modes_of_touch (closeRuns_touch ..) (by decide)) ?_
      apply Keeps.ite
      · refine Keeps.trans (modes_of_touch (markUnderrun_touch ..) (by decide)) ?_
        refine Keeps.trans (modes_of_touch (uncountLast_touch ..) (by decide)) ?_
        exact Keeps.refl _ _
      · exact Keeps.refl _ _
    · split
      · apply KeepsOut.ite
        · apply KeepsOut.next
          apply Keeps.trans (finishBurst_modes ..)
          refine Keeps.trans (modes_of_touch (flushJunction_touch ..) (by decide)) ?_
          refine Keeps.trans (modes_of_touch (modSlot_touch ..) (by decide)) ?_
          refine Keeps.trans (modes_of_touch (mergeSegment_touch ..) (by decide)) ?_
          refine Keeps.trans (modes_of_touch (dropFaulty_touch ..) (by decide)) ?_
          refine Keeps.trans (modes_of_touch (closeRuns_touch ..) (by decide)) ?_
          apply Keeps.ite
          · refine Keeps.trans (modes_of_touch (markUnderrun_touch ..) (by decide)) ?_
            refine Keeps.trans (modes_of_touch (uncountLast_touch ..) (by decide)) ?_
            exact Keeps.refl _ _
          · exact Keeps.refl _ _
        · apply KeepsOut.ite
          · apply KeepsOut.next
            apply Keeps.trans (finishBurst_modes ..)
            refine Keeps.trans (modes_of_touch (flushJunction_touch ..) (by decide)) ?_
            refine Keeps.trans (modes_of_touch (modSlot_touch ..) (by decide)) ?_
            refine Keeps.trans (modes_of_touch (mergeSegment_touch ..) (by decide)) ?_
            refine Keeps.trans (modes_of_touch (dropFaulty_touch ..) (by decide)) ?_
            refine Keeps.trans (modes_of_touch (closeRuns_touch ..) (by decide)) ?_
            apply Keeps.ite
            · refine Keeps.trans (modes_of_touch (markUnderrun_touch ..) (by decide)) ?_
              refine Keeps.trans (modes_of_touch (uncountLast_touch ..) (by decide)) ?_
              exact Keeps.refl _ _
            · exact Keeps.refl _ _
          · apply KeepsOut.next
            apply Keeps.trans (finishBurst_modes ..)
            refine Keeps.trans (modes_of_touch (flushJunction_touch ..) (by decide)) ?_
            refine Keeps.trans (modes_of_touch (modSlot_touch ..) (by decide)) ?_
            refine Keeps.trans (modes_of_touch (mergeSegment_touch ..) (by decide)) ?_
            refine Keeps.trans (modes_of_touch (dropFaulty_touch ..) (by decide)) ?_
            refine Keeps.trans (modes_of_touch (closeRuns_touch ..) (by decide)) ?_
            apply Keeps.ite
            · refine Keeps.trans (modes_of_touch (markUnderrun_touch ..) (by decide)) ?_
              refine Keeps.trans (modes_of_touch (uncountLast_touch ..) (by decide)) ?_
              exact Keeps.refl _ _
            · exact Keeps.refl _ _
      · apply KeepsOut.ite
        · apply KeepsOut.next
          apply Keeps.trans (finishBurst_modes ..)
          refine Keeps.trans (modes_of_touch (flushJunction_touch ..) (by decide)) ?_
          refine Keeps.trans (modes_of_touch (modSlot_touch ..) (by decide)) ?_
          refine Keeps.trans (modes_of_touch (mergeSegment_touch ..) (by decide)) ?_
          refine Keeps.trans (modes_of_touch (dropFaulty_touch ..) (by decide)) ?_
          refine Keeps.trans (modes_of_touch (closeRuns_touch ..) (by decide)) ?_
          apply Keeps.ite
          · refine Keeps.trans (modes_of_touch (markUnderrun_touch ..) (by decide)) ?_
            refine Keeps.trans (modes_of_touch (uncountLast_touch ..) (by decide)) ?_
            exact Keeps.refl _ _
          · exact Keeps.refl _ _
        · apply KeepsOut.ite
          · apply KeepsOut.next
            apply Keeps.trans (enterHold_modes ..)
            refine Keeps.trans (modes_of_touch (flushJunction_touch ..) (by decide)) ?_
            refine Keeps.trans (modes_of_touch (modSlot_touch ..) (by decide)) ?_
            refine Keeps.trans (modes_of_touch (mergeSegment_touch ..) (by decide)) ?_
            refine Keeps.trans (modes_of_touch (dropFaulty_touch ..) (by decide)) ?_
            refine Keeps.trans (modes_of_touch (closeRuns_touch ..) (by decide)) ?_
            apply Keeps.ite
            · refine Keeps.trans (modes_of_touch (markUnderrun_touch ..) (by decide)) ?_
              refine Keeps.trans (modes_of_touch (uncountLast_touch ..) (by decide)) ?_
              exact Keeps.refl _ _
            · exact Keeps.refl _ _
          · apply KeepsOut.next
            refine Keeps.trans (modes_of_touch (leaveBoundary_touch ..) (by decide)) ?_
            refine Keeps.trans (modes_of_touch (flushJunction_touch ..) (by decide)) ?_
            refine Keeps.trans (modes_of_touch (modSlot_touch ..) (by decide)) ?_
            refine Keeps.trans (modes_of_touch (mergeSegment_touch ..) (by decide)) ?_
            refine Keeps.trans (modes_of_touch (dropFaulty_touch ..) (by decide)) ?_
            refine Keeps.trans (modes_of_touch (closeRuns_touch ..) (by decide)) ?_
            apply Keeps.ite
            · refine Keeps.trans (modes_of_touch (markUnderrun_touch ..) (by decide)) ?_
              refine Keeps.trans (modes_of_touch (uncountLast_touch ..) (by decide)) ?_
              exact Keeps.refl _ _
            · exact Keeps.refl _ _
  · apply KeepsOut.next
    exact Keeps.refl _ _

theorem laneStep_modes  (s : State) (slot : ℕ) (n : ℕ) (f : Lane → Lane) :
    Keeps ModesOk s (laneStep s slot n f) := by
  unfold laneStep
  dsimp only
  apply Keeps.ite
  · apply Keeps.trans (finishLane_modes ..)
    refine Keeps.trans (modes_of_touch (laneProgress_touch ..) (by decide)) ?_
    refine Keeps.trans (modes_of_touch (modLane_touch ..) (by decide)) ?_
    exact Keeps.refl _ _
  · refine Keeps.trans (modes_of_touch (laneProgress_touch ..) (by decide)) ?_
    refine Keeps.trans (modes_of_touch (modLane_touch ..) (by decide)) ?_
    exact Keeps.refl _ _

theorem execEyePointDone_modes  (lane : ℕ) (mismatches : ℕ) (s : State) :
    KeepsOut ModesOk s (execEyePointDone lane mismatches s) := by
  unfold execEyePointDone
  dsimp only
  split
  · apply KeepsOut.ite
    · apply KeepsOut.next
      apply Keeps.trans (laneStep_modes ..)
      exact Keeps.refl _ _
    · apply KeepsOut.next
      exact Keeps.refl _ _
  · apply KeepsOut.next
    exact Keeps.refl _ _

theorem execLaneRxLock_modes  (lane : ℕ) (freqOffset : ℤ) (s : State) :
    KeepsOut ModesOk s (execLaneRxLock lane freqOffset s) := by
  unfold execLaneRxLock
  split
  · apply KeepsOut.next
    apply Keeps.trans (laneStep_modes ..)
    exact Keeps.refl _ _
  · apply KeepsOut.next
    refine Keeps.trans (modes_of_touch (idleRx_touch ..) (by decide)) ?_
    exact Keeps.refl _ _

theorem execNoLock_modes  (lane : ℕ) (s : State) :
    KeepsOut ModesOk s (execNoLock lane s) := by
  unfold execNoLock
  dsimp only
  split
  · apply KeepsOut.ite
    · apply KeepsOut.next
      exact Keeps.refl _ _
    · apply KeepsOut.next
      apply Keeps.trans (laneStep_modes ..)
      exact Keeps.refl _ _
  · apply KeepsOut.next
    exact Keeps.refl _ _

theorem execLaneClassRecognised_modes  (lane : ℕ) (cls : ℕ) (inverted : Bool) (s : State) :
    KeepsOut ModesOk s (execLaneClassRecognised lane cls inverted s) := by
  unfold execLaneClassRecognised
  dsimp only
  split
  · apply KeepsOut.ite
    · apply KeepsOut.next
      apply Keeps.trans (laneStep_modes ..)
      exact Keeps.refl _ _
    · apply KeepsOut.next
      exact Keeps.refl _ _
  · apply KeepsOut.next
    exact Keeps.refl _ _

theorem execLaneBitsReached_modes  (lane : ℕ) (bits : ℕ) (errors : BitErrors) (s : State) :
    KeepsOut ModesOk s (execLaneBitsReached lane bits errors s) := by
  unfold execLaneBitsReached
  dsimp only
  split
  · apply KeepsOut.ite
    · apply KeepsOut.next
      exact Keeps.refl _ _
    · apply KeepsOut.next
      apply Keeps.trans (laneStep_modes ..)
      exact Keeps.refl _ _
  · apply KeepsOut.next
    exact Keeps.refl _ _

theorem execLaneLockLoss_modes  (lane : ℕ) (s : State) :
    KeepsOut ModesOk s (execLaneLockLoss lane s) := by
  unfold execLaneLockLoss
  split
  · apply KeepsOut.ite
    · apply KeepsOut.next
      apply Keeps.trans (laneStep_modes ..)
      exact Keeps.refl _ _
    · apply KeepsOut.next
      exact Keeps.refl _ _
  · apply KeepsOut.next
    refine Keeps.trans (modes_of_touch (idleRx_touch ..) (by decide)) ?_
    exact Keeps.refl _ _

theorem execLaneSyncDrop_modes  (lane : ℕ) (bits : ℕ) (errors : BitErrors) (s : State) :
    KeepsOut ModesOk s (execLaneSyncDrop lane bits errors s) := by
  unfold execLaneSyncDrop
  dsimp only
  split
  · apply KeepsOut.ite
    · apply KeepsOut.next
      apply Keeps.trans (laneStep_modes ..)
      exact Keeps.refl _ _
    · apply KeepsOut.next
      exact Keeps.refl _ _
  · apply KeepsOut.next
    exact Keeps.refl _ _

theorem execLanePrbsSync_modes  (lane : ℕ) (inverted : Bool) (s : State) :
    KeepsOut ModesOk s (execLanePrbsSync lane inverted s) := by
  unfold execLanePrbsSync
  dsimp only
  split
  · apply KeepsOut.ite
    · apply KeepsOut.next
      apply Keeps.trans (laneStep_modes ..)
      exact Keeps.refl _ _
    · apply KeepsOut.next
      exact Keeps.refl _ _
  · apply KeepsOut.next
    exact Keeps.refl _ _

theorem execLaneDispatch_modes  (slot : ℕ) (s : State) :
    KeepsOut ModesOk s (execLaneDispatch slot s) := by
  unfold execLaneDispatch
  dsimp only
  apply KeepsOut.ite
  · apply KeepsOut.next
    apply Keeps.ite
    · refine Keeps.trans (modes_of_touch (startLane_touch ..) (by decide)) ?_
      refine Keeps.trans (modes_of_touch (takeLanes_touch ..) (by decide)) ?_
      refine Keeps.trans (modes_of_touch (armItem_touch ..) (by decide)) ?_
      apply Keeps.trans (takeItem_modes ..)
      exact Keeps.refl _ _
    · refine Keeps.trans (modes_of_touch (takeLanes_touch ..) (by decide)) ?_
      refine Keeps.trans (modes_of_touch (armItem_touch ..) (by decide)) ?_
      apply Keeps.trans (takeItem_modes ..)
      exact Keeps.refl _ _
  · apply KeepsOut.next
    exact Keeps.refl _ _

theorem execNoSync_modes  (lane : ℕ) (s : State) :
    KeepsOut ModesOk s (execNoSync lane s) := by
  unfold execNoSync
  dsimp only
  split
  · apply KeepsOut.ite
    · apply KeepsOut.next
      apply Keeps.trans (laneStep_modes ..)
      exact Keeps.refl _ _
    · apply KeepsOut.next
      exact Keeps.refl _ _
  · apply KeepsOut.next
    exact Keeps.refl _ _

theorem endMeasurement_modes  (s : State) (slot : ℕ) (t : ℕ) (k : ℕ) (a4 : ℤ) (a5 : ℤ) :
    Keeps ModesOk s (endMeasurement s slot t k a4 a5) := by
  unfold endMeasurement
  dsimp only
  apply Keeps.ite
  · apply Keeps.trans (finishTdc_modes ..)
    refine Keeps.trans (modes_of_touch (modSlot_touch ..) (by decide)) ?_
    refine Keeps.trans (modes_of_touch (modTdc_touch ..) (by decide)) ?_
    refine Keeps.trans (modes_of_touch (queueWrite_touch ..) (by decide)) ?_
    exact Keeps.refl _ _
  · refine Keeps.trans (modes_of_touch (modSlot_touch ..) (by decide)) ?_
    refine Keeps.trans (modes_of_touch (modTdc_touch ..) (by decide)) ?_
    refine Keeps.trans (modes_of_touch (queueWrite_touch ..) (by decide)) ?_
    exact Keeps.refl _ _

theorem execTdcEdge_modes  (tdc : ℕ) (stop : Bool) (sampled : EdgeAt) (near : Bool) (s : State) :
    KeepsOut ModesOk s (execTdcEdge tdc stop sampled near s) := by
  unfold execTdcEdge
  dsimp only
  apply KeepsOut.ite
  · apply KeepsOut.next
    exact Keeps.refl _ _
  · split
    · apply KeepsOut.next
      refine Keeps.trans (modes_of_touch (modTdc_touch ..) (by decide)) ?_
      exact Keeps.refl _ _
    · apply KeepsOut.next
      refine Keeps.trans (modes_of_touch (modTdc_touch ..) (by decide)) ?_
      refine Keeps.trans (modes_of_touch (modTdc_touch ..) (by decide)) ?_
      exact Keeps.refl _ _
    · split
      · apply KeepsOut.next
        apply Keeps.trans (endMeasurement_modes ..)
        refine Keeps.trans (modes_of_touch (modTdc_touch ..) (by decide)) ?_
        refine Keeps.trans (modes_of_touch (modTdc_touch ..) (by decide)) ?_
        exact Keeps.refl _ _
      · apply KeepsOut.next
        refine Keeps.trans (modes_of_touch (modTdc_touch ..) (by decide)) ?_
        refine Keeps.trans (modes_of_touch (modTdc_touch ..) (by decide)) ?_
        exact Keeps.refl _ _
    · apply KeepsOut.next
      refine Keeps.trans (modes_of_touch (modTdc_touch ..) (by decide)) ?_
      exact Keeps.refl _ _

theorem execTdcDispatch_modes  (slot : ℕ) (s : State) :
    KeepsOut ModesOk s (execTdcDispatch slot s) := by
  unfold execTdcDispatch
  dsimp only
  apply KeepsOut.ite
  · apply KeepsOut.next
    apply Keeps.ite
    · refine Keeps.trans (modes_of_touch (startTdc_touch ..) (by decide)) ?_
      refine Keeps.trans (modes_of_touch (armItem_touch ..) (by decide)) ?_
      refine Keeps.trans (modes_of_touch (claimTdcs_touch ..) (by decide)) ?_
      apply Keeps.trans (takeItem_modes ..)
      exact Keeps.refl _ _
    · refine Keeps.trans (modes_of_touch (armItem_touch ..) (by decide)) ?_
      refine Keeps.trans (modes_of_touch (claimTdcs_touch ..) (by decide)) ?_
      apply Keeps.trans (takeItem_modes ..)
      exact Keeps.refl _ _
  · apply KeepsOut.next
    exact Keeps.refl _ _

theorem execTransferDispatch_modes  (slot : ℕ) (s : State) :
    KeepsOut ModesOk s (execTransferDispatch slot s) := by
  unfold execTransferDispatch
  dsimp only
  apply KeepsOut.ite
  · apply KeepsOut.next
    refine Keeps.trans (modes_of_touch (fetchDesc_touch ..) (by decide)) ?_
    refine Keeps.trans (modes_of_touch (modDma_touch ..) (by decide)) ?_
    apply Keeps.trans (takeItem_modes ..)
    exact Keeps.refl _ _
  · apply KeepsOut.next
    exact Keeps.refl _ _

theorem finishTransfer_modes  (s : State) (c : ℕ) (reason : Option ℕ) :
    Keeps ModesOk s (finishTransfer s c reason) := by
  unfold finishTransfer
  dsimp only
  split
  · apply Keeps.trans (endItem_modes ..)
    refine Keeps.trans (modes_of_touch (Touch.set_dmas (b := [.dmas]) (by decide) (Touch.refl _ _)) (by decide)) ?_
    exact Keeps.refl _ _
  · refine Keeps.trans (modes_of_touch (Touch.set_dmas (b := [.dmas]) (by decide) (Touch.refl _ _)) (by decide)) ?_
    exact Keeps.refl _ _

theorem descDone_modes  (s : State) (c : ℕ) :
    Keeps ModesOk s (descDone s c) := by
  unfold descDone
  dsimp only
  apply Keeps.ite
  · apply Keeps.trans (finishTransfer_modes ..)
    apply Keeps.ite
    · refine Keeps.trans (modes_of_touch (modQueue_touch ..) (by decide)) ?_
      exact Keeps.refl _ _
    · exact Keeps.refl _ _
  · split
    · apply Keeps.ite
      · refine Keeps.trans (modes_of_touch (modQueue_touch ..) (by decide)) ?_
        exact Keeps.refl _ _
      · exact Keeps.refl _ _
    · apply Keeps.ite
      · apply Keeps.trans (finishTransfer_modes ..)
        refine Keeps.trans (modes_of_touch (modSlot_touch ..) (by decide)) ?_
        apply Keeps.ite
        · refine Keeps.trans (modes_of_touch (modQueue_touch ..) (by decide)) ?_
          exact Keeps.refl _ _
        · exact Keeps.refl _ _
      · split
        · apply Keeps.trans (finishTransfer_modes ..)
          refine Keeps.trans (modes_of_touch (modSlot_touch ..) (by decide)) ?_
          apply Keeps.ite
          · refine Keeps.trans (modes_of_touch (modQueue_touch ..) (by decide)) ?_
            exact Keeps.refl _ _
          · exact Keeps.refl _ _
        · refine Keeps.trans (modes_of_touch (fetchDesc_touch ..) (by decide)) ?_
          refine Keeps.trans (modes_of_touch (modSlot_touch ..) (by decide)) ?_
          apply Keeps.ite
          · refine Keeps.trans (modes_of_touch (modQueue_touch ..) (by decide)) ?_
            exact Keeps.refl _ _
          · exact Keeps.refl _ _

theorem writebackAnswered_modes  (s : State) (c : ℕ) (status : ℕ) :
    Keeps ModesOk s (writebackAnswered s c status) := by
  unfold writebackAnswered
  dsimp only
  apply Keeps.ite
  · apply Keeps.trans (finishTransfer_modes ..)
    refine Keeps.trans (modes_of_touch (rewindSource_touch ..) (by decide)) ?_
    exact Keeps.refl _ _
  · apply Keeps.trans (descDone_modes ..)
    refine Keeps.trans (modes_of_touch (memWrite_touch ..) (by decide)) ?_
    exact Keeps.refl _ _

theorem execDmaWritebackAck_modes  (ch : ℕ) (status : ℕ) (s : State) :
    KeepsOut ModesOk s (execDmaWritebackAck ch status s) := by
  unfold execDmaWritebackAck
  dsimp only
  apply KeepsOut.ite
  · apply KeepsOut.next
    apply Keeps.trans (writebackAnswered_modes ..)
    refine Keeps.trans (modes_of_touch (Touch.set_fabric (b := [.fabric]) (by decide) (Touch.refl _ _)) (by decide)) ?_
    exact Keeps.refl _ _
  · apply KeepsOut.next
    exact Keeps.refl _ _

theorem execDmaStopWaitEnd_modes  (ch : ℕ) (s : State) :
    KeepsOut ModesOk s (execDmaStopWaitEnd ch s) := by
  unfold execDmaStopWaitEnd
  dsimp only
  apply KeepsOut.ite
  · apply KeepsOut.next
    refine Keeps.trans (modes_of_touch (idleDma_touch ..) (by decide)) ?_
    exact Keeps.refl _ _
  · split
    · apply KeepsOut.ite
      · apply KeepsOut.next
        refine Keeps.trans (modes_of_touch (idleDma_touch ..) (by decide)) ?_
        apply Keeps.trans (endItem_modes ..)
        refine Keeps.trans (modes_of_touch (stopDma_touch ..) (by decide)) ?_
        exact Keeps.refl _ _
      · apply KeepsOut.next
        exact Keeps.refl _ _
    · apply KeepsOut.next
      exact Keeps.refl _ _

theorem descArrives_modes  (s : State) (c : ℕ) (status : ℕ) (rem : Remote) :
    KeepsOut ModesOk s (descArrives s c status rem) := by
  unfold descArrives
  dsimp only
  apply KeepsOut.ite
  · apply KeepsOut.next
    exact Keeps.refl _ _
  · split
    · apply KeepsOut.next
      apply Keeps.trans (finishTransfer_modes ..)
      exact Keeps.refl _ _
    · apply KeepsOut.ite
      · apply KeepsOut.next
        apply Keeps.trans (finishTransfer_modes ..)
        exact Keeps.refl _ _
      · split
        · apply KeepsOut.fault
        · apply KeepsOut.next
          refine Keeps.trans (modes_of_touch (beginDesc_touch ..) (by decide)) ?_
          exact Keeps.refl _ _

theorem execDmaDescriptorFetched_modes  (ch : ℕ) (status : ℕ) (rem : Remote) (s : State) :
    KeepsOut ModesOk s (execDmaDescriptorFetched ch status rem s) := by
  unfold execDmaDescriptorFetched
  apply KeepsOut.ite
  · apply KeepsOut.trans (descArrives_modes ..)
    refine Keeps.trans (modes_of_touch (settleOutst_touch ..) (by decide)) ?_
    exact Keeps.refl _ _
  · apply KeepsOut.next
    exact Keeps.refl _ _

theorem execDpsDispatch_modes  (slot : ℕ) (s : State) :
    KeepsOut ModesOk s (execDpsDispatch slot s) := by
  unfold execDpsDispatch
  dsimp only
  apply KeepsOut.ite
  · apply KeepsOut.next
    apply Keeps.trans (holdAsked_modes ..)
    apply Keeps.ite
    · refine Keeps.trans (modes_of_touch (startDps_touch ..) (by decide)) ?_
      refine Keeps.trans (modes_of_touch (armItem_touch ..) (by decide)) ?_
      refine Keeps.trans (modes_of_touch (Touch.set_dps (b := [.dps]) (by decide) (Touch.refl _ _)) (by decide)) ?_
      apply Keeps.trans (takeItem_modes ..)
      exact Keeps.refl _ _
    · refine Keeps.trans (modes_of_touch (armItem_touch ..) (by decide)) ?_
      refine Keeps.trans (modes_of_touch (Touch.set_dps (b := [.dps]) (by decide) (Touch.refl _ _)) (by decide)) ?_
      apply Keeps.trans (takeItem_modes ..)
      exact Keeps.refl _ _
  · apply KeepsOut.next
    exact Keeps.refl _ _

theorem execDpsDischargeDone_modes  (n : ℕ) (s : State) :
    KeepsOut ModesOk s (execDpsDischargeDone n s) := by
  unfold execDpsDischargeDone
  dsimp only
  apply KeepsOut.ite
  · apply KeepsOut.next
    apply Keeps.trans (finishDisarm_modes ..)
    refine Keeps.trans (modes_of_touch (putDps_touch ..) (by decide)) ?_
    refine Keeps.trans (modes_of_touch (takeFree_touch ..) (by decide)) ?_
    refine Keeps.trans (modes_of_touch (takeFree_touch ..) (by decide)) ?_
    refine Keeps.trans (modes_of_touch (modDps_touch ..) (by decide)) ?_
    exact Keeps.refl _ _
  · apply KeepsOut.next
    exact Keeps.refl _ _

theorem execDpsBudgetTimeout_modes  (slot : ℕ) (s : State) :
    KeepsOut ModesOk s (execDpsBudgetTimeout slot s) := by
  unfold execDpsBudgetTimeout
  dsimp only
  apply KeepsOut.ite
  · apply KeepsOut.next
    apply Keeps.trans (finishDps_modes ..)
    exact Keeps.refl _ _
  · apply KeepsOut.next
    exact Keeps.refl _ _

theorem execDpsRampStep_modes  (slot : ℕ) (s : State) :
    KeepsOut ModesOk s (execDpsRampStep slot s) := by
  unfold execDpsRampStep
  dsimp only
  apply KeepsOut.ite
  · split
    · apply KeepsOut.next
      apply Keeps.trans (finishDps_modes ..)
      exact Keeps.refl _ _
    · apply KeepsOut.next
      apply Keeps.ite
      · apply Keeps.trans (finishDps_modes ..)
        refine Keeps.trans (modes_of_touch (modSlot_touch ..) (by decide)) ?_
        apply Keeps.foldl
        · refine Keeps.trans (modes_of_touch (Touch.set_dps (b := [.dps]) (by decide) (Touch.refl _ _)) (by decide)) ?_
          exact Keeps.refl _ _
        · intro u v
          refine Keeps.trans (modes_of_touch (rampCode_touch ..) (by decide)) ?_
          exact Keeps.refl _ _
      · refine Keeps.trans (modes_of_touch (modSlot_touch ..) (by decide)) ?_
        apply Keeps.foldl
        · refine Keeps.trans (modes_of_touch (Touch.set_dps (b := [.dps]) (by decide) (Touch.refl _ _)) (by decide)) ?_
          exact Keeps.refl _ _
        · intro u v
          refine Keeps.trans (modes_of_touch (rampCode_touch ..) (by decide)) ?_
          exact Keeps.refl _ _
  · apply KeepsOut.next
    exact Keeps.refl _ _

theorem abortDps_modes  (s : State) (slot : ℕ) (reason : ℕ) :
    Keeps ModesOk s (abortDps s slot reason) := by
  unfold abortDps
  dsimp only
  apply Keeps.ite
  · refine Keeps.trans (modes_of_touch (modSlot_touch ..) (by decide)) ?_
    exact Keeps.refl _ _
  · apply Keeps.trans (finishDps_modes ..)
    exact Keeps.refl _ _

theorem execDpsDisarmOutputDisable_modes  (n : ℕ) (s : State) :
    KeepsOut ModesOk s (execDpsDisarmOutputDisable n s) := by
  unfold execDpsDisarmOutputDisable
  apply KeepsOut.ite
  · apply KeepsOut.next
    apply Keeps.trans (finishDisarm_modes ..)
    refine Keeps.trans (modes_of_touch (modDps_touch ..) (by decide)) ?_
    exact Keeps.refl _ _
  · apply KeepsOut.next
    exact Keeps.refl _ _

theorem changeClock_modes  (s : State) (f : State → State)
    (h : ∀ t0, Keeps ModesOk t0 (f t0)) :
    Keeps ModesOk s (changeClock s f) := by
  unfold changeClock
  dsimp only
  apply Keeps.ite
  · apply Keeps.trans (h ..)
    exact Keeps.refl _ _
  · refine Keeps.trans (modes_of_touch (deviceNotice_touch ..) (by decide)) ?_
    apply Keeps.ite
    · apply Keeps.trans (h ..)
      exact Keeps.refl _ _
    · refine Keeps.trans (modes_of_touch (Touch.set_hw (b := [.hw]) (by decide) (Touch.refl _ _)) (by decide)) ?_
      apply Keeps.trans (h ..)
      exact Keeps.refl _ _

theorem askMeasure_modes  (s : State) (slot : ℕ) (reason : ℕ) :
    Keeps ModesOk s (askMeasure s slot reason) := by
  unfold askMeasure
  apply Keeps.ite
  · refine Keeps.trans (modes_of_touch (requestMeasure_touch ..) (by decide)) ?_
    exact Keeps.refl _ _
  · apply Keeps.trans (endItem_modes ..)
    exact Keeps.refl _ _

theorem faultBurst_modes  (s : State) (a1 : ℕ) (slot : ℕ) :
    Keeps ModesOk s (faultBurst s a1 slot) := by
  unfold faultBurst
  dsimp only
  apply Keeps.ite
  · apply Keeps.trans (finishBurst_modes ..)
    refine Keeps.trans (modes_of_touch (modBurst_touch ..) (by decide)) ?_
    exact Keeps.refl _ _
  · apply Keeps.trans (abortBurst_modes ..)
    refine Keeps.trans (modes_of_touch (modBurst_touch ..) (by decide)) ?_
    exact Keeps.refl _ _

theorem faultItem_modes  (s : State) (a1 : ℕ) (slot : ℕ) :
    Keeps ModesOk s (faultItem s a1 slot) := by
  unfold faultItem
  dsimp only
  split
  · apply Keeps.ite
    · apply Keeps.trans (endNow_modes ..)
      exact Keeps.refl _ _
    · apply Keeps.trans (askMeasure_modes ..)
      exact Keeps.refl _ _
  · apply Keeps.trans (faultBurst_modes ..)
    exact Keeps.refl _ _
  · apply Keeps.ite
    · apply Keeps.trans (failCal_modes ..)
      exact Keeps.refl _ _
    · apply Keeps.trans (failCal_modes ..)
      apply Keeps.ite
      · refine Keeps.trans (modes_of_touch (setUnit_touch ..) (by decide)) ?_
        exact Keeps.refl _ _
      · exact Keeps.refl _ _
  · apply Keeps.trans (endNow_modes ..)
    exact Keeps.refl _ _

theorem execItemTimeLimit_modes  (slot : ℕ) (s : State) :
    KeepsOut ModesOk s (execItemTimeLimit slot s) := by
  unfold execItemTimeLimit
  dsimp only
  apply KeepsOut.ite
  · split
    · apply KeepsOut.next
      apply Keeps.trans (askMeasure_modes ..)
      exact Keeps.refl _ _
    · apply KeepsOut.next
      apply Keeps.trans (finishTdc_modes ..)
      exact Keeps.refl _ _
    · apply KeepsOut.next
      apply Keeps.trans (finishAcquire_modes ..)
      exact Keeps.refl _ _
    · apply KeepsOut.next
      apply Keeps.trans (finishLane_modes ..)
      exact Keeps.refl _ _
    · apply KeepsOut.next
      exact Keeps.refl _ _
  · apply KeepsOut.next
    exact Keeps.refl _ _

theorem clockItem_modes  (s : State) (slot : ℕ) :
    Keeps ModesOk s (clockItem s slot) := by
  unfold clockItem
  dsimp only
  split
  · apply Keeps.trans (finishBurst_modes ..)
    refine Keeps.trans (modes_of_touch (clockRecord_touch ..) (by decide)) ?_
    exact Keeps.refl _ _
  · apply Keeps.ite
    · apply Keeps.trans (endItem_modes ..)
      exact Keeps.refl _ _
    · exact Keeps.refl _ _
  · refine Keeps.trans (modes_of_touch (modSlot_touch ..) (by decide)) ?_
    exact Keeps.refl _ _
  · refine Keeps.trans (modes_of_touch (modSlot_touch ..) (by decide)) ?_
    exact Keeps.refl _ _
  · exact Keeps.refl _ _
  · apply Keeps.trans (failCal_modes ..)
    exact Keeps.refl _ _
  · apply Keeps.trans (endNow_modes ..)
    exact Keeps.refl _ _

theorem containUnit_modes  (s : State) (a1 : ℕ) :
    Keeps ModesOk s (containUnit s a1) := by
  unfold containUnit
  dsimp only
  apply Keeps.trans (settleCal_modes ..)
  refine Keeps.trans (modes_of_touch (refuseMaintain_touch ..) (by decide)) ?_
  refine Keeps.trans (modes_of_touch (unitSafeState_touch ..) (by decide)) ?_
  refine Keeps.trans (modes_of_touch (modUnit_touch ..) (by decide)) ?_
  refine Keeps.trans (modes_of_touch (setUnit_touch ..) (by decide)) ?_
  apply Keeps.foldl
  · refine Keeps.trans (modes_of_touch (stopAdrift_touch ..) (by decide)) ?_
    refine Keeps.trans (modes_of_touch (unitSafeState_touch ..) (by decide)) ?_
    exact Keeps.refl _ _
  · intro u v
    apply Keeps.ite
    · apply Keeps.trans (faultItem_modes ..)
      exact Keeps.refl _ _
    · exact Keeps.refl _ _

theorem abortItem_modes  (s : State) (slot : ℕ) :
    Keeps ModesOk s (abortItem s slot) := by
  unfold abortItem
  dsimp only
  apply Keeps.ite
  · apply Keeps.trans (endQueued_modes ..)
    exact Keeps.refl _ _
  · split
    · apply Keeps.trans (abortBurst_modes ..)
      exact Keeps.refl _ _
    · apply Keeps.trans (askMeasure_modes ..)
      exact Keeps.refl _ _
    · refine Keeps.trans (modes_of_touch (markCause_touch ..) (by decide)) ?_
      exact Keeps.refl _ _
    · apply Keeps.trans (abortDps_modes ..)
      exact Keeps.refl _ _
    · apply Keeps.trans (failCal_modes ..)
      exact Keeps.refl _ _
    · apply Keeps.trans (endNow_modes ..)
      exact Keeps.refl _ _

theorem ledgerError_modes  (s : State) (slot : ℕ) :
    Keeps ModesOk s (ledgerError s slot) := by
  unfold ledgerError
  dsimp only
  apply Keeps.ite
  · exact Keeps.refl _ _
  · apply Keeps.ite
    · refine Keeps.trans (modes_of_touch (retireSlot_touch ..) (by decide)) ?_
      refine Keeps.trans (modes_of_touch (modSlot_touch ..) (by decide)) ?_
      apply Keeps.ite
      · apply Keeps.trans (endItem_modes ..)
        refine Keeps.trans (modes_of_touch (modSlot_touch ..) (by decide)) ?_
        apply Keeps.ite
        · refine Keeps.trans (modes_of_touch (modUnit_touch ..) (by decide)) ?_
          exact Keeps.refl _ _
        · exact Keeps.refl _ _
      · apply Keeps.ite
        · apply Keeps.trans (endNow_modes ..)
          refine Keeps.trans (modes_of_touch (modSlot_touch ..) (by decide)) ?_
          apply Keeps.ite
          · refine Keeps.trans (modes_of_touch (modUnit_touch ..) (by decide)) ?_
            exact Keeps.refl _ _
          · exact Keeps.refl _ _
        · refine Keeps.trans (modes_of_touch (modSlot_touch ..) (by decide)) ?_
          apply Keeps.ite
          · refine Keeps.trans (modes_of_touch (modUnit_touch ..) (by decide)) ?_
            exact Keeps.refl _ _
          · exact Keeps.refl _ _
    · apply Keeps.ite
      · refine Keeps.trans (modes_of_touch (notice_touch ..) (by decide)) ?_
        refine Keeps.trans (modes_of_touch (modSlot_touch ..) (by decide)) ?_
        apply Keeps.ite
        · apply Keeps.trans (endItem_modes ..)
          refine Keeps.trans (modes_of_touch (modSlot_touch ..) (by decide)) ?_
          apply Keeps.ite
          · refine Keeps.trans (modes_of_touch (modUnit_touch ..) (by decide)) ?_
            exact Keeps.refl _ _
          · exact Keeps.refl _ _
        · apply Keeps.ite
          · apply Keeps.trans (endNow_modes ..)
            refine Keeps.trans (modes_of_touch (modSlot_touch ..) (by decide)) ?_
            apply Keeps.ite
            · refine Keeps.trans (modes_of_touch (modUnit_touch ..) (by decide)) ?_
              exact Keeps.refl _ _
            · exact Keeps.refl _ _
          · refine Keeps.trans (modes_of_touch (modSlot_touch ..) (by decide)) ?_
            apply Keeps.ite
            · refine Keeps.trans (modes_of_touch (modUnit_touch ..) (by decide)) ?_
              exact Keeps.refl _ _
            · exact Keeps.refl _ _
      · refine Keeps.trans (modes_of_touch (modSlot_touch ..) (by decide)) ?_
        apply Keeps.ite
        · apply Keeps.trans (endItem_modes ..)
          refine Keeps.trans (modes_of_touch (modSlot_touch ..) (by decide)) ?_
          apply Keeps.ite
          · refine Keeps.trans (modes_of_touch (modUnit_touch ..) (by decide)) ?_
            exact Keeps.refl _ _
          · exact Keeps.refl _ _
        · apply Keeps.ite
          · apply Keeps.trans (endNow_modes ..)
            refine Keeps.trans (modes_of_touch (modSlot_touch ..) (by decide)) ?_
            apply Keeps.ite
            · refine Keeps.trans (modes_of_touch (modUnit_touch ..) (by decide)) ?_
              exact Keeps.refl _ _
            · exact Keeps.refl _ _
          · refine Keeps.trans (modes_of_touch (modSlot_touch ..) (by decide)) ?_
            apply Keeps.ite
            · refine Keeps.trans (modes_of_touch (modUnit_touch ..) (by decide)) ?_
              exact Keeps.refl _ _
            · exact Keeps.refl _ _

theorem memoryError_modes  (s : State) (page : ℕ) (uncorr : Bool) :
    Keeps ModesOk s (memoryError s page uncorr) := by
  unfold memoryError
  dsimp only
  split
  · apply Keeps.ite
    · apply Keeps.trans (cutTransfer_modes ..)
      refine Keeps.trans (modes_of_touch (takeFree_touch ..) (by decide)) ?_
      split
      · refine Keeps.trans (modes_of_touch (takeFree_touch ..) (by decide)) ?_
        exact Keeps.refl _ _
      · apply Keeps.ite
        · refine Keeps.trans (modes_of_touch (Touch.set_levee (b := [.levee]) (by decide) (Touch.refl _ _)) (by decide)) ?_
          refine Keeps.trans (modes_of_touch (takeFree_touch ..) (by decide)) ?_
          exact Keeps.refl _ _
        · refine Keeps.trans (modes_of_touch (takeFree_touch ..) (by decide)) ?_
          exact Keeps.refl _ _
    · apply Keeps.trans (abortBurst_modes ..)
      refine Keeps.trans (modes_of_touch (takeFree_touch ..) (by decide)) ?_
      split
      · refine Keeps.trans (modes_of_touch (takeFree_touch ..) (by decide)) ?_
        exact Keeps.refl _ _
      · apply Keeps.ite
        · refine Keeps.trans (modes_of_touch (Touch.set_levee (b := [.levee]) (by decide) (Touch.refl _ _)) (by decide)) ?_
          refine Keeps.trans (modes_of_touch (takeFree_touch ..) (by decide)) ?_
          exact Keeps.refl _ _
        · refine Keeps.trans (modes_of_touch (takeFree_touch ..) (by decide)) ?_
          exact Keeps.refl _ _
  · refine Keeps.trans (modes_of_touch (takeFree_touch ..) (by decide)) ?_
    split
    · refine Keeps.trans (modes_of_touch (takeFree_touch ..) (by decide)) ?_
      exact Keeps.refl _ _
    · apply Keeps.ite
      · refine Keeps.trans (modes_of_touch (Touch.set_levee (b := [.levee]) (by decide) (Touch.refl _ _)) (by decide)) ?_
        refine Keeps.trans (modes_of_touch (takeFree_touch ..) (by decide)) ?_
        exact Keeps.refl _ _
      · refine Keeps.trans (modes_of_touch (takeFree_touch ..) (by decide)) ?_
        exact Keeps.refl _ _

theorem bufferError_modes  (s : State) (detail : ℕ) :
    Keeps ModesOk s (bufferError s detail) := by
  unfold bufferError
  apply Keeps.ite
  · split
    · apply Keeps.trans (cutTransfer_modes ..)
      exact Keeps.refl _ _
    · exact Keeps.refl _ _
  · exact Keeps.refl _ _

theorem cacheError_modes  (s : State) :
    Keeps ModesOk s (cacheError s) := by
  unfold cacheError
  dsimp only
  apply Keeps.foldl
  · exact Keeps.refl _ _
  · intro u v
    split
    · refine Keeps.trans (modes_of_touch (takeFree_touch ..) (by decide)) ?_
      exact Keeps.refl _ _
    · apply Keeps.ite
      · apply Keeps.trans (abortBurst_modes ..)
        refine Keeps.trans (modes_of_touch (modBurst_touch ..) (by decide)) ?_
        refine Keeps.trans (modes_of_touch (takeFree_touch ..) (by decide)) ?_
        exact Keeps.refl _ _
      · refine Keeps.trans (modes_of_touch (takeFree_touch ..) (by decide)) ?_
        exact Keeps.refl _ _

theorem referenceError_modes  (s : State) :
    Keeps ModesOk s (referenceError s) := by
  unfold referenceError
  dsimp only
  apply Keeps.foldl
  · refine Keeps.trans (modes_of_touch (Touch.set_house (b := [.house]) (by decide) (Touch.refl _ _)) (by decide)) ?_
    exact Keeps.refl _ _
  · intro u v
    apply Keeps.trans (failCal_modes ..)
    exact Keeps.refl _ _

theorem resetQueue_modes  (s : State) (q : ℕ) :
    Keeps ModesOk s (resetQueue s q) := by
  unfold resetQueue
  dsimp only
  apply Keeps.foldl
  · apply Keeps.foldl
    · refine Keeps.trans (modes_of_touch (modQueue_touch ..) (by decide)) ?_
      exact Keeps.refl _ _
    · intro u v
      refine Keeps.trans (modes_of_touch (settleDma_touch ..) (by decide)) ?_
      refine Keeps.trans (modes_of_touch (failDma_touch ..) (by decide)) ?_
      exact Keeps.refl _ _
  · intro u v
    apply Keeps.ite
    · apply Keeps.trans (abortBurst_modes ..)
      exact Keeps.refl _ _
    · apply Keeps.trans (endNow_modes ..)
      exact Keeps.refl _ _

theorem reactContained_modes  (s : State) (e : Event) :
    Keeps ModesOk s (reactContained s e) := by
  unfold reactContained
  dsimp only
  apply Keeps.ite
  · apply Keeps.trans (containUnit_modes ..)
    exact Keeps.refl _ _
  · apply Keeps.ite
    · refine Keeps.trans (modes_of_touch (portDown_touch ..) (by decide)) ?_
      exact Keeps.refl _ _
    · apply Keeps.ite
      · apply Keeps.trans (resetQueue_modes ..)
        exact Keeps.refl _ _
      · apply Keeps.ite
        · apply Keeps.trans (ledgerError_modes ..)
          exact Keeps.refl _ _
        · apply Keeps.ite
          · apply Keeps.trans (memoryError_modes ..)
            exact Keeps.refl _ _
          · apply Keeps.ite
            · apply Keeps.trans (cacheError_modes ..)
              exact Keeps.refl _ _
            · apply Keeps.ite
              · apply Keeps.trans (bufferError_modes ..)
                exact Keeps.refl _ _
              · apply Keeps.ite
                · apply Keeps.trans (referenceError_modes ..)
                  exact Keeps.refl _ _
                · exact Keeps.refl _ _

theorem raise_modes  (s : State) (e : Event) :
    Keeps ModesOk s (raise s e) := by
  unfold raise
  dsimp only
  split
  · refine Keeps.trans (modes_of_touch (repeatRecord_touch ..) (by decide)) ?_
    exact Keeps.refl _ _
  · apply Keeps.ite
    · apply Keeps.trans (enterSafe_modes ..)
      refine Keeps.trans (modes_of_touch (logEvent_touch ..) (by decide)) ?_
      apply Keeps.ite
      · refine Keeps.trans (modes_of_touch (Touch.set_levee (b := [.levee]) (by decide) (Touch.refl _ _)) (by decide)) ?_
        exact Keeps.refl _ _
      · exact Keeps.refl _ _
    · apply Keeps.ite
      · apply Keeps.trans (settleBypass_modes ..)
        apply Keeps.trans (reactContained_modes ..)
        refine Keeps.trans (modes_of_touch (logEvent_touch ..) (by decide)) ?_
        apply Keeps.ite
        · refine Keeps.trans (modes_of_touch (Touch.set_levee (b := [.levee]) (by decide) (Touch.refl _ _)) (by decide)) ?_
          exact Keeps.refl _ _
        · exact Keeps.refl _ _
      · refine Keeps.trans (modes_of_touch (logEvent_touch ..) (by decide)) ?_
        apply Keeps.ite
        · refine Keeps.trans (modes_of_touch (Touch.set_levee (b := [.levee]) (by decide) (Touch.refl _ _)) (by decide)) ?_
          exact Keeps.refl _ _
        · exact Keeps.refl _ _

theorem writeCtrl_modes  (s : State) (value : Word) :
    Keeps ModesOk s (writeCtrl s value) := by
  unfold writeCtrl
  dsimp only
  apply Keeps.trans (raise_modes ..)
  refine Keeps.trans (modes_of_touch (Touch.set_levee (b := [.levee]) (by decide) (Touch.refl _ _)) (by decide)) ?_
  exact Keeps.refl _ _

theorem detect_modes  (s : State) (det : ℕ) (region : ℕ) (detail : ℕ) (read : ℕ) (uncorr : Bool) (spabry : Bool) (ns : ℕ) :
    Keeps ModesOk s (detect s det region detail read uncorr spabry ns) := by
  unfold detect
  dsimp only
  split
  · apply Keeps.ite
    · apply Keeps.foldl
      · apply Keeps.ite
        · refine Keeps.trans (modes_of_touch (Touch.set_levee (b := [.levee]) (by decide) (Touch.refl _ _)) (by decide)) ?_
          exact Keeps.refl _ _
        · exact Keeps.refl _ _
      · intro u v
        apply Keeps.trans (raise_modes ..)
        exact Keeps.refl _ _
    · exact Keeps.refl _ _
  · exact Keeps.refl _ _

theorem detectOwn_modes  (s : State) (det : ℕ) (region : ℕ) (detail : ℕ) (spabry : Bool) :
    Keeps ModesOk s (detectOwn s det region detail spabry) := by
  unfold detectOwn
  dsimp only
  apply Keeps.trans (detect_modes ..)
  refine Keeps.trans (modes_of_touch (takeFree_touch ..) (by decide)) ?_
  exact Keeps.refl _ _

theorem execDpsOverload_modes  (s : State) :
    KeepsOut ModesOk s (execDpsOverload s) := by
  unfold execDpsOverload
  dsimp only
  apply KeepsOut.ite
  · apply KeepsOut.next
    exact Keeps.refl _ _
  · apply KeepsOut.next
    apply Keeps.trans (detectOwn_modes ..)
    refine Keeps.trans (modes_of_touch (putDps_touch ..) (by decide)) ?_
    refine Keeps.trans (modes_of_touch (outputNow_touch ..) (by decide)) ?_
    refine Keeps.trans (modes_of_touch (takeFree_touch ..) (by decide)) ?_
    exact Keeps.refl _ _

theorem execLeveeDetection_modes  (detector : BitVec 16) (region : BitVec 16) (detail : Detail) (uncorrectable : Bool) (reactionNs : ℕ) (s : State) :
    KeepsOut ModesOk s (execLeveeDetection detector region detail uncorrectable reactionNs s) := by
  unfold execLeveeDetection
  apply KeepsOut.ite
  · apply KeepsOut.next
    exact Keeps.refl _ _
  · apply KeepsOut.next
    apply Keeps.trans (detect_modes ..)
    exact Keeps.refl _ _

theorem execLeveeCtrlWrite_modes  (value : Word) (s : State) :
    KeepsOut ModesOk s (execLeveeCtrlWrite value s) := by
  unfold execLeveeCtrlWrite
  apply KeepsOut.ite
  · apply KeepsOut.next
    exact Keeps.refl _ _
  · apply KeepsOut.next
    apply Keeps.trans (writeCtrl_modes ..)
    exact Keeps.refl _ _

theorem execWatchdog_modes  (which : Dog) (s : State) :
    KeepsOut ModesOk s (execWatchdog which s) := by
  unfold execWatchdog
  dsimp only
  split
  · apply KeepsOut.ite
    · apply KeepsOut.next
      apply Keeps.trans (detectOwn_modes ..)
      refine Keeps.trans (modes_of_touch (Touch.set_levee (b := [.levee]) (by decide) (Touch.refl _ _)) (by decide)) ?_
      exact Keeps.refl _ _
    · apply KeepsOut.next
      exact Keeps.refl _ _
  · apply KeepsOut.ite
    · apply KeepsOut.next
      apply Keeps.trans (detectOwn_modes ..)
      refine Keeps.trans (modes_of_touch (Touch.set_levee (b := [.levee]) (by decide) (Touch.refl _ _)) (by decide)) ?_
      exact Keeps.refl _ _
    · apply KeepsOut.next
      exact Keeps.refl _ _
  · apply KeepsOut.ite
    · apply KeepsOut.next
      apply Keeps.trans (detectOwn_modes ..)
      refine Keeps.trans (modes_of_touch (Touch.set_levee (b := [.levee]) (by decide) (Touch.refl _ _)) (by decide)) ?_
      exact Keeps.refl _ _
    · apply KeepsOut.next
      exact Keeps.refl _ _

theorem calFails_modes  (s : State) (slot : ℕ) (c : ℕ) :
    Keeps ModesOk s (calFails s slot c) := by
  unfold calFails
  dsimp only
  apply Keeps.trans (detectOwn_modes ..)
  refine Keeps.trans (modes_of_touch (modUnit_touch ..) (by decide)) ?_
  apply Keeps.trans (failCal_modes ..)
  exact Keeps.refl _ _

theorem completeCal_modes  (s : State) (slot : ℕ) :
    Keeps ModesOk s (completeCal s slot) := by
  unfold completeCal
  dsimp only
  apply Keeps.trans (endItem_modes ..)
  refine Keeps.trans (modes_of_touch (releaseOwn_touch ..) (by decide)) ?_
  refine Keeps.trans (modes_of_touch (freePress_touch ..) (by decide)) ?_
  apply Keeps.foldl
  · refine Keeps.trans (modes_of_touch (modUnit_touch ..) (by decide)) ?_
    refine Keeps.trans (modes_of_touch (Touch.set_dacs (b := [.dacs]) (by decide) (Touch.refl _ _)) (by decide)) ?_
    apply Keeps.foldl
    · refine Keeps.trans (modes_of_touch (takeFree_touch ..) (by decide)) ?_
      exact Keeps.refl _ _
    · intro u v
      refine Keeps.trans (modes_of_touch (applyCorr_touch ..) (by decide)) ?_
      exact Keeps.refl _ _
  · intro u v
    refine Keeps.trans (modes_of_touch (releaseOther_touch ..) (by decide)) ?_
    exact Keeps.refl _ _

theorem execCalClassDone_modes  (result : CalResult) (s : State) :
    KeepsOut ModesOk s (execCalClassDone result s) := by
  unfold execCalClassDone
  dsimp only
  split
  · split
    · apply KeepsOut.next
      apply Keeps.trans (settleBypass_modes ..)
      apply Keeps.trans (calFails_modes ..)
      exact Keeps.refl _ _
    · apply KeepsOut.ite
      · apply KeepsOut.next
        apply Keeps.trans (settleBypass_modes ..)
        apply Keeps.trans (calFails_modes ..)
        exact Keeps.refl _ _
      · apply KeepsOut.ite
        · apply KeepsOut.next
          apply Keeps.trans (settleBypass_modes ..)
          apply Keeps.trans (completeCal_modes ..)
          refine Keeps.trans (modes_of_touch (modSlot_touch ..) (by decide)) ?_
          refine Keeps.trans (modes_of_touch (Touch.set_press (b := [.press]) (by decide) (Touch.refl _ _)) (by decide)) ?_
          exact Keeps.refl _ _
        · apply KeepsOut.next
          refine Keeps.trans (modes_of_touch (modSlot_touch ..) (by decide)) ?_
          refine Keeps.trans (modes_of_touch (Touch.set_press (b := [.press]) (by decide) (Touch.refl _ _)) (by decide)) ?_
          exact Keeps.refl _ _
  · apply KeepsOut.next
    exact Keeps.refl _ _

theorem execCalDispatch_modes  (slot : ℕ) (s : State) :
    KeepsOut ModesOk s (execCalDispatch slot s) := by
  unfold execCalDispatch
  dsimp only
  apply KeepsOut.ite
  · apply KeepsOut.ite
    · apply KeepsOut.next
      apply Keeps.trans (settleBypass_modes ..)
      apply Keeps.trans (calFails_modes ..)
      apply Keeps.trans (takeItem_modes ..)
      exact Keeps.refl _ _
    · apply KeepsOut.next
      exact Keeps.refl _ _
  · apply KeepsOut.ite
    · apply KeepsOut.ite
      · apply KeepsOut.next
        apply Keeps.trans (endItem_modes ..)
        apply Keeps.ite
        · refine Keeps.trans (modes_of_touch (modUnit_touch ..) (by decide)) ?_
          refine Keeps.trans (modes_of_touch (releaseOwn_touch ..) (by decide)) ?_
          apply Keeps.trans (takeItem_modes ..)
          exact Keeps.refl _ _
        · apply Keeps.trans (takeItem_modes ..)
          exact Keeps.refl _ _
      · apply KeepsOut.next
        refine Keeps.trans (modes_of_touch (Touch.set_press (b := [.press]) (by decide) (Touch.refl _ _)) (by decide)) ?_
        apply Keeps.foldl
        · apply Keeps.trans (takeItem_modes ..)
          exact Keeps.refl _ _
        · intro u v
          refine Keeps.trans (modes_of_touch (takeUnit_touch ..) (by decide)) ?_
          exact Keeps.refl _ _
    · apply KeepsOut.next
      exact Keeps.refl _ _

theorem beginPause_modes  (s : State) :
    Keeps ModesOk s (beginPause s) := by
  unfold beginPause
  dsimp only
  apply Keeps.trans (settleMode_modes ..)
  apply Keeps.foldl
  · refine Keeps.trans (Keeps.upd (Touch.set_dev (b := [.dev]) (by decide) (Touch.refl _ _)) (fun h => by first | exact h | exact ⟨fun _ => rfl, h.2⟩)) ?_
    exact Keeps.refl _ _
  · intro u v
    refine Keeps.trans (modes_of_touch (pauseItem_touch ..) (by decide)) ?_
    exact Keeps.refl _ _

theorem trigPause_modes  (s : State) :
    Keeps ModesOk s (trigPause s) := by
  unfold trigPause
  apply Keeps.ite
  · apply Keeps.trans (beginPause_modes ..)
    exact Keeps.refl _ _
  · exact Keeps.refl _ _

theorem fireTrig_modes  (s : State) (i : ℕ) :
    Keeps ModesOk s (fireTrig s i) := by
  unfold fireTrig
  dsimp only
  refine Keeps.trans (modes_of_touch (trigAcquire_touch ..) (by decide)) ?_
  apply Keeps.foldl
  · apply Keeps.ite
    · apply Keeps.trans (trigPause_modes ..)
      exact Keeps.refl _ _
    · apply Keeps.ite
      · refine Keeps.trans (modes_of_touch (trigJump_touch ..) (by decide)) ?_
        exact Keeps.refl _ _
      · exact Keeps.refl _ _
  · intro u v
    apply Keeps.trans (fireLevels_modes ..)
    exact Keeps.refl _ _

theorem execTrigInEdge_modes  (input : ℕ) (rising : Bool) (within20 : Bool) (s : State) :
    KeepsOut ModesOk s (execTrigInEdge input rising within20 s) := by
  unfold execTrigInEdge
  dsimp only
  apply KeepsOut.ite
  · apply KeepsOut.next
    exact Keeps.refl _ _
  · apply KeepsOut.ite
    · apply KeepsOut.next
      refine Keeps.trans (modes_of_touch (modTrig_touch ..) (by decide)) ?_
      exact Keeps.refl _ _
    · apply KeepsOut.ite
      · apply KeepsOut.next
        refine Keeps.trans (modes_of_touch (modTrig_touch ..) (by decide)) ?_
        exact Keeps.refl _ _
      · apply KeepsOut.next
        apply Keeps.ite
        · apply Keeps.trans (fireTrig_modes ..)
          refine Keeps.trans (modes_of_touch (modTrig_touch ..) (by decide)) ?_
          exact Keeps.refl _ _
        · refine Keeps.trans (modes_of_touch (modTrig_touch ..) (by decide)) ?_
          exact Keeps.refl _ _

theorem fireItem_modes  (s : State) (slot : ℕ) :
    Keeps ModesOk s (fireItem s slot) := by
  unfold fireItem
  dsimp only
  split
  · apply Keeps.ite
    · refine Keeps.trans (modes_of_touch (beginBurst_touch ..) (by decide)) ?_
      refine Keeps.trans (modes_of_touch (modSlot_touch ..) (by decide)) ?_
      exact Keeps.refl _ _
    · refine Keeps.trans (modes_of_touch (beginBurst_touch ..) (by decide)) ?_
      refine Keeps.trans (modes_of_touch (modSlot_touch ..) (by decide)) ?_
      exact Keeps.refl _ _
  · apply Keeps.trans (fireLevels_modes ..)
    refine Keeps.trans (modes_of_touch (modSlot_touch ..) (by decide)) ?_
    exact Keeps.refl _ _
  · refine Keeps.trans (modes_of_touch (startMeasure_touch ..) (by decide)) ?_
    refine Keeps.trans (modes_of_touch (modSlot_touch ..) (by decide)) ?_
    exact Keeps.refl _ _
  · refine Keeps.trans (modes_of_touch (startTdc_touch ..) (by decide)) ?_
    refine Keeps.trans (modes_of_touch (modSlot_touch ..) (by decide)) ?_
    exact Keeps.refl _ _
  · refine Keeps.trans (modes_of_touch (beginAcquire_touch ..) (by decide)) ?_
    refine Keeps.trans (modes_of_touch (modSlot_touch ..) (by decide)) ?_
    exact Keeps.refl _ _
  · refine Keeps.trans (modes_of_touch (startDps_touch ..) (by decide)) ?_
    refine Keeps.trans (modes_of_touch (modSlot_touch ..) (by decide)) ?_
    exact Keeps.refl _ _
  · refine Keeps.trans (modes_of_touch (startLane_touch ..) (by decide)) ?_
    refine Keeps.trans (modes_of_touch (modSlot_touch ..) (by decide)) ?_
    exact Keeps.refl _ _
  · refine Keeps.trans (modes_of_touch (modSlot_touch ..) (by decide)) ?_
    exact Keeps.refl _ _

theorem execHeadwaterTimedFire_modes  (slot : ℕ) (s : State) :
    KeepsOut ModesOk s (execHeadwaterTimedFire slot s) := by
  unfold execHeadwaterTimedFire
  dsimp only
  apply KeepsOut.ite
  · apply KeepsOut.next
    apply Keeps.trans (fireItem_modes ..)
    exact Keeps.refl _ _
  · apply KeepsOut.next
    exact Keeps.refl _ _

theorem execRefLossDetected_modes  (cause : LossCause) (s : State) :
    KeepsOut ModesOk s (execRefLossDetected cause s) := by
  unfold execRefLossDetected
  dsimp only
  apply KeepsOut.ite
  · apply KeepsOut.next
    exact Keeps.refl _ _
  · apply KeepsOut.ite
    · apply KeepsOut.next
      apply Keeps.trans (settleBypass_modes ..)
      apply Keeps.trans (settleCal_modes ..)
      refine Keeps.trans (modes_of_touch (retrainPorts_touch ..) (by decide)) ?_
      apply Keeps.foldl
      · refine Keeps.trans (modes_of_touch (clockPins_touch ..) (by decide)) ?_
        refine Keeps.trans (modes_of_touch (Touch.set_lanes (b := [.lanes]) (by decide) (Touch.refl _ _)) (by decide)) ?_
        refine Keeps.trans (modes_of_touch (clockUnits_touch ..) (by decide)) ?_
        apply Keeps.trans (raise_modes ..)
        refine Keeps.trans (modes_of_touch (bootNoRef_touch ..) (by decide)) ?_
        refine Keeps.trans (changeClock_modes (h := ?_) ..) ?_
        · intro t0
          refine Keeps.trans (modes_of_touch (loseClock_touch ..) (by decide)) ?_
          refine Keeps.trans (modes_of_touch (Touch.set_clock (b := [.clock]) (by decide) (Touch.refl _ _)) (by decide)) ?_
          exact Keeps.refl _ _
        · exact Keeps.refl _ _
      · intro u v
        apply Keeps.ite
        · apply Keeps.trans (clockItem_modes ..)
          exact Keeps.refl _ _
        · exact Keeps.refl _ _
    · apply KeepsOut.ite
      · apply KeepsOut.next
        exact Keeps.refl _ _
      · apply KeepsOut.next
        apply Keeps.trans (raise_modes ..)
        refine Keeps.trans (modes_of_touch (bootNoRef_touch ..) (by decide)) ?_
        refine Keeps.trans (changeClock_modes (h := ?_) ..) ?_
        · intro t0
          refine Keeps.trans (modes_of_touch (loseRef_touch ..) (by decide)) ?_
          exact Keeps.refl _ _
        · exact Keeps.refl _ _

theorem domainReady_modes  (s : State) (pd : ℕ) (balls : List (ℕ × ℤ)) :
    Keeps ModesOk s (domainReady s pd balls) := by
  unfold domainReady
  dsimp only
  apply Keeps.trans (settleBypass_modes ..)
  apply Keeps.trans (settleCal_modes ..)
  refine Keeps.trans (modes_of_touch (closeSwitches_touch ..) (by decide)) ?_
  refine Keeps.trans (modes_of_touch (domainOn_touch ..) (by decide)) ?_
  refine Keeps.trans (modes_of_touch (Touch.set_power (b := [.power]) (by decide) (Touch.refl _ _)) (by decide)) ?_
  exact Keeps.refl _ _

theorem execWarmReset_modes  (s : State) :
    KeepsOut ModesOk s (execWarmReset s) := by
  unfold execWarmReset
  apply KeepsOut.ite
  · apply KeepsOut.next
    exact Keeps.refl _ _
  · apply KeepsOut.next
    apply Keeps.trans (warmHold_modes ..)
    exact Keeps.refl _ _

theorem execFordCloseNFall_modes  (s : State) :
    KeepsOut ModesOk s (execFordCloseNFall s) := by
  unfold execFordCloseNFall
  dsimp only
  apply KeepsOut.ite
  · apply KeepsOut.next
    refine Keeps.trans (modes_of_touch (closeFord_touch ..) (by decide)) ?_
    refine Keeps.trans (modes_of_touch (Touch.set_power (b := [.power]) (by decide) (Touch.refl _ _)) (by decide)) ?_
    exact Keeps.refl _ _
  · split
    · apply KeepsOut.next
      apply Keeps.trans (toBypass_modes ..)
      refine Keeps.trans (modes_of_touch (closeFord_touch ..) (by decide)) ?_
      refine Keeps.trans (modes_of_touch (Touch.set_power (b := [.power]) (by decide) (Touch.refl _ _)) (by decide)) ?_
      exact Keeps.refl _ _
    · apply KeepsOut.next
      apply Keeps.trans (toBypass_modes ..)
      refine Keeps.trans (modes_of_touch (closeFord_touch ..) (by decide)) ?_
      refine Keeps.trans (modes_of_touch (Touch.set_power (b := [.power]) (by decide) (Touch.refl _ _)) (by decide)) ?_
      exact Keeps.refl _ _
    · apply KeepsOut.next
      apply Keeps.trans (toBypass_modes ..)
      refine Keeps.trans (modes_of_touch (closeFord_touch ..) (by decide)) ?_
      refine Keeps.trans (modes_of_touch (Touch.set_power (b := [.power]) (by decide) (Touch.refl _ _)) (by decide)) ?_
      exact Keeps.refl _ _
    · apply KeepsOut.next
      apply Keeps.trans (toBypass_modes ..)
      refine Keeps.trans (modes_of_touch (closeFord_touch ..) (by decide)) ?_
      refine Keeps.trans (modes_of_touch (Touch.set_power (b := [.power]) (by decide) (Touch.refl _ _)) (by decide)) ?_
      exact Keeps.refl _ _
    · apply KeepsOut.next
      apply Keeps.trans (toBypass_modes ..)
      refine Keeps.trans (modes_of_touch (closeFord_touch ..) (by decide)) ?_
      refine Keeps.trans (modes_of_touch (Touch.set_power (b := [.power]) (by decide) (Touch.refl _ _)) (by decide)) ?_
      exact Keeps.refl _ _
    · apply KeepsOut.next
      apply Keeps.trans (toBypass_modes ..)
      refine Keeps.trans (modes_of_touch (closeFord_touch ..) (by decide)) ?_
      refine Keeps.trans (modes_of_touch (Touch.set_power (b := [.power]) (by decide) (Touch.refl _ _)) (by decide)) ?_
      exact Keeps.refl _ _
    · apply KeepsOut.next
      apply Keeps.trans (toBypass_modes ..)
      refine Keeps.trans (modes_of_touch (closeFord_touch ..) (by decide)) ?_
      refine Keeps.trans (modes_of_touch (Touch.set_power (b := [.power]) (by decide) (Touch.refl _ _)) (by decide)) ?_
      exact Keeps.refl _ _
    · apply KeepsOut.next
      refine Keeps.trans (modes_of_touch (Touch.set_svc (b := [.svc]) (by decide) (Touch.refl _ _)) (by decide)) ?_
      refine Keeps.trans (modes_of_touch (closeFord_touch ..) (by decide)) ?_
      refine Keeps.trans (modes_of_touch (Touch.set_power (b := [.power]) (by decide) (Touch.refl _ _)) (by decide)) ?_
      exact Keeps.refl _ _
    · apply KeepsOut.next
      refine Keeps.trans (modes_of_touch (bootFordFalls_touch ..) (by decide)) ?_
      refine Keeps.trans (modes_of_touch (closeFord_touch ..) (by decide)) ?_
      refine Keeps.trans (modes_of_touch (Touch.set_power (b := [.power]) (by decide) (Touch.refl _ _)) (by decide)) ?_
      exact Keeps.refl _ _
    · apply KeepsOut.next
      refine Keeps.trans (modes_of_touch (closeFord_touch ..) (by decide)) ?_
      refine Keeps.trans (modes_of_touch (Touch.set_power (b := [.power]) (by decide) (Touch.refl _ _)) (by decide)) ?_
      exact Keeps.refl _ _

theorem enterBoot_modes  (s : State) :
    Keeps ModesOk s (enterBoot s) := by
  unfold enterBoot
  dsimp only
  refine Keeps.trans (modes_of_touch (startBoot_touch ..) (by decide)) ?_
  apply Keeps.trans (setMode_modes ..)
  refine Keeps.trans (modes_of_touch (modMb_touch ..) (by decide)) ?_
  refine Keeps.trans (modes_of_touch (Touch.set_power_levee (b := [.power, .levee]) (by decide) (by decide) (Touch.refl _ _)) (by decide)) ?_
  exact Keeps.refl _ _

theorem execWarmResetRelease_modes  (s : State) :
    KeepsOut ModesOk s (execWarmResetRelease s) := by
  unfold execWarmResetRelease
  apply KeepsOut.ite
  · apply KeepsOut.next
    apply Keeps.trans (enterBoot_modes ..)
    exact Keeps.refl _ _
  · apply KeepsOut.next
    exact Keeps.refl _ _

theorem execDomainReady_modes  (pd : ℕ) (balls : List (ℕ × ℤ)) (s : State) :
    KeepsOut ModesOk s (execDomainReady pd balls s) := by
  unfold execDomainReady
  dsimp only
  apply KeepsOut.ite
  · apply KeepsOut.ite
    · apply KeepsOut.next
      refine Keeps.trans (modes_of_touch (bootFord_touch ..) (by decide)) ?_
      apply Keeps.trans (domainReady_modes ..)
      exact Keeps.refl _ _
    · apply KeepsOut.next
      apply Keeps.trans (domainReady_modes ..)
      exact Keeps.refl _ _
  · apply KeepsOut.next
    exact Keeps.refl _ _

theorem execAdpllLockComplete_modes  (s : State) :
    KeepsOut ModesOk s (execAdpllLockComplete s) := by
  unfold execAdpllLockComplete
  dsimp only
  apply KeepsOut.ite
  · apply KeepsOut.ite
    · apply KeepsOut.next
      refine Keeps.trans (modes_of_touch (bootRails_touch ..) (by decide)) ?_
      refine Keeps.trans (modes_of_touch (closeSwitches_touch ..) (by decide)) ?_
      refine Keeps.trans (modes_of_touch (completeLock_touch ..) (by decide)) ?_
      exact Keeps.refl _ _
    · apply KeepsOut.ite
      · apply KeepsOut.next
        refine Keeps.trans (modes_of_touch (bootTrain_touch ..) (by decide)) ?_
        refine Keeps.trans (modes_of_touch (closeSwitches_touch ..) (by decide)) ?_
        refine Keeps.trans (modes_of_touch (completeLock_touch ..) (by decide)) ?_
        exact Keeps.refl _ _
      · apply KeepsOut.next
        apply Keeps.trans (settleBypass_modes ..)
        apply Keeps.trans (settleCal_modes ..)
        refine Keeps.trans (modes_of_touch (closeSwitches_touch ..) (by decide)) ?_
        refine Keeps.trans (modes_of_touch (completeLock_touch ..) (by decide)) ?_
        exact Keeps.refl _ _
  · apply KeepsOut.next
    exact Keeps.refl _ _

theorem startCellar_modes  (s : State) :
    Keeps ModesOk s (startCellar s) := by
  unfold startCellar
  dsimp only
  apply Keeps.ite
  · apply Keeps.trans (toBypass_modes ..)
    apply Keeps.trans (setMode_modes ..)
    refine Keeps.trans (modes_of_touch (Touch.set_boot_levee (b := [.boot, .levee]) (by decide) (by decide) (Touch.refl _ _)) (by decide)) ?_
    split
    · refine Keeps.trans (modes_of_touch (sendBootDone_touch ..) (by decide)) ?_
      exact Keeps.refl _ _
    · exact Keeps.refl _ _
  · apply Keeps.trans (setMode_modes ..)
    refine Keeps.trans (modes_of_touch (Touch.set_boot_levee (b := [.boot, .levee]) (by decide) (by decide) (Touch.refl _ _)) (by decide)) ?_
    split
    · refine Keeps.trans (modes_of_touch (sendBootDone_touch ..) (by decide)) ?_
      exact Keeps.refl _ _
    · exact Keeps.refl _ _

theorem execBootDigestDone_modes  (s : State) :
    KeepsOut ModesOk s (execBootDigestDone s) := by
  unfold execBootDigestDone
  apply KeepsOut.ite
  · apply KeepsOut.ite
    · apply KeepsOut.next
      apply Keeps.trans (startCellar_modes ..)
      exact Keeps.refl _ _
    · apply KeepsOut.next
      refine Keeps.trans (modes_of_touch (bootFails_touch ..) (by decide)) ?_
      exact Keeps.refl _ _
  · apply KeepsOut.next
    exact Keeps.refl _ _

theorem execPowerOnResetRelease_modes  (node : BitVec 11) (src : BitVec 2) (s : State) :
    KeepsOut ModesOk s (execPowerOnResetRelease node src s) := by
  unfold execPowerOnResetRelease
  dsimp only
  apply KeepsOut.ite
  · apply KeepsOut.next
    apply Keeps.trans (enterBoot_modes ..)
    refine Keeps.trans (modes_of_touch (Touch.set_power (b := [.power]) (by decide) (Touch.refl _ _)) (by decide)) ?_
    exact Keeps.refl _ _
  · apply KeepsOut.next
    exact Keeps.refl _ _

theorem serve_modes  (op : ℕ) (n : ℕ) (rem : Remote) (s : State) (resv : Msg → Bool) (own : State → Msg → List (Bool × ℕ × ℕ)) (run : State → Msg → Out)
    (h : ∀ t0 t1, KeepsOut ModesOk t0 (run t0 t1)) :
    KeepsOut ModesOk s (serve op n rem s resv own run) := by
  unfold serve
  dsimp only
  apply KeepsOut.ite
  · apply KeepsOut.ite
    · apply KeepsOut.fault
    · split
      · apply KeepsOut.next
        refine Keeps.trans (modes_of_touch (refuse_touch ..) (by decide)) ?_
        refine Keeps.trans (modes_of_touch (takeFront_touch ..) (by decide)) ?_
        exact Keeps.refl _ _
      · apply KeepsOut.ite
        · apply KeepsOut.fault
        · split
          · apply KeepsOut.next
            refine Keeps.trans (modes_of_touch (refuse_touch ..) (by decide)) ?_
            refine Keeps.trans (modes_of_touch (takeFront_touch ..) (by decide)) ?_
            exact Keeps.refl _ _
          · apply KeepsOut.trans (h ..)
            refine Keeps.trans (modes_of_touch (takeFront_touch ..) (by decide)) ?_
            exact Keeps.refl _ _
  · apply KeepsOut.next
    exact Keeps.refl _ _

theorem serveNext_modes  (op : ℕ) (n : ℕ) (s : State) (resv : Msg → Bool) (own : State → Msg → List (Bool × ℕ × ℕ)) (run : State → Msg → State)
    (h : ∀ t0 t1, Keeps ModesOk t0 (run t0 t1)) :
    KeepsOut ModesOk s (serveNext op n s resv own run) := by
  unfold serveNext
  refine KeepsOut.trans (serve_modes (h := ?_) ..) ?_
  · intro t0 t1
    apply KeepsOut.next
    apply Keeps.trans (h ..)
    exact Keeps.refl _ _
  · exact Keeps.refl _ _

theorem writeWord_modes  (s : State) (busy : Bool) (a2 : ℕ) (v : Word) :
    Keeps ModesOk s (writeWord s busy a2 v) := by
  unfold writeWord
  dsimp only
  apply Keeps.ite
  · refine Keeps.trans (modes_of_touch (Touch.set_boot (b := [.boot]) (by decide) (Touch.refl _ _)) (by decide)) ?_
    exact Keeps.refl _ _
  · apply Keeps.ite
    · refine Keeps.trans (modes_of_touch (writeBootCtrl_touch ..) (by decide)) ?_
      exact Keeps.refl _ _
    · apply Keeps.ite
      · refine Keeps.trans (modes_of_touch (writeRstCtrl_touch ..) (by decide)) ?_
        exact Keeps.refl _ _
      · apply Keeps.ite
        · refine Keeps.trans (modes_of_touch (clearMsp_touch ..) (by decide)) ?_
          exact Keeps.refl _ _
        · apply Keeps.ite
          · refine Keeps.trans (modes_of_touch (writeMctrl_touch ..) (by decide)) ?_
            exact Keeps.refl _ _
          · apply Keeps.ite
            · apply Keeps.ite
              · exact Keeps.refl _ _
              · refine Keeps.trans (modes_of_touch (Touch.set_msp (b := [.msp]) (by decide) (Touch.refl _ _)) (by decide)) ?_
                exact Keeps.refl _ _
            · apply Keeps.ite
              · apply Keeps.ite
                · exact Keeps.refl _ _
                · apply Keeps.ite
                  · refine Keeps.trans (modes_of_touch (writeDoorbell_touch ..) (by decide)) ?_
                    exact Keeps.refl _ _
                  · refine Keeps.trans (modes_of_touch (writeRspIndex_touch ..) (by decide)) ?_
                    exact Keeps.refl _ _
              · apply Keeps.ite
                · refine Keeps.trans (modes_of_touch (ackEvents_touch ..) (by decide)) ?_
                  exact Keeps.refl _ _
                · apply Keeps.ite
                  · apply Keeps.trans (writeCtrl_modes ..)
                    exact Keeps.refl _ _
                  · apply Keeps.ite
                    · apply Keeps.ite
                      · exact Keeps.refl _ _
                      · refine Keeps.trans (modes_of_touch (writeEntry_touch ..) (by decide)) ?_
                        exact Keeps.refl _ _
                    · exact Keeps.refl _ _

theorem writeWords_modes  (s : State) (a1 : ℕ) (ws : List Word) :
    Keeps ModesOk s (writeWords s a1 ws) := by
  unfold writeWords
  dsimp only
  apply Keeps.foldl
  · exact Keeps.refl _ _
  · intro u v
    apply Keeps.trans (writeWord_modes ..)
    exact Keeps.refl _ _

theorem execRegisterWrite_modes  (addr : BitVec 24) (value : Word) (s : State) :
    KeepsOut ModesOk s (execRegisterWrite addr value s) := by
  unfold execRegisterWrite
  apply KeepsOut.ite
  · apply KeepsOut.next
    exact Keeps.refl _ _
  · apply KeepsOut.next
    apply Keeps.trans (writeWords_modes ..)
    exact Keeps.refl _ _

theorem writeFrame_modes  (s : State) (a1 : ℕ) (ws : List Word) (cut : Bool) (extra : Bool) :
    Keeps ModesOk s (writeFrame s a1 ws cut extra) := by
  unfold writeFrame
  dsimp only
  apply Keeps.ite
  · refine Keeps.trans (modes_of_touch (raiseFlags_touch ..) (by decide)) ?_
    refine Keeps.trans (modes_of_touch (Touch.set_msp (b := [.msp]) (by decide) (Touch.refl _ _)) (by decide)) ?_
    exact Keeps.refl _ _
  · apply Keeps.ite
    · refine Keeps.trans (modes_of_touch (raiseFlags_touch ..) (by decide)) ?_
      refine Keeps.trans (modes_of_touch (Touch.set_msp (b := [.msp]) (by decide) (Touch.refl _ _)) (by decide)) ?_
      exact Keeps.refl _ _
    · refine Keeps.trans (modes_of_touch (raiseFlags_touch ..) (by decide)) ?_
      apply Keeps.trans (writeWords_modes ..)
      refine Keeps.trans (modes_of_touch (Touch.set_msp (b := [.msp]) (by decide) (Touch.refl _ _)) (by decide)) ?_
      exact Keeps.refl _ _

theorem mspFrame_modes  (s : State) (f : State → State)
    (h : ∀ t0, Keeps ModesOk t0 (f t0)) :
    Keeps ModesOk s (mspFrame s f) := by
  unfold mspFrame
  dsimp only
  apply Keeps.ite
  · exact Keeps.refl _ _
  · apply Keeps.ite
    · refine Keeps.trans (modes_of_touch (contend_touch ..) (by decide)) ?_
      exact Keeps.refl _ _
    · apply Keeps.trans (h ..)
      refine Keeps.trans (modes_of_touch (Touch.set_msp (b := [.msp]) (by decide) (Touch.refl _ _)) (by decide)) ?_
      exact Keeps.refl _ _

theorem endSelfTest_modes  (s : State) (report : List Byte) :
    Keeps ModesOk s (endSelfTest s report) := by
  unfold endSelfTest
  dsimp only
  apply Keeps.trans (settleBypass_modes ..)
  apply Keeps.trans (setMode_modes ..)
  refine Keeps.trans (Keeps.upd (Touch.set_dev (b := [.dev]) (by decide) (Touch.refl _ _)) (fun h => by first | exact h | exact ⟨fun _ => rfl, h.2⟩)) ?_
  refine Keeps.trans (modes_of_touch (memWrite_touch ..) (by decide)) ?_
  exact Keeps.refl _ _

theorem loadIr_modes  (s : State) (ir : Byte) :
    Keeps ModesOk s (loadIr s ir) := by
  unfold loadIr
  dsimp only
  apply Keeps.ite
  · apply Keeps.trans (endSelfTest_modes ..)
    refine Keeps.trans (modes_of_touch (freeReport_touch ..) (by decide)) ?_
    refine Keeps.trans (modes_of_touch (Touch.set_jtag (b := [.jtag]) (by decide) (Touch.refl _ _)) (by decide)) ?_
    exact Keeps.refl _ _
  · refine Keeps.trans (modes_of_touch (Touch.set_jtag (b := [.jtag]) (by decide) (Touch.refl _ _)) (by decide)) ?_
    exact Keeps.refl _ _

theorem execBypass_modes  (s : State) :
    KeepsOut ModesOk s (execBypass s) := by
  unfold execBypass
  apply KeepsOut.next
  apply Keeps.trans (loadIr_modes ..)
  exact Keeps.refl _ _

theorem execSamplePreload_modes  (cells : List Bool) (s : State) :
    KeepsOut ModesOk s (execSamplePreload cells s) := by
  unfold execSamplePreload
  dsimp only
  apply KeepsOut.next
  apply Keeps.trans (loadIr_modes ..)
  refine Keeps.trans (modes_of_touch (Touch.set_jtag (b := [.jtag]) (by decide) (Touch.refl _ _)) (by decide)) ?_
  exact Keeps.refl _ _

theorem execClamp_modes  (s : State) :
    KeepsOut ModesOk s (execClamp s) := by
  unfold execClamp
  apply KeepsOut.next
  apply Keeps.trans (loadIr_modes ..)
  exact Keeps.refl _ _

theorem execRegAccess_modes  (dr : BitVec 64) (s : State) :
    KeepsOut ModesOk s (execRegAccess dr s) := by
  unfold execRegAccess
  dsimp only
  apply KeepsOut.ite
  · apply KeepsOut.next
    apply Keeps.trans (loadIr_modes ..)
    exact Keeps.refl _ _
  · apply KeepsOut.ite
    · apply KeepsOut.next
      refine Keeps.trans (modes_of_touch (Touch.set_jtag (b := [.jtag]) (by decide) (Touch.refl _ _)) (by decide)) ?_
      refine Keeps.trans (modes_of_touch (readWords_touch ..) (by decide)) ?_
      apply Keeps.trans (loadIr_modes ..)
      exact Keeps.refl _ _
    · apply KeepsOut.next
      refine Keeps.trans (modes_of_touch (Touch.set_jtag (b := [.jtag]) (by decide) (Touch.refl _ _)) (by decide)) ?_
      apply Keeps.trans (writeWords_modes ..)
      apply Keeps.trans (loadIr_modes ..)
      exact Keeps.refl _ _

theorem execSelfTestEnd_modes  (report : List Byte) (s : State) :
    KeepsOut ModesOk s (execSelfTestEnd report s) := by
  unfold execSelfTestEnd
  apply KeepsOut.ite
  · apply KeepsOut.next
    apply Keeps.trans (endSelfTest_modes ..)
    exact Keeps.refl _ _
  · apply KeepsOut.next
    exact Keeps.refl _ _

theorem execExtestPulse_modes  (s : State) :
    KeepsOut ModesOk s (execExtestPulse s) := by
  unfold execExtestPulse
  apply KeepsOut.next
  apply Keeps.trans (loadIr_modes ..)
  exact Keeps.refl _ _

theorem execMspWrite_modes  (addr : BitVec 24) (words : List Word) (cut : Bool) (extra : Bool) (s : State) :
    KeepsOut ModesOk s (execMspWrite addr words cut extra s) := by
  unfold execMspWrite
  dsimp only
  apply KeepsOut.next
  refine Keeps.trans (mspFrame_modes (h := ?_) ..) ?_
  · intro t0
    apply Keeps.ite
    · exact Keeps.refl _ _
    · apply Keeps.ite
      · refine Keeps.trans (modes_of_touch (raiseFlags_touch ..) (by decide)) ?_
        refine Keeps.trans (modes_of_touch (Touch.set_msp (b := [.msp]) (by decide) (Touch.refl _ _)) (by decide)) ?_
        exact Keeps.refl _ _
      · apply Keeps.trans (writeFrame_modes ..)
        exact Keeps.refl _ _
  · exact Keeps.refl _ _

theorem execHighz_modes  (s : State) :
    KeepsOut ModesOk s (execHighz s) := by
  unfold execHighz
  apply KeepsOut.next
  apply Keeps.trans (loadIr_modes ..)
  exact Keeps.refl _ _

theorem execIdcode_modes  (s : State) :
    KeepsOut ModesOk s (execIdcode s) := by
  unfold execIdcode
  apply KeepsOut.next
  apply Keeps.trans (loadIr_modes ..)
  exact Keeps.refl _ _

theorem execExtest_modes  (s : State) :
    KeepsOut ModesOk s (execExtest s) := by
  unfold execExtest
  apply KeepsOut.next
  apply Keeps.trans (loadIr_modes ..)
  exact Keeps.refl _ _

theorem execExtestTrain_modes  (s : State) :
    KeepsOut ModesOk s (execExtestTrain s) := by
  unfold execExtestTrain
  apply KeepsOut.next
  apply Keeps.trans (loadIr_modes ..)
  exact Keeps.refl _ _

theorem startDevice_modes  (s : State) (m : BitVec 28) (mask : BitVec 32) :
    Keeps ModesOk s (startDevice s m mask) := by
  unfold startDevice
  dsimp only
  apply Keeps.trans (settleFord_modes ..)
  apply Keeps.foldl
  · apply Keeps.foldl
    · refine Keeps.trans (modes_of_touch (orderSwitches_touch ..) (by decide)) ?_
      apply Keeps.ite
      · apply Keeps.trans (setMode_modes ..)
        refine Keeps.trans (Keeps.upd (Touch.set_dev (b := [.dev]) (by decide) (Touch.refl _ _)) (fun h => by first | exact h | exact ⟨fun _ => rfl, h.2⟩)) ?_
        exact Keeps.refl _ _
      · refine Keeps.trans (modes_of_touch (startLock_touch ..) (by decide)) ?_
        apply Keeps.trans (setMode_modes ..)
        refine Keeps.trans (Keeps.upd (Touch.set_dev (b := [.dev]) (by decide) (Touch.refl _ _)) (fun h => by first | exact h | exact ⟨fun _ => rfl, h.2⟩)) ?_
        exact Keeps.refl _ _
    · intro u v
      refine Keeps.trans (modes_of_touch (setUnit_touch ..) (by decide)) ?_
      exact Keeps.refl _ _
  · intro u v
    refine Keeps.trans (modes_of_touch (submitCal_touch ..) (by decide)) ?_
    exact Keeps.refl _ _

theorem execOpcDeviceStart_modes  (mb : ℕ) (s : State) :
    KeepsOut ModesOk s (execOpcDeviceStart mb s) := by
  unfold execOpcDeviceStart
  dsimp only
  refine KeepsOut.trans (serveNext_modes (h := ?_) ..) ?_
  · intro t0 t1
    apply Keeps.trans (settleBypass_modes ..)
    apply Keeps.trans (settleCal_modes ..)
    refine Keeps.trans (modes_of_touch (done_touch ..) (by decide)) ?_
    apply Keeps.trans (startDevice_modes ..)
    exact Keeps.refl _ _
  · exact Keeps.refl _ _

theorem execOpcBypassEnter_modes  (mb : ℕ) (s : State) :
    KeepsOut ModesOk s (execOpcBypassEnter mb s) := by
  unfold execOpcBypassEnter
  dsimp only
  refine KeepsOut.trans (serveNext_modes (h := ?_) ..) ?_
  · intro t0 t1
    apply Keeps.ite
    · refine Keeps.trans (modes_of_touch (answerOwed_touch ..) (by decide)) ?_
      apply Keeps.ite
      · apply Keeps.trans (endForBypass_modes ..)
        refine Keeps.trans (modes_of_touch (deferResp_touch ..) (by decide)) ?_
        exact Keeps.refl _ _
      · refine Keeps.trans (modes_of_touch (Touch.set_power (b := [.power]) (by decide) (Touch.refl _ _)) (by decide)) ?_
        refine Keeps.trans (modes_of_touch (deferResp_touch ..) (by decide)) ?_
        exact Keeps.refl _ _
    · refine Keeps.trans (modes_of_touch (Touch.set_power (b := [.power]) (by decide) (Touch.refl _ _)) (by decide)) ?_
      apply Keeps.ite
      · apply Keeps.trans (endForBypass_modes ..)
        refine Keeps.trans (modes_of_touch (deferResp_touch ..) (by decide)) ?_
        exact Keeps.refl _ _
      · refine Keeps.trans (modes_of_touch (Touch.set_power (b := [.power]) (by decide) (Touch.refl _ _)) (by decide)) ?_
        refine Keeps.trans (modes_of_touch (deferResp_touch ..) (by decide)) ?_
        exact Keeps.refl _ _
  · exact Keeps.refl _ _

theorem execOpcBypassExit_modes  (mb : ℕ) (s : State) :
    KeepsOut ModesOk s (execOpcBypassExit mb s) := by
  unfold execOpcBypassExit
  dsimp only
  refine KeepsOut.trans (serveNext_modes (h := ?_) ..) ?_
  · intro t0 t1
    refine Keeps.trans (modes_of_touch (answerTrained_touch ..) (by decide)) ?_
    apply Keeps.ite
    · refine Keeps.trans (modes_of_touch (openFord_touch ..) (by decide)) ?_
      apply Keeps.ite
      · refine Keeps.trans (modes_of_touch (submitDue_touch ..) (by decide)) ?_
        apply Keeps.trans (setMode_modes ..)
        refine Keeps.trans (modes_of_touch (deferResp_touch ..) (by decide)) ?_
        refine Keeps.trans (modes_of_touch (Touch.set_power (b := [.power]) (by decide) (Touch.refl _ _)) (by decide)) ?_
        exact Keeps.refl _ _
      · apply Keeps.trans (setMode_modes ..)
        refine Keeps.trans (modes_of_touch (deferResp_touch ..) (by decide)) ?_
        refine Keeps.trans (modes_of_touch (Touch.set_power (b := [.power]) (by decide) (Touch.refl _ _)) (by decide)) ?_
        exact Keeps.refl _ _
    · apply Keeps.ite
      · refine Keeps.trans (modes_of_touch (submitDue_touch ..) (by decide)) ?_
        apply Keeps.trans (setMode_modes ..)
        refine Keeps.trans (modes_of_touch (deferResp_touch ..) (by decide)) ?_
        refine Keeps.trans (modes_of_touch (Touch.set_power (b := [.power]) (by decide) (Touch.refl _ _)) (by decide)) ?_
        exact Keeps.refl _ _
      · apply Keeps.trans (setMode_modes ..)
        refine Keeps.trans (modes_of_touch (deferResp_touch ..) (by decide)) ?_
        refine Keeps.trans (modes_of_touch (Touch.set_power (b := [.power]) (by decide) (Touch.refl _ _)) (by decide)) ?_
        exact Keeps.refl _ _
  · exact Keeps.refl _ _

theorem execOpcDiagEnter_modes  (mb : ℕ) (s : State) :
    KeepsOut ModesOk s (execOpcDiagEnter mb s) := by
  unfold execOpcDiagEnter
  dsimp only
  refine KeepsOut.trans (serveNext_modes (h := ?_) ..) ?_
  · intro t0 t1
    refine Keeps.trans (modes_of_touch (done_touch ..) (by decide)) ?_
    apply Keeps.trans (setMode_modes ..)
    refine Keeps.trans (Keeps.upd (Touch.set_dev (b := [.dev]) (by decide) (Touch.refl _ _)) (fun h => by first | exact h | exact ⟨fun _ => rfl, h.2⟩)) ?_
    exact Keeps.refl _ _
  · exact Keeps.refl _ _

theorem execOpcDiagExit_modes  (mb : ℕ) (s : State) :
    KeepsOut ModesOk s (execOpcDiagExit mb s) := by
  unfold execOpcDiagExit
  dsimp only
  refine KeepsOut.trans (serveNext_modes (h := ?_) ..) ?_
  · intro t0 t1
    apply Keeps.trans (settleBypass_modes ..)
    refine Keeps.trans (modes_of_touch (submitDue_touch ..) (by decide)) ?_
    refine Keeps.trans (modes_of_touch (done_touch ..) (by decide)) ?_
    apply Keeps.trans (setMode_modes ..)
    refine Keeps.trans (Keeps.upd (Touch.set_dev (b := [.dev]) (by decide) (Touch.refl _ _)) (fun h => by first | exact h | exact ⟨fun _ => rfl, h.2⟩)) ?_
    exact Keeps.refl _ _
  · exact Keeps.refl _ _

theorem armDevice_modes  (s : State) (id : ℕ) (sites : BitVec 64) :
    Keeps ModesOk s (armDevice s id sites) := by
  unfold armDevice
  dsimp only
  apply Keeps.trans (setMode_modes ..)
  apply Keeps.foldl
  · refine Keeps.trans (Keeps.upd (Touch.set_dev_chans (b := [.dev, .chans]) (by decide) (by decide) (Touch.refl _ _)) (fun h => by first | exact h | exact ⟨fun _ => rfl, h.2⟩)) ?_
    apply Keeps.foldl
    · exact Keeps.refl _ _
    · intro u v
      refine Keeps.trans (modes_of_touch (strobeGroup_touch ..) (by decide)) ?_
      exact Keeps.refl _ _
  · intro u v
    refine Keeps.trans (modes_of_touch (restPeb_touch ..) (by decide)) ?_
    exact Keeps.refl _ _

theorem execOpcArm_modes  (mb : ℕ) (s : State) :
    KeepsOut ModesOk s (execOpcArm mb s) := by
  unfold execOpcArm
  dsimp only
  refine KeepsOut.trans (serveNext_modes (h := ?_) ..) ?_
  · intro t0 t1
    refine Keeps.trans (modes_of_touch (done_touch ..) (by decide)) ?_
    apply Keeps.trans (armDevice_modes ..)
    exact Keeps.refl _ _
  · exact Keeps.refl _ _

theorem execOpcPause_modes  (mb : ℕ) (s : State) :
    KeepsOut ModesOk s (execOpcPause mb s) := by
  unfold execOpcPause
  refine KeepsOut.trans (serveNext_modes (h := ?_) ..) ?_
  · intro t0 t1
    apply Keeps.trans (beginPause_modes ..)
    refine Keeps.trans (modes_of_touch (deferResp_touch ..) (by decide)) ?_
    exact Keeps.refl _ _
  · exact Keeps.refl _ _

theorem execOpcResume_modes  (mb : ℕ) (s : State) :
    KeepsOut ModesOk s (execOpcResume mb s) := by
  unfold execOpcResume
  dsimp only
  refine KeepsOut.trans (serveNext_modes (h := ?_) ..) ?_
  · intro t0 t1
    apply Keeps.trans (settleMode_modes ..)
    refine Keeps.trans (modes_of_touch (done_touch ..) (by decide)) ?_
    apply Keeps.foldl
    · apply Keeps.trans (setMode_modes ..)
      exact Keeps.refl _ _
    · intro u v
      refine Keeps.trans (modes_of_touch (resumeItem_touch ..) (by decide)) ?_
      exact Keeps.refl _ _
  · exact Keeps.refl _ _

theorem execOpcNoticeConfig_modes  (mb : ℕ) (s : State) :
    KeepsOut ModesOk s (execOpcNoticeConfig mb s) := by
  unfold execOpcNoticeConfig
  dsimp only
  refine KeepsOut.trans (serveNext_modes (h := ?_) ..) ?_
  · intro t0 t1
    refine Keeps.trans (modes_of_touch (done_touch ..) (by decide)) ?_
    refine Keeps.trans (Keeps.upd (Touch.set_dev (b := [.dev]) (by decide) (Touch.refl _ _)) (fun h => by first | exact h | exact ⟨fun _ => rfl, h.2⟩)) ?_
    exact Keeps.refl _ _
  · exact Keeps.refl _ _

theorem acceptItem_modes  (s : State) (mb : ℕ) (m : Msg) (ext : List Byte) :
    Keeps ModesOk s (acceptItem s mb m ext) := by
  unfold acceptItem
  dsimp only
  split
  · apply Keeps.ite
    · apply Keeps.trans (endItem_modes ..)
      refine Keeps.trans (modes_of_touch (respond_touch ..) (by decide)) ?_
      refine Keeps.trans (modes_of_touch (newItem_touch ..) (by decide)) ?_
      exact Keeps.refl _ _
    · refine Keeps.trans (modes_of_touch (respond_touch ..) (by decide)) ?_
      refine Keeps.trans (modes_of_touch (newItem_touch ..) (by decide)) ?_
      exact Keeps.refl _ _
  · exact Keeps.refl _ _

theorem execOpcItemSubmit_modes  (mb : ℕ) (rem : Remote) (s : State) :
    KeepsOut ModesOk s (execOpcItemSubmit mb rem s) := by
  unfold execOpcItemSubmit
  dsimp only
  refine KeepsOut.trans (serve_modes (h := ?_) ..) ?_
  · intro t0 t1
    apply KeepsOut.ite
    · apply KeepsOut.fault
    · apply KeepsOut.next
      apply Keeps.trans (acceptItem_modes ..)
      exact Keeps.refl _ _
  · exact Keeps.refl _ _

theorem execOpcItemAbort_modes  (mb : ℕ) (s : State) :
    KeepsOut ModesOk s (execOpcItemAbort mb s) := by
  unfold execOpcItemAbort
  dsimp only
  refine KeepsOut.trans (serveNext_modes (h := ?_) ..) ?_
  · intro t0 t1
    apply Keeps.ite
    · refine Keeps.trans (modes_of_touch (respond_touch ..) (by decide)) ?_
      exact Keeps.refl _ _
    · apply Keeps.trans (settleBypass_modes ..)
      apply Keeps.trans (abortItem_modes ..)
      refine Keeps.trans (modes_of_touch (done_touch ..) (by decide)) ?_
      exact Keeps.refl _ _
  · exact Keeps.refl _ _

theorem receive_modes  (s : State) (p : ℕ) (pkt : Packet) (f : State → Out)
    (h : ∀ t0, KeepsOut ModesOk t0 (f t0)) :
    KeepsOut ModesOk s (receive s p pkt f) := by
  unfold receive
  apply KeepsOut.ite
  · apply KeepsOut.next
    exact Keeps.refl _ _
  · apply KeepsOut.ite
    · apply KeepsOut.trans (h ..)
      refine Keeps.trans (modes_of_touch (modPort_touch ..) (by decide)) ?_
      exact Keeps.refl _ _
    · apply KeepsOut.next
      refine Keeps.trans (modes_of_touch (modPort_touch ..) (by decide)) ?_
      exact Keeps.refl _ _

theorem deliver_modes  (cls : ℕ) (port : Port) (pkt : Packet) (s : State) (f : State → Out)
    (h : ∀ t0, KeepsOut ModesOk t0 (f t0)) :
    KeepsOut ModesOk s (deliver cls port pkt s f) := by
  unfold deliver
  apply KeepsOut.ite
  · refine KeepsOut.trans (receive_modes (h := ?_) ..) ?_
    · intro t0
      apply KeepsOut.trans (h ..)
      refine Keeps.trans (modes_of_touch (takeIn_touch ..) (by decide)) ?_
      exact Keeps.refl _ _
    · exact Keeps.refl _ _
  · apply KeepsOut.next
    exact Keeps.refl _ _

theorem execRegWr_modes  (port : Port) (pkt : Packet) (s : State) :
    KeepsOut ModesOk s (execRegWr port pkt s) := by
  unfold execRegWr
  dsimp only
  refine KeepsOut.trans (deliver_modes (h := ?_) ..) ?_
  · intro t0
    apply KeepsOut.ite
    · apply KeepsOut.next
      refine Keeps.trans (modes_of_touch (sendPlain_touch ..) (by decide)) ?_
      apply Keeps.trans (writeWords_modes ..)
      exact Keeps.refl _ _
    · apply KeepsOut.next
      refine Keeps.trans (modes_of_touch (sendPlain_touch ..) (by decide)) ?_
      exact Keeps.refl _ _
  · exact Keeps.refl _ _

theorem writeAnswered_modes  (s : State) (o : Outst) (status : ℕ) :
    Keeps ModesOk s (writeAnswered s o status) := by
  unfold writeAnswered
  dsimp only
  split
  · split
    · refine Keeps.trans (modes_of_touch (beatsAnswered_touch ..) (by decide)) ?_
      exact Keeps.refl _ _
    · exact Keeps.refl _ _
  · split
    · apply Keeps.trans (writebackAnswered_modes ..)
      exact Keeps.refl _ _
    · exact Keeps.refl _ _

theorem execMemWrAck_modes  (port : Port) (pkt : Packet) (s : State) :
    KeepsOut ModesOk s (execMemWrAck port pkt s) := by
  unfold execMemWrAck
  refine KeepsOut.trans (deliver_modes (h := ?_) ..) ?_
  · intro t0
    split
    · apply KeepsOut.next
      apply Keeps.trans (writeAnswered_modes ..)
      refine Keeps.trans (modes_of_touch (closeOutst_touch ..) (by decide)) ?_
      exact Keeps.refl _ _
    · apply KeepsOut.next
      exact Keeps.refl _ _
  · exact Keeps.refl _ _

theorem readAnswered_modes  (s : State) (o : Outst) (status : ℕ) (rem : Remote) :
    KeepsOut ModesOk s (readAnswered s o status rem) := by
  unfold readAnswered
  dsimp only
  split
  · split
    · apply KeepsOut.ite
      · apply KeepsOut.trans (descArrives_modes ..)
        exact Keeps.refl _ _
      · apply KeepsOut.next
        exact Keeps.refl _ _
    · split
      · apply KeepsOut.next
        refine Keeps.trans (modes_of_touch (burstArrives_touch ..) (by decide)) ?_
        exact Keeps.refl _ _
      · apply KeepsOut.next
        exact Keeps.refl _ _
    · apply KeepsOut.next
      exact Keeps.refl _ _
  · apply KeepsOut.next
    apply Keeps.ite
    · exact Keeps.refl _ _
    · refine Keeps.trans (modes_of_touch (loseRead_touch ..) (by decide)) ?_
      exact Keeps.refl _ _
  · apply KeepsOut.next
    exact Keeps.refl _ _

theorem execMemRdRsp_modes  (port : Port) (pkt : Packet) (s : State) :
    KeepsOut ModesOk s (execMemRdRsp port pkt s) := by
  unfold execMemRdRsp
  refine KeepsOut.trans (deliver_modes (h := ?_) ..) ?_
  · intro t0
    split
    · apply KeepsOut.trans (readAnswered_modes ..)
      refine Keeps.trans (modes_of_touch (closeOutst_touch ..) (by decide)) ?_
      exact Keeps.refl _ _
    · apply KeepsOut.next
      exact Keeps.refl _ _
  · exact Keeps.refl _ _

theorem execRequestTimeout_modes  (tag : BitVec 16) (s : State) :
    KeepsOut ModesOk s (execRequestTimeout tag s) := by
  unfold execRequestTimeout
  dsimp only
  split
  · apply KeepsOut.ite
    · apply KeepsOut.trans (readAnswered_modes ..)
      refine Keeps.trans (modes_of_touch (closeOutst_touch ..) (by decide)) ?_
      exact Keeps.refl _ _
    · apply KeepsOut.ite
      · apply KeepsOut.next
        apply Keeps.trans (writeAnswered_modes ..)
        refine Keeps.trans (modes_of_touch (closeOutst_touch ..) (by decide)) ?_
        exact Keeps.refl _ _
      · apply KeepsOut.next
        refine Keeps.trans (modes_of_touch (closeOutst_touch ..) (by decide)) ?_
        exact Keeps.refl _ _
  · apply KeepsOut.next
    exact Keeps.refl _ _

theorem readDiode_modes  (s : State) (n : ℕ) (r : Option ℤ) (faulty : Bool) :
    Keeps ModesOk s (readDiode s n r faulty) := by
  unfold readDiode
  dsimp only
  apply Keeps.ite
  · exact Keeps.refl _ _
  · apply Keeps.ite
    · apply Keeps.trans (detectOwn_modes ..)
      refine Keeps.trans (modes_of_touch (setTemp_touch ..) (by decide)) ?_
      exact Keeps.refl _ _
    · split
      · refine Keeps.trans (modes_of_touch (setTemp_touch ..) (by decide)) ?_
        exact Keeps.refl _ _
      · refine Keeps.trans (modes_of_touch (setTemp_touch ..) (by decide)) ?_
        exact Keeps.refl _ _

theorem readRef_modes  (s : State) (r : Option ℤ) :
    Keeps ModesOk s (readRef s r) := by
  unfold readRef
  dsimp only
  apply Keeps.ite
  · exact Keeps.refl _ _
  · split
    · apply Keeps.ite
      · apply Keeps.trans (detectOwn_modes ..)
        refine Keeps.trans (modes_of_touch (Touch.set_house (b := [.house]) (by decide) (Touch.refl _ _)) (by decide)) ?_
        exact Keeps.refl _ _
      · refine Keeps.trans (modes_of_touch (Touch.set_house (b := [.house]) (by decide) (Touch.refl _ _)) (by decide)) ?_
        exact Keeps.refl _ _
    · refine Keeps.trans (modes_of_touch (Touch.set_house (b := [.house]) (by decide) (Touch.refl _ _)) (by decide)) ?_
      exact Keeps.refl _ _

theorem readSlot_modes  (s : State) (n : ℕ) (r : Option ℤ) (faulty : Bool) :
    Keeps ModesOk s (readSlot s n r faulty) := by
  unfold readSlot
  split
  · apply Keeps.ite
    · apply Keeps.trans (readDiode_modes ..)
      exact Keeps.refl _ _
    · refine Keeps.trans (modes_of_touch (readChip_touch ..) (by decide)) ?_
      exact Keeps.refl _ _
  · apply Keeps.ite
    · refine Keeps.trans (modes_of_touch (readRail_touch ..) (by decide)) ?_
      exact Keeps.refl _ _
    · apply Keeps.ite
      · apply Keeps.trans (readRef_modes ..)
        exact Keeps.refl _ _
      · apply Keeps.ite
        · refine Keeps.trans (modes_of_touch (readStandard_touch ..) (by decide)) ?_
          exact Keeps.refl _ _
        · exact Keeps.refl _ _

theorem remoteTrip_modes  (s : State) (k : ℕ) :
    Keeps ModesOk s (remoteTrip s k) := by
  unfold remoteTrip
  apply Keeps.ite
  · apply Keeps.trans (detectOwn_modes ..)
    exact Keeps.refl _ _
  · exact Keeps.refl _ _

theorem execHousekeepingSlot_modes  (reading : Option ℤ) (faulty : Bool) (s : State) :
    KeepsOut ModesOk s (execHousekeepingSlot reading faulty s) := by
  unfold execHousekeepingSlot
  dsimp only
  apply KeepsOut.ite
  · apply KeepsOut.next
    exact Keeps.refl _ _
  · apply KeepsOut.ite
    · apply KeepsOut.next
      refine Keeps.trans (modes_of_touch (Touch.set_house (b := [.house]) (by decide) (Touch.refl _ _)) (by decide)) ?_
      split
      · refine Keeps.trans (modes_of_touch (driftCheck_touch ..) (by decide)) ?_
        apply Keeps.trans (remoteTrip_modes ..)
        apply Keeps.trans (readSlot_modes ..)
        refine Keeps.trans (modes_of_touch (Touch.set_house (b := [.house]) (by decide) (Touch.refl _ _)) (by decide)) ?_
        exact Keeps.refl _ _
      · apply Keeps.trans (readSlot_modes ..)
        refine Keeps.trans (modes_of_touch (Touch.set_house (b := [.house]) (by decide) (Touch.refl _ _)) (by decide)) ?_
        exact Keeps.refl _ _
    · apply KeepsOut.next
      refine Keeps.trans (modes_of_touch (Touch.set_house (b := [.house]) (by decide) (Touch.refl _ _)) (by decide)) ?_
      refine Keeps.trans (modes_of_touch (endRound_touch ..) (by decide)) ?_
      split
      · refine Keeps.trans (modes_of_touch (driftCheck_touch ..) (by decide)) ?_
        apply Keeps.trans (remoteTrip_modes ..)
        apply Keeps.trans (readSlot_modes ..)
        refine Keeps.trans (modes_of_touch (Touch.set_house (b := [.house]) (by decide) (Touch.refl _ _)) (by decide)) ?_
        exact Keeps.refl _ _
      · apply Keeps.trans (readSlot_modes ..)
        refine Keeps.trans (modes_of_touch (Touch.set_house (b := [.house]) (by decide) (Touch.refl _ _)) (by decide)) ?_
        exact Keeps.refl _ _

theorem schedFailed_modes  (s : State) (id : ℕ) :
    Keeps ModesOk s (schedFailed s id) := by
  unfold schedFailed
  dsimp only
  apply Keeps.foldl
  · refine Keeps.trans (modes_of_touch (modSched_touch ..) (by decide)) ?_
    exact Keeps.refl _ _
  · intro u v
    apply Keeps.trans (endItem_modes ..)
    exact Keeps.refl _ _

theorem execScheduleDigestDone_modes  (id : ℕ) (rem : Remote) (s : State) :
    KeepsOut ModesOk s (execScheduleDigestDone id rem s) := by
  unfold execScheduleDigestDone
  dsimp only
  split
  · split
    · apply KeepsOut.ite
      · apply KeepsOut.ite
        · apply KeepsOut.fault
        · apply KeepsOut.next
          refine Keeps.trans (modes_of_touch (modSched_touch ..) (by decide)) ?_
          exact Keeps.refl _ _
      · apply KeepsOut.next
        apply Keeps.trans (schedFailed_modes ..)
        exact Keeps.refl _ _
    · apply KeepsOut.next
      apply Keeps.trans (schedFailed_modes ..)
      exact Keeps.refl _ _
  · apply KeepsOut.next
    exact Keeps.refl _ _

theorem storeFailed_modes  (s : State) (q : ℕ) (target : ℕ) :
    Keeps ModesOk s (storeFailed s q target) := by
  unfold storeFailed
  dsimp only
  apply Keeps.foldl
  · refine Keeps.trans (modes_of_touch (modSeq_touch ..) (by decide)) ?_
    exact Keeps.refl _ _
  · intro u v
    apply Keeps.trans (endNow_modes ..)
    exact Keeps.refl _ _

theorem execMseqDigestDone_modes  (seq : ℕ) (rem : Remote) (s : State) :
    KeepsOut ModesOk s (execMseqDigestDone seq rem s) := by
  unfold execMseqDigestDone
  dsimp only
  split
  · split
    · apply KeepsOut.ite
      · apply KeepsOut.next
        refine Keeps.trans (modes_of_touch (modSeq_touch ..) (by decide)) ?_
        refine Keeps.trans (modes_of_touch (modSeq_touch ..) (by decide)) ?_
        exact Keeps.refl _ _
      · apply KeepsOut.next
        apply Keeps.trans (storeFailed_modes ..)
        refine Keeps.trans (modes_of_touch (modSeq_touch ..) (by decide)) ?_
        exact Keeps.refl _ _
    · apply KeepsOut.next
      apply Keeps.trans (storeFailed_modes ..)
      refine Keeps.trans (modes_of_touch (modSeq_touch ..) (by decide)) ?_
      exact Keeps.refl _ _
  · apply KeepsOut.next
    exact Keeps.refl _ _

theorem execOpcSiteMap_modes (mb : Nat) (rem : Remote) (s : State) : KeepsOut ModesOk s (execOpcSiteMap mb rem s) := by
  unfold execOpcSiteMap
  refine KeepsOut.trans (serve_modes (h := ?_) ..) (Keeps.refl _ _)
  intro t0 t1
  dsimp only
  generalize (List.range 768).foldl _ _ = map
  apply KeepsOut.ite
  · exact KeepsOut.fault
  · exact KeepsOut.next ((modes_of_touch (done_touch ..) (by decide)).trans ⟨fun h => h⟩)

/-- A disarm begins in ARMED alone. -/
theorem execOpcDisarm_modes (mb : Nat) (s : State) : KeepsOut ModesOk s (execOpcDisarm mb s) := by
  refine ⟨fun t ht => ⟨fun k => ?_⟩⟩
  unfold execOpcDisarm serveNext serve at ht
  split at ht
  · next hq =>
    generalize hx : takeFront s mb = x at ht
    obtain ⟨m, u⟩ := x
    have ut : Touch [.mbs, .rr, .fabric, .free] s u := by have := takeFront_touch s mb; rw [hx] at this; exact this
    have ku : ModesOk u := (modes_of_touch ut (by decide)).keeps k
    dsimp only at ht
    split at ht
    · cases ht
    · split at ht
      · cases ht; exact (modes_of_touch (refuse_touch ..) (by decide)).keeps ku
      · next he =>
        have hm : u.dev.mode = .armed := by
          have := early_mode he
          rw [takeFront_op hx, hq.2] at this
          cases e : u.dev.mode <;> rw [e] at this <;> first | rfl | exact absurd this (by decide)
        split at ht
        · cases ht
        · split at ht
          · cases ht; exact (modes_of_touch (refuse_touch ..) (by decide)).keeps ku
          · cases ht
            refine ((settleBypass_modes ..).trans ((finishDisarm_modes ..).trans (modes_of_touch (deferResp_touch ..) (by decide)))).keeps ?_
            exact ⟨fun e => absurd (hm.symm.trans e) (by decide), fun e => absurd (hm.symm.trans e) (by decide)⟩
  · cases ht; exact k


end Sys2Proof.Machine
end

