-- ==== Sys2Proof/Laws/Quiet.lean ====
section
/-! SUPPORT. While no firmware runs, the clock and the power switches leave the mailboxes alone (R74). -/

namespace Sys2Proof.Machine

/-- No firmware runs, and the mailboxes are c. -/
def QuietMbs (c : Tab Mailbox) (s : State) : Prop := s.boot.running = false ∧ s.mbs = c

theorem quiet_of_touch {c : Tab Mailbox} {a : List Part} {s t : State} (k : Touch a s t) (hm : Part.boot ∉ a ∧ Part.mbs ∉ a) :
    Keeps (QuietMbs c) s t :=
  ⟨fun h => by
    have e : t.boot = s.boot := k.same .boot hm.1
    have e' : t.mbs = s.mbs := k.same .mbs hm.2
    unfold QuietMbs
    rw [e, e']
    exact h⟩

theorem quiet_of_touchOut {c : Tab Mailbox} {a : List Part} {s : State} {o : Out} (k : TouchOut a s o)
    (hm : Part.boot ∉ a ∧ Part.mbs ∉ a) : KeepsOut (QuietMbs c) s o :=
  ⟨fun t ht => quiet_of_touch (k.next_same t ht) hm⟩

/-- While no firmware runs, no notice is posted (R74). -/
theorem deviceNotice_quiet (c : Tab Mailbox) (s : State) (bit op len : Nat) (fields : List (Nat × Nat × Nat)) :
    Keeps (QuietMbs c) s (deviceNotice s bit op len fields) :=
  ⟨fun h => by
    have : deviceNotice s bit op len fields = s := by simp [deviceNotice, spabryUp, h.1]
    rw [this]
    exact h⟩

theorem unitNotice_quiet (c : Tab Mailbox) (s : State) (a1 : ℕ) (old : UState) (new : UState) :
    Keeps (QuietMbs c) s (unitNotice s a1 old new) := by
  unfold unitNotice
  apply Keeps.ite
  · exact Keeps.refl _ _
  · apply Keeps.trans (deviceNotice_quiet ..)
    exact Keeps.refl _ _

theorem changePort_quiet (c : Tab Mailbox) (s : State) (p : ℕ) (f : PortState → PortState) :
    Keeps (QuietMbs c) s (changePort s p f) := by
  unfold changePort
  dsimp only
  apply Keeps.ite
  · refine Keeps.trans (quiet_of_touch (modPort_touch ..) (by decide)) ?_
    exact Keeps.refl _ _
  · apply Keeps.trans (unitNotice_quiet ..)
    refine Keeps.trans (quiet_of_touch (modPort_touch ..) (by decide)) ?_
    exact Keeps.refl _ _

theorem setUnit_quiet (c : Tab Mailbox) (s : State) (a1 : ℕ) (new : UState) (byHost : Bool) :
    Keeps (QuietMbs c) s (setUnit s a1 new byHost) := by
  unfold setUnit
  dsimp only
  apply Keeps.ite
  · refine Keeps.trans (quiet_of_touch (modUnit_touch ..) (by decide)) ?_
    exact Keeps.refl _ _
  · apply Keeps.trans (unitNotice_quiet ..)
    refine Keeps.trans (quiet_of_touch (modUnit_touch ..) (by decide)) ?_
    exact Keeps.refl _ _

theorem setMode_quiet (c : Tab Mailbox) (s : State) (m : Mode) :
    Keeps (QuietMbs c) s (setMode s m) := by
  unfold setMode
  dsimp only
  apply Keeps.ite
  · exact Keeps.refl _ _
  · refine Keeps.trans (quiet_of_touch (Touch.set_dev (b := [.dev]) (by decide) (Touch.refl _ _)) (by decide)) ?_
    exact Keeps.refl _ _

theorem changeClock_quiet (c : Tab Mailbox) (s : State) (f : State → State)
    (h : ∀ t0, Keeps (QuietMbs c) t0 (f t0)) :
    Keeps (QuietMbs c) s (changeClock s f) := by
  unfold changeClock
  dsimp only
  apply Keeps.ite
  · apply Keeps.trans (h ..)
    exact Keeps.refl _ _
  · apply Keeps.trans (deviceNotice_quiet ..)
    apply Keeps.ite
    · apply Keeps.trans (h ..)
      exact Keeps.refl _ _
    · refine Keeps.trans (quiet_of_touch (Touch.set_hw (b := [.hw]) (by decide) (Touch.refl _ _)) (by decide)) ?_
      apply Keeps.trans (h ..)
      exact Keeps.refl _ _

theorem retrainPorts_quiet (c : Tab Mailbox) (s : State) :
    Keeps (QuietMbs c) s (retrainPorts s) := by
  unfold retrainPorts
  apply Keeps.foldl
  · exact Keeps.refl _ _
  · intro u v
    apply Keeps.ite
    · exact Keeps.refl _ _
    · apply Keeps.trans (changePort_quiet ..)
      exact Keeps.refl _ _

theorem startLock_quiet (c : Tab Mailbox) (s : State) (m : BitVec 28) :
    Keeps (QuietMbs c) s (startLock s m) := by
  unfold startLock
  dsimp only
  apply Keeps.trans (retrainPorts_quiet ..)
  refine Keeps.trans (changeClock_quiet (h := ?_) ..) ?_
  · intro t0
    refine Keeps.trans (quiet_of_touch (Touch.set_clock_hw (b := [.clock, .hw]) (by decide) (by decide) (Touch.refl _ _)) (by decide)) ?_
    exact Keeps.refl _ _
  · exact Keeps.refl _ _

theorem orderOn1_quiet (c : Tab Mailbox) (s : State) (d : ℕ) :
    Keeps (QuietMbs c) s (orderOn1 s d) := by
  unfold orderOn1
  dsimp only
  apply Keeps.ite
  · split
    · refine Keeps.trans (quiet_of_touch (modUnit_touch ..) (by decide)) ?_
      exact Keeps.refl _ _
    · exact Keeps.refl _ _
  · apply Keeps.ite
    · split
      · apply Keeps.ite
        · apply Keeps.trans (setUnit_quiet ..)
          refine Keeps.trans (quiet_of_touch (modUnit_touch ..) (by decide)) ?_
          refine Keeps.trans (quiet_of_touch (Touch.set_power (b := [.power]) (by decide) (Touch.refl _ _)) (by decide)) ?_
          exact Keeps.refl _ _
        · refine Keeps.trans (quiet_of_touch (modUnit_touch ..) (by decide)) ?_
          refine Keeps.trans (quiet_of_touch (Touch.set_power (b := [.power]) (by decide) (Touch.refl _ _)) (by decide)) ?_
          exact Keeps.refl _ _
      · refine Keeps.trans (quiet_of_touch (Touch.set_power (b := [.power]) (by decide) (Touch.refl _ _)) (by decide)) ?_
        exact Keeps.refl _ _
    · apply Keeps.ite
      · exact Keeps.refl _ _
      · refine Keeps.trans (quiet_of_touch (Touch.set_power (b := [.power]) (by decide) (Touch.refl _ _)) (by decide)) ?_
        exact Keeps.refl _ _

theorem orderOff1_quiet (c : Tab Mailbox) (s : State) (d : ℕ) :
    Keeps (QuietMbs c) s (orderOff1 s d) := by
  unfold orderOff1
  dsimp only
  apply Keeps.ite
  · split
    · apply Keeps.ite
      · refine Keeps.trans (quiet_of_touch (modUnit_touch ..) (by decide)) ?_
        apply Keeps.trans (setUnit_quiet ..)
        refine Keeps.trans (quiet_of_touch (Touch.set_power (b := [.power]) (by decide) (Touch.refl _ _)) (by decide)) ?_
        exact Keeps.refl _ _
      · refine Keeps.trans (quiet_of_touch (Touch.set_power (b := [.power]) (by decide) (Touch.refl _ _)) (by decide)) ?_
        exact Keeps.refl _ _
    · refine Keeps.trans (quiet_of_touch (Touch.set_power (b := [.power]) (by decide) (Touch.refl _ _)) (by decide)) ?_
      exact Keeps.refl _ _
  · apply Keeps.ite
    · split
      · apply Keeps.ite
        · apply Keeps.trans (setUnit_quiet ..)
          refine Keeps.trans (quiet_of_touch (modUnit_touch ..) (by decide)) ?_
          refine Keeps.trans (quiet_of_touch (Touch.set_power (b := [.power]) (by decide) (Touch.refl _ _)) (by decide)) ?_
          exact Keeps.refl _ _
        · refine Keeps.trans (quiet_of_touch (modUnit_touch ..) (by decide)) ?_
          refine Keeps.trans (quiet_of_touch (Touch.set_power (b := [.power]) (by decide) (Touch.refl _ _)) (by decide)) ?_
          exact Keeps.refl _ _
      · refine Keeps.trans (quiet_of_touch (Touch.set_power (b := [.power]) (by decide) (Touch.refl _ _)) (by decide)) ?_
        exact Keeps.refl _ _
    · exact Keeps.refl _ _

theorem orderSwitches_quiet (c : Tab Mailbox) (s : State) (on : BitVec 32) (off : BitVec 32) :
    Keeps (QuietMbs c) s (orderSwitches s on off) := by
  unfold orderSwitches
  dsimp only
  refine Keeps.trans (quiet_of_touch (closeSwitches_touch ..) (by decide)) ?_
  apply Keeps.foldl
  · apply Keeps.foldl
    · exact Keeps.refl _ _
    · intro u v
      apply Keeps.trans (orderOff1_quiet ..)
      exact Keeps.refl _ _
  · intro u v
    apply Keeps.trans (orderOn1_quiet ..)
    exact Keeps.refl _ _

end Sys2Proof.Machine
end

