-- ==== Sys2Proof/Laws/Rails.lean ====
section
/-! SUPPORT. Ordering switches changes no rail. -/

namespace Sys2Proof.Machine

/-- The rails are c. -/
def RailsIs (c : BitVec 15) (s : State) : Prop := s.power.rails = c

theorem rails_of_touch {c : BitVec 15} {a : List Part} {s t : State} (k : Touch a s t) (hm : Part.power ∉ a) : Keeps (RailsIs c) s t :=
  ⟨fun h => by
    have e : t.power = s.power := k.same .power hm
    unfold RailsIs
    rw [e]
    exact h⟩

theorem rails_of_touchOut {c : BitVec 15} {a : List Part} {s : State} {o : Out} (k : TouchOut a s o) (hm : Part.power ∉ a) :
    KeepsOut (RailsIs c) s o :=
  ⟨fun t ht => rails_of_touch (k.next_same t ht) hm⟩

theorem setMode_rails (c : BitVec 15) (s : State) (m : Mode) :
    Keeps (RailsIs c) s (setMode s m) := by
  unfold setMode
  dsimp only
  apply Keeps.ite
  · exact Keeps.refl _ _
  · refine Keeps.trans (rails_of_touch (Touch.set_dev (b := [.dev]) (by decide) (Touch.refl _ _)) (by decide)) ?_
    exact Keeps.refl _ _

theorem changeClock_rails (c : BitVec 15) (s : State) (f : State → State)
    (h : ∀ t0, Keeps (RailsIs c) t0 (f t0)) :
    Keeps (RailsIs c) s (changeClock s f) := by
  unfold changeClock
  dsimp only
  apply Keeps.ite
  · apply Keeps.trans (h ..)
    exact Keeps.refl _ _
  · refine Keeps.trans (rails_of_touch (deviceNotice_touch ..) (by decide)) ?_
    apply Keeps.ite
    · apply Keeps.trans (h ..)
      exact Keeps.refl _ _
    · refine Keeps.trans (rails_of_touch (Touch.set_hw (b := [.hw]) (by decide) (Touch.refl _ _)) (by decide)) ?_
      apply Keeps.trans (h ..)
      exact Keeps.refl _ _

theorem startLock_rails (c : BitVec 15) (s : State) (m : BitVec 28) :
    Keeps (RailsIs c) s (startLock s m) := by
  unfold startLock
  dsimp only
  refine Keeps.trans (rails_of_touch (retrainPorts_touch ..) (by decide)) ?_
  refine Keeps.trans (changeClock_rails (h := ?_) ..) ?_
  · intro t0
    refine Keeps.trans (rails_of_touch (Touch.set_clock_hw (b := [.clock, .hw]) (by decide) (by decide) (Touch.refl _ _)) (by decide)) ?_
    exact Keeps.refl _ _
  · exact Keeps.refl _ _

theorem closeSwitches_rails (c : BitVec 15) (s : State) :
    Keeps (RailsIs c) s (closeSwitches s) := by
  unfold closeSwitches
  dsimp only
  refine Keeps.trans (Keeps.upd (Touch.set_power (b := [.power]) (by decide) (Touch.refl _ _)) fun h => h) ?_
  exact Keeps.refl _ _

theorem orderOn1_rails (c : BitVec 15) (s : State) (d : ℕ) :
    Keeps (RailsIs c) s (orderOn1 s d) := by
  unfold orderOn1
  dsimp only
  apply Keeps.ite
  · split
    · refine Keeps.trans (rails_of_touch (modUnit_touch ..) (by decide)) ?_
      exact Keeps.refl _ _
    · exact Keeps.refl _ _
  · apply Keeps.ite
    · split
      · apply Keeps.ite
        · refine Keeps.trans (rails_of_touch (setUnit_touch ..) (by decide)) ?_
          refine Keeps.trans (rails_of_touch (modUnit_touch ..) (by decide)) ?_
          refine Keeps.trans (Keeps.upd (Touch.set_power (b := [.power]) (by decide) (Touch.refl _ _)) fun h => h) ?_
          exact Keeps.refl _ _
        · refine Keeps.trans (rails_of_touch (modUnit_touch ..) (by decide)) ?_
          refine Keeps.trans (Keeps.upd (Touch.set_power (b := [.power]) (by decide) (Touch.refl _ _)) fun h => h) ?_
          exact Keeps.refl _ _
      · refine Keeps.trans (Keeps.upd (Touch.set_power (b := [.power]) (by decide) (Touch.refl _ _)) fun h => h) ?_
        exact Keeps.refl _ _
    · apply Keeps.ite
      · exact Keeps.refl _ _
      · refine Keeps.trans (Keeps.upd (Touch.set_power (b := [.power]) (by decide) (Touch.refl _ _)) fun h => h) ?_
        exact Keeps.refl _ _

theorem orderOff1_rails (c : BitVec 15) (s : State) (d : ℕ) :
    Keeps (RailsIs c) s (orderOff1 s d) := by
  unfold orderOff1
  dsimp only
  apply Keeps.ite
  · split
    · apply Keeps.ite
      · refine Keeps.trans (rails_of_touch (modUnit_touch ..) (by decide)) ?_
        refine Keeps.trans (rails_of_touch (setUnit_touch ..) (by decide)) ?_
        refine Keeps.trans (Keeps.upd (Touch.set_power (b := [.power]) (by decide) (Touch.refl _ _)) fun h => h) ?_
        exact Keeps.refl _ _
      · refine Keeps.trans (Keeps.upd (Touch.set_power (b := [.power]) (by decide) (Touch.refl _ _)) fun h => h) ?_
        exact Keeps.refl _ _
    · refine Keeps.trans (Keeps.upd (Touch.set_power (b := [.power]) (by decide) (Touch.refl _ _)) fun h => h) ?_
      exact Keeps.refl _ _
  · apply Keeps.ite
    · split
      · apply Keeps.ite
        · refine Keeps.trans (rails_of_touch (setUnit_touch ..) (by decide)) ?_
          refine Keeps.trans (rails_of_touch (modUnit_touch ..) (by decide)) ?_
          refine Keeps.trans (Keeps.upd (Touch.set_power (b := [.power]) (by decide) (Touch.refl _ _)) fun h => h) ?_
          exact Keeps.refl _ _
        · refine Keeps.trans (rails_of_touch (modUnit_touch ..) (by decide)) ?_
          refine Keeps.trans (Keeps.upd (Touch.set_power (b := [.power]) (by decide) (Touch.refl _ _)) fun h => h) ?_
          exact Keeps.refl _ _
      · refine Keeps.trans (Keeps.upd (Touch.set_power (b := [.power]) (by decide) (Touch.refl _ _)) fun h => h) ?_
        exact Keeps.refl _ _
    · exact Keeps.refl _ _

theorem orderSwitches_rails (c : BitVec 15) (s : State) (on : BitVec 32) (off : BitVec 32) :
    Keeps (RailsIs c) s (orderSwitches s on off) := by
  unfold orderSwitches
  dsimp only
  apply Keeps.trans (closeSwitches_rails ..)
  apply Keeps.foldl
  · apply Keeps.foldl
    · exact Keeps.refl _ _
    · intro u v
      apply Keeps.trans (orderOff1_rails ..)
      exact Keeps.refl _ _
  · intro u v
    apply Keeps.trans (orderOn1_rails ..)
    exact Keeps.refl _ _

end Sys2Proof.Machine
end

