-- ==== Sys2Proof/Laws/Safe.lean ====
section
/-! SUPPORT. SAFE stays SAFE (R60): no command but a reset leaves it, where no disarm is under way. -/

namespace Sys2Proof.Machine

/-- The device is in SAFE, and no disarm is under way. -/
def SafeStill (s : State) : Prop := s.dev.mode = .safe ∧ s.dev.disarming = false

theorem safe_of_touch {a : List Part} {s t : State} (k : Touch a s t) (hm : Part.dev ∉ a) : Keeps SafeStill s t :=
  ⟨fun h => by
    have e : t.dev = s.dev := k.same .dev hm
    unfold SafeStill
    rw [e]
    exact h⟩

theorem safe_of_touchOut {a : List Part} {s : State} {o : Out} (k : TouchOut a s o) (hm : Part.dev ∉ a) :
    KeepsOut SafeStill s o :=
  ⟨fun t ht => safe_of_touch (k.next_same t ht) hm⟩

/-- What holds in SAFE holds of a state that is as it was. -/
theorem Keeps.of_eq {I : State → Prop} {s t : State} (h : I s → t = s) : Keeps I s t := ⟨fun k => by rw [h k]; exact k⟩

theorem KeepsOut.of_eq {I : State → Prop} {s : State} {o : Out} (h : I s → o = .next s ∨ ∃ f, o = .fault f) : KeepsOut I s o :=
  ⟨fun t ht => ⟨fun k => by
    rcases h k with e | ⟨f, e⟩
    · rw [e] at ht; cases ht; exact k
    · rw [e] at ht; cases ht⟩⟩

/-- A command that SAFE does not take leaves it. -/
theorem serve_refused_safe {op n : Nat} {rem : Remote} {s : State} {resv : Msg → Bool}
    {own : State → Msg → List (Bool × Nat × Nat)} {run : State → Msg → Out}
    (hm : ((modesOf op).getD []).contains .safe = false) : KeepsOut SafeStill s (serve op n rem s resv own run) := by
  refine ⟨fun t ht => ⟨fun k => ?_⟩⟩
  unfold serve at ht
  split at ht
  · next hq =>
    generalize hx : takeFront s n = x at ht
    obtain ⟨m, u⟩ := x
    have ut : Touch [.mbs, .rr, .fabric, .free] s u := by have := takeFront_touch s n; rw [hx] at this; exact this
    dsimp only at ht
    split at ht
    · cases ht
    · have ho : Msg.field m 0 2 = op := by rw [takeFront_op hx]; exact hq.2
      have hu : u.dev.mode = .safe := by rw [ut.dev]; exact k.1
      have hf : ∃ e, firstFail (earlyChecks u n rem m) = some e := by
        unfold earlyChecks
        dsimp only
        rw [firstFail_cons]
        split
        · exact ⟨_, rfl⟩
        · rw [firstFail_cons, if_pos]
          · exact ⟨_, rfl⟩
          · rw [ho, hu, hm]; rfl
      obtain ⟨e, he⟩ := hf
      rw [he] at ht
      cases ht
      exact ((safe_of_touch (refuse_touch u n m e) (by decide)).trans (safe_of_touch ut (by decide))).keeps k
  · cases ht; exact k

theorem settleMode_safe (s : State) : Keeps SafeStill s (settleMode s) :=
  .of_eq fun k => if_pos (by rw [k.1]; decide)

theorem settlePause_safe (s : State) (l : Slot) (reason : Option Nat) : Keeps SafeStill s (settlePause s l reason) :=
  .of_eq fun k => by
    unfold settlePause
    rw [k.1]
    simp

theorem settleCal_safe (s : State) : Keeps SafeStill s (settleCal s) :=
  .of_eq fun k => if_neg fun h => by have := h.1; rw [k.1] at this; exact absurd this (by decide)

theorem settleBypass_safe (s : State) : Keeps SafeStill s (settleBypass s) :=
  .of_eq fun k => if_neg fun h => by have := h.1; rw [k.1] at this; exact absurd this (by decide)

theorem finishDisarm_safe (s : State) : Keeps SafeStill s (finishDisarm s) :=
  .of_eq fun k => if_neg fun h => by have := h.1; rw [k.1] at this; exact absurd this (by decide)

theorem takeItem_safe (s : State) (i : Nat) : Keeps SafeStill s (takeItem s i) :=
  ⟨fun k => by
    have e : ∀ f, (modSlot s i f).dev = s.dev := fun f => (modSlot_touch s i f).dev
    unfold takeItem
    dsimp only
    rw [if_neg]
    · unfold SafeStill; rw [e]; exact k
    · rintro ⟨_, h⟩; rw [e, k.1] at h; exact absurd h (by decide)⟩

theorem enterSafe_safe (s : State) (cellar : Bool) : Keeps SafeStill s (enterSafe s cellar) :=
  ⟨fun k => by
    unfold enterSafe
    dsimp only
    have e : (if cellar = true then { s with levee := { s.levee with cellarOk := false } } else s).dev = s.dev := by
      split <;> rfl
    rw [if_pos (by rw [e]; exact Or.inl k.1)]
    unfold SafeStill
    rw [e]
    exact k⟩

theorem warmHold_safe (s : State) (cause : Nat) : Keeps SafeStill s (warmHold s cause) := ⟨fun k => ⟨k.1, rfl⟩⟩

theorem loadIr_safe (s : State) (ir : Byte) : Keeps SafeStill s (loadIr s ir) :=
  ⟨fun k => by
    unfold loadIr
    dsimp only
    rw [if_neg]
    · exact k
    · rintro ⟨_, h, _⟩; rw [k.1] at h; exact absurd h (by decide)⟩

theorem execSelfTestEnd_safe (report : List Byte) (s : State) : KeepsOut SafeStill s (execSelfTestEnd report s) :=
  .of_eq fun k => .inl (if_neg fun h => by have := h.1; rw [k.1] at this; exact absurd this (by decide))

theorem execBootDigestDone_safe (s : State) : KeepsOut SafeStill s (execBootDigestDone s) :=
  .of_eq fun k => .inl (if_neg fun h => by have := h.1; rw [k.1] at this; exact absurd this (by decide))

theorem execServiceBankChangeDone_safe (s : State) : KeepsOut SafeStill s (execServiceBankChangeDone s) :=
  .of_eq fun k => .inl (if_neg fun h => by rw [k.1] at h; exact absurd h (by decide))

theorem refuseService_safe (s : State) (status detail : Nat) : Keeps SafeStill s (refuseService s status detail) :=
  safe_of_touch (refuseService_touch s status detail) (by decide)

theorem execServiceImageChecked_safe (rem : Remote) (s : State) : KeepsOut SafeStill s (execServiceImageChecked rem s) := by
  refine ⟨fun t ht => ⟨fun k => ?_⟩⟩
  unfold execServiceImageChecked at ht
  split at ht
  · split at ht
    · cases ht; exact (refuseService_safe ..).keeps k
    · split at ht
      · cases ht; exact (refuseService_safe ..).keeps k
      · rw [if_pos (by rw [k.1]; decide)] at ht
        cases ht; exact (refuseService_safe ..).keeps k
  · cases ht; exact k

theorem execFordCloseNFall_safe (s : State) : KeepsOut SafeStill s (execFordCloseNFall s) := by
  refine ⟨fun t ht => ⟨fun k => ?_⟩⟩
  unfold execFordCloseNFall at ht
  dsimp only at ht
  generalize hu : closeFord { s with power := { s.power with fordPinLow := true } } = u at ht
  have e : u.dev = s.dev := by rw [← hu]; exact (closeFord_touch ..).dev
  have ku : SafeStill u := by unfold SafeStill; rw [e]; exact k
  split at ht
  · cases ht; exact ku
  · rw [ku.1] at ht
    cases ht; exact ku

theorem execOpcDeviceStart_safe (mb : Nat) (s : State) : KeepsOut SafeStill s (execOpcDeviceStart mb s) := by
  unfold execOpcDeviceStart serveNext
  exact serve_refused_safe (by decide)

theorem execOpcArm_safe (mb : Nat) (s : State) : KeepsOut SafeStill s (execOpcArm mb s) := by
  unfold execOpcArm serveNext
  exact serve_refused_safe (by decide)

theorem execOpcDisarm_safe (mb : Nat) (s : State) : KeepsOut SafeStill s (execOpcDisarm mb s) := by
  unfold execOpcDisarm serveNext
  exact serve_refused_safe (by decide)

theorem execOpcPause_safe (mb : Nat) (s : State) : KeepsOut SafeStill s (execOpcPause mb s) := by
  unfold execOpcPause serveNext
  exact serve_refused_safe (by decide)

theorem execOpcResume_safe (mb : Nat) (s : State) : KeepsOut SafeStill s (execOpcResume mb s) := by
  unfold execOpcResume serveNext
  exact serve_refused_safe (by decide)

theorem execOpcBypassEnter_safe (mb : Nat) (s : State) : KeepsOut SafeStill s (execOpcBypassEnter mb s) := by
  unfold execOpcBypassEnter serveNext
  exact serve_refused_safe (by decide)

theorem execOpcBypassExit_safe (mb : Nat) (s : State) : KeepsOut SafeStill s (execOpcBypassExit mb s) := by
  unfold execOpcBypassExit serveNext
  exact serve_refused_safe (by decide)

theorem execOpcDiagEnter_safe (mb : Nat) (s : State) : KeepsOut SafeStill s (execOpcDiagEnter mb s) := by
  unfold execOpcDiagEnter serveNext
  exact serve_refused_safe (by decide)

theorem execOpcDiagExit_safe (mb : Nat) (s : State) : KeepsOut SafeStill s (execOpcDiagExit mb s) := by
  unfold execOpcDiagExit serveNext
  exact serve_refused_safe (by decide)


theorem execOpcSiteMap_safe (mb : Nat) (rem : Remote) (s : State) : KeepsOut SafeStill s (execOpcSiteMap mb rem s) := by
  unfold execOpcSiteMap
  exact serve_refused_safe (by decide)


theorem endItem_safe  (s : State) (i : ℕ) (reason : Option ℕ) (f : Slot → Slot) :
    Keeps SafeStill s (endItem s i reason f) := by
  unfold endItem
  dsimp only
  apply Keeps.ite
  · apply Keeps.trans (settleCal_safe ..)
    apply Keeps.trans (settlePause_safe ..)
    apply Keeps.trans (settleMode_safe ..)
    apply Keeps.ite
    · refine Keeps.trans (safe_of_touch (submitUnslotted_touch ..) (by decide)) ?_
      refine Keeps.trans (safe_of_touch (itemDone_touch ..) (by decide)) ?_
      apply Keeps.ite
      · refine Keeps.trans (safe_of_touch (modUnit_touch ..) (by decide)) ?_
        refine Keeps.trans (safe_of_touch (modSlot_touch ..) (by decide)) ?_
        exact Keeps.refl _ _
      · refine Keeps.trans (safe_of_touch (modSlot_touch ..) (by decide)) ?_
        exact Keeps.refl _ _
    · refine Keeps.trans (safe_of_touch (itemDone_touch ..) (by decide)) ?_
      apply Keeps.ite
      · refine Keeps.trans (safe_of_touch (modUnit_touch ..) (by decide)) ?_
        refine Keeps.trans (safe_of_touch (modSlot_touch ..) (by decide)) ?_
        exact Keeps.refl _ _
      · refine Keeps.trans (safe_of_touch (modSlot_touch ..) (by decide)) ?_
        exact Keeps.refl _ _
  · exact Keeps.refl _ _

theorem holdAsked_safe  (s : State) (slot : ℕ) :
    Keeps SafeStill s (holdAsked s slot) := by
  unfold holdAsked
  apply Keeps.ite
  · apply Keeps.trans (settleMode_safe ..)
    refine Keeps.trans (safe_of_touch (modSlot_touch ..) (by decide)) ?_
    exact Keeps.refl _ _
  · exact Keeps.refl _ _

theorem fireLevels_safe  (s : State) (slot : ℕ) :
    Keeps SafeStill s (fireLevels s slot) := by
  unfold fireLevels
  dsimp only
  apply Keeps.trans (endItem_safe ..)
  refine Keeps.trans (safe_of_touch (strobeGroup_touch ..) (by decide)) ?_
  exact Keeps.refl _ _

theorem execLevelsDispatch_safe  (slot : ℕ) (s : State) :
    KeepsOut SafeStill s (execLevelsDispatch slot s) := by
  unfold execLevelsDispatch
  dsimp only
  apply KeepsOut.ite
  · apply KeepsOut.ite
    · apply KeepsOut.next
      refine Keeps.trans (safe_of_touch (modSlot_touch ..) (by decide)) ?_
      apply Keeps.trans (takeItem_safe ..)
      exact Keeps.refl _ _
    · apply KeepsOut.next
      apply Keeps.ite
      · apply Keeps.trans (fireLevels_safe ..)
        refine Keeps.trans (safe_of_touch (armItem_touch ..) (by decide)) ?_
        apply Keeps.trans (takeItem_safe ..)
        exact Keeps.refl _ _
      · refine Keeps.trans (safe_of_touch (armItem_touch ..) (by decide)) ?_
        apply Keeps.trans (takeItem_safe ..)
        exact Keeps.refl _ _
  · apply KeepsOut.next
    exact Keeps.refl _ _

theorem runWord_safe  (s : State) (q : ℕ) (ks : List ℕ) (k : Option ℕ → BitVec 14 → State → State)
    (h : ∀ t0 t1 t2, Keeps SafeStill t2 (k t0 t1 t2)) :
    KeepsOut SafeStill s (runWord s q ks k) := by
  unfold runWord
  dsimp only
  apply KeepsOut.ite
  · apply KeepsOut.ite
    · apply KeepsOut.fault
    · apply KeepsOut.next
      apply Keeps.trans (h ..)
      refine Keeps.trans (safe_of_touch (wordOps_touch ..) (by decide)) ?_
      exact Keeps.refl _ _
  · apply KeepsOut.next
    exact Keeps.refl _ _

theorem finishMeasure_safe  (s : State) (q : ℕ) (slot : ℕ) (reason : Option ℕ) (extra : ℕ) :
    Keeps SafeStill s (finishMeasure s q slot reason extra) := by
  unfold finishMeasure
  dsimp only
  apply Keeps.trans (endItem_safe ..)
  refine Keeps.trans (safe_of_touch (modSeq_touch ..) (by decide)) ?_
  refine Keeps.trans (safe_of_touch (memWrite_touch ..) (by decide)) ?_
  exact Keeps.refl _ _

theorem endRoutine_safe  (s : State) (q : ℕ) (item : Option ℕ) (reason : Option ℕ) :
    Keeps SafeStill s (endRoutine s q item reason) := by
  unfold endRoutine
  split
  · apply Keeps.trans (finishMeasure_safe ..)
    exact Keeps.refl _ _
  · refine Keeps.trans (safe_of_touch (modSeq_touch ..) (by decide)) ?_
    exact Keeps.refl _ _

theorem execSeqEnd_safe  (seq : ℕ) (s : State) :
    KeepsOut SafeStill s (execSeqEnd seq s) := by
  unfold execSeqEnd
  refine KeepsOut.trans (runWord_safe (h := ?_) ..) ?_
  · intro t0 t1 t2
    apply Keeps.trans (endRoutine_safe ..)
    refine Keeps.trans (safe_of_touch (romEnd_touch ..) (by decide)) ?_
    exact Keeps.refl _ _
  · exact Keeps.refl _ _

theorem stopMeasure_safe  (s : State) (q : ℕ) (slot : ℕ) (reason : ℕ) (extra : ℕ) :
    Keeps SafeStill s (stopMeasure s q slot reason extra) := by
  unfold stopMeasure
  dsimp only
  apply Keeps.trans (finishMeasure_safe ..)
  apply Keeps.ite
  · exact Keeps.refl _ _
  · refine Keeps.trans (safe_of_touch (Touch.set_chans (b := [.chans]) (by decide) (Touch.refl _ _)) (by decide)) ?_
    exact Keeps.refl _ _

theorem execMeasureDispatch_safe  (slot : ℕ) (s : State) :
    KeepsOut SafeStill s (execMeasureDispatch slot s) := by
  unfold execMeasureDispatch
  dsimp only
  apply KeepsOut.ite
  · apply KeepsOut.ite
    · apply KeepsOut.next
      apply Keeps.trans (endItem_safe ..)
      apply Keeps.trans (takeItem_safe ..)
      exact Keeps.refl _ _
    · apply KeepsOut.next
      apply Keeps.ite
      · refine Keeps.trans (safe_of_touch (startMeasure_touch ..) (by decide)) ?_
        refine Keeps.trans (safe_of_touch (armItem_touch ..) (by decide)) ?_
        refine Keeps.trans (safe_of_touch (snapTargets_touch ..) (by decide)) ?_
        apply Keeps.trans (takeItem_safe ..)
        exact Keeps.refl _ _
      · apply Keeps.trans (holdAsked_safe ..)
        refine Keeps.trans (safe_of_touch (armItem_touch ..) (by decide)) ?_
        refine Keeps.trans (safe_of_touch (snapTargets_touch ..) (by decide)) ?_
        apply Keeps.trans (takeItem_safe ..)
        exact Keeps.refl _ _
  · apply KeepsOut.next
    exact Keeps.refl _ _

theorem execUnwindDone_safe  (seq : ℕ) (s : State) :
    KeepsOut SafeStill s (execUnwindDone seq s) := by
  unfold execUnwindDone
  dsimp only
  refine KeepsOut.trans (runWord_safe (h := ?_) ..) ?_
  · intro t0 t1 t2
    split
    · apply Keeps.trans (endRoutine_safe ..)
      apply Keeps.ite
      · exact Keeps.refl _ _
      · apply Keeps.foldl
        · exact Keeps.refl _ _
        · intro u v
          refine Keeps.trans (safe_of_touch (applySnap_touch ..) (by decide)) ?_
          exact Keeps.refl _ _
    · apply Keeps.trans (endRoutine_safe ..)
      refine Keeps.trans (safe_of_touch (takeFree_touch ..) (by decide)) ?_
      apply Keeps.ite
      · exact Keeps.refl _ _
      · apply Keeps.foldl
        · exact Keeps.refl _ _
        · intro u v
          refine Keeps.trans (safe_of_touch (applySnap_touch ..) (by decide)) ?_
          exact Keeps.refl _ _
  · exact Keeps.refl _ _

theorem execMseqRequestTaken_safe  (seq : ℕ) (s : State) :
    KeepsOut SafeStill s (execMseqRequestTaken seq s) := by
  unfold execMseqRequestTaken
  dsimp only
  apply KeepsOut.ite
  · apply KeepsOut.ite
    · apply KeepsOut.next
      refine Keeps.trans (safe_of_touch (putItemState_touch ..) (by decide)) ?_
      refine Keeps.trans (safe_of_touch (modSeq_touch ..) (by decide)) ?_
      exact Keeps.refl _ _
    · apply KeepsOut.ite
      · apply KeepsOut.next
        exact Keeps.refl _ _
      · apply KeepsOut.next
        apply Keeps.trans (settleMode_safe ..)
        refine Keeps.trans (safe_of_touch (putItemState_touch ..) (by decide)) ?_
        refine Keeps.trans (safe_of_touch (modSeq_touch ..) (by decide)) ?_
        exact Keeps.refl _ _
  · apply KeepsOut.next
    exact Keeps.refl _ _

theorem execSeqReturn_safe  (seq : ℕ) (s : State) :
    KeepsOut SafeStill s (execSeqReturn seq s) := by
  unfold execSeqReturn
  refine KeepsOut.trans (runWord_safe (h := ?_) ..) ?_
  · intro t0 t1 t2
    split
    · refine Keeps.trans (safe_of_touch (modSeq_touch ..) (by decide)) ?_
      exact Keeps.refl _ _
    · apply Keeps.trans (endRoutine_safe ..)
      refine Keeps.trans (safe_of_touch (romEnd_touch ..) (by decide)) ?_
      exact Keeps.refl _ _
  · exact Keeps.refl _ _

theorem finishAcquire_safe  (s : State) (slot : ℕ) (reason : Option ℕ) (extra : ℕ) :
    Keeps SafeStill s (finishAcquire s slot reason extra) := by
  unfold finishAcquire
  dsimp only
  apply Keeps.trans (endItem_safe ..)
  refine Keeps.trans (safe_of_touch (Touch.set_acqs (b := [.acqs]) (by decide) (Touch.refl _ _)) (by decide)) ?_
  refine Keeps.trans (safe_of_touch (memWrite_touch ..) (by decide)) ?_
  refine Keeps.trans (safe_of_touch (memWrite_touch ..) (by decide)) ?_
  refine Keeps.trans (safe_of_touch (takeFree_touch ..) (by decide)) ?_
  exact Keeps.refl _ _

theorem giveConversion_safe  (dadc : Bool) (conv : ℕ) (input : ℕ) (value : ℤ) (endOfScale : Bool) (clamped : Bool) (gap : ℕ) (s : State) :
    Keeps SafeStill s (giveConversion dadc conv input value endOfScale clamped gap s) := by
  unfold giveConversion
  dsimp only
  apply Keeps.ite
  · apply Keeps.ite
    · refine Keeps.trans (safe_of_touch (modAcq_touch ..) (by decide)) ?_
      refine Keeps.trans (safe_of_touch (giveRoutine_touch ..) (by decide)) ?_
      exact Keeps.refl _ _
    · refine Keeps.trans (safe_of_touch (giveRoutine_touch ..) (by decide)) ?_
      exact Keeps.refl _ _
  · split
    · exact Keeps.refl _ _
    · apply Keeps.ite
      · apply Keeps.trans (finishAcquire_safe ..)
        refine Keeps.trans (safe_of_touch (takeSample_touch ..) (by decide)) ?_
        refine Keeps.trans (safe_of_touch (modAcq_touch ..) (by decide)) ?_
        exact Keeps.refl _ _
      · refine Keeps.trans (safe_of_touch (takeSample_touch ..) (by decide)) ?_
        refine Keeps.trans (safe_of_touch (modAcq_touch ..) (by decide)) ?_
        exact Keeps.refl _ _

theorem execConversionDone_safe  (dadc : Bool) (conv : ℕ) (input : ℕ) (value : ℤ) (endOfScale : Bool) (clamped : Bool) (gap : ℕ) (s : State) :
    KeepsOut SafeStill s (execConversionDone dadc conv input value endOfScale clamped gap s) := by
  unfold execConversionDone
  apply KeepsOut.ite
  · apply KeepsOut.next
    refine Keeps.trans (safe_of_touch (passTurn_touch ..) (by decide)) ?_
    apply Keeps.trans (giveConversion_safe ..)
    exact Keeps.refl _ _
  · apply KeepsOut.next
    exact Keeps.refl _ _

theorem execAcquireDispatch_safe  (slot : ℕ) (s : State) :
    KeepsOut SafeStill s (execAcquireDispatch slot s) := by
  unfold execAcquireDispatch
  dsimp only
  apply KeepsOut.ite
  · apply KeepsOut.next
    refine Keeps.trans (safe_of_touch (startAcquire_touch ..) (by decide)) ?_
    refine Keeps.trans (safe_of_touch (armItem_touch ..) (by decide)) ?_
    apply Keeps.trans (takeItem_safe ..)
    exact Keeps.refl _ _
  · apply KeepsOut.next
    exact Keeps.refl _ _

theorem execBurstDispatch_safe  (slot : ℕ) (s : State) :
    KeepsOut SafeStill s (execBurstDispatch slot s) := by
  unfold execBurstDispatch
  dsimp only
  apply KeepsOut.ite
  · apply KeepsOut.ite
    · apply KeepsOut.fault
    · apply KeepsOut.next
      refine Keeps.trans (safe_of_touch (settlePins_touch ..) (by decide)) ?_
      apply Keeps.foldl
      · refine Keeps.trans (safe_of_touch (Touch.set_bursts (b := [.bursts]) (by decide) (Touch.refl _ _)) (by decide)) ?_
        apply Keeps.trans (takeItem_safe ..)
        exact Keeps.refl _ _
      · intro u v
        refine Keeps.trans (safe_of_touch (setPools_touch ..) (by decide)) ?_
        refine Keeps.trans (safe_of_touch (loadTables_touch ..) (by decide)) ?_
        refine Keeps.trans (safe_of_touch (settleCorrections_touch ..) (by decide)) ?_
        refine Keeps.trans (safe_of_touch (startPins_touch ..) (by decide)) ?_
        refine Keeps.trans (safe_of_touch (modPeb_touch ..) (by decide)) ?_
        exact Keeps.refl _ _
  · apply KeepsOut.next
    exact Keeps.refl _ _

theorem finishBurst_safe  (s : State) (slot : ℕ) (reason : Option ℕ) (rest : ℕ → Rest) (extra : ℕ) :
    Keeps SafeStill s (finishBurst s slot reason rest extra) := by
  unfold finishBurst
  dsimp only
  apply Keeps.trans (endItem_safe ..)
  refine Keeps.trans (safe_of_touch (settlePins_touch ..) (by decide)) ?_
  refine Keeps.trans (safe_of_touch (Touch.set_bursts_fabric (b := [.bursts, .fabric]) (by decide) (by decide) (Touch.refl _ _)) (by decide)) ?_
  apply Keeps.foldl
  · refine Keeps.trans (safe_of_touch (memWrite_touch ..) (by decide)) ?_
    apply Keeps.ite
    · apply Keeps.foldl
      · apply Keeps.ite
        · refine Keeps.trans (safe_of_touch (capAll_touch ..) (by decide)) ?_
          split
          · refine Keeps.trans (safe_of_touch (modBurst_touch ..) (by decide)) ?_
            refine Keeps.trans (safe_of_touch (transferDue_touch ..) (by decide)) ?_
            refine Keeps.trans (safe_of_touch (flushJunction_touch ..) (by decide)) ?_
            refine Keeps.trans (safe_of_touch (closeRuns_touch ..) (by decide)) ?_
            exact Keeps.refl _ _
          · refine Keeps.trans (safe_of_touch (modBurst_touch ..) (by decide)) ?_
            refine Keeps.trans (safe_of_touch (transferDue_touch ..) (by decide)) ?_
            refine Keeps.trans (safe_of_touch (flushJunction_touch ..) (by decide)) ?_
            refine Keeps.trans (safe_of_touch (closeRuns_touch ..) (by decide)) ?_
            exact Keeps.refl _ _
          · refine Keeps.trans (safe_of_touch (transferDue_touch ..) (by decide)) ?_
            refine Keeps.trans (safe_of_touch (flushJunction_touch ..) (by decide)) ?_
            refine Keeps.trans (safe_of_touch (closeRuns_touch ..) (by decide)) ?_
            exact Keeps.refl _ _
        · split
          · refine Keeps.trans (safe_of_touch (modBurst_touch ..) (by decide)) ?_
            refine Keeps.trans (safe_of_touch (transferDue_touch ..) (by decide)) ?_
            refine Keeps.trans (safe_of_touch (flushJunction_touch ..) (by decide)) ?_
            refine Keeps.trans (safe_of_touch (closeRuns_touch ..) (by decide)) ?_
            exact Keeps.refl _ _
          · refine Keeps.trans (safe_of_touch (modBurst_touch ..) (by decide)) ?_
            refine Keeps.trans (safe_of_touch (transferDue_touch ..) (by decide)) ?_
            refine Keeps.trans (safe_of_touch (flushJunction_touch ..) (by decide)) ?_
            refine Keeps.trans (safe_of_touch (closeRuns_touch ..) (by decide)) ?_
            exact Keeps.refl _ _
          · refine Keeps.trans (safe_of_touch (transferDue_touch ..) (by decide)) ?_
            refine Keeps.trans (safe_of_touch (flushJunction_touch ..) (by decide)) ?_
            refine Keeps.trans (safe_of_touch (closeRuns_touch ..) (by decide)) ?_
            exact Keeps.refl _ _
      · intro u v
        refine Keeps.trans (safe_of_touch (modQueue_touch ..) (by decide)) ?_
        exact Keeps.refl _ _
    · apply Keeps.ite
      · refine Keeps.trans (safe_of_touch (capAll_touch ..) (by decide)) ?_
        split
        · refine Keeps.trans (safe_of_touch (modBurst_touch ..) (by decide)) ?_
          refine Keeps.trans (safe_of_touch (transferDue_touch ..) (by decide)) ?_
          refine Keeps.trans (safe_of_touch (flushJunction_touch ..) (by decide)) ?_
          refine Keeps.trans (safe_of_touch (closeRuns_touch ..) (by decide)) ?_
          exact Keeps.refl _ _
        · refine Keeps.trans (safe_of_touch (modBurst_touch ..) (by decide)) ?_
          refine Keeps.trans (safe_of_touch (transferDue_touch ..) (by decide)) ?_
          refine Keeps.trans (safe_of_touch (flushJunction_touch ..) (by decide)) ?_
          refine Keeps.trans (safe_of_touch (closeRuns_touch ..) (by decide)) ?_
          exact Keeps.refl _ _
        · refine Keeps.trans (safe_of_touch (transferDue_touch ..) (by decide)) ?_
          refine Keeps.trans (safe_of_touch (flushJunction_touch ..) (by decide)) ?_
          refine Keeps.trans (safe_of_touch (closeRuns_touch ..) (by decide)) ?_
          exact Keeps.refl _ _
      · split
        · refine Keeps.trans (safe_of_touch (modBurst_touch ..) (by decide)) ?_
          refine Keeps.trans (safe_of_touch (transferDue_touch ..) (by decide)) ?_
          refine Keeps.trans (safe_of_touch (flushJunction_touch ..) (by decide)) ?_
          refine Keeps.trans (safe_of_touch (closeRuns_touch ..) (by decide)) ?_
          exact Keeps.refl _ _
        · refine Keeps.trans (safe_of_touch (modBurst_touch ..) (by decide)) ?_
          refine Keeps.trans (safe_of_touch (transferDue_touch ..) (by decide)) ?_
          refine Keeps.trans (safe_of_touch (flushJunction_touch ..) (by decide)) ?_
          refine Keeps.trans (safe_of_touch (closeRuns_touch ..) (by decide)) ?_
          exact Keeps.refl _ _
        · refine Keeps.trans (safe_of_touch (transferDue_touch ..) (by decide)) ?_
          refine Keeps.trans (safe_of_touch (flushJunction_touch ..) (by decide)) ?_
          refine Keeps.trans (safe_of_touch (closeRuns_touch ..) (by decide)) ?_
          exact Keeps.refl _ _
  · intro u v
    refine Keeps.trans (safe_of_touch (restPeb_touch ..) (by decide)) ?_
    exact Keeps.refl _ _

theorem abortBurst_safe  (s : State) (slot : ℕ) (reason : ℕ) :
    Keeps SafeStill s (abortBurst s slot reason) := by
  unfold abortBurst
  apply Keeps.ite
  · refine Keeps.trans (safe_of_touch (modSlot_touch ..) (by decide)) ?_
    exact Keeps.refl _ _
  · apply Keeps.trans (finishBurst_safe ..)
    exact Keeps.refl _ _

theorem enterHold_safe  (s : State) (slot : ℕ) :
    Keeps SafeStill s (enterHold s slot) := by
  unfold enterHold
  dsimp only
  apply Keeps.trans (settleMode_safe ..)
  refine Keeps.trans (safe_of_touch (modSlot_touch ..) (by decide)) ?_
  refine Keeps.trans (safe_of_touch (idleBurst_touch ..) (by decide)) ?_
  refine Keeps.trans (safe_of_touch (modBurst_touch ..) (by decide)) ?_
  exact Keeps.refl _ _

theorem execBurstSegmentBoundary_safe  (slot : ℕ) (s : State) :
    KeepsOut SafeStill s (execBurstSegmentBoundary slot s) := by
  unfold execBurstSegmentBoundary
  dsimp only
  apply KeepsOut.ite
  · apply KeepsOut.ite
    · apply KeepsOut.next
      apply Keeps.trans (finishBurst_safe ..)
      refine Keeps.trans (safe_of_touch (mergeSegment_touch ..) (by decide)) ?_
      refine Keeps.trans (safe_of_touch (closeRuns_touch ..) (by decide)) ?_
      apply Keeps.ite
      · refine Keeps.trans (safe_of_touch (markUnderrun_touch ..) (by decide)) ?_
        refine Keeps.trans (safe_of_touch (uncountLast_touch ..) (by decide)) ?_
        exact Keeps.refl _ _
      · exact Keeps.refl _ _
    · split
      · apply KeepsOut.ite
        · apply KeepsOut.next
          apply Keeps.trans (finishBurst_safe ..)
          refine Keeps.trans (safe_of_touch (flushJunction_touch ..) (by decide)) ?_
          refine Keeps.trans (safe_of_touch (modSlot_touch ..) (by decide)) ?_
          refine Keeps.trans (safe_of_touch (mergeSegment_touch ..) (by decide)) ?_
          refine Keeps.trans (safe_of_touch (dropFaulty_touch ..) (by decide)) ?_
          refine Keeps.trans (safe_of_touch (closeRuns_touch ..) (by decide)) ?_
          apply Keeps.ite
          · refine Keeps.trans (safe_of_touch (markUnderrun_touch ..) (by decide)) ?_
            refine Keeps.trans (safe_of_touch (uncountLast_touch ..) (by decide)) ?_
            exact Keeps.refl _ _
          · exact Keeps.refl _ _
        · apply KeepsOut.ite
          · apply KeepsOut.next
            apply Keeps.trans (finishBurst_safe ..)
            refine Keeps.trans (safe_of_touch (flushJunction_touch ..) (by decide)) ?_
            refine Keeps.trans (safe_of_touch (modSlot_touch ..) (by decide)) ?_
            refine Keeps.trans (safe_of_touch (mergeSegment_touch ..) (by decide)) ?_
            refine Keeps.trans (safe_of_touch (dropFaulty_touch ..) (by decide)) ?_
            refine Keeps.trans (safe_of_touch (closeRuns_touch ..) (by decide)) ?_
            apply Keeps.ite
            · refine Keeps.trans (safe_of_touch (markUnderrun_touch ..) (by decide)) ?_
              refine Keeps.trans (safe_of_touch (uncountLast_touch ..) (by decide)) ?_
              exact Keeps.refl _ _
            · exact Keeps.refl _ _
          · apply KeepsOut.next
            apply Keeps.trans (finishBurst_safe ..)
            refine Keeps.trans (safe_of_touch (flushJunction_touch ..) (by decide)) ?_
            refine Keeps.trans (safe_of_touch (modSlot_touch ..) (by decide)) ?_
            refine Keeps.trans (safe_of_touch (mergeSegment_touch ..) (by decide)) ?_
            refine Keeps.trans (safe_of_touch (dropFaulty_touch ..) (by decide)) ?_
            refine Keeps.trans (safe_of_touch (closeRuns_touch ..) (by decide)) ?_
            apply Keeps.ite
            · refine Keeps.trans (safe_of_touch (markUnderrun_touch ..) (by decide)) ?_
              refine Keeps.trans (safe_of_touch (uncountLast_touch ..) (by decide)) ?_
              exact Keeps.refl _ _
            · exact Keeps.refl _ _
      · apply KeepsOut.ite
        · apply KeepsOut.next
          apply Keeps.trans (finishBurst_safe ..)
          refine Keeps.trans (safe_of_touch (flushJunction_touch ..) (by decide)) ?_
          refine Keeps.trans (safe_of_touch (modSlot_touch ..) (by decide)) ?_
          refine Keeps.trans (safe_of_touch (mergeSegment_touch ..) (by decide)) ?_
          refine Keeps.trans (safe_of_touch (dropFaulty_touch ..) (by decide)) ?_
          refine Keeps.trans (safe_of_touch (closeRuns_touch ..) (by decide)) ?_
          apply Keeps.ite
          · refine Keeps.trans (safe_of_touch (markUnderrun_touch ..) (by decide)) ?_
            refine Keeps.trans (safe_of_touch (uncountLast_touch ..) (by decide)) ?_
            exact Keeps.refl _ _
          · exact Keeps.refl _ _
        · apply KeepsOut.ite
          · apply KeepsOut.next
            apply Keeps.trans (enterHold_safe ..)
            refine Keeps.trans (safe_of_touch (flushJunction_touch ..) (by decide)) ?_
            refine Keeps.trans (safe_of_touch (modSlot_touch ..) (by decide)) ?_
            refine Keeps.trans (safe_of_touch (mergeSegment_touch ..) (by decide)) ?_
            refine Keeps.trans (safe_of_touch (dropFaulty_touch ..) (by decide)) ?_
            refine Keeps.trans (safe_of_touch (closeRuns_touch ..) (by decide)) ?_
            apply Keeps.ite
            · refine Keeps.trans (safe_of_touch (markUnderrun_touch ..) (by decide)) ?_
              refine Keeps.trans (safe_of_touch (uncountLast_touch ..) (by decide)) ?_
              exact Keeps.refl _ _
            · exact Keeps.refl _ _
          · apply KeepsOut.next
            refine Keeps.trans (safe_of_touch (leaveBoundary_touch ..) (by decide)) ?_
            refine Keeps.trans (safe_of_touch (flushJunction_touch ..) (by decide)) ?_
            refine Keeps.trans (safe_of_touch (modSlot_touch ..) (by decide)) ?_
            refine Keeps.trans (safe_of_touch (mergeSegment_touch ..) (by decide)) ?_
            refine Keeps.trans (safe_of_touch (dropFaulty_touch ..) (by decide)) ?_
            refine Keeps.trans (safe_of_touch (closeRuns_touch ..) (by decide)) ?_
            apply Keeps.ite
            · refine Keeps.trans (safe_of_touch (markUnderrun_touch ..) (by decide)) ?_
              refine Keeps.trans (safe_of_touch (uncountLast_touch ..) (by decide)) ?_
              exact Keeps.refl _ _
            · exact Keeps.refl _ _
  · apply KeepsOut.next
    exact Keeps.refl _ _

theorem finishLane_safe  (s : State) (slot : ℕ) (reason : Option ℕ) (extra : ℕ) :
    Keeps SafeStill s (finishLane s slot reason extra) := by
  unfold finishLane
  dsimp only
  apply Keeps.trans (endItem_safe ..)
  refine Keeps.trans (safe_of_touch (Touch.set_lanes (b := [.lanes]) (by decide) (Touch.refl _ _)) (by decide)) ?_
  refine Keeps.trans (safe_of_touch (memWrite_touch ..) (by decide)) ?_
  split
  · dsimp only
    refine Keeps.trans (safe_of_touch (laneProgress_touch ..) (by decide)) ?_
    exact Keeps.refl _ _
  · refine Keeps.trans (safe_of_touch (takeFree_touch ..) (by decide)) ?_
    refine Keeps.trans (safe_of_touch (laneProgress_touch ..) (by decide)) ?_
    exact Keeps.refl _ _

theorem laneStep_safe  (s : State) (slot : ℕ) (n : ℕ) (f : Lane → Lane) :
    Keeps SafeStill s (laneStep s slot n f) := by
  unfold laneStep
  dsimp only
  apply Keeps.ite
  · apply Keeps.trans (finishLane_safe ..)
    refine Keeps.trans (safe_of_touch (laneProgress_touch ..) (by decide)) ?_
    refine Keeps.trans (safe_of_touch (modLane_touch ..) (by decide)) ?_
    exact Keeps.refl _ _
  · refine Keeps.trans (safe_of_touch (laneProgress_touch ..) (by decide)) ?_
    refine Keeps.trans (safe_of_touch (modLane_touch ..) (by decide)) ?_
    exact Keeps.refl _ _

theorem execEyePointDone_safe  (lane : ℕ) (mismatches : ℕ) (s : State) :
    KeepsOut SafeStill s (execEyePointDone lane mismatches s) := by
  unfold execEyePointDone
  dsimp only
  split
  · apply KeepsOut.ite
    · apply KeepsOut.next
      apply Keeps.trans (laneStep_safe ..)
      exact Keeps.refl _ _
    · apply KeepsOut.next
      exact Keeps.refl _ _
  · apply KeepsOut.next
    exact Keeps.refl _ _

theorem execLaneRxLock_safe  (lane : ℕ) (freqOffset : ℤ) (s : State) :
    KeepsOut SafeStill s (execLaneRxLock lane freqOffset s) := by
  unfold execLaneRxLock
  split
  · apply KeepsOut.next
    apply Keeps.trans (laneStep_safe ..)
    exact Keeps.refl _ _
  · apply KeepsOut.next
    refine Keeps.trans (safe_of_touch (idleRx_touch ..) (by decide)) ?_
    exact Keeps.refl _ _

theorem execNoLock_safe  (lane : ℕ) (s : State) :
    KeepsOut SafeStill s (execNoLock lane s) := by
  unfold execNoLock
  dsimp only
  split
  · apply KeepsOut.ite
    · apply KeepsOut.next
      exact Keeps.refl _ _
    · apply KeepsOut.next
      apply Keeps.trans (laneStep_safe ..)
      exact Keeps.refl _ _
  · apply KeepsOut.next
    exact Keeps.refl _ _

theorem execLaneClassRecognised_safe  (lane : ℕ) (cls : ℕ) (inverted : Bool) (s : State) :
    KeepsOut SafeStill s (execLaneClassRecognised lane cls inverted s) := by
  unfold execLaneClassRecognised
  dsimp only
  split
  · apply KeepsOut.ite
    · apply KeepsOut.next
      apply Keeps.trans (laneStep_safe ..)
      exact Keeps.refl _ _
    · apply KeepsOut.next
      exact Keeps.refl _ _
  · apply KeepsOut.next
    exact Keeps.refl _ _

theorem execLaneBitsReached_safe  (lane : ℕ) (bits : ℕ) (errors : BitErrors) (s : State) :
    KeepsOut SafeStill s (execLaneBitsReached lane bits errors s) := by
  unfold execLaneBitsReached
  dsimp only
  split
  · apply KeepsOut.ite
    · apply KeepsOut.next
      exact Keeps.refl _ _
    · apply KeepsOut.next
      apply Keeps.trans (laneStep_safe ..)
      exact Keeps.refl _ _
  · apply KeepsOut.next
    exact Keeps.refl _ _

theorem execLaneLockLoss_safe  (lane : ℕ) (s : State) :
    KeepsOut SafeStill s (execLaneLockLoss lane s) := by
  unfold execLaneLockLoss
  split
  · apply KeepsOut.ite
    · apply KeepsOut.next
      apply Keeps.trans (laneStep_safe ..)
      exact Keeps.refl _ _
    · apply KeepsOut.next
      exact Keeps.refl _ _
  · apply KeepsOut.next
    refine Keeps.trans (safe_of_touch (idleRx_touch ..) (by decide)) ?_
    exact Keeps.refl _ _

theorem execLaneSyncDrop_safe  (lane : ℕ) (bits : ℕ) (errors : BitErrors) (s : State) :
    KeepsOut SafeStill s (execLaneSyncDrop lane bits errors s) := by
  unfold execLaneSyncDrop
  dsimp only
  split
  · apply KeepsOut.ite
    · apply KeepsOut.next
      apply Keeps.trans (laneStep_safe ..)
      exact Keeps.refl _ _
    · apply KeepsOut.next
      exact Keeps.refl _ _
  · apply KeepsOut.next
    exact Keeps.refl _ _

theorem execLanePrbsSync_safe  (lane : ℕ) (inverted : Bool) (s : State) :
    KeepsOut SafeStill s (execLanePrbsSync lane inverted s) := by
  unfold execLanePrbsSync
  dsimp only
  split
  · apply KeepsOut.ite
    · apply KeepsOut.next
      apply Keeps.trans (laneStep_safe ..)
      exact Keeps.refl _ _
    · apply KeepsOut.next
      exact Keeps.refl _ _
  · apply KeepsOut.next
    exact Keeps.refl _ _

theorem execLaneDispatch_safe  (slot : ℕ) (s : State) :
    KeepsOut SafeStill s (execLaneDispatch slot s) := by
  unfold execLaneDispatch
  dsimp only
  apply KeepsOut.ite
  · apply KeepsOut.next
    apply Keeps.ite
    · refine Keeps.trans (safe_of_touch (startLane_touch ..) (by decide)) ?_
      refine Keeps.trans (safe_of_touch (takeLanes_touch ..) (by decide)) ?_
      refine Keeps.trans (safe_of_touch (armItem_touch ..) (by decide)) ?_
      apply Keeps.trans (takeItem_safe ..)
      exact Keeps.refl _ _
    · refine Keeps.trans (safe_of_touch (takeLanes_touch ..) (by decide)) ?_
      refine Keeps.trans (safe_of_touch (armItem_touch ..) (by decide)) ?_
      apply Keeps.trans (takeItem_safe ..)
      exact Keeps.refl _ _
  · apply KeepsOut.next
    exact Keeps.refl _ _

theorem execNoSync_safe  (lane : ℕ) (s : State) :
    KeepsOut SafeStill s (execNoSync lane s) := by
  unfold execNoSync
  dsimp only
  split
  · apply KeepsOut.ite
    · apply KeepsOut.next
      apply Keeps.trans (laneStep_safe ..)
      exact Keeps.refl _ _
    · apply KeepsOut.next
      exact Keeps.refl _ _
  · apply KeepsOut.next
    exact Keeps.refl _ _

theorem finishTdc_safe  (s : State) (slot : ℕ) (reason : Option ℕ) (extra : ℕ) :
    Keeps SafeStill s (finishTdc s slot reason extra) := by
  unfold finishTdc
  dsimp only
  apply Keeps.trans (endItem_safe ..)
  refine Keeps.trans (safe_of_touch (Touch.set_tdcs (b := [.tdcs]) (by decide) (Touch.refl _ _)) (by decide)) ?_
  apply Keeps.ite
  · refine Keeps.trans (safe_of_touch (modQueue_touch ..) (by decide)) ?_
    apply Keeps.ite
    · refine Keeps.trans (safe_of_touch (memWrite_touch ..) (by decide)) ?_
      exact Keeps.refl _ _
    · exact Keeps.refl _ _
  · apply Keeps.ite
    · refine Keeps.trans (safe_of_touch (memWrite_touch ..) (by decide)) ?_
      exact Keeps.refl _ _
    · exact Keeps.refl _ _

theorem endMeasurement_safe  (s : State) (slot : ℕ) (t : ℕ) (k : ℕ) (a4 : ℤ) (a5 : ℤ) :
    Keeps SafeStill s (endMeasurement s slot t k a4 a5) := by
  unfold endMeasurement
  dsimp only
  apply Keeps.ite
  · apply Keeps.trans (finishTdc_safe ..)
    refine Keeps.trans (safe_of_touch (modSlot_touch ..) (by decide)) ?_
    refine Keeps.trans (safe_of_touch (modTdc_touch ..) (by decide)) ?_
    refine Keeps.trans (safe_of_touch (queueWrite_touch ..) (by decide)) ?_
    exact Keeps.refl _ _
  · refine Keeps.trans (safe_of_touch (modSlot_touch ..) (by decide)) ?_
    refine Keeps.trans (safe_of_touch (modTdc_touch ..) (by decide)) ?_
    refine Keeps.trans (safe_of_touch (queueWrite_touch ..) (by decide)) ?_
    exact Keeps.refl _ _

theorem execTdcEdge_safe  (tdc : ℕ) (stop : Bool) (sampled : EdgeAt) (near : Bool) (s : State) :
    KeepsOut SafeStill s (execTdcEdge tdc stop sampled near s) := by
  unfold execTdcEdge
  dsimp only
  apply KeepsOut.ite
  · apply KeepsOut.next
    exact Keeps.refl _ _
  · split
    · apply KeepsOut.next
      refine Keeps.trans (safe_of_touch (modTdc_touch ..) (by decide)) ?_
      exact Keeps.refl _ _
    · apply KeepsOut.next
      refine Keeps.trans (safe_of_touch (modTdc_touch ..) (by decide)) ?_
      refine Keeps.trans (safe_of_touch (modTdc_touch ..) (by decide)) ?_
      exact Keeps.refl _ _
    · split
      · apply KeepsOut.next
        apply Keeps.trans (endMeasurement_safe ..)
        refine Keeps.trans (safe_of_touch (modTdc_touch ..) (by decide)) ?_
        refine Keeps.trans (safe_of_touch (modTdc_touch ..) (by decide)) ?_
        exact Keeps.refl _ _
      · apply KeepsOut.next
        refine Keeps.trans (safe_of_touch (modTdc_touch ..) (by decide)) ?_
        refine Keeps.trans (safe_of_touch (modTdc_touch ..) (by decide)) ?_
        exact Keeps.refl _ _
    · apply KeepsOut.next
      refine Keeps.trans (safe_of_touch (modTdc_touch ..) (by decide)) ?_
      exact Keeps.refl _ _

theorem execTdcDispatch_safe  (slot : ℕ) (s : State) :
    KeepsOut SafeStill s (execTdcDispatch slot s) := by
  unfold execTdcDispatch
  dsimp only
  apply KeepsOut.ite
  · apply KeepsOut.next
    apply Keeps.ite
    · refine Keeps.trans (safe_of_touch (startTdc_touch ..) (by decide)) ?_
      refine Keeps.trans (safe_of_touch (armItem_touch ..) (by decide)) ?_
      refine Keeps.trans (safe_of_touch (claimTdcs_touch ..) (by decide)) ?_
      apply Keeps.trans (takeItem_safe ..)
      exact Keeps.refl _ _
    · refine Keeps.trans (safe_of_touch (armItem_touch ..) (by decide)) ?_
      refine Keeps.trans (safe_of_touch (claimTdcs_touch ..) (by decide)) ?_
      apply Keeps.trans (takeItem_safe ..)
      exact Keeps.refl _ _
  · apply KeepsOut.next
    exact Keeps.refl _ _

theorem execTransferDispatch_safe  (slot : ℕ) (s : State) :
    KeepsOut SafeStill s (execTransferDispatch slot s) := by
  unfold execTransferDispatch
  dsimp only
  apply KeepsOut.ite
  · apply KeepsOut.next
    refine Keeps.trans (safe_of_touch (fetchDesc_touch ..) (by decide)) ?_
    refine Keeps.trans (safe_of_touch (modDma_touch ..) (by decide)) ?_
    apply Keeps.trans (takeItem_safe ..)
    exact Keeps.refl _ _
  · apply KeepsOut.next
    exact Keeps.refl _ _

theorem finishTransfer_safe  (s : State) (c : ℕ) (reason : Option ℕ) :
    Keeps SafeStill s (finishTransfer s c reason) := by
  unfold finishTransfer
  dsimp only
  split
  · apply Keeps.trans (endItem_safe ..)
    refine Keeps.trans (safe_of_touch (Touch.set_dmas (b := [.dmas]) (by decide) (Touch.refl _ _)) (by decide)) ?_
    exact Keeps.refl _ _
  · refine Keeps.trans (safe_of_touch (Touch.set_dmas (b := [.dmas]) (by decide) (Touch.refl _ _)) (by decide)) ?_
    exact Keeps.refl _ _

theorem descDone_safe  (s : State) (c : ℕ) :
    Keeps SafeStill s (descDone s c) := by
  unfold descDone
  dsimp only
  apply Keeps.ite
  · apply Keeps.trans (finishTransfer_safe ..)
    apply Keeps.ite
    · refine Keeps.trans (safe_of_touch (modQueue_touch ..) (by decide)) ?_
      exact Keeps.refl _ _
    · exact Keeps.refl _ _
  · split
    · apply Keeps.ite
      · refine Keeps.trans (safe_of_touch (modQueue_touch ..) (by decide)) ?_
        exact Keeps.refl _ _
      · exact Keeps.refl _ _
    · apply Keeps.ite
      · apply Keeps.trans (finishTransfer_safe ..)
        refine Keeps.trans (safe_of_touch (modSlot_touch ..) (by decide)) ?_
        apply Keeps.ite
        · refine Keeps.trans (safe_of_touch (modQueue_touch ..) (by decide)) ?_
          exact Keeps.refl _ _
        · exact Keeps.refl _ _
      · split
        · apply Keeps.trans (finishTransfer_safe ..)
          refine Keeps.trans (safe_of_touch (modSlot_touch ..) (by decide)) ?_
          apply Keeps.ite
          · refine Keeps.trans (safe_of_touch (modQueue_touch ..) (by decide)) ?_
            exact Keeps.refl _ _
          · exact Keeps.refl _ _
        · refine Keeps.trans (safe_of_touch (fetchDesc_touch ..) (by decide)) ?_
          refine Keeps.trans (safe_of_touch (modSlot_touch ..) (by decide)) ?_
          apply Keeps.ite
          · refine Keeps.trans (safe_of_touch (modQueue_touch ..) (by decide)) ?_
            exact Keeps.refl _ _
          · exact Keeps.refl _ _

theorem writebackAnswered_safe  (s : State) (c : ℕ) (status : ℕ) :
    Keeps SafeStill s (writebackAnswered s c status) := by
  unfold writebackAnswered
  dsimp only
  apply Keeps.ite
  · apply Keeps.trans (finishTransfer_safe ..)
    refine Keeps.trans (safe_of_touch (rewindSource_touch ..) (by decide)) ?_
    exact Keeps.refl _ _
  · apply Keeps.trans (descDone_safe ..)
    refine Keeps.trans (safe_of_touch (memWrite_touch ..) (by decide)) ?_
    exact Keeps.refl _ _

theorem execDmaWritebackAck_safe  (ch : ℕ) (status : ℕ) (s : State) :
    KeepsOut SafeStill s (execDmaWritebackAck ch status s) := by
  unfold execDmaWritebackAck
  dsimp only
  apply KeepsOut.ite
  · apply KeepsOut.next
    apply Keeps.trans (writebackAnswered_safe ..)
    refine Keeps.trans (safe_of_touch (Touch.set_fabric (b := [.fabric]) (by decide) (Touch.refl _ _)) (by decide)) ?_
    exact Keeps.refl _ _
  · apply KeepsOut.next
    exact Keeps.refl _ _

theorem execDmaStopWaitEnd_safe  (ch : ℕ) (s : State) :
    KeepsOut SafeStill s (execDmaStopWaitEnd ch s) := by
  unfold execDmaStopWaitEnd
  dsimp only
  apply KeepsOut.ite
  · apply KeepsOut.next
    refine Keeps.trans (safe_of_touch (idleDma_touch ..) (by decide)) ?_
    exact Keeps.refl _ _
  · split
    · apply KeepsOut.ite
      · apply KeepsOut.next
        refine Keeps.trans (safe_of_touch (idleDma_touch ..) (by decide)) ?_
        apply Keeps.trans (endItem_safe ..)
        refine Keeps.trans (safe_of_touch (stopDma_touch ..) (by decide)) ?_
        exact Keeps.refl _ _
      · apply KeepsOut.next
        exact Keeps.refl _ _
    · apply KeepsOut.next
      exact Keeps.refl _ _

theorem descArrives_safe  (s : State) (c : ℕ) (status : ℕ) (rem : Remote) :
    KeepsOut SafeStill s (descArrives s c status rem) := by
  unfold descArrives
  dsimp only
  apply KeepsOut.ite
  · apply KeepsOut.next
    exact Keeps.refl _ _
  · split
    · apply KeepsOut.next
      apply Keeps.trans (finishTransfer_safe ..)
      exact Keeps.refl _ _
    · apply KeepsOut.ite
      · apply KeepsOut.next
        apply Keeps.trans (finishTransfer_safe ..)
        exact Keeps.refl _ _
      · split
        · apply KeepsOut.fault
        · apply KeepsOut.next
          refine Keeps.trans (safe_of_touch (beginDesc_touch ..) (by decide)) ?_
          exact Keeps.refl _ _

theorem execDmaDescriptorFetched_safe  (ch : ℕ) (status : ℕ) (rem : Remote) (s : State) :
    KeepsOut SafeStill s (execDmaDescriptorFetched ch status rem s) := by
  unfold execDmaDescriptorFetched
  apply KeepsOut.ite
  · apply KeepsOut.trans (descArrives_safe ..)
    refine Keeps.trans (safe_of_touch (settleOutst_touch ..) (by decide)) ?_
    exact Keeps.refl _ _
  · apply KeepsOut.next
    exact Keeps.refl _ _

theorem execDpsDispatch_safe  (slot : ℕ) (s : State) :
    KeepsOut SafeStill s (execDpsDispatch slot s) := by
  unfold execDpsDispatch
  dsimp only
  apply KeepsOut.ite
  · apply KeepsOut.next
    apply Keeps.trans (holdAsked_safe ..)
    apply Keeps.ite
    · refine Keeps.trans (safe_of_touch (startDps_touch ..) (by decide)) ?_
      refine Keeps.trans (safe_of_touch (armItem_touch ..) (by decide)) ?_
      refine Keeps.trans (safe_of_touch (Touch.set_dps (b := [.dps]) (by decide) (Touch.refl _ _)) (by decide)) ?_
      apply Keeps.trans (takeItem_safe ..)
      exact Keeps.refl _ _
    · refine Keeps.trans (safe_of_touch (armItem_touch ..) (by decide)) ?_
      refine Keeps.trans (safe_of_touch (Touch.set_dps (b := [.dps]) (by decide) (Touch.refl _ _)) (by decide)) ?_
      apply Keeps.trans (takeItem_safe ..)
      exact Keeps.refl _ _
  · apply KeepsOut.next
    exact Keeps.refl _ _

theorem execDpsDischargeDone_safe  (n : ℕ) (s : State) :
    KeepsOut SafeStill s (execDpsDischargeDone n s) := by
  unfold execDpsDischargeDone
  dsimp only
  apply KeepsOut.ite
  · apply KeepsOut.next
    apply Keeps.trans (finishDisarm_safe ..)
    refine Keeps.trans (safe_of_touch (putDps_touch ..) (by decide)) ?_
    refine Keeps.trans (safe_of_touch (takeFree_touch ..) (by decide)) ?_
    refine Keeps.trans (safe_of_touch (takeFree_touch ..) (by decide)) ?_
    refine Keeps.trans (safe_of_touch (modDps_touch ..) (by decide)) ?_
    exact Keeps.refl _ _
  · apply KeepsOut.next
    exact Keeps.refl _ _

theorem finishDps_safe  (s : State) (slot : ℕ) (reason : Option ℕ) (extra : ℕ) :
    Keeps SafeStill s (finishDps s slot reason extra) := by
  unfold finishDps
  dsimp only
  apply Keeps.trans (endItem_safe ..)
  refine Keeps.trans (safe_of_touch (Touch.set_resvs (b := [.resvs]) (by decide) (Touch.refl _ _)) (by decide)) ?_
  apply Keeps.ite
  · apply Keeps.foldl
    · apply Keeps.ite
      · refine Keeps.trans (safe_of_touch (modQueue_touch ..) (by decide)) ?_
        refine Keeps.trans (safe_of_touch (itemRecords_touch ..) (by decide)) ?_
        refine Keeps.trans (safe_of_touch (dpsResult_touch ..) (by decide)) ?_
        exact Keeps.refl _ _
      · refine Keeps.trans (safe_of_touch (dpsResult_touch ..) (by decide)) ?_
        exact Keeps.refl _ _
    · intro u v
      refine Keeps.trans (safe_of_touch (settleSet_touch ..) (by decide)) ?_
      exact Keeps.refl _ _
  · apply Keeps.ite
    · refine Keeps.trans (safe_of_touch (modQueue_touch ..) (by decide)) ?_
      refine Keeps.trans (safe_of_touch (itemRecords_touch ..) (by decide)) ?_
      refine Keeps.trans (safe_of_touch (dpsResult_touch ..) (by decide)) ?_
      exact Keeps.refl _ _
    · refine Keeps.trans (safe_of_touch (dpsResult_touch ..) (by decide)) ?_
      exact Keeps.refl _ _

theorem execDpsBudgetTimeout_safe  (slot : ℕ) (s : State) :
    KeepsOut SafeStill s (execDpsBudgetTimeout slot s) := by
  unfold execDpsBudgetTimeout
  dsimp only
  apply KeepsOut.ite
  · apply KeepsOut.next
    apply Keeps.trans (finishDps_safe ..)
    exact Keeps.refl _ _
  · apply KeepsOut.next
    exact Keeps.refl _ _

theorem execDpsRampStep_safe  (slot : ℕ) (s : State) :
    KeepsOut SafeStill s (execDpsRampStep slot s) := by
  unfold execDpsRampStep
  dsimp only
  apply KeepsOut.ite
  · split
    · apply KeepsOut.next
      apply Keeps.trans (finishDps_safe ..)
      exact Keeps.refl _ _
    · apply KeepsOut.next
      apply Keeps.ite
      · apply Keeps.trans (finishDps_safe ..)
        refine Keeps.trans (safe_of_touch (modSlot_touch ..) (by decide)) ?_
        apply Keeps.foldl
        · refine Keeps.trans (safe_of_touch (Touch.set_dps (b := [.dps]) (by decide) (Touch.refl _ _)) (by decide)) ?_
          exact Keeps.refl _ _
        · intro u v
          refine Keeps.trans (safe_of_touch (rampCode_touch ..) (by decide)) ?_
          exact Keeps.refl _ _
      · refine Keeps.trans (safe_of_touch (modSlot_touch ..) (by decide)) ?_
        apply Keeps.foldl
        · refine Keeps.trans (safe_of_touch (Touch.set_dps (b := [.dps]) (by decide) (Touch.refl _ _)) (by decide)) ?_
          exact Keeps.refl _ _
        · intro u v
          refine Keeps.trans (safe_of_touch (rampCode_touch ..) (by decide)) ?_
          exact Keeps.refl _ _
  · apply KeepsOut.next
    exact Keeps.refl _ _

theorem abortDps_safe  (s : State) (slot : ℕ) (reason : ℕ) :
    Keeps SafeStill s (abortDps s slot reason) := by
  unfold abortDps
  dsimp only
  apply Keeps.ite
  · refine Keeps.trans (safe_of_touch (modSlot_touch ..) (by decide)) ?_
    exact Keeps.refl _ _
  · apply Keeps.trans (finishDps_safe ..)
    exact Keeps.refl _ _

theorem execDpsDisarmOutputDisable_safe  (n : ℕ) (s : State) :
    KeepsOut SafeStill s (execDpsDisarmOutputDisable n s) := by
  unfold execDpsDisarmOutputDisable
  apply KeepsOut.ite
  · apply KeepsOut.next
    apply Keeps.trans (finishDisarm_safe ..)
    refine Keeps.trans (safe_of_touch (modDps_touch ..) (by decide)) ?_
    exact Keeps.refl _ _
  · apply KeepsOut.next
    exact Keeps.refl _ _

theorem failCal_safe  (s : State) (slot : ℕ) (reason : ℕ) (dst : UState) (extra : ℕ) :
    Keeps SafeStill s (failCal s slot reason dst extra) := by
  unfold failCal
  dsimp only
  apply Keeps.trans (endItem_safe ..)
  apply Keeps.ite
  · refine Keeps.trans (safe_of_touch (modUnit_touch ..) (by decide)) ?_
    refine Keeps.trans (safe_of_touch (releaseOwn_touch ..) (by decide)) ?_
    refine Keeps.trans (safe_of_touch (freePress_touch ..) (by decide)) ?_
    apply Keeps.foldl
    · exact Keeps.refl _ _
    · intro u v
      refine Keeps.trans (safe_of_touch (releaseOther_touch ..) (by decide)) ?_
      exact Keeps.refl _ _
  · refine Keeps.trans (safe_of_touch (releaseOwn_touch ..) (by decide)) ?_
    refine Keeps.trans (safe_of_touch (freePress_touch ..) (by decide)) ?_
    apply Keeps.foldl
    · exact Keeps.refl _ _
    · intro u v
      refine Keeps.trans (safe_of_touch (releaseOther_touch ..) (by decide)) ?_
      exact Keeps.refl _ _

theorem changeClock_safe  (s : State) (f : State → State)
    (h : ∀ t0, Keeps SafeStill t0 (f t0)) :
    Keeps SafeStill s (changeClock s f) := by
  unfold changeClock
  dsimp only
  apply Keeps.ite
  · apply Keeps.trans (h ..)
    exact Keeps.refl _ _
  · refine Keeps.trans (safe_of_touch (deviceNotice_touch ..) (by decide)) ?_
    apply Keeps.ite
    · apply Keeps.trans (h ..)
      exact Keeps.refl _ _
    · refine Keeps.trans (safe_of_touch (Touch.set_hw (b := [.hw]) (by decide) (Touch.refl _ _)) (by decide)) ?_
      apply Keeps.trans (h ..)
      exact Keeps.refl _ _

theorem askMeasure_safe  (s : State) (slot : ℕ) (reason : ℕ) :
    Keeps SafeStill s (askMeasure s slot reason) := by
  unfold askMeasure
  apply Keeps.ite
  · refine Keeps.trans (safe_of_touch (requestMeasure_touch ..) (by decide)) ?_
    exact Keeps.refl _ _
  · apply Keeps.trans (endItem_safe ..)
    exact Keeps.refl _ _

theorem cutTransfer_safe  (s : State) (slot : ℕ) (reason : ℕ) (extra : ℕ) :
    Keeps SafeStill s (cutTransfer s slot reason extra) := by
  unfold cutTransfer
  apply Keeps.trans (endItem_safe ..)
  refine Keeps.trans (safe_of_touch (stopDma_touch ..) (by decide)) ?_
  exact Keeps.refl _ _

theorem endNow_safe  (s : State) (slot : ℕ) (reason : ℕ) (extra : ℕ) (rest : ℕ → Rest) (dst : UState) :
    Keeps SafeStill s (endNow s slot reason extra rest dst) := by
  unfold endNow
  dsimp only
  split
  · apply Keeps.trans (finishBurst_safe ..)
    exact Keeps.refl _ _
  · apply Keeps.ite
    · apply Keeps.trans (stopMeasure_safe ..)
      exact Keeps.refl _ _
    · apply Keeps.trans (endItem_safe ..)
      exact Keeps.refl _ _
  · apply Keeps.trans (finishTdc_safe ..)
    exact Keeps.refl _ _
  · apply Keeps.trans (finishAcquire_safe ..)
    exact Keeps.refl _ _
  · apply Keeps.trans (cutTransfer_safe ..)
    exact Keeps.refl _ _
  · apply Keeps.trans (failCal_safe ..)
    exact Keeps.refl _ _
  · apply Keeps.trans (endItem_safe ..)
    exact Keeps.refl _ _
  · apply Keeps.ite
    · refine Keeps.trans (safe_of_touch (Touch.set_dps (b := [.dps]) (by decide) (Touch.refl _ _)) (by decide)) ?_
      apply Keeps.trans (finishDps_safe ..)
      exact Keeps.refl _ _
    · apply Keeps.trans (finishDps_safe ..)
      exact Keeps.refl _ _
  · apply Keeps.trans (finishLane_safe ..)
    exact Keeps.refl _ _
  · exact Keeps.refl _ _

theorem endQueued_safe  (s : State) (slot : ℕ) (reason : ℕ) (extra : ℕ) :
    Keeps SafeStill s (endQueued s slot reason extra) := by
  unfold endQueued
  dsimp only
  apply Keeps.ite
  · apply Keeps.trans (endItem_safe ..)
    refine Keeps.trans (safe_of_touch (dpsResult_touch ..) (by decide)) ?_
    exact Keeps.refl _ _
  · apply Keeps.trans (endItem_safe ..)
    exact Keeps.refl _ _

theorem faultBurst_safe  (s : State) (a1 : ℕ) (slot : ℕ) :
    Keeps SafeStill s (faultBurst s a1 slot) := by
  unfold faultBurst
  dsimp only
  apply Keeps.ite
  · apply Keeps.trans (finishBurst_safe ..)
    refine Keeps.trans (safe_of_touch (modBurst_touch ..) (by decide)) ?_
    exact Keeps.refl _ _
  · apply Keeps.trans (abortBurst_safe ..)
    refine Keeps.trans (safe_of_touch (modBurst_touch ..) (by decide)) ?_
    exact Keeps.refl _ _

theorem faultItem_safe  (s : State) (a1 : ℕ) (slot : ℕ) :
    Keeps SafeStill s (faultItem s a1 slot) := by
  unfold faultItem
  dsimp only
  split
  · apply Keeps.ite
    · apply Keeps.trans (endNow_safe ..)
      exact Keeps.refl _ _
    · apply Keeps.trans (askMeasure_safe ..)
      exact Keeps.refl _ _
  · apply Keeps.trans (faultBurst_safe ..)
    exact Keeps.refl _ _
  · apply Keeps.ite
    · apply Keeps.trans (failCal_safe ..)
      exact Keeps.refl _ _
    · apply Keeps.trans (failCal_safe ..)
      apply Keeps.ite
      · refine Keeps.trans (safe_of_touch (setUnit_touch ..) (by decide)) ?_
        exact Keeps.refl _ _
      · exact Keeps.refl _ _
  · apply Keeps.trans (endNow_safe ..)
    exact Keeps.refl _ _

theorem execItemTimeLimit_safe  (slot : ℕ) (s : State) :
    KeepsOut SafeStill s (execItemTimeLimit slot s) := by
  unfold execItemTimeLimit
  dsimp only
  apply KeepsOut.ite
  · split
    · apply KeepsOut.next
      apply Keeps.trans (askMeasure_safe ..)
      exact Keeps.refl _ _
    · apply KeepsOut.next
      apply Keeps.trans (finishTdc_safe ..)
      exact Keeps.refl _ _
    · apply KeepsOut.next
      apply Keeps.trans (finishAcquire_safe ..)
      exact Keeps.refl _ _
    · apply KeepsOut.next
      apply Keeps.trans (finishLane_safe ..)
      exact Keeps.refl _ _
    · apply KeepsOut.next
      exact Keeps.refl _ _
  · apply KeepsOut.next
    exact Keeps.refl _ _

theorem clockItem_safe  (s : State) (slot : ℕ) :
    Keeps SafeStill s (clockItem s slot) := by
  unfold clockItem
  dsimp only
  split
  · apply Keeps.trans (finishBurst_safe ..)
    refine Keeps.trans (safe_of_touch (clockRecord_touch ..) (by decide)) ?_
    exact Keeps.refl _ _
  · apply Keeps.ite
    · apply Keeps.trans (endItem_safe ..)
      exact Keeps.refl _ _
    · exact Keeps.refl _ _
  · refine Keeps.trans (safe_of_touch (modSlot_touch ..) (by decide)) ?_
    exact Keeps.refl _ _
  · refine Keeps.trans (safe_of_touch (modSlot_touch ..) (by decide)) ?_
    exact Keeps.refl _ _
  · exact Keeps.refl _ _
  · apply Keeps.trans (failCal_safe ..)
    exact Keeps.refl _ _
  · apply Keeps.trans (endNow_safe ..)
    exact Keeps.refl _ _

theorem containUnit_safe  (s : State) (a1 : ℕ) :
    Keeps SafeStill s (containUnit s a1) := by
  unfold containUnit
  dsimp only
  apply Keeps.trans (settleCal_safe ..)
  refine Keeps.trans (safe_of_touch (refuseMaintain_touch ..) (by decide)) ?_
  refine Keeps.trans (safe_of_touch (unitSafeState_touch ..) (by decide)) ?_
  refine Keeps.trans (safe_of_touch (modUnit_touch ..) (by decide)) ?_
  refine Keeps.trans (safe_of_touch (setUnit_touch ..) (by decide)) ?_
  apply Keeps.foldl
  · refine Keeps.trans (safe_of_touch (stopAdrift_touch ..) (by decide)) ?_
    refine Keeps.trans (safe_of_touch (unitSafeState_touch ..) (by decide)) ?_
    exact Keeps.refl _ _
  · intro u v
    apply Keeps.ite
    · apply Keeps.trans (faultItem_safe ..)
      exact Keeps.refl _ _
    · exact Keeps.refl _ _

theorem abortItem_safe  (s : State) (slot : ℕ) :
    Keeps SafeStill s (abortItem s slot) := by
  unfold abortItem
  dsimp only
  apply Keeps.ite
  · apply Keeps.trans (endQueued_safe ..)
    exact Keeps.refl _ _
  · split
    · apply Keeps.trans (abortBurst_safe ..)
      exact Keeps.refl _ _
    · apply Keeps.trans (askMeasure_safe ..)
      exact Keeps.refl _ _
    · refine Keeps.trans (safe_of_touch (markCause_touch ..) (by decide)) ?_
      exact Keeps.refl _ _
    · apply Keeps.trans (abortDps_safe ..)
      exact Keeps.refl _ _
    · apply Keeps.trans (failCal_safe ..)
      exact Keeps.refl _ _
    · apply Keeps.trans (endNow_safe ..)
      exact Keeps.refl _ _

theorem ledgerError_safe  (s : State) (slot : ℕ) :
    Keeps SafeStill s (ledgerError s slot) := by
  unfold ledgerError
  dsimp only
  apply Keeps.ite
  · exact Keeps.refl _ _
  · apply Keeps.ite
    · refine Keeps.trans (safe_of_touch (retireSlot_touch ..) (by decide)) ?_
      refine Keeps.trans (safe_of_touch (modSlot_touch ..) (by decide)) ?_
      apply Keeps.ite
      · apply Keeps.trans (endItem_safe ..)
        refine Keeps.trans (safe_of_touch (modSlot_touch ..) (by decide)) ?_
        apply Keeps.ite
        · refine Keeps.trans (safe_of_touch (modUnit_touch ..) (by decide)) ?_
          exact Keeps.refl _ _
        · exact Keeps.refl _ _
      · apply Keeps.ite
        · apply Keeps.trans (endNow_safe ..)
          refine Keeps.trans (safe_of_touch (modSlot_touch ..) (by decide)) ?_
          apply Keeps.ite
          · refine Keeps.trans (safe_of_touch (modUnit_touch ..) (by decide)) ?_
            exact Keeps.refl _ _
          · exact Keeps.refl _ _
        · refine Keeps.trans (safe_of_touch (modSlot_touch ..) (by decide)) ?_
          apply Keeps.ite
          · refine Keeps.trans (safe_of_touch (modUnit_touch ..) (by decide)) ?_
            exact Keeps.refl _ _
          · exact Keeps.refl _ _
    · apply Keeps.ite
      · refine Keeps.trans (safe_of_touch (notice_touch ..) (by decide)) ?_
        refine Keeps.trans (safe_of_touch (modSlot_touch ..) (by decide)) ?_
        apply Keeps.ite
        · apply Keeps.trans (endItem_safe ..)
          refine Keeps.trans (safe_of_touch (modSlot_touch ..) (by decide)) ?_
          apply Keeps.ite
          · refine Keeps.trans (safe_of_touch (modUnit_touch ..) (by decide)) ?_
            exact Keeps.refl _ _
          · exact Keeps.refl _ _
        · apply Keeps.ite
          · apply Keeps.trans (endNow_safe ..)
            refine Keeps.trans (safe_of_touch (modSlot_touch ..) (by decide)) ?_
            apply Keeps.ite
            · refine Keeps.trans (safe_of_touch (modUnit_touch ..) (by decide)) ?_
              exact Keeps.refl _ _
            · exact Keeps.refl _ _
          · refine Keeps.trans (safe_of_touch (modSlot_touch ..) (by decide)) ?_
            apply Keeps.ite
            · refine Keeps.trans (safe_of_touch (modUnit_touch ..) (by decide)) ?_
              exact Keeps.refl _ _
            · exact Keeps.refl _ _
      · refine Keeps.trans (safe_of_touch (modSlot_touch ..) (by decide)) ?_
        apply Keeps.ite
        · apply Keeps.trans (endItem_safe ..)
          refine Keeps.trans (safe_of_touch (modSlot_touch ..) (by decide)) ?_
          apply Keeps.ite
          · refine Keeps.trans (safe_of_touch (modUnit_touch ..) (by decide)) ?_
            exact Keeps.refl _ _
          · exact Keeps.refl _ _
        · apply Keeps.ite
          · apply Keeps.trans (endNow_safe ..)
            refine Keeps.trans (safe_of_touch (modSlot_touch ..) (by decide)) ?_
            apply Keeps.ite
            · refine Keeps.trans (safe_of_touch (modUnit_touch ..) (by decide)) ?_
              exact Keeps.refl _ _
            · exact Keeps.refl _ _
          · refine Keeps.trans (safe_of_touch (modSlot_touch ..) (by decide)) ?_
            apply Keeps.ite
            · refine Keeps.trans (safe_of_touch (modUnit_touch ..) (by decide)) ?_
              exact Keeps.refl _ _
            · exact Keeps.refl _ _

theorem memoryError_safe  (s : State) (page : ℕ) (uncorr : Bool) :
    Keeps SafeStill s (memoryError s page uncorr) := by
  unfold memoryError
  dsimp only
  split
  · apply Keeps.ite
    · apply Keeps.trans (cutTransfer_safe ..)
      refine Keeps.trans (safe_of_touch (takeFree_touch ..) (by decide)) ?_
      split
      · refine Keeps.trans (safe_of_touch (takeFree_touch ..) (by decide)) ?_
        exact Keeps.refl _ _
      · apply Keeps.ite
        · refine Keeps.trans (safe_of_touch (Touch.set_levee (b := [.levee]) (by decide) (Touch.refl _ _)) (by decide)) ?_
          refine Keeps.trans (safe_of_touch (takeFree_touch ..) (by decide)) ?_
          exact Keeps.refl _ _
        · refine Keeps.trans (safe_of_touch (takeFree_touch ..) (by decide)) ?_
          exact Keeps.refl _ _
    · apply Keeps.trans (abortBurst_safe ..)
      refine Keeps.trans (safe_of_touch (takeFree_touch ..) (by decide)) ?_
      split
      · refine Keeps.trans (safe_of_touch (takeFree_touch ..) (by decide)) ?_
        exact Keeps.refl _ _
      · apply Keeps.ite
        · refine Keeps.trans (safe_of_touch (Touch.set_levee (b := [.levee]) (by decide) (Touch.refl _ _)) (by decide)) ?_
          refine Keeps.trans (safe_of_touch (takeFree_touch ..) (by decide)) ?_
          exact Keeps.refl _ _
        · refine Keeps.trans (safe_of_touch (takeFree_touch ..) (by decide)) ?_
          exact Keeps.refl _ _
  · refine Keeps.trans (safe_of_touch (takeFree_touch ..) (by decide)) ?_
    split
    · refine Keeps.trans (safe_of_touch (takeFree_touch ..) (by decide)) ?_
      exact Keeps.refl _ _
    · apply Keeps.ite
      · refine Keeps.trans (safe_of_touch (Touch.set_levee (b := [.levee]) (by decide) (Touch.refl _ _)) (by decide)) ?_
        refine Keeps.trans (safe_of_touch (takeFree_touch ..) (by decide)) ?_
        exact Keeps.refl _ _
      · refine Keeps.trans (safe_of_touch (takeFree_touch ..) (by decide)) ?_
        exact Keeps.refl _ _

theorem bufferError_safe  (s : State) (detail : ℕ) :
    Keeps SafeStill s (bufferError s detail) := by
  unfold bufferError
  apply Keeps.ite
  · split
    · apply Keeps.trans (cutTransfer_safe ..)
      exact Keeps.refl _ _
    · exact Keeps.refl _ _
  · exact Keeps.refl _ _

theorem cacheError_safe  (s : State) :
    Keeps SafeStill s (cacheError s) := by
  unfold cacheError
  dsimp only
  apply Keeps.foldl
  · exact Keeps.refl _ _
  · intro u v
    split
    · refine Keeps.trans (safe_of_touch (takeFree_touch ..) (by decide)) ?_
      exact Keeps.refl _ _
    · apply Keeps.ite
      · apply Keeps.trans (abortBurst_safe ..)
        refine Keeps.trans (safe_of_touch (modBurst_touch ..) (by decide)) ?_
        refine Keeps.trans (safe_of_touch (takeFree_touch ..) (by decide)) ?_
        exact Keeps.refl _ _
      · refine Keeps.trans (safe_of_touch (takeFree_touch ..) (by decide)) ?_
        exact Keeps.refl _ _

theorem referenceError_safe  (s : State) :
    Keeps SafeStill s (referenceError s) := by
  unfold referenceError
  dsimp only
  apply Keeps.foldl
  · refine Keeps.trans (safe_of_touch (Touch.set_house (b := [.house]) (by decide) (Touch.refl _ _)) (by decide)) ?_
    exact Keeps.refl _ _
  · intro u v
    apply Keeps.trans (failCal_safe ..)
    exact Keeps.refl _ _

theorem resetQueue_safe  (s : State) (q : ℕ) :
    Keeps SafeStill s (resetQueue s q) := by
  unfold resetQueue
  dsimp only
  apply Keeps.foldl
  · apply Keeps.foldl
    · refine Keeps.trans (safe_of_touch (modQueue_touch ..) (by decide)) ?_
      exact Keeps.refl _ _
    · intro u v
      refine Keeps.trans (safe_of_touch (settleDma_touch ..) (by decide)) ?_
      refine Keeps.trans (safe_of_touch (failDma_touch ..) (by decide)) ?_
      exact Keeps.refl _ _
  · intro u v
    apply Keeps.ite
    · apply Keeps.trans (abortBurst_safe ..)
      exact Keeps.refl _ _
    · apply Keeps.trans (endNow_safe ..)
      exact Keeps.refl _ _

theorem reactContained_safe  (s : State) (e : Event) :
    Keeps SafeStill s (reactContained s e) := by
  unfold reactContained
  dsimp only
  apply Keeps.ite
  · apply Keeps.trans (containUnit_safe ..)
    exact Keeps.refl _ _
  · apply Keeps.ite
    · refine Keeps.trans (safe_of_touch (portDown_touch ..) (by decide)) ?_
      exact Keeps.refl _ _
    · apply Keeps.ite
      · apply Keeps.trans (resetQueue_safe ..)
        exact Keeps.refl _ _
      · apply Keeps.ite
        · apply Keeps.trans (ledgerError_safe ..)
          exact Keeps.refl _ _
        · apply Keeps.ite
          · apply Keeps.trans (memoryError_safe ..)
            exact Keeps.refl _ _
          · apply Keeps.ite
            · apply Keeps.trans (cacheError_safe ..)
              exact Keeps.refl _ _
            · apply Keeps.ite
              · apply Keeps.trans (bufferError_safe ..)
                exact Keeps.refl _ _
              · apply Keeps.ite
                · apply Keeps.trans (referenceError_safe ..)
                  exact Keeps.refl _ _
                · exact Keeps.refl _ _

theorem raise_safe  (s : State) (e : Event) :
    Keeps SafeStill s (raise s e) := by
  unfold raise
  dsimp only
  split
  · refine Keeps.trans (safe_of_touch (repeatRecord_touch ..) (by decide)) ?_
    exact Keeps.refl _ _
  · apply Keeps.ite
    · apply Keeps.trans (enterSafe_safe ..)
      refine Keeps.trans (safe_of_touch (logEvent_touch ..) (by decide)) ?_
      apply Keeps.ite
      · refine Keeps.trans (safe_of_touch (Touch.set_levee (b := [.levee]) (by decide) (Touch.refl _ _)) (by decide)) ?_
        exact Keeps.refl _ _
      · exact Keeps.refl _ _
    · apply Keeps.ite
      · apply Keeps.trans (settleBypass_safe ..)
        apply Keeps.trans (reactContained_safe ..)
        refine Keeps.trans (safe_of_touch (logEvent_touch ..) (by decide)) ?_
        apply Keeps.ite
        · refine Keeps.trans (safe_of_touch (Touch.set_levee (b := [.levee]) (by decide) (Touch.refl _ _)) (by decide)) ?_
          exact Keeps.refl _ _
        · exact Keeps.refl _ _
      · refine Keeps.trans (safe_of_touch (logEvent_touch ..) (by decide)) ?_
        apply Keeps.ite
        · refine Keeps.trans (safe_of_touch (Touch.set_levee (b := [.levee]) (by decide) (Touch.refl _ _)) (by decide)) ?_
          exact Keeps.refl _ _
        · exact Keeps.refl _ _

theorem writeCtrl_safe  (s : State) (value : Word) :
    Keeps SafeStill s (writeCtrl s value) := by
  unfold writeCtrl
  dsimp only
  apply Keeps.trans (raise_safe ..)
  refine Keeps.trans (safe_of_touch (Touch.set_levee (b := [.levee]) (by decide) (Touch.refl _ _)) (by decide)) ?_
  exact Keeps.refl _ _

theorem detect_safe  (s : State) (det : ℕ) (region : ℕ) (detail : ℕ) (read : ℕ) (uncorr : Bool) (spabry : Bool) (ns : ℕ) :
    Keeps SafeStill s (detect s det region detail read uncorr spabry ns) := by
  unfold detect
  dsimp only
  split
  · apply Keeps.ite
    · apply Keeps.foldl
      · apply Keeps.ite
        · refine Keeps.trans (safe_of_touch (Touch.set_levee (b := [.levee]) (by decide) (Touch.refl _ _)) (by decide)) ?_
          exact Keeps.refl _ _
        · exact Keeps.refl _ _
      · intro u v
        apply Keeps.trans (raise_safe ..)
        exact Keeps.refl _ _
    · exact Keeps.refl _ _
  · exact Keeps.refl _ _

theorem detectOwn_safe  (s : State) (det : ℕ) (region : ℕ) (detail : ℕ) (spabry : Bool) :
    Keeps SafeStill s (detectOwn s det region detail spabry) := by
  unfold detectOwn
  dsimp only
  apply Keeps.trans (detect_safe ..)
  refine Keeps.trans (safe_of_touch (takeFree_touch ..) (by decide)) ?_
  exact Keeps.refl _ _

theorem execDpsOverload_safe  (s : State) :
    KeepsOut SafeStill s (execDpsOverload s) := by
  unfold execDpsOverload
  dsimp only
  apply KeepsOut.ite
  · apply KeepsOut.next
    exact Keeps.refl _ _
  · apply KeepsOut.next
    apply Keeps.trans (detectOwn_safe ..)
    refine Keeps.trans (safe_of_touch (putDps_touch ..) (by decide)) ?_
    refine Keeps.trans (safe_of_touch (outputNow_touch ..) (by decide)) ?_
    refine Keeps.trans (safe_of_touch (takeFree_touch ..) (by decide)) ?_
    exact Keeps.refl _ _

theorem execLeveeDetection_safe  (detector : BitVec 16) (region : BitVec 16) (detail : Detail) (uncorrectable : Bool) (reactionNs : ℕ) (s : State) :
    KeepsOut SafeStill s (execLeveeDetection detector region detail uncorrectable reactionNs s) := by
  unfold execLeveeDetection
  apply KeepsOut.ite
  · apply KeepsOut.next
    exact Keeps.refl _ _
  · apply KeepsOut.next
    apply Keeps.trans (detect_safe ..)
    exact Keeps.refl _ _

theorem execLeveeCtrlWrite_safe  (value : Word) (s : State) :
    KeepsOut SafeStill s (execLeveeCtrlWrite value s) := by
  unfold execLeveeCtrlWrite
  apply KeepsOut.ite
  · apply KeepsOut.next
    exact Keeps.refl _ _
  · apply KeepsOut.next
    apply Keeps.trans (writeCtrl_safe ..)
    exact Keeps.refl _ _

theorem execWatchdog_safe  (which : Dog) (s : State) :
    KeepsOut SafeStill s (execWatchdog which s) := by
  unfold execWatchdog
  dsimp only
  split
  · apply KeepsOut.ite
    · apply KeepsOut.next
      apply Keeps.trans (detectOwn_safe ..)
      refine Keeps.trans (safe_of_touch (Touch.set_levee (b := [.levee]) (by decide) (Touch.refl _ _)) (by decide)) ?_
      exact Keeps.refl _ _
    · apply KeepsOut.next
      exact Keeps.refl _ _
  · apply KeepsOut.ite
    · apply KeepsOut.next
      apply Keeps.trans (detectOwn_safe ..)
      refine Keeps.trans (safe_of_touch (Touch.set_levee (b := [.levee]) (by decide) (Touch.refl _ _)) (by decide)) ?_
      exact Keeps.refl _ _
    · apply KeepsOut.next
      exact Keeps.refl _ _
  · apply KeepsOut.ite
    · apply KeepsOut.next
      apply Keeps.trans (detectOwn_safe ..)
      refine Keeps.trans (safe_of_touch (Touch.set_levee (b := [.levee]) (by decide) (Touch.refl _ _)) (by decide)) ?_
      exact Keeps.refl _ _
    · apply KeepsOut.next
      exact Keeps.refl _ _

theorem calFails_safe  (s : State) (slot : ℕ) (c : ℕ) :
    Keeps SafeStill s (calFails s slot c) := by
  unfold calFails
  dsimp only
  apply Keeps.trans (detectOwn_safe ..)
  refine Keeps.trans (safe_of_touch (modUnit_touch ..) (by decide)) ?_
  apply Keeps.trans (failCal_safe ..)
  exact Keeps.refl _ _

theorem completeCal_safe  (s : State) (slot : ℕ) :
    Keeps SafeStill s (completeCal s slot) := by
  unfold completeCal
  dsimp only
  apply Keeps.trans (endItem_safe ..)
  refine Keeps.trans (safe_of_touch (releaseOwn_touch ..) (by decide)) ?_
  refine Keeps.trans (safe_of_touch (freePress_touch ..) (by decide)) ?_
  apply Keeps.foldl
  · refine Keeps.trans (safe_of_touch (modUnit_touch ..) (by decide)) ?_
    refine Keeps.trans (safe_of_touch (Touch.set_dacs (b := [.dacs]) (by decide) (Touch.refl _ _)) (by decide)) ?_
    apply Keeps.foldl
    · refine Keeps.trans (safe_of_touch (takeFree_touch ..) (by decide)) ?_
      exact Keeps.refl _ _
    · intro u v
      refine Keeps.trans (safe_of_touch (applyCorr_touch ..) (by decide)) ?_
      exact Keeps.refl _ _
  · intro u v
    refine Keeps.trans (safe_of_touch (releaseOther_touch ..) (by decide)) ?_
    exact Keeps.refl _ _

theorem execCalClassDone_safe  (result : CalResult) (s : State) :
    KeepsOut SafeStill s (execCalClassDone result s) := by
  unfold execCalClassDone
  dsimp only
  split
  · split
    · apply KeepsOut.next
      apply Keeps.trans (settleBypass_safe ..)
      apply Keeps.trans (calFails_safe ..)
      exact Keeps.refl _ _
    · apply KeepsOut.ite
      · apply KeepsOut.next
        apply Keeps.trans (settleBypass_safe ..)
        apply Keeps.trans (calFails_safe ..)
        exact Keeps.refl _ _
      · apply KeepsOut.ite
        · apply KeepsOut.next
          apply Keeps.trans (settleBypass_safe ..)
          apply Keeps.trans (completeCal_safe ..)
          refine Keeps.trans (safe_of_touch (modSlot_touch ..) (by decide)) ?_
          refine Keeps.trans (safe_of_touch (Touch.set_press (b := [.press]) (by decide) (Touch.refl _ _)) (by decide)) ?_
          exact Keeps.refl _ _
        · apply KeepsOut.next
          refine Keeps.trans (safe_of_touch (modSlot_touch ..) (by decide)) ?_
          refine Keeps.trans (safe_of_touch (Touch.set_press (b := [.press]) (by decide) (Touch.refl _ _)) (by decide)) ?_
          exact Keeps.refl _ _
  · apply KeepsOut.next
    exact Keeps.refl _ _

theorem execCalDispatch_safe  (slot : ℕ) (s : State) :
    KeepsOut SafeStill s (execCalDispatch slot s) := by
  unfold execCalDispatch
  dsimp only
  apply KeepsOut.ite
  · apply KeepsOut.ite
    · apply KeepsOut.next
      apply Keeps.trans (settleBypass_safe ..)
      apply Keeps.trans (calFails_safe ..)
      apply Keeps.trans (takeItem_safe ..)
      exact Keeps.refl _ _
    · apply KeepsOut.next
      exact Keeps.refl _ _
  · apply KeepsOut.ite
    · apply KeepsOut.ite
      · apply KeepsOut.next
        apply Keeps.trans (endItem_safe ..)
        apply Keeps.ite
        · refine Keeps.trans (safe_of_touch (modUnit_touch ..) (by decide)) ?_
          refine Keeps.trans (safe_of_touch (releaseOwn_touch ..) (by decide)) ?_
          apply Keeps.trans (takeItem_safe ..)
          exact Keeps.refl _ _
        · apply Keeps.trans (takeItem_safe ..)
          exact Keeps.refl _ _
      · apply KeepsOut.next
        refine Keeps.trans (safe_of_touch (Touch.set_press (b := [.press]) (by decide) (Touch.refl _ _)) (by decide)) ?_
        apply Keeps.foldl
        · apply Keeps.trans (takeItem_safe ..)
          exact Keeps.refl _ _
        · intro u v
          refine Keeps.trans (safe_of_touch (takeUnit_touch ..) (by decide)) ?_
          exact Keeps.refl _ _
    · apply KeepsOut.next
      exact Keeps.refl _ _

theorem beginPause_safe  (s : State) :
    Keeps SafeStill s (beginPause s) := by
  unfold beginPause
  dsimp only
  apply Keeps.trans (settleMode_safe ..)
  apply Keeps.foldl
  · refine Keeps.trans (Keeps.upd (Touch.set_dev (b := [.dev]) (by decide) (Touch.refl _ _)) fun h => h) ?_
    exact Keeps.refl _ _
  · intro u v
    refine Keeps.trans (safe_of_touch (pauseItem_touch ..) (by decide)) ?_
    exact Keeps.refl _ _

theorem trigPause_safe  (s : State) :
    Keeps SafeStill s (trigPause s) := by
  unfold trigPause
  apply Keeps.ite
  · apply Keeps.trans (beginPause_safe ..)
    exact Keeps.refl _ _
  · exact Keeps.refl _ _

theorem fireTrig_safe  (s : State) (i : ℕ) :
    Keeps SafeStill s (fireTrig s i) := by
  unfold fireTrig
  dsimp only
  refine Keeps.trans (safe_of_touch (trigAcquire_touch ..) (by decide)) ?_
  apply Keeps.foldl
  · apply Keeps.ite
    · apply Keeps.trans (trigPause_safe ..)
      exact Keeps.refl _ _
    · apply Keeps.ite
      · refine Keeps.trans (safe_of_touch (trigJump_touch ..) (by decide)) ?_
        exact Keeps.refl _ _
      · exact Keeps.refl _ _
  · intro u v
    apply Keeps.trans (fireLevels_safe ..)
    exact Keeps.refl _ _

theorem execTrigInEdge_safe  (input : ℕ) (rising : Bool) (within20 : Bool) (s : State) :
    KeepsOut SafeStill s (execTrigInEdge input rising within20 s) := by
  unfold execTrigInEdge
  dsimp only
  apply KeepsOut.ite
  · apply KeepsOut.next
    exact Keeps.refl _ _
  · apply KeepsOut.ite
    · apply KeepsOut.next
      refine Keeps.trans (safe_of_touch (modTrig_touch ..) (by decide)) ?_
      exact Keeps.refl _ _
    · apply KeepsOut.ite
      · apply KeepsOut.next
        refine Keeps.trans (safe_of_touch (modTrig_touch ..) (by decide)) ?_
        exact Keeps.refl _ _
      · apply KeepsOut.next
        apply Keeps.ite
        · apply Keeps.trans (fireTrig_safe ..)
          refine Keeps.trans (safe_of_touch (modTrig_touch ..) (by decide)) ?_
          exact Keeps.refl _ _
        · refine Keeps.trans (safe_of_touch (modTrig_touch ..) (by decide)) ?_
          exact Keeps.refl _ _

theorem fireItem_safe  (s : State) (slot : ℕ) :
    Keeps SafeStill s (fireItem s slot) := by
  unfold fireItem
  dsimp only
  split
  · apply Keeps.ite
    · refine Keeps.trans (safe_of_touch (beginBurst_touch ..) (by decide)) ?_
      refine Keeps.trans (safe_of_touch (modSlot_touch ..) (by decide)) ?_
      exact Keeps.refl _ _
    · refine Keeps.trans (safe_of_touch (beginBurst_touch ..) (by decide)) ?_
      refine Keeps.trans (safe_of_touch (modSlot_touch ..) (by decide)) ?_
      exact Keeps.refl _ _
  · apply Keeps.trans (fireLevels_safe ..)
    refine Keeps.trans (safe_of_touch (modSlot_touch ..) (by decide)) ?_
    exact Keeps.refl _ _
  · refine Keeps.trans (safe_of_touch (startMeasure_touch ..) (by decide)) ?_
    refine Keeps.trans (safe_of_touch (modSlot_touch ..) (by decide)) ?_
    exact Keeps.refl _ _
  · refine Keeps.trans (safe_of_touch (startTdc_touch ..) (by decide)) ?_
    refine Keeps.trans (safe_of_touch (modSlot_touch ..) (by decide)) ?_
    exact Keeps.refl _ _
  · refine Keeps.trans (safe_of_touch (beginAcquire_touch ..) (by decide)) ?_
    refine Keeps.trans (safe_of_touch (modSlot_touch ..) (by decide)) ?_
    exact Keeps.refl _ _
  · refine Keeps.trans (safe_of_touch (startDps_touch ..) (by decide)) ?_
    refine Keeps.trans (safe_of_touch (modSlot_touch ..) (by decide)) ?_
    exact Keeps.refl _ _
  · refine Keeps.trans (safe_of_touch (startLane_touch ..) (by decide)) ?_
    refine Keeps.trans (safe_of_touch (modSlot_touch ..) (by decide)) ?_
    exact Keeps.refl _ _
  · refine Keeps.trans (safe_of_touch (modSlot_touch ..) (by decide)) ?_
    exact Keeps.refl _ _

theorem execHeadwaterTimedFire_safe  (slot : ℕ) (s : State) :
    KeepsOut SafeStill s (execHeadwaterTimedFire slot s) := by
  unfold execHeadwaterTimedFire
  dsimp only
  apply KeepsOut.ite
  · apply KeepsOut.next
    apply Keeps.trans (fireItem_safe ..)
    exact Keeps.refl _ _
  · apply KeepsOut.next
    exact Keeps.refl _ _

theorem execRefLossDetected_safe  (cause : LossCause) (s : State) :
    KeepsOut SafeStill s (execRefLossDetected cause s) := by
  unfold execRefLossDetected
  dsimp only
  apply KeepsOut.ite
  · apply KeepsOut.next
    exact Keeps.refl _ _
  · apply KeepsOut.ite
    · apply KeepsOut.next
      apply Keeps.trans (settleBypass_safe ..)
      apply Keeps.trans (settleCal_safe ..)
      refine Keeps.trans (safe_of_touch (retrainPorts_touch ..) (by decide)) ?_
      apply Keeps.foldl
      · refine Keeps.trans (safe_of_touch (clockPins_touch ..) (by decide)) ?_
        refine Keeps.trans (safe_of_touch (Touch.set_lanes (b := [.lanes]) (by decide) (Touch.refl _ _)) (by decide)) ?_
        refine Keeps.trans (safe_of_touch (clockUnits_touch ..) (by decide)) ?_
        apply Keeps.trans (raise_safe ..)
        refine Keeps.trans (safe_of_touch (bootNoRef_touch ..) (by decide)) ?_
        refine Keeps.trans (changeClock_safe (h := ?_) ..) ?_
        · intro t0
          refine Keeps.trans (safe_of_touch (loseClock_touch ..) (by decide)) ?_
          refine Keeps.trans (safe_of_touch (Touch.set_clock (b := [.clock]) (by decide) (Touch.refl _ _)) (by decide)) ?_
          exact Keeps.refl _ _
        · exact Keeps.refl _ _
      · intro u v
        apply Keeps.ite
        · apply Keeps.trans (clockItem_safe ..)
          exact Keeps.refl _ _
        · exact Keeps.refl _ _
    · apply KeepsOut.ite
      · apply KeepsOut.next
        exact Keeps.refl _ _
      · apply KeepsOut.next
        apply Keeps.trans (raise_safe ..)
        refine Keeps.trans (safe_of_touch (bootNoRef_touch ..) (by decide)) ?_
        refine Keeps.trans (changeClock_safe (h := ?_) ..) ?_
        · intro t0
          refine Keeps.trans (safe_of_touch (loseRef_touch ..) (by decide)) ?_
          exact Keeps.refl _ _
        · exact Keeps.refl _ _

theorem domainReady_safe  (s : State) (pd : ℕ) (balls : List (ℕ × ℤ)) :
    Keeps SafeStill s (domainReady s pd balls) := by
  unfold domainReady
  dsimp only
  apply Keeps.trans (settleBypass_safe ..)
  apply Keeps.trans (settleCal_safe ..)
  refine Keeps.trans (safe_of_touch (closeSwitches_touch ..) (by decide)) ?_
  refine Keeps.trans (safe_of_touch (domainOn_touch ..) (by decide)) ?_
  refine Keeps.trans (safe_of_touch (Touch.set_power (b := [.power]) (by decide) (Touch.refl _ _)) (by decide)) ?_
  exact Keeps.refl _ _

theorem execWarmReset_safe  (s : State) :
    KeepsOut SafeStill s (execWarmReset s) := by
  unfold execWarmReset
  apply KeepsOut.ite
  · apply KeepsOut.next
    exact Keeps.refl _ _
  · apply KeepsOut.next
    apply Keeps.trans (warmHold_safe ..)
    exact Keeps.refl _ _

theorem execDomainReady_safe  (pd : ℕ) (balls : List (ℕ × ℤ)) (s : State) :
    KeepsOut SafeStill s (execDomainReady pd balls s) := by
  unfold execDomainReady
  dsimp only
  apply KeepsOut.ite
  · apply KeepsOut.ite
    · apply KeepsOut.next
      refine Keeps.trans (safe_of_touch (bootFord_touch ..) (by decide)) ?_
      apply Keeps.trans (domainReady_safe ..)
      exact Keeps.refl _ _
    · apply KeepsOut.next
      apply Keeps.trans (domainReady_safe ..)
      exact Keeps.refl _ _
  · apply KeepsOut.next
    exact Keeps.refl _ _

theorem execAdpllLockComplete_safe  (s : State) :
    KeepsOut SafeStill s (execAdpllLockComplete s) := by
  unfold execAdpllLockComplete
  dsimp only
  apply KeepsOut.ite
  · apply KeepsOut.ite
    · apply KeepsOut.next
      refine Keeps.trans (safe_of_touch (bootRails_touch ..) (by decide)) ?_
      refine Keeps.trans (safe_of_touch (closeSwitches_touch ..) (by decide)) ?_
      refine Keeps.trans (safe_of_touch (completeLock_touch ..) (by decide)) ?_
      exact Keeps.refl _ _
    · apply KeepsOut.ite
      · apply KeepsOut.next
        refine Keeps.trans (safe_of_touch (bootTrain_touch ..) (by decide)) ?_
        refine Keeps.trans (safe_of_touch (closeSwitches_touch ..) (by decide)) ?_
        refine Keeps.trans (safe_of_touch (completeLock_touch ..) (by decide)) ?_
        exact Keeps.refl _ _
      · apply KeepsOut.next
        apply Keeps.trans (settleBypass_safe ..)
        apply Keeps.trans (settleCal_safe ..)
        refine Keeps.trans (safe_of_touch (closeSwitches_touch ..) (by decide)) ?_
        refine Keeps.trans (safe_of_touch (completeLock_touch ..) (by decide)) ?_
        exact Keeps.refl _ _
  · apply KeepsOut.next
    exact Keeps.refl _ _

theorem serve_safe  (op : ℕ) (n : ℕ) (rem : Remote) (s : State) (resv : Msg → Bool) (own : State → Msg → List (Bool × ℕ × ℕ)) (run : State → Msg → Out)
    (h : ∀ t0 t1, KeepsOut SafeStill t0 (run t0 t1)) :
    KeepsOut SafeStill s (serve op n rem s resv own run) := by
  unfold serve
  dsimp only
  apply KeepsOut.ite
  · apply KeepsOut.ite
    · apply KeepsOut.fault
    · split
      · apply KeepsOut.next
        refine Keeps.trans (safe_of_touch (refuse_touch ..) (by decide)) ?_
        refine Keeps.trans (safe_of_touch (takeFront_touch ..) (by decide)) ?_
        exact Keeps.refl _ _
      · apply KeepsOut.ite
        · apply KeepsOut.fault
        · split
          · apply KeepsOut.next
            refine Keeps.trans (safe_of_touch (refuse_touch ..) (by decide)) ?_
            refine Keeps.trans (safe_of_touch (takeFront_touch ..) (by decide)) ?_
            exact Keeps.refl _ _
          · apply KeepsOut.trans (h ..)
            refine Keeps.trans (safe_of_touch (takeFront_touch ..) (by decide)) ?_
            exact Keeps.refl _ _
  · apply KeepsOut.next
    exact Keeps.refl _ _

theorem serveNext_safe  (op : ℕ) (n : ℕ) (s : State) (resv : Msg → Bool) (own : State → Msg → List (Bool × ℕ × ℕ)) (run : State → Msg → State)
    (h : ∀ t0 t1, Keeps SafeStill t0 (run t0 t1)) :
    KeepsOut SafeStill s (serveNext op n s resv own run) := by
  unfold serveNext
  refine KeepsOut.trans (serve_safe (h := ?_) ..) ?_
  · intro t0 t1
    apply KeepsOut.next
    apply Keeps.trans (h ..)
    exact Keeps.refl _ _
  · exact Keeps.refl _ _

theorem writeWord_safe  (s : State) (busy : Bool) (a2 : ℕ) (v : Word) :
    Keeps SafeStill s (writeWord s busy a2 v) := by
  unfold writeWord
  dsimp only
  apply Keeps.ite
  · refine Keeps.trans (safe_of_touch (Touch.set_boot (b := [.boot]) (by decide) (Touch.refl _ _)) (by decide)) ?_
    exact Keeps.refl _ _
  · apply Keeps.ite
    · refine Keeps.trans (safe_of_touch (writeBootCtrl_touch ..) (by decide)) ?_
      exact Keeps.refl _ _
    · apply Keeps.ite
      · refine Keeps.trans (safe_of_touch (writeRstCtrl_touch ..) (by decide)) ?_
        exact Keeps.refl _ _
      · apply Keeps.ite
        · refine Keeps.trans (safe_of_touch (clearMsp_touch ..) (by decide)) ?_
          exact Keeps.refl _ _
        · apply Keeps.ite
          · refine Keeps.trans (safe_of_touch (writeMctrl_touch ..) (by decide)) ?_
            exact Keeps.refl _ _
          · apply Keeps.ite
            · apply Keeps.ite
              · exact Keeps.refl _ _
              · refine Keeps.trans (safe_of_touch (Touch.set_msp (b := [.msp]) (by decide) (Touch.refl _ _)) (by decide)) ?_
                exact Keeps.refl _ _
            · apply Keeps.ite
              · apply Keeps.ite
                · exact Keeps.refl _ _
                · apply Keeps.ite
                  · refine Keeps.trans (safe_of_touch (writeDoorbell_touch ..) (by decide)) ?_
                    exact Keeps.refl _ _
                  · refine Keeps.trans (safe_of_touch (writeRspIndex_touch ..) (by decide)) ?_
                    exact Keeps.refl _ _
              · apply Keeps.ite
                · refine Keeps.trans (safe_of_touch (ackEvents_touch ..) (by decide)) ?_
                  exact Keeps.refl _ _
                · apply Keeps.ite
                  · apply Keeps.trans (writeCtrl_safe ..)
                    exact Keeps.refl _ _
                  · apply Keeps.ite
                    · apply Keeps.ite
                      · exact Keeps.refl _ _
                      · refine Keeps.trans (safe_of_touch (writeEntry_touch ..) (by decide)) ?_
                        exact Keeps.refl _ _
                    · exact Keeps.refl _ _

theorem writeWords_safe  (s : State) (a1 : ℕ) (ws : List Word) :
    Keeps SafeStill s (writeWords s a1 ws) := by
  unfold writeWords
  dsimp only
  apply Keeps.foldl
  · exact Keeps.refl _ _
  · intro u v
    apply Keeps.trans (writeWord_safe ..)
    exact Keeps.refl _ _

theorem execRegisterWrite_safe  (addr : BitVec 24) (value : Word) (s : State) :
    KeepsOut SafeStill s (execRegisterWrite addr value s) := by
  unfold execRegisterWrite
  apply KeepsOut.ite
  · apply KeepsOut.next
    exact Keeps.refl _ _
  · apply KeepsOut.next
    apply Keeps.trans (writeWords_safe ..)
    exact Keeps.refl _ _

theorem writeFrame_safe  (s : State) (a1 : ℕ) (ws : List Word) (cut : Bool) (extra : Bool) :
    Keeps SafeStill s (writeFrame s a1 ws cut extra) := by
  unfold writeFrame
  dsimp only
  apply Keeps.ite
  · refine Keeps.trans (safe_of_touch (raiseFlags_touch ..) (by decide)) ?_
    refine Keeps.trans (safe_of_touch (Touch.set_msp (b := [.msp]) (by decide) (Touch.refl _ _)) (by decide)) ?_
    exact Keeps.refl _ _
  · apply Keeps.ite
    · refine Keeps.trans (safe_of_touch (raiseFlags_touch ..) (by decide)) ?_
      refine Keeps.trans (safe_of_touch (Touch.set_msp (b := [.msp]) (by decide) (Touch.refl _ _)) (by decide)) ?_
      exact Keeps.refl _ _
    · refine Keeps.trans (safe_of_touch (raiseFlags_touch ..) (by decide)) ?_
      apply Keeps.trans (writeWords_safe ..)
      refine Keeps.trans (safe_of_touch (Touch.set_msp (b := [.msp]) (by decide) (Touch.refl _ _)) (by decide)) ?_
      exact Keeps.refl _ _

theorem mspFrame_safe  (s : State) (f : State → State)
    (h : ∀ t0, Keeps SafeStill t0 (f t0)) :
    Keeps SafeStill s (mspFrame s f) := by
  unfold mspFrame
  dsimp only
  apply Keeps.ite
  · exact Keeps.refl _ _
  · apply Keeps.ite
    · refine Keeps.trans (safe_of_touch (contend_touch ..) (by decide)) ?_
      exact Keeps.refl _ _
    · apply Keeps.trans (h ..)
      refine Keeps.trans (safe_of_touch (Touch.set_msp (b := [.msp]) (by decide) (Touch.refl _ _)) (by decide)) ?_
      exact Keeps.refl _ _

theorem execBypass_safe  (s : State) :
    KeepsOut SafeStill s (execBypass s) := by
  unfold execBypass
  apply KeepsOut.next
  apply Keeps.trans (loadIr_safe ..)
  exact Keeps.refl _ _

theorem execSamplePreload_safe  (cells : List Bool) (s : State) :
    KeepsOut SafeStill s (execSamplePreload cells s) := by
  unfold execSamplePreload
  dsimp only
  apply KeepsOut.next
  apply Keeps.trans (loadIr_safe ..)
  refine Keeps.trans (safe_of_touch (Touch.set_jtag (b := [.jtag]) (by decide) (Touch.refl _ _)) (by decide)) ?_
  exact Keeps.refl _ _

theorem execClamp_safe  (s : State) :
    KeepsOut SafeStill s (execClamp s) := by
  unfold execClamp
  apply KeepsOut.next
  apply Keeps.trans (loadIr_safe ..)
  exact Keeps.refl _ _

theorem execRegAccess_safe  (dr : BitVec 64) (s : State) :
    KeepsOut SafeStill s (execRegAccess dr s) := by
  unfold execRegAccess
  dsimp only
  apply KeepsOut.ite
  · apply KeepsOut.next
    apply Keeps.trans (loadIr_safe ..)
    exact Keeps.refl _ _
  · apply KeepsOut.ite
    · apply KeepsOut.next
      refine Keeps.trans (safe_of_touch (Touch.set_jtag (b := [.jtag]) (by decide) (Touch.refl _ _)) (by decide)) ?_
      refine Keeps.trans (safe_of_touch (readWords_touch ..) (by decide)) ?_
      apply Keeps.trans (loadIr_safe ..)
      exact Keeps.refl _ _
    · apply KeepsOut.next
      refine Keeps.trans (safe_of_touch (Touch.set_jtag (b := [.jtag]) (by decide) (Touch.refl _ _)) (by decide)) ?_
      apply Keeps.trans (writeWords_safe ..)
      apply Keeps.trans (loadIr_safe ..)
      exact Keeps.refl _ _

theorem execExtestPulse_safe  (s : State) :
    KeepsOut SafeStill s (execExtestPulse s) := by
  unfold execExtestPulse
  apply KeepsOut.next
  apply Keeps.trans (loadIr_safe ..)
  exact Keeps.refl _ _

theorem execMspWrite_safe  (addr : BitVec 24) (words : List Word) (cut : Bool) (extra : Bool) (s : State) :
    KeepsOut SafeStill s (execMspWrite addr words cut extra s) := by
  unfold execMspWrite
  dsimp only
  apply KeepsOut.next
  refine Keeps.trans (mspFrame_safe (h := ?_) ..) ?_
  · intro t0
    apply Keeps.ite
    · exact Keeps.refl _ _
    · apply Keeps.ite
      · refine Keeps.trans (safe_of_touch (raiseFlags_touch ..) (by decide)) ?_
        refine Keeps.trans (safe_of_touch (Touch.set_msp (b := [.msp]) (by decide) (Touch.refl _ _)) (by decide)) ?_
        exact Keeps.refl _ _
      · apply Keeps.trans (writeFrame_safe ..)
        exact Keeps.refl _ _
  · exact Keeps.refl _ _

theorem execHighz_safe  (s : State) :
    KeepsOut SafeStill s (execHighz s) := by
  unfold execHighz
  apply KeepsOut.next
  apply Keeps.trans (loadIr_safe ..)
  exact Keeps.refl _ _

theorem execIdcode_safe  (s : State) :
    KeepsOut SafeStill s (execIdcode s) := by
  unfold execIdcode
  apply KeepsOut.next
  apply Keeps.trans (loadIr_safe ..)
  exact Keeps.refl _ _

theorem execExtest_safe  (s : State) :
    KeepsOut SafeStill s (execExtest s) := by
  unfold execExtest
  apply KeepsOut.next
  apply Keeps.trans (loadIr_safe ..)
  exact Keeps.refl _ _

theorem execExtestTrain_safe  (s : State) :
    KeepsOut SafeStill s (execExtestTrain s) := by
  unfold execExtestTrain
  apply KeepsOut.next
  apply Keeps.trans (loadIr_safe ..)
  exact Keeps.refl _ _

theorem execOpcNoticeConfig_safe  (mb : ℕ) (s : State) :
    KeepsOut SafeStill s (execOpcNoticeConfig mb s) := by
  unfold execOpcNoticeConfig
  dsimp only
  refine KeepsOut.trans (serveNext_safe (h := ?_) ..) ?_
  · intro t0 t1
    refine Keeps.trans (safe_of_touch (done_touch ..) (by decide)) ?_
    refine Keeps.trans (Keeps.upd (Touch.set_dev (b := [.dev]) (by decide) (Touch.refl _ _)) fun h => h) ?_
    exact Keeps.refl _ _
  · exact Keeps.refl _ _

theorem acceptItem_safe  (s : State) (mb : ℕ) (m : Msg) (ext : List Byte) :
    Keeps SafeStill s (acceptItem s mb m ext) := by
  unfold acceptItem
  dsimp only
  split
  · apply Keeps.ite
    · apply Keeps.trans (endItem_safe ..)
      refine Keeps.trans (safe_of_touch (respond_touch ..) (by decide)) ?_
      refine Keeps.trans (safe_of_touch (newItem_touch ..) (by decide)) ?_
      exact Keeps.refl _ _
    · refine Keeps.trans (safe_of_touch (respond_touch ..) (by decide)) ?_
      refine Keeps.trans (safe_of_touch (newItem_touch ..) (by decide)) ?_
      exact Keeps.refl _ _
  · exact Keeps.refl _ _

theorem execOpcItemSubmit_safe  (mb : ℕ) (rem : Remote) (s : State) :
    KeepsOut SafeStill s (execOpcItemSubmit mb rem s) := by
  unfold execOpcItemSubmit
  dsimp only
  refine KeepsOut.trans (serve_safe (h := ?_) ..) ?_
  · intro t0 t1
    apply KeepsOut.ite
    · apply KeepsOut.fault
    · apply KeepsOut.next
      apply Keeps.trans (acceptItem_safe ..)
      exact Keeps.refl _ _
  · exact Keeps.refl _ _

theorem execOpcItemAbort_safe  (mb : ℕ) (s : State) :
    KeepsOut SafeStill s (execOpcItemAbort mb s) := by
  unfold execOpcItemAbort
  dsimp only
  refine KeepsOut.trans (serveNext_safe (h := ?_) ..) ?_
  · intro t0 t1
    apply Keeps.ite
    · refine Keeps.trans (safe_of_touch (respond_touch ..) (by decide)) ?_
      exact Keeps.refl _ _
    · apply Keeps.trans (settleBypass_safe ..)
      apply Keeps.trans (abortItem_safe ..)
      refine Keeps.trans (safe_of_touch (done_touch ..) (by decide)) ?_
      exact Keeps.refl _ _
  · exact Keeps.refl _ _

theorem receive_safe  (s : State) (p : ℕ) (pkt : Packet) (f : State → Out)
    (h : ∀ t0, KeepsOut SafeStill t0 (f t0)) :
    KeepsOut SafeStill s (receive s p pkt f) := by
  unfold receive
  apply KeepsOut.ite
  · apply KeepsOut.next
    exact Keeps.refl _ _
  · apply KeepsOut.ite
    · apply KeepsOut.trans (h ..)
      refine Keeps.trans (safe_of_touch (modPort_touch ..) (by decide)) ?_
      exact Keeps.refl _ _
    · apply KeepsOut.next
      refine Keeps.trans (safe_of_touch (modPort_touch ..) (by decide)) ?_
      exact Keeps.refl _ _

theorem deliver_safe  (cls : ℕ) (port : Port) (pkt : Packet) (s : State) (f : State → Out)
    (h : ∀ t0, KeepsOut SafeStill t0 (f t0)) :
    KeepsOut SafeStill s (deliver cls port pkt s f) := by
  unfold deliver
  apply KeepsOut.ite
  · refine KeepsOut.trans (receive_safe (h := ?_) ..) ?_
    · intro t0
      apply KeepsOut.trans (h ..)
      refine Keeps.trans (safe_of_touch (takeIn_touch ..) (by decide)) ?_
      exact Keeps.refl _ _
    · exact Keeps.refl _ _
  · apply KeepsOut.next
    exact Keeps.refl _ _

theorem execRegWr_safe  (port : Port) (pkt : Packet) (s : State) :
    KeepsOut SafeStill s (execRegWr port pkt s) := by
  unfold execRegWr
  dsimp only
  refine KeepsOut.trans (deliver_safe (h := ?_) ..) ?_
  · intro t0
    apply KeepsOut.ite
    · apply KeepsOut.next
      refine Keeps.trans (safe_of_touch (sendPlain_touch ..) (by decide)) ?_
      apply Keeps.trans (writeWords_safe ..)
      exact Keeps.refl _ _
    · apply KeepsOut.next
      refine Keeps.trans (safe_of_touch (sendPlain_touch ..) (by decide)) ?_
      exact Keeps.refl _ _
  · exact Keeps.refl _ _

theorem writeAnswered_safe  (s : State) (o : Outst) (status : ℕ) :
    Keeps SafeStill s (writeAnswered s o status) := by
  unfold writeAnswered
  dsimp only
  split
  · split
    · refine Keeps.trans (safe_of_touch (beatsAnswered_touch ..) (by decide)) ?_
      exact Keeps.refl _ _
    · exact Keeps.refl _ _
  · split
    · apply Keeps.trans (writebackAnswered_safe ..)
      exact Keeps.refl _ _
    · exact Keeps.refl _ _

theorem execMemWrAck_safe  (port : Port) (pkt : Packet) (s : State) :
    KeepsOut SafeStill s (execMemWrAck port pkt s) := by
  unfold execMemWrAck
  refine KeepsOut.trans (deliver_safe (h := ?_) ..) ?_
  · intro t0
    split
    · apply KeepsOut.next
      apply Keeps.trans (writeAnswered_safe ..)
      refine Keeps.trans (safe_of_touch (closeOutst_touch ..) (by decide)) ?_
      exact Keeps.refl _ _
    · apply KeepsOut.next
      exact Keeps.refl _ _
  · exact Keeps.refl _ _

theorem readAnswered_safe  (s : State) (o : Outst) (status : ℕ) (rem : Remote) :
    KeepsOut SafeStill s (readAnswered s o status rem) := by
  unfold readAnswered
  dsimp only
  split
  · split
    · apply KeepsOut.ite
      · apply KeepsOut.trans (descArrives_safe ..)
        exact Keeps.refl _ _
      · apply KeepsOut.next
        exact Keeps.refl _ _
    · split
      · apply KeepsOut.next
        refine Keeps.trans (safe_of_touch (burstArrives_touch ..) (by decide)) ?_
        exact Keeps.refl _ _
      · apply KeepsOut.next
        exact Keeps.refl _ _
    · apply KeepsOut.next
      exact Keeps.refl _ _
  · apply KeepsOut.next
    apply Keeps.ite
    · exact Keeps.refl _ _
    · refine Keeps.trans (safe_of_touch (loseRead_touch ..) (by decide)) ?_
      exact Keeps.refl _ _
  · apply KeepsOut.next
    exact Keeps.refl _ _

theorem execMemRdRsp_safe  (port : Port) (pkt : Packet) (s : State) :
    KeepsOut SafeStill s (execMemRdRsp port pkt s) := by
  unfold execMemRdRsp
  refine KeepsOut.trans (deliver_safe (h := ?_) ..) ?_
  · intro t0
    split
    · apply KeepsOut.trans (readAnswered_safe ..)
      refine Keeps.trans (safe_of_touch (closeOutst_touch ..) (by decide)) ?_
      exact Keeps.refl _ _
    · apply KeepsOut.next
      exact Keeps.refl _ _
  · exact Keeps.refl _ _

theorem execRequestTimeout_safe  (tag : BitVec 16) (s : State) :
    KeepsOut SafeStill s (execRequestTimeout tag s) := by
  unfold execRequestTimeout
  dsimp only
  split
  · apply KeepsOut.ite
    · apply KeepsOut.trans (readAnswered_safe ..)
      refine Keeps.trans (safe_of_touch (closeOutst_touch ..) (by decide)) ?_
      exact Keeps.refl _ _
    · apply KeepsOut.ite
      · apply KeepsOut.next
        apply Keeps.trans (writeAnswered_safe ..)
        refine Keeps.trans (safe_of_touch (closeOutst_touch ..) (by decide)) ?_
        exact Keeps.refl _ _
      · apply KeepsOut.next
        refine Keeps.trans (safe_of_touch (closeOutst_touch ..) (by decide)) ?_
        exact Keeps.refl _ _
  · apply KeepsOut.next
    exact Keeps.refl _ _

theorem readDiode_safe  (s : State) (n : ℕ) (r : Option ℤ) (faulty : Bool) :
    Keeps SafeStill s (readDiode s n r faulty) := by
  unfold readDiode
  dsimp only
  apply Keeps.ite
  · exact Keeps.refl _ _
  · apply Keeps.ite
    · apply Keeps.trans (detectOwn_safe ..)
      refine Keeps.trans (safe_of_touch (setTemp_touch ..) (by decide)) ?_
      exact Keeps.refl _ _
    · split
      · refine Keeps.trans (safe_of_touch (setTemp_touch ..) (by decide)) ?_
        exact Keeps.refl _ _
      · refine Keeps.trans (safe_of_touch (setTemp_touch ..) (by decide)) ?_
        exact Keeps.refl _ _

theorem readRef_safe  (s : State) (r : Option ℤ) :
    Keeps SafeStill s (readRef s r) := by
  unfold readRef
  dsimp only
  apply Keeps.ite
  · exact Keeps.refl _ _
  · split
    · apply Keeps.ite
      · apply Keeps.trans (detectOwn_safe ..)
        refine Keeps.trans (safe_of_touch (Touch.set_house (b := [.house]) (by decide) (Touch.refl _ _)) (by decide)) ?_
        exact Keeps.refl _ _
      · refine Keeps.trans (safe_of_touch (Touch.set_house (b := [.house]) (by decide) (Touch.refl _ _)) (by decide)) ?_
        exact Keeps.refl _ _
    · refine Keeps.trans (safe_of_touch (Touch.set_house (b := [.house]) (by decide) (Touch.refl _ _)) (by decide)) ?_
      exact Keeps.refl _ _

theorem readSlot_safe  (s : State) (n : ℕ) (r : Option ℤ) (faulty : Bool) :
    Keeps SafeStill s (readSlot s n r faulty) := by
  unfold readSlot
  split
  · apply Keeps.ite
    · apply Keeps.trans (readDiode_safe ..)
      exact Keeps.refl _ _
    · refine Keeps.trans (safe_of_touch (readChip_touch ..) (by decide)) ?_
      exact Keeps.refl _ _
  · apply Keeps.ite
    · refine Keeps.trans (safe_of_touch (readRail_touch ..) (by decide)) ?_
      exact Keeps.refl _ _
    · apply Keeps.ite
      · apply Keeps.trans (readRef_safe ..)
        exact Keeps.refl _ _
      · apply Keeps.ite
        · refine Keeps.trans (safe_of_touch (readStandard_touch ..) (by decide)) ?_
          exact Keeps.refl _ _
        · exact Keeps.refl _ _

theorem remoteTrip_safe  (s : State) (k : ℕ) :
    Keeps SafeStill s (remoteTrip s k) := by
  unfold remoteTrip
  apply Keeps.ite
  · apply Keeps.trans (detectOwn_safe ..)
    exact Keeps.refl _ _
  · exact Keeps.refl _ _

theorem execHousekeepingSlot_safe  (reading : Option ℤ) (faulty : Bool) (s : State) :
    KeepsOut SafeStill s (execHousekeepingSlot reading faulty s) := by
  unfold execHousekeepingSlot
  dsimp only
  apply KeepsOut.ite
  · apply KeepsOut.next
    exact Keeps.refl _ _
  · apply KeepsOut.ite
    · apply KeepsOut.next
      refine Keeps.trans (safe_of_touch (Touch.set_house (b := [.house]) (by decide) (Touch.refl _ _)) (by decide)) ?_
      split
      · refine Keeps.trans (safe_of_touch (driftCheck_touch ..) (by decide)) ?_
        apply Keeps.trans (remoteTrip_safe ..)
        apply Keeps.trans (readSlot_safe ..)
        refine Keeps.trans (safe_of_touch (Touch.set_house (b := [.house]) (by decide) (Touch.refl _ _)) (by decide)) ?_
        exact Keeps.refl _ _
      · apply Keeps.trans (readSlot_safe ..)
        refine Keeps.trans (safe_of_touch (Touch.set_house (b := [.house]) (by decide) (Touch.refl _ _)) (by decide)) ?_
        exact Keeps.refl _ _
    · apply KeepsOut.next
      refine Keeps.trans (safe_of_touch (Touch.set_house (b := [.house]) (by decide) (Touch.refl _ _)) (by decide)) ?_
      refine Keeps.trans (safe_of_touch (endRound_touch ..) (by decide)) ?_
      split
      · refine Keeps.trans (safe_of_touch (driftCheck_touch ..) (by decide)) ?_
        apply Keeps.trans (remoteTrip_safe ..)
        apply Keeps.trans (readSlot_safe ..)
        refine Keeps.trans (safe_of_touch (Touch.set_house (b := [.house]) (by decide) (Touch.refl _ _)) (by decide)) ?_
        exact Keeps.refl _ _
      · apply Keeps.trans (readSlot_safe ..)
        refine Keeps.trans (safe_of_touch (Touch.set_house (b := [.house]) (by decide) (Touch.refl _ _)) (by decide)) ?_
        exact Keeps.refl _ _

theorem schedFailed_safe  (s : State) (id : ℕ) :
    Keeps SafeStill s (schedFailed s id) := by
  unfold schedFailed
  dsimp only
  apply Keeps.foldl
  · refine Keeps.trans (safe_of_touch (modSched_touch ..) (by decide)) ?_
    exact Keeps.refl _ _
  · intro u v
    apply Keeps.trans (endItem_safe ..)
    exact Keeps.refl _ _

theorem execScheduleDigestDone_safe  (id : ℕ) (rem : Remote) (s : State) :
    KeepsOut SafeStill s (execScheduleDigestDone id rem s) := by
  unfold execScheduleDigestDone
  dsimp only
  split
  · split
    · apply KeepsOut.ite
      · apply KeepsOut.ite
        · apply KeepsOut.fault
        · apply KeepsOut.next
          refine Keeps.trans (safe_of_touch (modSched_touch ..) (by decide)) ?_
          exact Keeps.refl _ _
      · apply KeepsOut.next
        apply Keeps.trans (schedFailed_safe ..)
        exact Keeps.refl _ _
    · apply KeepsOut.next
      apply Keeps.trans (schedFailed_safe ..)
      exact Keeps.refl _ _
  · apply KeepsOut.next
    exact Keeps.refl _ _

theorem storeFailed_safe  (s : State) (q : ℕ) (target : ℕ) :
    Keeps SafeStill s (storeFailed s q target) := by
  unfold storeFailed
  dsimp only
  apply Keeps.foldl
  · refine Keeps.trans (safe_of_touch (modSeq_touch ..) (by decide)) ?_
    exact Keeps.refl _ _
  · intro u v
    apply Keeps.trans (endNow_safe ..)
    exact Keeps.refl _ _

theorem execMseqDigestDone_safe  (seq : ℕ) (rem : Remote) (s : State) :
    KeepsOut SafeStill s (execMseqDigestDone seq rem s) := by
  unfold execMseqDigestDone
  dsimp only
  split
  · split
    · apply KeepsOut.ite
      · apply KeepsOut.next
        refine Keeps.trans (safe_of_touch (modSeq_touch ..) (by decide)) ?_
        refine Keeps.trans (safe_of_touch (modSeq_touch ..) (by decide)) ?_
        exact Keeps.refl _ _
      · apply KeepsOut.next
        apply Keeps.trans (storeFailed_safe ..)
        refine Keeps.trans (safe_of_touch (modSeq_touch ..) (by decide)) ?_
        exact Keeps.refl _ _
    · apply KeepsOut.next
      apply Keeps.trans (storeFailed_safe ..)
      refine Keeps.trans (safe_of_touch (modSeq_touch ..) (by decide)) ?_
      exact Keeps.refl _ _
  · apply KeepsOut.next
    exact Keeps.refl _ _

end Sys2Proof.Machine
end

