-- ==== Sys2Proof/Machine/LineCode.lean ====
section
/-! DEFINITION. The line code of the Trellis lanes (R307, R312): 66-bit blocks, the scrambler, the alignment blocks, the
dealing of a packet over the lanes, and block lock. The lanes run at every moment, also with no packet to send, so what
a lane has reached is an argument here and no state of a port (log 156). -/

namespace Sys2Proof.Machine

/-- A 66-bit block: its sync header and its 64 bits. -/
structure Block where
  sync : BitVec 2
  body : BitVec 64
deriving DecidableEq, Repr

/-- A data block, the idle block and the alignment block of a lane, with its 16-bit block count (R307). -/
def dataBlock (w : BitVec 64) : Block := { sync := 0b01, body := w }
def idleBlock : Block := { sync := 0b10, body := 0x1E }
def alignBlock (lane : Nat) (count : BitVec 16) : Block :=
  { sync := 0b10, body := BitVec.ofNat 64 (0x4B + lane % 4 * 256 + count.toNat * 65536) }

/-- The blocks of bytes, eight in each (R312). -/
def blocksOf : Nat → List Byte → List Block
  | 0, _ => []
  | n + 1, bs => if bs = [] then [] else dataBlock (BitVec.ofNat 64 (unle (bs.take 8))) :: blocksOf n (bs.drop 8)
def packetBlocks (p : Packet) : List Block := let bs := packetBytes p p.crc; blocksOf bs.length bs

/-- The lanes that a port uses, ascending, and the blocks that the one in place i of n gets when n lanes are dealt to in
turn, the first block going to place k (R312). -/
def portLanes (q : PortState) : List Nat := setBits 4 q.lanes.toNat
def dealt {α : Type} (n i : Nat) : Nat → List α → List α
  | _, [] => []
  | k, b :: bs => if k % n = i then b :: dealt n i (k + 1) bs else dealt n i (k + 1) bs

/-- One bit through the self-synchronous scrambler x^58 + x^39 + 1, and back: the register holds the last 58 bits sent,
the latest lowest. The sync header is sent as it is. -/
def scrambleBit (r : BitVec 58) (b : Bool) : Bool × BitVec 58 :=
  let x := b ^^ r.getLsbD 38 ^^ r.getLsbD 57
  (x, (r <<< 1) ||| BitVec.ofNat 58 (b2n x))
def descrambleBit (r : BitVec 58) (x : Bool) : Bool × BitVec 58 :=
  (x ^^ r.getLsbD 38 ^^ r.getLsbD 57, (r <<< 1) ||| BitVec.ofNat 58 (b2n x))

/-- A sequence of bits through one of them. -/
def through (f : BitVec 58 → Bool → Bool × BitVec 58) : BitVec 58 → List Bool → List Bool
  | _, [] => []
  | r, b :: bs => (f r b).1 :: through f (f r b).2 bs

/-- The bits of a block's body in the order they are sent, the lowest first. -/
def bodyBits (b : Block) : List Bool := (List.range 64).map b.body.getLsbD

/-- What a lane has reached: blocks since its last alignment block, and that block's count. -/
structure LaneLine where
  since : Nat := 0
  count : BitVec 16 := 0
deriving DecidableEq, Repr

/-- The blocks of a lane with its alignment blocks, one in every 16,384 (R307). -/
def aligned (lane : Nat) : LaneLine → List Block → List Block
  | _, [] => []
  | l, b :: bs =>
    if l.since = 16383 then alignBlock lane l.count :: b :: aligned lane { since := 1, count := l.count + 1 } bs
    else b :: aligned lane { l with since := l.since + 1 } bs

/-- Block lock of a receiving lane (clause 49): 64 headers with none invalid give it, 16 invalid ones within 64 take it.
invalid20 counts those of the last 2^20 blocks, of which 16 retrain the port (R311). -/
structure BlockLock where
  headers : Nat := 0
  invalid : Nat := 0
  locked  : Bool := false
  blocks20 : Nat := 0
  invalid20 : Nat := 0
deriving DecidableEq, Repr

def validSync (h : BitVec 2) : Bool := h = 0b01 || h = 0b10

/-- One received header; a header that is invalid while there is no lock begins the count anew, one bit later. -/
def takeHeader (l : BlockLock) (h : BitVec 2) : BlockLock :=
  let bad := b2n (! validSync h)
  let l := if l.blocks20 = 2 ^ 20 then { l with blocks20 := 1, invalid20 := bad }
    else { l with blocks20 := l.blocks20 + 1, invalid20 := l.invalid20 + bad }
  if bad = 1 ∧ ¬ l.locked then { l with headers := 0, invalid := 0 }
  else if bad = 1 ∧ l.invalid = 15 then { l with headers := 0, invalid := 0, locked := false }
  else if l.headers = 63 then { l with headers := 0, invalid := 0, locked := l.locked || l.invalid + bad = 0 }
  else { l with headers := l.headers + 1, invalid := l.invalid + bad }

/-- Must the port retrain for what its lanes have received (R311)? -/
def mustRetrain (ls : List BlockLock) : Bool := ls.any fun l => ! l.locked || 16 ≤ l.invalid20

end Sys2Proof.Machine
end

