-- ==== Sys2Proof/WellFormed.lean ====
section
/-! DEFINITION. Well-formed commands: operands that name something the device has, and packets and readings of a form that
can reach it (R5, R83, Tables 6.7, 17.2). -/

namespace Sys2Proof

/-- Remote bytes stand at pattern-space addresses, bits [40:0] (R148). -/
def remoteOk (rem : Remote) : Bool := rem.all fun e => e.1 < 2 ^ 41

/-- Levels are given for channels. -/
def ballsOk (balls : List (Nat × Int)) : Bool := balls.all fun e => e.1 < 768

/-- A packet that a port can frame: 0 to 64 data flits (R312), and the reserved bits of the header clear (Table 17.2). -/
def packetOk (p : Packet) : Bool :=
  p.data.length % 32 = 0 && p.data.length ≤ 2048 && p.route.toNat < 64 && p.dest.toNat < 2048 && p.src.toNat < 2048
    && p.lseq.toNat < 4096

/-- A fetch names tracks, layers and lane groups that an image can hold (R133, R146). -/
def sliceOk (k : Slice) : Bool :=
  match k.kind with
  | .ctl t => t < 12
  | .src g => g < 96
  | .ovl p l d => p < 12 && 1 ≤ l && l ≤ 3 && d < 8
  | _ => k.granule = 0

/-- New corrections have distinct indices. -/
def calOk : CalResult → Bool
  | .inRange ks => (ks.map Prod.fst).Nodup
  | .outOfRange => true

/-- Is a command well-formed? -/
def wf : Instr → Bool
  | .powerOnReset => true
  | .powerOnResetRelease _ _ => true
  | .warmReset => true
  | .warmResetRelease => true
  | .rstCtrlWarm _ => true
  | .clrNAssert => true
  | .clrNRelease => true
  | .fordCloseNFall => true
  | .fordCloseNRise => true
  | .trigInEdge input _ _ => input < 4
  | .trigInStuck input => input < 4
  | .refLossDetected _ => true
  | .relockStart => true
  | .adpllLockComplete => true
  | .clockStepReached => true
  | .hwsyncPulse => true
  | .chainMasterPulse => true
  | .syncPulseMissing => true
  | .headwaterTimedFire slot => slot < 2048
  | .domainReady pd balls => pd < 32 && ballsOk balls
  | .unitQuiesced unit => unit < 65536
  | .lpddrTrainingDone mib => mib ≤ 65536
  | .bootRateMeasured _ => true
  | .bootRateTimeout => true
  | .bootTrainTimeout => true
  | .bootRailReady => true
  | .bootRefValid => true
  | .bootRequestTimer => true
  | .bootSourceSilent => true
  | .bootDigestDone => true
  | .bootReport => true
  | .watchdog _ => true
  | .bootRestart _ => true
  | .mspWrite _ words _ _ => words.length ≤ 256
  | .mspRead _ n _ shifted _ => n ≤ 256 && shifted ≤ n
  | .mspReadSlow _ n _ shifted _ => n ≤ 256 && shifted ≤ n
  | .mspStream _ _ _ => true
  | .mspReservedOpcode _ _ => true
  | .mspMasterStart _ => true
  | .mspMasterUnitEnd _ => true
  | .contention => true
  | .hwTimeLoRead _ => true
  | .mbDoorbellWrite n _ => n < 4
  | .mb0PathChange _ => true
  | .rspTailWrite n _ => n < 4
  | .requestEntryWrite n entry word _ => n < 4 && entry < 256 && word < 16
  | .leveeAckWrite _ => true
  | .leveeCtrlWrite _ => true
  | .registerWrite _ _ => true
  | .regAccess _ => true
  | .extest => true
  | .samplePreload _ => true
  | .idcode => true
  | .clamp => true
  | .highz => true
  | .extestPulse => true
  | .extestTrain => true
  | .bypass => true
  | .unknownOpcodeRequest mb => mb < 4
  | .opcIdentity mb => mb < 4
  | .opcDeviceStart mb => mb < 4
  | .opcArm mb => mb < 4
  | .opcDisarm mb => mb < 4
  | .opcPause mb => mb < 4
  | .opcResume mb => mb < 4
  | .opcBypassEnter mb => mb < 4
  | .fordDrainDone => true
  | .opcBypassExit mb => mb < 4
  | .opcDiagEnter mb => mb < 4
  | .opcDiagExit mb => mb < 4
  | .selfTestEnd report => report.length ≤ 64
  | .opcPdSet mb => mb < 4
  | .opcPdQuery mb => mb < 4
  | .opcNoticeConfig mb => mb < 4
  | .opcItemSubmit mb rem => mb < 4 && remoteOk rem
  | .opcItemAbort mb => mb < 4
  | .opcLedgerRead mb => mb < 4
  | .opcLedgerRetire mb rem => mb < 4 && remoteOk rem
  | .opcClockStatus mb => mb < 4
  | .opcClockLock mb => mb < 4
  | .opcClockStep mb => mb < 4
  | .opcSyncConfig mb => mb < 4
  | .opcSyncMeasure mb => mb < 4
  | .opcSyncOffset mb => mb < 4
  | .opcSyncEpoch mb => mb < 4
  | .opcSiteMap mb rem => mb < 4 && remoteOk rem
  | .opcTrigConfig mb => mb < 4
  | .opcWmonConfig mb rem balls => mb < 4 && remoteOk rem && ballsOk balls
  | .opcTdcConfig mb => mb < 4
  | .opcDpsConfig mb => mb < 4
  | .opcSineConfig mb => mb < 4
  | .opcLaneConfig mb => mb < 4
  | .opcCalConfig mb => mb < 4
  | .opcLevelsSet mb rem => mb < 4 && remoteOk rem
  | .opcLoadGroup mb => mb < 4
  | .opcClearCode mb rem => mb < 4 && remoteOk rem
  | .opcTimingSet mb rem => mb < 4 && remoteOk rem
  | .opcPinmodeSet mb rem => mb < 4 && remoteOk rem
  | .opcTimingCommit mb => mb < 4
  | .opcBackgroundSet mb => mb < 4
  | .opcScheduleLoad mb rem => mb < 4 && remoteOk rem
  | .scheduleDigestDone id rem => id < 16 && remoteOk rem
  | .opcScheduleUnload mb => mb < 4
  | .opcScheduleStatus mb => mb < 4
  | .opcBurstJump mb => mb < 4
  | .opcLayerFree mb => mb < 4
  | .opcLayerStatus mb => mb < 4
  | .opcUnitMaintain mb => mb < 4
  | .opcUnitRelease mb => mb < 4
  | .opcUnitStatus mb => mb < 4
  | .opcMseqLoad mb rem => mb < 4 && remoteOk rem
  | .mseqDigestDone seq rem => seq < 16 && remoteOk rem
  | .opcFabricStatus mb => mb < 4
  | .opcPortConfig mb => mb < 4
  | .opcPageHome mb => mb < 4
  | .opcBootServe mb => mb < 4
  | .bootServeSilence => true
  | .opcEventRead mb => mb < 4
  | .opcEventAck mb => mb < 4
  | .opcFaultInject mb => mb < 4
  | .injectionEnd => true
  | .opcServiceBegin mb rem => mb < 4 && remoteOk rem
  | .serviceImageChecked rem => remoteOk rem
  | .serviceBankChangeDone => true
  | .itemTimeLimit slot => slot < 2048
  | .burstDispatch slot => slot < 2048
  | .pinBodyAbandoned slot _ => slot < 2048
  | .burstStart slot => slot < 2048
  | .segmentFetchIssue slot ord _ => slot < 2048 && ord < 2 ^ 64
  | .fetchResident slot key rem => slot < 2048 && sliceOk key && remoteOk rem
  | .streamingRoomFreed slot => slot < 2048
  | .junctionSamplingPoint slot => slot < 2048
  | .underrun slot => slot < 2048
  | .burstSegmentBoundary slot => slot < 2048
  | .stallEnd slot _ => slot < 2048
  | .throttleHoldEnd slot _ => slot < 2048
  | .layerPageRelease peb layer _ => peb < 12 && 1 ≤ layer && layer ≤ 3
  | .queueFlushTimeout q => q < 14
  | .wmonTransition ch _ _ => ch < 768
  | .wmonCoalesceEnd mon => mon < 772
  | .wmonStuck ch => ch < 768
  | .measureDispatch slot => slot < 2048
  | .mseqRequestTaken seq => seq < 16
  | .seqGo seq => seq < 16
  | .seqCall seq => seq < 16
  | .seqReturn seq => seq < 16
  | .seqWait seq => seq < 16
  | .timerDone seq => seq < 16
  | .seqEnd seq => seq < 16
  | .unwindDone seq => seq < 16
  | .conversionDone dadc conv input v _ _ _ => -524288 ≤ v && v ≤ 524287 && if dadc then conv < 48 && input < 2 else conv < 96 && input < 8
  | .rangeChangeDone dps n => if dps then n < 48 else n < 768
  | .tdcDispatch slot => slot < 2048
  | .tdcEdge tdc _ e _ => tdc < 192 && e.cycle ≤ 20 && e.tap < 256
  | .acquireDispatch slot => slot < 2048
  | .transferDispatch slot => slot < 2048
  | .dmaDescriptorFetched ch status rem => ch < 16 && status < 4 && remoteOk rem
  | .dmaBufferGranted ch => ch < 16
  | .dmaReadResponse ch status rem => ch < 16 && status < 4 && remoteOk rem
  | .dmaWriteResponse ch status => ch < 16 && status < 4
  | .dmaWritebackAck ch status => ch < 16 && status < 4
  | .dmaStopWaitEnd ch => ch < 16
  | .calDispatch slot => slot < 2048
  | .calClassDone result => calOk result
  | .correctionSlewStep => true
  | .referenceFullAccuracy => true
  | .levelsDispatch slot => slot < 2048
  | .dpsDispatch slot => slot < 2048
  | .currentManagerRefresh loads vps => loads.all (fun e => e.1 < 48) && vps.length ≤ 4
  | .dpsRampStep slot => slot < 2048
  | .dpsBudgetTimeout slot => slot < 2048
  | .dpsLimitChange n _ _ _ => n < 48
  | .dpsDropout n _ _ _ => n < 48
  | .dpsOverload => true
  | .dpsDisarmOutputDisable n => n < 48
  | .dpsDischargeDone n => n < 48
  | .laneDispatch slot => slot < 2048
  | .laneRxLock lane _ => lane < 112
  | .noLock lane => lane < 112
  | .lanePrbsSync lane _ => lane < 112
  | .laneSyncDrop lane _ _ => lane < 112
  | .noSync lane => lane < 112
  | .laneLockLoss lane => lane < 112
  | .laneBitsReached lane _ _ => lane < 112
  | .eyePointDone lane _ => lane < 112
  | .laneClassRecognised lane cls _ => lane < 112 && cls < 9
  | .portRetrain _ => true
  | .portTrained _ _ _ => true
  | .portTrainRetry _ => true
  | .portAckTimeout _ => true
  | .linkSendTimer _ => true
  | .link _ pkt => packetOk pkt
  | .train _ pkt => packetOk pkt
  | .packetForward _ pkt => packetOk pkt
  | .regRd _ pkt => packetOk pkt
  | .regWr _ pkt => packetOk pkt
  | .regRsp _ pkt => packetOk pkt
  | .mboxReq _ pkt => packetOk pkt
  | .mboxRsp _ pkt => packetOk pkt
  | .mboxAck _ pkt => packetOk pkt
  | .mboxAckTimeout _ => true
  | .memRd _ pkt => packetOk pkt
  | .memRdRsp _ pkt => packetOk pkt
  | .memWr _ pkt => packetOk pkt
  | .memWrAck _ pkt => packetOk pkt
  | .requestTimeout _ => true
  | .timeXchg _ pkt _ _ => packetOk pkt
  | .timeXchgRsp _ pkt _ => packetOk pkt
  | .timeEpoch _ pkt => packetOk pkt
  | .bcastReq _ pkt => packetOk pkt
  | .bootReq _ pkt rem => packetOk pkt && remoteOk rem
  | .bootOffer _ pkt => packetOk pkt
  | .bootData _ pkt => packetOk pkt
  | .bootDone _ pkt => packetOk pkt
  | .leveeDetection _ _ detail _ ns => detail.read < 4096 && ns < 2 ^ 32
  | .reactionShadowClose _ => true
  | .housekeepingSlot _ _ => true
  | .throttleWindowEnd => true
  | .vectorPlay slot seen => slot < 2048 && seen.all (fun x => x.ch < 768)
  | .delayLineLocked => true
  | .domainSwitchOpened pd => pd < 32
  | .sineUpdate => true

end Sys2Proof
end

