-- ==== Sys2Proof/Tests/Slice0.lean ====
section
/-! SUPPORT. Tests: ill-formed commands are refused by the check of form, single steps give what the spec's rules say, and
for every statement a state and operands meet its hypotheses, clause by clause. -/

namespace Sys2Proof.Tests

-- One test after another: a test that the kernel evaluates waits for every declaration before it to be checked, and a
-- hundred that wait at once hold a hundred thread stacks.
set_option Elab.async false

open Sys2Proof Sys2Proof.Machine

/-! Well-formed commands. -/

theorem test_wf_pins_and_slots :
    wf (.trigInEdge 3 true false) = true ∧ wf (.trigInEdge 4 true false) = false ∧ wf (.trigInStuck 4) = false
      ∧ wf (.headwaterTimedFire 2047) = true ∧ wf (.headwaterTimedFire 2048) = false ∧ wf (.burstDispatch 2048) = false
      ∧ wf (.domainReady 32 []) = false ∧ wf (.domainReady 31 [(768, 0)]) = false
      ∧ wf (.domainReady 31 [(767, -5)]) = true ∧ wf (.domainSwitchOpened 32) = false
      ∧ wf (.unitQuiesced 65536) = false ∧ wf (.lpddrTrainingDone 65537) = false := by decide +kernel

theorem test_wf_port_frames :
    wf (.mspWrite 0 (List.replicate 256 0) false false) = true ∧ wf (.mspWrite 0 (List.replicate 257 0) false false) = false
      ∧ wf (.mspRead 0 257 0 0 false) = false ∧ wf (.mspRead 0 4 0 5 false) = false ∧ wf (.mspReadSlow 0 4 0 5 false) = false
      ∧ wf (.mbDoorbellWrite 4 0) = false ∧ wf (.rspTailWrite 4 0) = false ∧ wf (.requestEntryWrite 0 256 0 0) = false
      ∧ wf (.requestEntryWrite 0 255 16 0) = false ∧ wf (.requestEntryWrite 3 255 15 0) = true
      ∧ wf (.selfTestEnd (List.replicate 65 0)) = false := by decide +kernel

theorem test_wf_requests :
    wf (.opcArm 3) = true ∧ wf (.opcArm 4) = false ∧ wf (.opcItemSubmit 0 [(2 ^ 41, 0)]) = false
      ∧ wf (.opcItemSubmit 0 [(2 ^ 41 - 1, 0)]) = true ∧ wf (.opcWmonConfig 0 [] [(768, 0)]) = false
      ∧ wf (.scheduleDigestDone 16 []) = false ∧ wf (.mseqDigestDone 16 []) = false
      ∧ wf (.unknownOpcodeRequest 4) = false := by decide +kernel

theorem test_wf_engines :
    wf (.fetchResident 0 { ord := 0, seg := 0, kind := .ctl 12, granule := 0 } []) = false
      ∧ wf (.fetchResident 0 { ord := 0, seg := 0, kind := .src 96, granule := 0 } []) = false
      ∧ wf (.fetchResident 0 { ord := 0, seg := 0, kind := .ovl 0 4 0, granule := 0 } []) = false
      ∧ wf (.fetchResident 0 { ord := 0, seg := 0, kind := .desc, granule := 1 } []) = false
      ∧ wf (.fetchResident 0 { ord := 0, seg := 0, kind := .ovl 11 3 7, granule := 1 } []) = true
      ∧ wf (.layerPageRelease 12 1 0) = false ∧ wf (.layerPageRelease 11 0 0) = false ∧ wf (.layerPageRelease 11 4 0) = false
      ∧ wf (.queueFlushTimeout 14) = false ∧ wf (.wmonTransition 768 0 false) = false ∧ wf (.wmonCoalesceEnd 772) = false
      ∧ wf (.wmonStuck 768) = false ∧ wf (.seqGo 16) = false ∧ wf (.timerDone 16) = false
      ∧ wf (.segmentFetchIssue 0 (2 ^ 64) 0) = false
      ∧ wf (.vectorPlay 0 [{ ch := 768, all := [], final := .mid }]) = false := by decide +kernel

theorem test_wf_units :
    wf (.conversionDone true 48 0 0 false false 0) = false ∧ wf (.conversionDone true 47 2 0 false false 0) = false
      ∧ wf (.conversionDone false 96 0 0 false false 0) = false ∧ wf (.conversionDone false 95 8 0 false false 0) = false
      ∧ wf (.conversionDone false 95 7 524287 false false 0) = true
      ∧ wf (.conversionDone false 95 7 524288 false false 0) = false ∧ wf (.rangeChangeDone true 48) = false
      ∧ wf (.rangeChangeDone false 768) = false ∧ wf (.tdcEdge 192 false ⟨0, 0⟩ false) = false
      ∧ wf (.tdcEdge 191 false ⟨0, 256⟩ false) = false ∧ wf (.tdcEdge 191 false ⟨21, 0⟩ false) = false ∧ wf (.dmaBufferGranted 16) = false ∧ wf (.dmaReadResponse 0 4 []) = false
      ∧ wf (.dmaWriteResponse 15 3) = true ∧ wf (.dmaWritebackAck 16 0) = false
      ∧ wf (.calClassDone (.inRange [(1, 0), (1, 2)])) = false ∧ wf (.currentManagerRefresh [(48, 0)] []) = false
      ∧ wf (.currentManagerRefresh [] [0, 0, 0, 0, 0]) = false ∧ wf (.dpsLimitChange 48 true 0 0) = false
      ∧ wf (.dpsDropout 48 true 0 0) = false ∧ wf (.dpsDischargeDone 48) = false ∧ wf (.noLock 112) = false
      ∧ wf (.laneRxLock 111 0) = true ∧ wf (.laneClassRecognised 0 9 false) = false
      ∧ wf (.leveeDetection 0 0 ⟨0, 4096⟩ false 0) = false ∧ wf (.leveeDetection 0 0 ⟨0, 0⟩ false (2 ^ 32)) = false := by decide +kernel

/-- A packet with no data. -/
def packet (cls : Byte) (dest : BitVec 16) : Packet :=
  { cls := cls, route := 0, dest := dest, src := 1, status := 0, arg0 := 0, arg1 := 0, lseq := 1, tag := 7, crc := 0, data := [] }

theorem test_wf_packets :
    wf (.regRd .west (packet 1 0)) = true ∧ wf (.regRd .west { packet 1 0 with data := [0] }) = false
      ∧ wf (.memWr .west { packet 0x22 0 with data := List.replicate 2080 0 }) = false
      ∧ wf (.link .west { packet 0x7F 0 with route := 64 }) = false
      ∧ wf (.mboxReq .west { packet 0x10 0 with dest := 2048 }) = false
      ∧ wf (.mboxReq .west { packet 0x10 0 with src := 2048 }) = false
      ∧ wf (.train .west { packet 0x7E 0 with lseq := 4096 }) = false
      ∧ wf (.bootReq .west (packet 0x50 0) [(2 ^ 41, 0)]) = false := by decide +kernel

/-! States for the tests. -/

/-- A device that runs its Cellar in a mode, with every domain on, the clock locked at M = 80.0 and the count running. -/
def running (m : Mode) : State :=
  { State.reset with
    power := { porHeld := false, pdOn := BitVec.allOnes 32, fordClosed := false, refFull := true }
    dev := { mode := m, prev := .idle, started := true }
    clock := { locked := true, onBypass := false, mLock := 0x5000000#28, mNow := 0x5000000#28, lockTarget := 0x5000000#28 }
    hw := { running := true }
    boot := { running := true, reported := true, phase := .started, version := 0x4B000000#32 }
    levee := { dogRun := true }
    mem := { avail := true, mib := 64 }
    cfg := { homes := [(0, 1)] } }

/-- The request of an opcode with 48 bytes of payload. -/
def reqMsg (op : Nat) (fields : List (Nat × Nat × Nat)) : Msg := Msg.of ([(0, 2, op), (4, 2, 0x77), (8, 1, 48)] ++ fields)

/-- s with a request of an opcode waiting in mailbox n. -/
def asking (n op : Nat) (fields : List (Nat × Nat × Nat)) (s : State) : State :=
  modMb s n fun b => { b with reqHead := b.reqHead + 1, req := tset 0 b.req (b.reqHead.toNat % 256) (reqMsg op fields) }

/-- The canonical form of a table, evaluated. -/
def tabOkFrom {α : Type} [DecidableEq α] (d : α) : Nat → Tab α → Bool
  | _, [] => true
  | lo, (k, v) :: t => decide (lo ≤ k) && decide (v ≠ d) && tabOkFrom d (k + 1) t
def tabOk {α : Type} [DecidableEq α] (d : α) (t : Tab α) : Bool := tabOkFrom d 0 t

theorem tabWfFrom_of_ok {α : Type} [DecidableEq α] (d : α) (t : Tab α) (lo : Nat) (h : tabOkFrom d lo t = true) :
    TabWfFrom d lo t := by
  induction t generalizing lo with
  | nil => trivial
  | cons e t ih =>
    simp only [tabOkFrom, Bool.and_eq_true, decide_eq_true_eq] at h
    exact ⟨h.1.1, h.1.2, ih _ h.2⟩

theorem tabWf_of_ok {α : Type} [DecidableEq α] {d : α} {t : Tab α} (h : tabOk d t = true) : TabWf d t :=
  tabWfFrom_of_ok d t 0 h

/-- Every table of the state that a statement asks to be canonical is. -/
def tabsOk (s : State) : Bool :=
  tabOk {} s.mbs && tabOk {} s.units && tabOk {} s.dacs && tabOk {} s.ledger && tabOk {} s.chans && tabOk {} s.pebs
    && tabOk {} s.bursts && tabOk {} s.seqs && tabOk {} s.tdcs && tabOk {} s.acqs && tabOk {} s.dps && tabOk {} s.lgs
    && tabOk {} s.lanes && tabOk {} s.queues && tabOk {} s.dmas && tabOk {} s.fabric.ports && tabOk {} s.cfg.trig
    && tabOk {} s.cfg.scheds && tabOk 0 s.cfg.homes && tabOk {} s.levee.log && tabOk 0 s.house.rail

/-- Those tables are canonical in s. -/
def TabsWf (s : State) : Prop :=
  TabWf {} s.mbs ∧ TabWf {} s.units ∧ TabWf {} s.dacs ∧ TabWf {} s.ledger ∧ TabWf {} s.chans ∧ TabWf {} s.pebs
    ∧ TabWf {} s.bursts ∧ TabWf {} s.seqs ∧ TabWf {} s.tdcs ∧ TabWf {} s.acqs ∧ TabWf {} s.dps ∧ TabWf {} s.lgs
    ∧ TabWf {} s.lanes ∧ TabWf {} s.queues ∧ TabWf {} s.dmas ∧ TabWf {} s.fabric.ports ∧ TabWf {} s.cfg.trig
    ∧ TabWf {} s.cfg.scheds ∧ TabWf 0 s.cfg.homes ∧ TabWf {} s.levee.log ∧ TabWf 0 s.house.rail

theorem tabsWf_of_ok {s : State} (h : tabsOk s = true) : TabsWf s := by
  simp only [tabsOk, Bool.and_eq_true] at h
  unfold TabsWf
  and_intros
  all_goals exact tabWf_of_ok (by simp only [h])

/-- The request Spabry takes from mailbox n, and the state it leaves. -/
def asked (s : State) (n : Nat) : Msg := (takeFront s n).1
def left (s : State) (n : Nat) : State := (takeFront s n).2

/-- s meets the hypotheses of a clause about a request: it is asked, the tables are canonical, and P holds of what is taken. -/
structure Meets (op n : Nat) (rem : Remote) (s : State) (P : State → Msg → Bool) : Prop where
  asks : Asked op n rem s (asked s n) (left s n)
  tabs : TabsWf s
  also : P (left s n) (asked s n) = true

theorem meets {op n : Nat} {rem : Remote} {s : State} {P : State → Msg → Bool}
    (h : (decide (nextMailbox s = some n) && decide (Msg.field (frontReq s n) 0 2 = op) && ! headReserved (asked s n)
      && ! commandReserved (asked s n) && decide (firstFail (earlyChecks (left s n) n rem (asked s n)) = none) && tabsOk s
      && P (left s n) (asked s n)) = true) : Meets op n rem s P := by
  simp only [Bool.and_eq_true, Bool.not_eq_true', decide_eq_true_eq] at h
  exact { asks := ⟨⟨h.1.1.1.1.1.1, by simp only [h], rfl⟩, by simp only [h], by simp only [h], by simp only [h]⟩
          tabs := tabsWf_of_ok (by simp only [h]), also := h.2 }

/-- s, whose tables are canonical, meets P. -/
structure Holds (s : State) (P : State → Bool) : Prop where
  tabs : TabsWf s
  also : P s = true

theorem holds {s : State} {P : State → Bool} (h : (tabsOk s && P s) = true) : Holds s P := by
  simp only [Bool.and_eq_true] at h
  exact ⟨tabsWf_of_ok h.1, h.2⟩

/-! Hypotheses of the statements about the whole machine, reset and boot: concrete states meet them, clause by clause. -/

theorem test_step_front_command :
    step { State.reset with pending := [.extest, .highz] }
      = .next { State.reset with pending := [.highz], jtag := { State.reset.jtag with ir := 0x00#8 } } := rfl

/-- R50: at M = 80.0 one period of HWREF, 10 ns, is 5,120 LSB of the count. -/
theorem test_idle_tick_counts :
    (match step (running .idle) with | .next t => t.hw.count | _ => 0) = 5120 := by decide +kernel

theorem test_hyps_IdleTickAdvancesHeadwater :
    Holds State.reset (fun s => s.pending = [] ∧ s.hw.running = false ∧ s.clock.stepActive = false)
      ∧ Holds { running .idle with
          clock := { locked := true, mLock := 0x5000000#28, mNow := 0x5000000#28, stepActive := true, stepTarget := 0x5000100#28 }
          dps := [(47, { enabled := true, goal := some 5 })] }
        (fun s => s.pending = [] ∧ s.clock.stepActive = true ∧ (dpsOf s 47).goal = some 5 ∧ (dpsOf s 46).goal = none)
      ∧ Holds (running .idle) (fun s => s.pending = [] ∧ s.hw.running = true ∧ s.hw.status ≠ .synced)
      ∧ Holds { running .idle with hw := { running := true, status := .synced } }
        (fun s => s.pending = [] ∧ s.hw.running = true ∧ s.hw.status = .synced ∧ s.hw.slew = 0) := by
  and_intros
  all_goals exact holds (by decide +kernel)

/-- The next state of an outcome, else s. -/
def nextOr (s : State) : Host.Outcome State Fault Refusal → State
  | .next t => t
  | _ => s

theorem test_hyps_CommandsLeaveTheQueue :
    ∃ t, exec .clrNAssert { running .idle with pending := [.extest] } = .next t := ⟨_, rfl⟩

theorem test_hyps_EveryStepKeepsMemoryCanonical :
    ∃ s t : State, Memory.wf s.mem.bytes = true ∧ s.mem.bytes ≠ [] ∧ step s = .next t :=
  ⟨{ running .idle with mem := { avail := true, mib := 64, bytes := [⟨3, 9⟩] } }, _, by decide +kernel, by decide +kernel, rfl⟩

theorem test_hyps_LocalWriteReadsBack :
    Memory.wf (running .idle).mem.bytes = true
      ∧ (localByte (writeLocal (running .idle) 4 [7, 0]) 4, localByte (writeLocal (running .idle) 4 [7, 0]) 5,
          localByte (writeLocal (running .idle) 4 [7, 0]) 6) = (7#8, 0#8, 0#8) := by decide +kernel

theorem test_hyps_CorrectionsChangeOnlyByCalibration :
    ∃ t, exec .correctionSlewStep (running .idle) = .next t ∧ (∀ r, Instr.correctionSlewStep ≠ .calClassDone r)
      ∧ Instr.correctionSlewStep ≠ .warmReset ∧ Instr.correctionSlewStep ≠ .powerOnReset :=
  ⟨_, rfl, nofun, nofun, nofun⟩

theorem test_hyps_ResetReleaseStartsTheBoot :
    Holds State.reset (fun s => s.power.porHeld = true ∧ s.boot.running = false ∧ s.clock.refOk = true)
      ∧ Holds { State.reset with clock := { refOk := false } }
        (fun s => s.power.porHeld = true ∧ s.boot.running = false ∧ s.clock.refOk = false)
      ∧ Holds { State.reset with power := { porHeld := false, warmHeld := true, src := 3 } }
        (fun s => s.power.warmHeld = true ∧ s.boot.running = false ∧ 2 ≤ s.power.src.toNat)
      ∧ Holds { State.reset with power := { porHeld := false, warmHeld := true, src := 0 } }
        (fun s => s.power.warmHeld = true ∧ s.power.src = 0#2)
      ∧ Holds { State.reset with power := { porHeld := false, warmHeld := true, src := 1 } }
        (fun s => s.power.warmHeld = true ∧ s.power.src = 1#2) := by
  and_intros
  all_goals exact holds (by decide +kernel)

theorem test_hyps_PowerOnResetClearsTheDevice :
    Holds { running .idle with dps := [(46, { discharging := true }), (47, { enabled := true })] }
        (fun s => (dpsOf s 47).enabled = true ∧ (dpsOf s 46).discharging = true ∧ (dpsOf s 45).enabled = false)
      ∧ ∃ t, exec .powerOnReset { running .idle with dps := [(47, { enabled := true })] } = .next t :=
  ⟨holds (by decide +kernel), _, rfl⟩

theorem test_hyps_WarmResetKeepsPd0 :
    Holds State.reset (fun s => s.power.porHeld = true ∧ inReset s = true)
      ∧ Holds { running .idle with dps := [(47, { enabled := true })] }
        (fun s => s.power.porHeld = false ∧ s.power.warmHeld = false ∧ s.power.warmSched = false ∧ (dpsOf s 47).enabled = true)
      ∧ Holds { running .idle with power := { porHeld := false, warmSched := true } } (fun s => inReset s = false)
      ∧ (0x5A01#32).getLsbD 0 = true ∧ (0x5A01#32 >>> 8).setWidth 8 = 0x5A#8
      ∧ (0x5A00#32).getLsbD 0 = false ∧ (0x5B01#32 >>> 8).setWidth 8 ≠ 0x5A#8 := by
  and_intros
  all_goals first
    | exact holds (by decide +kernel)
    | exact by decide +kernel

/-- R390: only a write of WARM with KEY 0x5A schedules the warm reset. -/
theorem test_rst_ctrl_key :
    (nextOr State.reset (exec (.rstCtrlWarm 0x5A01) (running .run))).power.warmSched = true
      ∧ exec (.rstCtrlWarm 0x5B01) (running .run) = .next (running .run) := ⟨by decide +kernel, rfl⟩

theorem test_hyps_ClearPinHoldsEveryDac :
    Holds { running .idle with dacs := [(5, { active := 7, held := false })] } (fun s => (dacOf s 5).held = false) :=
  holds (by decide +kernel)

/-- R35: the pin's fall leaves the registers and holds the DAC at its clear code. -/
theorem test_clear_pin_keeps_active :
    dacOf (nextOr State.reset (exec .clrNAssert { running .idle with dacs := [(5, { active := 7, held := false })] })) 5
      = { active := 7, held := true, byClr := true } := by decide +kernel

theorem test_hyps_FordPinClosesTheFord :
    Holds State.reset (fun s => inReset s = true)
      ∧ Holds (running .safe) (fun s => s.dev.mode = .safe) ∧ Holds (running .bypass) (fun s => s.dev.mode = .bypass)
      ∧ Holds (running .service) (fun s => inReset s = false ∧ s.dev.mode = .service)
      ∧ Holds (running .boot) (fun s => inReset s = false ∧ s.dev.mode = .boot ∧ s.boot.wait ≠ .measure
        ∧ s.boot.wait ≠ .train ∧ s.boot.wait ≠ .request)
      ∧ Holds { running .boot with boot := { wait := .request, phase := .verifying } }
        (fun s => inReset s = false ∧ s.dev.mode = .boot ∧ s.boot.wait = .request ∧ s.boot.phase = .verifying)
      ∧ Holds { running .boot with boot := { wait := .measure, phase := .receiving } }
        (fun s => s.boot.wait = .measure ∧ s.boot.phase ≠ .verifying)
      ∧ Holds (running .loaded) (fun s => inReset s = false ∧ s.dev.mode = .loaded ∧ s.boot.reported = true)
      ∧ Holds (running .diagnostic) (fun s => inReset s = false ∧ s.dev.mode = .diagnostic)
      ∧ Holds { running .boot with boot := { wait := .ford } }
        (fun s => inReset s = false ∧ s.dev.mode = .boot ∧ s.boot.wait = .ford ∧ s.clock.refOk = true)
      ∧ Holds { running .boot with boot := { wait := .ford }, clock := { refOk := false } }
        (fun s => ¬ (inReset s = false ∧ s.dev.mode = .boot ∧ s.boot.wait = .ford ∧ s.clock.refOk = true)) := by
  and_intros
  all_goals exact holds (by decide +kernel)

/-- A firmware image of 192 bytes as a download holds it. -/
def fwTab : Tab Byte :=
  [(0, 87), (1, 70), (2, 87), (3, 75), (4, 1), (6, 128), (8, 8), (12, 1), (15, 75), (16, 64), (64, 220), (65, 86),
   (66, 166), (67, 8), (68, 52), (69, 228), (70, 254), (71, 164), (72, 120), (73, 108), (74, 196), (75, 141), (76,
   42), (77, 110), (78, 206), (79, 8), (80, 220), (81, 133), (82, 229), (83, 206), (84, 18), (85, 171), (86, 77),
   (87, 3), (88, 107), (89, 160), (90, 225), (91, 50), (92, 102), (93, 27), (94, 167), (95, 31)]

/-- A device in BOOT that waits for w. -/
def booting (w : BootWait) (ph : BootPhase) : State :=
  { running .boot with boot := { wait := w, phase := ph }, levee := {}, clock := { locked := true, mLock := 0x5000000#28 } }

theorem test_hyps_TrellisBootGoesOn :
    (∀ w ∈ [BootWait.ref, .ford, .lock, .measure, .train, .request],
        Holds { booting w .waiting with boot := { wait := w, error := 6 } } (fun s => s.dev.mode = .boot ∧ inReset s = false
          ∧ s.boot.wait = w ∧ s.boot.wait ≠ .none ∧ s.boot.wait ≠ .strap ∧ s.boot.error = 0x06#8))
      ∧ Holds (booting .rail .waiting) (fun s => s.dev.mode = .boot ∧ inReset s = false ∧ s.boot.wait = .rail
        ∧ s.clock.refOk = true)
      ∧ Holds { booting .measure .waiting with clock := { refOk := false } }
        (fun s => s.boot.wait = .measure ∧ s.clock.refOk = false)
      ∧ Holds { booting .train .waiting with clock := { refOk := true } }
        (fun s => s.boot.wait = .train ∧ s.clock.locked = false)
      ∧ Holds (booting .measure .waiting) (fun s => s.boot.wait = .measure ∧ s.clock.refOk = true ∧ mLegal 0x5000000 = true ∧ mLegal 0x3C00000 = true
        ∧ withinStep s.clock.mLock.toNat 0x5000000 = true ∧ withinStep s.clock.mLock.toNat 0x3C00000 = false)
      ∧ Holds (booting .train .waiting) (fun s => s.dev.mode = .boot ∧ inReset s = false ∧ s.boot.wait = .train
        ∧ s.clock.locked = true)
      ∧ Holds { booting .request .failed with fabric := { ports := [(2, { st := .up, lanes := 15 })] } }
        (fun s => s.boot.wait = .request ∧ s.boot.phase = .failed ∧ portUp (portOf s 2) = true)
      ∧ Holds { running .boot with boot := { wait := .request, phase := .receiving, source := some 4 } }
        (fun s => inReset s = false ∧ s.dev.mode = .boot ∧ s.boot.phase = .receiving ∧ s.boot.source.isSome = true)
      ∧ (1#32).getLsbD 0 = true := by
  and_intros
  all_goals first
    | exact by
          intro k hk
          simp only [List.mem_cons, List.not_mem_nil, or_false] at hk
          rcases hk with rfl | rfl | rfl | rfl | rfl | rfl <;> exact holds (by decide +kernel)
    | exact holds (by decide +kernel)
    | exact by decide +kernel

theorem test_hyps_ImageStartsOrFails :
    Holds { running .boot with boot := { phase := .verifying } }
        (fun s => s.dev.mode = .boot ∧ s.boot.phase = .verifying ∧ inReset s = false ∧ s.power.fordPinLow = false
          ∧ digestOk (bootBytes s (imageLen s)) = false)
      ∧ Holds { running .boot with boot := { phase := .verifying, img := fwTab, got := 192 } }
        (fun s => s.boot.phase = .verifying ∧ digestOk (bootBytes s (imageLen s)) = true)
      ∧ Holds { running .loaded with
          boot := { running := true }
          ledger := [(3, { st := .queued, kind := some .tdc }), (4, { st := .queued, kind := some .cal, own := true })] }
        (fun s => s.boot.running = true ∧ s.boot.reported = false ∧ s.dev.mode = .loaded ∧ openSlot (slotOf s 3) = true
          ∧ (slotOf s 3).own = false ∧ openSlot (slotOf s 4) = true ∧ (slotOf s 4).own = true)
      ∧ Holds { running .bypass with boot := { running := true } }
        (fun s => s.boot.running = true ∧ s.boot.reported = false ∧ s.dev.mode = .bypass) := by
  and_intros
  all_goals exact holds (by decide +kernel)

theorem test_hyps_LossOfReferenceStopsTheClocks :
    Holds { running .armed with units := [(11, { st := .active })] } (fun s => inReset s = false ∧ s.clock.locked = true
        ∧ s.clock.delayLocked = false ∧ s.dev.mode ≠ .calibrate ∧ s.power.bypassPend = false ∧ s.ledger = []
        ∧ 11 ∈ allUnits ∧ clockedUnit 11 = true ∧ unitState s 11 = .active ∧ unitTdc ∈ allUnits ∧ clockedUnit unitTdc = true
        ∧ s.hw.running = true)
      ∧ Holds { running .idle with units := [(10, { st := .active }), (11, { st := .offline, lossOff := true })] }
        (fun s => s.clock.locked = true ∧ s.clock.delayLocked = false ∧ (unitOf s 11).lossOff = true
          ∧ unitState s 11 ≠ .maintenance ∧ containedOpen s 11 = false ∧ offOrdered s 11 = false ∧ (unitOf s 10).lossOff = false)
      ∧ Holds { booting .lock .waiting with clock := { lost := false } } (fun s => inReset s = false ∧ s.dev.mode = .boot
        ∧ ¬ (s.clock.locked = true ∨ (s.clock.relocking = true ∧ s.clock.lost = false ∧ s.clock.mLock ≠ 0))
        ∧ s.boot.wait ≠ .none ∧ s.boot.wait ≠ .strap)
      ∧ Holds { running .idle with clock := { relocking := true, mLock := 0x5000000#28 } }
        (fun s => inReset s = false ∧ s.clock.relocking = true ∧ s.clock.lost = false ∧ s.clock.mLock ≠ 0)
      ∧ Holds { running .loaded with clock := {} } (fun s => inReset s = false
        ∧ ¬ (s.clock.locked = true ∨ (s.clock.relocking = true ∧ s.clock.lost = false ∧ s.clock.mLock ≠ 0)))
      ∧ Holds State.reset (fun s => inReset s = true ∧ ¬ (s.clock.locked = true ∧ s.clock.delayLocked = false))
      ∧ Holds { running .pause with clock := { lost := true } }
        (fun s => inReset s = false ∧ s.clock.lost = true ∧ s.clock.relocking = false)
      ∧ Holds { running .pause with clock := { lost := true, relocking := true } }
        (fun s => inReset s = false ∧ ¬ (s.clock.lost = true ∧ s.clock.relocking = false)) := by
  and_intros
  all_goals exact holds (by decide +kernel)

/-- R45: a loss in RUN leaves the clocks unlocked and on the bypass oscillator; the relock goes to the same target. -/
theorem test_loss_and_relock :
    let t := nextOr State.reset (exec (.refLossDetected .missingEdge) (running .run))
    let u := nextOr State.reset (exec .relockStart t)
    t.clock.lost = true ∧ t.clock.locked = false ∧ u.clock.relocking = true ∧ u.clock.lockTarget = 0x5000000#28 := by
  decide +kernel

theorem test_hyps_LockCompletesAtTheTarget :
    Holds { running .idle with clock := { relocking := true, lockTarget := 0x5000000#28 } } (fun s => lockReady s = true)
      ∧ Holds (running .idle) (fun s => lockReady s = false ∧ s.clock.stepActive = false)
      ∧ Holds { running .run with clock := { locked := true, stepActive := true }, bursts := [(4, { phase := .playing })] }
        (fun s => s.clock.stepActive = true ∧ playing (burstOf s 4) = true ∧ playing (burstOf s 5) = false) := by
  and_intros
  all_goals exact holds (by decide +kernel)

theorem test_hyps_SyncPulsesAlignTheHeadwater :
    Holds { running .idle with hw := { running := true, syncMode := 1, status := .acquiring } }
        (fun s => s.hw.running = true ∧ s.hw.syncMode = 1 ∧ s.hw.epochOut = none ∧ s.hw.status = .acquiring
          ∧ s.hw.epochSeen = false)
      ∧ Holds { running .idle with hw := { running := true, syncMode := 2, status := .acquiring, epochSeen := true, epoch := some 9 } }
        (fun s => s.hw.running = true ∧ s.hw.syncMode = 2 ∧ s.hw.epochOut = none ∧ s.hw.status = .acquiring
          ∧ s.hw.epochSeen = true)
      ∧ Holds { running .idle with hw := { running := true, syncMode := 2, status := .synced, epoch := some 9, count := 265 } }
        (fun s => s.hw.status = .synced ∧ (s.hw.count - alignedCount s).toInt.natAbs = 256)
      ∧ Holds { running .idle with hw := { running := true, syncMode := 1, status := .synced, epoch := some 9, count := 266 } }
        (fun s => s.hw.status = .synced ∧ 256 < (s.hw.count - alignedCount s).toInt.natAbs)
      ∧ Holds { running .idle with hw := { running := true, syncMode := 3, status := .acquiring } }
        (fun s => s.hw.running = true ∧ s.hw.syncMode = 3 ∧ s.hw.status = .acquiring ∧ s.hw.epochOut = none)
      ∧ (∀ k ∈ [1, 3], Holds { running .idle with hw := { running := true, syncMode := k, status := .synced, epochOut := some 7 } }
        (fun s => s.hw.running = true ∧ s.hw.status = .synced ∧ s.hw.epochOut = some 7 ∧ s.hw.syncMode = k))
      ∧ Holds (running .idle) (fun s => ¬ (s.hw.running = true ∧ (s.hw.status = .acquiring ∨ s.hw.status = .synced))
        ∧ s.hw.syncMode ≠ 1 ∧ s.hw.syncMode ≠ 2 ∧ s.hw.syncMode ≠ 3) := by
  and_intros
  all_goals first
    | exact holds (by decide +kernel)
    | exact by
          intro k hk
          simp only [List.mem_cons, List.not_mem_nil, or_false] at hk
          rcases hk with rfl | rfl <;> exact holds (by decide +kernel)

theorem test_hyps_DomainsComeOnAndGoOff :
    Holds { running .run with power := { porHeld := false, pdRise := 0x80000000#32 } }
        (fun s => s.power.pdRise.getLsbD 31 = true ∧ inReset s = false)
      ∧ Holds { running .idle with power := { porHeld := false, pdOn := 0x7FF#32, pdOffOrd := 0x40#32, pdBusy := 0x40#32 } }
        (fun s => mayOpen s 6 = true ∧ inReset s = false)
      ∧ Holds { running .idle with mem := {} }
        (fun s => s.power.pdOn.getLsbD 11 = true ∧ s.mem.avail = false ∧ s.dev.mode ≠ .safe)
      ∧ Holds (running .idle) (fun s => s.power.pdRise.getLsbD 31 = false ∧ mayOpen s 31 = false
        ∧ ¬ (s.power.pdOn.getLsbD 11 = true ∧ s.mem.avail = false ∧ s.dev.mode ≠ .safe)) := by
  and_intros
  all_goals exact holds (by decide +kernel)

/-! Hypotheses of the statements about the management port, the TAP and the mailboxes. -/

/-- A device with a master unit running. -/
def mastering : State := { running .idle with msp := { unit := true, cs := 1 } }

theorem test_hyps_ReadFramesShiftRegisterWords :
    Holds (running .idle) (fun s => s.power.porHeld = false ∧ mbusy s = false)
      ∧ (0x40#24).toNat % 4 = 0 ∧ (0x41#24).toNat % 4 ≠ 0 := by
  and_intros
  all_goals first
    | exact holds (by decide +kernel)
    | exact by decide +kernel

/-- R386: a READ of NODE_ADDR's and of an unmapped address; the second sets BADADDR. -/
theorem test_read_badaddr :
    (nextOr State.reset (exec (.mspRead 0x0FFFFC 1 0 1 false) (running .idle))).msp.badAddr = true
      ∧ (nextOr State.reset (exec (.mspRead 0x20 1 0 1 false) (running .idle))).msp.badAddr = false := by decide +kernel

theorem test_hyps_WriteFramesCommitWhole :
    Holds (running .idle) (fun s => s.power.porHeld = false ∧ mbusy s = false ∧ allMapped s 0x68 1 = true
        ∧ allMapped s 0x0FFFFC 1 = false ∧ allMapped s 0x20000 16 = true)
      ∧ [0#32] ≠ [] ∧ (List.replicate 16 0#32).length ≤ 16 ∧ 0x30 < (0x31#8).toNat ∧ (0x6A#24).toNat % 4 ≠ 0 := by
  and_intros
  all_goals first
    | exact holds (by decide +kernel)
    | exact by decide +kernel

/-- R384, R389: a write that clears FRAME and is followed by a clock raises OVERCLOCK; a reserved opcode sets BADOP. -/
theorem test_write_clears_flags :
    let s := { running .idle with msp := { frame := true } }
    let t := nextOr State.reset (exec (.mspWrite 0x60 [2] false true) s)
    t.msp.overclock = true ∧ t.msp.frame = false
      ∧ (nextOr State.reset (exec (.mspReservedOpcode 0x31 0x68) s)).msp.badOp = true := by decide +kernel

theorem test_hyps_StreamFramesFeedTheDownload :
    Holds { booting .none .waiting with power := { porHeld := false, src := 0 } }
        (fun s => s.power.porHeld = false ∧ s.power.warmHeld = false ∧ mbusy s = false ∧ s.dev.mode = .boot ∧ s.power.src = 0
          ∧ s.boot.phase = .waiting)
      ∧ Holds { booting .request .failed with power := { porHeld := false, src := 1 } }
        (fun s => s.power.warmHeld = false ∧ mbusy s = false ∧ s.dev.mode = .boot ∧ s.power.src ≠ 0 ∧ s.boot.phase = .failed)
      ∧ Holds (running .idle) (fun s => s.power.porHeld = false ∧ mbusy s = false ∧ s.dev.mode ≠ .boot)
      ∧ Holds { booting .none .waiting with power := { porHeld := false, warmHeld := true } }
        (fun s => mbusy s = false ∧ s.power.warmHeld = true)
      ∧ (0x100004#24).toNat % 4 = 0 ∧ 0x100004#24 ≠ 0x100000#24 := by
  and_intros
  all_goals first
    | exact holds (by decide +kernel)
    | exact by decide +kernel

theorem test_hyps_MasterUnitsRunAndContend :
    Holds (running .idle) (fun s => s.power.porHeld = false ∧ s.msp.unit = false)
      ∧ Holds mastering (fun s => s.power.porHeld = false ∧ s.msp.unit = true ∧ mbusy s = true)
      ∧ Holds { running .idle with msp := { selHeld := true } } (fun s => s.power.porHeld = false ∧ mbusy s = true)
      ∧ (0x81000000#32).getLsbD 31 = true ∧ ((0x81000000#32 >>> 24).setWidth 2).toNat = 1
      ∧ (0x80000000#32).getLsbD 31 = true ∧ ((0x80000000#32 >>> 24).setWidth 2).toNat = 0
      ∧ (0x01000000#32).getLsbD 31 = false := by
  and_intros
  all_goals first
    | exact holds (by decide +kernel)
    | exact by decide +kernel

theorem test_hyps_MailboxRegistersFollowTheirRules :
    Holds { running .idle with mbs := [(3, { reqHead := 4 })] }
        (fun s => inReset s = false ∧ windowServes s 3 = true ∧ windowServes s 0 = true ∧ windowServes s 1 = false
          ∧ occupancy 0x103 (mbOf s 3).reqTail = 259 ∧ occupancy 0x100 (mbOf s 3).reqTail = 256
          ∧ entryFree (mbOf s 3) 4 = true ∧ entryFree (mbOf s 3) 3 = false
          ∧ tabOk 0 (mbOf s 3).req = true
          ∧ (mbOf s 0).reqHead = (mbOf s 0).reqTail ∧ (mbOf s 0).rspHead = (mbOf s 0).rspTail)
      ∧ Holds { running .idle with mbs := [(0, { reqHead := 4, rspHead := 5, rspTail := 3 })] }
        (fun s => (mbOf s 0).reqHead ≠ (mbOf s 0).reqTail
          ∧ (5#9 - (mbOf s 0).rspTail).toNat = occupancy (mbOf s 0).rspHead (mbOf s 0).rspTail
          ∧ occupancy (mbOf s 0).rspHead (mbOf s 0).rspTail < (6#9 - (mbOf s 0).rspTail).toNat)
      ∧ (0x20000000#32).getLsbD 29 = true ∧ (0#32).getLsbD 29 = false := by
  and_intros
  all_goals first
    | exact holds (by decide +kernel)
    | exact by decide +kernel

/-- R79: a ring holds (HEAD − TAIL) mod 512 entries; the example has HEAD 0x003 and TAIL 0x1FE, which is 5. -/
theorem test_ring_occupancy : occupancy 0x003 0x1FE = 5 := by decide

/-- R80: a doorbell write past the ring's room keeps REQ_HEAD and sets DB_OVERRUN. -/
theorem test_doorbell_overrun :
    mbOf (nextOr State.reset (exec (.mbDoorbellWrite 3 0x103) { running .idle with mbs := [(3, { reqHead := 4 })] })) 3
      = { reqHead := 4, dbOverrun := true } := by decide +kernel

theorem test_hyps_RegisterAccessesFollowTheMap :
    Holds (running .idle) (fun s => s.power.porHeld = false ∧ s.msp.unit = false)
      ∧ (0x40#24).toNat % 4 = 0
      ∧ ¬ ((0x40#24).toNat ∈ [0x24, 0x28, 0x30, 0x60, 0x64, 0x68, 0x208, 0x20C]
        ∨ (0x100 ≤ (0x40#24).toNat ∧ (0x40#24).toNat < 0x120)
        ∨ (0x20000 ≤ (0x40#24).toNat ∧ (0x40#24).toNat < 0x40000 ∧ (0x40#24).toNat % 0x8000 < 0x4000)) := by
  and_intros
  all_goals first
    | exact holds (by decide +kernel)
    | exact by decide +kernel

theorem test_hyps_TapInstructionsLoad :
    Holds (running .idle) (fun s => ¬ (s.dev.mode = .diagnostic ∧ s.dev.testing = true) ∧ s.power.porHeld = false)
      ∧ Holds { running .diagnostic with
          power := { porHeld := false, bypassPend := true }
          dev := { mode := .diagnostic, testing := true, testMask := 1 } }
        (fun s => s.dev.mode = .diagnostic ∧ s.dev.testing = true ∧ s.power.bypassPend = true)
      ∧ Holds { running .diagnostic with dev := { mode := .diagnostic, testing := true, testMask := 1 } }
        (fun s => s.dev.mode = .diagnostic ∧ s.dev.testing = true)
      ∧ (0x20#24).toNat % 4 = 0 ∧ (3#2 ++ 0#62).getLsbD 63 = (3#2 ++ 0#62).getLsbD 62 := by
  and_intros
  all_goals first
    | exact holds (by decide +kernel)
    | exact by decide +kernel

/-- R393: the instruction codes of EXTEST and of BYPASS. -/
theorem test_tap_codes :
    (nextOr State.reset (exec .extest (running .idle))).jtag.ir = 0x00
      ∧ (nextOr State.reset (exec .bypass (running .idle))).jtag.ir = 0xFF := by decide +kernel

theorem test_hyps_ResponsesStandInTheRing :
    Holds (running .idle) (fun s => (mbOf s 0).owed = [] ∧ viaFabric s 0 = false ∧ s.dev.mode ≠ .service)
      ∧ cameByFabric (Msg.of [(2, 2, 8)]) = true ∧ cameByFabric (Msg.of [(2, 2, 0)]) = false
      ∧ Holds (running .service) (fun s => s.dev.mode = .service)
      ∧ silent (Msg.of [(2, 2, 0x30)]) (Msg.of [(9, 1, 0)]) = true ∧ silent (Msg.of [(2, 2, 0)]) (Msg.of [(9, 1, 0)]) = false
      ∧ silent (Msg.of [(2, 2, 0x30)]) (Msg.of [(9, 1, 0x10)]) = false := by
  and_intros
  all_goals first
    | exact holds (by decide +kernel)
    | exact by decide +kernel

/-! Hypotheses of the statements about requests. -/

theorem test_hyps_RequestsAreCheckedInOrder :
    Holds (running .idle) (fun s => ¬ (nextMailbox s = some 0 ∧ Msg.field (frontReq s 0) 0 2 = 1))
      ∧ Taken 3 0 (asking 0 3 [(17, 1, 9)] (running .idle)) (asked (asking 0 3 [(17, 1, 9)] (running .idle)) 0)
        (left (asking 0 3 [(17, 1, 9)] (running .idle)) 0)
      ∧ commandReserved (asked (asking 0 3 [(17, 1, 9)] (running .idle)) 0) = true
      ∧ firstFail (earlyChecks (left (asking 0 3 [(17, 1, 9)] (running .idle)) 0) 0 []
        (asked (asking 0 3 [(17, 1, 9)] (running .idle)) 0)) = none
      ∧ headReserved (asked (asking 0 3 [(17, 1, 9)] (running .idle)) 0) = false
      ∧ headReserved (asked (asking 0 3 [(2, 2, 128)] (running .idle)) 0) = true
      ∧ firstFail (earlyChecks (left (asking 0 3 [] (running .run)) 0) 0 [] (asked (asking 0 3 [] (running .run)) 0))
        = some (0x11, modeCode .run)
      ∧ firstFail (earlyChecks (left (asking 1 3 [] (running .idle)) 1) 1 [] (asked (asking 1 3 [] (running .idle)) 1))
        = some (0x10, 1)
      ∧ modesOf 0x0999 = none ∧ nextMailbox (asking 2 0x0999 [] (running .idle)) = some 2
      ∧ headReserved (asked (asking 2 0x0999 [] (running .idle)) 2) = false
      ∧ modesOf (Msg.field (frontReq (asking 0 3 [] (running .idle)) 0) 0 2) ≠ none := by
  and_intros
  all_goals first
    | exact holds (by decide +kernel)
    | exact by decide +kernel
    | exact rfl

theorem test_hyps_LoadedAcceptsSevenCommands :
    Taken 3 0 (asking 0 3 [] (running .loaded)) (asked (asking 0 3 [] (running .loaded)) 0)
        (left (asking 0 3 [] (running .loaded)) 0)
      ∧ headReserved (asked (asking 0 3 [] (running .loaded)) 0) = false
      ∧ commandReserved (asked (asking 0 3 [] (running .loaded)) 0) = false
      ∧ requestOf (.opcArm 0) = some (3, 0, []) ∧ (running .loaded).dev.mode = .loaded
      ∧ ¬ 3 ∈ [0x0001, 0x0002, 0x0007, 0x000C, 0x0103, 0x0104, 0x0201] ∧ modesOf 0x0999 = none := by
  and_intros
  all_goals first
    | exact by decide +kernel
    | exact rfl

/-- A TDC submission of one TDC, one interval. -/
def tdcFields : List (Nat × Nat × Nat) := [(24, 1, 2), (40, 1, 191), (41, 1, 1), (44, 4, 1)]

/-- ARMED with all but k of the ledger's slots taken. -/
def crowded (k : Nat) : State :=
  { running .armed with ledger := (List.range (2048 - k)).map fun i => (i, { st := .complete, kind := some .tdc }) }

theorem test_hyps_LedgerRoomDependsOnTheMailbox :
    Meets 0x0101 1 [] (asking 1 0x0101 tdcFields (crowded 63)) (fun u _ => freeSlots u = 63)
      ∧ Meets 0x0101 0 [] (asking 0 0x0101 tdcFields (crowded 1)) (fun u m => 0 < freeSlots u ∧ sineBlocks u m = false)
      ∧ Meets 0x0101 3 [] (asking 3 0x0101 tdcFields (crowded 64)) (fun u m => freeSlots u = 64 ∧ sineBlocks u m = false)
      ∧ submitFits (left (asking 1 0x0101 tdcFields (crowded 63)) 1) (asked (asking 1 0x0101 tdcFields (crowded 63)) 1) []
      ∧ submitFits (left (asking 0 0x0101 tdcFields (crowded 1)) 0) (asked (asking 0 0x0101 tdcFields (crowded 1)) 0) []
      ∧ submitFits (left (asking 3 0x0101 tdcFields (crowded 64)) 3) (asked (asking 3 0x0101 tdcFields (crowded 64)) 3) [] := by
  and_intros
  all_goals first
    | exact meets (by decide +kernel)
    | exact by decide +kernel

theorem test_hyps_SubmissionsTakeTheLowestFreeSlot :
    Meets 0x0101 0 [] (asking 0 0x0101 tdcFields { running .armed with ledger := [(0, { st := .complete, kind := some .tdc })] })
        (fun u m => firstFail (submitChecks u 0 m []) = none ∧ (readExt u [] m).getD [] = []
          ∧ kindOf (pKind m) = some .tdc ∧ lowestFree u = some 1)
      ∧ Meets 0x0101 0 [] (asking 0 0x0101 [(24, 1, 0), (40, 1, 15), (48, 8, 1)]
          { running .armed with
            cfg := { scheds := [(15, { st := .valid })] }
            dev := { mode := .armed, armedSched := some 15, siteEnable := 1, siteMap := [(0, 0x80)], armedMap := [(0, 0x80)] } })
        (fun u m => kindOf (pKind m) = some .burst ∧ (schedOf u (pSched m)).st ≠ .bad ∧ bytesAt ((readExt u [] m).getD []) 60 4 = 0
          ∧ lowestFree u = some 0)
      ∧ Meets 0x0101 0 [] (asking 0 0x0101 [(24, 1, 1), (40, 1, 15), (44, 8, 1)]
          { running .armed with
            dev := { mode := .armed, armedSched := some 15, siteEnable := 1, siteMap := [(0, 0x80)], armedMap := [(0, 0x80)] } })
        (fun u m => firstFail (submitChecks u 0 m ((readExt u [] m).getD [])) = none ∧ kindOf (pKind m) = some .measure
          ∧ storeBad u m = false ∧ bytesAt ((readExt u [] m).getD []) 60 4 = 0 ∧ lowestFree u = some 0) := by
  and_intros
  all_goals exact meets (by decide +kernel)

theorem test_hyps_QueriesAnswerWithTheirRecords :
    Meets 0x0001 0 [] (asking 0 0x0001 [] (running .idle)) (fun _ _ => true)
      ∧ Meets 0x000C 2 [] (asking 2 0x000C [] (running .safe)) (fun _ _ => true)
      ∧ Meets 0x0201 1 [] (asking 1 0x0201 [] (running .loaded)) (fun _ _ => true)
      ∧ Meets 0x0503 0 [] (asking 0 0x0503 [(16, 1, 16)] (running .idle)) (fun _ m => 15 < Msg.field m 16 1)
      ∧ Meets 0x0503 0 [] (asking 0 0x0503 [(16, 1, 15)] (running .idle)) (fun _ m => Msg.field m 16 1 ≤ 15)
      ∧ Meets 0x0506 0 [] (asking 0 0x0506 [(16, 1, 12)] (running .idle)) (fun _ m => 11 < Msg.field m 16 1)
      ∧ Meets 0x0506 0 [] (asking 0 0x0506 [(16, 1, 11), (17, 1, 4)] (running .idle))
        (fun _ m => Msg.field m 16 1 ≤ 11 ∧ 3 < Msg.field m 17 1)
      ∧ Meets 0x0506 0 [] (asking 0 0x0506 [(16, 1, 11), (17, 1, 3)] (running .idle))
        (fun _ m => Msg.field m 16 1 ≤ 11 ∧ Msg.field m 17 1 ≤ 3)
      ∧ Meets 0x0603 0 [] (asking 0 0x0603 [(16, 2, 12)] (running .idle)) (fun _ m => unitKnown (Msg.field m 16 2) = false)
      ∧ Meets 0x0603 0 [] (asking 0 0x0603 [(16, 2, 11)] (running .idle)) (fun _ m => unitKnown (Msg.field m 16 2) = true)
      ∧ Meets 0x0701 0 [] (asking 0 0x0701 [] (running .idle)) (fun _ _ => true)
      ∧ Meets 0x0103 0 [] (asking 0 0x0103 [(16, 2, 2047)] (running .idle)) (fun _ m => extLen m = 0)
      ∧ Meets 0x0103 0 [] (asking 0 0x0103 [(12, 4, 64), (24, 2, 2047), (26, 2, 1)] (running .idle))
        (fun _ m => extLen m ≠ 0 ∧ 1 ≤ Msg.field m 26 2 ∧ Msg.field m 24 2 + Msg.field m 26 2 = 2048)
      ∧ Meets 0x0103 0 [] (asking 0 0x0103 [(12, 4, 64), (24, 2, 2048), (26, 2, 1)] (running .idle))
        (fun _ m => extLen m ≠ 0 ∧ 2047 < Msg.field m 24 2)
      ∧ Meets 0x0103 0 [] (asking 0 0x0103 [(12, 4, 128), (24, 2, 2047), (26, 2, 2)] (running .idle))
        (fun _ m => extLen m ≠ 0 ∧ Msg.field m 24 2 ≤ 2047 ∧ 2048 < Msg.field m 24 2 + Msg.field m 26 2)
      ∧ Meets 0x0801 0 [] (asking 0 0x0801 [(12, 4, 0)] (running .idle)) (fun _ m => Msg.field m 26 2 = 0)
      ∧ Meets 0x0801 0 [] (asking 0 0x0801 [(12, 4, 32 * 513), (26, 2, 513)] (running .idle)) (fun _ m => 512 < Msg.field m 26 2)
      ∧ Meets 0x0801 0 [] (asking 0 0x0801 [(12, 4, 32 * 512), (26, 2, 512)] (running .idle))
        (fun _ m => 1 ≤ Msg.field m 26 2 ∧ Msg.field m 26 2 ≤ 512) := by
  and_intros
  all_goals exact meets (by decide +kernel)

/-- Local memory with one byte that is not zero. -/
def memByte (a : Nat) (b : Byte) (s : State) : State := { s with mem := { s.mem with bytes := [⟨a, b⟩] } }

theorem test_hyps_ConfigurationRequestsSetTheirRegisters :
    Meets 0x000D 0 [] (asking 0 0x000D [(16, 4, 31)] (running .idle)) (fun _ _ => true)
      ∧ Meets 0x0301 0 [] (asking 0 0x0301 [(12, 4, 768)] (memByte 767 0x40 (running .idle)))
        (fun u m => ((readExt u [] m).getD []).any (fun b => b.getLsbD 6) = true)
      ∧ Meets 0x0301 0 [] (asking 0 0x0301 [(12, 4, 768)] (memByte 767 0x80 (running .idle)))
        (fun u m => ((readExt u [] m).getD []).any (fun b => b.getLsbD 6) = false)
      ∧ Meets 0x0302 0 [] (asking 0 0x0302 [(16, 1, 3), (17, 1, 3), (18, 2, 4095), (20, 1, 3), (24, 4, 1000000)] (running .armed))
        (fun _ m => Msg.field m 16 1 ≤ 3 ∧ Msg.field m 17 1 ≤ 3 ∧ Msg.field m 18 2 ≤ 4095 ∧ Msg.field m 20 1 ≤ 3
          ∧ 1 ≤ Msg.field m 24 4 ∧ Msg.field m 24 4 ≤ 1000000)
      ∧ Meets 0x0304 0 [] (asking 0 0x0304 [(16, 1, 191), (17, 1, 0x0B), (18, 1, 0x0E), (20, 1, 8)] (running .run))
        (fun u m => Msg.field m 16 1 ≤ 191 ∧ Msg.field m 20 1 ≤ 8 ∧ tdcInputOk (Msg.field m 16 1) (Msg.field m 17 1) = true
          ∧ tdcInputOk (Msg.field m 16 1) (Msg.field m 18 1) = true ∧ (claimed u [claimOf 5 (Msg.field m 16 1)] [unitTdc]).1 = false)
      ∧ Meets 0x0305 0 [] (asking 0 0x0305 [(16, 8, 3 * 2 ^ 46), (24, 1, 0), (25, 1, 46), (28, 4, 1000000)] (running .idle))
        (fun u m => Msg.field m 16 8 < 2 ^ 48 ∧ gangBad (dpsList (Msg.field m 16 8)) (askedLeader m) = false
          ∧ Msg.field m 24 1 ≤ 5 ∧ askedLeader m = some 46 ∧ dpsList (Msg.field m 16 8) = [46, 47]
          ∧ dpsFullScale (Msg.field m 24 1) ≤ 100 * Msg.field m 28 4 ∧ Msg.field m 28 4 ≤ dpsFullScale (Msg.field m 24 1)
          ∧ (claimed u [claimOf 4 46, claimOf 4 47] [unitDps 3, unitDps 3]).1 = false ∧ gangBusy u [46, 47] (askedLeader m) = false)
      ∧ Meets 0x0307 0 [] (asking 0 0x0307 [(16, 1, 3), (17, 1, 3), (18, 1, 1), (20, 4, 0x804)] (running .idle))
        (fun u m => Msg.field m 16 1 ≤ 3 ∧ Msg.field m 17 1 ≤ 3 ∧ rateLow u (Msg.field m 17 1) = false ∧ Msg.field m 18 1 ≤ 1
          ∧ (claimed u ((List.range 28).map fun k => claimOf 10 (28 * Msg.field m 16 1 + k)) [unitLg (Msg.field m 16 1)]).1 = false)
      ∧ Meets 0x0308 0 [] (asking 0 0x0308 [(16, 2, 4), (18, 2, 2160), (20, 1, 1)] (running .idle))
        (fun _ m => 4 ≤ Msg.field m 16 2 ∧ Msg.field m 16 2 ≤ 160 ∧ 1600 ≤ Msg.field m 18 2 ∧ Msg.field m 18 2 ≤ 2160) := by
  and_intros
  all_goals exact meets (by decide +kernel)

theorem test_hyps_MonitorsAndSinesTakeTheirConfiguration :
    Meets 0x0303 0 [] (asking 0 0x0303 [(12, 4, 8)] (memByte 1 3 (running .idle)))
        (fun u m => (entries8 ((readExt u [] m).getD [])).any (fun e => 768 ≤ e % 65536) = true)
      ∧ Meets 0x0303 0 [] (asking 0 0x0303 [(12, 4, 8)] (memByte 0 5 (running .idle)))
        (fun u m => (entries8 ((readExt u [] m).getD [])).any (fun e => 768 ≤ e % 65536) = false
          ∧ (claimed u [] ((entries8 ((readExt u [] m).getD [])).map fun e => e % 65536 / 64)).1 = false)
      ∧ Meets 0x0303 0 [] (asking 0 0x0303 [(12, 4, 8)] { memByte 0 5 (running .idle) with
          ledger := [(5, { st := .inFlight, kind := some .cal, msg := Msg.of [(42, 2, 1)] })] })
        (fun u m => (entries8 ((readExt u [] m).getD [])).any (fun e => 768 ≤ e % 65536) = false
          ∧ (claimed u [] ((entries8 ((readExt u [] m).getD [])).map fun e => e % 65536 / 64)).1 = true)
      ∧ Meets 0x0306 0 [] (asking 0 0x0306 [(18, 2, 767), (32, 1, 1)] (running .idle))
        (fun u m => Msg.field m 16 1 = 0 ∧ Msg.field m 18 2 < 768 ∧ (claimed u [claimOf 3 (Msg.field m 18 2)] [Msg.field m 18 2 / 64]).1 = false)
      ∧ Meets 0x0306 0 [] (asking 0 0x0306 [(16, 1, 1), (18, 2, 47), (24, 4, 1500000), (28, 4, 1500000), (32, 1, 1)] (running .idle))
        (fun u m => Msg.field m 16 1 = 1 ∧ Msg.field m 18 2 < 48 ∧ gangLeader u 47 = 47 ∧ sineOut m = false
          ∧ (claimed u [claimOf 4 (Msg.field m 18 2)] [unitDps (Msg.field m 18 2 / 12)]).1 = false)
      ∧ Meets 0x0306 0 [] (asking 0 0x0306 [(16, 1, 1), (18, 2, 47), (24, 4, 1500000), (28, 4, 1500001), (32, 1, 1)] (running .idle))
        (fun u m => Msg.field m 16 1 = 1 ∧ gangLeader u 47 = 47 ∧ sineOut m = true
          ∧ (claimed u [claimOf 4 (Msg.field m 18 2)] [unitDps (Msg.field m 18 2 / 12)]).1 = false) := by
  and_intros
  all_goals exact meets (by decide +kernel)

/-- Local memory whose first bytes are an entry of Table 6.13: target, DAC and value. -/
def entryMem (t d : Nat) (v : Nat) (s : State) : State :=
  { s with mem := { s.mem with bytes :=
      ((le 2 t ++ le 2 d ++ le 4 v).zipIdx.map fun e => (⟨e.2, e.1⟩ : Host.Cell)).filter fun c => c.2 ≠ 0 } }

theorem test_hyps_LevelRequestsWriteShadowsAndClearCodes :
    Meets 0x0401 0 [] (asking 0 0x0401 [(12, 4, 8)] (entryMem 767 5 0 (running .idle)))
        (fun u m => (levelEntries u [] m).any (fun e => ! entOk u false e) = true)
      ∧ Meets 0x0401 0 [] (asking 0 0x0401 [(12, 4, 8)] (entryMem 767 0x104 0 (running .idle)))
        (fun u m => (levelEntries u [] m).any (fun e => ! entOk u false e) = false
          ∧ (levelEntries u [] m).any entReserved = true)
      ∧ Meets 0x0401 0 [] (asking 0 0x0401 [(12, 4, 8)] (entryMem 0x102F 7 3000001 (running .idle)))
        (fun u m => (levelEntries u [] m).any (fun e => ! entOk u false e) = false
          ∧ (levelEntries u [] m).any entReserved = false ∧ (levelEntries u [] m).any entMisuse = true)
      ∧ Meets 0x0401 0 [] (asking 0 0x0401 [(12, 4, 8)] (entryMem 0x102F 7 3000000 (running .run)))
        (fun u m => (levelEntries u [] m).any (fun e => ! entOk u false e) = false
          ∧ (levelEntries u [] m).any entReserved = false ∧ (levelEntries u [] m).any entMisuse = false)
      ∧ Meets 0x0403 0 [] (asking 0 0x0403 [(12, 4, 8)] (entryMem 767 9 1250000 (running .idle)))
        (fun u m => (levelEntries u [] m).any (fun e => ! entOk u true e) = false
          ∧ (levelEntries u [] m).any entReserved = false ∧ (levelEntries u [] m).any entMisuse = false)
      ∧ Meets 0x0402 0 [] (asking 0 0x0402 [(16, 1, 7), (18, 2, 4095), (24, 8, 2 ^ 48 - 1)] (running .armed))
        (fun u m => Msg.field m 16 1 ≤ 7 ∧ Msg.field m 18 2 ≤ 4095 ∧ Msg.field m 24 8 < 2 ^ 48 ∧ u.ledger = []) := by
  and_intros
  all_goals exact meets (by decide +kernel)

/-- R189: VIH 1.2 V with offset error −1.1 mV and gain error +200 ppm is DAC code 31755. -/
theorem test_dac_code : codeFor { e := -1100000, g := 200000 } 1200000 = 31755 := by decide +kernel

/-- R189, R192: the level goes to the shadow (1.2 V uncorrected is 0x7C00) and leaves the active code. -/
theorem test_levels_set_writes_shadow :
    let d := dacOf (nextOr State.reset (exec (.opcLevelsSet 0 [])
      (asking 0 0x0401 [(12, 4, 8)] (entryMem 5 0 1200000 (running .idle))))) 80
    (d.shadow, d.active) = (0x7C00#16, 0x4000#16) := by decide +kernel

/-! Requests with long extensions. -/

theorem mapM_isSome {α β : Type} (f : α → Option β) (l : List α) (h : ∀ x ∈ l, (f x).isSome = true) :
    (l.mapM f).isSome = true := by
  induction l with
  | nil => rfl
  | cons a l ih =>
    obtain ⟨b, hb⟩ := Option.isSome_iff_exists.mp (h a (by simp))
    obtain ⟨bs, hbs⟩ := Option.isSome_iff_exists.mp (ih fun x hx => h x (by simp [hx]))
    simp [List.mapM_cons, hb, hbs]

/-- The homes of the first four pages. -/
def fourPages : Tab Nat := [(0, 1), (1, 65537), (2, 131073), (3, 196609)]

theorem ext_readable {u : State} {m : Msg} (h : extAddr m = 0 ∧ extLen m ≤ 262144 ∧ memReady u = true ∧ u.levee.poison = []
    ∧ u.cfg.homes = fourPages) : (readExt u [] m).isNone = false := by
  obtain ⟨h1, h2, h3, h4, h5⟩ := h
  unfold readExt
  split
  · rfl
  · rw [h1, ← Option.not_isSome, Bool.not_eq_false']
    refine mapM_isSome _ _ fun i hi => ?_
    have hi : i < 262144 := Nat.lt_of_lt_of_le (List.mem_range.mp hi) h2
    have hq : i / 65536 = 0 ∨ i / 65536 = 1 ∨ i / 65536 = 2 ∨ i / 65536 = 3 := by omega
    rcases hq with hq | hq | hq | hq <;> simp [readByte, localOf, h5, h3, h4, hq, fourPages, tget]

theorem early_none {u : State} {n : Nat} {rem : Remote} {m : Msg}
    (h : (decide (Msg.field m 8 1 ≤ 48 ∧ extLen m ≤ 16777216 ∧ extAddr m % 64 = 0) && extFits m && ! extOut m
      && decide (firstFail (earlyChecks u n rem m).tail = none)) = true) (hr : (readExt u rem m).isNone = false) :
    firstFail (earlyChecks u n rem m) = none := by
  simp only [Bool.and_eq_true, Bool.not_eq_true', decide_eq_true_eq] at h
  obtain ⟨⟨⟨⟨h1, h2, h3⟩, h4⟩, h5⟩, h6⟩ := h
  have hl : lengthFails u rem m = false := by
    simp [lengthFails, hr, h3, h4, h5, Nat.not_lt.mpr h1, Nat.not_lt.mpr h2]
  unfold firstFail earlyChecks at *
  simp only [hl, List.find?, List.tail_cons] at *
  exact h6

theorem meetsBig {op n : Nat} {s : State} {P : State → Msg → Bool}
    (h : (decide (nextMailbox s = some n) && decide (Msg.field (frontReq s n) 0 2 = op) && ! headReserved (asked s n)
      && ! commandReserved (asked s n) && tabsOk s && P (left s n) (asked s n)) = true)
    (he : (decide (Msg.field (asked s n) 8 1 ≤ 48 ∧ extLen (asked s n) ≤ 16777216 ∧ extAddr (asked s n) % 64 = 0)
      && extFits (asked s n) && ! extOut (asked s n)
      && decide (firstFail (earlyChecks (left s n) n [] (asked s n)).tail = none)) = true)
    (hx : extAddr (asked s n) = 0 ∧ extLen (asked s n) ≤ 262144 ∧ memReady (left s n) = true
      ∧ (left s n).levee.poison = [] ∧ (left s n).cfg.homes = fourPages) : Meets op n [] s P := by
  simp only [Bool.and_eq_true, Bool.not_eq_true', decide_eq_true_eq] at h
  exact { asks := ⟨⟨h.1.1.1.1.1, by simp only [h], rfl⟩, by simp only [h], by simp only [h], early_none he (ext_readable hx)⟩
          tabs := tabsWf_of_ok (by simp only [h]), also := h.2 }

/-- A request to write PEB p's timing table, with DIRECT or not. -/
def timingAsk (p direct : Nat) (m : Mode) : State :=
  asking 0 0x0404 [(12, 4, 200768), (24, 1, p), (25, 1, direct)] { running m with cfg := { homes := fourPages } }
def pinmodeAsk (p direct : Nat) (m : Mode) : State :=
  asking 0 0x0405 [(12, 4, 576), (24, 1, p), (25, 1, direct)] (running m)

/-- Memory that lists nothing reads as zero. -/
theorem ext_zeros {u : State} {m : Msg} (h : extAddr m = 0 ∧ extLen m ≤ 262144 ∧ memReady u = true ∧ u.levee.poison = []
    ∧ u.cfg.homes = fourPages) (hm : u.mem.bytes = []) : ∀ b ∈ (readExt u [] m).getD [], b = 0 := by
  obtain ⟨h1, h2, h3, h4, h5⟩ := h
  unfold readExt
  split
  · simp
  · have key : ∀ l : List Nat, (∀ i ∈ l, i < 262144) →
        ∃ bs, l.mapM (fun i => readByte u [] (extAddr m + i)) = some bs ∧ ∀ b ∈ bs, b = 0 := by
      intro l
      induction l with
      | nil => exact fun _ => ⟨[], rfl, by simp⟩
      | cons i l ih =>
        intro hi
        obtain ⟨bs, e, z⟩ := ih fun x hx => hi x (List.mem_cons_of_mem _ hx)
        have hi := hi i List.mem_cons_self
        have hq : i / 65536 = 0 ∨ i / 65536 = 1 ∨ i / 65536 = 2 ∨ i / 65536 = 3 := by omega
        have hb : readByte u [] (extAddr m + i) = some 0 := by
          rw [h1]
          rcases hq with hq | hq | hq | hq <;> simp [readByte, localOf, localByte, h5, h3, h4, hq, fourPages, tget, hm]
        exact ⟨0 :: bs, by simp [List.mapM_cons, hb, e], by simpa using z⟩
    obtain ⟨bs, e, z⟩ := key (List.range (extLen m)) fun i hi => Nat.lt_of_lt_of_le (List.mem_range.mp hi) h2
    unfold readBytes
    rw [e]
    exact z

/-- A table of zeros has no reserved field set. -/
theorem timing_zeros {bs : List Byte} (h : ∀ b ∈ bs, b = 0) : timingReserved bs = false := by
  have hz : ∀ a n, allZero ((bs.drop a).take n) = true := fun a n =>
    List.all_eq_true.mpr fun b hb => by simpa using h b (List.mem_of_mem_drop (List.mem_of_mem_take hb))
  have hu : ∀ l : List Byte, (∀ b ∈ l, b = 0) → unle l = 0 := by
    intro l
    induction l with
    | nil => exact fun _ => rfl
    | cons b l ih => intro k; simp [unle, k b List.mem_cons_self, ih fun x hx => k x (List.mem_cons_of_mem _ hx)]
  have hn : ∀ o n, bytesAt bs o n = 0 := fun o n =>
    hu _ fun b hb => h b (List.mem_of_mem_drop (List.mem_of_mem_take hb))
  unfold timingReserved
  simp [hz, hn, bitsOf]

/-- A request whose timing table has a reserved byte set. -/
def badTiming : State := memByte 2 1 (timingAsk 11 0 .idle)

theorem mapM_get {α β : Type} {f : α → Option β} {l : List α} {bs : List β} (h : l.mapM f = some bs) (i : Nat) :
    bs[i]? = l[i]?.bind f := by
  induction l generalizing bs i with
  | nil => cases h; rfl
  | cons a l ih =>
    rw [List.mapM_cons] at h
    cases hf : f a with
    | none => simp [hf] at h
    | some b =>
      cases hl : l.mapM f with
      | none => simp [hf, hl] at h
      | some cs =>
        have : b :: cs = bs := by simpa [hf, hl] using h
        subst this
        cases i with
        | zero => simp [hf]
        | succ i => simpa using ih hl i

theorem timing_bad : timingReserved ((readExt (left badTiming 0) [] (asked badTiming 0)).getD []) = true := by
  have hs := ext_readable (u := left badTiming 0) (m := asked badTiming 0) (by decide +kernel)
  obtain ⟨bs, e⟩ : ∃ bs, readExt (left badTiming 0) [] (asked badTiming 0) = some bs := by
    cases h : readExt (left badTiming 0) [] (asked badTiming 0) with
    | none => rw [h] at hs; cases hs
    | some bs => exact ⟨bs, rfl⟩
  rw [e, Option.getD_some]
  have h2 : bs[2]? = some 1 := by
    have hl : extLen (asked badTiming 0) = 200768 := by decide +kernel
    unfold readExt readBytes at e
    rw [hl, if_neg (by decide)] at e
    rw [mapM_get e 2, List.getElem?_range (by decide)]
    decide +kernel
  have hz : allZero ((bs.drop 2).take 62) = false := by
    have hm : (1 : Byte) ∈ (bs.drop 2).take 62 :=
      List.mem_iff_getElem?.mpr ⟨0, by rw [List.getElem?_take_of_lt (by decide), List.getElem?_drop]; exact h2⟩
    unfold allZero
    exact List.all_eq_false.mpr ⟨1, hm, by decide⟩
  unfold timingReserved
  rw [hz]
  rfl

theorem test_hyps_TablesAreWrittenAndCommitted :
    Meets 0x0404 0 [] (timingAsk 12 0 .idle) (fun _ m => 11 < Msg.field m 24 1)
      ∧ Meets 0x0404 0 [] (timingAsk 11 1 .run) (fun u m => Msg.field m 24 1 ≤ 11 ∧ tableDirect m = true ∧ u.dev.mode = .run)
      ∧ Meets 0x0404 0 [] (timingAsk 11 0 .pause) (fun _ m => Msg.field m 24 1 ≤ 11 ∧ tableDirect m = false)
      ∧ timingReserved ((readExt (left (timingAsk 11 0 .pause) 0) [] (asked (timingAsk 11 0 .pause) 0)).getD []) = false
      ∧ Meets 0x0404 0 [] (timingAsk 0 1 .armed) (fun u m => tableDirect m = true ∧ ¬ (u.dev.mode = .run ∨ u.dev.mode = .pause))
      ∧ timingReserved ((readExt (left (timingAsk 0 1 .armed) 0) [] (asked (timingAsk 0 1 .armed) 0)).getD []) = false
      ∧ Meets 0x0404 0 [] badTiming (fun _ m => Msg.field m 24 1 ≤ 11 ∧ tableDirect m = false)
      ∧ timingReserved ((readExt (left badTiming 0) [] (asked badTiming 0)).getD []) = true
      ∧ Meets 0x0405 0 [] (pinmodeAsk 12 0 .idle) (fun _ m => 11 < Msg.field m 24 1)
      ∧ Meets 0x0405 0 [] (pinmodeAsk 11 1 .pause) (fun u m => Msg.field m 24 1 ≤ 11 ∧ tableDirect m = true ∧ u.dev.mode = .pause)
      ∧ Meets 0x0405 0 [] (pinmodeAsk 11 0 .run) (fun u m => Msg.field m 24 1 ≤ 11 ∧ tableDirect m = false
          ∧ pinmodeReserved ((readExt u [] m).getD []) = false)
      ∧ Meets 0x0405 0 [] (memByte 63 1 (pinmodeAsk 11 0 .run)) (fun u m => Msg.field m 24 1 ≤ 11 ∧ tableDirect m = false
          ∧ pinmodeReserved ((readExt u [] m).getD []) = true)
      ∧ Meets 0x0407 0 [] (asking 0 0x0407 [(16, 1, 11)] { running .idle with pebs := [(11, { rest := .background })] })
        (fun u m => Msg.field m 16 1 ≤ 11 ∧ (pebOf u 11).rest = .background)
      ∧ Meets 0x0407 0 [] (asking 0 0x0407 [(16, 1, 0)] { running .idle with pebs := [(0, { rest := .driversOff })] })
        (fun u _ => ¬ ((pebOf u 0).rest = .armed ∨ (pebOf u 0).rest = .background))
      ∧ Meets 0x0406 0 [] (asking 0 0x0406 [(16, 2, 4095)] { running .run with
          ledger := [(4, { st := .inFlight, kind := some .burst })], bursts := [(4, { phase := .playing, pebs := 2 })] })
        (fun u m => Msg.field m 16 2 ≤ 4095 ∧ burstOn u 0 = none ∧ burstOn u 1 = some 4) := by
  and_intros
  all_goals first
    | exact meetsBig (by decide +kernel) (by decide +kernel) (by decide +kernel)
    | exact timing_zeros (ext_zeros (by decide +kernel) rfl)
    | exact timing_bad
    | exact meets (by decide +kernel)

theorem test_hyps_ClockRequestsLockStepAndSync :
    Meets 0x0202 0 [] (asking 0 0x0202 [(16, 4, 80 * 2 ^ 20)] (running .idle))
        (fun u m => mLegal (Msg.field m 16 4) = true ∧ domOn u 1 = true ∧ lockedAt u (Msg.field m 16 4) = true)
      ∧ Meets 0x0202 0 [] (asking 0 0x0202 [(16, 4, 50 * 2 ^ 20)]
          { running .pause with ledger := [(9, { st := .held, kind := some .burst })] })
        (fun u m => mLegal (Msg.field m 16 4) = true ∧ lockedAt u (Msg.field m 16 4) = false ∧ busyItem u blocksRelock = some 9)
      ∧ Meets 0x0202 0 [] (asking 0 0x0202 [(16, 4, 50 * 2 ^ 20)] (running .armed))
        (fun u m => mLegal (Msg.field m 16 4) = true ∧ lockedAt u (Msg.field m 16 4) = false ∧ busyItem u blocksRelock = none)
      ∧ Meets 0x0203 0 [] (asking 0 0x0203 [(16, 4, 80 * 2 ^ 20 - 167772), (20, 2, 10)] (running .run))
        (fun u m => withinStep u.clock.mLock.toNat (Msg.field m 16 4) = true ∧ u.clock.locked = true ∧ Msg.field m 20 2 ≤ 10)
      ∧ Meets 0x0203 0 [] (asking 0 0x0203 [(16, 4, 80 * 2 ^ 20 - 167773), (20, 2, 1)] (running .run))
        (fun u m => mLegal (Msg.field m 16 4) = true ∧ withinStep u.clock.mLock.toNat (Msg.field m 16 4) = false
          ∧ 1 ≤ Msg.field m 20 2 ∧ u.dev.mode = .run)
      ∧ Meets 0x0203 0 [] (asking 0 0x0203 [(16, 4, 80 * 2 ^ 20 - 167773), (20, 2, 1)] (running .idle))
        (fun u m => withinStep u.clock.mLock.toNat (Msg.field m 16 4) = false ∧ u.dev.mode ≠ .run
          ∧ busyItem u blocksRelock = none)
      ∧ Meets 0x0204 0 [] (asking 0 0x0204 [(16, 1, 2), (17, 1, 3), (20, 4, 1000000)] (running .idle))
        (fun u m => Msg.field m 16 1 ≤ 3 ∧ Msg.field m 17 1 ≤ 3 ∧ 1000 ≤ Msg.field m 20 4 ∧ Msg.field m 20 4 ≤ 1000000
          ∧ busyItem u (fun l => openSlot l && pStartAt l.msg) = none)
      ∧ Meets 0x0206 0 [] (asking 0 0x0206 [(16, 4, 5)] (running .idle)) (fun _ _ => true)
      ∧ Meets 0x0205 0 [] (asking 0 0x0205 [(12, 4, 64), (24, 1, 15), (26, 2, 4096)] (running .idle))
        (fun u m => Msg.field m 24 1 ≤ 15 ∧ 1 ≤ Msg.field m 26 2 ∧ Msg.field m 26 2 ≤ 4096 ∧ u.fabric.measN = 0
          ∧ ((List.range 4).all fun p => ! portUp (portOf u p)) = true)
      ∧ Meets 0x0205 0 [] (asking 0 0x0205 [(12, 4, 64), (24, 1, 15), (26, 2, 1)]
          { running .idle with fabric := { ports := [(3, { st := .up, lanes := 15 })] } })
        (fun u m => bitOf (Msg.field m 24 1) 3 = true ∧ portUp (portOf u 3) = true ∧ u.fabric.measN = 0)
      ∧ Meets 0x0205 0 [] (asking 0 0x0205 [(12, 4, 64), (24, 1, 15), (26, 2, 1)]
          { running .idle with fabric := { measN := 2 } })
        (fun u m => Msg.field m 24 1 ≤ 15 ∧ 1 ≤ Msg.field m 26 2 ∧ u.fabric.measN ≠ 0)
      ∧ Meets 0x0207 0 [] (asking 0 0x0207 [(16, 8, 5)] (running .idle)) (fun u _ => pulseNear u = false)
      ∧ Meets 0x0207 0 [] (asking 0 0x0207 [(16, 8, 5)] { running .idle with
          hw := { running := true, status := .synced, syncMode := 1, count := 511999999 } })
        (fun u _ => pulseNear u = true) := by
  and_intros
  all_goals exact meets (by decide +kernel)

theorem test_hyps_ModeRequestsChangeTheMode :
    Meets 0x0002 0 [] (asking 0 0x0002 [(16, 4, 80 * 2 ^ 20), (20, 4, 0)] (running .loaded))
        (fun u m => mLegal (Msg.field m 16 4) = true ∧ domFault u (BitVec.ofNat 32 (Msg.field m 20 4)) 0 = none)
      ∧ Meets 0x0003 0 [] (asking 0 0x0003 [(16, 1, 15), (24, 8, 2 ^ 63)] { running .idle with
          cfg := { scheds := [(15, { st := .valid })] }
          dev := { mode := .idle, siteMap := [(767, 0xBF)] }
          units := [(11, { st := .active })]
          pebs := [(11, { group := some 0 })] })
        (fun u m => u.dev.mode = .idle ∧ Msg.field m 16 1 ≤ 15 ∧ (schedOf u (Msg.field m 16 1)).st ≠ .empty
          ∧ (schedOf u (Msg.field m 16 1)).st ≠ .bad
          ∧ ((List.range 64).all fun i => ! bitOf (Msg.field m 24 8) i || bitOf (sitesUsed u.dev.siteMap) i) = true
          ∧ ((mappedIn u.dev.siteMap).all fun c => (pebOf u (c / 64)).group ≠ none) = true ∧ 767 ∈ mappedIn u.dev.siteMap
          ∧ unitState u 11 = .active)
      ∧ Meets 0x0004 0 [] (asking 0 0x0004 [] (running .armed))
        (fun u _ => busyItem u (fun l => openSlot l && l.kind ≠ some .cal && l.kind ≠ some .transfer) = none
          ∧ u.dev.disarming = false ∧ u.dev.mode = .armed ∧ (dpsOf u 47).enabled = false ∧ u.dps = []
          ∧ u.power.bypassPend = false)
      ∧ Meets 0x0004 0 [] (asking 0 0x0004 [] { running .armed with dps := [(47, { enabled := true })] })
        (fun u _ => u.dev.disarming = false ∧ (dpsOf u 47).enabled = true)
      ∧ Meets 0x0004 0 [] (asking 0 0x0004 [] { running .armed with dev := { mode := .armed, disarming := true } })
        (fun u _ => busyItem u (fun l => openSlot l && l.kind ≠ some .cal && l.kind ≠ some .transfer) = none
          ∧ u.dev.disarming = true)
      ∧ Meets 0x0004 0 [] (asking 0 0x0004 [] { running .armed with ledger := [(9, { st := .queued, kind := some .tdc })] })
        (fun u _ => busyItem u (fun l => openSlot l && l.kind ≠ some .cal && l.kind ≠ some .transfer) = some 9)
      ∧ Meets 0x0005 0 [] (asking 0 0x0005 [] { running .run with
          ledger := [(9, { st := .inFlight, kind := some .dps })] }) (fun u _ => u.dev.mode = .run ∧ (slotOf u 9).st = .inFlight
            ∧ (slotOf u 9).kind = some .dps)
      ∧ Meets 0x0006 0 [] (asking 0 0x0006 [] { running .pause with
          ledger := [(9, { st := .held, kind := some .dps })] }) (fun u _ => u.dev.mode = .pause ∧ u.dev.pauseReq = false
            ∧ (slotOf u 9).st = .held)
      ∧ Meets 0x0009 0 [] (asking 0 0x0009 [(16, 4, 1)] (running .idle)) (fun u _ => u.dev.mode = .idle)
      ∧ Meets 0x000A 0 [] (asking 0 0x000A [] (running .diagnostic)) (fun u _ => ballCodeLoaded u = false)
      ∧ Meets 0x000A 0 [] (asking 0 0x000A [] { running .diagnostic with jtag := { ir := 3 } }) (fun u _ => ballCodeLoaded u = true)
      ∧ Meets 0x0007 0 [] (asking 0 0x0007 [] (running .loaded)) (fun u _ => u.dev.mode = .loaded ∧ u.power.fordClosed = false)
      ∧ Meets 0x0007 0 [] (asking 0 0x0007 [] (running .idle)) (fun u _ => u.dev.mode = .idle)
      ∧ Meets 0x0008 0 [] (asking 0 0x0008 [] (running .bypass)) (fun u _ => u.power.fordPinLow = false)
      ∧ Meets 0x0008 0 [] (asking 0 0x0008 [] { running .bypass with power := { porHeld := false, pdOn := BitVec.allOnes 32, fordPinLow := true } })
        (fun u _ => u.power.fordPinLow = true)
      ∧ Holds { running .idle with power := { porHeld := false, fordDrain := true } }
        (fun s => s.power.fordDrain = true ∧ ((List.range 4).all fun p => (portOf s p).waiting = [] ∧ (portOf s p).ingress = []
          ∧ (portOf s p).replay = []) = true)
      ∧ Holds { running .idle with
          power := { porHeld := false, fordDrain := true }
          fabric := { ports := [(3, { st := .up, waiting := [(8, packet 1 5)] })] } }
        (fun s => s.power.fordDrain = true ∧ (portOf s 3).waiting ≠ [])
      ∧ Holds (running .idle) (fun s => s.power.fordDrain = false) := by
  and_intros
  all_goals first
    | exact meets (by decide +kernel)
    | exact holds (by decide +kernel)

/-- A device with unit x in a state, held by the host's action 0. -/
def holding (x : Nat) (st : UState) (h : Holder) : State := { running .idle with units := [(x, { st := st, holder := h })] }

theorem test_hyps_DomainAndUnitRequests :
    Meets 0x000B 0 [] (asking 0 0x000B [(16, 4, 16), (20, 4, 16)] (running .idle))
        (fun _ m => BitVec.ofNat 32 (Msg.field m 16 4) &&& BitVec.ofNat 32 (Msg.field m 20 4) ≠ 0)
      ∧ Meets 0x000B 0 [] (asking 0 0x000B [(20, 4, 1)] (running .idle)) (fun u m =>
        domFault u (BitVec.ofNat 32 (Msg.field m 16 4)) (BitVec.ofNat 32 (Msg.field m 20 4)) = some 0)
      ∧ Meets 0x000B 0 [] (asking 0 0x000B [(20, 4, 2 ^ 29)] (running .idle)) (fun u m =>
        domFault u (BitVec.ofNat 32 (Msg.field m 16 4)) (BitVec.ofNat 32 (Msg.field m 20 4)) = none
          ∧ (BitVec.ofNat 32 (Msg.field m 20 4)).getLsbD 12 = false)
      ∧ Meets 0x000B 0 [] (asking 0 0x000B [(20, 4, 2 ^ 12)] (running .idle)) (fun u m =>
        domFault u (BitVec.ofNat 32 (Msg.field m 16 4)) (BitVec.ofNat 32 (Msg.field m 20 4)) = none
          ∧ (BitVec.ofNat 32 (Msg.field m 20 4)).getLsbD 12 = true
          ∧ busyItem u (fun l => openSlot l && usesQueues l.kind) = none)
      ∧ Meets 0x0601 0 [] (asking 0 0x0601 [(16, 2, 11), (18, 1, 2)] (holding 11 .active .none)) (fun u m =>
        unitKnown (Msg.field m 16 2) = true ∧ Msg.field m 16 2 < 0x500 ∧ Msg.field m 18 1 ≤ 2 ∧ (unitOff u 11).1 = false
          ∧ maintainEnabled u 11 2 = false ∧ unitState u 11 = .active)
      ∧ Meets 0x0601 0 [] (asking 0 0x0601 [(16, 2, 0x40F)] (running .idle)) (fun u m =>
        unitKnown (Msg.field m 16 2) = true ∧ Msg.field m 16 2 < 0x500 ∧ Msg.field m 18 1 = 0 ∧ (unitOff u 0x40F).1 = false
          ∧ unitState u 0x40F = .offline ∧ containedOpen u 0x40F = false)
      ∧ Meets 0x0601 0 [] (asking 0 0x0601 [(16, 2, 0)] (holding 0 .quiescing .none)) (fun u _ => unitState u 0 = .quiescing)
      ∧ Meets 0x0601 0 [] (asking 0 0x0601 [(16, 2, 0)] (holding 0 .maintenance .none)) (fun u _ => unitState u 0 = .maintenance)
      ∧ Holds { running .idle with units := [(3, { st := .quiescing, toOff := true })] }
        (fun s => unitState s 3 = .quiescing ∧ unitInUse s 3 = false ∧ (unitOf s 3).toOff = true)
      ∧ Holds (holding 3 .quiescing (.host 0 false))
        (fun s => unitState s 3 = .quiescing ∧ unitInUse s 3 = false ∧ (unitOf s 3).toOff = false
          ∧ (unitOf s 3).holder = .host 0 false)
      ∧ Holds { running .idle with units := [(3, { st := .quiescing })], ledger := [(4, { st := .inFlight, kind := some .cal, msg := Msg.of [(40, 2, 3), (42, 2, 1)] })] }
        (fun s => unitState s 3 = .quiescing ∧ unitInUse s 3 = true)
      ∧ Holds (running .idle) (fun s => unitState s 3 ≠ .quiescing)
      ∧ Meets 0x0602 0 [] (asking 0 0x0602 [(16, 2, 3)] (holding 3 .active .none))
        (fun u m => unitKnown (Msg.field m 16 2) = true ∧ freeActive u 3 = true)
      ∧ Meets 0x0602 0 [] (asking 0 0x0602 [(16, 2, 3)] (holding 3 .maintenance (.host 0 false)))
        (fun u _ => freeActive u 3 = false ∧ mayRelease u 3 = false)
      ∧ Meets 0x0602 0 [] (asking 0 0x0602 [(16, 2, 3)] (holding 3 .maintenance (.host 0 true)))
        (fun u _ => freeActive u 3 = false ∧ mayRelease u 3 = true) := by
  and_intros
  all_goals first
    | exact meets (by decide +kernel)
    | exact holds (by decide +kernel)

theorem test_hyps_SafeIsLeftOnlyByReset :
    Holds (running .safe) (fun s => s.dev.mode = .safe ∧ s.dev.disarming = false ∧ s.pending = [])
      ∧ (∃ t, exec .warmReset (running .safe) = .next t) ∧ (∃ t, exec .correctionSlewStep (running .safe) = .next t)
      ∧ ∃ t, step (running .safe) = .next t :=
  ⟨holds (by decide +kernel), ⟨_, rfl⟩, ⟨_, rfl⟩, ⟨_, rfl⟩⟩

theorem test_hyps_ModesStayConsistent :
    modesConsistent (running .safe) ∧ modesConsistent { running .service with dev := { mode := .service, cameFrom := .run } }
      ∧ ∃ t, step { running .safe with pending := [.sineUpdate] } = .next t :=
  ⟨by unfold modesConsistent; decide, by unfold modesConsistent; decide, ⟨_, rfl⟩⟩

/-! Images in local memory, as their bytes that are not zero; the digests are SHA-256 (R115, R217, R68). -/

/-- A schedule image of one segment and one PEB, but for its digest: 202,048 bytes. -/
def schedBytes : List Host.Cell :=
  [⟨0, 67⟩, ⟨1, 83⟩, ⟨2, 87⟩, ⟨3, 75⟩, ⟨4, 1⟩, ⟨6, 128⟩, ⟨8, 64⟩, ⟨9, 21⟩, ⟨10, 3⟩, ⟨12, 5⟩, ⟨14, 1⟩, ⟨19, 5⟩, ⟨20,
  1⟩, ⟨24, 1⟩, ⟨25, 1⟩, ⟨128, 1⟩, ⟨132, 1⟩, ⟨137, 1⟩, ⟨140, 64⟩, ⟨144, 8⟩, ⟨148, 1⟩, ⟨152, 64⟩, ⟨153, 1⟩, ⟨156, 96⟩,
  ⟨160, 6⟩, ⟨164, 1⟩, ⟨168, 192⟩, ⟨169, 1⟩, ⟨173, 1⟩, ⟨176, 4⟩, ⟨180, 1⟩, ⟨184, 192⟩, ⟨185, 2⟩, ⟨188, 64⟩, ⟨189, 2⟩,
  ⟨192, 3⟩, ⟨196, 1⟩, ⟨201, 5⟩, ⟨204, 64⟩, ⟨205, 16⟩, ⟨206, 3⟩, ⟨704, 1⟩, ⟨1280, 1⟩]
/-- 64 bytes whose digest stands at byte 32. -/
def digestBytes : List Host.Cell :=
  [⟨32, 245⟩, ⟨33, 165⟩, ⟨34, 253⟩, ⟨35, 66⟩, ⟨36, 209⟩, ⟨37, 106⟩, ⟨38, 32⟩, ⟨39, 48⟩, ⟨40, 39⟩, ⟨41, 152⟩, ⟨42,
  239⟩, ⟨43, 110⟩, ⟨44, 211⟩, ⟨45, 9⟩, ⟨46, 151⟩, ⟨47, 155⟩, ⟨48, 67⟩, ⟨50, 61⟩, ⟨51, 35⟩, ⟨52, 32⟩, ⟨53, 217⟩, ⟨54,
  240⟩, ⟨55, 232⟩, ⟨56, 234⟩, ⟨57, 152⟩, ⟨58, 49⟩, ⟨59, 169⟩, ⟨60, 39⟩, ⟨61, 89⟩, ⟨62, 251⟩, ⟨63, 75⟩]
/-- 256 bytes whose digest stands at byte 32, with byte 204 set. -/
def digestResvBytes : List Host.Cell :=
  [⟨32, 209⟩, ⟨33, 192⟩, ⟨34, 46⟩, ⟨35, 49⟩, ⟨36, 76⟩, ⟨37, 132⟩, ⟨38, 138⟩, ⟨39, 62⟩, ⟨40, 103⟩, ⟨41, 184⟩, ⟨42,
  67⟩, ⟨43, 57⟩, ⟨44, 224⟩, ⟨45, 24⟩, ⟨46, 110⟩, ⟨47, 102⟩, ⟨48, 225⟩, ⟨49, 152⟩, ⟨50, 129⟩, ⟨51, 204⟩, ⟨52, 68⟩,
  ⟨53, 185⟩, ⟨54, 150⟩, ⟨55, 105⟩, ⟨56, 113⟩, ⟨57, 197⟩, ⟨58, 231⟩, ⟨59, 209⟩, ⟨60, 48⟩, ⟨61, 162⟩, ⟨62, 96⟩, ⟨63,
  20⟩, ⟨204, 1⟩]
/-- A patch store image of one word. -/
def storeBytes : List Host.Cell :=
  [⟨0, 67⟩, ⟨1, 77⟩, ⟨2, 87⟩, ⟨3, 75⟩, ⟨4, 1⟩, ⟨6, 64⟩, ⟨8, 128⟩, ⟨12, 1⟩, ⟨14, 1⟩, ⟨32, 176⟩, ⟨33, 100⟩, ⟨34, 39⟩,
  ⟨35, 159⟩, ⟨36, 233⟩, ⟨37, 178⟩, ⟨38, 20⟩, ⟨39, 74⟩, ⟨40, 242⟩, ⟨41, 61⟩, ⟨42, 37⟩, ⟨43, 22⟩, ⟨44, 176⟩, ⟨45, 145⟩,
  ⟨46, 196⟩, ⟨47, 118⟩, ⟨48, 157⟩, ⟨49, 1⟩, ⟨50, 135⟩, ⟨51, 250⟩, ⟨52, 76⟩, ⟨53, 45⟩, ⟨54, 4⟩, ⟨55, 205⟩, ⟨56, 241⟩,
  ⟨57, 158⟩, ⟨58, 199⟩, ⟨59, 185⟩, ⟨60, 88⟩, ⟨61, 178⟩, ⟨62, 65⟩, ⟨63, 193⟩]
/-- The same with a reserved byte of the word set. -/
def storeResvBytes : List Host.Cell :=
  [⟨0, 67⟩, ⟨1, 77⟩, ⟨2, 87⟩, ⟨3, 75⟩, ⟨4, 1⟩, ⟨6, 64⟩, ⟨8, 128⟩, ⟨12, 1⟩, ⟨14, 1⟩, ⟨32, 10⟩, ⟨33, 61⟩, ⟨34, 116⟩,
  ⟨35, 189⟩, ⟨36, 92⟩, ⟨37, 78⟩, ⟨38, 188⟩, ⟨39, 149⟩, ⟨40, 44⟩, ⟨41, 176⟩, ⟨42, 251⟩, ⟨43, 99⟩, ⟨44, 190⟩, ⟨45,
  223⟩, ⟨46, 184⟩, ⟨47, 105⟩, ⟨48, 137⟩, ⟨49, 139⟩, ⟨50, 213⟩, ⟨51, 114⟩, ⟨52, 252⟩, ⟨53, 143⟩, ⟨54, 125⟩, ⟨55, 40⟩,
  ⟨56, 170⟩, ⟨57, 229⟩, ⟨58, 194⟩, ⟨59, 171⟩, ⟨60, 194⟩, ⟨61, 241⟩, ⟨62, 215⟩, ⟨63, 158⟩, ⟨82, 1⟩]
/-- A firmware image of 192 bytes. -/
def fwBytes : List Host.Cell :=
  [⟨0, 87⟩, ⟨1, 70⟩, ⟨2, 87⟩, ⟨3, 75⟩, ⟨4, 1⟩, ⟨6, 128⟩, ⟨8, 8⟩, ⟨12, 1⟩, ⟨15, 75⟩, ⟨16, 64⟩, ⟨64, 220⟩, ⟨65, 86⟩,
  ⟨66, 166⟩, ⟨67, 8⟩, ⟨68, 52⟩, ⟨69, 228⟩, ⟨70, 254⟩, ⟨71, 164⟩, ⟨72, 120⟩, ⟨73, 108⟩, ⟨74, 196⟩, ⟨75, 141⟩, ⟨76,
  42⟩, ⟨77, 110⟩, ⟨78, 206⟩, ⟨79, 8⟩, ⟨80, 220⟩, ⟨81, 133⟩, ⟨82, 229⟩, ⟨83, 206⟩, ⟨84, 18⟩, ⟨85, 171⟩, ⟨86, 77⟩, ⟨87,
  3⟩, ⟨88, 107⟩, ⟨89, 160⟩, ⟨90, 225⟩, ⟨91, 50⟩, ⟨92, 102⟩, ⟨93, 27⟩, ⟨94, 167⟩, ⟨95, 31⟩]

/-- s with these bytes in local memory. -/
def holdsBytes (bs : List Host.Cell) (s : State) : State := { s with mem := { s.mem with bytes := bs } }

theorem test_hyps_ItemsEndAreAbortedAndRetired :
    Holds { running .calibrate with ledger := [(2047, { st := .queued, kind := some .lane })] }
        (fun s => openSlot (slotOf s 2047) = true ∧ (slotOf s 2047).own = false)
      ∧ Meets 0x0102 0 [] (asking 0 0x0102 [(6, 2, 5)] (running .idle)) (fun u m => (slotOf u (namedSlot m)).st = .free)
      ∧ Meets 0x0102 1 [] (asking 1 0x0102 [(6, 2, 5), (10, 2, 9)]
          { running .run with ledger := [(5, { st := .queued, kind := some .tdc, mailbox := 0 })] })
        (fun u m => foreign u 1 m (namedSlot m) = true)
      ∧ Meets 0x0102 0 [] (asking 0 0x0102 [(6, 2, 2053)]
          { running .run with ledger := [(5, { gen := true, st := .complete, kind := some .tdc })] })
        (fun u m => (slotOf u (namedSlot m)).st ≠ .free ∧ foreign u 0 m (namedSlot m) = false
          ∧ terminal (slotOf u (namedSlot m)) = true)
      ∧ Meets 0x0102 0 [] (asking 0 0x0102 [(6, 2, 5)]
          { running .run with ledger := [(5, { st := .inFlight, kind := some .tdc })] })
        (fun u m => foreign u 0 m (namedSlot m) = false ∧ openSlot (slotOf u (namedSlot m)) = true
          ∧ (slotOf u (namedSlot m)).own = false ∧ u.power.bypassPend = false)
      ∧ (∀ k ∈ [Kind.burst, .measure, .transfer, .dps],
        Meets 0x0102 0 [] (asking 0 0x0102 [(6, 2, 5)]
            { running .run with ledger := [(5, { st := .inFlight, kind := some k, msg := Msg.of [(40, 1, 3)] })] })
          (fun u m => openSlot (slotOf u (namedSlot m)) = true ∧ (slotOf u (namedSlot m)).own = false
            ∧ (slotOf u 5).kind = some k))
      ∧ Meets 0x0104 0 [] (asking 0 0x0104 [(16, 1, 24)] (running .idle)) (fun _ m => extLen m = 0 ∧ 23 < Msg.field m 16 1)
      ∧ Meets 0x0104 0 [] (asking 0 0x0104 [(16, 1, 0)] (running .idle)) (fun _ m => extLen m = 0 ∧ Msg.field m 16 1 = 0)
      ∧ Meets 0x0104 0 [] (asking 0 0x0104 [(16, 1, 1), (18, 2, 5)]
          { running .run with ledger := [(5, { st := .inFlight, kind := some .tdc })] })
        (fun u m => extLen m = 0 ∧ Msg.field m 16 1 = 1 ∧ retireFault u 0 m (Msg.field m 18 2 % 4096) = some (0x16, 5))
      ∧ Meets 0x0104 0 [] (asking 0 0x0104 [(16, 1, 1), (18, 2, 5)]
          { running .run with ledger := [(5, { st := .failed, kind := some .tdc })] })
        (fun u m => Msg.field m 16 1 = 1 ∧ retireFault u 0 m (Msg.field m 18 2 % 4096) = none
          ∧ (allUnits.all fun x => (unitOf u x).unslotted = 0) = true ∧ u.units = [])
      ∧ Meets 0x0104 0 [] (asking 0 0x0104 [(16, 1, 2), (18, 2, 5), (20, 2, 6)]
          { running .run with ledger := [(5, { st := .failed, kind := some .tdc })] })
        (fun u m => 1 ≤ Msg.field m 16 1 ∧ Msg.field m 16 1 ≤ 23 ∧ (retireList u 0 m (retireIds m)).2.2.isSome = true)
      ∧ Meets 0x0104 0 [] (asking 0 0x0104 [(12, 4, 4)] (holdsBytes [⟨2, 6⟩]
          { running .run with ledger := [(5, { st := .failed, kind := some .tdc })] }))
        (fun u m => extLen m ≠ 0 ∧ (retireList u 0 m (rangeIds u ((readExt u [] m).getD []))).2.2 = none)
      ∧ Holds { running .run with ledger := [(1, { st := .inFlight, kind := some .tdc, msg := Msg.of [(28, 4, 1)] }),
          (2, { st := .inFlight, kind := some .acquire, msg := Msg.of [(28, 4, 1)] }),
          (3, { st := .inFlight, kind := some .lane, msg := Msg.of [(28, 4, 1)] }),
          (4, { st := .inFlight, kind := some .measure, msg := Msg.of [(28, 4, 1)] }), (5, { st := .inFlight, kind := some .tdc })] }
        (fun s => (List.range 4).all (fun i => (slotOf s (i + 1)).st = .inFlight ∧ pTimeLimit (slotOf s (i + 1)).msg ≠ 0) = true
          ∧ pTimeLimit (slotOf s 5).msg = 0 ∧ (slotOf s 6).st ≠ .inFlight ∧ (slotOf s 4).own = false) := by
  and_intros
  all_goals first
    | exact holds (by decide +kernel)
    | exact by
          intro x hx
          simp only [List.mem_cons, List.not_mem_nil, or_false] at hx
          rcases hx with rfl | rfl | rfl | rfl <;> exact meets (by decide +kernel)
    | exact meets (by decide +kernel)

theorem test_hyps_SchedulesAndStoresAreCheckedThenReplaced :
    Meets 0x0501 0 [] (asking 0 0x0501 [(16, 1, 15), (24, 8, 64), (32, 8, 512)] (running .idle))
        (fun u m => Msg.field m 16 1 ≤ 15 ∧ loadError u [] (Msg.field m 24 8) (Msg.field m 32 8) = some 0x21)
      ∧ Holds { running .idle with cfg := { homes := [(0, 1)], scheds := [(15, { st := .verifying, check := some (0, 64, 0) })] },
                                   mem := { avail := true, mib := 64, bytes := digestBytes } }
        (fun s => (schedOf s 15).st = .verifying ∧ (schedOf s 15).check = some (0, 64, 0)
          ∧ ((readBytes s [] 0 64).any fun img =>
            digestWithout img 32 = (img.drop 32).take 32 ∧ imageReserved img = false) = true)
      ∧ Holds { running .idle with cfg := { homes := [(0, 1)], scheds := [(15, { st := .verifying, check := some (0, 256, 0) })] },
                                   mem := { avail := true, mib := 64, bytes := digestResvBytes } }
        (fun s => (schedOf s 15).st = .verifying ∧ ((readBytes s [] 0 256).any fun img =>
            digestWithout img 32 = (img.drop 32).take 32 ∧ imageReserved img = true) = true)
      ∧ Holds { running .idle with cfg := { homes := [(0, 1)], scheds := [(15, { st := .verifying, check := some (0, 64, 0) })] } }
        (fun s => (schedOf s 15).st = .verifying ∧ ((readBytes s [] 0 64).any fun img =>
            digestWithout img 32 ≠ (img.drop 32).take 32) = true)
      ∧ Holds (running .idle) (fun s => (schedOf s 15).st ≠ .verifying)
      ∧ Meets 0x0502 0 [] (asking 0 0x0502 [(16, 1, 15)] (running .idle))
        (fun u m => Msg.field m 16 1 ≤ 15 ∧ firstFail (schedBusy u (Msg.field m 16 1)) = none)
      ∧ Meets 0x0604 0 [] (asking 0 0x0604 [(16, 1, 15), (17, 1, 1), (32, 4, 128)] (running .idle))
        (fun u m => Msg.field m 16 1 ≤ 15 ∧ Msg.field m 17 1 ≤ 1 ∧ Msg.field m 24 8 % 64 = 0
          ∧ storeLoadError u [] (Msg.field m 24 8) (Msg.field m 32 4) (Msg.field m 17 1) = some 0x21)
      ∧ Meets 0x0604 0 [] (asking 0 0x0604 [(16, 1, 15), (17, 1, 1), (32, 4, 128)]
          (holdsBytes storeBytes { running .idle with units := [(0x40F, { st := .maintenance })] }))
        (fun u m => storeLoadError u [] (Msg.field m 24 8) (Msg.field m 32 4) (Msg.field m 17 1) = none
          ∧ unitState u (unitSeq 15) = .maintenance)
      ∧ Holds (holdsBytes storeBytes { running .idle with seqs := [(15, { check := [(1, 0, 128)] })] })
        (fun s => (seqOf s 15).check = [(1, 0, 128)] ∧ ((readBytes s [] 0 128).any fun img =>
            digestWithout img 32 = (img.drop 32).take 32) = true)
      ∧ Holds (holdsBytes storeResvBytes { running .idle with seqs := [(15, { check := [(1, 0, 128)] })] })
        (fun s => (seqOf s 15).check = [(1, 0, 128)] ∧ ((readBytes s [] 0 128).any fun img =>
            digestWithout img 32 = (img.drop 32).take 32) = true)
      ∧ Holds { running .idle with seqs := [(15, { check := [(0, 0, 64)] })] }
        (fun s => (seqOf s 15).check = [(0, 0, 64)] ∧ ((readBytes s [] 0 64).any fun img =>
            digestWithout img 32 ≠ (img.drop 32).take 32) = true)
      ∧ Meets 0x0504 0 [] (asking 0 0x0504 [(6, 2, 5), (16, 1, 3)]
          { running .run with ledger := [(5, { st := .complete, kind := some .burst })] })
        (fun u m => (slotOf u (namedSlot m)).kind = some .burst ∧ Msg.field m 16 1 ≤ 3 ∧ terminal (slotOf u (namedSlot m)) = true)
      ∧ Meets 0x0504 0 [] (asking 0 0x0504 [(6, 2, 5), (16, 1, 3)]
          { running .armed with ledger := [(5, { st := .queued, kind := some .burst })] })
        (fun u m => (slotOf u (namedSlot m)).kind = some .burst ∧ (slotOf u (namedSlot m)).st = .queued)
      ∧ Meets 0x0504 0 [] (asking 0 0x0504 [(6, 2, 5), (16, 1, 0)]
          { running .pause with ledger := [(5, { st := .held, kind := some .burst })] })
        (fun u m => (slotOf u (namedSlot m)).kind = some .burst ∧ inFlight (slotOf u (namedSlot m)) = true)
      ∧ (∀ x ∈ [PageSt.free, .next, .front, .draining],
        Meets 0x0505 0 [] (asking 0 0x0505 [(16, 1, 11), (17, 1, 3), (24, 8, 65536)] { running .run with
            pebs := [(11, { layers := [(3, { pool := 0, pages := 2, st := [(1, x)] })] })] })
          (fun u m => Msg.field m 16 1 ≤ 11 ∧ 1 ≤ Msg.field m 17 1 ∧ Msg.field m 17 1 ≤ 3 ∧ askedPage u m = some 1
            ∧ tget .idle (layerOf u 11 3).st 1 ≠ .idle))
      ∧ Meets 0x0505 0 [] (asking 0 0x0505 [(16, 1, 11), (17, 1, 3), (24, 8, 65536)] { running .run with
            pebs := [(11, { layers := [(3, { pool := 0, pages := 2 })] })] })
          (fun u m => askedPage u m = some 1 ∧ tget .idle (layerOf u 11 3).st 1 = .idle) := by
  and_intros
  all_goals first
    | exact meets (by decide +kernel)
    | exact holds (by decide +kernel)
    | exact by
          intro x hx
          simp only [List.mem_cons, List.not_mem_nil, or_false] at hx
          rcases hx with rfl | rfl | rfl | rfl <;> exact meets (by decide +kernel)

/-- An image that passes every check of R115 exists. -/
theorem test_hyps_ScheduleImageLoads : loadError (holdsBytes schedBytes (running .idle)) [] 0 202048 = none := by
  decide +kernel

theorem test_hyps_FabricRequestsTrainHomeAndServe :
    Meets 0x0702 0 [] (asking 0 0x0702 [(16, 1, 3), (17, 1, 1), (18, 1, 3)]
          { running .idle with power := { porHeld := false, pdOn := BitVec.allOnes 32 } })
        (fun u m => Msg.field m 16 1 ≤ 3 ∧ Msg.field m 17 1 = 1 ∧ Msg.field m 18 1 ≤ 3 ∧ domOn u 4 = true
          ∧ u.power.fordClosed = true)
      ∧ Meets 0x0702 0 [] (asking 0 0x0702 [(16, 1, 3), (17, 1, 2)] (running .idle))
        (fun u m => Msg.field m 16 1 ≤ 3 ∧ Msg.field m 17 1 = 2 ∧ u.power.fordClosed = false)
      ∧ Meets 0x0702 0 [] (asking 0 0x0702 [(16, 1, 0), (17, 1, 0)] (running .idle))
        (fun u m => Msg.field m 17 1 = 0 ∧ u.power.fordClosed = false)
      ∧ Meets 0x0703 0 [] (asking 0 0x0703 [(24, 4, 33554431), (28, 4, 1), (32, 8, 64 * 2 ^ 20 - 65536)] (running .idle))
        (fun u m => Msg.field m 24 4 ≤ 33554431 ∧ Msg.field m 24 4 + Msg.field m 28 4 = 33554432
          ∧ Msg.field m 32 8 + 65536 * Msg.field m 28 4 = localBytes u ∧ domOn u 11 = true)
      ∧ Meets 0x0704 0 [] (asking 0 0x0704 [(16, 1, 3), (32, 4, 128)] (running .idle))
        (fun u m => Msg.field m 16 1 ≤ 3 ∧ u.fabric.serve = none)
      ∧ Meets 0x0704 0 [] (asking 0 0x0704 [(16, 1, 3), (32, 4, 128)]
          { running .idle with fabric := { serve := some { port := .west, addr := 0, len := 64 } } })
        (fun u _ => u.fabric.serve.isSome = true)
      ∧ Holds { running .idle with fabric := { serve := some { port := .west, addr := 0, len := 64 } } }
        (fun s => s.fabric.serve.isSome = true)
      ∧ Holds (running .idle) (fun s => s.fabric.serve = none) := by
  and_intros
  all_goals first
    | exact meets (by decide +kernel)
    | exact holds (by decide +kernel)

theorem test_hyps_EventsAreAcknowledgedAndInjected :
    Holds { running .idle with levee := { head := 3, ackTo := 0xFFFF } }
        (fun s => isUnacked s 0xFFFF = true ∧ isUnacked s 2 = true ∧ isUnacked s 3 = false ∧ isUnacked s 0xFFFE = false
          ∧ s.power.porHeld = false)
      ∧ Meets 0x0802 0 [] (asking 0 0x0802 [(16, 2, 0)] (running .idle)) (fun _ _ => true)
      ∧ Meets 0x0803 0 [] (asking 0 0x0803 [(16, 2, 0x3E00), (18, 1, 1)] (running .idle))
        (fun u m => 1 ≤ Msg.field m 18 1 ∧ noInjection u (Msg.field m 16 2) = true)
      ∧ Meets 0x0803 0 [] (asking 0 0x0803 [(16, 2, 0x0400), (18, 1, 1)]
          { running .idle with levee := { inject := some { det := 0x0400 } } })
        (fun u m => noInjection u (Msg.field m 16 2) = false ∧ injecting u = true)
      ∧ Meets 0x0803 0 [] (asking 0 0x0803 [(16, 2, 0x0400), (18, 1, 1)] (running .diagnostic))
        (fun u m => noInjection u (Msg.field m 16 2) = false ∧ injecting u = false)
      ∧ Holds (running .idle) (fun s => s.levee.inject = none)
      ∧ Holds { running .idle with levee := { inject := some { det := 0x0400, raw := true } } }
        (fun s => s.levee.inject = some { det := 0x0400, raw := true })
      ∧ Holds State.reset (fun s => s.power.porHeld = true)
      ∧ Holds { running .idle with levee := { inject := some { det := 0x0400 } } }
        (fun s => detInfo s 0x0400 0 false = some (0, [0x0801]) ∧ unacked s + 1 ≤ 496)
      ∧ Holds { running .idle with levee := { head := 0x1EF } }
        (fun s => s.power.porHeld = false ∧ latchOf s 0x3E00 0x0809 = none ∧ unacked s = 495) := by
  and_intros
  all_goals first
    | exact holds (by decide +kernel)
    | exact meets (by decide +kernel)

/-- R364: LEVEE_CTRL takes the defined bits of the value. -/
theorem test_levee_ctrl_defined_bits :
    (nextOr State.reset (exec (.leveeCtrlWrite 0xFFFFFFFF) (running .idle))).levee.ctrl = 0x9F := by decide +kernel

theorem test_hyps_FirmwareChangesInService :
    Meets 0x0901 0 [] (asking 0 0x0901 [(32, 4, 192)] (running .idle))
        (fun u m => serviceError u [] (Msg.field m 24 8) (Msg.field m 32 4) = some 2)
      ∧ Meets 0x0901 0 [] (asking 0 0x0901 [(32, 4, 192)]
          (holdsBytes fwBytes { running .idle with boot := { running := true, reported := true, version := 0x4C000000 } }))
        (fun u m => serviceError u [] (Msg.field m 24 8) (Msg.field m 32 4) = none
          ∧ imageVersion u [] (Msg.field m 24 8) >>> 24 ≠ u.boot.version >>> 24)
      ∧ Meets 0x0901 0 [] (asking 0 0x0901 [(32, 4, 192)] (holdsBytes fwBytes (running .idle)))
        (fun u m => serviceError u [] (Msg.field m 24 8) (Msg.field m 32 4) = none
          ∧ imageVersion u [] (Msg.field m 24 8) >>> 24 = u.boot.version >>> 24 ∧ calBusy u = none ∧ u.svc.busy = false)
      ∧ Holds (holdsBytes fwBytes { running .pause with svc := { busy := true, len := 192 } })
        (fun s => s.svc.busy = true ∧ s.dev.mode ≠ .service ∧ s.dev.mode ∈ [Mode.idle, .armed, .run, .pause] ∧ calBusy s = none
          ∧ ((readBytes s [] s.svc.addr s.svc.len).any fun img =>
            digestOk img = true) = true)
      ∧ Holds { running .idle with svc := { busy := true, len := 192 } }
        (fun s => s.svc.busy = true ∧ ((readBytes s [] s.svc.addr s.svc.len).any fun img =>
            digestOk img = false) = true)
      ∧ Holds { running .idle with svc := { busy := true, addr := 2 ^ 40, len := 192 } }
        (fun s => readBytes s [] s.svc.addr s.svc.len = none ∧ s.dev.mode ≠ .service)
      ∧ Holds { running .service with svc := { ford := true } } (fun s => s.dev.mode = .service ∧ s.svc.ford = true)
      ∧ Holds { running .service with dev := { mode := .service, cameFrom := .idle } }
        (fun s => s.dev.mode = .service ∧ s.svc.busy = false ∧ s.svc.ford = false ∧ s.dev.cameFrom = .idle
          ∧ s.power.bypassPend = false)
      ∧ Holds (running .idle) (fun s => s.dev.mode ≠ .service) := by
  and_intros
  all_goals first
    | exact meets (by decide +kernel)
    | exact holds (by decide +kernel)

theorem test_hyps_DetectionsAreClassifiedAndReactedTo :
    Holds State.reset (fun s => inReset s = true)
      ∧ Holds (running .idle) (fun s => inReset s = false ∧ detInfo s 0xFF00 0 false = none)
      ∧ Holds { running .idle with levee := { shadows := [{ index := 2, region := some 0x0801 }, { index := 3, region := some 0x0801 }] } }
        (fun s => s.levee.shadows = [{ index := 2, region := some 0x0801 }] ++ { index := 3, region := some 0x0801 } :: [])
      ∧ Holds (running .idle) (fun s => inReset s = false ∧ detInfo s 0x0400 0 false = some (0, [0x0801])
        ∧ detWatches s 0x0400 0x0801 = true ∧ detMasked s 0x0400 0x0801 5 0 = false ∧ s.levee.inject = none
        ∧ latchOf s 0x0400 0x0801 = none
        ∧ shadowOver s 0x0801 = none ∧ escalator s 0x0801 0 = none ∧ fatalRegion 0x0801 = false ∧ unacked s ≤ 495)
      ∧ Holds (running .idle) (fun s => detInfo s 0x0200 0 false = some (2, [0x0800]) ∧ detWatches s 0x0200 0x0800 = true
        ∧ detMasked s 0x0200 0x0800 0 0 = false
        ∧ latchOf s 0x0200 0x0800 = none ∧ shadowOver s 0x0800 = none ∧ s.dev.mode ≠ .off)
      ∧ Holds { running .idle with levee := { head := 1, latches := [{ det := 0x0400, region := 0x0801, index := 0 }] } }
        (fun s => latchOf s 0x0400 0x0801 = some 0 ∧ s.levee.inject = none)
      ∧ Holds { running .idle with levee := { head := 1, log := [(0, { cls := 1, base := 1, det := 0x0401, region := 0x0801 })] } }
        (fun s => detInfo s 0x0400 0 true = some (1, [0x0801]) ∧ latchOf s 0x0400 0x0801 = none ∧ shadowOver s 0x0801 = none
          ∧ (escalator s 0x0801 1).isSome = true ∧ s.dev.mode ≠ .off)
      ∧ Holds (running .idle) (fun s => (detInfo s 0x2203 47 false).any (fun e => e.2.contains (unitDps 3))
        ∧ detWatches s 0x2203 (unitDps 3) = true ∧ detMasked s 0x2203 (unitDps 3) 47 0 = true)
      ∧ Holds { running .idle with levee := { dogRun := true } } (fun s => s.levee.dogRun = true ∧ s.levee.inject = none
        ∧ latchOf s 0x0300 0x0800 = none ∧ shadowOver s 0x0800 = none ∧ s.levee.dogSvc = false ∧ s.levee.dogBoot = false)
      ∧ Holds { running .service with levee := { dogSvc := true } }
        (fun s => s.levee.dogSvc = true ∧ latchOf s 0x0300 0x0800 = none ∧ shadowOver s 0x0800 = none ∧ s.levee.dogRun = false
          ∧ s.levee.inject = none)
      ∧ Holds { running .loaded with levee := { dogBoot := true } }
        (fun s => s.levee.dogBoot = true ∧ s.levee.inject = none ∧ latchOf s 0x0301 0x0800 = none ∧ shadowOver s 0x0800 = none) := by
  and_intros
  all_goals exact holds (by decide +kernel)

/-- Channel 767 with a monitor. -/
def monitored (w : Wmon) : State := { running .idle with chans := [(767, { mon := w })] }

theorem test_hyps_MonitorsAndTriggersReportEdges :
    Holds (monitored { hold := 1 }) (fun s => monOn s 767 = true ∧ (chanOf s 767).mon.st = none ∧ monOn s 768 = false)
      ∧ Holds (monitored { hold := 1, st := some true, rep := some true }) (fun s => (chanOf s 767).mon.st = some true
        ∧ (chanOf s 767).mon.stuck = false ∧ (chanOf s 767).mon.hold ≠ 0 ∧ monOn s 767 = true
        ∧ (chanOf s 767).mon.rep = (chanOf s 767).mon.st)
      ∧ Holds (monitored { hold := 1, st := some true, stuck := true }) (fun s => (chanOf s 767).mon.st = some (! false)
        ∧ (chanOf s 767).mon.stuck = true ∧ monOn s 767 = true)
      ∧ Holds (monitored { st := some true, rep := some false }) (fun s => (chanOf s 767).mon.rep = some (! true)
        ∧ (chanOf s 767).mon.stuck = false ∧ (chanOf s 767).mon.hold = 0)
      ∧ Holds (monitored { lo := 10, hi := 20 }) (fun s => threshold (chanOf s 767).mon.hi < 0
        ∧ threshold (chanOf s 767).mon.lo = -1230000 ∧ monOn s 767 = true)
      ∧ Holds (monitored { st := some true, rep := some true }) (fun s => (chanOf s 767).mon.rep = (chanOf s 767).mon.st)
      ∧ Holds { running .armed with
          ledger := [(4, { st := .inFlight, kind := some .levels, armed := true, msg := Msg.of [(41, 1, 4)] }),
            (5, { st := .inFlight, kind := some .acquire, msg := Msg.of [(43, 1, 6)] })]
          acqs := [(2, { item := some 5, started := true })] }
        (fun s => inFlight (slotOf s 4) = true ∧ pStrobe (slotOf s 4).msg = 3 + 1 ∧ (slotOf s 4).own = false
          ∧ (acqOf s 2).edge = false ∧ inFlight (slotOf s 5) = true ∧ pTrigger (slotOf s 5).msg = 3 + 3)
      ∧ (∀ k ∈ [1, 2], Holds { running .run with
          cfg := { trig := [(3, { fn := k, pebs := 1, cond := 3 })] }, bursts := [(4, { phase := .playing, pebs := 1 })] }
        (fun s => (trigOf s 3).fn = k ∧ (trigOf s 3).mon.st ≠ some true ∧ playing (burstOf s 4) = true
          ∧ (burstOf s 4).pebs &&& (trigOf s 3).pebs ≠ 0 ∧ s.dev.mode = .run))
      ∧ Holds (running .armed) (fun s => (trigOf s 3).mon.st = some false ∧ inReset s = false ∧ (trigOf s 3).mon.stuck = false
        ∧ (trigOf s 3).mon.hold = 0)
      ∧ Holds { running .armed with cfg := { trig := [(3, { mon := { hold := 9, st := some true, stuck := true } })] } }
        (fun s => (trigOf s 3).mon.st ≠ some false ∧ (trigOf s 3).mon.stuck = true ∧ (trigOf s 3).mon.st = some true
          ∧ (trigOf s 3).mon.hold ≠ 0) := by
  and_intros
  all_goals first
    | exact holds (by decide +kernel)
    | exact by
          intro k hk
          simp only [List.mem_cons, List.not_mem_nil, or_false] at hk
          rcases hk with rfl | rfl <;> exact holds (by decide +kernel)

theorem test_hyps_HousekeepingReadsAndThrottles :
    Holds { running .idle with house := { slot := 11 } } (fun s => inReset s = false ∧ s.house.slot = 11)
      ∧ Holds { running .idle with house := { slot := 25 } } (fun s => inReset s = false ∧ s.house.slot = 25)
      ∧ Holds { running .idle with house := { slot := 63 } } (fun s => inReset s = false ∧ ¬ s.house.slot < 63)
      ∧ Holds State.reset (fun s => inReset s = true ∧ s.house.window = false)
      ∧ Holds { running .idle with house := { window := true }, ledger := [(4, { st := .queued, kind := some .burst })] }
        (fun s => s.house.window = true ∧ (slotOf s 4).st = .queued)
      ∧ Holds { running .run with queues := [(13, { part := [1, 2] })] } (fun s => (queueOf s 13).part ≠ [] ∧ (queueOf s 12).part = [])
      ∧ Holds { running .idle with dacs := [(80, { active := 9, slew := some 7 })] }
        (fun s => (dacOf s 80).slew = some 7 ∧ (dacOf s 80).active ≠ 7 ∧ (dacOf s 81).slew = none)
      ∧ Holds { running .run with chans := [(767, { sine := { on := true, step := 5 } })] }
        (fun s => (chanOf s 767).sine.on = true ∧ (chanOf s 766).sine.on = false) := by
  and_intros
  all_goals exact holds (by decide +kernel)

/-- R207: a sine advances by 16 steps per update. -/
theorem test_sine_advances :
    (chanOf (nextOr State.reset (exec .sineUpdate { running .run with chans := [(767, { sine := { on := true, step := 5 } })] }))
      767).sine.phase = 80 := by decide +kernel

/-! Hypotheses of the statements about items and playback. -/

/-- ARMED with one item of a kind queued in slot 4, every unit ACTIVE, and schedule 0 VALID. -/
def queuedItem (k : Kind) (fs : List (Nat × Nat × Nat)) : State :=
  { running .armed with
    dev := { mode := .armed, armedSched := some 0, siteEnable := 1, siteMap := [(0, 0x80)], armedMap := [(0, 0x80)] }
    units := [(0, { st := .active }), (0x100, { st := .active }), (0x200, { st := .active }),
      (0x300, { st := .active, corrected := true, calM := 0x5000000 }), (0x400, { st := .active })]
    ledger := [(4, { st := .queued, kind := some k, msg := Msg.of fs })] }

/-- A schedule image of two segments of 256 vectors in the format of two bits a pin; segment 0 goes on to segment 1, which
has junction 0. -/
def playImg : List Byte :=
  let cells : Tab Byte := [(12, 5), (14, 1), (20, 2), (24, 1), (25, 1), (128, 1), (132, 2), (137, 1), (140, 128), (144, 2),
    (148, 1), (152, 0x80), (153, 1), (156, 32), (160, 6), (164, 1), (168, 0xC0), (169, 1), (173, 1), (176, 8), (180, 2),
    (184, 0xC0), (185, 2), (188, 128), (265, 1), (269, 8), (272, 1), (329, 1), (333, 5), (336, 255), (337, 255), (338, 255),
    (339, 255)]
  (List.range 832).map fun i => tget 0 cells i

/-- The same image with PIN on segment 0, and with a byte at a reserved place of its descriptor. -/
def pinnedImg (x : Byte) : List Byte := (playImg.set 269 2).set 271 x

/-- The same with a pause asked for. -/
def pausing (s : State) : State := { s with dev := { s.dev with pauseReq := true } }

/-- RUN at the count 5 with an armed item for a START_TIME in slot 4. -/
def firing (start : Nat) (k : Kind) (fs : List (Nat × Nat × Nat)) (bs : Tab Burst) : State :=
  { running .run with
    ledger := [(4, { st := .inFlight, kind := some k, armed := true, msg := Msg.of ([(25, 1, 1), (32, 8, start)] ++ fs) })]
    bursts := bs
    hw := { running := true, count := 5 } }

/-- The item in slot 4 may fire. -/
def fires (s : State) : Bool :=
  let l := slotOf s 4
  decide (l.st = .inFlight ∧ l.armed = true ∧ pStartAt l.msg = true ∧ (l.kind = some .levels → pStrobe l.msg = 0)
    ∧ s.hw.running = true ∧ s.clock.locked = true) && timePast s 4 && syncReady s l

theorem test_hyps_ItemsAreDispatchedWhenTheyMay :
    Holds { queuedItem .burst [(48, 8, 1)] with cfg := { scheds := [(0, { st := .valid })] } }
        (fun s => canDispatch s 4 .burst = true ∧ (schedOf s (pSched (slotOf s 4).msg)).st = .valid ∧ canDispatch s 4 .tdc = false)
      ∧ Holds { queuedItem .burst [(48, 8, 1)] with cfg := { scheds := [(0, { st := .verifying })] } }
        (fun s => canDispatch s 4 .burst = true ∧ (schedOf s (pSched (slotOf s 4).msg)).st ≠ .valid)
      ∧ Holds { queuedItem .burst [(48, 8, 1)] with cfg := { scheds := [(0, { st := .valid, image := pinnedImg 0 })] } }
        (fun s => canDispatch s 4 .burst = true ∧ ((pinSegments (pinnedImg 0)).any fun n => descReserved (descBytes (pinnedImg 0) n)) = false)
      ∧ Holds { queuedItem .burst [(48, 8, 1)] with cfg := { scheds := [(0, { st := .valid, image := pinnedImg 1 })] } }
        (fun s => canDispatch s 4 .burst = true ∧ ((pinSegments (pinnedImg 1)).any fun n => descReserved (descBytes (pinnedImg 1) n)) = true)
      ∧ Holds { queuedItem .measure [(44, 8, 1)] with seqs := [(0, { adrift := true })] }
        (fun s => canDispatch s 4 .measure = true ∧ storeWaits s (slotOf s 4).msg = false ∧ (seqOf s 0).adrift = true)
      ∧ Holds { queuedItem .measure [(44, 8, 1)] with seqs := [(0, { pState := .verifying })] }
        (fun s => canDispatch s 4 .measure = true ∧ storeWaits s (slotOf s 4).msg = true)
      ∧ Holds { queuedItem .measure [(44, 8, 1)] with seqs := [(0, { pState := .bad })] }
        (fun s => canDispatch s 4 .measure = true ∧ storeWaits s (slotOf s 4).msg = false ∧ storeBad s (slotOf s 4).msg = true)
      ∧ Holds (queuedItem .measure [(44, 8, 1)])
        (fun s => canDispatch s 4 .measure = true ∧ storeWaits s (slotOf s 4).msg = false ∧ storeBad s (slotOf s 4).msg = false
          ∧ (seqOf s 0).adrift = false ∧ actsNow s 4 = true)
      ∧ Holds (queuedItem .measure [(25, 1, 1), (32, 8, 1), (44, 8, 1)]) (fun s => canDispatch s 4 .measure = true
        ∧ storeBad s (slotOf s 4).msg = false ∧ actsNow s 4 = false ∧ s.dev.pauseReq = false)
      ∧ Holds (pausing (queuedItem .measure [(25, 1, 1), (32, 8, 1), (44, 8, 1)])) (fun s => canDispatch s 4 .measure = true
        ∧ storeBad s (slotOf s 4).msg = false ∧ actsNow s 4 = false ∧ s.dev.pauseReq = true)
      ∧ Holds (pausing (queuedItem .dps [(40, 8, 1), (52, 4, 1)])) (fun s => canDispatch s 4 .dps = true ∧ s.dev.pauseReq = true)
      ∧ Holds (queuedItem .tdc [(25, 1, 1), (32, 8, 1), (41, 1, 1), (44, 4, 1)]) (fun s => canDispatch s 4 .tdc = true ∧ actsNow s 4 = false)
      ∧ Holds (queuedItem .acquire [(25, 1, 1), (32, 8, 1), (44, 4, 1)]) (fun s =>
        canDispatch s 4 .acquire = true ∧ actsNow s 4 = false)
      ∧ Holds (queuedItem .tdc [(41, 1, 1), (44, 4, 1)]) (fun s => canDispatch s 4 .tdc = true)
      ∧ Holds (queuedItem .acquire [(44, 4, 1)]) (fun s => canDispatch s 4 .acquire = true)
      ∧ Holds (queuedItem .transfer [(40, 1, 15)]) (fun s => canDispatch s 4 .transfer = true ∧ (dmaOf s 15).phase = .idle
        ∧ pDma (slotOf s 4).msg = 15)
      ∧ Holds { queuedItem .transfer [(40, 1, 15)] with dmas := [(15, { phase := .stopping })] }
        (fun s => canDispatch s 4 .transfer = true ∧ (dmaOf s (pDma (slotOf s 4).msg)).phase ≠ .idle)
      ∧ Holds (queuedItem .levels [(41, 1, 1)]) (fun s => canDispatch s 4 .levels = true ∧ pStrobe (slotOf s 4).msg ≠ 0)
      ∧ Holds (queuedItem .levels [(25, 1, 1), (32, 8, 1)])
        (fun s => canDispatch s 4 .levels = true ∧ pStartAt (slotOf s 4).msg = true ∧ timePast s 4 = false)
      ∧ Holds (queuedItem .levels []) (fun s => canDispatch s 4 .levels = true ∧ pStrobe (slotOf s 4).msg = 0
        ∧ pStartAt (slotOf s 4).msg = false)
      ∧ Holds (queuedItem .dps [(40, 8, 1), (52, 4, 1)]) (fun s => canDispatch s 4 .dps = true)
      ∧ Holds (queuedItem .lane [(44, 4, 1)]) (fun s => canDispatch s 4 .lane = true)
      ∧ Holds (queuedItem .cal [(42, 2, 1)]) (fun s => lacksArray s (slotOf s 4) = false ∧ canDispatch s 4 .cal = true
        ∧ dpsEnabled s (slotOf s 4) = false)
      ∧ Holds { queuedItem .cal [(40, 2, 0x100), (42, 2, 8)] with dps := [(0, { enabled := true })] }
        (fun s => lacksArray s (slotOf s 4) = false ∧ canDispatch s 4 .cal = true ∧ dpsEnabled s (slotOf s 4) = true
          ∧ unitState s (pUnit (slotOf s 4).msg) ≠ .maintenance ∧ tabOk {} s.units = true)
      ∧ Holds { queuedItem .cal [(40, 2, 0x100), (42, 2, 8)] with
          dps := [(0, { enabled := true })]
          units := [(0x100, { st := .active, holder := .host 1 false })] }
        (fun s => lacksArray s (slotOf s 4) = false ∧ canDispatch s 4 .cal = true ∧ dpsEnabled s (slotOf s 4) = true
          ∧ hostHeld s (pUnit (slotOf s 4).msg) = true ∧ tabOk {} s.units = true)
      ∧ Holds { queuedItem .cal [(42, 2, 4)] with units := [(0, { st := .active }), (0x300, { st := .active })] }
        (fun s => lacksArray s (slotOf s 4) = true ∧ tabOk {} s.units = true ∧ canDispatch (modUnit s unitTdc fun v => { v with st := .active }) 4 .cal = true)
      ∧ Holds (firing 5 .levels [] []) (fun s => fires s ∧ (slotOf s 4).kind = some .levels)
      ∧ Holds (firing 6 .levels [] []) (fun s => ¬ fires s)
      ∧ Holds (firing 5 .levels [(41, 1, 1)] []) (fun s => ¬ fires s)
      ∧ Holds (firing 5 .burst [] [(4, { phase := .armed })]) (fun s => fires s ∧ (slotOf s 4).kind = some .burst ∧ (burstOf s 4).phase = .armed)
      ∧ Holds (firing 5 .measure [] []) (fun s => fires s ∧ (slotOf s 4).kind = some .measure)
      ∧ Holds (firing 5 .tdc [(41, 1, 1)] []) (fun s => fires s ∧ (slotOf s 4).kind = some .tdc ∧ itemTdcs (slotOf s 4).msg = [0])
      ∧ Holds (firing 5 .acquire [] []) (fun s => fires s ∧ (slotOf s 4).kind = some .acquire)
      ∧ Holds (firing 5 .dps [(40, 8, 2 ^ 47)] []) (fun s => fires s ∧ (slotOf s 4).kind = some .dps
        ∧ dpsList (pDpsMask (slotOf s 4).msg) = [47])
      ∧ Holds { firing 5 .lane [(44, 4, 2 ^ 27)] [] with lanes := [(27, { item := some 4 })] } (fun s => fires s
        ∧ (slotOf s 4).kind = some .lane ∧ itemLanes s 4 = [27]) := by
  and_intros
  all_goals exact holds (by decide +kernel)

/-- The key of a granule of control track 0, and of source lane group 0. -/
def ctlKey (ord seg g : Nat) : Slice := { ord := ord, seg := seg, kind := .ctl 0, granule := g }
def srcKey (ord seg g : Nat) : Slice := { ord := ord, seg := seg, kind := .src 0, granule := g }

/-- The opening granules of a segment at a place of the path, all zero, with its descriptor. -/
def openingCache (ord seg : Nat) : List (Slice × List Byte) :=
  (metaKey ord seg .desc, descBytes playImg seg)
    :: (List.range 4).flatMap fun g => [(ctlKey ord seg g, zeros 64), (srcKey ord seg g, zeros 128)]

/-- RUN with a BURST in slot 4 on PEB0 and site 0. -/
def bursting (b : Burst) (l : Slot) : State :=
  { running .run with
    dev := { mode := .run, armedSched := some 0, siteEnable := 1, armedMap := [(0, 0x80)] }
    cfg := { homes := [(0, 1)], scheds := [(0, { st := .valid, image := playImg })] }
    ledger := [(4, { l with st := .inFlight, kind := some .burst })]
    bursts := [(4, { b with sites := 1, pebs := 1 })] }

theorem test_hyps_BurstsFetchAndStart :
    Holds (bursting { phase := .fetching, cache := [(metaKey 0 0 .desc, descBytes playImg 0)] } {})
        (fun s => inFlight (slotOf s 4) = true ∧ (burstOf s 4).phase ≠ .pinning ∧ (0, 0) ∈ tracked playImg (burstOf s 4)
          ∧ resident (burstOf s 4) (metaKey 0 0 .desc) = true ∧ resident (burstOf s 4) (metaKey 0 0 .plan) = false
          ∧ bodyIssued (burstOf s 4) 0 0 = false ∧ opening (descIn playImg 0) = 4 ∧ burstImg s (burstOf s 4) = playImg)
      ∧ Holds (bursting { phase := .fetching } {}) (fun s => resident (burstOf s 4) (metaKey 0 0 .desc) = false
        ∧ (burstOf s 4).issued = [] ∧ openingReady s (burstOf s 4) 0 0 = false)
      ∧ Holds (bursting { phase := .fetching, issued := [metaKey 0 0 .desc] } {})
        (fun s => metaKey 0 0 .desc ∈ (burstOf s 4).issued ∧ (fetchBytes s [] (burstOf s 4) (metaKey 0 0 .desc)).isSome = true
          ∧ isMeta (metaKey 0 0 .desc) = true ∧ metaMisuse playImg (metaKey 0 0 .desc) (zeros 64) = some .imageChanged
          ∧ metaMisuse playImg (metaKey 0 0 .desc) (descBytes playImg 0) = none)
      ∧ Holds { bursting { phase := .fetching, issued := [metaKey 0 0 .desc] } {} with
          fabric := { outst := [{ tag := 7, cls := 0x20, addr := 256, slot := some 4, dead := true }] } }
        (fun s => metaKey 0 0 .desc ∈ (burstOf s 4).issued ∧ fetchDead s 4 (metaKey 0 0 .desc) = true)
      ∧ Holds { bursting { phase := .fetching, issued := [metaKey 0 0 .desc] } {} with mem := {} }
        (fun s => fetchBytes s [] (burstOf s 4) (metaKey 0 0 .desc) = none)
      ∧ Holds (bursting { phase := .fetching, issued := [ctlKey 0 0 0] } {})
        (fun s => (fetchBytes s [] (burstOf s 4) (ctlKey 0 0 0)).isSome = true ∧ isMeta (ctlKey 0 0 0) = false)
      ∧ Holds (bursting { phase := .pinning, pinLeft := [1], issued := [metaKey 0 1 .pin] } {})
        (fun s => (burstOf s 4).phase = .pinning ∧ (burstOf s 4).pinLeft.head? = some 1 ∧ metaKey 0 1 .pin ∈ (burstOf s 4).issued
          ∧ pinFetching (burstOf s 4) = true)
      ∧ Holds (bursting { phase := .pinning, pinLeft := [1] } {})
        (fun s => (burstOf s 4).pinLeft.head? = some 1 ∧ pinFetching (burstOf s 4) = false)
      ∧ Holds (bursting { phase := .fetching, waiting := [srcKey 0 0 0, srcKey 0 0 1] } {})
        (fun s => (burstOf s 4).waiting = [srcKey 0 0 0, srcKey 0 0 1])
      ∧ Holds (bursting { phase := .fetching, cache := openingCache 0 0 } {})
        (fun s => (burstOf s 4).phase = .fetching ∧ openingReady s (burstOf s 4) 0 (burstOf s 4).entry = true
          ∧ pStartAt (slotOf s 4).msg = false)
      ∧ Holds (bursting { phase := .fetching, cache := openingCache 0 0 } { msg := Msg.of [(25, 1, 1), (32, 8, 1)] })
        (fun s => openingReady s (burstOf s 4) 0 (burstOf s 4).entry = true ∧ pStartAt (slotOf s 4).msg = true
          ∧ countPast (stamp s) (pStartTime (slotOf s 4).msg) = false)
      ∧ Holds (bursting { phase := .fetching, cache := openingCache 0 0 } { msg := Msg.of [(25, 1, 1)] })
        (fun s => openingReady s (burstOf s 4) 0 (burstOf s 4).entry = true ∧ pStartAt (slotOf s 4).msg = true
          ∧ countPast (stamp s) (pStartTime (slotOf s 4).msg) = true ∧ s.clock.locked = true
          ∧ syncReady s (slotOf s 4) = true)
      ∧ Holds { bursting { phase := .fetching, cache := openingCache 0 0 } { msg := Msg.of [(25, 1, 1)] } with
          clock := { lost := true } }
        (fun s => countPast (stamp s) (pStartTime (slotOf s 4).msg) = true ∧ s.clock.locked = false) := by
  and_intros
  all_goals exact holds (by decide +kernel)

theorem test_hyps_BurstsPlayVectorsAndCrossBoundaries :
    Holds (bursting { phase := .playing, vec := 255, cache := openingCache 0 0 } {})
        (fun s => vectorDue s (burstOf s 4) = true ∧ missingLanes s (burstOf s 4) = []
          ∧ vectorMisuse (applyUnderrun s 4) (burstOf (applyUnderrun s 4) 4) playImg (descIn playImg 0) = none)
      ∧ Holds { bursting { phase := .playing, cache := openingCache 0 0 } {} with chans := [(0, { pmuOn := true })] }
        (fun s => vectorDue s (burstOf s 4) = true
          ∧ vectorMisuse (applyUnderrun s 4) (burstOf (applyUnderrun s 4) 4) playImg (descIn playImg 0) = some .pmuOnDriven)
      ∧ Holds (bursting { phase := .playing, vec := 256 } {}) (fun s => vectorDue s (burstOf s 4) = false)
      ∧ Holds (bursting { phase := .playing } {}) (fun s => (burstOf s 4).vec < (descIn playImg 0).length
        ∧ missingTracks s (burstOf s 4) ≠ [] ∧ (descIn playImg 0).stallSafe = false)
      ∧ Holds (bursting { phase := .playing, seg := 1, ord := 1 } {}) (fun s => missingTracks s (burstOf s 4) ≠ []
        ∧ (descIn playImg 1).stallSafe = true)
      ∧ Holds (bursting { phase := .playing, seg := 1, ord := 1, vec := 208, cache := [(metaKey 1 1 .junction, zeros 32)] } {})
        (fun s => (burstOf s 4).vec + 48 = (descIn playImg 1).length ∧ (descIn playImg 1).junction = some 0
          ∧ (burstOf s 4).sampled = false ∧ resident (burstOf s 4) (metaKey 1 1 .junction) = true)
      ∧ Holds (bursting { phase := .playing, seg := 1, ord := 1, vec := 208 } {})
        (fun s => (burstOf s 4).vec + 48 = (descIn playImg 1).length ∧ (descIn playImg 1).junction = some 0
          ∧ resident (burstOf s 4) (metaKey 1 1 .junction) = false)
      ∧ Holds (bursting { phase := .playing, vec := 208 } {}) (fun _ => (descIn playImg 0).junction = none)
      ∧ Holds (bursting { phase := .playing, vec := 256, seg := 1, sampled := true, ord := 1 } {})
        (fun s => (burstOf s 4).vec = (descIn playImg 1).length ∧ (burstOf s 4).segLate = false ∧ (slotOf s 4).cause = none
          ∧ (burstOf s 4).jump = none ∧ successor s (burstOf s 4) = none)
      ∧ Holds (bursting { phase := .playing, vec := 256, cache := openingCache 1 1 } { cause := some 2 })
        (fun s => (slotOf s 4).cause = some 2 ∧ (successor s (burstOf s 4)).isSome = true
          ∧ resident (burstOf s 4) (metaKey 1 1 .desc) = true ∧ (burstOf s 4).segLate = false
          ∧ openSlot (slotOf s 4) = true ∧ (slotOf s 4).own = false)
      ∧ Holds (bursting { phase := .playing, vec := 256, seg := 1, sampled := true, ord := 1 } { cause := some 5 })
        (fun s => (slotOf s 4).cause = some 5 ∧ successor s (burstOf s 4) = none ∧ (burstOf s 4).segLate = false)
      ∧ Holds (bursting { phase := .playing, vec := 256, seg := 1, sampled := true, ord := 1, jump := some (0, 9) } {})
        (fun s => (burstOf s 4).jump.isSome = true ∧ successor s (burstOf s 4) = none ∧ (slotOf s 4).cause = none)
      ∧ Holds (bursting { phase := .playing, vec := 256, cache := openingCache 1 1 } {})
        (fun s => (burstOf s 4).vec = (descIn playImg 0).length ∧ (descIn playImg 0).junction = none
          ∧ (burstOf s 4).segUr = false ∧ successor s (burstOf s 4) = some 1
          ∧ resident (burstOf s 4) (metaKey 1 1 .desc) = true ∧ pauseTaken (burstOf s 4) (descIn playImg 0) = false)
      ∧ Holds (bursting { phase := .playing, vec := 256, cache := openingCache 1 1, pause := some { stamp := 207 } } {})
        (fun s => successor s (burstOf s 4) = some 1 ∧ pauseTaken (burstOf s 4) (descIn playImg 0) = true
          ∧ (burstOf s 4).pause = some { stamp := 207 })
      ∧ Holds (bursting { phase := .playing, vec := 255 } {}) (fun s => (burstOf s 4).vec ≠ (descIn playImg 0).length)
      ∧ Holds (bursting { phase := .stall, vec := 256, cache := openingCache 1 1 } {})
        (fun s => (burstOf s 4).phase = .stall ∧ successor s (burstOf s 4) = some 1 ∧ openingReady s (burstOf s 4) 1 1 = true
          ∧ (burstOf s 4).phase ≠ .hold true)
      ∧ Holds (bursting { phase := .stall, vec := 256 } {})
        (fun s => (burstOf s 4).phase = .stall ∧ successor s (burstOf s 4) = some 1 ∧ openingReady s (burstOf s 4) 1 1 = false)
      ∧ Holds (bursting { phase := .hold true, vec := 256, cache := openingCache 1 1 } {})
        (fun s => (burstOf s 4).phase = .hold true ∧ (burstOf s 4).phase ≠ .stall)
      ∧ Holds { running .run with pebs := [(11, { layers := [(3, { pages := 2, st := [(0, .next)], drain := [(0, 2)] })] })] }
        (fun s => (layerOf s 11 3).drain.find? (fun e => e.1 = 0) = some (0, 2) ∧ tget .idle (layerOf s 11 3).st 0 = .next
          ∧ tabOk {} (pebOf s 11).layers = true)
      ∧ Holds { running .run with pebs := [(11, { layers := [(3, { pages := 2, st := [(0, .draining), (1, .front)], freePend := [0] })] })] }
        (fun s => tget .idle (layerOf s 11 3).st 0 = .draining ∧ tget .idle (layerOf s 11 3).st 1 ≠ .draining
          ∧ (layerOf s 11 3).drain = [] ∧ pageFetching s 11 3 0 = false
          ∧ tabOk {} (pebOf s 11).layers = true ∧ tabOk .idle (layerOf s 11 3).st = true) := by
  and_intros
  all_goals exact holds (by decide +kernel)

/-- Sequencer 3 with an item and one word in its working store: its SEQ code and other fields, and the value 5. -/
def sequencing (seqCode fields : Nat) (x : Seq) : State :=
  { running .run with
    ledger := [(4, { st := .inFlight, kind := some .measure, msg := Msg.of [(24, 1, 1), (40, 1, 3)] })]
    seqs := [(3, { x with
      item := some 4, addr := 0x2000
      store := [(0, BitVec.ofNat 144 (seqCode * 2 ^ 105 + fields + 5 * 2 ^ 64))] })] }

/-- The word at the sequencer's address. -/
def wordOf (s : State) : BitVec 144 := fetchWord (seqOf s 3) (seqOf s 3).addr

theorem test_hyps_SequencersRunTheirWords :
    (∀ k ∈ [0, 1, 2, 3, 4, 5, 6, 7], Holds (sequencing k 0 {}) (fun s =>
        mayRun (seqOf s 3) (wordOf s) = true ∧ (seqOf s 3).item = some 4 ∧ mw (wordOf s) 107 105 = k
          ∧ wordMisuse s 3 (wordOf s) = false ∧ (seqOf s 3).stack = [] ∧ openSlot (slotOf s 4) = true ∧ (slotOf s 4).own = false))
      ∧ Holds (sequencing 2 0 { stack := [7] }) (fun s => (seqOf s 3).stack = [7] ∧ mayRun (seqOf s 3) (wordOf s) = true
        ∧ mw (wordOf s) 107 105 = 2)
      ∧ Holds (sequencing 3 (2 ^ 96) {}) (fun s => mayRun (seqOf s 3) (wordOf s) = true ∧ mw (wordOf s) 107 105 = 3
        ∧ mw (wordOf s) 97 96 = 1 ∧ mw (wordOf s) 95 64 % 2 ^ 24 ≠ 0)
      ∧ Holds (sequencing 0 (2 ^ 97) { ctrs := [(0, 1)] }) (fun s => mw (wordOf s) 97 96 = 2 ∧ mw (wordOf s) 107 105 = 0
        ∧ tabOk 0 (seqOf s 3).ctrs = true)
      ∧ Holds { sequencing 0 (3 * 2 ^ 100) {} with ledger := [] } (fun s => mw (wordOf s) 101 100 = 3 ∧ mayRun (seqOf s 3) (wordOf s) = true)
      ∧ Holds (sequencing 5 0 { reqAbort := some 2, inUnwind := true }) (fun s => mw (wordOf s) 107 105 = 5
        ∧ mayRun (seqOf s 3) (wordOf s) = true ∧ (seqOf s 3).reqAbort = some 2)
      ∧ Holds { running .run with seqs := [(3, { adrift := true, inUnwind := true })] } (fun s =>
        mayRun (seqOf s 3) (wordOf s) = true ∧ (seqOf s 3).item = none)
      ∧ Holds { sequencing 0 (5 * 2 ^ 55) { targets := [192] } with
          dev := { mode := .run, armedMap := [(192, 0x80)] }
          units := [(3, { st := .active })]
          bursts := [(9, { phase := .playing, sites := 1, pebs := 8 })] }
        (fun s => mayRun (seqOf s 3) (wordOf s) = true ∧ wordMisuse s 3 (wordOf s) = true)
      ∧ Holds (running .run) (fun s => mayRun (seqOf s 3) (wordOf s) = false ∧ (seqOf s 3).held = false)
      ∧ Holds (sequencing 3 0 { waiting := true, timer := 9, formed := 3 }) (fun s => (seqOf s 3).held = false
        ∧ (seqOf s 3).waiting = true ∧ seqRequested (seqOf s 3) = false ∧ mayRun (seqOf s 3) (wordOf s) = false)
      ∧ Holds (sequencing 3 0 { waiting := true, timer := 9, reqPause := true }) (fun s => (seqOf s 3).waiting = true
        ∧ seqRequested (seqOf s 3) = true ∧ atSafePoint (seqOf s 3) (wordOf s) = false)
      ∧ Holds (sequencing 0 0 { held := true }) (fun s => (seqOf s 3).held = true ∧ seqRequested (seqOf s 3) = false)
      ∧ Holds (sequencing 3 0 { held := true, reqAbort := some 2 }) (fun s => seqRequested (seqOf s 3) = true
        ∧ (seqOf s 3).held = true ∧ routineOn (seqOf s 3) = true ∧ (seqOf s 3).reqAbort.isSome = true)
      ∧ Holds (sequencing 3 0 { reqPause := true }) (fun s => seqRequested (seqOf s 3) = true
        ∧ atSafePoint (seqOf s 3) (wordOf s) = true ∧ (seqOf s 3).reqAbort = none ∧ (seqOf s 3).held = false
        ∧ (seqOf s 3).item = some 4)
      ∧ Holds { running .run with dps := [(47, { ranging := true })], chans := [(767, { ranging := true })] } (fun s =>
        (dpsOf s 47).ranging = true ∧ (chanOf s 767).ranging = true) := by
  and_intros
  all_goals first
    | exact by
          intro k hk
          simp only [List.mem_cons, List.not_mem_nil, or_false] at hk
          rcases hk with rfl | rfl | rfl | rfl | rfl | rfl | rfl | rfl <;> exact holds (by decide +kernel)
    | exact holds (by decide +kernel)

/-! Hypotheses of the statements about instruments, DMA, supplies and lanes. -/

/-- TDC 5 with a series of ten for the item in slot 4. -/
def timing (x : Tdc) : State :=
  { running .run with
    ledger := [(4, { st := .inFlight, kind := some .tdc, msg := Msg.of [(24, 1, 2), (40, 1, 5), (41, 1, 1), (44, 4, 10)] })]
    tdcs := [(5, { x with item := some 4, series := 10, startIn := 0, stopIn := 1 })] }

/-- The same with a measurement armed. -/
def timed (x : Tdc) : State := timing { x with armed := true }

/-- An ACQUIRE of MADC 2, input 3, for the item in slot 4. -/
def acquiring (samples turn : Nat) (x : Seq) : State :=
  { running .run with
    ledger := [(4, { st := .inFlight, kind := some .acquire, msg := Msg.of [(24, 1, 3), (41, 1, 2), (42, 1, 3), (44, 4, 8)] })]
    acqs := [(2, { item := some 4, started := true, turn := turn = 1, samples := List.replicate samples { word := 0, time := 0 } })]
    seqs := [(0, { x with targets := [19] })] }

theorem test_hyps_EdgesConversionsAndClassesAreTaken :
    Holds { running .run with clock := { lost := true } } (fun s => edgeComes s 5 (tdcOf s 5) 0 0 = false)
      ∧ Holds (running .run) (fun s => edgeComes s 5 (rearmed s 19 (tdcOf s 5)) 0 19 = true ∧ edgeComes s 5 (rearmed s 20 (tdcOf s 5)) 0 20 = false)
      ∧ Holds { running .run with hw := { running := true, count := 262144 }, tdcs := [(5, { mark := some 1 })] }
        (fun s => edgeComes s 5 (tdcOf s 5) 0x0E 0 = false)
      ∧ Holds { running .run with hw := { running := true, count := 262144 }, tdcs := [(5, { mark := some 0 })] }
        (fun s => edgeComes s 5 (tdcOf s 5) 0x0E 0 = true ∧ markNumber s 0 = 1 ∧ (tdcOf s 5).item = none)
      ∧ Holds (timing { closed := some 9 }) (fun s => (rearmed s 0 (tdcOf s 5)).armed = true ∧ (tdcOf s 5).closed ≠ some (stamp s))
      ∧ Holds (timing { closed := some 256 }) (fun s => (rearmed s 1 (tdcOf s 5)).armed = false ∧ (rearmed s 2 (tdcOf s 5)).armed = true
        ∧ edgeComes s 5 (rearmed s 1 (tdcOf s 5)) 0 1 = true)
      ∧ Holds (timed { e := 8, pcS := 254 }) (fun s => (tdcOf s 5).item.isSome = true ∧ edgeComes s 5 (tdcOf s 5) 0 3 = true
        ∧ rearmed s 3 (tdcOf s 5) = tdcOf s 5 ∧ (tdcOf s 5).armed = true
        ∧ (tdcOf s 5).pcS + 1 < 2 ^ (tdcOf s 5).e ∧ oneInput (tdcOf s 5) = false)
      ∧ Holds (timed { e := 8, pcS := 255, pcE := 255 }) (fun s => 2 ^ (tdcOf s 5).e ≤ (tdcOf s 5).pcS + 1
        ∧ 2 ^ (tdcOf s 5).e ≤ (tdcOf s 5).pcE + 1 ∧ (tdcOf s 5).sStamp = none ∧ (tdcOf s 5).eStamp = none)
      ∧ Holds (timed { sStamp := some 160 }) (fun s => edgeComes s 5 (tdcOf s 5) 1 0 = true ∧ 2 ^ (tdcOf s 5).e ≤ (tdcOf s 5).pcE + 1 ∧ oneInput (tdcOf s 5) = false
        ∧ (tdcOf s 5).sStamp = some 160 ∧ (tdcOf s 5).eStamp = none)
      ∧ Holds (timed { sStamp := some 160, index := 9 }) (fun s => edgeComes s 5 (tdcOf s 5) 1 19 = true
        ∧ (tdcOf s 5).item = some 4 ∧ itemTdcs (slotOf s 4).msg = [5] ∧ (tdcOf s 5).index + 1 = (tdcOf s 5).series
        ∧ openSlot (slotOf s 4) = true ∧ (slotOf s 4).own = false)
      ∧ Holds (timed { eStamp := some 160 }) (fun s => edgeComes s 5 (tdcOf s 5) 0 0 = true
        ∧ (tdcOf s 5).sStamp = none ∧ (tdcOf s 5).eStamp = some 160 ∧ oneInput (tdcOf s 5) = false)
      ∧ Holds { running .run with
          seqs := [(0, { turns := [(2, 1)], item := some 9, targets := [16, 19], tgt := [(16, { want := 2 })] })] }
        (fun s => hasTurn s false 2 3 = false ∧ hasTurn s false 2 0 = true)
      ∧ Holds (running .run) (fun s => hasTurn s false 2 3 = false ∧ hasTurn s true 47 1 = false)
      ∧ Holds { running .run with seqs := [(0, { item := some 9, lastIn := [(2, 4)], targets := [19], held := true, tgt := [(19, { want := 2 })] })] }
        (fun s => hasTurn s false 2 3 = false ∧ tabOk {} (seqOf s 0).tgt = true)
      ∧ Holds { acquiring 0 0 {} with acqs := [], seqs := [(0, { item := some 9, targets := [19], tgt := [(19, { want := 2 })] })] }
        (fun s => hasTurn s false 2 3 = true ∧ convTarget false 2 3 = 19 ∧ convSeq false 2 = 0 ∧ convKey false 2 = 2
          ∧ routineWants s false 0 19 3 = true ∧ acquireOn s 2 3 = none ∧ tabOk {} (seqOf s 0).tgt = true)
      ∧ Holds (acquiring 0 0 { item := some 9, tgt := [(19, { want := 2 })] })
        (fun s => hasTurn s false 2 3 = true ∧ routineWants s false 0 19 3 = true ∧ (acqOf s 2).turn = false
          ∧ tabOk {} (seqOf s 0).tgt = true)
      ∧ Holds (acquiring 6 0 {}) (fun s => hasTurn s false 2 3 = true ∧ routineWants s false 0 19 3 = false ∧ acquireOn s 2 3 = some 4
        ∧ (acqOf s 2).samples.length + 1 < samplesNeeded (slotOf s 4).msg ∧ (acqOf s 2).samples ≠ [])
      ∧ Holds (acquiring 7 0 {}) (fun s => hasTurn s false 2 3 = true ∧ routineWants s false 0 19 3 = false ∧ acquireOn s 2 3 = some 4
        ∧ samplesNeeded (slotOf s 4).msg ≤ (acqOf s 2).samples.length + 1 ∧ pBuffer (slotOf s 4).msg = 2 ∧ openSlot (slotOf s 4) = true ∧ (slotOf s 4).own = false)
      ∧ Holds (acquiring 0 1 { item := some 9, tgt := [(19, { want := 2 })] }) (fun s => hasTurn s false 2 3 = true
        ∧ routineWants s false 0 19 3 = true
        ∧ (acqOf s 2).turn = true ∧ acquireOn s 2 3 = some 4 ∧ pTrigger (slotOf s 4).msg = 0
        ∧ (acqOf s 2).samples.length + 1 < samplesNeeded (slotOf s 4).msg)
      ∧ Holds (running .idle) (fun s => s.press.item = none)
      ∧ Holds { running .idle with press := { item := some 4, left := [0, 1] } }
        (fun s => s.press.item = some 4 ∧ s.press.left = [0, 1] ∧ classFits s 0 (classValues s 0 []) = true)
      ∧ Holds { running .idle with press := { item := some 4, left := [1] } }
        (fun s => s.press.item = some 4 ∧ s.press.left = [1] ∧ classFits s 1 (classValues s 1 []) = true
          ∧ s.power.bypassPend = false)
      ∧ Holds { running .idle with press := { item := some 4, left := [5] } }
        (fun s => classFits s 5 (classValues s 5 [(2 ^ 23, 4097)]) = false ∧ ofUnit 5 0 (2 ^ 23) = true)
      ∧ Holds { running .idle with press := { item := some 4, left := [2] }
                                   ledger := [(4, { st := .inFlight, kind := some .cal, msg := Msg.of [(40, 2, 11)] })] }
        (fun s => classFits s 2 [(2303, 191)] = true ∧ classFits s 2 [(2303, 192)] = false
          ∧ ofUnit 2 (pUnit (slotOf s 4).msg) 2303 = true ∧ ofUnit 2 (pUnit (slotOf s 4).msg) 2304 = false)
      ∧ Holds { running .idle with chans := [(0, { riseNew := 5 })], corrs := [(0, {})] } (fun s => tabOk {} s.chans = true) := by
  and_intros
  all_goals exact holds (by decide +kernel)

/-- Channel 15 in a phase, for the item in slot 4 or none. -/
def moving (d : Dma) (l : Slot) : State :=
  { running .idle with
    ledger := [(4, { l with st := .inFlight, kind := some .transfer, msg := Msg.of [(24, 1, 4), (40, 1, 15)] })]
    dmas := [(15, d)]
    bufFree := 1 }

theorem test_hyps_DmaChannelsMoveTheirDescriptors :
    Holds (running .idle) (fun s => (dmaOf s 15).phase = .idle ∧ (dmaOf s 15).item = none)
      ∧ Holds { moving { phase := .fetching, item := some 4 } {} with mem := {} }
        (fun s => (dmaOf s 15).phase = .fetching ∧ answerOf s 0 64 0 ≠ 0 ∧ readBytes s [] 0 64 = none
          ∧ openSlot (slotOf s 4) = true ∧ (slotOf s 4).own = false)
      ∧ Holds (moving { phase := .fetching, item := some 4, addr := 2 ^ 30 } {})
        (fun s => answerOf s (2 ^ 30) 64 3 = 3 ∧ (slotOf s 4).flags &&& BitVec.ofNat 16 fFord = 0)
      ∧ Holds (moving { phase := .fetching, item := some 4, addr := 65536 } { flags := BitVec.ofNat 16 fFord })
        (fun s => answerOf s 65536 64 1 = 1 ∧ (slotOf s 4).flags &&& BitVec.ofNat 16 fFord ≠ 0)
      ∧ Holds (moving { phase := .fetching, item := some 4 } {}) (fun s => answerOf s 0 64 0 = 0
        ∧ (readBytes s [] 0 64).any (fun raw => (descTaken (dmaOf s 15) raw).ctrl.getLsbD 31 = false))
      ∧ Holds (holdsBytes [⟨3, 0x80⟩, ⟨4, 64⟩, ⟨9, 1⟩, ⟨17, 2⟩] (moving { phase := .fetching, item := some 4 } {}))
        (fun s => (readBytes s [] 0 64).any (fun raw => (descTaken (dmaOf s 15) raw).ctrl.getLsbD 31
          && descMisuse s 15 (descTaken (dmaOf s 15) raw) raw = none))
      ∧ Holds (holdsBytes [⟨3, 0x80⟩, ⟨4, 64⟩, ⟨9, 1⟩, ⟨16, 63⟩] (moving { phase := .fetching, item := some 4 } {}))
        (fun s => (readBytes s [] 0 64).any (fun raw => (descTaken (dmaOf s 15) raw).ctrl.getLsbD 31
          && descMisuse s 15 (descTaken (dmaOf s 15) raw) raw = some .dmaOverlap))
      ∧ Holds (moving { phase := .moving, item := some 4, asked := 63, total := 64, reads := List.replicate 63 (0, 1) } {})
        (fun s => (dmaOf s 15).asked < (dmaOf s 15).total ∧ 0 < s.bufFree ∧ (dmaOf s 15).reads.length < 64 ∧ dmaFirst s 15 = true)
      ∧ Holds (moving { phase := .moving, item := some 4, asked := 63, total := 64, failed := true } {})
        (fun s => (dmaOf s 15).asked < (dmaOf s 15).total ∧ (dmaOf s 15).failed = true)
      ∧ Holds { moving {} {} with dmas := [(14, { phase := .moving, total := 64 }), (15, { phase := .moving, total := 64 })] }
        (fun s => dmaFirst s 15 = false ∧ dmaFirst s 14 = true)
      ∧ Holds (moving { phase := .moving, item := some 4, asked := 64, total := 64 } {})
        (fun s => ¬ (dmaOf s 15).asked < (dmaOf s 15).total ∧ (dmaOf s 15).reads = [] ∧ (dmaOf s 15).beats = [])
      ∧ Holds (moving { phase := .moving, item := some 4, asked := 64, total := 64, reads := [(0, 64)] } {})
        (fun s => (dmaOf s 15).phase = .moving ∧ (dmaOf s 15).reads = [(0, 64)])
      ∧ Holds (moving { phase := .moving, item := some 4, asked := 64, total := 64, dst := 512, beats := [(0, 64)] } {})
        (fun s => (dmaOf s 15).beats = [(0, 64)] ∧ answerOf s 512 64 0 = 0 ∧ (dmaOf s 15).failed = false
          ∧ (dmaOf s 15).gather = [])
      ∧ Holds (moving { phase := .moving, item := some 4, asked := 64, total := 64, dst := 65536, beats := [(0, 64)] } {})
        (fun s => (dmaOf s 15).beats = [(0, 64)] ∧ answerOf s 65536 64 0 = 1 ∧ (dmaOf s 15).failed = false)
      ∧ Holds (moving { phase := .moving, item := some 4, asked := 64, total := 64, dst := 65536, beats := [(0, 64)], failed := true } {})
        (fun s => (dmaOf s 15).beats = [(0, 64)] ∧ (dmaOf s 15).failed = true ∧ (dmaOf s 15).gather = [])
      ∧ Holds (moving { phase := .writeback, item := some 4, status := 2 } {})
        (fun s => (dmaOf s 15).phase = .writeback ∧ (dmaOf s 15).status ≠ 0 ∧ answerOf s 32 32 0 = 0)
      ∧ Holds (moving { phase := .writeback, item := some 4, addr := 2 ^ 30 } {})
        (fun s => (dmaOf s 15).phase = .writeback ∧ answerOf s (2 ^ 30 + 32) 32 1 = 1)
      ∧ Holds (moving { phase := .writeback, item := some 4, ctrl := 0x20000000 } {})
        (fun s => dmaQsrc (dmaOf s 15) = true ∧ (dmaOf s 15).bad = false ∧ (dmaOf s 15).status ≠ 4 ∧ dmaPeek (dmaOf s 15) = false
          ∧ answerOf s 32 32 0 = 0)
      ∧ Holds (moving { phase := .writeback, item := some 4, ctrl := 0x30000000 } {})
        (fun s => dmaQsrc (dmaOf s 15) = true ∧ (dmaOf s 15).bad = false ∧ (dmaOf s 15).status ≠ 4 ∧ dmaPeek (dmaOf s 15) = true)
      ∧ Holds (moving { phase := .writeback, item := some 4, ctrl := 0x40000000 } {})
        (fun s => answerOf s 32 32 0 = 0 ∧ (dmaOf s 15).status = 0 ∧ dmaLast (dmaOf s 15) = true
          ∧ (dmaOf s 15).item = some 4 ∧ (slotOf s 4).flags &&& BitVec.ofNat 16 fFord = 0)
      ∧ Holds (moving { phase := .writeback, item := some 4, ctrl := 0x40000000 } { flags := BitVec.ofNat 16 fFord, cause := some 1 })
        (fun s => (slotOf s 4).flags &&& BitVec.ofNat 16 fFord ≠ 0 ∧ (slotOf s 4).cause = some 1)
      ∧ Holds (moving { phase := .writeback, item := some 4 } { cause := some 2 })
        (fun s => answerOf s 32 32 0 = 0 ∧ dmaLast (dmaOf s 15) = false ∧ (slotOf s 4).cause.isSome = true)
      ∧ Holds (moving { phase := .writeback, item := some 4 } {})
        (fun s => dmaLast (dmaOf s 15) = false ∧ (slotOf s 4).cause = none ∧ (dmaOf s 15).status = 0)
      ∧ Holds (moving { phase := .stopping } {}) (fun s => (dmaOf s 15).phase = .stopping)
      ∧ Holds { moving { phase := .stopping, reads := [(0, 64)] } {} with
          fabric := { outst := [{ tag := 7, cls := 0x20, addr := 0, dma := some 15 }] } }
        (fun s => (dmaOf s 15).phase = .stopping ∧ s.fabric.outst ≠ [])
      ∧ Holds (moving { phase := .moving, item := some 4 } {}) (fun s => (dmaOf s 15).phase ≠ .stopping
        ∧ (dmaOf s 15).item = some 4 ∧ s.dev.mode ≠ .bypass)
      ∧ Holds { moving { phase := .moving, item := some 4 } { cause := some 2 } with dev := { mode := .bypass } }
        (fun s => (dmaOf s 15).item = some 4 ∧ s.dev.mode = .bypass ∧ (slotOf s 4).cause.isSome = true) := by
  and_intros
  all_goals exact holds (by decide +kernel)

/-- A DPS item on channel 47, target 1 V, slew 1 mV/µs, in slot 4. -/
def ramping (set : Nat) (l : Slot) : State :=
  { running .run with
    ledger := [(4, { l with
      st := .inFlight, kind := some .dps
      msg := Msg.of [(24, 1, 7), (40, 8, 2 ^ 47), (48, 4, 1000000), (52, 4, 1000)] })]
    dps := [(47, { set := set, enabled := true })]
    resvs := [{ slot := 4, chan := 47, amps := 0, power := 0 }] }

theorem test_hyps_SuppliesRampWithinTheBudget :
    Holds (ramping 0 {}) (fun s => (slotOf s 4).budget = false ∧ (slotOf s 4).armed = false ∧ admitted s 4 = true
        ∧ (slotOf s 4).cause = none ∧ dpsList (pDpsMask (slotOf s 4).msg) = [47]
        ∧ towards (dpsOf s 47).set (pTarget (slotOf s 4).msg * 2 ^ 32) (rampStep s (pSlew (slotOf s 4).msg))
          ≠ pTarget (slotOf s 4).msg * 2 ^ 32 ∧ (dpsOf s 47).strobed = false)
      ∧ Holds { ramping 0 {} with dps := [(47, { enabled := true, strobed := true })] } (fun s => admitted s 4 = true
        ∧ (slotOf s 4).cause = none ∧ (dpsOf s 47).strobed = true)
      ∧ Holds (ramping 0 { armed := true }) (fun s => (slotOf s 4).armed = true)
      ∧ Holds (ramping (1000000 * 2 ^ 32) {}) (fun s => admitted s 4 = true ∧ (slotOf s 4).cause = none
        ∧ towards (dpsOf s 47).set (pTarget (slotOf s 4).msg * 2 ^ 32) (rampStep s (pSlew (slotOf s 4).msg))
          = pTarget (slotOf s 4).msg * 2 ^ 32)
      ∧ Holds (ramping 0 { cause := some 2 }) (fun s => admitted s 4 = true ∧ (slotOf s 4).cause = some 2)
      ∧ Holds { ramping 0 { budget := true } with resvs := [] } (fun s => (slotOf s 4).st = .inFlight
        ∧ (slotOf s 4).kind = some .dps ∧ (slotOf s 4).budget = true ∧ admitted s 4 = false
        ∧ openSlot (slotOf s 4) = true ∧ (slotOf s 4).own = false)
      ∧ Holds (running .idle) (fun s => withinBudget s [] = true ∧ s.dev.disarming = false ∧ (dpsOf s 47).discharging = false)
      ∧ Holds { running .run with dps := (List.range 12).map fun n => (n, { enabled := true, load := 1100000 }) }
        (fun s => withinBudget s [] = false)
      ∧ Holds { running .armed with dev := { mode := .armed, disarming := true }, dps := [(47, { enabled := true })] }
        (fun s => s.dev.disarming = true ∧ (dpsOf s 47).enabled = true ∧ disarmRamped (dpsOf s 47) = true)
      ∧ Holds { running .armed with
          dev := { mode := .armed, disarming := true }
          dps := [(47, { enabled := true, set := 50001 * 2 ^ 32, goal := some 0 })] }
        (fun s => (dpsOf s 47).enabled = true ∧ disarmRamped (dpsOf s 47) = false)
      ∧ Holds { running .armed with
          dev := { mode := .armed, disarming := true }
          dps := [(47, { enabled := true, set := 50001 * 2 ^ 32, goal := some 0, dropout := true })] }
        (fun s => (dpsOf s 47).enabled = true ∧ disarmRamped (dpsOf s 47) = true)
      ∧ Holds { running .armed with dev := { mode := .armed, disarming := true }, dps := [(47, { discharging := true })] }
        (fun s => s.dev.disarming = true ∧ (dpsOf s 47).discharging = true ∧ (dpsOf s 47).enabled = false
          ∧ ((List.range 48).all fun m => m = 47 || (! (dpsOf s m).enabled && ! (dpsOf s m).discharging)) = true) := by
  and_intros
  all_goals exact holds (by decide +kernel)

/-- A LANE item of a test on lane 111, in slot 4, whose first UI has come. -/
def named (test bits : Nat) (x : Lane) : State :=
  { running .run with
    ledger := [(4, { st := .inFlight, kind := some .lane,
                     msg := Msg.of [(24, 1, 8), (40, 1, 3), (41, 1, test), (44, 4, 2 ^ 27), (48, 8, bits)] })]
    lanes := [(111, { x with item := some 4 })] }
def testing (test bits : Nat) (x : Lane) : State := named test bits { x with begun := true }

/-- n class events of a lane. -/
def classEvents (n : Nat) : List LaneEv := List.replicate n { time := 0, cls := 0, inv := false }

theorem test_hyps_LanesRunTheirTests :
    Holds (running .run) (fun s => laneRun s 111 = none ∧ laneHeld s 111 = none ∧ (laneOf s 111).item = none
        ∧ unitState s (unitLg 3) ≠ .active)
      ∧ Holds { running .run with units := [(unitLg 3, { st := .active })] } (fun s => laneHeld s 111 = none
        ∧ unitState s (unitLg 3) = .active)
      ∧ Holds (testing 0 100 { done := true }) (fun s => laneRun s 111 = none ∧ laneHeld s 111 = none ∧ (laneOf s 111).item.isSome = true)
      ∧ Holds (named 0 100 {}) (fun s => laneRun s 111 = none ∧ laneHeld s 111 = some (4, 0) ∧ (laneOf s 111).everLock = false
        ∧ (laneOf s 111).locked = false)
      ∧ Holds (named 1 0 { everLock := true }) (fun s => laneHeld s 111 = some (4, 1) ∧ (laneOf s 111).everLock = true)
      ∧ Holds (testing 0 100 {}) (fun s => laneRun s 111 = some (4, 0) ∧ (laneOf s 111).sync = false
        ∧ laneList (slotOf s 4).msg = [111])
      ∧ Holds (testing 0 100 { locked := true, everLock := true }) (fun s => laneRun s 111 = some (4, 0) ∧ laneHeld s 111 = some (4, 0)
        ∧ (laneOf s 111).locked = true ∧ (laneOf s 111).everLock = true ∧ (laneOf s 111).synced = false
        ∧ pBits (slotOf s 4).msg = 100 ∧ openSlot (slotOf s 4) = true ∧ (slotOf s 4).own = false)
      ∧ Holds (testing 0 0 { everLock := true }) (fun s => laneRun s 111 = some (4, 0) ∧ (laneOf s 111).everLock = true
        ∧ (laneOf s 111).synced = false ∧ pBits (slotOf s 4).msg = 0)
      ∧ Holds (testing 0 100 { locked := true, everLock := true, sync := true, synced := true, bits := 36 }) (fun s =>
        laneRun s 111 = some (4, 0) ∧ (laneOf s 111).sync = true ∧ (laneOf s 111).synced = true
          ∧ pBits (slotOf s 4).msg = (laneOf s 111).bits + 64)
      ∧ Holds (testing 1 0 {}) (fun s => laneRun s 111 = some (4, 1))
      ∧ Holds (testing 2 100 { points := List.replicate 2047 0 }) (fun s => laneRun s 111 = some (4, 2)
        ∧ 2048 ≤ (laneOf s 111).points.length + 1)
      ∧ Holds (testing 3 0 { events := classEvents 15, seen := some 8 }) (fun s => laneRun s 111 = some (4, 3)
        ∧ (laneOf s 111).events.length < 16 ∧ (laneOf s 111).seen = some 8)
      ∧ Holds (testing 3 0 { events := classEvents 16 }) (fun s => laneRun s 111 = some (4, 3)
        ∧ ¬ (laneOf s 111).events.length < 16) := by
  and_intros
  all_goals exact holds (by decide +kernel)

/-! Hypotheses of the statements about the Trellis. -/

/-- Port W in a state, with a neighbour known. -/
def porting (q : PortState) : State :=
  { running .idle with fabric := { ports := [(0, { q with nbKnown := true, nbM := 0x5000000, nbLanes := 15, nbAddr := 63 })] } }

/-- A control packet of a class with its CRC. -/
def sealed (k : Packet) : Packet := { k with crc := packetCrc k }

theorem test_hyps_PortsTrainAndKeepTheirLinks :
    Holds (porting { st := .up }) (fun s => portUp (portOf s 0) = true ∧ inReset s = false ∧ (portOf s 0).replay = []
        ∧ (portOf s 0).ackDue = false ∧ (portOf s 0).nakDue = false ∧ (portOf s 0).shown = (portOf s 0).freed
        ∧ (portOf s 0).waiting = [])
      ∧ Holds (porting { st := .degraded, replay := [(4, packet 1 5, packet 1 5)], nakDue := true })
        (fun s => portUp (portOf s 0) = true ∧ (portOf s 0).replay ≠ [] ∧ (portOf s 0).nakDue = true)
      ∧ Holds (porting { st := .training }) (fun s => (portOf s 0).st = .training ∧ portUp (portOf s 0) = false
        ∧ mayTrain s (portOf s 0) 0xF = true ∧ mayTrain s (portOf s 0) 0x7 = true ∧ mayTrain s (portOf s 0) 0x3 = false
        ∧ (portOf s 0).nbFull = false)
      ∧ Holds (porting { st := .down }) (fun s => (portOf s 0).st = .down ∧ inReset s = false)
      ∧ Holds { porting { st := .down } with dev := { mode := .boot }, boot := { wait := .measure } }
        (fun s => (portOf s 0).st = .down ∧ s.dev.mode = .boot ∧ s.boot.wait = .measure ∧ inReset s = false)
      ∧ Holds { porting { st := .training, nbFull := true } with dev := { mode := .boot }, boot := { wait := .train } }
        (fun s => mayTrain s (portOf s 0) 0xF = true ∧ ((portOf s 0).nbFull && adjacent (ownAddr s) (portOf s 0).nbAddr.toNat 0) = true
          ∧ s.dev.mode = .boot ∧ s.boot.wait = .train)
      ∧ Holds { porting { st := .up, freed := [(0, 1)] } with power := { (running .idle).power with fordDrain := true } }
        (fun s => s.power.fordDrain = true ∧ (portOf s 0).shown ≠ (portOf s 0).freed)
      ∧ Holds (porting { st := .up, retries := 5, replay := [(4, packet 1 5, packet 1 5)] }) (fun s => portUp (portOf s 0) = true
        ∧ (portOf s 0).waiting = [] ∧ ackCovers 0 (packet 1 5) = false)
      ∧ Holds (porting { st := .bypassed }) (fun s => (portOf s 0).st ≠ .training ∧ (portOf s 0).st ≠ .down)
      ∧ (sealed (packet 0x7E 0)).cls = 0x7E#8 ∧ (sealed (packet 0x7E 0)).crc = packetCrc (sealed (packet 0x7E 0))
      ∧ (sealed (packet 0x7F 0)).cls = 0x7F#8 ∧ (sealed (packet 0x7F 0)).crc = packetCrc (sealed (packet 0x7F 0))
      ∧ (packet 0x20 5).cls ≠ 0 ∧ linkClass (packet 0x20 5) = false ∧ bcastClass (packet 0x20 5) = false
      ∧ classKnown (packet 0x20 5).cls.toNat = true ∧ (packet 0x20 5).dest.toNat % 2048 ≠ ownAddr (running .idle)
      ∧ classKnown (packet 0x77 5).cls.toNat = false ∧ linkClass (packet 0x77 5) = false
      ∧ inOrder {} (sealed { packet 0x20 5 with lseq := 0 }) = true ∧ inOrder {} (packet 0x20 5) = false
      ∧ (packet 0x20 0).dest.toNat % 2048 = ownAddr (running .idle)
      ∧ routable (porting { st := .up }) (enterRing (porting { st := .up }) (inputOf 1 (packet 0x20 63)) (packet 0x20 63)) = true
      ∧ routable (porting { st := .down }) (enterRing (porting { st := .down }) (inputOf 1 (packet 0x20 63)) (packet 0x20 63)) = false
      ∧ answerClass 0x20 = some 0x21 ∧ answerClass 0x21 = none := by
  and_intros
  all_goals first
    | exact holds (by decide +kernel)
    | exact by decide +kernel

/-- R313: CRC-32C of the nine bytes of "123456789" is 0xE3069283 (the polynomial's published check value). -/
theorem test_crc32c_check_value :
    crc32c [0x31, 0x32, 0x33, 0x34, 0x35, 0x36, 0x37, 0x38, 0x39] = 0xE3069283 := by decide +kernel

/-- What is left of s after packet k is taken at port W. -/
def taken (s : State) (k : Packet) : State :=
  takeIn (modPort s 0 fun q => { q with rxSeq := q.rxSeq + 1, nakDue := false }) 0 k

/-- A packet in order for node 0, with its CRC. -/
def arriving (cls : Nat) (f : Packet → Packet) : Packet :=
  sealed (f { packet (BitVec.ofNat 8 cls) 0 with lseq := 0 })

/-- The packet arrives at port W in s, whose tables are canonical, and P holds of what is left. -/
structure Comes (cls : Nat) (k : Packet) (s : State) (P : State → Bool) : Prop where
  arrives : Arrives cls .west k s (taken s k)
  tabs : TabsWf s
  also : P (taken s k) = true

theorem comes {cls : Nat} {k : Packet} {s : State} {P : State → Bool}
    (h : (decide (k.cls.toNat = cls) && decide (k.dest.toNat % 2048 = ownAddr s) && portUp (portOf s 0) && ! inReset s
      && inOrder (portOf s 0) k && tabsOk s && P (taken s k)) = true) : Comes cls k s P := by
  simp only [Bool.and_eq_true, Bool.not_eq_true', decide_eq_true_eq] at h
  exact { arrives := by simp only [Arrives, h, taken, portIx, and_self], tabs := tabsWf_of_ok (by simp only [h]), also := h.2 }

/-- Port W is up, and the fabric is f else. -/
def linked (f : Fabric) : State :=
  { running .idle with fabric := { f with ports := [(0, { st := .up, lanes := 15, nbKnown := true, nbAddr := 63 })] } }

/-- An outstanding request of TAG 7. -/
def waitingFor (o : Outst) : State := linked { outst := [{ o with tag := 7 }] }

theorem test_hyps_PacketsForThisNodeAreAnswered :
    Comes 0x01 (arriving 0x01 fun k => { k with arg1 := 9 }) (linked {})
        (fun u => regReachable u (arriving 0x01 fun k => { k with arg1 := 9 }) = false)
      ∧ Comes 0x01 (arriving 0x01 fun k => { k with arg0 := 0x68, arg1 := 1 }) (linked {})
        (fun u => regReachable u (arriving 0x01 fun k => { k with arg0 := 0x68, arg1 := 1 }) = true)
      ∧ Comes 0x02 (arriving 0x02 fun k => { k with arg0 := 0x68, arg1 := 1 }) (linked {}) (fun _ => true)
      ∧ Comes 0x02 (arriving 0x02 fun k => { k with arg0 := 0x68, arg1 := 1, data := zeros 32 }) (linked {})
        (fun u => regReachable u (arriving 0x02 fun k => { k with arg0 := 0x68, arg1 := 1, data := zeros 32 }) = true)
      ∧ Comes 0x20 (arriving 0x20 fun k => { k with arg0 := 65536, arg1 := 32 }) (linked {})
        (fun u => homeRefuses u 65536 32 true = some 1)
      ∧ Comes 0x20 (arriving 0x20 fun k => { k with arg0 := 65504, arg1 := 32 }) (linked {})
        (fun u => homeRefuses u 65504 32 true = none ∧ (readBytes u [] 65504 32).isSome = true)
      ∧ Comes 0x20 (arriving 0x20 fun k => { k with arg0 := 65504, arg1 := 32 }) { linked {} with levee := { poison := [8188] } }
        (fun u => homeRefuses u 65504 32 true = none ∧ readBytes u [] 65504 32 = none)
      ∧ Comes 0x22 (arriving 0x22 fun k => { k with arg0 := 0, arg1 := 32 }) (linked {}) (fun u => homeRefuses u 0 32 false = some 2)
      ∧ Comes 0x22 (arriving 0x22 fun k => { k with arg0 := 65504, arg1 := 32, data := zeros 32 }) (linked {})
        (fun u => homeRefuses u 65504 32 true = none ∧ localOf u 65504 = some 65504 ∧ Memory.wf u.mem.bytes = true)
      ∧ Comes 0x10 (arriving 0x10 fun k => { k with arg0 := 2 }) (linked {}) (fun _ => true)
      ∧ Comes 0x10 (arriving 0x10 fun k => { k with arg0 := 1 }) (linked { taken := [(1, [7])] })
        (fun u => takenBefore u (arriving 0x10 fun k => { k with arg0 := 1 }) = true)
      ∧ Comes 0x10 (arriving 0x10 id) (linked {}) (fun u => takenBefore u (arriving 0x10 id) = false ∧ wrongPath u 0 = true ∧ tabOk {} u.mbs = true)
      ∧ Comes 0x10 (arriving 0x10 fun k => { k with arg0 := 1 }) { linked {} with mbs := [(1, { reqHead := 256 })] }
        (fun u => wrongPath u 1 = false ∧ ringRoom u 1 = false)
      ∧ Comes 0x10 (arriving 0x10 fun k => { k with arg0 := 1 }) { linked {} with mbs := [(1, { reqHead := 255 })] }
        (fun u => wrongPath u 1 = false ∧ ringRoom u 1 = true ∧ tabOk 0 (mbOf u 1).req = true)
      ∧ Comes 0x11 (arriving 0x11 id) (linked {}) (fun _ => true)
      ∧ Comes 0x12 (arriving 0x12 fun k => { k with status := 1 }) (linked {}) (fun _ => true)
      ∧ Comes 0x12 (arriving 0x12 id) (linked { copies := [{ pkt := arriving 0x10 id }] }) (fun _ => true)
      ∧ Comes 0x03 (arriving 0x03 id) (linked {}) (fun u => outstOf u 7 [0x01, 0x02] = none)
      ∧ Comes 0x03 (arriving 0x03 id) (waitingFor { tag := 7, cls := 2, addr := 0 }) (fun u => (outstOf u 7 [0x01, 0x02]).isSome = true)
      ∧ Comes 0x21 (arriving 0x21 id) (linked {}) (fun u => outstOf u 7 [0x20] = none)
      ∧ Comes 0x21 (arriving 0x21 id) (waitingFor { tag := 7, cls := 0x20, addr := 64 })
        (fun u => outstOf u 7 [0x20] = some { tag := 7, cls := 0x20, addr := 64 })
      ∧ Comes 0x21 (arriving 0x21 fun k => { k with status := 1 }) (waitingFor { tag := 7, cls := 0x20, addr := 64, slot := some 4 })
        (fun u => outstOf u 7 [0x20] = some { tag := 7, cls := 0x20, addr := 64, slot := some 4 })
      ∧ Comes 0x21 (arriving 0x21 id) { waitingFor { tag := 7, cls := 0x20, addr := 64, dma := some 15 } with
          dmas := [(15, { phase := .fetching, addr := 64 })] }
        (fun u => (dmaOf u 15).phase = .fetching ∧ (dmaOf u 15).addr = 64)
      ∧ Comes 0x23 (arriving 0x23 id) { waitingFor { tag := 7, cls := 0x22, addr := 96, dma := some 15 } with
          dmas := [(15, { phase := .moving, dst := 64, beats := [(0, 32), (32, 32)] })] }
        (fun u => (dmaOf u 15).beats.find? (fun e => addr41 (dmaOf u 15).dst + e.1 = 96) = some (32, 32) ∧ (dmaOf u 15).gather = [])
      ∧ Comes 0x23 (arriving 0x23 id) { waitingFor { tag := 7, cls := 0x22, addr := 96 } with
          dmas := [(15, { phase := .writeback, addr := 64 })] }
        (fun u => writebackAt u 96 = some 15)
      ∧ Comes 0x21 (arriving 0x21 id) { waitingFor { tag := 7, cls := 0x20, addr := 96, dma := some 15 } with
          dmas := [(15, { phase := .moving, src := 64, reads := [(0, 32), (32, 32)] })] }
        (fun u => (dmaOf u 15).reads.find? (fun e => addr41 (dmaOf u 15).src + e.1 = 96) = some (32, 32))
      ∧ Comes 0x23 (arriving 0x23 id) (linked {}) (fun u => outstOf u 7 [0x22] = none)
      ∧ Comes 0x23 (arriving 0x23 id) (waitingFor { tag := 7, cls := 0x22, addr := 64 }) (fun u => (outstOf u 7 [0x22]).isSome = true)
      ∧ (arriving 0x01 id).cls.toNat ≠ 2 ∧ (packet 1 5).dest.toNat % 2048 ≠ ownAddr (linked {})
      ∧ inOrder (portOf (linked {}) 0) (packet 1 0) = false ∧ portUp (portOf (linked {}) 1) = false
      ∧ chooseOut (linked {}) (enterRing (linked {}) 8 (packet 0x12 63)) = some (0, packet 0x12 63)
      ∧ outstOf (linked {}) 7 [0x01, 0x02, 0x20, 0x22] = none
      ∧ outstOf (waitingFor { tag := 7, cls := 0x22, addr := 64 }) 7 [0x01, 0x02, 0x20, 0x22]
        = some { tag := 7, cls := 0x22, addr := 64 }
      ∧ (linked { copies := [{ pkt := arriving 0x10 id }] }).fabric.copies.find? (fun c => c.pkt.tag = 7 && ! c.got)
        = some { pkt := arriving 0x10 id } := by
  and_intros
  all_goals first
    | exact comes (by decide +kernel)
    | exact by decide +kernel

/-- A node that waits for an image from the fabric. -/
def awaiting (b : Boot) : State :=
  { linked {} with boot := b, dev := { mode := .boot }, levee := {} }

theorem test_hyps_TimeBroadcastAndBootPacketsAreTaken :
    Comes 0x30 (arriving 0x30 id) (linked {}) (fun _ => true)
      ∧ Comes 0x31 (arriving 0x31 id) (linked {}) (fun u => (portOf u 0).xT1 = none ∧ measuring u 0 = false)
      ∧ Comes 0x31 (arriving 0x31 id) { linked {} with fabric := {
          measMask := 1, measN := 2, ports := [(0, { st := .up, lanes := 15, xT1 := some 9, xTag := some 7, xDone := 0 })] } }
        (fun u => (portOf u 0).xT1 = some 9 ∧ measuring u 0 = true ∧ (portOf u 0).xTag = some 7
          ∧ (portOf u 0).xDone + 1 < u.fabric.measN)
      ∧ Comes 0x31 (arriving 0x31 id) { linked {} with fabric := {
          measMask := 1, measN := 2, ports := [(0, { st := .up, lanes := 15, xT1 := some 9, xTag := some 6 })] } }
        (fun u => measuring u 0 = true ∧ (portOf u 0).xTag ≠ some (arriving 0x31 id).tag)
      ∧ Comes 0x50 (arriving 0x50 id) (linked {}) (fun u => u.fabric.serve = none)
      ∧ Comes 0x50 (arriving 0x50 id) (linked { serve := some { port := .west, addr := 0, len := 64 } })
        (fun u => u.fabric.serve = some { port := .west, addr := 0, len := 64 })
      ∧ Comes 0x51 (arriving 0x51 id) (linked {}) (fun u => u.dev.mode ≠ .boot)
      ∧ Comes 0x51 (arriving 0x51 id) (awaiting { wait := .request, phase := .failed })
        (fun u => u.dev.mode = .boot ∧ u.boot.wait = .request ∧ u.boot.phase = .failed)
      ∧ Comes 0x52 (arriving 0x52 id) (awaiting { wait := .request, phase := .receiving, source := some 2 })
        (fun u => u.boot.source ≠ some ((arriving 0x52 id).src.setWidth 11))
      ∧ Comes 0x52 (arriving 0x52 fun k => { k with arg0 := 33 }) (awaiting { wait := .request, phase := .receiving, source := some 1 })
        (fun u => u.boot.source = some ((arriving 0x52 id).src.setWidth 11) ∧ u.dev.mode = .boot ∧ u.boot.phase = .receiving)
      ∧ Comes 0x52 (arriving 0x52 fun k => { k with arg0 := 160, data := zeros 32 })
          (awaiting { wait := .request, phase := .receiving, source := some 1, offered := 192, covered := [0, 1, 2, 3, 4] })
        (fun u => coveredTo (storePiece u.boot 160 (zeros 32)) 128 = coveredTo u.boot 128
          ∧ coveredTo (storePiece u.boot 160 (zeros 32)) 192 = true)
      ∧ Comes 0x52 (arriving 0x52 fun k => { k with arg0 := 96, data := zeros 32 })
          (awaiting { wait := .request, phase := .receiving, source := some 1, offered := 192, covered := [0, 1, 2] })
        (fun u => coveredTo (storePiece u.boot 96 (zeros 32)) 128 = true ∧ coveredTo u.boot 128 = false
          ∧ headerError (bootBytes { u with boot := storePiece u.boot 96 (zeros 32) } 128) = some 2)
      ∧ Comes 0x53 (arriving 0x53 id) (linked { serve := some { port := .west, addr := 0, len := 64, to_ := some 1 } })
        (fun u => u.fabric.serve.any fun v => v.to_ = some (arriving 0x53 id).src)
      ∧ Comes 0x53 (arriving 0x53 id) (linked {}) (fun u => u.fabric.serve = none)
      ∧ Holds { linked {} with mbs := [(1, { reqHead := 255 })] } (fun s =>
        let k := arriving 0x40 fun k => { k with arg0 := 1, route := 0x0B }
        k.cls.toNat = 0x40 ∧ k.route.getLsbD 3 = true ∧ inOrder (portOf s 0) k = true ∧ inReset s = false
          ∧ portUp (portOf s 0) = true ∧ boxOf k = 1 ∧ wrongPath s 1 = false ∧ ringRoom s 1 = true
          ∧ tabOk 0 (mbOf s 1).req = true ∧ ((List.range 4).all fun r => (portOf s r).ingress = []) = true)
      ∧ Holds { linked {} with mbs := [(1, { reqHead := 256 })] } (fun s => wrongPath s 1 = false ∧ ringRoom s 1 = false)
      ∧ Holds { linked {} with hw := { running := true, syncMode := 2 } } (fun s =>
        let k := arriving 0x32 fun k => { k with route := 0x0B }
        k.cls.toNat = 0x32 ∧ k.route.getLsbD 3 = true ∧ inOrder (portOf s 0) k = true ∧ portUp (portOf s 0) = true
          ∧ s.hw.syncMode ≠ 0)
      ∧ (arriving 0x32 id).route.getLsbD 3 = false ∧ portUp (portOf (linked {}) 2) = false
      ∧ inOrder (portOf (linked {}) 0) (packet 0x40 0) = false := by
  and_intros
  all_goals first
    | exact comes (by decide +kernel)
    | exact holds (by decide +kernel)
    | exact by decide +kernel

end Sys2Proof.Tests
end

section
/-! PROOFS. The dispatch of an item (R64, R91, R52): what takeItem and armItem leave in the item's slot. -/

namespace Sys2Proof.Machine

/-- A command whose meaning answers t, and keeps to its parts, completes. -/
theorem Completes.of_next {c : Instr} {s t : State} {ps : List Part} {P : State → Prop} (he : exec c s = .next t)
    (hp : P t) (ht : TouchOut ps s (exec c s)) : Completes c s ps P := ⟨t, he, hp, ht.next_same t he⟩

theorem slotOf_ledger {s t : State} (h : t.ledger = s.ledger) (i : Nat) : slotOf t i = slotOf s i := by
  unfold slotOf; rw [h]

theorem stamp_hw {s t : State} (h : t.hw = s.hw) : stamp t = stamp s := by unfold stamp; rw [h]

theorem canDispatch_kind {s : State} {i : Nat} {k : Kind} (h : canDispatch s i k = true) :
    (slotOf s i).kind = some k := by
  unfold canDispatch at h
  simp only [Bool.and_eq_true, decide_eq_true_eq] at h
  tauto

/-! takeItem. -/

section

variable {s : State} {i : Nat} (hw : TabWf {} s.ledger)
include hw

theorem takeItem_slot : slotOf (takeItem s i) i = { slotOf s i with st := .inFlight, tStart := stamp s } := by
  have e := slotOf_modSlot_same s i (fun l => { l with st := .inFlight, tStart := stamp s }) hw
  unfold takeItem
  dsimp only
  split
  · rw [slotOf_ledger ((setMode_touch ..).ledger), e]
  · exact e

theorem takeItem_wf : TabWf {} (takeItem s i).ledger := by
  unfold takeItem
  dsimp only
  split
  · rw [(setMode_touch ..).ledger]; exact modSlot_wf hw _ _
  · exact modSlot_wf hw _ _

/-- ARMED becomes RUN for a kind other than CAL and TRANSFER (Table 4.2). -/
theorem takeItem_mode {k : Kind} (hk : (slotOf s i).kind = some k) : (takeItem s i).dev.mode =
    if s.dev.mode = .armed ∧ k ≠ .cal ∧ k ≠ .transfer then .run else s.dev.mode := by
  have e := slotOf_modSlot_same s i (fun l => { l with st := .inFlight, tStart := stamp s }) hw
  have hwork : working (slotOf (modSlot s i fun l => { l with st := .inFlight, tStart := stamp s }) i) = true
      ↔ k ≠ .cal ∧ k ≠ .transfer := by
    rw [e]; unfold working inFlight; simp [hk]
  unfold takeItem
  simp only [hwork, modSlot_dev]
  by_cases h : s.dev.mode = .armed ∧ k ≠ .cal ∧ k ≠ .transfer
  · rw [if_pos h, if_pos ⟨h.2, h.1⟩, setMode_mode]
  · rw [if_neg h, if_neg fun g => h ⟨g.2, g.1⟩, modSlot_dev]

/-- CAL leaves the device as it is. -/
theorem takeItem_cal (hk : (slotOf s i).kind = some .cal) : (takeItem s i).dev = s.dev := by
  have e := slotOf_modSlot_same s i (fun l => { l with st := .inFlight, tStart := stamp s }) hw
  unfold takeItem
  dsimp only
  rw [if_neg]
  · rfl
  · rw [e]; unfold working inFlight; simp [hk]

end

theorem takeItem_pauseReq (s : State) (i : Nat) : (takeItem s i).dev.pauseReq = s.dev.pauseReq := by
  unfold takeItem setMode
  dsimp only
  split
  · split <;> rfl
  · rfl

/-! armItem (R52). -/

/-- Does the action take place at once? -/
theorem armItem_now (s : State) (i : Nat) : (armItem s i).2 = actsNow s i := by
  unfold armItem actsNow
  dsimp only
  split
  · next h => simp [h]
  · next h =>
    split
    · next h' => split <;> simp_all
    · next h' => simp_all

/-- Arming changes only flags of the slot, and `armed` where the action has to wait. -/
theorem armItem_slot {s : State} {i : Nat} (hw : TabWf {} s.ledger) : ∃ fl, slotOf (armItem s i).1 i =
    { slotOf s i with flags := fl, armed := (slotOf s i).armed || ! actsNow s i } := by
  have same := fun f => slotOf_modSlot_same s i f hw
  rw [← armItem_now]
  unfold armItem
  dsimp only
  split
  · exact ⟨(slotOf s i).flags, by simp⟩
  · split
    · split
      · exact ⟨_, by rw [same]; simp [flagSlot]; rfl⟩
      · exact ⟨_, by rw [same]; simp [flagSlot]; rfl⟩
    · exact ⟨(slotOf s i).flags, by rw [same]; simp⟩

theorem armItem_wf {s : State} (hw : TabWf {} s.ledger) (i : Nat) : TabWf {} (armItem s i).1.ledger := by
  unfold armItem
  dsimp only
  split
  · exact hw
  · split
    · split <;> exact modSlot_wf hw _ _
    · exact modSlot_wf hw _ _

theorem actsNow_congr {s t : State} {i : Nat} (hm : (slotOf t i).msg = (slotOf s i).msg) (hh : t.hw = s.hw)
    (hc : t.clock = s.clock) : actsNow t i = actsNow s i := by
  unfold actsNow timePast syncReady
  rw [hm, hh, hc, stamp_hw hh]

/-! From the dispatch on, the item is under way. -/

/-- The item in slot i, of kind k, has been dispatched in t, from s; what its start depends on is as in s. -/
structure Underway (i : Nat) (k : Kind) (s t : State) : Prop where
  wf : TabWf {} t.ledger
  kind : (slotOf t i).kind = some k
  taken : dispatched i k s t
  own : (slotOf t i).own = (slotOf s i).own
  hw : t.hw = s.hw
  clock : t.clock = s.clock
  pause : t.dev.pauseReq = s.dev.pauseReq

namespace Underway

variable {i : Nat} {k : Kind} {s t u : State}

theorem of_takeItem (hw : TabWf {} s.ledger) (hc : canDispatch s i k = true) (hk : k ≠ .cal) :
    Underway i k s (takeItem s i) where
  wf := takeItem_wf hw
  kind := by rw [takeItem_slot hw]; exact canDispatch_kind hc
  taken := by
    refine ⟨?_, ?_, ?_, ?_⟩
    · rw [takeItem_slot hw]
    · rw [takeItem_slot hw]
    · rw [takeItem_slot hw]
    · rw [takeItem_mode hw (canDispatch_kind hc)]; simp [hk]
  own := by rw [takeItem_slot hw]
  hw := (takeItem_touch s i).hw
  clock := (takeItem_touch s i).clock
  pause := takeItem_pauseReq s i

/-- What leaves the ledger, the device, Headwater and the clock alone. -/
theorem touch {ps : List Part} (h : Underway i k s t) (ht : Touch ps t u)
    (hl : Part.ledger ∉ ps := by decide) (hd : Part.dev ∉ ps := by decide) (hh : Part.hw ∉ ps := by decide)
    (hc : Part.clock ∉ ps := by decide) : Underway i k s u := by
  obtain ⟨h1, h2, ⟨t1, t2, t3, t4⟩, h4, h5, h6, h7⟩ := h
  have e := slotOf_ledger (ht.ledger hl) i
  refine ⟨by rw [ht.ledger hl]; exact h1, e ▸ h2, ⟨e ▸ t1, e ▸ t2, e ▸ t3, ?_⟩, e ▸ h4, (ht.hw hh).trans h5,
    (ht.clock hc).trans h6, ?_⟩
  · rw [ht.dev hd]; exact t4
  · rw [ht.dev hd]; exact h7

/-- What touches only the ledger, and there leaves the item's state, kind, message and owner. -/
theorem slot {l : Slot} (h : Underway i k s t) (ht : Touch [.ledger] t u) (hw : TabWf {} u.ledger)
    (e : slotOf u i = l) (hs : l.st = (slotOf t i).st) (hk : l.kind = (slotOf t i).kind) (hm : l.msg = (slotOf t i).msg)
    (ho : l.own = (slotOf t i).own) (hb : l.tStart = (slotOf t i).tStart) : Underway i k s u := by
  obtain ⟨h1, h2, ⟨t1, t2, t3, t4⟩, h4, h5, h6, h7⟩ := h
  subst e
  refine ⟨hw, hk.trans h2, ⟨hs.trans t1, hb.trans t2, hm.trans t3, ?_⟩, ho.trans h4, ht.hw.trans h5, ht.clock.trans h6, ?_⟩
  · rw [ht.dev]; exact t4
  · rw [ht.dev]; exact h7

theorem modSlot {f : Slot → Slot} (h : Underway i k s t)
    (hs : (f (slotOf t i)).st = (slotOf t i).st) (hk : (f (slotOf t i)).kind = (slotOf t i).kind)
    (hm : (f (slotOf t i)).msg = (slotOf t i).msg) (ho : (f (slotOf t i)).own = (slotOf t i).own)
    (hb : (f (slotOf t i)).tStart = (slotOf t i).tStart) : Underway i k s (modSlot t i f) :=
  h.slot (modSlot_touch t i f) (modSlot_wf h.wf _ _) (slotOf_modSlot_same _ _ _ h.wf) hs hk hm ho hb

theorem armItem (h : Underway i k s t) : Underway i k s (armItem t i).1 := by
  obtain ⟨fl, e⟩ := armItem_slot (i := i) h.wf
  exact h.slot (armItem_touch t i) (armItem_wf h.wf i) e rfl rfl rfl rfl rfl

theorem msg (h : Underway i k s t) : (slotOf t i).msg = (slotOf s i).msg := by
  obtain ⟨-, -, hm, -⟩ := h.taken
  exact hm

theorem acts (h : Underway i k s t) : actsNow t i = actsNow s i := actsNow_congr h.msg h.hw h.clock

theorem now (h : Underway i k s t) : (Sys2Proof.Machine.armItem t i).2 = actsNow s i := by rw [armItem_now, h.acts]

/-- An item that has to wait is armed. -/
theorem armed (h : Underway i k s t) (hn : actsNow s i = false) :
    (slotOf (Sys2Proof.Machine.armItem t i).1 i).armed = true := by
  obtain ⟨fl, e⟩ := armItem_slot (i := i) h.wf
  rw [e, h.acts, hn]; simp

/-- A host's item is still its own, and open. -/
theorem hostItem (h : Underway i k s t) (hi : HostItem s i) : HostItem t i :=
  ⟨by unfold openSlot; simp [h.taken.1], h.own.trans hi.2⟩

/-- A pause that has been asked for holds the item at once (R62). -/
theorem holdAsked_slot (h : Underway i k s t) : slotOf (holdAsked t i) i =
    if s.dev.pauseReq then { slotOf t i with st := .held } else slotOf t i := by
  unfold holdAsked
  rw [h.pause]
  by_cases p : s.dev.pauseReq = true
  · rw [if_pos ⟨p, h.taken.1⟩, if_pos p, slotOf_ledger ((settleMode_touch _).ledger), slotOf_modSlot_same _ _ _ h.wf]
  · rw [if_neg fun g => p g.1, if_neg p]

theorem holdAsked (h : Underway i k s t) : dispatchedOrHeld i k s (holdAsked t i) := by
  refine ⟨fun p => ?_, fun p => ?_⟩
  · have e : Sys2Proof.Machine.holdAsked t i = t := by
      unfold Sys2Proof.Machine.holdAsked
      rw [if_neg fun g => by rw [h.pause, p] at g; exact absurd g.1 (by decide)]
    rw [e]; exact h.taken
  · rw [h.holdAsked_slot, if_pos p]; exact ⟨rfl, h.taken.2.1⟩

end Underway

/-! A dispatch that may not be makes no difference (R64). -/

theorem dispatch_idle {s : State} {i : Nat} {k : Kind} {c : Instr} (hm : (k, c) ∈ dispatches i)
    (h : canDispatch s i k = false) : Idle c s := by
  have hn : ¬ canDispatch s i k = true := by simp [h]
  simp only [dispatches, List.mem_cons, Prod.mk.injEq, List.not_mem_nil, or_false] at hm
  obtain ⟨rfl, rfl⟩ | ⟨rfl, rfl⟩ | ⟨rfl, rfl⟩ | ⟨rfl, rfl⟩ | ⟨rfl, rfl⟩ | ⟨rfl, rfl⟩ | ⟨rfl, rfl⟩ | ⟨rfl, rfl⟩ := hm
  · exact if_neg fun g => hn g.1
  · exact if_neg fun g => hn g.1
  · exact if_neg hn
  · exact if_neg hn
  · exact if_neg fun g => hn g.1
  · exact if_neg hn
  · exact if_neg hn
  · exact if_neg hn

end Sys2Proof.Machine
end

section
/-! PROOFS. MEASURE, TDC, ACQUIRE and TRANSFER items: what their dispatch and their start leave in the unit that carries
the item (R221, R238, R255, R268). -/

namespace Sys2Proof.Machine

/-! MEASURE. -/

theorem modSeq_wf {s : State} (h : TabWf {} s.seqs) (q : Nat) (f : Seq → Seq) : TabWf {} (modSeq s q f).seqs :=
  tmod_wf h q f

/-- What snapTargets leaves of the sequencers: the corrections of now, no routine started (R340). -/
theorem snapTargets_seq {s : State} (hw : TabWf {} s.seqs) (m : Msg) :
    TabWf {} (snapTargets s m).seqs ∧ (seqOf (snapTargets s m) (pMseq m)).gen = s.press.gen
      ∧ (seqOf (snapTargets s m) (pMseq m)).item = (seqOf s (pMseq m)).item
      ∧ ∀ r, r ≠ pMseq m → seqOf (snapTargets s m) r = seqOf s r := by
  have w := modSeq_wf hw (pMseq m) fun x => { x with gen := s.press.gen }
  have e := seqOf_modSeq_same s (pMseq m) (fun x => { x with gen := s.press.gen }) hw
  have o := fun r h => seqOf_modSeq_other s (pMseq m) (fun x => { x with gen := s.press.gen }) (j := r) h
  unfold snapTargets
  dsimp only
  split
  · exact ⟨w, by rw [e], by rw [e], o⟩
  · refine ⟨modSeq_wf w _ _, ?_, ?_, fun r h => ?_⟩
    · rw [seqOf_modSeq_same _ _ _ w, e]
    · rw [seqOf_modSeq_same _ _ _ w, e]
    · rw [seqOf_modSeq_other _ _ _ h, o r h]

/-- The routine that startMeasure starts: its first word, no calls open, a pause passed on (R62, R221). -/
theorem startMeasure_seq {s : State} {i : Nat} {m : Msg} (hw : TabWf {} s.seqs) (hm : (slotOf s i).msg = m) :
    ∃ args, seqOf (startMeasure s i) (pMseq m) = { idleSeq (seqOf s (pMseq m)) with
      item := some i, addr := BitVec.ofNat 14 (pRoutine m + 0x2000 * pStore m), stack := [], args := args
      unwind := 0x10#14, targets := measTargets m, reqPause := s.dev.pauseReq } := by
  subst hm
  exact ⟨_, seqOf_modSeq_same _ _ _ hw⟩

theorem startMeasure_other {s : State} {i : Nat} {m : Msg} (hm : (slotOf s i).msg = m) {r : Nat} (h : r ≠ pMseq m) :
    seqOf (startMeasure s i) r = seqOf s r := by
  subst hm
  exact seqOf_modSeq_other _ _ _ h

section

variable {s : State} {i : Nat}

theorem measureDispatch_idle
    (h : storeWaits s (slotOf s i).msg = true ∨ (seqOf s (pMseq (slotOf s i).msg)).adrift = true) :
    Idle (.measureDispatch i) s := by
  refine if_neg fun g => ?_
  obtain ⟨-, g1, g2⟩ := g
  exact h.elim g1 g2

variable (hw : TabWf {} s.ledger) (hc : canDispatch s i .measure = true)
  (hq : storeWaits s (slotOf s i).msg = false) (ha : (seqOf s (pMseq (slotOf s i).msg)).adrift = false)
include hw hc hq ha

/-- A BAD store ends the item with SIGNATURE (R115, R218). -/
theorem measureDispatch_bad (hb : storeBad s (slotOf s i).msg = true) :
    Completes (.measureDispatch i) s [.dev, .units, .mbs, .ledger, .order, .seqs, .fabric, .svc] fun t =>
      (HostItem s i → Ended s t i (some 9)) ∧ t.seqs = s.seqs := by
  have e : exec (.measureDispatch i) s = .next (endItem (takeItem s i) i (some rSignature) id) := by
    show execMeasureDispatch i s = _
    unfold execMeasureDispatch
    dsimp only
    rw [if_pos ⟨hc, by simp [hq], by simp [ha]⟩, if_pos hb]
  have g := Underway.of_takeItem hw hc (by decide)
  refine Completes.of_next e ⟨fun hi => ?_, ?_⟩ (execMeasureDispatch_touch i s)
  · exact Ended.of_slot (Touch.refl [] _) (by decide) (by decide) g.hw g.wf (g.hostItem hi) rfl
  · rw [(endItem_touch ..).seqs, (takeItem_touch ..).seqs]

/-- What a MEASURE item that the store does not keep from its dispatch has taken before it acts or waits. -/
theorem measureDispatch_run (hb : storeBad s (slotOf s i).msg = false) (hs : TabWf {} s.seqs) :
    ∃ u, exec (.measureDispatch i) s = .next (if actsNow s i then startMeasure u i else holdAsked u i)
      ∧ Underway i .measure s u ∧ (actsNow s i = false → (slotOf u i).armed = true)
      ∧ TabWf {} u.seqs ∧ (seqOf u (pMseq (slotOf s i).msg)).gen = s.press.gen
      ∧ (seqOf u (pMseq (slotOf s i).msg)).item = (seqOf s (pMseq (slotOf s i).msg)).item
      ∧ ∀ r, r ≠ pMseq (slotOf s i).msg → seqOf u r = seqOf s r := by
  have g := (Underway.of_takeItem hw hc (by decide)).touch (snapTargets_touch _ (slotOf s i).msg)
  have ht := (takeItem_touch s i).seqs
  have hp := (takeItem_touch s i).press
  obtain ⟨s1, s2, s3, s4⟩ := snapTargets_seq (s := takeItem s i) (by rw [ht]; exact hs) (slotOf s i).msg
  have hu := (armItem_touch (snapTargets (takeItem s i) (slotOf s i).msg) i).seqs
  refine ⟨(armItem (snapTargets (takeItem s i) (slotOf s i).msg) i).1, ?_, g.armItem, g.armed, ?_, ?_, ?_, ?_⟩
  · show execMeasureDispatch i s = _
    unfold execMeasureDispatch
    dsimp only
    rw [if_pos ⟨hc, by simp [hq], by simp [ha]⟩, if_neg (by simp [hb]), g.now]
  · rw [hu]; exact s1
  all_goals unfold seqOf at *; rw [hu]
  · rw [s2, hp]
  · rw [s3, ht]
  · intro r hr; rw [s4 r hr, ht]

theorem measureDispatch_now (hb : storeBad s (slotOf s i).msg = false) (hn : actsNow s i = true) (hs : TabWf {} s.seqs) :
    Completes (.measureDispatch i) s [.dev, .units, .mbs, .ledger, .order, .seqs, .fabric, .svc] fun t =>
      dispatched i .measure s t
        ∧ (seqOf t (pMseq (slotOf s i).msg)).item = some i
        ∧ (seqOf t (pMseq (slotOf s i).msg)).addr
          = BitVec.ofNat 14 (pRoutine (slotOf s i).msg + 0x2000 * pStore (slotOf s i).msg)
        ∧ (seqOf t (pMseq (slotOf s i).msg)).reqPause = s.dev.pauseReq
        ∧ (seqOf t (pMseq (slotOf s i).msg)).gen = s.press.gen ∧ (seqOf t (pMseq (slotOf s i).msg)).stack = []
        ∧ ∀ r, r ≠ pMseq (slotOf s i).msg → seqOf t r = seqOf s r := by
  obtain ⟨u, e, g, -, us, ug, -, uo⟩ := measureDispatch_run hw hc hq ha hb hs
  rw [if_pos hn] at e
  obtain ⟨args, es⟩ := startMeasure_seq us g.msg
  refine Completes.of_next e ⟨(g.touch (startMeasure_touch u i)).taken, ?_⟩ (execMeasureDispatch_touch i s)
  rw [es]
  exact ⟨rfl, rfl, g.pause, ug, rfl, fun r hr => (startMeasure_other g.msg hr).trans (uo r hr)⟩

theorem measureDispatch_later (hb : storeBad s (slotOf s i).msg = false) (hn : actsNow s i = false)
    (hs : TabWf {} s.seqs) :
    Completes (.measureDispatch i) s [.dev, .units, .mbs, .ledger, .order, .seqs, .fabric, .svc] fun t =>
      dispatchedOrHeld i .measure s t ∧ (slotOf t i).armed = true
        ∧ (seqOf t (pMseq (slotOf s i).msg)).item = (seqOf s (pMseq (slotOf s i).msg)).item
        ∧ (seqOf t (pMseq (slotOf s i).msg)).gen = s.press.gen
        ∧ ∀ r, r ≠ pMseq (slotOf s i).msg → seqOf t r = seqOf s r := by
  obtain ⟨u, e, g, uar, -, ug, ui, uo⟩ := measureDispatch_run hw hc hq ha hb hs
  rw [if_neg (by simp [hn])] at e
  have same : ∀ r, seqOf (holdAsked u i) r = seqOf u r := fun r => by
    unfold seqOf; rw [(holdAsked_touch u i).seqs]
  refine Completes.of_next e ⟨g.holdAsked, ?_, ?_, ?_, fun r hr => ?_⟩ (execMeasureDispatch_touch i s)
  · rw [g.holdAsked_slot]; split <;> exact uar hn
  · rw [same, ui]
  · rw [same, ug]
  · rw [same, uo r hr]

end

/-! TDC. -/

theorem itemTdcs_nodup (m : Msg) : (itemTdcs m).Nodup :=
  List.nodup_range.map fun _ _ h => Nat.add_left_cancel h

/-- The TDCs of an item that is dispatched: the item's, with no measurement counted (R238). -/
theorem claimTdcs_tdc {s : State} {i : Nat} {m : Msg} (hw : TabWf {} s.tdcs) (hm : (slotOf s i).msg = m) (n : Nat) :
    tdcOf (claimTdcs s i) n = if n ∈ itemTdcs m then
      { tdcOf s n with
        item := some i, index := 0, series := pSeries m, used := 0, orders := 0, deads := 0, min := 0, max := 0
        sum := 0, sumsq := 0, flags := 0, startIn := (tdcOf s n).start, stopIn := (tdcOf s n).stop
        sStamp := none, eStamp := none, armed := false, closed := none, mark := none } else tdcOf s n := by
  subst hm
  exact tget_tmods_nodup _ _ _ _ hw (itemTdcs_nodup _) n

theorem startTdc_tdc {s : State} {i : Nat} {m : Msg} (hw : TabWf {} s.tdcs) (hm : (slotOf s i).msg = m) (n : Nat) :
    tdcOf (startTdc s i) n = if n ∈ itemTdcs m then armMeasurement (tdcOf s n) else tdcOf s n := by
  subst hm
  exact tget_tmods_nodup _ _ _ _ hw (itemTdcs_nodup _) n

theorem tdcDispatch_completes {s : State} {i : Nat} (hw : TabWf {} s.ledger) (hc : canDispatch s i .tdc = true)
    (ht : TabWf {} s.tdcs) : Completes (.tdcDispatch i) s [.dev, .ledger, .tdcs] fun t => dispatched i .tdc s t
      ∧ ∀ n, (n ∈ itemTdcs (slotOf s i).msg → (tdcOf t n).item = some i ∧ (tdcOf t n).index = 0
          ∧ (tdcOf t n).series = pSeries (slotOf s i).msg ∧ (tdcOf t n).sum = 0 ∧ (tdcOf t n).armed = actsNow s i)
        ∧ (n ∉ itemTdcs (slotOf s i).msg → tdcOf t n = tdcOf s n) := by
  have g := Underway.of_takeItem hw hc (by decide)
  have tk := (takeItem_touch s i).tdcs
  have gc := g.touch (claimTdcs_touch (takeItem s i) i)
  have ar := (armItem_touch (claimTdcs (takeItem s i) i) i).tdcs
  have wc : TabWf {} (claimTdcs (takeItem s i) i).tdcs := tmods_wf (by rw [tk]; exact ht) _ _
  have ec := claimTdcs_tdc (s := takeItem s i) (by rw [tk]; exact ht) g.msg
  unfold tdcOf at ec
  rw [tk] at ec
  have e : exec (.tdcDispatch i) s = .next (if actsNow s i then startTdc (armItem (claimTdcs (takeItem s i) i) i).1 i
      else (armItem (claimTdcs (takeItem s i) i) i).1) := by
    show execTdcDispatch i s = _
    unfold execTdcDispatch
    dsimp only
    rw [if_pos hc, gc.now]
  cases hn : actsNow s i with
  | true =>
    rw [hn, if_pos rfl] at e
    have es := startTdc_tdc (s := (armItem (claimTdcs (takeItem s i) i) i).1) (by rw [ar]; exact wc) gc.armItem.msg
    refine Completes.of_next e ⟨(gc.armItem.touch (startTdc_touch ..)).taken, fun n => ⟨fun h => ?_, fun h => ?_⟩⟩
      (execTdcDispatch_touch i s)
    · rw [es, if_pos h]
      unfold tdcOf
      rw [ar, ec, if_pos h]
      exact ⟨rfl, rfl, rfl, rfl, rfl⟩
    · rw [es, if_neg h]
      unfold tdcOf
      rw [ar, ec, if_neg h]
  | false =>
    rw [hn, if_neg (by simp)] at e
    refine Completes.of_next e ⟨gc.armItem.taken, fun n => ⟨fun h => ?_, fun h => ?_⟩⟩ (execTdcDispatch_touch i s)
    · unfold tdcOf
      rw [ar, ec, if_pos h]
      exact ⟨rfl, rfl, rfl, rfl, rfl⟩
    · unfold tdcOf
      rw [ar, ec, if_neg h]

/-! ACQUIRE. -/

theorem modAcq_wf {s : State} (h : TabWf {} s.acqs) (k : Nat) (f : Acq → Acq) : TabWf {} (modAcq s k f).acqs := tmod_wf h k f

/-- The record's input asks for conversions from now on: of the buffers only its own changes (R255). -/
theorem beginAcquire_acq {s : State} {i : Nat} {m : Msg} (hw : TabWf {} s.acqs) (hm : (slotOf s i).msg = m) :
    (∃ turn, acqOf (beginAcquire s i) (pBuffer m) = { acqOf s (pBuffer m) with started := true, turn := turn })
      ∧ ∀ k, k ≠ pBuffer m → acqOf (beginAcquire s i) k = acqOf s k := by
  subst hm
  have same : ∀ k, acqOf (beginAcquire s i) k = acqOf (modAcq s (pBuffer (slotOf s i).msg) _) k := fun k => by
    unfold acqOf beginAcquire; dsimp only; rw [(claimTurn_touch ..).acqs]
  exact ⟨⟨_, (same _).trans (acqOf_modAcq_same _ _ _ hw)⟩, fun k h => (same k).trans (acqOf_modAcq_other _ _ _ h)⟩

theorem startAcquire_acq {s : State} {i : Nat} {m : Msg} (hw : TabWf {} s.acqs) (hm : (slotOf s i).msg = m) (now : Bool) :
    (acqOf (startAcquire s i now) (pBuffer m)).item = some i
      ∧ (acqOf (startAcquire s i now) (pBuffer m)).samples = []
      ∧ (acqOf (startAcquire s i now) (pBuffer m)).started = now
      ∧ (acqOf (startAcquire s i now) (pBuffer m)).gen = s.press.gen
      ∧ ∀ k, k ≠ pBuffer m → acqOf (startAcquire s i now) k = acqOf s k := by
  subst hm
  unfold startAcquire
  dsimp only
  split
  · next h =>
    obtain ⟨⟨turn, e⟩, o⟩ := beginAcquire_acq (i := i) (m := (slotOf s i).msg) (modAcq_wf hw (pBuffer (slotOf s i).msg) _) rfl
    rw [e, acqOf_modAcq_same _ _ _ hw]
    exact ⟨rfl, rfl, h.symm, rfl, fun k hk => (o k hk).trans (acqOf_modAcq_other _ _ _ hk)⟩
  · next h =>
    rw [acqOf_modAcq_same _ _ _ hw]
    exact ⟨rfl, rfl, by simpa using h, rfl, fun k hk => acqOf_modAcq_other _ _ _ hk⟩

theorem acquireDispatch_completes {s : State} {i : Nat} (hw : TabWf {} s.ledger)
    (hc : canDispatch s i .acquire = true) (ha : TabWf {} s.acqs) :
    Completes (.acquireDispatch i) s [.dev, .ledger, .seqs, .acqs] fun t => dispatched i .acquire s t
      ∧ (acqOf t (pBuffer (slotOf s i).msg)).item = some i ∧ (acqOf t (pBuffer (slotOf s i).msg)).samples = []
      ∧ (acqOf t (pBuffer (slotOf s i).msg)).started = actsNow s i
      ∧ (acqOf t (pBuffer (slotOf s i).msg)).gen = s.press.gen
      ∧ ∀ k, k ≠ pBuffer (slotOf s i).msg → acqOf t k = acqOf s k := by
  have g := Underway.of_takeItem hw hc (by decide)
  have k := (armItem_touch (takeItem s i) i).app (by decide) (takeItem_touch s i)
  have e : exec (.acquireDispatch i) s = .next (startAcquire (armItem (takeItem s i) i).1 i (actsNow s i)) := by
    show execAcquireDispatch i s = _
    unfold execAcquireDispatch
    dsimp only
    rw [if_pos hc, g.now]
  obtain ⟨a1, a2, a3, a4, a5⟩ := startAcquire_acq (s := (armItem (takeItem s i) i).1) (by rw [k.acqs]; exact ha)
    g.armItem.msg (actsNow s i)
  refine Completes.of_next e ⟨(g.armItem.touch (startAcquire_touch ..)).taken, a1, a2, a3, a4.trans ?_, fun j hj => ?_⟩
    (execAcquireDispatch_touch i s)
  · rw [k.press]
  · rw [a5 j hj]; unfold acqOf; rw [k.acqs]

/-! TRANSFER. -/

theorem modDma_wf {s : State} (h : TabWf {} s.dmas) (c : Nat) (f : Dma → Dma) : TabWf {} (modDma s c f).dmas := tmod_wf h c f

/-- The channel that fetches a descriptor (R268). -/
theorem fetchDesc_dma {s : State} (hw : TabWf {} s.dmas) (c a : Nat) :
    dmaOf (fetchDesc s c a) c = { dmaOf s c with phase := .fetching, start := true, addr := a } := by
  unfold dmaOf fetchDesc
  rw [(dmaRead_touch ..).dmas]
  exact dmaOf_modDma_same _ _ _ hw

theorem transferDispatch_idle {s : State} {i : Nat} (h : (dmaOf s (pDma (slotOf s i).msg)).phase ≠ .idle) :
    Idle (.transferDispatch i) s := if_neg fun g => h g.2

theorem transferDispatch_completes {s : State} {i : Nat} (hw : TabWf {} s.ledger)
    (hc : canDispatch s i .transfer = true) (hi : (dmaOf s (pDma (slotOf s i).msg)).phase = .idle) (hd : TabWf {} s.dmas) :
    Completes (.transferDispatch i) s [.dev, .ledger, .dmas, .fabric] fun t => dispatched i .transfer s t
      ∧ (dmaOf t (pDma (slotOf s i).msg)).item = some i ∧ (dmaOf t (pDma (slotOf s i).msg)).phase = .fetching
      ∧ (dmaOf t (pDma (slotOf s i).msg)).addr = pDesc (slotOf s i).msg := by
  have g := (Underway.of_takeItem hw hc (by decide)).touch
    (modDma_touch (takeItem s i) (pDma (slotOf s i).msg) fun _ => { item := some i })
  have wd : TabWf {} (takeItem s i).dmas := by rw [(takeItem_touch s i).dmas]; exact hd
  have e : exec (.transferDispatch i) s = .next (fetchDesc (modDma (takeItem s i) (pDma (slotOf s i).msg) fun _ =>
      { item := some i }) (pDma (slotOf s i).msg) (pDesc (slotOf s i).msg)) := by
    show execTransferDispatch i s = _
    unfold execTransferDispatch
    dsimp only
    rw [if_pos ⟨hc, hi⟩, g.msg]
  refine Completes.of_next e ⟨(g.touch (fetchDesc_touch ..)).taken, ?_⟩ (execTransferDispatch_touch i s)
  rw [fetchDesc_dma (modDma_wf wd _ _), dmaOf_modDma_same _ _ _ wd]
  exact ⟨rfl, rfl, rfl⟩

end Sys2Proof.Machine
end

section
/-! PROOFS. LEVELS, DPS and LANE items: their dispatch and their start (R193, R278, R286, R296). -/

namespace Sys2Proof.Machine

/-! LEVELS. -/

theorem leaving_eq (s : State) (c : Bool) (d d' : Dac) : ∃ p, leaving s c d d' = { d' with past := p } := by
  unfold leaving
  split
  · exact ⟨d'.past, rfl⟩
  · exact ⟨_, rfl⟩

/-- A strobe moves the shadow code to the active register (R193). -/
theorem transferDac_eq (s : State) (d : Dac) : ∃ p, transferDac s d = { d with
    active := d.shadow, activeV := d.value, dirty := false, slew := none, held := s.power.clrLow, byClr := s.power.clrLow
    past := p } := by
  obtain ⟨p, e⟩ := leaving_eq s false d { d with
    active := d.shadow, activeV := d.value, dirty := false, slew := none, held := s.power.clrLow, byClr := s.power.clrLow }
  exact ⟨p, e⟩

/-- A second strobe finds nothing left to move. -/
theorem transferDac_again (s : State) (d : Dac) : transferDac s (transferDac s d) = transferDac s d := by
  obtain ⟨p, e⟩ := transferDac_eq s d
  rw [e]
  exact if_pos rfl

theorem strobeGroup_loaded {s : State} (hw : TabWf {} s.dacs) (g : Nat) : groupLoaded g s (strobeGroup s g) := by
  intro k
  have hd : dacOf (strobeGroup s g) k = if k ∈ groupDacs s g then transferDac s (dacOf s k) else dacOf s k := by
    unfold dacOf strobeGroup
    dsimp only
    rw [foldl_same (fun u => u.dacs) _ fun u x => (followDac_touch u x).dacs]
    exact tget_tmods _ (fun _ d => transferDac s d) (fun _ => transferDac_again s) _ _ hw k
  obtain ⟨p, e⟩ := transferDac_eq s (dacOf s k)
  rw [hd, e]
  by_cases h : k ∈ groupDacs s g
  · simp [h]
  · simp [h]

/-- groupLoaded speaks of nothing but the DACs, the members of the group and CLR_N. -/
theorem groupLoaded_congr {s t u v : State} {g : Nat} (h : groupLoaded g u v) (hd : u.dacs = s.dacs) (hp : u.pebs = s.pebs)
    (hs : u.dps = s.dps) (hc : u.power = s.power) (ht : t.dacs = v.dacs) : groupLoaded g s t := by
  unfold groupLoaded groupDacs groupPebs groupDps pebOf dpsOf dacOf at *
  rw [hd, hp, hs, hc] at h
  rw [ht]
  exact h

theorem fireLevels_loaded {s : State} (hw : TabWf {} s.dacs) (i : Nat) :
    groupLoaded (pGroup (slotOf s i).msg) s (fireLevels s i) :=
  groupLoaded_congr (strobeGroup_loaded hw _) rfl rfl rfl rfl (endItem_touch ..).dacs

/-- RESULT and PROGRESS of a host's LEVELS item (Table 6.8). -/
theorem fireLevels_slot {s : State} {i : Nat} (hw : TabWf {} s.ledger) (h : HostItem s i) :
    (slotOf (fireLevels s i) i).progress = 1
      ∧ (slotOf (fireLevels s i) i).result = BitVec.ofNat 64 (stamp s).toNat := by
  have k := strobeGroup_touch s (pGroup (slotOf s i).msg)
  unfold fireLevels
  dsimp only
  rw [endItem_after k.ledger k.hw hw h.1 h.2 (by split <;> exact h.2)]
  unfold endedSlot
  dsimp only
  split <;> exact ⟨rfl, rfl⟩

section

variable {s : State} {i : Nat} (hw : TabWf {} s.ledger) (hc : canDispatch s i .levels = true)
include hw hc

/-- One that waits for TRIG_IN or for its START_TIME is armed. -/
theorem levelsDispatch_waits (h : pStrobe (slotOf s i).msg ≠ 0 ∨ actsNow s i = false) :
    Completes (.levelsDispatch i) s [.dev, .ledger] fun t => dispatched i .levels s t ∧ (slotOf t i).armed = true := by
  have g := Underway.of_takeItem hw hc (by decide)
  have k := takeItem_touch s i
  by_cases hp : pStrobe (slotOf s i).msg = 0
  · have hn := h.resolve_left fun g => g hp
    have e : exec (.levelsDispatch i) s = .next (armItem (takeItem s i) i).1 := by
      show execLevelsDispatch i s = _
      unfold execLevelsDispatch
      dsimp only
      rw [if_pos hc, g.msg, if_neg (by simpa using hp), g.now, hn, if_neg (by simp)]
    exact ⟨_, e, ⟨g.armItem.taken, g.armed hn⟩, (armItem_touch ..).app (by decide) k⟩
  · have e : exec (.levelsDispatch i) s = .next (modSlot (takeItem s i) i fun l => { l with armed := true }) := by
      show execLevelsDispatch i s = _
      unfold execLevelsDispatch
      dsimp only
      rw [if_pos hc, g.msg, if_pos hp]
    refine ⟨_, e, ⟨(g.modSlot rfl rfl rfl rfl rfl).taken, ?_⟩, (modSlot_touch ..).app (by decide) k⟩
    rw [slotOf_modSlot_same _ _ _ g.wf]

/-- One that waits for neither strobes and ends at once. -/
theorem levelsDispatch_now (hp : pStrobe (slotOf s i).msg = 0) (hn : actsNow s i = true) (hd : TabWf {} s.dacs) :
    Completes (.levelsDispatch i) s [.dev, .units, .mbs, .ledger, .order, .dacs, .dps, .fabric, .svc] fun t =>
      groupLoaded (pGroup (slotOf s i).msg) s t
        ∧ (HostItem s i → Ended s t i none ∧ (slotOf t i).progress = 1
          ∧ (slotOf t i).result = BitVec.ofNat 64 (stamp s).toNat) := by
  have g := Underway.of_takeItem hw hc (by decide)
  have k := (armItem_touch (takeItem s i) i).app (by decide) (takeItem_touch s i)
  have ga := g.armItem
  have e : exec (.levelsDispatch i) s = .next (fireLevels (armItem (takeItem s i) i).1 i) := by
    show execLevelsDispatch i s = _
    unfold execLevelsDispatch
    dsimp only
    rw [if_pos hc, g.msg, if_neg (by simpa using hp), g.now, hn, if_pos rfl]
  refine Completes.of_next e ⟨?_, fun h => ⟨?_, ?_⟩⟩ (execLevelsDispatch_touch i s)
  · rw [← ga.msg]
    exact groupLoaded_congr (fireLevels_loaded (by rw [k.dacs]; exact hd) i) k.dacs k.pebs k.dps k.power rfl
  · obtain ⟨e1, e2, e3⟩ := fireLevels_ends ga.wf (ga.hostItem h)
    exact ⟨e1, e2, e3.trans (stamp_hw ga.hw)⟩
  · rw [← stamp_hw ga.hw]
    exact fireLevels_slot ga.wf (ga.hostItem h)

end

/-! DPS. -/

theorem enableDps_again (d : Dps) : enableDps (enableDps d) = enableDps d := by
  unfold enableDps
  by_cases h : d.enabled = true
  · simp [h]
  · simp [h]

theorem enableDps_fields (d : Dps) : (enableDps d).enabled = true ∧ (enableDps d).set = if d.enabled then d.set else 0 := by
  unfold enableDps
  by_cases h : d.enabled = true
  · simp [h]
  · simp [h]

/-- The start of a DPS item, admitted or held on the budget: in its slot only flags and the budget mark change, and no
channel is moved (R286). -/
theorem startDps_keeps {s : State} {i : Nat} (hl : TabWf {} s.ledger) (hd : TabWf {} s.dps) :
    (∃ fl b, slotOf (startDps s i) i = { slotOf s i with flags := fl, budget := b })
      ∧ TabWf {} (startDps s i).ledger
      ∧ ∀ n, (dpsOf (startDps s i) n).set = (dpsOf s n).set ∧ (dpsOf (startDps s i) n).enabled = (dpsOf s n).enabled := by
  unfold startDps takeBudget
  dsimp only
  split
  · refine ⟨⟨(slotOf s i).flags, false, ?_⟩, ?_, fun n => ?_⟩
    · rw [slotOf_ledger (itemRecords_touch ..).ledger]
      exact slotOf_modSlot_same _ _ _ hl
    · rw [(itemRecords_touch ..).ledger]
      exact modSlot_wf hl _ _
    · unfold dpsOf
      rw [(itemRecords_touch ..).dps, modSlot_dps,
        tget_tmods _ (fun _ (d : Dps) => { d with strobed := false, goal := none }) (fun _ _ => rfl) _ _ hd]
      split <;> exact ⟨rfl, rfl⟩
  · refine ⟨?_, ?_, fun n => ?_⟩
    · rw [slotOf_ledger (itemRecords_touch ..).ledger, slotOf_modSlot_same _ _ _ hl]
      exact ⟨_, true, rfl⟩
    · rw [(itemRecords_touch ..).ledger]
      exact modSlot_wf hl _ _
    · unfold dpsOf
      rw [(itemRecords_touch ..).dps, modSlot_dps]
      exact ⟨rfl, rfl⟩

/-- An item of some channel is held on the budget or admitted. -/
theorem startDps_budget {s : State} {i : Nat} (hl : TabWf {} s.ledger) (h : dpsList (pDpsMask (slotOf s i).msg) ≠ []) :
    (slotOf (startDps s i) i).budget = true ∨ admitted (startDps s i) i = true := by
  unfold startDps
  split
  · right
    obtain ⟨n, ns, hn⟩ := List.exists_cons_of_ne_nil h
    unfold admitted takeBudget
    dsimp only
    rw [(itemRecords_touch ..).resvs, modSlot_resvs]
    unfold reserve
    dsimp only
    rw [hn]
    simp
  · left
    rw [slotOf_ledger (itemRecords_touch ..).ledger, slotOf_modSlot_same _ _ _ hl]
    rfl

theorem Underway.startDps {i : Nat} {k : Kind} {s t : State} (h : Underway i k s t) (hd : TabWf {} t.dps) :
    Underway i k s (startDps t i) := by
  obtain ⟨⟨fl, b, e⟩, w, -⟩ := startDps_keeps (i := i) h.wf hd
  have kt := startDps_touch t i
  obtain ⟨h1, h2, ⟨t1, t2, t3, t4⟩, h4, h5, h6, h7⟩ := h
  exact ⟨w, by rw [e]; exact h2, ⟨by rw [e]; exact t1, by rw [e]; exact t2, by rw [e]; exact t3, by rw [kt.dev]; exact t4⟩,
    by rw [e]; exact h4, kt.hw.trans h5, kt.clock.trans h6, by rw [kt.dev]; exact h7⟩

/-- The channels of a DPS item are enabled at its dispatch, whenever its ramp begins (R278). -/
def enableChannels (s : State) (i : Nat) : State :=
  { s with dps := tmods {} s.dps (dpsList (pDpsMask (slotOf s i).msg)) fun _ d => enableDps d }

theorem enableChannels_touch (s : State) (i : Nat) : Touch [.dps] s (enableChannels s i) :=
  Touch.set_dps (by decide) (Touch.refl _ _)

theorem enableChannels_dps {s : State} {i : Nat} {m : Msg} (hd : TabWf {} s.dps) (hm : (slotOf s i).msg = m) (n : Nat) :
    dpsOf (enableChannels s i) n = if n ∈ dpsList (pDpsMask m) then enableDps (dpsOf s n) else dpsOf s n := by
  subst hm
  exact tget_tmods _ (fun _ d => enableDps d) (fun _ => enableDps_again) _ _ hd n

/-- What a DPS item is before a pause that is asked for holds it: under way, its channels only enabled. -/
theorem dpsDispatch_run {s : State} {i : Nat} (hw : TabWf {} s.ledger) (hc : canDispatch s i .dps = true)
    (hd : TabWf {} s.dps) :
    ∃ v, exec (.dpsDispatch i) s = .next (holdAsked v i) ∧ Underway i .dps s v
      ∧ ∀ n, (dpsOf v n).set = (dpsOf (enableChannels (takeItem s i) i) n).set
        ∧ (dpsOf v n).enabled = (dpsOf (enableChannels (takeItem s i) i) n).enabled := by
  have g := (Underway.of_takeItem hw hc (by decide)).touch (enableChannels_touch _ i)
  have ar := (armItem_touch (enableChannels (takeItem s i) i) i).dps
  have same : ∀ n, dpsOf (armItem (enableChannels (takeItem s i) i) i).1 n = dpsOf (enableChannels (takeItem s i) i) n :=
    fun n => by unfold dpsOf; rw [ar]
  have e : exec (.dpsDispatch i) s = .next (holdAsked (if actsNow s i then
      startDps (armItem (enableChannels (takeItem s i) i) i).1 i else (armItem (enableChannels (takeItem s i) i) i).1) i) := by
    rw [← g.now]
    exact if_pos hc
  refine ⟨_, e, ?_⟩
  split
  · have wa : TabWf {} (armItem (enableChannels (takeItem s i) i) i).1.dps := by
      rw [ar]
      exact tmods_wf (by rw [(takeItem_touch s i).dps]; exact hd) _ _
    obtain ⟨-, -, h3⟩ := startDps_keeps (i := i) g.armItem.wf wa
    exact ⟨g.armItem.startDps wa, fun n => by rw [← same n]; exact h3 n⟩
  · exact ⟨g.armItem, fun n => by rw [same n]; exact ⟨rfl, rfl⟩⟩

theorem dpsDispatch_completes {s : State} {i : Nat} (hw : TabWf {} s.ledger) (hc : canDispatch s i .dps = true)
    (hd : TabWf {} s.dps) :
    Completes (.dpsDispatch i) s [.dev, .mbs, .ledger, .dps, .resvs, .queues, .fabric, .free] fun t =>
      dispatchedOrHeld i .dps s t
        ∧ ∀ n, (n ∈ dpsList (pDpsMask (slotOf s i).msg) → (dpsOf t n).enabled = true
            ∧ (dpsOf t n).set = (if (dpsOf s n).enabled then (dpsOf s n).set else 0))
          ∧ (n ∉ dpsList (pDpsMask (slotOf s i).msg) → (dpsOf t n).enabled = (dpsOf s n).enabled) := by
  obtain ⟨v, e, g, hv⟩ := dpsDispatch_run hw hc hd
  have tk := (takeItem_touch s i).dps
  refine Completes.of_next e ⟨g.holdAsked, fun n => ?_⟩ (execDpsDispatch_touch i s)
  have en := enableChannels_dps (by rw [tk]; exact hd) (Underway.of_takeItem hw hc (by decide)).msg n
  have hn : dpsOf (holdAsked v i) n = dpsOf v n := by unfold dpsOf; rw [(holdAsked_touch v i).dps]
  have hs : dpsOf (takeItem s i) n = dpsOf s n := by unfold dpsOf; rw [tk]
  obtain ⟨n1, n2⟩ := hv n
  obtain ⟨f1, f2⟩ := enableDps_fields (dpsOf s n)
  rw [hn, n1, n2, en, hs]
  exact ⟨fun h => by rw [if_pos h]; exact ⟨f1, f2⟩, fun h => by rw [if_neg h]⟩

/-! LANE. -/

theorem takeLanes_lane {s : State} {i : Nat} {m : Msg} (hw : TabWf {} s.lanes) (hm : (slotOf s i).msg = m) (n : Nat) :
    laneOf (takeLanes s i) n = if n ∈ (laneList m ++ clockLanes s m).dedup then
      { freeLane (laneOf s n) with item := some i } else laneOf s n := by
  subst hm
  exact tget_tmods_nodup _ _ _ _ hw (List.nodup_dedup _) n

theorem mem_itemLanes {s : State} (hw : TabWf {} s.lanes) (i n : Nat) : n ∈ itemLanes s i ↔ (laneOf s n).item = some i := by
  unfold itemLanes
  rw [mem_tkeys hw _ _ (by rfl)]
  exact decide_eq_true_iff

/-- The start of a LANE item: its lanes, and no others, begin (R296). -/
theorem startLane_lane {s : State} {i : Nat} (hw : TabWf {} s.lanes) (n : Nat) :
    laneOf (startLane s i) n = if n ∈ itemLanes s i then
      { laneOf s n with begun := true, tx := pTest (slotOf s i).msg ≠ 3, tStart := stamp s } else laneOf s n :=
  tget_tmods_nodup _ _ _ _ hw (tkeys_nodup hw _) n

theorem laneDispatch_completes {s : State} {i : Nat} (hw : TabWf {} s.ledger) (hc : canDispatch s i .lane = true)
    (hl : TabWf {} s.lanes) : Completes (.laneDispatch i) s [.dev, .ledger, .lanes] fun t => dispatched i .lane s t
      ∧ ∀ n, n ∈ laneList (slotOf s i).msg → (laneOf t n).item = some i ∧ (actsNow s i = true → (laneOf t n).begun = true) := by
  have g := Underway.of_takeItem hw hc (by decide)
  generalize hu : (armItem (takeItem s i) i).1 = u
  have gu : Underway i .lane s u := hu ▸ g.armItem
  have ku : Touch [.dev, .ledger] s u := hu ▸ (armItem_touch _ i).app (by decide) (takeItem_touch s i)
  have wl : TabWf {} u.lanes := by rw [ku.lanes]; exact hl
  have wt : TabWf {} (takeLanes u i).lanes := tmods_wf wl _ _
  have gt := gu.touch (takeLanes_touch u i)
  have it : ∀ n, n ∈ laneList (slotOf s i).msg → (laneOf (takeLanes u i) n).item = some i := fun n hn => by
    rw [takeLanes_lane wl gu.msg, if_pos (List.mem_dedup.2 (List.mem_append_left _ hn))]
  have e : exec (.laneDispatch i) s = .next (if actsNow s i then startLane (takeLanes u i) i else takeLanes u i) := by
    show execLaneDispatch i s = _
    unfold execLaneDispatch
    dsimp only
    rw [if_pos hc, hu, g.now]
  cases hn : actsNow s i with
  | true =>
    rw [hn, if_pos rfl] at e
    refine Completes.of_next e ⟨(gt.touch (startLane_touch ..)).taken, fun n h => ?_⟩ (execLaneDispatch_touch i s)
    rw [startLane_lane wt, if_pos ((mem_itemLanes wt i n).2 (it n h))]
    exact ⟨it n h, fun _ => rfl⟩
  | false =>
    rw [hn, if_neg (by simp)] at e
    exact Completes.of_next e ⟨gt.taken, fun n h => ⟨it n h, fun h => by simp at h⟩⟩ (execLaneDispatch_touch i s)

end Sys2Proof.Machine
end

section
/-! PROOFS. BURST items: what fetches and stream records leave of a BURST, pinning, the dispatch and the start of play
(R147, R150, R153, R179). -/

namespace Sys2Proof.Machine

/-- The value listed at a key of a table in canonical form is the one it reads as. -/
theorem tget_of_mem {α : Type} {d : α} {lo : Nat} {t : Tab α} (h : TabWfFrom d lo t) {e : Nat × α} (he : e ∈ t) :
    tget d t e.1 = e.2 := by
  induction t generalizing lo with
  | nil => cases he
  | cons x t ih =>
    obtain ⟨h1, -, h3⟩ := h
    rcases List.mem_cons.1 he with rfl | he
    · simp [tget]
    · have : x.1 + 1 ≤ e.1 := (keys_rise h3).1 _ (List.mem_map_of_mem he)
      unfold tget
      rw [if_neg (by omega)]
      exact ih h3 he

theorem modBurst_wf {s : State} (h : TabWf {} s.bursts) (i : Nat) (f : Burst → Burst) : TabWf {} (modBurst s i f).bursts :=
  tmod_wf h i f

/-! What neither a fetch nor a stream record changes of a BURST. -/

/-- Where a BURST stands: its phase and reference instant, its schedule and the segment in play. -/
def standing (b : Burst) : BPhase × Bool × Count × Nat × Nat × Nat := (b.phase, b.begun, b.tRef, b.sched, b.entry, b.seg)

/-- From s to t only the BURST in slot i changes, and it stands where it stood. -/
structure Stands (i : Nat) (s t : State) : Prop where
  of_wf : TabWf {} s.bursts → TabWf {} t.bursts ∧ standing (burstOf t i) = standing (burstOf s i)
    ∧ ∀ j, j ≠ i → burstOf t j = burstOf s j

namespace Stands

variable {i : Nat} {s t u : State}

theorem refl (i : Nat) (s : State) : Stands i s s := ⟨fun h => ⟨h, rfl, fun _ _ => rfl⟩⟩

theorem trans (k : Stands i t u) (h : Stands i s t) : Stands i s u := ⟨fun w => by
  obtain ⟨w1, h1, o1⟩ := h.of_wf w
  obtain ⟨w2, h2, o2⟩ := k.of_wf w1
  exact ⟨w2, h2.trans h1, fun j hj => (o2 j hj).trans (o1 j hj)⟩⟩

theorem of_touch {ps : List Part} (k : Touch ps s t) (h : Part.bursts ∉ ps := by decide) : Stands i s t := ⟨fun w => by
  have e : ∀ j, burstOf t j = burstOf s j := fun j => by unfold burstOf; rw [k.bursts h]
  exact ⟨by rw [k.bursts h]; exact w, by rw [e], fun j _ => e j⟩⟩

theorem modBurst (s : State) {f : Burst → Burst} (h : ∀ b, standing (f b) = standing b) : Stands i s (modBurst s i f) :=
  ⟨fun w => ⟨modBurst_wf w i f, by rw [burstOf_modBurst_same _ _ _ w, h], fun _ hj => burstOf_modBurst_other _ _ _ hj⟩⟩

theorem foldl {α : Type} {g : State → α → State} (k : ∀ u x, Stands i u (g u x)) (l : List α) (s : State) :
    Stands i s (l.foldl g s) := by
  induction l generalizing s with
  | nil => exact refl i s
  | cons x l ih => exact (ih _).trans (k s x)

end Stands

theorem issueNow_stands (s : State) (i : Nat) (k : Slice) : Stands i s (issueNow s i k) :=
  (Stands.of_touch (touchPage_touch ..)).trans ((Stands.of_touch (sendFetch_touch ..)).trans
    (Stands.modBurst s fun _ => rfl))

theorem issueFetch_stands (s : State) (i : Nat) (k : Slice) : Stands i s (issueFetch s i k) := by
  unfold issueFetch
  dsimp only
  split
  · exact Stands.refl i s
  · split
    · exact issueNow_stands s i k
    · exact Stands.modBurst s fun _ => rfl

theorem trackPath_stands (s : State) (i : Nat) : Stands i s (trackPath s i) := by
  unfold trackPath
  dsimp only
  refine Stands.foldl (fun u e => ?_) _ s
  have h := (issueFetch_stands (issueFetch u i (metaKey e.1 e.2 .desc)) i (metaKey e.1 e.2 .plan)).trans
    (issueFetch_stands u i (metaKey e.1 e.2 .desc))
  split
  · exact h
  · split
    · split
      · exact (issueFetch_stands ..).trans h
      · exact h
    · split
      · exact (issueFetch_stands ..).trans ((issueFetch_stands ..).trans h)
      · exact (issueFetch_stands ..).trans h

theorem capPut_stands (s : State) (i p : Nat) (rec : List Byte) : Stands i s (capPut s i p rec) := by
  unfold capPut
  dsimp only
  have h := Stands.of_touch (i := i) (queueWrite_touch s p 1 (some (timeAt (burstOf s i) p)) rec)
  split
  · exact Stands.trans (Stands.modBurst _ fun _ => rfl) h
  · exact h

theorem capRec_stands (s : State) (i p : Nat) (rec : List Byte) : Stands i s (capRec s i p rec) := by
  unfold capRec
  dsimp only
  split
  · exact Stands.modBurst s fun _ => rfl
  · split
    · exact capPut_stands s i p rec
    · exact Stands.modBurst s fun _ => rfl

theorem capAll_stands (s : State) (i : Nat) (rec : State → Nat → List Byte) : Stands i s (capAll s i rec) :=
  Stands.foldl (fun u p => capRec_stands u i p _) _ s

theorem flipLayers_stands (s : State) (i seg v : Nat) (t : Count) : Stands i s (flipLayers s i seg v t) := by
  unfold flipLayers
  dsimp only
  refine Stands.foldl (fun u e => ?_) _ s
  unfold flipLayer
  dsimp only
  split
  · exact Stands.refl i u
  · exact (capRec_stands ..).trans (Stands.of_touch (modLayer_touch ..))

/-! The start of play. -/

/-- Vector 0 of ENTRY plays: the BURST plays from its reference instant, and its item waits no more (R153, R179). -/
theorem beginBurst_plays {s : State} (i : Nat) (hw : TabWf {} s.bursts) (t : Count) (fine : Nat) :
    (burstOf (beginBurst s i t fine) i).phase = .playing ∧ (burstOf (beginBurst s i t fine) i).begun = true
      ∧ (burstOf (beginBurst s i t fine) i).tRef = t := by
  unfold beginBurst
  dsimp only
  generalize hu : Sys2Proof.Machine.modBurst (modSlot s i fun l => { l with armed := false }) i (fun b =>
    { b with phase := .playing, begun := true, tRef := t, tZero := t, tLast := t, fine := fine }) = u
  have wu : TabWf {} u.bursts := by rw [← hu]; exact modBurst_wf hw _ _
  have eu : (burstOf u i).phase = .playing ∧ (burstOf u i).begun = true ∧ (burstOf u i).tRef = t := by
    rw [← hu, burstOf_modBurst_same _ _ _ (by exact hw)]; exact ⟨rfl, rfl, rfl⟩
  obtain ⟨-, e, -⟩ := ((flipLayers_stands _ i (burstOf u i).seg 0 t).trans (capAll_stands u i _)).of_wf wu
  simp only [standing, Prod.mk.injEq] at e
  obtain ⟨h1, h2, h3, -⟩ := e
  rw [h1, h2, h3]
  exact eu

theorem beginBurst_slot {s : State} (hw : TabWf {} s.ledger) (i : Nat) (t : Count) (fine : Nat) :
    slotOf (beginBurst s i t fine) i = { slotOf s i with armed := false } := by
  unfold beginBurst
  dsimp only
  rw [slotOf_ledger (flipLayers_touch ..).ledger, slotOf_ledger (capAll_touch ..).ledger,
    slotOf_ledger (modBurst_touch ..).ledger, slotOf_modSlot_same _ _ _ hw]

/-! Pinning (R147, R150). -/

/-- A BURST that was pinning goes on with it, or to its fetches, on the same segment. -/
def Pinned (b c : Burst) : Prop :=
  (c.phase = .pinning ∨ c.phase = .fetching) ∧ c.sched = b.sched ∧ c.entry = b.entry ∧ c.seg = b.seg

theorem Pinned.of_standing {b c : Burst} (h : standing c = standing b) (hp : b.phase = .pinning ∨ b.phase = .fetching) :
    Pinned b c := by
  simp only [standing, Prod.mk.injEq] at h
  obtain ⟨h1, -, -, h2, h3, h4⟩ := h
  exact ⟨by rw [h1]; exact hp, h2, h3, h4⟩

theorem Pinned.trans {b c d : Burst} (k : Pinned c d) (h : Pinned b c) : Pinned b d := by
  obtain ⟨k1, k2, k3, k4⟩ := k
  obtain ⟨-, h2, h3, h4⟩ := h
  exact ⟨k1, k2.trans h2, k3.trans h3, k4.trans h4⟩

theorem nextPin_pinned {i : Nat} (n : Nat) (s : State) (hw : TabWf {} s.bursts) (hp : (burstOf s i).phase = .pinning) :
    TabWf {} (nextPin n s i).bursts ∧ Pinned (burstOf s i) (burstOf (nextPin n s i) i)
      ∧ ∀ j, j ≠ i → burstOf (nextPin n s i) j = burstOf s j := by
  induction n generalizing s with
  | zero => exact ⟨hw, ⟨.inl hp, rfl, rfl, rfl⟩, fun _ _ => rfl⟩
  | succ n ih =>
    have same := fun f => burstOf_modBurst_same s i f hw
    have other := fun f j (hj : j ≠ i) => burstOf_modBurst_other s i f hj
    unfold nextPin
    dsimp only
    split
    · obtain ⟨w, e, o⟩ := (trackPath_stands _ i).of_wf (modBurst_wf hw i fun b => { b with phase := .fetching })
      refine ⟨w, ?_, fun j hj => (o j hj).trans (other _ j hj)⟩
      exact (Pinned.of_standing e (by rw [same]; exact .inr rfl)).trans (by rw [same]; exact ⟨.inr rfl, rfl, rfl, rfl⟩)
    · next g rest hl =>
      split
      · split
        · have k := (Stands.of_touch (i := i) (sendFetch_touch (Sys2Proof.Machine.modBurst s i fun b =>
            { b with issued := b.issued ++ [metaKey 0 g .pin] }) i (metaKey 0 g .pin))).trans (Stands.modBurst s fun _ => rfl)
          obtain ⟨w, e, o⟩ := k.of_wf hw
          exact ⟨w, Pinned.of_standing e (.inl hp), o⟩
        · exact ⟨hw, ⟨.inl hp, rfl, rfl, rfl⟩, fun _ _ => rfl⟩
      · obtain ⟨w, e, o⟩ := ih _ (modBurst_wf hw i fun b => { b with pinLeft := rest }) (by rw [same]; exact hp)
        exact ⟨w, e.trans (by rw [same]; exact ⟨.inl hp, rfl, rfl, rfl⟩), fun j hj => (o j hj).trans (other _ j hj)⟩

/-- The BURST whose turn it is to pin is one that pins. -/
theorem pinTurn_pinning {s : State} (hw : TabWf {} s.bursts) {i : Nat} (h : pinTurn s = some i) :
    (burstOf s i).phase = .pinning := by
  unfold pinTurn at h
  refine List.foldlRecOn (motive := fun o => ∀ k, o = some k → (burstOf s k).phase = .pinning) _ _ (by simp)
    (fun o ho e he k hk => ?_) i h
  obtain ⟨hm, hp⟩ := List.mem_filter.1 he
  have pins : (burstOf s e.1).phase = .pinning := by
    unfold burstOf
    rw [tget_of_mem hw hm]
    simpa using hp
  cases o with
  | none => cases hk; exact pins
  | some j =>
    dsimp only at hk
    split at hk
    · cases hk; exact pins
    · exact ho k hk

/-- As settlePins changes a BURST: not at all, or as one that was pinning. -/
def PinsOn (b c : Burst) : Prop := c = b ∨ (b.phase = .pinning ∧ Pinned b c)

theorem PinsOn.trans {b c d : Burst} (k : PinsOn c d) (h : PinsOn b c) : PinsOn b d := by
  rcases h with rfl | ⟨hp, h⟩
  · exact k
  · rcases k with rfl | ⟨-, k⟩
    · exact .inr ⟨hp, h⟩
    · exact .inr ⟨hp, k.trans h⟩

theorem nextPin_pinsOn {s : State} {i : Nat} (n : Nat) (hw : TabWf {} s.bursts) (hp : (burstOf s i).phase = .pinning) :
    TabWf {} (nextPin n s i).bursts ∧ ∀ j, PinsOn (burstOf s j) (burstOf (nextPin n s i) j) := by
  obtain ⟨w, e, o⟩ := nextPin_pinned n s hw hp
  refine ⟨w, fun j => ?_⟩
  by_cases hj : j = i
  · subst hj; exact .inr ⟨hp, e⟩
  · exact .inl (o j hj)

theorem settlePinsGo_pinsOn (n : Nat) (s : State) (hw : TabWf {} s.bursts) (j : Nat) :
    PinsOn (burstOf s j) (burstOf (settlePinsGo n s) j) := by
  induction n generalizing s with
  | zero => exact .inl rfl
  | succ n ih =>
    unfold settlePinsGo
    split
    · exact .inl rfl
    · next i hi =>
      obtain ⟨w, once⟩ := nextPin_pinsOn ((burstOf s i).pinLeft.length + 1) hw (pinTurn_pinning hw hi)
      split
      · exact .inl rfl
      · dsimp only
        split
        · exact once j
        · exact (ih _ w).trans (once j)

theorem settlePins_pinsOn {s : State} (hw : TabWf {} s.bursts) (j : Nat) :
    PinsOn (burstOf s j) (burstOf (settlePins s) j) := settlePinsGo_pinsOn _ s hw j

/-! The dispatch. -/

/-- The BURST that a dispatch puts in play (R153). -/
def newBurst (s : State) (m : Msg) (img : List Byte) (jump : Option Nat) : Burst :=
  { sched := pSched m, entry := pEntry m, seg := pEntry m, sites := BitVec.ofNat 64 (pSites m)
    pebs := (pebsOfSites s (pSites m)).foldl (fun x p => putBit x p true) 0, pinLeft := pinSegments img
    jump := jump.map (fun c => (c, 0)), turn := s.bursts.foldl (fun n e => max n (e.2.turn + 1)) 0
    pause := if s.dev.pauseReq then some { stamp := 0, fromSeg := false } else none }

/-- A claimed PEB at the dispatch: its channels, tables and layers as the image has them (R136, R142, R162). -/
def setUpPeb (img : List Byte) (s : State) (p : Nat) : State :=
  setPools (loadTables (settleCorrections (startPins (modPeb s p fun x => { x with rest := .none }) p) p) img p) img p

/-- A BURST put in play, its PEBs set up, before it pins. -/
def putInPlay (s : State) (i : Nat) (m : Msg) (img : List Byte) (jump : Option Nat) : State :=
  (pebsOfSites s (pSites m)).foldl (setUpPeb img)
    { s with bursts := tset {} s.bursts i (newBurst s m img jump) }

theorem putInPlay_setUp (s : State) (i : Nat) (m : Msg) (img : List Byte) (jump : Option Nat) :
    Touch [.chans, .pebs] { s with bursts := tset {} s.bursts i (newBurst s m img jump) } (putInPlay s i m img jump) :=
  Touch.foldl (Touch.refl _ _) fun u p => Touch.app (setPools_touch ..) (by decide) (Touch.app (loadTables_touch ..)
    (by decide) (Touch.app (settleCorrections_touch ..) (by decide) (Touch.app (startPins_touch ..) (by decide)
      ((modPeb_touch ..).mono (by decide)))))

theorem putInPlay_touch (s : State) (i : Nat) (m : Msg) (img : List Byte) (jump : Option Nat) :
    Touch [.chans, .pebs, .bursts] s (putInPlay s i m img jump) :=
  (putInPlay_setUp s i m img jump).app (by decide) (Touch.set_bursts (by decide) (Touch.refl _ _))

/-- The BURST is the new one, and every other as it was. -/
theorem putInPlay_burst {s : State} (hw : TabWf {} s.bursts) (i : Nat) (m : Msg) (img : List Byte) (jump : Option Nat) :
    TabWf {} (putInPlay s i m img jump).bursts ∧ burstOf (putInPlay s i m img jump) i = newBurst s m img jump
      ∧ ∀ j, j ≠ i → burstOf (putInPlay s i m img jump) j = burstOf s j := by
  unfold burstOf
  rw [(putInPlay_setUp s i m img jump).bursts]
  exact ⟨tset_wf hw _ _, tget_tset_same hw _ _, fun j hj => tget_tset_other _ _ _ hj⟩

theorem burstDispatch_idle {s : State} {i : Nat} (h : (schedOf s (pSched (slotOf s i).msg)).st ≠ .valid) :
    Idle (.burstDispatch i) s := if_neg fun g => h (of_decide_eq_true g.2)

section

variable {s : State} {i : Nat} (hc : canDispatch s i .burst = true)
  (hv : (schedOf s (pSched (slotOf s i).msg)).st = .valid)
include hc hv

/-- A PIN descriptor with a reserved field set is a misuse (R5). -/
theorem burstDispatch_misuse (hr : ((pinSegments (schedOf s (pSched (slotOf s i).msg)).image).any fun n =>
    descReserved (descBytes (schedOf s (pSched (slotOf s i).msg)).image n)) = true) :
    Misuses (.burstDispatch i) s .reservedField := by
  show execBurstDispatch i s = _
  unfold execBurstDispatch
  dsimp only
  rw [if_pos ⟨hc, decide_eq_true hv⟩, if_pos hr]

/-- The dispatch up to the pinning (R153). -/
theorem burstDispatch_run (hw : TabWf {} s.ledger) (hb : TabWf {} s.bursts)
    (hr : ((pinSegments (schedOf s (pSched (slotOf s i).msg)).image).any fun n =>
      descReserved (descBytes (schedOf s (pSched (slotOf s i).msg)).image n)) = false) :
    ∃ u b, exec (.burstDispatch i) s = .next (settlePins u) ∧ Underway i .burst s u ∧ TabWf {} u.bursts
      ∧ burstOf u i = newBurst b (slotOf s i).msg (schedOf s (pSched (slotOf s i).msg)).image (slotOf s i).jump
      ∧ ∀ j, j ≠ i → burstOf u j = burstOf s j := by
  have tk := (takeItem_touch s i).bursts
  obtain ⟨w, ei, eo⟩ := putInPlay_burst (s := takeItem s i) (by rw [tk]; exact hb) i (slotOf s i).msg
    (schedOf s (pSched (slotOf s i).msg)).image (slotOf s i).jump
  refine ⟨_, _, ?_, (Underway.of_takeItem hw hc (by decide)).touch (putInPlay_touch ..), w, ei, fun j hj => ?_⟩
  · show execBurstDispatch i s = _
    unfold execBurstDispatch
    dsimp only
    rw [if_pos ⟨hc, decide_eq_true hv⟩, if_neg (by simp [hr])]
    rfl
  · rw [eo j hj]
    unfold burstOf
    rw [tk]

theorem burstDispatch_completes (hw : TabWf {} s.ledger) (hb : TabWf {} s.bursts)
    (hr : ((pinSegments (schedOf s (pSched (slotOf s i).msg)).image).any fun n =>
      descReserved (descBytes (schedOf s (pSched (slotOf s i).msg)).image n)) = false) :
    Completes (.burstDispatch i) s [.dev, .ledger, .chans, .pebs, .bursts, .fabric] fun t => dispatched i .burst s t
      ∧ (burstOf t i).sched = pSched (slotOf s i).msg ∧ (burstOf t i).entry = pEntry (slotOf s i).msg
      ∧ (burstOf t i).seg = pEntry (slotOf s i).msg
      ∧ ((burstOf t i).phase = .pinning ∨ (burstOf t i).phase = .fetching)
      ∧ ∀ j, j ≠ i → (burstOf s j).phase ≠ .pinning → burstOf t j = burstOf s j := by
  obtain ⟨u, b, e, g, w, ei, eo⟩ := burstDispatch_run hc hv hw hb hr
  have hi : Pinned (burstOf u i) (burstOf (settlePins u) i) := by
    rcases settlePins_pinsOn w i with h | ⟨-, h⟩
    · rw [h, ei]; exact ⟨.inl rfl, rfl, rfl, rfl⟩
    · exact h
  rw [ei] at hi
  obtain ⟨h1, h2, h3, h4⟩ := hi
  refine Completes.of_next e ⟨(g.touch (settlePins_touch _)).taken, h2, h3, h4, h1, fun j hj hp => ?_⟩
    (execBurstDispatch_touch i s)
  rcases settlePins_pinsOn w j with h | ⟨h, -⟩
  · exact h.trans (eo j hj)
  · rw [eo j hj] at h; exact absurd h hp

end

end Sys2Proof.Machine
end

section
/-! PROOFS. CAL items: the unit that an end leaves OFFLINE, and the dispatch (R336, R375). -/

namespace Sys2Proof.Machine

/-! A unit's state through the end of an item: an end changes only what units still owe. -/

theorem modUnit_wf {s : State} (h : TabWf {} s.units) (u : Nat) (f : UnitSt → UnitSt) : TabWf {} (modUnit s u f).units :=
  tmod_wf h u f

/-- The units' table is canonical, and unit u is in a state, faulted or not. -/
def UnitStands (u : Nat) (x : UState) (fl : Bool) (s : State) : Prop :=
  TabWf {} s.units ∧ (unitOf s u).st = x ∧ (unitOf s u).faulted = fl

section

variable {u : Nat} {x : UState} {fl : Bool}

theorem UnitStands.touch {ps : List Part} {s t : State} (k : Touch ps s t) (h : Part.units ∉ ps := by decide) :
    Keeps (UnitStands u x fl) s t :=
  ⟨fun w => by unfold UnitStands unitOf; rw [k.units h]; exact w⟩

theorem modUnit_stands (s : State) (w : Nat) {f : UnitSt → UnitSt} (hs : ∀ v, (f v).st = v.st)
    (hf : ∀ v, (f v).faulted = v.faulted) : Keeps (UnitStands u x fl) s (modUnit s w f) := by
  refine ⟨fun ⟨h1, h2, h3⟩ => ⟨modUnit_wf h1 _ _, ?_⟩⟩
  by_cases h : u = w
  · subst h
    rw [unitOf_modUnit_same _ _ _ h1, hs, hf]
    exact ⟨h2, h3⟩
  · rw [unitOf_modUnit_other _ _ _ h]
    exact ⟨h2, h3⟩

theorem submitCal_stands (s : State) (w c : Nat) (a : Bool) : Keeps (UnitStands u x fl) s (submitCal s w c a) := by
  unfold submitCal
  dsimp only
  split
  · exact modUnit_stands _ _ (fun _ => rfl) fun _ => rfl
  · split
    · exact (UnitStands.touch (throughMb2_touch ..)).trans (UnitStands.touch (newItem_touch ..))
    · exact Keeps.trans (modUnit_stands _ _ (fun _ => rfl) fun _ => rfl) (UnitStands.touch (throughMb2_touch ..))

theorem submitUnslotted_stands (s : State) : Keeps (UnitStands u x fl) s (submitUnslotted s) := by
  unfold submitUnslotted
  refine Keeps.ite (Keeps.refl _ s) (Keeps.foldl (Keeps.refl _ s) fun v w => ?_)
  exact Keeps.ite (Keeps.refl _ v) ((submitCal_stands ..).trans (modUnit_stands _ _ (fun _ => rfl) fun _ => rfl))

theorem submitDue_stands (s : State) : Keeps (UnitStands u x fl) s (submitDue s) := by
  unfold submitDue
  refine Keeps.foldl (Keeps.refl _ s) fun v w => ?_
  exact Keeps.ite (Keeps.refl _ v) ((submitCal_stands ..).trans (modUnit_stands _ _ (fun _ => rfl) fun _ => rfl))

theorem settleCal_stands (s : State) : Keeps (UnitStands u x fl) s (settleCal s) :=
  Keeps.ite ((submitDue_stands _).trans (UnitStands.touch (setMode_touch ..))) (Keeps.refl _ s)

theorem endItem_stands (s : State) (i : Nat) (r : Option Nat) (f : Slot → Slot) :
    Keeps (UnitStands u x fl) s (endItem s i r f) := by
  have done : ∀ v, Keeps (UnitStands u x fl) s v → Keeps (UnitStands u x fl) s
      (if (slotOf s i).own then submitUnslotted (itemDone v i) else itemDone v i) := fun v h => by
    have hd := (UnitStands.touch (itemDone_touch v i)).trans h
    exact Keeps.ite ((submitUnslotted_stands _).trans hd) hd
  unfold endItem
  dsimp only
  refine Keeps.ite ((settleCal_stands _).trans ((UnitStands.touch (settlePause_touch ..)).trans
    ((UnitStands.touch (settleMode_touch ..)).trans (done _ (Keeps.ite ?_ ?_))))) (Keeps.refl _ s)
  · exact Keeps.trans (modUnit_stands _ _ (fun _ => rfl) fun _ => rfl) (UnitStands.touch (modSlot_touch ..))
  · exact UnitStands.touch (modSlot_touch ..)

end

/-! Units that an item leaves. -/

theorem setUnit_stands {s : State} (hw : TabWf {} s.units) (u : Nat) (x : UState) (byHost : Bool) :
    UnitStands u x (unitOf s u).faulted (setUnit s u x byHost) := by
  have h : UnitStands u x (unitOf s u).faulted (modUnit s u fun v => { v with st := x }) := by
    refine ⟨modUnit_wf hw _ _, ?_⟩
    rw [unitOf_modUnit_same _ _ _ hw]
    exact ⟨rfl, rfl⟩
  unfold setUnit
  dsimp only
  split
  · exact h
  · exact (UnitStands.touch (unitNotice_touch ..)).keeps h

/-- An own unit that goes OFFLINE: whoever held it holds it no more. -/
theorem releaseOwn_offline {s : State} (hw : TabWf {} s.units) (u : Nat) :
    UnitStands u .offline (unitOf s u).faulted (releaseOwn s u .offline) := by
  have h := (modUnit_stands _ u (f := fun v => { v with holder := .none }) (fun _ => rfl) fun _ => rfl).keeps
    (setUnit_stands hw u .offline false)
  unfold releaseOwn
  split
  · contradiction
  · simpa using h

theorem releaseOther_wf (s : State) (u : Nat) : Keeps (fun s => TabWf {} s.units) s (releaseOther s u) := by
  refine ⟨fun hw => ?_⟩
  unfold releaseOther
  split
  · rw [(restorePeb_touch ..).units]
    exact (setUnit_stands hw u _ false).1
  · exact hw

/-- A CAL item that fails leaves its unit OFFLINE (R336). -/
theorem failCal_offline {s : State} (hw : TabWf {} s.units) (i reason extra : Nat) :
    ∃ fl, UnitStands (pUnit (slotOf s i).msg) .offline fl (failCal s i reason .offline extra) := by
  have w := (Keeps.foldl (l := (heldUnits s (slotOf s i)).filter (· ≠ pUnit (slotOf s i).msg)) (Keeps.refl _ s)
    releaseOther_wf).keeps hw
  have h := releaseOwn_offline (s := freePress (((heldUnits s (slotOf s i)).filter
    (· ≠ pUnit (slotOf s i).msg)).foldl releaseOther s)) w (pUnit (slotOf s i).msg)
  unfold failCal
  dsimp only
  rw [ite_self]
  split
  · refine ⟨true, (endItem_stands ..).keeps ⟨modUnit_wf h.1 _ _, ?_⟩⟩
    rw [unitOf_modUnit_same _ _ _ h.1]
    exact ⟨h.2.1, rfl⟩
  · exact ⟨_, (endItem_stands ..).keeps h⟩

/-- Press is free after it. -/
theorem failCal_press (s : State) (i reason extra : Nat) (dst : UState) :
    (failCal s i reason dst extra).press.item = none ∧ (failCal s i reason dst extra).press.staged = [] := by
  unfold failCal
  dsimp only
  rw [(endItem_touch ..).press]
  split
  · rw [(modUnit_touch ..).press, (releaseOwn_touch ..).press]; exact ⟨rfl, rfl⟩
  · rw [(releaseOwn_touch ..).press]; exact ⟨rfl, rfl⟩

/-- A CAL item fails a class: it has ended, its unit OFFLINE and faulted (R336). -/
def failedCal (s : State) (i : Nat) : State :=
  modUnit (failCal s i rCalLimit .offline 0) (pUnit (slotOf s i).msg) fun v => { v with faulted := true }

theorem calFails_eq (s : State) (i c : Nat) :
    calFails s i c = detectOwn (failedCal s i) 0x2600 (pUnit (slotOf s i).msg) c false := rfl

theorem failedCal_touch (s : State) (i : Nat) :
    Touch [.dev, .units, .mbs, .ledger, .order, .chans, .fabric, .press, .svc, .free] s (failedCal s i) :=
  (modUnit_touch ..).app (by decide) (failCal_touch ..)

theorem failedCal_press (s : State) (i : Nat) :
    (failedCal s i).press.item = none ∧ (failedCal s i).press.staged = [] := by
  unfold failedCal
  rw [(modUnit_touch ..).press]
  exact failCal_press ..

theorem failedCal_unit {s : State} (hw : TabWf {} s.units) (i : Nat) :
    (unitOf (failedCal s i) (pUnit (slotOf s i).msg)).st = .offline
      ∧ (unitOf (failedCal s i) (pUnit (slotOf s i).msg)).faulted = true := by
  obtain ⟨fl, w, h, -⟩ := failCal_offline hw i rCalLimit 0
  unfold failedCal
  rw [unitOf_modUnit_same _ _ _ w]
  exact ⟨h, rfl⟩

theorem failedCal_ends {s : State} {i : Nat} (hw : TabWf {} s.ledger) (h : HostItem s i) :
    Ended s (failedCal s i) i (some 13) :=
  failCal_ends (reason := rCalLimit) (extra := 0) (dst := .offline) hw h

/-! The dispatch. -/

/-- Press with a CAL item in progress: its classes in order, the temperatures its unit has now (R336, R341). -/
def pressTakes (s : State) (i : Nat) (l : Slot) : Press :=
  { s.press with
    item := some i, left := classOrder (pClasses l.msg), staged := [], temp := unitTemp s (pUnit l.msg)
    temps := (unitDiodes (pUnit l.msg)).map fun n => (diodeTemp s n, fromRemote s n) }

section

variable {s : State} {i : Nat}

theorem calDispatch_idle (hl : lacksArray s (slotOf s i) = false) (hc : canDispatch s i .cal = false) :
    Idle (.calDispatch i) s := by
  show execCalDispatch i s = _
  unfold execCalDispatch
  dsimp only
  rw [if_neg (by simp [hl]), if_neg (by simp [hc])]

theorem calDispatch_idle_lacking (hl : lacksArray s (slotOf s i) = true)
    (hc : canDispatch (modUnit s unitTdc fun v => { v with st := .active }) i .cal = false) :
    Idle (.calDispatch i) s := by
  show execCalDispatch i s = _
  unfold execCalDispatch
  dsimp only
  rw [if_pos hl, if_neg (by simp [hc])]

theorem dpsEnabled_takeItem : dpsEnabled (takeItem s i) (slotOf s i) = dpsEnabled s (slotOf s i) := by
  unfold dpsEnabled dpsOf
  rw [(takeItem_touch s i).dps]

variable (hw : TabWf {} s.ledger)
include hw

theorem takeItem_hostItem (h : HostItem s i) : HostItem (takeItem s i) i := by
  refine ⟨?_, ?_⟩ <;> rw [takeItem_slot hw]
  · rfl
  · exact h.2

/-- Without the TDC array's calibration the timing class fails (R336, R242). -/
theorem calDispatch_fails (hl : lacksArray s (slotOf s i) = true)
    (hc : canDispatch (modUnit s unitTdc fun v => { v with st := .active }) i .cal = true) (hu : TabWf {} s.units) :
    FailsCal (.calDispatch i) s i 2 := by
  have tk := takeItem_touch s i
  have em : (slotOf (takeItem s i) i).msg = (slotOf s i).msg := by rw [takeItem_slot hw]
  have kf := failedCal_touch (takeItem s i) i
  have hx := failedCal_unit (s := takeItem s i) (by rw [tk.units]; exact hu) i
  rw [em] at hx
  obtain ⟨x1, x2⟩ := hx
  obtain ⟨p1, p2⟩ := failedCal_press (takeItem s i) i
  refine ⟨failedCal (takeItem s i) i, ?_, fun hi => ?_, x1, x2, p1, p2,
    kf.corrs.trans tk.corrs, kf.tdcW.trans tk.tdcW, kf.tdcLat.trans tk.tdcLat⟩
  · show execCalDispatch i s = _
    unfold execCalDispatch
    dsimp only
    rw [if_pos hl, if_pos hc, calFails_eq, em]
  · obtain ⟨e1, e2, e3⟩ := failedCal_ends (takeItem_wf hw) (takeItem_hostItem hw hi)
    exact ⟨e1, e2, e3.trans (stamp_hw tk.hw)⟩

variable (hl : lacksArray s (slotOf s i) = false) (hc : canDispatch s i .cal = true)
include hl hc

/-- Press takes the item, with its classes in order (R336). -/
theorem calDispatch_completes (hd : dpsEnabled s (slotOf s i) = false) :
    Completes (.calDispatch i) s [.dev, .units, .mbs, .ledger, .chans, .fabric, .press, .svc, .free] fun t =>
      t.press.item = some i ∧ t.press.left = classOrder (pClasses (slotOf s i).msg) ∧ t.press.staged = []
        ∧ (slotOf t i).st = .inFlight ∧ (slotOf t i).tStart = stamp s ∧ t.dev = s.dev := by
  have tk := takeItem_touch s i
  generalize hv : (heldUnits (takeItem s i) (slotOf s i)).foldl (takeUnit (pUnit (slotOf s i).msg)) (takeItem s i) = v
  have kf : Touch [.units, .mbs, .chans, .fabric, .svc, .free] (takeItem s i) v :=
    hv ▸ Touch.foldl (Touch.refl _ _) fun v w => takeUnit_touch _ v w
  have e : exec (.calDispatch i) s = .next { v with press := pressTakes v i (slotOf s i) } := by
    show execCalDispatch i s = _
    unfold execCalDispatch
    dsimp only
    rw [if_neg (by simp [hl]), if_pos hc, dpsEnabled_takeItem, if_neg (by simp [hd]), hv]
    rfl
  have es : slotOf v i = { slotOf s i with st := .inFlight, tStart := stamp s } := by
    rw [slotOf_ledger kf.ledger, takeItem_slot hw]
  refine ⟨_, e, ⟨rfl, rfl, rfl, congrArg Slot.st es, congrArg Slot.tStart es, ?_⟩,
    Touch.set_press (by decide) (kf.app (by decide) (tk.mono (by decide)))⟩
  exact kf.dev.trans (takeItem_cal hw (canDispatch_kind hc))

/-- A class that needs an enabled DPS channel off ends the item with UNIT_ENABLED (R336, R375). -/
theorem calDispatch_enabled (hd : dpsEnabled s (slotOf s i) = true) (hu : TabWf {} s.units) :
    Completes (.calDispatch i) s [.power, .dev, .units, .hw, .mbs, .ledger, .order, .dacs, .chans, .pebs, .bursts, .seqs,
      .tdcs, .acqs, .dps, .resvs, .lanes, .queues, .dmas, .fabric, .press, .house, .levee, .svc, .mem, .free] fun t =>
      (HostItem s i → Ended s t i (some 15)) ∧ t.press.item = s.press.item ∧ t.press.left = s.press.left
        ∧ t.press.staged = s.press.staged
        ∧ (hostHeld s (pUnit (slotOf s i).msg) = true → (unitOf t (pUnit (slotOf s i).msg)).st = .offline
          ∧ (unitOf t (pUnit (slotOf s i).msg)).faulted = true) := by
  have tk := takeItem_touch s i
  have hu' : TabWf {} (takeItem s i).units := by rw [tk.units]; exact hu
  have held : hostHeld (takeItem s i) (pUnit (slotOf s i).msg) = hostHeld s (pUnit (slotOf s i).msg) := by
    unfold hostHeld unitOf; rw [tk.units]
  generalize hv : (if hostHeld s (pUnit (slotOf s i).msg) then
    modUnit (releaseOwn (takeItem s i) (pUnit (slotOf s i).msg) .offline) (pUnit (slotOf s i).msg) fun v =>
      { v with faulted := true } else takeItem s i) = v
  have kv : Touch [.units, .mbs, .chans, .fabric, .svc, .free] (takeItem s i) v :=
    hv ▸ Touch.ite ((modUnit_touch ..).app (by decide) (releaseOwn_touch ..)) (Touch.refl _ _)
  have e : exec (.calDispatch i) s = .next (endItem v i (some rUnitEnabled) id) := by
    show execCalDispatch i s = _
    unfold execCalDispatch
    dsimp only
    rw [if_neg (by simp [hl]), if_pos hc, dpsEnabled_takeItem, if_pos hd, held, hv]
  have press : (endItem v i (some rUnitEnabled) id).press = s.press := by
    rw [(endItem_touch ..).press, kv.press, tk.press]
  refine Completes.of_next e ⟨fun hi => ?_, by rw [press], by rw [press], by rw [press], fun hh => ?_⟩
    (execCalDispatch_touch i s)
  · exact Ended.of_slot kv (by decide) (by decide) tk.hw (takeItem_wf hw) (takeItem_hostItem hw hi) rfl
  · have off := releaseOwn_offline hu' (pUnit (slotOf s i).msg)
    have st : UnitStands (pUnit (slotOf s i).msg) .offline true v := by
      rw [← hv, if_pos hh]
      refine ⟨modUnit_wf off.1 _ _, ?_⟩
      rw [unitOf_modUnit_same _ _ _ off.1]
      exact ⟨off.2.1, rfl⟩
    exact ((endItem_stands ..).keeps st).2

end

end Sys2Proof.Machine
end

section
/-! PROOFS. HEADWATER_TIMED_FIRE, and how items are dispatched (R52, R64). -/

namespace Sys2Proof.Machine

/-- The state in which the action of a timed item begins: the item waits no more. -/
def disarm (s : State) (i : Nat) : State := modSlot s i fun l => { l with armed := false }

theorem disarm_touch (s : State) (i : Nat) : Touch [.ledger] s (disarm s i) := modSlot_touch ..

/-! The action of each kind (Table 5.10). -/

section

variable {s : State} {i : Nat}

theorem fireItem_burst (h : (slotOf s i).kind = some .burst) : ∃ fine, fireItem s i = beginBurst (disarm s i) i
    (if (slotOf s i).flags.getLsbD 2 then stamp s else pStartTime (slotOf s i).msg) fine := by
  unfold fireItem
  simp only [h]
  split
  · exact ⟨0, rfl⟩
  · exact ⟨_, rfl⟩

theorem fireItem_levels (h : (slotOf s i).kind = some .levels) : fireItem s i = fireLevels (disarm s i) i := by
  unfold fireItem; simp only [h]; rfl

theorem fireItem_measure (h : (slotOf s i).kind = some .measure) : fireItem s i = startMeasure (disarm s i) i := by
  unfold fireItem; simp only [h]; rfl

theorem fireItem_tdc (h : (slotOf s i).kind = some .tdc) : fireItem s i = startTdc (disarm s i) i := by
  unfold fireItem; simp only [h]; rfl

theorem fireItem_acquire (h : (slotOf s i).kind = some .acquire) : fireItem s i = beginAcquire (disarm s i) i := by
  unfold fireItem; simp only [h]; rfl

theorem fireItem_dps (h : (slotOf s i).kind = some .dps) : fireItem s i = startDps (disarm s i) i := by
  unfold fireItem; simp only [h]; rfl

theorem fireItem_lane (h : (slotOf s i).kind = some .lane) : fireItem s i = startLane (disarm s i) i := by
  unfold fireItem; simp only [h]; rfl

/-! What the action leaves. -/

/-- A BURST plays from its START_TIME, or from now where that has passed (R153, R52). -/
theorem fireItem_plays (hb : TabWf {} s.bursts) (hk : (slotOf s i).kind = some .burst) :
    (burstOf (fireItem s i) i).phase = .playing ∧ (burstOf (fireItem s i) i).begun = true
      ∧ (burstOf (fireItem s i) i).tRef
        = if (slotOf s i).flags.getLsbD 2 then stamp s else pStartTime (slotOf s i).msg := by
  obtain ⟨fine, e⟩ := fireItem_burst hk
  rw [e]
  exact beginBurst_plays i (by rw [(disarm_touch s i).bursts]; exact hb) _ fine

/-- The item's lanes begin (R296). -/
theorem fireItem_lanes (hl : TabWf {} s.lanes) (hk : (slotOf s i).kind = some .lane) (n : Nat) (hn : n ∈ itemLanes s i) :
    (laneOf (fireItem s i) n).begun = true ∧ (laneOf (fireItem s i) n).tStart = stamp s := by
  have k := disarm_touch s i
  have hm : n ∈ itemLanes (disarm s i) i := by unfold itemLanes; rw [k.lanes]; exact hn
  rw [fireItem_lane hk, startLane_lane (by rw [k.lanes]; exact hl), if_pos hm]
  exact ⟨rfl, stamp_hw k.hw⟩

variable (hw : TabWf {} s.ledger)
include hw

theorem disarm_slot : slotOf (disarm s i) i = { slotOf s i with armed := false } := slotOf_modSlot_same _ _ _ hw

theorem disarm_wf : TabWf {} (disarm s i).ledger := modSlot_wf hw _ _

theorem disarm_msg : (slotOf (disarm s i) i).msg = (slotOf s i).msg := by rw [disarm_slot hw]

/-- Of an item that goes on after its action begins, only the flags and the budget mark may change besides. -/
theorem fireItem_slot (hk : (slotOf s i).kind ≠ some .levels) (hd : TabWf {} s.dps) :
    ∃ fl b, slotOf (fireItem s i) i = { slotOf s i with armed := false, flags := fl, budget := b } := by
  have quiet : ∀ t, t.ledger = (disarm s i).ledger → ∃ fl b, slotOf t i =
      { slotOf s i with armed := false, flags := fl, budget := b } := fun t h =>
    ⟨(slotOf s i).flags, (slotOf s i).budget, by rw [slotOf_ledger h, disarm_slot hw]⟩
  rcases h : (slotOf s i).kind with _ | k
  · refine quiet _ ?_
    unfold fireItem; simp only [h]; rfl
  · cases k with
    | burst =>
      obtain ⟨fine, e⟩ := fireItem_burst h
      rw [e, beginBurst_slot (disarm_wf hw), disarm_slot hw]
      exact ⟨_, _, rfl⟩
    | levels => exact absurd h hk
    | measure => exact quiet _ (by rw [fireItem_measure h, (startMeasure_touch ..).ledger])
    | tdc => exact quiet _ (by rw [fireItem_tdc h, (startTdc_touch ..).ledger])
    | acquire => exact quiet _ (by rw [fireItem_acquire h, (beginAcquire_touch ..).ledger])
    | dps =>
      obtain ⟨⟨fl, b, e⟩, -⟩ := startDps_keeps (i := i) (disarm_wf hw) (by rw [(disarm_touch s i).dps]; exact hd)
      rw [fireItem_dps h, e, disarm_slot hw]
      exact ⟨fl, b, rfl⟩
    | lane => exact quiet _ (by rw [fireItem_lane h, (startLane_touch ..).ledger])
    | transfer | cal =>
      refine quiet _ ?_
      unfold fireItem; simp only [h]; rfl

theorem fireItem_flight (hst : (slotOf s i).st = .inFlight) (hd : TabWf {} s.dps) (hk : (slotOf s i).kind ≠ some .levels) :
    (slotOf (fireItem s i) i).st = .inFlight ∧ (slotOf (fireItem s i) i).armed = false
      ∧ (slotOf (fireItem s i) i).tStart = (slotOf s i).tStart := by
  obtain ⟨fl, b, e⟩ := fireItem_slot hw hk hd
  rw [e]
  exact ⟨hst, rfl, rfl⟩

/-- A LEVELS item strobes its group and ends (R193). -/
theorem fireItem_strobes (hd : TabWf {} s.dacs) (hk : (slotOf s i).kind = some .levels) :
    groupLoaded (pGroup (slotOf s i).msg) s (fireItem s i) ∧ (HostItem s i → Ended s (fireItem s i) i none) := by
  have k := disarm_touch s i
  rw [fireItem_levels hk]
  refine ⟨?_, fun h => ?_⟩
  · rw [← disarm_msg hw]
    exact groupLoaded_congr (fireLevels_loaded (by rw [k.dacs]; exact hd) i) k.dacs k.pebs k.dps k.power rfl
  · obtain ⟨e1, e2, e3⟩ := fireLevels_ends (disarm_wf hw) (HostItem.modSlot hw h (f := fun l => { l with armed := false }) rfl rfl)
    exact ⟨e1, e2, e3.trans (stamp_hw k.hw)⟩

/-- The sequencer begins the item's routine (R221). -/
theorem fireItem_routine (hq : TabWf {} s.seqs) (hk : (slotOf s i).kind = some .measure) :
    (seqOf (fireItem s i) (pMseq (slotOf s i).msg)).item = some i
      ∧ (seqOf (fireItem s i) (pMseq (slotOf s i).msg)).addr
        = BitVec.ofNat 14 (pRoutine (slotOf s i).msg + 0x2000 * pStore (slotOf s i).msg)
      ∧ (seqOf (fireItem s i) (pMseq (slotOf s i).msg)).reqPause = s.dev.pauseReq := by
  have k := disarm_touch s i
  obtain ⟨args, e⟩ := startMeasure_seq (s := disarm s i) (by rw [k.seqs]; exact hq) (disarm_msg hw)
  rw [fireItem_measure hk, e, k.dev]
  exact ⟨rfl, rfl, rfl⟩

/-- The item's TDCs are armed for their next measurement (R238). -/
theorem fireItem_tdcs (ht : TabWf {} s.tdcs) (hk : (slotOf s i).kind = some .tdc) (n : Nat)
    (hn : n ∈ itemTdcs (slotOf s i).msg) :
    (tdcOf (fireItem s i) n).armed = true ∧ (tdcOf (fireItem s i) n).index = (tdcOf s n).index := by
  have k := disarm_touch s i
  rw [fireItem_tdc hk, startTdc_tdc (by rw [k.tdcs]; exact ht) (disarm_msg hw), if_pos hn]
  unfold tdcOf
  rw [k.tdcs]
  exact ⟨rfl, rfl⟩

/-- The record begins in the item's buffer (R255). -/
theorem fireItem_record (ha : TabWf {} s.acqs) (hk : (slotOf s i).kind = some .acquire) :
    (acqOf (fireItem s i) (pBuffer (slotOf s i).msg)).started = true
      ∧ (acqOf (fireItem s i) (pBuffer (slotOf s i).msg)).item = (acqOf s (pBuffer (slotOf s i).msg)).item := by
  have k := disarm_touch s i
  obtain ⟨⟨turn, e⟩, -⟩ := beginAcquire_acq (s := disarm s i) (by rw [k.acqs]; exact ha) (disarm_msg hw)
  rw [fireItem_acquire hk, e]
  unfold acqOf
  rw [k.acqs]
  exact ⟨rfl, rfl⟩

/-- A DPS item reserves its budget, or waits for it; no set point moves yet (R286). -/
theorem fireItem_budget (hd : TabWf {} s.dps) (hk : (slotOf s i).kind = some .dps) :
    (∀ n, (dpsOf (fireItem s i) n).set = (dpsOf s n).set ∧ (dpsOf (fireItem s i) n).enabled = (dpsOf s n).enabled)
      ∧ (dpsList (pDpsMask (slotOf s i).msg) ≠ [] →
        (slotOf (fireItem s i) i).budget = true ∨ admitted (fireItem s i) i = true) := by
  have k := disarm_touch s i
  have same : ∀ n, dpsOf (disarm s i) n = dpsOf s n := fun n => by unfold dpsOf; rw [k.dps]
  obtain ⟨-, -, h⟩ := startDps_keeps (i := i) (disarm_wf hw) (by rw [k.dps]; exact hd)
  rw [fireItem_dps hk]
  refine ⟨fun n => ?_, fun hn => startDps_budget (disarm_wf hw) (by rw [disarm_msg hw]; exact hn)⟩
  rw [← same n]
  exact h n

end

/-! When it fires (R52). -/

/-- The timed action of the item in slot i is due: the timing clock runs, the count is at or past START_TIME, and a
LEVELS item does not wait for TRIG_IN. -/
def fireDue (s : State) (i : Nat) : Prop :=
  (slotOf s i).st = .inFlight ∧ (slotOf s i).armed = true ∧ pStartAt (slotOf s i).msg = true
    ∧ ((slotOf s i).kind = some .levels → pStrobe (slotOf s i).msg = 0) ∧ s.hw.running = true ∧ s.clock.locked = true
    ∧ timePast s i = true ∧ syncReady s (slotOf s i) = true

theorem fire_guard (s : State) (i : Nat) : ((slotOf s i).st = .inFlight ∧ (slotOf s i).armed ∧ pStartAt (slotOf s i).msg
    ∧ ¬ ((slotOf s i).kind = some .levels ∧ pStrobe (slotOf s i).msg ≠ 0) ∧ s.hw.running ∧ s.clock.locked
    ∧ timePast s i ∧ syncReady s (slotOf s i)) ↔ fireDue s i := by
  unfold fireDue
  rw [not_and, not_ne_iff]

theorem timedFire_idle {s : State} {i : Nat} (h : ¬ fireDue s i) : Idle (.headwaterTimedFire i) s :=
  if_neg fun g => h ((fire_guard s i).1 g)

theorem timedFire_due {s : State} {i : Nat} (h : fireDue s i) : exec (.headwaterTimedFire i) s = .next (fireItem s i) :=
  if_pos ((fire_guard s i).2 h)

/-- Settles O50: a dispatch is followed through the item's slot (`Underway`) and through the unit that carries the item,
kind by kind; the timed action by the same starts. -/
theorem itemsAreDispatchedWhenTheyMay : Obligations.ItemsAreDispatchedWhenTheyMay := by
  intro i s hw l m
  refine ⟨fun k c hm hc => dispatch_idle hm hc, fun hc hb => ⟨burstDispatch_idle, burstDispatch_misuse hc, fun hv hr => ?_⟩,
    fun hc hq => ⟨measureDispatch_idle, fun hs ha => ⟨measureDispatch_bad hw hc hs ha, fun hb hn => ?_, fun hb hn => ?_⟩⟩,
    fun hc ht => tdcDispatch_completes hw hc ht, fun hc ha => acquireDispatch_completes hw hc ha,
    fun hc => ⟨transferDispatch_idle, transferDispatch_completes hw hc⟩,
    fun hc => ⟨levelsDispatch_waits hw hc, levelsDispatch_now hw hc⟩, fun hc hd => dpsDispatch_completes hw hc hd,
    fun hc hl => laneDispatch_completes hw hc hl,
    fun hl => ⟨calDispatch_idle hl, calDispatch_completes hw hl, calDispatch_enabled hw hl⟩,
    fun hl => ⟨calDispatch_idle_lacking hl, calDispatch_fails hw hl⟩, timedFire_idle, fun due hb hq ht ha hd hla hda => ?_⟩
  · exact burstDispatch_completes hc hv hw hb hr
  · exact measureDispatch_now hw hc hs ha hb hn hq
  · exact measureDispatch_later hw hc hs ha hb hn hq
  · exact Completes.of_next (timedFire_due due) ⟨fireItem_flight hw due.1 hd, fireItem_strobes hw hda,
      fireItem_plays hb, fireItem_routine hw hq, fireItem_tdcs hw ht, fireItem_record hw ha, fireItem_budget hw hd,
      fireItem_lanes hla⟩ (execHeadwaterTimedFire_touch i s)

end Sys2Proof.Machine
end

section
/-! PROOFS. The state at reset, POWER_ON_RESET and CLR_N (R29, R31, R34, R35). -/

namespace Sys2Proof.Machine

/-- Settles O7: every clause reads one field of the reset state, and a read of an empty table gives the default. -/
theorem resetValuesOfTheDevice : Obligations.ResetValuesOfTheDevice :=
  ⟨rfl, rfl, rfl, rfl, rfl, rfl, rfl, rfl, rfl, fun _ => rfl, fun _ => rfl, rfl, rfl, rfl, rfl, rfl, rfl⟩

/-- Settles O9: the state is answered as it is written; each DPS channel goes through `resetDps`. -/
theorem powerOnResetClearsTheDevice : Obligations.PowerOnResetClearsTheDevice := by
  refine ⟨fun s => rfl, fun s t hw h n => ?_⟩
  cases h
  exact tget_tmapAll {} resetDps rfl s.dps hw n

/-! CLR_N (R35). -/

/-- An entry that differs from the default and that p holds of is found under its key. -/
theorem tkeys_or {α : Type} (d : α) (t : Tab α) (p : Nat → α → Bool) (k : Nat) :
    k ∈ tkeys t p ∨ p k (tget d t k) = false ∨ tget d t k = d := by
  induction t with
  | nil => exact .inr (.inr rfl)
  | cons e t ih =>
    obtain ⟨j, v⟩ := e
    simp only [tkeys, List.filter_cons, tget] at ih ⊢
    by_cases hk : k = j
    · subst hk
      cases hp : p k v <;> simp [hp]
    · rw [if_neg hk]
      split
      · rw [List.map_cons, List.mem_cons, or_assoc]; exact .inr ih
      · exact ih

/-- CLR_N's fall at one DAC: the output stands at the clear code. -/
def clrDac (d : Dac) : Dac := { d with held := true, byClr := true }

/-- The DACs at which CLR_N's fall changes something, and those of the set points. -/
def clrKeys (s : State) : List Nat :=
  ((tkeys s.dacs fun _ d => ! d.held || ! d.byClr) ++ (List.range 48).map dpsKey).dedup

theorem execClrNAssert_eq (s : State) : exec .clrNAssert s =
    .next (((List.range 48).filter fun n => (dpsOf s n).enabled).foldl followDac { s with
      power := { s.power with clrLow := true }, dacs := tmods {} s.dacs (clrKeys s) fun _ d => clrDac d }) := rfl

/-- A DAC that the fall leaves out is held already. -/
theorem clrDac_left {s : State} {k : Nat} (h : k ∉ clrKeys s) : (dacOf s k).held = true := by
  have hn : k ∉ tkeys s.dacs fun _ d => ! d.held || ! d.byClr := fun hm =>
    h (List.mem_dedup.2 (List.mem_append_left _ hm))
  rcases tkeys_or {} s.dacs (fun _ d => ! d.held || ! d.byClr) k with hm | hp | hd
  · exact absurd hm hn
  · show (tget {} s.dacs k).held = true
    simp only [Bool.or_eq_false_iff, Bool.not_eq_false'] at hp
    exact hp.1
  · show (tget {} s.dacs k).held = true
    rw [hd]

/-- Settles O12: the set points that follow touch no DAC, so each DAC is as `clrDac` left it or was held already. -/
theorem clearPinHoldsEveryDac : Obligations.ClearPinHoldsEveryDac := by
  refine ⟨fun s hw => ?_, fun s => rfl⟩
  have hf : ∀ (ns : List Nat) (u : State), Touch [.dps] u (ns.foldl followDac u) := fun _ u =>
    Touch.foldl (Touch.refl _ _) followDac_touch
  refine Completes.of_next (execClrNAssert_eq s) ⟨(hf _ _).power, fun k => ?_⟩ (execClrNAssert_touch s)
  unfold dacOf
  rw [(hf _ _).dacs, tget_tmods {} (fun _ d => clrDac d) (fun _ _ => rfl) _ _ hw]
  split
  · exact ⟨rfl, rfl, rfl, rfl⟩
  · next hk => exact ⟨clrDac_left hk, rfl, rfl, rfl⟩

end Sys2Proof.Machine
end

section
/-! PROOFS. The releases of reset and the boot that BOOT_SRC selects (R24, R31, R67). -/

namespace Sys2Proof.Machine

/-! What a boot keeps as it begins. -/

/-- t is s but for the switches that are ordered or closing, as far as a reset's release sets the parts compared. -/
structure BootKeeps (s t : State) : Prop where
  power : ∃ a b c d, t.power = { s.power with pdOnOrd := a, pdOffOrd := b, pdBusy := c, pdRise := d }
  dev : t.dev = s.dev
  mbs : t.mbs = s.mbs

theorem BootKeeps.refl (s : State) : BootKeeps s s := ⟨⟨_, _, _, _, rfl⟩, rfl, rfl⟩

/-- PD1 holds no unit, so that an order for it alone moves only the switches. -/
theorem orderSwitches_pd1 (s : State) : ∃ a b c d, orderSwitches s (bit32 1) 0 =
    { s with power := { s.power with pdOnOrd := a, pdOffOrd := b, pdBusy := c, pdRise := d } } := by
  have hon : setBits 32 (bit32 1).toNat = [1] := by decide
  have hoff : setBits 32 (0 : BitVec 32).toNat = [] := by decide
  have hu : domainUnit 1 = none := by decide
  have hc : cycled s 1 = false := by unfold cycled; rw [hu]
  unfold orderSwitches orderOn1
  dsimp only
  rw [hon, hoff, List.foldl_nil, List.foldl_cons, List.foldl_nil, if_neg (by simp [hc]), hu]
  split
  · exact ⟨_, _, _, _, rfl⟩
  · split
    · exact ⟨_, _, _, _, rfl⟩
    · exact ⟨_, _, _, _, rfl⟩

/-- A lock at M = 80.0 begins; no firmware runs, so that no notice is posted (R74). -/
theorem bootLock_keeps {s : State} (hr : s.boot.running = false) : BootKeeps s (bootLock s) := by
  obtain ⟨a, b, c, d, e⟩ := orderSwitches_pd1 { s with boot := { s.boot with wait := .lock } }
  unfold bootLock
  rw [e]
  generalize hv : { s with
    power := { s.power with pdOnOrd := a, pdOffOrd := b, pdBusy := c, pdRise := d }
    boot := { s.boot with wait := .lock } } = v
  have k := startLock_touch v m80
  have q := (startLock_quiet s.mbs v m80).keeps (by subst hv; exact ⟨hr, rfl⟩)
  exact ⟨⟨a, b, c, d, by rw [k.power, ← hv]⟩, by rw [k.dev, ← hv], q.2⟩

theorem bootLock_begins (s : State) : (bootLock s).boot.wait = .lock ∧ (bootLock s).clock.relocking = true
    ∧ (bootLock s).clock.lockTarget = m80 := by
  unfold bootLock
  rw [(startLock_touch ..).boot, (orderSwitches_touch ..).boot, startLock_clock]
  exact ⟨rfl, rfl, rfl⟩

/-! The boot of each BOOT_SRC (R67). -/

theorem startBoot_none {s : State} (h : s.power.src = 0) : startBoot s = s := if_pos h

theorem startBoot_lock {s : State} (h : s.power.src = 1) (hr : s.clock.refOk = true) : startBoot s = bootLock s := by
  unfold startBoot; rw [h, if_neg (by decide), if_pos rfl, if_pos hr]

theorem startBoot_ref {s : State} (h : s.power.src = 1) (hr : s.clock.refOk = false) :
    startBoot s = bootError s 0x06 .ref := by
  unfold startBoot; rw [h, if_neg (by decide), if_pos rfl, if_neg (by simp [hr])]

theorem startBoot_strap {s : State} (h : 2 ≤ s.power.src.toNat) : startBoot s = bootError s 0x01 .strap := by
  unfold startBoot
  rw [if_neg, if_neg] <;> intro e <;> rw [e] at h <;> exact absurd h (by decide)

theorem startBoot_keeps {s : State} (hr : s.boot.running = false) : BootKeeps s (startBoot s) := by
  unfold startBoot
  split
  · exact .refl s
  · split
    · split
      · exact bootLock_keeps hr
      · exact ⟨⟨_, _, _, _, rfl⟩, rfl, rfl⟩
    · exact ⟨⟨_, _, _, _, rfl⟩, rfl, rfl⟩

/-! The entry to BOOT. -/

/-- The device in BOOT as a reset ends, before the boot that BOOT_SRC selects. -/
def inBoot (s : State) : State :=
  setMode (modMb { s with
    power := { s.power with porHeld := false, warmHeld := false, pdOn := 0x9 }
    levee := { s.levee with cellarOk := true } } 0 fun b => { b with path := s.power.src.getLsbD 0 }) .boot

theorem enterBoot_eq (s : State) : enterBoot s = startBoot (inBoot s) := rfl

theorem inBoot_touch (s : State) : Touch [.power, .dev, .mbs, .levee] s (inBoot s) :=
  Touch.app (setMode_touch ..) (by decide) (Touch.app (modMb_touch ..) (by decide)
    (Touch.set_power_levee (by decide) (by decide) (Touch.refl _ _)))

theorem inBoot_power (s : State) :
    (inBoot s).power = { s.power with porHeld := false, warmHeld := false, pdOn := 0x9 } := (setMode_touch ..).power

theorem inBoot_path {s : State} (hw : TabWf {} s.mbs) : (mbOf (inBoot s) 0).path = s.power.src.getLsbD 0 := by
  have e : (inBoot s).mbs = tmod {} s.mbs 0 fun b => { b with path := s.power.src.getLsbD 0 } := (setMode_touch ..).mbs
  unfold mbOf
  rw [e]
  exact congrArg Mailbox.path (tget_tset_same hw 0 _)

/-- However a reset ends, the boot of the straps has begun, and the straps stand. -/
theorem enterBoot_begun {s : State} (hr : s.boot.running = false) (hw : TabWf {} s.mbs) :
    (enterBoot s).power.node = s.power.node ∧ (enterBoot s).power.src = s.power.src
      ∧ bootBegun s (enterBoot s) s.power.src := by
  have hb : (inBoot s).boot = s.boot := (inBoot_touch s).boot
  have hc : (inBoot s).clock = s.clock := (inBoot_touch s).clock
  have hs : (inBoot s).power.src = s.power.src := by rw [inBoot_power]
  obtain ⟨⟨a, b, c, d, hp⟩, hd, hm⟩ := startBoot_keeps (s := inBoot s) (by rw [hb]; exact hr)
  rw [inBoot_power] at hp
  rw [enterBoot_eq]
  unfold bootBegun
  rw [hp, hd]
  refine ⟨rfl, rfl, setMode_mode _ _, rfl, rfl, rfl, ?_, fun h => ?_, fun h hf => ?_, fun h hf => ?_, fun h => ?_⟩
  · unfold mbOf; rw [hm]; exact inBoot_path hw
  · rw [startBoot_none (hs.trans h)]; exact ⟨hb, hc⟩
  · rw [startBoot_ref (hs.trans h) (by rw [hc]; exact hf)]; exact ⟨rfl, rfl⟩
  · rw [startBoot_lock (hs.trans h) (by rw [hc]; exact hf)]; exact bootLock_begins _
  · rw [startBoot_strap (by rw [hs]; exact h)]; exact ⟨rfl, rfl⟩

/-- Settles O10: both releases are `enterBoot`, the one after the straps are sampled. -/
theorem resetReleaseStartsTheBoot : Obligations.ResetReleaseStartsTheBoot :=
  ⟨fun node src s h hr hw => Completes.of_next (if_pos h)
      (enterBoot_begun (s := { s with power := { s.power with node := node, src := src } }) hr hw)
      (execPowerOnResetRelease_touch node src s),
    fun s h hr hw => Completes.of_next (if_pos h) (enterBoot_begun hr hw) (execWarmResetRelease_touch s)⟩

end Sys2Proof.Machine
end

section
/-! PROOFS. FORD_CLOSE_N (R25, R61, R67). -/

namespace Sys2Proof.Machine

/-! The fall. -/

/-- The state after the fall's first effect, in every mode: the level is kept and the Ford is closed. -/
def fordFallen (s : State) : State := closeFord { s with power := { s.power with fordPinLow := true } }

theorem fordFallen_touch (s : State) :
    Touch [.power, .hw, .mbs, .fabric, .levee, .svc, .mem, .free] s (fordFallen s) :=
  Touch.app (closeFord_touch ..) (by decide) (Touch.set_power (by decide) (Touch.refl _ _))

theorem fordFallen_closed (s : State) :
    (fordFallen s).power.fordPinLow = true ∧ (fordFallen s).power.fordClosed = true := by
  obtain ⟨h1, -, h3⟩ := closeFord_closes { s with power := { s.power with fordPinLow := true } }
  exact ⟨h3, h1⟩

theorem fordFallen_inReset (s : State) : inReset (fordFallen s) = inReset s := by
  unfold inReset fordFallen
  rw [closeFord_power]
  split <;> rfl

theorem toBypass_closed {s : State} (h : s.power.fordPinLow = true) :
    (toBypass s).power.fordPinLow = true ∧ (toBypass s).power.fordClosed = true := by
  unfold toBypass
  split
  · obtain ⟨-, -, -, h1, h2⟩ := enterBypass_keeps s
    exact ⟨h2.trans h, h1⟩
  · obtain ⟨h1, -, h3⟩ := closeFord_closes s
    rw [setMode_power]
    exact ⟨h3.trans h, h1⟩

theorem toBypass_bypass (s : State) : (toBypass s).dev.mode = .bypass ∧ (toBypass s).boot = s.boot
    ∧ (s.boot.reported = true → (toBypass s).dev.armedMap = [] ∧ (toBypass s).dev.siteEnable = 0) := by
  refine ⟨?_, (toBypass_touch s).boot, fun h => ?_⟩
  · unfold toBypass
    split
    · exact (enterBypass_keeps s).1
    · exact setMode_mode _ _
  · obtain ⟨-, h1, h2, -⟩ := enterBypass_keeps s
    unfold toBypass
    rw [if_pos h]
    exact ⟨h1, h2⟩

/-- What becomes of a Trellis boot that has opened the Ford. -/
theorem bootFordFalls_waits {s : State} (h : s.boot.wait = .measure ∨ s.boot.wait = .train ∨ s.boot.wait = .request) :
    (bootFordFalls s).boot = if s.boot.phase = .verifying then { s.boot with wait := .ford }
      else { dropDownload s.boot with wait := .ford, error := 0x09#8 } := by
  unfold bootFordFalls
  rcases h with h | h | h <;> rw [h]

theorem bootFordFalls_other {s : State} (h1 : s.boot.wait ≠ .measure) (h2 : s.boot.wait ≠ .train)
    (h3 : s.boot.wait ≠ .request) : bootFordFalls s = s := by
  unfold bootFordFalls
  split
  · contradiction
  · contradiction
  · contradiction
  · rfl

/-- The modes from which Table 4.2 lets the fall take the device to BYPASS. -/
def fallsToBypass (m : Mode) : Prop :=
  m = .loaded ∨ m = .calibrate ∨ m = .idle ∨ m = .armed ∨ m = .run ∨ m = .pause ∨ m = .diagnostic

section

variable {s : State}

theorem fordFall_still (h : inReset s = true ∨ s.dev.mode = .safe ∨ s.dev.mode = .bypass ∨ s.dev.mode = .off) :
    exec .fordCloseNFall s = .next (fordFallen s) := by
  show execFordCloseNFall s = _
  unfold execFordCloseNFall
  dsimp only
  rw [← fordFallen, fordFallen_inReset, (fordFallen_touch s).dev]
  rcases h with h | h | h | h
  · exact if_pos h
  all_goals rw [h]; exact ite_self _

theorem fordFall_service (hr : inReset s = false) (h : s.dev.mode = .service) : exec .fordCloseNFall s =
    .next { fordFallen s with svc := { (fordFallen s).svc with ford := true } } := by
  show execFordCloseNFall s = _
  unfold execFordCloseNFall
  dsimp only
  rw [← fordFallen, fordFallen_inReset, (fordFallen_touch s).dev, hr, h]
  rfl

theorem fordFall_boot (hr : inReset s = false) (h : s.dev.mode = .boot) :
    exec .fordCloseNFall s = .next (bootFordFalls (fordFallen s)) := by
  show execFordCloseNFall s = _
  unfold execFordCloseNFall
  dsimp only
  rw [← fordFallen, fordFallen_inReset, (fordFallen_touch s).dev, hr, h]
  rfl

theorem fordFall_bypass (hr : inReset s = false) (h : fallsToBypass s.dev.mode) :
    exec .fordCloseNFall s = .next (toBypass (fordFallen s)) := by
  show execFordCloseNFall s = _
  unfold execFordCloseNFall
  dsimp only
  rw [← fordFallen, fordFallen_inReset, (fordFallen_touch s).dev, hr]
  rcases h with h | h | h | h | h | h | h <;> rw [h] <;> rfl

end

/-- Where the fall finds the device. -/
theorem fordFall_cases (s : State) :
    (inReset s = true ∨ s.dev.mode = .safe ∨ s.dev.mode = .bypass ∨ s.dev.mode = .off)
      ∨ inReset s = false ∧ (s.dev.mode = .service ∨ s.dev.mode = .boot ∨ fallsToBypass s.dev.mode) := by
  unfold fallsToBypass
  cases inReset s with
  | true => exact .inl (.inl rfl)
  | false => cases s.dev.mode <;> simp

/-- In every state the fall completes, with the level kept and the Ford closed. -/
theorem fordFall_closes (s : State) :
    ∃ t, exec .fordCloseNFall s = .next t ∧ t.power.fordPinLow = true ∧ t.power.fordClosed = true := by
  have c := fordFallen_closed s
  rcases fordFall_cases s with h | ⟨hr, h | h | h⟩
  · exact ⟨_, fordFall_still h, c⟩
  · exact ⟨_, fordFall_service hr h, c⟩
  · refine ⟨_, fordFall_boot hr h, ?_⟩
    rw [(bootFordFalls_touch _).power]
    exact c
  · exact ⟨_, fordFall_bypass hr h, toBypass_closed c.1⟩

/-! The rise. -/

/-- The rise reopens the Ford for a Trellis boot that waits for it with HWREF valid. -/
def riseReopens (s : State) : Prop :=
  inReset s = false ∧ s.dev.mode = .boot ∧ s.boot.wait = .ford ∧ s.clock.refOk = true

theorem fordRise_guard (s : State) : (¬ inReset s = true ∧ s.dev.mode = .boot ∧ s.boot.wait = .ford ∧ s.clock.refOk = true)
    ↔ riseReopens s := by
  unfold riseReopens
  rw [Bool.not_eq_true]

/-- The boot measures again, the pin being high. -/
def measuresAgain (s : State) : State :=
  { s with power := { s.power with fordPinLow := false }, boot := { s.boot with wait := .measure } }

theorem fordRise_reopens {s : State} (h : riseReopens s) :
    exec .fordCloseNRise s = .next (openFordWith (measuresAgain s) fun q => { q with st := .down }) :=
  if_pos ((fordRise_guard s).2 h)

theorem fordRise_still {s : State} (h : ¬ riseReopens s) :
    exec .fordCloseNRise s = .next { s with power := { s.power with fordPinLow := false } } :=
  if_neg fun g => h ((fordRise_guard s).1 g)

/-- Settles O13: the fall by where it finds the device, the rise by whether a Trellis boot waits for it. -/
theorem fordPinClosesTheFord : Obligations.FordPinClosesTheFord := by
  refine ⟨fun s => ?_, fun s => ?_⟩
  · obtain ⟨t, ht, hl, hc⟩ := fordFall_closes s
    have k := fordFallen_touch s
    have is : ∀ {u}, exec .fordCloseNFall s = .next u → t = u := fun e => Host.Outcome.next.inj (ht.symm.trans e)
    refine Completes.of_next ht ⟨hl, hc, fun h => ?_, fun hr h => ?_, fun hr h => ?_, fun hr h => ?_⟩
      (execFordCloseNFall_touch s)
    · rw [is (fordFall_still (h.imp_right (Or.imp_right .inl)))]
      exact ⟨k.dev, k.boot, k.ledger⟩
    · rw [is (fordFall_service hr h)]
      exact ⟨k.dev, k.boot, rfl⟩
    · rw [is (fordFall_boot hr h), (bootFordFalls_touch _).dev, ← k.boot]
      refine ⟨k.dev, fun h1 h2 h3 => by rw [bootFordFalls_other h1 h2 h3], fun hb => ?_⟩
      rw [bootFordFalls_waits hb]
      refine ⟨by split <;> rfl, fun hv => if_pos hv, fun hv => ?_⟩
      rw [if_neg hv]
      exact ⟨rfl, rfl, rfl, rfl, rfl⟩
    · obtain ⟨h1, h2, h3⟩ := toBypass_bypass (fordFallen s)
      rw [is (fordFall_bypass hr h), ← k.boot]
      exact ⟨h1, h2, h3⟩
  · by_cases h : riseReopens s
    · have k := openFordWith_touch (measuresAgain s) fun q => { q with st := .down }
      obtain ⟨h1, h2⟩ := openFordWith_open (measuresAgain s) fun q => { q with st := .down }
      exact Completes.of_next (fordRise_reopens h) ⟨h2, k.dev, fun _ _ _ _ => ⟨h1, k.boot⟩, fun n => absurd h n⟩
        (execFordCloseNRise_touch s)
    · exact Completes.of_next (fordRise_still h) ⟨rfl, rfl, fun a b c d => absurd ⟨a, b, c, d⟩ h, fun _ => rfl⟩
        (execFordCloseNRise_touch s)

end Sys2Proof.Machine
end

section
/-! PROOFS. Domains that come on and go off (R31 to R33, R409). -/

namespace Sys2Proof.Machine

/-! PD_STATUS through a change of one domain. -/

theorem domainReady_pdOn (s : State) (pd : Nat) (balls : List (Nat × Int)) :
    (domainReady s pd balls).power.pdOn = s.power.pdOn ||| bit32 pd := by
  unfold domainReady
  dsimp only
  exact (settleBypass_pdOn ..).keeps ((settleCal_pdOn ..).keeps
    ((closeSwitches_pdOn ..).keeps ((domainOn_pdOn _ _ pd balls).keeps rfl)))

/-- The switch of a domain has opened: its bits are cleared. -/
def switchOpen (s : State) (pd : Nat) : State :=
  { s with power := { s.power with
    pdOn := s.power.pdOn &&& ~~~bit32 pd, pdOffOrd := s.power.pdOffOrd &&& ~~~bit32 pd
    pdBusy := if s.power.pdOnOrd.getLsbD pd then s.power.pdBusy else s.power.pdBusy &&& ~~~bit32 pd } }

/-- The unit of a domain that has gone off: power-cycled, it is ordered on again (R376), else no one holds it. -/
def unitAfterOff (s : State) (pd : Nat) : State :=
  match domainUnit pd with
  | none => s
  | some u =>
    if (unitOf s u).cycling ∧ ¬ (unitOf s u).toOff then
      { s with power := { s.power with
        pdOnOrd := s.power.pdOnOrd ||| bit32 pd, pdBusy := s.power.pdBusy ||| bit32 pd } }
    else modUnit (if unitState s u = .maintenance then setUnit s u .offline true else s) u fun v =>
      { v with toOff := false, cycling := false, holder := .none }

theorem unitAfterOff_pdOn (c : BitVec 32) (s : State) (pd : Nat) : Keeps (PdOnIs c) s (unitAfterOff s pd) := by
  unfold unitAfterOff
  split
  · exact Keeps.refl _ _
  · exact Keeps.ite ⟨id⟩ ((modUnit_pdOn ..).trans (Keeps.ite (setUnit_pdOn ..) (Keeps.refl _ _)))

section

variable {s : State} {pd : Nat} (h1 : pd < 32) (h2 : inReset s = false)
include h1 h2

/-- A Trellis boot that waits for PD4 goes on from there, which changes no other bit. -/
theorem domainReady_completes (h : s.power.pdRise.getLsbD pd = true) (balls : List (Nat × Int)) :
    ∃ t, exec (.domainReady pd balls) s = .next t ∧ t.power.pdOn = s.power.pdOn ||| bit32 pd := by
  have e : exec (.domainReady pd balls) s = _ := if_pos ⟨h1, h, by simp [h2]⟩
  have k := domainReady_pdOn s pd balls
  split at e
  · exact ⟨_, e, (bootFord_pdOn ..).keeps k⟩
  · exact ⟨_, e, k⟩

theorem domainSwitchOpened_eq (h : mayOpen s pd = true) : exec (.domainSwitchOpened pd) s =
    .next (closeSwitches (unitAfterOff (domainOff (switchOpen s pd) pd) pd)) := by
  show execDomainSwitchOpened pd s = _
  unfold execDomainSwitchOpened
  dsimp only
  rw [if_pos ⟨h1, h, by simp [h2]⟩, ← switchOpen]
  generalize domainOff (switchOpen s pd) pd = v
  unfold unitAfterOff
  cases domainUnit pd with
  | none => rfl
  | some u => dsimp only; split <;> rfl

end

theorem switchOpened_pdOn (s : State) (pd : Nat) :
    (closeSwitches (unitAfterOff (domainOff (switchOpen s pd) pd) pd)).power.pdOn = s.power.pdOn &&& ~~~bit32 pd :=
  (closeSwitches_pdOn ..).keeps ((unitAfterOff_pdOn ..).keeps ((domainOff_pdOn _ (switchOpen s pd) pd).keeps rfl))

/-- A command's guard, as a statement's hypotheses give it. -/
theorem guard_iff {p q : Prop} {b : Bool} : (p ∧ q ∧ ¬ b = true) ↔ p ∧ q ∧ b = false := by rw [Bool.not_eq_true]

theorem lpddr_guard (s : State) : (s.power.pdOn.getLsbD 11 = true ∧ ¬ s.mem.avail = true ∧ s.dev.mode ≠ .safe) ↔
    s.power.pdOn.getLsbD 11 = true ∧ s.mem.avail = false ∧ s.dev.mode ≠ .safe := by rw [Bool.not_eq_true]

/-- Settles O19: what a domain's change does to its blocks leaves PD_STATUS alone. -/
theorem domainsComeOnAndGoOff : Obligations.DomainsComeOnAndGoOff := by
  refine ⟨fun pd balls s h1 h h2 => ?_, fun pd s h balls => if_neg (mt guard_iff.1 h),
    fun pd s h => if_neg (mt guard_iff.1 h), fun pd s h1 h h2 => ?_,
    fun mib s h1 h2 h3 => if_pos ((lpddr_guard s).2 ⟨h1, h2, h3⟩), fun mib s h => if_neg (mt (lpddr_guard s).1 h)⟩
  · obtain ⟨t, e, ht⟩ := domainReady_completes h1 h2 h balls
    exact Completes.of_next e ht (execDomainReady_touch pd balls s)
  · exact Completes.of_next (domainSwitchOpened_eq h1 h2 h) (switchOpened_pdOn s pd) (execDomainSwitchOpened_touch pd s)

end Sys2Proof.Machine
end

section
/-! PROOFS. A request that is taken: what it leaves, and how its own checks decide (R80, R85, R103). -/

namespace Sys2Proof.Machine

/-! The mailboxes' table stays in canonical form while a request is taken (R81, R321). -/

/-- The mailboxes' table is in canonical form. -/
def MbsWf (s : State) : Prop := TabWf {} s.mbs

theorem MbsWf.touch {ps : List Part} {s t : State} (k : Touch ps s t) (h : Part.mbs ∉ ps := by decide) : Keeps MbsWf s t :=
  ⟨fun w => by unfold MbsWf; rw [k.mbs h]; exact w⟩

theorem modMb_mbsWf (s : State) (n : Nat) (f : Mailbox → Mailbox) : Keeps MbsWf s (modMb s n f) :=
  ⟨fun w => modMb_wf w n f⟩

theorem settleCopies_mbsWf (s : State) : Keeps MbsWf s (settleCopies s) := by
  refine ⟨fun w => (Keeps.foldl (Keeps.refl MbsWf s) fun v n => ?_).keeps w⟩
  exact ⟨fun w' => modMb_wf (s := { v with fabric := _ }) w' n _⟩

theorem sendMsg_mbsWf (s : State) (mb dest : Nat) (m : Msg) : Keeps MbsWf s (sendMsg s mb dest m) := by
  unfold sendMsg
  dsimp only
  refine Keeps.ite ((MbsWf.touch (sendPacket_touch ..)).trans ?_) (Keeps.ite ((settleCopies_mbsWf _).trans ?_) ?_)
  all_goals exact ⟨id⟩

theorem takeBcast_mbsWf (s : State) (pkt : Packet) : Keeps MbsWf s (takeBcast s pkt) := by
  unfold takeBcast
  refine Keeps.ite (Keeps.refl _ s) (Keeps.ite ?_ (modMb_mbsWf ..))
  unfold refusePath
  exact (sendMsg_mbsWf ..).trans ⟨id⟩

theorem drainPort_mbsWf (n : Nat) (s : State) (p : Nat) : Keeps MbsWf s (drainPort n s p) := by
  induction n generalizing s with
  | zero => exact Keeps.refl _ s
  | succ n ih =>
    unfold drainPort
    split
    · exact Keeps.refl _ s
    · refine Keeps.ite ((ih _).trans ((takeBcast_mbsWf ..).trans ?_)) (Keeps.refl _ s)
      exact (MbsWf.touch (freeInput_touch ..)).trans (MbsWf.touch (modPort_touch ..))

theorem takeFront_mbsWf (s : State) (n : Nat) : Keeps MbsWf s (takeFront s n).2 := by
  have k : Keeps MbsWf s (drainIngress (modMb s n fun b => { b with reqTail := b.reqTail + 1 })) :=
    (Keeps.foldl (Keeps.refl _ _) fun u p => drainPort_mbsWf _ u p).trans (modMb_mbsWf ..)
  exact Keeps.ite (c := n = 2) k ((MbsWf.touch (Touch.set_rr (b := [.rr]) (by decide) (Touch.refl _ _))).trans k)

/-! What a request that is asked comes to. -/

section

variable {op n : Nat} {rem : Remote} {s u : State} {m : Msg} (h : Asked op n rem s m u)
include h

theorem asked_touch : Touch [.mbs, .rr, .fabric, .free] s u := by
  obtain ⟨⟨-, -, ht⟩, -⟩ := h
  exact Touch.snd ht (takeFront_touch s n)

theorem asked_mbsWf : Keeps MbsWf s u := by
  obtain ⟨⟨-, -, ht⟩, -⟩ := h
  exact Keeps.snd ht (takeFront_mbsWf s n)

/-- A refusal changes nothing but the mailboxes. -/
theorem asked_refuses {c : Instr} {st d : Nat} (he : exec c s = .next (refuse u n m (st, d))) : Refuses c n s u m st d :=
  ⟨_, he, rfl, (refuse_touch ..).app (by decide) (asked_touch h)⟩

theorem asked_answers {c : Instr} {len : Nat} {fields : List (Nat × Nat × Nat)}
    (he : exec c s = .next (done u n m len fields)) : Answers c n s u m len fields :=
  ⟨_, he, rfl, (done_touch ..).app (by decide) (asked_touch h)⟩

variable {resv : Msg → Bool} {own : State → Msg → List (Bool × Nat × Nat)} (hr : resv m = false)
include hr

theorem asked_serve_fails {run : State → Msg → Out} {e : Nat × Nat} (ho : firstFail (own u m) = some e) :
    serve op n rem s resv own run = .next (refuse u n m e) := by
  obtain ⟨⟨h1, h2, ht⟩, hh, -, he⟩ := h
  exact serve_own ⟨h1, h2⟩ ht hh he hr ho

theorem asked_serve_runs {run : State → Msg → Out} (ho : firstFail (own u m) = none) :
    serve op n rem s resv own run = run u m := by
  obtain ⟨⟨h1, h2, ht⟩, hh, -, he⟩ := h
  exact serve_run ⟨h1, h2⟩ ht hh he hr ho

end

end Sys2Proof.Machine
end

section
/-! PROOFS. OPC_PD_SET, and units that are maintained and released (R31 to R33, R63, R374, R375). -/

namespace Sys2Proof.Machine

/-! A unit's state and its holder. -/

theorem unitState_unit {s : State} {x : Nat} (h : x < 0x500) : unitState s x = (unitOf s x).st := if_neg (by omega)

theorem unitOf_units {s t : State} (h : t.units = s.units) (x : Nat) : unitOf t x = unitOf s x := by unfold unitOf; rw [h]

theorem unitState_units {s t : State} (h : t.units = s.units) {x : Nat} (hx : x < 0x500) :
    unitState t x = unitState s x := by rw [unitState_unit hx, unitState_unit hx, unitOf_units h]

/-- A change that the host asked for posts no notice (Table 6.18). -/
theorem setUnit_byHost (s : State) (x : Nat) (st : UState) :
    setUnit s x st true = modUnit s x fun v => { v with st := st } := rfl

/-- The units' table is canonical, and unit x is in a state and held by h. -/
structure UnitHeld (x : Nat) (st : UState) (h : Holder) (s : State) : Prop where
  wf : TabWf {} s.units
  st : (unitOf s x).st = st
  holder : (unitOf s x).holder = h

namespace UnitHeld

variable {x : Nat} {st : UState} {h : Holder} {s t : State} (w : UnitHeld x st h s)
include w

theorem state (hx : x < 0x500) : unitState s x = st := (unitState_unit hx).trans w.st

theorem units (e : t.units = s.units) : UnitHeld x st h t :=
  ⟨by rw [e]; exact w.wf, by rw [unitOf_units e]; exact w.st, by rw [unitOf_units e]; exact w.holder⟩

theorem touch {ps : List Part} (k : Touch ps s t) (hm : Part.units ∉ ps := by decide) : UnitHeld x st h t :=
  w.units (k.units hm)

theorem modUnit {f : UnitSt → UnitSt} {st' : UState} {h' : Holder} (hs : (f (unitOf s x)).st = st')
    (hh : (f (unitOf s x)).holder = h') : UnitHeld x st' h' (modUnit s x f) := by
  have e := unitOf_modUnit_same s x f w.wf
  exact ⟨modUnit_wf w.wf x f, by rw [e]; exact hs, by rw [e]; exact hh⟩

end UnitHeld

theorem UnitHeld.of_wf {s : State} (hw : TabWf {} s.units) (x : Nat) :
    UnitHeld x (unitOf s x).st (unitOf s x).holder s := ⟨hw, rfl, rfl⟩

/-- A submission of Spabry's own changes of the units at most what its unit still has to submit. -/
theorem submitCal_units (s : State) (x c : Nat) (a : Bool) : (submitCal s x c a).units = s.units
    ∨ (submitCal s x c a).units = (modUnit s x fun v => { v with unslotted := v.unslotted ||| c }).units := by
  unfold submitCal
  dsimp only
  split
  · exact .inr rfl
  · split
    · exact .inl ((throughMb2_touch ..).units.trans (newItem_touch ..).units)
    · refine .inr ?_
      rw [modUnit_units, (throughMb2_touch ..).units, modUnit_units]

/-! MAINTENANCE for a host's request (R374, Table 20.3). -/

section

variable {s : State} {x : Nat}

theorem enterMaintenance_unit (hw : TabWf {} s.units) (hx : x < 0x500) (b : Bool) :
    UnitHeld x .maintenance (unitOf s x).holder (enterMaintenance s x b) := by
  have h : UnitHeld x .maintenance (unitOf s x).holder
      (if unitState s x = .maintenance then s else setUnit s x .maintenance b) := by
    split
    · next e => exact ⟨hw, (unitState_unit hx).symm.trans e, rfl⟩
    · have k : UnitHeld x .maintenance (unitOf s x).holder (modUnit s x fun v => { v with st := .maintenance }) :=
        (UnitHeld.of_wf hw x).modUnit rfl rfl
      unfold setUnit
      dsimp only
      split
      · exact k
      · exact k.touch (unitNotice_touch ..)
  have h' := h.modUnit (f := fun v => { v with faulted := false }) h.st h.holder
  unfold enterMaintenance
  dsimp only
  split
  · exact h'.touch (quietPeb_touch ..)
  · exact h'

theorem powerCycle_unit {st : UState} {h : Holder} (w : UnitHeld x st h s) : UnitHeld x st h (powerCycle s x) := by
  unfold powerCycle
  split
  · exact (w.modUnit w.st w.holder).touch ((Touch.set_power (b := [.power, .chans, .pebs, .dps, .lanes]) (by decide)
      ((unitSafeState_touch ..).mono (by decide))))
  · exact w

theorem submitCal_unit {st : UState} {h : Holder} (w : UnitHeld x st h s) (c : Nat) (a : Bool) :
    UnitHeld x st h (submitCal s x c a) := by
  rcases submitCal_units s x c a with e | e
  · exact w.units e
  · exact (w.modUnit w.st w.holder).units e

/-- The unit is in MAINTENANCE, and its action has ended only where there is none. -/
theorem beginMaintenance_unit (hw : TabWf {} s.units) (hx : x < 0x500) (a : Nat) :
    UnitHeld x .maintenance (.host a (decide (a = 0))) (beginMaintenance s x a) := by
  have h := enterMaintenance_unit hw hx true
  have h' : UnitHeld x .maintenance (.host a (decide (a = 0)))
      (modUnit (enterMaintenance s x true) x fun v => { v with holder := .host a (a = 0) }) := h.modUnit h.st rfl
  unfold beginMaintenance
  dsimp only
  split
  · exact submitCal_unit h' ..
  · split
    · exact powerCycle_unit h'
    · exact h'

end

/-! OPC_PD_SET (R31 to R33, R412). -/

/-- The checks of OPC_PD_SET's own. -/
def pdSetChecks (s : State) (on off : BitVec 32) : List (Bool × Nat × Nat) :=
  [range (on &&& off ≠ 0) 16, ((domFault s on off).isSome, 0x13, (domFault s on off).getD 0),
    busyIf (if off.getLsbD 12 then busyItem s fun l => openSlot l && usesQueues l.kind else none)]

theorem pdSetChecks_overlap {s : State} {on off : BitVec 32} (h : on &&& off ≠ 0) :
    firstFail (pdSetChecks s on off) = some (0x14, 16) := by
  unfold pdSetChecks range
  rw [firstFail_cons, if_pos (decide_eq_true h)]

theorem pdSetChecks_fault {s : State} {on off : BitVec 32} {d : Nat} (h : on &&& off = 0)
    (hd : domFault s on off = some d) : firstFail (pdSetChecks s on off) = some (0x13, d) := by
  unfold pdSetChecks range
  rw [hd, firstFail_cons, if_neg (by simp [h]), firstFail_cons]
  rfl

theorem pdSetChecks_none {s : State} {on off : BitVec 32} (h : on &&& off = 0) (hd : domFault s on off = none)
    (hb : off.getLsbD 12 = true → busyItem s (fun l => openSlot l && usesQueues l.kind) = none) :
    firstFail (pdSetChecks s on off) = none := by
  have hn : (if off.getLsbD 12 then busyItem s fun l => openSlot l && usesQueues l.kind else none) = none := by
    split
    · next h => exact hb h
    · rfl
  unfold pdSetChecks range busyIf
  rw [hd, hn, firstFail_cons, if_neg (by simp [h])]
  rfl

theorem pdSet_serves (n : Nat) (s : State) : exec (.opcPdSet n) s = serve 0x000B n [] s noResv
    (fun s m => pdSetChecks s (BitVec.ofNat 32 (Msg.field m 16 4)) (BitVec.ofNat 32 (Msg.field m 20 4)))
    fun s m => .next (done (orderSwitches s (BitVec.ofNat 32 (Msg.field m 16 4)) (BitVec.ofNat 32 (Msg.field m 20 4)))
      n m 0 []) := rfl

/-- The switches are ordered; none opens or closes yet. -/
theorem pdSet_answer_pdOn {s u : State} {n : Nat} {m : Msg} (h : Asked 0x000B n [] s m u) (on off : BitVec 32) :
    (done (orderSwitches u on off) n m 0 []).power.pdOn = s.power.pdOn := by
  rw [(done_touch ..).power, orderSwitches_pdOn_eq, (asked_touch h).power]

/-! OPC_UNIT_MAINTAIN (R374). -/

/-- The checks of OPC_UNIT_MAINTAIN's own. -/
def maintainChecks (s : State) (x a : Nat) : List (Bool × Nat × Nat) :=
  [range (! unitKnown x || 0x500 ≤ x) 16, range (2 < a || (0x400 ≤ x && a ≠ 0)) 18, unitOff s x,
    busy (unitState s x = .quiescing || unitState s x = .maintenance
      || (unitState s x = .offline && containedOpen s x) || maintainEnabled s x a)]

section

variable {s : State} {x a : Nat} (hk : unitKnown x = true) (hx : x < 0x500) (ha : a ≤ 2) (hq : 0x400 ≤ x → a = 0)
  (ho : (unitOff s x).1 = false) (he : maintainEnabled s x a = false)
include hk hx ha hq ho he

/-- Past the checks on its fields and the unit's domain, OPC_UNIT_MAINTAIN waits only for the unit. -/
theorem maintainChecks_unit : firstFail (maintainChecks s x a) = if unitState s x = .quiescing
    ∨ unitState s x = .maintenance ∨ unitState s x = .offline ∧ containedOpen s x = true then some (0x17, 0xFFFF) else none := by
  have h1 : (! unitKnown x || decide (0x500 ≤ x)) = false := by simp [hk, hx]
  have h2 : (decide (2 < a) || (decide (0x400 ≤ x) && decide (a ≠ 0))) = false := by
    simp only [Bool.or_eq_false_iff, Bool.and_eq_false_iff, decide_eq_false_iff_not]
    omega
  unfold maintainChecks range busy
  rw [firstFail_cons, if_neg (by simp [h1]), firstFail_cons, if_neg (by simp only [h2]; decide), firstFail_cons,
    if_neg (by simp [ho]), firstFail_cons]
  simp [he, firstFail_nil, or_assoc]

end

theorem unitMaintain_serves (n : Nat) (s : State) : exec (.opcUnitMaintain n) s = serve 0x0601 n [] s noResv
    (fun s m => maintainChecks s (Msg.field m 16 2) (Msg.field m 18 1)) fun s m => .next
      (if unitState s (Msg.field m 16 2) = .offline then
        done (beginMaintenance s (Msg.field m 16 2) (Msg.field m 18 1)) n m 0 []
      else deferResp (setUnit (modUnit s (Msg.field m 16 2) fun v => { v with holder := .host (Msg.field m 18 1) false })
        (Msg.field m 16 2) .quiescing true) n m) := rfl

/-- What becomes of a unit that a request takes on to MAINTENANCE through QUIESCING. -/
theorem quiescing_unit {s : State} (hw : TabWf {} s.units) (x a : Nat) : UnitHeld x .quiescing (.host a false)
    (setUnit (modUnit s x fun v => { v with holder := .host a false }) x .quiescing true) := by
  have h : UnitHeld x (unitOf s x).st (.host a false) (modUnit s x fun v => { v with holder := .host a false }) :=
    (UnitHeld.of_wf hw x).modUnit rfl rfl
  exact h.modUnit rfl h.holder

/-- A response that comes later is owed. -/
theorem deferResp_owes {s : State} (hw : TabWf {} s.mbs) (n : Nat) (m : Msg) : Owes n m (deferResp s n m) := by
  refine ⟨{ req := m }, ?_, rfl, rfl⟩
  unfold deferResp
  rw [mbOf_modMb_same _ _ _ hw]
  exact List.mem_append_right _ (List.mem_singleton.2 rfl)

/-! UNIT_QUIESCED (R32, R63). -/

theorem quiesced_idle {s : State} {x : Nat} (h : unitState s x ≠ .quiescing ∨ unitInUse s x = true) :
    Idle (.unitQuiesced x) s := by
  refine if_neg fun g => ?_
  obtain ⟨-, h1, h2⟩ := guard_iff.1 g
  exact h.elim (fun n => n h1) fun n => by rw [n] at h2; exact absurd h2 (by decide)

section

variable {s : State} {x : Nat} (hw : TabWf {} s.units) (hx : x < 0x500) (hs : unitState s x = .quiescing)
  (hu : unitInUse s x = false)
include hw hx hs hu

/-- A switch-off takes the unit OFFLINE. -/
theorem quiesced_off (h : (unitOf s x).toOff = true) :
    ∃ t, exec (.unitQuiesced x) s = .next t ∧ UnitHeld x .offline .none t := by
  have e : exec (.unitQuiesced x) s = _ := (if_pos (guard_iff.2 ⟨hx, hs, hu⟩)).trans (if_pos h)
  have k := (UnitHeld.of_wf hw x).touch (unitSafeState_touch s x)
  have k' := k.modUnit (f := fun v => { v with st := .offline }) rfl k.holder
  exact ⟨_, e, UnitHeld.touch (k'.modUnit (f := fun v => { v with holder := .none }) k'.st rfl) (refuseMaintain_touch ..)⟩

/-- A host's request takes it on to MAINTENANCE. -/
theorem quiesced_host {a : Nat} {d : Bool} (h : (unitOf s x).toOff = false) (hh : (unitOf s x).holder = .host a d) :
    ∃ t, exec (.unitQuiesced x) s = .next t ∧ UnitHeld x .maintenance (.host a (decide (a = 0))) t := by
  have e : exec (.unitQuiesced x) s = _ :=
    (if_pos (guard_iff.2 ⟨hx, hs, hu⟩)).trans (if_neg (by rw [h]; decide))
  rw [hh] at e
  exact ⟨_, e, (beginMaintenance_unit hw hx a).touch (answerOwed_touch ..)⟩

end

/-! OPC_UNIT_RELEASE (R375). -/

/-- The unit goes back to work, and no one holds it. -/
def releasedUnit (s : State) (x : Nat) : State :=
  modUnit (setUnit s x (backTo s x) true) x fun v => { v with holder := .none }

theorem releasedUnit_held {s : State} (hw : TabWf {} s.units) (x : Nat) :
    UnitHeld x (backTo s x) .none (releasedUnit s x) := by
  have h : UnitHeld x (backTo s x) (unitOf s x).holder (modUnit s x fun v => { v with st := backTo s x }) :=
    (UnitHeld.of_wf hw x).modUnit rfl rfl
  exact h.modUnit h.st rfl

/-- The checks of OPC_UNIT_RELEASE's own. -/
def releaseChecks (s : State) (x : Nat) : List (Bool × Nat × Nat) :=
  [range (! unitKnown x) 16, busy (! freeActive s x && ! mayRelease s x)]

theorem releaseChecks_known {s : State} {x : Nat} (hk : unitKnown x = true) : firstFail (releaseChecks s x) =
    if freeActive s x = false ∧ mayRelease s x = false then some (0x17, 0xFFFF) else none := by
  unfold releaseChecks range busy
  rw [hk, firstFail_cons, if_neg (by decide), firstFail_cons, firstFail_nil]
  simp

theorem unitRelease_serves (n : Nat) (s : State) : exec (.opcUnitRelease n) s = serve 0x0602 n [] s noResv
    (fun s m => releaseChecks s (Msg.field m 16 2)) fun s m => .next
      (if freeActive s (Msg.field m 16 2) then done s n m 0 []
      else done (if Msg.field m 16 2 < 12 then restorePeb (releasedUnit s (Msg.field m 16 2)) (Msg.field m 16 2)
        else releasedUnit s (Msg.field m 16 2)) n m 0 []) := rfl

theorem releasedUnit_other (s : State) {x y : Nat} (h : y ≠ x) : unitOf (releasedUnit s x) y = unitOf s y := by
  unfold releasedUnit
  rw [unitOf_modUnit_other _ _ _ h, setUnit_byHost, unitOf_modUnit_other _ _ _ h]

/-! What the taking of a request leaves of the units. -/

section

variable {op n : Nat} {s u : State} {m : Msg} (h : Asked op n [] s m u)
include h

theorem asked_units : u.units = s.units := (asked_touch h).units

theorem asked_containedOpen (x : Nat) : containedOpen u x = containedOpen s x := by
  have e : u.levee = s.levee := (asked_touch h).levee
  unfold containedOpen openRecords unacked recAt
  rw [e]

end

section

variable {n : Nat} {s u : State} {m : Msg} (hw : TabWf {} s.units)
include hw

/-- The effect of OPC_UNIT_MAINTAIN where the unit is not in the way. -/
theorem unitMaintain_completes (h : Asked 0x0601 n [] s m u) (hx : Msg.field m 16 2 < 0x500)
    (hc : firstFail (maintainChecks u (Msg.field m 16 2) (Msg.field m 18 1)) = none) :
    (unitState s (Msg.field m 16 2) = .active → ∃ t, exec (.opcUnitMaintain n) s = .next t
      ∧ UnitHeld (Msg.field m 16 2) .quiescing (.host (Msg.field m 18 1) false) t ∧ (TabWf {} s.mbs → Owes n m t))
    ∧ (unitState s (Msg.field m 16 2) = .offline → ∃ t, exec (.opcUnitMaintain n) s = .next t
      ∧ UnitHeld (Msg.field m 16 2) .maintenance (.host (Msg.field m 18 1) (decide (Msg.field m 18 1 = 0))) t) := by
  have e := (unitMaintain_serves n s).trans (asked_serve_runs h rfl hc)
  have hu : TabWf {} u.units := by rw [asked_units h]; exact hw
  rw [unitState_units (asked_units h) hx] at e
  refine ⟨fun hs => ?_, fun hs => ?_⟩
  · rw [hs, if_neg (by decide)] at e
    exact ⟨_, e, (quiescing_unit hu _ _).touch (deferResp_touch ..), fun hm =>
      deferResp_owes ((asked_mbsWf h).keeps hm) n m⟩
  · rw [if_pos hs] at e
    exact ⟨_, e, (beginMaintenance_unit hu hx _).touch (done_touch ..)⟩

/-- The effect of OPC_UNIT_RELEASE on a unit that the host may release. -/
theorem unitRelease_completes (h : Asked 0x0602 n [] s m u) (hf : freeActive u (Msg.field m 16 2) = false)
    (hc : firstFail (releaseChecks u (Msg.field m 16 2)) = none) : ∃ t, exec (.opcUnitRelease n) s = .next t
      ∧ UnitHeld (Msg.field m 16 2) (backTo u (Msg.field m 16 2)) .none t
      ∧ ∀ y, y ≠ Msg.field m 16 2 → unitOf t y = unitOf s y := by
  generalize hx : Msg.field m 16 2 = x at hf hc
  have e := (unitRelease_serves n s).trans (asked_serve_runs h rfl (by rw [hx]; exact hc))
  rw [hx, hf, if_neg (by decide)] at e
  have hu : TabWf {} u.units := by rw [asked_units h]; exact hw
  have k : (done (if x < 12 then restorePeb (releasedUnit u x) x else releasedUnit u x) n m 0 []).units
      = (releasedUnit u x).units := by
    rw [(done_touch ..).units]
    split
    · exact (restorePeb_touch ..).units
    · rfl
  refine ⟨_, e, (releasedUnit_held hu x).units k, fun y hy => ?_⟩
  rw [unitOf_units k, releasedUnit_other u hy, unitOf_units (asked_units h)]

end

/-- Settles O39: each request by its own checks, then the unit's state and holder through its effect (`UnitHeld`). -/
theorem domainAndUnitRequests : Obligations.DomainAndUnitRequests := by
  intro n s u m hw
  refine ⟨fun h => ⟨fun ho => ?_, fun ho d hd => ?_, fun ho hd hb => ?_⟩, fun h hk hx ha hq ho he => ?_,
    fun x hx hs hu => ⟨fun h => ?_, fun a d h hh => ?_⟩, fun x h => quiesced_idle h,
    fun h hk => ⟨fun hf => ?_, fun hf hm => ?_, fun hf hm hx => ?_⟩⟩
  · exact asked_refuses h ((pdSet_serves n s).trans (asked_serve_fails h rfl (pdSetChecks_overlap ho)))
  · exact asked_refuses h ((pdSet_serves n s).trans (asked_serve_fails h rfl (pdSetChecks_fault ho hd)))
  · exact Completes.of_next ((pdSet_serves n s).trans (asked_serve_runs h rfl (pdSetChecks_none ho hd hb)))
      ⟨rfl, pdSet_answer_pdOn h _ _⟩ (execOpcPdSet_touch n s)
  · have c := maintainChecks_unit hk hx ha hq ho he
    rw [unitState_units (asked_units h) hx, asked_containedOpen h] at c
    refine ⟨fun hs => ?_, fun hs hn => ?_, fun hs => ?_⟩
    · obtain ⟨t, e, k, o⟩ := (unitMaintain_completes hw h hx (c.trans (if_neg (by simp [hs])))).1 hs
      exact Completes.of_next e ⟨k.state hx, k.holder, o⟩ (execOpcUnitMaintain_touch n s)
    · obtain ⟨t, e, k⟩ := (unitMaintain_completes hw h hx (c.trans (if_neg (by simp [hs, hn])))).2 hs
      exact Completes.of_next e ⟨k.state hx, k.holder⟩ (execOpcUnitMaintain_touch n s)
    · exact asked_refuses h ((unitMaintain_serves n s).trans
        (asked_serve_fails h rfl (c.trans (if_pos (or_assoc.1 (.inl hs))))))
  · obtain ⟨t, e, k⟩ := quiesced_off hw hx hs hu h
    exact Completes.of_next e ⟨k.state hx, k.holder⟩ (execUnitQuiesced_touch x s)
  · obtain ⟨t, e, k⟩ := quiesced_host hw hx hs hu h hh
    exact Completes.of_next e ⟨k.state hx, k.holder⟩ (execUnitQuiesced_touch x s)
  · exact asked_answers h ((unitRelease_serves n s).trans ((asked_serve_runs h rfl
      ((releaseChecks_known hk).trans (if_neg (by simp [hf])))).trans (congrArg _ (if_pos hf))))
  · exact asked_refuses h ((unitRelease_serves n s).trans
      (asked_serve_fails h rfl ((releaseChecks_known hk).trans (if_pos ⟨hf, hm⟩))))
  · obtain ⟨t, e, k, o⟩ := unitRelease_completes hw h hf ((releaseChecks_known hk).trans (if_neg (by simp [hm])))
    exact Completes.of_next e ⟨k.state hx, k.holder, o⟩ (execOpcUnitRelease_touch n s)

end Sys2Proof.Machine
end

section
/-! PROOFS. The idle tick (R42, R50, R278; log 2). -/

namespace Sys2Proof.Machine

/-- No command waits. -/
theorem step_idle {s : State} (h : s.pending = []) : step s = .next (idleTick s) := by unfold step; rw [h]

theorem idleTick_clock (s : State) : (idleTick s).clock = rampClock s.clock := by unfold idleTick; dsimp only; split <;> rfl

theorem idleTick_dps (s : State) : (idleTick s).dps =
    tmods {} s.dps (tkeys s.dps fun _ d => d.goal.isSome) fun _ d => slewDps d := by
  unfold idleTick; dsimp only; split <;> rfl

theorem idleTick_hw (s : State) : (idleTick s).hw = if s.hw.running
    then slewCount (advanceCount s.hw (rampClock s.clock).mLock.toNat (rampClock s.clock).mNow.toNat) else s.hw := by
  unfold idleTick; dsimp only; split <;> rfl

theorem rampClock_mLock (c : Clock) : (rampClock c).mLock = c.mLock := by unfold rampClock; split <;> rfl

theorem slewDps_none {d : Dps} (h : d.goal = none) : slewDps d = d := by unfold slewDps; rw [h]

theorem slewDps_some {d : Dps} {x : Nat} (h : d.goal = some x) : slewDps d =
    { d with
      set := towards d.set x (slewLimit d.range * 2 ^ 32 / 100)
      goal := if towards d.set x (slewLimit d.range * 2 ^ 32 / 100) = x then none else some x } := by unfold slewDps; rw [h]

/-- Every set point makes one step of its slew; one with no goal stands. -/
theorem idleTick_dpsOf {s : State} (hw : TabWf {} s.dps) (n : Nat) : dpsOf (idleTick s) n = slewDps (dpsOf s n) := by
  unfold dpsOf
  rw [idleTick_dps, tget_tmods_nodup _ _ _ _ hw (tkeys_nodup hw _)]
  split
  · rfl
  · next h =>
    rw [mem_tkeys hw _ n rfl] at h
    exact (slewDps_none (by simpa using h)).symm

/-- The count and its fraction, as one number of 96 bits, advance by 64 × M_LOCK (R50). -/
theorem advanceCount_sum (h : Headwater) (mLock mNow : Nat) :
    (h.count.toNat * 2 ^ 32 + h.frac.toNat + 64 * mLock * 2 ^ 12) % 2 ^ 96
      = (advanceCount h mLock mNow).count.toNat * 2 ^ 32 + (advanceCount h mLock mNow).frac.toNat := by
  unfold advanceCount
  simp only [BitVec.toNat_add, BitVec.toNat_ofNat]
  omega

theorem slewCount_still {h : Headwater} (k : h.status ≠ .synced ∨ h.slew = 0) : slewCount h = h := if_pos k

/-- Settles O2: each part of the tick is read off its own function, and the count is one number of 96 bits. -/
theorem idleTickAdvancesHeadwater : Obligations.IdleTickAdvancesHeadwater := by
  intro s hp
  refine ⟨idleTick s, step_idle hp, (idleTick_touch s).mono (by decide), fun hr => ?_, fun ha => ?_, fun ha => ?_,
    fun hw n => ⟨fun hg => ?_, fun x hx => ?_⟩, fun hr hs => ?_⟩
  · rw [idleTick_hw, if_neg (by simp [hr])]
  · rw [idleTick_clock]; exact if_neg (by simp [ha])
  · rw [idleTick_clock]; exact if_pos ha
  · rw [idleTick_dpsOf hw, slewDps_none hg]
  · rw [idleTick_dpsOf hw, slewDps_some hx]
  · rw [idleTick_hw, if_pos hr, slewCount_still (h := advanceCount ..) hs, idleTick_clock, rampClock_mLock]
    exact ⟨rfl, advanceCount_sum ..⟩

end Sys2Proof.Machine
end

section
/-! PROOFS. Changes of the clock: what OPC_CLOCK_NOTICE adds to them (R57, Table 6.18). -/

namespace Sys2Proof.Machine

theorem changeClock_after (s : State) (f : State → State) :
    Touch [.hw, .mbs, .fabric, .svc, .free] (f s) (changeClock s f) := by
  unfold changeClock
  dsimp only
  refine Touch.ite (Touch.refl _ _) ((deviceNotice_touch ..).app (by decide) (Touch.ite (Touch.refl _ _) ?_))
  exact Touch.set_hw (by decide) (Touch.refl _ _)

/-- A change that leaves the sync status alone adds nothing to Headwater. -/
theorem changeClock_after_same {s : State} {f : State → State} (h : (f s).hw.status = s.hw.status) :
    Touch [.mbs, .fabric, .svc, .free] (f s) (changeClock s f) := by
  unfold changeClock
  dsimp only
  rw [if_pos h]
  exact Touch.ite (Touch.refl _ _) (deviceNotice_touch ..)

/-- Of Headwater it keeps at most the status that ended, and when. -/
theorem changeClock_hw_but (s : State) (f : State → State) : ∃ a b,
    (changeClock s f).hw = { (f s).hw with statWas := a, statAt := b } := by
  rw [changeClock_hw]
  split
  · exact ⟨(f s).hw.statWas, (f s).hw.statAt, rfl⟩
  · exact ⟨s.hw.status, stamp (f s), rfl⟩

end Sys2Proof.Machine
end

section
/-! PROOFS. The end of a lock and of a small step (R40, R43, R44, R49). -/

namespace Sys2Proof.Machine

/-- The lock itself: the root runs at its target. -/
theorem completeLock_lockedAt (s : State) : LockedAt s.clock.lockTarget (completeLock s) := by
  unfold completeLock
  refine (settleLock_locked _ _).keeps ((Keeps.ite (calAfterRelock_locked _ _) (Keeps.refl _ _)).keeps
    ((retrainPorts_locked _ _).keeps ?_))
  unfold LockedAt
  dsimp only
  rw [changeClock_clock]
  split
  · exact ⟨rfl, rfl, rfl, rfl, rfl, rfl⟩
  · split <;> exact ⟨rfl, rfl, rfl, rfl, rfl, rfl⟩

/-- Whatever the lock lets go on leaves the lock as it is. -/
theorem adpllLock_next {s : State} (h : lockReady s = true) :
    ∃ t, exec .adpllLockComplete s = .next t ∧ LockedAt s.clock.lockTarget t := by
  have k := (closeSwitches_locked s.clock.lockTarget _).keeps (completeLock_lockedAt s)
  have e : exec .adpllLockComplete s = _ := if_pos h
  rw [e]
  split
  · exact ⟨_, rfl, (bootRails_locked _ _).keeps k⟩
  · split
    · exact ⟨_, rfl, (locked_of_touch (bootTrain_touch _) (by decide)).keeps k⟩
    · exact ⟨_, rfl, (settleBypass_locked _ _).keeps ((settleCal_locked _ _).keeps k)⟩

/-! The end of a small step. -/

/-- M has reached the target of the small step. -/
def stepEnds (s : State) : State :=
  changeClock s fun s => { s with clock := { s.clock with stepActive := false, mNow := s.clock.stepTarget } }

/-- The phase of every BURST that plays will be reset (R43). -/
def armPhases (s : State) : State :=
  { s with bursts := tmods {} s.bursts (tkeys s.bursts fun _ b => playing b) fun _ b => { b with phaseArm := true } }

theorem stepReached_next {s : State} (h : s.clock.stepActive = true) :
    exec .clockStepReached s = .next (answerSteps (armPhases (stepEnds s))) := if_pos h

theorem stepEnds_clock (s : State) :
    (stepEnds s).clock = { s.clock with stepActive := false, mNow := s.clock.stepTarget } := changeClock_clock ..

theorem stepEnds_touch (s : State) : Touch [.clock, .mbs, .fabric, .svc, .free] s (stepEnds s) :=
  (changeClock_after_same rfl).app (by decide) (Touch.set_clock (by decide) (Touch.refl _ _))

theorem armPhases_touch (s : State) : Touch [.bursts] s (armPhases s) := Touch.set_bursts (by decide) (Touch.refl _ _)

theorem armPhases_burst {s : State} (hw : TabWf {} s.bursts) (i : Nat) : burstOf (armPhases s) i =
    if playing (burstOf s i) then { burstOf s i with phaseArm := true } else burstOf s i := by
  have e := tget_tmods {} (fun _ (b : Burst) => { b with phaseArm := true }) (fun _ _ => rfl)
    (tkeys s.bursts fun _ b => playing b) s.bursts hw i
  simp only [mem_tkeys hw (fun _ b => playing b) i rfl] at e
  exact e

/-- Settles O17: the lock's target by `completeLock_lockedAt`, the BURSTs by `armPhases_burst`. -/
theorem lockCompletesAtTheTarget : Obligations.LockCompletesAtTheTarget := by
  refine ⟨fun s h => ?_, fun s h => if_neg (by simp [h]), fun s h hw => ?_, fun s h => if_neg (by simp [h])⟩
  · obtain ⟨t, e, k1, k2, k3, k4, k5, k6⟩ := adpllLock_next h
    exact Completes.of_next e ⟨k1, k2, k3, k4, k5, k6⟩ (execAdpllLockComplete_touch s)
  · have ha : Touch [.mbs, .fabric] (armPhases (stepEnds s)) (answerSteps (armPhases (stepEnds s))) := answerSteps_touch _
    have hb : (stepEnds s).bursts = s.bursts := (stepEnds_touch s).bursts
    refine ⟨_, stepReached_next h, ⟨?_, fun i => ?_⟩, ?_⟩
    · rw [ha.clock, (armPhases_touch _).clock, stepEnds_clock]
    · have e := armPhases_burst (s := stepEnds s) (by rw [hb]; exact hw) i
      unfold burstOf at e ⊢
      rw [ha.bursts, e, hb]
    · exact ha.app (by decide) ((armPhases_touch _).app (by decide) ((stepEnds_touch s).mono (by decide)))

end Sys2Proof.Machine
end

section
/-! PROOFS. HWSYNC pulses (R52 to R54, R332, R410). -/

namespace Sys2Proof.Machine

/-! The pulse that a device takes (R410). -/

theorem jumpCount_hw (s : State) (c : Count) :
    (jumpCount s c).hw = if c = s.hw.count then s.hw else { s.hw with count := c, frac := 0 } := by
  unfold jumpCount; split <;> rfl

/-- A jump moves the count, and of the rest of Headwater only the fraction. -/
theorem jumpCount_fields (s : State) (c : Count) : ∃ f, (jumpCount s c).hw = { s.hw with count := c, frac := f } := by
  rw [jumpCount_hw]
  split
  · next h => exact ⟨s.hw.frac, by rw [h]⟩
  · exact ⟨0, rfl⟩

/-- The deviation of a pulse, as SYNC_ERR_LAST holds it. -/
def noteDeviation (s : State) : State := { s with hw := { s.hw with
  errLast := BitVec.ofInt 16 (clampTo (-32767) 32767 (s.hw.count - alignedCount s).toInt) } }

section

variable {s : State}

theorem takePulse_unseen (h : s.hw.status = .acquiring) (he : s.hw.epochSeen = false) : takePulse s = noteDeviation s := by
  unfold takePulse noteDeviation
  dsimp only
  rw [if_pos h, if_neg (by simp [he])]

theorem takePulse_seen (h : s.hw.status = .acquiring) (he : s.hw.epochSeen = true) : takePulse s =
    { jumpCount (noteDeviation s) (alignedCount s) with
      hw := { (jumpCount (noteDeviation s) (alignedCount s)).hw with status := .synced, epoch := none, slew := 0 } } := by
  unfold takePulse noteDeviation
  dsimp only
  rw [if_pos h, if_pos he]

theorem takePulse_near (h : s.hw.status ≠ .acquiring) (hd : (s.hw.count - alignedCount s).toInt.natAbs ≤ 256) :
    takePulse s = { noteDeviation s with
      clock := { s.clock with syncWarn := false }
      hw := { (noteDeviation s).hw with
        epoch := none, slew := -(s.hw.count - alignedCount s).toInt, slewPhase := 0 } } := by
  unfold takePulse noteDeviation
  dsimp only
  rw [if_neg h, if_pos hd]

theorem takePulse_far (h : s.hw.status ≠ .acquiring) (hd : 256 < (s.hw.count - alignedCount s).toInt.natAbs) :
    takePulse s = { noteDeviation s with
      clock := { s.clock with syncWarn := false }
      hw := { (noteDeviation s).hw with epoch := none, status := .acquiring, slew := 0 } } := by
  unfold takePulse noteDeviation
  dsimp only
  rw [if_neg h, if_neg (by omega)]

end

/-- A chain master's own pulse, before it drives HWSYNC_OUT. -/
def masterPulse (s : State) : State :=
  let s := match s.hw.epoch with
    | some c => jumpCount s c
    | none => s
  { s with hw := { s.hw with status := .synced, epoch := none } }

/-- The master stands at the epoch it has received, if there is one. -/
theorem masterPulse_fields (s : State) : ∃ f, (masterPulse s).hw =
    { s.hw with count := s.hw.epoch.getD s.hw.count, frac := f, status := .synced, epoch := none } := by
  unfold masterPulse
  cases h : s.hw.epoch with
  | none => exact ⟨s.hw.frac, rfl⟩
  | some c =>
    obtain ⟨f, e⟩ := jumpCount_fields s c
    exact ⟨f, by dsimp only; rw [e]; rfl⟩

theorem masterPulse_touch (s : State) : Touch [.hw, .tdcs] s (masterPulse s) := by
  unfold masterPulse
  refine Touch.set_hw (by decide) ?_
  split
  · exact jumpCount_touch ..
  · exact Touch.refl _ _

/-! HWSYNC_OUT (R22, R54). -/

theorem driveSync_hw (s : State) : (driveSync s).hw = { s.hw with
    syncOut := if s.power.fordClosed = false ∧ 2 ≤ s.hw.syncMode then some s.hw.count else s.hw.syncOut } := by
  have e : (¬ hwsyncThrough s = true) ↔ (s.power.fordClosed = false ∧ 2 ≤ s.hw.syncMode) := by
    unfold hwsyncThrough
    simp only [Bool.or_eq_true, decide_eq_true_eq, not_or, Bool.not_eq_true, Nat.not_lt]
  unfold driveSync
  split
  · next h => rw [if_pos (e.1 h)]
  · next h => rw [if_neg fun g => h (e.2 g)]

/-! The epoch that waits for the pulse (R332). -/

theorem afterPulse_none {s : State} (h : s.hw.epochOut = none) : afterPulse s = s := by unfold afterPulse; rw [h]

theorem takeEpoch_hw (s : State) (c : Count) : (takeEpoch s c).hw =
    if s.hw.syncMode = 0 then s.hw else { s.hw with epoch := some c, epochSeen := true } := by
  unfold takeEpoch; split <;> rfl

theorem sendEpoch_hw (s : State) (c : Count) : (sendEpoch s c).hw = if s.hw.syncMode = 0
    then { s.hw with epochOut := none } else { s.hw with epochOut := none, epoch := some c, epochSeen := true } := by
  unfold sendEpoch
  dsimp only
  rw [(answerEvery_touch ..).hw, takeEpoch_hw]
  dsimp only
  rw [(sendBroadcast_touch ..).hw]

/-- The epoch is sent, and kept where the device has a sync mode. -/
theorem afterPulse_some {s : State} {c : Count} (h : s.hw.epochOut = some c) (hm : s.hw.syncMode ≠ 0) :
    (afterPulse s).hw = { s.hw with epochOut := none, epoch := some c, epochSeen := true } := by
  unfold afterPulse
  rw [h]
  exact (sendEpoch_hw s c).trans (if_neg hm)

/-! The two pulses. -/

/-- A pulse taken, noted, and driven on. -/
def pulseTaken (s : State) : State := driveSync (notePulse (changeClock s takePulse))

/-- A chain master's pulse, driven. -/
def pulseMade (s : State) : State := driveSync (changeClock s masterPulse)

theorem hwsyncPulse_next {s : State} (hr : s.hw.running = true) (hm : s.hw.syncMode = 1 ∨ s.hw.syncMode = 2)
    (hs : s.hw.status = .acquiring ∨ s.hw.status = .synced) : exec .hwsyncPulse s = .next (afterPulse (pulseTaken s)) :=
  if_pos ⟨hr, hm, hs⟩

theorem chainMasterPulse_next {s : State} (hr : s.hw.running = true) (hm : s.hw.syncMode = 3)
    (hs : s.hw.status = .acquiring ∨ s.hw.status = .synced) :
    exec .chainMasterPulse s = .next (afterPulse (pulseMade s)) := if_pos ⟨hr, hm, hs⟩

/-- Beside the pulse taken: its count is noted, and HWSYNC_OUT driven where the device drives it. -/
theorem pulseTaken_hw (s : State) : ∃ a b, (pulseTaken s).hw = { (takePulse s).hw with
    statWas := a, statAt := b, pulse := some (takePulse s).hw.count
    syncOut := if (takePulse s).power.fordClosed = false ∧ 2 ≤ (takePulse s).hw.syncMode
      then some (takePulse s).hw.count else (takePulse s).hw.syncOut } := by
  obtain ⟨a, b, e⟩ := changeClock_hw_but s takePulse
  refine ⟨a, b, ?_⟩
  unfold pulseTaken notePulse
  rw [driveSync_hw]
  dsimp only
  rw [e, (changeClock_after s takePulse).power]

theorem pulseTaken_touch (s : State) : Touch [.hw, .mbs, .fabric, .svc, .free] (takePulse s) (pulseTaken s) :=
  (driveSync_touch _).app (by decide) ((notePulse_touch _).app (by decide) (changeClock_after ..))

theorem pulseMade_touch (s : State) : Touch [.hw, .tdcs, .mbs, .fabric, .svc, .free] s (pulseMade s) :=
  (driveSync_touch _).app (by decide) ((changeClock_after ..).app (by decide) ((masterPulse_touch s).mono (by decide)))

theorem pulseMade_hw (s : State) : ∃ a b f, (pulseMade s).hw = { s.hw with
    count := s.hw.epoch.getD s.hw.count, frac := f, status := .synced, epoch := none, statWas := a, statAt := b
    syncOut := if s.power.fordClosed = false ∧ 2 ≤ s.hw.syncMode then some (s.hw.epoch.getD s.hw.count)
      else s.hw.syncOut } := by
  obtain ⟨a, b, e⟩ := changeClock_hw_but s masterPulse
  obtain ⟨f, e'⟩ := masterPulse_fields s
  refine ⟨a, b, f, ?_⟩
  unfold pulseMade
  rw [driveSync_hw, e, e', (changeClock_after s masterPulse).power, (masterPulse_touch s).power]

/-- A pulse leaves the sync mode and the epoch that waits for it. -/
theorem takePulse_plan (s : State) :
    (takePulse s).hw.epochOut = s.hw.epochOut ∧ (takePulse s).hw.syncMode = s.hw.syncMode := by
  by_cases h : s.hw.status = .acquiring
  · cases he : s.hw.epochSeen with
    | false => rw [takePulse_unseen h he]; exact ⟨rfl, rfl⟩
    | true =>
      obtain ⟨f, e⟩ := jumpCount_fields (noteDeviation s) (alignedCount s)
      rw [takePulse_seen h he, e]
      exact ⟨rfl, rfl⟩
  · rcases Nat.lt_or_ge 256 (s.hw.count - alignedCount s).toInt.natAbs with hd | hd
    · rw [takePulse_far h hd]; exact ⟨rfl, rfl⟩
    · rw [takePulse_near h hd]; exact ⟨rfl, rfl⟩

theorem pulseTaken_plan (s : State) :
    (pulseTaken s).hw.epochOut = s.hw.epochOut ∧ (pulseTaken s).hw.syncMode = s.hw.syncMode := by
  obtain ⟨a, b, e⟩ := pulseTaken_hw s
  rw [e]
  exact takePulse_plan s

theorem pulseMade_plan (s : State) :
    (pulseMade s).hw.epochOut = s.hw.epochOut ∧ (pulseMade s).hw.syncMode = s.hw.syncMode := by
  obtain ⟨a, b, f, e⟩ := pulseMade_hw s
  rw [e]
  exact ⟨rfl, rfl⟩

section

variable {s : State} (hr : s.hw.running = true) (hm : s.hw.syncMode = 1 ∨ s.hw.syncMode = 2) (ho : s.hw.epochOut = none)
include hr hm ho

/-- What a pulse of modes 1 and 2 leaves is what pulseTaken gives, where no epoch waits for it. -/
theorem hwsyncPulse_completes (hs : s.hw.status = .acquiring ∨ s.hw.status = .synced) {P : State → Prop}
    (hp : P (pulseTaken s)) : Completes .hwsyncPulse s [.hw, .clock, .tdcs, .mbs, .fabric, .svc, .free] P := by
  have e := hwsyncPulse_next hr hm hs
  rw [afterPulse_none ((pulseTaken_plan s).1.trans ho)] at e
  exact Completes.of_next e hp ((execHwsyncPulse_touch s).mono (by decide))

omit hr ho in
/-- Only a chain slave drives HWSYNC_OUT with what it takes. -/
theorem drives_iff : (s.power.fordClosed = false ∧ 2 ≤ s.hw.syncMode) ↔
    (s.power.fordClosed = false ∧ s.hw.syncMode = 2) :=
  and_congr_right fun _ => by omega

/-- With no epoch received a pulse is noted, and the count stays. -/
theorem hwsyncPulse_unseen (hs : s.hw.status = .acquiring) (he : s.hw.epochSeen = false) :
    Completes .hwsyncPulse s [.hw, .clock, .tdcs, .mbs, .fabric, .svc, .free] fun t =>
      t.clock = s.clock ∧ t.tdcs = s.tdcs ∧ t.hw = { s.hw with
        errLast := BitVec.ofInt 16 (clampTo (-32767) 32767 (s.hw.count - alignedCount s).toInt)
        pulse := some s.hw.count
        syncOut := if s.power.fordClosed = false ∧ s.hw.syncMode = 2 then some s.hw.count else s.hw.syncOut } := by
  have e := takePulse_unseen hs he
  have k := pulseTaken_touch s
  rw [e] at k
  refine hwsyncPulse_completes hr hm ho (.inl hs) ⟨k.clock, k.tdcs, ?_⟩
  unfold pulseTaken notePulse
  rw [driveSync_hw]
  dsimp only
  rw [changeClock_hw_same (by rw [e]; rfl), (changeClock_after s takePulse).power, e]
  unfold noteDeviation
  dsimp only
  rw [if_congr (drives_iff hm) rfl rfl]

/-- With an epoch received a pulse aligns the count. -/
theorem hwsyncPulse_seen (hs : s.hw.status = .acquiring) (he : s.hw.epochSeen = true) :
    Completes .hwsyncPulse s [.hw, .clock, .tdcs, .mbs, .fabric, .svc, .free] fun t =>
      t.clock = s.clock ∧ t.hw.count = alignedCount s ∧ t.hw.status = .synced ∧ t.hw.epoch = none ∧ t.hw.slew = 0
        ∧ t.hw.syncOut =
          (if s.power.fordClosed = false ∧ s.hw.syncMode = 2 then some (alignedCount s) else s.hw.syncOut) := by
  obtain ⟨f, j⟩ := jumpCount_fields (noteDeviation s) (alignedCount s)
  obtain ⟨a, b, h⟩ := pulseTaken_hw s
  have kj : Touch [.hw, .tdcs] s (jumpCount (noteDeviation s) (alignedCount s)) :=
    (jumpCount_touch ..).trans (Touch.set_hw (by decide) (Touch.refl _ _))
  have k := (pulseTaken_touch s).clock
  rw [takePulse_seen hs he, j] at h k
  rw [kj.power] at h
  refine hwsyncPulse_completes hr hm ho (.inl hs) ⟨k.trans kj.clock, ?_⟩
  rw [h]
  exact ⟨rfl, rfl, rfl, rfl, if_congr (drives_iff hm) rfl rfl⟩

/-- In SYNCED a pulse is slewed to, or sends the device back to ACQUIRING. -/
theorem hwsyncPulse_synced (hs : s.hw.status = .synced) :
    Completes .hwsyncPulse s [.hw, .clock, .tdcs, .mbs, .fabric, .svc, .free] fun t =>
      t.clock = { s.clock with syncWarn := false } ∧ t.hw.count = s.hw.count ∧ t.hw.epoch = none
        ∧ t.hw.syncOut = (if s.power.fordClosed = false ∧ s.hw.syncMode = 2 then some s.hw.count else s.hw.syncOut)
        ∧ ((s.hw.count - alignedCount s).toInt.natAbs ≤ 256 →
            t.hw.status = .synced ∧ t.hw.slew = -(s.hw.count - alignedCount s).toInt)
        ∧ (256 < (s.hw.count - alignedCount s).toInt.natAbs → t.hw.status = .acquiring ∧ t.hw.slew = 0) := by
  have hn : s.hw.status ≠ .acquiring := by rw [hs]; decide
  obtain ⟨a, b, h⟩ := pulseTaken_hw s
  have k := (pulseTaken_touch s).clock
  rcases Nat.lt_or_ge 256 (s.hw.count - alignedCount s).toInt.natAbs with hd | hd
  · rw [takePulse_far hn hd] at h k
    refine hwsyncPulse_completes hr hm ho (.inr hs) ⟨k, ?_⟩
    rw [h]
    exact ⟨rfl, rfl, if_congr (drives_iff hm) rfl rfl, fun g => absurd g (by omega), fun _ => ⟨rfl, rfl⟩⟩
  · rw [takePulse_near hn hd] at h k
    refine hwsyncPulse_completes hr hm ho (.inr hs) ⟨k, ?_⟩
    rw [h]
    exact ⟨rfl, rfl, if_congr (drives_iff hm) rfl rfl, fun _ => ⟨hs, rfl⟩, fun g => absurd g (by omega)⟩

end

/-- A chain master's pulse enters SYNCED at the epoch received. -/
theorem chainMasterPulse_completes {s : State} (hr : s.hw.running = true) (hm : s.hw.syncMode = 3)
    (hs : s.hw.status = .acquiring ∨ s.hw.status = .synced) (ho : s.hw.epochOut = none) :
    Completes .chainMasterPulse s [.hw, .clock, .tdcs, .mbs, .fabric, .svc, .free] fun t =>
      t.clock = s.clock ∧ t.hw.status = .synced ∧ t.hw.epoch = none ∧ t.hw.count = s.hw.epoch.getD s.hw.count
        ∧ t.hw.syncOut = (if s.power.fordClosed then s.hw.syncOut else some t.hw.count) := by
  obtain ⟨a, b, f, h⟩ := pulseMade_hw s
  have e := chainMasterPulse_next hr hm hs
  rw [afterPulse_none ((pulseMade_plan s).1.trans ho)] at e
  refine Completes.of_next e ⟨(pulseMade_touch s).clock, ?_⟩ ((execChainMasterPulse_touch s).mono (by decide))
  rw [h]
  refine ⟨rfl, rfl, rfl, ?_⟩
  dsimp only
  cases hf : s.power.fordClosed with
  | true => simp
  | false => simp [hm]

/-- An epoch that waited for a pulse is sent after it, and kept. -/
theorem epoch_after_pulse {c : Instr} {s v : State} {e : Count} {ps : List Part} (he : exec c s = .next (afterPulse v))
    (hv : v.hw.epochOut = s.hw.epochOut ∧ v.hw.syncMode = s.hw.syncMode) (ho : s.hw.epochOut = some e)
    (hm : s.hw.syncMode ≠ 0) (ht : TouchOut ps s (exec c s)) :
    Completes c s ps fun t => t.hw.epochOut = none ∧ t.hw.epoch = some e ∧ t.hw.epochSeen = true := by
  refine Completes.of_next he ?_ ht
  rw [afterPulse_some (hv.1.trans ho) (by rw [hv.2]; exact hm)]
  exact ⟨rfl, rfl, rfl⟩

/-- Settles O18: the pulse in each status, then what follows it; a pulse that is not taken fails its guard. -/
theorem syncPulsesAlignTheHeadwater : Obligations.SyncPulsesAlignTheHeadwater := by
  refine ⟨fun s hr hm ho => ⟨hwsyncPulse_unseen hr hm ho, hwsyncPulse_seen hr hm ho, hwsyncPulse_synced hr hm ho⟩,
    fun s hr hm hs ho => chainMasterPulse_completes hr hm hs ho, fun c e s hr hs ho hc => ?_,
    fun s h => ⟨if_neg fun g => h ⟨g.1, g.2.2⟩, if_neg fun g => h ⟨g.1, g.2.2⟩⟩,
    fun s => ⟨fun h1 h2 => if_neg fun g => g.2.1.elim h1 h2, fun h => if_neg fun g => h g.2.1⟩,
    fun s hr hs => ?_, fun s h => if_neg h⟩
  · obtain ⟨rfl, hm⟩ | ⟨rfl, hm⟩ := hc
    · exact epoch_after_pulse (hwsyncPulse_next hr hm hs) (pulseTaken_plan s) ho (by omega)
        ((execHwsyncPulse_touch s).mono (by decide))
    · exact epoch_after_pulse (chainMasterPulse_next hr hm hs) (pulseMade_plan s) ho (by omega)
        ((execChainMasterPulse_touch s).mono (by decide))
  · have e : exec .syncPulseMissing s = _ := if_pos ⟨hr, hs⟩
    exact ⟨_, e, changeClock_clock .., (changeClock_after_same rfl).app (by decide)
      (Touch.set_clock (by decide) (Touch.refl _ _))⟩

end Sys2Proof.Machine
end

section
/-! PROOFS. The loss of the reference or of lock, the relock, and the delay lines' lock (R45 to R49). -/

namespace Sys2Proof.Machine

/-! An UNCLASSED event is recorded, and nothing reacts to it (R355). -/

theorem classify_unclassed {s : State} {e : Event} (h : e.base = 3) : classify s e = (3, none, false) := by
  unfold classify
  simp [h]

theorem writeRecord_unclassed (s : State) (e : Event) (link : Option (BitVec 16)) (esc : Bool) :
    Touch [.levee] s (writeRecord s e 3 link esc) := by
  unfold writeRecord eventNotice
  dsimp only
  rw [if_neg (by decide), if_neg (by decide)]
  exact Touch.set_levee (by decide) (Touch.refl _ _)

theorem logEvent_unclassed (s : State) (e : Event) (link : Option (BitVec 16)) (esc : Bool) :
    Touch [.levee] s (logEvent s e 3 link esc) := by
  unfold logEvent
  dsimp only
  rw [if_neg (by decide)]
  exact Touch.ite (Touch.set_levee (by decide) (writeRecord_unclassed ..)) (loseEvent_touch s)

theorem raise_unclassed {s : State} {e : Event} (h : e.base = 3) : Touch [.levee] s (raise s e) := by
  unfold raise
  split
  · exact repeatRecord_touch ..
  · rw [classify_unclassed h]
    simp only [show ¬ (3 = 2) by decide, show ¬ (3 = 1) by decide, false_and, if_false]
    exact logEvent_unclassed ..

/-! The loss (R45 to R48). -/

/-- Is there a lock to lose? -/
def lockToLose (s : State) : Prop :=
  s.clock.locked = true ∨ (s.clock.relocking = true ∧ s.clock.lost = false ∧ s.clock.mLock ≠ 0)

theorem lockToLose_guard (s : State) : (s.clock.locked = true ∨
    (s.clock.relocking = true ∧ ¬ s.clock.lost = true ∧ s.clock.mLock ≠ 0)) ↔ lockToLose s := by
  unfold lockToLose; rw [Bool.not_eq_true]

/-- The clocks at a loss, with HWREF invalid but for a loss of lock. -/
def clocksLost (cause : LossCause) (s : State) : State :=
  loseClock { s with clock := { s.clock with refOk := s.clock.refOk && cause = .lock } }

/-- The loss as it is recorded. -/
def lossRaised (cause : LossCause) (s : State) : State :=
  raise (bootNoRef (changeClock s (clocksLost cause))) (lossEvent cause)

/-- The units and outputs that stop with the timing clock (R46). -/
def clocksStop (s : State) : State :=
  clockPins { clockUnits s with lanes := tmods {} s.lanes (s.lanes.map Prod.fst) fun _ x => { x with tx := false } }

/-- The items of some slots, each as a loss leaves it. -/
def itemsStop (ss : List Nat) (s : State) : State :=
  ss.foldl (fun s i => if inFlight (slotOf s i) then clockItem s i else s) s

theorem refLoss_next {s : State} (cause : LossCause) (hr : inReset s = false) (h : lockToLose s) :
    exec (.refLossDetected cause) s = .next (settleBypass (settleCal (retrainPorts
      (itemsStop (flyingSlots (lossRaised cause s) fun _ => true) (clocksStop (lossRaised cause s)))))) :=
  (if_neg (by simp [hr])).trans (if_pos ((lockToLose_guard s).2 h))

theorem lossRaised_touch (cause : LossCause) (s : State) :
    Touch [.levee, .boot, .hw, .mbs, .fabric, .svc, .free] (clocksLost cause s) (lossRaised cause s) :=
  (raise_unclassed rfl).app (by decide) ((bootNoRef_touch _).app (by decide) ((changeClock_after ..).mono (by decide)))

theorem lossRaised_hw (cause : LossCause) (s : State) :
    (lossRaised cause s).hw = (changeClock s (clocksLost cause)).hw :=
  (raise_unclassed (e := lossEvent cause) rfl).hw.trans (bootNoRef_touch _).hw

theorem clocksStop_touch (s : State) :
    Touch [.units, .mbs, .fabric, .svc, .free, .lanes, .chans, .pebs] s (clocksStop s) :=
  (clockPins_touch _).app (by decide) (Touch.set_lanes (by decide) ((clockUnits_touch s).mono (by decide)))

theorem clocksStop_units (s : State) : (clocksStop s).units = (clockUnits s).units := by
  unfold clocksStop
  rw [(clockPins_touch _).units]

theorem itemsStop_touch (ss : List Nat) (s : State) :
    Touch [.dev, .units, .mbs, .ledger, .order, .dacs, .chans, .pebs, .bursts, .seqs, .tdcs, .acqs,
      .dps, .resvs, .lanes, .queues, .dmas, .fabric, .press, .levee, .svc, .mem, .free] s (itemsStop ss s) :=
  Touch.foldl (Touch.refl _ _) fun u i => Touch.ite (clockItem_touch u i) (Touch.refl _ _)

/-- After the loss itself nothing moves the clock. -/
theorem refLoss_clock (cause : LossCause) (s : State) :
    (settleBypass (settleCal (retrainPorts (itemsStop (flyingSlots (lossRaised cause s) fun _ => true)
      (clocksStop (lossRaised cause s)))))).clock = (clocksLost cause s).clock := by
  rw [(settleBypass_touch _).clock, (settleCal_touch _).clock, (retrainPorts_touch _).clock, (itemsStop_touch ..).clock,
    (clocksStop_touch _).clock, (lossRaised_touch cause s).clock]

/-- With no item in flight none stops. -/
theorem itemsStop_none {s : State} (h : ∀ i, inFlight (slotOf s i) = false) (ss : List Nat) : itemsStop ss s = s :=
  List.foldl_fixed' (fun i => if_neg (by simp [h i])) ss

theorem settleCal_other {s : State} (h : s.dev.mode ≠ .calibrate) : settleCal s = s := if_neg fun g => h g.1

theorem settleBypass_none {s : State} (h : s.power.bypassPend = false) : settleBypass s = s :=
  if_neg fun g => by rw [h] at g; exact absurd g.2 (by decide)

theorem clocksLost_hw (cause : LossCause) (s : State) : (clocksLost cause s).hw = { s.hw with
    status := if s.hw.running then .coast else s.hw.status, slew := 0, lastLoss := stamp s
    lossCount := if s.hw.lossCount = BitVec.allOnes 32 then s.hw.lossCount else s.hw.lossCount + 1 } := rfl

/-! The units that the loss takes OFFLINE (R46). -/

theorem setUnit_units (s : State) (u : Nat) (x : UState) (byHost : Bool) :
    (setUnit s u x byHost).units = (modUnit s u fun v => { v with st := x }).units := by
  unfold setUnit
  dsimp only
  split
  · rfl
  · exact (unitNotice_touch ..).units

/-- A loss at one unit. -/
def unclockUnit (s : State) (u : Nat) : State :=
  if unitState s u = .offline then s
  else refuseMaintain (modUnit (setUnit s u .offline false) u fun v => { v with holder := .none, lossOff := ! v.fresh }) u

/-- The unit is OFFLINE after it; no other unit changes. -/
theorem unclockUnit_st {s : State} (hw : TabWf {} s.units) {u : Nat} (hu : u < 0x500) : TabWf {} (unclockUnit s u).units
    ∧ ∀ x, (unitOf (unclockUnit s u) x).st = if x = u then .offline else (unitOf s x).st := by
  unfold unclockUnit
  split
  · next h =>
    refine ⟨hw, fun x => ?_⟩
    split
    · next e => rw [e]; exact (unitState_unit hu).symm.trans h
    · rfl
  · have hs : TabWf {} (setUnit s u .offline false).units := by rw [setUnit_units]; exact modUnit_wf hw _ _
    refine ⟨by rw [(refuseMaintain_touch ..).units]; exact modUnit_wf hs _ _, fun x => ?_⟩
    rw [unitOf_units (refuseMaintain_touch ..).units]
    split
    · next e =>
      subst e
      rw [unitOf_modUnit_same _ _ _ hs, unitOf_units (setUnit_units ..), unitOf_modUnit_same _ _ _ hw]
    · next e =>
      rw [unitOf_modUnit_other _ _ _ e, unitOf_units (setUnit_units ..), unitOf_modUnit_other _ _ _ e]

theorem unclockUnits_st (us : List Nat) {s : State} (hw : TabWf {} s.units) (hu : ∀ u ∈ us, u < 0x500) (x : Nat) :
    (unitOf (us.foldl unclockUnit s) x).st = if x ∈ us then .offline else (unitOf s x).st := by
  induction us generalizing s with
  | nil => rfl
  | cons u us ih =>
    obtain ⟨h1, h2⟩ := unclockUnit_st hw (hu u (List.mem_cons_self ..))
    rw [List.foldl_cons, ih h1 fun v hv => hu v (List.mem_cons_of_mem _ hv), h2]
    by_cases e : x = u
    · simp [e]
    · simp [e]

theorem allUnits_lt : ∀ u ∈ allUnits, u < 0x500 := by decide

theorem clockUnits_offline {s : State} (hw : TabWf {} s.units) {u : Nat} (hu : u ∈ allUnits) (hc : clockedUnit u = true) :
    (unitOf (clockUnits s) u).st = .offline :=
  (unclockUnits_st (allUnits.filter clockedUnit) hw (fun v hv => allUnits_lt v (List.mem_of_mem_filter hv)) u).trans
    (if_pos (List.mem_filter.2 ⟨hu, hc⟩))

/-! What a loss leaves. -/

/-- Then the units, the status of Headwater and the count of losses are as Table 3.2 has them. -/
theorem lossStopped (cause : LossCause) {s : State} (hw : TabWf {} s.units) :
    (∀ u, u ∈ allUnits → clockedUnit u = true → unitState (retrainPorts (clocksStop (lossRaised cause s))) u = .offline)
      ∧ (retrainPorts (clocksStop (lossRaised cause s))).hw.status = (if s.hw.running then .coast else s.hw.status)
      ∧ (retrainPorts (clocksStop (lossRaised cause s))).hw.lossCount =
        (if s.hw.lossCount = BitVec.allOnes 32 then s.hw.lossCount else s.hw.lossCount + 1) := by
  have kr := lossRaised_touch cause s
  refine ⟨fun u hu hc => ?_, ?_⟩
  · have hu' : TabWf {} (lossRaised cause s).units := by rw [kr.units]; exact hw
    rw [unitState_unit (allUnits_lt u hu), unitOf_units (retrainPorts_touch _).units, unitOf_units (clocksStop_units _)]
    exact clockUnits_offline hu' hu hc
  · obtain ⟨a, b, e⟩ := changeClock_hw_but s (clocksLost cause)
    rw [(retrainPorts_touch _).hw, (clocksStop_touch _).hw, lossRaised_hw, e, clocksLost_hw]
    exact ⟨rfl, rfl⟩

section

variable {s : State} (cause : LossCause) (hr : inReset s = false) (h : lockToLose s)
include hr h

/-- With nothing in flight, and no mode that waits, the loss stops only what runs on the timing clock. -/
theorem refLoss_quiet (hm : s.dev.mode ≠ .calibrate) (hb : s.power.bypassPend = false)
    (hf : ∀ i, inFlight (slotOf s i) = false) :
    exec (.refLossDetected cause) s = .next (retrainPorts (clocksStop (lossRaised cause s))) := by
  have kr := lossRaised_touch cause s
  have ks := clocksStop_touch (lossRaised cause s)
  have kp := retrainPorts_touch (clocksStop (lossRaised cause s))
  have hf' : ∀ i, inFlight (slotOf (clocksStop (lossRaised cause s)) i) = false := fun i =>
    (congrArg inFlight (slotOf_ledger (ks.ledger.trans kr.ledger) i)).trans (hf i)
  have hm' : (retrainPorts (clocksStop (lossRaised cause s))).dev.mode ≠ .calibrate := by
    rw [kp.dev, ks.dev, kr.dev]; exact hm
  have hb' : (retrainPorts (clocksStop (lossRaised cause s))).power.bypassPend = false := by
    rw [kp.power, ks.power, kr.power]; exact hb
  rw [refLoss_next cause hr h, itemsStop_none hf', settleCal_other hm', settleBypass_none hb']

end

/-! With no lock to lose (R45, R48, Table 3.5). -/

section

variable {s : State} (cause : LossCause) (hr : inReset s = false) (h : ¬ lockToLose s)
include hr h

theorem refLoss_idle (hc : cause = .lock) : Idle (.refLossDetected cause) s :=
  ((if_neg (by simp [hr])).trans (if_neg fun g => h ((lockToLose_guard s).1 g))).trans (if_pos hc)

theorem refLoss_counted (hc : cause ≠ .lock) : exec (.refLossDetected cause) s =
    .next (raise (bootNoRef (changeClock s loseRef)) (lossEvent cause)) :=
  ((if_neg (by simp [hr])).trans (if_neg fun g => h ((lockToLose_guard s).1 g))).trans (if_neg hc)

end

/-- HWREF is invalid, and a relock after a loss waits for it. -/
theorem loseRef_clock (s : State) :
    (loseRef s).clock = { s.clock with refOk := false, relocking := s.clock.relocking && ! s.clock.lost } := by
  unfold loseRef
  cases s.clock.lost <;> simp

theorem bootNoRef_waits {s : State} (hm : s.dev.mode = .boot) (h1 : s.boot.wait ≠ .none) (h2 : s.boot.wait ≠ .strap)
    (hk : s.clock.refOk = false) : (bootNoRef s).boot.error = 0x06#8 := by
  unfold bootNoRef
  rw [if_pos ⟨hm, h1, h2, by simp [hk]⟩]

theorem bootNoRef_other {s : State} (hm : s.dev.mode ≠ .boot) : bootNoRef s = s := if_neg fun g => hm g.1

/-! RELOCK_START (R49). -/

theorem relockStart_lost {s : State} (hr : inReset s = false) (hl : s.clock.lost = true) (hk : s.clock.relocking = false) :
    exec .relockStart s = .next (startLock { s with clock := { s.clock with refOk := true } } s.clock.lockTarget) :=
  (if_neg (by simp [hr])).trans (if_pos ⟨hl, by simp [hk]⟩)

theorem relockStart_held {s : State} (hr : inReset s = false) (h : ¬ (s.clock.lost = true ∧ s.clock.relocking = false)) :
    exec .relockStart s = .next (changeClock s fun s => { s with clock := { s.clock with refOk := true } }) :=
  (if_neg (by simp [hr])).trans (if_neg fun g => h ⟨g.1, by simpa using g.2⟩)

/-- Headwater as a relock begins: it coasts, and slews no more. -/
theorem startLock_hw (s : State) (m : BitVec 28) : ∃ a b, (startLock s m).hw = { s.hw with
    status := if s.hw.running then .coast else s.hw.status, slew := 0, statWas := a, statAt := b } := by
  unfold startLock
  dsimp only
  rw [(retrainPorts_touch _).hw]
  exact changeClock_hw_but ..

/-! DELAY_LINE_LOCKED (R49). -/

/-- What the lock of the delay lines does for a unit that the loss took OFFLINE. -/
def unitReturns (s : State) (u : Nat) : State :=
  let s := modUnit s u fun v => { v with lossOff := false }
  if unitState s u = .maintenance then s
  else if containedOpen s u then modUnit s u fun v => { v with faulted := true }
  else if offOrdered s u then modUnit s u fun v => { v with toOff := true }
  else setUnit s u .active false

/-- The delay lines are locked. -/
def delaysLocked (s : State) : State := { s with clock := { s.clock with delayLocked := true } }

theorem delayLineLocked_next {s : State} (hl : s.clock.locked = true) (hd : s.clock.delayLocked = false) :
    exec .delayLineLocked s = .next ((allUnits.filter fun u => (unitOf s u).lossOff).foldl unitReturns
      (delaysLocked s)) := if_pos ⟨hl, by simp [hd]⟩

theorem unitReturns_touch (s : State) (u : Nat) : Touch [.units, .mbs, .fabric, .svc, .free] s (unitReturns s u) := by
  have k : Touch [.units, .mbs, .fabric, .svc, .free] s (modUnit s u fun v => { v with lossOff := false }) :=
    (modUnit_touch ..).mono (by decide)
  exact Touch.ite k (Touch.ite ((modUnit_touch ..).app (by decide) k)
    (Touch.ite ((modUnit_touch ..).app (by decide) k) ((setUnit_touch ..).app (by decide) k)))

/-- It concerns no other unit. -/
theorem unitReturns_other {s : State} {u x : Nat} (h : x ≠ u) : unitOf (unitReturns s u) x = unitOf s x := by
  unfold unitReturns
  dsimp only
  split
  · exact unitOf_modUnit_other _ _ _ h
  · split
    · rw [unitOf_modUnit_other _ _ _ h, unitOf_modUnit_other _ _ _ h]
    · split
      · rw [unitOf_modUnit_other _ _ _ h, unitOf_modUnit_other _ _ _ h]
      · rw [unitOf_units (setUnit_units ..), unitOf_modUnit_other _ _ _ h, unitOf_modUnit_other _ _ _ h]

theorem unitReturns_wf {s : State} (hw : TabWf {} s.units) (u : Nat) : TabWf {} (unitReturns s u).units := by
  unfold unitReturns
  dsimp only
  have k := modUnit_wf hw u fun v => { v with lossOff := false }
  split
  · exact k
  · split
    · exact modUnit_wf k _ _
    · split
      · exact modUnit_wf k _ _
      · rw [setUnit_units]; exact modUnit_wf k _ _

theorem containedOpen_levee {s t : State} (h : t.levee = s.levee) (u : Nat) : containedOpen t u = containedOpen s u := by
  unfold containedOpen openRecords recAt unacked
  rw [h]

theorem offOrdered_power {s t : State} (h : t.power = s.power) (u : Nat) : offOrdered t u = offOrdered s u := by
  unfold offOrdered
  rw [h]

/-- Neither MAINTENANCE, nor an open CONTAINED record, nor an ordered switch-off keeps it. -/
theorem unitReturns_active {s : State} (hw : TabWf {} s.units) {u : Nat} (hu : u < 0x500)
    (hm : unitState s u ≠ .maintenance) (hc : containedOpen s u = false) (ho : offOrdered s u = false) :
    unitState (unitReturns s u) u = .active ∧ (unitOf (unitReturns s u) u).lossOff = false := by
  have k := modUnit_wf hw u fun v => { v with lossOff := false }
  have e := unitOf_modUnit_same s u (fun v => { v with lossOff := false }) hw
  have hm' : unitState (modUnit s u fun v => { v with lossOff := false }) u ≠ .maintenance := by
    rw [unitState_unit hu, e, ← unitState_unit hu]; exact hm
  have hc' : containedOpen (modUnit s u fun v => { v with lossOff := false }) u = false :=
    (containedOpen_levee rfl u).trans hc
  have ho' : offOrdered (modUnit s u fun v => { v with lossOff := false }) u = false :=
    (offOrdered_power rfl u).trans ho
  have er : unitReturns s u = setUnit (modUnit s u fun v => { v with lossOff := false }) u .active false := by
    unfold unitReturns
    dsimp only
    rw [if_neg hm', if_neg (by simp [hc']), if_neg (by simp [ho'])]
  have es := unitOf_units (setUnit_units (modUnit s u fun v => { v with lossOff := false }) u .active false) u
  rw [er, unitState_unit hu, es, unitOf_modUnit_same _ _ _ k, e]
  exact ⟨rfl, rfl⟩

theorem unitsReturn_touch (us : List Nat) (s : State) :
    Touch [.units, .mbs, .fabric, .svc, .free] s (us.foldl unitReturns s) :=
  Touch.foldl (Touch.refl _ _) unitReturns_touch

theorem unitsReturn_wf (us : List Nat) {s : State} (hw : TabWf {} s.units) : TabWf {} (us.foldl unitReturns s).units := by
  induction us generalizing s with
  | nil => exact hw
  | cons u us ih => exact ih (unitReturns_wf hw u)

theorem unitsReturn_other {us : List Nat} {x : Nat} (h : x ∉ us) (s : State) :
    unitOf (us.foldl unitReturns s) x = unitOf s x := by
  induction us generalizing s with
  | nil => rfl
  | cons u us ih =>
    rw [List.mem_cons, not_or] at h
    rw [List.foldl_cons, ih h.2, unitReturns_other h.1]

/-- A unit that the list names once returns: those before it have not changed it, and those after it do not. -/
theorem unitsReturn_active {us : List Nat} (hn : us.Nodup) {s : State} (hw : TabWf {} s.units) {u : Nat} (hu : u ∈ us)
    (hlt : u < 0x500) (hm : unitState s u ≠ .maintenance) (hc : containedOpen s u = false) (ho : offOrdered s u = false) :
    unitState (us.foldl unitReturns s) u = .active ∧ (unitOf (us.foldl unitReturns s) u).lossOff = false := by
  obtain ⟨a, b, rfl⟩ := List.append_of_mem hu
  obtain ⟨-, hb, hab⟩ := List.nodup_append.1 hn
  have ha : u ∉ a := fun h => hab u h u (List.mem_cons_self ..) rfl
  have k := unitsReturn_touch a s
  have e : unitState (a.foldl unitReturns s) u = unitState s u := by
    rw [unitState_unit hlt, unitState_unit hlt, unitsReturn_other ha]
  have r := unitReturns_active (unitsReturn_wf a hw) hlt (by rw [e]; exact hm)
    ((containedOpen_levee k.levee u).trans hc) ((offOrdered_power k.power u).trans ho)
  rw [List.foldl_append, List.foldl_cons, unitState_unit hlt, unitsReturn_other (List.nodup_cons.1 hb).1,
    ← unitState_unit hlt]
  exact r

theorem allUnits_nodup : allUnits.Nodup := by decide

theorem delayLineLocked_completes {s : State} (hl : s.clock.locked = true) (hd : s.clock.delayLocked = false) :
    Completes .delayLineLocked s [.units, .clock, .mbs, .fabric, .svc, .free] fun t =>
      t.clock = { s.clock with delayLocked := true }
        ∧ (TabWf {} s.units → ∀ u, u ∈ allUnits → ((unitOf s u).lossOff = false → unitOf t u = unitOf s u)
          ∧ ((unitOf s u).lossOff = true → unitState s u ≠ .maintenance → containedOpen s u = false →
            offOrdered s u = false → unitState t u = .active ∧ (unitOf t u).lossOff = false)) := by
  refine Completes.of_next (delayLineLocked_next hl hd) ⟨(unitsReturn_touch ..).clock, fun hw u hu => ⟨fun h => ?_,
    fun h hm hc ho => ?_⟩⟩ (execDelayLineLocked_touch s)
  · exact unitsReturn_other (fun g => by simpa [h] using List.of_mem_filter g) _
  · have hm' : u ∈ allUnits.filter fun u => (unitOf s u).lossOff := List.mem_filter.2 ⟨hu, h⟩
    exact unitsReturn_active (s := delaysLocked s) (allUnits_nodup.filter _) hw hm' (allUnits_lt u hu) hm hc ho

/-- Settles O16: after the loss nothing moves the clock (`refLoss_clock`), and nothing of the rest does where no item is in
flight (`refLoss_quiet`). -/
theorem lossOfReferenceStopsTheClocks : Obligations.LossOfReferenceStopsTheClocks := by
  refine ⟨fun s hr => ⟨fun cause => if_pos hr, if_pos hr⟩, fun s h => if_neg fun g => h ⟨g.1, by simpa using g.2⟩,
    fun cause s hr h => ?_, fun cause s hr h => ⟨refLoss_idle cause hr h, fun hc => ?_⟩, fun s hr hl hk => ?_,
    fun s hr h => ?_, fun s hl hd => delayLineLocked_completes hl hd⟩
  · have e := refLoss_next cause hr h
    refine Completes.of_next e ?_ (execRefLossDetected_touch cause s)
    rw [refLoss_clock]
    refine ⟨rfl, rfl, rfl, rfl, rfl, rfl, rfl, rfl, fun hm hb hf hw => ?_⟩
    have eq := Host.Outcome.next.inj (e.symm.trans (refLoss_quiet cause hr h hm hb hf))
    rw [eq]
    exact lossStopped cause hw
  · have kc := changeClock_after s loseRef
    have k : Touch [.levee] _ _ := raise_unclassed (s := bootNoRef (changeClock s loseRef)) (e := lossEvent cause) rfl
    have ks : Touch [.clock, .hw, .mbs, .fabric, .svc, .free] s (changeClock s loseRef) :=
      kc.app (by decide) ((loseRef_touch s).mono (by decide))
    refine Completes.of_next (refLoss_counted cause hr h hc) ⟨?_, fun hm h1 h2 => ?_, fun hm => ?_⟩
      (execRefLossDetected_touch cause s)
    · rw [k.clock, (bootNoRef_touch _).clock, changeClock_clock, loseRef_clock]
    · rw [k.boot]
      refine bootNoRef_waits (by rw [ks.dev]; exact hm) (by rw [ks.boot]; exact h1) (by rw [ks.boot]; exact h2) ?_
      rw [changeClock_clock, loseRef_clock]
    · rw [k.boot, bootNoRef_other (by rw [ks.dev]; exact hm), ks.boot]
  · obtain ⟨a, b, eh⟩ := startLock_hw { s with clock := { s.clock with refOk := true } } s.clock.lockTarget
    refine Completes.of_next (relockStart_lost hr hl hk) ?_ (execRelockStart_touch s)
    rw [startLock_clock, eh]
    exact ⟨rfl, rfl, rfl, hl, rfl, rfl, rfl⟩
  · exact ⟨_, relockStart_held hr h, changeClock_clock .., (changeClock_after_same rfl).app (by decide)
      (Touch.set_clock (by decide) (Touch.refl _ _))⟩

end Sys2Proof.Machine
end

section
/-! PROOFS. What traffic leaves of the ports: packets that are held, sent and freed change neither a link's state nor what
it has measured (R312 to R321, R331). -/

namespace Sys2Proof.Machine

/-- A port but for its traffic: what it holds and has sent, the turns and counts of both, and the instant of the last
TIME_XCHG to leave. -/
def link (q : PortState) : PortState :=
  { q with waiting := [], replay := [], txSeq := 0, used := [], vcTurn := 3, inTurn := [], xT1 := none, freed := []
           ackDue := false }

/-- The ports' table is in canonical form. -/
structure PortsWf (s : State) : Prop where
  wf : TabWf {} s.fabric.ports

theorem PortsWf.of_ports {s t : State} (h : t.fabric.ports = s.fabric.ports) : Keeps PortsWf s t :=
  ⟨fun ⟨w⟩ => ⟨by rw [h]; exact w⟩⟩

theorem modPort_portsWf (s : State) (p : Nat) (f : PortState → PortState) : Keeps PortsWf s (modPort s p f) :=
  ⟨fun ⟨w⟩ => ⟨tmod_wf w _ _⟩⟩

theorem portOf_modPort_own {s : State} (w : PortsWf s) (p : Nat) (f : PortState → PortState) :
    portOf (modPort s p f) p = f (portOf s p) := by
  obtain ⟨w⟩ := w
  exact portOf_modPort_same _ _ _ w

/-- From s to t the ports' table stays canonical, and every port keeps its link. -/
def Links (s t : State) : Prop := PortsWf s → PortsWf t ∧ ∀ p, link (portOf t p) = link (portOf s p)

/-- From s to t traffic alone moves in the fabric: links, serving and measuring stand. -/
structure Carries (s t : State) : Prop where
  links : Links s t
  serve : t.fabric.serve = s.fabric.serve
  measN : t.fabric.measN = s.fabric.measN
  measMask : t.fabric.measMask = s.fabric.measMask

theorem portOf_ports {s t : State} (h : t.fabric.ports = s.fabric.ports) (p : Nat) : portOf t p = portOf s p := by
  unfold portOf; rw [h]

theorem Links.of_ports {s t : State} (h : t.fabric.ports = s.fabric.ports) : Links s t :=
  fun w => ⟨(PortsWf.of_ports h).keeps w, fun p => by rw [portOf_ports h]⟩

theorem modPort_links (s : State) (p : Nat) {f : PortState → PortState} (hf : ∀ q, link (f q) = link q) :
    Links s (modPort s p f) := fun w => ⟨(modPort_portsWf s p f).keeps w, fun q => by
  by_cases e : q = p
  · subst e; rw [portOf_modPort_own w, hf]
  · rw [portOf_modPort_other _ _ _ e]⟩

theorem Links.trans {s t u : State} (k : Links t u) (h : Links s t) : Links s u := fun w => by
  obtain ⟨w1, h1⟩ := h w
  obtain ⟨w2, h2⟩ := k w1
  exact ⟨w2, fun p => (h2 p).trans (h1 p)⟩

theorem Links.portsWf {s t : State} (h : Links s t) : Keeps PortsWf s t := ⟨fun w => (h w).1⟩

theorem Links.link {s t : State} (h : Links s t) (w : PortsWf s) (p : Nat) :
    Machine.link (portOf t p) = Machine.link (portOf s p) := (h w).2 p

namespace Carries

variable {s t u : State}

theorem refl (s : State) : Carries s s := ⟨Links.of_ports rfl, rfl, rfl, rfl⟩

theorem trans (k : Carries t u) (h : Carries s t) : Carries s u where
  links := k.links.trans h.links
  serve := k.serve.trans h.serve
  measN := k.measN.trans h.measN
  measMask := k.measMask.trans h.measMask

theorem of_ports (h : t.fabric.ports = s.fabric.ports) (h1 : t.fabric.serve = s.fabric.serve)
    (h2 : t.fabric.measN = s.fabric.measN) (h3 : t.fabric.measMask = s.fabric.measMask) : Carries s t :=
  ⟨Links.of_ports h, h1, h2, h3⟩

theorem of_fabric (h : t.fabric = s.fabric) : Carries s t := of_ports (by rw [h]) (by rw [h]) (by rw [h]) (by rw [h])

theorem of_touch {ps : List Part} (k : Touch ps s t) (h : Part.fabric ∉ ps := by decide) : Carries s t :=
  of_fabric (k.fabric h)

theorem ite {c : Prop} [Decidable c] (h : Carries s t) (k : Carries s u) : Carries s (if c then t else u) := by
  split
  · exact h
  · exact k

theorem foldl {α : Type} {g : State → α → State} {l : List α} (h : Carries s t) (k : ∀ u x, Carries u (g u x)) :
    Carries s (l.foldl g t) := by
  induction l generalizing t with
  | nil => exact h
  | cons x l ih => exact ih ((k t x).trans h)

end Carries

theorem modPort_carries (s : State) (p : Nat) {f : PortState → PortState} (hf : ∀ q, link (f q) = link q) :
    Carries s (modPort s p f) := ⟨modPort_links s p hf, rfl, rfl, rfl⟩

/-! Packets. -/

theorem freeInput_carries (s : State) (i : Nat) (k : Packet) : Carries s (freeInput s i k) :=
  Carries.ite (modPort_carries _ _ fun _ => rfl) (Carries.refl s)

theorem sendOne_carries (s : State) (p : Nat) (e : Nat × Packet) : Carries s (sendOne s p e) :=
  (freeInput_carries ..).trans (modPort_carries _ _ fun _ => rfl)

theorem pumpPort_carries (n : Nat) (s : State) (p : Nat) : Carries s (pumpPort n s p) := by
  induction n generalizing s with
  | zero => exact Carries.refl s
  | succ n ih =>
    unfold pumpPort
    split
    · exact (ih _).trans (sendOne_carries ..)
    · exact Carries.refl s

theorem holdFor_carries (s : State) (p i : Nat) (k : Packet) : Carries s (holdFor s p i k) :=
  (pumpPort_carries ..).trans (modPort_carries _ _ fun _ => rfl)

theorem sendPlain_carries (s : State) (i : Nat) (k : Packet) : Carries s (sendPlain s i k) := by
  unfold sendPlain
  split
  · exact holdFor_carries ..
  · exact freeInput_carries ..

theorem sendCopy_carries (s : State) (p i : Nat) (k : Packet) : Carries s (sendCopy s p i k) :=
  Carries.ite (Carries.refl s) (holdFor_carries ..)

theorem sendBroadcast_carries (s : State) (i ph : Nat) (k : Packet) : Carries s (sendBroadcast s i ph k) := by
  have h : ∀ v, Carries s v → ∀ p x, Carries s (sendCopy v p i x) := fun v hv p x => (sendCopy_carries v p i x).trans hv
  unfold sendBroadcast
  dsimp only
  split
  · exact Carries.ite (h _ (h s (Carries.refl s) _ _) _ _) (h s (Carries.refl s) _ _)
  · exact Carries.ite (h s (Carries.refl s) _ _) (Carries.refl s)

theorem ownUnreachable_carries (s : State) (k : Packet) : Carries s (ownUnreachable s k) :=
  Carries.of_ports rfl rfl rfl rfl

theorem endHere_carries (s : State) (i : Nat) (k : Packet) : Carries s (endHere s i k) := by
  have h := freeInput_carries s i k
  unfold endHere
  dsimp only
  split
  · exact (ownUnreachable_carries ..).trans h
  · split
    · exact (sendPlain_carries ..).trans h
    · exact h

theorem sendInRing_carries (s : State) (i : Nat) (k : Packet) : Carries s (sendInRing s i k) := by
  unfold sendInRing
  split
  · exact holdFor_carries ..
  · exact endHere_carries ..

theorem sendPacket_carries (s : State) (i : Nat) (k : Packet) : Carries s (sendPacket s i k) := sendInRing_carries ..

/-! Messages. -/

theorem modMb_carries (s : State) (n : Nat) (f : Mailbox → Mailbox) : Carries s (modMb s n f) := Carries.of_fabric rfl

theorem settleCopies_carries (s : State) : Carries s (settleCopies s) :=
  Carries.of_ports rfl rfl rfl rfl

theorem sendMsg_carries (s : State) (mb dest : Nat) (m : Msg) : Carries s (sendMsg s mb dest m) := by
  unfold sendMsg
  dsimp only
  refine Carries.ite ((sendPacket_carries ..).trans ?_) (Carries.ite ((settleCopies_carries _).trans ?_) ?_)
  all_goals exact Carries.of_ports rfl rfl rfl rfl

theorem postRing_carries (s : State) (n dest : Nat) (fabric : Bool) (m : Msg) :
    Carries s (postRing s n dest fabric m) := by
  unfold postRing
  dsimp only
  exact Carries.ite ((sendMsg_carries ..).trans (modMb_carries ..))
    (Carries.ite (Carries.of_ports rfl rfl rfl rfl) (modMb_carries ..))

theorem noticeNow_carries (s : State) (n dest : Nat) (fabric : Bool) (m : Msg) :
    Carries s (noticeNow s n dest fabric m) :=
  Carries.ite ((postRing_carries ..).trans (modMb_carries ..)) (modMb_carries ..)

theorem postDirect_carries (s : State) (n : Nat) (req rsp : Msg) : Carries s (postDirect s n req rsp) :=
  Carries.ite (Carries.refl s) (postRing_carries ..)

theorem flushOwed_carries (k : Nat) (s : State) (n : Nat) : Carries s (flushOwed k s n) := by
  induction k generalizing s with
  | zero => exact Carries.refl s
  | succ k ih =>
    unfold flushOwed
    refine Carries.ite (Carries.refl s) ?_
    split
    · refine (ih _).trans (Carries.foldl ?_ fun u e => noticeNow_carries ..)
      exact (postDirect_carries ..).trans (modMb_carries ..)
    · exact Carries.refl s

theorem answerOwed_carries (s : State) (p : Msg → Bool) (rsp : Msg → Msg) : Carries s (answerOwed s p rsp) := by
  unfold answerOwed
  split
  · exact (flushOwed_carries ..).trans (modMb_carries ..)
  · exact Carries.refl s

/-! Writes to pages of other nodes (R148). -/

theorem sendRequest_carries (s : State) (cls dest a0 a1 : Nat) (data : List Byte) (dma slot : Option Nat) :
    Carries s (sendRequest s cls dest a0 a1 data dma slot) :=
  (sendPacket_carries ..).trans (Carries.of_ports rfl rfl rfl rfl)

theorem freeBytes_fabric (s : State) (n : Nat) : (freeBytes s n).2.fabric = s.fabric := by
  unfold freeBytes; split <;> rfl

theorem writePage_carries (s : State) (a : Nat) (bs : List Byte) : Carries s (writePage s a bs) := by
  unfold writePage
  split
  · exact Carries.ite (Carries.of_fabric rfl) (Carries.refl s)
  · refine Carries.ite (Carries.refl s) ((sendRequest_carries ..).trans (Carries.of_fabric ?_))
    exact (freeBytes_fabric ..).trans (freeBytes_fabric ..)

theorem memWrite_carries (s : State) (a : Nat) (bs : List Byte) : Carries s (memWrite s a bs) := by
  have h : ∀ n (s : State) a bs, Carries s (memWriteGo n s a bs) := fun n => by
    induction n with
    | zero => exact fun s _ _ => Carries.refl s
    | succ n ih => exact fun s a bs => Carries.ite (Carries.refl s) ((ih _ _ _).trans (writePage_carries ..))
  exact h _ s a bs

/-! The end of a measurement (R106, R331). -/

/-- The hop delay that a measurement leaves: a chain slave takes that of its upstream port (R54). -/
def measuredHop (s : State) : BitVec 32 :=
  if s.hw.syncMode = 2 ∧ s.fabric.measMask.getLsbD s.hw.upstream ∧ (portOf s s.hw.upstream).xDone ≠ 0
  then hopOf (portOf s s.hw.upstream) else s.hw.hopDelay

/-- The measurement is over, its report not yet written. -/
def measureOver (s : State) : State :=
  { s with hw := { s.hw with hopDelay := measuredHop s }, fabric := { s.fabric with measN := 0, measMask := 0 } }

theorem settleMeasure_runs {s : State} (h : s.fabric.measN = 0 ∨ (List.range 4).any (measuring s) = true) :
    settleMeasure s = s := if_pos h

theorem settleMeasure_over {s : State} (h : ¬ (s.fabric.measN = 0 ∨ (List.range 4).any (measuring s) = true)) :
    Carries (measureOver s) (settleMeasure s) := by
  unfold settleMeasure
  rw [if_neg h]
  dsimp only
  split
  · refine (answerOwed_carries ..).trans (Carries.foldl (Carries.refl _) fun u p => memWrite_carries ..)
  · exact Carries.refl _

/-- Running on or over, it leaves every link. -/
theorem settleMeasure_links (s : State) : Links s (settleMeasure s) := by
  by_cases h : s.fabric.measN = 0 ∨ (List.range 4).any (measuring s) = true
  · rw [settleMeasure_runs h]; exact Links.of_ports rfl
  · exact (settleMeasure_over h).links.trans (Links.of_ports rfl)

end Sys2Proof.Machine
end

section
/-! PROOFS. A response that is owed stays owed while notices are posted (R85, R86). -/

namespace Sys2Proof.Machine

/-- The mailboxes' table is in canonical form, and request m of mailbox n waits for its response. -/
def OwesWf (n : Nat) (m : Msg) (s : State) : Prop := TabWf {} s.mbs ∧ Owes n m s

/-- Does a change of a mailbox keep every request that waits for its response? -/
def KeepsOwed (f : Mailbox → Mailbox) : Prop :=
  ∀ b, ∀ o ∈ b.owed, o.ready = none → ∃ o' ∈ (f b).owed, o'.req = o.req ∧ o'.ready = none

theorem KeepsOwed.same {f : Mailbox → Mailbox} (h : ∀ b, (f b).owed = b.owed) : KeepsOwed f :=
  fun b o ho hr => ⟨o, by rw [h]; exact ho, rfl, hr⟩

theorem OwesWf.touch {n : Nat} {m : Msg} {ps : List Part} {s t : State} (k : Touch ps s t)
    (h : Part.mbs ∉ ps := by decide) : Keeps (OwesWf n m) s t :=
  ⟨fun ⟨w, o⟩ => ⟨by rw [k.mbs h]; exact w, by unfold Owes mbOf at *; rw [k.mbs h]; exact o⟩⟩

theorem modMb_owes {n : Nat} {m : Msg} (s : State) (k : Nat) {f : Mailbox → Mailbox}
    (hf : ∀ o ∈ (mbOf s k).owed, o.ready = none → ∃ o' ∈ (f (mbOf s k)).owed, o'.req = o.req ∧ o'.ready = none) :
    Keeps (OwesWf n m) s (modMb s k f) := by
  refine ⟨fun ⟨w, o, ho, hq, hr⟩ => ⟨modMb_wf w k f, ?_⟩⟩
  by_cases e : n = k
  · subst e
    obtain ⟨o', ho', hq', hr'⟩ := hf o ho hr
    exact ⟨o', by rw [mbOf_modMb_same _ _ _ w]; exact ho', hq'.trans hq, hr'⟩
  · exact ⟨o, by rw [mbOf_modMb_other _ _ _ e]; exact ho, hq, hr⟩

variable {n : Nat} {m : Msg}

theorem modMb_owes_same (s : State) (k : Nat) {f : Mailbox → Mailbox} (h : ∀ b, (f b).owed = b.owed) :
    Keeps (OwesWf n m) s (modMb s k f) := modMb_owes s k (KeepsOwed.same h _)

theorem settleCopies_owes (s : State) : Keeps (OwesWf n m) s (settleCopies s) := by
  refine ⟨fun w => (Keeps.foldl (Keeps.refl (OwesWf n m) s) fun v k => ?_).keeps w⟩
  dsimp only
  refine (modMb_owes_same _ k ?_).trans ⟨id⟩
  exact fun _ => rfl

theorem sendMsg_owes (s : State) (mb dest : Nat) (r : Msg) : Keeps (OwesWf n m) s (sendMsg s mb dest r) := by
  unfold sendMsg
  dsimp only
  refine Keeps.ite ((OwesWf.touch (sendPacket_touch ..)).trans ?_) (Keeps.ite ((settleCopies_owes _).trans ?_) ?_)
  all_goals exact ⟨id⟩

theorem postRing_owes (s : State) (k dest : Nat) (fabric : Bool) (r : Msg) :
    Keeps (OwesWf n m) s (postRing s k dest fabric r) := by
  have h := modMb_owes_same (n := n) (m := m) s k
    (f := fun b => { b with rsp := tset 0 b.rsp (b.rspHead.toNat % 256) r, rspHead := b.rspHead + 1 }) fun _ => rfl
  exact Keeps.ite (c := fabric = true) ((sendMsg_owes ..).trans h) (Keeps.ite ((OwesWf.touch (keepEntry_touch ..)).trans h) h)

theorem noticeNow_owes (s : State) (k dest : Nat) (fabric : Bool) (r : Msg) :
    Keeps (OwesWf n m) s (noticeNow s k dest fabric r) :=
  Keeps.ite ((postRing_owes ..).trans (modMb_owes_same s k fun _ => rfl)) (modMb_owes_same s k fun _ => rfl)

/-- A notice that waits stands with an owed response, and changes neither its request nor whether it is ready. -/
theorem holdNotice_owed {item : Nat} {e : Nat × Msg} {os os' : List Owed} (h : holdNotice item e os = some os') :
    ∀ o ∈ os, o.ready = none → ∃ o' ∈ os', o'.req = o.req ∧ o'.ready = none := by
  induction os generalizing os' with
  | nil => cases h
  | cons x xs ih =>
    unfold holdNotice at h
    intro o ho hr
    split at h
    next ys hy =>
      cases h
      obtain rfl | ho := List.mem_cons.1 ho
      · exact ⟨o, List.mem_cons_self, rfl, hr⟩
      · obtain ⟨o', ho', hq⟩ := ih hy o ho hr
        exact ⟨o', List.mem_cons_of_mem _ ho', hq⟩
    next =>
      split at h <;> cases h
      obtain rfl | ho := List.mem_cons.1 ho
      · exact ⟨_, List.mem_cons_self, rfl, hr⟩
      · exact ⟨o, List.mem_cons_of_mem _ ho, rfl, hr⟩

theorem placeNotice_owes (s : State) (k dest : Nat) (fabric : Bool) (r : Msg) :
    Keeps (OwesWf n m) s (placeNotice s k dest fabric r) := by
  unfold placeNotice
  split
  next os h =>
    split at h
    · exact modMb_owes s k (holdNotice_owed h)
    · cases h
  next => exact noticeNow_owes ..

theorem notice_owes (s : State) (k dest : Nat) (fabric : Bool) (op tag item len : Nat) (fields : List (Nat × Nat × Nat)) :
    Keeps (OwesWf n m) s (notice s k dest fabric op tag item len fields) := by
  unfold notice
  dsimp only
  refine Keeps.ite (Keeps.refl _ s) (Keeps.ite ⟨id⟩ (placeNotice_owes ..))

theorem deviceNotice_owes (s : State) (bit op len : Nat) (fields : List (Nat × Nat × Nat)) :
    Keeps (OwesWf n m) s (deviceNotice s bit op len fields) := by
  unfold deviceNotice
  exact Keeps.ite (Keeps.ite ((notice_owes ..).trans ⟨id⟩) (notice_owes ..)) (Keeps.refl _ s)

theorem changePort_owes (s : State) (p : Nat) (f : PortState → PortState) : Keeps (OwesWf n m) s (changePort s p f) := by
  have h : Keeps (OwesWf n m) s (modPort s p f) := ⟨id⟩
  exact Keeps.ite (c := (portOf s p).byHost = true) h
    ((Keeps.ite (Keeps.refl _ _) (deviceNotice_owes ..)).trans h)

theorem retrainPorts_owes (s : State) : Keeps (OwesWf n m) s (retrainPorts s) :=
  Keeps.foldl (Keeps.refl _ s) fun u _ => Keeps.ite (Keeps.refl _ u) (changePort_owes ..)

theorem changeClock_owes {s : State} {f : State → State} (h : Keeps (OwesWf n m) s (f s)) :
    Keeps (OwesWf n m) s (changeClock s f) := by
  unfold changeClock
  dsimp only
  exact Keeps.ite h ((deviceNotice_owes ..).trans (Keeps.ite h ⟨h.keeps⟩))

theorem startLock_owes (s : State) (goal : BitVec 28) : Keeps (OwesWf n m) s (startLock s goal) :=
  (retrainPorts_owes _).trans (changeClock_owes ⟨id⟩)

end Sys2Proof.Machine
end

section
/-! PROOFS. OPC_CLOCK_LOCK, OPC_CLOCK_STEP and the sync commands (R42 to R44, R53, R332, R410). -/

namespace Sys2Proof.Machine

theorem busyItem_ledger {s t : State} (h : t.ledger = s.ledger) (p : Slot → Bool) : busyItem t p = busyItem s p := by
  unfold busyItem slotsWhere
  rw [h, funext fun i => show itemId t i = itemId s i by unfold itemId; rw [slotOf_ledger h]]

/-! The state that a request leaves to its command. -/

section

variable {op n : Nat} {rem : Remote} {s u : State} {m : Msg} (h : Asked op n rem s m u)
include h

theorem asked_clock : u.clock = s.clock := (asked_touch h).clock

theorem asked_hw : u.hw = s.hw := (asked_touch h).hw

theorem asked_mode : u.dev.mode = s.dev.mode := by rw [(asked_touch h).dev]

theorem asked_domOn (d : Nat) : domOn u d = domOn s d := by unfold domOn; rw [(asked_touch h).power]

theorem asked_busyItem (p : Slot → Bool) : busyItem u p = busyItem s p := busyItem_ledger (asked_touch h).ledger p

theorem asked_lockedAt (goal : Nat) : lockedAt u goal = lockedAt s goal := by unfold lockedAt; rw [asked_clock h]

theorem asked_pulseNear : pulseNear u = pulseNear s := by
  unfold pulseNear syncPeriod sincePulse; rw [asked_hw h, asked_clock h]

theorem asked_op : Msg.field m 0 2 = op := by
  obtain ⟨⟨-, h2, ht⟩, -⟩ := h
  exact (takeFront_op ht).trans h2

end

/-! OPC_CLOCK_LOCK. -/

/-- The own checks of OPC_CLOCK_LOCK. -/
def lockChecks (s : State) (goal : Nat) : List (Bool × Nat × Nat) :=
  [range (! mLegal goal) 16, needsPd1 s, busyIf (if lockedAt s goal then none else busyItem s blocksRelock)]

theorem clockLock_serves (n : Nat) (s : State) : exec (.opcClockLock n) s = serve 0x0202 n [] s noResv
    (fun s m => lockChecks s (Msg.field m 16 4)) fun s m => .next (if lockedAt s (Msg.field m 16 4) then done s n m 0 []
      else startLock (deferResp s n m) (BitVec.ofNat 28 (Msg.field m 16 4))) := rfl

theorem lockChecks_eq {s : State} {goal : Nat} (hl : mLegal goal = true) (hd : domOn s 1 = true) :
    firstFail (lockChecks s goal) =
      (if lockedAt s goal then none else busyItem s blocksRelock).map fun i => (0x17, i) := by
  simp only [lockChecks, range, needsPd1, busyIf, firstFail_cons, firstFail_nil, hl, hd, Bool.not_true, Bool.false_eq_true,
    if_false]
  cases (if lockedAt s goal then none else busyItem s blocksRelock) <;> rfl

section

variable {n : Nat} {s u : State} {m : Msg} (h : Asked 0x0202 n [] s m u) (hl : mLegal (Msg.field m 16 4) = true)
  (hd : domOn s 1 = true)
include h hl hd

theorem clockLock_checks : firstFail (lockChecks u (Msg.field m 16 4)) =
    (if lockedAt s (Msg.field m 16 4) then none else busyItem s blocksRelock).map fun i => (0x17, i) := by
  rw [lockChecks_eq hl ((asked_domOn h 1).trans hd), asked_lockedAt h, asked_busyItem h]

theorem clockLock_there (hk : lockedAt s (Msg.field m 16 4) = true) : Answers (.opcClockLock n) n s u m 0 [] := by
  have e := (clockLock_serves n s).trans (asked_serve_runs h rfl (by rw [clockLock_checks h hl hd, if_pos hk]; rfl))
  rw [asked_lockedAt h, if_pos hk] at e
  exact asked_answers h e

theorem clockLock_busy (hk : lockedAt s (Msg.field m 16 4) = false) {i : Nat} (hb : busyItem s blocksRelock = some i) :
    Refuses (.opcClockLock n) n s u m 0x17 i :=
  asked_refuses h ((clockLock_serves n s).trans (asked_serve_fails h rfl (by
    rw [clockLock_checks h hl hd, if_neg (by simp [hk]), hb]; rfl)))

theorem clockLock_starts (hm : TabWf {} s.mbs) (hk : lockedAt s (Msg.field m 16 4) = false)
    (hb : busyItem s blocksRelock = none) :
    Completes (.opcClockLock n) s [.clock, .hw, .mbs, .rr, .fabric, .svc, .free] fun t =>
      t.clock.relocking = true ∧ t.clock.lockTarget = BitVec.ofNat 28 (Msg.field m 16 4) ∧ t.clock.onBypass = true
        ∧ t.clock.locked = false ∧ t.clock.mLock = s.clock.mLock ∧ t.hw.count = s.hw.count ∧ Owes n m t := by
  have e := (clockLock_serves n s).trans (asked_serve_runs h rfl (by
    rw [clockLock_checks h hl hd, if_neg (by simp [hk]), hb]; rfl))
  rw [asked_lockedAt h, if_neg (by simp [hk])] at e
  have w := (asked_mbsWf h).keeps hm
  obtain ⟨a, b, hh⟩ := startLock_hw (deferResp u n m) (BitVec.ofNat 28 (Msg.field m 16 4))
  obtain ⟨-, o⟩ := (startLock_owes (n := n) (m := m) _ (BitVec.ofNat 28 (Msg.field m 16 4))).keeps
    ⟨modMb_wf w n _, deferResp_owes w n m⟩
  refine Completes.of_next e ?_ (execOpcClockLock_touch ..)
  rw [startLock_clock, hh, (deferResp_touch ..).clock, (deferResp_touch ..).hw, asked_clock h, asked_hw h]
  exact ⟨rfl, rfl, rfl, rfl, rfl, rfl, o⟩

end

/-! OPC_CLOCK_STEP. -/

/-- The own checks of OPC_CLOCK_STEP. -/
def stepChecks (s : State) (goal slew : Nat) : List (Bool × Nat × Nat) :=
  [range (! mLegal goal) 16, range (slew = 0 || 10 < slew) 20, needsPd1 s,
   busyIf (if withinStep s.clock.mLock.toNat goal || s.dev.mode = .run then none else busyItem s blocksRelock),
   busy (withinStep s.clock.mLock.toNat goal && ! s.clock.locked)]

theorem clockStep_serves (n : Nat) (s : State) : exec (.opcClockStep n) s = serve 0x0203 n [] s noResv
    (fun s m => stepChecks s (Msg.field m 16 4) (Msg.field m 20 2)) fun s m =>
      if withinStep s.clock.mLock.toNat (Msg.field m 16 4) then
        .next (startStep (deferResp s n m) (Msg.field m 16 4) (Msg.field m 20 2))
      else if s.dev.mode = .run then .fault .stepInRun
      else .next (startLock (deferResp s n m) (BitVec.ofNat 28 (Msg.field m 16 4))) := rfl

theorem stepChecks_none {s : State} {goal slew : Nat} (hl : mLegal goal = true) (hd : domOn s 1 = true) (h1 : 1 ≤ slew)
    (h2 : slew ≤ 10)
    (hb : withinStep s.clock.mLock.toNat goal = true ∨ s.dev.mode = .run ∨ busyItem s blocksRelock = none)
    (hk : withinStep s.clock.mLock.toNat goal = true → s.clock.locked = true) :
    firstFail (stepChecks s goal slew) = none := by
  have hslew : (decide (slew = 0) || decide (10 < slew)) = false := by simp; omega
  have hlock : (withinStep s.clock.mLock.toNat goal && ! s.clock.locked) = false := by
    cases w : withinStep s.clock.mLock.toNat goal
    · rfl
    · rw [hk w]; rfl
  simp [stepChecks, firstFail_none, range, needsPd1, busyIf, busy, hl, hd, hslew, hlock]
  exact fun hs hr => (hb.resolve_left (by simp [hs])).resolve_left hr

/-- A small step begins from the present M; Headwater goes on as it did (R42). -/
theorem startStep_clock (s : State) (goal slew : Nat) : (startStep s goal slew).clock = { s.clock with
    stepActive := true, stepTarget := BitVec.ofNat 28 goal, stepSlew := slew, stepFrom := s.clock.mNow, stepTicks := 0 } := by
  unfold startStep
  dsimp only
  rw [changeClock_clock]

theorem startStep_hw (s : State) (goal slew : Nat) : (startStep s goal slew).hw = s.hw := by
  unfold startStep
  dsimp only
  rw [changeClock_hw_same rfl]

section

variable {n : Nat} {s u : State} {m : Msg} (h : Asked 0x0203 n [] s m u) (hl : mLegal (Msg.field m 16 4) = true)
  (hd : domOn s 1 = true) (h1 : 1 ≤ Msg.field m 20 2) (h2 : Msg.field m 20 2 ≤ 10)
include h hl hd h1 h2

theorem clockStep_runs
    (hb : withinStep s.clock.mLock.toNat (Msg.field m 16 4) = true ∨ s.dev.mode = .run ∨ busyItem s blocksRelock = none)
    (hk : withinStep s.clock.mLock.toNat (Msg.field m 16 4) = true → s.clock.locked = true) :
    exec (.opcClockStep n) s = if withinStep s.clock.mLock.toNat (Msg.field m 16 4) then
        .next (startStep (deferResp u n m) (Msg.field m 16 4) (Msg.field m 20 2))
      else if s.dev.mode = .run then .fault .stepInRun
      else .next (startLock (deferResp u n m) (BitVec.ofNat 28 (Msg.field m 16 4))) := by
  rw [clockStep_serves, asked_serve_runs h rfl, asked_clock h, asked_mode h]
  refine stepChecks_none hl ((asked_domOn h 1).trans hd) h1 h2 ?_ ?_
  · rw [asked_clock h, asked_mode h, asked_busyItem h]; exact hb
  · rw [asked_clock h]; exact hk

theorem clockStep_small (hw : withinStep s.clock.mLock.toNat (Msg.field m 16 4) = true) (hk : s.clock.locked = true) :
    Completes (.opcClockStep n) s [.clock, .hw, .mbs, .rr, .bursts, .fabric, .svc, .free] fun t =>
      t.clock = { s.clock with
          stepActive := true, stepTarget := BitVec.ofNat 28 (Msg.field m 16 4), stepSlew := Msg.field m 20 2
          stepFrom := s.clock.mNow, stepTicks := 0 }
        ∧ t.hw = s.hw := by
  refine Completes.of_next ((clockStep_runs h hl hd h1 h2 (.inl hw) fun _ => hk).trans (if_pos hw)) ?_
    (execOpcClockStep_touch ..)
  rw [startStep_clock, startStep_hw, (deferResp_touch ..).clock, (deferResp_touch ..).hw, asked_clock h, asked_hw h]
  exact ⟨rfl, rfl⟩

variable (hw : withinStep s.clock.mLock.toNat (Msg.field m 16 4) = false)
include hw

theorem clockStep_misuse (hr : s.dev.mode = .run) : Misuses (.opcClockStep n) s .stepInRun :=
  (clockStep_runs h hl hd h1 h2 (.inr (.inl hr)) fun g => by rw [hw] at g; cases g).trans
    ((if_neg (by simp [hw])).trans (if_pos hr))

theorem clockStep_locks (hr : s.dev.mode ≠ .run) (hb : busyItem s blocksRelock = none) :
    Completes (.opcClockStep n) s [.clock, .hw, .mbs, .rr, .bursts, .fabric, .svc, .free] fun t =>
      t.clock.relocking = true ∧ t.clock.lockTarget = BitVec.ofNat 28 (Msg.field m 16 4) := by
  refine Completes.of_next ((clockStep_runs h hl hd h1 h2 (.inr (.inr hb)) fun g => by rw [hw] at g; cases g).trans
    ((if_neg (by simp [hw])).trans (if_neg hr))) ?_ (execOpcClockStep_touch ..)
  rw [startLock_clock]
  exact ⟨rfl, rfl⟩

end

/-! OPC_SYNC_CONFIG, OPC_SYNC_OFFSET and OPC_SYNC_EPOCH. -/

/-- The fields of a sync mode are set: no epoch has been received since, and the count is not aligned. -/
def setSyncMode (mode upstream period : Nat) (hop : BitVec 32) (s : State) : State :=
  let s := { s with hw := { s.hw with
    syncMode := mode, upstream := upstream, periodUs := period, epoch := none, epochSeen := false, slew := 0
    pulse := none, hopDelay := hop } }
  if s.hw.status = .coast then s else { s with hw := { s.hw with status := freeStatus s } }

theorem setSync_eq (s : State) (mode upstream period : Nat) : setSync s mode upstream period =
    changeClock (afterPulse s) (setSyncMode mode upstream period (if mode = 2 then hopOf (portOf s upstream) else 0)) := rfl

theorem setSyncMode_hw (mode upstream period : Nat) (hop : BitVec 32) (s : State) : ∃ x,
    (setSyncMode mode upstream period hop s).hw = { s.hw with
      status := x, syncMode := mode, upstream := upstream, periodUs := period, epoch := none, epochSeen := false
      slew := 0, pulse := none, hopDelay := hop } := by
  unfold setSyncMode
  dsimp only
  split
  · exact ⟨_, rfl⟩
  · exact ⟨_, rfl⟩

/-- The own checks of OPC_SYNC_CONFIG. -/
def syncChecks (s : State) (mode upstream period : Nat) : List (Bool × Nat × Nat) :=
  [range (3 < mode) 16, range (mode = 2 && 3 < upstream) 17, range (period < 1000 || 1000000 < period) 20,
   busyIf (busyItem s fun l => openSlot l && pStartAt l.msg)]

theorem syncConfig_serves (n : Nat) (s : State) : exec (.opcSyncConfig n) s = serve 0x0204 n [] s (resvAt [(18, 2)])
    (fun s m => syncChecks s (Msg.field m 16 1) (Msg.field m 17 1) (Msg.field m 20 4)) fun s m =>
      .next (done (setSync s (Msg.field m 16 1) (Msg.field m 17 1 % 4) (Msg.field m 20 4)) n m 0 []) := rfl

theorem syncConfig_completes {n : Nat} {s u : State} {m : Msg} (h : Asked 0x0204 n [] s m u) (h1 : Msg.field m 16 1 ≤ 3)
    (h2 : Msg.field m 16 1 = 2 → Msg.field m 17 1 ≤ 3) (h3 : 1000 ≤ Msg.field m 20 4) (h4 : Msg.field m 20 4 ≤ 1000000)
    (hb : busyItem s (fun l => openSlot l && pStartAt l.msg) = none) :
    Completes (.opcSyncConfig n) s [.hw, .mbs, .rr, .fabric, .svc, .free] fun t =>
      t.hw.syncMode = Msg.field m 16 1 ∧ t.hw.upstream = Msg.field m 17 1 % 4 ∧ t.hw.periodUs = Msg.field m 20 4
        ∧ t.hw.epoch = none ∧ t.hw.epochSeen = false ∧ t.hw.slew = 0 := by
  have hr : resvAt [(18, 2)] m = false := by
    obtain ⟨-, -, hr, -⟩ := id h
    unfold commandReserved at hr
    rw [asked_op h] at hr
    exact hr
  have hc : firstFail (syncChecks u (Msg.field m 16 1) (Msg.field m 17 1) (Msg.field m 20 4)) = none := by
    simp only [syncChecks, firstFail_none, asked_busyItem h, hb]
    simp [range, busyIf]
    omega
  refine Completes.of_next ((syncConfig_serves n s).trans (asked_serve_runs h hr hc)) ?_ (execOpcSyncConfig_touch ..)
  rw [(done_touch ..).hw, setSync_eq]
  generalize (if Msg.field m 16 1 = 2 then hopOf (portOf u (Msg.field m 17 1 % 4)) else 0) = hop
  obtain ⟨a, b, e⟩ := changeClock_hw_but (afterPulse u)
    (setSyncMode (Msg.field m 16 1) (Msg.field m 17 1 % 4) (Msg.field m 20 4) hop)
  obtain ⟨x, e'⟩ := setSyncMode_hw (Msg.field m 16 1) (Msg.field m 17 1 % 4) (Msg.field m 20 4) hop (afterPulse u)
  rw [e, e']
  exact ⟨rfl, rfl, rfl, rfl, rfl, rfl⟩

/-- The compensation is set, and the sync is degraded no more (R53). -/
def setOffset (s : State) (c : BitVec 32) : State := changeClock s fun s =>
  { s with hw := { s.hw with offsetComp := c }, clock := { s.clock with syncDegraded := false } }

theorem syncOffset_serves (n : Nat) (s : State) : exec (.opcSyncOffset n) s = serve 0x0206 n [] s noResv noChecks
    fun s m => .next (done (setOffset s (BitVec.ofNat 32 (Msg.field m 16 4))) n m 0 []) := rfl

theorem syncOffset_completes {n : Nat} {s u : State} {m : Msg} (h : Asked 0x0206 n [] s m u) :
    Completes (.opcSyncOffset n) s [.clock, .hw, .mbs, .rr, .fabric, .svc, .free] fun t =>
      t.hw = { s.hw with offsetComp := BitVec.ofNat 32 (Msg.field m 16 4) }
        ∧ t.clock = { s.clock with syncDegraded := false } := by
  refine Completes.of_next ((syncOffset_serves n s).trans (asked_serve_runs h rfl firstFail_nil)) ?_
    (execOpcSyncOffset_touch ..)
  rw [(done_touch ..).hw, (done_touch ..).clock]
  unfold setOffset
  rw [changeClock_clock, changeClock_hw_same rfl, asked_clock h, asked_hw h]
  exact ⟨rfl, rfl⟩

theorem syncEpoch_serves (n : Nat) (s : State) : exec (.opcSyncEpoch n) s = serve 0x0207 n [] s noResv noChecks
    fun s m => .next (if pulseNear s
      then { deferResp s n m with hw := { s.hw with epochOut := some (BitVec.ofNat 64 (Msg.field m 16 8)) } }
      else sendEpoch (deferResp s n m) (BitVec.ofNat 64 (Msg.field m 16 8))) := rfl

theorem syncEpoch_runs {n : Nat} {s u : State} {m : Msg} (h : Asked 0x0207 n [] s m u) : exec (.opcSyncEpoch n) s =
    .next (if pulseNear s
      then { deferResp u n m with hw := { u.hw with epochOut := some (BitVec.ofNat 64 (Msg.field m 16 8)) } }
      else sendEpoch (deferResp u n m) (BitVec.ofNat 64 (Msg.field m 16 8))) := by
  rw [syncEpoch_serves, asked_serve_runs h rfl firstFail_nil, asked_pulseNear h]

theorem syncEpoch_waits {n : Nat} {s u : State} {m : Msg} (h : Asked 0x0207 n [] s m u) (hp : pulseNear s = true) :
    Completes (.opcSyncEpoch n) s [.hw, .mbs, .rr, .fabric, .free] fun t =>
      t.hw = { s.hw with epochOut := some (BitVec.ofNat 64 (Msg.field m 16 8)) } := by
  have e := syncEpoch_runs h
  rw [if_pos hp] at e
  refine Completes.of_next e ?_ (execOpcSyncEpoch_touch ..)
  rw [asked_hw h]

theorem syncEpoch_sent {n : Nat} {s u : State} {m : Msg} (h : Asked 0x0207 n [] s m u) (hp : pulseNear s = false) :
    Completes (.opcSyncEpoch n) s [.hw, .mbs, .rr, .fabric, .free] fun t =>
      t.hw = if s.hw.syncMode = 0 then { s.hw with epochOut := none }
        else { s.hw with epochOut := none, epoch := some (BitVec.ofNat 64 (Msg.field m 16 8)), epochSeen := true } := by
  have e := syncEpoch_runs h
  rw [if_neg (by simp [hp])] at e
  refine Completes.of_next e ?_ (execOpcSyncEpoch_touch ..)
  rw [sendEpoch_hw, (deferResp_touch ..).hw, asked_hw h]

end Sys2Proof.Machine
end

section
/-! PROOFS. OPC_SYNC_MEASURE begins its exchanges (R53, R331), and the clock and sync commands settled. -/

namespace Sys2Proof.Machine

/-! The ports' table while a request is taken (R81, R321). -/

theorem takeBcast_carries (s : State) (k : Packet) : Carries s (takeBcast s k) := by
  unfold takeBcast
  refine Carries.ite (Carries.refl s) (Carries.ite ?_ (modMb_carries ..))
  exact (sendMsg_carries ..).trans (Carries.of_fabric rfl)

theorem drainPort_portsWf (n : Nat) (s : State) (p : Nat) : Keeps PortsWf s (drainPort n s p) := by
  induction n generalizing s with
  | zero => exact Keeps.refl _ s
  | succ n ih =>
    unfold drainPort
    split
    · exact Keeps.refl _ s
    · refine Keeps.ite ((ih _).trans ((takeBcast_carries ..).links.portsWf.trans ?_)) (Keeps.refl _ s)
      exact (freeInput_carries ..).links.portsWf.trans (modPort_portsWf ..)

theorem takeFront_portsWf (s : State) (n : Nat) : Keeps PortsWf s (takeFront s n).2 := by
  have k : Keeps PortsWf s (drainIngress (modMb s n fun b => { b with reqTail := b.reqTail + 1 })) :=
    (Keeps.foldl (Keeps.refl _ _) fun u p => drainPort_portsWf _ u p).trans (modMb_carries ..).links.portsWf
  exact Keeps.ite (c := n = 2) k
    ((Carries.of_touch (Touch.set_rr (b := [.rr]) (by decide) (Touch.refl _ _))).links.portsWf.trans k)

/-! The exchanges. -/

/-- A port's link but for the TAG of its outstanding exchange. -/
def untagged (q : PortState) : PortState := { link q with xTag := none }

/-- From s to t exchanges go out on the ports ps: each has a TAG outstanding, and no link changes beside. -/
structure Exchanging (ps : List Nat) (s t : State) : Prop where
  wf : PortsWf t
  links : ∀ p, untagged (portOf t p) = untagged (portOf s p)
  tags : ∀ p, p ∈ ps ∨ (portOf s p).xTag.isSome = true → (portOf t p).xTag.isSome = true
  measN : t.fabric.measN = s.fabric.measN
  measMask : t.fabric.measMask = s.fabric.measMask

theorem Exchanging.refl {s : State} (w : PortsWf s) : Exchanging [] s s :=
  ⟨w, fun _ => rfl, fun _ h => h.resolve_left (by simp), rfl, rfl⟩

theorem Exchanging.trans {ps qs : List Nat} {s t u : State} (k : Exchanging qs t u) (h : Exchanging ps s t) :
    Exchanging (ps ++ qs) s u where
  wf := k.wf
  links p := (k.links p).trans (h.links p)
  tags p hp := by
    rw [List.mem_append, or_assoc, or_left_comm] at hp
    exact k.tags p (hp.imp_right (h.tags p))
  measN := k.measN.trans h.measN
  measMask := k.measMask.trans h.measMask

/-- Traffic on the way changes no exchange. -/
theorem Carries.exchanging {ps : List Nat} {s t u : State} (k : Carries t u) (h : Exchanging ps s t) : Exchanging ps s u := by
  obtain ⟨w, hl⟩ := k.links h.wf
  refine ⟨w, fun p => ?_, fun p hp => ?_, k.measN.trans h.measN, k.measMask.trans h.measMask⟩
  · exact (congrArg (fun q : PortState => { q with xTag := none }) (hl p) :).trans (h.links p)
  · have e : (portOf u p).xTag = (portOf t p).xTag := (congrArg PortState.xTag (hl p) :)
    rw [e]; exact h.tags p hp

/-- A TAG is taken for the exchange of a port. -/
def tagXchg (s : State) (p : Nat) (tag : BitVec 16) : State :=
  modPort { s with fabric := { s.fabric with nextTag := tag + 1 } } p fun q => { q with xTag := some tag }

/-- The exchange that a port sends. -/
def xchgPacket (s : State) (p : Nat) (tag : BitVec 16) : Packet :=
  mkPacket s 0x30 (portOf s p).nbAddr.toNat 0 0 0 tag.toNat []

theorem sendXchg_eq (s : State) (p : Nat) : sendXchg s p =
    holdFor (tagXchg s p (freshTag s)) p 8 (xchgPacket (tagXchg s p (freshTag s)) p (freshTag s)) := rfl

theorem tagXchg_wf {s : State} (w : PortsWf s) (p : Nat) (tag : BitVec 16) :
    PortsWf (tagXchg s p tag) := (modPort_portsWf ..).keeps ⟨w.wf⟩

theorem tagXchg_same {s : State} (w : PortsWf s) (p : Nat) (tag : BitVec 16) :
    portOf (tagXchg s p tag) p = { portOf s p with xTag := some tag } :=
  portOf_modPort_own (s := { s with fabric := { s.fabric with nextTag := tag + 1 } }) ⟨w.wf⟩ p _

theorem tagXchg_other {s : State} {p q : Nat} (h : q ≠ p) (tag : BitVec 16) :
    portOf (tagXchg s p tag) q = portOf s q := portOf_modPort_other _ _ _ h

theorem tagXchg_exchanging {s : State} (w : PortsWf s) (p : Nat) (tag : BitVec 16) :
    Exchanging [p] s (tagXchg s p tag) := by
  refine ⟨tagXchg_wf w p tag, fun q => ?_, fun q hq => ?_, rfl, rfl⟩
  · by_cases e : q = p
    · subst e; rw [tagXchg_same w]; rfl
    · rw [tagXchg_other e]
  · by_cases e : q = p
    · subst e; rw [tagXchg_same w]; rfl
    · rw [tagXchg_other e]; exact hq.resolve_left (by simpa using e)

theorem sendXchg_exchanging {s : State} (w : PortsWf s) (p : Nat) : Exchanging [p] s (sendXchg s p) := by
  rw [sendXchg_eq]
  exact (holdFor_carries ..).exchanging (tagXchg_exchanging w p _)

theorem sendXchgs_exchanging (ps : List Nat) {s : State} (w : PortsWf s) :
    Exchanging ps s (ps.foldl sendXchg s) := by
  induction ps generalizing s with
  | nil => exact Exchanging.refl w
  | cons x xs ih =>
    have h := sendXchg_exchanging w x
    rw [List.foldl_cons]
    have k := (ih h.wf).trans h
    rwa [List.singleton_append] at k

/-- No exchange is counted yet. -/
def unmeasured (q : PortState) : PortState :=
  { q with xT1 := none, xDone := 0, xSum := 0, xMin := 0, xMax := 0, xDelay := 0 }

theorem unmeasured_ports (ps : List Nat) {s : State} (w : PortsWf s) :
    PortsWf (ps.foldl (fun s p => modPort s p unmeasured) s)
      ∧ ∀ p, portOf (ps.foldl (fun s p => modPort s p unmeasured) s) p
        = if p ∈ ps then unmeasured (portOf s p) else portOf s p := by
  induction ps generalizing s with
  | nil => exact ⟨w, fun p => (if_neg (by simp)).symm⟩
  | cons x xs ih =>
    obtain ⟨w', h⟩ := ih (s := modPort s x unmeasured) ((modPort_portsWf ..).keeps w)
    refine ⟨w', fun p => (h p).trans ?_⟩
    by_cases e : p = x
    · subst e
      rw [portOf_modPort_own w, if_pos List.mem_cons_self]
      exact ite_self _
    · rw [portOf_modPort_other _ _ _ e]
      simp [e]

theorem unmeasured_fabric (ps : List Nat) (s : State) :
    (ps.foldl (fun s p => modPort s p unmeasured) s).fabric.measN = s.fabric.measN
      ∧ (ps.foldl (fun s p => modPort s p unmeasured) s).fabric.measMask = s.fabric.measMask :=
  ⟨foldl_same (fun s => s.fabric.measN) (fun s p => modPort s p unmeasured) (fun _ _ => rfl) ps s,
    foldl_same (fun s => s.fabric.measMask) (fun s p => modPort s p unmeasured) (fun _ _ => rfl) ps s⟩

/-- The ports of a mask that are up. -/
def upPorts (s : State) (mask : Nat) : List Nat := (List.range 4).filter fun p => bitOf mask p && portUp (portOf s p)

theorem mem_upPorts {s : State} {mask p : Nat} (hp : p < 4) :
    p ∈ upPorts s mask ↔ (bitOf mask p && portUp (portOf s p)) = true := by simp [upPorts, hp]

theorem portMask_getLsbD (ps : List Nat) (m : BitVec 4) {p : Nat} (hp : p < 4) :
    (ps.foldl (fun m p => putBit m p true) m).getLsbD p = (m.getLsbD p || decide (p ∈ ps)) := by
  induction ps generalizing m with
  | nil => simp
  | cons x xs ih =>
    rw [List.foldl_cons, ih]
    have : (putBit m x true).getLsbD p = (m.getLsbD p || decide (p = x)) := by
      have e : (!decide (p < x) && decide (p - x = 0)) = decide (p = x) := by
        rw [Bool.eq_iff_iff]; simp; omega
      simp [putBit, hp, e]
    rw [this]
    simp [Bool.or_assoc]

/-- A measurement of n exchanges is set up on the ports ps. -/
def setMeasuring (s : State) (ps : List Nat) (n : Nat) : State :=
  ps.foldl (fun s p => modPort s p unmeasured)
    { s with fabric := { s.fabric with measN := n, measMask := ps.foldl (fun m p => putBit m p true) 0 } }

theorem startMeasuring_eq (s : State) (mask n : Nat) : startMeasuring s mask n =
    settleMeasure ((upPorts s mask).foldl sendXchg (setMeasuring s (upPorts s mask) n)) := rfl

section

variable {s : State} (w : PortsWf s) {mask n : Nat} (hn : 1 ≤ n)
include w hn

/-- On a port that is up an exchange is out, and none is counted. -/
theorem startMeasuring_runs (hu : ∃ p, p < 4 ∧ (bitOf mask p && portUp (portOf s p)) = true) :
    (startMeasuring s mask n).fabric.measN = n ∧ ∀ p, p < 4 →
      (startMeasuring s mask n).fabric.measMask.getLsbD p = (bitOf mask p && portUp (portOf s p))
        ∧ ((bitOf mask p && portUp (portOf s p)) = true → (portOf (startMeasuring s mask n) p).xTag.isSome = true
          ∧ (portOf (startMeasuring s mask n) p).xDone = 0 ∧ (portOf (startMeasuring s mask n) p).xSum = 0) := by
  rw [startMeasuring_eq]
  generalize hps : upPorts s mask = ps
  have hm : ∀ {p}, p < 4 → (p ∈ ps ↔ (bitOf mask p && portUp (portOf s p)) = true) := fun hp => hps ▸ mem_upPorts hp
  obtain ⟨wv, hz⟩ := unmeasured_ports ps
    (s := { s with fabric := { s.fabric with measN := n, measMask := ps.foldl (fun m p => putBit m p true) 0 } }) ⟨w.wf⟩
  obtain ⟨hN, hM⟩ := unmeasured_fabric ps
    { s with fabric := { s.fabric with measN := n, measMask := ps.foldl (fun m p => putBit m p true) 0 } }
  have x := sendXchgs_exchanging ps (s := setMeasuring s ps n) wv
  generalize ps.foldl sendXchg (setMeasuring s ps n) = t at x
  have hl : ∀ p, p ∈ ps → untagged (portOf t p) = untagged (unmeasured (portOf s p)) := fun p hp => by
    rw [x.links p]; exact congrArg untagged ((hz p).trans (if_pos hp))
  have tN : t.fabric.measN = n := x.measN.trans hN
  have tM : ∀ p, p < 4 → t.fabric.measMask.getLsbD p = (bitOf mask p && portUp (portOf s p)) := fun p hp => by
    rw [x.measMask.trans hM, portMask_getLsbD ps 0 hp, Bool.eq_iff_iff, ← hm hp]
    simp
  have tD : ∀ p, p ∈ ps → (portOf t p).xDone = 0 := fun p hp => (congrArg PortState.xDone (hl p hp) :)
  have run : settleMeasure t = t := by
    obtain ⟨p, hp, hu⟩ := hu
    refine settleMeasure_runs (.inr (List.any_eq_true.2 ⟨p, by simpa using hp, ?_⟩))
    have hst : (portOf t p).st = (portOf s p).st := (congrArg PortState.st (hl p ((hm hp).2 hu)) :)
    have hup : portUp (portOf t p) = true := by
      unfold portUp; rw [hst]; exact (Bool.and_eq_true_iff.1 hu).2
    unfold measuring
    rw [tM p hp, hu, tD p ((hm hp).2 hu), tN, hup]
    simpa using Nat.lt_of_lt_of_le Nat.zero_lt_one hn
  rw [run]
  exact ⟨tN, fun p hp => ⟨tM p hp, fun hu => ⟨x.tags p (.inl ((hm hp).2 hu)), tD p ((hm hp).2 hu),
    (congrArg PortState.xSum (hl p ((hm hp).2 hu)) :)⟩⟩⟩

omit w in
/-- With no port up it is over at once. -/
theorem startMeasuring_over (hu : ∀ p, p < 4 → (bitOf mask p && portUp (portOf s p)) = false) :
    (startMeasuring s mask n).fabric.measN = 0 := by
  have hps : upPorts s mask = [] := List.filter_eq_nil_iff.2 fun p hp => by simpa using hu p (by simpa using hp)
  rw [startMeasuring_eq, hps, List.foldl_nil, (settleMeasure_over fun g => ?_).measN]
  · rfl
  obtain g | g := g
  · exact absurd (show n = 0 from g) (by omega)
  · obtain ⟨p, -, g⟩ := List.any_eq_true.1 g
    simp [measuring, setMeasuring] at g

end

/-! The command. -/

/-- The own checks of OPC_SYNC_MEASURE. -/
def measureChecks (s : State) (mask n : Nat) : List (Bool × Nat × Nat) :=
  [range (15 < mask) 24, range (n = 0 || 4096 < n) 26, busy (s.fabric.measN ≠ 0)]

theorem syncMeasure_serves (n : Nat) (s : State) : exec (.opcSyncMeasure n) s = serve 0x0205 n [] s (resvAt [(25, 1)])
    (fun s m => measureChecks s (Msg.field m 24 1) (Msg.field m 26 2)) fun s m =>
      .next (startMeasuring (deferResp s n m) (Msg.field m 24 1) (Msg.field m 26 2)) := rfl

section

variable {n : Nat} {s u : State} {m : Msg} (h : Asked 0x0205 n [] s m u)
include h

theorem syncMeasure_resv : resvAt [(25, 1)] m = false := by
  obtain ⟨-, -, hr, -⟩ := id h
  unfold commandReserved at hr
  rw [asked_op h] at hr
  exact hr

variable (h1 : Msg.field m 24 1 ≤ 15) (h2 : 1 ≤ Msg.field m 26 2) (h3 : Msg.field m 26 2 ≤ 4096)
include h1 h2 h3

theorem syncMeasure_busy (hb : u.fabric.measN ≠ 0) : Refuses (.opcSyncMeasure n) n s u m 0x17 0xFFFF := by
  refine asked_refuses h ((syncMeasure_serves n s).trans (asked_serve_fails h (syncMeasure_resv h) ?_))
  have r1 : range (15 < Msg.field m 24 1) 24 = (false, 0x14, 24) := by simp [range]; omega
  have r2 : range (Msg.field m 26 2 = 0 || 4096 < Msg.field m 26 2) 26 = (false, 0x14, 26) := by simp [range]; omega
  rw [measureChecks, r1, r2]
  simp [firstFail_cons, busy, hb]

theorem syncMeasure_runs (hb : u.fabric.measN = 0) : exec (.opcSyncMeasure n) s =
    .next (startMeasuring (deferResp u n m) (Msg.field m 24 1) (Msg.field m 26 2)) := by
  refine (syncMeasure_serves n s).trans (asked_serve_runs h (syncMeasure_resv h) ?_)
  simp [measureChecks, firstFail_none, range, busy, hb]
  omega

theorem syncMeasure_begins (hb : u.fabric.measN = 0) (w : TabWf {} s.fabric.ports)
    (hu : ∃ p, p < 4 ∧ (bitOf (Msg.field m 24 1) p && portUp (portOf u p)) = true) :
    Completes (.opcSyncMeasure n) s [.hw, .mbs, .rr, .fabric, .levee, .mem, .free] fun t =>
      t.fabric.measN = Msg.field m 26 2 ∧ ∀ p, p < 4 →
        t.fabric.measMask.getLsbD p = (bitOf (Msg.field m 24 1) p && portUp (portOf u p))
          ∧ ((bitOf (Msg.field m 24 1) p && portUp (portOf u p)) = true →
            (portOf t p).xTag.isSome = true ∧ (portOf t p).xDone = 0 ∧ (portOf t p).xSum = 0) := by
  have wu : PortsWf u := by
    obtain ⟨⟨-, -, ht⟩, -⟩ := h
    exact (Keeps.snd ht (takeFront_portsWf s n)).keeps ⟨w⟩
  exact Completes.of_next (syncMeasure_runs h h1 h2 h3 hb) (startMeasuring_runs (s := deferResp u n m) ⟨wu.wf⟩ h2 hu)
    (execOpcSyncMeasure_touch ..)

theorem syncMeasure_none (hb : u.fabric.measN = 0)
    (hu : ∀ p, p < 4 → (bitOf (Msg.field m 24 1) p && portUp (portOf u p)) = false) :
    Completes (.opcSyncMeasure n) s [.hw, .mbs, .rr, .fabric, .levee, .mem, .free] fun t => t.fabric.measN = 0 :=
  Completes.of_next (syncMeasure_runs h h1 h2 h3 hb) (startMeasuring_over (s := deferResp u n m) h2 hu)
    (execOpcSyncMeasure_touch ..)

end

/-- Settles O37: each command's checks and effect, with the response that is owed kept while the root's notice is posted
and the measured ports kept in their links while their exchanges go out. -/
theorem clockRequestsLockStepAndSync : Obligations.ClockRequestsLockStepAndSync := by
  unfold Obligations.ClockRequestsLockStepAndSync
  intro n s u m hm
  refine ⟨fun h hl hd => ⟨clockLock_there h hl hd, fun hk i => clockLock_busy h hl hd hk, clockLock_starts h hl hd hm⟩,
    fun h hl hd h1 h2 => ⟨clockStep_small h hl hd h1 h2, clockStep_misuse h hl hd h1 h2, clockStep_locks h hl hd h1 h2⟩,
    syncConfig_completes, syncOffset_completes, fun h h1 h2 h3 => ?_, fun h => ⟨syncEpoch_waits h, syncEpoch_sent h⟩⟩
  exact ⟨syncMeasure_busy h h1 h2 h3, syncMeasure_begins h h1 h2 h3, syncMeasure_none h h1 h2 h3⟩

end Sys2Proof.Machine
end

section
/-! PROOFS. A packet that is held stands at its port, waiting or sent, whatever else goes out after it (R314, R316). -/

namespace Sys2Proof.Trellis

open Sys2Proof.Machine hiding Stands

/-! What a packet keeps as it is routed and as it leaves. -/

theorem alike_refl (k : Packet) : alike k k := ⟨rfl, rfl, rfl, rfl, rfl, rfl, rfl, fun _ => rfl⟩

theorem alike_trans {k x y : Packet} (h : alike k x) (g : alike x y) : alike k y := by
  obtain ⟨h1, h2, h3, h4, h5, h6, h7, h8⟩ := h
  obtain ⟨g1, g2, g3, g4, g5, g6, g7, g8⟩ := g
  exact ⟨g1.trans h1, g2.trans h2, g3.trans h3, g4.trans h4, g5.trans h5, g6.trans h6, g7.trans h7,
    fun n => (g8 (by rw [h1]; exact n)).trans (h8 n)⟩

/-- Another ROUTE makes no other packet of it. -/
theorem alike_route (k : Packet) (r : Byte) : alike k { k with route := r } := alike_refl k

theorem alike_asLeaves (s : State) (p : Nat) (k : Packet) : alike k (asLeaves s p k) := by
  unfold asLeaves
  split
  · exact alike_route k _
  · exact alike_refl k

theorem alike_stampXchg (s : State) (k : Packet) : alike k (stampXchg s k) := by
  unfold stampXchg
  split
  next h => exact ⟨rfl, rfl, rfl, rfl, rfl, rfl, rfl, fun n => absurd h n⟩
  next => exact alike_refl k

/-- The packet as it leaves by a port (R313, R319, R331). -/
def sentAs (s : State) (p : Nat) (l : BitVec 16) (k : Packet) : Packet :=
  withCrc { stampXchg s (asLeaves s p k) with lseq := l }

theorem alike_sentAs (s : State) (p : Nat) (l : BitVec 16) (k : Packet) : alike k (sentAs s p l k) :=
  alike_trans (alike_asLeaves s p k) (alike_trans (alike_stampXchg s _) (alike_refl (stampXchg s (asLeaves s p k))))

theorem alike_enterRing (s : State) (i : Nat) (k : Packet) : alike k (enterRing s i k) := by
  unfold enterRing
  split
  · split
    · exact alike_route k _
    · exact alike_refl k
  · exact alike_refl k

theorem direction_lt {own dest d : Nat} (h : direction own dest = some d) : d < 4 := by
  unfold direction at h
  split at h
  · cases h; split <;> omega
  · split at h <;> cases h
    split <;> omega

theorem opposite_lt {d : Nat} (h : d < 4) : opposite d < 4 := by unfold opposite; split <;> omega

/-- Routing gives one of the four ports, and at most a turned ROUTE (R318, R320). -/
theorem chooseOut_some {s : State} {k k' : Packet} {p : Nat} (h : chooseOut s k = some (p, k')) : p < 4 ∧ alike k k' := by
  unfold chooseOut at h
  split at h
  · cases h
  next d hd =>
    have hlt : (if pktTurned k then opposite d else d) < 4 := by
      split
      · exact opposite_lt (direction_lt hd)
      · exact direction_lt hd
    dsimp only at h
    generalize (if pktTurned k then opposite d else d) = d' at h hlt
    split at h
    · cases h
    split at h
    · split at h
      · cases h
      split at h <;> cases h
      exact ⟨opposite_lt hlt, alike_route k _⟩
    · cases h
      exact ⟨hlt, alike_refl k⟩

/-! A packet that stands. -/

/-- Does f hold of a packet as it leaves, where it holds of it as it is held? -/
def Leaves (f : Packet → Prop) : Prop := ∀ x y, alike x y → f x → f y

theorem alike_leaves (k : Packet) : Leaves (alike k) := fun _ _ h g => alike_trans g h

/-- The ports' table is canonical, and a packet that f holds of stands at port p. -/
structure PortsStand (p i : Nat) (f : Packet → Prop) (s : State) : Prop where
  wf : PortsWf s
  stands : Stands s p i f

variable {p i : Nat} {f : Packet → Prop}

theorem PortsStand.same {s t : State} (h : t.fabric.ports = s.fabric.ports) : Keeps (PortsStand p i f) s t :=
  ⟨fun ⟨w, g⟩ => ⟨(PortsWf.of_ports h).keeps w, by unfold Stands at *; rw [portOf_ports h]; exact g⟩⟩

theorem PortsStand.touch {ps : List Part} {s t : State} (k : Touch ps s t) (h : Part.fabric ∉ ps := by decide) :
    Keeps (PortsStand p i f) s t := PortsStand.same (by rw [k.fabric h])

/-- A change of a port that leaves its packets alone. -/
theorem modPort_stands (s : State) (r : Nat) {g : PortState → PortState} (hw : ∀ q, (g q).waiting = q.waiting)
    (hr : ∀ q, (g q).replay = q.replay) : Keeps (PortsStand p i f) s (modPort s r g) := by
  refine ⟨fun ⟨w, h⟩ => ⟨(modPort_portsWf ..).keeps w, ?_⟩⟩
  unfold Stands at *
  by_cases e : p = r
  · subst e; rw [portOf_modPort_own w, hw, hr]; exact h
  · rw [portOf_modPort_other _ _ _ e]; exact h

theorem freeInput_stands (s : State) (j : Nat) (k : Packet) : Keeps (PortsStand p i f) s (freeInput s j k) :=
  Keeps.ite (modPort_stands _ _ (fun _ => rfl) fun _ => rfl) (Keeps.refl _ s)

/-- What a port keeps of a packet it sends. -/
def sentFrom (s : State) (p : Nat) (e : Nat × Packet) (q : PortState) : PortState :=
  let k := 2 * pktVc (asLeaves s p e.2) + pktDl (asLeaves s p e.2)
  let pkt := sentAs s p ((portOf s p).txSeq.setWidth 16) e.2
  { q with
    waiting := q.waiting.erase e, replay := q.replay ++ [(e.1 % 16 / 2, e.2, pkt)], txSeq := q.txSeq + 1,
    used := tmod 0 q.used k (· + BitVec.ofNat 8 (flitsOf e.2)),
    vcTurn := if pktVc e.2 = 1 then q.vcTurn else pktVc e.2,
    inTurn := tset 4 q.inTurn (pktVc e.2) (e.1 % 16 / 2)
    xT1 := if pkt.cls = 0x30#8 then some pkt.arg0 else q.xT1 }

theorem sendOne_eq (s : State) (p : Nat) (e : Nat × Packet) :
    sendOne s p e = freeInput (modPort s p (sentFrom s p e)) e.1 e.2 := rfl

section

variable (hf : Leaves f)
include hf

theorem sendOne_stands (s : State) (r : Nat) (e : Nat × Packet) : Keeps (PortsStand p i f) s (sendOne s r e) := by
  rw [sendOne_eq]
  refine (freeInput_stands ..).trans ⟨fun ⟨w, h⟩ => ⟨(modPort_portsWf ..).keeps w, ?_⟩⟩
  unfold Stands at *
  by_cases hp : p = r
  · subst hp
    rw [portOf_modPort_own w]
    obtain ⟨x, hx, fx⟩ | ⟨x, hx, g⟩ := h
    · by_cases he : (i, x) = e
      · subst he
        exact .inr ⟨_, List.mem_append_right _ (List.mem_singleton.2 rfl), rfl, hf _ _ (alike_sentAs ..) fx⟩
      · exact .inl ⟨x, (List.mem_erase_of_ne he).2 hx, fx⟩
    · exact .inr ⟨x, List.mem_append_left _ hx, g⟩
  · rw [portOf_modPort_other _ _ _ hp]; exact h

theorem pumpPort_stands (n : Nat) (s : State) (r : Nat) : Keeps (PortsStand p i f) s (pumpPort n s r) := by
  induction n generalizing s with
  | zero => exact Keeps.refl _ s
  | succ n ih =>
    unfold pumpPort
    split
    · exact (ih _).trans (sendOne_stands hf ..)
    · exact Keeps.refl _ s

theorem holdFor_stands (s : State) (r j : Nat) (k : Packet) : Keeps (PortsStand p i f) s (holdFor s r j k) := by
  refine (pumpPort_stands hf ..).trans ⟨fun ⟨w, h⟩ => ⟨(modPort_portsWf ..).keeps w, ?_⟩⟩
  unfold Stands at *
  by_cases hp : p = r
  · subst hp
    rw [portOf_modPort_own w]
    exact h.imp_left fun ⟨x, hx, fx⟩ => ⟨x, List.mem_append_left _ hx, fx⟩
  · rw [portOf_modPort_other _ _ _ hp]; exact h

/-- The packet held stands there itself. -/
theorem holdFor_stands_own {s : State} (w : PortsWf s) {k : Packet} (hk : f k) :
    PortsStand p i f (holdFor s p i k) := by
  refine (pumpPort_stands hf ..).keeps ⟨(modPort_portsWf ..).keeps w, .inl ⟨k, ?_, hk⟩⟩
  rw [portOf_modPort_own w]
  exact List.mem_append_right _ (List.mem_singleton.2 rfl)

theorem sendPlain_stands (s : State) (j : Nat) (k : Packet) : Keeps (PortsStand p i f) s (sendPlain s j k) := by
  unfold sendPlain
  split
  · exact holdFor_stands hf ..
  · exact freeInput_stands ..

theorem sendCopy_stands (s : State) (r j : Nat) (k : Packet) : Keeps (PortsStand p i f) s (sendCopy s r j k) :=
  Keeps.ite (Keeps.refl _ s) (holdFor_stands hf ..)

theorem sendImage_stands (rem : Remote) (dest addr : Nat) (ps : List (Nat × Nat)) (s : State) :
    Keeps (PortsStand p i f) s (sendImage rem dest addr ps s) := by
  induction ps generalizing s with
  | nil => exact Keeps.refl _ s
  | cons x xs ih =>
    unfold sendImage
    split
    · exact (ih _).trans (sendPlain_stands hf ..)
    · exact Keeps.refl _ s

end

/-! The way a packet takes depends on the node and its neighbours alone (R318 to R321). -/

/-- From s to u the node, the ports' states and their neighbours stand. -/
structure Ways (s u : State) : Prop where
  power : u.power = s.power
  st : ∀ p, (portOf u p).st = (portOf s p).st
  nbAddr : ∀ p, (portOf u p).nbAddr = (portOf s p).nbAddr
  nbKnown : ∀ p, (portOf u p).nbKnown = (portOf s p).nbKnown

theorem Ways.trans {s t u : State} (k : Ways t u) (h : Ways s t) : Ways s u :=
  ⟨k.power.trans h.power, fun p => (k.st p).trans (h.st p), fun p => (k.nbAddr p).trans (h.nbAddr p),
    fun p => (k.nbKnown p).trans (h.nbKnown p)⟩

theorem Ways.same {s t u : State} (h : Ways s t) (hp : u.power = t.power) (hf : u.fabric.ports = t.fabric.ports) :
    Ways s u :=
  Ways.trans ⟨hp, fun p => by rw [portOf_ports hf], fun p => by rw [portOf_ports hf], fun p => by rw [portOf_ports hf]⟩ h

section

variable {s u : State} (h : Ways s u)
include h

theorem Ways.ownAddr : ownAddr u = ownAddr s := by unfold Machine.ownAddr; rw [h.power]

theorem Ways.skipped (p dest : Nat) : skipped u p dest = skipped s p dest := by
  unfold Machine.skipped
  dsimp only
  rw [h.ownAddr, h.nbAddr, h.nbKnown]

theorem Ways.chooseOut (k : Packet) : chooseOut u k = chooseOut s k := by
  simp only [Machine.chooseOut, h.ownAddr, h.skipped, h.st]

theorem Ways.enterRing (i : Nat) (k : Packet) : enterRing u i k = enterRing s i k := by
  unfold Machine.enterRing; rw [h.ownAddr]

theorem Ways.copyOffered (p origin : Nat) : copyOffered u p origin = copyOffered s p origin := by
  unfold Machine.copyOffered copyGoesOn
  dsimp only
  rw [h.ownAddr, h.nbAddr, h.nbKnown, h.st]

theorem Ways.mkPacket (cls dest status a0 a1 tag : Nat) (data : List Byte) :
    mkPacket u cls dest status a0 a1 tag data = mkPacket s cls dest status a0 a1 tag data := by
  unfold Machine.mkPacket; rw [h.ownAddr]

/-- A packet of this node that is sent stands at the port of its way. -/
theorem Ways.sendPlain (w : PortsWf u) (i : Nat) (k : Packet)
    (hr : routable s (Machine.enterRing s i k) = true) :
    ∃ p, p < 4 ∧ PortsStand p i (alike k) (sendPlain u i k) := by
  unfold Machine.sendPlain
  rw [h.enterRing, h.chooseOut]
  split
  next p k' hc =>
    obtain ⟨hp, ha⟩ := chooseOut_some hc
    exact ⟨p, hp, holdFor_stands_own (alike_leaves k) w (alike_trans (alike_enterRing s i k) ha)⟩
  next hc => rw [routable, hc] at hr; cases hr

end

end Sys2Proof.Trellis
end

section
/-! PROOFS. A packet that arrives is taken in, and handed to its row (R313, R314, R316). -/

namespace Sys2Proof.Trellis

open Sys2Proof.Machine hiding Stands

/-- u is s with packets taken into and out of input buffers: beside the receivers' counts every port stands. -/
structure TakenIn (s u : State) : Prop where
  touch : Touch [.fabric] s u
  wf : PortsWf u
  port : ∀ q, ∃ a b c d, portOf u q = { portOf s q with rxSeq := a, nakDue := b, freed := c, ackDue := d }
  measN : u.fabric.measN = s.fabric.measN
  measMask : u.fabric.measMask = s.fabric.measMask
  serve : u.fabric.serve = s.fabric.serve

theorem TakenIn.trans {s t u : State} (k : TakenIn t u) (h : TakenIn s t) : TakenIn s u where
  touch := k.touch.trans h.touch
  wf := k.wf
  port q := by
    obtain ⟨a, b, c, d, e⟩ := k.port q
    obtain ⟨_, _, _, _, e'⟩ := h.port q
    exact ⟨a, b, c, d, by rw [e, e']⟩
  measN := k.measN.trans h.measN
  measMask := k.measMask.trans h.measMask
  serve := k.serve.trans h.serve

theorem modPort_takenIn {s : State} (w : PortsWf s) (p : Nat) {f : PortState → PortState}
    (hf : ∀ q, ∃ a b c d, f q = { q with rxSeq := a, nakDue := b, freed := c, ackDue := d }) :
    TakenIn s (modPort s p f) where
  touch := modPort_touch ..
  wf := (modPort_portsWf ..).keeps w
  port q := by
    by_cases e : q = p
    · subst e; rw [portOf_modPort_own w]; exact hf _
    · rw [portOf_modPort_other _ _ _ e]; exact ⟨_, _, _, _, rfl⟩
  measN := rfl
  measMask := rfl
  serve := rfl

/-- A packet in order is received. -/
theorem received_takenIn {s : State} (w : PortsWf s) (p : Nat) :
    TakenIn s (modPort s p fun q => { q with rxSeq := q.rxSeq + 1, nakDue := false }) :=
  modPort_takenIn w p fun _ => ⟨_, _, _, _, rfl⟩

theorem freeInput_takenIn {s : State} (w : PortsWf s) (i : Nat) (k : Packet) : TakenIn s (freeInput s i k) := by
  unfold freeInput
  split
  · exact modPort_takenIn w _ fun _ => ⟨_, _, _, _, rfl⟩
  · exact ⟨Touch.refl _ s, w, fun _ => ⟨_, _, _, _, rfl⟩, rfl, rfl, rfl⟩

section

variable {s u : State} (h : TakenIn s u)
include h

theorem TakenIn.field {α : Type} (g : PortState → α)
    (hg : ∀ q a b c d, g { q with rxSeq := a, nakDue := b, freed := c, ackDue := d } = g q) (q : Nat) :
    g (portOf u q) = g (portOf s q) := by
  obtain ⟨_, _, _, _, e⟩ := h.port q
  rw [e, hg]

theorem TakenIn.xT1 (q : Nat) : (portOf u q).xT1 = (portOf s q).xT1 := h.field PortState.xT1 (fun _ _ _ _ _ => rfl) q

theorem TakenIn.xTag (q : Nat) : (portOf u q).xTag = (portOf s q).xTag := h.field PortState.xTag (fun _ _ _ _ _ => rfl) q

theorem TakenIn.xDone (q : Nat) : (portOf u q).xDone = (portOf s q).xDone :=
  h.field PortState.xDone (fun _ _ _ _ _ => rfl) q

theorem TakenIn.xSum (q : Nat) : (portOf u q).xSum = (portOf s q).xSum := h.field PortState.xSum (fun _ _ _ _ _ => rfl) q

theorem TakenIn.xDelay (q : Nat) : (portOf u q).xDelay = (portOf s q).xDelay :=
  h.field PortState.xDelay (fun _ _ _ _ _ => rfl) q

theorem TakenIn.st (q : Nat) : (portOf u q).st = (portOf s q).st := h.field PortState.st (fun _ _ _ _ _ => rfl) q

theorem TakenIn.ways : Ways s u :=
  ⟨h.touch.power, h.st, h.field PortState.nbAddr fun _ _ _ _ _ => rfl, h.field PortState.nbKnown fun _ _ _ _ _ => rfl⟩

theorem TakenIn.measuring (p : Nat) : measuring u p = measuring s p := by
  unfold Machine.measuring portUp
  rw [h.measMask, h.measN, h.xDone, h.st]

theorem TakenIn.countAt (c : Nat) : countAt u c = countAt s c := by
  unfold Machine.countAt cycleLsb cycleOffset
  rw [h.touch.hw, h.touch.clock]

theorem TakenIn.leaveStamp (c : Nat) : leaveStamp u c = leaveStamp s c := by
  unfold Machine.leaveStamp
  rw [h.countAt, h.touch.hw]

end

/-- A link that stands keeps its ways. -/
theorem ways_of_links {s u : State} (hp : u.power = s.power) (h : ∀ p, link (portOf u p) = link (portOf s p)) : Ways s u :=
  ⟨hp, fun p => (congrArg PortState.st (h p) :), fun p => (congrArg PortState.nbAddr (h p) :),
    fun p => (congrArg PortState.nbKnown (h p) :)⟩

/-! Delivery to this node. -/

section

variable {cls : Nat} {port : Port} {k : Packet} {s u : State}

theorem receive_inOrder (hu : portUp (portOf s (portIx port)) = true) (hr : inReset s = false)
    (ho : inOrder (portOf s (portIx port)) k = true) (f : State → Out) : receive s (portIx port) k f =
      f (modPort s (portIx port) fun q => { q with rxSeq := q.rxSeq + 1, nakDue := false }) :=
  (if_neg (by simp [hu, hr])).trans (if_pos ho)

theorem receive_outOfOrder (hu : portUp (portOf s (portIx port)) = true) (hr : inReset s = false)
    (ho : inOrder (portOf s (portIx port)) k = false) (f : State → Out) : receive s (portIx port) k f =
      .next (modPort s (portIx port) fun q => { q with nakDue := true }) :=
  (if_neg (by simp [hu, hr])).trans (if_neg (by simp [ho]))

theorem receive_held (h : portUp (portOf s (portIx port)) = false ∨ inReset s = true) (f : State → Out) :
    receive s (portIx port) k f = .next s := if_pos (h.imp_left fun h => by simp [h])

theorem arrives_deliver (h : Arrives cls port k s u) (f : State → Out) : deliver cls port k s f = f u := by
  obtain ⟨h1, h2, hu, hr, ho, rfl⟩ := h
  unfold deliver
  rw [if_pos ⟨h1, h2⟩, receive_inOrder hu hr ho]

/-- A row that is handed the packet. -/
theorem arrives_exec (h : Arrives cls port k s u) {c : Instr} {f : State → Out} (hc : exec c s = deliver cls port k s f)
    {o : Out} (ho : f u = o) : exec c s = o := (hc.trans (arrives_deliver h f)).trans ho

theorem arrives_takenIn (w : PortsWf s) (h : Arrives cls port k s u) : TakenIn s u := by
  obtain ⟨-, -, -, -, -, rfl⟩ := h
  have r := received_takenIn w (portIx port)
  exact (freeInput_takenIn r.wf ..).trans r

/-! Broadcast copies. -/

theorem deliverCopy_idle (h : k.cls.toNat ≠ cls ∨ k.route.getLsbD 3 = false ∨ portUp (portOf s (portIx port)) = false
    ∨ inReset s = true) (f : State → State) : deliverCopy cls port k s f = .next s := by
  unfold deliverCopy
  split
  next g =>
    obtain ⟨g1, g2⟩ := g
    exact receive_held ((h.resolve_left fun n => n g1).resolve_left (by simp [g2])) _
  next => rfl

theorem deliverCopy_outOfOrder (hc : k.cls.toNat = cls) (hb : k.route.getLsbD 3 = true)
    (hu : portUp (portOf s (portIx port)) = true) (hr : inReset s = false)
    (ho : inOrder (portOf s (portIx port)) k = false) (f : State → State) : deliverCopy cls port k s f =
      .next (modPort s (portIx port) fun q => { q with nakDue := true }) :=
  (if_pos ⟨hc, hb⟩).trans (receive_outOfOrder hu hr ho _)

/-- The copy received and passed on. -/
def passed (s : State) (port : Port) (k : Packet) : State :=
  sendBroadcast (modPort s (portIx port) fun q => { q with rxSeq := q.rxSeq + 1, nakDue := false })
    (inputOf (portIx port) k) (phaseOf k) k

theorem deliverCopy_arrives (h : CopyArrives cls port k s) (f : State → State) :
    deliverCopy cls port k s f = .next (f (passed s port k)) := by
  obtain ⟨hc, hb, hu, hr, ho⟩ := h
  exact (if_pos ⟨hc, hb⟩).trans (receive_inOrder hu hr ho _)

theorem timeEpoch_exec (port : Port) (k : Packet) (s : State) : exec (.timeEpoch port k) s =
    deliverCopy 0x32 port k s fun s => takeEpoch (takeIn s (portIx port) k) k.arg0 := rfl

theorem bcastReq_exec (port : Port) (k : Packet) (s : State) : exec (.bcastReq port k) s =
    deliverCopy 0x40 port k s fun s =>
      drainIngress (modPort s (portIx port) fun q => { q with ingress := q.ingress ++ [k] }) := rfl

/-- Both broadcast classes are received alike. -/
theorem copyOf_exec {c : Instr} (hc : (cls, c) ∈ [(0x32, Instr.timeEpoch port k), (0x40, Instr.bcastReq port k)])
    (s : State) : ∃ f, exec c s = deliverCopy cls port k s f := by
  rcases List.mem_cons.1 hc with e | hc
  · cases e; exact ⟨_, timeEpoch_exec port k s⟩
  · cases List.mem_singleton.1 hc; exact ⟨_, bcastReq_exec port k s⟩

theorem copyOf_idle {c : Instr} (hc : (cls, c) ∈ [(0x32, Instr.timeEpoch port k), (0x40, Instr.bcastReq port k)])
    (h : k.cls.toNat ≠ cls ∨ k.route.getLsbD 3 = false ∨ portUp (portOf s (portIx port)) = false ∨ inReset s = true) :
    Idle c s := by
  obtain ⟨f, e⟩ := copyOf_exec hc s
  exact e.trans (deliverCopy_idle h f)

theorem nak_completes {c : Instr} (w : PortsWf s)
    (he : exec c s = .next (modPort s (portIx port) fun q => { q with nakDue := true })) :
    Completes c s [.fabric] fun t => portOf t (portIx port) = { portOf s (portIx port) with nakDue := true }
      ∧ ∀ r, r ≠ portIx port → portOf t r = portOf s r :=
  ⟨_, he, ⟨portOf_modPort_own w _ _, fun _ hr => portOf_modPort_other _ _ _ hr⟩, modPort_touch ..⟩

theorem copyOf_outOfOrder {c : Instr} (w : PortsWf s)
    (hc : (cls, c) ∈ [(0x32, Instr.timeEpoch port k), (0x40, Instr.bcastReq port k)]) (h : k.cls.toNat = cls)
    (hb : k.route.getLsbD 3 = true) (hu : portUp (portOf s (portIx port)) = true) (hr : inReset s = false)
    (ho : inOrder (portOf s (portIx port)) k = false) :
    Completes c s [.fabric] fun t => portOf t (portIx port) = { portOf s (portIx port) with nakDue := true }
      ∧ ∀ r, r ≠ portIx port → portOf t r = portOf s r := by
  obtain ⟨f, e⟩ := copyOf_exec hc s
  exact nak_completes w (e.trans (deliverCopy_outOfOrder h hb hu hr ho f))

/-! The copies passed on (R321). -/

/-- A copy given to a port that is not down stands there. -/
theorem sendCopy_stands_own {p i : Nat} {f : Packet → Prop} (hf : Leaves f) {x : Packet} (w : PortsWf s)
    (hd : (portOf s p).st ≠ .down) (hb : (portOf s p).st ≠ .bypassed) (hx : f x) :
    PortsStand p i f (sendCopy s p i x) := by
  unfold sendCopy
  dsimp only
  rw [if_neg (by simp [hd, hb])]
  exact holdFor_stands_own hf w hx

/-- The copy for the row, where there is one. -/
def rowSent (s : State) (i ph : Nat) (k : Packet) : State :=
  if ph = 0 ∧ copyOffered s 1 (k.src.toNat % 2048)
  then sendCopy s 1 i { k with route := putBit (putBit k.route 3 true) 5 false } else s

/-- The copy for the column. -/
def columnCopy (ph : Nat) (k : Packet) : Packet :=
  let south := { k with route := putBit (putBit k.route 3 true) 5 true }
  if ph = 0 then setDl south false else south

theorem sendBroadcast_eq (s : State) (i ph : Nat) (k : Packet) : sendBroadcast s i ph k =
    if copyOffered (rowSent s i ph k) 3 (k.src.toNat % 2048) then sendCopy (rowSent s i ph k) 3 i (columnCopy ph k)
    else rowSent s i ph k := rfl

theorem alike_columnCopy (ph : Nat) (k : Packet) : alike k (columnCopy ph k) := by
  unfold columnCopy
  split
  · exact alike_route k _
  · exact alike_route k _

theorem rowSent_carries (s : State) (i ph : Nat) (k : Packet) : Carries s (rowSent s i ph k) :=
  Carries.ite (sendCopy_carries ..) (Carries.refl s)

theorem rowSent_touch (s : State) (i ph : Nat) (k : Packet) : Touch [.fabric] s (rowSent s i ph k) :=
  Touch.ite (sendCopy_touch ..) (Touch.refl _ s)

theorem rowSent_ways (w : PortsWf s) (i ph : Nat) (k : Packet) : Ways s (rowSent s i ph k) :=
  ways_of_links (rowSent_touch ..).power ((rowSent_carries ..).links.link w)

/-- Each port that is offered a copy and is not down has it. -/
theorem sendBroadcast_stands (w : PortsWf s) (i ph : Nat) (k : Packet) :
    let out (p : Nat) : Prop := copyOffered s p (k.src.toNat % 2048) = true → (portOf s p).st ≠ .down →
      (portOf s p).st ≠ .bypassed → PortsStand p i (alike k) (sendBroadcast s i ph k)
    (ph = 0 → out 1) ∧ out 3 := by
  have r := rowSent_ways w i ph k
  refine ⟨fun h0 ho hd hb => ?_, fun ho hd hb => ?_⟩
  · have h : PortsStand 1 i (alike k) (rowSent s i ph k) := by
      unfold rowSent
      rw [if_pos ⟨h0, ho⟩]
      exact sendCopy_stands_own (alike_leaves k) w hd hb (alike_route k _)
    rw [sendBroadcast_eq]
    exact (Keeps.ite (sendCopy_stands (alike_leaves k) ..) (Keeps.refl _ _)).keeps h
  · rw [sendBroadcast_eq, r.copyOffered, if_pos ho]
    exact sendCopy_stands_own (alike_leaves k) ((rowSent_carries ..).links.portsWf.keeps w) (by rw [r.st]; exact hd)
      (by rw [r.st]; exact hb) (alike_columnCopy ph k)

/-- What the two copies come to, seen from where they arrived. -/
theorem passedOn_of {t : State} (w : PortsWf s)
    (ht : ∀ p, Keeps (PortsStand p (inputOf (portIx port) k) (alike k)) (passed s port k) t) : PassedOn s t port k := by
  have r := received_takenIn w (portIx port)
  obtain ⟨h1, h3⟩ := sendBroadcast_stands r.wf (inputOf (portIx port) k) (phaseOf k) k
  simp only [r.ways.copyOffered, r.ways.st] at h1 h3
  refine ⟨fun hb ho hd hp => ((ht 1).keeps (h1 ?_ ho hd hp)).stands, fun ho hd hp => ((ht 3).keeps (h3 ho hd hp)).stands⟩
  unfold phaseOf
  rw [hb]
  rfl

theorem passed_touch (s : State) (port : Port) (k : Packet) : Touch [.fabric] s (passed s port k) :=
  (sendBroadcast_touch ..).app (by decide) (modPort_touch ..)

theorem passed_portsWf (w : PortsWf s) : PortsWf (passed s port k) :=
  (sendBroadcast_carries ..).links.portsWf.keeps (received_takenIn w _).wf

theorem passed_ingress (w : PortsWf s) (q : Nat) :
    (portOf (passed s port k) q).ingress = (portOf s q).ingress := by
  have r := received_takenIn w (portIx port)
  unfold passed
  generalize modPort s (portIx port) _ = v at r ⊢
  have l := (sendBroadcast_carries v (inputOf (portIx port) k) (phaseOf k) k).links.link r.wf q
  exact (congrArg PortState.ingress l :).trans (r.field PortState.ingress (fun _ _ _ _ _ => rfl) q)

end

end Sys2Proof.Trellis
end

section
/-! PROOFS. Time exchanges, broadcasts and boot packets (R53, R69, R71, R321, R328 to R332). -/

namespace Sys2Proof.Trellis

open Sys2Proof.Machine hiding Stands

/-! Time exchanges (R53, R331). -/

section

variable {port : Port} {k : Packet} {s u : State} (w : PortsWf s)

theorem timeXchg_exec (port : Port) (k : Packet) (c2 c3 : Nat) (s : State) : exec (.timeXchg port k c2 c3) s =
    deliver 0x30 port k s fun u => .next (holdFor u (portIx port) 8 (mkPacket u 0x31 (k.src.toNat % 2048) 0
      (countAt u c2).toNat (leaveStamp u c3).toNat k.tag.toNat [])) := rfl

include w in
theorem timeXchg_completes (c2 c3 : Nat) (h : Arrives 0x30 port k s u) : Completes (.timeXchg port k c2 c3) s [.fabric]
    fun t => Stands t (portIx port) 8 (alike (mkPacket s 0x31 (k.src.toNat % 2048) 0 (countAt s c2).toNat
      (leaveStamp s c3).toNat k.tag.toNat [])) := by
  have r := arrives_takenIn w h
  have he := arrives_exec h (timeXchg_exec port k c2 c3 s) rfl
  rw [r.ways.mkPacket, r.countAt, r.leaveStamp] at he
  exact Completes.of_next he (holdFor_stands_own (alike_leaves _) r.wf (alike_refl _)).stands (execTimeXchg_touch ..)

/-- One exchange is added to a port's sums. -/
def xchgAdded (s : State) (p : Nat) (k : Packet) (t1 t4 : Count) : State :=
  modPort s p fun q => addXchg q t1 k.arg0 k.arg1 t4

/-- The next exchange goes out, or the measurement may be over. -/
def xchgNext (s : State) (p : Nat) : State := if measuring s p then sendXchg s p else settleMeasure s

/-- Only the answer of a measurement in progress, with its TAG, is counted (R53, R322). -/
theorem timeXchgRsp_exec (port : Port) (k : Packet) (c4 : Nat) (s : State) : exec (.timeXchgRsp port k c4) s =
    deliver 0x31 port k s fun u =>
      match (portOf u (portIx port)).xT1 with
      | some t1 =>
        if measuring u (portIx port) ∧ (portOf u (portIx port)).xTag = some k.tag then
          .next (xchgNext (xchgAdded u (portIx port) k t1 (countAt u c4)) (portIx port))
        else .next u
      | none => .next u := rfl

theorem sendXchg_xTag {v : State} (wv : PortsWf v) (p : Nat) :
    (portOf (sendXchg v p) p).xTag = some (freshTag v) := by
  rw [sendXchg_eq]
  generalize freshTag v = tag
  have l := ((holdFor_carries (tagXchg v p tag) p 8 (xchgPacket (tagXchg v p tag) p tag)).links.link (tagXchg_wf wv p tag)) p
  have e := tagXchg_same wv p tag
  generalize portOf (holdFor _ _ _ _) p = q at l ⊢
  rw [e] at l
  exact (congrArg PortState.xTag l :)

/-- The exchanges with a TAG outstanding. -/
def taggedXchg (tag : Option (BitVec 16)) (x : Packet) : Prop := x.cls = 0x30#8 ∧ some x.tag = tag

theorem taggedXchg_leaves (tag : Option (BitVec 16)) : Leaves (taggedXchg tag) := fun x y h g => by
  obtain ⟨hc, -, -, -, -, ht, -⟩ := h
  unfold taggedXchg
  rw [hc, ht]
  exact g

theorem xchgPacket_tagged (s : State) (p : Nat) (tag : BitVec 16) : taggedXchg (some tag) (xchgPacket s p tag) :=
  ⟨rfl, by simp [xchgPacket, mkPacket]⟩

/-- An exchange that goes out stands at its port, with its TAG (R322). -/
theorem sendXchg_stands {v : State} (wv : PortsWf v) (p : Nat) :
    Stands (sendXchg v p) p 8 (taggedXchg (portOf (sendXchg v p) p).xTag) := by
  rw [sendXchg_xTag wv, sendXchg_eq]
  generalize freshTag v = tag
  have h := holdFor_stands_own (p := p) (i := 8) (taggedXchg_leaves (some tag)) (tagXchg_wf wv p tag)
    (xchgPacket_tagged (tagXchg v p tag) p tag)
  exact h.stands

/-- Whether one more goes out or none, the sums stand. -/
theorem xchgNext_links {v : State} (wv : PortsWf v) (p : Nat) :
    untagged (portOf (xchgNext v p) p) = untagged (portOf v p) := by
  unfold xchgNext
  split
  · exact (sendXchg_exchanging wv p).links p
  · exact (congrArg (fun q : PortState => { q with xTag := none }) ((settleMeasure_links v).link wv p) :)

include w

theorem timeXchgRsp_other (c2 : Nat) (h : Arrives 0x31 port k s u)
    (hd : ¬ (measuring s (portIx port) = true ∧ (portOf s (portIx port)).xTag = some k.tag)
      ∨ (portOf s (portIx port)).xT1 = none) : Completes (.timeXchgRsp port k c2) s [.fabric] fun t => t = u := by
  have r := arrives_takenIn w h
  refine ⟨u, arrives_exec h (timeXchgRsp_exec port k c2 s) ?_, rfl, r.touch⟩
  rw [r.measuring, r.xTag, r.xT1]
  split
  next t1 h1 => exact if_neg (hd.resolve_right (by simp [h1]))
  next => rfl

theorem timeXchgRsp_due (c2 : Nat) (h : Arrives 0x31 port k s u) {t1 : Count} (h1 : (portOf s (portIx port)).xT1 = some t1)
    (hd : measuring s (portIx port) = true ∧ (portOf s (portIx port)).xTag = some k.tag) :
    Completes (.timeXchgRsp port k c2) s [.hw, .mbs, .fabric, .levee, .mem, .free] fun t =>
      (portOf t (portIx port)).xDone = (portOf s (portIx port)).xDone + 1
        ∧ (portOf t (portIx port)).xSum = (portOf s (portIx port)).xSum
          + ((k.arg0 - t1).toInt - (countAt s c2 - k.arg1).toInt)
        ∧ (portOf t (portIx port)).xDelay = (portOf s (portIx port)).xDelay
          + ((k.arg0 - t1).toInt + (countAt s c2 - k.arg1).toInt)
        ∧ ((portOf s (portIx port)).xDone + 1 < s.fabric.measN → Stands t (portIx port) 8
          fun x => x.cls = 0x30#8 ∧ some x.tag = (portOf t (portIx port)).xTag) := by
  have r := arrives_takenIn w h
  have he : exec (.timeXchgRsp port k c2) s
      = .next (xchgNext (xchgAdded u (portIx port) k t1 (countAt s c2)) (portIx port)) := by
    refine arrives_exec h (timeXchgRsp_exec port k c2 s) ?_
    rw [r.measuring, r.xTag, r.xT1, h1, r.countAt]
    exact if_pos hd
  refine Completes.of_next he ?_ (execTimeXchgRsp_touch ..)
  generalize portIx port = p at hd ⊢
  have wv : PortsWf (xchgAdded u p k t1 (countAt s c2)) := (modPort_portsWf ..).keeps r.wf
  have ev : portOf (xchgAdded u p k t1 (countAt s c2)) p = addXchg (portOf u p) t1 k.arg0 k.arg1 (countAt s c2) :=
    portOf_modPort_own r.wf p _
  have l := xchgNext_links wv p
  rw [ev] at l
  refine ⟨(congrArg PortState.xDone l :).trans (congrArg (· + 1) (r.xDone p)),
    (congrArg PortState.xSum l :).trans (congrArg (· + _) (r.xSum p)),
    (congrArg PortState.xDelay l :).trans (congrArg (· + _) (r.xDelay p)), fun hl => ?_⟩
  have hm : measuring (xchgAdded u p k t1 (countAt s c2)) p = true := by
    obtain ⟨hm, -⟩ := hd
    rw [← r.measuring] at hm
    rw [← r.xDone, ← r.measN] at hl
    unfold measuring at hm ⊢
    rw [ev]
    simp only [Bool.and_eq_true, decide_eq_true_eq] at hm ⊢
    exact ⟨⟨hm.1.1, hl⟩, hm.2⟩
  unfold xchgNext
  rw [if_pos hm]
  exact sendXchg_stands wv p

end

/-! Boot packets (R69, R71, R328 to R330). -/

section

variable {port : Port} {k : Packet} {s u : State} (w : PortsWf s)

theorem sendImage_carries (rem : Remote) (dest addr : Nat) (ps : List (Nat × Nat)) (s : State) :
    Carries s (sendImage rem dest addr ps s) := by
  induction ps generalizing s with
  | nil => exact Carries.refl s
  | cons x xs ih =>
    unfold sendImage
    split
    · exact (ih _).trans (sendPlain_carries ..)
    · exact Carries.refl s

theorem bootReq_exec (port : Port) (k : Packet) (rem : Remote) (s : State) : exec (.bootReq port k rem) s =
    deliver 0x50 port k s fun u =>
      match u.fabric.serve with
      | some v =>
        if v.port = port then
          .next (sendImage rem (k.src.toNat % 2048) v.addr (imagePieces v.len)
            (sendPlain { u with fabric := { u.fabric with serve := some { v with to_ := some k.src } } } 8
              (mkPacket u 0x51 (k.src.toNat % 2048) 0 v.len 0 0 [])))
        else .next u
      | none => .next u := rfl

theorem bootOffer_exec (port : Port) (k : Packet) (s : State) : exec (.bootOffer port k) s =
    deliver 0x51 port k s fun u =>
      if u.dev.mode = .boot ∧ u.boot.wait = .request ∧ (u.boot.phase = .waiting ∨ u.boot.phase = .failed) then
        .next (beginDownload { u with boot := { u.boot with source := some (k.src.setWidth 11), offered := k.arg0.toNat } })
      else .next u := rfl

theorem bootData_exec (port : Port) (k : Packet) (s : State) : exec (.bootData port k) s =
    deliver 0x52 port k s fun u =>
      if u.boot.source ≠ some (k.src.setWidth 11) then .next (sendBootDone u (k.src.toNat % 2048) 0xFF)
      else if u.dev.mode = .boot ∧ u.boot.phase = .receiving ∧ k.arg0.toNat % 32 = 0 then
        .next (afterPiece { u with boot := storePiece u.boot k.arg0.toNat k.data } (coveredTo u.boot 128))
      else .next u := rfl

theorem bootDone_exec (port : Port) (k : Packet) (s : State) : exec (.bootDone port k) s =
    deliver 0x53 port k s fun u =>
      match u.fabric.serve with
      | some v => .next (if v.to_ = some k.src then endServe u else u)
      | none => .next u := rfl

include w

theorem bootReq_other (rem : Remote) (h : Arrives 0x50 port k s u) (hv : ∀ v, s.fabric.serve = some v → v.port ≠ port) :
    Completes (.bootReq port k rem) s [.fabric] fun t => t = u := by
  have r := arrives_takenIn w h
  refine ⟨u, arrives_exec h (bootReq_exec port k rem s) ?_, rfl, r.touch⟩
  dsimp only
  rw [r.serve]
  split
  next v e => exact if_neg (hv v e)
  next => rfl

theorem bootReq_served (rem : Remote) (h : Arrives 0x50 port k s u) {v : Serve} (hv : s.fabric.serve = some v)
    (hp : v.port = port) : Completes (.bootReq port k rem) s [.fabric] fun t =>
      t.fabric.serve = some { v with to_ := some k.src }
        ∧ Sent s t 8 (mkPacket s 0x51 (k.src.toNat % 2048) 0 v.len 0 0 []) := by
  have r := arrives_takenIn w h
  have he : exec (.bootReq port k rem) s = .next (sendImage rem (k.src.toNat % 2048) v.addr (imagePieces v.len)
      (sendPlain { u with fabric := { u.fabric with serve := some { v with to_ := some k.src } } } 8
        (mkPacket u 0x51 (k.src.toNat % 2048) 0 v.len 0 0 []))) := by
    refine arrives_exec h (bootReq_exec port k rem s) ?_
    dsimp only
    rw [r.serve, hv]
    exact if_pos hp
  refine Completes.of_next he ?_ (execBootReq_touch ..)
  rw [r.ways.mkPacket]
  refine ⟨(sendImage_carries ..).serve.trans (sendPlain_carries ..).serve, fun hr => ?_⟩
  have x : Ways s { u with fabric := { u.fabric with serve := some { v with to_ := some k.src } } } :=
    r.ways.same rfl rfl
  obtain ⟨p, hlt, g⟩ := x.sendPlain ⟨r.wf.wf⟩ 8 _ hr
  exact ⟨p, hlt, ((sendImage_stands (alike_leaves _) ..).keeps g).stands⟩

theorem bootOffer_other (h : Arrives 0x51 port k s u) (hd : ¬ (s.dev.mode = .boot ∧ s.boot.wait = .request
    ∧ (s.boot.phase = .waiting ∨ s.boot.phase = .failed))) : Completes (.bootOffer port k) s [.fabric] fun t => t = u := by
  have r := arrives_takenIn w h
  rw [← r.touch.dev, ← r.touch.boot] at hd
  exact ⟨u, arrives_exec h (bootOffer_exec port k s) (if_neg hd), rfl, r.touch⟩

theorem bootOffer_taken (h : Arrives 0x51 port k s u) (hd : s.dev.mode = .boot ∧ s.boot.wait = .request
    ∧ (s.boot.phase = .waiting ∨ s.boot.phase = .failed)) : Completes (.bootOffer port k) s [.boot, .fabric] fun t =>
      t.boot.phase = .receiving ∧ t.boot.source = some (k.src.setWidth 11) ∧ t.boot.offered = k.arg0.toNat
        ∧ t.boot.error = 0 ∧ t.boot.img = [] ∧ t.boot.covered = [] := by
  have r := arrives_takenIn w h
  rw [← r.touch.dev, ← r.touch.boot] at hd
  exact Completes.of_next (arrives_exec h (bootOffer_exec port k s) (if_pos hd)) ⟨rfl, rfl, rfl, rfl, rfl, rfl⟩
    (execBootOffer_touch ..)

omit w in
/-- A report that can be sent stands at a port. -/
theorem sendBootDone_stands {v : State} (x : Ways s v) (wv : PortsWf v) {dest code : Nat}
    (hr : routable s (enterRing s 8 (mkPacket s 0x53 dest code 0 0 0 [])) = true) :
    ∃ p, p < 4 ∧ PortsStand p 8 (alike (mkPacket s 0x53 dest code 0 0 0 [])) (sendBootDone v dest code) := by
  unfold sendBootDone
  rw [x.mkPacket]
  exact x.sendPlain wv 8 _ hr

omit w in
theorem bootFails_ports {v : State} {d : BitVec 11} (hd : v.boot.source = some d) (e : Nat) :
    (bootFails v e).fabric.ports = (sendBootDone v d.toNat e).fabric.ports := by
  unfold bootFails
  rw [hd]

theorem bootData_other (h : Arrives 0x52 port k s u) (hs : s.boot.source ≠ some (k.src.setWidth 11)) :
    Completes (.bootData port k) s [.fabric] fun t => Sent s t 8 (mkPacket s 0x53 (k.src.toNat % 2048) 0xFF 0 0 0 []) := by
  have r := arrives_takenIn w h
  rw [← r.touch.boot] at hs
  refine ⟨_, arrives_exec h (bootData_exec port k s) (if_pos hs), fun hr => ?_, (sendBootDone_touch ..).trans r.touch⟩
  obtain ⟨p, hlt, g⟩ := sendBootDone_stands r.ways r.wf hr
  exact ⟨p, hlt, g.stands⟩

section

variable (h : Arrives 0x52 port k s u) (hs : s.boot.source = some (k.src.setWidth 11))
include h hs

theorem bootData_idle (hd : ¬ (s.dev.mode = .boot ∧ s.boot.phase = .receiving ∧ k.arg0.toNat % 32 = 0)) :
    Completes (.bootData port k) s [.fabric] fun t => t = u := by
  have r := arrives_takenIn w h
  rw [← r.touch.boot] at hs
  rw [← r.touch.dev, ← r.touch.boot] at hd
  exact ⟨u, arrives_exec h (bootData_exec port k s) ((if_neg (not_not.2 hs)).trans (if_neg hd)), rfl, r.touch⟩

variable (hd : s.dev.mode = .boot ∧ s.boot.phase = .receiving ∧ k.arg0.toNat % 32 = 0)
include hd

theorem bootData_stored : exec (.bootData port k) s = .next (afterPiece
    { u with boot := storePiece s.boot k.arg0.toNat k.data } (coveredTo s.boot 128)) := by
  have r := arrives_takenIn w h
  have e := r.touch.boot
  rw [← r.touch.dev, ← e] at hd
  rw [← e] at hs ⊢
  exact arrives_exec h (bootData_exec port k s) ((if_neg (not_not.2 hs)).trans (if_pos hd))

theorem bootData_piece
    (hc : coveredTo (storePiece s.boot k.arg0.toNat k.data) 128 = coveredTo s.boot 128) :
    Completes (.bootData port k) s [.boot, .fabric] fun t => t.boot =
      if coveredTo (storePiece s.boot k.arg0.toNat k.data) s.boot.offered
      then { storePiece s.boot k.arg0.toNat k.data with phase := .verifying } else storePiece s.boot k.arg0.toNat k.data := by
  refine Completes.of_next (bootData_stored w h hs hd) ?_ (execBootData_touch ..)
  unfold afterPiece
  dsimp only
  rw [hc, if_neg (fun g => g.2 g.1)]
  dsimp only
  rw [show (storePiece s.boot k.arg0.toNat k.data).offered = s.boot.offered from rfl]
  split <;> rfl

theorem bootData_fails {e : Nat} (h1 : coveredTo (storePiece s.boot k.arg0.toNat k.data) 128 = true)
    (h0 : coveredTo s.boot 128 = false)
    (hh : headerError (bootBytes { s with boot := storePiece s.boot k.arg0.toNat k.data } 128) = some e) :
    Completes (.bootData port k) s [.boot, .fabric] fun t => t.boot.phase = .failed ∧ t.boot.error = BitVec.ofNat 8 e
      ∧ t.boot.source = none ∧ t.boot.img = [] ∧ Sent s t 8 (mkPacket s 0x53 (k.src.toNat % 2048) e 0 0 0 []) := by
  have r := arrives_takenIn w h
  have he := bootData_stored w h hs hd
  have ha : afterPiece { u with boot := storePiece s.boot k.arg0.toNat k.data } (coveredTo s.boot 128)
      = bootFails { u with boot := storePiece s.boot k.arg0.toNat k.data } e := by
    unfold afterPiece
    dsimp only
    rw [if_pos ⟨h1, by simp [h0]⟩,
      show headerError (bootBytes { u with boot := storePiece s.boot k.arg0.toNat k.data } 128) = some e from hh]
  rw [ha] at he
  refine Completes.of_next he ?_ (execBootData_touch ..)
  have hsrc : (storePiece s.boot k.arg0.toNat k.data).source = some (k.src.setWidth 11) := hs
  refine ⟨rfl, rfl, rfl, rfl, fun hr => ?_⟩
  have x : Ways s { u with boot := storePiece s.boot k.arg0.toNat k.data } := r.ways.same rfl rfl
  obtain ⟨p, hlt, g⟩ := sendBootDone_stands x ⟨r.wf.wf⟩ hr
  have hp := bootFails_ports (v := { u with boot := storePiece s.boot k.arg0.toNat k.data }) hsrc e
  rw [BitVec.toNat_setWidth] at hp
  exact ⟨p, hlt, ((PortsStand.same hp).keeps g).stands⟩

end

theorem bootDone_ends (h : Arrives 0x53 port k s u) {v : Serve} (hv : s.fabric.serve = some v) (ht : v.to_ = some k.src) :
    Completes (.bootDone port k) s [.mbs, .fabric] fun t => t.fabric.serve = none := by
  have r := arrives_takenIn w h
  have he : exec (.bootDone port k) s = .next (endServe u) := by
    refine arrives_exec h (bootDone_exec port k s) ?_
    rw [r.serve, hv]
    exact congrArg _ (if_pos ht)
  exact Completes.of_next he (answerOwed_carries ..).serve (execBootDone_touch ..)

theorem bootDone_other (h : Arrives 0x53 port k s u) (hv : ∀ v, s.fabric.serve = some v → v.to_ ≠ some k.src) :
    Completes (.bootDone port k) s [.fabric] fun t => t = u := by
  have r := arrives_takenIn w h
  refine ⟨u, arrives_exec h (bootDone_exec port k s) ?_, rfl, r.touch⟩
  rw [r.serve]
  split
  next v e => exact congrArg _ (if_neg (hv v e))
  next => rfl

end

/-! Broadcasts (R321, R332). -/

section

variable {port : Port} {k : Packet} {s : State} (w : PortsWf s)

theorem takeEpoch_touch_hw (s : State) (c : Count) : Touch [.hw] s (takeEpoch s c) := by
  unfold takeEpoch
  exact Touch.ite (Touch.refl _ s) (Touch.set_hw (by decide) (Touch.refl _ s))

include w

theorem timeEpoch_completes (h : CopyArrives 0x32 port k s) : Completes (.timeEpoch port k) s [.hw, .fabric] fun t =>
    PassedOn s t port k
      ∧ t.hw = if s.hw.syncMode = 0 then s.hw else { s.hw with epoch := some k.arg0, epochSeen := true } := by
  refine Completes.of_next ((timeEpoch_exec port k s).trans (deliverCopy_arrives h _)) ⟨?_, ?_⟩ (execTimeEpoch_touch ..)
  · exact passedOn_of w fun p => (PortsStand.touch (takeEpoch_touch_hw ..)).trans (freeInput_stands ..)
  · have e : (takeIn (passed s port k) (portIx port) k).hw = s.hw :=
      ((freeInput_touch ..).trans (passed_touch s port k)).hw
    rw [takeEpoch_hw, e]

end

end Sys2Proof.Trellis
end

section
/-! PROOFS. A broadcast request in its mailbox's ring, or at the port while the ring is full (R81, R321). -/

namespace Sys2Proof.Trellis

open Sys2Proof.Machine hiding Stands

/-- A fold none of whose steps does anything. -/
theorem foldl_still {α β : Type} {g : α → β → α} {l : List β} {a : α} (h : ∀ y ∈ l, g a y = a) :
    l.foldl g a = a := by
  induction l with
  | nil => rfl
  | cons y ys ih =>
    rw [List.foldl_cons, h y List.mem_cons_self]
    exact ih fun z hz => h z (List.mem_cons_of_mem _ hz)

/-- A fold of which one step alone does something. -/
theorem foldl_once {α β : Type} {g : α → β → α} {l : List β} {x : β} {a : α} (hn : l.Nodup) (hx : x ∈ l)
    (h0 : ∀ y ∈ l, y ≠ x → g a y = a) (h1 : ∀ y ∈ l, y ≠ x → g (g a x) y = g a x) : l.foldl g a = g a x := by
  induction l with
  | nil => cases hx
  | cons y ys ih =>
    obtain ⟨hy, hys⟩ := List.nodup_cons.1 hn
    rw [List.foldl_cons]
    by_cases e : y = x
    · subst e
      exact foldl_still fun z hz => h1 z (List.mem_cons_of_mem _ hz) fun e => hy (e ▸ hz)
    · rw [h0 y List.mem_cons_self e]
      exact ih hys ((List.mem_cons.1 hx).resolve_left fun h => e h.symm)
        (fun z hz => h0 z (List.mem_cons_of_mem _ hz)) fun z hz => h1 z (List.mem_cons_of_mem _ hz)

theorem portIx_lt (port : Port) : portIx port < 4 := by cases port <;> decide

/-- A port with nothing at its ingress has nothing to drain. -/
theorem drainPort_empty {s : State} {p : Nat} (h : (portOf s p).ingress = []) :
    drainPort (portOf s p).ingress.length s p = s := by rw [h]; rfl

/-- A port's ingress is emptied. -/
def emptied (s : State) (p : Nat) : State := modPort s p fun q => { q with ingress := [] }

section

variable {s : State} {p : Nat} {k : Packet} (hp : p < 4) (hk : (portOf s p).ingress = [k])
  (ho : ∀ r, r < 4 → r ≠ p → (portOf s r).ingress = [])
include hk

/-- The request as its turn comes: taken out of its input buffer and written into its ring. -/
theorem drainPort_ready (hb : bcastReady s k = true) : drainPort (portOf s p).ingress.length s p =
    takeBcast (freeInput (emptied s p) (inputOf p k) k) k := by
  rw [hk]
  unfold List.length drainPort
  rw [hk]
  exact if_pos hb

theorem drainPort_full (hb : bcastReady s k = false) : drainPort (portOf s p).ingress.length s p = s := by
  rw [hk]
  unfold List.length drainPort
  rw [hk]
  exact if_neg (by simp [hb])

include ho

theorem drainIngress_full (hb : bcastReady s k = false) : drainIngress s = s := by
  have e := drainPort_full hk hb
  refine foldl_still fun r hr => ?_
  by_cases h : r = p
  · rw [h]; exact e
  · exact drainPort_empty (ho r (List.mem_range.1 hr) h)

include hp

theorem drainIngress_ready (hb : bcastReady s k = true) {t : State}
    (ht : takeBcast (freeInput (emptied s p) (inputOf p k) k) k = t)
    (hi : ∀ r, r < 4 → r ≠ p → (portOf t r).ingress = []) : drainIngress s = t := by
  have e := (drainPort_ready hk hb).trans ht
  unfold drainIngress
  rw [foldl_once (x := p) List.nodup_range (List.mem_range.2 hp)
    (fun r hr h => drainPort_empty (ho r (List.mem_range.1 hr) h))
    (by rw [e]; exact fun r hr h => drainPort_empty (hi r (List.mem_range.1 hr) h)), e]

end

theorem emptied_stands (s : State) (r : Nat) {p i : Nat} {f : Packet → Prop} : Keeps (PortsStand p i f) s (emptied s r) :=
  modPort_stands _ _ (fun _ => rfl) fun _ => rfl

theorem emptied_touch (s : State) (p : Nat) : Touch [.fabric] s (emptied s p) := modPort_touch ..

theorem emptied_portsWf {s : State} (w : PortsWf s) (p : Nat) : PortsWf (emptied s p) := (modPort_portsWf s p _).keeps w

/-- The copy passed on, which waits at its port. -/
def waits (s : State) (port : Port) (k : Packet) : State :=
  modPort (passed s port k) (portIx port) fun q => { q with ingress := q.ingress ++ [k] }

/-- The copy taken from its port. -/
def fetched (s : State) (port : Port) (k : Packet) : State :=
  freeInput (emptied (waits s port k) (portIx port)) (inputOf (portIx port) k) k

section

variable {port : Port} {k : Packet} {s : State} (w : PortsWf s)

theorem waits_touch (s : State) (port : Port) (k : Packet) : Touch [.fabric] s (waits s port k) := by
  unfold waits
  exact (modPort_touch ..).trans (passed_touch s port k)

theorem fetched_touch (s : State) (port : Port) (k : Packet) : Touch [.fabric] s (fetched s port k) := by
  unfold fetched
  exact (freeInput_touch ..).trans ((emptied_touch ..).trans (waits_touch s port k))

theorem waits_stands (s : State) (port : Port) (k : Packet) {p i : Nat} {f : Packet → Prop} :
    Keeps (PortsStand p i f) (passed s port k) (waits s port k) := by
  unfold waits
  exact modPort_stands _ _ (fun _ => rfl) fun _ => rfl

theorem fetched_stands (s : State) (port : Port) (k : Packet) {p i : Nat} {f : Packet → Prop} :
    Keeps (PortsStand p i f) (passed s port k) (fetched s port k) := by
  unfold fetched
  exact (freeInput_stands ..).trans ((emptied_stands ..).trans (waits_stands s port k))

include w

theorem waits_portsWf : PortsWf (waits s port k) := (modPort_portsWf ..).keeps (passed_portsWf w)

theorem waits_own (he : (portOf s (portIx port)).ingress = []) : (portOf (waits s port k) (portIx port)).ingress = [k] := by
  unfold waits
  rw [portOf_modPort_own (passed_portsWf w)]
  dsimp only
  rw [passed_ingress w, he]
  rfl

theorem waits_other {r : Nat} (hr : r ≠ portIx port) : (portOf (waits s port k) r).ingress = (portOf s r).ingress := by
  unfold waits
  rw [portOf_modPort_other _ _ _ hr, passed_ingress w]

theorem fetched_ingress (r : Nat) : (portOf (fetched s port k) r).ingress =
    if r = portIx port then [] else (portOf s r).ingress := by
  have wv : PortsWf (waits s port k) := waits_portsWf w
  have f := freeInput_takenIn (s := emptied (waits s port k) (portIx port)) (emptied_portsWf wv _)
    (inputOf (portIx port) k) k
  unfold fetched
  rw [f.field PortState.ingress (fun _ _ _ _ _ => rfl) r]
  unfold emptied
  split
  next e => subst e; rw [portOf_modPort_own wv]
  next e => rw [portOf_modPort_other _ _ _ e, waits_other w e]

variable (hi : ∀ r, r < 4 → (portOf s r).ingress = []) (h : CopyArrives 0x40 port k s) (hb : boxOf k < 2)
  (hp : wrongPath s (boxOf k) = false)

omit w in
theorem bcastReady_box (hb : boxOf k < 2) (hp : wrongPath s (boxOf k) = false) {t : State} (e : t.mbs = s.mbs) :
    bcastReady t k = ringRoom s (boxOf k) := by
  have hp' : wrongPath t (boxOf k) = false := by unfold wrongPath mbOf at hp ⊢; rw [e]; exact hp
  have hr : ringRoom t (boxOf k) = ringRoom s (boxOf k) := by unfold ringRoom mbOf; rw [e]
  unfold bcastReady
  rw [hp', hr]
  simp [Nat.not_le.2 hb]

include hi h hb hp

/-- A full ring leaves the request at its port. -/
theorem bcastReq_waits (hr : ringRoom s (boxOf k) = false) : Completes (.bcastReq port k) s [.fabric] fun t =>
    PassedOn s t port k ∧ (portOf t (portIx port)).ingress = [k] := by
  have hk := waits_own (k := k) w (hi _ (portIx_lt port))
  have hd : drainIngress (waits s port k) = waits s port k :=
    drainIngress_full hk (fun r hr hne => (waits_other w hne).trans (hi r hr))
      ((bcastReady_box hb hp (waits_touch s port k).mbs).trans hr)
  have he := ((bcastReq_exec port k s).trans (deliverCopy_arrives h _)).trans (congrArg Host.Outcome.next hd)
  exact ⟨_, he, ⟨passedOn_of w fun p => waits_stands s port k, hk⟩, waits_touch s port k⟩

/-- With room the request stands in the ring (R79, R81). -/
theorem bcastReq_taken (hr : ringRoom s (boxOf k) = true) (wm : TabWf {} s.mbs) (wr : TabWf 0 (mbOf s (boxOf k)).req) :
    Completes (.bcastReq port k) s [.mbs, .fabric] fun t => PassedOn s t port k
      ∧ (mbOf t (boxOf k)).reqHead = (mbOf s (boxOf k)).reqHead + 1
      ∧ tget 0 (mbOf t (boxOf k)).req ((mbOf s (boxOf k)).reqHead.toNat % 256) = arrived k true
      ∧ (portOf t (portIx port)).ingress = [] := by
  have ft := fetched_touch s port k
  have ht : takeBcast (fetched s port k) k = putRequest (fetched s port k) (boxOf k) (arrived k true) := by
    have hp' : wrongPath (fetched s port k) (boxOf k) = false := by
      unfold wrongPath mbOf at hp ⊢; rw [ft.mbs]; exact hp
    unfold takeBcast
    rw [if_neg (Nat.not_le.2 hb), hp']
    rfl
  have hd : drainIngress (waits s port k) = putRequest (fetched s port k) (boxOf k) (arrived k true) :=
    drainIngress_ready (portIx_lt port) (waits_own w (hi _ (portIx_lt port)))
      (fun r hr hne => (waits_other w hne).trans (hi r hr))
      ((bcastReady_box hb hp (waits_touch s port k).mbs).trans hr) ht
      fun r hr hne => (fetched_ingress w r).trans ((if_neg hne).trans (hi r hr))
  have he := ((bcastReq_exec port k s).trans (deliverCopy_arrives h _)).trans (congrArg Host.Outcome.next hd)
  have hm : mbOf (putRequest (fetched s port k) (boxOf k) (arrived k true)) (boxOf k) = { mbOf s (boxOf k) with
      req := tset 0 (mbOf s (boxOf k)).req ((mbOf s (boxOf k)).reqHead.toNat % 256) (arrived k true)
      reqHead := (mbOf s (boxOf k)).reqHead + 1 } := by
    unfold putRequest
    rw [mbOf_modMb_same _ _ _ (by rw [ft.mbs]; exact wm)]
    unfold mbOf
    rw [ft.mbs]
  refine ⟨_, he, ⟨passedOn_of w fun p => ?_, ?_, ?_, ?_⟩, (modMb_touch ..).app (by decide) (ft.mono (by decide))⟩
  · exact (PortsStand.touch (modMb_touch ..)).trans (fetched_stands s port k)
  · rw [hm]
  · rw [hm]; exact tget_tset_same wr _ _
  · exact (fetched_ingress w _).trans (if_pos rfl)

end

/-- Settles O60: a packet that is taken in moves nothing of a port but its receiver's counts, what is held for a port
stands there whatever goes out after it, and traffic leaves every link and every measurement's sums alone. -/
theorem timeBroadcastAndBootPacketsAreTaken : Obligations.TimeBroadcastAndBootPacketsAreTaken := by
  unfold Obligations.TimeBroadcastAndBootPacketsAreTaken
  refine ⟨fun port k c2 c3 rem s u wp => ?_, fun port k s cls c wp hc => ?_, fun port k s wp => ?_⟩
  all_goals have w : PortsWf s := ⟨wp⟩
  · refine ⟨timeXchg_completes w c2 c3, fun h => ?_, fun h => ?_, fun h => ?_, fun h => ?_, fun h => ?_⟩
    · exact ⟨timeXchgRsp_other w c2 h, fun t1 h1 hd => timeXchgRsp_due w c2 h h1 hd⟩
    · exact ⟨bootReq_other w rem h, fun v hv hp => bootReq_served w rem h hv hp⟩
    · exact ⟨bootOffer_other w h, bootOffer_taken w h⟩
    · exact ⟨bootData_other w h, fun hs => ⟨bootData_idle w h hs, fun hd hc => bootData_piece w h hs hd hc,
        fun e hd h1 h0 hh => bootData_fails w h hs hd h1 h0 hh⟩⟩
    · exact ⟨fun v hv ht => bootDone_ends w h hv ht, bootDone_other w h⟩
  · exact ⟨copyOf_idle hc, copyOf_outOfOrder w hc⟩
  · exact ⟨timeEpoch_completes w, fun h hi => ⟨fun hb hp hr wm wr => bcastReq_taken w hi h hb hp hr wm wr,
      fun hb hp hr => bcastReq_waits w hi h hb hp hr⟩⟩

end Sys2Proof.Trellis
end

section
/-! PROOFS. The modes of Table 4.2 through every step: what leaves SAFE (R60, R351), and the mode that SERVICE returns to (R369,
R370). -/

namespace Sys2Proof.Machine

/-- The commands that may change what the device's modes hold (State.dev). -/
def movesDev : Instr → Bool
  | .powerOnReset | .powerOnResetRelease .. | .warmReset | .warmResetRelease | .fordCloseNFall
  | .trigInEdge .. | .refLossDetected .. | .adpllLockComplete | .headwaterTimedFire .. | .domainReady ..
  | .bootDigestDone | .watchdog .. | .mspWrite .. | .leveeCtrlWrite .. | .registerWrite .. | .regAccess ..
  | .extest | .samplePreload .. | .idcode | .clamp | .highz | .extestPulse | .extestTrain | .bypass
  | .opcDeviceStart .. | .opcArm .. | .opcDisarm .. | .opcPause .. | .opcResume .. | .opcBypassEnter ..
  | .opcBypassExit .. | .opcDiagEnter .. | .opcDiagExit .. | .selfTestEnd .. | .opcNoticeConfig ..
  | .opcItemSubmit .. | .opcItemAbort .. | .opcSiteMap .. | .scheduleDigestDone .. | .mseqDigestDone ..
  | .serviceImageChecked .. | .serviceBankChangeDone | .itemTimeLimit .. | .burstDispatch ..
  | .burstSegmentBoundary .. | .measureDispatch .. | .mseqRequestTaken .. | .seqReturn .. | .seqEnd ..
  | .unwindDone .. | .conversionDone .. | .tdcDispatch .. | .tdcEdge .. | .acquireDispatch ..
  | .transferDispatch .. | .dmaDescriptorFetched .. | .dmaWritebackAck .. | .dmaStopWaitEnd ..
  | .calDispatch .. | .calClassDone .. | .levelsDispatch .. | .dpsDispatch .. | .dpsRampStep ..
  | .dpsBudgetTimeout .. | .dpsOverload | .dpsDisarmOutputDisable .. | .dpsDischargeDone .. | .laneDispatch ..
  | .laneRxLock .. | .noLock .. | .lanePrbsSync .. | .laneSyncDrop .. | .noSync .. | .laneLockLoss ..
  | .laneBitsReached .. | .eyePointDone .. | .laneClassRecognised .. | .regWr .. | .memRdRsp .. | .memWrAck ..
  | .requestTimeout .. | .leveeDetection .. | .housekeepingSlot .. => true
  | _ => false

/-- Every other command leaves the modes as they are. -/
theorem exec_dev {c : Instr} {s t : State} (h : movesDev c = false) (e : exec c s = .next t) : t.dev = s.dev := by
  cases c with
  | rstCtrlWarm value => exact ((execRstCtrlWarm_touch ..).next_same t e).dev (by decide)
  | clrNAssert => exact ((execClrNAssert_touch ..).next_same t e).dev (by decide)
  | clrNRelease => exact ((execClrNRelease_touch ..).next_same t e).dev (by decide)
  | fordCloseNRise => exact ((execFordCloseNRise_touch ..).next_same t e).dev (by decide)
  | trigInStuck input => exact ((execTrigInStuck_touch ..).next_same t e).dev (by decide)
  | relockStart => exact ((execRelockStart_touch ..).next_same t e).dev (by decide)
  | clockStepReached => exact ((execClockStepReached_touch ..).next_same t e).dev (by decide)
  | hwsyncPulse => exact ((execHwsyncPulse_touch ..).next_same t e).dev (by decide)
  | chainMasterPulse => exact ((execChainMasterPulse_touch ..).next_same t e).dev (by decide)
  | syncPulseMissing => exact ((execSyncPulseMissing_touch ..).next_same t e).dev (by decide)
  | unitQuiesced unit => exact ((execUnitQuiesced_touch ..).next_same t e).dev (by decide)
  | lpddrTrainingDone mib => exact ((execLpddrTrainingDone_touch ..).next_same t e).dev (by decide)
  | bootRateMeasured m => exact ((execBootRateMeasured_touch ..).next_same t e).dev (by decide)
  | bootRateTimeout => exact ((execBootRateTimeout_touch ..).next_same t e).dev (by decide)
  | bootTrainTimeout => exact ((execBootTrainTimeout_touch ..).next_same t e).dev (by decide)
  | bootRailReady => exact ((execBootRailReady_touch ..).next_same t e).dev (by decide)
  | bootRefValid => exact ((execBootRefValid_touch ..).next_same t e).dev (by decide)
  | bootRequestTimer => exact ((execBootRequestTimer_touch ..).next_same t e).dev (by decide)
  | bootSourceSilent => exact ((execBootSourceSilent_touch ..).next_same t e).dev (by decide)
  | bootReport => exact ((execBootReport_touch ..).next_same t e).dev (by decide)
  | bootRestart value => exact ((execBootRestart_touch ..).next_same t e).dev (by decide)
  | mspRead addr n late shifted extra => exact ((execMspRead_touch ..).next_same t e).dev (by decide)
  | mspReadSlow addr n late shifted extra => exact ((execMspReadSlow_touch ..).next_same t e).dev (by decide)
  | mspStream addr words partialWord => exact ((execMspStream_touch ..).next_same t e).dev (by decide)
  | mspReservedOpcode opcode addr => exact ((execMspReservedOpcode_touch ..).next_same t e).dev (by decide)
  | mspMasterStart value => exact ((execMspMasterStart_touch ..).next_same t e).dev (by decide)
  | mspMasterUnitEnd sdi => exact ((execMspMasterUnitEnd_touch ..).next_same t e).dev (by decide)
  | contention => exact ((execContention_touch ..).next_same t e).dev (by decide)
  | hwTimeLoRead path => exact ((execHwTimeLoRead_touch ..).next_same t e).dev (by decide)
  | mbDoorbellWrite n value => exact ((execMbDoorbellWrite_touch ..).next_same t e).dev (by decide)
  | mb0PathChange path => exact ((execMb0PathChange_touch ..).next_same t e).dev (by decide)
  | rspTailWrite n value => exact ((execRspTailWrite_touch ..).next_same t e).dev (by decide)
  | requestEntryWrite n entry word value => exact ((execRequestEntryWrite_touch ..).next_same t e).dev (by decide)
  | leveeAckWrite value => exact ((execLeveeAckWrite_touch ..).next_same t e).dev (by decide)
  | unknownOpcodeRequest mb => exact ((execUnknownOpcodeRequest_touch ..).next_same t e).dev (by decide)
  | opcIdentity mb => exact ((execOpcIdentity_touch ..).next_same t e).dev (by decide)
  | fordDrainDone => exact ((execFordDrainDone_touch ..).next_same t e).dev (by decide)
  | opcPdSet mb => exact ((execOpcPdSet_touch ..).next_same t e).dev (by decide)
  | opcPdQuery mb => exact ((execOpcPdQuery_touch ..).next_same t e).dev (by decide)
  | opcLedgerRead mb => exact ((execOpcLedgerRead_touch ..).next_same t e).dev (by decide)
  | opcLedgerRetire mb rem => exact ((execOpcLedgerRetire_touch ..).next_same t e).dev (by decide)
  | opcClockStatus mb => exact ((execOpcClockStatus_touch ..).next_same t e).dev (by decide)
  | opcClockLock mb => exact ((execOpcClockLock_touch ..).next_same t e).dev (by decide)
  | opcClockStep mb => exact ((execOpcClockStep_touch ..).next_same t e).dev (by decide)
  | opcSyncConfig mb => exact ((execOpcSyncConfig_touch ..).next_same t e).dev (by decide)
  | opcSyncMeasure mb => exact ((execOpcSyncMeasure_touch ..).next_same t e).dev (by decide)
  | opcSyncOffset mb => exact ((execOpcSyncOffset_touch ..).next_same t e).dev (by decide)
  | opcSyncEpoch mb => exact ((execOpcSyncEpoch_touch ..).next_same t e).dev (by decide)
  | opcTrigConfig mb => exact ((execOpcTrigConfig_touch ..).next_same t e).dev (by decide)
  | opcWmonConfig mb rem balls => exact ((execOpcWmonConfig_touch ..).next_same t e).dev (by decide)
  | opcTdcConfig mb => exact ((execOpcTdcConfig_touch ..).next_same t e).dev (by decide)
  | opcDpsConfig mb => exact ((execOpcDpsConfig_touch ..).next_same t e).dev (by decide)
  | opcSineConfig mb => exact ((execOpcSineConfig_touch ..).next_same t e).dev (by decide)
  | opcLaneConfig mb => exact ((execOpcLaneConfig_touch ..).next_same t e).dev (by decide)
  | opcCalConfig mb => exact ((execOpcCalConfig_touch ..).next_same t e).dev (by decide)
  | opcLevelsSet mb rem => exact ((execOpcLevelsSet_touch ..).next_same t e).dev (by decide)
  | opcLoadGroup mb => exact ((execOpcLoadGroup_touch ..).next_same t e).dev (by decide)
  | opcClearCode mb rem => exact ((execOpcClearCode_touch ..).next_same t e).dev (by decide)
  | opcTimingSet mb rem => exact ((execOpcTimingSet_touch ..).next_same t e).dev (by decide)
  | opcPinmodeSet mb rem => exact ((execOpcPinmodeSet_touch ..).next_same t e).dev (by decide)
  | opcTimingCommit mb => exact ((execOpcTimingCommit_touch ..).next_same t e).dev (by decide)
  | opcBackgroundSet mb => exact ((execOpcBackgroundSet_touch ..).next_same t e).dev (by decide)
  | opcScheduleLoad mb rem => exact ((execOpcScheduleLoad_touch ..).next_same t e).dev (by decide)
  | opcScheduleUnload mb => exact ((execOpcScheduleUnload_touch ..).next_same t e).dev (by decide)
  | opcScheduleStatus mb => exact ((execOpcScheduleStatus_touch ..).next_same t e).dev (by decide)
  | opcBurstJump mb => exact ((execOpcBurstJump_touch ..).next_same t e).dev (by decide)
  | opcLayerFree mb => exact ((execOpcLayerFree_touch ..).next_same t e).dev (by decide)
  | opcLayerStatus mb => exact ((execOpcLayerStatus_touch ..).next_same t e).dev (by decide)
  | opcUnitMaintain mb => exact ((execOpcUnitMaintain_touch ..).next_same t e).dev (by decide)
  | opcUnitRelease mb => exact ((execOpcUnitRelease_touch ..).next_same t e).dev (by decide)
  | opcUnitStatus mb => exact ((execOpcUnitStatus_touch ..).next_same t e).dev (by decide)
  | opcMseqLoad mb rem => exact ((execOpcMseqLoad_touch ..).next_same t e).dev (by decide)
  | opcFabricStatus mb => exact ((execOpcFabricStatus_touch ..).next_same t e).dev (by decide)
  | opcPortConfig mb => exact ((execOpcPortConfig_touch ..).next_same t e).dev (by decide)
  | opcPageHome mb => exact ((execOpcPageHome_touch ..).next_same t e).dev (by decide)
  | opcBootServe mb => exact ((execOpcBootServe_touch ..).next_same t e).dev (by decide)
  | bootServeSilence => exact ((execBootServeSilence_touch ..).next_same t e).dev (by decide)
  | opcEventRead mb => exact ((execOpcEventRead_touch ..).next_same t e).dev (by decide)
  | opcEventAck mb => exact ((execOpcEventAck_touch ..).next_same t e).dev (by decide)
  | opcFaultInject mb => exact ((execOpcFaultInject_touch ..).next_same t e).dev (by decide)
  | injectionEnd => exact ((execInjectionEnd_touch ..).next_same t e).dev (by decide)
  | opcServiceBegin mb rem => exact ((execOpcServiceBegin_touch ..).next_same t e).dev (by decide)
  | pinBodyAbandoned slot seg => exact ((execPinBodyAbandoned_touch ..).next_same t e).dev (by decide)
  | burstStart slot => exact ((execBurstStart_touch ..).next_same t e).dev (by decide)
  | segmentFetchIssue slot ord seg => exact ((execSegmentFetchIssue_touch ..).next_same t e).dev (by decide)
  | fetchResident slot key rem => exact ((execFetchResident_touch ..).next_same t e).dev (by decide)
  | streamingRoomFreed slot => exact ((execStreamingRoomFreed_touch ..).next_same t e).dev (by decide)
  | junctionSamplingPoint slot => exact ((execJunctionSamplingPoint_touch ..).next_same t e).dev (by decide)
  | underrun slot => exact ((execUnderrun_touch ..).next_same t e).dev (by decide)
  | stallEnd slot vectors => exact ((execStallEnd_touch ..).next_same t e).dev (by decide)
  | throttleHoldEnd slot vectors => exact ((execThrottleHoldEnd_touch ..).next_same t e).dev (by decide)
  | layerPageRelease peb layer page => exact ((execLayerPageRelease_touch ..).next_same t e).dev (by decide)
  | queueFlushTimeout q => exact ((execQueueFlushTimeout_touch ..).next_same t e).dev (by decide)
  | wmonTransition ch ball within20 => exact ((execWmonTransition_touch ..).next_same t e).dev (by decide)
  | wmonCoalesceEnd mon => exact ((execWmonCoalesceEnd_touch ..).next_same t e).dev (by decide)
  | wmonStuck ch => exact ((execWmonStuck_touch ..).next_same t e).dev (by decide)
  | seqGo seq => exact ((execSeqGo_touch ..).next_same t e).dev (by decide)
  | seqCall seq => exact ((execSeqCall_touch ..).next_same t e).dev (by decide)
  | seqWait seq => exact ((execSeqWait_touch ..).next_same t e).dev (by decide)
  | timerDone seq => exact ((execTimerDone_touch ..).next_same t e).dev (by decide)
  | rangeChangeDone dps n => exact ((execRangeChangeDone_touch ..).next_same t e).dev (by decide)
  | dmaBufferGranted ch => exact ((execDmaBufferGranted_touch ..).next_same t e).dev (by decide)
  | dmaReadResponse ch status rem => exact ((execDmaReadResponse_touch ..).next_same t e).dev (by decide)
  | dmaWriteResponse ch status => exact ((execDmaWriteResponse_touch ..).next_same t e).dev (by decide)
  | correctionSlewStep => exact ((execCorrectionSlewStep_touch ..).next_same t e).dev (by decide)
  | referenceFullAccuracy => exact ((execReferenceFullAccuracy_touch ..).next_same t e).dev (by decide)
  | currentManagerRefresh loads vps => exact ((execCurrentManagerRefresh_touch ..).next_same t e).dev (by decide)
  | dpsLimitChange n acts microvolts microamps => exact ((execDpsLimitChange_touch ..).next_same t e).dev (by decide)
  | dpsDropout n lost microvolts microamps => exact ((execDpsDropout_touch ..).next_same t e).dev (by decide)
  | portRetrain port => exact ((execPortRetrain_touch ..).next_same t e).dev (by decide)
  | portTrained port lanes full => exact ((execPortTrained_touch ..).next_same t e).dev (by decide)
  | portTrainRetry port => exact ((execPortTrainRetry_touch ..).next_same t e).dev (by decide)
  | portAckTimeout port => exact ((execPortAckTimeout_touch ..).next_same t e).dev (by decide)
  | linkSendTimer port => exact ((execLinkSendTimer_touch ..).next_same t e).dev (by decide)
  | link port pkt => exact ((execLink_touch ..).next_same t e).dev (by decide)
  | train port pkt => exact ((execTrain_touch ..).next_same t e).dev (by decide)
  | packetForward port pkt => exact ((execPacketForward_touch ..).next_same t e).dev (by decide)
  | regRd port pkt => exact ((execRegRd_touch ..).next_same t e).dev (by decide)
  | regRsp port pkt => exact ((execRegRsp_touch ..).next_same t e).dev (by decide)
  | mboxReq port pkt => exact ((execMboxReq_touch ..).next_same t e).dev (by decide)
  | mboxRsp port pkt => exact ((execMboxRsp_touch ..).next_same t e).dev (by decide)
  | mboxAck port pkt => exact ((execMboxAck_touch ..).next_same t e).dev (by decide)
  | mboxAckTimeout tag => exact ((execMboxAckTimeout_touch ..).next_same t e).dev (by decide)
  | memRd port pkt => exact ((execMemRd_touch ..).next_same t e).dev (by decide)
  | memWr port pkt => exact ((execMemWr_touch ..).next_same t e).dev (by decide)
  | timeXchg port pkt c2 c3 => exact ((execTimeXchg_touch ..).next_same t e).dev (by decide)
  | timeXchgRsp port pkt c4 => exact ((execTimeXchgRsp_touch ..).next_same t e).dev (by decide)
  | timeEpoch port pkt => exact ((execTimeEpoch_touch ..).next_same t e).dev (by decide)
  | bcastReq port pkt => exact ((execBcastReq_touch ..).next_same t e).dev (by decide)
  | bootReq port pkt rem => exact ((execBootReq_touch ..).next_same t e).dev (by decide)
  | bootOffer port pkt => exact ((execBootOffer_touch ..).next_same t e).dev (by decide)
  | bootData port pkt => exact ((execBootData_touch ..).next_same t e).dev (by decide)
  | bootDone port pkt => exact ((execBootDone_touch ..).next_same t e).dev (by decide)
  | reactionShadowClose index => exact ((execReactionShadowClose_touch ..).next_same t e).dev (by decide)
  | throttleWindowEnd => exact ((execThrottleWindowEnd_touch ..).next_same t e).dev (by decide)
  | vectorPlay slot seen => exact ((execVectorPlay_touch ..).next_same t e).dev (by decide)
  | delayLineLocked => exact ((execDelayLineLocked_touch ..).next_same t e).dev (by decide)
  | domainSwitchOpened pd => exact ((execDomainSwitchOpened_touch ..).next_same t e).dev (by decide)
  | sineUpdate => exact ((execSineUpdate_touch ..).next_same t e).dev (by decide)
  | _ => cases h

theorem idleTick_dev (s : State) : (idleTick s).dev = s.dev := (idleTick_touch s).dev (by decide)

/-- A command keeps what speaks of the modes alone, where it leaves them. -/
theorem KeepsOut.of_dev {I : State → Prop} {c : Instr} {s : State} (hI : ∀ u v : State, v.dev = u.dev → Keeps I u v)
    (h : movesDev c = false) : KeepsOut I s (exec c s) := ⟨fun _ e => hI _ _ (exec_dev h e)⟩

theorem SafeStill.of_dev {u v : State} (h : v.dev = u.dev) : Keeps SafeStill u v :=
  ⟨fun k => by unfold SafeStill; rw [h]; exact k⟩

theorem ModesOk.of_dev {u v : State} (h : v.dev = u.dev) : Keeps ModesOk u v :=
  ⟨fun k => by unfold ModesOk; rw [h]; exact k⟩

/-- In SAFE every command but a power-on reset and the release of a reset stays there (R60). -/
theorem exec_safe {c : Instr} {s : State} (h1 : c ≠ .powerOnReset) (h2 : ∀ n b, c ≠ .powerOnResetRelease n b)
    (h3 : c ≠ .warmResetRelease) :
    KeepsOut SafeStill s (exec c s) := by
  cases c with
  | powerOnReset => exact absurd rfl h1
  | powerOnResetRelease node src => exact absurd rfl (h2 node src)
  | warmReset => exact execWarmReset_safe ..
  | warmResetRelease => exact absurd rfl h3
  | fordCloseNFall => exact execFordCloseNFall_safe ..
  | trigInEdge input rising within20 => exact execTrigInEdge_safe ..
  | refLossDetected cause => exact execRefLossDetected_safe ..
  | adpllLockComplete => exact execAdpllLockComplete_safe ..
  | headwaterTimedFire slot => exact execHeadwaterTimedFire_safe ..
  | domainReady pd balls => exact execDomainReady_safe ..
  | bootDigestDone => exact execBootDigestDone_safe ..
  | watchdog which => exact execWatchdog_safe ..
  | mspWrite addr words cut extra => exact execMspWrite_safe ..
  | leveeCtrlWrite value => exact execLeveeCtrlWrite_safe ..
  | registerWrite addr value => exact execRegisterWrite_safe ..
  | regAccess dr => exact execRegAccess_safe ..
  | extest => exact execExtest_safe ..
  | samplePreload cells => exact execSamplePreload_safe ..
  | idcode => exact execIdcode_safe ..
  | clamp => exact execClamp_safe ..
  | highz => exact execHighz_safe ..
  | extestPulse => exact execExtestPulse_safe ..
  | extestTrain => exact execExtestTrain_safe ..
  | bypass => exact execBypass_safe ..
  | opcDeviceStart mb => exact execOpcDeviceStart_safe ..
  | opcArm mb => exact execOpcArm_safe ..
  | opcDisarm mb => exact execOpcDisarm_safe ..
  | opcPause mb => exact execOpcPause_safe ..
  | opcResume mb => exact execOpcResume_safe ..
  | opcBypassEnter mb => exact execOpcBypassEnter_safe ..
  | opcBypassExit mb => exact execOpcBypassExit_safe ..
  | opcDiagEnter mb => exact execOpcDiagEnter_safe ..
  | opcDiagExit mb => exact execOpcDiagExit_safe ..
  | selfTestEnd report => exact execSelfTestEnd_safe ..
  | opcNoticeConfig mb => exact execOpcNoticeConfig_safe ..
  | opcItemSubmit mb rem => exact execOpcItemSubmit_safe ..
  | opcItemAbort mb => exact execOpcItemAbort_safe ..
  | opcSiteMap mb rem => exact execOpcSiteMap_safe ..
  | scheduleDigestDone id rem => exact execScheduleDigestDone_safe ..
  | mseqDigestDone seq rem => exact execMseqDigestDone_safe ..
  | serviceImageChecked rem => exact execServiceImageChecked_safe ..
  | serviceBankChangeDone => exact execServiceBankChangeDone_safe ..
  | itemTimeLimit slot => exact execItemTimeLimit_safe ..
  | burstDispatch slot => exact execBurstDispatch_safe ..
  | burstSegmentBoundary slot => exact execBurstSegmentBoundary_safe ..
  | measureDispatch slot => exact execMeasureDispatch_safe ..
  | mseqRequestTaken seq => exact execMseqRequestTaken_safe ..
  | seqReturn seq => exact execSeqReturn_safe ..
  | seqEnd seq => exact execSeqEnd_safe ..
  | unwindDone seq => exact execUnwindDone_safe ..
  | conversionDone dadc conv input value endOfScale clamped gap => exact execConversionDone_safe ..
  | tdcDispatch slot => exact execTdcDispatch_safe ..
  | tdcEdge tdc stop sampled near => exact execTdcEdge_safe ..
  | acquireDispatch slot => exact execAcquireDispatch_safe ..
  | transferDispatch slot => exact execTransferDispatch_safe ..
  | dmaDescriptorFetched ch status rem => exact execDmaDescriptorFetched_safe ..
  | dmaWritebackAck ch status => exact execDmaWritebackAck_safe ..
  | dmaStopWaitEnd ch => exact execDmaStopWaitEnd_safe ..
  | calDispatch slot => exact execCalDispatch_safe ..
  | calClassDone result => exact execCalClassDone_safe ..
  | levelsDispatch slot => exact execLevelsDispatch_safe ..
  | dpsDispatch slot => exact execDpsDispatch_safe ..
  | dpsRampStep slot => exact execDpsRampStep_safe ..
  | dpsBudgetTimeout slot => exact execDpsBudgetTimeout_safe ..
  | dpsOverload => exact execDpsOverload_safe ..
  | dpsDisarmOutputDisable n => exact execDpsDisarmOutputDisable_safe ..
  | dpsDischargeDone n => exact execDpsDischargeDone_safe ..
  | laneDispatch slot => exact execLaneDispatch_safe ..
  | laneRxLock lane freqOffset => exact execLaneRxLock_safe ..
  | noLock lane => exact execNoLock_safe ..
  | lanePrbsSync lane inverted => exact execLanePrbsSync_safe ..
  | laneSyncDrop lane bits errors => exact execLaneSyncDrop_safe ..
  | noSync lane => exact execNoSync_safe ..
  | laneLockLoss lane => exact execLaneLockLoss_safe ..
  | laneBitsReached lane bits errors => exact execLaneBitsReached_safe ..
  | eyePointDone lane mismatches => exact execEyePointDone_safe ..
  | laneClassRecognised lane cls inverted => exact execLaneClassRecognised_safe ..
  | regWr port pkt => exact execRegWr_safe ..
  | memRdRsp port pkt => exact execMemRdRsp_safe ..
  | memWrAck port pkt => exact execMemWrAck_safe ..
  | requestTimeout tag => exact execRequestTimeout_safe ..
  | leveeDetection detector region detail uncorrectable reactionNs => exact execLeveeDetection_safe ..
  | housekeepingSlot reading faulty => exact execHousekeepingSlot_safe ..
  | _ => exact .of_dev (fun _ _ => SafeStill.of_dev) rfl

/-- Every command keeps the modes consistent. -/
theorem exec_modes (c : Instr) (s : State) : KeepsOut ModesOk s (exec c s) := by
  cases c with
  | powerOnReset => exact execPowerOnReset_modes ..
  | powerOnResetRelease node src => exact execPowerOnResetRelease_modes ..
  | warmReset => exact execWarmReset_modes ..
  | warmResetRelease => exact execWarmResetRelease_modes ..
  | fordCloseNFall => exact execFordCloseNFall_modes ..
  | trigInEdge input rising within20 => exact execTrigInEdge_modes ..
  | refLossDetected cause => exact execRefLossDetected_modes ..
  | adpllLockComplete => exact execAdpllLockComplete_modes ..
  | headwaterTimedFire slot => exact execHeadwaterTimedFire_modes ..
  | domainReady pd balls => exact execDomainReady_modes ..
  | bootDigestDone => exact execBootDigestDone_modes ..
  | watchdog which => exact execWatchdog_modes ..
  | mspWrite addr words cut extra => exact execMspWrite_modes ..
  | leveeCtrlWrite value => exact execLeveeCtrlWrite_modes ..
  | registerWrite addr value => exact execRegisterWrite_modes ..
  | regAccess dr => exact execRegAccess_modes ..
  | extest => exact execExtest_modes ..
  | samplePreload cells => exact execSamplePreload_modes ..
  | idcode => exact execIdcode_modes ..
  | clamp => exact execClamp_modes ..
  | highz => exact execHighz_modes ..
  | extestPulse => exact execExtestPulse_modes ..
  | extestTrain => exact execExtestTrain_modes ..
  | bypass => exact execBypass_modes ..
  | opcDeviceStart mb => exact execOpcDeviceStart_modes ..
  | opcArm mb => exact execOpcArm_modes ..
  | opcDisarm mb => exact execOpcDisarm_modes ..
  | opcPause mb => exact execOpcPause_modes ..
  | opcResume mb => exact execOpcResume_modes ..
  | opcBypassEnter mb => exact execOpcBypassEnter_modes ..
  | opcBypassExit mb => exact execOpcBypassExit_modes ..
  | opcDiagEnter mb => exact execOpcDiagEnter_modes ..
  | opcDiagExit mb => exact execOpcDiagExit_modes ..
  | selfTestEnd report => exact execSelfTestEnd_modes ..
  | opcNoticeConfig mb => exact execOpcNoticeConfig_modes ..
  | opcItemSubmit mb rem => exact execOpcItemSubmit_modes ..
  | opcItemAbort mb => exact execOpcItemAbort_modes ..
  | opcSiteMap mb rem => exact execOpcSiteMap_modes ..
  | scheduleDigestDone id rem => exact execScheduleDigestDone_modes ..
  | mseqDigestDone seq rem => exact execMseqDigestDone_modes ..
  | serviceImageChecked rem => exact execServiceImageChecked_modes ..
  | serviceBankChangeDone => exact execServiceBankChangeDone_modes ..
  | itemTimeLimit slot => exact execItemTimeLimit_modes ..
  | burstDispatch slot => exact execBurstDispatch_modes ..
  | burstSegmentBoundary slot => exact execBurstSegmentBoundary_modes ..
  | measureDispatch slot => exact execMeasureDispatch_modes ..
  | mseqRequestTaken seq => exact execMseqRequestTaken_modes ..
  | seqReturn seq => exact execSeqReturn_modes ..
  | seqEnd seq => exact execSeqEnd_modes ..
  | unwindDone seq => exact execUnwindDone_modes ..
  | conversionDone dadc conv input value endOfScale clamped gap => exact execConversionDone_modes ..
  | tdcDispatch slot => exact execTdcDispatch_modes ..
  | tdcEdge tdc stop sampled near => exact execTdcEdge_modes ..
  | acquireDispatch slot => exact execAcquireDispatch_modes ..
  | transferDispatch slot => exact execTransferDispatch_modes ..
  | dmaDescriptorFetched ch status rem => exact execDmaDescriptorFetched_modes ..
  | dmaWritebackAck ch status => exact execDmaWritebackAck_modes ..
  | dmaStopWaitEnd ch => exact execDmaStopWaitEnd_modes ..
  | calDispatch slot => exact execCalDispatch_modes ..
  | calClassDone result => exact execCalClassDone_modes ..
  | levelsDispatch slot => exact execLevelsDispatch_modes ..
  | dpsDispatch slot => exact execDpsDispatch_modes ..
  | dpsRampStep slot => exact execDpsRampStep_modes ..
  | dpsBudgetTimeout slot => exact execDpsBudgetTimeout_modes ..
  | dpsOverload => exact execDpsOverload_modes ..
  | dpsDisarmOutputDisable n => exact execDpsDisarmOutputDisable_modes ..
  | dpsDischargeDone n => exact execDpsDischargeDone_modes ..
  | laneDispatch slot => exact execLaneDispatch_modes ..
  | laneRxLock lane freqOffset => exact execLaneRxLock_modes ..
  | noLock lane => exact execNoLock_modes ..
  | lanePrbsSync lane inverted => exact execLanePrbsSync_modes ..
  | laneSyncDrop lane bits errors => exact execLaneSyncDrop_modes ..
  | noSync lane => exact execNoSync_modes ..
  | laneLockLoss lane => exact execLaneLockLoss_modes ..
  | laneBitsReached lane bits errors => exact execLaneBitsReached_modes ..
  | eyePointDone lane mismatches => exact execEyePointDone_modes ..
  | laneClassRecognised lane cls inverted => exact execLaneClassRecognised_modes ..
  | regWr port pkt => exact execRegWr_modes ..
  | memRdRsp port pkt => exact execMemRdRsp_modes ..
  | memWrAck port pkt => exact execMemWrAck_modes ..
  | requestTimeout tag => exact execRequestTimeout_modes ..
  | leveeDetection detector region detail uncorrectable reactionNs => exact execLeveeDetection_modes ..
  | housekeepingSlot reading faulty => exact execHousekeepingSlot_modes ..
  | _ => exact .of_dev (fun _ _ => ModesOk.of_dev) rfl

/-! What every run keeps. -/

/-- Settles O40: every command keeps SAFE by `exec_safe`, and a tick leaves the modes alone. -/
theorem safeIsLeftOnlyByReset : Obligations.SafeIsLeftOnlyByReset := by
  constructor
  · intro c s t hm hd e h1 h2 h3
    exact ((exec_safe h1 h2 h3).next_keeps t e).keeps ⟨hm, hd⟩
  · intro s t hp hm hd e
    obtain rfl : idleTick s = t := by simpa [step, hp] using e
    exact (SafeStill.of_dev (idleTick_dev s)).keeps ⟨hm, hd⟩

/-- A step keeps the modes consistent: the command at the front of the queue, or a tick. -/
theorem step_modes {s t : State} (e : step s = .next t) : Keeps ModesOk s t := by
  unfold step at e
  split at e
  · cases e; exact ModesOk.of_dev (idleTick_dev s)
  · next c rest _ => exact ((exec_modes c _).next_keeps t e).trans (ModesOk.of_dev rfl)

/-- Settles O41: `ModesOk` is the statement's property; the reset state is in BOOT, and every step keeps it. -/
theorem modesStayConsistent : Obligations.ModesStayConsistent :=
  ⟨⟨nofun, nofun⟩, fun _ _ h e => (step_modes e).keeps h⟩

end Sys2Proof.Machine
end

section
/-! PROOFS. Notices and changes of a port: what they leave of the other ports and of the link (R118, R310, R327). -/

namespace Sys2Proof.Machine

theorem placeNotice_carries (s : State) (n dest : Nat) (fabric : Bool) (m : Msg) :
    Carries s (placeNotice s n dest fabric m) := by
  unfold placeNotice
  split
  · exact modMb_carries ..
  · exact noticeNow_carries ..

theorem notice_carries (s : State) (n dest : Nat) (fabric : Bool) (op tag item len : Nat) (fields : List (Nat × Nat × Nat)) :
    Carries s (notice s n dest fabric op tag item len fields) :=
  Carries.ite (Carries.refl s) (Carries.ite (Carries.of_fabric rfl) (placeNotice_carries ..))

theorem deviceNotice_carries (s : State) (bit op len : Nat) (fields : List (Nat × Nat × Nat)) :
    Carries s (deviceNotice s bit op len fields) := by
  unfold deviceNotice
  exact Carries.ite (Carries.ite ((notice_carries ..).trans (Carries.of_fabric rfl)) (notice_carries ..)) (Carries.refl s)

theorem unitNotice_carries (s : State) (u : Nat) (old new : UState) : Carries s (unitNotice s u old new) :=
  Carries.ite (Carries.refl s) (deviceNotice_carries ..)

/-- A change of a port, its notice apart. -/
theorem changePort_carries (s : State) (p : Nat) (f : PortState → PortState) :
    Carries (modPort s p f) (changePort s p f) :=
  Carries.ite (c := (portOf s p).byHost = true) (Carries.refl _) (unitNotice_carries ..)

theorem changePort_portsWf (s : State) (p : Nat) (f : PortState → PortState) : Keeps PortsWf s (changePort s p f) :=
  (changePort_carries s p f).links.portsWf.trans (modPort_portsWf s p f)

theorem changePort_own {s : State} (w : PortsWf s) (p : Nat) (f : PortState → PortState) :
    link (portOf (changePort s p f) p) = link (f (portOf s p)) := by
  rw [(changePort_carries s p f).links.link ((modPort_portsWf s p f).keeps w), portOf_modPort_own w]

theorem changePort_other {s : State} (w : PortsWf s) {p q : Nat} (h : q ≠ p) (f : PortState → PortState) :
    link (portOf (changePort s p f) q) = link (portOf s q) := by
  rw [(changePort_carries s p f).links.link ((modPort_portsWf s p f).keeps w), portOf_modPort_other _ _ _ h]

/-- The state of a port is part of its link. -/
theorem st_of_link {q r : PortState} (h : link q = link r) : q.st = r.st := by
  show (link q).st = (link r).st
  rw [h]

/-- A fold whose every step does what it is to do at its own place, and undoes nothing at another. -/
theorem foldl_each {α : Type} {W : State → Prop} {I : α → State → Prop} {g : State → α → State}
    (hW : ∀ u x, Keeps W u (g u x)) (own : ∀ u x, W u → I x (g u x)) (keep : ∀ u x y, W u → I y u → I y (g u x))
    (l : List α) {s : State} (w : W s) : W (l.foldl g s) ∧ ∀ y, I y s ∨ y ∈ l → I y (l.foldl g s) := by
  induction l generalizing s with
  | nil => exact ⟨w, fun y h => h.resolve_right List.not_mem_nil⟩
  | cons x l ih =>
    obtain ⟨w', h'⟩ := ih ((hW s x).keeps w)
    refine ⟨w', fun y h => h' y ?_⟩
    rcases h with h | h
    · exact .inl (keep s x y w h)
    · rcases List.mem_cons.1 h with rfl | h
      · exact .inl (own s y w)
      · exact .inr h

/-! Ports in training. -/

/-- Every one of the four ports that is changed to train is in training. -/
theorem trainPorts_training {s : State} (w : PortsWf s) {p : Nat} (hp : p < 4) :
    (portOf ((List.range 4).foldl (fun s p => changePort s p trainPort) s) p).st = .training := by
  refine (foldl_each (W := PortsWf) (I := fun p s => (portOf s p).st = .training)
    (fun u x => changePort_portsWf ..) (fun u x wu => ?_) (fun u x y wu hy => ?_) (List.range 4) w).2 p
    (.inr (List.mem_range.2 hp))
  · exact st_of_link (changePort_own wu x trainPort)
  · by_cases e : y = x
    · subst e; exact st_of_link (changePort_own wu y trainPort)
    · exact (st_of_link (changePort_other wu e trainPort)).trans hy

theorem changeClock_portsWf {s : State} {f : State → State} (h : Keeps PortsWf s (f s)) :
    Keeps PortsWf s (changeClock s f) := by
  unfold changeClock
  dsimp only
  exact Keeps.ite h ((deviceNotice_carries ..).links.portsWf.trans (Keeps.ite h ⟨fun w => ⟨(h.keeps w).wf⟩⟩))

theorem openFordWith_portsWf (s : State) (f : PortState → PortState) : Keeps PortsWf s (openFordWith s f) := by
  unfold openFordWith
  dsimp only
  have hf : Keeps PortsWf s ((List.range 4).foldl (fun s p => changePort s p f)
      { s with power := { s.power with fordClosed := false, fordOpened := true } }) :=
    Keeps.foldl (PortsWf.of_ports rfl) fun u p => changePort_portsWf ..
  exact Keeps.ite (Keeps.ite ((changeClock_portsWf (PortsWf.of_ports rfl)).trans hf) hf) (Keeps.refl _ s)

theorem openFordWith_same {s : State} {f : PortState → PortState} (h : ¬ s.power.fordClosed = true) :
    openFordWith s f = s := if_neg h

theorem openFordWith_switches (s : State) (f : PortState → PortState) :
    ∃ a b, (openFordWith s f).power = { s.power with fordClosed := a, fordOpened := b } := by
  by_cases c : s.power.fordClosed = true
  · exact ⟨_, _, openFordWith_power s f c⟩
  · rw [openFordWith_same c]; exact ⟨_, _, rfl⟩

/-! What opening the Ford leaves of the clock. -/

/-- HWREF is valid or not, as b says. -/
def RefOkIs (b : Bool) (s : State) : Prop := s.clock.refOk = b

theorem RefOkIs.of_touch {b : Bool} {ps : List Part} {s t : State} (k : Touch ps s t) (h : Part.clock ∉ ps) :
    Keeps (RefOkIs b) s t := ⟨fun e => by unfold RefOkIs; rw [k.clock h]; exact e⟩

theorem openFordWith_refOk (b : Bool) (s : State) (f : PortState → PortState) :
    Keeps (RefOkIs b) s (openFordWith s f) := by
  have hf : Keeps (RefOkIs b) s ((List.range 4).foldl (fun s p => changePort s p f)
      { s with power := { s.power with fordClosed := false, fordOpened := true } }) :=
    Keeps.foldl ⟨id⟩ fun u p => RefOkIs.of_touch (changePort_touch ..) (by decide)
  unfold openFordWith
  dsimp only
  refine Keeps.ite (Keeps.ite ⟨fun e => ?_⟩ hf) (Keeps.refl _ s)
  unfold RefOkIs
  rw [changeClock_clock]
  exact hf.keeps e

end Sys2Proof.Machine
end

section
/-! PROOFS. The stages of a Trellis boot (R67, R70, R71, R328). -/

namespace Sys2Proof.Machine

/-! The stages. -/

theorem bootTrain_eq (s : State) : bootTrain s = (List.range 4).foldl (fun s p => changePort s p trainPort)
    { s with boot := { s.boot with wait := .train } } := rfl

theorem trainPorts_touch (s : State) :
    Touch [.mbs, .fabric, .svc, .free] s ((List.range 4).foldl (fun s p => changePort s p trainPort) s) :=
  Touch.foldl (Touch.refl _ _) fun _ _ => (changePort_touch ..).mono (by decide)

theorem bootTrain_boot (s : State) : (bootTrain s).boot = { s.boot with wait := .train } :=
  (trainPorts_touch _).boot (by decide)

theorem bootTrain_clock (s : State) : (bootTrain s).clock = s.clock := (bootTrain_touch s).clock (by decide)

theorem bootTrain_training {s : State} (w : TabWf {} s.fabric.ports) {p : Nat} (hp : p < 4) :
    (portOf (bootTrain s) p).st = .training :=
  trainPorts_training (s := { s with boot := { s.boot with wait := .train } }) ⟨w⟩ hp

/-- A port that trains goes down as the rate is measured. -/
def stopTraining (s : State) (p : Nat) : State :=
  if (portOf s p).st = .training then changePort s p fun q => { q with st := .down, lanes := 0, full := false } else s

/-- The Ford open for the measurement. -/
def measureOpen (s : State) : State :=
  openFordWith { s with boot := { s.boot with wait := .measure } } fun q => { q with st := .down }

theorem bootMeasure_eq (s : State) : bootMeasure s = (List.range 4).foldl stopTraining (measureOpen s) := rfl

theorem stopTraining_touch (s : State) (p : Nat) : Touch [.mbs, .fabric, .svc, .free] s (stopTraining s p) :=
  Touch.ite (changePort_touch ..) (Touch.refl _ _)

theorem stopsTraining_touch (ps : List Nat) (s : State) :
    Touch [.mbs, .fabric, .svc, .free] s (ps.foldl stopTraining s) :=
  Touch.foldl (Touch.refl _ _) stopTraining_touch

theorem bootMeasure_boot (s : State) : (bootMeasure s).boot = { s.boot with wait := .measure } := by
  rw [bootMeasure_eq, (stopsTraining_touch ..).boot (by decide)]
  exact (openFordWith_touch ..).boot (by decide)

theorem bootMeasure_power (s : State) :
    ∃ a b, (bootMeasure s).power = { s.power with fordClosed := a, fordOpened := b } := by
  rw [bootMeasure_eq, (stopsTraining_touch ..).power (by decide)]
  exact openFordWith_switches { s with boot := { s.boot with wait := .measure } } _

theorem bootMeasure_refOk (s : State) : (bootMeasure s).clock.refOk = s.clock.refOk := by
  rw [bootMeasure_eq, (stopsTraining_touch ..).clock (by decide)]
  exact (openFordWith_refOk s.clock.refOk _ _).keeps rfl

theorem bootMeasure_quiet {s : State} (w : TabWf {} s.fabric.ports) {p : Nat} (hp : p < 4) :
    (portOf (bootMeasure s) p).st ≠ .training := by
  have w' : PortsWf (measureOpen s) := (openFordWith_portsWf _ _).keeps ⟨w⟩
  rw [bootMeasure_eq]
  have own : ∀ u x, PortsWf u → (portOf (stopTraining u x) x).st ≠ .training := fun u x wu => by
    unfold stopTraining
    split
    · rw [st_of_link (changePort_own wu x _)]; nofun
    · assumption
  refine (foldl_each (W := PortsWf) (I := fun p s => (portOf s p).st ≠ .training)
    (fun u x => ?_) own (fun u x y wu hy => ?_) (List.range 4) w').2 p (.inr (List.mem_range.2 hp))
  · exact Keeps.ite (changePort_portsWf ..) (Keeps.refl _ u)
  · by_cases e : y = x
    · subst e; exact own u y wu
    · unfold stopTraining
      split
      · rw [st_of_link (changePort_other wu e _)]; exact hy
      · exact hy

/-- The step before the measurement: it waits for FORD_CLOSE_N, or measures. -/
theorem bootFord_wait (s : State) :
    (bootFord s).boot.wait = if s.power.fordPinLow then .ford else .measure := by
  unfold bootFord
  split
  · rfl
  · rw [bootMeasure_boot]

theorem bootFord_power (s : State) :
    ∃ a b, (bootFord s).power = { s.power with fordClosed := a, fordOpened := b } := by
  unfold bootFord
  split
  · exact ⟨_, _, rfl⟩
  · exact bootMeasure_power s

theorem bootFord_refOk (s : State) : (bootFord s).clock.refOk = s.clock.refOk := by
  unfold bootFord
  split
  · rfl
  · exact bootMeasure_refOk s

theorem bootRails_refOk (s : State) : (bootRails s).clock.refOk = s.clock.refOk := by
  unfold bootRails
  dsimp only
  split
  · split
    · exact bootFord_refOk _
    · rw [(orderSwitches_touch ..).clock (by decide)]
  · rfl

/-- With both lane rails there, the boot goes on to PD4, or, PD4 being on, past it. -/
theorem bootRails_ready {s : State} (h9 : s.power.rails.getLsbD 9 = true) (h10 : s.power.rails.getLsbD 10 = true) :
    (bootRails s).power.rails = s.power.rails ∧ (bootRails s).boot.wait ≠ .rail := by
  unfold bootRails
  dsimp only
  rw [if_pos ⟨h9, h10⟩]
  split
  · obtain ⟨a, b, e⟩ := bootFord_power { s with boot := { s.boot with wait := .pd4 } }
    rw [e, bootFord_wait]
    exact ⟨rfl, by split <;> nofun⟩
  · refine ⟨(orderSwitches_rails s.power.rails _ _ _).keeps rfl, ?_⟩
    rw [(orderSwitches_touch ..).boot (by decide)]
    nofun

theorem bootLock_refOk (s : State) : (bootLock s).clock.refOk = s.clock.refOk := by
  unfold bootLock
  rw [startLock_clock, (orderSwitches_touch ..).clock (by decide)]

/-- From whatever step the boot goes on, HWREF stays as it is. -/
theorem bootResume_refOk (s : State) : (bootResume s).clock.refOk = s.clock.refOk := by
  unfold bootResume
  split
  · exact bootLock_refOk s
  · exact bootRails_refOk s
  · split
    · exact bootFord_refOk s
    · rfl
  · exact bootFord_refOk s
  · rfl

theorem bootResume_ref {s : State} (h : s.boot.wait = .ref) : bootResume s = bootLock s := by
  unfold bootResume; rw [h]

theorem bootResume_ford {s : State} (h : s.boot.wait = .ford) : bootResume s = bootFord s := by
  unfold bootResume; rw [h]

/-- Where the boot waits for no condition, there is nothing to go on with. -/
theorem bootResume_same {s : State}
    (h : s.boot.wait = .lock ∨ s.boot.wait = .measure ∨ s.boot.wait = .train ∨ s.boot.wait = .request) :
    bootResume s = s := by
  unfold bootResume
  rcases h with h | h | h | h <;> rw [h]

/-! The events. -/

/-- HWREF is valid again. -/
def refFound (s : State) : State := { s with clock := { s.clock with refOk := true } }

/-- The boot request that a port that is up takes (R328). -/
def bootRequest (s : State) (p : Nat) : State :=
  holdFor s p 8 (mkPacket s 0x50 (portOf s p).nbAddr.toNat 0 (3 + 256 * s.boot.attempts.toNat) 0 0 [])

section

variable {s : State} (hm : s.dev.mode = .boot) (hr : inReset s = false)
include hm hr

theorem bootRefValid_completes (h1 : s.boot.wait ≠ .none) (h2 : s.boot.wait ≠ .strap) (he : s.boot.error = 0x06#8) :
    Completes .bootRefValid s [.power, .units, .clock, .hw, .boot, .mbs, .fabric, .svc, .free] fun t =>
      t.clock.refOk = true
      ∧ (s.boot.wait = .ref → t.boot.wait = .lock ∧ t.clock.relocking = true ∧ t.clock.lockTarget = 0x5000000#28)
      ∧ (s.boot.wait = .ford → t.boot.wait = if s.power.fordPinLow then .ford else .measure)
      ∧ (s.boot.wait = .lock ∨ s.boot.wait = .measure ∨ s.boot.wait = .train ∨ s.boot.wait = .request →
        t.boot = s.boot) := by
  have e : exec .bootRefValid s = .next (bootResume (refFound s)) := if_pos ⟨hm, h1, h2, he, by simp [hr]⟩
  refine Completes.of_next e ⟨bootResume_refOk _, fun h => ?_, fun h => ?_, fun h => ?_⟩ (execBootRefValid_touch s)
  · rw [bootResume_ref (s := refFound s) h]; exact bootLock_begins _
  · rw [bootResume_ford (s := refFound s) h]; exact bootFord_wait _
  · rw [bootResume_same (s := refFound s) h]; rfl

theorem bootRailReady_completes (hw : s.boot.wait = .rail) (hf : s.clock.refOk = true) :
    Completes .bootRailReady s [.power, .units, .clock, .hw, .boot, .mbs, .fabric, .svc, .free] fun t =>
      t.power.rails.getLsbD 9 = true ∧ t.power.rails.getLsbD 10 = true ∧ t.boot.wait ≠ .rail := by
  have h9 : (putBit (putBit s.power.rails 9 true) 10 true).getLsbD 9 = true := by simp [putBit]
  have h10 : (putBit (putBit s.power.rails 9 true) 10 true).getLsbD 10 = true := by simp [putBit]
  obtain ⟨hp, hn⟩ := bootRails_ready
    (s := { s with power := { s.power with rails := putBit (putBit s.power.rails 9 true) 10 true } }) h9 h10
  refine Completes.of_next (if_pos ⟨hm, hw, hf, by simp [hr]⟩) ⟨?_, ?_, hn⟩ (execBootRailReady_touch s)
  · rw [hp]; exact h9
  · rw [hp]; exact h10

theorem bootRateMeasured_next {m : BitVec 28} (hw : s.boot.wait = .measure) (hf : s.clock.refOk = true)
    (hl : mLegal m.toNat = true) : exec (.bootRateMeasured m) s = if withinStep s.clock.mLock.toNat m.toNat = true
      then .next (bootTrain s) else .next (startLock { s with boot := { s.boot with wait := .train } } m) :=
  if_pos ⟨hm, hw, hf, by simp [hr], hl⟩

theorem bootRateMeasured_completes {m : BitVec 28} (hw : s.boot.wait = .measure) (hf : s.clock.refOk = true)
    (hl : mLegal m.toNat = true) :
    Completes (.bootRateMeasured m) s [.clock, .hw, .boot, .mbs, .fabric, .svc, .free] fun t =>
      t.boot = { s.boot with wait := .train }
      ∧ (withinStep s.clock.mLock.toNat m.toNat = true → TabWf {} s.fabric.ports →
        t.clock = s.clock ∧ ∀ p, p < 4 → (portOf t p).st = .training)
      ∧ (withinStep s.clock.mLock.toNat m.toNat = false → t.clock.relocking = true ∧ t.clock.lockTarget = m) := by
  have e := bootRateMeasured_next hm hr hw hf hl
  cases hc : withinStep s.clock.mLock.toNat m.toNat with
  | true =>
    rw [hc, if_pos rfl] at e
    exact Completes.of_next e
      ⟨bootTrain_boot s, fun _ w => ⟨bootTrain_clock s, fun p hp => bootTrain_training w hp⟩, nofun⟩
      (execBootRateMeasured_touch m s)
  | false =>
    rw [hc, if_neg nofun] at e
    refine Completes.of_next e ⟨(startLock_touch ..).boot (by decide), nofun, fun _ => ?_⟩ (execBootRateMeasured_touch m s)
    rw [startLock_clock]
    exact ⟨rfl, rfl⟩

/-- A boot request stands at every port that is up. -/
theorem bootRequestTimer_completes (hw : s.boot.wait = .request) (hp : s.boot.phase = .waiting ∨ s.boot.phase = .failed)
    (w : TabWf {} s.fabric.ports) : Completes .bootRequestTimer s [.fabric] fun t => ∀ p, p < 4 →
      portUp (portOf s p) = true → (∃ e, e ∈ (portOf t p).waiting ∧ e.2.cls = 0x50#8)
        ∨ ∃ r, r ∈ (portOf t p).replay ∧ r.2.2.cls = 0x50#8 := by
  have hf : Trellis.Leaves fun k => k.cls = 0x50#8 := fun _ _ ha hk => ha.1.trans hk
  have e : exec .bootRequestTimer s = .next (((List.range 4).filter fun p => portUp (portOf s p)).foldl bootRequest s) :=
    if_pos ⟨hm, hw, hp, by simp [hr]⟩
  refine Completes.of_next e (fun p hp hu => ?_) (execBootRequestTimer_touch s)
  have hs := (foldl_each (W := PortsWf) (I := fun p => Trellis.PortsStand p 8 fun k => k.cls = 0x50#8) (g := bootRequest)
    (fun u x => (holdFor_carries ..).links.portsWf) (fun u x wu => Trellis.holdFor_stands_own hf wu rfl)
    (fun u x y _ => (Trellis.holdFor_stands hf ..).keeps)
    ((List.range 4).filter fun p => portUp (portOf s p)) ⟨w⟩).2 p
    (.inr (List.mem_filter.2 ⟨List.mem_range.2 hp, hu⟩))
  rcases hs.stands with ⟨k, hk, hc⟩ | ⟨r, hk, -, hc⟩
  · exact .inl ⟨_, hk, hc⟩
  · exact .inr ⟨r, hk, hc⟩

end

/-- Settles O14: each event by its guard and the stage it goes on to. -/
theorem trellisBootGoesOn : Obligations.TrellisBootGoesOn := by
  intro s hm hr
  refine ⟨bootRefValid_completes hm hr, bootRailReady_completes hm hr, fun h => ?_,
    fun m => bootRateMeasured_completes hm hr, fun hw hf w => ?_, fun _ h => ⟨fun m => ?_, ?_⟩,
    fun hw hl w => ?_, fun _ h => ?_, bootRequestTimer_completes hm hr, fun hp hs => ?_, fun v hv => ?_⟩
  · exact if_neg (by simp [h])
  · exact Completes.of_next (if_pos ⟨hm, hw, hf, by simp [hr]⟩)
      ⟨bootTrain_boot s, bootTrain_clock s, fun p hp => bootTrain_training w hp⟩ (execBootRateTimeout_touch s)
  · exact if_neg (by simp [h])
  · exact if_neg (by simp [h])
  · exact Completes.of_next (if_pos ⟨hm, hw, hl, by simp [hr]⟩)
      ⟨bootMeasure_boot s, fun p hp => bootMeasure_quiet w hp⟩ (execBootTrainTimeout_touch s)
  · exact if_neg (by simp [h])
  · exact Completes.of_next (if_pos ⟨hm, hp, hs⟩) ⟨rfl, rfl, rfl, rfl⟩ (execBootSourceSilent_touch s)
  · have e : exec (.bootRestart v) s = .next { s with boot := dropDownload s.boot } := by
      show execBootRestart v s = _
      unfold execBootRestart writeBootCtrl
      rw [if_neg (by simp [hr]), if_pos ⟨hv, hm⟩]
    exact Completes.of_next e ⟨rfl, rfl, rfl, rfl⟩ (execBootRestart_touch v s)

end Sys2Proof.Machine
end

section
/-! PROOFS. The end of a boot: the digest, the start of the Cellar and Spabry's report (R69, R72 to R74, R95). -/

namespace Sys2Proof.Machine

/-! The digest (R69, R72). -/

theorem bootDigestDone_next {s : State} (hm : s.dev.mode = .boot) (hp : s.boot.phase = .verifying) (hr : inReset s = false) :
    exec .bootDigestDone s = if digestOk (bootBytes s (imageLen s)) = true then .next (startCellar s)
      else .next (bootFails s 5) := if_pos ⟨hm, hp, by simp [hr]⟩

/-- A failed check: the answer to the source leaves the boot's own fields alone. -/
theorem bootFails_boot (s : State) (code : Nat) : (bootFails s code).boot = { dropDownload s.boot with
    phase := .failed, error := BitVec.ofNat 8 code
    attempts := if s.boot.attempts = BitVec.allOnes 8 then s.boot.attempts else s.boot.attempts + 1 } := by
  unfold bootFails
  dsimp only
  split
  · rw [(sendBootDone_touch ..).boot (by decide)]
  · rfl

/-! The start of the Cellar (R73). -/

/-- The Cellar started, FORD_CLOSE_N not yet looked at. -/
def cellarStarted (s : State) : State :=
  let u := match s.boot.source with
    | some d => sendBootDone s d.toNat 0
    | none => s
  setMode { u with
    boot := { u.boot with
      phase := .started, bank0 := (bootBytes s (imageLen s)).drop 128, bank1 := [], bank := 0
      version := BitVec.ofNat 32 (bytesAt (bootBytes s (imageLen s)) 12 4), running := true, reported := false, img := []
      got := 0, covered := [], wait := .none }
    levee := { u.levee with dogBoot := true } } .loaded

theorem cellarStarted_power (s : State) : (cellarStarted s).power = s.power := by
  unfold cellarStarted
  rw [setMode_power]
  dsimp only
  split
  · exact (sendBootDone_touch ..).power (by decide)
  · rfl

/-- With FORD_CLOSE_N high the device stays in LOADED. -/
theorem startCellar_high {s : State} (h : s.power.fordPinLow = false) : startCellar s = cellarStarted s :=
  if_neg (c := (cellarStarted s).power.fordPinLow = true) (by rw [cellarStarted_power, h]; nofun)

theorem cellarStarted_runs (s : State) :
    (cellarStarted s).boot.running = true ∧ (cellarStarted s).boot.reported = false
      ∧ (cellarStarted s).dev.mode = .loaded ∧ (cellarStarted s).boot.phase = .started
      ∧ (cellarStarted s).levee.dogBoot = true
      ∧ (cellarStarted s).boot.bank0 = (bootBytes s (imageLen s)).drop 128 := by
  unfold cellarStarted
  rw [(setMode_touch ..).boot (by decide), (setMode_touch ..).levee (by decide)]
  exact ⟨rfl, rfl, setMode_mode _ _, rfl, rfl, rfl⟩

/-! The ledger's sweep (R74, R95). -/

theorem slotsInOrder_perm (s : State) (p : Slot → Bool) : (slotsInOrder s p).Perm (slotsWhere s p) :=
  (List.mergeSort_perm _ _).map Prod.fst

/-- Spabry's own items that are terminal are retired, and no other. -/
theorem slotOf_retireOwn {s : State} (hw : TabWf {} s.ledger) (i : Nat) : slotOf (retireOwn s) i =
    if ((slotOf s i).own && terminal (slotOf s i)) = true then { gen := ! (slotOf s i).gen } else slotOf s i := by
  have hp := slotsInOrder_perm s fun l => l.own && terminal l
  have hn : (slotsInOrder s fun l => l.own && terminal l).Nodup := hp.nodup_iff.2 (tkeys_nodup hw _)
  have hm : i ∈ slotsInOrder s (fun l => l.own && terminal l) ↔ ((slotOf s i).own && terminal (slotOf s i)) = true :=
    hp.mem_iff.trans (mem_tkeys hw (fun _ l => l.own && terminal l) i rfl)
  have hl : (retireOwn s).ledger = tmods {} s.ledger (slotsInOrder s fun l => l.own && terminal l)
      fun _ l => ({ gen := ! l.gen } : Slot) := foldl_modSlot_ledger _ _ _
  unfold slotOf at *
  rw [hl, tget_tmods_nodup {} (fun _ l => ({ gen := ! l.gen } : Slot)) _ _ hw hn]
  exact if_congr hm rfl rfl

theorem sweepSlot_again (t : Count) (l : Slot) : sweepSlot t (sweepSlot t l) = sweepSlot t l := by
  unfold sweepSlot
  cases l.afar with
  | true => simp [BitVec.or_assoc]
  | false => simp

/-- The ledger after the sweep. -/
def swept (s : State) : State :=
  (slotsWhere s openSlot).foldl (fun u i => modSlot u i (sweepSlot (stamp s))) s

theorem swept_wf {s : State} (hw : TabWf {} s.ledger) : TabWf {} (swept s).ledger := by
  unfold swept
  rw [foldl_modSlot_ledger]
  exact tmods_wf hw _ _

theorem slotOf_swept {s : State} (hw : TabWf {} s.ledger) {i : Nat} (h : openSlot (slotOf s i) = true) :
    slotOf (swept s) i = sweepSlot (stamp s) (slotOf s i) :=
  (slotOf_foldl_modSlot hw openSlot rfl (sweepSlot (stamp s)) (sweepSlot_again _) i).trans (if_pos h)

theorem swept_touch (s : State) : Touch [.ledger] s (swept s) :=
  Touch.foldl (Touch.refl _ _) fun _ _ => modSlot_touch ..

/-- What the report leaves before Spabry's own items are retired: the ledger swept, the boot and the watchdogs changed, and
the report's notice at MB0. -/
structure Reported (s t : State) : Prop where
  ledger : t.ledger = (swept s).ledger
  dev : t.dev = s.dev
  reported : t.boot.reported = true
  dogBoot : t.levee.dogBoot = false
  dogRun : t.levee.dogRun = true

theorem bootReport_next {s : State} (hr : s.boot.running = true) (hn : s.boot.reported = false)
    (hm : s.dev.mode = .loaded ∨ s.dev.mode = .bypass) :
    ∃ t, exec .bootReport s = .next (retireOwn t) ∧ Reported s t := by
  refine ⟨_, if_pos ⟨hr, by simp [hn], hm⟩, ?_⟩
  have k := swept_touch s
  constructor
  · exact (noticeNow_touch ..).ledger (by decide)
  · exact ((noticeNow_touch ..).dev (by decide)).trans k.dev
  · exact congrArg Boot.reported ((noticeNow_touch ..).boot (by decide))
  · exact congrArg Levee.dogBoot ((noticeNow_touch ..).levee (by decide))
  · exact congrArg Levee.dogRun ((noticeNow_touch ..).levee (by decide))

/-- An item that the report sweeps: a host's is FAILED:RESET, one of Spabry's own is retired. -/
theorem Reported.slot {s t : State} (h : Reported s t) (hw : TabWf {} s.ledger) {i : Nat}
    (ho : openSlot (slotOf s i) = true) :
    slotOf (retireOwn t) i = if (slotOf s i).own = true then { gen := ! (slotOf s i).gen }
      else sweepSlot (stamp s) (slotOf s i) := by
  rw [slotOf_retireOwn (by rw [h.ledger]; exact swept_wf hw), slotOf_ledger h.ledger, slotOf_swept hw ho]
  have ht : terminal (sweepSlot (stamp s) (slotOf s i)) = true := rfl
  rw [ht, Bool.and_true]
  rfl

/-- Settles O15: the digest by its two outcomes, the Cellar's start by `cellarStarted`, the report by `Reported`. -/
theorem imageStartsOrFails : Obligations.ImageStartsOrFails := by
  refine ⟨fun s hm hp hr => ⟨fun hd => ?_, fun hd => ?_⟩, fun s h => ?_, fun s hr hn hm => ?_⟩
  · rw [bootDigestDone_next hm hp hr, if_pos hd]
  · have e : exec .bootDigestDone s = .next (bootFails s 5) := by
      rw [bootDigestDone_next hm hp hr, if_neg (by rw [hd]; nofun)]
    refine ⟨_, e, ?_, bootFails_touch s 5⟩
    dsimp only
    rw [bootFails_boot]
    exact ⟨rfl, rfl, rfl, rfl, rfl⟩
  · refine ⟨startCellar_touch s, ?_⟩
    rw [startCellar_high h]
    exact cellarStarted_runs s
  · obtain ⟨t, e, k⟩ := bootReport_next hr hn hm
    have q := retireOwn_touch t
    refine Completes.of_next e ⟨?_, ?_, ?_, ?_, fun hw i ho => ?_⟩ (execBootReport_touch s)
    · rw [q.boot (by decide)]; exact k.reported
    · rw [q.levee (by decide)]; exact k.dogBoot
    · rw [q.levee (by decide)]; exact k.dogRun
    · rw [q.dev (by decide), k.dev]
    · rw [k.slot hw ho]
      refine ⟨fun hf => ?_, fun ht => ?_⟩
      · rw [if_neg (by rw [hf]; nofun)]; exact ⟨rfl, rfl, rfl⟩
      · rw [if_pos ht]

end Sys2Proof.Machine
end

section
/-! PROOFS. What LOADED takes (R75), and the item of an accepted submission (R66, R92, R108). -/

namespace Sys2Proof.Machine

/-! Requests in LOADED. -/

/-- Every request command is served with its own opcode, mailbox and memory. -/
theorem exec_request {c : Instr} {op n : Nat} {rem : Remote} (h : requestOf c = some (op, n, rem)) (s : State) :
    ∃ resv own run, exec c s = serve op n rem s resv own run := by
  unfold requestOf at h
  split at h
  all_goals cases h
  all_goals dsimp only [exec, serveNext, execOpcIdentity, execOpcDeviceStart, execOpcArm, execOpcDisarm,
    execOpcPause, execOpcResume, execOpcBypassEnter, execOpcBypassExit, execOpcDiagEnter, execOpcDiagExit,
    execOpcPdSet, execOpcPdQuery, execOpcNoticeConfig, execOpcItemSubmit, execOpcItemAbort, execOpcLedgerRead,
    execOpcLedgerRetire, execOpcClockStatus, execOpcClockLock, execOpcClockStep, execOpcSyncConfig,
    execOpcSyncMeasure, execOpcSyncOffset, execOpcSyncEpoch, execOpcSiteMap, execOpcTrigConfig,
    execOpcWmonConfig, execOpcTdcConfig, execOpcDpsConfig, execOpcSineConfig, execOpcLaneConfig,
    execOpcCalConfig, execOpcLevelsSet, execOpcLoadGroup, execOpcClearCode, execOpcTimingSet, execOpcPinmodeSet,
    execOpcTimingCommit, execOpcBackgroundSet, execOpcScheduleLoad, execOpcScheduleUnload,
    execOpcScheduleStatus, execOpcBurstJump, execOpcLayerFree, execOpcLayerStatus, execOpcUnitMaintain,
    execOpcUnitRelease, execOpcUnitStatus, execOpcMseqLoad, execOpcFabricStatus, execOpcPortConfig,
    execOpcPageHome, execOpcBootServe, execOpcEventRead, execOpcEventAck, execOpcFaultInject,
    execOpcServiceBegin]
  all_goals exact ⟨_, _, _, rfl⟩

/-- Every early check refuses with a STATUS of 0x10 or more (Table 6.3). -/
theorem earlyChecks_status {s : State} {n : Nat} {rem : Remote} {m : Msg} {e : Nat × Nat}
    (h : firstFail (earlyChecks s n rem m) = some e) : 0x10 ≤ e.1 := by
  have hs : ∀ c ∈ earlyChecks s n rem m, 0x10 ≤ c.2.1 := by simp [earlyChecks]
  obtain ⟨c, hc, rfl⟩ := Option.map_eq_some_iff.1 h
  exact hs c (List.mem_of_find?_eq_some hc)

/-- A request in a mode outside its opcode's set fails an early check. -/
theorem earlyChecks_mode {s : State} {n : Nat} {rem : Remote} {m : Msg}
    (h : ((modesOf (Msg.field m 0 2)).getD []).contains s.dev.mode = false) :
    ∃ e, firstFail (earlyChecks s n rem m) = some e := by
  cases he : firstFail (earlyChecks s n rem m) with
  | some e => exact ⟨e, rfl⟩
  | none => rw [early_mode he] at h; cases h

/-- The opcodes that LOADED takes (R75). -/
def loadedTakes : List Nat := [0x0001, 0x0002, 0x0007, 0x000C, 0x0103, 0x0104, 0x0201]

theorem modesOf_mem {op : Nat} {ms : List Mode} (h : modesOf op = some ms) : (op, ms) ∈ commandModes := by
  obtain ⟨e, he, rfl⟩ := Option.map_eq_some_iff.1 h
  have ho : e.1 = op := by simpa using List.find?_some he
  rw [← ho]
  exact List.mem_of_find?_eq_some he

theorem loaded_refuses {op : Nat} (h : op ∉ loadedTakes) : ((modesOf op).getD []).contains .loaded = false := by
  have hc : ∀ e ∈ commandModes, e.1 ∉ loadedTakes → e.2.contains .loaded = false := by decide
  cases hm : modesOf op with
  | none => rfl
  | some ms => exact hc _ (modesOf_mem hm) h

theorem taken_touch {op n : Nat} {s u : State} {m : Msg} (h : Taken op n s m u) :
    Touch [.mbs, .rr, .fabric, .free] s u := Touch.snd h.2.2 (takeFront_touch s n)

theorem taken_op {op n : Nat} {s u : State} {m : Msg} (h : Taken op n s m u) : Msg.field m 0 2 = op :=
  (takeFront_op h.2.2).trans h.2.1

theorem taken_refuse_dev {op n : Nat} {s u : State} {m : Msg} (h : Taken op n s m u) (e : Nat × Nat) :
    (refuse u n m e).dev = s.dev := ((refuse_touch u n m e).dev (by decide)).trans ((taken_touch h).dev (by decide))

/-- Settles O29: an opcode that LOADED does not take fails the mode check, and an unknown one is refused as it is taken. -/
theorem loadedAcceptsSevenCommands : Obligations.LoadedAcceptsSevenCommands := by
  refine ⟨fun c op n rem s u m hm hc ht hh ho => ?_, by decide⟩
  have hf : ((modesOf (Msg.field m 0 2)).getD []).contains u.dev.mode = false := by
    rw [taken_op ht, (taken_touch ht).dev (by decide), hm]; exact loaded_refuses ho
  rcases hc with hc | ⟨rfl, hu⟩
  · obtain ⟨resv, own, run, e⟩ := exec_request hc s
    obtain ⟨r, hr⟩ := earlyChecks_mode (n := n) (rem := rem) hf
    obtain ⟨h1, h2, h3⟩ := id ht
    exact ⟨r.1, r.2, earlyChecks_status hr, e.trans (serve_refused ⟨h1, h2⟩ h3 hh hr), taken_refuse_dev ht r⟩
  · refine ⟨0x10, 0, Nat.le_refl _, ?_, taken_refuse_dev ht _⟩
    obtain ⟨h1, h2, h3⟩ := id ht
    show execUnknownOpcodeRequest n s = _
    unfold execUnknownOpcodeRequest
    rw [if_pos ⟨h1, by rw [h2]; exact hu⟩, h3]
    exact if_neg (by rw [hh]; nofun)

/-! A submission (R92). -/

theorem lowestFree_some {s : State} {i : Nat} (h : lowestFree s = some i) :
    (slotOf s i).st = .free ∧ ∀ j, j < i → (slotOf s j).st ≠ .free := by
  obtain ⟨hi, -, hj⟩ := List.find?_range_eq_some.1 h
  exact ⟨by simpa using hi, fun j h => by simpa using hj j h⟩

theorem lowestFree_ledger {s t : State} (h : t.ledger = s.ledger) : lowestFree t = lowestFree s := by
  unfold lowestFree slotOf; rw [h]

/-- The record of a host's new item. -/
def newSlot (s : State) (i : Nat) (k : Kind) (n : Nat) (m : Msg) (ext : List Byte) : Slot :=
  { gen := (slotOf s i).gen, kind := some k, st := .queued, mailbox := n
    tag := BitVec.ofNat 16 (Msg.field m 4 2), node := BitVec.ofNat 16 (Msg.field m 10 2)
    tSubmit := stamp s, result := recordAddr k m, msg := m, ext := ext, order := s.order }

theorem slotOf_newItem {s : State} (hw : TabWf {} s.ledger) (i : Nat) (k : Kind) (n : Nat) (m : Msg) (ext : List Byte) :
    slotOf (newItem s i k n m ext false false) i = newSlot s i k n m ext := tget_tset_same hw _ _

theorem slotOf_newItem_other {s : State} {i j : Nat} (h : j ≠ i) (k : Kind) (n : Nat) (m : Msg) (ext : List Byte)
    (own act : Bool) : slotOf (newItem s i k n m ext own act) j = slotOf s j := by
  unfold newItem slotOf modSlot
  dsimp only
  exact tget_tmod_other {} s.ledger _ h

theorem itemId_newItem {s : State} (hw : TabWf {} s.ledger) (i : Nat) (k : Kind) (n : Nat) (m : Msg) (ext : List Byte) :
    itemId (newItem s i k n m ext false false) i = itemId s i := by
  unfold itemId
  rw [slotOf_newItem hw]
  rfl

/-- The response to an accepted submission (Table 5.4, R92). -/
def received (s : State) (n : Nat) (m : Msg) (i : Nat) (t : Count) : State :=
  respond s n m (mkResp s m 0 10 (itemId s i) [(16, 8, t.toNat), (24, 2, freeSlots s)])

/-- An accepted submission whose image is not known bad is queued. -/
theorem acceptItem_queued {s : State} (hw : TabWf {} s.ledger) {n i : Nat} {m : Msg} {ext : List Byte} {k : Kind}
    (hk : kindOf (pKind m) = some k) (hi : lowestFree s = some i) (hb : k = .burst → (schedOf s (pSched m)).st ≠ .bad)
    (hs : k = .measure → storeBad s m = false) :
    acceptItem s n m ext = received (newItem s i k n m ext false false) n m i (stamp s) := by
  unfold acceptItem
  rw [hi, hk]
  dsimp only
  have q : Touch [.mbs, .fabric, .ledger, .order] s (received (newItem s i k n m ext false false) n m i (stamp s)) :=
    (respond_touch ..).app (by decide) ((newItem_touch ..).mono (by decide))
  rw [slotOf_newItem hw, show (newSlot s i k n m ext).tSubmit = stamp s from rfl, ← received]
  refine if_neg ?_
  rintro (⟨rfl, h⟩ | ⟨rfl, h⟩)
  · exact hb rfl (by unfold schedOf at *; rw [← q.cfg (by decide)]; exact h)
  · have := hs rfl
    unfold storeBad seqOf at *
    rw [q.seqs (by decide), this] at h
    cases h

/-- Settles O31: past its checks the submission is `acceptItem` of the state after it was taken. -/
theorem submissionsTakeTheLowestFreeSlot : Obligations.SubmissionsTakeTheLowestFreeSlot := by
  intro n rem s u m k i h hw ext hc hx hk hi hb hs
  have q := asked_touch h
  have wu : TabWf {} u.ledger := by rw [q.ledger (by decide)]; exact hw
  have he : exec (.opcItemSubmit n rem) s = .next (acceptItem u n m ext) := by
    obtain ⟨ht, -, hr, -⟩ := id h
    have hr' : submitReserved m = false := by
      unfold commandReserved at hr; rw [taken_op ht] at hr; exact hr
    have e := asked_serve_runs (own := fun s m => submitChecks s n m ((readExt s rem m).getD []))
      (run := fun s m => let ext := (readExt s rem m).getD []
        if bytesAt ext 60 4 ≠ 0 then .fault .reservedField else .next (acceptItem s n m ext)) h hr' hc
    exact e.trans (if_neg (not_not.2 hx))
  rw [acceptItem_queued wu hk (by rw [lowestFree_ledger (q.ledger (by decide))]; exact hi)
    (by unfold schedOf; rw [q.cfg (by decide)]; exact hb)
    (by unfold storeBad seqOf; rw [q.seqs (by decide)]; exact hs)] at he
  have r : Touch [.mbs, .fabric] (newItem u i k n m ext false false)
    (received (newItem u i k n m ext false false) n m i (stamp u)) := respond_touch ..
  obtain ⟨hf, hl⟩ := lowestFree_some hi
  have hst : stamp u = stamp s := stamp_hw (q.hw (by decide))
  refine ⟨_, he, ⟨?_, hf, hl, fun j hj => ?_, newItem u i k n m ext false false, ?_, ?_⟩,
    (r.mono (by decide)).trans (((newItem_touch ..).mono (by decide)).trans (q.mono (by decide)))⟩
  · rw [slotOf_ledger (r.ledger (by decide)), slotOf_newItem wu]
    unfold newSlot
    rw [hst, slotOf_ledger (q.ledger (by decide)), q.order (by decide)]
  · rw [slotOf_ledger (r.ledger (by decide)), slotOf_newItem_other hj, slotOf_ledger (q.ledger (by decide))]
  · rw [← hst]; rfl
  · rw [itemId_newItem wu]
    unfold itemId
    rw [slotOf_ledger (q.ledger (by decide))]

end Sys2Proof.Machine
end

section
/-! PROOFS. The requests that change the device mode (R59, R61, R117, R326, Table 6.9): DIAGNOSTIC, BYPASS and the Ford. -/

namespace Sys2Proof.Machine

section
variable {op n : Nat} {s u : State} {m : Msg} {resv : Msg → Bool} {own : State → Msg → List (Bool × Nat × Nat)}
  {run : State → Msg → State}

/-- The effect of a request that is asked and that no check of its own refuses. -/
theorem asked_next (h : Asked op n [] s m u) (hr : resv m = false) (ho : firstFail (own u m) = none) :
    serveNext op n s resv own run = .next (run u m) :=
  asked_serve_runs (own := own) (run := fun s m => .next (run s m)) h hr ho

/-- The request that is asked completes with its effect. -/
theorem asked_completes {c : Instr} {ps : List Part} {P : State → Prop} (h : Asked op n [] s m u)
    (hc : exec c s = serveNext op n s resv own run) (hr : resv m = false) (ho : firstFail (own u m) = none)
    (hp : P (run u m)) (ht : TouchOut ps s (exec c s)) : Completes c s ps P :=
  Completes.of_next (hc.trans (asked_next h hr ho)) hp ht

/-- The refusal of a request that is asked, by a check of its own. -/
theorem asked_refused {c : Instr} {st d : Nat} (h : Asked op n [] s m u) (hc : exec c s = serveNext op n s resv own run)
    (hr : resv m = false) (ho : firstFail (own u m) = some (st, d)) : Refuses c n s u m st d :=
  asked_refuses h (hc.trans (asked_serve_fails (own := own) (run := fun s m => .next (run s m)) h hr ho))

end

/-- What follows an entry to IDLE: the device stays there, or goes on to BYPASS where the host wants it. -/
theorem settleBypass_idle {s : State} (h : s.dev.mode = .idle) :
    (s.power.bypassPend = false → settleBypass s = s)
      ∧ (s.power.bypassPend = true → settleBypass s = enterBypass s) :=
  ⟨settleBypass_none, fun hp => if_pos ⟨h, hp⟩⟩

/-! DIAGNOSTIC (R394, Table 4.2). -/

/-- The device in DIAGNOSTIC with the test of a request. -/
def diagEntered (s : State) (m : Msg) : State :=
  setMode { s with dev := { s.dev with
    testing := BitVec.ofNat 32 (Msg.field m 16 4) ≠ 0, testMask := BitVec.ofNat 32 (Msg.field m 16 4)
    testAddr := BitVec.ofNat 64 (Msg.field m 24 8) } } .diagnostic

theorem diagEntered_dev {s : State} (h : s.dev.mode = .idle) (m : Msg) : (diagEntered s m).dev = { s.dev with
    mode := .diagnostic, prev := .idle, changes := s.dev.changes + 1
    testing := decide (BitVec.ofNat 32 (Msg.field m 16 4) ≠ 0), testMask := BitVec.ofNat 32 (Msg.field m 16 4)
    testAddr := BitVec.ofNat 64 (Msg.field m 24 8) } := by
  rw [diagEntered, setMode_new (by exact h ▸ nofun)]
  dsimp only
  rw [h]

theorem diagEnter_serves (n : Nat) (s : State) : exec (.opcDiagEnter n) s =
    serveNext 0x0009 n s noResv noChecks fun s m => done (diagEntered s m) n m 0 [] := rfl

theorem opcDiagEnter_enters {n : Nat} {s u : State} {m : Msg} (h : Asked 0x0009 n [] s m u) (hm : s.dev.mode = .idle) :
    Completes (.opcDiagEnter n) s [.dev, .mbs, .rr, .fabric, .free] fun t =>
      t.dev = { s.dev with
        mode := .diagnostic, prev := .idle, changes := s.dev.changes + 1
        testing := decide (BitVec.ofNat 32 (Msg.field m 16 4) ≠ 0), testMask := BitVec.ofNat 32 (Msg.field m 16 4)
        testAddr := BitVec.ofNat 64 (Msg.field m 24 8) } := by
  refine asked_completes h (diagEnter_serves n s) rfl rfl ?_ (execOpcDiagEnter_touch n s)
  have hd : u.dev = s.dev := (asked_touch h).dev (by decide)
  rw [(done_touch ..).dev (by decide), diagEntered_dev (by rw [hd]; exact hm), hd]

/-- The device in IDLE with its test ended. -/
def diagExited (s : State) : State := setMode { s with dev := { s.dev with testing := false } } .idle

theorem diagExited_dev {s : State} (h : s.dev.mode = .diagnostic) : (diagExited s).dev =
    { s.dev with testing := false, mode := .idle, prev := .diagnostic, changes := s.dev.changes + 1 } := by
  rw [diagExited, setMode_new (by rw [h]; nofun)]
  dsimp only
  rw [h]

theorem diagExited_power (s : State) : (diagExited s).power = s.power := (setMode_touch ..).power (by decide)

theorem diagExit_serves (n : Nat) (s : State) : exec (.opcDiagExit n) s =
    serveNext 0x000A n s noResv (fun s _ => [busy (ballCodeLoaded s)]) fun s m =>
      settleBypass (submitDue (done (diagExited s) n m 0 [])) := rfl

theorem opcDiagExit_loaded {n : Nat} {s u : State} {m : Msg} (h : Asked 0x000A n [] s m u)
    (hb : ballCodeLoaded s = true) : Refuses (.opcDiagExit n) n s u m 0x17 0xFFFF := by
  refine asked_refused h (diagExit_serves n s) rfl ?_
  have hj : ballCodeLoaded u = true := by unfold ballCodeLoaded; rw [(asked_touch h).jtag (by decide)]; exact hb
  rw [hj]; rfl

theorem opcDiagExit_exits {n : Nat} {s u : State} {m : Msg} (h : Asked 0x000A n [] s m u)
    (hb : ballCodeLoaded s = false) (hm : s.dev.mode = .diagnostic) :
    Completes (.opcDiagExit n) s
        [.power, .dev, .units, .hw, .mbs, .rr, .ledger, .order, .dacs, .chans, .pebs, .bursts, .seqs, .tdcs, .acqs,
         .dps, .resvs, .lanes, .queues, .dmas, .fabric, .press, .levee, .svc, .mem, .free] fun t =>
      (s.power.bypassPend = false → t.power = s.power ∧ t.dev = { s.dev with
          testing := false, mode := .idle, prev := .diagnostic, changes := s.dev.changes + 1 })
        ∧ (s.power.bypassPend = true → t.dev.mode = .bypass ∧ t.power.fordClosed = true ∧ t.dev.armedMap = []) := by
  have q := asked_touch h
  have hj : ballCodeLoaded u = false := by unfold ballCodeLoaded; rw [q.jtag (by decide)]; exact hb
  refine asked_completes h (diagExit_serves n s) rfl (by rw [hj]; rfl) ?_ (execOpcDiagExit_touch n s)
  generalize hv : submitDue _ = v
  have r : Touch [.units, .mbs, .ledger, .order, .fabric] (diagExited u) v := by
    rw [← hv]; exact (submitDue_touch _).app (by decide) ((done_touch ..).mono (by decide))
  have hd : v.dev = { s.dev with testing := false, mode := .idle, prev := .diagnostic, changes := s.dev.changes + 1 } := by
    rw [r.dev (by decide), diagExited_dev (by rw [q.dev (by decide)]; exact hm), q.dev (by decide)]
  have hp : v.power = s.power := (r.power (by decide)).trans ((diagExited_power u).trans (q.power (by decide)))
  obtain ⟨stay, go⟩ := settleBypass_idle (s := v) (by rw [hd])
  rw [hp] at stay go
  refine ⟨fun e => ?_, fun e => ?_⟩
  · rw [stay e]; exact ⟨hp, hd⟩
  · obtain ⟨h1, h2, -, h4, -⟩ := enterBypass_keeps v
    rw [go e]; exact ⟨h1, h4, h2⟩

/-! BYPASS and the Ford (R61, R117, R326). -/

/-- The entry to BYPASS as it is asked for: at once from IDLE, else kept for later. -/
def bypassAsked (s : State) : State :=
  if s.dev.mode = .idle then endForBypass s else { s with power := { s.power with bypassPend := true } }

/-- The answer to the entry where the Ford is closed, and the drain where it is open. -/
def drainAsked (s : State) : State :=
  if s.power.fordClosed then answerOwed s (isOp 0x0007) fun q => doneResp s q 0 []
  else { s with power := { s.power with fordDrain := true } }

theorem drainAsked_power (s : State) :
    (drainAsked s).power = { s.power with fordDrain := s.power.fordDrain || ! s.power.fordClosed } := by
  unfold drainAsked
  split
  · next c => rw [(answerOwed_touch ..).power (by decide), c]; simp
  · next c => simp [c]

theorem drainAsked_touch (s : State) : Touch [.power, .mbs, .fabric] s (drainAsked s) := by
  unfold drainAsked
  exact Touch.ite ((answerOwed_touch ..).mono (by decide)) (Touch.set_power (by decide) (Touch.refl _ _))

theorem bypassEnter_serves (n : Nat) (s : State) : exec (.opcBypassEnter n) s =
    serveNext 0x0007 n s noResv noChecks fun s m => drainAsked (bypassAsked (deferResp s n m)) := rfl

theorem opcBypassEnter_loaded {n : Nat} {s u : State} {m : Msg} (h : Asked 0x0007 n [] s m u)
    (hm : s.dev.mode = .loaded) : Completes (.opcBypassEnter n) s [.mbs, .rr, .fabric, .free, .power] fun t =>
      t.power = { s.power with bypassPend := true, fordDrain := s.power.fordDrain || ! s.power.fordClosed } := by
  have q : Touch [.mbs, .rr, .fabric, .free] s (deferResp u n m) := (deferResp_touch ..).app (by decide) (asked_touch h)
  have hb : bypassAsked (deferResp u n m)
      = { deferResp u n m with power := { s.power with bypassPend := true } } := by
    rw [bypassAsked, if_neg (by rw [q.dev (by decide), hm]; nofun), q.power (by decide)]
  refine ⟨_, (bypassEnter_serves n s).trans (asked_next h rfl rfl), ?_, ?_⟩
  · dsimp only
    rw [drainAsked_power, hb]
  · refine (drainAsked_touch _).app (by decide) ?_
    rw [hb]
    exact Touch.set_power (by decide) (q.mono (by decide))

theorem opcBypassEnter_idle {n : Nat} {s u : State} {m : Msg} (h : Asked 0x0007 n [] s m u) (hm : s.dev.mode = .idle) :
    Completes (.opcBypassEnter n) s
        [.power, .dev, .units, .mbs, .rr, .ledger, .order, .dacs, .chans, .pebs, .bursts, .seqs, .tdcs, .acqs, .dps,
         .resvs, .lanes, .queues, .dmas, .fabric, .press, .levee, .svc, .mem, .free] fun t =>
      t.dev.mode = .bypass ∧ t.dev.armedMap = [] ∧ t.dev.siteEnable = 0
        ∧ t.power = { s.power with bypassPend := false, fordDrain := s.power.fordDrain || ! s.power.fordClosed } := by
  have q : Touch [.mbs, .rr, .fabric, .free] s (deferResp u n m) := (deferResp_touch ..).app (by decide) (asked_touch h)
  have hb : bypassAsked (deferResp u n m) = endForBypass (deferResp u n m) := if_pos (by rw [q.dev (by decide)]; exact hm)
  obtain ⟨h1, h2, h3, h4⟩ := endForBypass_keeps (deferResp u n m)
  refine asked_completes h (bypassEnter_serves n s) rfl rfl ?_ (execOpcBypassEnter_touch n s)
  rw [hb, drainAsked_power, (drainAsked_touch _).dev (by decide), h4, q.power (by decide)]
  exact ⟨h1, h2, h3, rfl⟩

/-- The mode that BYPASS is left for. -/
def bypassLeft (s : State) : State := if s.dev.started then submitDue (setMode s .idle) else setMode s .loaded

theorem bypassLeft_mode (s : State) : (bypassLeft s).dev.mode = if s.dev.started then .idle else .loaded := by
  unfold bypassLeft
  split
  · rw [(submitDue_touch _).dev (by decide), setMode_mode]
  · exact setMode_mode ..

theorem bypassLeft_power (s : State) : (bypassLeft s).power = s.power := by
  unfold bypassLeft
  split
  · exact ((submitDue_touch _).power (by decide)).trans (setMode_power ..)
  · exact setMode_power ..

theorem bypassExit_serves (n : Nat) (s : State) : exec (.opcBypassExit n) s =
    serveNext 0x0008 n s noResv (fun s _ => [busy s.power.fordPinLow]) fun s m =>
      let t := bypassLeft (deferResp { s with power := { s.power with bypassPend := false } } n m)
      answerTrained (if t.power.pdOn.getLsbD 4 then openFord t else t) := rfl

theorem opcBypassExit_low {n : Nat} {s u : State} {m : Msg} (h : Asked 0x0008 n [] s m u)
    (hp : s.power.fordPinLow = true) : Refuses (.opcBypassExit n) n s u m 0x17 0xFFFF :=
  asked_refused h (bypassExit_serves n s) rfl (by rw [(asked_touch h).power (by decide), hp]; rfl)

/-- The Ford opens where PD4 is on. -/
theorem openFord_pd4 (s : State) (b : Bool) :
    (if b then openFord s else s).power.bypassPend = s.power.bypassPend
      ∧ (if b then openFord s else s).power.fordClosed = (s.power.fordClosed && ! b) := by
  cases b with
  | true =>
    obtain ⟨c, d, e⟩ := openFordWith_switches s trainPort
    have o : (openFord s).power.fordClosed = false := (openFord_open s).1
    refine ⟨congrArg (·.bypassPend) e, ?_⟩
    rw [if_pos rfl, o, Bool.not_true, Bool.and_false]
  | false => simp

theorem openFord_dev (s : State) (b : Bool) : (if b then openFord s else s).dev = s.dev := by
  split
  · exact (openFordWith_touch ..).dev (by decide)
  · rfl

theorem opcBypassExit_exits {n : Nat} {s u : State} {m : Msg} (h : Asked 0x0008 n [] s m u)
    (hp : s.power.fordPinLow = false) :
    Completes (.opcBypassExit n) s
        [.power, .dev, .units, .clock, .hw, .mbs, .rr, .ledger, .order, .fabric, .svc, .free] fun t =>
      t.dev.mode = (if s.dev.started then .idle else .loaded) ∧ t.power.bypassPend = false
        ∧ t.power.fordClosed = (s.power.fordClosed && ! s.power.pdOn.getLsbD 4) := by
  have q := asked_touch h
  refine asked_completes h (bypassExit_serves n s) rfl (by rw [q.power (by decide), hp]; rfl) ?_
    (execOpcBypassExit_touch n s)
  generalize hv : deferResp _ n m = v
  have hd : v.dev = s.dev := by rw [← hv, (deferResp_touch ..).dev (by decide)]; exact q.dev (by decide)
  have hw : v.power = { s.power with bypassPend := false } := by
    rw [← hv, (deferResp_touch ..).power (by decide), q.power (by decide)]
  dsimp only
  rw [(answerTrained_touch _).dev (by decide), (answerTrained_touch _).power (by decide), openFord_dev, bypassLeft_mode,
    hd]
  obtain ⟨h1, h2⟩ := openFord_pd4 (bypassLeft v) ((bypassLeft v).power.pdOn.getLsbD 4)
  rw [h1, h2, bypassLeft_power, hw]
  exact ⟨rfl, rfl, rfl⟩

/-- Nothing is held, owed or unacknowledged at the four ports. -/
theorem fordQuiet_iff (s : State) :
    (List.range 4).all (fun p => (portOf s p).waiting = [] ∧ (portOf s p).ingress = [] ∧ (portOf s p).replay = []) = true
      ↔ ∀ p, p < 4 → (portOf s p).waiting = [] ∧ (portOf s p).ingress = [] ∧ (portOf s p).replay = [] := by
  simp [List.all_eq_true]

theorem fordDrainDone_closes {s : State} (hd : s.power.fordDrain = true)
    (hq : ∀ p, p < 4 → (portOf s p).waiting = [] ∧ (portOf s p).ingress = [] ∧ (portOf s p).replay = []) :
    Completes .fordDrainDone s [.power, .hw, .mbs, .fabric, .levee, .svc, .mem, .free] fun t =>
      t.power.fordClosed = true ∧ t.dev = s.dev
        ∧ t.power = if s.power.fordClosed then s.power else { s.power with fordClosed := true, fordDrain := false } := by
  obtain ⟨h1, h2, -⟩ := closeFord_closes s
  exact Completes.of_next (if_pos ⟨hd, (fordQuiet_iff s).2 hq⟩) ⟨h1, h2, closeFord_power s⟩ (execFordDrainDone_touch s)

theorem fordDrainDone_idle {s : State} (h : s.power.fordDrain = false ∨ ∃ p, p < 4 ∧
    ((portOf s p).waiting ≠ [] ∨ (portOf s p).ingress ≠ [] ∨ (portOf s p).replay ≠ [])) : Idle .fordDrainDone s := by
  refine if_neg ?_
  rintro ⟨hd, hq⟩
  rcases h with h | ⟨p, hp, h⟩
  · rw [hd] at h; cases h
  · obtain ⟨h1, h2, h3⟩ := (fordQuiet_iff s).1 hq p hp
    rcases h with h | h | h <;> contradiction

end Sys2Proof.Machine
end

section
/-! PROOFS. OPC_DEVICE_START (R76, R77): the start of CALIBRATE, and where CALIBRATE ends at once. -/

namespace Sys2Proof.Machine

/-! The switches: an order leaves the entry to BYPASS that is asked for as it is. -/

/-- The entry to BYPASS waits for IDLE, or not, as b says. -/
def BypassPendIs (b : Bool) (s : State) : Prop := s.power.bypassPend = b

theorem orderOn1_bypassPend (b : Bool) (s : State) (d : Nat) : Keeps (BypassPendIs b) s (orderOn1 s d) := by
  unfold orderOn1
  refine Keeps.ite ?_ (Keeps.ite ?_ (Keeps.ite (Keeps.refl _ s) ⟨id⟩))
  · cases domainUnit d <;> exact ⟨id⟩
  · cases domainUnit d with
    | none => exact ⟨id⟩
    | some x => exact Keeps.ite ⟨fun h => by rw [BypassPendIs, (setUnit_touch ..).power (by decide)]; exact h⟩ ⟨id⟩

theorem orderOn_bypassPend (s : State) (on : BitVec 32) : (orderSwitches s on 0).power.bypassPend = s.power.bypassPend :=
  (Keeps.foldl (Keeps.refl _ s) (orderOn1_bypassPend s.power.bypassPend) (l := setBits 32 on.toNat)).keeps rfl

theorem settleFord_bypassPend (s : State) : (settleFord s).power.bypassPend = s.power.bypassPend := by
  unfold settleFord
  split
  · obtain ⟨c, d, e⟩ := openFordWith_switches s trainPort
    exact congrArg (·.bypassPend) e
  · rfl

/-! The clock: opening the Ford sets SYNC_DEGRADED at most. -/

theorem openFordWith_clock (s : State) (f : PortState → PortState) :
    ∃ b, (openFordWith s f).clock = { s.clock with syncDegraded := b } := by
  have hf : ((List.range 4).foldl (fun s p => changePort s p f)
      { s with power := { s.power with fordClosed := false, fordOpened := true } }).clock = s.clock :=
    foldl_same (·.clock) _ (fun u p => (changePort_touch ..).clock (by decide)) _ _
  unfold openFordWith
  dsimp only
  split
  · split
    · exact ⟨true, by rw [changeClock_clock, hf]⟩
    · exact ⟨_, hf⟩
  · exact ⟨_, rfl⟩

theorem settleFord_clock (s : State) : ∃ b, (settleFord s).clock = { s.clock with syncDegraded := b } := by
  unfold settleFord
  split
  · exact openFordWith_clock s trainPort
  · exact ⟨_, rfl⟩

/-! The start. -/

/-- The start with CALIBRATE entered and the lock begun, before the switches. -/
def startClock (s : State) (m : BitVec 28) (mask : BitVec 32) : State :=
  let s' := setMode { s with dev := { s.dev with started := true, startMask := mask } } .calibrate
  if s.clock.locked ∧ s.clock.mLock = m ∧ s.clock.mNow = m then s' else startLock s' m

/-- The sequencers and the initial CAL items of a start, after its switches. -/
def startItems (s : State) (mask : BitVec 32) : State :=
  (startUnits mask).foldl (fun s u => submitCal s u (classesOf u) false)
    ((List.range 16).foldl (fun s q => setUnit s (unitSeq q) .active false) s)

theorem startDevice_eq (s : State) (m : BitVec 28) (mask : BitVec 32) : startDevice s m mask =
    settleFord (startItems (orderSwitches (startClock s m mask) (mask ||| bit32 1) 0) mask) := rfl

theorem startItems_touch (s : State) (mask : BitVec 32) :
    Touch [.units, .mbs, .fabric, .svc, .free, .ledger, .order] s (startItems s mask) := by
  unfold startItems
  refine Touch.foldl (Touch.foldl (Touch.refl _ _) fun u q => ?_) fun u q => ?_
  · exact (setUnit_touch ..).mono (by decide)
  · exact (submitCal_touch ..).mono (by decide)

theorem startClock_dev (s : State) (m : BitVec 28) (mask : BitVec 32) :
    (startClock s m mask).dev.mode = .calibrate ∧ (startClock s m mask).dev.started = true
      ∧ (startClock s m mask).dev.startMask = mask := by
  have hd : (startClock s m mask).dev =
      (setMode { s with dev := { s.dev with started := true, startMask := mask } } .calibrate).dev := by
    unfold startClock
    dsimp only
    split
    · rfl
    · exact (startLock_touch ..).dev (by decide)
  rw [hd]
  refine ⟨setMode_mode .., ?_, ?_⟩ <;> unfold setMode <;> split <;> rfl

theorem startClock_power (s : State) (m : BitVec 28) (mask : BitVec 32) : (startClock s m mask).power = s.power := by
  unfold startClock
  dsimp only
  split
  · exact setMode_power ..
  · exact ((startLock_touch ..).power (by decide)).trans (setMode_power ..)

/-- A lock at M is under way, on the bypass path. -/
def LockBegun (m : BitVec 28) (s : State) : Prop :=
  s.clock.relocking = true ∧ s.clock.onBypass = true ∧ s.clock.lockTarget = m

theorem startClock_locks {s : State} {m : BitVec 28} (mask : BitVec 32)
    (h : s.clock.locked = false ∨ s.clock.mLock ≠ m ∨ s.clock.mNow ≠ m) : LockBegun m (startClock s m mask) := by
  have hn : ¬ (s.clock.locked = true ∧ s.clock.mLock = m ∧ s.clock.mNow = m) := by
    rintro ⟨h1, h2, h3⟩
    rcases h with h | h | h
    · rw [h] at h1; cases h1
    · exact h h2
    · exact h h3
  unfold LockBegun startClock
  rw [if_neg hn, startLock_clock]
  exact ⟨rfl, rfl, rfl⟩

theorem startDevice_dev (s : State) (m : BitVec 28) (mask : BitVec 32) :
    (startDevice s m mask).dev = (startClock s m mask).dev := by
  rw [startDevice_eq, (settleFord_touch _).dev (by decide), (startItems_touch ..).dev (by decide),
    (orderSwitches_touch ..).dev (by decide)]

theorem startDevice_bypassPend (s : State) (m : BitVec 28) (mask : BitVec 32) :
    (startDevice s m mask).power.bypassPend = s.power.bypassPend := by
  rw [startDevice_eq, settleFord_bypassPend, (startItems_touch ..).power (by decide), orderOn_bypassPend,
    startClock_power]

theorem startDevice_clock (s : State) (m : BitVec 28) (mask : BitVec 32) :
    ∃ b, (startDevice s m mask).clock = { (startClock s m mask).clock with syncDegraded := b } := by
  obtain ⟨b, e⟩ := settleFord_clock (startItems (orderSwitches (startClock s m mask) (mask ||| bit32 1) 0) mask)
  rw [(startItems_touch ..).clock (by decide), (orderSwitches_touch ..).clock (by decide)] at e
  exact ⟨b, e⟩

/-! The end of CALIBRATE. -/

/-- Something of the initial calibration is left to do. -/
def CalLeft (s : State) : Prop := slotsWhere s (calPending s) ≠ [] ∨ ∃ x ∈ allUnits, (unitOf s x).unslotted ≠ 0

theorem settleCal_cases {s : State} (h : s.dev.mode = .calibrate) :
    (settleCal s = s ∧ CalLeft s) ∨ settleCal s = submitDue (setMode s .idle) := by
  by_cases c : slotsWhere s (calPending s) = [] ∧ allUnits.all (fun u => (unitOf s u).unslotted = 0)
  · exact .inr (if_pos ⟨h, c⟩)
  · refine .inl ⟨if_neg fun g => c g.2, ?_⟩
    unfold CalLeft
    by_contra hn
    push Not at hn
    exact c ⟨hn.1, by simpa [List.all_eq_true] using hn.2⟩

/-- What the end of CALIBRATE, and the entry to BYPASS after it, leave of the mode and the start. -/
theorem calibrate_ends {s : State} (h : s.dev.mode = .calibrate) {t : State} (ht : t = settleBypass (settleCal s)) :
    (t.dev.mode = .calibrate ∨ t.dev.mode = .idle ∨ t.dev.mode = .bypass)
      ∧ (t.dev.mode = .calibrate → CalLeft t)
      ∧ (t.dev.mode = .bypass → s.power.bypassPend = true)
      ∧ (t.dev.mode ≠ .bypass → t.dev.started = s.dev.started ∧ t.dev.startMask = s.dev.startMask) := by
  subst ht
  rcases settleCal_cases h with ⟨e, hl⟩ | e
  · have hb : settleBypass s = s := if_neg fun g => by rw [h] at g; cases g.1
    rw [e, hb, h]
    exact ⟨.inl rfl, fun _ => hl, nofun, fun _ => ⟨rfl, rfl⟩⟩
  · rw [e]
    generalize hv : submitDue (setMode s .idle) = v
    have hd : v.dev = (setMode s .idle).dev := by rw [← hv]; exact (submitDue_touch _).dev (by decide)
    have hm : v.dev.mode = .idle := by rw [hd]; exact setMode_mode ..
    have hp : v.power = s.power := by rw [← hv, (submitDue_touch _).power (by decide)]; exact setMode_power ..
    obtain ⟨stay, go⟩ := settleBypass_idle hm
    by_cases b : v.power.bypassPend = true
    · obtain ⟨k, -⟩ := enterBypass_keeps v
      rw [go b, k]
      exact ⟨.inr (.inr rfl), nofun, fun _ => by rw [← hp]; exact b, fun g => absurd rfl g⟩
    · rw [stay (by simpa using b), hm]
      refine ⟨.inr (.inl rfl), nofun, nofun, fun _ => ?_⟩
      rw [hd, setMode_new (by rw [h]; nofun)]
      exact ⟨rfl, rfl⟩

/-- The device started with the M and the mask of a request, and its answer. -/
def deviceStarted (s : State) (n : Nat) (m : Msg) : State :=
  done (startDevice s (BitVec.ofNat 28 (Msg.field m 16 4)) (BitVec.ofNat 32 (Msg.field m 20 4))) n m 0 []

theorem deviceStart_serves (n : Nat) (s : State) : exec (.opcDeviceStart n) s = serveNext 0x0002 n s noResv
    (fun s m => [range (! mLegal (Msg.field m 16 4)) 16,
      ((domFault s (BitVec.ofNat 32 (Msg.field m 20 4)) 0).isSome, 0x13,
        (domFault s (BitVec.ofNat 32 (Msg.field m 20 4)) 0).getD 0)])
    fun s m => settleBypass (settleCal (deviceStarted s n m)) := rfl

theorem opcDeviceStart_starts {n : Nat} {s u : State} {m : Msg} (h : Asked 0x0002 n [] s m u)
    (hl : mLegal (Msg.field m 16 4) = true) (hd : domFault u (BitVec.ofNat 32 (Msg.field m 20 4)) 0 = none) :
    Completes (.opcDeviceStart n) s
        [.power, .dev, .units, .clock, .hw, .mbs, .rr, .ledger, .order, .dacs, .chans, .pebs, .bursts, .seqs, .tdcs,
         .acqs, .dps, .resvs, .lanes, .queues, .dmas, .fabric, .press, .levee, .svc, .mem, .free] fun t =>
      (t.dev.mode = .calibrate ∨ t.dev.mode = .idle ∨ t.dev.mode = .bypass)
        ∧ (t.dev.mode = .calibrate → slotsWhere t (calPending t) ≠ [] ∨ ∃ x ∈ allUnits, (unitOf t x).unslotted ≠ 0)
        ∧ (t.dev.mode = .bypass → s.power.bypassPend = true)
        ∧ (t.dev.mode ≠ .bypass → t.dev.started = true ∧ t.dev.startMask = BitVec.ofNat 32 (Msg.field m 20 4))
        ∧ ((s.clock.locked = false ∨ s.clock.mLock ≠ BitVec.ofNat 28 (Msg.field m 16 4)
            ∨ s.clock.mNow ≠ BitVec.ofNat 28 (Msg.field m 16 4)) →
          t.clock.relocking = true ∧ t.clock.onBypass = true ∧ t.clock.lockTarget = BitVec.ofNat 28 (Msg.field m 16 4)) := by
  have q := asked_touch h
  refine asked_completes h (deviceStart_serves n s) rfl (by rw [hl, hd]; rfl) ?_ (execOpcDeviceStart_touch n s)
  have ka : Touch [.mbs, .fabric] _ (deviceStarted u n m) := done_touch ..
  obtain ⟨k1, k2, k3⟩ := startClock_dev u (BitVec.ofNat 28 (Msg.field m 16 4)) (BitVec.ofNat 32 (Msg.field m 20 4))
  obtain ⟨b, kc⟩ := startDevice_clock u (BitVec.ofNat 28 (Msg.field m 16 4)) (BitVec.ofNat 32 (Msg.field m 20 4))
  rw [← startDevice_dev, ← ka.dev (by decide)] at k1 k2 k3
  obtain ⟨h1, h2, h3, h4⟩ := calibrate_ends k1 rfl
  refine ⟨h1, h2, fun g => ?_, fun g => ?_, fun hc => ?_⟩
  · have := h3 g
    rwa [ka.power (by decide), startDevice_bypassPend, q.power (by decide)] at this
  · obtain ⟨e1, e2⟩ := h4 g
    exact ⟨e1.trans k2, e2.trans k3⟩
  · rw [← q.clock (by decide)] at hc
    rw [(settleBypass_touch _).clock (by decide), (settleCal_touch _).clock (by decide), ka.clock (by decide), kc]
    exact startClock_locks (BitVec.ofNat 32 (Msg.field m 20 4)) hc

end Sys2Proof.Machine
end

section
/-! PROOFS. OPC_DISARM (R278): the slew to 0 V, and the disconnects opened at once where every output is off. -/

namespace Sys2Proof.Machine

/-- Writing every entry of a table anew, in place. -/
theorem tget_foldl_rewrite {α : Type} [DecidableEq α] {d : α} {f : α → α} (hd : f d = d) {t : Tab α} {lo : Nat}
    (h : TabWfFrom d lo t) {r : Tab α} (hr : TabWf d r) (hlo : ∀ i, lo ≤ i → tget d r i = tget d t i) (i : Nat) :
    tget d (t.foldl (fun r e => tset d r e.1 (f e.2)) r) i = if i < lo then tget d r i else f (tget d t i) := by
  induction t generalizing lo r with
  | nil =>
    rw [List.foldl_nil]
    split
    · rfl
    · rw [hlo i (by omega)]; exact hd.symm
  | cons e t ih =>
    obtain ⟨k, v⟩ := e
    obtain ⟨h1, h2, h3⟩ := h
    have hne : ∀ j, j ≠ k → tget d ((k, v) :: t) j = tget d t j := fun j hj => if_neg hj
    rw [List.foldl_cons, ih h3 (tset_wf hr k (f v)) fun j hj => by
      rw [tget_tset_other _ _ _ (by omega), hlo j (by omega), hne j (by omega)]]
    rcases Nat.lt_trichotomy i k with hi | rfl | hi
    · have hb : tget d t i = d := tget_below h3 (by omega)
      rw [if_pos (by omega), tget_tset_other _ _ _ (by omega)]
      split
      · rfl
      · rw [hlo i (by omega), hne i (by omega), hb, hd]
    · rw [if_pos (by omega), tget_tset_same hr, if_neg (by omega)]
      exact congrArg f (if_pos rfl).symm
    · rw [if_neg (by omega), if_neg (by omega), hne i (by omega)]

/-! The slew. -/

/-- A disarm begun: every enabled output is slewed to 0 V. -/
def disarmBegun (s : State) : State :=
  { s with
    dev := { s.dev with disarming := true }
    dps := tmods {} s.dps (tkeys s.dps fun _ d => d.enabled) fun _ d => slewTo 0 d }

theorem dpsOf_disarmBegun {s : State} (w : TabWf {} s.dps) (k : Nat) :
    dpsOf (disarmBegun s) k = if (dpsOf s k).enabled then slewTo 0 (dpsOf s k) else dpsOf s k := by
  have hk : k ∈ tkeys s.dps (fun _ d => d.enabled) ↔ (dpsOf s k).enabled = true :=
    mem_tkeys w (fun _ d => d.enabled) k rfl
  show tget {} (tmods {} s.dps _ fun _ d => slewTo 0 d) k = _
  rw [tget_tmods {} (fun _ d => slewTo 0 d) (fun _ _ => rfl) _ _ w, if_congr hk rfl rfl]
  rfl

/-- The slew leaves each output as it is, enabled or discharging. -/
theorem disarmBegun_outputs {s : State} (w : TabWf {} s.dps) (k : Nat) :
    (dpsOf (disarmBegun s) k).enabled = (dpsOf s k).enabled
      ∧ (dpsOf (disarmBegun s) k).discharging = (dpsOf s k).discharging := by
  rw [dpsOf_disarmBegun w]
  split <;> exact ⟨rfl, rfl⟩

/-! The end of a disarm. -/

/-- A channel as a disarm leaves it: disconnected, unless its PMU is connected. -/
def disarmChan (x : Chan) : Chan := { x with closed := x.pmuOn && x.closed, armed := false, drvOn := false }

/-- The disconnects opened, and no PEB at rest. -/
def disarmed (s : State) : State :=
  { s with
    chans := s.chans.foldl (fun t e => tset {} t e.1 (disarmChan e.2)) s.chans
    pebs := s.pebs.foldl (fun t e => tset {} t e.1 { e.2 with rest := .none }) s.pebs
    dev := { s.dev with disarming := false, armedSched := none, armedMap := [], siteEnable := 0 } }

theorem chanOf_disarmed {s : State} (w : TabWf {} s.chans) (c : Nat) : chanOf (disarmed s) c = disarmChan (chanOf s c) :=
  (tget_foldl_rewrite rfl w w (fun _ _ => rfl) c).trans (if_neg (Nat.not_lt_zero c))

/-- Every output is off and discharged. -/
def OutputsOff (s : State) : Prop := ∀ k, k < 48 → (dpsOf s k).enabled = false ∧ (dpsOf s k).discharging = false

theorem outputsOff_iff (s : State) :
    (List.range 48).all (fun n => ! (dpsOf s n).enabled && ! (dpsOf s n).discharging) = true ↔ OutputsOff s := by
  simp [OutputsOff, List.all_eq_true]

theorem finishDisarm_off {s : State} (hm : s.dev.mode = .armed) (hd : s.dev.disarming = true) (ho : OutputsOff s) :
    finishDisarm s = answerOwed (submitDue (setMode (disarmed s) .idle)) (isOp 0x0004) fun q =>
      doneResp (disarmed s) q 0 [] :=
  if_pos ⟨hm, hd, (outputsOff_iff s).2 ho⟩

theorem finishDisarm_on {s : State} (ho : ¬ OutputsOff s) : finishDisarm s = s :=
  if_neg fun h => ho ((outputsOff_iff s).1 h.2.2)

/-! The request. -/

/-- The items that OPC_DISARM waits for. -/
def blocksDisarm (l : Slot) : Bool := openSlot l && l.kind ≠ some .cal && l.kind ≠ some .transfer

theorem disarm_serves (n : Nat) (s : State) : exec (.opcDisarm n) s = serveNext 0x0004 n s noResv
    (fun s _ => [busyIf (busyItem s blocksDisarm), busy s.dev.disarming])
    fun s m => settleBypass (finishDisarm (deferResp (disarmBegun s) n m)) := rfl

section
variable {n : Nat} {s u : State} {m : Msg} (h : Asked 0x0004 n [] s m u)
include h

theorem opcDisarm_blocked {i : Nat} (hb : busyItem u blocksDisarm = some i) :
    Refuses (.opcDisarm n) n s u m 0x17 i :=
  asked_refused h (disarm_serves n s) rfl (by rw [hb]; rfl)

theorem opcDisarm_again (hb : busyItem u blocksDisarm = none) (hd : s.dev.disarming = true) :
    Refuses (.opcDisarm n) n s u m 0x17 0xFFFF :=
  asked_refused h (disarm_serves n s) rfl (by rw [hb, (asked_touch h).dev (by decide), hd]; rfl)

theorem disarm_next (hb : busyItem u blocksDisarm = none) (hd : s.dev.disarming = false) :
    exec (.opcDisarm n) s = .next (settleBypass (finishDisarm (deferResp (disarmBegun u) n m))) :=
  (disarm_serves n s).trans (asked_next h rfl (by rw [hb, (asked_touch h).dev (by decide), hd]; rfl))

theorem opcDisarm_slews (hb : busyItem u blocksDisarm = none) (hd : s.dev.disarming = false)
    (hm : s.dev.mode = .armed) (w : TabWf {} s.dps)
    (ho : ∃ k, k < 48 ∧ ((dpsOf s k).enabled = true ∨ (dpsOf s k).discharging = true)) :
    Completes (.opcDisarm n) s [.mbs, .rr, .fabric, .free, .dev, .dps] fun t =>
      t.dev = { s.dev with disarming := true }
        ∧ ∀ k, dpsOf t k = if (dpsOf s k).enabled then slewTo 0 (dpsOf s k) else dpsOf s k := by
  have q := asked_touch h
  rw [← q.dps (by decide)] at w
  have hs : ∀ k, dpsOf s k = dpsOf u k := fun k => by unfold dpsOf; rw [q.dps (by decide)]
  have r : Touch [.mbs] (disarmBegun u) (deferResp (disarmBegun u) n m) := deferResp_touch ..
  have hr : ∀ k, dpsOf (deferResp (disarmBegun u) n m) k = dpsOf (disarmBegun u) k := fun k => by
    unfold dpsOf; rw [r.dps (by decide)]
  have hn : ¬ OutputsOff (deferResp (disarmBegun u) n m) := by
    intro g
    obtain ⟨k, hk, hk'⟩ := ho
    obtain ⟨g1, g2⟩ := g k hk
    obtain ⟨e1, e2⟩ := disarmBegun_outputs w k
    rw [hr, e1, ← hs] at g1
    rw [hr, e2, ← hs] at g2
    rcases hk' with hk' | hk'
    · rw [g1] at hk'; cases hk'
    · rw [g2] at hk'; cases hk'
  have e := disarm_next h hb hd
  have hi : (deferResp (disarmBegun u) n m).dev.mode ≠ .idle := by
    rw [r.dev (by decide)]
    show u.dev.mode ≠ _
    rw [q.dev (by decide), hm]
    nofun
  rw [finishDisarm_on hn, settleBypass, if_neg fun g => hi g.1] at e
  refine ⟨_, e, ⟨?_, fun k => ?_⟩, ?_⟩
  · rw [r.dev (by decide), disarmBegun, q.dev (by decide)]
  · rw [hr, dpsOf_disarmBegun w, hs]
  · exact (r.mono (by decide)).trans (Touch.set_dev_dps (by decide) (by decide) (q.mono (by decide)))

theorem opcDisarm_ends (hb : busyItem u blocksDisarm = none) (hd : s.dev.disarming = false)
    (hm : s.dev.mode = .armed) (w : TabWf {} s.dps)
    (ho : ∀ k, (dpsOf s k).enabled = false ∧ (dpsOf s k).discharging = false) (hp : s.power.bypassPend = false)
    (wc : TabWf {} s.chans) :
    Completes (.opcDisarm n) s
        [.power, .dev, .units, .hw, .mbs, .rr, .ledger, .order, .dacs, .chans, .pebs, .bursts, .seqs, .tdcs, .acqs,
         .dps, .resvs, .lanes, .queues, .dmas, .fabric, .press, .levee, .svc, .mem, .free] fun t =>
      t.dev.mode = .idle ∧ t.dev.disarming = false ∧ t.dev.armedMap = [] ∧ t.dev.siteEnable = 0
        ∧ t.dev.armedSched = none ∧ (∀ c, (chanOf t c).armed = false
          ∧ (chanOf t c).closed = ((chanOf s c).pmuOn && (chanOf s c).closed)) := by
  have q := asked_touch h
  generalize hv : deferResp (disarmBegun u) n m = v
  have r : Touch [.mbs] (disarmBegun u) v := by rw [← hv]; exact deferResp_touch ..
  have hoff : OutputsOff v := fun k _ => by
    obtain ⟨e1, e2⟩ := disarmBegun_outputs (s := u) (by rw [q.dps (by decide)]; exact w) k
    obtain ⟨o1, o2⟩ := ho k
    unfold dpsOf at *
    rw [r.dps (by decide), e1, e2, q.dps (by decide)]
    exact ⟨o1, o2⟩
  have hm' : v.dev.mode = .armed := by rw [r.dev (by decide)]; show u.dev.mode = _; rw [q.dev (by decide), hm]
  have e := disarm_next h hb hd
  rw [hv, finishDisarm_off hm' (by rw [r.dev (by decide)]; rfl) hoff] at e
  generalize ht : answerOwed _ _ _ = t at e
  have k : Touch [.units, .mbs, .ledger, .order, .fabric] (setMode (disarmed v) .idle) t := by
    rw [← ht]; exact ((answerOwed_touch ..).mono (by decide)).trans ((submitDue_touch _).mono (by decide))
  have kp : t.power = s.power := by
    rw [k.power (by decide), setMode_power]
    exact (r.power (by decide)).trans (q.power (by decide))
  rw [settleBypass_none (by rw [kp]; exact hp)] at e
  have kd : t.dev = { (disarmed v).dev with
      mode := .idle, prev := (disarmed v).dev.mode, changes := (disarmed v).dev.changes + 1 } := by
    rw [k.dev (by decide), setMode_new (by show v.dev.mode ≠ _; rw [hm']; nofun)]
  refine Completes.of_next e ?_ (execOpcDisarm_touch n s)
  rw [kd]
  refine ⟨rfl, rfl, rfl, rfl, rfl, fun c => ?_⟩
  have hc : chanOf t c = disarmChan (chanOf s c) := by
    have hv' : v.chans = s.chans := (r.chans (by decide)).trans (q.chans (by decide))
    have hs : chanOf v c = chanOf s c := by unfold chanOf; rw [hv']
    rw [← hs, ← chanOf_disarmed (by rw [hv']; exact wc)]
    unfold chanOf
    rw [k.chans (by decide), (setMode_touch ..).chans (by decide)]
  rw [hc]
  exact ⟨rfl, rfl⟩

end

end Sys2Proof.Machine
end

section
/-! PROOFS. OPC_PAUSE and OPC_RESUME (R62, Table 4.2): what they ask of the items, and where RUN goes. -/

namespace Sys2Proof.Machine

theorem slotsWhere_ledger {s t : State} (h : t.ledger = s.ledger) (p : Slot → Bool) : slotsWhere t p = slotsWhere s p := by
  unfold slotsWhere; rw [h]

/-- The slots that match are those whose item p holds of, where it does not hold of a free one. -/
theorem mem_slotsInOrder {s : State} (w : TabWf {} s.ledger) {p : Slot → Bool} (hp : p {} = false) (i : Nat) :
    i ∈ slotsInOrder s p ↔ p (slotOf s i) = true :=
  (slotsInOrder_perm s p).mem_iff.trans (mem_tkeys w (fun _ l => p l) i hp)

/-! Where RUN goes. -/

/-- The items that a pause still waits for. -/
def unheld (l : Slot) : Bool := pausable l && l.st = .inFlight

/-- RUN under a pause request ends in ARMED where nothing works, in PAUSE where all is held, and else goes on with the
request pending. -/
theorem settleMode_pausing {s : State} (hm : s.dev.mode = .run) (hp : s.dev.pauseReq = true) :
    (settleMode s).dev.mode = (if slotsWhere (settleMode s) working = [] then .armed
        else if slotsWhere (settleMode s) unheld = [] then .pause else .run)
      ∧ ((settleMode s).dev.pauseReq = true ↔ (settleMode s).dev.mode = .run) := by
  have hl : ∀ p, slotsWhere (settleMode s) p = slotsWhere s p :=
    slotsWhere_ledger ((settleMode_touch s).ledger (by decide))
  rw [hl, hl]
  unfold settleMode
  rw [if_neg (not_not.2 hm)]
  by_cases h1 : slotsWhere s working = []
  · rw [if_pos h1, if_pos h1, hp]
    rw [setMode_new (by show s.dev.mode ≠ _; rw [hm]; nofun)]
    dsimp only
    rw [if_pos rfl, (answerEvery_touch ..).dev (by decide)]
    exact ⟨rfl, nofun, nofun⟩
  · rw [if_neg h1, if_neg h1]
    by_cases h2 : slotsWhere s unheld = []
    · rw [if_pos h2, if_pos (by rw [hp]; exact decide_eq_true h2)]
      rw [setMode_new (by show s.dev.mode ≠ _; rw [hm]; nofun)]
      rw [(answerEvery_touch ..).dev (by decide)]
      exact ⟨rfl, nofun, nofun⟩
    · rw [if_neg h2, if_neg (by rw [hp]; exact fun g => h2 (of_decide_eq_true g)), hm]
      exact ⟨rfl, fun _ => rfl, fun _ => hp⟩

/-- RUN without a pause request ends in ARMED where nothing works. -/
theorem settleMode_running {s : State} (hm : s.dev.mode = .run) (hp : s.dev.pauseReq = false) :
    (settleMode s).dev.mode = if slotsWhere (settleMode s) working = [] then .armed else .run := by
  rw [slotsWhere_ledger ((settleMode_touch s).ledger (by decide))]
  unfold settleMode
  rw [if_neg (not_not.2 hm)]
  by_cases h1 : slotsWhere s working = []
  · rw [if_pos h1, if_pos h1, hp]
    exact setMode_mode ..
  · rw [if_neg h1, if_neg h1, hp]
    exact hm

/-! What a pause asks of the items. -/

/-- The item as it is held. -/
def heldItem (l : Slot) : Slot := { l with st := .held }

/-- A pause request leaves each slot as it is, or holds its item. -/
theorem pauseItem_slot {s : State} (w : TabWf {} s.ledger) (x i : Nat) :
    slotOf (pauseItem s x) i = slotOf s i ∨ slotOf (pauseItem s x) i = heldItem (slotOf s i) := by
  have hold : slotOf (modSlot s x heldItem) i = slotOf s i ∨ slotOf (modSlot s x heldItem) i = heldItem (slotOf s i) := by
    by_cases e : i = x
    · subst e; exact .inr (slotOf_modSlot_same _ _ _ w)
    · exact .inl (slotOf_modSlot_other _ _ _ e)
  unfold pauseItem
  dsimp only
  split
  · exact .inl (slotOf_ledger ((requestPause_touch ..).ledger (by decide)) i)
  · split
    · exact .inl (slotOf_ledger ((pauseMeasure_touch ..).ledger (by decide)) i)
    · exact hold
  · exact hold
  · exact .inl rfl

theorem pauseItem_wf {s : State} (w : TabWf {} s.ledger) (x : Nat) : TabWf {} (pauseItem s x).ledger := by
  unfold pauseItem
  dsimp only
  split
  · rw [(requestPause_touch ..).ledger (by decide)]; exact w
  · split
    · rw [(pauseMeasure_touch ..).ledger (by decide)]; exact w
    · exact modSlot_wf w _ _
  · exact modSlot_wf w _ _
  · exact w

/-- A DPS item holds at once. -/
theorem pauseItem_dps {s : State} (w : TabWf {} s.ledger) {x : Nat} (h : (slotOf s x).kind = some .dps) :
    slotOf (pauseItem s x) x = heldItem (slotOf s x) := by
  unfold pauseItem
  dsimp only
  rw [h]
  exact slotOf_modSlot_same _ _ _ w

/-- Each slot of u is as in s, or holds the item of s. -/
def PausedFrom (s u : State) : Prop :=
  TabWf {} u.ledger ∧ ∀ i, slotOf u i = slotOf s i ∨ slotOf u i = heldItem (slotOf s i)

theorem pauseItem_from (s u : State) (x : Nat) : Keeps (PausedFrom s) u (pauseItem u x) := by
  refine ⟨fun ⟨w, h⟩ => ⟨pauseItem_wf w x, fun i => ?_⟩⟩
  rcases pauseItem_slot w x i with e | e
  · rw [e]; exact h i
  · rw [e]
    rcases h i with f | f <;> rw [f] <;> exact .inr rfl

/-- A DPS item among those asked is held in the end. -/
theorem foldl_pauseItem_dps {s : State} (w : TabWf {} s.ledger) {l : List Nat} {i : Nat} (hi : i ∈ l)
    (hk : (slotOf s i).kind = some .dps) : slotOf (l.foldl pauseItem s) i = heldItem (slotOf s i) := by
  refine (foldl_each (W := PausedFrom s) (I := fun j u => (slotOf s j).kind = some .dps → slotOf u j = heldItem (slotOf s j))
    (g := pauseItem) (pauseItem_from s) (fun u x ⟨wu, h⟩ hx => ?_) (fun u x y ⟨wu, _⟩ hy hk' => ?_) l
    ⟨w, fun _ => .inl rfl⟩).2 i (.inr hi) hk
  · rcases h x with e | e
    · rw [pauseItem_dps wu (by rw [e]; exact hx), e]
    · rw [pauseItem_dps wu (by rw [e]; exact hx), e]; rfl
  · rcases pauseItem_slot wu x y with e | e
    · rw [e, hy hk']
    · rw [e, hy hk']; rfl

theorem pauseItems_touch (l : List Nat) (s : State) : Touch [.ledger, .bursts, .seqs] s (l.foldl pauseItem s) :=
  Touch.foldl (Touch.refl _ _) pauseItem_touch

/-- A pause request kept, and every pausable item in flight asked to hold. -/
def pauseAsked (s : State) : State :=
  (slotsInOrder s fun l => l.st = .inFlight && pausable l).foldl pauseItem { s with dev := { s.dev with pauseReq := true } }

theorem pauseAsked_dev (s : State) : (pauseAsked s).dev = { s.dev with pauseReq := true } :=
  (pauseItems_touch _ _).dev (by decide)

theorem pauseAsked_dps {s : State} (w : TabWf {} s.ledger) {i : Nat} (hk : (slotOf s i).kind = some .dps)
    (hf : (slotOf s i).st = .inFlight) : slotOf (pauseAsked s) i = heldItem (slotOf s i) :=
  foldl_pauseItem_dps (s := { s with dev := { s.dev with pauseReq := true } }) w
    ((mem_slotsInOrder w rfl i).2 (by simp [hf, pausable, hk])) hk

theorem pause_serves (n : Nat) (s : State) : exec (.opcPause n) s =
    serveNext 0x0005 n s noResv noChecks fun s m => settleMode (pauseAsked (deferResp s n m)) := rfl

theorem opcPause_pauses {n : Nat} {s u : State} {m : Msg} (h : Asked 0x0005 n [] s m u) (hm : s.dev.mode = .run) :
    Completes (.opcPause n) s [.dev, .mbs, .rr, .ledger, .bursts, .seqs, .fabric, .free] fun t =>
      t.dev.mode = (if slotsWhere t working = [] then .armed
          else if slotsWhere t (fun l => pausable l && l.st = .inFlight) = [] then .pause else .run)
        ∧ (t.dev.pauseReq = true ↔ t.dev.mode = .run)
        ∧ (TabWf {} s.ledger → ∀ i, (slotOf s i).kind = some .dps → (slotOf s i).st = .inFlight →
          slotOf t i = { slotOf s i with st := .held }) := by
  have q : Touch [.mbs, .rr, .fabric, .free] s (deferResp u n m) := (deferResp_touch ..).app (by decide) (asked_touch h)
  refine asked_completes h (pause_serves n s) rfl rfl ?_ (execOpcPause_touch n s)
  generalize deferResp u n m = v at q
  have hd := pauseAsked_dev v
  obtain ⟨h1, h2⟩ := settleMode_pausing (s := pauseAsked v) (by rw [hd, q.dev (by decide)]; exact hm) (by rw [hd])
  refine ⟨h1, h2, fun w i hk hf => ?_⟩
  have hs := slotOf_ledger (q.ledger (by decide))
  rw [slotOf_ledger ((settleMode_touch _).ledger (by decide)), pauseAsked_dps (by rw [q.ledger (by decide)]; exact w)
    (by rw [hs]; exact hk) (by rw [hs]; exact hf), hs]
  rfl

/-! What a resumption does to the items. -/

/-- The item as it goes on. -/
def goingItem (l : Slot) : Slot := { l with st := .inFlight }

/-- Only DPS items are held. -/
def HoldsDpsOnly (s : State) : Prop := ∀ j, (slotOf s j).st = .held → (slotOf s j).kind = some .dps

/-- A resumption where only DPS items are held: the slot's item goes on, if it is held. -/
theorem resumeItem_eq {s : State} (hd : HoldsDpsOnly s) (x : Nat) :
    resumeItem s x = if (slotOf s x).st = .held then modSlot s x goingItem else s := by
  unfold resumeItem
  by_cases c : (slotOf s x).st = .held
  · rw [if_pos c]
    dsimp only
    rw [if_neg (not_not.2 c), hd x c]
    rfl
  · rw [if_neg c]
    exact if_pos c

/-- Each slot of u is as in s, or was held in s and goes on. -/
def ResumedFrom (s u : State) : Prop :=
  TabWf {} u.ledger ∧ ∀ i, slotOf u i = slotOf s i ∨ ((slotOf s i).st = .held ∧ slotOf u i = goingItem (slotOf s i))

theorem ResumedFrom.held {s u : State} (h : ResumedFrom s u) {x : Nat} (hx : (slotOf u x).st = .held) :
    slotOf u x = slotOf s x := by
  rcases h.2 x with e | ⟨-, e⟩
  · exact e
  · rw [e] at hx; cases hx

theorem ResumedFrom.dps {s u : State} (h : ResumedFrom s u) (hd : HoldsDpsOnly s) : HoldsDpsOnly u := fun j hj => by
  have e := h.held hj
  rw [e] at hj ⊢
  exact hd j hj

theorem resumeItem_from {s : State} (hd : HoldsDpsOnly s) (u : State) (x : Nat) :
    Keeps (ResumedFrom s) u (resumeItem u x) := by
  refine ⟨fun h => ?_⟩
  rw [resumeItem_eq (h.dps hd)]
  split
  · next c =>
    refine ⟨modSlot_wf h.1 _ _, fun i => ?_⟩
    by_cases e : i = x
    · subst e
      rw [slotOf_modSlot_same _ _ _ h.1]
      have e := h.held c
      rw [e] at c ⊢
      exact .inr ⟨c, rfl⟩
    · rw [slotOf_modSlot_other _ _ _ e]; exact h.2 i
  · exact h

/-- Where only DPS items are held, each one among those named goes on. -/
theorem foldl_resumeItem_dps {s : State} (w : TabWf {} s.ledger) (hd : HoldsDpsOnly s) {l : List Nat} {i : Nat}
    (hi : i ∈ l) (hh : (slotOf s i).st = .held) : slotOf (l.foldl resumeItem s) i = goingItem (slotOf s i) := by
  refine (foldl_each (W := ResumedFrom s) (I := fun j u => (slotOf s j).st = .held → slotOf u j = goingItem (slotOf s j))
    (g := resumeItem) (resumeItem_from hd) (fun u x h hx => ?_) (fun u x y h hy hy' => ?_) l
    ⟨w, fun _ => .inl rfl⟩).2 i (.inr hi) hh
  · rw [resumeItem_eq (h.dps hd)]
    split
    · next c => rw [slotOf_modSlot_same _ _ _ h.1, h.held c]
    · next c =>
      rcases h.2 x with e | ⟨-, e⟩
      · rw [e] at c; exact absurd hx c
      · exact e
  · have e := hy hy'
    rw [resumeItem_eq (h.dps hd)]
    split
    · next c =>
      have hne : y ≠ x := by rintro rfl; rw [e] at c; cases c
      rw [slotOf_modSlot_other _ _ _ hne, e]
    · exact e

/-- RUN entered, and every held item asked to go on. -/
def resumed (s : State) : State := (slotsInOrder s fun l => l.st = .held).foldl resumeItem (setMode s .run)

theorem resumed_dev (s : State) : (resumed s).dev = (setMode s .run).dev :=
  (Touch.foldl (Touch.refl _ _) resumeItem_touch).dev (by decide)

theorem resumed_dps {s : State} (w : TabWf {} s.ledger) (hd : HoldsDpsOnly s) {i : Nat} (hh : (slotOf s i).st = .held) :
    slotOf (resumed s) i = goingItem (slotOf s i) := by
  have e : (setMode s .run).ledger = s.ledger := (setMode_touch ..).ledger (by decide)
  have hs := slotOf_ledger e
  have := foldl_resumeItem_dps (s := setMode s .run) (by rw [e]; exact w) (fun j hj => by rw [hs] at hj ⊢; exact hd j hj)
    ((mem_slotsInOrder (s := s) (p := fun l => l.st = .held) w rfl i).2 (decide_eq_true hh)) (by rw [hs]; exact hh)
  rwa [hs] at this

theorem resume_serves (n : Nat) (s : State) : exec (.opcResume n) s =
    serveNext 0x0006 n s noResv noChecks fun s m => settleMode (done (resumed s) n m 0 []) := rfl

theorem opcResume_resumes {n : Nat} {s u : State} {m : Msg} (h : Asked 0x0006 n [] s m u) (hm : s.dev.mode = .pause)
    (hp : s.dev.pauseReq = false) :
    Completes (.opcResume n) s [.dev, .mbs, .rr, .ledger, .chans, .pebs, .bursts, .seqs, .queues, .fabric, .free] fun t =>
      t.dev.mode = (if slotsWhere t working = [] then .armed else .run)
        ∧ (TabWf {} s.ledger → (∀ j, (slotOf s j).st = .held → (slotOf s j).kind = some .dps) →
          ∀ i, (slotOf s i).st = .held → slotOf t i = { slotOf s i with st := .inFlight }) := by
  have q := asked_touch h
  refine asked_completes h (resume_serves n s) rfl rfl ?_ (execOpcResume_touch n s)
  have r : Touch [.mbs, .fabric] (resumed u) (done (resumed u) n m 0 []) := done_touch ..
  have hd : (done (resumed u) n m 0 []).dev = (setMode u .run).dev := (r.dev (by decide)).trans (resumed_dev u)
  refine ⟨settleMode_running ?_ ?_, fun w hk i hh => ?_⟩
  · rw [hd]; exact setMode_mode ..
  · rw [hd, setMode_new (by rw [q.dev (by decide), hm]; nofun)]
    show u.dev.pauseReq = false
    rw [q.dev (by decide), hp]
  · have hs := slotOf_ledger (q.ledger (by decide))
    rw [slotOf_ledger ((settleMode_touch _).ledger (by decide)), slotOf_ledger (r.ledger (by decide)),
      resumed_dps (by rw [q.ledger (by decide)]; exact w)
      (fun j hj => by rw [hs] at hj ⊢; exact hk j hj) (by rw [hs]; exact hh), hs]
    rfl

end Sys2Proof.Machine
end

section
/-! PROOFS. OPC_ARM (R116, R278): the mapped channels connected, and their PEBs at the background vector. -/

namespace Sys2Proof.Machine

/-! What a PEB at rest plays leaves of its channels' switches. -/

theorem mem_pebChans {p c : Nat} : c ∈ pebChans p ↔ c / 64 = p := by
  unfold pebChans
  rw [List.mem_map]
  constructor
  · rintro ⟨k, hk, rfl⟩
    have := List.mem_range.1 hk
    omega
  · rintro rfl
    exact ⟨c % 64, List.mem_range.2 (Nat.mod_lt _ (by decide)), by omega⟩

theorem pebChans_nodup (p : Nat) : (pebChans p).Nodup :=
  List.nodup_range.map fun _ _ h => Nat.add_left_cancel h

/-- The disconnect of a channel, and what OPC_ARM left of it. -/
def switches (x : Chan) : Bool × Bool := (x.closed, x.armed)

/-- Playing changes the channels of the PEB alone, and no switch of theirs. -/
theorem idlePeb_chans (s : State) (p : Nat) (start : Int) (sym : Nat → Nat) :
    ∃ f, (idlePeb s p start sym).chans = tmods {} s.chans (pebChans p) f ∧ ∀ k x, switches (f k x) = switches x := by
  unfold idlePeb pebChans
  dsimp only
  exact ⟨_, rfl, fun _ _ => rfl⟩

theorem chanOf_idlePeb {s : State} (w : TabWf {} s.chans) (p c : Nat) (start : Int) (sym : Nat → Nat) :
    switches (chanOf (idlePeb s p start sym) c) = switches (chanOf s c)
      ∧ (c / 64 ≠ p → chanOf (idlePeb s p start sym) c = chanOf s c) := by
  obtain ⟨f, e, hf⟩ := idlePeb_chans s p start sym
  unfold chanOf
  rw [e, tget_tmods_nodup _ _ _ _ w (pebChans_nodup p), if_congr mem_pebChans rfl rfl]
  split
  · next h => exact ⟨hf .., fun g => absurd h g⟩
  · exact ⟨rfl, fun _ => rfl⟩

theorem wf_of_tmods {α : Type} [DecidableEq α] {d : α} {t r : Tab α} {ks : List Nat} {f : Nat → α → α}
    (e : r = tmods d t ks f) (w : TabWf d t) : TabWf d r := by
  subst e
  exact tmods_wf w ks f

/-- The channels and the PEBs stand in canonical form. -/
structure PinsWf (s : State) : Prop where
  chans : TabWf {} s.chans
  pebs : TabWf {} s.pebs

theorem idlePeb_wf (s : State) (p : Nat) (start : Int) (sym : Nat → Nat) : Keeps PinsWf s (idlePeb s p start sym) := by
  have k := idlePeb_touch s p start sym
  obtain ⟨f, e, -⟩ := idlePeb_chans s p start sym
  generalize idlePeb s p start sym = t at k e
  exact ⟨fun w => ⟨wf_of_tmods e w.chans, by rw [k.pebs (by decide)]; exact w.pebs⟩⟩

/-! A PEB that is armed. -/

/-- A PEB whose rest is the background vector at TS0. -/
def armedPeb (x : Peb) : Peb := { x with rest := .armed, restTs := 0 }

/-- The PEB put to rest at the background vector and TS0, before it plays. -/
def atRest (s : State) (p : Nat) : State :=
  modPeb (modPeb s p fun x => { x with rest := .armed }) p fun x => { x with restTs := 0 }

theorem modPeb_wf {s : State} (w : TabWf {} s.pebs) (p : Nat) (f : Peb → Peb) : TabWf {} (modPeb s p f).pebs :=
  tmod_wf w _ _

theorem pebOf_atRest_own {s : State} (w : TabWf {} s.pebs) (p : Nat) : pebOf (atRest s p) p = armedPeb (pebOf s p) := by
  rw [atRest, pebOf_modPeb_same _ _ _ (modPeb_wf w _ _), pebOf_modPeb_same _ _ _ w]
  rfl

theorem pebOf_atRest_other (s : State) {p k : Nat} (h : k ≠ p) : pebOf (atRest s p) k = pebOf s k := by
  rw [atRest, pebOf_modPeb_other _ _ _ h, pebOf_modPeb_other _ _ _ h]

theorem restPeb_armed {s : State} (w : TabWf {} s.pebs) (p : Nat) :
    restPeb s p .armed = idlePeb (atRest s p) p 0 (backSymbol (atRest s p) p) := by
  have hr : (pebOf (atRest s p) p).rest = .armed := by rw [pebOf_atRest_own w]; rfl
  show replayRest (atRest s p) p = _
  unfold replayRest
  rw [hr]

theorem restPeb_armed_wf (s : State) (p : Nat) : Keeps PinsWf s (restPeb s p .armed) := ⟨fun w => by
  rw [restPeb_armed w.pebs]
  exact (idlePeb_wf ..).keeps ⟨w.chans, modPeb_wf (modPeb_wf w.pebs _ _) _ _⟩⟩

theorem pebOf_restPeb_armed {s : State} (w : PinsWf s) (p k : Nat) :
    pebOf (restPeb s p .armed) k = pebOf (atRest s p) k := by
  unfold pebOf
  rw [restPeb_armed w.pebs, (idlePeb_touch ..).pebs (by decide)]

theorem chanOf_restPeb_armed {s : State} (w : PinsWf s) (p c : Nat) :
    switches (chanOf (restPeb s p .armed) c) = switches (chanOf s c)
      ∧ (c / 64 ≠ p → chanOf (restPeb s p .armed) c = chanOf s c) := by
  have wr : TabWf {} (atRest s p).chans := w.chans
  rw [restPeb_armed w.pebs]
  exact chanOf_idlePeb wr ..

/-! Several PEBs that are armed. -/

/-- The PEBs given go to rest at the background vector. -/
def armPebs (s : State) (ps : List Nat) : State := ps.foldl (fun s p => restPeb s p .armed) s

theorem armPebs_touch (s : State) (ps : List Nat) : Touch [.chans, .pebs] s (armPebs s ps) :=
  Touch.foldl (Touch.refl _ _) fun _ _ => restPeb_touch ..

theorem armPebs_rest {s : State} (w : PinsWf s) {ps : List Nat} {p : Nat} (hp : p ∈ ps) :
    (pebOf (armPebs s ps) p).rest = .armed ∧ (pebOf (armPebs s ps) p).restTs = 0 := by
  refine (foldl_each (W := PinsWf) (I := fun p u => (pebOf u p).rest = .armed ∧ (pebOf u p).restTs = 0)
    (g := fun u p => restPeb u p .armed) restPeb_armed_wf (fun u x wu => ?_) (fun u x y wu hy => ?_) ps w).2 p (.inr hp)
  · rw [pebOf_restPeb_armed wu, pebOf_atRest_own wu.pebs]; exact ⟨rfl, rfl⟩
  · rw [pebOf_restPeb_armed wu]
    by_cases e : y = x
    · subst e; rw [pebOf_atRest_own wu.pebs]; exact ⟨rfl, rfl⟩
    · rw [pebOf_atRest_other u e]; exact hy

theorem armPebs_switches {s : State} (w : PinsWf s) (ps : List Nat) (c : Nat) :
    switches (chanOf (armPebs s ps) c) = switches (chanOf s c) := by
  induction ps generalizing s with
  | nil => rfl
  | cons p ps ih => exact (ih ((restPeb_armed_wf s p).keeps w)).trans (chanOf_restPeb_armed w p c).1

theorem armPebs_apart {s : State} (w : PinsWf s) {ps : List Nat} {c : Nat} (h : c / 64 ∉ ps) :
    chanOf (armPebs s ps) c = chanOf s c := by
  induction ps generalizing s with
  | nil => rfl
  | cons p ps ih =>
    rw [List.mem_cons, not_or] at h
    exact (ih ((restPeb_armed_wf s p).keeps w) h.2).trans ((chanOf_restPeb_armed w p c).2 h.1)

/-! The effect of OPC_ARM. -/

/-- The channels of a map on the PEBs that take part. -/
def armChans (s : State) (map : Tab Byte) : List Nat :=
  (mappedIn map).filter fun c => unitState s (c / 64) = .active || unitState s (c / 64) = .quiescing

/-- A channel connected by OPC_ARM. -/
def connectChan (x : Chan) : Chan := { x with closed := true, armed := true }

/-- The channels of a map connected, and the request kept. -/
def connected (s : State) (map : Tab Byte) (id : Nat) (sites : BitVec 64) : State :=
  { s with
    chans := tmods {} s.chans (armChans s map) fun _ x => connectChan x
    dev := { s.dev with armedMap := map, siteEnable := sites, armedSched := some id } }

/-- The load groups of the site map strobed. -/
def armStrobed (s : State) : State := (armGroups s s.dev.siteMap).foldl strobeGroup s

theorem armStrobed_touch (s : State) : Touch [.dacs, .dps] s (armStrobed s) :=
  Touch.foldl (Touch.refl _ _) strobeGroup_touch

theorem mappedIn_lt {map : Tab Byte} {c : Nat} (h : c ∈ mappedIn map) : c < 768 := by
  obtain ⟨e, he, rfl⟩ := List.mem_map.1 h
  have := (List.mem_filter.1 he).2
  simp only [Bool.and_eq_true, decide_eq_true_eq] at this
  exact this.1

theorem mem_armChans {s : State} {map : Tab Byte} {c : Nat} : c ∈ armChans s map ↔ c ∈ mappedIn map
    ∧ (unitState s (c / 64) = .active ∨ unitState s (c / 64) = .quiescing) := by
  simp [armChans]

theorem chanOf_connected {s : State} (w : TabWf {} s.chans) (map : Tab Byte) (id : Nat) (sites : BitVec 64) (c : Nat) :
    chanOf (connected s map id sites) c = if c ∈ armChans s map then connectChan (chanOf s c) else chanOf s c := by
  show tget {} (tmods {} s.chans (armChans s map) fun _ x => connectChan x) c = _
  rw [tget_tmods {} (fun _ x => connectChan x) (fun _ _ => rfl) _ _ w]
  rfl

/-- The PEBs with a channel that is connected. -/
def armedPebs (s : State) (map : Tab Byte) : List Nat := ((armChans s map).map (· / 64)).dedup

theorem mem_armedPebs {s : State} {map : Tab Byte} {p : Nat} :
    p ∈ armedPebs s map ↔ ∃ k, k ∈ armChans s map ∧ k / 64 = p := by
  rw [armedPebs, List.mem_dedup, List.mem_map]

/-- The device as it is armed, before its mode changes. -/
def armReady (s : State) (map : Tab Byte) (id : Nat) (sites : BitVec 64) : State :=
  armPebs (connected s map id sites) (armedPebs s map)

theorem armDevice_eq (s : State) (id : Nat) (sites : BitVec 64) :
    armDevice s id sites = setMode (armReady (armStrobed s) s.dev.siteMap id sites) .armed := rfl

/-- What arming the device makes of its channels and its PEBs. -/
theorem armReady_pins {s : State} (w : PinsWf s) (map : Tab Byte) (id : Nat) (sites : BitVec 64) (c : Nat) :
    (c ∈ armChans s map → switches (chanOf (armReady s map id sites) c) = (true, true)
      ∧ (pebOf (armReady s map id sites) (c / 64)).rest = .armed ∧ (pebOf (armReady s map id sites) (c / 64)).restTs = 0)
    ∧ (c ∉ armChans s map → switches (chanOf (armReady s map id sites) c) = switches (chanOf s c))
    ∧ ((∀ k ∈ armChans s map, k / 64 ≠ c / 64) → chanOf (armReady s map id sites) c = chanOf s c) := by
  have w' : PinsWf (connected s map id sites) := ⟨wf_of_tmods rfl w.chans, w.pebs⟩
  have hc := chanOf_connected w.chans map id sites c
  refine ⟨fun h => ?_, fun h => ?_, fun h => ?_⟩
  · refine ⟨?_, armPebs_rest w' (mem_armedPebs.2 ⟨c, h, rfl⟩)⟩
    rw [armReady, armPebs_switches w', hc, if_pos h]
    rfl
  · rw [armReady, armPebs_switches w', hc, if_neg h]
  · rw [armReady, armPebs_apart w' fun g => (mem_armedPebs.1 g).elim fun k hk => h k hk.1 hk.2, hc,
      if_neg fun g => h c g rfl]

theorem armReady_dev (s : State) (map : Tab Byte) (id : Nat) (sites : BitVec 64) :
    (armReady s map id sites).dev = { s.dev with armedMap := map, siteEnable := sites, armedSched := some id } :=
  (armPebs_touch ..).dev (by decide)

/-! The request. -/

/-- The checks of OPC_ARM's own. -/
def armChecks (s : State) (m : Msg) : List (Bool × Nat × Nat) :=
  [range (15 < Msg.field m 16 1 || (schedOf s (Msg.field m 16 1)).st = .empty || (schedOf s (Msg.field m 16 1)).st = .bad) 16,
   range ((List.range 64).any fun i => bitOf (Msg.field m 24 8) i && ! bitOf (sitesUsed s.dev.siteMap) i) 24,
   range ((mappedIn s.dev.siteMap).any fun c => (pebOf s (c / 64)).group.isNone) 24]

theorem armChecks_none {s : State} {m : Msg} (hi : Msg.field m 16 1 ≤ 15)
    (he : (schedOf s (Msg.field m 16 1)).st ≠ .empty) (hb : (schedOf s (Msg.field m 16 1)).st ≠ .bad)
    (hs : ∀ i, i < 64 → bitOf (Msg.field m 24 8) i = true → bitOf (sitesUsed s.dev.siteMap) i = true)
    (hg : ∀ c ∈ mappedIn s.dev.siteMap, (pebOf s (c / 64)).group ≠ none) : firstFail (armChecks s m) = none := by
  have h1 : (decide (15 < Msg.field m 16 1) || decide ((schedOf s (Msg.field m 16 1)).st = .empty)
      || decide ((schedOf s (Msg.field m 16 1)).st = .bad)) = false := by simp [hi, he, hb]
  have h2 : ((List.range 64).any fun i => bitOf (Msg.field m 24 8) i && ! bitOf (sitesUsed s.dev.siteMap) i) = false := by
    rw [List.any_eq_false]
    intro i hi
    simpa using hs i (List.mem_range.1 hi)
  have h3 : ((mappedIn s.dev.siteMap).any fun c => (pebOf s (c / 64)).group.isNone) = false := by
    rw [List.any_eq_false]
    intro c hc
    simpa using hg c hc
  unfold armChecks
  rw [h1, h2, h3]
  rfl

theorem opcArm_serves (n : Nat) (s : State) : exec (.opcArm n) s = serveNext 0x0003 n s (resvAt [(17, 7)]) armChecks
    fun s m => done (armDevice s (Msg.field m 16 1) (BitVec.ofNat 64 (Msg.field m 24 8))) n m 0 [] := rfl

/-- The channels that OPC_ARM connects. -/
def ArmConnects (s : State) (c : Nat) : Prop := c ∈ mappedIn s.dev.siteMap
  ∧ (unitState s (c / 64) = .active ∨ unitState s (c / 64) = .quiescing)

theorem mem_armChans_iff {s t : State} (hu : t.units = s.units) {c : Nat} :
    c ∈ armChans t s.dev.siteMap ↔ ArmConnects s c := by
  rw [mem_armChans, ArmConnects]
  refine and_congr_right fun hc => ?_
  have := mappedIn_lt hc
  rw [unitState_units hu (by omega)]

theorem opcArm_arms {n : Nat} {s u : State} {m : Msg} (h : Asked 0x0003 n [] s m u) (wc : TabWf {} s.chans)
    (wp : TabWf {} s.pebs) (hm : s.dev.mode = .idle) (hi : Msg.field m 16 1 ≤ 15)
    (he : (schedOf s (Msg.field m 16 1)).st ≠ .empty) (hb : (schedOf s (Msg.field m 16 1)).st ≠ .bad)
    (hs : ∀ i, i < 64 → bitOf (Msg.field m 24 8) i = true → bitOf (sitesUsed s.dev.siteMap) i = true)
    (hg : ∀ c ∈ mappedIn s.dev.siteMap, (pebOf s (c / 64)).group ≠ none) :
    Completes (.opcArm n) s [.dev, .mbs, .rr, .dacs, .chans, .pebs, .dps, .fabric, .free] fun t =>
      t.dev.mode = .armed ∧ t.dev.prev = .idle ∧ t.dev.armedMap = s.dev.siteMap
        ∧ t.dev.siteEnable = BitVec.ofNat 64 (Msg.field m 24 8) ∧ t.dev.armedSched = some (Msg.field m 16 1)
        ∧ (∀ c, (ArmConnects s c → (chanOf t c).closed = true ∧ (chanOf t c).armed = true)
          ∧ (¬ ArmConnects s c → (chanOf t c).closed = (chanOf s c).closed ∧ (chanOf t c).armed = (chanOf s c).armed))
        ∧ (∀ c, ArmConnects s c → (pebOf t (c / 64)).rest = .armed ∧ (pebOf t (c / 64)).restTs = 0)
        ∧ ∀ c, (∀ k, ArmConnects s k → k / 64 ≠ c / 64) → chanOf t c = chanOf s c := by
  have q := asked_touch h
  have hr : resvAt [(17, 7)] m = false := by
    obtain ⟨ht, -, hr, -⟩ := id h
    unfold commandReserved at hr
    rw [taken_op ht] at hr
    exact hr
  have ho : firstFail (armChecks u m) = none := by
    refine armChecks_none hi ?_ ?_ (by rw [q.dev (by decide)]; exact hs) ?_
    · unfold schedOf at *; rw [q.cfg (by decide)]; exact he
    · unfold schedOf at *; rw [q.cfg (by decide)]; exact hb
    · unfold pebOf at *; rw [q.dev (by decide), q.pebs (by decide)]; exact hg
  refine asked_completes h (opcArm_serves n s) hr ho ?_ (execOpcArm_touch n s)
  have k : Touch [.dacs, .dps, .mbs, .rr, .fabric, .free] s (armStrobed u) :=
    ((armStrobed_touch u).mono (by decide)).trans (q.mono (by decide))
  generalize hv : armReady (armStrobed u) u.dev.siteMap (Msg.field m 16 1) (BitVec.ofNat 64 (Msg.field m 24 8)) = v
  have hd : v.dev = { s.dev with armedMap := s.dev.siteMap, siteEnable := BitVec.ofNat 64 (Msg.field m 24 8)
                                 armedSched := some (Msg.field m 16 1) } := by
    rw [← hv, armReady_dev, k.dev (by decide), q.dev (by decide)]
  have hpins := armReady_pins (s := armStrobed u)
    ⟨by rw [k.chans (by decide)]; exact wc, by rw [k.pebs (by decide)]; exact wp⟩ u.dev.siteMap
    (Msg.field m 16 1) (BitVec.ofNat 64 (Msg.field m 24 8))
  rw [hv, q.dev (by decide)] at hpins
  have hch : ∀ c, chanOf (armStrobed u) c = chanOf s c := fun c => by unfold chanOf; rw [k.chans (by decide)]
  simp only [mem_armChans_iff (k.units (by decide)), hch] at hpins
  rw [armDevice_eq, hv]
  generalize ht : done _ n m 0 [] = t
  have r : Touch [.dev, .mbs, .fabric] v t := by
    rw [← ht]; exact (done_touch ..).app (by decide) ((setMode_touch ..).mono (by decide))
  have kd : t.dev = { v.dev with mode := .armed, prev := .idle, changes := v.dev.changes + 1 } := by
    rw [← ht, (done_touch ..).dev (by decide), setMode_new (by rw [hd]; show s.dev.mode ≠ _; rw [hm]; nofun), hd]
    show _ = _
    rw [← hm]
  have tc : ∀ c, chanOf t c = chanOf v c := fun c => by unfold chanOf; rw [r.chans (by decide)]
  have tp : ∀ p, pebOf t p = pebOf v p := fun p => by unfold pebOf; rw [r.pebs (by decide)]
  rw [kd, hd]
  refine ⟨rfl, rfl, rfl, rfl, rfl, fun c => ?_, fun c hc => ?_, fun c hc => ?_⟩
  · obtain ⟨h1, h2, -⟩ := hpins c
    rw [tc]
    exact ⟨fun g => Prod.mk.inj (h1 g).1, fun g => Prod.mk.inj (h2 g)⟩
  · rw [tp]; exact ((hpins c).1 hc).2
  · rw [tc]; exact (hpins c).2.2 hc

end Sys2Proof.Machine
end

section
/-! PROOFS. The mode requests together (Tables 4.2, 6.9). -/

namespace Sys2Proof.Machine

/-- Settles O38: each clause is the lemma of its request. -/
theorem modeRequestsChangeTheMode : Obligations.ModeRequestsChangeTheMode := by
  intro n s u m
  refine ⟨opcDeviceStart_starts, opcArm_arms,
    fun h => ⟨fun _ hb => opcDisarm_blocked h hb, fun hb hd => opcDisarm_again h hb hd,
      fun hb hd hm w => ⟨opcDisarm_slews h hb hd hm w, opcDisarm_ends h hb hd hm w⟩⟩,
    opcPause_pauses, opcResume_resumes, opcDiagEnter_enters, fun h => ⟨opcDiagExit_loaded h, opcDiagExit_exits h⟩,
    fun h => ⟨opcBypassEnter_loaded h, opcBypassEnter_idle h⟩, fun h => ⟨opcBypassExit_low h, opcBypassExit_exits h⟩,
    fordDrainDone_closes, fordDrainDone_idle⟩

end Sys2Proof.Machine
end

section
/-! PROOFS. The order in which a request is judged (R85, R102, R103, R367, Table 6.2). -/

namespace Sys2Proof.Machine

/-- Past the early checks, a reserved field of the command stops the machine: only sixteen commands have one. -/
theorem exec_commandReserved {c : Instr} {op n : Nat} {rem : Remote} {s u : State} {m : Msg}
    (hc : requestOf c = some (op, n, rem)) (ht : Taken op n s m u) (hh : headReserved m = false)
    (he : firstFail (earlyChecks u n rem m) = none) (hr : commandReserved m = true) : Misuses c s .reservedField := by
  unfold commandReserved at hr
  rw [taken_op ht] at hr
  obtain ⟨h1, h2, h3⟩ := ht
  unfold requestOf at hc
  split at hc
  all_goals cases hc
  all_goals try exact absurd hr Bool.false_ne_true
  all_goals
    unfold Misuses
    dsimp only [exec, serveNext, execOpcArm, execOpcNoticeConfig, execOpcItemSubmit, execOpcLedgerRetire,
      execOpcSyncConfig, execOpcSyncMeasure, execOpcTrigConfig, execOpcDpsConfig, execOpcSineConfig,
      execOpcLaneConfig, execOpcLoadGroup, execOpcScheduleLoad, execOpcLayerFree, execOpcMseqLoad, execOpcBootServe,
      execOpcServiceBegin]
    exact serve_misuse ⟨h1, h2⟩ h3 hh he hr

/-- A request of an unknown opcode, its header in order, is refused (R102). -/
theorem unknownOpcode_refused {n op : Nat} {s u : State} {m : Msg} (ht : Taken op n s m u) (hm : modesOf op = none)
    (hh : headReserved m = false) : exec (.unknownOpcodeRequest n) s = .next (refuse u n m (0x10, 0)) := by
  obtain ⟨h1, h2, h3⟩ := ht
  show execUnknownOpcodeRequest n s = _
  unfold execUnknownOpcodeRequest
  rw [if_pos ⟨h1, by rw [h2]; exact hm⟩, h3]
  exact if_neg (by rw [hh]; nofun)

/-- What a refusal changes of the state the request found. -/
theorem taken_refuse_touch {op n : Nat} {s u : State} {m : Msg} (h : Taken op n s m u) (e : Nat × Nat) :
    Touch [.mbs, .rr, .fabric, .free] s (refuse u n m e) :=
  (refuse_touch u n m e).app (by decide) (taken_touch h)

/-- Settles O28: every request command is `serve` of its opcode (`exec_request`), whose branches are the lemmas of
`serve`; the reserved fields of each command are those of `commandReserved`. -/
theorem requestsAreCheckedInOrder : Obligations.RequestsAreCheckedInOrder := by
  refine ⟨fun c op n rem s hc => ?_, fun n s u m op ht hm hh => ?_, fun n s h => ?_⟩
  · obtain ⟨resv, own, run, e⟩ := exec_request hc s
    refine ⟨fun h => e.trans (serve_idle h), fun m u ht => ?_⟩
    obtain ⟨h1, h2, h3⟩ := id ht
    exact ⟨fun hh => e.trans (serve_reserved ⟨h1, h2⟩ h3 hh),
      fun hh r he => ⟨_, e.trans (serve_refused ⟨h1, h2⟩ h3 hh he), rfl, taken_refuse_touch ht r⟩,
      fun hh he hr => exec_commandReserved hc ht hh he hr⟩
  · exact ⟨_, unknownOpcode_refused ht hm hh, rfl, taken_refuse_touch ht _⟩
  · exact if_neg fun ⟨h1, h2⟩ => h h1 h2

end Sys2Proof.Machine
end

section
/-! PROOFS. Writes to the mailbox registers and to the request entries (R79 to R81). -/

namespace Sys2Proof.Machine

/-! MBn_DOORBELL (R80). -/

/-- The mailbox after a write of h to the head of a ring that the window serves. -/
def headWritten (b : Mailbox) (h : BitVec 9) : Mailbox :=
  if h = b.reqHead then b
  else if occupancy h b.reqTail ≤ 256 ∧ occupancy b.reqHead b.reqTail ≤ occupancy h b.reqTail then { b with reqHead := h }
  else { b with dbOverrun := true }

theorem headWritten_reqTail (b : Mailbox) (h : BitVec 9) : (headWritten b h).reqTail = b.reqTail := by
  unfold headWritten; split_ifs <;> rfl

theorem headWritten_path (b : Mailbox) (h : BitVec 9) : (headWritten b h).path = b.path := by
  unfold headWritten; split_ifs <;> rfl

theorem headWritten_reqHead (b : Mailbox) (h : BitVec 9) : (headWritten b h).reqHead =
    if occupancy h b.reqTail ≤ 256 ∧ occupancy b.reqHead b.reqTail ≤ occupancy h b.reqTail then h else b.reqHead := by
  unfold headWritten
  by_cases hs : h = b.reqHead
  · simp [hs]
  · rw [if_neg hs]; split <;> rfl

theorem headWritten_overrun {b : Mailbox} {h : BitVec 9} (hn : h ≠ b.reqHead)
    (hr : ¬ (occupancy h b.reqTail ≤ 256 ∧ occupancy b.reqHead b.reqTail ≤ occupancy h b.reqTail)) :
    (headWritten b h).dbOverrun = true := by
  unfold headWritten; rw [if_neg hn, if_neg hr]

variable {s : State} {n : Nat}

theorem writeHead_serves (hw : TabWf {} s.mbs) (hs : windowServes s n = true) (h : BitVec 9) :
    mbOf (writeHead s n h) n = headWritten (mbOf s n) h ∧ ∀ k, k ≠ n → mbOf (writeHead s n h) k = mbOf s k := by
  unfold writeHead headWritten
  dsimp only
  rw [if_neg (not_not.2 hs)]
  split_ifs
  · exact ⟨rfl, fun _ _ => rfl⟩
  all_goals exact ⟨mbOf_modMb_same _ _ _ hw, fun _ hk => mbOf_modMb_other _ _ _ hk⟩

/-- Whether the window serves a mailbox depends on the PATH of MB0 alone. -/
theorem windowServes_path {t : State} (h : (mbOf t 0).path = (mbOf s 0).path) : windowServes t n = windowServes s n := by
  unfold windowServes; rw [h]

/-- The mailbox with the flags cleared that a doorbell write clears. -/
def doorbellFlags (v : Word) (b : Mailbox) : Mailbox :=
  { b with dbOverrun := b.dbOverrun && ! v.getLsbD 31, entryBlocked := b.entryBlocked && ! v.getLsbD 30 }

/-- A doorbell write without its PATH part. -/
def headPart (s : State) (n : Nat) (v : Word) : State := writeHead (modMb s n (doorbellFlags v)) n (v.setWidth 9)

theorem headPart_touch (s : State) (n : Nat) (v : Word) : Touch [.mbs] s (headPart s n v) :=
  (writeHead_touch ..).trans (modMb_touch ..)

theorem headPart_serves (hw : TabWf {} s.mbs) (hs : windowServes s n = true) (v : Word) :
    mbOf (headPart s n v) n = headWritten (doorbellFlags v (mbOf s n)) (v.setWidth 9)
      ∧ ∀ k, k ≠ n → mbOf (headPart s n v) k = mbOf s k := by
  have hp : (mbOf (modMb s n (doorbellFlags v)) 0).path = (mbOf s 0).path := by
    by_cases h0 : n = 0
    · subst h0; rw [mbOf_modMb_same _ _ _ hw]; rfl
    · rw [mbOf_modMb_other _ _ _ (Ne.symm h0)]
  obtain ⟨h1, h2⟩ := writeHead_serves (modMb_wf hw n (doorbellFlags v)) ((windowServes_path hp).trans hs) (v.setWidth 9)
  exact ⟨h1.trans (by rw [mbOf_modMb_same _ _ _ hw]), fun k hk => (h2 k hk).trans (mbOf_modMb_other _ _ _ hk)⟩

theorem writeDoorbell_other (h : n ≠ 0) (v : Word) : writeDoorbell s n v = headPart s n v := if_neg h

/-- A write that leaves PATH as it is moves the head alone. -/
theorem writeDoorbell_samePath {v : Word} (h : (mbOf (headPart s 0 v) 0).path = v.getLsbD 29) :
    writeDoorbell s 0 v = headPart s 0 v := by
  show writePath (headPart s 0 v) (v.getLsbD 29) = _
  exact if_neg fun g => g.1 h.symm

theorem mbDoorbellWrite_next (hr : inReset s = false) (hn : n < 4) (v : Word) :
    exec (.mbDoorbellWrite n v) s = .next (writeDoorbell s n v) := if_neg (by simp [hr, hn])

/-- A doorbell write to MB3: MB0 alone has a PATH. -/
theorem mbDoorbellWrite_head (hr : inReset s = false) (hn : n < 4) (hw : TabWf {} s.mbs)
    (hs : windowServes s n = true) (h0 : n ≠ 0) (v : Word) :
    Completes (.mbDoorbellWrite n v) s [.mbs] fun t =>
      mbOf t n = headWritten (doorbellFlags v (mbOf s n)) (v.setWidth 9) ∧ ∀ k, k ≠ n → mbOf t k = mbOf s k :=
  ⟨_, (mbDoorbellWrite_next hr hn v).trans (by rw [writeDoorbell_other h0]), headPart_serves hw hs v, headPart_touch ..⟩

/-- A doorbell write to MB0 that leaves PATH 0. -/
theorem mbDoorbellWrite_mb0 (hr : inReset s = false) (hw : TabWf {} s.mbs) (hs : windowServes s 0 = true) {v : Word}
    (hv : v.getLsbD 29 = false) : Completes (.mbDoorbellWrite 0 v) s [.mbs] fun t =>
      mbOf t 0 = headWritten (doorbellFlags v (mbOf s 0)) (v.setWidth 9) ∧ (mbOf t 0).path = false := by
  obtain ⟨h1, -⟩ := headPart_serves hw hs v
  have hp : (mbOf (headPart s 0 v) 0).path = false := by
    rw [h1, headWritten_path]
    show (mbOf s 0).path = false
    simpa [windowServes] using hs
  exact ⟨_, (mbDoorbellWrite_next hr (by decide) v).trans (by rw [writeDoorbell_samePath (hp.trans hv.symm)]),
    ⟨h1, hp⟩, headPart_touch ..⟩

/-! MBn_RSP_INDEX (R80). -/

/-- The mailbox with what an index write changes beside RSP_TAIL. -/
def indexFlags (n : Nat) (v : Word) (b : Mailbox) : Mailbox :=
  { b with tailErr := b.tailErr && ! v.getLsbD 31, alertEn := if n = 0 ∨ n = 3 then v.getLsbD 30 else b.alertEn }

theorem writeTail_serves (hw : TabWf {} s.mbs) (hs : windowServes s n = true) (x : BitVec 9) :
    let b := mbOf s n
    let c := mbOf (writeTail s n x) n
    c.rspHead = b.rspHead ∧ c.rspTail = (if (x - b.rspTail).toNat ≤ occupancy b.rspHead b.rspTail then x else b.rspTail)
      ∧ (occupancy b.rspHead b.rspTail < (x - b.rspTail).toNat → c.tailErr = true) := by
  unfold writeTail
  dsimp only
  by_cases hx : x = (mbOf s n).rspTail
  · rw [if_pos hx]
    exact ⟨rfl, by simp [hx], fun h => by rw [hx] at h; simp at h⟩
  · rw [if_neg hx]
    by_cases hl : (x - (mbOf s n).rspTail).toNat ≤ occupancy (mbOf s n).rspHead (mbOf s n).rspTail
    · rw [if_pos ⟨hs, hl⟩, if_pos hl, mbOf_modMb_same _ _ _ hw]
      exact ⟨rfl, rfl, fun h => absurd hl (Nat.not_le.2 h)⟩
    · rw [if_neg (fun g => hl g.2), if_neg hl, mbOf_modMb_same _ _ _ hw]
      exact ⟨rfl, rfl, fun _ => rfl⟩

theorem rspTailWrite_completes (hr : inReset s = false) (hn : n < 4) (hw : TabWf {} s.mbs)
    (hs : windowServes s n = true) (v : Word) : Completes (.rspTailWrite n v) s [.mbs] fun t =>
      let b := mbOf s n
      let x : BitVec 9 := (v >>> 16).setWidth 9
      (mbOf t n).rspHead = b.rspHead
        ∧ (mbOf t n).rspTail = (if (x - b.rspTail).toNat ≤ occupancy b.rspHead b.rspTail then x else b.rspTail)
        ∧ (occupancy b.rspHead b.rspTail < (x - b.rspTail).toNat → (mbOf t n).tailErr = true) := by
  have hp : (mbOf (modMb s n (indexFlags n v)) 0).path = (mbOf s 0).path := by
    by_cases h0 : n = 0
    · subst h0; rw [mbOf_modMb_same _ _ _ hw]; rfl
    · rw [mbOf_modMb_other _ _ _ (Ne.symm h0)]
  have h := writeTail_serves (modMb_wf hw n (indexFlags n v)) ((windowServes_path hp).trans hs) ((v >>> 16).setWidth 9)
  rw [mbOf_modMb_same _ _ _ hw] at h
  exact ⟨_, if_neg (by simp [hr, hn]), h, writeRspIndex_touch ..⟩

/-! Request entries (R79, R80). -/

theorem msgWord_bit (m : Msg) (k i : Nat) : (msgWord m k).getLsbD i = (decide (i < 32) && m.getLsbD (32 * k + i)) := by
  unfold msgWord Msg.field
  rw [BitVec.getLsbD_ofNat, Nat.testBit_mod_two_pow, Nat.testBit_shiftRight, BitVec.getLsbD]
  rw [show 8 * (4 * k) + i = 32 * k + i by omega]
  by_cases h : i < 32 <;> simp [h]

/-- Message m with word k replaced. -/
def putWord (m : Msg) (k : Nat) (v : Word) : Msg :=
  (m &&& ~~~(0xFFFFFFFF#512 <<< (32 * k))) ||| (v.setWidth 512 <<< (32 * k))

theorem putWord_bit {m : Msg} {k i : Nat} {v : Word} (hi : i < 512) : (putWord m k v).getLsbD i =
    if 32 * k ≤ i ∧ i < 32 * k + 32 then v.getLsbD (i - 32 * k) else m.getLsbD i := by
  unfold putWord
  have h1 : (0xFFFFFFFF#512).getLsbD (i - 32 * k) = decide (i - 32 * k < 32) := by
    rw [show (0xFFFFFFFF#512) = BitVec.ofNat 512 (2 ^ 32 - 1) from rfl, BitVec.getLsbD_ofNat, Nat.testBit_two_pow_sub_one]
    simp; omega
  rw [BitVec.getLsbD_or, BitVec.getLsbD_and, BitVec.getLsbD_not, BitVec.getLsbD_shiftLeft, BitVec.getLsbD_shiftLeft,
    BitVec.getLsbD_setWidth, h1]
  by_cases hl : i < 32 * k
  · simp [hi, hl, show ¬ 32 * k ≤ i by omega]
  · by_cases hu : i < 32 * k + 32
    · simp [hi, hl, hu, show 32 * k ≤ i by omega, show i - 32 * k < 32 by omega, show i - 32 * k < 512 by omega]
    · have : v.getLsbD (i - 32 * k) = false := BitVec.getLsbD_of_ge _ _ (by omega)
      simp [hi, hl, hu, this, show ¬ i - 32 * k < 32 by omega]

theorem msgWord_putWord_same (m : Msg) {k : Nat} (hk : k < 16) (v : Word) : msgWord (putWord m k v) k = v := by
  apply BitVec.eq_of_getLsbD_eq
  intro i hi
  rw [msgWord_bit, putWord_bit (by omega), if_pos (by omega), Nat.add_sub_cancel_left]
  simp [hi]

theorem msgWord_putWord_other (m : Msg) {j k : Nat} (hj : j < 16) (hjk : j ≠ k) (v : Word) :
    msgWord (putWord m k v) j = msgWord m j := by
  apply BitVec.eq_of_getLsbD_eq
  intro i hi
  rw [msgWord_bit, msgWord_bit, putWord_bit (by omega), if_neg (by omega)]

theorem requestEntryWrite_completes (hr : inReset s = false) (hn : n < 4) {e k : Nat} (he : e < 256) (hk : k < 16)
    (hw : TabWf {} s.mbs) (hq : TabWf 0 (mbOf s n).req) (v : Word) :
    Completes (.requestEntryWrite n e k v) s [.mbs] fun t =>
      (windowServes s n = true → entryFree (mbOf s n) e = true →
        msgWord (tget 0 (mbOf t n).req e) k = v ∧ (mbOf t n).entryBlocked = (mbOf s n).entryBlocked
          ∧ ∀ j, j < 16 → j ≠ k → msgWord (tget 0 (mbOf t n).req e) j = msgWord (tget 0 (mbOf s n).req e) j)
      ∧ (¬ (windowServes s n = true ∧ entryFree (mbOf s n) e = true) →
        (mbOf t n).req = (mbOf s n).req ∧ (mbOf t n).entryBlocked = true) := by
  refine ⟨writeEntry s n e k v, if_neg (by simp [hr, hn, he, hk]), ?_, writeEntry_touch ..⟩
  by_cases hf : windowServes s n = true ∧ entryFree (mbOf s n) e = true
  · have h : writeEntry s n e k v
        = modMb s n fun b => { b with req := tset 0 b.req e (putWord (tget 0 (mbOf s n).req e) k v) } := if_pos hf
    rw [h]
    dsimp only
    rw [mbOf_modMb_same _ _ _ hw]
    refine ⟨fun _ _ => ?_, fun g => absurd hf g⟩
    rw [tget_tset_same hq]
    exact ⟨msgWord_putWord_same _ hk v, rfl, fun j hj hjk => msgWord_putWord_other _ hj hjk v⟩
  · have h : writeEntry s n e k v = modMb s n fun b => { b with entryBlocked := true } := if_neg hf
    rw [h]
    dsimp only
    rw [mbOf_modMb_same _ _ _ hw]
    exact ⟨fun h1 h2 => absurd ⟨h1, h2⟩ hf, fun _ => ⟨rfl, rfl⟩⟩

/-! PATH of MB0 (R81). -/

/-- With both rings empty a change of PATH sends nothing. -/
theorem writePath_empty (hw : TabWf {} s.mbs) (hq : (mbOf s 0).reqHead = (mbOf s 0).reqTail)
    (hr : (mbOf s 0).rspHead = (mbOf s 0).rspTail) (p : Bool) :
    mbOf (writePath s p) 0 = { mbOf s 0 with path := p } ∧ Touch [.mbs, .fabric] s (writePath s p) := by
  have hm : mbOf (modMb s 0 fun b => { b with path := p }) 0 = { mbOf s 0 with path := p } := mbOf_modMb_same _ _ _ hw
  have hk : Touch [.mbs, .fabric] s (modMb s 0 fun b => { b with path := p }) := (modMb_touch ..).mono (by decide)
  unfold writePath
  dsimp only
  by_cases hp : p = (mbOf s 0).path
  · rw [if_neg (fun g => g.1 hp)]
    exact ⟨by rw [hp], Touch.refl _ _⟩
  · rw [if_pos ⟨hp, hq⟩, show occupancy (mbOf s 0).rspHead (mbOf s 0).rspTail = 0 by simp [occupancy, hr]]
    split
    · exact ⟨hm, hk⟩
    · exact ⟨hm, Touch.set_fabric (by decide) hk⟩

theorem mb0PathChange_waits (h : (mbOf s 0).reqHead ≠ (mbOf s 0).reqTail) (p : Bool) : Idle (.mb0PathChange p) s := by
  have hs : writePath s p = s := if_neg fun g => h g.2
  show execMb0PathChange p s = _
  unfold execMb0PathChange
  rw [hs, ite_self]

/-- Settles O24: each register by what its write leaves of the mailbox (`headWritten`, `writeTail_serves`, `putWord`). -/
theorem mailboxRegistersFollowTheirRules : Obligations.MailboxRegistersFollowTheirRules := by
  refine ⟨fun n v s hr hn hw hs h0 => ?_, fun v s hr hw hs hv => ?_,
    fun n v s hr hn hw hs => rspTailWrite_completes hr hn hw hs v,
    fun n e k v s hr hn he hk hw hq => requestEntryWrite_completes hr hn he hk hw hq v,
    fun p s hr hw hq hp => ?_, fun p s h => mb0PathChange_waits h p⟩
  · obtain ⟨t, he, ⟨h1, h2⟩, ht⟩ := mbDoorbellWrite_head hr hn hw hs h0 v
    refine ⟨t, he, ?_, ht⟩
    dsimp only
    rw [h1]
    exact ⟨headWritten_reqTail .., headWritten_reqHead .., fun hn hr => headWritten_overrun (b := doorbellFlags v _) hn hr, h2⟩
  · obtain ⟨t, he, ⟨h1, h2⟩, ht⟩ := mbDoorbellWrite_mb0 hr hw hs hv
    refine ⟨t, he, ⟨?_, h2, ?_⟩, ht⟩
    · rw [h1]; exact headWritten_reqTail ..
    · rw [h1]; exact headWritten_reqHead ..
  · obtain ⟨h1, h2⟩ := writePath_empty hw hq hp p
    exact ⟨_, if_neg (by simp [hr]), h1, h2⟩

end Sys2Proof.Machine
end

section
/-! PROOFS. Queries: the record that each answers with (R33, R57, R96, R115, R164, R310, R361). -/

namespace Sys2Proof.Machine

/-! What a query shows does not depend on what the taking of its request changes. -/

theorem ownAddr_power {s t : State} (h : t.power = s.power) : ownAddr t = ownAddr s := by unfold ownAddr; rw [h]

theorem stepMask_power {s t : State} (h : t.power = s.power) : stepMask t = stepMask s := by unfold stepMask; rw [h]

theorem clockFields_same {s t : State} (hc : t.clock = s.clock) (hh : t.hw = s.hw) (b : Nat) :
    clockFields t b = clockFields s b := by
  unfold clockFields clkFlags
  rw [hc, stamp_hw hh, hh]

theorem schedOf_cfg {s t : State} (h : t.cfg = s.cfg) (i : Nat) : schedOf t i = schedOf s i := by unfold schedOf; rw [h]

theorem layerOf_pebs {s t : State} (h : t.pebs = s.pebs) (p l : Nat) : layerOf t p l = layerOf s p l := by
  unfold layerOf pebOf; rw [h]

theorem itemId_ledger {s t : State} (h : t.ledger = s.ledger) (i : Nat) : itemId t i = itemId s i := by
  unfold itemId; rw [slotOf_ledger h]

theorem recordFields_ledger {s t : State} (h : t.ledger = s.ledger) (i b : Nat) :
    recordFields t i b = recordFields s i b := by
  unfold recordFields; rw [itemId_ledger h, slotOf_ledger h]

theorem recordBytes_ledger {s t : State} (h : t.ledger = s.ledger) (i : Nat) : recordBytes t i = recordBytes s i := by
  unfold recordBytes; rw [recordFields_ledger h]

theorem recAt_levee {s t : State} (h : t.levee = s.levee) (i : BitVec 16) : recAt t i = recAt s i := by
  unfold recAt; rw [h]

/-! The pattern of a query. -/

section

variable {c : Instr} {op n : Nat} {s u : State} {m : Msg} {own : State → Msg → List (Bool × Nat × Nat)}
  (h : Asked op n [] s m u)
include h

theorem query_answers {run : State → Msg → State} {len : Nat} {fields : List (Nat × Nat × Nat)}
    (he : exec c s = serveNext op n s noResv own run) (ho : firstFail (own u m) = none)
    (hr : run u m = done u n m len fields) : Answers c n s u m len fields :=
  asked_answers h (he.trans ((asked_serve_runs h rfl ho).trans (by rw [hr])))

theorem query_refuses {run : State → Msg → State} {st d : Nat} (he : exec c s = serveNext op n s noResv own run)
    (ho : firstFail (own u m) = some (st, d)) : Refuses c n s u m st d :=
  asked_refuses h (he.trans (asked_serve_fails h rfl ho))

/-- A query that writes records into its extension. -/
theorem query_writes {run : State → Msg → State} {bytes : List Byte}
    (he : exec c s = serveNext op n s noResv own run) (ho : firstFail (own u m) = none)
    (hr : run u m = done (memWrite u (extAddr m) bytes) n m 0 []) :
    Completes c s [.mbs, .rr, .fabric, .free, .mem, .levee] fun t =>
      t = done (memWrite u (extAddr m) bytes) n m 0 [] :=
  ⟨_, he.trans ((asked_serve_runs h rfl ho).trans (by rw [hr])), rfl, (done_touch ..).app (by decide)
    ((memWrite_touch ..).app (by decide) ((asked_touch h).mono (by decide)))⟩

end

/-! The queries. -/

variable {n : Nat} {s u : State} {m : Msg}

theorem opcIdentity_answers (h : Asked 0x0001 n [] s m u) :
    Answers (.opcIdentity n) n s u m 32 [(16, 4, 0x4B570300), (20, 1, 3), (22, 2, ownAddr s),
      (24, 16, Config.fuseId.toNat), (40, 4, s.boot.version.toNat), (44, 4, s.mem.mib)] := by
  have q := asked_touch h
  have e : exec (.opcIdentity n) s = serveNext 0x0001 n s noResv noChecks fun s m => done s n m 32
      [(16, 4, 0x4B570300), (20, 1, 3), (22, 2, ownAddr s), (24, 16, Config.fuseId.toNat),
        (40, 4, s.boot.version.toNat), (44, 4, s.mem.mib)] := rfl
  exact query_answers h e firstFail_nil
    (by rw [ownAddr_power (q.power (by decide)), q.boot (by decide), q.mem (by decide)])

theorem opcPdQuery_answers (h : Asked 0x000C n [] s m u) : Answers (.opcPdQuery n) n s u m 12
    [(16, 4, s.power.pdOn.toNat), (20, 4, s.power.pdBusy.toNat), (24, 4, stepMask s)] := by
  have q := (asked_touch h).power (by decide)
  have e : exec (.opcPdQuery n) s = serveNext 0x000C n s noResv noChecks fun s m => done s n m 12
      [(16, 4, s.power.pdOn.toNat), (20, 4, s.power.pdBusy.toNat), (24, 4, stepMask s)] := rfl
  exact query_answers h e firstFail_nil (by rw [stepMask_power q, q])

theorem opcClockStatus_answers (h : Asked 0x0201 n [] s m u) :
    Answers (.opcClockStatus n) n s u m 48 (clockFields s 16) := by
  have q := asked_touch h
  have e : exec (.opcClockStatus n) s
      = serveNext 0x0201 n s noResv noChecks fun s m => done s n m 48 (clockFields s 16) := rfl
  exact query_answers h e firstFail_nil (by rw [clockFields_same (q.clock (by decide)) (q.hw (by decide))])

theorem opcScheduleStatus_answers (h : Asked 0x0503 n [] s m u) :
    (15 < Msg.field m 16 1 → Refuses (.opcScheduleStatus n) n s u m 0x14 16)
    ∧ (Msg.field m 16 1 ≤ 15 → Answers (.opcScheduleStatus n) n s u m 16
      [(16, 1, storeCode (schedOf s (Msg.field m 16 1)).st), (24, 8, schedAddr (schedOf s (Msg.field m 16 1)))]) := by
  have e : exec (.opcScheduleStatus n) s = serveNext 0x0503 n s noResv (fun _ m => [range (15 < Msg.field m 16 1) 16])
      fun s m => done s n m 16 [(16, 1, storeCode (schedOf s (Msg.field m 16 1)).st),
        (24, 8, schedAddr (schedOf s (Msg.field m 16 1)))] := rfl
  refine ⟨fun hx => query_refuses h e ?_, fun hx => query_answers h e ?_ ?_⟩
  · simp [range, firstFail_cons, hx]
  · simp [range, firstFail_none, hx]
  · simp only [schedOf_cfg ((asked_touch h).cfg (by decide))]

theorem opcLayerStatus_answers (h : Asked 0x0506 n [] s m u) :
    (11 < Msg.field m 16 1 → Refuses (.opcLayerStatus n) n s u m 0x14 16)
    ∧ (Msg.field m 16 1 ≤ 11 → 3 < Msg.field m 17 1 → Refuses (.opcLayerStatus n) n s u m 0x14 17)
    ∧ (Msg.field m 16 1 ≤ 11 → Msg.field m 17 1 ≤ 3 →
      let y := layerOf s (Msg.field m 16 1) (Msg.field m 17 1)
      Answers (.opcLayerStatus n) n s u m 24
        [(16, 4, y.flips.toNat), (24, 8, y.tFlip.toNat), (32, 4, y.deferred.toNat), (36, 4, y.inPlay.toNat)]) := by
  have e : exec (.opcLayerStatus n) s = serveNext 0x0506 n s noResv
      (fun _ m => [range (11 < Msg.field m 16 1) 16, range (3 < Msg.field m 17 1) 17]) fun s m => done s n m 24
        [(16, 4, (askedLayer s m).flips.toNat), (24, 8, (askedLayer s m).tFlip.toNat),
          (32, 4, (askedLayer s m).deferred.toNat), (36, 4, (askedLayer s m).inPlay.toNat)] := rfl
  refine ⟨fun hx => query_refuses h e ?_, fun hp hx => query_refuses h e ?_, fun hp hl => query_answers h e ?_ ?_⟩
  · simp [range, firstFail_cons, hx]
  · simp [range, firstFail_cons, hx, Nat.not_lt.2 hp]
  · simp [range, firstFail_none, hp, hl]
  · simp only [askedLayer, layerOf_pebs ((asked_touch h).pebs (by decide))]

theorem opcUnitStatus_answers (h : Asked 0x0603 n [] s m u) :
    (unitKnown (Msg.field m 16 2) = false → Refuses (.opcUnitStatus n) n s u m 0x14 16)
    ∧ (unitKnown (Msg.field m 16 2) = true →
      let v := unitOf s (Msg.field m 16 2)
      Answers (.opcUnitStatus n) n s u m 16 [(16, 1, ustateCode (unitState u (Msg.field m 16 2))),
        (20, 4, (v.calTemp % 2 ^ 32).toNat), (24, 8, v.calTime.toNat)]) := by
  have e : exec (.opcUnitStatus n) s = serveNext 0x0603 n s noResv
      (fun _ m => [range (! unitKnown (Msg.field m 16 2)) 16]) fun s m => done s n m 16
        [(16, 1, ustateCode (unitState s (Msg.field m 16 2))),
          (20, 4, ((unitOf s (Msg.field m 16 2)).calTemp % 2 ^ 32).toNat),
          (24, 8, (unitOf s (Msg.field m 16 2)).calTime.toNat)] := rfl
  refine ⟨fun hx => query_refuses h e ?_, fun hx => query_answers h e ?_ ?_⟩
  · simp [range, firstFail_cons, hx]
  · simp [range, firstFail_none, hx]
  · simp only [unitOf_units ((asked_touch h).units (by decide))]

theorem opcFabricStatus_answers (h : Asked 0x0701 n [] s m u) : Answers (.opcFabricStatus n) n s u m 32
    ((List.range 4).flatMap fun p => portFields (portOf u p) (16 + 8 * p)) := by
  have e : exec (.opcFabricStatus n) s = serveNext 0x0701 n s noResv noChecks fun s m =>
      done s n m 32 ((List.range 4).flatMap fun p => portFields (portOf s p) (16 + 8 * p)) := rfl
  exact query_answers h e firstFail_nil rfl

/-- The checks of OPC_LEDGER_READ's own. -/
def ledgerReadChecks (_ : State) (m : Msg) : List (Bool × Nat × Nat) :=
  if extLen m = 0 then []
  else [range (2047 < Msg.field m 24 2) 24,
    range (Msg.field m 26 2 = 0 || 2048 < Msg.field m 26 2 || 2048 < Msg.field m 24 2 + Msg.field m 26 2) 26]

/-- The effect of OPC_LEDGER_READ. -/
def readLedger (n : Nat) (s : State) (m : Msg) : State :=
  if extLen m = 0 then done s n m 48 (recordFields s (Msg.field m 16 2 % 2048) 16)
  else done (memWrite s (extAddr m) ((List.range (Msg.field m 26 2)).flatMap fun k =>
    recordBytes s (Msg.field m 24 2 + k))) n m 0 []

theorem opcLedgerRead_serves (n : Nat) (s : State) :
    exec (.opcLedgerRead n) s = serveNext 0x0103 n s noResv ledgerReadChecks (readLedger n) := rfl

theorem opcLedgerRead_answers (h : Asked 0x0103 n [] s m u) :
    (extLen m = 0 → Answers (.opcLedgerRead n) n s u m 48 (recordFields s (Msg.field m 16 2 % 2048) 16))
    ∧ (extLen m ≠ 0 → 2047 < Msg.field m 24 2 → Refuses (.opcLedgerRead n) n s u m 0x14 24)
    ∧ (extLen m ≠ 0 → Msg.field m 24 2 ≤ 2047 → Msg.field m 26 2 = 0 ∨ 2048 < Msg.field m 24 2 + Msg.field m 26 2 →
      Refuses (.opcLedgerRead n) n s u m 0x14 26)
    ∧ (extLen m ≠ 0 → 1 ≤ Msg.field m 26 2 → Msg.field m 24 2 + Msg.field m 26 2 ≤ 2048 →
      Completes (.opcLedgerRead n) s [.mbs, .rr, .fabric, .free, .mem, .levee] fun t =>
        t = done (memWrite u (extAddr m) ((List.range (Msg.field m 26 2)).flatMap fun k =>
          recordBytes s (Msg.field m 24 2 + k))) n m 0 []) := by
  have q := (asked_touch h).ledger (by decide)
  have e := opcLedgerRead_serves n s
  refine ⟨fun hx => ?_, fun hx hf => query_refuses h e ?_, fun hx hf hn => query_refuses h e ?_, fun hx hn hl => ?_⟩
  · refine query_answers h e ?_ ((if_pos hx).trans (by rw [recordFields_ledger q]))
    rw [ledgerReadChecks, if_pos hx, firstFail_nil]
  · simp [ledgerReadChecks, range, firstFail_cons, hx, hf]
  · have hb : Msg.field m 26 2 = 0 ∨ 2048 < Msg.field m 26 2 ∨ 2048 < Msg.field m 24 2 + Msg.field m 26 2 := by omega
    simp [ledgerReadChecks, range, firstFail_cons, hx, Nat.not_lt.2 hf, or_assoc, hb]
  · refine query_writes h e ?_ ((if_neg hx).trans ?_)
    · have h1 : Msg.field m 24 2 ≤ 2047 := by omega
      have h2 : Msg.field m 26 2 ≠ 0 := by omega
      have h3 : Msg.field m 26 2 ≤ 2048 := by omega
      simp [ledgerReadChecks, range, firstFail_none, hx, h1, h2, h3, hl]
    · simp only [recordBytes_ledger q]

theorem opcEventRead_answers (h : Asked 0x0801 n [] s m u) :
    Completes (.opcEventRead n) s [.mbs, .rr, .fabric, .free, .mem, .levee] fun t =>
      t = done (memWrite u (extAddr m) ((List.range (Msg.field m 26 2)).flatMap fun k =>
        eventBytes (recAt s (BitVec.ofNat 16 (Msg.field m 24 2 + k))))) n m 0 [] := by
  have e : exec (.opcEventRead n) s = serveNext 0x0801 n s noResv noChecks fun s m => done (memWrite s (extAddr m)
      ((List.range (Msg.field m 26 2)).flatMap fun k => eventBytes (recAt s (BitVec.ofNat 16 (Msg.field m 24 2 + k)))))
      n m 0 [] := rfl
  refine query_writes h e firstFail_nil ?_
  simp only [recAt_levee ((asked_touch h).levee (by decide))]

/-- Settles O32: each query by its own lemma. -/
theorem queriesAnswerWithTheirRecords : Obligations.QueriesAnswerWithTheirRecords := fun _ _ _ _ =>
  ⟨opcIdentity_answers, opcPdQuery_answers, opcClockStatus_answers, opcScheduleStatus_answers, opcLayerStatus_answers,
    opcUnitStatus_answers, opcFabricStatus_answers, opcLedgerRead_answers, opcEventRead_answers⟩

end Sys2Proof.Machine
end

section
/-! PROOFS. Room in the ledger for a submission (R13, R94). -/

namespace Sys2Proof.Machine

/-! Free slots. -/

/-- While a slot is free there is a lowest one. -/
theorem lowestFree_isSome {s : State} (hw : TabWf {} s.ledger) (h : 0 < freeSlots s) : ∃ i, lowestFree s = some i := by
  by_contra hn
  have hnone : lowestFree s = none := Option.eq_none_iff_forall_ne_some.2 fun i hi => hn ⟨i, hi⟩
  have taken : List.range 2048 ⊆ tkeys s.ledger fun _ l => l.st ≠ .free := by
    intro i hi
    rw [mem_tkeys hw _ _ (by rfl)]
    show decide ((slotOf s i).st ≠ .free) = true
    simpa using List.find?_eq_none.1 hnone i hi
  have hl : 2048 ≤ (tkeys s.ledger fun _ l => l.st ≠ .free).length := by
    simpa using (List.nodup_range.subperm taken).length_le
  simp only [tkeys, List.length_map] at hl
  unfold freeSlots at h
  omega

theorem freeSlots_ledger {s t : State} (h : t.ledger = s.ledger) : freeSlots t = freeSlots s := by
  unfold freeSlots; rw [h]

/-! The checks of a submission. -/

theorem firstFail_append {a b : List (Bool × Nat × Nat)} (h : firstFail a = none) : firstFail (a ++ b) = firstFail b := by
  induction a with
  | nil => rfl
  | cons c a ih =>
    rw [firstFail_cons] at h
    have hc : c.1 ≠ true := fun hc => by simp [hc] at h
    rw [if_neg hc] at h
    rw [List.cons_append, firstFail_cons, if_neg hc, ih h]

theorem domainsOff_none {s : State} {ds : List Nat} (h : ∀ d ∈ ds, d < 32 → domOn s d = true) :
    (domainsOff s ds).1 = false := by
  unfold domainsOff
  simp only [Option.isSome_eq_false_iff, Option.isNone_iff_eq_none, List.find?_eq_none]
  intro d hd hc
  simp only [Bool.and_eq_true, List.contains_iff_mem, Bool.not_eq_true'] at hc
  rw [h d hc.1 (List.mem_range.1 hd)] at hc
  exact absurd hc.2 (by decide)

section

variable {u : State} {n : Nat} {m : Msg} {ext : List Byte} (hf : submitFits u m ext)
include hf

/-- Past the fields and the domains, the ledger's room decides, and then the sines. -/
theorem submitChecks_fits : firstFail (submitChecks u n m ext) =
    firstFail [(ledgerFull u n, 0x12, freeSlots u), busy (sineBlocks u m)] := by
  obtain ⟨hx, hk, hs, ht, hr, hd⟩ := hf
  have hfields : firstFail [range (extLen m = 0 && extAddr m ≠ 0) 16, range (8 < pKind m) 24,
      range (pStartAt m && noStartAt (pKind m)) 25, range (pTimeLimit m ≠ 0 && noTimeLimit (pKind m)) 28] = none := by
    simp [range, firstFail_none, hk]
    exact ⟨hx, hs, ht⟩
  unfold submitChecks
  rw [List.append_assoc, firstFail_append hfields, firstFail_append hr, firstFail_cons]
  exact if_neg (by rw [domainsOff_none hd]; nofun)

theorem submitChecks_full (h : ledgerFull u n = true) :
    firstFail (submitChecks u n m ext) = some (0x12, freeSlots u) := by
  rw [submitChecks_fits hf, firstFail_cons, if_pos h]

theorem submitChecks_room (h : ledgerFull u n = false) (hs : sineBlocks u m = false) :
    firstFail (submitChecks u n m ext) = none := by
  rw [submitChecks_fits hf]
  simp [firstFail_none, h, hs, busy]

end

theorem ledgerFull_reserve {u : State} {n : Nat} (hn : n = 1 ∨ n = 3) (h : freeSlots u < 64) : ledgerFull u n = true := by
  rcases hn with rfl | rfl <;> simp [ledgerFull, h]

theorem ledgerFull_room {u : State} {n : Nat}
    (h : (n = 0 ∨ n = 2) ∧ 0 < freeSlots u ∨ (n = 1 ∨ n = 3) ∧ 64 ≤ freeSlots u) :
    ledgerFull u n = false ∧ 0 < freeSlots u := by
  have hp : 0 < freeSlots u := by rcases h with ⟨-, h⟩ | ⟨-, h⟩ <;> omega
  refine ⟨?_, hp⟩
  unfold ledgerFull
  rcases h with ⟨rfl | rfl, -⟩ | ⟨-, h⟩
  · simp [hp.ne']
  · simp [hp.ne']
  · simp [hp.ne', Nat.not_lt.2 h]

/-! The item of an accepted submission, in force or ended at once (R92, R115, R218). -/

theorem newItem_wf {s : State} (hw : TabWf {} s.ledger) (i : Nat) (k : Kind) (n : Nat) (m : Msg) (ext : List Byte)
    (own act : Bool) : TabWf {} (newItem s i k n m ext own act).ledger := by
  unfold newItem modSlot
  dsimp only
  exact tmod_wf hw i _

/-- What stays of a submission in its slot, whatever becomes of its item. -/
def holdsSubmission (k : Kind) (n : Nat) (m : Msg) (l : Slot) : Prop :=
  l.msg = m ∧ l.kind = some k ∧ l.mailbox = n ∧ l.st ≠ .free

theorem acceptItem_holds {s : State} (hw : TabWf {} s.ledger) {n i : Nat} {m : Msg} {k : Kind}
    (hk : kindOf (pKind m) = some k) (hi : lowestFree s = some i) (ext : List Byte) :
    holdsSubmission k n m (slotOf (acceptItem s n m ext) i) := by
  have hn : slotOf (newItem s i k n m ext false false) i = newSlot s i k n m ext := slotOf_newItem hw ..
  unfold acceptItem
  rw [hi, hk]
  dsimp only
  generalize hv : respond (newItem s i k n m ext false false) n m _ = v
  have kl : v.ledger = (newItem s i k n m ext false false).ledger := by
    rw [← hv]; exact (respond_touch ..).ledger (by decide)
  have hs : slotOf v i = newSlot s i k n m ext := (slotOf_ledger kl i).trans hn
  have wv : TabWf {} v.ledger := by rw [kl]; exact newItem_wf hw ..
  split
  · rw [(endItem_ended (f := id) wv (by rw [hs]; rfl) (by rw [hs]; rfl) (by rw [id, hs]; rfl)).1, id, hs]
    exact ⟨rfl, rfl, rfl, nofun⟩
  · rw [hs]
    exact ⟨rfl, rfl, rfl, nofun⟩

theorem kindOf_some {k : Nat} (h : k ≤ 8) : ∃ x, kindOf k = some x := by
  interval_cases k <;> exact ⟨_, rfl⟩

/-- A submission that no check refuses is accepted. -/
theorem opcItemSubmit_accepts {n : Nat} {rem : Remote} {s u : State} {m : Msg} (h : Asked 0x0101 n rem s m u)
    (hc : firstFail (submitChecks u n m ((readExt u rem m).getD [])) = none)
    (hx : bytesAt ((readExt u rem m).getD []) 60 4 = 0) :
    exec (.opcItemSubmit n rem) s = .next (acceptItem u n m ((readExt u rem m).getD [])) := by
  have hr : submitReserved m = false := by
    obtain ⟨ht, -, hr, -⟩ := id h
    unfold commandReserved at hr
    rwa [taken_op ht] at hr
  exact (asked_serve_runs (own := fun s m => submitChecks s n m ((readExt s rem m).getD []))
    (run := fun s m => if bytesAt ((readExt s rem m).getD []) 60 4 ≠ 0 then .fault .reservedField
      else .next (acceptItem s n m ((readExt s rem m).getD []))) h hr hc).trans (if_neg (not_not.2 hx))

theorem opcItemSubmit_refused {n : Nat} {rem : Remote} {s u : State} {m : Msg} (h : Asked 0x0101 n rem s m u)
    {st d : Nat} (hc : firstFail (submitChecks u n m ((readExt u rem m).getD [])) = some (st, d)) :
    Refuses (.opcItemSubmit n rem) n s u m st d := by
  have hr : submitReserved m = false := by
    obtain ⟨ht, -, hr, -⟩ := id h
    unfold commandReserved at hr
    rwa [taken_op ht] at hr
  exact asked_refuses h (asked_serve_fails (own := fun s m => submitChecks s n m ((readExt s rem m).getD []))
    (run := fun s m => if bytesAt ((readExt s rem m).getD []) 60 4 ≠ 0 then .fault .reservedField
      else .next (acceptItem s n m ((readExt s rem m).getD []))) h hr hc)

/-- Settles O30: past the checks that come first the ledger's room decides (`submitChecks_fits`). -/
theorem ledgerRoomDependsOnTheMailbox : Obligations.LedgerRoomDependsOnTheMailbox := by
  intro n rem s u m h ext hf
  refine ⟨fun hn hl => opcItemSubmit_refused h (submitChecks_full hf (ledgerFull_reserve hn hl)), fun hr hs hx hw => ?_⟩
  have q := (asked_touch h).ledger (by decide)
  have wu : TabWf {} u.ledger := by rw [q]; exact hw
  obtain ⟨hroom, hpos⟩ := ledgerFull_room hr
  obtain ⟨i, hi⟩ := lowestFree_isSome wu hpos
  obtain ⟨k, hk⟩ := kindOf_some hf.2.1
  obtain ⟨h1, h2, h3, h4⟩ := acceptItem_holds wu hk hi (n := n) ext
  exact Completes.of_next (opcItemSubmit_accepts h (submitChecks_room hf hroom hs) hx)
    ⟨i, by rw [← lowestFree_ledger q]; exact hi, h1, by rw [h2, hk], h3, h4⟩ (execOpcItemSubmit_touch n rem s)

end Sys2Proof.Machine
end

section
/-! PROOFS. Direct responses: their fields, and where they stand (R82, R85, R86, R88, R105, R371, Tables 5.4, 5.5). -/

namespace Sys2Proof.Machine

/-! A refusal's fields. -/

/-- The fields of a refusal (Table 5.4, R105). -/
def refusalFields (s : State) (q : Msg) (st d : Nat) : List (Nat × Nat × Nat) :=
  [(0, 2, Msg.field q 0 2), (2, 2, 1), (4, 2, Msg.field q 4 2), (6, 2, Msg.field q 6 2), (8, 1, 4), (9, 1, st),
    (10, 2, ownAddr s), (16, 4, d)]

theorem refusal_eq (s : State) (q : Msg) (st d : Nat) : refusal s q st d = Msg.of (refusalFields s q st d) := rfl

theorem refusal_fields (s : State) (q : Msg) {st d : Nat} (hst : st < 256) (hd : d < 2 ^ 32) :
    let r := refusal s q st d
    Msg.field r 0 2 = Msg.field q 0 2 ∧ Msg.field r 2 2 = 1 ∧ Msg.field r 4 2 = Msg.field q 4 2
      ∧ Msg.field r 6 2 = Msg.field q 6 2 ∧ Msg.field r 8 1 = 4 ∧ Msg.field r 9 1 = st
      ∧ Msg.field r 10 2 = ownAddr s ∧ Msg.field r 16 4 = d := by
  have ho : ownAddr s < 2 ^ 16 := lt_trans s.power.node.isLt (by decide)
  dsimp only
  rw [refusal_eq]
  refine ⟨Msg.of_field ?_ (Msg.field_lt q 0 2) ?_ ?_, Msg.of_field ?_ (by decide) ?_ ?_,
    Msg.of_field ?_ (Msg.field_lt q 4 2) ?_ ?_, Msg.of_field ?_ (Msg.field_lt q 6 2) ?_ ?_,
    Msg.of_field ?_ (by decide) ?_ ?_, Msg.of_field ?_ hst ?_ ?_, Msg.of_field ?_ ho ?_ ?_, Msg.of_field ?_ hd ?_ ?_⟩
  all_goals simp [refusalFields]

/-! A response that is posted. -/

variable {s : State} {n : Nat} {q r : Msg}

/-- The mailbox with an entry written at RSP_HEAD. -/
def putRsp (r : Msg) (b : Mailbox) : Mailbox :=
  { b with rsp := tset 0 b.rsp (b.rspHead.toNat % 256) r, rspHead := b.rspHead + 1 }

/-- A response that is ready waits behind those that mailbox n owes. -/
def owing (s : State) (n : Nat) (q r : Msg) : State :=
  modMb s n fun b => { b with owed := b.owed ++ [{ req := q, ready := some r }] }

theorem owing_mbOf (hw : TabWf {} s.mbs) : mbOf (owing s n q r) n =
    { mbOf s n with owed := (mbOf s n).owed ++ [{ req := q, ready := some r }] } := mbOf_modMb_same _ _ _ hw

theorem owing_wf (hw : TabWf {} s.mbs) : TabWf {} (owing s n q r).mbs := modMb_wf hw _ _

theorem respond_eq (s : State) (n : Nat) (q r : Msg) :
    respond s n q r = flushOwed (mbOf (owing s n q r) n).owed.length (owing s n q r) n := rfl

/-- The mailboxes, once a response has been owed in mailbox n and is so no more. -/
def owedOnce (s : State) (n : Nat) (q r : Msg) : State := modMb (owing s n q r) n fun b => { b with owed := [] }

theorem owedOnce_touch : Touch [.mbs] s (owedOnce s n q r) := (modMb_touch ..).trans (modMb_touch ..)

theorem owedOnce_wf (hw : TabWf {} s.mbs) : TabWf {} (owedOnce s n q r).mbs := modMb_wf (owing_wf hw) _ _

theorem owedOnce_mbOf (hw : TabWf {} s.mbs) (ho : (mbOf s n).owed = []) (k : Nat) :
    mbOf (owedOnce s n q r) k = mbOf s k := by
  unfold owedOnce
  by_cases hk : k = n
  · subst hk
    rw [mbOf_modMb_same _ _ _ (owing_wf hw), owing_mbOf hw, ← ho]
  · rw [mbOf_modMb_other _ _ _ hk]
    exact mbOf_modMb_other _ _ _ hk

/-- Where no earlier response is owed, a response is posted at once, but for SERVICE (R85, R371). -/
theorem respond_posts (hw : TabWf {} s.mbs) (ho : (mbOf s n).owed = []) (hm : s.dev.mode ≠ .service) :
    respond s n q r = postDirect (owedOnce s n q r) n q r := by
  have hl : (mbOf (owing s n q r) n).owed = [{ req := q, ready := some r }] := by rw [owing_mbOf hw, ho]; rfl
  have hm' : (owing s n q r).dev.mode ≠ .service := hm
  rw [respond_eq, hl]
  show flushOwed 1 _ n = _
  unfold flushOwed
  rw [if_neg hm', hl]
  rfl

theorem owedOnce_viaFabric (hw : TabWf {} s.mbs) (ho : (mbOf s n).owed = []) :
    viaFabric (modMb (owedOnce s n q r) n (putRsp r)) n = viaFabric s n := by
  have hp : (mbOf (modMb (owedOnce s n q r) n (putRsp r)) 0).path = (mbOf s 0).path := by
    by_cases h0 : n = 0
    · subst h0
      rw [mbOf_modMb_same _ _ _ (owedOnce_wf hw), ← owedOnce_mbOf (q := q) (r := r) hw ho]
      rfl
    · rw [mbOf_modMb_other _ _ _ (Ne.symm h0), owedOnce_mbOf hw ho]
  unfold viaFabric
  rw [hp]

theorem respond_silent (hw : TabWf {} s.mbs) (ho : (mbOf s n).owed = []) (hm : s.dev.mode ≠ .service)
    (hq : silent q r = true) :
    (∀ k, mbOf (respond s n q r) k = mbOf s k) ∧ Touch [.mbs] s (respond s n q r) := by
  have e : respond s n q r = owedOnce s n q r := (respond_posts hw ho hm).trans (if_pos hq)
  rw [e]
  exact ⟨owedOnce_mbOf hw ho, owedOnce_touch⟩

/-- The reader of the window takes the response (R88). -/
theorem respond_window (hw : TabWf {} s.mbs) (ho : (mbOf s n).owed = []) (hm : s.dev.mode ≠ .service)
    (hq : silent q r = false) (hc : cameByFabric q = false) (hv : viaFabric s n = false) :
    mbOf (respond s n q r) n = putRsp r (mbOf s n)
      ∧ (∀ k, k ≠ n → mbOf (respond s n q r) k = mbOf s k) ∧ Touch [.mbs] s (respond s n q r) := by
  have e : respond s n q r = modMb (owedOnce s n q r) n (putRsp r) := by
    rw [respond_posts hw ho hm, postDirect, if_neg (by rw [hq]; nofun), hc]
    exact if_neg fun g => Bool.false_ne_true ((((owedOnce_viaFabric hw ho).trans hv).symm).trans g)
  rw [e, mbOf_modMb_same _ _ _ (owedOnce_wf hw), owedOnce_mbOf hw ho]
  exact ⟨rfl, fun k hk => by rw [mbOf_modMb_other _ _ _ hk, owedOnce_mbOf hw ho], (modMb_touch ..).trans owedOnce_touch⟩

/-! A response that goes over Trellis: the entry stands while the message is sent (R88). -/

/-- The response ring of mailbox n and its head are as given. -/
def RspStands (n : Nat) (ring : Tab Msg) (head : BitVec 9) (s : State) : Prop :=
  TabWf {} s.mbs ∧ (mbOf s n).rsp = ring ∧ (mbOf s n).rspHead = head

variable {ring : Tab Msg} {head : BitVec 9}

theorem RspStands.of_mbs {s t : State} (h : t.mbs = s.mbs) : Keeps (RspStands n ring head) s t :=
  ⟨fun w => by unfold RspStands mbOf; rw [h]; exact w⟩

theorem modMb_rspStands (s : State) (k : Nat) {f : Mailbox → Mailbox} (h1 : ∀ b, (f b).rsp = b.rsp)
    (h2 : ∀ b, (f b).rspHead = b.rspHead) : Keeps (RspStands n ring head) s (modMb s k f) := by
  refine ⟨fun ⟨w, w1, w2⟩ => ⟨modMb_wf w k f, ?_⟩⟩
  by_cases e : n = k
  · subst e
    rw [mbOf_modMb_same _ _ _ w, h1, h2]
    exact ⟨w1, w2⟩
  · rw [mbOf_modMb_other _ _ _ e]
    exact ⟨w1, w2⟩

theorem settleCopies_rspStands (s : State) : Keeps (RspStands n ring head) s (settleCopies s) := by
  refine ⟨fun w => (Keeps.foldl (Keeps.refl (RspStands n ring head) s) fun v k => ?_).keeps w⟩
  dsimp only
  refine (modMb_rspStands _ k ?_ ?_).trans (RspStands.of_mbs rfl)
  all_goals exact fun _ => rfl

theorem sendMsg_rspStands (s : State) (mb dest : Nat) (m : Msg) :
    Keeps (RspStands n ring head) s (sendMsg s mb dest m) := by
  unfold sendMsg
  dsimp only
  refine Keeps.ite ((RspStands.of_mbs ((sendPacket_touch ..).mbs (by decide))).trans ?_)
    (Keeps.ite ((settleCopies_rspStands _).trans ?_) ?_)
  all_goals exact RspStands.of_mbs rfl

theorem respond_fabric (hw : TabWf {} s.mbs) (ho : (mbOf s n).owed = []) (hm : s.dev.mode ≠ .service)
    (hq : silent q r = false) (hc : cameByFabric q = true) :
    RspStands n (putRsp r (mbOf s n)).rsp (putRsp r (mbOf s n)).rspHead (respond s n q r)
      ∧ Touch [.mbs, .fabric] s (respond s n q r) := by
  have w : RspStands n (putRsp r (mbOf s n)).rsp (putRsp r (mbOf s n)).rspHead
      (modMb (owedOnce s n q r) n (putRsp r)) := by
    refine ⟨modMb_wf (owedOnce_wf hw) _ _, ?_⟩
    rw [mbOf_modMb_same _ _ _ (owedOnce_wf hw), owedOnce_mbOf hw ho]
    exact ⟨rfl, rfl⟩
  refine ⟨?_, respond_touch ..⟩
  rw [respond_posts hw ho hm, postDirect, if_neg (by rw [hq]; nofun), hc]
  exact (sendMsg_rspStands ..).keeps w

/-- During SERVICE the response waits behind those that are owed (R371). -/
theorem respond_waits (hw : TabWf {} s.mbs) (hm : s.dev.mode = .service) :
    mbOf (respond s n q r) n = { mbOf s n with owed := (mbOf s n).owed ++ [{ req := q, ready := some r }] }
      ∧ Touch [.mbs] s (respond s n q r) := by
  have e : respond s n q r = owing s n q r := by
    rw [respond_eq, owing_mbOf hw, List.length_append]
    exact if_pos hm
  rw [e]
  exact ⟨owing_mbOf hw, modMb_touch ..⟩

/-- Settles O27: a refusal by its fields, a response by who takes it from the ring. -/
theorem responsesStandInTheRing : Obligations.ResponsesStandInTheRing := by
  refine ⟨fun s q st d => refusal_fields s q,
    fun s n q r hw ho => ⟨fun hm => respond_window hw ho hm, fun hm hq hc => ?_, fun hm => respond_silent hw ho hm⟩,
    fun s n q r hw hm => respond_waits hw hm⟩
  obtain ⟨⟨-, h1, h2⟩, h3⟩ := respond_fabric hw ho hm hq hc
  exact ⟨h1, h2, h3⟩

end Sys2Proof.Machine
end


section
/-! PROOFS. How items end, are aborted and retired, and what their time limit does (R91, R92, R95, R97, R109, R220,
Table 5.9). -/

namespace Sys2Proof.Machine

/-! The first cause of an end that has to wait for the item's stopping point. -/

section
variable {s t v : State} {i r : Nat}

theorem of_ite_imp {c a b a' b' : Prop} [Decidable c] (h : if c then a else b) (ha : a → a') (hb : b → b') :
    if c then a' else b' := by
  by_cases hc : c
  · rw [if_pos hc] at h ⊢
    exact ha h
  · rw [if_neg hc] at h ⊢
    exact hb h

/-- An item that has ended after a step which leaves Headwater alone has ended since. -/
theorem Ended.from_hw {reason : Option Nat} (hh : v.hw = s.hw) (h : Ended v t i reason) : Ended s t i reason := by
  obtain ⟨hst, hr, ht⟩ := h
  exact ⟨hst, hr, by rw [ht]; unfold stamp; rw [hh]⟩

theorem causeKept.from_ledger (hl : v.ledger = s.ledger) (h : causeKept v t i r) : causeKept s t i r := by
  unfold causeKept at *
  rwa [slotOf_ledger hl] at h

theorem modSlot_causeKept (hw : TabWf {} s.ledger) : causeKept s (modSlot s i fun l => { l with
    cause := if l.cause.isNone then some (BitVec.ofNat 8 r) else l.cause }) i r := by
  unfold causeKept
  rw [slotOf_modSlot_same _ _ _ hw]
  simp only [Option.isNone_iff_eq_none]

theorem requestMeasure_causeKept (hw : TabWf {} s.ledger) (q : Nat) : causeKept s (requestMeasure s q i r) i r :=
  have hl : (modSeq s q (raiseRequest r)).ledger = s.ledger := (modSeq_touch ..).ledger (by decide)
  causeKept.from_ledger hl (modSlot_causeKept (by rw [hl]; exact hw))

/-- A MEASURE item's routine is asked to stop where it runs; one that has not begun ends (R220). -/
theorem askMeasure_ends (hw : TabWf {} s.ledger) (h : HostItem s i) :
    if (seqOf s (pMseq (slotOf s i).msg)).item = some i then causeKept s (askMeasure s i r) i r
    else Ended s (askMeasure s i r) i (some r) := by
  unfold askMeasure routineRuns
  by_cases hq : (seqOf s (pMseq (slotOf s i).msg)).item = some i
  · simp only [hq, decide_true, if_true]
    exact requestMeasure_causeKept hw _
  · simp only [hq, decide_false, if_false, Bool.false_eq_true]
    exact endItem_ends hw h rfl

theorem abortBurst_ends (hw : TabWf {} s.ledger) (h : HostItem s i) :
    if (burstOf s i).phase = .playing then causeKept s (abortBurst s i r) i r
    else Ended s (abortBurst s i r) i (some r) := by
  unfold abortBurst
  split
  · exact modSlot_causeKept hw
  · exact finishBurst_ends hw h

theorem abortDps_ends (hw : TabWf {} s.ledger) (h : HostItem s i) :
    if (slotOf s i).st = .inFlight ∧ admitted s i = true then causeKept s (abortDps s i r) i r
    else Ended s (abortDps s i r) i (some r) := by
  unfold abortDps
  dsimp only
  split
  · exact modSlot_causeKept hw
  · exact finishDps_ends hw h

/-! An abort by the host, kind by kind (R97). -/

theorem abortItem_started (h : (slotOf s i).st ≠ .queued) : abortItem s i = match (slotOf s i).kind with
    | some .burst => abortBurst s i rAbortedHost
    | some .measure => askMeasure s i rAbortedHost
    | some .transfer => markCause s i rAbortedHost
    | some .dps => abortDps s i rAbortedHost
    | some .cal => failCal s i rAbortedHost (afterStop s (pUnit (slotOf s i).msg)) 0
    | _ => endNow s i rAbortedHost 0 (fun _ => .background) .offline := if_neg h

/-- QUEUED items, and those of a kind that has no stopping point of its own, end at once. -/
theorem abortItem_ends (hw : TabWf {} s.ledger) (h : HostItem s i)
    (hk : (slotOf s i).st = .queued ∨ (slotOf s i).kind = some .tdc ∨ (slotOf s i).kind = some .acquire
      ∨ (slotOf s i).kind = some .lane ∨ (slotOf s i).kind = some .levels ∨ (slotOf s i).kind = some .cal) :
    Ended s (abortItem s i) i (some 1) := by
  by_cases hq : (slotOf s i).st = .queued
  · rw [abortItem, if_pos hq]
    exact endQueued_ends hw h
  rw [abortItem_started hq]
  rcases hk.resolve_left hq with hk | hk | hk | hk | hk <;> simp only [hk, endNow]
  · exact finishTdc_ends hw h
  · exact finishAcquire_ends hw h
  · exact finishLane_ends hw h
  · exact endItem_ends hw h rfl
  · exact failCal_ends hw h

/-- The kinds that have a stopping point of their own wait for it, or end at once. -/
theorem abortItem_waits (hw : TabWf {} s.ledger) (h : HostItem s i) (hq : (slotOf s i).st ≠ .queued) :
    ((slotOf s i).kind = some .transfer → causeKept s (abortItem s i) i 1)
      ∧ ((slotOf s i).kind = some .burst → if (burstOf s i).phase = .playing then causeKept s (abortItem s i) i 1
        else Ended s (abortItem s i) i (some 1))
      ∧ ((slotOf s i).kind = some .measure → if (seqOf s (pMseq (slotOf s i).msg)).item = some i
        then causeKept s (abortItem s i) i 1 else Ended s (abortItem s i) i (some 1))
      ∧ ((slotOf s i).kind = some .dps → if (slotOf s i).st = .inFlight ∧ admitted s i = true
        then causeKept s (abortItem s i) i 1 else Ended s (abortItem s i) i (some 1)) := by
  rw [abortItem_started hq]
  refine ⟨fun hk => ?_, fun hk => ?_, fun hk => ?_, fun hk => ?_⟩ <;> rw [hk]
  · exact modSlot_causeKept hw
  · exact abortBurst_ends hw h
  · exact askMeasure_ends hw h
  · exact abortDps_ends hw h

end

/-! OPC_ITEM_ABORT. -/

theorem foreign_ledger {s u : State} (h : u.ledger = s.ledger) (n : Nat) (m : Msg) (i : Nat) :
    foreign u n m i = foreign s n m i := by
  unfold foreign
  rw [slotOf_ledger h]

theorem opcItemAbort_serves (n : Nat) (s : State) : exec (.opcItemAbort n) s = serveNext 0x0102 n s noResv
    (fun s m => [range ((slotOf s (namedSlot m)).st = .free || foreign s n m (namedSlot m)) 6])
    fun s m => if terminal (slotOf s (namedSlot m)) then respond s n m (mkResp s m 0x02 0 0xFFFF [])
      else settleBypass (abortItem (done s n m 0 []) (namedSlot m)) := rfl

section
variable {n : Nat} {s u : State} {m : Msg} (h : Asked 0x0102 n [] s m u)
include h

theorem opcItemAbort_refuses (hf : (slotOf s (namedSlot m)).st = .free ∨ foreign s n m (namedSlot m) = true) :
    Refuses (.opcItemAbort n) n s u m 0x14 6 := by
  refine asked_refused h (opcItemAbort_serves n s) rfl ?_
  have hl := (asked_touch h).ledger (by decide)
  rw [slotOf_ledger hl, foreign_ledger hl]
  rcases hf with hf | hf <;> simp [firstFail, range, hf]

variable (hf : (slotOf s (namedSlot m)).st ≠ .free) (hn : foreign s n m (namedSlot m) = false)
include hf hn

theorem opcItemAbort_next : exec (.opcItemAbort n) s = .next (if terminal (slotOf s (namedSlot m)) then
      respond u n m (mkResp u m 0x02 0 0xFFFF []) else settleBypass (abortItem (done u n m 0 []) (namedSlot m))) := by
  have hl := (asked_touch h).ledger (by decide)
  rw [opcItemAbort_serves, asked_next h rfl, slotOf_ledger hl]
  rw [slotOf_ledger hl, foreign_ledger hl, hn]
  simp [firstFail, range, hf]

theorem opcItemAbort_terminal (ht : terminal (slotOf s (namedSlot m)) = true) :
    Completes (.opcItemAbort n) s [.mbs, .rr, .fabric, .free] fun t =>
      t = respond u n m (mkResp u m 0x02 0 0xFFFF []) :=
  ⟨_, opcItemAbort_next h hf hn, if_pos ht,
    by rw [if_pos ht]; exact (respond_touch ..).app (by decide) (asked_touch h)⟩

end

theorem HostItem.not_free {s : State} {i : Nat} (h : HostItem s i) : (slotOf s i).st ≠ .free := fun e => by
  have := h.1
  simp [openSlot, e] at this

theorem HostItem.not_terminal {s : State} {i : Nat} (h : HostItem s i) : terminal (slotOf s i) = false := by
  have := h.1
  unfold openSlot at this
  unfold terminal
  cases hst : (slotOf s i).st <;> simp_all

theorem opcItemAbort_ends {n : Nat} {s u : State} {m : Msg} (h : Asked 0x0102 n [] s m u)
    (hn : foreign s n m (namedSlot m) = false) (hi : HostItem s (namedSlot m)) :
    ∃ v : State, exec (.opcItemAbort n) s = .next (settleBypass (abortItem v (namedSlot m)))
      ∧ Touch [.mbs, .rr, .fabric, .free] s v :=
  ⟨done u n m 0 [], by rw [opcItemAbort_next h hi.not_free hn, hi.not_terminal]; rfl,
    (done_touch ..).app (by decide) (asked_touch h)⟩

/-! OPC_LEDGER_RETIRE (R95). -/

section
variable {s v : State} {n : Nat} {m : Msg}

theorem retireFault_slot {id : Nat} (h : slotOf v (id % 2048) = slotOf s (id % 2048)) :
    retireFault v n m id = retireFault s n m id := by
  unfold retireFault itemId foreign
  dsimp only
  rw [h]

/-- A slot that is free has no item to retire. -/
theorem retireFault_free {id : Nat} (h : (slotOf s (id % 2048)).st = .free) : retireFault s n m id ≠ none := by
  have ht : terminal (slotOf s (id % 2048)) = false := by unfold terminal; rw [h]; rfl
  unfold retireFault
  dsimp only
  rw [ht]
  split
  · nofun
  · split <;> nofun

theorem slotOf_retireSlot_same (hw : TabWf {} s.ledger) (i : Nat) :
    slotOf (retireSlot s i) i = { gen := ! (slotOf s i).gen } := slotOf_modSlot_same _ _ _ hw

theorem slotOf_retireSlot_other {i j : Nat} (h : j ≠ i) : slotOf (retireSlot s i) j = slotOf s j :=
  slotOf_modSlot_other _ _ _ h

/-- One ITEM_ID of OPC_LEDGER_RETIRE, after those before it. -/
def retireOne (n : Nat) (m : Msg) (r : State × Nat × Option (Nat × Nat)) (id : Nat) : State × Nat × Option (Nat × Nat) :=
  match retireFault r.1 n m id with
  | some e => (r.1, r.2.1, r.2.2.orElse fun _ => some e)
  | none => (retireSlot r.1 (id % 2048), r.2.1 + 1, r.2.2)

theorem retireList_eq (s : State) (n : Nat) (m : Msg) (ids : List Nat) :
    retireList s n m ids = ids.foldl (retireOne n m) (s, 0, none) := rfl

/-- An ITEM_ID that can be retired no longer stands after another has been, unless it names another slot. -/
theorem retireFault_retired (hw : TabWf {} s.ledger) (i : Nat) {id : Nat}
    (h : retireFault (retireSlot s i) n m id = none) : id % 2048 ≠ i ∧ retireFault s n m id = none := by
  have hne : id % 2048 ≠ i := fun e => retireFault_free (by rw [e, slotOf_retireSlot_same hw]) h
  exact ⟨hne, by rwa [retireFault_slot (slotOf_retireSlot_other hne)] at h⟩

/-- A slot that no retired ITEM_ID names stays. -/
theorem retire_stays {j : Nat} (ids : List Nat) : ∀ r : State × Nat × Option (Nat × Nat), TabWf {} r.1.ledger →
    (∀ id ∈ ids, retireFault r.1 n m id = none → id % 2048 ≠ j) →
    slotOf (ids.foldl (retireOne n m) r).1 j = slotOf r.1 j := by
  induction ids with
  | nil => exact fun _ _ _ => rfl
  | cons id ids ih =>
    intro r hw hj
    rw [List.foldl_cons]
    cases he : retireFault r.1 n m id with
    | some e =>
      have h1 : (retireOne n m r id).1 = r.1 := by unfold retireOne; rw [he]
      rw [ih _ (by rw [h1]; exact hw) (by rw [h1]; exact fun k hk => hj k (.tail _ hk)), h1]
    | none =>
      have h1 : (retireOne n m r id).1 = retireSlot r.1 (id % 2048) := by unfold retireOne; rw [he]
      rw [ih _ (by rw [h1]; exact modSlot_wf hw _ _)
        (by rw [h1]; exact fun k hk hn => hj k (.tail _ hk) (retireFault_retired hw _ hn).2), h1]
      exact slotOf_retireSlot_other (hj id (.head _) he).symm

/-- A slot that a retired ITEM_ID names is free. -/
theorem retire_frees (ids : List Nat) : ∀ r : State × Nat × Option (Nat × Nat), TabWf {} r.1.ledger →
    ∀ id ∈ ids, retireFault r.1 n m id = none →
      slotOf (ids.foldl (retireOne n m) r).1 (id % 2048) = { gen := ! (slotOf r.1 (id % 2048)).gen } := by
  induction ids with
  | nil => exact fun _ _ _ hm => absurd hm List.not_mem_nil
  | cons x ids ih =>
    intro r hw id hm hid
    rw [List.foldl_cons]
    cases he : retireFault r.1 n m x with
    | some e =>
      have h1 : (retireOne n m r x).1 = r.1 := by unfold retireOne; rw [he]
      rcases List.mem_cons.1 hm with rfl | hm
      · rw [he] at hid; nomatch hid
      · rw [ih _ (by rw [h1]; exact hw) id hm (by rw [h1]; exact hid), h1]
    | none =>
      have h1 : (retireOne n m r x).1 = retireSlot r.1 (x % 2048) := by unfold retireOne; rw [he]
      have w1 : TabWf {} (retireOne n m r x).1.ledger := by rw [h1]; exact modSlot_wf hw _ _
      by_cases hx : id % 2048 = x % 2048
      · rw [hx, retire_stays ids _ w1 (by rw [h1]; exact fun k _ hk => (retireFault_retired hw _ hk).1), h1]
        exact slotOf_retireSlot_same hw _
      · have h2 : slotOf (retireOne n m r x).1 (id % 2048) = slotOf r.1 (id % 2048) := by
          rw [h1]; exact slotOf_retireSlot_other hx
        rcases List.mem_cons.1 hm with rfl | hm
        · exact absurd rfl hx
        · rw [ih _ w1 id hm (by rw [retireFault_slot h2]; exact hid), h2]

end

/-- One unit of Spabry's submissions that wait for a slot. -/
def submitWaiting (s : State) (u : Nat) : State :=
  let c := (unitOf s u).unslotted
  if c = 0 ∨ lowestFree s = none then s
  else submitCal (modUnit s u fun v => { v with unslotted := 0 }) u c (ownAction s u c)

theorem submitUnslotted_eq (s : State) :
    submitUnslotted s = if s.dev.mode = .service then s else allUnits.foldl submitWaiting s := rfl

theorem submitWaiting_taken {s : State} {j : Nat} (u : Nat) (h : (slotOf s j).st ≠ .free) :
    slotOf (submitWaiting s u) j = slotOf s j := by
  unfold submitWaiting
  dsimp only
  split
  · rfl
  · exact submitCal_taken (s := modUnit s u fun v => { v with unslotted := 0 }) u _ _ h

theorem submitUnslotted_taken {s : State} {j : Nat} (h : (slotOf s j).st ≠ .free) :
    slotOf (submitUnslotted s) j = slotOf s j := by
  have key : ∀ (us : List Nat) (v : State), (slotOf v j).st ≠ .free →
      slotOf (us.foldl submitWaiting v) j = slotOf v j := by
    intro us
    induction us with
    | nil => exact fun _ _ => rfl
    | cons u us ih =>
      intro v hv
      have e := submitWaiting_taken u hv
      rw [List.foldl_cons, ih _ (by rw [e]; exact hv), e]
  rw [submitUnslotted_eq]
  split
  · rfl
  · exact key _ s h

/-- With no submission that waits nothing is submitted. -/
theorem submitUnslotted_none {s : State} (h : ∀ x, (unitOf s x).unslotted = 0) : submitUnslotted s = s := by
  rw [submitUnslotted_eq]
  have one : ∀ u, submitWaiting s u = s := fun u => if_pos (.inl (h u))
  split
  · rfl
  · exact List.foldl_fixed' one _

/-- The ITEM_IDs that a request names. -/
def namedIds (u : State) (rem : Remote) (m : Msg) : List Nat :=
  if extLen m = 0 then retireIds m else rangeIds u ((readExt u rem m).getD [])

/-- The response to OPC_LEDGER_RETIRE, after what it has retired. -/
def retireAnswered (n : Nat) (m : Msg) (r : State × Nat × Option (Nat × Nat)) : State :=
  match r.2.2 with
  | some (status, detail) => respond r.1 n m (mkResp r.1 m status 6 0xFFFF [(16, 4, detail), (20, 2, r.2.1)])
  | none => done r.1 n m 0 []

theorem retireAnswered_touch (n : Nat) (m : Msg) (r : State × Nat × Option (Nat × Nat)) :
    Touch [.mbs, .fabric] r.1 (retireAnswered n m r) := by
  unfold retireAnswered
  split
  · exact respond_touch ..
  · exact done_touch ..

theorem opcLedgerRetire_serves (n : Nat) (rem : Remote) (s : State) : exec (.opcLedgerRetire n rem) s =
    serve 0x0104 n rem s (fun m => extLen m = 0 && Msg.field m 17 1 ≠ 0)
      (fun _ m => if extLen m = 0 then [range (Msg.field m 16 1 = 0 || 23 < Msg.field m 16 1) 16] else [])
      fun s m => .next (submitUnslotted (retireAnswered n m (retireList s n m (namedIds s rem m)))) := rfl

section
variable {n : Nat} {rem : Remote} {s u : State} {m : Msg} (h : Asked 0x0104 n rem s m u)
include h

theorem opcLedgerRetire_reserved : (extLen m = 0 && Msg.field m 17 1 ≠ 0 : Bool) = false := by
  obtain ⟨ht, -, hr, -⟩ := h
  unfold commandReserved at hr
  rwa [taken_op ht] at hr

theorem opcLedgerRetire_refuses (he : extLen m = 0) (hc : Msg.field m 16 1 = 0 ∨ 23 < Msg.field m 16 1) :
    Refuses (.opcLedgerRetire n rem) n s u m 0x14 16 := by
  refine asked_refuses h ((opcLedgerRetire_serves n rem s).trans
    (asked_serve_fails h (opcLedgerRetire_reserved h) ?_))
  rw [if_pos he]
  rcases hc with hc | hc <;> simp [firstFail, range, hc]

theorem opcLedgerRetire_next (hc : extLen m ≠ 0 ∨ (1 ≤ Msg.field m 16 1 ∧ Msg.field m 16 1 ≤ 23)) :
    exec (.opcLedgerRetire n rem) s =
      .next (submitUnslotted (retireAnswered n m (retireList u n m (namedIds u rem m)))) := by
  refine (opcLedgerRetire_serves n rem s).trans (asked_serve_runs h (opcLedgerRetire_reserved h) ?_)
  split
  · next he =>
    obtain ⟨h1, h2⟩ := hc.resolve_left (not_not.2 he)
    simp [firstFail, range, Nat.one_le_iff_ne_zero.1 h1, Nat.not_lt.2 h2]
  · rfl

end

/-- What retiring leaves, by slots: before Spabry's own submissions. -/
theorem retireAnswered_slots {n : Nat} {m : Msg} {s u : State} (hl : u.ledger = s.ledger) (hw : TabWf {} s.ledger)
    (ids : List Nat) :
    (∀ j, (∀ id ∈ ids, retireFault s n m id = none → id % 2048 ≠ j) →
      slotOf (retireAnswered n m (retireList u n m ids)) j = slotOf s j)
    ∧ ∀ id ∈ ids, retireFault s n m id = none →
      slotOf (retireAnswered n m (retireList u n m ids)) (id % 2048) = { gen := ! (slotOf s (id % 2048)).gen } := by
  have hk := fun id => retireFault_slot (v := u) (s := s) (n := n) (m := m) (id := id) (slotOf_ledger hl _)
  have wu : TabWf {} u.ledger := by rw [hl]; exact hw
  have ha : ∀ j, slotOf (retireAnswered n m (retireList u n m ids)) j = slotOf (retireList u n m ids).1 j :=
    slotOf_ledger ((retireAnswered_touch ..).ledger (by decide))
  refine ⟨fun j hj => ?_, fun id hm hid => ?_⟩
  · rw [ha, retireList_eq, retire_stays (j := j) ids (u, 0, none) wu fun id hm h => hj id hm ((hk id).symm.trans h)]
    exact slotOf_ledger hl j
  · rw [ha, retireList_eq, retire_frees ids (u, 0, none) wu id hm ((hk id).trans hid)]
    dsimp only
    rw [slotOf_ledger hl]

/-! ITEM_TIME_LIMIT (R109). -/

/-- The effect of the limit on an item by its kind. -/
def timeLimited (s : State) (i : Nat) : State :=
  match (slotOf s i).kind with
  | some .measure => askMeasure s i rTimeout
  | some .tdc => finishTdc s i (some rTimeout) 0
  | some .acquire => finishAcquire s i (some rTimeout) 0
  | some .lane => finishLane s i (some rTimeout) 0
  | _ => s

theorem itemTimeLimit_next {s : State} {i : Nat} (hs : (slotOf s i).st = .inFlight)
    (hl : pTimeLimit (slotOf s i).msg ≠ 0) : exec (.itemTimeLimit i) s = .next (timeLimited s i) := by
  show execItemTimeLimit i s = _
  unfold execItemTimeLimit timeLimited
  dsimp only
  rw [if_pos ⟨hs, hl⟩]
  generalize (slotOf s i).kind = k
  cases k with
  | none => rfl
  | some k => cases k <;> rfl

theorem timeLimited_ends {s : State} {i : Nat} (hw : TabWf {} s.ledger) (h : HostItem s i)
    (hk : (slotOf s i).kind = some .tdc ∨ (slotOf s i).kind = some .acquire ∨ (slotOf s i).kind = some .lane) :
    Ended s (timeLimited s i) i (some 12) := by
  unfold timeLimited
  rcases hk with hk | hk | hk <;> rw [hk]
  · exact finishTdc_ends hw h
  · exact finishAcquire_ends hw h
  · exact finishLane_ends hw h

theorem timeLimited_other {s : State} {i : Nat} (h1 : (slotOf s i).kind ≠ some .tdc)
    (h2 : (slotOf s i).kind ≠ some .acquire) (h3 : (slotOf s i).kind ≠ some .lane)
    (h4 : (slotOf s i).kind ≠ some .measure) : timeLimited s i = s := by
  unfold timeLimited
  split
  · next h => exact absurd h h4
  · next h => exact absurd h h1
  · next h => exact absurd h h2
  · next h => exact absurd h h3
  · rfl

theorem itemTimeLimit_idle {s : State} {i : Nat} (h : (slotOf s i).st ≠ .inFlight ∨ pTimeLimit (slotOf s i).msg = 0) :
    Idle (.itemTimeLimit i) s :=
  if_neg fun ⟨hs, hl⟩ => h.elim (fun h => h hs) hl

/-! The obligation. -/

theorem opcItemAbort_completes {n : Nat} {s u : State} {m : Msg} (h : Asked 0x0102 n [] s m u) {P : State → Prop}
    (hn : foreign s n m (namedSlot m) = false) (hi : HostItem s (namedSlot m))
    (hp : ∀ v : State, Touch [.mbs, .rr, .fabric, .free] s v → P (abortItem v (namedSlot m))) :
    Completes (.opcItemAbort n) s [.power, .dev, .units, .hw, .mbs, .rr, .ledger, .order, .dacs, .chans, .pebs, .bursts,
      .seqs, .tdcs, .acqs, .dps, .resvs, .lanes, .queues, .dmas, .fabric, .press, .levee, .svc, .mem, .free] fun t =>
      s.power.bypassPend = false → P t := by
  obtain ⟨v, he, k⟩ := opcItemAbort_ends h hn hi
  refine Completes.of_next he (fun hb => ?_) (execOpcItemAbort_touch n s)
  have kp := (abortItem_touch v (namedSlot m)).power (by decide)
  rw [settleBypass_none (by rw [kp, k.power (by decide)]; exact hb)]
  exact hp v k

/-- Settles O42: the end of an item by `endItem_ended`, an abort by `abortItem_ends` and `abortItem_waits`, retiring by
induction over the ITEM_IDs named, the limit by `timeLimited`. -/
theorem itemsEndAreAbortedAndRetired : Obligations.ItemsEndAreAbortedAndRetired := by
  refine ⟨fun s i reason f hw hi hf => ?_, fun n s u m h hw => ⟨opcItemAbort_refuses h,
    opcItemAbort_terminal h, fun hn hi => opcItemAbort_completes h hn hi fun v k => ?_⟩,
    fun n rem s u m h hw => ⟨opcLedgerRetire_refuses h, fun hc => ?_⟩, fun i s hs hl hw => ?_,
    fun i s h => itemTimeLimit_idle h⟩
  · obtain ⟨hsame, hother⟩ := endItem_ended (reason := reason) (f := f) hw hi.1 hi.2 hf
    exact ⟨hsame, hother, endItem_touch ..⟩
  · have hl := k.ledger (by decide)
    have hh := k.hw (by decide)
    have wv : TabWf {} v.ledger := by rw [hl]; exact hw
    have iv := hi.of_touch k (by decide)
    have es := slotOf_ledger hl (namedSlot m)
    have eb : burstOf v (namedSlot m) = burstOf s (namedSlot m) := by unfold burstOf; rw [k.bursts (by decide)]
    have eq : ∀ q, seqOf v q = seqOf s q := fun q => by unfold seqOf; rw [k.seqs (by decide)]
    have ea : admitted v (namedSlot m) = admitted s (namedSlot m) := by unfold admitted; rw [k.resvs (by decide)]
    have ends : ∀ {t}, Ended v t (namedSlot m) (some 1) → Ended s t (namedSlot m) (some 1) := fun e => e.from_hw hh
    have kept : ∀ {t}, causeKept v t (namedSlot m) 1 → causeKept s t (namedSlot m) 1 :=
      fun e => causeKept.from_ledger hl e
    refine ⟨fun hk => ends (abortItem_ends wv iv (by rw [es]; exact hk)), fun hq => ?_⟩
    obtain ⟨ht, hb, hm, hd⟩ := abortItem_waits wv iv (by rw [es]; exact hq)
    simp only [es, eb, eq, ea] at ht hb hm hd
    refine ⟨fun hk => kept (ht hk), fun hk => ?_, fun hk => ?_, fun hk => ?_⟩
    · exact of_ite_imp (hb hk) kept ends
    · exact of_ite_imp (hm hk) kept ends
    · exact of_ite_imp (hd hk) kept ends
  · have k := asked_touch h
    obtain ⟨stays, frees⟩ := retireAnswered_slots (n := n) (m := m) (k.ledger (by decide)) hw (namedIds u rem m)
    refine Completes.of_next (opcLedgerRetire_next h hc) ⟨fun j hj hid => ?_, fun hu => ?_⟩
      (execOpcLedgerRetire_touch n rem s)
    · have e := stays j hid
      exact (submitUnslotted_taken (by rw [e]; exact hj)).trans e
    · have hn : submitUnslotted (retireAnswered n m (retireList u n m (namedIds u rem m)))
          = retireAnswered n m (retireList u n m (namedIds u rem m)) := by
        refine submitUnslotted_none fun x => ?_
        have e : (retireAnswered n m (retireList u n m (namedIds u rem m))).units = s.units :=
          ((retireAnswered_touch ..).units (by decide)).trans
            (((retireList_touch ..).units (by decide)).trans (k.units (by decide)))
        unfold unitOf
        rw [e]
        exact hu x
      rw [hn]
      refine ⟨frees, stays, fun v c bad hb => ?_⟩
      have hb' : retireList u n m (namedIds u rem m) = (v, c, bad) := hb
      rw [hb']
      unfold retireAnswered
      cases bad <;> rfl
  · have hi : (slotOf s i).own = false → HostItem s i := fun ho => ⟨by unfold openSlot; rw [hs]; rfl, ho⟩
    refine Completes.of_next (itemTimeLimit_next hs hl) ⟨fun ho => ⟨timeLimited_ends hw (hi ho), fun hk => ?_⟩,
      timeLimited_other⟩ (execItemTimeLimit_touch i s)
    have e : timeLimited s i = askMeasure s i rTimeout := by unfold timeLimited; rw [hk]
    rw [e]
    exact askMeasure_ends hw (hi ho)

end Sys2Proof.Machine
end


section
/-! PROOFS. The DMA channels: what one channel's descriptor, bursts, answers and ends leave of it, and that they leave
every other channel (R268 to R275). -/

namespace Sys2Proof.Machine

/-! What an access of the device's own meets depends on local memory alone (R148, R409). -/

section
variable {s t : State}

theorem localOf_cfg (h : t.cfg = s.cfg) (a : Nat) : localOf t a = localOf s a := by
  unfold localOf
  rw [h]

variable (hm : t.mem = s.mem) (hc : t.cfg = s.cfg) (hl : t.levee = s.levee) (hp : t.power = s.power)
include hm hc hl hp

theorem localStatus_local (a n : Nat) : localStatus t a n = localStatus s a n := by
  unfold localStatus memReady ownAddr
  rw [localOf_cfg hc, hm, hl, hp]

theorem answerOf_local (a n status : Nat) : answerOf t a n status = answerOf s a n status := by
  unfold answerOf
  rw [localStatus_local hm hc hl hp]

theorem readBytes_local (rem : Remote) (a n : Nat) : readBytes t rem a n = readBytes s rem a n := by
  have h : ∀ x, readByte t rem x = readByte s rem x := fun x => by
    unfold readByte memReady localByte ownAddr
    rw [localOf_cfg hc, hm, hl, hp]
  unfold readBytes
  simp only [h]

end

/-! What moves one channel. -/

/-- From s to t the channels' table stays canonical, channel c goes as R has it, and every other channel stays. -/
def OnChannel (c : Nat) (R : Dma → Dma → Prop) (s t : State) : Prop :=
  TabWf {} s.dmas → TabWf {} t.dmas ∧ (∀ j, j ≠ c → dmaOf t j = dmaOf s j) ∧ R (dmaOf s c) (dmaOf t c)

section
variable {c : Nat} {R Q P : Dma → Dma → Prop} {s t u : State}

theorem dmaOf_dmas (h : t.dmas = s.dmas) (c : Nat) : dmaOf t c = dmaOf s c := by unfold dmaOf; rw [h]

theorem OnChannel.of_dmas (h : t.dmas = s.dmas) (hr : R (dmaOf s c) (dmaOf s c)) : OnChannel c R s t := fun w =>
  ⟨by rw [h]; exact w, fun _ _ => dmaOf_dmas h _, by rw [dmaOf_dmas h]; exact hr⟩

theorem OnChannel.trans (k : OnChannel c Q t u) (h : OnChannel c R s t) (hp : ∀ a b d, R a b → Q b d → P a d) :
    OnChannel c P s u := fun w => by
  obtain ⟨wt, ot, rt⟩ := h w
  obtain ⟨wu, ou, ru⟩ := k wt
  exact ⟨wu, fun j hj => (ou j hj).trans (ot j hj), hp _ _ _ rt ru⟩

theorem OnChannel.mono (h : OnChannel c R s t) (hp : ∀ a b, R a b → P a b) : OnChannel c P s t := fun w => by
  obtain ⟨wt, ot, rt⟩ := h w
  exact ⟨wt, ot, hp _ _ rt⟩

/-- What comes after and leaves the channels alone. -/
theorem OnChannel.then (h : OnChannel c R s t) (k : u.dmas = t.dmas) : OnChannel c R s u := fun w => by
  obtain ⟨wt, ot, rt⟩ := h w
  exact ⟨by rw [k]; exact wt, fun j hj => (dmaOf_dmas k j).trans (ot j hj), by rw [dmaOf_dmas k]; exact rt⟩

/-- What came before and left the channels alone. -/
theorem OnChannel.after (h : OnChannel c R t u) (k : t.dmas = s.dmas) : OnChannel c R s u := fun w => by
  obtain ⟨wu, ou, ru⟩ := h (by rw [k]; exact w)
  exact ⟨wu, fun j hj => (ou j hj).trans (dmaOf_dmas k j), by rw [← dmaOf_dmas k]; exact ru⟩

theorem modDma_on {f : Dma → Dma} (hr : R (dmaOf s c) (f (dmaOf s c))) : OnChannel c R s (modDma s c f) := fun w =>
  ⟨modDma_wf w _ _, fun _ hj => dmaOf_modDma_other _ _ _ hj, by rw [dmaOf_modDma_same _ _ _ w]; exact hr⟩

end

/-! Settling: what is gathered goes out, and the write-back begins. -/

/-- e is d with what it had gathered sent, at most, and its write-back begun. -/
def settledTo (d e : Dma) : Prop := ∃ ph g b, e = { d with phase := ph, gather := g, beats := b }
  ∧ (ph = d.phase ∨ ph = .writeback) ∧ ∀ x ∈ b, x ∈ d.beats ∨ x.1 = d.gatherAt ∧ d.gather ≠ []

theorem settledTo_refl (d : Dma) : settledTo d d := ⟨_, _, _, rfl, .inl rfl, fun _ hx => .inl hx⟩

/-- Sending what is gathered leaves nothing gathered. -/
def flushedTo (d e : Dma) : Prop := e = d ∨ d.gather ≠ [] ∧
  e = { d with gather := [], beats := d.beats ++ [(d.gatherAt, d.gather.length)] }

theorem flushGather_on (s : State) (c : Nat) : OnChannel c flushedTo s (flushGather s c) := by
  unfold flushGather
  dsimp only
  split
  · exact OnChannel.of_dmas rfl (.inl rfl)
  next h =>
    have hm : OnChannel c flushedTo s (modDma s c fun d => { d with
        gather := [], beats := d.beats ++ [((dmaOf s c).gatherAt, (dmaOf s c).gather.length)] }) :=
      modDma_on (.inr ⟨fun e => h (by rw [e]; rfl), rfl⟩)
    exact hm.then (sendRequest_touch ..).dmas

theorem writeBack_on (s : State) (c : Nat) :
    OnChannel c (fun d e => e = { d with phase := .writeback }) s (writeBack s c) := by
  unfold writeBack
  dsimp only
  generalize hv : (if (dmaQsrc (dmaOf s c) && ! (dmaOf s c).bad) = true then
    modQueue s (dmaQueue (dmaOf s c)) fun q => { q with overrun := false, dropped := 0 } else s) = v
  have hd : v.dmas = s.dmas := by rw [← hv]; split <;> rfl
  have hm : OnChannel c (fun d e => e = { d with phase := .writeback }) v
    (modDma v c fun d => { d with phase := .writeback }) := modDma_on rfl
  exact (hm.then (memWrite_touch ..).dmas).after hd

theorem settledTo_flushed {d e : Dma} (h : flushedTo d e) : settledTo d e := by
  obtain rfl | ⟨hg, rfl⟩ := h
  · exact settledTo_refl _
  · refine ⟨_, _, _, rfl, .inl rfl, fun x hx => ?_⟩
    rcases List.mem_append.1 hx with hx | hx
    · exact .inl hx
    · rw [List.mem_singleton.1 hx]
      exact .inr ⟨rfl, hg⟩

theorem settledTo_written {d e : Dma} (h : settledTo d e) : settledTo d { e with phase := .writeback } := by
  obtain ⟨ph, g, b, rfl, -, hb⟩ := h
  exact ⟨_, _, _, rfl, .inr rfl, hb⟩

theorem settleDma_on (s : State) (c : Nat) : OnChannel c settledTo s (settleDma s c) := by
  unfold settleDma
  dsimp only
  split
  · exact OnChannel.of_dmas rfl (settledTo_refl _)
  generalize hv : (if (dmaOf s c).failed = true ∨ (dmaOf s c).reads = [] ∧ (dmaOf s c).total ≤ (dmaOf s c).asked then
    flushGather s c else s) = v
  have hs : OnChannel c settledTo s v := by
    rw [← hv]
    split
    · exact (flushGather_on s c).mono fun _ _ => settledTo_flushed
    · exact OnChannel.of_dmas rfl (settledTo_refl _)
  split
  · exact (writeBack_on v c).trans hs fun _ _ _ h e => e ▸ settledTo_written h
  · exact hs

/-! A burst that arrives (R270). -/

/-- e asks for nothing that d did not, for the same item. -/
def readsLeft (d e : Dma) : Prop := (∀ x ∈ e.reads, x ∈ d.reads) ∧ e.item = d.item

theorem readsLeft_same {d e : Dma} (h : e.reads = d.reads) (hi : e.item = d.item) : readsLeft d e :=
  ⟨fun _ hx => h ▸ hx, hi⟩

theorem readsLeft_trans (a b d : Dma) (h : readsLeft a b) (k : readsLeft b d) : readsLeft a d :=
  ⟨fun x hx => h.1 x (k.1 x hx), k.2.trans h.2⟩

theorem readsLeft_settled {d e : Dma} (h : settledTo d e) : readsLeft d e := by
  obtain ⟨_, _, _, rfl, -⟩ := h
  exact readsLeft_same rfl rfl

theorem flushGather_reads (s : State) (c : Nat) : OnChannel c readsLeft s (flushGather s c) :=
  (flushGather_on s c).mono fun _ _ h => readsLeft_settled (settledTo_flushed h)

theorem settleDma_reads (s : State) (c : Nat) : OnChannel c readsLeft s (settleDma s c) :=
  (settleDma_on s c).mono fun _ _ => readsLeft_settled

section
variable {c : Nat} {s t u : State}

theorem OnChannel.reads (k : OnChannel c readsLeft t u) (h : OnChannel c readsLeft s t) : OnChannel c readsLeft s u :=
  k.trans h readsLeft_trans

theorem OnChannel.reads_ite {p : Prop} [Decidable p] (h : OnChannel c readsLeft s t) (k : OnChannel c readsLeft s u) :
    OnChannel c readsLeft s (if p then t else u) := by
  split
  · exact h
  · exact k

/-- A change of a channel that keeps its reads and its item. -/
theorem modDma_reads (s : State) (c : Nat) {f : Dma → Dma} (hr : ∀ d, (f d).reads = d.reads)
    (hi : ∀ d, (f d).item = d.item) : OnChannel c readsLeft s (modDma s c f) :=
  modDma_on (readsLeft_same (hr _) (hi _))

theorem gatherBeats_reads (s : State) (c off : Nat) (bs : List Byte) :
    OnChannel c readsLeft s (gatherBeats s c off bs) := by
  have h0 : OnChannel c readsLeft s s := OnChannel.of_dmas rfl (readsLeft_same rfl rfl)
  have h1 := OnChannel.reads_ite (p := off = (dmaOf s c).gatherAt + (dmaOf s c).gather.length) h0 (flushGather_reads s c)
  have h2 := fun v => modDma_reads v c (f := fun d => { d with
    gatherAt := if d.gather = [] then off else d.gatherAt, gather := d.gather ++ bs }) (fun _ => rfl) fun _ => rfl
  exact OnChannel.reads_ite ((flushGather_reads _ c).reads ((h2 _).reads h1)) ((h2 _).reads h1)

theorem localBeat_reads (s : State) (c a off : Nat) (bs : List Byte) : OnChannel c readsLeft s (localBeat s c a off bs) := by
  have h := (modDma_reads (flushGather s c) c (f := fun d => { d with beats := d.beats ++ [(off, bs.length)] })
    (fun _ => rfl) fun _ => rfl).reads (flushGather_reads s c)
  unfold localBeat
  dsimp only
  split
  · exact OnChannel.reads_ite (h.then (writeLocal_touch ..).dmas) h
  · exact h

theorem issueBeats_reads (n : Nat) (s : State) (c off : Nat) (bs : List Byte) :
    OnChannel c readsLeft s (issueBeats n s c off bs) := by
  induction n generalizing s off bs with
  | zero => exact OnChannel.of_dmas rfl (readsLeft_same rfl rfl)
  | succ n ih =>
    unfold issueBeats
    refine OnChannel.reads_ite (OnChannel.of_dmas rfl (readsLeft_same rfl rfl)) ?_
    refine (ih _ _ _).reads (OnChannel.reads_ite (OnChannel.reads (localBeat_reads _ c _ _ _) ?_)
      (OnChannel.reads (gatherBeats_reads _ c _ _) ?_))
    all_goals exact modDma_reads s c (fun _ => rfl) fun _ => rfl

end

/-- What arrives at a channel leaves it no more reads, and takes no buffer block. -/
structure Drains (c : Nat) (s t : State) : Prop where
  reads : OnChannel c readsLeft s t
  blocks : s.bufFree ≤ t.bufFree

section
variable {c : Nat} {s t u : State}

theorem Drains.trans (k : Drains c t u) (h : Drains c s t) : Drains c s u :=
  ⟨k.reads.reads h.reads, h.blocks.trans k.blocks⟩

theorem settleDma_drains (s : State) (c : Nat) : Drains c s (settleDma s c) :=
  ⟨settleDma_reads s c, (settleDma_touch ..).bufFree.ge⟩

theorem issueBeats_drains (n : Nat) (s : State) (c off : Nat) (bs : List Byte) : Drains c s (issueBeats n s c off bs) :=
  ⟨issueBeats_reads n s c off bs, (issueBeats_touch ..).bufFree.ge⟩

theorem failDma_drains (s : State) (c code : Nat) : Drains c s (failDma s c code) := by
  refine ⟨modDma_reads s c (fun d => ?_) fun d => ?_, le_rfl⟩ <;> split <;> rfl

/-- A queue whose last words have been taken ends the descriptor's reads, whose blocks are free. -/
theorem drained_drains (s : State) (c n m : Nat) : Drains c s
    { modDma s c fun d => { d with drained := true, total := n, asked := n, count := m, reads := [] }
      with bufFree := s.bufFree + (dmaOf s c).reads.length } := by
  have h : OnChannel c readsLeft s (modDma s c fun d => { d with
    drained := true, total := n, asked := n, count := m, reads := [] }) := modDma_on ⟨nofun, rfl⟩
  exact ⟨h.then rfl, Nat.le_add_right ..⟩

end

/-- The channel once the burst at an offset has arrived, its block free. -/
def burstTaken (s : State) (c off : Nat) : State :=
  modDma { s with bufFree := s.bufFree + 1 } c fun d => { d with reads := d.reads.filter (·.1 ≠ off) }

theorem burstArrives_drains (s : State) (c off n status : Nat) (rem : Remote) :
    Drains c (burstTaken s c off) (burstArrives s c off n status rem) := by
  unfold burstArrives
  dsimp only
  show Drains c (burstTaken s c off) (if (dmaOf s c).failed = true then settleDma (burstTaken s c off) c else _)
  split
  · exact settleDma_drains ..
  split
  · rename_i hf hq
    clear hf hq
    generalize takeWords _ _ _ = w
    obtain ⟨bs, v, idle, q⟩ := w
    dsimp only
    have h1 : Drains c (burstTaken s c off) (modDma (modQueue (burstTaken s c off) (dmaQueue (dmaOf s c)) fun _ => q) c
        fun d => { d with lastValid := if bs = [] then d.lastValid else v }) := by
      refine ⟨OnChannel.after (modDma_reads _ c (fun _ => rfl) fun _ => rfl) rfl, le_rfl⟩
    have h2 := fun u (h : Drains c (burstTaken s c off) u) =>
      (settleDma_drains _ c).trans ((issueBeats_drains (bs.length + 1) u c off bs).trans h)
    refine h2 _ ?_
    split
    · exact (drained_drains ..).trans h1
    · exact h1
  · split
    · exact (settleDma_drains ..).trans (failDma_drains ..)
    · exact (settleDma_drains ..).trans (issueBeats_drains ..)

/-- A burst's arrival, by what remains of its channel's reads. -/
theorem burstArrives_takes {e : Instr} {ps : List Part} {s v : State} {c off n status : Nat} {rem : Remote}
    (he : exec e s = .next (burstArrives v c off n status rem)) (ht : TouchOut ps s (exec e s)) (k : Touch [.fabric] s v)
    (w : TabWf {} s.dmas) : TakesBurst e ps s c off := by
  obtain ⟨hr, hb⟩ := burstArrives_drains v c off n status rem
  have h0 : OnChannel c (fun d e => (∀ x ∈ e.reads, x.1 ≠ off) ∧ e.item = d.item) v (burstTaken v c off) :=
    OnChannel.after (modDma_on ⟨fun x hx => by simpa using (List.mem_filter.1 hx).2, rfl⟩) rfl
  obtain ⟨-, ho, hreads, hi⟩ := (hr.trans (P := fun d e => (∀ x ∈ e.reads, x.1 ≠ off) ∧ e.item = d.item) h0
    fun _ _ _ h k => ⟨fun x hx => h.1 x (k.1 x hx), k.2.trans h.2⟩).after k.dmas w
  refine Completes.of_next he ⟨hreads, ?_, hi, ho⟩ ht
  rw [← k.bufFree]
  exact hb

/-! A write that is answered (R270, R273). -/

/-- The channel's answered beats, counted as done where the answer st is good. -/
def countAnswer (off n st : Nat) (d : Dma) : Dma :=
  { d with beats := d.beats.filter (·.1 ≠ off), done := if st = 0 then d.done + n else d.done }

/-- An answer st that is not good fails the descriptor with a code, the first cause standing. -/
def failOn (st code : Nat) (d : Dma) : Dma :=
  if st = 0 ∨ d.failed = true then d else { d with failed := true, status := BitVec.ofNat 8 code }

theorem failOn_traffic (st code : Nat) (d : Dma) : (failOn st code d).beats = d.beats ∧ (failOn st code d).done = d.done
    ∧ (failOn st code d).gather = d.gather ∧ (failOn st code d).gatherAt = d.gatherAt := by
  unfold failOn
  split <;> exact ⟨rfl, rfl, rfl, rfl⟩

theorem failOn_failed {st : Nat} (h : st ≠ 0) (code : Nat) (d : Dma) : (failOn st code d).failed = true := by
  unfold failOn
  split
  next hc => exact hc.resolve_left h
  next => rfl

theorem failOn_status {st : Nat} (h : st ≠ 0) (code : Nat) {d : Dma} (hf : d.failed = false) :
    (failOn st code d).status = BitVec.ofNat 8 code := by
  unfold failOn
  rw [if_neg (by simp [h, hf])]

/-- The channel once n bytes at an offset have been answered with st. -/
def answeredTo (off n st : Nat) (d e : Dma) : Prop :=
  (∀ x ∈ e.beats, x.1 ≠ off ∨ x.1 = d.gatherAt ∧ d.gather ≠ []) ∧ e.done = (if st = 0 then d.done + n else d.done)
    ∧ (st ≠ 0 → e.failed = true) ∧ (st ≠ 0 → d.failed = false → e.status = BitVec.ofNat 8 (errorCode d st))

theorem answeredTo_settled {off n st : Nat} {d e : Dma}
    (h : settledTo (failOn st (errorCode d st) (countAnswer off n st d)) e) : answeredTo off n st d e := by
  obtain ⟨ph, g, b, rfl, -, hb⟩ := h
  obtain ⟨hbeats, hdone, hgather, hat⟩ := failOn_traffic st (errorCode d st) (countAnswer off n st d)
  rw [hbeats, hgather, hat] at hb
  refine ⟨fun x hx => (hb x hx).imp (fun h => ?_) id, hdone, fun h => failOn_failed h _ _,
    fun h hf => failOn_status h _ hf⟩
  simpa using (List.mem_filter.1 h).2

theorem beatsAnswered_on (s : State) (c off n status : Nat) :
    OnChannel c (answeredTo off n (answerOf s (addr41 (dmaOf s c).dst + off) n status)) s
      (beatsAnswered s c off n status) := by
  unfold beatsAnswered
  dsimp only
  generalize answerOf s (addr41 (dmaOf s c).dst + off) n status = st
  intro w
  have h1 : OnChannel c (fun d e => e = countAnswer off n st d) s (modDma s c (countAnswer off n st)) := modDma_on rfl
  have h2 : OnChannel c (fun d e => e = failOn st (errorCode (dmaOf s c) st) d) (modDma s c (countAnswer off n st))
      (if st = 0 then modDma s c (countAnswer off n st)
        else failDma (modDma s c (countAnswer off n st)) c (errorCode (dmaOf s c) st)) := by
    split
    next h0 => exact OnChannel.of_dmas rfl (if_pos (.inl h0)).symm
    next h0 => exact modDma_on (by simp only [failOn, h0, false_or])
  obtain ⟨w1, o1, e1⟩ := h1 w
  obtain ⟨w2, o2, e2⟩ := h2 w1
  obtain ⟨w3, o3, e3⟩ := settleDma_on _ c w2
  rw [e2, e1] at e3
  exact ⟨w3, fun j hj => (o3 j hj).trans ((o2 j hj).trans (o1 j hj)), answeredTo_settled e3⟩

/-- An answer's arrival, where no beat that is still gathered stands at its offset. -/
theorem beatsAnswered_takes {e : Instr} {ps : List Part} {s v : State} {c off n status a : Nat}
    (he : exec e s = .next (beatsAnswered v c off n status)) (ht : TouchOut ps s (exec e s)) (k : Touch [.fabric] s v)
    (w : TabWf {} s.dmas) (ha : answerOf s (addr41 (dmaOf s c).dst + off) n status = a)
    (hg : (dmaOf s c).gather = [] ∨ (dmaOf s c).gatherAt ≠ off) : TakesWrite e ps s c off n a := by
  have hd := dmaOf_dmas k.dmas c
  have h := beatsAnswered_on v c off n status
  rw [hd, answerOf_local k.mem k.cfg k.levee k.power, ha] at h
  obtain ⟨-, ho, hb, hdone, hf, hs⟩ := h.after k.dmas w
  refine Completes.of_next he ⟨fun x hx => ?_, hdone, hf, hs, ho⟩ ht
  refine (hb x hx).elim id fun ⟨h1, h2⟩ h3 => ?_
  exact hg.elim h2 fun hg => hg (h1.symm.trans h3)

/-! The end of a channel's item (R61, R269, R273). -/

/-- v is s as far as the end of channel c's item goes. -/
structure NearEnd (c : Nat) (s v : State) : Prop where
  dmas : TabWf {} v.dmas
  others : ∀ j, j ≠ c → dmaOf v j = dmaOf s j
  item : (dmaOf v c).item = (dmaOf s c).item
  hw : v.hw = s.hw
  ledger : TabWf {} v.ledger
  host : ∀ i, HostItem s i → HostItem v i
  flags : ∀ i, (slotOf v i).flags = (slotOf s i).flags

theorem NearEnd.of_touch {ps : List Part} {c : Nat} {s v : State} (k : Touch ps s v)
    (h : Part.dmas ∉ ps ∧ Part.hw ∉ ps ∧ Part.ledger ∉ ps) (w : TabWf {} s.dmas) (wl : TabWf {} s.ledger) :
    NearEnd c s v where
  dmas := by rw [k.dmas h.1]; exact w
  others _ _ := dmaOf_dmas (k.dmas h.1) _
  item := by rw [dmaOf_dmas (k.dmas h.1)]
  hw := k.hw h.2.1
  ledger := by rw [k.ledger h.2.2]; exact wl
  host _ hi := hi.of_touch k h.2.2
  flags _ := by rw [slotOf_ledger (k.ledger h.2.2)]

/-- A change of a slot that keeps its item's state, owner and flags. -/
theorem NearEnd.modSlot {c : Nat} {s v : State} (h : NearEnd c s v) (i : Nat) {f : Slot → Slot}
    (hs : ∀ l, (f l).st = l.st ∧ (f l).own = l.own ∧ (f l).flags = l.flags) : NearEnd c s (modSlot v i f) where
  dmas := h.dmas
  others := h.others
  item := h.item
  hw := h.hw
  ledger := modSlot_wf h.ledger _ _
  host j hj := by
    by_cases e : j = i
    · subst e; exact HostItem.modSlot h.ledger (h.host _ hj) (hs _).1 (hs _).2.1
    · unfold HostItem; rw [slotOf_modSlot_other _ _ _ e]; exact h.host _ hj
  flags j := by
    by_cases e : j = i
    · subst e; rw [slotOf_modSlot_same _ _ _ h.ledger, (hs _).2.2]; exact h.flags _
    · rw [slotOf_modSlot_other _ _ _ e]; exact h.flags _

/-- v without channel c. -/
def channelFreed (v : State) (c : Nat) : State := { v with dmas := tdel v.dmas c }

/-- How the item of a slot ends: with ABORTED_HOST where the entry to BYPASS has stopped it. -/
def endReason (s : State) (i : Nat) (r : Option Nat) : Option Nat :=
  if (slotOf s i).flags &&& BitVec.ofNat 16 fFord = 0 then r else some rAbortedHost

theorem finishTransfer_item {v : State} {c i : Nat} (h : (dmaOf v c).item = some i) (r : Option Nat) :
    finishTransfer v c r = endItem (channelFreed v c) i (endReason v i r) fun l =>
      partialIf (endReason v i r).isSome (l.progress ≠ 0) l := by
  unfold finishTransfer
  rw [h]
  rfl

theorem finishTransfer_none {v : State} {c : Nat} (h : (dmaOf v c).item = none) (r : Option Nat) :
    finishTransfer v c r = channelFreed v c := by
  unfold finishTransfer
  rw [h]
  rfl

theorem finishTransfer_dmas (v : State) (c : Nat) (r : Option Nat) :
    (finishTransfer v c r).dmas = (channelFreed v c).dmas := by
  cases h : (dmaOf v c).item with
  | none => rw [finishTransfer_none h]
  | some i => rw [finishTransfer_item h]; exact (endItem_touch ..).dmas

/-- A command whose effect is the end of channel c's item. -/
theorem finishTransfer_over {e : Instr} {ps : List Part} {s v : State} {c : Nat} {r : Option Nat}
    (he : exec e s = .next (finishTransfer v c r)) (ht : TouchOut ps s (exec e s)) (h : NearEnd c s v) :
    ChannelOver e ps s c r := by
  have hd := dmaOf_dmas (finishTransfer_dmas v c r)
  have hc : dmaOf (channelFreed v c) c = {} := tget_tdel_same h.dmas c
  refine Completes.of_next he ⟨by rw [hd, hc], by rw [hd, hc], fun j hj => ?_, fun i hi hs => ?_⟩ ht
  · rw [hd]
    exact Eq.trans (tget_tdel_other _ _ hj) (h.others j hj)
  · rw [finishTransfer_item (h.item.trans hi)]
    have hr : endReason v i r = if (slotOf s i).flags &&& BitVec.ofNat 16 fFord = 0 then r else some 1 := by
      unfold endReason; rw [h.flags]; rfl
    rw [← hr]
    refine Ended.from_hw h.hw (Ended.of_touch (ps := [.dmas]) ?_ (by decide) (by decide) h.ledger (h.host i hs)
      (partialIf_own ..))
    exact Touch.set_dmas (by decide) (Touch.refl _ _)

/-! A descriptor that arrives (R268, R269, R275). -/

/-- What a descriptor that begins leaves of its fields, its bounds judged. -/
def begunAs (d e : Dma) : Prop := e.ctrl = d.ctrl ∧ e.src = d.src ∧ e.dst = d.dst ∧ e.next = d.next ∧ e.total = d.total
  ∧ e.item = d.item ∧ (e.phase = .moving ∨ e.phase = .writeback)

theorem begunAs_settled {d x e : Dma} (h : begunAs d x) (k : settledTo x e) : begunAs d e := by
  obtain ⟨ph, g, b, rfl, hp, -⟩ := k
  obtain ⟨h1, h2, h3, h4, h5, h6, h7⟩ := h
  exact ⟨h1, h2, h3, h4, h5, h6, hp.elim (fun e => by rw [e]; exact h7) .inr⟩

theorem begunAs_moving {d x : Dma} (h : x = { d with phase := .moving, failed := x.failed, status := x.status }) :
    begunAs d x := by
  rw [h]
  exact ⟨rfl, rfl, rfl, rfl, rfl, rfl, .inl rfl⟩

theorem beginDesc_on (s : State) (c : Nat) (d : Dma) : OnChannel c (fun _ e => begunAs d e) s (beginDesc s c d) := by
  unfold beginDesc
  dsimp only
  split
  · have h : OnChannel c (fun _ e => begunAs d e) s (modDma s c fun _ => { d with
      phase := .moving, failed := true, status := 1 }) := modDma_on (begunAs_moving rfl)
    exact (writeBack_on _ c).trans h fun _ _ _ h e => e ▸ begunAs_settled h (settledTo_written (settledTo_refl _))
  · have h : OnChannel c (fun _ e => begunAs d e) s (modDma s c fun _ => { d with phase := .moving }) :=
      modDma_on (begunAs_moving rfl)
    refine (settleDma_on _ c).trans (h.then ?_) fun _ _ _ => begunAs_settled
    split <;> rfl

theorem descArrives_eq {v : State} {c st : Nat} {rem : Remote} (h : (dmaOf v c).phase = .fetching) :
    descArrives v c st rem =
      match (if answerOf v (dmaOf v c).addr 64 st = 0 then readBytes v rem (dmaOf v c).addr 64 else none) with
      | none => .next (finishTransfer v c (some (if answerOf v (dmaOf v c).addr 64 st = 3 then rUnreachable else rBus)))
      | some raw =>
        if ¬ (descTaken (dmaOf v c) raw).ctrl.getLsbD 31 then .next (finishTransfer v c none)
        else
          match descMisuse v c (descTaken (dmaOf v c) raw) raw with
          | some f => .fault f
          | none => .next (beginDesc v c (descTaken (dmaOf v c) raw)) := by
  unfold descArrives
  exact if_neg (not_not.2 h)

theorem descMisuse_dmas {s v : State} (h : v.dmas = s.dmas) (c : Nat) (d : Dma) (raw : List Byte) :
    descMisuse v c d raw = descMisuse s c d raw := by
  unfold descMisuse
  rw [h]

/-- A descriptor's arrival, by what can be read of it. -/
theorem descArrives_takes {e : Instr} {ps : List Part} {s v : State} {c st a : Nat} {rem : Remote}
    (he : exec e s = descArrives v c st rem) (ht : TouchOut ps s (exec e s)) (k : Touch [.fabric] s v)
    (w : TabWf {} s.dmas) (wl : TabWf {} s.ledger) (hp : (dmaOf s c).phase = .fetching)
    (ha : answerOf s (dmaOf s c).addr 64 st = a) : TakesDescriptor e ps s c a rem := by
  have hd := dmaOf_dmas k.dmas c
  have near : NearEnd c s v := NearEnd.of_touch k (by decide) w wl
  rw [descArrives_eq (by rw [hd]; exact hp), hd, answerOf_local k.mem k.cfg k.levee k.power, ha,
    readBytes_local k.mem k.cfg k.levee k.power] at he
  refine ⟨fun hn => ?_, fun h0 raw hraw => ⟨fun ho => ?_, fun ho => ⟨fun f hf => ?_, fun hf => ?_⟩⟩⟩
  · have hx : (if a = 0 then readBytes s rem (dmaOf s c).addr 64 else none) = none := by
      split
      next h0 => exact hn.resolve_left (not_not.2 h0)
      next => rfl
    rw [hx] at he
    exact finishTransfer_over he ht near
  · rw [if_pos h0, hraw] at he
    exact finishTransfer_over (he.trans (if_pos (by rw [ho]; decide))) ht near
  · rw [if_pos h0, hraw] at he
    refine he.trans ((if_neg (not_not.2 ho)).trans ?_)
    rw [descMisuse_dmas k.dmas, hf]
  · rw [if_pos h0, hraw] at he
    have he' := he.trans (if_neg (not_not.2 ho))
    rw [descMisuse_dmas k.dmas, hf] at he'
    obtain ⟨-, hother, h1, h2, h3, h4, h5, h6, h7⟩ := (beginDesc_on v c _).after k.dmas w
    exact Completes.of_next he' ⟨h1, h2, h3, h4, h5, h6, h7, hother⟩ ht

/-! The answer to a write-back (R271 to R274). -/

/-- What the descriptor's queue source comes to once it is complete, or has failed. -/
def queueDone (s : State) (d : Dma) : State :=
  if dmaQsrc d ∧ ¬ d.bad ∧ d.status ≠ 4 then
    modQueue s (dmaQueue d) fun q =>
      if d.status = 0 ∧ ¬ dmaPeek d then releaseQueue (markQueue q) else rewindQueue q
  else s

theorem queueDone_touch (s : State) (d : Dma) : Touch [.queues] s (queueDone s d) :=
  Touch.ite (modQueue_touch ..) (Touch.refl _ _)

/-- A descriptor more is counted in the item's slot. -/
def countDesc (s : State) (d : Dma) (i : Nat) : State :=
  modSlot s i fun l => { l with progress := l.progress + 1, result := BitVec.ofNat 64 d.addr
                                afar := l.afar || isRemote s (addr41 d.dst) }

theorem descDone_failed {s : State} {c : Nat} (h : (dmaOf s c).status ≠ 0) :
    descDone s c = finishTransfer (queueDone s (dmaOf s c)) c (some (statusEnd (dmaOf s c).status.toNat)) := by
  unfold descDone queueDone
  simp only [h, not_false_eq_true, if_true]

theorem descDone_none {s : State} {c : Nat} (h : (dmaOf s c).status = 0) (hi : (dmaOf s c).item = none) :
    descDone s c = queueDone s (dmaOf s c) := by
  unfold descDone queueDone
  simp only [h, hi, not_true_eq_false, if_false]

/-- The item goes on, ends or stops after a descriptor that is complete. -/
def descNext (s : State) (c i : Nat) (d : Dma) : State :=
  if dmaLast d ∧ (slotOf s i).flags &&& BitVec.ofNat 16 fFord = 0 then finishTransfer s c none
  else
    match (slotOf s i).cause with
    | some r => finishTransfer s c (some r.toNat)
    | none => fetchDesc s c (addr41 d.next)

theorem descDone_item {s : State} {c i : Nat} (h : (dmaOf s c).status = 0) (hi : (dmaOf s c).item = some i) :
    descDone s c = descNext (countDesc (queueDone s (dmaOf s c)) (dmaOf s c) i) c i (dmaOf s c) := by
  unfold descDone queueDone
  simp only [h, hi, not_true_eq_false, if_false]
  rfl

theorem descNext_touch (s : State) (c i : Nat) (d : Dma) :
    Touch [.dev, .units, .mbs, .ledger, .order, .dmas, .fabric, .svc] s (descNext s c i d) := by
  unfold descNext
  refine Touch.ite (finishTransfer_touch ..) ?_
  split
  · exact finishTransfer_touch ..
  · exact (fetchDesc_touch ..).mono (by decide)

/-- Beyond the descriptor's own, no queue moves. -/
theorem descDone_queues (s : State) (c : Nat) : (descDone s c).queues = (queueDone s (dmaOf s c)).queues := by
  by_cases h : (dmaOf s c).status = 0
  · cases hi : (dmaOf s c).item with
    | none => rw [descDone_none h hi]
    | some i => rw [descDone_item h hi]; exact (descNext_touch ..).queues
  · rw [descDone_failed h]; exact (finishTransfer_touch ..).queues

theorem queueDone_queue {s : State} {d : Dma} (w : TabWf {} s.queues) (hq : dmaQsrc d = true) (hb : d.bad = false)
    (hs : d.status ≠ 4) : queueOf (queueDone s d) (dmaQueue d) = if d.status = 0 ∧ dmaPeek d = false then
      releaseQueue (markQueue (queueOf s (dmaQueue d))) else rewindQueue (queueOf s (dmaQueue d)) := by
  unfold queueDone
  rw [if_pos ⟨hq, by simp [hb], hs⟩, queueOf_modQueue_same _ _ _ w]
  simp only [Bool.not_eq_true]

theorem rewindSource_queue {s : State} {d : Dma} (w : TabWf {} s.queues) (hp : d.phase = .writeback)
    (hq : dmaQsrc d = true) (hb : d.bad = false) (hs : d.status ≠ 4) :
    queueOf (rewindSource s d) (dmaQueue d) = rewindQueue (queueOf s (dmaQueue d)) := by
  unfold rewindSource
  rw [if_pos ⟨.inr hp, hq, by simp [hb], hs⟩, queueOf_modQueue_same _ _ _ w]

/-- CTRL written back with OWN cleared (R271). -/
def ownCleared (s : State) (d : Dma) : State :=
  memWrite s d.addr (le 4 (d.ctrl.toNat % 2 ^ 31) ++ if isRemote s d.addr then
    le 4 d.size ++ le 8 d.src.toNat ++ le 8 d.dst.toNat ++ le 8 d.next.toNat else [])

theorem writebackAnswered_eq (s : State) (c status : Nat) : writebackAnswered s c status =
    if answerOf s ((dmaOf s c).addr + 32) 32 status ≠ 0 then
      finishTransfer (rewindSource s (dmaOf s c)) c (some rBus)
    else descDone (ownCleared s (dmaOf s c)) c := rfl

theorem fetchDesc_other (s : State) (a : Nat) {c j : Nat} (h : j ≠ c) : dmaOf (fetchDesc s c a) j = dmaOf s j := by
  unfold fetchDesc
  rw [dmaOf_dmas (dmaRead_touch ..).dmas, dmaOf_modDma_other _ _ _ h]

/-- The item that goes on after a descriptor, by what ends or stops it. -/
theorem descNext_takes {e : Instr} {ps : List Part} {s z : State} {c i : Nat} {d : Dma}
    (he : exec e s = .next (descNext (countDesc z d i) c i d)) (ht : TouchOut ps s (exec e s)) (h : NearEnd c s z)
    (hl : slotOf z i = slotOf s i) :
    let last := dmaLast d = true ∧ (slotOf s i).flags &&& BitVec.ofNat 16 fFord = 0
    (last → ChannelOver e ps s c none)
      ∧ (¬ last → ∀ r, (slotOf s i).cause = some r → ChannelOver e ps s c (some r.toNat))
      ∧ (¬ last → (slotOf s i).cause = none → Completes e s ps fun t =>
          (dmaOf t c).phase = .fetching ∧ (dmaOf t c).addr = addr41 d.next
            ∧ (slotOf t i).progress = (slotOf s i).progress + 1 ∧ (slotOf t i).result = BitVec.ofNat 64 d.addr
            ∧ ∀ j, j ≠ c → dmaOf t j = dmaOf s j) := by
  have near : NearEnd c s (countDesc z d i) := h.modSlot i fun _ => ⟨rfl, rfl, rfl⟩
  have hs : slotOf (countDesc z d i) i = { slotOf s i with
      progress := (slotOf s i).progress + 1, result := BitVec.ofNat 64 d.addr
      afar := (slotOf s i).afar || isRemote z (addr41 d.dst) } := by
    unfold countDesc; rw [slotOf_modSlot_same _ _ _ h.ledger, hl]
  generalize countDesc z d i = y at *
  unfold descNext at he
  rw [hs] at he
  dsimp only at he ⊢
  refine ⟨fun hx => ?_, fun hx r hr => ?_, fun hx hr => ?_⟩
  · exact finishTransfer_over (by rw [he, if_pos hx]) ht near
  · exact finishTransfer_over (by rw [he, if_neg hx, hr]) ht near
  · refine Completes.of_next (by rw [he, if_neg hx, hr]) ?_ ht
    have hl : ∀ j, slotOf (fetchDesc y c (addr41 d.next)) j = slotOf y j := slotOf_ledger (fetchDesc_touch ..).ledger
    rw [fetchDesc_dma near.dmas, hl, hs]
    exact ⟨rfl, rfl, rfl, rfl, fun j hj => (fetchDesc_other y _ hj).trans (near.others j hj)⟩

/-- A write-back's answer. -/
theorem writebackAnswered_takes {e : Instr} {ps : List Part} {s v : State} {c st a : Nat}
    (he : exec e s = .next (writebackAnswered v c st)) (ht : TouchOut ps s (exec e s)) (k : Touch [.fabric] s v)
    (w : TabWf {} s.dmas) (wl : TabWf {} s.ledger) (hp : (dmaOf s c).phase = .writeback)
    (ha : answerOf s ((dmaOf s c).addr + 32) 32 st = a) : TakesWriteback e ps s c a := by
  have hd := dmaOf_dmas k.dmas c
  rw [writebackAnswered_eq, hd, answerOf_local k.mem k.cfg k.levee k.power, ha] at he
  generalize hz : ownCleared v (dmaOf s c) = z at he
  have kz : Touch [.fabric, .levee, .mem, .free] s z := by
    rw [← hz]; exact (memWrite_touch ..).app (by decide) (k.mono (by decide))
  have hdz : dmaOf z c = dmaOf s c := dmaOf_dmas kz.dmas c
  have kd : Touch [.fabric, .levee, .mem, .free, .queues] s (queueDone z (dmaOf s c)) :=
    (queueDone_touch ..).app (by decide) (kz.mono (by decide))
  have near : NearEnd c s (queueDone z (dmaOf s c)) := NearEnd.of_touch kd (by decide) w wl
  refine ⟨fun h0 => ?_, fun h0 hs => ?_, fun hq hb hs wq => ?_, fun i h0 hs hi => ?_⟩
  · refine finishTransfer_over (by rw [he, if_pos h0]; rfl) ht
      (NearEnd.of_touch (ps := [.fabric, .queues]) ?_ (by decide) w wl)
    exact (rewindSource_touch ..).app (by decide) (k.mono (by decide))
  · refine finishTransfer_over ?_ ht near
    rw [he, if_neg (not_not.2 h0), descDone_failed (by rw [hdz]; exact hs), hdz]
  · by_cases h0 : a = 0
    · refine Completes.of_next (by rw [he, if_neg (not_not.2 h0)]) ?_ ht
      have hqs : queueOf (descDone z c) (dmaQueue (dmaOf s c)) = queueOf (queueDone z (dmaOf s c)) (dmaQueue (dmaOf s c)) := by
        unfold queueOf; rw [descDone_queues, hdz]
      have hv : queueOf z (dmaQueue (dmaOf s c)) = queueOf s (dmaQueue (dmaOf s c)) := by unfold queueOf; rw [kz.queues]
      rw [hqs, queueDone_queue (by rw [kz.queues]; exact wq) hq hb hs, hv]
      simp only [h0, true_and]
    · refine Completes.of_next (by rw [he, if_pos h0]) ?_ ht
      have hqs : queueOf (finishTransfer (rewindSource v (dmaOf s c)) c (some rBus)) (dmaQueue (dmaOf s c))
          = queueOf (rewindSource v (dmaOf s c)) (dmaQueue (dmaOf s c)) := by
        unfold queueOf; rw [(finishTransfer_touch ..).queues]
      have hv : queueOf v (dmaQueue (dmaOf s c)) = queueOf s (dmaQueue (dmaOf s c)) := by unfold queueOf; rw [k.queues]
      rw [hqs, rewindSource_queue (by rw [k.queues]; exact wq) hp hq hb hs, hv, if_neg fun h => h0 h.1]
  · refine descNext_takes (z := queueDone z (dmaOf s c)) ?_ ht near (slotOf_ledger kd.ledger i)
    rw [he, if_neg (not_not.2 h0), descDone_item (by rw [hdz]; exact hs) (by rw [hdz]; exact hi), hdz]

end Sys2Proof.Machine
end

section
/-! PROOFS. Packets for this node: register accesses, memory accesses, mailbox messages and the answers to this node's own
requests (R81, R148, R149, R270, R312 to R314, R322 to R324, R392). -/

namespace Sys2Proof.Trellis

open Sys2Proof.Machine hiding Stands

/-! What sending and taking a packet leaves of the fabric: all but the ports. -/

/-- t is s but for the ports. -/
def PortsOnly (s t : State) : Prop := ∃ ps, t = { s with fabric := { s.fabric with ports := ps } }

section
variable {s t u : State}

theorem PortsOnly.refl (s : State) : PortsOnly s s := ⟨_, rfl⟩

theorem PortsOnly.trans (k : PortsOnly t u) (h : PortsOnly s t) : PortsOnly s u := by
  obtain ⟨_, rfl⟩ := h
  obtain ⟨_, rfl⟩ := k
  exact ⟨_, rfl⟩

variable (h : PortsOnly s t)
include h

theorem PortsOnly.outst : t.fabric.outst = s.fabric.outst := by obtain ⟨_, rfl⟩ := h; rfl

theorem PortsOnly.copies : t.fabric.copies = s.fabric.copies := by obtain ⟨_, rfl⟩ := h; rfl

theorem PortsOnly.taken : t.fabric.taken = s.fabric.taken := by obtain ⟨_, rfl⟩ := h; rfl

end

theorem modPort_portsOnly (s : State) (p : Nat) (f : PortState → PortState) : PortsOnly s (modPort s p f) := ⟨_, rfl⟩

theorem freeInput_portsOnly (s : State) (i : Nat) (k : Packet) : PortsOnly s (freeInput s i k) := by
  unfold freeInput
  split
  · exact modPort_portsOnly ..
  · exact PortsOnly.refl s

theorem sendOne_portsOnly (s : State) (p : Nat) (e : Nat × Packet) : PortsOnly s (sendOne s p e) := by
  rw [sendOne_eq]
  exact (freeInput_portsOnly ..).trans (modPort_portsOnly ..)

theorem pumpPort_portsOnly (n : Nat) (s : State) (p : Nat) : PortsOnly s (pumpPort n s p) := by
  induction n generalizing s with
  | zero => exact PortsOnly.refl s
  | succ n ih =>
    unfold pumpPort
    split
    · exact (ih _).trans (sendOne_portsOnly ..)
    · exact PortsOnly.refl s

theorem holdFor_portsOnly (s : State) (p i : Nat) (k : Packet) : PortsOnly s (holdFor s p i k) :=
  (pumpPort_portsOnly ..).trans (modPort_portsOnly ..)

theorem sendPlain_portsOnly (s : State) (i : Nat) (k : Packet) : PortsOnly s (sendPlain s i k) := by
  unfold sendPlain
  split
  · exact holdFor_portsOnly ..
  · exact freeInput_portsOnly ..

theorem arrives_portsOnly {cls : Nat} {port : Port} {k : Packet} {s u : State} (h : Arrives cls port k s u) :
    PortsOnly s u := by
  obtain ⟨-, -, -, -, -, rfl⟩ := h
  exact (freeInput_portsOnly ..).trans (modPort_portsOnly ..)

/-! A packet that is sent stands, whatever the ports' table is like: a port that holds or has sent something is listed. -/

theorem portOf_modPort_listed {s : State} {p : Nat} {g : PortState → PortState} (h : g (portOf s p) ≠ {}) :
    portOf (modPort s p g) p = g (portOf s p) := by
  show tget {} (tmod {} s.fabric.ports p g) p = _
  have h' : g (tget {} s.fabric.ports p) ≠ {} := h
  unfold tmod tset
  rw [if_neg h']
  exact tget_tput_same ..

section
variable {p i : Nat} {f : Packet → Prop} {s : State}

/-- A port where a packet stands, in what it holds or in what it has sent. -/
def HoldsAt (i : Nat) (f : Packet → Prop) (q : PortState) : Prop :=
  (∃ x, (i, x) ∈ q.waiting ∧ f x) ∨ ∃ r, r ∈ q.replay ∧ r.1 = i % 16 / 2 ∧ f r.2.2

theorem HoldsAt.listed {q : PortState} (h : HoldsAt i f q) : q ≠ {} := by
  rintro rfl
  rcases h with ⟨_, hx, -⟩ | ⟨_, hr, -⟩ <;> simp at *

/-- A change of a port that keeps what stands there. -/
theorem modPort_keeps_stands {r : Nat} {g : PortState → PortState} (h : Stands s p i f)
    (hg : p = r → HoldsAt i f (portOf s r) → HoldsAt i f (g (portOf s r))) : Stands (modPort s r g) p i f := by
  show HoldsAt i f (portOf (modPort s r g) p)
  by_cases e : p = r
  · subst e
    have hh := hg rfl h
    rwa [portOf_modPort_listed hh.listed]
  · rwa [portOf_modPort_other _ _ _ e]

theorem freeInput_keeps_stands (h : Stands s p i f) (j : Nat) (k : Packet) : Stands (freeInput s j k) p i f := by
  unfold freeInput
  split
  · exact modPort_keeps_stands h fun _ h => h
  · exact h

variable (hf : Leaves f)
include hf

theorem sendOne_keeps_stands (h : Stands s p i f) (r : Nat) (e : Nat × Packet) : Stands (sendOne s r e) p i f := by
  rw [sendOne_eq]
  refine freeInput_keeps_stands (modPort_keeps_stands h fun _ hh => ?_) ..
  obtain ⟨x, hx, fx⟩ | ⟨x, hx, g⟩ := hh
  · by_cases he : (i, x) = e
    · subst he
      exact .inr ⟨_, List.mem_append_right _ (List.mem_singleton.2 rfl), rfl, hf _ _ (alike_sentAs ..) fx⟩
    · exact .inl ⟨x, (List.mem_erase_of_ne he).2 hx, fx⟩
  · exact .inr ⟨x, List.mem_append_left _ hx, g⟩

theorem pumpPort_keeps_stands (n : Nat) (r : Nat) (h : Stands s p i f) : Stands (pumpPort n s r) p i f := by
  induction n generalizing s with
  | zero => exact h
  | succ n ih =>
    unfold pumpPort
    split
    · exact ih (sendOne_keeps_stands hf h ..)
    · exact h

theorem holdFor_stands_there {k : Packet} (hk : f k) : Stands (holdFor s p i k) p i f := by
  have hh : HoldsAt i f { portOf s p with waiting := (portOf s p).waiting ++ [(i, k)] } :=
    .inl ⟨k, List.mem_append_right _ (List.mem_singleton.2 rfl), hk⟩
  refine pumpPort_keeps_stands hf _ _ ?_
  show HoldsAt i f (portOf (modPort s p _) p)
  rwa [portOf_modPort_listed hh.listed]

end

/-- What is sent stands at the port of its way. -/
theorem sendPlain_sent (s : State) (i : Nat) (k : Packet) : Sent s (sendPlain s i k) i k := fun hr => by
  unfold sendPlain
  split
  next p k' hc =>
    obtain ⟨hp, ha⟩ := chooseOut_some hc
    exact ⟨p, hp, holdFor_stands_there (alike_leaves k) (alike_trans (alike_enterRing s i k) ha)⟩
  next hc => rw [routable, hc] at hr; cases hr

/-- Where the node and its neighbours stand, a packet goes the same way. -/
theorem Ways.sent {s u t : State} (h : Ways s u) {i : Nat} {k : Packet} (hs : Sent u t i k) : Sent s t i k := fun hr =>
  hs (by unfold routable at *; rwa [h.enterRing, h.chooseOut])

theorem Ways.answered {s u : State} (h : Ways s u) (k : Packet) (cls status : Nat) (data : List Byte) :
    Answered s (Machine.sendPlain u 8 (answerPkt u k cls status data)) k cls status data := by
  have e : answerPkt u k cls status data = answerPkt s k cls status data := h.mkPacket ..
  rw [e]
  exact h.sent (sendPlain_sent _ _ _)

theorem Ways.acked {s u : State} (h : Ways s u) (k : Packet) (status : Nat) : Acked s (sendAck u k status) k status := by
  unfold sendAck
  rw [h.mkPacket]
  exact h.sent (sendPlain_sent _ _ _)

/-! The rows of Table 17.3, by what is handed to them. -/

section
variable (port : Port) (k : Packet) (s : State)

theorem regRd_exec : exec (.regRd port k) s = deliver 0x01 port k s fun u =>
    if regReachable u k then
      let r := readWords k.arg1.toNat u .fabric (k.arg0.toNat % 2 ^ 24)
      let bs := r.1.flatMap fun w => le 4 w.toNat
      .next (sendPlain r.2 8 (answerPkt r.2 k 0x03 0 (bs ++ zeros (32 - bs.length))))
    else .next (sendPlain u 8 (answerPkt u k 0x03 1 (zeros 32))) := rfl

theorem regWr_exec : exec (.regWr port k) s = deliver 0x02 port k s fun u =>
    if regReachable u k ∧ k.data.length = 32 then
      let v := writeWords u (k.arg0.toNat % 2 ^ 24)
        ((List.range k.arg1.toNat).map fun j => BitVec.ofNat 32 (bytesAt k.data (4 * j) 4))
      .next (sendPlain v 8 (answerPkt v k 0x03 0 []))
    else .next (sendPlain u 8 (answerPkt u k 0x03 1 [])) := rfl

theorem regRsp_exec : exec (.regRsp port k) s = deliver 0x03 port k s fun u =>
    match outstOf u k.tag [0x01, 0x02] with
    | some o => .next { closeOutst u o.tag with fabric := { (closeOutst u o.tag).fabric with
        lastReg := (List.range (k.data.length / 4)).map fun j => BitVec.ofNat 32 (bytesAt k.data (4 * j) 4) } }
    | none => .next u := rfl

theorem mboxReq_exec : exec (.mboxReq port k) s = deliver 0x10 port k s fun u =>
    if 2 ≤ boxOf k then .next (sendAck u k 3)
    else if takenBefore u k then .next (sendAck u k 0)
    else if wrongPath u (boxOf k) then .next (refusePath (sendAck (noteTaken u k) k 0) k false)
    else if ringRoom u (boxOf k) then
      .next (sendAck (putRequest (noteTaken u k) (boxOf k) (arrived k false)) k 0)
    else .next (sendAck u k 1) := rfl

theorem mboxRsp_exec : exec (.mboxRsp port k) s = deliver 0x11 port k s fun u =>
    .next (sendAck (if takenBefore u k then u else noteTaken u k) k 0) := rfl

theorem mboxAck_exec : exec (.mboxAck port k) s = deliver 0x12 port k s fun u =>
    if k.status = 1 then .next u
    else .next (settleCopies { u with fabric := { u.fabric with copies := u.fabric.copies.map fun c =>
      if c.pkt.tag = k.tag then { c with got := true } else c } }) := rfl

theorem memRd_exec : exec (.memRd port k) s = deliver 0x20 port k s fun u =>
    match homeRefuses u (k.arg0.toNat % 2 ^ 41) k.arg1.toNat true,
      readBytes u [] (k.arg0.toNat % 2 ^ 41) k.arg1.toNat with
    | some st, _ => .next (sendPlain u 8 (answerPkt u k 0x21 st []))
    | none, some bs => .next (sendPlain u 8 (answerPkt u k 0x21 0 bs))
    | none, none => .next (sendPlain u 8 (answerPkt u k 0x21 2 [])) := rfl

theorem memRdRsp_exec : exec (.memRdRsp port k) s = deliver 0x21 port k s fun u =>
    match outstOf u k.tag [0x20] with
    | some o => readAnswered (closeOutst u o.tag) o k.status.toNat (packetBytesAt o.addr k.data)
    | none => .next u := rfl

theorem memWr_exec : exec (.memWr port k) s = deliver 0x22 port k s fun u =>
    match homeRefuses u (k.arg0.toNat % 2 ^ 41) k.arg1.toNat (k.data.length = k.arg1.toNat) with
    | some st => .next (sendPlain u 8 (answerPkt u k 0x23 st []))
    | none =>
      let v := writePage u (k.arg0.toNat % 2 ^ 41) k.data
      .next (sendPlain v 8 (answerPkt v k 0x23 0 [])) := rfl

theorem memWrAck_exec : exec (.memWrAck port k) s = deliver 0x23 port k s fun u =>
    match outstOf u k.tag [0x22] with
    | some o => .next (writeAnswered (closeOutst u o.tag) o k.status.toNat)
    | none => .next u := rfl

end

/-! Every delivery is taken by the same rule. -/

theorem delivery_exec {port : Port} {k : Packet} {x y : Nat} {rem : Remote} {cls : Nat} {c : Instr}
    (h : (cls, c) ∈ deliveries port k x y rem) (s : State) : ∃ f, exec c s = deliver cls port k s f := by
  simp only [deliveries, List.mem_cons, Prod.mk.injEq, List.not_mem_nil, or_false] at h
  rcases h with ⟨rfl, rfl⟩ | ⟨rfl, rfl⟩ | ⟨rfl, rfl⟩ | ⟨rfl, rfl⟩ | ⟨rfl, rfl⟩ | ⟨rfl, rfl⟩ | ⟨rfl, rfl⟩ | ⟨rfl, rfl⟩
    | ⟨rfl, rfl⟩ | ⟨rfl, rfl⟩ | ⟨rfl, rfl⟩ | ⟨rfl, rfl⟩ | ⟨rfl, rfl⟩ | ⟨rfl, rfl⟩ | ⟨rfl, rfl⟩ | ⟨rfl, rfl⟩
  · exact ⟨_, regRd_exec port k s⟩
  · exact ⟨_, regWr_exec port k s⟩
  · exact ⟨_, regRsp_exec port k s⟩
  · exact ⟨_, mboxReq_exec port k s⟩
  · exact ⟨_, mboxRsp_exec port k s⟩
  · exact ⟨_, mboxAck_exec port k s⟩
  · exact ⟨_, memRd_exec port k s⟩
  · exact ⟨_, memRdRsp_exec port k s⟩
  · exact ⟨_, memWr_exec port k s⟩
  · exact ⟨_, memWrAck_exec port k s⟩
  · exact ⟨_, timeXchg_exec port k x y s⟩
  · exact ⟨_, timeXchgRsp_exec port k x s⟩
  · exact ⟨_, bootReq_exec port k rem s⟩
  · exact ⟨_, bootOffer_exec port k s⟩
  · exact ⟨_, bootData_exec port k s⟩
  · exact ⟨_, bootDone_exec port k s⟩

section
variable {port : Port} {k : Packet} {s : State} {cls : Nat} {c : Instr}

theorem delivery_other {f : State → Out} (he : exec c s = deliver cls port k s f)
    (h : k.cls.toNat ≠ cls ∨ k.dest.toNat % 2048 ≠ ownAddr s) : Idle c s :=
  he.trans (if_neg fun ⟨h1, h2⟩ => h.elim (· h1) (· h2))

variable {f : State → Out} (he : exec c s = deliver cls port k s f) (hc : k.cls.toNat = cls)
  (hd : k.dest.toNat % 2048 = ownAddr s)
include he hc hd

theorem delivery_held (h : portUp (portOf s (portIx port)) = false ∨ inReset s = true) : Idle c s :=
  he.trans ((if_pos ⟨hc, hd⟩).trans (receive_held h _))

theorem delivery_outOfOrder (w : PortsWf s) (hu : portUp (portOf s (portIx port)) = true) (hr : inReset s = false)
    (ho : inOrder (portOf s (portIx port)) k = false) :
    Completes c s [.fabric] fun t => portOf t (portIx port) = { portOf s (portIx port) with nakDue := true }
      ∧ ∀ r, r ≠ portIx port → portOf t r = portOf s r :=
  nak_completes w (he.trans ((if_pos ⟨hc, hd⟩).trans (receive_outOfOrder hu hr ho _)))

end

/-! Registers (R324, R392). -/

/-- The map is the same in every state. -/
theorem mapped_state (s t : State) (a : Nat) : mapped s a = mapped t a := by
  simp only [mapped, registerWord, windowWord, apply_ite Option.isSome, Option.isSome_some]

theorem regReachable_state (s t : State) (k : Packet) : regReachable s k = regReachable t k := by
  simp only [regReachable, allMapped, mapped_state s t]

theorem readWords_count (n : Nat) (s : State) (p : Path) (a : Nat) : (readWords n s p a).2.hw.count = s.hw.count := by
  induction n generalizing s a with
  | zero => rfl
  | succ n ih =>
    unfold readWords
    dsimp only
    rw [ih]
    split
    · unfold latchTime; cases p <;> rfl
    · rfl

section
variable {port : Port} {k : Packet} {s u : State} (w : PortsWf s)

include w

theorem regRd_unmapped (h : Arrives 0x01 port k s u) (hr : regReachable s k = false) :
    Completes (.regRd port k) s [.fabric] fun t => Answered s t k 0x03 1 (zeros 32) := by
  have r := arrives_takenIn w h
  refine ⟨_, arrives_exec h (regRd_exec port k s) (if_neg ?_), r.ways.answered _ _ _ _, (sendPlain_touch ..).trans r.touch⟩
  rw [regReachable_state u s, hr]
  nofun

theorem regRd_read (h : Arrives 0x01 port k s u) (hr : regReachable s k = true) :
    Completes (.regRd port k) s [.hw, .fabric] fun t =>
      let bs := (readWords k.arg1.toNat u .fabric (k.arg0.toNat % 2 ^ 24)).1.flatMap fun w => le 4 w.toNat
      Answered s t k 0x03 0 (bs ++ zeros (32 - bs.length)) ∧ t.hw.count = s.hw.count := by
  have r := arrives_takenIn w h
  have he := arrives_exec h (regRd_exec port k s) (if_pos (by rw [regReachable_state u s]; exact hr))
  have kr := readWords_touch k.arg1.toNat u .fabric (k.arg0.toNat % 2 ^ 24)
  refine Completes.of_next he ⟨(r.ways.same kr.power (by rw [kr.fabric])).answered _ _ _ _, ?_⟩ (execRegRd_touch port k s)
  rw [(sendPlain_touch ..).hw, readWords_count, r.touch.hw]

theorem regWr_refused (h : Arrives 0x02 port k s u) (hr : regReachable s k = false ∨ k.data.length ≠ 32) :
    Completes (.regWr port k) s [.fabric] fun t => Answered s t k 0x03 1 [] := by
  have r := arrives_takenIn w h
  refine ⟨_, arrives_exec h (regWr_exec port k s) (if_neg ?_), r.ways.answered _ _ _ _, (sendPlain_touch ..).trans r.touch⟩
  rw [regReachable_state u s]
  rintro ⟨h1, h2⟩
  exact hr.elim (fun hr => by rw [hr] at h1; nomatch h1) fun hr => hr h2

omit w in
/-- A write of one word is that of REGISTER_WRITE. -/
theorem registerWrite_exec (hr : inReset u = false) {a : Nat} (ha : a < 2 ^ 24) (h4 : a % 4 = 0) (v : Word) :
    exec (.registerWrite (BitVec.ofNat 24 a) v) u = .next (writeWords u a [v]) := by
  have hp : u.power.porHeld = false := by
    unfold inReset at hr
    exact (Bool.or_eq_false_iff.1 hr).1
  have e : (BitVec.ofNat 24 a).toNat = a := Nat.mod_eq_of_lt ha
  show execRegisterWrite (BitVec.ofNat 24 a) v u = _
  unfold execRegisterWrite
  rw [e, if_neg (by simp [hp, h4])]

theorem regWr_written (h : Arrives 0x02 port k s u) (hr : regReachable s k = true) (hl : k.data.length = 32) :
    let a24 := k.arg0.toNat % 2 ^ 24
    Completes (.regWr port k) s [.power, .dev, .units, .hw, .boot, .mbs, .ledger, .order, .dacs, .chans, .pebs, .bursts,
      .seqs, .tdcs, .acqs, .dps, .resvs, .lanes, .queues, .dmas, .fabric, .press, .house, .levee, .svc, .mem, .msp,
      .free] fun t =>
      Touch [.fabric] (writeWords u a24 ((List.range k.arg1.toNat).map fun j =>
        BitVec.ofNat 32 (bytesAt k.data (4 * j) 4))) t
      ∧ (k.arg1.toNat = 1 → ∃ v, exec (.registerWrite (BitVec.ofNat 24 a24) (BitVec.ofNat 32 (bytesAt k.data 0 4))) u
          = .next v ∧ Touch [.fabric] v t ∧ Answered v t k 0x03 0 []) := by
  have r := arrives_takenIn w h
  have he := arrives_exec h (regWr_exec port k s) (if_pos ⟨by rw [regReachable_state u s]; exact hr, hl⟩)
  refine Completes.of_next he ⟨sendPlain_touch .., fun h1 => ⟨_, ?_, sendPlain_touch .., sendPlain_sent _ _ _⟩⟩
    (execRegWr_touch port k s)
  obtain ⟨-, -, -, hin, -⟩ := h
  have h4 : k.arg0.toNat % 2 ^ 24 % 4 = 0 := by
    simp only [regReachable, Bool.and_eq_true, decide_eq_true_eq] at hr
    exact hr.1.2
  rw [registerWrite_exec (by unfold inReset at *; rw [r.touch.power]; exact hin) (Nat.mod_lt _ (by decide)) h4, h1]
  rfl

end

/-! Memory (R148, R324). -/

section
variable {port : Port} {k : Packet} {s u : State} (w : PortsWf s)

theorem homeRefuses_local {t : State} (hm : t.mem = s.mem) (hc : t.cfg = s.cfg) (a n : Nat) (fits : Bool) :
    homeRefuses t a n fits = homeRefuses s a n fits := by
  unfold homeRefuses memReady
  rw [localOf_cfg hc, hm]

theorem homeRefuses_ready {a n : Nat} {fits : Bool} (h : homeRefuses s a n fits = none) : memReady s = true := by
  unfold homeRefuses at h
  by_contra hm
  rw [if_pos hm] at h
  nomatch h

include w

/-- A read is answered with the STATUS that turns it away, or with its bytes, and nothing else changes. -/
theorem memRd_answers (h : Arrives 0x20 port k s u) {st : Nat} {bs : List Byte}
    (ho : (∃ e, homeRefuses s (k.arg0.toNat % 2 ^ 41) k.arg1.toNat true = some e ∧ e = st ∧ bs = [])
      ∨ homeRefuses s (k.arg0.toNat % 2 ^ 41) k.arg1.toNat true = none
        ∧ (readBytes s [] (k.arg0.toNat % 2 ^ 41) k.arg1.toNat = none ∧ st = 2 ∧ bs = []
          ∨ readBytes s [] (k.arg0.toNat % 2 ^ 41) k.arg1.toNat = some bs ∧ st = 0)) :
    Completes (.memRd port k) s [.fabric] fun t => Answered s t k 0x21 st bs := by
  have r := arrives_takenIn w h
  refine ⟨sendPlain u 8 (answerPkt u k 0x21 st bs), arrives_exec h (memRd_exec port k s) ?_, r.ways.answered _ _ _ _,
    (sendPlain_touch ..).trans r.touch⟩
  rw [homeRefuses_local r.touch.mem r.touch.cfg, readBytes_local r.touch.mem r.touch.cfg r.touch.levee r.touch.power]
  rcases ho with ⟨e, he, rfl, rfl⟩ | ⟨he, ⟨hb, rfl, rfl⟩ | ⟨hb, rfl⟩⟩
  · rw [he]
  · rw [he, hb]
  · rw [he, hb]

theorem memWr_refused (h : Arrives 0x22 port k s u) {st : Nat}
    (ho : homeRefuses s (k.arg0.toNat % 2 ^ 41) k.arg1.toNat (k.data.length = k.arg1.toNat) = some st) :
    Completes (.memWr port k) s [.fabric] fun t => Answered s t k 0x23 st [] := by
  have r := arrives_takenIn w h
  refine ⟨sendPlain u 8 (answerPkt u k 0x23 st []), arrives_exec h (memWr_exec port k s) ?_, r.ways.answered _ _ _ _,
    (sendPlain_touch ..).trans r.touch⟩
  rw [homeRefuses_local r.touch.mem r.touch.cfg, ho]

theorem memWr_written (h : Arrives 0x22 port k s u)
    (ho : homeRefuses s (k.arg0.toNat % 2 ^ 41) k.arg1.toNat (k.data.length = k.arg1.toNat) = none)
    (hw : Memory.wf s.mem.bytes = true) {l : Nat} (hl : localOf s (k.arg0.toNat % 2 ^ 41) = some l) :
    Completes (.memWr port k) s [.fabric, .levee, .mem] fun t => Answered s t k 0x23 0 [] ∧ ∀ x,
      localByte t x = if l ≤ x ∧ x < l + k.data.length then k.data.getD (x - l) 0 else localByte s x := by
  have r := arrives_takenIn w h
  have hp : writePage u (k.arg0.toNat % 2 ^ 41) k.data = writeLocal u l k.data := by
    have hr : memReady u = true := by
      unfold memReady; rw [r.touch.mem]; exact homeRefuses_ready ho
    unfold writePage
    rw [localOf_cfg r.touch.cfg, hl]
    exact if_pos hr
  have he : exec (.memWr port k) s =
      .next (sendPlain (writeLocal u l k.data) 8 (answerPkt (writeLocal u l k.data) k 0x23 0 [])) := by
    refine arrives_exec h (memWr_exec port k s) ?_
    rw [homeRefuses_local r.touch.mem r.touch.cfg, ho, hp]
  have x : Ways s (writeLocal u l k.data) := r.ways.same rfl rfl
  refine ⟨_, he, ⟨x.answered _ _ _ _, fun x => ?_⟩, (sendPlain_touch ..).app (by decide)
    ((writeLocal_touch ..).app (by decide) (r.touch.mono (by decide)))⟩
  have hm : ∀ v, localByte (sendPlain (writeLocal u l k.data) 8 v) x = localByte (writeLocal u l k.data) x := fun v => by
    unfold localByte; rw [(sendPlain_touch ..).mem]
  rw [hm]
  split
  next hx =>
    obtain ⟨i, rfl⟩ := Nat.exists_eq_add_of_le hx.1
    rw [localByte_writeLocal_same u (by rw [r.touch.mem]; exact hw) l k.data (by omega), Nat.add_sub_cancel_left]
  next hx =>
    rw [localByte_writeLocal_other u l k.data (by omega)]
    unfold localByte; rw [r.touch.mem]

end

/-! What sending a message leaves (R81, R88, R323). -/

section
variable {p i : Nat} {f : Packet → Prop} (hf : Leaves f)
include hf

theorem sendPacket_stands (s : State) (j : Nat) (k : Packet) : Keeps (PortsStand p i f) s (sendPacket s j k) := by
  unfold sendPacket sendInRing
  split
  · exact holdFor_stands hf ..
  · unfold endHere
    dsimp only
    have here : Keeps (PortsStand p i f) s (ownUnreachable (freeInput s j (enterRing s j k)) (enterRing s j k)) :=
      Keeps.trans (t := freeInput s j (enterRing s j k)) (PortsStand.same rfl) (freeInput_stands ..)
    refine Keeps.ite here ?_
    split
    · exact (sendPlain_stands hf ..).trans (freeInput_stands ..)
    · exact freeInput_stands ..

theorem sendMsg_stands (s : State) (mb dest : Nat) (m : Msg) : Keeps (PortsStand p i f) s (sendMsg s mb dest m) := by
  unfold sendMsg
  dsimp only
  refine Keeps.ite ((sendPacket_stands hf ..).trans ?_) (Keeps.ite ((PortsStand.same rfl).trans ?_) ?_)
  all_goals exact PortsStand.same rfl

theorem refusePath_stands (s : State) (k : Packet) (b : Bool) : Keeps (PortsStand p i f) s (refusePath s k b) :=
  (sendMsg_stands hf ..).trans (PortsStand.same rfl)

end

theorem sendPacket_taken (s : State) (j : Nat) (k : Packet) : (sendPacket s j k).fabric.taken = s.fabric.taken := by
  unfold sendPacket sendInRing
  split
  · exact (holdFor_portsOnly ..).taken
  · unfold endHere
    dsimp only
    split
    · exact (freeInput_portsOnly ..).taken
    · split
      · exact ((sendPlain_portsOnly ..).trans (freeInput_portsOnly ..)).taken
      · exact (freeInput_portsOnly ..).taken

theorem sendMsg_taken (s : State) (mb dest : Nat) (m : Msg) : (sendMsg s mb dest m).fabric.taken = s.fabric.taken := by
  unfold sendMsg
  dsimp only
  split
  · exact sendPacket_taken ..
  · split <;> rfl

/-- From s to t the mailboxes' table stays canonical, and no request ring moves. -/
def ReqsStand (s t : State) : Prop := TabWf {} s.mbs →
  TabWf {} t.mbs ∧ ∀ b, (mbOf t b).req = (mbOf s b).req ∧ (mbOf t b).reqHead = (mbOf s b).reqHead

theorem ReqsStand.of_mbs {s t : State} (h : t.mbs = s.mbs) : ReqsStand s t := fun w =>
  ⟨by rw [h]; exact w, fun b => by unfold mbOf; rw [h]; exact ⟨rfl, rfl⟩⟩

theorem ReqsStand.trans {s t u : State} (k : ReqsStand t u) (h : ReqsStand s t) : ReqsStand s u := fun w => by
  obtain ⟨wt, ht⟩ := h w
  obtain ⟨wu, hu⟩ := k wt
  exact ⟨wu, fun b => ⟨(hu b).1.trans (ht b).1, (hu b).2.trans (ht b).2⟩⟩

theorem modMb_reqsStand (s : State) (n : Nat) {f : Mailbox → Mailbox}
    (hf : ∀ b, (f b).req = b.req ∧ (f b).reqHead = b.reqHead) : ReqsStand s (modMb s n f) := fun w =>
  ⟨modMb_wf w n f, fun b => by
    by_cases e : b = n
    · subst e; rw [mbOf_modMb_same _ _ _ w]; exact hf _
    · rw [mbOf_modMb_other _ _ _ e]; exact ⟨rfl, rfl⟩⟩

/-- The entries of mailbox n that the link has acknowledged leave its ring (R88). -/
def settleRing (s : State) (n : Nat) : State :=
  modMb { s with fabric := { s.fabric with copies := (releaseEntries n s.fabric.copies).2 } } n fun b =>
    { b with rspTail := b.rspTail + BitVec.ofNat 9 (releaseEntries n s.fabric.copies).1 }

/-- The copies that are neither in a ring nor waited for are gone (R323). -/
def dropCopies (s : State) : State :=
  { s with fabric := { s.fabric with copies := s.fabric.copies.filter fun c => ! (c.got && c.mb = 4) } }

theorem settleCopies_eq (s : State) : settleCopies s = dropCopies (settleRing (settleRing s 0) 1) := rfl

theorem settleCopies_reqsStand (s : State) : ReqsStand s (settleCopies s) := by
  have ring : ∀ s n, ReqsStand s (settleRing s n) := fun s n => modMb_reqsStand _ n fun _ => ⟨rfl, rfl⟩
  rw [settleCopies_eq]
  exact (ReqsStand.of_mbs rfl).trans ((ring _ 1).trans (ring s 0))

theorem sendMsg_reqsStand (s : State) (mb dest : Nat) (m : Msg) : ReqsStand s (sendMsg s mb dest m) := by
  unfold sendMsg
  dsimp only
  split
  · exact ReqsStand.of_mbs (sendPacket_touch ..).mbs
  · split
    · exact (settleCopies_reqsStand _).trans (ReqsStand.of_mbs rfl)
    · exact ReqsStand.of_mbs rfl

theorem refusePath_eq (s : State) (k : Packet) (b : Bool) : refusePath s k b =
    sendMsg (takeFree s (2 ^ 32)).2 4 (k.src.toNat % 2048)
      (refusal (takeFree s (2 ^ 32)).2 (arrived k b) 0x19 (takeFree s (2 ^ 32)).1) := rfl

theorem refusePath_taken (s : State) (k : Packet) (b : Bool) : (refusePath s k b).fabric.taken = s.fabric.taken := by
  rw [refusePath_eq, sendMsg_taken]
  rfl

theorem refusePath_reqsStand (s : State) (k : Packet) (b : Bool) : ReqsStand s (refusePath s k b) := by
  rw [refusePath_eq]
  exact (sendMsg_reqsStand _ _ _ _).trans (ReqsStand.of_mbs rfl)

/-! MBOX_REQ, MBOX_RSP and MBOX_ACK (R81, R323). -/

theorem takenBefore_same {s t : State} (h : t.fabric.taken = s.fabric.taken) (k : Packet) :
    takenBefore t k = takenBefore s k := by
  unfold takenBefore; rw [h]

theorem takenBefore_noted (s : State) (k : Packet) : takenBefore (noteTaken s k) k = true := by
  have e : tget [] (noteTaken s k).fabric.taken (k.src.toNat % 2048)
      = (k.tag :: tget [] s.fabric.taken (k.src.toNat % 2048)).take 256 := by
    unfold noteTaken tmod tset
    dsimp only
    rw [if_neg (by simp)]
    exact tget_tput_same ..
  unfold takenBefore
  rw [e]
  simp

theorem sendAck_taken (s : State) (k : Packet) (st : Nat) : (sendAck s k st).fabric.taken = s.fabric.taken :=
  (sendPlain_portsOnly ..).taken

section
variable {port : Port} {k : Packet} {s u : State} (w : PortsWf s)
include w

/-- A message that changes nothing but is acknowledged. -/
theorem mboxReq_acks (h : Arrives 0x10 port k s u) {st : Nat} (ho : 2 ≤ boxOf k ∧ st = 3
    ∨ boxOf k < 2 ∧ (takenBefore s k = true ∧ st = 0
      ∨ takenBefore s k = false ∧ wrongPath s (boxOf k) = false ∧ ringRoom s (boxOf k) = false ∧ st = 1)) :
    Completes (.mboxReq port k) s [.fabric] fun t => Acked s t k st ∧ takenBefore t k = takenBefore s k := by
  have r := arrives_takenIn w h
  have ht := takenBefore_same (arrives_portsOnly h).taken k
  refine ⟨sendAck u k st, arrives_exec h (mboxReq_exec port k s) ?_, ⟨r.ways.acked _ _,
    (takenBefore_same (sendAck_taken ..) k).trans ht⟩, (sendAck_touch ..).trans r.touch⟩
  have hp : wrongPath u (boxOf k) = wrongPath s (boxOf k) := by unfold wrongPath mbOf; rw [r.touch.mbs]
  have hr : ringRoom u (boxOf k) = ringRoom s (boxOf k) := by unfold ringRoom mbOf; rw [r.touch.mbs]
  rcases ho with ⟨hb, rfl⟩ | ⟨hb, ⟨h0, rfl⟩ | ⟨h0, h1, h2, rfl⟩⟩
  · rw [if_pos hb]
  · rw [if_neg (Nat.not_le.2 hb), ht, h0]
    rfl
  · rw [if_neg (Nat.not_le.2 hb), ht, h0, hp, h1, hr, h2]
    rfl

theorem mboxReq_wrongPath (h : Arrives 0x10 port k s u) (hb : boxOf k < 2) (h0 : takenBefore s k = false)
    (h1 : wrongPath s (boxOf k) = true) (wm : TabWf {} s.mbs) :
    Completes (.mboxReq port k) s [.mbs, .fabric, .free] fun t => Acked s t k 0 ∧ takenBefore t k = true
      ∧ ∀ b, (mbOf t b).req = (mbOf s b).req ∧ (mbOf t b).reqHead = (mbOf s b).reqHead := by
  have r := arrives_takenIn w h
  have he : exec (.mboxReq port k) s = .next (refusePath (sendAck (noteTaken u k) k 0) k false) := by
    refine arrives_exec h (mboxReq_exec port k s) ?_
    have hp : wrongPath u (boxOf k) = wrongPath s (boxOf k) := by unfold wrongPath mbOf; rw [r.touch.mbs]
    rw [if_neg (Nat.not_le.2 hb), takenBefore_same (arrives_portsOnly h).taken k, h0, hp, h1]
    rfl
  have x : Ways s (noteTaken u k) := r.ways.same rfl rfl
  refine Completes.of_next he ⟨fun hr => ?_, ?_, ?_⟩ (execMboxReq_touch port k s)
  · obtain ⟨p, hlt, g⟩ := x.sendPlain ⟨r.wf.wf⟩ 8 _ hr
    refine ⟨p, hlt, ((refusePath_stands (alike_leaves _) ..).keeps ?_).stands⟩
    unfold sendAck
    rw [x.mkPacket]
    exact g
  · rw [takenBefore_same (refusePath_taken ..) k, takenBefore_same (sendAck_taken ..) k]
    exact takenBefore_noted u k
  · have m : ReqsStand s (sendAck (noteTaken u k) k 0) :=
      ReqsStand.of_mbs ((sendAck_touch ..).mbs.trans ((noteTaken_touch ..).mbs.trans r.touch.mbs))
    exact (((refusePath_reqsStand _ k false).trans m) wm).2

theorem mboxReq_taken (h : Arrives 0x10 port k s u) (hb : boxOf k < 2) (h0 : takenBefore s k = false)
    (h1 : wrongPath s (boxOf k) = false) (h2 : ringRoom s (boxOf k) = true) (wm : TabWf {} s.mbs)
    (wr : TabWf 0 (mbOf s (boxOf k)).req) :
    Completes (.mboxReq port k) s [.mbs, .fabric] fun t => Acked s t k 0 ∧ takenBefore t k = true
      ∧ (mbOf t (boxOf k)).reqHead = (mbOf s (boxOf k)).reqHead + 1
      ∧ tget 0 (mbOf t (boxOf k)).req ((mbOf s (boxOf k)).reqHead.toNat % 256) = arrived k false
      ∧ ∀ j, j ≠ boxOf k → mbOf t j = mbOf s j := by
  have r := arrives_takenIn w h
  generalize hv : putRequest (noteTaken u k) (boxOf k) (arrived k false) = v
  have he : exec (.mboxReq port k) s = .next (sendAck v k 0) := by
    refine arrives_exec h (mboxReq_exec port k s) ?_
    have hp : wrongPath u (boxOf k) = wrongPath s (boxOf k) := by unfold wrongPath mbOf; rw [r.touch.mbs]
    have hr : ringRoom u (boxOf k) = ringRoom s (boxOf k) := by unfold ringRoom mbOf; rw [r.touch.mbs]
    rw [if_neg (Nat.not_le.2 hb), takenBefore_same (arrives_portsOnly h).taken k, h0, hp, h1, hr, h2, ← hv]
    rfl
  have ht : ∀ j, mbOf (sendAck v k 0) j = mbOf v j := fun j => by unfold mbOf; rw [(sendAck_touch ..).mbs]
  have hn : ∀ j, mbOf (noteTaken u k) j = mbOf s j := fun j => by
    unfold mbOf; rw [(noteTaken_touch ..).mbs, r.touch.mbs]
  have hm : mbOf v (boxOf k) = { mbOf s (boxOf k) with
      req := tset 0 (mbOf s (boxOf k)).req ((mbOf s (boxOf k)).reqHead.toNat % 256) (arrived k false)
      reqHead := (mbOf s (boxOf k)).reqHead + 1 } := by
    rw [← hv]
    unfold putRequest
    rw [mbOf_modMb_same _ _ _ (by rw [(noteTaken_touch ..).mbs, r.touch.mbs]; exact wm), hn]
  refine ⟨_, he, ⟨Ways.acked (r.ways.same (by rw [← hv]; rfl) (by rw [← hv]; rfl)) _ _, ?_, ?_, ?_, fun j hj => ?_⟩, ?_⟩
  · rw [takenBefore_same (sendAck_taken ..) k, ← hv]
    exact takenBefore_noted u k
  · rw [ht, hm]
  · rw [ht, hm]
    exact tget_tset_same wr _ _
  · rw [ht, ← hv]
    exact (mbOf_modMb_other _ _ _ hj).trans (hn j)
  · refine (sendAck_touch ..).app (by decide) ?_
    rw [← hv]
    exact (putRequest_touch ..).app (by decide) ((noteTaken_touch ..).app (by decide) (r.touch.mono (by decide)))

theorem mboxRsp_acks (h : Arrives 0x11 port k s u) :
    Completes (.mboxRsp port k) s [.fabric] fun t => Acked s t k 0 ∧ takenBefore t k = true := by
  have r := arrives_takenIn w h
  refine Completes.of_next (arrives_exec h (mboxRsp_exec port k s) rfl) ⟨Ways.acked ?_ _ _, ?_⟩ (execMboxRsp_touch port k s)
  · split
    · exact r.ways
    · exact r.ways.same rfl rfl
  · rw [takenBefore_same (sendAck_taken ..) k]
    split
    next h0 => exact h0
    next => exact takenBefore_noted u k

omit w

theorem mboxAck_full (h : Arrives 0x12 port k s u) (hk : k.status = 1) :
    Completes (.mboxAck port k) s [.fabric] fun t => t.fabric.copies = s.fabric.copies := by
  refine ⟨u, arrives_exec h (mboxAck_exec port k s) (if_pos hk), (arrives_portsOnly h).copies, ?_⟩
  obtain ⟨_, rfl⟩ := arrives_portsOnly h
  exact Touch.set_fabric (by decide) (Touch.refl _ s)

end

/-- What leaves a ring keeps its packet and its acknowledgement. -/
theorem mem_releaseEntries {n : Nat} {c : Copy} {cs : List Copy} (h : c ∈ (releaseEntries n cs).2) :
    ∃ d ∈ cs, d.pkt = c.pkt ∧ d.got = c.got := by
  induction cs with
  | nil => exact absurd h List.not_mem_nil
  | cons x cs ih =>
    have tail : c ∈ (releaseEntries n cs).2 → ∃ d ∈ x :: cs, d.pkt = c.pkt ∧ d.got = c.got := fun h => by
      obtain ⟨d, hd, hp⟩ := ih h
      exact ⟨d, .tail _ hd, hp⟩
    unfold releaseEntries at h
    dsimp only at h
    split at h
    · split at h
      · rcases List.mem_cons.1 h with rfl | h
        · exact ⟨x, .head _, rfl, rfl⟩
        · exact tail h
      · exact ⟨c, h, rfl, rfl⟩
    · rcases List.mem_cons.1 h with rfl | h
      · exact ⟨c, .head _, rfl, rfl⟩
      · exact tail h

/-- A copy that stays is one that stood, and is not done with. -/
theorem mem_settleCopies {s : State} {c : Copy} (h : c ∈ (settleCopies s).fabric.copies) :
    (∃ d ∈ s.fabric.copies, d.pkt = c.pkt ∧ d.got = c.got) ∧ ¬ (c.got = true ∧ c.mb = 4) := by
  obtain ⟨h1, hd⟩ := List.mem_filter.1 (show c ∈ (settleRing (settleRing s 0) 1).fabric.copies.filter _ from h)
  obtain ⟨d1, h2, hp1, hg1⟩ := mem_releaseEntries (show c ∈ (releaseEntries 1 _).2 from h1)
  obtain ⟨d0, h3, hp0, hg0⟩ := mem_releaseEntries (show d1 ∈ (releaseEntries 0 _).2 from h2)
  exact ⟨⟨d0, h3, hp0.trans hp1, hg0.trans hg1⟩, fun ⟨hg, hm⟩ => by simp [hg, hm] at hd⟩

theorem mboxAck_releases {port : Port} {k : Packet} {s u : State} (h : Arrives 0x12 port k s u) (hk : k.status ≠ 1) :
    Completes (.mboxAck port k) s [.mbs, .fabric] fun t =>
      (∀ c, c ∈ t.fabric.copies → c.pkt.tag = k.tag → c.got = true ∧ c.mb ≠ 4) := by
  refine Completes.of_next (arrives_exec h (mboxAck_exec port k s) (if_neg hk)) (fun c hc ht => ?_)
    (execMboxAck_touch port k s)
  obtain ⟨⟨d, hd, hp, hg⟩, hn⟩ := mem_settleCopies hc
  obtain ⟨e, -, rfl⟩ := List.mem_map.1 hd
  have hgot : c.got = true := by
    rw [← hg]
    split
    next => rfl
    next he => rw [if_neg he] at hp; exact absurd (by rw [hp]; exact ht) he
  exact ⟨hgot, fun hm => hn ⟨hgot, hm⟩⟩

/-! Answers to this node's own requests (R149, R270, R322). -/

/-- t is s but for the fabric. -/
def FabricOnly (s t : State) : Prop := ∃ x, t = { s with fabric := x }

section
variable {s t u : State}

theorem PortsOnly.fabricOnly (h : PortsOnly s t) : FabricOnly s t := by
  obtain ⟨_, rfl⟩ := h
  exact ⟨_, rfl⟩

theorem FabricOnly.touch (h : FabricOnly s t) : Touch [.fabric] s t := by
  obtain ⟨_, rfl⟩ := h
  exact Touch.set_fabric (by decide) (Touch.refl _ s)

theorem FabricOnly.lateFetch (h : FabricOnly s t) (i a : Nat) : lateFetch t i a = lateFetch s i a := by
  obtain ⟨_, rfl⟩ := h
  rfl

theorem FabricOnly.writebackAt (h : FabricOnly s t) (a : Nat) : writebackAt t a = writebackAt s a := by
  obtain ⟨_, rfl⟩ := h
  rfl

/-- A request of this node's own is closed. -/
theorem FabricOnly.close (h : FabricOnly s t) (tag : BitVec 16) : FabricOnly s (closeOutst t tag) := by
  obtain ⟨_, rfl⟩ := h
  exact ⟨_, rfl⟩

theorem outstOf_tag {tag : BitVec 16} {cs : List Nat} {o : Outst} (h : outstOf s tag cs = some o) : o.tag = tag := by
  have := List.find?_some h
  simp only [Bool.and_eq_true, decide_eq_true_eq] at this
  exact this.1

theorem PortsOnly.outstOf (h : PortsOnly s t) (tag : BitVec 16) (cs : List Nat) : outstOf t tag cs = outstOf s tag cs := by
  unfold Machine.outstOf; rw [h.outst]

theorem closed_of (h : t.fabric.outst = s.fabric.outst) (tag : BitVec 16) : Closed s (closeOutst t tag) tag := by
  unfold Closed closeOutst; rw [h]

end

section
variable {s v : State} {o : Outst} {st : Nat} {rem : Remote}

/-- The fetch of a BURST that a read was for is lost (R149). -/
def fetchLost (v : State) (i : Nat) (k : Slice) : State :=
  modBurst v i fun b => { b with issued := b.issued.erase k, lost := b.lost ++ [k] }

theorem loseRead_late {i a : Nat} {k : Slice} (h : lateFetch v i a = some k) : loseRead v i a = fetchLost v i k := by
  unfold loseRead
  unfold lateFetch at h
  rw [h]
  rfl

theorem readAnswered_descriptor {c : Nat} (hd : o.dma = some c) (hp : (dmaOf v c).phase = .fetching)
    (ha : (dmaOf v c).addr = o.addr) : readAnswered v o st rem = descArrives v c st rem := by
  unfold readAnswered
  rw [hd]
  dsimp only
  rw [hp]
  exact if_pos ha

theorem readAnswered_burst {c : Nat} {e : Nat × Nat} (hd : o.dma = some c) (hp : (dmaOf v c).phase = .moving)
    (he : (dmaOf v c).reads.find? (fun e => addr41 (dmaOf v c).src + e.1 = o.addr) = some e) :
    readAnswered v o st rem = .next (burstArrives v c e.1 e.2 st rem) := by
  unfold readAnswered
  rw [hd]
  dsimp only
  rw [hp]
  dsimp only
  rw [he]

theorem readAnswered_data (hd : o.dma = none) (h : o.slot = none ∨ st = 0) : readAnswered v o st rem = .next v := by
  unfold readAnswered
  rw [hd]
  cases hs : o.slot with
  | none => rfl
  | some i => rw [h.resolve_left (by rw [hs]; nofun)]; rfl

theorem readAnswered_lost {i : Nat} {k : Slice} (hd : o.dma = none) (hs : o.slot = some i) (h : st ≠ 0)
    (hk : lateFetch v i o.addr = some k) : readAnswered v o st rem = .next (fetchLost v i k) := by
  unfold readAnswered
  rw [hd, hs]
  dsimp only
  rw [if_neg h, loseRead_late hk]

theorem writeAnswered_beats {c : Nat} {e : Nat × Nat} (hd : o.dma = some c) (hp : (dmaOf v c).phase = .moving)
    (he : (dmaOf v c).beats.find? (fun e => addr41 (dmaOf v c).dst + e.1 = o.addr) = some e) :
    writeAnswered v o st = beatsAnswered v c e.1 e.2 st := by
  unfold writeAnswered
  rw [hd]
  dsimp only
  simp only [hp, decide_true, Bool.true_and, he]

theorem writeAnswered_writeback {c : Nat} (hd : o.dma = none) (hc : writebackAt v o.addr = some c) :
    writeAnswered v o st = writebackAnswered v c st := by
  unfold writeAnswered
  rw [hd]
  dsimp only
  rw [hc]

theorem writeAnswered_none (hd : o.dma = none) (hc : writebackAt v o.addr = none) : writeAnswered v o st = v := by
  unfold writeAnswered
  rw [hd]
  dsimp only
  rw [hc]

theorem writebackAt_some {a c : Nat} (h : writebackAt s a = some c) :
    (dmaOf s c).phase = .writeback ∧ (dmaOf s c).addr + 32 = a := by
  have := List.find?_some h
  simpa using this

/-! A command whose effect is an answer, seen from the state that it acts in. -/

variable {e : Instr} {ps : List Part} (k : FabricOnly s v) (ht : TouchOut ps s (exec e s))
include k ht

theorem descriptor_answered (he : exec e s = readAnswered v o st rem) (w : TabWf {} s.dmas) (wl : TabWf {} s.ledger)
    {c : Nat} (hd : o.dma = some c) (hp : (dmaOf s c).phase = .fetching) (ha : (dmaOf s c).addr = o.addr) :
    TakesDescriptor e ps s c (answerOf s o.addr 64 st) rem := by
  have hv := dmaOf_dmas k.touch.dmas c
  rw [readAnswered_descriptor hd (by rw [hv]; exact hp) (by rw [hv]; exact ha)] at he
  exact descArrives_takes he ht k.touch w wl hp (by rw [ha])

theorem burst_answered (he : exec e s = readAnswered v o st rem) (w : TabWf {} s.dmas) {c : Nat} {x : Nat × Nat}
    (hd : o.dma = some c) (hp : (dmaOf s c).phase = .moving)
    (hx : (dmaOf s c).reads.find? (fun e => addr41 (dmaOf s c).src + e.1 = o.addr) = some x) :
    TakesBurst e ps s c x.1 := by
  have hv := dmaOf_dmas k.touch.dmas c
  rw [readAnswered_burst hd (by rw [hv]; exact hp) (by rw [hv]; exact hx)] at he
  exact burstArrives_takes he ht k.touch w

theorem beats_answered (he : exec e s = .next (writeAnswered v o st)) (w : TabWf {} s.dmas) {c : Nat} {x : Nat × Nat}
    (hd : o.dma = some c) (hp : (dmaOf s c).phase = .moving)
    (hx : (dmaOf s c).beats.find? (fun e => addr41 (dmaOf s c).dst + e.1 = o.addr) = some x)
    (hg : (dmaOf s c).gather = [] ∨ (dmaOf s c).gatherAt ≠ x.1) :
    TakesWrite e ps s c x.1 x.2 (answerOf s (addr41 (dmaOf s c).dst + x.1) x.2 st) := by
  have hv := dmaOf_dmas k.touch.dmas c
  rw [writeAnswered_beats hd (by rw [hv]; exact hp) (by rw [hv]; exact hx)] at he
  exact beatsAnswered_takes he ht k.touch w rfl hg

theorem writeback_answered (he : exec e s = .next (writeAnswered v o st)) (w : TabWf {} s.dmas) (wl : TabWf {} s.ledger)
    {c : Nat} (hd : o.dma = none) (hc : writebackAt s o.addr = some c) :
    TakesWriteback e ps s c (answerOf s o.addr 32 st) := by
  rw [writeAnswered_writeback hd (by rw [k.writebackAt]; exact hc)] at he
  obtain ⟨hp, ha⟩ := writebackAt_some hc
  exact writebackAnswered_takes he ht k.touch w wl hp (by rw [ha])

end

/-- A fetch is lost at the BURST that it was for, and at no other. -/
theorem fetch_answered {s v : State} {o : Outst} {st : Nat} {rem : Remote} {e : Instr} {tag : BitVec 16} {i : Nat}
    {f : Slice} (k : FabricOnly s v) (hc : Closed s v tag) (w : TabWf {} s.bursts)
    (he : exec e s = readAnswered v o st rem) (hd : o.dma = none) (hs : o.slot = some i) (h0 : st ≠ 0)
    (hf : lateFetch s i o.addr = some f) :
    Completes e s [.bursts, .fabric] fun t => Closed s t tag
      ∧ burstOf t i = { burstOf s i with
        issued := (burstOf s i).issued.erase f, lost := (burstOf s i).lost ++ [f] }
      ∧ ∀ j, j ≠ i → burstOf t j = burstOf s j := by
  rw [readAnswered_lost hd hs h0 (by rw [k.lateFetch]; exact hf)] at he
  have hb : ∀ j, burstOf v j = burstOf s j := fun j => by unfold burstOf; rw [k.touch.bursts]
  refine ⟨_, he, ⟨hc, ?_, fun j hj => ?_⟩, (modBurst_touch ..).app (by decide) (k.touch.mono (by decide))⟩
  · unfold fetchLost
    rw [burstOf_modBurst_same _ _ _ (by rw [k.touch.bursts]; exact w), hb]
  · unfold fetchLost
    rw [burstOf_modBurst_other _ _ _ hj, hb]

section
variable {port : Port} {k : Packet} {s u : State}

/-- An answer that names no request of this node's is discarded. -/
theorem answer_discarded {cls : Nat} {c : Instr} {f : State → Out} (h : Arrives cls port k s u)
    (hc : exec c s = deliver cls port k s f) (hf : f u = .next u) : Completes c s [.fabric] fun t => t = u :=
  ⟨u, arrives_exec h hc hf, rfl, (arrives_portsOnly h).fabricOnly.touch⟩

theorem regRsp_discarded (h : Arrives 0x03 port k s u) (ho : outstOf s k.tag [0x01, 0x02] = none) :
    Completes (.regRsp port k) s [.fabric] fun t => t = u :=
  answer_discarded h (regRsp_exec port k s) (by rw [(arrives_portsOnly h).outstOf, ho])

theorem regRsp_closes (h : Arrives 0x03 port k s u) (ho : (outstOf s k.tag [0x01, 0x02]).isSome = true) :
    Completes (.regRsp port k) s [.fabric] fun t => Closed s t k.tag
      ∧ t.fabric.lastReg = (List.range (k.data.length / 4)).map fun j => BitVec.ofNat 32 (bytesAt k.data (4 * j) 4) := by
  have r := arrives_portsOnly h
  obtain ⟨o, ho⟩ := Option.isSome_iff_exists.1 ho
  have he : exec (.regRsp port k) s = _ := arrives_exec h (regRsp_exec port k s) (by rw [r.outstOf, ho])
  refine Completes.of_next he ⟨?_, rfl⟩ (execRegRsp_touch port k s)
  have hc := closed_of r.outst k.tag
  rw [outstOf_tag ho]
  exact hc

theorem memRdRsp_discarded (h : Arrives 0x21 port k s u) (ho : outstOf s k.tag [0x20] = none) :
    Completes (.memRdRsp port k) s [.fabric] fun t => t = u :=
  answer_discarded h (memRdRsp_exec port k s) (by rw [(arrives_portsOnly h).outstOf, ho])

theorem memWrAck_discarded (h : Arrives 0x23 port k s u) (ho : outstOf s k.tag [0x22] = none) :
    Completes (.memWrAck port k) s [.fabric] fun t => t = u :=
  answer_discarded h (memWrAck_exec port k s) (by rw [(arrives_portsOnly h).outstOf, ho])

theorem memRdRsp_answers (h : Arrives 0x21 port k s u) {o : Outst} (ho : outstOf s k.tag [0x20] = some o) :
    exec (.memRdRsp port k) s =
      readAnswered (closeOutst u k.tag) o k.status.toNat (packetBytesAt o.addr k.data) :=
  arrives_exec h (memRdRsp_exec port k s) (by rw [(arrives_portsOnly h).outstOf, ho, ← outstOf_tag ho])

theorem memWrAck_answers (h : Arrives 0x23 port k s u) {o : Outst} (ho : outstOf s k.tag [0x22] = some o) :
    exec (.memWrAck port k) s = .next (writeAnswered (closeOutst u k.tag) o k.status.toNat) :=
  arrives_exec h (memWrAck_exec port k s) (by rw [(arrives_portsOnly h).outstOf, ho, ← outstOf_tag ho])

/-- An answer that closes its request and does no more. -/
theorem close_completes {e : Instr} {tag : BitVec 16} (h : PortsOnly s u) (he : exec e s = .next (closeOutst u tag)) :
    Completes e s [.fabric] fun t => Closed s t tag :=
  ⟨_, he, closed_of h.outst tag, (h.fabricOnly.close tag).touch⟩

end

/-! Time-outs (R322, R323). -/

section
variable {tag : BitVec 16} {s : State}

theorem requestTimeout_idle (h : outstOf s tag [0x01, 0x02, 0x20, 0x22] = none) : Idle (.requestTimeout tag) s := by
  show execRequestTimeout tag s = _
  unfold execRequestTimeout
  rw [h]

variable {o : Outst} (h : outstOf s tag [0x01, 0x02, 0x20, 0x22] = some o)
include h

theorem requestTimeout_exec : exec (.requestTimeout tag) s =
    if o.cls = 0x20#8 then readAnswered (closeOutst s tag) o 3 []
    else if o.cls = 0x22#8 then .next (writeAnswered (closeOutst s tag) o 3)
    else .next (closeOutst s tag) := by
  show execRequestTimeout tag s = _
  unfold execRequestTimeout
  rw [h]

theorem requestTimeout_register (hc : o.cls = 0x01#8 ∨ o.cls = 0x02#8) :
    exec (.requestTimeout tag) s = .next (closeOutst s tag) := by
  rw [requestTimeout_exec h]
  rcases hc with hc | hc <;> rw [hc] <;> rfl

theorem requestTimeout_read (hc : o.cls = 0x20#8) :
    exec (.requestTimeout tag) s = readAnswered (closeOutst s tag) o 3 [] := by
  rw [requestTimeout_exec h, if_pos hc]

theorem requestTimeout_write (hc : o.cls = 0x22#8) :
    exec (.requestTimeout tag) s = .next (writeAnswered (closeOutst s tag) o 3) := by
  rw [requestTimeout_exec h, hc]
  rfl

end

theorem mboxAckTimeout_exec (tag : BitVec 16) (s : State) : exec (.mboxAckTimeout tag) s =
    match s.fabric.copies.find? fun c => c.pkt.tag = tag && ! c.got with
    | some c => .next (sendPlain s 8 c.pkt)
    | none => .next s := rfl

theorem mboxAckTimeout_idle {tag : BitVec 16} {s : State}
    (h : ∀ c, c ∈ s.fabric.copies → c.pkt.tag = tag → c.got = true) : Idle (.mboxAckTimeout tag) s := by
  have hn : (s.fabric.copies.find? fun c => c.pkt.tag = tag && ! c.got) = none := by
    refine List.find?_eq_none.2 fun c hc => ?_
    by_cases ht : c.pkt.tag = tag
    · simp [ht, h c hc ht]
    · simp [ht]
  exact (mboxAckTimeout_exec tag s).trans (by rw [hn])

theorem mboxAckTimeout_resends {tag : BitVec 16} {s : State} {c : Copy}
    (h : (s.fabric.copies.find? fun c => c.pkt.tag = tag && ! c.got) = some c) :
    Completes (.mboxAckTimeout tag) s [.fabric] fun t => Sent s t 8 c.pkt ∧ t.fabric.copies = s.fabric.copies :=
  ⟨sendPlain s 8 c.pkt, (mboxAckTimeout_exec tag s).trans (by rw [h]), ⟨sendPlain_sent _ _ _,
    (sendPlain_portsOnly ..).copies⟩, sendPlain_touch ..⟩

/-- Settles O59: a packet taken in leaves all but its port, so that each answer goes the way it would have gone, and a
DMA channel or a BURST meets its answer in the state in which the packet came. -/
theorem packetsForThisNodeAreAnswered : Obligations.PacketsForThisNodeAreAnswered := by
  unfold Obligations.PacketsForThisNodeAreAnswered
  refine ⟨fun port k x y rem s cls c wp hc => ?_, fun port k s u wp wd wl wb => ?_, fun tag s wd wl wb wp => ?_⟩
  · obtain ⟨f, he⟩ := delivery_exec hc s
    exact ⟨delivery_other he, fun hk hd => ⟨delivery_held he hk hd, delivery_outOfOrder he hk hd ⟨wp⟩⟩⟩
  · have w : PortsWf s := ⟨wp⟩
    refine ⟨fun h => ⟨regRd_unmapped w h, regRd_read w h⟩, fun h => ⟨regWr_refused w h, regWr_written w h⟩,
      fun h => ⟨fun st hs => memRd_answers w h (.inl ⟨st, hs, rfl, rfl⟩),
        fun h0 hb => memRd_answers w h (.inr ⟨h0, .inl ⟨hb, rfl, rfl⟩⟩),
        fun bs h0 hb => memRd_answers w h (.inr ⟨h0, .inr ⟨hb, rfl⟩⟩)⟩,
      fun h => ⟨fun st hs => memWr_refused w h hs, fun h0 wm l hl => memWr_written w h h0 wm hl⟩,
      fun h => ⟨fun hb => ?_, fun hb h0 => ?_, mboxReq_wrongPath w h, fun hb h0 h1 h2 => ?_, mboxReq_taken w h⟩,
      mboxRsp_acks w, fun h => ⟨mboxAck_full h, mboxAck_releases h⟩,
      fun h => ⟨regRsp_discarded h, regRsp_closes h⟩, fun h => ⟨memRdRsp_discarded h, fun o ho => ?_⟩,
      fun h => ⟨memWrAck_discarded h, fun o ho => ?_⟩⟩
    · obtain ⟨t, he, ⟨ha, -⟩, ht⟩ := mboxReq_acks w h (.inl ⟨hb, rfl⟩)
      exact ⟨t, he, ha, ht⟩
    · obtain ⟨t, he, ⟨ha, -⟩, ht⟩ := mboxReq_acks w h (.inr ⟨hb, .inl ⟨h0, rfl⟩⟩)
      exact ⟨t, he, ha, ht⟩
    · have hc := mboxReq_acks w h (.inr ⟨hb, .inr ⟨h0, h1, h2, rfl⟩⟩)
      rwa [h0] at hc
    · have r := arrives_portsOnly h
      have he := memRdRsp_answers h ho
      have ht := execMemRdRsp_touch port k s
      have kv := r.fabricOnly.close k.tag
      refine ⟨fun hd hs => close_completes r (he.trans (readAnswered_data hd (hs.imp_right fun h0 => by rw [h0]; rfl))),
        fun i f hd hs h0 hf => fetch_answered kv (closed_of r.outst _) wb he hd hs
          (fun hz => h0 (BitVec.eq_of_toNat_eq hz)) hf,
        fun c hd hp ha => descriptor_answered kv ht he wd wl hd hp ha,
        fun c e hd hp hx => burst_answered kv ht he wd hd hp hx⟩
    · have r := arrives_portsOnly h
      have he := memWrAck_answers h ho
      have ht := execMemWrAck_touch port k s
      have kv := r.fabricOnly.close k.tag
      exact ⟨fun c e hd hp hx hg => beats_answered kv ht he wd hd hp hx hg,
        fun c hd hc => writeback_answered kv ht he wd wl hd hc,
        fun hd hc => close_completes r (he.trans (congrArg _ (writeAnswered_none hd (by
          rw [kv.writebackAt]; exact hc))))⟩
  · have r := PortsOnly.refl s
    have ht := execRequestTimeout_touch tag s
    have kv := r.fabricOnly.close tag
    refine ⟨requestTimeout_idle, fun o ho => ⟨fun hc => close_completes r (requestTimeout_register ho hc),
      fun c e hc hd hp hx hg => beats_answered kv ht (requestTimeout_write ho hc) wd hd hp hx hg,
      fun c hc hd hb => writeback_answered kv ht (requestTimeout_write ho hc) wd wl hd hb,
      fun c hc hd hp ha => descriptor_answered kv ht (requestTimeout_read ho hc) wd wl hd hp ha,
      fun c e hc hd hp hx => burst_answered kv ht (requestTimeout_read ho hc) wd hd hp hx,
      fun i f hc hd hs hf => ?_⟩, mboxAckTimeout_idle, fun c hc => mboxAckTimeout_resends hc⟩
    obtain ⟨t, he, ⟨h1, h2, -⟩, hk⟩ := fetch_answered kv (closed_of rfl tag) wb (requestTimeout_read ho hc) hd hs
      (by decide) hf
    exact ⟨t, he, ⟨h1, h2⟩, hk⟩

end Sys2Proof.Trellis
end

section
/-! PROOFS. OPC_NOTICE_CONFIG, OPC_SITE_MAP and the requests that configure triggers, TDCs, supplies, lanes and the
calibration (R113, R118, R203, R230, R281, R282, R291, R343, Table 6.12). -/

namespace Sys2Proof.Machine

/-- The reserved fields of a request that is asked, as its opcode has them. -/
theorem asked_resv {op n : Nat} {rem : Remote} {s u : State} {m : Msg} {b : Bool} (h : Asked op n rem s m u)
    (hb : Msg.field m 0 2 = op → commandReserved m = b) : b = false := by
  have e := hb (asked_op h)
  obtain ⟨-, -, hr, -⟩ := h
  exact e.symm.trans hr

/-! What stands in a table depends on its part alone. -/

section
variable {s t : State}

theorem trigOf_cfg (h : t.cfg = s.cfg) (i : Nat) : trigOf t i = trigOf s i := by unfold trigOf; rw [h]

theorem tdcOf_tdcs (h : t.tdcs = s.tdcs) (i : Nat) : tdcOf t i = tdcOf s i := by unfold tdcOf; rw [h]

theorem dpsOf_dps (h : t.dps = s.dps) (k : Nat) : dpsOf t k = dpsOf s k := by unfold dpsOf; rw [h]

theorem lgOf_lgs (h : t.lgs = s.lgs) (g : Nat) : lgOf t g = lgOf s g := by unfold lgOf; rw [h]

end

/-! OPC_NOTICE_CONFIG (R118). -/

theorem noticeConfig_serves (n : Nat) (s : State) : exec (.opcNoticeConfig n) s =
    serveNext 0x000D n s (fun m => 32 ≤ Msg.field m 16 4) noChecks fun s m =>
      done { s with dev := { s.dev with noticeEn := BitVec.ofNat 32 (Msg.field m 16 4) } } n m 0 [] := rfl

theorem opcNoticeConfig_sets {n : Nat} {s u : State} {m : Msg} (h : Asked 0x000D n [] s m u) :
    Completes (.opcNoticeConfig n) s [.mbs, .rr, .fabric, .free, .dev] fun t =>
      t.dev = { s.dev with noticeEn := BitVec.ofNat 32 (Msg.field m 16 4) } := by
  refine asked_completes h (noticeConfig_serves n s) (asked_resv h fun e => by simp only [commandReserved, e]) rfl ?_
    ((execOpcNoticeConfig_touch n s).mono (by decide))
  rw [(done_touch ..).dev, (asked_touch h).dev]

/-! OPC_SITE_MAP. -/

/-- The site map of a request: byte c is the site of channel c. -/
def requestMap (bs : List Byte) : Tab Byte := (List.range 768).foldl (fun t c => tset 0 t c (bs.getD c 0)) []

theorem requestMap_eq (bs : List Byte) : requestMap bs = tmods 0 [] (List.range 768) fun c _ => bs.getD c 0 := rfl

theorem tget_requestMap (bs : List Byte) {c : Nat} (hc : c < 768) : tget 0 (requestMap bs) c = bs.getD c 0 := by
  rw [requestMap_eq, tget_tmods_nodup 0 _ _ [] trivial List.nodup_range, if_pos (List.mem_range.2 hc)]

theorem siteMap_serves (n : Nat) (rem : Remote) (s : State) : exec (.opcSiteMap n rem) s =
    serve 0x0301 n rem s noResv noChecks fun s m =>
      if ((readExt s rem m).getD []).any (fun b => b.getLsbD 6) = true then .fault .reservedField
      else .next (done { s with dev := { s.dev with siteMap := requestMap ((readExt s rem m).getD []) } } n m 0 []) := rfl

section
variable {n : Nat} {rem : Remote} {s u : State} {m : Msg} (h : Asked 0x0301 n rem s m u)
include h

theorem opcSiteMap_misuse (hb : ((readExt u rem m).getD []).any (fun b => b.getLsbD 6) = true) :
    Misuses (.opcSiteMap n rem) s .reservedField :=
  (siteMap_serves n rem s).trans ((asked_serve_runs h rfl rfl).trans (if_pos hb))

theorem opcSiteMap_sets (hb : ((readExt u rem m).getD []).any (fun b => b.getLsbD 6) = false) :
    Completes (.opcSiteMap n rem) s [.mbs, .rr, .fabric, .free, .dev] fun t =>
      t.dev = { s.dev with siteMap := t.dev.siteMap }
        ∧ ∀ c, c < 768 → tget 0 t.dev.siteMap c = ((readExt u rem m).getD []).getD c 0 := by
  refine Completes.of_next ((siteMap_serves n rem s).trans ((asked_serve_runs h rfl rfl).trans
    (if_neg (by rw [hb]; nofun)))) ?_ ((execOpcSiteMap_touch n rem s).mono (by decide))
  have hm := fun c (hc : c < 768) => tget_requestMap ((readExt u rem m).getD []) hc
  rw [(done_touch ..).dev, (asked_touch h).dev]
  generalize requestMap ((readExt u rem m).getD []) = map at hm
  exact ⟨rfl, hm⟩

end

/-! OPC_TRIG_CONFIG (R203). -/

/-- The own checks of OPC_TRIG_CONFIG. -/
def trigChecks (_ : State) (m : Msg) : List (Bool × Nat × Nat) :=
  [range (3 < Msg.field m 16 1) 16, range (3 < Msg.field m 17 1) 17, range (4095 < Msg.field m 18 2) 18,
   range (3 < Msg.field m 20 1) 20, range (Msg.field m 24 4 = 0 || 1000000 < Msg.field m 24 4) 24]

/-- A TRIG_IN input as a request configures it. -/
def configTrig (m : Msg) (x : Trig) : Trig :=
  { x with
    fn := Msg.field m 17 1, pebs := BitVec.ofNat 12 (Msg.field m 18 2), cond := Msg.field m 20 1
    mon := { x.mon with hold := Msg.field m 24 4 } }

theorem trigConfig_serves (n : Nat) (s : State) : exec (.opcTrigConfig n) s =
    serveNext 0x0302 n s (resvAt [(21, 3)]) trigChecks fun s m =>
      done (modTrig s (Msg.field m 16 1) (configTrig m)) n m 0 [] := rfl

theorem opcTrigConfig_sets {n : Nat} {s u : State} {m : Msg} (h : Asked 0x0302 n [] s m u) (w : TabWf {} s.cfg.trig)
    (hi : Msg.field m 16 1 ≤ 3) (hf : Msg.field m 17 1 ≤ 3) (hp : Msg.field m 18 2 ≤ 4095) (hc : Msg.field m 20 1 ≤ 3)
    (h1 : 1 ≤ Msg.field m 24 4) (h2 : Msg.field m 24 4 ≤ 1000000) :
    Completes (.opcTrigConfig n) s [.mbs, .rr, .fabric, .free, .cfg] fun t =>
      trigOf t (Msg.field m 16 1) = configTrig m (trigOf s (Msg.field m 16 1))
        ∧ (∀ i, i ≠ Msg.field m 16 1 → trigOf t i = trigOf s i) ∧ t.cfg = { s.cfg with trig := t.cfg.trig } := by
  have hk : firstFail (trigChecks u m) = none := by
    simp [trigChecks, firstFail_none, range]
    omega
  have q := (asked_touch h).cfg
  refine asked_completes h (trigConfig_serves n s) (asked_resv h fun e => by simp only [commandReserved, e]) hk ?_
    ((execOpcTrigConfig_touch n s).mono (by decide))
  have hd := (done_touch (modTrig u (Msg.field m 16 1) (configTrig m)) n m 0 []).cfg
  refine ⟨?_, fun i hne => ?_, ?_⟩
  · rw [trigOf_cfg hd, trigOf_modTrig_same _ _ _ (by rw [q]; exact w), trigOf_cfg q]
  · rw [trigOf_cfg hd, trigOf_modTrig_other _ _ _ hne, trigOf_cfg q]
  · rw [hd, ← q]
    rfl

/-! OPC_TDC_CONFIG (R230). -/

/-- The own checks of OPC_TDC_CONFIG. -/
def tdcChecks (s : State) (m : Msg) : List (Bool × Nat × Nat) :=
  [range (191 < Msg.field m 16 1) 16, range (! tdcInputOk (Msg.field m 16 1) (Msg.field m 17 1)) 17,
   range (! tdcInputOk (Msg.field m 16 1) (Msg.field m 18 1)) 18, range (8 < Msg.field m 20 1) 20,
   claimed s [claimOf 5 (Msg.field m 16 1)] [unitTdc]]

/-- A TDC as a request configures it. -/
def configTdc (m : Msg) (x : Tdc) : Tdc :=
  { x with
    start := BitVec.ofNat 8 (Msg.field m 17 1), stop := BitVec.ofNat 8 (Msg.field m 18 1)
    startUp := bitOf (Msg.field m 19 1) 0, stopUp := bitOf (Msg.field m 19 1) 1, e := Msg.field m 20 1 }

theorem tdcConfig_serves (n : Nat) (s : State) : exec (.opcTdcConfig n) s =
    serveNext 0x0304 n s noResv tdcChecks fun s m =>
      done (modTdc s (Msg.field m 16 1) (configTdc m)) n m 0 [] := rfl

theorem opcTdcConfig_sets {n : Nat} {s u : State} {m : Msg} (h : Asked 0x0304 n [] s m u) (w : TabWf {} s.tdcs)
    (ht : Msg.field m 16 1 ≤ 191) (he : Msg.field m 20 1 ≤ 8)
    (h1 : tdcInputOk (Msg.field m 16 1) (Msg.field m 17 1) = true)
    (h2 : tdcInputOk (Msg.field m 16 1) (Msg.field m 18 1) = true)
    (hc : (claimed u [claimOf 5 (Msg.field m 16 1)] [unitTdc]).1 = false) :
    Completes (.opcTdcConfig n) s [.mbs, .rr, .fabric, .free, .tdcs] fun t =>
      tdcOf t (Msg.field m 16 1) = configTdc m (tdcOf s (Msg.field m 16 1))
        ∧ ∀ i, i ≠ Msg.field m 16 1 → tdcOf t i = tdcOf s i := by
  have hk : firstFail (tdcChecks u m) = none := by
    simp [tdcChecks, firstFail_none, range, h1, h2, hc]
    omega
  have q := (asked_touch h).tdcs
  refine asked_completes h (tdcConfig_serves n s) rfl hk ?_ ((execOpcTdcConfig_touch n s).mono (by decide))
  have hd := (done_touch (modTdc u (Msg.field m 16 1) (configTdc m)) n m 0 []).tdcs
  refine ⟨?_, fun i hne => ?_⟩
  · rw [tdcOf_tdcs hd, tdcOf_modTdc_same _ _ _ (by rw [q]; exact w), tdcOf_tdcs q]
  · rw [tdcOf_tdcs hd, tdcOf_modTdc_other _ _ _ hne, tdcOf_tdcs q]

/-! OPC_DPS_CONFIG (R281, R282). -/

/-- The own checks of OPC_DPS_CONFIG. -/
def dpsChecks (s : State) (m : Msg) : List (Bool × Nat × Nat) :=
  [range (2 ^ 48 ≤ Msg.field m 16 8 || gangBad (dpsList (Msg.field m 16 8)) (askedLeader m)) 16,
   range (5 < Msg.field m 24 1) 24,
   range (match askedLeader m with | some k => ! (dpsList (Msg.field m 16 8)).contains k | none => false) 25,
   range (dpsFullScale (Msg.field m 24 1) < Msg.field m 28 4
     || 100 * Msg.field m 28 4 < dpsFullScale (Msg.field m 24 1)) 28,
   claimed s ((dpsList (Msg.field m 16 8)).map (claimOf 4)) ((dpsList (Msg.field m 16 8)).map fun n => unitDps (n / 12)),
   busy (gangBusy s (dpsList (Msg.field m 16 8)) (askedLeader m))]

/-- The channels ks each changed by f. -/
def onDps (s : State) (ks : List Nat) (f : Dps → Dps) : State := { s with dps := tmods {} s.dps ks fun _ => f }

theorem dpsOf_onDps {s : State} (w : TabWf {} s.dps) (ks : List Nat) {f : Dps → Dps} (hf : ∀ d, f (f d) = f d) (k : Nat) :
    dpsOf (onDps s ks f) k = if k ∈ ks then f (dpsOf s k) else dpsOf s k :=
  tget_tmods ({} : Dps) (fun _ => f) (fun _ => hf) ks s.dps w k

/-- A channel out of its gang. -/
def leaveGang (d : Dps) : Dps := { d with leader := none }

theorem leaveGang_again (d : Dps) : leaveGang (leaveGang d) = leaveGang d := rfl

/-- The gangs taken apart whose leaders are among the channels named, and the channels named configured. -/
def dpsConfigured (s : State) (ns : List Nat) (leader : Option Nat) (r limit : Nat) : State :=
  onDps (onDps s (gangLost s ns) leaveGang) ns (configDps leader r limit)

theorem dpsConfig_serves (n : Nat) (s : State) : exec (.opcDpsConfig n) s =
    serveNext 0x0305 n s (resvAt [(26, 2)]) dpsChecks fun s m =>
      done (dpsConfigured s (dpsList (Msg.field m 16 8)) (askedLeader m) (Msg.field m 24 1) (Msg.field m 28 4))
        n m 0 [] := rfl

theorem mem_gangLost {s : State} {ns : List Nat} {k : Nat} (h : k ∈ gangLost s ns) :
    k ∉ ns ∧ ∃ x ∈ ns, (dpsOf s k).leader = some x := by
  obtain ⟨-, h⟩ := List.mem_filter.1 h
  cases e : (dpsOf s k).leader with
  | none => simp [e] at h
  | some x => simpa [e] using h

theorem configDps_again (l : Option Nat) (r limit : Nat) (d : Dps) :
    configDps l r limit (configDps l r limit d) = configDps l r limit d := by simp [configDps]

theorem dpsOf_dpsConfigured {s : State} (w : TabWf {} s.dps) (ns : List Nat) (l : Option Nat) (r limit k : Nat) :
    dpsOf (dpsConfigured s ns l r limit) k = if k ∈ ns then configDps l r limit (dpsOf s k)
      else if k ∈ gangLost s ns then leaveGang (dpsOf s k) else dpsOf s k := by
  rw [dpsConfigured, dpsOf_onDps (tmods_wf w _ _) _ (configDps_again l r limit), dpsOf_onDps w _ leaveGang_again]
  split
  next hk => rw [if_neg fun g => (mem_gangLost g).1 hk]
  next => rfl

theorem dpsChecks_none {s : State} {m : Msg} (h48 : Msg.field m 16 8 < 2 ^ 48)
    (hg : gangBad (dpsList (Msg.field m 16 8)) (askedLeader m) = false) (hr : Msg.field m 24 1 ≤ 5)
    (hl : ∀ k, askedLeader m = some k → k ∈ dpsList (Msg.field m 16 8))
    (h1 : dpsFullScale (Msg.field m 24 1) ≤ 100 * Msg.field m 28 4)
    (h2 : Msg.field m 28 4 ≤ dpsFullScale (Msg.field m 24 1))
    (hc : (claimed s ((dpsList (Msg.field m 16 8)).map (claimOf 4))
      ((dpsList (Msg.field m 16 8)).map fun k => unitDps (k / 12))).1 = false)
    (hb : gangBusy s (dpsList (Msg.field m 16 8)) (askedLeader m) = false) : firstFail (dpsChecks s m) = none := by
  have hin : (match askedLeader m with
      | some k => ! (dpsList (Msg.field m 16 8)).contains k
      | none => false) = false := by
    cases e : askedLeader m with
    | none => rfl
    | some k => simpa using hl k e
  simp only [dpsChecks, hin, hg, hb, firstFail_none, range, busy, List.forall_mem_cons, hc]
  simp
  omega

theorem opcDpsConfig_sets {n : Nat} {s u : State} {m : Msg} (h : Asked 0x0305 n [] s m u) (w : TabWf {} s.dps)
    (hk : firstFail (dpsChecks u m) = none) :
    Completes (.opcDpsConfig n) s [.mbs, .rr, .fabric, .free, .dps] fun t =>
      (∀ k ∈ dpsList (Msg.field m 16 8),
        dpsOf t k = configDps (askedLeader m) (Msg.field m 24 1) (Msg.field m 28 4) (dpsOf s k))
        ∧ ∀ k, k ∉ dpsList (Msg.field m 16 8) → (dpsOf t k = dpsOf s k ∨
          (∃ x ∈ dpsList (Msg.field m 16 8), (dpsOf s k).leader = some x ∧ dpsOf t k = { dpsOf s k with leader := none })) := by
  have q := (asked_touch h).dps
  have wu : TabWf {} u.dps := by rw [q]; exact w
  refine asked_completes h (dpsConfig_serves n s) (asked_resv h fun e => by simp only [commandReserved, e]) hk ?_
    ((execOpcDpsConfig_touch n s).mono (by decide))
  refine ⟨fun k hk => ?_, fun k hk => ?_⟩
  · rw [dpsOf_dps (done_touch ..).dps, dpsOf_dpsConfigured wu, if_pos hk, dpsOf_dps q]
  · rw [dpsOf_dps (done_touch ..).dps, dpsOf_dpsConfigured wu, if_neg hk, dpsOf_dps q]
    split
    next g =>
      obtain ⟨-, x, hx, hl⟩ := mem_gangLost g
      exact .inr ⟨x, hx, by rw [← dpsOf_dps q]; exact hl, rfl⟩
    next => exact .inl rfl

/-! OPC_LANE_CONFIG (R291, R292) and OPC_CAL_CONFIG (R343). -/

/-- The own checks of OPC_LANE_CONFIG. -/
def laneChecks (s : State) (m : Msg) : List (Bool × Nat × Nat) :=
  [range (3 < Msg.field m 16 1) 16, range (3 < Msg.field m 17 1 || rateLow s (Msg.field m 17 1)) 17,
   range (1 < Msg.field m 18 1) 18,
   claimed s ((List.range 28).map fun k => claimOf 10 (28 * Msg.field m 16 1 + k)) [unitLg (Msg.field m 16 1)]]

/-- A lane group as a request configures it. -/
def configLane (m : Msg) : LaneGrp :=
  { rate := Msg.field m 17 1, fwd := Msg.field m 18 1 = 1, cfg := BitVec.ofNat 32 (Msg.field m 20 4) }

theorem laneConfig_serves (n : Nat) (s : State) : exec (.opcLaneConfig n) s =
    serveNext 0x0307 n s (fun m => resvAt [(19, 1)] m || Msg.field m 20 4 / 2 ^ 14 ≠ 0 || bitOf (Msg.field m 20 4) 12)
      laneChecks fun s m => done { s with lgs := tset {} s.lgs (Msg.field m 16 1) (configLane m) } n m 0 [] := rfl

theorem opcLaneConfig_sets {n : Nat} {s u : State} {m : Msg} (h : Asked 0x0307 n [] s m u) (w : TabWf {} s.lgs)
    (hg : Msg.field m 16 1 ≤ 3) (hr : Msg.field m 17 1 ≤ 3) (hl : rateLow u (Msg.field m 17 1) = false)
    (hf : Msg.field m 18 1 ≤ 1) (hc : (claimed u ((List.range 28).map fun k => claimOf 10 (28 * Msg.field m 16 1 + k))
      [unitLg (Msg.field m 16 1)]).1 = false) :
    Completes (.opcLaneConfig n) s [.mbs, .rr, .fabric, .free, .lgs] fun t =>
      lgOf t (Msg.field m 16 1) = configLane m ∧ ∀ g, g ≠ Msg.field m 16 1 → lgOf t g = lgOf s g := by
  have hk : firstFail (laneChecks u m) = none := by
    simp only [laneChecks, firstFail_none, range, List.forall_mem_cons, hc, hl]
    simp
    omega
  have q := (asked_touch h).lgs
  refine asked_completes h (laneConfig_serves n s) (asked_resv h fun e => by simp only [commandReserved, e]) hk ?_
    ((execOpcLaneConfig_touch n s).mono (by decide))
  refine ⟨?_, fun g hne => ?_⟩
  · rw [lgOf_lgs (done_touch ..).lgs]
    exact tget_tset_same (by rw [q]; exact w) _ _
  · rw [lgOf_lgs (done_touch ..).lgs, ← lgOf_lgs q]
    exact tget_tset_other _ _ _ hne

theorem calConfig_serves (n : Nat) (s : State) : exec (.opcCalConfig n) s =
    serveNext 0x0308 n s noResv
      (fun _ m => [range (Msg.field m 16 2 < 4 || 160 < Msg.field m 16 2) 16,
        range (Msg.field m 18 2 < 1600 || 2160 < Msg.field m 18 2) 18])
      fun s m => done { s with cfg := { s.cfg with
        drift := Msg.field m 16 2, throttle := Msg.field m 18 2, auto := bitOf (Msg.field m 20 1) 0 } } n m 0 [] := rfl

theorem opcCalConfig_sets {n : Nat} {s u : State} {m : Msg} (h : Asked 0x0308 n [] s m u) (h1 : 4 ≤ Msg.field m 16 2)
    (h2 : Msg.field m 16 2 ≤ 160) (h3 : 1600 ≤ Msg.field m 18 2) (h4 : Msg.field m 18 2 ≤ 2160) :
    Completes (.opcCalConfig n) s [.mbs, .rr, .fabric, .free, .cfg] fun t => t.cfg = { s.cfg with
      drift := Msg.field m 16 2, throttle := Msg.field m 18 2, auto := bitOf (Msg.field m 20 1) 0 } := by
  refine asked_completes h (calConfig_serves n s) rfl (by simp [firstFail_none, range]; omega) ?_
    ((execOpcCalConfig_touch n s).mono (by decide))
  rw [(done_touch ..).cfg, (asked_touch h).cfg]

/-- Settles O33: each request by its own checks and its effect on the one table it writes. -/
theorem configurationRequestsSetTheirRegisters : Obligations.ConfigurationRequestsSetTheirRegisters := by
  intro n rem s u m
  exact ⟨opcNoticeConfig_sets, fun h => ⟨opcSiteMap_misuse h, opcSiteMap_sets h⟩, opcTrigConfig_sets,
    fun h w ht he h1 h2 hc => opcTdcConfig_sets h w ht he h1 h2 hc,
    fun h w h48 hg hr hl h1 h2 hc hb => opcDpsConfig_sets h w (dpsChecks_none h48 hg hr hl h1 h2 hc hb),
    opcLaneConfig_sets, opcCalConfig_sets⟩

end Sys2Proof.Machine
end

section
/-! PROOFS. The timing and pin-mode tables, their commit, and the background vector (R121, R142, R143, R161, Table 6.13). -/

namespace Sys2Proof.Machine

theorem pebOf_pebs {s t : State} (h : t.pebs = s.pebs) (p : Nat) : pebOf t p = pebOf s p := by unfold pebOf; rw [h]

theorem chanOf_chans {s t : State} (h : t.chans = s.chans) (c : Nat) : chanOf t c = chanOf s c := by unfold chanOf; rw [h]

theorem burstOf_bursts {s t : State} (h : t.bursts = s.bursts) (i : Nat) : burstOf t i = burstOf s i := by
  unfold burstOf; rw [h]

/-! A PEB at rest that plays by new tables (Table 8.3). -/

/-- A PEB at rest plays one vector, or nothing. -/
theorem replayRest_cases (s : State) (p : Nat) :
    replayRest s p = s ∨ ∃ start sym, replayRest s p = idlePeb s p start sym := by
  unfold replayRest
  split
  · exact .inr ⟨_, _, rfl⟩
  · exact .inr ⟨_, _, rfl⟩
  · exact .inr ⟨_, _, rfl⟩
  · exact .inl rfl

theorem replayRest_wf (s : State) (p : Nat) : Keeps PinsWf s (replayRest s p) := by
  rcases replayRest_cases s p with e | ⟨start, sym, e⟩ <;> rw [e]
  · exact Keeps.refl _ s
  · exact idlePeb_wf ..

theorem chanOf_replayRest {s : State} (w : TabWf {} s.chans) {p c : Nat} (h : c / 64 ≠ p) :
    chanOf (replayRest s p) c = chanOf s c := by
  rcases replayRest_cases s p with e | ⟨start, sym, e⟩ <;> rw [e]
  exact (chanOf_idlePeb w p c start sym).2 h

/-! OPC_TIMING_SET and OPC_PINMODE_SET (R121, R142, R143). -/

/-- The PEB of a request with its tables changed by f; with DIRECT it plays by them at rest. -/
def tableWritten (s : State) (m : Msg) (f : Peb → Peb) : State :=
  if tableDirect m then replayRest (modPeb s (Msg.field m 24 1) f) (Msg.field m 24 1) else modPeb s (Msg.field m 24 1) f

theorem pebOf_tableWritten (s : State) (m : Msg) (f : Peb → Peb) (p : Nat) :
    pebOf (tableWritten s m f) p = pebOf (modPeb s (Msg.field m 24 1) f) p := by
  unfold tableWritten
  split
  · exact pebOf_pebs (replayRest_touch ..).pebs p
  · rfl

theorem chanOf_tableWritten {s : State} (w : TabWf {} s.chans) (m : Msg) (f : Peb → Peb) {c : Nat}
    (h : c / 64 ≠ Msg.field m 24 1) : chanOf (tableWritten s m f) c = chanOf s c := by
  unfold tableWritten
  split
  · exact chanOf_replayRest (s := modPeb s (Msg.field m 24 1) f) w h
  · rfl

/-- DIRECT while items run (R142, Table 19.10). -/
def directInPlay (s : State) (m : Msg) : Prop := tableDirect m = true ∧ (s.dev.mode = .run ∨ s.dev.mode = .pause)

section
variable {op n : Nat} {rem : Remote} {s u : State} {m : Msg} (h : Asked op n rem s m u) {c : Instr}
  {bad : List Byte → Bool} {write : Bool → List Byte → Peb → Peb} (he : exec c s = tableRequest op n rem s bad write)
include h he

theorem table_refuses (hp : 11 < Msg.field m 24 1) : Refuses c n s u m 0x14 24 :=
  asked_refuses h (he.trans (asked_serve_fails h rfl (by simp [firstFail_cons, range, hp])))

variable (hp : Msg.field m 24 1 ≤ 11)
include hp

theorem table_runs : exec c s =
    if tableDirect m ∧ (u.dev.mode = .run ∨ u.dev.mode = .pause) then .fault .directInPlay
    else if bad ((readExt u rem m).getD []) then .fault .reservedField
    else .next (done (tableWritten u m (write (tableDirect m) ((readExt u rem m).getD []))) n m 0 []) :=
  he.trans (asked_serve_runs h rfl (by simp [firstFail_none, range, hp]))

theorem table_inPlay (hd : tableDirect m = true) (hm : s.dev.mode = .run ∨ s.dev.mode = .pause) :
    Misuses c s .directInPlay :=
  (table_runs h he hp).trans (if_pos ⟨hd, by rwa [asked_mode h]⟩)

variable (hd : ¬ directInPlay s m)
include hd

theorem table_reserved (hb : bad ((readExt u rem m).getD []) = true) : Misuses c s .reservedField :=
  (table_runs h he hp).trans ((if_neg (by rw [asked_mode h]; exact hd)).trans (if_pos hb))

theorem table_writes (w : TabWf {} s.pebs) (hb : bad ((readExt u rem m).getD []) = false) :
    Completes c s [.mbs, .rr, .fabric, .free, .pebs, .chans] fun t =>
      (∀ q, q ≠ Msg.field m 24 1 → pebOf t q = pebOf s q)
        ∧ (tableDirect m = false → t.chans = s.chans)
        ∧ (TabWf {} s.chans → ∀ c, c / 64 ≠ Msg.field m 24 1 → chanOf t c = chanOf s c)
        ∧ pebOf t (Msg.field m 24 1) =
          write (tableDirect m) ((readExt u rem m).getD []) (pebOf s (Msg.field m 24 1)) := by
  have q := asked_touch h
  generalize hf : write (tableDirect m) ((readExt u rem m).getD []) = f
  have e := (table_runs h he hp).trans ((if_neg (by rw [asked_mode h]; exact hd)).trans (if_neg (by rw [hb]; nofun)))
  rw [hf] at e
  have r := done_touch (tableWritten u m f) n m 0 []
  refine Completes.of_next e ⟨fun k hk => ?_, fun hn => ?_, fun wc k hk => ?_, ?_⟩
    (he ▸ (tableRequest_touch ..).mono (by decide))
  · rw [pebOf_pebs r.pebs, pebOf_tableWritten, pebOf_modPeb_other _ _ _ hk, pebOf_pebs q.pebs]
  · rw [r.chans, tableWritten, if_neg (by rw [hn]; nofun), ← q.chans]
    rfl
  · rw [chanOf_chans r.chans, chanOf_tableWritten (by rw [q.chans]; exact wc) m f hk, chanOf_chans q.chans]
  · rw [pebOf_pebs r.pebs, pebOf_tableWritten, pebOf_modPeb_same _ _ _ (by rw [q.pebs]; exact w), pebOf_pebs q.pebs]

end

theorem timingSet_serves (n : Nat) (rem : Remote) (s : State) : exec (.opcTimingSet n rem) s =
    tableRequest 0x0404 n rem s timingReserved fun direct bs x =>
      if direct then { x with timing := some bs } else { x with timingSh := some bs, timingDirty := true } := rfl

theorem pinmodeSet_serves (n : Nat) (rem : Remote) (s : State) : exec (.opcPinmodeSet n rem) s =
    tableRequest 0x0405 n rem s pinmodeReserved fun direct bs x =>
      if direct then { x with pinmode := some bs } else { x with pinmodeSh := some bs, pinmodeDirty := true } := rfl

/-! OPC_BACKGROUND_SET (log 151). -/

theorem backgroundSet_serves (n : Nat) (s : State) : exec (.opcBackgroundSet n) s =
    serveNext 0x0407 n s noResv (fun _ m => [range (11 < Msg.field m 16 1) 16]) fun s m =>
      done (setBackground s (Msg.field m 16 1) (BitVec.ofNat 256 (Msg.field m 24 32))) n m 0 [] := rfl

theorem opcBackgroundSet_sets {n : Nat} {s u : State} {m : Msg} (h : Asked 0x0407 n [] s m u) (w : TabWf {} s.pebs)
    (hp : Msg.field m 16 1 ≤ 11) :
    Completes (.opcBackgroundSet n) s [.mbs, .rr, .fabric, .free, .pebs] fun t =>
      pebOf t (Msg.field m 16 1) = { pebOf s (Msg.field m 16 1) with back := BitVec.ofNat 256 (Msg.field m 24 32) }
        ∧ ∀ q, q ≠ Msg.field m 16 1 → pebOf t q = pebOf s q := by
  have q := (asked_touch h).pebs
  refine asked_completes h (backgroundSet_serves n s) rfl (by simp [firstFail_none, range, hp]) ?_
    ((execOpcBackgroundSet_touch n s).mono (by decide))
  refine ⟨?_, fun k hk => ?_⟩
  · rw [pebOf_pebs (done_touch ..).pebs, setBackground, pebOf_modPeb_same _ _ _ (by rw [q]; exact w), pebOf_pebs q]
  · rw [pebOf_pebs (done_touch ..).pebs, setBackground, pebOf_modPeb_other _ _ _ hk, pebOf_pebs q]

/-! The BURST that plays a PEB. -/

/-- The keys of a table in canonical form are listed in order. -/
theorem tkeys_pairwise {α : Type} {d : α} {lo : Nat} {t : Tab α} (h : TabWfFrom d lo t) (p : Nat → α → Bool) :
    (tkeys t p).Pairwise (· < ·) := by
  have k : (t.map Prod.fst).Pairwise (· < ·) := by
    induction t generalizing lo with
    | nil => exact .nil
    | cons e t ih =>
      obtain ⟨-, -, h3⟩ := h
      exact List.pairwise_cons.2 ⟨(keys_rise h3).1, ih h3⟩
  exact k.sublist (List.filter_sublist.map _)

/-- Tables of which p holds at the same places list the same keys. -/
theorem tkeys_congr {α : Type} {d : α} {t r : Tab α} (ht : TabWf d t) (hr : TabWf d r) {p : Nat → α → Bool}
    (hp : ∀ i, p i d = false) (h : ∀ i, p i (tget d r i) = p i (tget d t i)) : tkeys r p = tkeys t p :=
  (tkeys_pairwise hr p).eq_of_mem_iff (tkeys_pairwise ht p) fun i => by
    rw [mem_tkeys hr p i (hp i), mem_tkeys ht p i (hp i), h i]

theorem burstOn_same {s t : State} (hs : TabWf {} s.bursts) (ht : TabWf {} t.bursts)
    (h : ∀ i, (burstOf t i).phase = (burstOf s i).phase ∧ (burstOf t i).pebs = (burstOf s i).pebs) (p : Nat) :
    burstOn t p = burstOn s p := by
  unfold burstOn
  rw [tkeys_congr hs ht (fun _ => rfl) fun i => ?_]
  obtain ⟨h1, h2⟩ := h i
  unfold burstOf at h1 h2
  unfold playing
  rw [h1, h2]

/-! A commit that is asked of a BURST (R121, R161). -/

/-- A BURST whose segment in play has len vectors, asked for a commit of the PEBs x. -/
def askCommit (len : Nat) (x : BitVec 12) (b : Burst) : Burst :=
  if b.phase = .playing ∧ len ≤ stampVec b + 64 then
    { b with commitLate := b.commitLate ||| (x &&& ~~~(b.commit ||| b.lateDue)) }
  else { b with commit := b.commit ||| x }

/-- A commit of the PEB is armed in the BURST. -/
def commitArmed (p : Nat) (b : Burst) : Prop :=
  b.commit.getLsbD p = true ∨ b.commitLate.getLsbD p = true ∨ b.lateDue.getLsbD p = true

theorem askCommit_play (len : Nat) (x : BitVec 12) (b : Burst) :
    (askCommit len x b).phase = b.phase ∧ (askCommit len x b).pebs = b.pebs := by
  unfold askCommit
  split <;> exact ⟨rfl, rfl⟩

theorem askCommit_armed {p : Nat} (hp : p < 12) (len : Nat) (b : Burst) :
    commitArmed p (askCommit len (putBit 0 p true) b) := by
  have hx : (putBit (0 : BitVec 12) p true).getLsbD p = true := by simp [putBit, hp]
  unfold askCommit commitArmed
  split
  · simp only [BitVec.getLsbD_or, BitVec.getLsbD_and, BitVec.getLsbD_not, hx]
    cases b.commit.getLsbD p <;> cases b.lateDue.getLsbD p <;> simp [hp]
  · exact .inl (by rw [BitVec.getLsbD_or, hx, Bool.or_true])

theorem askCommit_keeps {p : Nat} {b : Burst} (h : commitArmed p b) (len : Nat) (x : BitVec 12) :
    commitArmed p (askCommit len x b) := by
  unfold askCommit
  split
  · exact h.imp_right (.imp_left fun h => by rw [BitVec.getLsbD_or, h, Bool.true_or])
  · exact h.imp_left fun h => by rw [BitVec.getLsbD_or, h, Bool.true_or]

theorem requestCommit_eq (s : State) (i : Nat) (x : BitVec 12) : requestCommit s i x =
    modBurst s i (askCommit (descIn (burstImg s (burstOf s i)) (burstOf s i).seg).length x) := rfl

section
variable {s : State} (w : TabWf {} s.bursts) (i : Nat) (x : BitVec 12)
include w

/-- A commit that is asked leaves what the BURSTs play, and every commit that is armed. -/
theorem requestCommit_bursts : TabWf {} (requestCommit s i x).bursts
    ∧ (∀ p, burstOn (requestCommit s i x) p = burstOn s p)
    ∧ ∀ p j, commitArmed p (burstOf s j) → commitArmed p (burstOf (requestCommit s i x) j) := by
  rw [requestCommit_eq]
  generalize (descIn (burstImg s (burstOf s i)) (burstOf s i).seg).length = len
  have hw := modBurst_wf w i (askCommit len x)
  refine ⟨hw, burstOn_same w hw fun j => ?_, fun p j h => ?_⟩
  · by_cases e : j = i
    · subst e; rw [burstOf_modBurst_same _ _ _ w]; exact askCommit_play ..
    · rw [burstOf_modBurst_other _ _ _ e]; exact ⟨rfl, rfl⟩
  · by_cases e : j = i
    · subst e; rw [burstOf_modBurst_same _ _ _ w]; exact askCommit_keeps h _ _
    · rw [burstOf_modBurst_other _ _ _ e]; exact h

theorem requestCommit_arms {p : Nat} (hp : p < 12) :
    commitArmed p (burstOf (requestCommit s i (putBit 0 p true)) i) := by
  rw [requestCommit_eq, burstOf_modBurst_same _ _ _ w]
  exact askCommit_armed hp _ _

end

/-! OPC_TIMING_COMMIT. -/

/-- A PEB whose shadow tables have become the active ones. -/
def committed (x : Peb) : Peb :=
  { x with timing := x.timingSh, pinmode := x.pinmodeSh, timingDirty := false, pinmodeDirty := false }

theorem commitPeb_armed {s : State} {p i : Nat} (h : burstOn s p = some i) :
    commitPeb s p = requestCommit s i (putBit 0 p true) := by unfold commitPeb; rw [h]

theorem commitPeb_now {s : State} {p : Nat} (h : burstOn s p = none) :
    commitPeb s p = replayRest (modPeb s p committed) p := by unfold commitPeb; rw [h]; rfl

/-- The tables that a commit meets stand in canonical form. -/
structure CommitWf (s : State) : Prop where
  pins : PinsWf s
  bursts : TabWf {} s.bursts

/-- What the commit of a PEB leaves: the other PEBs and their channels, and what the BURSTs play and have armed. -/
theorem commitPeb_leaves {s : State} (w : CommitWf s) (x : Nat) : CommitWf (commitPeb s x)
    ∧ (∀ p, burstOn (commitPeb s x) p = burstOn s p)
    ∧ (∀ p j, commitArmed p (burstOf s j) → commitArmed p (burstOf (commitPeb s x) j))
    ∧ (∀ p, p ≠ x → pebOf (commitPeb s x) p = pebOf s p)
    ∧ ∀ c, c / 64 ≠ x → chanOf (commitPeb s x) c = chanOf s c := by
  cases h : burstOn s x with
  | some i =>
    rw [commitPeb_armed h]
    obtain ⟨hw, hb, ha⟩ := requestCommit_bursts w.bursts i (putBit 0 x true)
    have k := requestCommit_touch s i (putBit 0 x true)
    refine ⟨⟨⟨?_, ?_⟩, hw⟩, hb, ha, fun p _ => pebOf_pebs k.pebs p, fun c _ => chanOf_chans k.chans c⟩
    · rw [k.chans]; exact w.pins.chans
    · rw [k.pebs]; exact w.pins.pebs
  | none =>
    rw [commitPeb_now h]
    have wp : PinsWf (modPeb s x committed) := ⟨w.pins.chans, modPeb_wf w.pins.pebs _ _⟩
    have k := replayRest_touch (modPeb s x committed) x
    refine ⟨⟨(replayRest_wf _ x).keeps wp, ?_⟩, fun p => ?_, fun p j h => ?_, fun p hp => ?_, fun c hc => ?_⟩
    · rw [k.bursts]; exact w.bursts
    · unfold burstOn; rw [k.bursts]; rfl
    · rw [burstOf_bursts k.bursts]; exact h
    · rw [pebOf_pebs k.pebs, pebOf_modPeb_other _ _ _ hp]
    · rw [chanOf_replayRest wp.chans hc]; rfl

/-- What the commit of a PEB does: its tables are transferred where no BURST plays it, and else stay. -/
theorem commitPeb_own {s : State} (w : CommitWf s) (x : Nat) :
    pebOf (commitPeb s x) x = (if burstOn s x = none then committed (pebOf s x) else pebOf s x)
      ∧ ∀ i, x < 12 → burstOn s x = some i → commitArmed x (burstOf (commitPeb s x) i) := by
  cases h : burstOn s x with
  | some i =>
    rw [commitPeb_armed h, if_neg nofun]
    exact ⟨pebOf_pebs (requestCommit_touch ..).pebs x, fun j hx hj => by
      cases hj; exact requestCommit_arms w.bursts i hx⟩
  | none =>
    rw [commitPeb_now h, if_pos rfl, pebOf_pebs (replayRest_touch ..).pebs, pebOf_modPeb_same _ _ _ w.pins.pebs]
    exact ⟨rfl, nofun⟩

/-- u is a state on the way of the commit from s: no BURST plays other PEBs, and each PEB is as it was or committed. -/
structure CommitsFrom (s u : State) : Prop where
  wf : CommitWf u
  on : ∀ p, burstOn u p = burstOn s p
  peb : ∀ p, pebOf u p = pebOf s p ∨ (burstOn s p = none ∧ pebOf u p = committed (pebOf s p))

/-- The commit of PEBp from s has been carried out in u. -/
structure CommitDone (s : State) (p : Nat) (u : State) : Prop where
  now : burstOn s p = none → pebOf u p = committed (pebOf s p)
  armed : ∀ i, p < 12 → burstOn s p = some i → commitArmed p (burstOf u i)

theorem CommitsFrom.playing {s u : State} (h : CommitsFrom s u) {p i : Nat} (hp : burstOn s p = some i) :
    pebOf u p = pebOf s p := (h.peb p).resolve_right fun g => by rw [hp] at g; exact absurd g.1 nofun

theorem CommitsFrom.idle {s u : State} (h : CommitsFrom s u) (p : Nat) :
    committed (pebOf u p) = committed (pebOf s p) := by
  rcases h.peb p with e | ⟨-, e⟩ <;> rw [e]
  rfl

theorem commitPeb_from (s u : State) (x : Nat) : Keeps (CommitsFrom s) u (commitPeb u x) := by
  refine ⟨fun h => ?_⟩
  obtain ⟨hw, hb, -, hp, -⟩ := commitPeb_leaves h.wf x
  refine ⟨hw, fun p => (hb p).trans (h.on p), fun p => ?_⟩
  by_cases e : p = x
  · subst e
    rw [(commitPeb_own h.wf p).1, h.on]
    split
    next hn => exact .inr ⟨hn, h.idle p⟩
    next => exact h.peb p
  · rw [hp p e]
    exact h.peb p

theorem commitPeb_done {s u : State} (x : Nat) (h : CommitsFrom s u) : CommitDone s x (commitPeb u x) := by
  obtain ⟨hp, ha⟩ := commitPeb_own h.wf x
  exact ⟨fun hn => by rw [hp, h.on, if_pos hn, h.idle], fun i hx hi => ha i hx (by rw [h.on, hi])⟩

theorem commitPeb_keeps {s u : State} (x y : Nat) (h : CommitsFrom s u) (hy : CommitDone s y u) :
    CommitDone s y (commitPeb u x) := by
  by_cases e : y = x
  · subst e; exact commitPeb_done y h
  · obtain ⟨-, -, ha, hp, -⟩ := commitPeb_leaves h.wf x
    exact ⟨fun hn => (hp y e).trans (hy.now hn), fun i hx hi => ha y i (hy.armed i hx hi)⟩

/-- The PEBs given are committed, one after the other. -/
def commitPebs (s : State) (ps : List Nat) : State := ps.foldl commitPeb s

theorem commitPebs_done {s : State} (w : CommitWf s) (ps : List Nat) :
    CommitsFrom s (commitPebs s ps) ∧ ∀ p ∈ ps, CommitDone s p (commitPebs s ps) := by
  obtain ⟨h1, h2⟩ := foldl_each (W := CommitsFrom s) (I := CommitDone s) (g := commitPeb) (commitPeb_from s)
    (fun u x h => commitPeb_done x h) (fun u x y h => commitPeb_keeps x y h) ps (s := s) ⟨w, fun _ => rfl, fun _ => .inl rfl⟩
  exact ⟨h1, fun p hp => h2 p (.inr hp)⟩

theorem commitPebs_apart {s : State} (w : CommitWf s) (ps : List Nat) :
    (∀ p, p ∉ ps → pebOf (commitPebs s ps) p = pebOf s p)
      ∧ ∀ c, c / 64 ∉ ps → chanOf (commitPebs s ps) c = chanOf s c := by
  induction ps generalizing s with
  | nil => exact ⟨fun _ _ => rfl, fun _ _ => rfl⟩
  | cons x ps ih =>
    obtain ⟨hw, -, -, hp, hc⟩ := commitPeb_leaves w x
    obtain ⟨ihp, ihc⟩ := ih hw
    refine ⟨fun p h => ?_, fun c h => ?_⟩
    · obtain ⟨h1, h2⟩ := not_or.1 (mt List.mem_cons.2 h)
      exact (ihp p h2).trans (hp p h1)
    · obtain ⟨h1, h2⟩ := not_or.1 (mt List.mem_cons.2 h)
      exact (ihc c h2).trans (hc c h1)

theorem timingCommit_serves (n : Nat) (s : State) : exec (.opcTimingCommit n) s =
    serveNext 0x0406 n s noResv (fun _ m => [range (4095 < Msg.field m 16 2) 16]) fun s m =>
      done (commitPebs s (setBits 12 (Msg.field m 16 2))) n m 0 [] := rfl

theorem opcTimingCommit_commits {n : Nat} {s u : State} {m : Msg} (h : Asked 0x0406 n [] s m u)
    (hm : Msg.field m 16 2 ≤ 4095) (wb : TabWf {} s.bursts) (w : PinsWf s) :
    Completes (.opcTimingCommit n) s [.mbs, .rr, .fabric, .free, .pebs, .chans, .bursts] fun t =>
      (∀ p, p ∉ setBits 12 (Msg.field m 16 2) → pebOf t p = pebOf s p)
      ∧ (∀ c, c / 64 ∉ setBits 12 (Msg.field m 16 2) → chanOf t c = chanOf s c)
      ∧ ∀ p ∈ setBits 12 (Msg.field m 16 2), (burstOn s p = none → pebOf t p = committed (pebOf s p))
        ∧ ∀ i, burstOn s p = some i → pebOf t p = pebOf s p ∧ commitArmed p (burstOf t i) := by
  have q := asked_touch h
  have wu : CommitWf u := ⟨⟨by rw [q.chans]; exact w.chans, by rw [q.pebs]; exact w.pebs⟩, by rw [q.bursts]; exact wb⟩
  obtain ⟨hf, hd⟩ := commitPebs_done wu (setBits 12 (Msg.field m 16 2))
  obtain ⟨hp, hc⟩ := commitPebs_apart wu (setBits 12 (Msg.field m 16 2))
  have hb : ∀ p, burstOn u p = burstOn s p := fun p => by unfold burstOn; rw [q.bursts]
  refine asked_completes h (timingCommit_serves n s) rfl (by simp [firstFail_none, range, hm]) ?_
    ((execOpcTimingCommit_touch n s).mono (by decide))
  have r := done_touch (commitPebs u (setBits 12 (Msg.field m 16 2))) n m 0 []
  refine ⟨fun p hn => ?_, fun c hn => ?_, fun p hi => ⟨fun hn => ?_, fun i hi' => ⟨?_, ?_⟩⟩⟩
  · rw [pebOf_pebs r.pebs, hp p hn, pebOf_pebs q.pebs]
  · rw [chanOf_chans r.chans, hc c hn, chanOf_chans q.chans]
  · rw [pebOf_pebs r.pebs, (hd p hi).now (by rw [hb, hn]), pebOf_pebs q.pebs]
  · rw [pebOf_pebs r.pebs, hf.playing (by rw [hb, hi']), pebOf_pebs q.pebs]
  · rw [burstOf_bursts r.bursts]
    exact (hd p hi).armed i (List.mem_range.1 (List.mem_filter.1 hi).1) (by rw [hb, hi'])

/-- Settles O36: one lemma for both tables, and the commit by what each PEB of the mask has had done. -/
theorem tablesAreWrittenAndCommitted : Obligations.TablesAreWrittenAndCommitted := by
  intro n rem s u m w
  refine ⟨fun h => ?_, fun h => ?_, fun h hp => opcBackgroundSet_sets h w hp, fun h hm wb wc => ?_⟩
  · have he := timingSet_serves n rem s
    exact ⟨table_refuses h he, table_inPlay h he, table_reserved h he, fun hp hd hb => table_writes h he hp hd w hb⟩
  · have he := pinmodeSet_serves n rem s
    exact ⟨table_refuses h he, table_inPlay h he, table_reserved h he, fun hp hd hb => table_writes h he hp hd w hb⟩
  · obtain ⟨t, e, ⟨h1, h2, h3⟩, k⟩ := opcTimingCommit_commits h hm wb ⟨wc, w⟩
    refine ⟨t, e, ⟨h1, h2, fun p hp => ⟨fun hn => ?_, (h3 p hp).2⟩⟩, k⟩
    rw [(h3 p hp).1 hn]
    exact ⟨rfl, rfl, rfl, rfl⟩

end Sys2Proof.Machine
end

section
/-! PROOFS. The change of firmware in service (R123, R369 to R373, Table 6.17). -/

namespace Sys2Proof.Machine

/-! OPC_SERVICE_BEGIN (R369). -/

/-- The own checks of OPC_SERVICE_BEGIN. -/
def serviceChecks (rem : Remote) (s : State) (m : Msg) : List (Bool × Nat × Nat) :=
  [((serviceError s rem (Msg.field m 24 8) (Msg.field m 32 4)).isSome, 0x14,
      0x100 + (serviceError s rem (Msg.field m 24 8) (Msg.field m 32 4)).getD 0),
   range (imageVersion s rem (Msg.field m 24 8) >>> 24 ≠ s.boot.version >>> 24) 24, busyIf (calBusy s), busy s.svc.busy]

theorem serviceBegin_serves (n : Nat) (rem : Remote) (s : State) : exec (.opcServiceBegin n rem) s =
    serve 0x0901 n rem s (fun m => highAddr m 24) (serviceChecks rem) fun s m =>
      .next (deferResp { s with svc := { s.svc with
        busy := true, addr := Msg.field m 24 8, len := Msg.field m 32 4
        version := imageVersion s rem (Msg.field m 24 8) } } n m) := rfl

section
variable {n : Nat} {rem : Remote} {s u : State} {m : Msg} (h : Asked 0x0901 n rem s m u)
include h

theorem serviceBegin_resv : highAddr m 24 = false := asked_resv h fun e => by simp only [commandReserved, e]

theorem serviceBegin_badImage {e : Nat} (he : serviceError u rem (Msg.field m 24 8) (Msg.field m 32 4) = some e) :
    Refuses (.opcServiceBegin n rem) n s u m 0x14 (0x100 + e) :=
  asked_refuses h ((serviceBegin_serves n rem s).trans
    (asked_serve_fails h (serviceBegin_resv h) (by simp [serviceChecks, firstFail_cons, he])))

variable (he : serviceError u rem (Msg.field m 24 8) (Msg.field m 32 4) = none)
include he

theorem serviceBegin_badVersion (hv : imageVersion u rem (Msg.field m 24 8) >>> 24 ≠ s.boot.version >>> 24) :
    Refuses (.opcServiceBegin n rem) n s u m 0x14 24 :=
  asked_refuses h ((serviceBegin_serves n rem s).trans (asked_serve_fails h (serviceBegin_resv h) (by
    simp [serviceChecks, firstFail_cons, he, range, (asked_touch h).boot, hv])))

theorem serviceBegin_begins (hv : imageVersion u rem (Msg.field m 24 8) >>> 24 = s.boot.version >>> 24)
    (hc : calBusy s = none) (hb : s.svc.busy = false) :
    Completes (.opcServiceBegin n rem) s [.mbs, .rr, .fabric, .free, .svc] fun t =>
      t.svc = { s.svc with
        busy := true, addr := Msg.field m 24 8, len := Msg.field m 32 4, version := imageVersion u rem (Msg.field m 24 8) }
      ∧ (TabWf {} s.mbs → Owes n m t) := by
  have q := asked_touch h
  have hc' : calBusy u = none := (asked_busyItem h _).trans hc
  refine Completes.of_next ((serviceBegin_serves n rem s).trans (asked_serve_runs h (serviceBegin_resv h) ?_)) ⟨?_, ?_⟩
    ((execOpcServiceBegin_touch n rem s).mono (by decide))
  · simp [serviceChecks, firstFail_none, he, range, busyIf, busy, q.boot, q.svc, hv, hc', hb]
  · rw [(deferResp_touch ..).svc, q.svc]
  · exact fun w => deferResp_owes (s := { u with svc := _ }) ((asked_mbsWf h).keeps w) n m

end

/-! SERVICE_IMAGE_CHECKED (R123, R369, R370). -/

section
variable {rem : Remote} {s : State}

theorem serviceImageChecked_idle (h : s.svc.busy = false ∨ s.dev.mode = .service) :
    Idle (.serviceImageChecked rem) s := by
  refine if_neg fun ⟨hb, hm⟩ => ?_
  rcases h with h | h
  · rw [h] at hb; cases hb
  · exact hm h

theorem refuseService_svc (s : State) (st d : Nat) : (refuseService s st d).svc = {} := by
  unfold refuseService
  rw [(answerOwed_touch ..).svc]

variable (hb : s.svc.busy = true) (hm : s.dev.mode ≠ .service)
include hb hm

theorem serviceImageChecked_unreadable (h : readBytes s rem s.svc.addr s.svc.len = none) :
    exec (.serviceImageChecked rem) s = .next (refuseService s 0x14 0x105) := by
  show execServiceImageChecked rem s = _
  unfold execServiceImageChecked
  rw [if_pos ⟨hb, hm⟩, h]

/-- SERVICE entered: the body of the image in the inactive bank, and the watchdog of the service routine running. -/
def serviceEntered (s : State) (img : List Byte) : State :=
  setMode { s with
    boot := if s.boot.bank = 0 then { s.boot with bank1 := img.drop 128 } else { s.boot with bank0 := img.drop 128 }
    dev := { s.dev with cameFrom := s.dev.mode }, levee := { s.levee with dogRun := false, dogSvc := true } } .service

theorem serviceImageChecked_read {img : List Byte} (h : readBytes s rem s.svc.addr s.svc.len = some img) :
    exec (.serviceImageChecked rem) s =
      if ¬ digestOk img then .next (refuseService s 0x14 0x105)
      else if ¬ setOp.contains s.dev.mode then .next (refuseService s 0x11 (modeCode s.dev.mode))
      else match calBusy s with
        | some i => .next (refuseService s 0x17 i)
        | none => .next (serviceEntered s img) := by
  show execServiceImageChecked rem s = _
  unfold execServiceImageChecked
  rw [if_pos ⟨hb, hm⟩, h]
  rfl

/-- Where the digest does not agree, or the mode or a CAL item has come in the way, the change is over. -/
theorem serviceImageChecked_refuses (h : readBytes s rem s.svc.addr s.svc.len = none
      ∨ (∃ img, readBytes s rem s.svc.addr s.svc.len = some img ∧ digestOk img = false)
      ∨ s.dev.mode ∉ setOp ∨ (calBusy s).isSome = true) :
    ∃ st d, exec (.serviceImageChecked rem) s = .next (refuseService s st d) := by
  cases hr : readBytes s rem s.svc.addr s.svc.len with
  | none => exact ⟨_, _, serviceImageChecked_unreadable hb hm hr⟩
  | some img =>
    rw [serviceImageChecked_read hb hm hr]
    by_cases hd : digestOk img = true
    · rw [if_neg (not_not.2 hd)]
      by_cases ho : s.dev.mode ∈ setOp
      · rw [if_neg (not_not.2 (List.contains_iff_mem.2 ho))]
        rcases h with h | ⟨i, h, h'⟩ | h | h
        · rw [hr] at h; cases h
        · rw [hr] at h; cases h; rw [hd] at h'; cases h'
        · exact absurd ho h
        · obtain ⟨i, hi⟩ := Option.isSome_iff_exists.1 h
          rw [hi]
          exact ⟨_, _, rfl⟩
      · rw [if_pos (mt List.contains_iff_mem.1 ho)]
        exact ⟨_, _, rfl⟩
    · rw [if_pos hd]
      exact ⟨_, _, rfl⟩

theorem serviceImageChecked_enters {img : List Byte} (h : readBytes s rem s.svc.addr s.svc.len = some img)
    (hd : digestOk img = true) (ho : s.dev.mode ∈ setOp) (hc : calBusy s = none) :
    Completes (.serviceImageChecked rem) s [.boot, .dev, .levee] fun t =>
      t.dev = { s.dev with
        mode := .service, prev := s.dev.mode, changes := s.dev.changes + 1, cameFrom := s.dev.mode }
      ∧ t.boot = (if s.boot.bank = 0 then { s.boot with bank1 := img.drop 128 } else { s.boot with bank0 := img.drop 128 })
      ∧ t.levee = { s.levee with dogRun := false, dogSvc := true } := by
  refine ⟨serviceEntered s img, ?_, ?_, (setMode_touch ..).app (by decide)
    (Touch.set_dev_boot_levee (by decide) (by decide) (by decide) (Touch.refl _ s))⟩
  · rw [serviceImageChecked_read hb hm h, if_neg (not_not.2 hd), if_neg (not_not.2 (List.contains_iff_mem.2 ho)), hc]
  · rw [serviceEntered, setMode_new (by exact hm)]
    exact ⟨rfl, rfl, rfl⟩

end

/-! SERVICE_BANK_CHANGE_DONE (R370 to R373). -/

/-- The cores run from the other bank, in the mode that SERVICE came from. -/
def bankChanged (s : State) : State :=
  let v := setMode s s.dev.cameFrom
  { v with
    svc := {}
    boot := { v.boot with
      bank := 1 - v.boot.bank, version := s.svc.version
      pressStore := Config.pressMicro (if v.boot.bank = 0 then v.boot.bank1 else v.boot.bank0) }
    levee := { v.levee with dogRun := true, dogSvc := false } }

/-- The response, the notices that waited, and Spabry's own items settled. -/
def serviceAnswered (s v : State) : State :=
  submitUnslotted (retireOwn (postHeld ([0, 1, 2, 3].foldl (fun s n => flushOwed ((mbOf s n).owed.length) s n)
    (answerOwed v (isOp 0x0901) fun q => doneResp v q 0 [])) s.svc.notices))

/-- The transitions whose condition holds. -/
def serviceSettled (v : State) : State := settleFord (settleBypass (finishDisarm (resumePause (settleMode v))))

theorem serviceBankChangeDone_next {s : State} (h : s.dev.mode = .service) : exec .serviceBankChangeDone s =
    .next (if s.svc.ford then toBypass (serviceAnswered s (bankChanged s))
      else serviceSettled (serviceAnswered s (bankChanged s))) := if_pos h

theorem serviceBankChangeDone_idle {s : State} (h : s.dev.mode ≠ .service) : Idle .serviceBankChangeDone s := if_neg h

theorem serviceAnswered_touch (s v : State) : Touch [.units, .mbs, .ledger, .order, .fabric] v (serviceAnswered s v) :=
  (submitUnslotted_touch _).app (by decide) ((retireOwn_touch _).app (by decide) ((postHeld_touch ..).app (by decide)
    (Touch.foldl ((answerOwed_touch ..).mono (by decide)) fun _ _ => (flushOwed_touch ..).mono (by decide))))

theorem bankChanged_boot (s : State) : (bankChanged s).boot = { s.boot with
    bank := 1 - s.boot.bank, version := s.svc.version
    pressStore := Config.pressMicro (if s.boot.bank = 0 then s.boot.bank1 else s.boot.bank0) } := by
  unfold bankChanged
  dsimp only
  rw [(setMode_touch ..).boot]

theorem bankChanged_mode (s : State) : (bankChanged s).dev.mode = s.dev.cameFrom := setMode_mode s s.dev.cameFrom

theorem bankChanged_power (s : State) : (bankChanged s).power = s.power := (setMode_touch ..).power

theorem serviceSettled_boot (v : State) : (serviceSettled v).boot = v.boot := by
  unfold serviceSettled
  rw [(settleFord_touch _).boot, (settleBypass_touch _).boot, (finishDisarm_touch _).boot, (resumePause_touch _).boot,
    (settleMode_touch _).boot]

theorem resumePause_idle {v : State} (h : v.dev.mode = .idle) :
    resumePause v = { v with dev := { v.dev with pauseOver := false } } := if_neg (by simp [h])

/-- In IDLE, with the switches not to be closed, no condition holds of a transition. -/
theorem serviceSettled_idle {v : State} (h : v.dev.mode = .idle) (hp : v.power.bypassPend = false) :
    (serviceSettled v).dev.mode = .idle := by
  have h1 : settleMode v = v := if_pos (by rw [h]; nofun)
  have h2 : finishDisarm (resumePause v) = resumePause v := by
    rw [resumePause_idle h]
    exact if_neg fun g => by rw [show v.dev.mode = .armed from g.1] at h; cases h
  unfold serviceSettled
  rw [h1, h2, resumePause_idle h, settleBypass_none (by exact hp), (settleFord_touch _).dev]
  exact h

theorem serviceBankChangeDone_completes {s : State} (h : s.dev.mode = .service) : Completes .serviceBankChangeDone s
    [.power, .dev, .units, .clock, .hw, .boot, .mbs, .ledger, .order, .dacs, .chans, .pebs, .bursts, .seqs, .tdcs, .acqs,
     .dps, .resvs, .lanes, .queues, .dmas, .fabric, .press, .levee, .svc, .mem, .free] fun t =>
      t.boot = { s.boot with
        bank := 1 - s.boot.bank, version := s.svc.version
        pressStore := Config.pressMicro (if s.boot.bank = 0 then s.boot.bank1 else s.boot.bank0) }
      ∧ (s.svc.ford = true → t.dev.mode = .bypass)
      ∧ (s.svc.ford = false → s.dev.cameFrom = .idle → s.power.bypassPend = false → t.dev.mode = .idle) := by
  refine Completes.of_next (serviceBankChangeDone_next h) ?_ (execServiceBankChangeDone_touch s)
  rw [← bankChanged_boot]
  have k := serviceAnswered_touch s (bankChanged s)
  generalize serviceAnswered s (bankChanged s) = v at k
  cases hf : s.svc.ford with
  | true =>
    obtain ⟨h1, h2, -⟩ := toBypass_bypass v
    exact ⟨h2.trans k.boot, fun _ => h1, nofun⟩
  | false =>
    refine ⟨(serviceSettled_boot v).trans k.boot, nofun, fun _ hc hp => serviceSettled_idle ?_ ?_⟩
    · rw [k.dev, bankChanged_mode, hc]
    · rw [k.power, bankChanged_power, hp]

/-- Settles O46: the request by its checks, the image's check by its outcomes, and the return by what each stage leaves. -/
theorem firmwareChangesInService : Obligations.FirmwareChangesInService := by
  refine ⟨fun n rem s u m h => ⟨fun e => serviceBegin_badImage h, serviceBegin_badVersion h, serviceBegin_begins h⟩,
    fun rem s hb hm => ⟨fun h => ?_, fun img => serviceImageChecked_enters hb hm⟩, fun rem s => serviceImageChecked_idle,
    fun s => serviceBankChangeDone_completes, fun s => serviceBankChangeDone_idle⟩
  obtain ⟨st, d, he⟩ := serviceImageChecked_refuses hb hm h
  exact ⟨_, he, refuseService_svc s st d, (refuseService_touch s st d).mono (by decide)⟩

end Sys2Proof.Machine
end

section
/-! PROOFS. The end of an item leaves every other item in its slot, and items that end one after another all end (R91, R92). -/

namespace Sys2Proof.Machine

/-! The ledger stays in canonical form. -/

/-- The ledger is in canonical form. -/
def LedgerWf (s : State) : Prop := TabWf {} s.ledger

theorem LedgerWf.touch {ps : List Part} {s t : State} (k : Touch ps s t) (h : Part.ledger ∉ ps := by decide) :
    Keeps LedgerWf s t := ⟨fun w => by unfold LedgerWf; rw [k.ledger h]; exact w⟩

theorem modSlot_ledgerWf (s : State) (i : Nat) (f : Slot → Slot) : Keeps LedgerWf s (modSlot s i f) :=
  ⟨fun w => modSlot_wf w i f⟩

theorem submitCal_ledgerWf (s : State) (u c : Nat) (a : Bool) : Keeps LedgerWf s (submitCal s u c a) := by
  unfold submitCal
  dsimp only
  refine Keeps.ite (LedgerWf.touch (modUnit_touch ..)) ?_
  split
  · exact ⟨fun w => newItem_wf w _ _ _ _ _ _ _⟩
  · exact ⟨id⟩

theorem submitDue_ledgerWf (s : State) : Keeps LedgerWf s (submitDue s) :=
  Keeps.foldl (Keeps.refl _ s) fun u x => Keeps.ite (Keeps.refl _ u)
    ((submitCal_ledgerWf ..).trans (LedgerWf.touch (modUnit_touch ..)))

theorem submitUnslotted_ledgerWf (s : State) : Keeps LedgerWf s (submitUnslotted s) := by
  rw [submitUnslotted_eq]
  exact Keeps.ite (Keeps.refl _ s) (Keeps.foldl (Keeps.refl _ s) fun u x => Keeps.ite (Keeps.refl _ u)
    ((submitCal_ledgerWf ..).trans (LedgerWf.touch (modUnit_touch ..))))

theorem settleCal_ledgerWf (s : State) : Keeps LedgerWf s (settleCal s) :=
  Keeps.ite ((submitDue_ledgerWf _).trans (LedgerWf.touch (setMode_touch ..))) (Keeps.refl _ s)

theorem itemDone_ledgerWf (s : State) (i : Nat) : Keeps LedgerWf s (itemDone s i) := by
  unfold itemDone
  dsimp only
  exact Keeps.ite (Keeps.ite (modSlot_ledgerWf ..) (Keeps.refl _ s))
    (Keeps.ite (LedgerWf.touch (notice_touch ..)) (Keeps.refl _ s))

/-! What keeps an item in its slot. -/

/-- The item l stands in slot j. -/
def SlotIs (j : Nat) (l : Slot) (s : State) : Prop := slotOf s j = l

section
variable {j : Nat} {l : Slot}

theorem SlotIs.touch {ps : List Part} {s t : State} (k : Touch ps s t) (h : Part.ledger ∉ ps := by decide) :
    Keeps (SlotIs j l) s t := ⟨fun e => (slotOf_ledger (k.ledger h) j).trans e⟩

theorem modSlot_keeps_other (s : State) {i : Nat} (hj : j ≠ i) (f : Slot → Slot) : Keeps (SlotIs j l) s (modSlot s i f) :=
  ⟨fun e => (slotOf_modSlot_other _ _ _ hj).trans e⟩

theorem itemDone_keeps_other (s : State) {i : Nat} (hj : j ≠ i) : Keeps (SlotIs j l) s (itemDone s i) := by
  unfold itemDone
  dsimp only
  exact Keeps.ite (Keeps.ite (modSlot_keeps_other _ hj _) (Keeps.refl _ s))
    (Keeps.ite (SlotIs.touch (notice_touch ..)) (Keeps.refl _ s))

variable (hl : l.st ≠ .free)
include hl

theorem submitUnslotted_keeps (s : State) : Keeps (SlotIs j l) s (submitUnslotted s) :=
  ⟨fun e => (submitUnslotted_taken (by rw [show slotOf s j = l from e]; exact hl)).trans e⟩

theorem settleCal_keeps (s : State) : Keeps (SlotIs j l) s (settleCal s) :=
  ⟨fun e => (settleCal_taken (by rw [show slotOf s j = l from e]; exact hl)).trans e⟩

end

/-! The end of an item. -/

/-- What keeps a property of the ledger through each stage of an item's end keeps it through the end. -/
theorem endItem_keeps {I : State → Prop} {i : Nat} (touch : ∀ {ps : List Part} {s t : State}, Touch ps s t →
      (Part.ledger ∉ ps) → Keeps I s t) (slot : ∀ s f, Keeps I s (modSlot s i f)) (done : ∀ s, Keeps I s (itemDone s i))
    (unslotted : ∀ s, Keeps I s (submitUnslotted s)) (cal : ∀ s, Keeps I s (settleCal s)) (s : State)
    (reason : Option Nat) (f : Slot → Slot) : Keeps I s (endItem s i reason f) := by
  unfold endItem
  dsimp only
  refine Keeps.ite ((cal _).trans ((touch (settlePause_touch ..) (by decide)).trans ((touch (settleMode_touch _)
    (by decide)).trans ?_))) (Keeps.refl _ s)
  generalize hv : modSlot s i _ = v
  have hs : Keeps I s v := by rw [← hv]; exact slot s _
  have hm := Keeps.ite (c := (slotOf s i).own = true ∧ Msg.field (slotOf s i).msg 42 2 &&& 0x24 ≠ 0)
    ((touch (modUnit_touch v (Msg.field (slotOf s i).msg 40 2) fun x => { x with marked := false }) (by decide)).trans hs) hs
  exact Keeps.ite ((unslotted _).trans ((done _).trans hm)) ((done _).trans hm)

theorem endItem_ledgerWf (s : State) (i : Nat) (r : Option Nat) (f : Slot → Slot) : Keeps LedgerWf s (endItem s i r f) :=
  endItem_keeps (fun k h => LedgerWf.touch k h) (fun s f => modSlot_ledgerWf s i f) (fun s => itemDone_ledgerWf s i)
    submitUnslotted_ledgerWf settleCal_ledgerWf s r f

theorem endItem_keeps_other {j : Nat} {l : Slot} (hl : l.st ≠ .free) (s : State) {i : Nat} (hj : j ≠ i) (r : Option Nat)
    (f : Slot → Slot) : Keeps (SlotIs j l) s (endItem s i r f) :=
  endItem_keeps (fun k h => SlotIs.touch k h) (fun s f => modSlot_keeps_other s hj f) (fun s => itemDone_keeps_other s hj)
    (submitUnslotted_keeps hl) (settleCal_keeps hl) s r f

/-! Items that end one after another. -/

/-- What g does at a slot whose item p holds of: it keeps W, leaves Headwater and the items of the other slots alone, and
ends the item where it is a host's. -/
structure EndsItems (g : State → Nat → State) (W : State → Prop) (p : Slot → Prop) (reason : Option Nat) : Prop where
  taken : ∀ l, p l → l.st ≠ .free
  keeps : ∀ u x, p (slotOf u x) → W u → W (g u x)
  hw : ∀ u x, (g u x).hw = u.hw
  other : ∀ u x j l, p (slotOf u x) → j ≠ x → l.st ≠ .free → Keeps (SlotIs j l) u (g u x)
  ends : ∀ u x, W u → p (slotOf u x) → HostItem u x → Ended u (g u x) x reason

section
variable {g : State → Nat → State} {W : State → Prop} {p : Slot → Prop} {reason : Option Nat} (k : EndsItems g W p reason)
include k

theorem EndsItems.foldl_hw (l : List Nat) (s : State) : (l.foldl g s).hw = s.hw := by
  induction l generalizing s with
  | nil => rfl
  | cons x l ih => exact (ih _).trans (k.hw s x)

/-- The items that are still to end stand as they are after one of them has ended. -/
theorem EndsItems.rest {s : State} {x : Nat} {l : List Nat} (hn : (x :: l).Nodup) (hp : ∀ y ∈ x :: l, p (slotOf s y)) :
    ∀ y ∈ l, slotOf (g s x) y = slotOf s y := fun y hy =>
  (k.other s x y (slotOf s y) (hp x List.mem_cons_self) (fun e => (List.nodup_cons.1 hn).1 (e ▸ hy))
    (k.taken _ (hp y (List.mem_cons_of_mem _ hy)))).keeps rfl

theorem EndsItems.foldl_keeps {l : List Nat} (hn : l.Nodup) {s : State} (hp : ∀ x ∈ l, p (slotOf s x)) (w : W s) :
    W (l.foldl g s) := by
  induction l generalizing s with
  | nil => exact w
  | cons x l ih =>
    exact ih (List.nodup_cons.1 hn).2 (fun y hy => by rw [k.rest hn hp y hy]; exact hp y (List.mem_cons_of_mem _ hy))
      (k.keeps s x (hp x List.mem_cons_self) w)

theorem EndsItems.foldl_other {l : List Nat} (hn : l.Nodup) {s : State} (hp : ∀ x ∈ l, p (slotOf s x)) {j : Nat}
    (hj : j ∉ l) (hf : (slotOf s j).st ≠ .free) : slotOf (l.foldl g s) j = slotOf s j := by
  induction l generalizing s with
  | nil => rfl
  | cons x l ih =>
    obtain ⟨h1, h2⟩ := not_or.1 (mt List.mem_cons.2 hj)
    have e : slotOf (g s x) j = slotOf s j := (k.other s x j _ (hp x List.mem_cons_self) h1 hf).keeps rfl
    exact (ih (List.nodup_cons.1 hn).2 (fun y hy => by
      rw [k.rest hn hp y hy]; exact hp y (List.mem_cons_of_mem _ hy)) h2 (by rw [e]; exact hf)).trans e

theorem EndsItems.foldl_ends {l : List Nat} (hn : l.Nodup) {s : State} (hp : ∀ x ∈ l, p (slotOf s x)) (w : W s) {i : Nat}
    (hi : i ∈ l) (h : HostItem s i) : Ended s (l.foldl g s) i reason := by
  induction l generalizing s with
  | nil => cases hi
  | cons x l ih =>
    obtain ⟨h1, h2⟩ := List.nodup_cons.1 hn
    have hp' : ∀ y ∈ l, p (slotOf (g s x) y) := fun y hy => by
      rw [k.rest hn hp y hy]; exact hp y (List.mem_cons_of_mem _ hy)
    have hpx := hp x List.mem_cons_self
    rcases List.mem_cons.1 hi with rfl | hi
    · have e := k.ends s i w hpx h
      obtain ⟨hst, hr, ht⟩ := e
      have same := k.foldl_other h2 hp' h1 (by rw [hst]; cases reason <;> nofun)
      exact ⟨by rw [List.foldl_cons, same, hst], by rw [List.foldl_cons, same, hr], by rw [List.foldl_cons, same, ht]⟩
    · have e := k.rest hn hp i hi
      exact (ih h2 hp' (k.keeps s x hpx w) hi ⟨by rw [e]; exact h.1, by rw [e]; exact h.2⟩).from_hw (k.hw s x)

end

/-- The slots that p holds of are named once each, and p holds of their items. -/
theorem slotsInOrder_nodup {s : State} (w : TabWf {} s.ledger) (p : Slot → Bool) : (slotsInOrder s p).Nodup :=
  (slotsInOrder_perm s p).nodup_iff.2 (tkeys_nodup w _)

theorem openSlot_not_free {l : Slot} (h : openSlot l = true) : l.st ≠ .free := fun e => by simp [openSlot, e] at h

/-- Items that end with a reason and nothing else. -/
theorem endItem_endsItems (reason : Option Nat) : EndsItems (fun s i => endItem s i reason fun l => l) LedgerWf
    (fun l => openSlot l = true) reason where
  taken _ := openSlot_not_free
  keeps u x _ := (endItem_ledgerWf u x reason _).keeps
  hw _ _ := (endItem_touch ..).hw
  other u _ _ _ _ hj hl := endItem_keeps_other hl u hj reason _
  ends _ _ w _ h := endItem_ends w h rfl

end Sys2Proof.Machine
end

section
/-! PROOFS. Schedules: their load, the end of a digest check, and their unloading (R115, R126, R129, R130). -/

namespace Sys2Proof.Machine

/-! OPC_SCHEDULE_LOAD (R129). -/

/-- The own checks of OPC_SCHEDULE_LOAD. -/
def loadChecks (rem : Remote) (s : State) (m : Msg) : List (Bool × Nat × Nat) :=
  [range (15 < Msg.field m 16 1) 16, imageRefusal (loadError s rem (Msg.field m 24 8) (Msg.field m 32 8))]
    ++ schedBusy s (Msg.field m 16 1)

/-- SEGMENTS of an image at an address. -/
def imageSegs (s : State) (rem : Remote) (a : Nat) : Nat := bytesAt (bytesOrZero s rem (a + 20) 4) 0 4

theorem scheduleLoad_serves (n : Nat) (rem : Remote) (s : State) : exec (.opcScheduleLoad n rem) s =
    serve 0x0501 n rem s (fun m => highAddr m 24) (loadChecks rem) fun s m =>
      .next (done (modSched s (Msg.field m 16 1) fun x => { x with
        st := .verifying, check := some (Msg.field m 24 8, Msg.field m 32 8, imageSegs s rem (Msg.field m 24 8)) })
        n m 0 []) := rfl

section
variable {n : Nat} {rem : Remote} {s u : State} {m : Msg} (h : Asked 0x0501 n rem s m u)
include h

theorem scheduleLoad_resv : highAddr m 24 = false := asked_resv h fun e => by simp only [commandReserved, e]

variable (hid : Msg.field m 16 1 ≤ 15)
include hid

theorem opcScheduleLoad_badImage {e : Nat} (he : loadError u rem (Msg.field m 24 8) (Msg.field m 32 8) = some e) :
    Refuses (.opcScheduleLoad n rem) n s u m 0x14 (0x100 + e) :=
  asked_refuses h ((scheduleLoad_serves n rem s).trans (asked_serve_fails h (scheduleLoad_resv h) (by
    simp [loadChecks, firstFail_cons, range, imageRefusal, he, Nat.not_lt.2 hid])))

theorem opcScheduleLoad_verifies (he : loadError u rem (Msg.field m 24 8) (Msg.field m 32 8) = none)
    (hb : firstFail (schedBusy u (Msg.field m 16 1)) = none) (w : TabWf {} s.cfg.scheds) :
    Completes (.opcScheduleLoad n rem) s [.mbs, .rr, .fabric, .free, .cfg] fun t =>
      (∃ g, schedOf t (Msg.field m 16 1) = { schedOf s (Msg.field m 16 1) with
        st := .verifying, check := some (Msg.field m 24 8, Msg.field m 32 8, g) })
      ∧ ∀ j, j ≠ Msg.field m 16 1 → schedOf t j = schedOf s j := by
  have q := (asked_touch h).cfg
  have hk : firstFail (loadChecks rem u m) = none := by
    rw [loadChecks, firstFail_append]
    · exact hb
    · simp [firstFail_cons, firstFail_nil, range, imageRefusal, he, Nat.not_lt.2 hid]
  refine Completes.of_next ((scheduleLoad_serves n rem s).trans (asked_serve_runs h (scheduleLoad_resv h) hk))
    ⟨⟨imageSegs u rem (Msg.field m 24 8), ?_⟩, fun j hj => ?_⟩ ((execOpcScheduleLoad_touch n rem s).mono (by decide))
  · rw [schedOf_cfg (done_touch ..).cfg, schedOf_modSched_same _ _ _ (by rw [q]; exact w), schedOf_cfg q]
  · rw [schedOf_cfg (done_touch ..).cfg, schedOf_modSched_other _ _ _ hj, schedOf_cfg q]

end

/-! SCHEDULE_DIGEST_DONE (R115, R126). -/

theorem scheduleDigestDone_idle {id : Nat} {rem : Remote} {s : State} (h : (schedOf s id).st ≠ .verifying) :
    Idle (.scheduleDigestDone id rem) s := by
  show execScheduleDigestDone id rem s = _
  unfold execScheduleDigestDone
  dsimp only
  split
  next hst _ => exact absurd hst h
  next => rfl

section
variable {id : Nat} {rem : Remote} {s : State} {a len g : Nat} (hst : (schedOf s id).st = .verifying)
  (hck : (schedOf s id).check = some (a, len, g))
include hst hck

theorem scheduleDigestDone_agrees {img : List Byte} (hr : readBytes s rem a len = some img)
    (hd : digestWithout img 32 = (img.drop 32).take 32) : exec (.scheduleDigestDone id rem) s =
      if imageReserved img then .fault .reservedField
      else .next (modSched s id fun _ => { st := .valid, addr := a, image := img, check := none }) := by
  show execScheduleDigestDone id rem s = _
  unfold execScheduleDigestDone
  dsimp only
  rw [hst, hck]
  dsimp only
  rw [hr]
  exact if_pos hd

theorem scheduleDigestDone_fails
    (hd : ∀ img, readBytes s rem a len = some img → digestWithout img 32 ≠ (img.drop 32).take 32) :
    exec (.scheduleDigestDone id rem) s = .next (schedFailed s id) := by
  show execScheduleDigestDone id rem s = _
  unfold execScheduleDigestDone
  dsimp only
  rw [hst, hck]
  dsimp only
  cases hr : readBytes s rem a len with
  | none => rfl
  | some img => exact if_neg (hd img hr)

end

/-- The items that name a schedule. -/
def namesSched (id : Nat) (l : Slot) : Bool := openSlot l && l.kind = some .burst && pSched l.msg = id

theorem schedFailed_eq (s : State) (id : Nat) : schedFailed s id =
    (slotsInOrder (modSched s id fun x => { x with st := .bad }) (namesSched id)).foldl
      (fun s i => endItem s i (some rSignature) fun l => l) (modSched s id fun x => { x with st := .bad }) := rfl

theorem schedOf_schedFailed (s : State) (id j : Nat) :
    schedOf (schedFailed s id) j = schedOf (modSched s id fun x => { x with st := .bad }) j := by
  rw [schedFailed_eq]
  generalize modSched s id _ = v
  exact schedOf_cfg (Touch.foldl (Touch.refl _ v) fun _ _ => endItem_touch ..).cfg j

theorem schedFailed_ends {s : State} (w : TabWf {} s.ledger) (id : Nat) {i : Nat} (h : HostItem s i)
    (hn : namesSched id (slotOf s i) = true) : Ended s (schedFailed s id) i (some 9) := by
  rw [schedFailed_eq]
  generalize hv : modSched s id _ = v
  have k : Touch [.cfg] s v := by rw [← hv]; exact modSched_touch ..
  have wv : TabWf {} v.ledger := by rw [k.ledger]; exact w
  have mem := mem_slotsInOrder wv (p := namesSched id) rfl
  refine ((endItem_endsItems (some rSignature)).foldl_ends (slotsInOrder_nodup wv _) (fun x hx => ?_) wv
    ((mem i).2 (by rw [slotOf_ledger k.ledger]; exact hn)) (h.of_touch k (by decide))).from_hw k.hw
  have := (mem x).1 hx
  simp only [namesSched, Bool.and_eq_true] at this
  exact this.1.1

theorem scheduleDigestDone_bad {id : Nat} {rem : Remote} {s : State} (w : TabWf {} s.cfg.scheds)
    (he : exec (.scheduleDigestDone id rem) s = .next (schedFailed s id)) (wl : TabWf {} s.ledger) :
    Completes (.scheduleDigestDone id rem) s [.dev, .units, .mbs, .ledger, .order, .cfg, .fabric, .svc] fun t =>
      schedOf t id = { schedOf s id with st := .bad } ∧ (∀ j, j ≠ id → schedOf t j = schedOf s j)
        ∧ ∀ i, HostItem s i → (slotOf s i).kind = some .burst → pSched (slotOf s i).msg = id → Ended s t i (some 9) := by
  refine ⟨_, he, ⟨?_, fun j hj => ?_, fun i h hk hs => schedFailed_ends wl id h ?_⟩, schedFailed_touch ..⟩
  · rw [schedOf_schedFailed, schedOf_modSched_same _ _ _ w]
  · rw [schedOf_schedFailed, schedOf_modSched_other _ _ _ hj]
  · simp [namesSched, h.1, hk, hs]

theorem scheduleDigestDone_valid {id : Nat} {rem : Remote} {s : State} (w : TabWf {} s.cfg.scheds) {x : Sched}
    (he : exec (.scheduleDigestDone id rem) s = .next (modSched s id fun _ => x)) :
    Completes (.scheduleDigestDone id rem) s [.cfg] fun t => schedOf t id = x ∧ ∀ j, j ≠ id → schedOf t j = schedOf s j :=
  ⟨_, he, ⟨schedOf_modSched_same _ _ _ w, fun _ hj => schedOf_modSched_other _ _ _ hj⟩, modSched_touch ..⟩

/-! OPC_SCHEDULE_UNLOAD (R129). -/

theorem scheduleUnload_serves (n : Nat) (s : State) : exec (.opcScheduleUnload n) s = serveNext 0x0502 n s noResv
    (fun s m => range (15 < Msg.field m 16 1) 16 :: schedBusy s (Msg.field m 16 1))
    fun s m => done (modSched s (Msg.field m 16 1) fun _ => {}) n m 0 [] := rfl

theorem opcScheduleUnload_empties {n : Nat} {s u : State} {m : Msg} (h : Asked 0x0502 n [] s m u)
    (w : TabWf {} s.cfg.scheds) (hid : Msg.field m 16 1 ≤ 15) (hb : firstFail (schedBusy u (Msg.field m 16 1)) = none) :
    Completes (.opcScheduleUnload n) s [.mbs, .rr, .fabric, .free, .cfg] fun t =>
      schedOf t (Msg.field m 16 1) = {} ∧ ∀ j, j ≠ Msg.field m 16 1 → schedOf t j = schedOf s j := by
  have q := (asked_touch h).cfg
  refine asked_completes h (scheduleUnload_serves n s) rfl ?_ ⟨?_, fun j hj => ?_⟩
    ((execOpcScheduleUnload_touch n s).mono (by decide))
  · simp [firstFail_cons, range, Nat.not_lt.2 hid, hb]
  · rw [schedOf_cfg (done_touch ..).cfg, schedOf_modSched_same _ _ _ (by rw [q]; exact w)]
  · rw [schedOf_cfg (done_touch ..).cfg, schedOf_modSched_other _ _ _ hj, schedOf_cfg q]

end Sys2Proof.Machine
end

section
/-! PROOFS. The stores of the sequencers: their load, and the end of a digest check (R115, R217, R218). -/

namespace Sys2Proof.Machine

theorem seqOf_seqs {s t : State} (h : t.seqs = s.seqs) (q : Nat) : seqOf t q = seqOf s q := by unfold seqOf; rw [h]

/-! The state of a store. -/

/-- The state of the store or patch memory of a sequencer. -/
def storeState (k : Nat) (x : Seq) : Store := if k = 0 then x.wState else x.pState

theorem storeState_setStore (k : Nat) (b : Store) (x : Seq) : storeState k (setStore k b x) = b := by
  unfold storeState setStore
  split <;> rfl

/-- A state that is set leaves the content and the checks that run. -/
theorem setStore_content (k : Nat) (b : Store) (x : Seq) :
    (setStore k b x).store = x.store ∧ (setStore k b x).patch = x.patch := by
  unfold setStore
  split <;> exact ⟨rfl, rfl⟩

/-- The store or patch memory of sequencer q stands in state b. -/
def StoreIs (q k : Nat) (b : Store) (s : State) : Prop := TabWf {} s.seqs ∧ storeState k (seqOf s q) = b

theorem StoreIs.touch {q k : Nat} {b : Store} {ps : List Part} {s t : State} (c : Touch ps s t)
    (h : Part.seqs ∉ ps := by decide) : Keeps (StoreIs q k b) s t :=
  ⟨fun ⟨w, e⟩ => ⟨by rw [c.seqs h]; exact w, by rw [seqOf_seqs (c.seqs h)]; exact e⟩⟩

/-- A sequencer that goes idle keeps its stores. -/
theorem idleSeq_storeIs {q k : Nat} {b : Store} (s : State) (r : Nat) : Keeps (StoreIs q k b) s (modSeq s r idleSeq) :=
  ⟨fun ⟨w, e⟩ => ⟨modSeq_wf w r _, by
    rcases eq_or_ne q r with rfl | hr
    · rw [seqOf_modSeq_same _ _ _ w]
      exact e
    · rw [seqOf_modSeq_other _ _ _ hr]
      exact e⟩⟩

/-! The end of a MEASURE item. -/

section
variable {I : State → Prop} {i : Nat}

/-- What keeps a property of the ledger and the sequencers through the stages of a MEASURE item's end keeps it through
the end. -/
theorem endNow_measure_keeps (touch : ∀ {ps : List Part} {s t : State}, Touch ps s t → Part.ledger ∉ ps → Part.seqs ∉ ps →
      Keeps I s t) (idle : ∀ s q, Keeps I s (modSeq s q idleSeq)) (fin : ∀ s r f, Keeps I s (endItem s i r f)) {s : State}
    (hk : (slotOf s i).kind = some .measure) (reason extra : Nat) (rest : Nat → Rest) (dst : UState) :
    Keeps I s (endNow s i reason extra rest dst) := by
  have finish : ∀ u q, Keeps I u (finishMeasure u q i (some reason) extra) := fun u q =>
    (fin _ _ _).trans ((idle _ _).trans (touch (memWrite_touch ..) (by decide) (by decide)))
  unfold endNow
  rw [hk]
  refine Keeps.ite ?_ (fin ..)
  unfold stopMeasure
  exact (finish _ _).trans (Keeps.ite (Keeps.refl _ s)
    (touch (Touch.set_chans (b := [.chans]) (by decide) (Touch.refl _ s)) (by decide) (by decide)))

theorem endNow_measure_ends {s : State} (w : TabWf {} s.ledger) (hk : (slotOf s i).kind = some .measure) (h : HostItem s i)
    (reason extra : Nat) (rest : Nat → Rest) (dst : UState) : Ended s (endNow s i reason extra rest dst) i (some reason) := by
  unfold endNow
  rw [hk]
  dsimp only
  split
  · unfold stopMeasure
    dsimp only
    generalize hv : (if seqDps (pMseq (slotOf s i).msg) = true then s else _) = v
    have k : Touch [.chans] s v := by
      rw [← hv]
      exact Touch.ite (Touch.refl _ s) (Touch.set_chans (by decide) (Touch.refl _ s))
    exact (finishMeasure_ends (by rw [k.ledger]; exact w) (h.of_touch k (by decide))).from_hw k.hw
  · exact endItem_ends w h rfl

end

/-- MEASURE items that end at once leave every store in its state. -/
theorem endNow_endsItems (q k reason extra : Nat) (b : Store) (rest : Nat → Rest) (dst : UState) :
    EndsItems (fun s i => endNow s i reason extra rest dst) (fun s => LedgerWf s ∧ StoreIs q k b s)
      (fun l => openSlot l = true ∧ l.kind = some .measure) (some reason) where
  taken _ h := openSlot_not_free h.1
  keeps u x h w := by
    obtain ⟨wl, ws⟩ := w
    exact ⟨(endNow_measure_keeps (fun c hl _ => LedgerWf.touch c hl) (fun s r => LedgerWf.touch (modSeq_touch ..))
        (fun s => endItem_ledgerWf s x) h.2 reason extra rest dst).keeps wl,
      (endNow_measure_keeps (fun c _ hs => StoreIs.touch c hs) idleSeq_storeIs (fun s r f => StoreIs.touch (endItem_touch ..))
        h.2 reason extra rest dst).keeps ws⟩
  hw _ _ := (endNow_touch ..).hw
  other u x j l h hj hl := endNow_measure_keeps (fun c hl _ => SlotIs.touch c hl) (fun s r => SlotIs.touch (modSeq_touch ..))
    (fun s r f => endItem_keeps_other hl s hj r f) h.2 reason extra rest dst
  ends u x w h hi := endNow_measure_ends w.1 h.2 hi reason extra rest dst

/-! OPC_MSEQ_LOAD (R217). -/

/-- The own checks of OPC_MSEQ_LOAD. -/
def mseqLoadChecks (rem : Remote) (s : State) (m : Msg) : List (Bool × Nat × Nat) :=
  [range (15 < Msg.field m 16 1) 16, range (1 < Msg.field m 17 1) 17, range (Msg.field m 24 8 % 64 ≠ 0) 24,
   imageRefusal (storeLoadError s rem (Msg.field m 24 8) (Msg.field m 32 4) (Msg.field m 17 1)),
   busy (unitState s (unitSeq (Msg.field m 16 1)) ≠ .maintenance)]

/-- A sequencer one of whose stores is to be checked: a check of the same store that runs is abandoned. -/
def startCheck (k a len : Nat) (x : Seq) : Seq :=
  { setStore k .verifying x with check := x.check.filter (fun c => c.1 ≠ k) ++ [(k, a, len)] }

theorem mseqLoad_serves (n : Nat) (rem : Remote) (s : State) : exec (.opcMseqLoad n rem) s =
    serve 0x0604 n rem s (fun m => highAddr m 24) (mseqLoadChecks rem) fun s m =>
      .next (done (modSeq s (Msg.field m 16 1) (startCheck (Msg.field m 17 1) (Msg.field m 24 8) (Msg.field m 32 4)))
        n m 0 []) := rfl

section
variable {n : Nat} {rem : Remote} {s u : State} {m : Msg} (h : Asked 0x0604 n rem s m u)
include h

theorem mseqLoad_resv : highAddr m 24 = false := asked_resv h fun e => by simp only [commandReserved, e]

variable (hq : Msg.field m 16 1 ≤ 15) (hk : Msg.field m 17 1 ≤ 1) (ha : Msg.field m 24 8 % 64 = 0)
include hq hk ha

theorem opcMseqLoad_badImage {e : Nat}
    (he : storeLoadError u rem (Msg.field m 24 8) (Msg.field m 32 4) (Msg.field m 17 1) = some e) :
    Refuses (.opcMseqLoad n rem) n s u m 0x14 (0x100 + e) :=
  asked_refuses h ((mseqLoad_serves n rem s).trans (asked_serve_fails h (mseqLoad_resv h) (by
    simp [mseqLoadChecks, firstFail_cons, range, imageRefusal, he, Nat.not_lt.2 hq, Nat.not_lt.2 hk, ha])))

theorem opcMseqLoad_verifies (he : storeLoadError u rem (Msg.field m 24 8) (Msg.field m 32 4) (Msg.field m 17 1) = none)
    (hu : unitState s (unitSeq (Msg.field m 16 1)) = .maintenance) (w : TabWf {} s.seqs) :
    Completes (.opcMseqLoad n rem) s [.mbs, .rr, .fabric, .free, .seqs] fun t =>
      seqOf t (Msg.field m 16 1)
          = startCheck (Msg.field m 17 1) (Msg.field m 24 8) (Msg.field m 32 4) (seqOf s (Msg.field m 16 1))
        ∧ ∀ j, j ≠ Msg.field m 16 1 → seqOf t j = seqOf s j := by
  have k := asked_touch h
  have hx : unitState u (unitSeq (Msg.field m 16 1)) = .maintenance :=
    (unitState_units k.units (by unfold unitSeq; omega)).trans hu
  have ho : firstFail (mseqLoadChecks rem u m) = none := by
    simp [mseqLoadChecks, firstFail_cons, firstFail_nil, range, busy, imageRefusal, he, Nat.not_lt.2 hq, Nat.not_lt.2 hk, ha,
      hx]
  refine Completes.of_next ((mseqLoad_serves n rem s).trans (asked_serve_runs h (mseqLoad_resv h) ho))
    ⟨?_, fun j hj => ?_⟩ ((execOpcMseqLoad_touch n rem s).mono (by decide))
  · rw [seqOf_seqs (done_touch ..).seqs, seqOf_modSeq_same _ _ _ (by rw [k.seqs]; exact w), seqOf_seqs k.seqs]
  · rw [seqOf_seqs (done_touch ..).seqs, seqOf_modSeq_other _ _ _ hj, seqOf_seqs k.seqs]

end

theorem startCheck_mem (k a len : Nat) (x : Seq) : (k, a, len) ∈ (startCheck k a len x).check :=
  List.mem_append_right _ List.mem_cons_self

/-! MSEQ_DIGEST_DONE (R218). -/

theorem mseqDigestDone_idle {q : Nat} {rem : Remote} {s : State} (h : (seqOf s q).check = []) :
    Idle (.mseqDigestDone q rem) s := by
  show execMseqDigestDone q rem s = _
  unfold execMseqDigestDone
  rw [h]

theorem readBytes_modSeq (s : State) (q : Nat) (f : Seq → Seq) (rem : Remote) (a n : Nat) :
    readBytes (modSeq s q f) rem a n = readBytes s rem a n := readBytes_local rfl rfl rfl rfl rem a n

/-- The state in which the oldest check of sequencer q has been taken out. -/
def checkTaken (s : State) (q : Nat) (rest : List (Nat × Nat × Nat)) : State := modSeq s q fun x => { x with check := rest }

section
variable {q : Nat} {rem : Remote} {s : State} {k a len : Nat} {rest : List (Nat × Nat × Nat)}
  (hck : (seqOf s q).check = (k, a, len) :: rest)
include hck

theorem mseqDigestDone_agrees {img : List Byte} (hr : readBytes s rem a len = some img)
    (hd : digestWithout img 32 = (img.drop 32).take 32) : exec (.mseqDigestDone q rem) s =
      .next (modSeq (checkTaken s q rest) q fun x => setStore k .valid (fillStore img k x)) := by
  show execMseqDigestDone q rem s = _
  unfold execMseqDigestDone
  rw [hck]
  dsimp only
  rw [readBytes_modSeq, hr]
  exact if_pos hd

theorem mseqDigestDone_fails
    (hd : ∀ img, readBytes s rem a len = some img → digestWithout img 32 ≠ (img.drop 32).take 32) :
    exec (.mseqDigestDone q rem) s = .next (storeFailed (checkTaken s q rest) q k) := by
  show execMseqDigestDone q rem s = _
  unfold execMseqDigestDone
  rw [hck]
  dsimp only
  rw [readBytes_modSeq]
  cases hr : readBytes s rem a len with
  | none => rfl
  | some img => exact if_neg (hd img hr)

theorem mseqDigestDone_valid (w : TabWf {} s.seqs) {img : List Byte} (hr : readBytes s rem a len = some img)
    (hd : digestWithout img 32 = (img.drop 32).take 32) :
    Completes (.mseqDigestDone q rem) s [.seqs] fun t =>
      seqOf t q = setStore k .valid (fillStore img k { seqOf s q with check := rest }) ∧ ∀ j, j ≠ q → seqOf t j = seqOf s j := by
  refine ⟨_, mseqDigestDone_agrees hck hr hd, ⟨?_, fun j hj => ?_⟩, (modSeq_touch ..).trans (modSeq_touch ..)⟩
  · exact (seqOf_modSeq_same _ _ _ (modSeq_wf w q _)).trans
      (congrArg (fun x => setStore k .valid (fillStore img k x)) (seqOf_modSeq_same _ _ _ w))
  · exact (seqOf_modSeq_other _ _ _ hj).trans (seqOf_modSeq_other _ _ _ hj)

end

/-- The items that use a store. -/
def usesStore (q k : Nat) (l : Slot) : Bool :=
  openSlot l && l.kind = some .measure && pMseq l.msg = q && (k = 1 || pStore l.msg = 1)

theorem usesStore_measure {q k : Nat} {l : Slot} (h : usesStore q k l = true) :
    openSlot l = true ∧ l.kind = some .measure := by
  simp only [usesStore, Bool.and_eq_true, decide_eq_true_eq] at h
  exact h.1.1

theorem storeFailed_eq (s : State) (q k : Nat) : storeFailed s q k =
    (slotsInOrder (modSeq s q (setStore k .bad)) (usesStore q k)).foldl
      (fun s i => endNow s i rSignature 0 (fun _ => .background) .offline) (modSeq s q (setStore k .bad)) := rfl

/-- The store is BAD after a check that fails, and the hosts' items that use it have ended. -/
theorem storeFailed_ends {s : State} (wl : TabWf {} s.ledger) (w : TabWf {} s.seqs) (q k : Nat) :
    storeState k (seqOf (storeFailed s q k) q) = .bad
      ∧ ∀ i, HostItem s i → usesStore q k (slotOf s i) = true → Ended s (storeFailed s q k) i (some 9) := by
  rw [storeFailed_eq]
  have hb : StoreIs q k .bad (modSeq s q (setStore k .bad)) :=
    ⟨modSeq_wf w q _, by rw [seqOf_modSeq_same _ _ _ w]; exact storeState_setStore k .bad _⟩
  generalize hv : modSeq s q _ = v at hb ⊢
  have c : Touch [.seqs] s v := by rw [← hv]; exact modSeq_touch ..
  have wv : TabWf {} v.ledger := by rw [c.ledger]; exact wl
  have mem := mem_slotsInOrder wv (p := usesStore q k) rfl
  have ends := endNow_endsItems q k rSignature 0 .bad (fun _ => .background) .offline
  have nd := slotsInOrder_nodup wv (usesStore q k)
  have hp := fun x hx => usesStore_measure ((mem x).1 hx)
  exact ⟨(ends.foldl_keeps nd hp ⟨wv, hb⟩).2.2, fun i h hn => (ends.foldl_ends nd hp ⟨wv, hb⟩
    ((mem i).2 (by rw [slotOf_ledger c.ledger]; exact hn)) (h.of_touch c (by decide))).from_hw c.hw⟩

theorem mseqDigestDone_bad {q : Nat} {rem : Remote} {s : State} {k a len : Nat} {rest : List (Nat × Nat × Nat)}
    (hck : (seqOf s q).check = (k, a, len) :: rest) (w : TabWf {} s.seqs) (wl : TabWf {} s.ledger)
    (hd : ∀ img, readBytes s rem a len = some img → digestWithout img 32 ≠ (img.drop 32).take 32) :
    Completes (.mseqDigestDone q rem) s [.dev, .units, .mbs, .ledger, .order, .dacs, .chans, .pebs, .bursts, .seqs, .tdcs, .acqs, .dps, .resvs, .lanes, .queues, .dmas, .fabric, .press, .levee, .svc, .mem, .free] fun t =>
      storeState k (seqOf t q) = .bad ∧ ∀ i, HostItem s i → usesStore q k (slotOf s i) = true → Ended s t i (some 9) := by
  refine Completes.of_next (mseqDigestDone_fails hck hd) ?_ (execMseqDigestDone_touch ..)
  have c : Touch [.seqs] s (checkTaken s q rest) := modSeq_touch ..
  obtain ⟨hb, he⟩ := storeFailed_ends (s := checkTaken s q rest) wl (modSeq_wf w q _) q k
  exact ⟨hb, fun i h hn => (he i (h.of_touch c (by decide)) hn).from_hw c.hw⟩

end Sys2Proof.Machine
end

section
/-! PROOFS. OPC_BURST_JUMP and OPC_LAYER_FREE (R122, R164), and the schedules and stores whole. -/

namespace Sys2Proof.Machine

/-! OPC_BURST_JUMP (R122). -/

/-- What OPC_BURST_JUMP does to the BURST it names. -/
def jumpBurst (n : Nat) (s : State) (m : Msg) : State :=
  if terminal (slotOf s (namedSlot m)) then respond s n m (mkResp s m 0x02 0 0xFFFF [])
  else if (slotOf s (namedSlot m)).st = .queued then
    done (modSlot s (namedSlot m) fun l => { l with jump := some (Msg.field m 16 1) }) n m 0 []
  else done (requestJump s (namedSlot m) (Msg.field m 16 1)) n m 0 []

theorem burstJump_serves (n : Nat) (s : State) : exec (.opcBurstJump n) s = serveNext 0x0504 n s noResv
    (fun s m => [range ((slotOf s (namedSlot m)).kind ≠ some .burst) 6, range (3 < Msg.field m 16 1) 16]) (jumpBurst n) := rfl

section
variable {n : Nat} {s u : State} {m : Msg} (h : Asked 0x0504 n [] s m u)
  (hk : (slotOf s (namedSlot m)).kind = some .burst) (hc : Msg.field m 16 1 ≤ 3)
include h

theorem asked_slotOf (i : Nat) : slotOf u i = slotOf s i := slotOf_ledger (asked_touch h).ledger i

include hk hc

theorem opcBurstJump_runs : exec (.opcBurstJump n) s = .next (jumpBurst n u m) := by
  refine (burstJump_serves n s).trans (asked_next h rfl ?_)
  simp [firstFail_cons, firstFail_nil, range, asked_slotOf h, hk, Nat.not_lt.2 hc]

theorem opcBurstJump_terminal (ht : terminal (slotOf s (namedSlot m)) = true) :
    Completes (.opcBurstJump n) s [.mbs, .rr, .fabric, .free] fun t => t = respond u n m (mkResp u m 0x02 0 0xFFFF []) := by
  have e : jumpBurst n u m = respond u n m (mkResp u m 0x02 0 0xFFFF []) := if_pos (by rw [asked_slotOf h]; exact ht)
  exact ⟨_, opcBurstJump_runs h hk hc, e, by rw [e]; exact (respond_touch ..).app (by decide) (asked_touch h)⟩

theorem opcBurstJump_queued (w : TabWf {} s.ledger) (hq : (slotOf s (namedSlot m)).st = .queued) :
    Completes (.opcBurstJump n) s [.mbs, .rr, .fabric, .free, .ledger] fun t =>
      slotOf t (namedSlot m) = { slotOf s (namedSlot m) with jump := some (Msg.field m 16 1) }
        ∧ ∀ j, j ≠ namedSlot m → slotOf t j = slotOf s j := by
  have k := asked_touch h
  have e : jumpBurst n u m
      = done (modSlot u (namedSlot m) fun l => { l with jump := some (Msg.field m 16 1) }) n m 0 [] := by
    unfold jumpBurst
    rw [if_neg (by simp [asked_slotOf h, terminal, hq]), if_pos (by rw [asked_slotOf h]; exact hq)]
  refine ⟨_, (opcBurstJump_runs h hk hc).trans (congrArg _ e), ⟨?_, fun j hj => ?_⟩,
    (done_touch ..).app (by decide) ((modSlot_touch ..).app (by decide) (k.mono (by decide)))⟩
  · rw [slotOf_ledger (done_touch ..).ledger, slotOf_modSlot_same _ _ _ (by rw [k.ledger]; exact w), asked_slotOf h]
  · rw [slotOf_ledger (done_touch ..).ledger, slotOf_modSlot_other _ _ _ hj, asked_slotOf h]

theorem opcBurstJump_inFlight (hf : inFlight (slotOf s (namedSlot m)) = true) (w : TabWf {} s.bursts) :
    Completes (.opcBurstJump n) s [.mbs, .rr, .fabric, .free, .bursts] fun t =>
      burstOf t (namedSlot m) = { burstOf s (namedSlot m) with
          jump := some (Msg.field m 16 1, (burstOf s (namedSlot m)).vec - 1) }
        ∧ ∀ j, j ≠ namedSlot m → burstOf t j = burstOf s j := by
  have k := asked_touch h
  have e : jumpBurst n u m = done (requestJump u (namedSlot m) (Msg.field m 16 1)) n m 0 [] := by
    simp only [inFlight, Bool.or_eq_true, decide_eq_true_eq] at hf
    unfold jumpBurst
    rcases hf with hf | hf <;> rw [if_neg (by simp [asked_slotOf h, terminal, hf]), if_neg (by simp [asked_slotOf h, hf])]
  refine ⟨_, (opcBurstJump_runs h hk hc).trans (congrArg _ e), ⟨?_, fun j hj => ?_⟩,
    (done_touch ..).app (by decide) ((requestJump_touch ..).app (by decide) (k.mono (by decide)))⟩
  · rw [burstOf_bursts (done_touch ..).bursts, requestJump, burstOf_modBurst_same _ _ _ (by rw [k.bursts]; exact w),
      burstOf_bursts k.bursts]
    rfl
  · rw [burstOf_bursts (done_touch ..).bursts, requestJump, burstOf_modBurst_other _ _ _ hj, burstOf_bursts k.bursts]

end

/-! Layers (R164). -/

section
variable {s : State} {p l : Nat}

theorem layerOf_modLayer_same (w : TabWf {} s.pebs) (wl : TabWf {} (pebOf s p).layers) (f : Layer → Layer) :
    layerOf (modLayer s p l f) p l = f (layerOf s p l) := by
  unfold layerOf modLayer
  rw [pebOf_modPeb_same _ _ _ w]
  exact tget_tset_same wl _ _

theorem layerOf_modLayer_other (w : TabWf {} s.pebs) (f : Layer → Layer) {k : Nat} (hk : k ≠ l) :
    layerOf (modLayer s p l f) p k = layerOf s p k := by
  unfold layerOf modLayer
  rw [pebOf_modPeb_same _ _ _ w]
  exact tget_tmod_other _ _ _ hk

/-- Only what a function makes of the layer as it stands matters. -/
theorem modLayer_congr {f g : Layer → Layer} (h : f (layerOf s p l) = g (layerOf s p l)) :
    modLayer s p l f = modLayer s p l g := by
  have e : f (tget {} (tget {} s.pebs p).layers l) = g (tget {} (tget {} s.pebs p).layers l) := h
  simp only [modLayer, modPeb, tmod, e]

end

/-! OPC_LAYER_FREE (R164). -/

/-- A layer one of whose pages is freed: at once where the page is IDLE, and else once it is out of play. -/
def freedLayer (g : Nat) (y : Layer) : Layer :=
  if tget .idle y.st g = .idle then { y with st := tset .idle y.st g .free }
  else { y with freePend := y.freePend ++ [g], deferred := y.deferred + 1, inPlay := y.inPlay + 1 }

/-- What OPC_LAYER_FREE does to page g of the layer it names. -/
def freePage (n g : Nat) (s : State) (m : Msg) : State :=
  if tget .idle (askedLayer s m).st g = .free then done s n m 1 [(16, 1, 1)]
  else done (modLayer s (Msg.field m 16 1) (Msg.field m 17 1) (freedLayer g)) n m 1
    [(16, 1, if tget .idle (askedLayer s m).st g = .idle then 1 else 0)]

section
variable {n g : Nat} {s u : State} {m : Msg} (h : Asked 0x0505 n [] s m u)
include h

theorem asked_layer : askedLayer u m = askedLayer s m := layerOf_pebs (asked_touch h).pebs _ _

theorem layerFree_resv : highAddr m 24 = false := asked_resv h fun e => by simp only [commandReserved, e]

variable (hp : Msg.field m 16 1 ≤ 11) (h1 : 1 ≤ Msg.field m 17 1) (h3 : Msg.field m 17 1 ≤ 3) (hg : askedPage s m = some g)
include hp h1 h3 hg

theorem opcLayerFree_runs : exec (.opcLayerFree n) s = .next (freePage n g u m) := by
  have hu : askedPage u m = some g := by unfold askedPage; rw [asked_layer h]; exact hg
  show execOpcLayerFree n s = _
  unfold execOpcLayerFree
  refine (asked_next h (layerFree_resv h) ?_).trans (congrArg _ ?_)
  · have h0 : Msg.field m 17 1 ≠ 0 := by omega
    simp [firstFail_cons, firstFail_nil, range, hu, Nat.not_lt.2 hp, Nat.not_lt.2 h3, h0]
  · dsimp only
    rw [hu, Option.getD_some]
    unfold freePage
    cases hst : tget .idle (askedLayer u m).st g
    case free => rfl
    case idle => exact congrArg (done · n m 1 [(16, 1, 1)]) (modLayer_congr (if_pos hst).symm)
    all_goals
      have hne : tget .idle (askedLayer u m).st g ≠ .idle := by rw [hst]; nofun
      exact congrArg (done · n m 1 [(16, 1, 0)]) (modLayer_congr (if_neg hne).symm)

theorem opcLayerFree_free (hf : tget .idle (layerOf s (Msg.field m 16 1) (Msg.field m 17 1)).st g = .free) :
    Answers (.opcLayerFree n) n s u m 1 [(16, 1, 1)] := by
  have e : freePage n g u m = done u n m 1 [(16, 1, 1)] := if_pos (by rw [asked_layer h]; exact hf)
  exact asked_answers h ((opcLayerFree_runs h hp h1 h3 hg).trans (congrArg _ e))

theorem opcLayerFree_frees (hf : tget .idle (layerOf s (Msg.field m 16 1) (Msg.field m 17 1)).st g ≠ .free)
    (w : TabWf {} s.pebs) (wl : TabWf {} (pebOf s (Msg.field m 16 1)).layers) :
    Completes (.opcLayerFree n) s [.mbs, .rr, .fabric, .free, .pebs] fun t =>
      layerOf t (Msg.field m 16 1) (Msg.field m 17 1) = freedLayer g (layerOf s (Msg.field m 16 1) (Msg.field m 17 1))
        ∧ (∀ k, k ≠ Msg.field m 17 1 → layerOf t (Msg.field m 16 1) k = layerOf s (Msg.field m 16 1) k)
        ∧ ∀ q, q ≠ Msg.field m 16 1 → pebOf t q = pebOf s q := by
  have q := (asked_touch h).pebs
  have wu : TabWf {} u.pebs := by rw [q]; exact w
  refine Completes.of_next (opcLayerFree_runs h hp h1 h3 hg) ?_ ((execOpcLayerFree_touch n s).mono (by decide))
  unfold freePage
  rw [if_neg (by rw [asked_layer h]; exact hf)]
  refine ⟨?_, fun k hk => ?_, fun j hj => ?_⟩
  · rw [layerOf_pebs (done_touch ..).pebs, layerOf_modLayer_same wu (by rw [pebOf_pebs q]; exact wl), layerOf_pebs q]
  · rw [layerOf_pebs (done_touch ..).pebs, layerOf_modLayer_other wu _ hk, layerOf_pebs q]
  · rw [pebOf_pebs (done_touch ..).pebs, modLayer, pebOf_modPeb_other _ _ _ hj, pebOf_pebs q]

end

/-! The obligation. -/

theorem Completes.imp {c : Instr} {s : State} {ps : List Part} {P Q : State → Prop} (h : Completes c s ps P)
    (hpq : ∀ t, P t → Q t) : Completes c s ps Q := by
  obtain ⟨t, he, hp, ht⟩ := h
  exact ⟨t, he, hpq t hp, ht⟩

/-- Settles O43: each command by its own lemma above; the items that a BAD schedule or store ends, by the rule for items
that end one after another. -/
theorem schedulesAndStoresAreCheckedThenReplaced : Obligations.SchedulesAndStoresAreCheckedThenReplaced := by
  unfold Obligations.SchedulesAndStoresAreCheckedThenReplaced
  refine ⟨fun n rem s u m h w => ?_, fun id rem s a len g w hst hck => ⟨fun img hr hd => ⟨fun hv => ?_, fun hv => ?_⟩,
      fun hd => scheduleDigestDone_bad w (scheduleDigestDone_fails hst hck hd)⟩,
    fun _ _ _ => scheduleDigestDone_idle, fun _ _ _ _ => opcScheduleUnload_empties,
    fun n rem s u m h w => ?_, fun q rem s k a len rest w hck => ⟨fun img => mseqDigestDone_valid hck w, fun hd wl => ?_⟩,
    fun _ _ _ => mseqDigestDone_idle, fun n s u m h w hk hc => ⟨opcBurstJump_terminal h hk hc, opcBurstJump_queued h hk hc w,
      opcBurstJump_inFlight h hk hc⟩,
    fun n s u m g h w hp h1 h3 hg => ⟨opcLayerFree_free h hp h1 h3 hg, fun hf => opcLayerFree_frees h hp h1 h3 hg hf w⟩⟩
  · refine fun hid => ⟨fun e => opcScheduleLoad_badImage h hid, fun he hb => ?_⟩
    refine Completes.imp (opcScheduleLoad_verifies h hid he hb w) fun t => ?_
    rintro ⟨⟨g, e⟩, other⟩
    rw [e]
    exact ⟨rfl, rfl, rfl, ⟨g, rfl⟩, other⟩
  · exact (scheduleDigestDone_agrees hst hck hr hd).trans (if_pos hv)
  · exact scheduleDigestDone_valid w ((scheduleDigestDone_agrees hst hck hr hd).trans (if_neg (by simp [hv])))
  · refine fun hq hk ha => ⟨fun e => opcMseqLoad_badImage h hq hk ha, fun he hu => ?_⟩
    refine Completes.imp (opcMseqLoad_verifies h hq hk ha he hu w) fun t => ?_
    rintro ⟨e, other⟩
    rw [e]
    obtain ⟨hs, hp⟩ := setStore_content (Msg.field m 17 1) .verifying (seqOf s (Msg.field m 16 1))
    exact ⟨storeState_setStore .., hs, hp, startCheck_mem .., other⟩
  · refine Completes.imp (mseqDigestDone_bad hck w wl hd) fun t => ?_
    rintro ⟨hb, ends⟩
    exact ⟨hb, fun i hi hk hq hs => ends i hi (by simp [usesStore, hi.1, hk, hq, hs])⟩

end Sys2Proof.Machine
end

section
/-! PROOFS. What a command changes of a BURST: the stream records, the fetches and the pinning, each by what of the BURST
it leaves (R147, R150, R246). -/

namespace Sys2Proof.Machine

/-- From s to t only the BURST in slot i changes, and nothing that p shows of it: `Stands` for any view of a BURST. -/
structure Still {β : Type} (p : Burst → β) (i : Nat) (s t : State) : Prop where
  of_wf : TabWf {} s.bursts → TabWf {} t.bursts ∧ p (burstOf t i) = p (burstOf s i)
    ∧ ∀ j, j ≠ i → burstOf t j = burstOf s j

namespace Still

variable {β : Type} {p : Burst → β} {i : Nat} {s t u : State}

theorem refl (p : Burst → β) (i : Nat) (s : State) : Still p i s s := ⟨fun h => ⟨h, rfl, fun _ _ => rfl⟩⟩

theorem trans (k : Still p i t u) (h : Still p i s t) : Still p i s u := ⟨fun w => by
  obtain ⟨w1, h1, o1⟩ := h.of_wf w
  obtain ⟨w2, h2, o2⟩ := k.of_wf w1
  exact ⟨w2, h2.trans h1, fun j hj => (o2 j hj).trans (o1 j hj)⟩⟩

theorem of_touch {ps : List Part} (k : Touch ps s t) (h : Part.bursts ∉ ps := by decide) : Still p i s t := ⟨fun w => by
  have e := burstOf_bursts (k.bursts h)
  exact ⟨by rw [k.bursts h]; exact w, by rw [e], fun j _ => e j⟩⟩

theorem modBurst (s : State) {f : Burst → Burst} (h : ∀ b, p (f b) = p b := by intro; rfl) :
    Still p i s (modBurst s i f) :=
  ⟨fun w => ⟨modBurst_wf w i f, by rw [burstOf_modBurst_same _ _ _ w, h], fun _ hj => burstOf_modBurst_other _ _ _ hj⟩⟩

theorem foldl {α : Type} {g : State → α → State} (k : ∀ u x, Still p i u (g u x)) (l : List α) (s : State) :
    Still p i s (l.foldl g s) := by
  induction l generalizing s with
  | nil => exact refl p i s
  | cons x l ih => exact (ih _).trans (k s x)

theorem ite {c : Prop} [Decidable c] (h : Still p i s t) (k : Still p i s u) : Still p i s (if c then t else u) := by
  split
  · exact h
  · exact k

/-- What shows less is still too. -/
theorem coarser {m : Burst → Burst} {q : Burst → β} (h : Still m i s t) (hq : ∀ b, q (m b) = q b := by intro; rfl) :
    Still q i s t := ⟨fun w => by
  obtain ⟨w1, h1, o1⟩ := h.of_wf w
  exact ⟨w1, by rw [← hq, h1, hq], o1⟩⟩

theorem wf (h : Still p i s t) (w : TabWf {} s.bursts) : TabWf {} t.bursts := (h.of_wf w).1

theorem shows (h : Still p i s t) (w : TabWf {} s.bursts) : p (burstOf t i) = p (burstOf s i) := (h.of_wf w).2.1

theorem other (h : Still p i s t) (w : TabWf {} s.bursts) {j : Nat} (hj : j ≠ i) : burstOf t j = burstOf s j :=
  (h.of_wf w).2.2 j hj

end Still

/-! Stream records. -/

/-- A BURST but for what the stream of its records keeps: the open runs, the records behind them, the records lost and
the JUNCTION record to come. -/
def unrecorded (b : Burst) : Burst := { b with runs := [], behind := [], dropped := [], junc := [] }

variable (s : State) (i : Nat)

theorem capPut_still (p : Nat) (rec : List Byte) : Still unrecorded i s (capPut s i p rec) := by
  unfold capPut
  dsimp only
  have h := Still.of_touch (p := unrecorded) (i := i) (queueWrite_touch s p 1 (some (timeAt (burstOf s i) p)) rec)
  exact Still.ite ((Still.modBurst _).trans h) h

theorem capRec_still (p : Nat) (rec : List Byte) : Still unrecorded i s (capRec s i p rec) :=
  Still.ite (Still.modBurst s) (Still.ite (capPut_still s i p rec) (Still.modBurst s))

theorem capAll_still (rec : State → Nat → List Byte) : Still unrecorded i s (capAll s i rec) :=
  Still.foldl (fun u p => capRec_still u i p _) _ s

theorem closeRun_still (p : Nat) : Still unrecorded i s (closeRun s i p) := by
  unfold closeRun
  refine Still.ite (Still.refl _ i s) ((Still.foldl (fun u x => capPut_still u i p x) _ _).trans
    ((Still.ite (Still.refl _ i _) (capPut_still ..)).trans (Still.modBurst s)))

theorem closeRuns_still : Still unrecorded i s (closeRuns s i) := Still.foldl (fun u p => closeRun_still u i p) _ s

theorem flushJunction_still : Still unrecorded i s (flushJunction s i) :=
  Still.ite (Still.refl _ i s) ((Still.modBurst _).trans (capAll_still ..))

theorem addFails_still (p : Nat) (mask : BitVec 64) (v : Nat) : Still unrecorded i s (addFails s i p mask v) :=
  Still.ite (closeRun_still s i p) (Still.ite (Still.modBurst s) ((Still.modBurst _).trans (closeRun_still s i p)))

theorem flipLayers_still (seg v : Nat) (t : Count) : Still unrecorded i s (flipLayers s i seg v t) := by
  refine Still.foldl (fun u e => ?_) _ s
  exact Still.ite (Still.refl _ i u) ((capRec_still ..).trans (Still.of_touch (modLayer_touch ..)))

/-! Fetches. -/

/-- A BURST but for its fetches on their way and those that wait for room. -/
def unfetched (b : Burst) : Burst := { b with issued := [], waiting := [] }

theorem issueNow_still (k : Slice) : Still unfetched i s (issueNow s i k) :=
  (Still.of_touch (touchPage_touch ..)).trans ((Still.of_touch (sendFetch_touch ..)).trans (Still.modBurst s))

theorem issueFetch_still (k : Slice) : Still unfetched i s (issueFetch s i k) :=
  Still.ite (Still.refl _ i s) (Still.ite (issueNow_still s i k) (Still.modBurst s))

theorem trackPath_still : Still unfetched i s (trackPath s i) := by
  refine Still.foldl (fun u e => ?_) _ s
  have h := (issueFetch_still (issueFetch u i (metaKey e.1 e.2 .desc)) i (metaKey e.1 e.2 .plan)).trans
    (issueFetch_still u i (metaKey e.1 e.2 .desc))
  dsimp only
  split
  · exact h
  · next d _ =>
    have h' := Still.ite (c := d.junction.isSome = true) ((issueFetch_still _ i (metaKey e.1 e.2 .junction)).trans h) h
    exact Still.ite h' ((issueFetch_still ..).trans h')

theorem issueGranules_still (ord seg lo hi : Nat) : Still unfetched i s (issueGranules s i ord seg lo hi) :=
  Still.foldl (fun u _ => Still.foldl (fun v k => issueFetch_still v i k) _ u) _ s

theorem issueBody_still (ord seg : Nat) : Still unfetched i s (issueBody s i ord seg) := issueGranules_still ..

/-- A BURST but for its fetches and what they have brought. -/
def uncached (b : Burst) : Burst := { b with issued := [], waiting := [], cache := [], lost := [] }

theorem dropSlices_still (p : Slice → Bool) : Still uncached i s (dropSlices s i p) := Still.modBurst s

end Sys2Proof.Machine
end
section
/-! PROOFS. Fetches and the start of a BURST (R147, R149 to R153, R165, R179). -/

namespace Sys2Proof.Machine

/-! The fetches that a BURST knows of (R149, R151). -/

/-- A fetch that a BURST knows of: brought, on its way, waiting for room, or one whose data never came. -/
def Known (b : Burst) (k : Slice) : Prop :=
  resident b k = true ∨ k ∈ b.issued ∨ k ∈ b.waiting ∨ b.lost.any (sameData k) = true

theorem issueNow_burst {s : State} (w : TabWf {} s.bursts) (i : Nat) (k : Slice) :
    burstOf (issueNow s i k) i = { burstOf s i with issued := (burstOf s i).issued ++ [k] } := by
  unfold issueNow
  rw [burstOf_bursts (touchPage_touch ..).bursts, burstOf_bursts (sendFetch_touch ..).bursts, burstOf_modBurst_same _ _ _ w]

/-- A fetch that has been asked for is known, and every other is known as before. -/
theorem issueFetch_knows {s : State} (w : TabWf {} s.bursts) (i : Nat) (k : Slice) :
    Known (burstOf (issueFetch s i k) i) k
      ∧ ∀ l, Known (burstOf s i) l → Known (burstOf (issueFetch s i k) i) l := by
  unfold issueFetch
  dsimp only
  split
  · next h => exact ⟨by simpa [Known] using h, fun _ hl => hl⟩
  · split
    · rw [issueNow_burst w]
      refine ⟨.inr (.inl (by simp)), fun l hl => ?_⟩
      rcases hl with h | h | h
      · exact .inl h
      · exact .inr (.inl (List.mem_append_left _ h))
      · exact .inr (.inr h)
    · rw [burstOf_modBurst_same _ _ _ w]
      have queued : ∀ l, l = k ∨ l ∈ (burstOf s i).waiting → l ∈ (if isMeta k = true then
          (burstOf s i).waiting.takeWhile isMeta ++ k :: (burstOf s i).waiting.dropWhile isMeta
          else (burstOf s i).waiting ++ [k]) := fun l h => by
        rw [← List.takeWhile_append_dropWhile (p := isMeta) (l := (burstOf s i).waiting)] at h
        split
        · simp only [List.mem_append, List.mem_cons] at h ⊢; tauto
        · rw [List.takeWhile_append_dropWhile] at h; simpa [or_comm] using h
      refine ⟨.inr (.inr (.inl (queued k (.inl rfl)))), fun l hl => ?_⟩
      rcases hl with h | h | h | h
      · exact .inl h
      · exact .inr (.inl h)
      · exact .inr (.inr (.inl (queued l (.inr h))))
      · exact .inr (.inr (.inr h))

/-- The BURSTs stand in canonical form. -/
def BurstsWf (s : State) : Prop := TabWf {} s.bursts

/-- Every fetch of a list that has been asked for is known. -/
theorem issueFetches_know (i : Nat) (ks : List Slice) {s : State} (w : BurstsWf s) {k : Slice} (h : k ∈ ks) :
    Known (burstOf (ks.foldl (fun s k => issueFetch s i k) s) i) k :=
  (foldl_each (W := BurstsWf) (I := fun k s => Known (burstOf s i) k) (fun u x => ⟨(issueFetch_still u i x).wf⟩)
    (fun _ x wu => (issueFetch_knows wu i x).1) (fun _ x y wu hy => (issueFetch_knows wu i x).2 y hy) ks w).2 k (.inr h)

theorem issueGranules_know {s : State} (w : TabWf {} s.bursts) (i ord seg : Nat) {hi g : Nat} (hg : g < hi) {k : Slice}
    (hk : k ∈ granuleKeys (burstImg s (burstOf s i)) (burstOf s i) ord seg g) :
    Known (burstOf (issueGranules s i ord seg 0 hi) i) k := by
  unfold issueGranules
  dsimp only
  rw [← List.foldl_flatMap]
  exact issueFetches_know i _ w (List.mem_flatMap.2 ⟨g, by simpa using hg, hk⟩)

/-- The opening granules are asked for, whether or not the whole segment is (R152). -/
theorem issueBody_knows {s : State} (w : TabWf {} s.bursts) (i ord seg : Nat) {g : Nat} {k : Slice}
    (hg : g < opening (descIn (burstImg s (burstOf s i)) seg))
    (hk : k ∈ granuleKeys (burstImg s (burstOf s i)) (burstOf s i) ord seg g) :
    Known (burstOf (issueBody s i ord seg) i) k := by
  refine issueGranules_know w i ord seg ?_ hk
  split
  · exact hg.trans_le (Nat.min_le_right _ _)
  · exact hg

/-! SEGMENT_FETCH_ISSUE (R151, R167). -/

/-- Has the time come for a tracked segment's body fetches? -/
def fetchDue (s : State) (i ord seg : Nat) : Prop :=
  inFlight (slotOf s i) = true ∧ (burstOf s i).phase ≠ .pinning
    ∧ (ord, seg) ∈ tracked (burstImg s (burstOf s i)) (burstOf s i)
    ∧ resident (burstOf s i) (metaKey ord seg .desc) = true
    ∧ (resident (burstOf s i) (metaKey ord seg .plan) = false
      ∨ distTo (burstImg s (burstOf s i)) (burstOf s i) ord ≤ 64 * leadIn (burstImg s (burstOf s i)) seg)
    ∧ bodyIssued (burstOf s i) ord seg = false

section
variable {s : State} {i ord seg : Nat}

theorem segmentFetchIssue_idle (h : ¬ fetchDue s i ord seg) : Idle (.segmentFetchIssue i ord seg) s :=
  if_neg (by simpa [fetchDue] using h)

theorem segmentFetchIssue_issues (h : fetchDue s i ord seg) (w : TabWf {} s.bursts) :
    Completes (.segmentFetchIssue i ord seg) s [.pebs, .bursts, .fabric] fun t =>
      (∀ j, j ≠ i → burstOf t j = burstOf s j)
        ∧ ∀ g, g < opening (descIn (burstImg s (burstOf s i)) seg) →
          ∀ k, k ∈ granuleKeys (burstImg s (burstOf s i)) (burstOf s i) ord seg g → Known (burstOf t i) k :=
  Completes.of_next (if_pos (by simpa [fetchDue] using h))
    ⟨fun _ hj => (issueBody_still s i ord seg).other w hj, fun _ hg _ hk => issueBody_knows w i ord seg hg hk⟩
    (execSegmentFetchIssue_touch ..)

end

/-! FETCH_RESIDENT (R149, R165): what a fetch reads does not rest on the fetches that are on their way. -/

theorem pathFrom_issued (img : List Byte) (b : Burst) (ks : List Slice) (n ord seg : Nat) :
    pathFrom img { b with issued := ks } n ord seg = pathFrom img b n ord seg := by
  induction n generalizing ord seg with
  | zero => rfl
  | succ n ih =>
    have e : pathNext img { b with issued := ks } ord seg = pathNext img b ord seg := rfl
    unfold pathFrom
    rw [e]
    cases pathNext img b ord seg with
    | none => rfl
    | some nx => exact congrArg _ (ih ..)

theorem pageWhen_issued (s : State) (b : Burst) (ks : List Slice) (p l ord seg : Nat) :
    pageWhen s { b with issued := ks } p l ord seg = pageWhen s b p l ord seg := by
  have e : ∀ img, knownPath img { b with issued := ks } = knownPath img b := fun img => pathFrom_issued ..
  unfold pageWhen flipsAhead
  rw [e]
  rfl

theorem sliceRanges_issued (s : State) (b : Burst) (ks : List Slice) (k : Slice) :
    sliceRanges s { b with issued := ks } k = sliceRanges s b k := by
  have e : ∀ p l, ovlPage s { b with issued := ks } k p l = ovlPage s b k p l := fun p l => by
    unfold ovlPage
    rw [pageWhen_issued]
  unfold sliceRanges
  simp only [e]
  rfl

section
variable (s : State) (i : Nat) (k : Slice)

/-- The fetch of a slice is on its way no more. -/
def fetchOver : State := modBurst s i fun b => { b with issued := b.issued.erase k }

variable {s}

theorem fetchOver_burst (w : TabWf {} s.bursts) :
    burstOf (fetchOver s i k) i = { burstOf s i with issued := (burstOf s i).issued.erase k } :=
  burstOf_modBurst_same _ _ _ w

theorem fetchOver_wf (w : TabWf {} s.bursts) : TabWf {} (fetchOver s i k).bursts := modBurst_wf w _ _

theorem fetchOver_other {j : Nat} (hj : j ≠ i) : burstOf (fetchOver s i k) j = burstOf s j :=
  burstOf_modBurst_other _ _ _ hj

theorem fetchDead_fetchOver (w : TabWf {} s.bursts) : fetchDead (fetchOver s i k) i k = fetchDead s i k := by
  unfold fetchDead
  rw [fetchOver_burst i k w, sliceRanges_issued]
  rfl

end

/-- What a fetch brings: nothing where it was answered UNREACHABLE or cannot be read. -/
def brought (s : State) (i : Nat) (k : Slice) (rem : Remote) : Option (List Byte) :=
  if fetchDead s i k = true then none else fetchBytes s rem (burstOf s i) k

section
variable {s : State} {i : Nat} {k : Slice} {rem : Remote}

theorem fetchResident_idle (h : k ∉ (burstOf s i).issued) : Idle (.fetchResident i k rem) s :=
  if_neg (by simpa using h)

variable (hk : k ∈ (burstOf s i).issued) (w : TabWf {} s.bursts)
include hk w

/-- A fetch on its way ends: lost, a misuse, or with its bytes (R130, R149, R165). -/
theorem fetchResident_ends : exec (.fetchResident i k rem) s =
    match brought s i k rem with
    | none => .next (modBurst (fetchOver s i k) i fun b => { b with lost := b.lost ++ [k] })
    | some bs =>
      match (if isMeta k then metaMisuse (burstImg s (burstOf s i)) k bs else none) with
      | some f => .fault f
      | none =>
        match k.kind with
        | .pin =>
          .next (settlePins (modBurst (fetchOver s i k) i fun b =>
            { b with pinned := tset [] b.pinned k.seg bs, pinLeft := b.pinLeft.erase k.seg }))
        | .cover =>
          let u := modBurst (fetchOver s i k) i fun b => { b with cache := b.cache ++ [(k, bs)] }
          .next (if bodyIssued (burstOf s i) k.ord k.seg then issueBody u i k.ord k.seg else u)
        | _ => .next (trackPath (modBurst (fetchOver s i k) i fun b => { b with cache := b.cache ++ [(k, bs)] }) i) := by
  have e : brought s i k rem
      = if fetchDead (fetchOver s i k) i k then none else fetchBytes (fetchOver s i k) rem (burstOf s i) k := by
    rw [fetchDead_fetchOver i k w]
    rfl
  rw [e]
  exact if_pos (by simpa using hk)

theorem fetchResident_lost (hg : brought s i k rem = none) : Completes (.fetchResident i k rem) s [.bursts] fun t =>
    burstOf t i = { burstOf s i with
        issued := (burstOf s i).issued.erase k, lost := (burstOf s i).lost ++ [k] }
      ∧ ∀ j, j ≠ i → burstOf t j = burstOf s j := by
  have e := fetchResident_ends (rem := rem) hk w
  rw [hg] at e
  refine ⟨_, e, ⟨?_, fun j hj => ?_⟩, (modBurst_touch ..).trans (modBurst_touch ..)⟩
  · rw [burstOf_modBurst_same _ _ _ (fetchOver_wf i k w), fetchOver_burst i k w]
  · rw [burstOf_modBurst_other _ _ _ hj, fetchOver_other i k hj]

variable {bs : List Byte} (hb : brought s i k rem = some bs)
include hb

theorem fetchResident_misuse {f : Fault} (hm : isMeta k = true)
    (hf : metaMisuse (burstImg s (burstOf s i)) k bs = some f) : Misuses (.fetchResident i k rem) s f := by
  have e := fetchResident_ends (rem := rem) hk w
  rw [hb] at e
  simpa [Misuses, hm, hf] using e

/-- Bytes of a slice enter the cache; further fetches may go out (R151, R165). -/
theorem fetchResident_caches (hm : isMeta k = false ∨ metaMisuse (burstImg s (burstOf s i)) k bs = none)
    (hp : k.kind ≠ .pin) : Completes (.fetchResident i k rem) s [.pebs, .bursts, .fabric] fun t =>
      (burstOf t i).cache = (burstOf s i).cache ++ [(k, bs)] ∧ ∀ j, j ≠ i → burstOf t j = burstOf s j := by
  have legal : (if isMeta k then metaMisuse (burstImg s (burstOf s i)) k bs else none) = none := by
    rcases hm with h | h <;> simp [h]
  generalize hu : modBurst (fetchOver s i k) i (fun b => { b with cache := b.cache ++ [(k, bs)] }) = u
  have cached : (burstOf u i).cache = (burstOf s i).cache ++ [(k, bs)] := by
    rw [← hu, burstOf_modBurst_same _ _ _ (fetchOver_wf i k w), fetchOver_burst i k w]
  have wu : TabWf {} u.bursts := hu ▸ modBurst_wf (fetchOver_wf i k w) _ _
  have other : ∀ j, j ≠ i → burstOf u j = burstOf s j := fun j hj => by
    rw [← hu, burstOf_modBurst_other _ _ _ hj, fetchOver_other i k hj]
  have runs : ∃ t, exec (.fetchResident i k rem) s = .next t ∧ Still unfetched i u t := by
    have e := fetchResident_ends (rem := rem) hk w
    simp only [hb, legal, hu] at e
    split at e
    · next h => exact absurd h hp
    · exact ⟨_, e, Still.ite (issueBody_still ..) (Still.refl _ i u)⟩
    · exact ⟨_, e, trackPath_still u i⟩
  obtain ⟨t, e, still⟩ := runs
  refine Completes.of_next e ⟨?_, fun j hj => (still.other wu hj).trans (other j hj)⟩ (execFetchResident_touch ..)
  exact ((still.coarser (q := Burst.cache)).shows wu).trans cached

end

/-! Pinning goes on (R147, R150). -/

/-- The bodies pinned stay, and those left to load are the last of those that were. -/
def Unpins (b c : Burst) : Prop := c.pinned = b.pinned ∧ ∃ n, c.pinLeft = b.pinLeft.drop n

theorem Unpins.of_eq {b c : Burst} (hp : c.pinned = b.pinned) (hl : c.pinLeft = b.pinLeft) : Unpins b c := ⟨hp, 0, hl⟩

theorem Unpins.trans {b c d : Burst} (k : Unpins c d) (h : Unpins b c) : Unpins b d := by
  obtain ⟨k1, n, k2⟩ := k
  obtain ⟨h1, m, h2⟩ := h
  exact ⟨k1.trans h1, m + n, by rw [k2, h2, List.drop_drop]⟩

theorem modBurst_unpins {s : State} (w : TabWf {} s.bursts) (i : Nat) {f : Burst → Burst}
    (h : Unpins (burstOf s i) (f (burstOf s i))) (j : Nat) : Unpins (burstOf s j) (burstOf (modBurst s i f) j) := by
  by_cases hj : j = i
  · subst hj; rw [burstOf_modBurst_same _ _ _ w]; exact h
  · rw [burstOf_modBurst_other _ _ _ hj]; exact .of_eq rfl rfl

theorem Still.unpins {i : Nat} {s t : State} (h : Still unfetched i s t) (w : TabWf {} s.bursts) (j : Nat) :
    Unpins (burstOf s j) (burstOf t j) := by
  by_cases hj : j = i
  · subst hj
    have e := (h.coarser (q := fun b => (b.pinned, b.pinLeft))).shows w
    exact .of_eq (congrArg Prod.fst e) (congrArg Prod.snd e)
  · rw [h.other w hj]; exact .of_eq rfl rfl

theorem nextPin_unpins {s : State} (i n : Nat) (w : TabWf {} s.bursts) :
    TabWf {} (nextPin n s i).bursts ∧ ∀ j, Unpins (burstOf s j) (burstOf (nextPin n s i) j) := by
  induction n generalizing s with
  | zero => exact ⟨w, fun _ => .of_eq rfl rfl⟩
  | succ n ih =>
    have step : ∀ {f : Burst → Burst}, Unpins (burstOf s i) (f (burstOf s i)) → ∀ {t}, TabWf {} t.bursts ∧
        (∀ j, Unpins (burstOf (modBurst s i f) j) (burstOf t j)) →
        TabWf {} t.bursts ∧ ∀ j, Unpins (burstOf s j) (burstOf t j) :=
      fun hf _ ht => ⟨ht.1, fun j => (ht.2 j).trans (modBurst_unpins w i hf j)⟩
    have still : ∀ {f : Burst → Burst} {t}, Still unfetched i (modBurst s i f) t → TabWf {} t.bursts ∧
        ∀ j, Unpins (burstOf (modBurst s i f) j) (burstOf t j) :=
      fun h => ⟨h.wf (modBurst_wf w _ _), h.unpins (modBurst_wf w _ _)⟩
    unfold nextPin
    dsimp only
    split
    · exact step (.of_eq rfl rfl) (still (trackPath_still ..))
    · next g rest hl =>
      split
      · split
        · exact step (.of_eq rfl rfl) (still (Still.of_touch (sendFetch_touch ..)))
        · exact ⟨w, fun _ => .of_eq rfl rfl⟩
      · exact step ⟨rfl, 1, by rw [hl]; rfl⟩ (ih (modBurst_wf w _ _))

theorem settlePinsGo_unpins (n : Nat) {s : State} (w : TabWf {} s.bursts) (j : Nat) :
    Unpins (burstOf s j) (burstOf (settlePinsGo n s) j) := by
  induction n generalizing s with
  | zero => exact .of_eq rfl rfl
  | succ n ih =>
    unfold settlePinsGo
    split
    · exact .of_eq rfl rfl
    · next i _ =>
      obtain ⟨w', once⟩ := nextPin_unpins i ((burstOf s i).pinLeft.length + 1) w
      split
      · exact .of_eq rfl rfl
      · dsimp only
        split
        · exact once j
        · exact (ih w').trans (once j)

theorem settlePins_unpins {s : State} (w : TabWf {} s.bursts) (j : Nat) :
    Unpins (burstOf s j) (burstOf (settlePins s) j) := settlePinsGo_unpins _ w j

/-- A BURST that does not wait for its turn to pin is left as it is. -/
theorem settlePins_keeps {s : State} (w : TabWf {} s.bursts) {j : Nat} (h : (burstOf s j).phase ≠ .pinning) :
    burstOf (settlePins s) j = burstOf s j := (settlePins_pinsOn w j).resolve_right fun p => h p.1

theorem settlePins_other {s u : State} (w : TabWf {} u.bursts) {j : Nat} (e : burstOf u j = burstOf s j)
    (h : (burstOf s j).phase ≠ .pinning) : burstOf (settlePins u) j = burstOf s j :=
  (settlePins_keeps w (by rw [e]; exact h)).trans e

theorem settlePins_none {s : State} (w : TabWf {} s.bursts) (h : ∀ j, (burstOf s j).phase ≠ .pinning) :
    settlePins s = s := by
  have e : pinTurn s = none := by
    cases hi : pinTurn s with
    | none => rfl
    | some i => exact absurd (pinTurn_pinning w hi) (h i)
  unfold settlePins settlePinsGo
  rw [e]

section
variable {s : State} {i : Nat} {k : Slice} {rem : Remote} {bs : List Byte}

/-- A body that has come is pinned, and the pinning goes on (R147). -/
theorem fetchResident_pins (hk : k ∈ (burstOf s i).issued) (w : TabWf {} s.bursts)
    (hb : brought s i k rem = some bs) (hp : k.kind = .pin) :
    Completes (.fetchResident i k rem) s [.pebs, .bursts, .fabric] fun t =>
      (burstOf t i).pinned = tset [] (burstOf s i).pinned k.seg bs
        ∧ ∀ j, j ≠ i → (burstOf s j).phase ≠ .pinning → burstOf t j = burstOf s j := by
  have e := fetchResident_ends (rem := rem) hk w
  simp only [hb, isMeta, hp, Bool.false_eq_true, if_false] at e
  have wu := modBurst_wf (fetchOver_wf i k w) i fun b =>
    { b with pinned := tset [] b.pinned k.seg bs, pinLeft := b.pinLeft.erase k.seg }
  refine Completes.of_next e ⟨?_, fun j hj hf => ?_⟩ (execFetchResident_touch ..)
  · rw [(settlePins_unpins wu i).1, burstOf_modBurst_same _ _ _ (fetchOver_wf i k w), fetchOver_burst i k w]
  · exact settlePins_other wu ((burstOf_modBurst_other _ _ _ hj).trans (fetchOver_other i k hj)) hf

/-! PIN_BODY_ABANDONED (R147). -/

theorem pinBodyAbandoned_idle {seg : Nat} (h : ¬ ((burstOf s i).phase = .pinning
    ∧ (burstOf s i).pinLeft.head? = some seg ∧ pinFetching (burstOf s i) = true)) : Idle (.pinBodyAbandoned i seg) s :=
  if_neg h

theorem pinBodyAbandoned_goesOn {seg : Nat} (h : (burstOf s i).phase = .pinning
    ∧ (burstOf s i).pinLeft.head? = some seg ∧ pinFetching (burstOf s i) = true) (w : TabWf {} s.bursts) :
    Completes (.pinBodyAbandoned i seg) s [.pebs, .bursts, .fabric] fun t =>
      (burstOf t i).pinned = (burstOf s i).pinned ∧ (∃ n, (burstOf t i).pinLeft = (burstOf s i).pinLeft.tail.drop n)
        ∧ ∀ j, j ≠ i → (burstOf s j).phase ≠ .pinning → burstOf t j = burstOf s j := by
  generalize hu : modBurst (dropSlices s i fun k => k = metaKey 0 seg .pin) i
    (fun b => { b with pinLeft := b.pinLeft.tail }) = u
  have d := dropSlices_still s i fun k => k = metaKey 0 seg .pin
  have wu : TabWf {} u.bursts := hu ▸ modBurst_wf (d.wf w) _ _
  have own := (d.coarser (q := fun b => (b.pinned, b.pinLeft.tail))).shows w
  have ei : (burstOf u i).pinned = (burstOf s i).pinned ∧ (burstOf u i).pinLeft = (burstOf s i).pinLeft.tail := by
    rw [← hu, burstOf_modBurst_same _ _ _ (d.wf w)]
    exact Prod.mk.inj own
  have other : ∀ j, j ≠ i → burstOf u j = burstOf s j := fun j hj => by
    rw [← hu, burstOf_modBurst_other _ _ _ hj, d.other w hj]
  obtain ⟨hp, n, hl⟩ := settlePins_unpins wu i
  refine Completes.of_next ((if_pos h).trans (by rw [← hu])) ⟨hp.trans ei.1, ⟨n, hl.trans (by rw [ei.2])⟩,
    fun j hj => settlePins_other wu (other j hj)⟩ (execPinBodyAbandoned_touch ..)

end

/-! STREAMING_ROOM_FREED (R150). -/

/-- A fetch that waits goes out. -/
def admitOne (s : State) (i : Nat) (k : Slice) (rest : List Slice) : State :=
  issueNow (modBurst s i fun b => { b with waiting := rest }) i k

theorem admitOne_burst {s : State} (w : TabWf {} s.bursts) (i : Nat) (k : Slice) (rest : List Slice) :
    burstOf (admitOne s i k rest) i
      = { burstOf s i with waiting := rest, issued := (burstOf s i).issued ++ [k] } := by
  unfold admitOne
  rw [issueNow_burst (modBurst_wf w _ _), burstOf_modBurst_same _ _ _ w]

theorem admitOne_still (s : State) (i : Nat) (k : Slice) (rest : List Slice) : Still unfetched i s (admitOne s i k rest) :=
  (issueNow_still ..).trans (Still.modBurst s)

theorem admitOne_touch (s : State) (i : Nat) (k : Slice) (rest : List Slice) :
    Touch [.pebs, .bursts, .fabric] s (admitOne s i k rest) :=
  (issueNow_touch ..).trans ((modBurst_touch ..).mono (by decide))

theorem admitOne_img {s : State} (w : TabWf {} s.bursts) (i : Nat) (k : Slice) (rest : List Slice) :
    burstImg (admitOne s i k rest) (burstOf (admitOne s i k rest) i) = burstImg s (burstOf s i) := by
  rw [admitOne_burst w]
  unfold burstImg schedOf
  rw [(admitOne_touch ..).cfg]

section
variable {n : Nat} {s : State} {i : Nat} {k : Slice} {rest : List Slice}

theorem admitWaiting_none (h : (burstOf s i).waiting = []) : admitWaiting (n + 1) s i = s := by
  unfold admitWaiting
  rw [h]

variable (h : (burstOf s i).waiting = k :: rest)
include h

theorem admitWaiting_room (hr : roomFor s (sliceSize (burstImg s (burstOf s i)) k) = true) :
    admitWaiting (n + 1) s i = admitWaiting n (admitOne s i k rest) i := by
  conv_lhs => unfold admitWaiting
  rw [h]
  exact if_pos hr

theorem admitWaiting_full (hr : roomFor s (sliceSize (burstImg s (burstOf s i)) k) = false) :
    admitWaiting (n + 1) s i = s := by
  unfold admitWaiting
  rw [h]
  exact if_neg (by simp [hr])

end

theorem admitWaiting_still (n : Nat) (s : State) (i : Nat) : Still unfetched i s (admitWaiting n s i) := by
  induction n generalizing s with
  | zero => exact Still.refl _ i s
  | succ n ih =>
    rcases hw : (burstOf s i).waiting with _ | ⟨k, rest⟩
    · rw [admitWaiting_none hw]; exact Still.refl _ i s
    · cases hr : roomFor s (sliceSize (burstImg s (burstOf s i)) k) with
      | true => rw [admitWaiting_room hw hr]; exact (ih _).trans (admitOne_still s i k rest)
      | false => rw [admitWaiting_full hw hr]; exact Still.refl _ i s

/-- The first of the waiting fetches go out, in order. -/
theorem admitWaiting_admits (n : Nat) {s : State} (w : TabWf {} s.bursts) (i : Nat) :
    ∃ m, (burstOf (admitWaiting n s i) i).waiting = (burstOf s i).waiting.drop m
      ∧ (burstOf (admitWaiting n s i) i).issued = (burstOf s i).issued ++ (burstOf s i).waiting.take m := by
  induction n generalizing s with
  | zero => exact ⟨0, rfl, by simp [admitWaiting]⟩
  | succ n ih =>
    rcases hw : (burstOf s i).waiting with _ | ⟨k, rest⟩
    · rw [admitWaiting_none hw]; exact ⟨0, hw, by simp⟩
    · cases hr : roomFor s (sliceSize (burstImg s (burstOf s i)) k) with
      | true =>
        obtain ⟨m, h1, h2⟩ := ih ((admitOne_still s i k rest).wf w)
        rw [admitOne_burst w] at h1 h2
        rw [admitWaiting_room hw hr]
        exact ⟨m + 1, h1, by simpa using h2⟩
      | false => rw [admitWaiting_full hw hr]; exact ⟨0, hw, by simp⟩

/-- Where one still waits, there is no room for it. -/
theorem admitWaiting_fills {n : Nat} {s : State} (w : TabWf {} s.bursts) {i : Nat} (hn : (burstOf s i).waiting.length ≤ n)
    {k : Slice} {rest : List Slice} (h : (burstOf (admitWaiting n s i) i).waiting = k :: rest) :
    roomFor (admitWaiting n s i) (sliceSize (burstImg s (burstOf s i)) k) = false := by
  induction n generalizing s with
  | zero => simp [show (burstOf s i).waiting = k :: rest from h] at hn
  | succ n ih =>
    rcases hw : (burstOf s i).waiting with _ | ⟨l, ls⟩
    · rw [admitWaiting_none hw, hw] at h
      cases h
    · cases hr : roomFor s (sliceSize (burstImg s (burstOf s i)) l) with
      | true =>
        rw [admitWaiting_room hw hr] at h ⊢
        rw [← admitOne_img w i l ls]
        refine ih ((admitOne_still s i l ls).wf w) ?_ h
        rw [admitOne_burst w]
        rw [hw] at hn
        simpa using hn
      | false =>
        rw [admitWaiting_full hw hr] at h ⊢
        rw [hw] at h
        cases h
        exact hr

section
variable {s : State} (i : Nat)

theorem streamingRoomFreed_admits (w : TabWf {} s.bursts) :
    Completes (.streamingRoomFreed i) s [.pebs, .bursts, .fabric] fun t =>
      ((burstOf s i).phase ≠ .pinning → ∃ n, (burstOf t i).waiting = (burstOf s i).waiting.drop n
          ∧ (burstOf t i).issued = (burstOf s i).issued ++ (burstOf s i).waiting.take n)
        ∧ ((∀ j, (burstOf s j).phase ≠ .pinning) → ∀ k rest, (burstOf t i).waiting = k :: rest →
          roomFor t (sliceSize (burstImg s (burstOf s i)) k) = false)
        ∧ ∀ j, j ≠ i → (burstOf s j).phase ≠ .pinning → burstOf t j = burstOf s j := by
  refine Completes.of_next rfl ?_ (execStreamingRoomFreed_touch ..)
  have still := admitWaiting_still (burstOf s i).waiting.length s i
  have admits := admitWaiting_admits (burstOf s i).waiting.length w i
  have fills := fun k rest => admitWaiting_fills (k := k) (rest := rest) w (le_refl (burstOf s i).waiting.length)
  generalize admitWaiting (burstOf s i).waiting.length s i = u at still admits fills
  have wu := still.wf w
  have ph : ∀ j, (burstOf u j).phase = (burstOf s j).phase := fun j => by
    by_cases hj : j = i
    · subst hj; exact (still.coarser (q := Burst.phase)).shows w
    · rw [still.other w hj]
  refine ⟨fun hp => ?_, fun hp => ?_, fun j hj => settlePins_other wu (still.other w hj)⟩
  · rw [settlePins_keeps wu (by rw [ph]; exact hp)]
    exact admits
  · rw [settlePins_none wu fun j => by rw [ph]; exact hp j]
    exact fills

end

/-! BURST_START (R153, R179). -/

/-- Play begins: but for what the records keep, the BURST is as it was, from its reference instant on. -/
theorem beginBurst_still (s : State) (i : Nat) (t : Count) (fine : Nat) : Still unrecorded i
    (modBurst (modSlot s i fun l => { l with armed := false }) i fun b =>
      { b with phase := .playing, begun := true, tRef := t, tZero := t, tLast := t, fine := fine })
    (beginBurst s i t fine) := (flipLayers_still ..).trans (capAll_still ..)

theorem beginBurst_burst {s : State} (w : TabWf {} s.bursts) (i : Nat) (t : Count) (fine : Nat) :
    (burstOf (beginBurst s i t fine) i).phase = .playing ∧ (burstOf (beginBurst s i t fine) i).tRef = t
      ∧ (burstOf (beginBurst s i t fine) i).tZero = t ∧ (burstOf (beginBurst s i t fine) i).begun = true
      ∧ (burstOf (beginBurst s i t fine) i).vec = (burstOf s i).vec
      ∧ ∀ j, j ≠ i → burstOf (beginBurst s i t fine) j = burstOf s j := by
  have still := beginBurst_still s i t fine
  have ws : TabWf {} (modSlot s i fun l => { l with armed := false }).bursts := w
  have e := (still.coarser (q := fun b => (b.phase, b.tRef, b.tZero, b.begun, b.vec))).shows (modBurst_wf ws _ _)
  rw [burstOf_modBurst_same _ _ _ ws] at e
  simp only [Prod.mk.injEq] at e
  obtain ⟨h1, h2, h3, h4, h5⟩ := e
  exact ⟨h1, h2, h3, h4, h5, fun j hj =>
    (still.other (modBurst_wf ws _ _) hj).trans (burstOf_modBurst_other _ _ _ hj)⟩

/-- May a BURST start: in flight, its metadata fetched, the opening granules of ENTRY resident (R153)? -/
def startReady (s : State) (i : Nat) : Prop :=
  (slotOf s i).st = .inFlight ∧ (burstOf s i).phase = .fetching
    ∧ openingReady s (burstOf s i) 0 (burstOf s i).entry = true

section
variable {s : State} {i : Nat}

theorem burstStart_idle (h : ¬ startReady s i) : Idle (.burstStart i) s := if_neg h

variable (h : startReady s i)
include h

theorem burstStart_arms (ha : pStartAt (slotOf s i).msg = true)
    (hc : countPast (stamp s) (pStartTime (slotOf s i).msg) = false) (w : TabWf {} s.bursts) (wl : TabWf {} s.ledger) :
    Completes (.burstStart i) s [.ledger, .bursts] fun t =>
      (slotOf t i).armed = true ∧ burstOf t i = { burstOf s i with phase := .armed } := by
  refine ⟨modBurst (modSlot s i fun l => { l with armed := true }) i fun b => { b with phase := .armed }, ?_, ⟨?_, ?_⟩, ?_⟩
  · exact (if_pos h).trans ((if_pos ha).trans (if_neg (by simp [hc])))
  · rw [slotOf_ledger (modBurst_touch ..).ledger, slotOf_modSlot_same _ _ _ wl]
  · exact burstOf_modBurst_same _ _ _ w
  · exact (modBurst_touch ..).app (by decide) ((modSlot_touch ..).mono (by decide))

theorem burstStart_plays (ha : pStartAt (slotOf s i).msg = false) (w : TabWf {} s.bursts) :
    Completes (.burstStart i) s [.ledger, .pebs, .bursts, .queues] fun t =>
      (burstOf t i).phase = .playing ∧ (burstOf t i).tRef = stamp s ∧ (burstOf t i).tZero = stamp s
        ∧ (burstOf t i).begun = true ∧ (burstOf t i).vec = (burstOf s i).vec ∧ ∀ j, j ≠ i → burstOf t j = burstOf s j :=
  Completes.of_next ((if_pos h).trans (if_neg (by simp [ha]))) (beginBurst_burst w i _ 0) (execBurstStart_touch ..)

/-- A START_TIME that has passed is flagged; play begins at once where the clock and the sync allow it (R52, R179). -/
theorem burstStart_late (ha : pStartAt (slotOf s i).msg = true)
    (hc : countPast (stamp s) (pStartTime (slotOf s i).msg) = true) (w : TabWf {} s.bursts) (wl : TabWf {} s.ledger) :
    Completes (.burstStart i) s [.ledger, .pebs, .bursts, .queues] fun t =>
      (burstOf t i).phase = (if syncReady s (slotOf s i) ∧ s.clock.locked = true then .playing else .armed)
        ∧ (slotOf t i).flags.getLsbD 2 = true := by
  have flagged : ∀ l : Slot, (flagSlot fTimePast l).flags.getLsbD 2 = true := fun l => by simp [flagSlot, fTimePast]
  by_cases hs : syncReady s (slotOf s i) = true ∧ s.clock.locked = true
  · refine Completes.of_next ((if_pos h).trans ((if_pos ha).trans ((if_pos hc).trans (if_pos hs)))) ⟨?_, ?_⟩
      (execBurstStart_touch ..)
    · rw [if_pos hs]
      exact (beginBurst_burst (s := modSlot s i (flagSlot fTimePast)) w i _ 0).1
    · rw [beginBurst_slot (modSlot_wf wl _ _), slotOf_modSlot_same _ _ _ wl]
      exact flagged _
  · refine Completes.of_next ((if_pos h).trans ((if_pos ha).trans ((if_pos hc).trans (if_neg hs)))) ⟨?_, ?_⟩
      (execBurstStart_touch ..)
    · rw [if_neg hs, burstOf_modBurst_same _ _ _ (by exact w)]
    · rw [slotOf_ledger (modBurst_touch ..).ledger, slotOf_modSlot_same _ _ _ wl]
      exact flagged _

end

/-- Settles O51: each command by its own lemmas above; `Still` says which BURST it changes. -/
theorem burstsFetchAndStart : Obligations.BurstsFetchAndStart := by
  unfold Obligations.BurstsFetchAndStart
  intro i s w wl
  refine ⟨fun ord seg => ⟨segmentFetchIssue_idle, fun h => segmentFetchIssue_issues h w⟩,
    fun k rem => ⟨fetchResident_idle, fun hk => fetchResident_lost hk w, fun hk bs hb =>
      ⟨fun f => fetchResident_misuse hk w hb, fetchResident_caches hk w hb, fetchResident_pins hk w hb⟩⟩,
    fun seg => ⟨pinBodyAbandoned_idle, fun h1 h2 h3 => pinBodyAbandoned_goesOn ⟨h1, h2, h3⟩ w⟩,
    streamingRoomFreed_admits i w, burstStart_idle, fun h ha hc => burstStart_arms h ha hc w wl,
    fun h ha => burstStart_plays h ha w, fun h ha hc => burstStart_late h ha hc w wl⟩

end Sys2Proof.Machine
end
section
/-! PROOFS. A vector at the pins and its underruns (R154, R165, R171 to R174, R248). -/

namespace Sys2Proof.Machine

theorem Still.ite_then {β : Type} {p : Burst → β} {i : Nat} {s t u : State} {c : Prop} [Decidable c] (h : Still p i s t)
    (k : Still p i t u) : Still p i s (if c then u else t) := Still.ite (k.trans h) h

theorem Still.ite_else {β : Type} {p : Burst → β} {i : Nat} {s t u : State} {c : Prop} [Decidable c] (h : Still p i s t)
    (k : Still p i t u) : Still p i s (if c then t else u) := Still.ite h (k.trans h)

/-! Underruns (R165, R166). -/

theorem getLsbD_putBit {w : Nat} (x : BitVec w) (i j : Nat) :
    (putBit x i true).getLsbD j = (x.getLsbD j || decide (j = i ∧ j < w)) := by
  by_cases h : j < w
  · by_cases e : j = i
    · subst e; simp [putBit, h]
    · have : ¬ (j - i = 0 ∧ i ≤ j) := by omega
      simp [putBit, h, e]
      omega
  · simp [putBit, h, BitVec.getLsbD_of_ge _ _ (Nat.le_of_not_lt h)]

/-- Every lane group of a list is marked, and those marked stay marked. -/
theorem marks_getLsbD {w : Nat} (ls : List (Nat × Nat)) (x : BitVec w) (j : Nat) :
    (ls.foldl (fun m e => putBit m e.1 true) x).getLsbD j
      = (x.getLsbD j || decide ((∃ e ∈ ls, e.1 = j) ∧ j < w)) := by
  induction ls generalizing x with
  | nil => simp
  | cons e ls ih =>
    rw [List.foldl_cons, ih, getLsbD_putBit, Bool.or_assoc]
    congr 1
    rw [← Bool.decide_or]
    refine decide_eq_decide.2 ?_
    simp only [List.mem_cons, exists_eq_or_imp]
    tauto

theorem marked_fst {a b : Prop} [Decidable a] [Decidable b] {x : Nat} {e : Nat × Nat}
    (h : (if a then some (x, 0) else if b then some (x, 1) else none) = some e) : e.1 = x := by
  split at h
  · cases h; rfl
  · split at h
    · cases h; rfl
    · cases h

/-- A lane group in underrun is one of the 96. -/
theorem missingLanes_lt {s : State} {b : Burst} {e : Nat × Nat} (h : e ∈ missingLanes s b) : e.1 < 96 := by
  unfold missingLanes at h
  obtain ⟨p, hp, h⟩ := List.mem_flatMap.1 h
  have hp : p < 12 := List.mem_range.1 (List.mem_filter.1 (List.mem_filter.1 hp).1).1
  split at h
  · obtain ⟨k, hk, rfl⟩ := List.mem_map.1 h
    have := List.mem_range.1 (List.mem_filter.1 hk).1
    dsimp only
    omega
  · obtain ⟨k, hk, he⟩ := List.mem_filterMap.1 h
    have := List.mem_range.1 (List.mem_filter.1 hk).1
    have := marked_fst he
    omega

/-- A BURST but for its records and its underruns. -/
def unmarked (b : Burst) : Burst :=
  { unrecorded b with ur := 0, ctlUr := 0, segUr := false, segUrSites := 0, passFail := 0 }

/-- The segment in play of a BURST. -/
def playedDesc (s : State) (b : Burst) : SegDesc := descIn (burstImg s b) b.seg

section
variable (s : State) (i : Nat) (ls : List (Nat × Nat)) (ts : List Nat) (v : Nat)

/-- Underruns are recorded, then marked; in a segment that is not stall-safe they are a cause of the end. -/
theorem markUnderrun_eq : ∃ r f, Still unrecorded i s r ∧ Touch [.bursts, .queues] s r
    ∧ (∀ b, unmarked (f b) = unmarked b ∧ (f b).segUr = true
      ∧ (f b).ur = ls.foldl (fun m e => putBit m e.1 true) b.ur)
    ∧ markUnderrun s i ls ts v = if (playedDesc s (burstOf s i)).stallSafe then modBurst r i f
      else modSlot (modBurst r i f) i fun l =>
        { l with cause := if l.cause.isNone then some (BitVec.ofNat 8 rUnderrun) else l.cause } := by
  refine ⟨_, _, ?_, ?_, ?_, rfl⟩
  · exact Still.foldl (fun u p => Still.foldl (fun x c => Still.ite (Still.refl _ i x)
      (Still.ite (capPut_still ..) (capRec_still ..))) _ u) _ s
  · exact Touch.foldl (Touch.refl _ s) fun u p => Touch.foldl (Touch.refl _ u) fun x c =>
      Touch.ite (Touch.refl _ x) (Touch.ite (capPut_touch ..) (capRec_touch ..))
  · exact fun b => ⟨rfl, rfl, rfl⟩

theorem markUnderrun_still : Still unmarked i s (markUnderrun s i ls ts v) := by
  obtain ⟨r, f, hr, -, hf, e⟩ := markUnderrun_eq s i ls ts v
  have m : Still unmarked i s (modBurst r i f) := (Still.modBurst r fun b => (hf b).1).trans hr.coarser
  rw [e]
  exact Still.ite_else m (Still.of_touch (modSlot_touch ..))

theorem applyUnderrun_still : Still unmarked i s (applyUnderrun s i) :=
  Still.ite (Still.refl _ i s) (markUnderrun_still ..)

variable {s} (w : TabWf {} s.bursts)
include w

theorem markUnderrun_burst : (burstOf (markUnderrun s i ls ts v) i).segUr = true
    ∧ (burstOf (markUnderrun s i ls ts v) i).ur = ls.foldl (fun m e => putBit m e.1 true) (burstOf s i).ur := by
  obtain ⟨r, f, hr, -, hf, e⟩ := markUnderrun_eq s i ls ts v
  have eb : burstOf (markUnderrun s i ls ts v) i = f (burstOf r i) := by
    rw [e, ← burstOf_modBurst_same r i f (hr.wf w)]
    split <;> rfl
  have ur := (hr.coarser (q := Burst.ur)).shows w
  rw [eb]
  exact ⟨(hf _).2.1, by rw [(hf _).2.2, ur]⟩

omit w in
theorem markUnderrun_cause (wl : TabWf {} s.ledger) : (slotOf (markUnderrun s i ls ts v) i).cause
    = if (playedDesc s (burstOf s i)).stallSafe then (slotOf s i).cause else some ((slotOf s i).cause.getD 5) := by
  obtain ⟨r, f, -, hr, -, e⟩ := markUnderrun_eq s i ls ts v
  have el : (modBurst r i f).ledger = s.ledger := hr.ledger
  rw [e]
  split
  · rw [slotOf_ledger el]
  · rw [slotOf_modSlot_same _ _ _ (by rw [el]; exact wl), slotOf_ledger el]
    cases (slotOf s i).cause <;> rfl

end

section
variable {s : State} {i : Nat}

/-- Is a slice absent that the vector next to play needs (R165)? -/
def lacksSlice (s : State) (b : Burst) : Prop :=
  b.phase = .playing ∧ b.vec < (playedDesc s b).length ∧ (missingLanes s b ≠ [] ∨ missingTracks s b ≠ [])

theorem underrun_idle (h : ¬ lacksSlice s (burstOf s i)) : Idle (.underrun i) s := by
  show execUnderrun i s = _
  unfold execUnderrun
  dsimp only
  split
  · next hp =>
    have none : missingLanes s (burstOf s i) = [] ∧ missingTracks s (burstOf s i) = [] := by
      by_contra g
      exact h ⟨hp.1, hp.2, by tauto⟩
    unfold applyUnderrun
    dsimp only
    rw [if_pos none]
  · rfl

theorem underrun_marks (h : lacksSlice s (burstOf s i)) (w : TabWf {} s.bursts) (wl : TabWf {} s.ledger) :
    Completes (.underrun i) s [.ledger, .bursts, .queues] fun t =>
      (burstOf t i).segUr = true ∧ (∀ e, e ∈ missingLanes s (burstOf s i) → (burstOf t i).ur.getLsbD e.1 = true)
        ∧ (slotOf t i).cause = (if (playedDesc s (burstOf s i)).stallSafe then (slotOf s i).cause
          else some ((slotOf s i).cause.getD 5))
        ∧ ∀ j, j ≠ i → burstOf t j = burstOf s j := by
  obtain ⟨hp, hv, hl⟩ := h
  have e : exec (.underrun i) s = .next (markUnderrun s i (missingLanes s (burstOf s i))
      (missingTracks s (burstOf s i)) (burstOf s i).vaddr) :=
    (if_pos ⟨hp, hv⟩).trans (congrArg _ (if_neg (by tauto)))
  obtain ⟨hs, hu⟩ := markUnderrun_burst i (missingLanes s (burstOf s i)) (missingTracks s (burstOf s i))
    (burstOf s i).vaddr w
  refine Completes.of_next e ⟨hs, fun x hx => ?_, markUnderrun_cause _ _ _ _ wl,
    fun j hj => (markUnderrun_still ..).other w hj⟩ (execUnderrun_touch ..)
  rw [hu, marks_getLsbD]
  simp only [Bool.or_eq_true, decide_eq_true_eq]
  exact .inr ⟨⟨x, hx, rfl⟩, missingLanes_lt hx⟩

end

/-! One PEB's part of a vector (R171 to R174). -/

/-- A BURST but for its records, its underruns, its fails and its accumulators. -/
def unplayed (b : Burst) : Burst :=
  { unmarked b with vecFails := 0, segFails := [], segFirst := [], segPins := [], sAcc := [], cAcc := [] }

section
variable (s : State) (i : Nat) (img : List Byte) (d : SegDesc) (seen : List Seen) (p : Nat)

/-- A channel of a PEB after its part of the vector, and whether its compare failed. -/
def playedPin (c : Nat) : Chan × Bool :=
  let b := burstOf s i
  let ctl := pebControl s b img d p
  let a := composePin s b img d p c
  playPin (chanOf s (64 * p + c)) a (pinEdges s p c ctl.1 a.sym) (tget (0 : Nat) b.sAcc p : Nat) s.clock.delayLocked
    (b.vec = d.hold) (siteMasked s b (64 * p + c)) ctl.2.1 (seenOf seen (64 * p + c))

/-- The channels after a PEB's part of the vector. -/
def playedChans : Tab Chan :=
  ((List.range 64).map fun c => (c, playedPin s i img d seen p c)).foldl (fun t o => tset {} t (64 * p + o.1) o.2.1) s.chans

theorem playPeb_still : Still unplayed i s (playPeb s i img d seen p) := by
  unfold playPeb
  dsimp only
  refine (Still.modBurst _).trans ((Still.of_touch (modPeb_touch ..)).trans ?_)
  refine Still.ite_then ?_ (capRec_still ..).coarser
  refine Still.ite_then ?_ (Still.modBurst _)
  refine Still.ite_else ?_ (Still.modBurst _)
  exact (addFails_still ..).coarser.trans (Still.of_touch (Touch.set_chans (b := [.chans]) (by decide) (Touch.refl _ s)))

theorem playPeb_chans : (playPeb s i img d seen p).chans = playedChans s i img d seen p := by
  have k : Touch [.pebs, .bursts, .queues] { s with chans := playedChans s i img d seen p } (playPeb s i img d seen p) := by
    unfold playPeb
    dsimp only
    have fails := fun mask v => (addFails_touch { s with chans := playedChans s i img d seen p } i p mask v).mono
      (b := [.pebs, .bursts, .queues]) (by decide)
    have counts := fun c [Decidable c] mask v chs => Touch.ite (c := c) (fails mask v)
      (Touch.app (countFails_touch _ i chs v) (by decide) (fails mask v))
    refine Touch.app (modBurst_touch ..) (by decide) (Touch.app (modPeb_touch ..) (by decide) ?_)
    refine Touch.ite (Touch.app (capRec_touch ..) (by decide) ?_) ?_
    all_goals exact Touch.ite (Touch.app (modBurst_touch ..) (by decide) (counts ..)) (counts ..)
  exact k.chans

end

theorem playedChans_eq (s : State) (i : Nat) (img : List Byte) (d : SegDesc) (seen : List Seen) (p : Nat) :
    playedChans s i img d seen p
      = tmods {} s.chans (pebChans p) fun c _ => (playedPin s i img d seen p (c - 64 * p)).1 := by
  unfold playedChans tmods pebChans
  rw [List.foldl_map, List.foldl_map]
  refine congrArg (fun g => List.foldl g s.chans (List.range 64)) (funext₂ fun t c => ?_)
  unfold tmod
  dsimp only
  rw [Nat.add_sub_cancel_left]

theorem tget_tmods_other {α : Type} [DecidableEq α] (d : α) (f : Nat → α → α) (ks : List Nat) (t : Tab α) {i : Nat}
    (h : i ∉ ks) : tget d (tmods d t ks f) i = tget d t i := by
  unfold tmods
  induction ks generalizing t with
  | nil => rfl
  | cons k ks ih =>
    rw [List.foldl_cons, ih _ fun g => h (List.mem_cons_of_mem _ g),
      tget_tmod_other _ _ _ fun g : i = k => h (g ▸ List.mem_cons_self)]

section
variable {s : State} {i : Nat} {img : List Byte} {d : SegDesc} {seen : List Seen} {p : Nat}

theorem playPeb_pin (w : TabWf {} s.chans) {c : Nat} (hc : c < 64) :
    chanOf (playPeb s i img d seen p) (64 * p + c) = (playedPin s i img d seen p c).1 := by
  unfold chanOf
  rw [playPeb_chans, playedChans_eq, tget_tmods_nodup _ _ _ _ w (pebChans_nodup p), if_pos (mem_pebChans.2 (by omega)),
    Nat.add_sub_cancel_left]

theorem playPeb_other {c : Nat} (hc : c / 64 ≠ p) : chanOf (playPeb s i img d seen p) c = chanOf s c := by
  unfold chanOf
  rw [playPeb_chans, playedChans_eq, tget_tmods_other _ _ _ _ fun g => hc (mem_pebChans.1 g)]

theorem playPebs_other (ps : List Nat) {c : Nat} (hc : c / 64 ∉ ps) :
    chanOf (ps.foldl (fun s p => playPeb s i img d seen p) s) c = chanOf s c := by
  induction ps generalizing s with
  | nil => rfl
  | cons p ps ih =>
    rw [List.foldl_cons, ih fun g => hc (List.mem_cons_of_mem _ g), playPeb_other fun g => hc (g ▸ List.mem_cons_self)]

end

/-! VECTOR_PLAY (R157, R174, R248). -/

/-- Underruns applied, the vector next to play is ready to be composed. -/
def vectorReady (s : State) (i : Nat) : State := modBurst (applyUnderrun s i) i fun b => { b with vecFails := 0 }

theorem vectorReady_still (s : State) (i : Nat) : Still unplayed i s (vectorReady s i) :=
  (Still.modBurst _).trans (applyUnderrun_still s i).coarser

/-- What the end of a vector moves on, and what it leaves. -/
theorem endVector_burst {s : State} (w : TabWf {} s.bursts) (i : Nat) :
    (burstOf (endVector s i) i).vec = (burstOf s i).vec + 1
      ∧ (burstOf (endVector s i) i).vaddr = ((burstOf s i).vaddr + 1) % 2 ^ 40
      ∧ (burstOf (endVector s i) i).tRef = (burstOf s i).tRef ∧ (burstOf (endVector s i) i).seg = (burstOf s i).seg
      ∧ ∀ j, j ≠ i → burstOf (endVector s i) j = burstOf s j := by
  obtain ⟨f, hf, still⟩ : ∃ f, (∀ b, (f b).vec = b.vec + 1 ∧ (f b).vaddr = (b.vaddr + 1) % 2 ^ 40 ∧ (f b).tRef = b.tRef
      ∧ (f b).seg = b.seg) ∧ Still uncached i (modBurst s i f) (endVector s i) :=
    ⟨_, fun b => ⟨rfl, rfl, rfl, rfl⟩, Still.ite (dropSlices_still ..) (Still.refl _ i _)⟩
  have e := (still.coarser (q := fun b => (b.vec, b.vaddr, b.tRef, b.seg))).shows (modBurst_wf w _ _)
  rw [burstOf_modBurst_same _ _ _ w] at e
  simp only [Prod.mk.injEq] at e
  obtain ⟨e1, e2, e3, e4⟩ := e
  obtain ⟨f1, f2, f3, f4⟩ := hf (burstOf s i)
  exact ⟨e1.trans f1, e2.trans f2, e3.trans f3, e4.trans f4,
    fun j hj => (still.other (modBurst_wf w _ _) hj).trans (burstOf_modBurst_other _ _ _ hj)⟩

section
variable {s : State} {i : Nat} {seen : List Seen}

theorem vectorPlay_idle (h : vectorDue s (burstOf s i) = false) : Idle (.vectorPlay i seen) s := if_neg (by simp [h])

variable (h : vectorDue s (burstOf s i) = true)
include h

/-- The misuse that the vector next to play shows, if any. -/
theorem vectorPlay_misuse {f : Fault} (hm : vectorMisuse (vectorReady s i) (burstOf (vectorReady s i) i)
    (burstImg (vectorReady s i) (burstOf (vectorReady s i) i))
    (playedDesc (vectorReady s i) (burstOf (vectorReady s i) i)) = some f) : Misuses (.vectorPlay i seen) s f := by
  refine (if_pos h).trans ?_
  unfold vectorReady playedDesc at hm
  rw [hm]

theorem vectorPlay_plays (w : TabWf {} s.bursts) (hm : vectorMisuse (vectorReady s i) (burstOf (vectorReady s i) i)
    (burstImg (vectorReady s i) (burstOf (vectorReady s i) i))
    (playedDesc (vectorReady s i) (burstOf (vectorReady s i) i)) = none) :
    Completes (.vectorPlay i seen) s [.ledger, .chans, .pebs, .bursts, .queues] fun t =>
      t.chans = ((livePebs (burstOf (vectorReady s i) i)).foldl (fun u p =>
          playPeb u i (burstImg (vectorReady s i) (burstOf (vectorReady s i) i))
            (playedDesc (vectorReady s i) (burstOf (vectorReady s i) i)) seen p) (vectorReady s i)).chans
        ∧ (burstOf t i).vec = (burstOf s i).vec + 1 ∧ (burstOf t i).vaddr = ((burstOf s i).vaddr + 1) % 2 ^ 40
        ∧ (burstOf t i).tRef = (burstOf s i).tRef ∧ (burstOf t i).seg = (burstOf s i).seg
        ∧ (∀ c, c / 64 ∉ livePebs (burstOf s i) → chanOf t c = chanOf s c)
        ∧ ∀ j, j ≠ i → burstOf t j = burstOf s j := by
  generalize hv : (livePebs (burstOf (vectorReady s i) i)).foldl (fun u p =>
    playPeb u i (burstImg (vectorReady s i) (burstOf (vectorReady s i) i))
      (playedDesc (vectorReady s i) (burstOf (vectorReady s i) i)) seen p) (vectorReady s i) = v
  have run : exec (.vectorPlay i seen) s = .next (endVector v i) := by
    refine (if_pos h).trans ?_
    unfold vectorReady playedDesc at hm hv
    rw [hm, ← hv]
  have still : Still unplayed i s v := by
    rw [← hv]
    exact (Still.foldl (fun u p => playPeb_still u i _ _ seen p) _ _).trans (vectorReady_still s i)
  have live : livePebs (burstOf (vectorReady s i) i) = livePebs (burstOf s i) :=
    ((vectorReady_still s i).coarser (q := livePebs)).shows w
  have e := (still.coarser (q := fun b => (b.vec, b.vaddr, b.tRef, b.seg))).shows w
  simp only [Prod.mk.injEq] at e
  obtain ⟨e1, e2, e3, e4⟩ := e
  obtain ⟨h1, h2, h3, h4, other⟩ := endVector_burst (still.wf w) i
  rw [e1] at h1
  rw [e2] at h2
  refine Completes.of_next run ⟨(endVector_touch ..).chans, h1, h2, h3.trans e3, h4.trans e4, fun c hc => ?_,
    fun j hj => (other j hj).trans (still.other w hj)⟩ (execVectorPlay_touch ..)
  rw [chanOf_chans (endVector_touch ..).chans, ← hv, playPebs_other _ (by rw [live]; exact hc)]
  exact chanOf_chans (applyUnderrun_touch s i).chans c

end

end Sys2Proof.Machine
end
section
/-! PROOFS. Junctions, the crossing of a boundary, stalls and holds (R139, R152, R157, R160, R161, R166, R181). -/

namespace Sys2Proof.Machine

/-! JUNCTION_SAMPLING_POINT (R139, R152, R167). -/

/-- The selection at junction j of the segment in play: successor index, source and iteration count. -/
def selectionAt (s : State) (b : Burst) (j : Nat) : Nat × Nat × Nat :=
  let r := juncIn (burstImg s b) j
  let before := tget 0 b.matched j
  selectIndex b r (if r.isMatch then matchedNow s b r before else before) (tget 0 b.iters j)

/-- What a selection does to the fetches ahead: those of the candidates not selected are dropped, and the whole of the
successor is asked for where its opening granules were (R152). -/
def selectFetches (s : State) (i ord : Nat) (succ : Option Nat) : State :=
  let u := dropSlices s i fun k => k.ord = ord && some k.seg ≠ succ
  trackPath (match succ with
    | some n => if bodyIssued (burstOf u i) ord n then issueBody u i ord n else u
    | none => u) i

theorem selectFetches_still (s : State) (i ord : Nat) (succ : Option Nat) :
    Still uncached i s (selectFetches s i ord succ) := by
  refine (trackPath_still _ i).coarser.trans ?_
  cases succ with
  | none => exact dropSlices_still ..
  | some n => exact Still.ite_then (dropSlices_still ..) (issueBody_still ..).coarser

/-- The selection is made; what follows concerns the fetches alone. -/
theorem selectAt_selects (s : State) (i j : Nat) (d : SegDesc) : ∃ f, Still uncached i (modBurst s i f) (selectAt s i j d)
    ∧ ∀ b, (f b).sampled = true
      ∧ (f b).sel = (juncIn (burstImg s (burstOf s i)) j).succ.getD (selectionAt s (burstOf s i) j).1 none := by
  obtain ⟨f, ord, succ, e, hf⟩ : ∃ f ord succ, selectAt s i j d = selectFetches (modBurst s i f) i ord succ
      ∧ ∀ b, (f b).sampled = true
        ∧ (f b).sel = (juncIn (burstImg s (burstOf s i)) j).succ.getD (selectionAt s (burstOf s i) j).1 none :=
    ⟨_, _, _, rfl, fun b => ⟨rfl, rfl⟩⟩
  exact ⟨f, e ▸ selectFetches_still .., hf⟩

section
variable {s : State} {i : Nat}

/-- Does the BURST stand at the sampling point of the segment in play? -/
def atSampling (s : State) (b : Burst) : Prop :=
  b.phase = .playing ∧ b.vec + 48 = (playedDesc s b).length ∧ b.sampled = false

theorem junctionSampling_idle (h : ¬ atSampling s (burstOf s i) ∨ (playedDesc s (burstOf s i)).junction = none) :
    Idle (.junctionSamplingPoint i) s := by
  show execJunctionSamplingPoint i s = _
  unfold execJunctionSamplingPoint
  dsimp only
  split
  · next at_ =>
    obtain ⟨hp, hv, hs⟩ := at_
    rcases h with h | h
    · exact absurd ⟨hp, hv, by simpa using hs⟩ h
    · unfold playedDesc at h
      rw [h]
  · rfl

variable (h : atSampling s (burstOf s i)) {j : Nat} (hj : (playedDesc s (burstOf s i)).junction = some j)
  (w : TabWf {} s.bursts)
include h hj w

theorem junctionSampling_selects
    (hr : resident (burstOf s i) (metaKey (burstOf s i).ord (burstOf s i).seg .junction) = true) :
    Completes (.junctionSamplingPoint i) s [.pebs, .bursts, .fabric] fun t =>
      (burstOf t i).sampled = true
        ∧ (burstOf t i).sel = (juncIn (burstImg s (burstOf s i)) j).succ.getD (selectionAt s (burstOf s i) j).1 none
        ∧ ∀ k, k ≠ i → burstOf t k = burstOf s k := by
  obtain ⟨f, still, hf⟩ := selectAt_selects s i j (playedDesc s (burstOf s i))
  have run : exec (.junctionSamplingPoint i) s = .next (selectAt s i j (playedDesc s (burstOf s i))) := by
    obtain ⟨hp, hv, hs⟩ := h
    refine (if_pos ⟨hp, hv, by simp [hs]⟩).trans ?_
    unfold playedDesc at hj ⊢
    rw [hj]
    exact if_pos hr
  have e := (still.coarser (q := fun b => (b.sampled, b.sel))).shows (modBurst_wf w _ _)
  rw [burstOf_modBurst_same _ _ _ w] at e
  obtain ⟨e1, e2⟩ := Prod.mk.inj e
  exact Completes.of_next run ⟨e1.trans (hf _).1, e2.trans (hf _).2, fun k hk =>
    (still.other (modBurst_wf w _ _) hk).trans (burstOf_modBurst_other _ _ _ hk)⟩ (execJunctionSamplingPoint_touch ..)

/-- A junction whose record is not resident is played as clear (R167). -/
theorem junctionSampling_clear
    (hr : resident (burstOf s i) (metaKey (burstOf s i).ord (burstOf s i).seg .junction) = false) :
    Completes (.junctionSamplingPoint i) s [.pebs, .bursts, .fabric] fun t =>
      (burstOf t i).sampled = true ∧ (burstOf t i).sel = (playedDesc s (burstOf s i)).next
        ∧ (burstOf t i).segLate = true := by
  have run : exec (.junctionSamplingPoint i) s = .next (trackPath (modBurst s i fun b =>
      { b with sampled := true, sel := (playedDesc s (burstOf s i)).next, segLate := true }) i) := by
    obtain ⟨hp, hv, hs⟩ := h
    refine (if_pos ⟨hp, hv, by simp [hs]⟩).trans ?_
    unfold playedDesc at hj ⊢
    rw [hj]
    exact if_neg (by simp [hr])
  have e := ((trackPath_still (modBurst s i fun b =>
    { b with sampled := true, sel := (playedDesc s (burstOf s i)).next, segLate := true }) i).coarser
      (q := fun b => (b.sampled, b.sel, b.segLate))).shows (modBurst_wf w _ _)
  rw [burstOf_modBurst_same _ _ _ w] at e
  simp only [Prod.mk.injEq] at e
  exact Completes.of_next run e (execJunctionSamplingPoint_touch ..)

end

/-! The flags of the item alone: what a commit or a phase reset leaves of the slot (R161, R181). -/

/-- From s to t only flags of the item in slot i change in its slot. -/
structure Flags (i : Nat) (s t : State) : Prop where
  of_wf : TabWf {} s.ledger → TabWf {} t.ledger ∧ ∃ fl, slotOf t i = { slotOf s i with flags := fl }

namespace Flags

variable {i : Nat} {s t u : State}

theorem of_touch {ps : List Part} (k : Touch ps s t) (h : Part.ledger ∉ ps := by decide) : Flags i s t :=
  ⟨fun w => ⟨by rw [k.ledger h]; exact w, (slotOf s i).flags, slotOf_ledger (k.ledger h) i⟩⟩

theorem trans (k : Flags i t u) (h : Flags i s t) : Flags i s u := ⟨fun w => by
  obtain ⟨w1, fl1, h1⟩ := h.of_wf w
  obtain ⟨w2, fl2, h2⟩ := k.of_wf w1
  exact ⟨w2, fl2, by rw [h2, h1]⟩⟩

theorem flagSlot (s : State) (bits : Nat) : Flags i s (modSlot s i (flagSlot bits)) :=
  ⟨fun w => ⟨modSlot_wf w _ _, _, slotOf_modSlot_same _ _ _ w⟩⟩

theorem ite {c : Prop} [Decidable c] (h : Flags i s t) (k : Flags i s u) : Flags i s (if c then t else u) := by
  split
  · exact h
  · exact k

theorem progress (h : Flags i s t) (w : TabWf {} s.ledger) : (slotOf t i).progress = (slotOf s i).progress := by
  obtain ⟨-, fl, e⟩ := h.of_wf w
  rw [e]

theorem hostItem (h : Flags i s t) (w : TabWf {} s.ledger) (hi : HostItem s i) : HostItem t i := by
  obtain ⟨-, fl, e⟩ := h.of_wf w
  unfold HostItem
  rw [e]
  exact hi

end Flags

theorem transferDue_flags (s : State) (i : Nat) (due late : BitVec 12) : Flags i s (transferDue s i due late) := by
  have k := Flags.of_touch (i := i) (Touch.foldl (b := [.pebs]) (l := setBits 12 (due ||| late).toNat) (Touch.refl _ s)
    fun u p => transferTables_touch u p)
  exact Flags.ite k ((Flags.flagSlot ..).trans k)

/-! The crossing (R161, R163, R178, R181). -/

/-- A BURST but for its records and what a phase reset sets. -/
def unreset (b : Burst) : Burst :=
  { unrecorded b with tRef := 0, fine := 0, counter := 0, phases := 0, phaseArm := false, sAcc := [], cAcc := [] }

section
variable (s : State) (i n : Nat)

theorem phaseReset_still : Still unreset i s (phaseReset s i n) :=
  (Still.foldl (fun u _ => Still.of_touch (Touch.set_chans (b := [.chans]) (by decide) (Touch.refl _ u))) _ _).trans
    ((Still.of_touch (modSlot_touch ..)).trans ((capAll_still ..).coarser.trans (Still.modBurst s)))

theorem phaseReset_flags : Flags i s (phaseReset s i n) :=
  (Flags.of_touch (Touch.foldl (b := [.chans]) (Touch.refl _ _) fun u _ => Touch.set_chans (by decide) (Touch.refl _ u))).trans
    ((Flags.flagSlot ..).trans ((Flags.of_touch (capAll_touch ..)).trans (Flags.of_touch (modBurst_touch ..))))

/-- The place on the path of a BURST, and its pauses so far. -/
def placeOf (b : Burst) : Nat × Nat × Nat × Nat := (b.ord, b.stalls, b.stallVecs, b.holds)

/-- The crossing up to where play enters the successor, the entry, and the fetches that follow. -/
theorem crossBoundary_eq : ∃ u f, crossBoundary s i n = trackPath (modBurst u i f) i
    ∧ Still placeOf i s u ∧ Flags i s u ∧ ∀ b, (f b).phase = .playing ∧ (f b).seg = n ∧ (f b).ord = b.ord + 1
      ∧ (f b).vec = 0 ∧ (f b).stalls = b.stalls ∧ (f b).stallVecs = b.stallVecs ∧ (f b).holds = b.holds := by
  have reset : Still placeOf i s (if (burstOf s i).phaseArm then phaseReset s i n else s) :=
    Still.ite_then (Still.refl _ i s) (phaseReset_still s i n).coarser
  have steps := fun (ps : List Nat) (u : State) =>
    Touch.foldl (b := [.chans]) (l := ps) (Touch.refl _ u) fun v p => stepCorrections_touch v p
  unfold crossBoundary
  refine ⟨_, _, rfl, ?_, ?_, fun b => ⟨rfl, rfl, rfl, rfl, rfl, rfl, rfl⟩⟩
  · refine (dropSlices_still ..).coarser.trans ?_
    refine (flipLayers_still ..).coarser.trans ?_
    refine (Still.of_touch (steps ..)).trans ?_
    refine (Still.of_touch (transferDue_touch ..)).trans reset
  · exact (Flags.of_touch (dropSlices_touch ..)).trans ((Flags.of_touch (flipLayers_touch ..)).trans
      ((Flags.of_touch (steps ..)).trans ((transferDue_flags ..).trans
        (Flags.ite (phaseReset_flags s i n) (Flags.of_touch (Touch.refl [] s))))))

theorem crossBoundary_flags : Flags i s (crossBoundary s i n) := by
  obtain ⟨u, f, e, -, flags, -⟩ := crossBoundary_eq s i n
  rw [e]
  exact (Flags.of_touch (trackPath_touch ..)).trans ((Flags.of_touch (modBurst_touch ..)).trans flags)

variable {s} (w : TabWf {} s.bursts)
include w

/-- Vector 0 of the successor is next to play, one place further on the path. -/
theorem crossBoundary_burst : (burstOf (crossBoundary s i n) i).phase = .playing
    ∧ (burstOf (crossBoundary s i n) i).seg = n ∧ (burstOf (crossBoundary s i n) i).ord = (burstOf s i).ord + 1
    ∧ (burstOf (crossBoundary s i n) i).vec = 0 ∧ (burstOf (crossBoundary s i n) i).stalls = (burstOf s i).stalls
    ∧ (burstOf (crossBoundary s i n) i).stallVecs = (burstOf s i).stallVecs
    ∧ (burstOf (crossBoundary s i n) i).holds = (burstOf s i).holds
    ∧ ∀ j, j ≠ i → burstOf (crossBoundary s i n) j = burstOf s j := by
  obtain ⟨u, f, e, still, -, hf⟩ := crossBoundary_eq s i n
  rw [e]
  have wu := still.wf w
  have fetches := trackPath_still (modBurst u i f) i
  have he := (fetches.coarser (q := fun b =>
    (b.phase, b.seg, b.ord, b.vec, b.stalls, b.stallVecs, b.holds))).shows (modBurst_wf wu _ _)
  rw [burstOf_modBurst_same _ _ _ wu] at he
  simp only [Prod.mk.injEq] at he
  obtain ⟨e1, e2, e3, e4, e5, e6, e7⟩ := he
  obtain ⟨f1, f2, f3, f4, f5, f6, f7⟩ := hf (burstOf u i)
  have place := still.shows w
  simp only [placeOf, Prod.mk.injEq] at place
  obtain ⟨p1, p2, p3, p4⟩ := place
  exact ⟨e1.trans f1, e2.trans f2, e3.trans (by rw [f3, p1]), e4.trans f4, e5.trans (f5.trans p2), e6.trans (f6.trans p3),
    e7.trans (f7.trans p4), fun j hj => (fetches.other (modBurst_wf wu _ _) hj).trans
      ((burstOf_modBurst_other _ _ _ hj).trans (still.other w hj))⟩

omit w in
theorem crossBoundary_holds : Still Burst.holds i s (crossBoundary s i n) := ⟨fun w => by
  obtain ⟨-, -, -, -, -, -, h, other⟩ := crossBoundary_burst i n w
  obtain ⟨u, f, e, still, -, -⟩ := crossBoundary_eq s i n
  exact ⟨by rw [e]; exact (trackPath_still ..).wf (modBurst_wf (still.wf w) _ _), h, other⟩⟩

end

/-- Leaving a boundary ends no hold, and changes no other BURST. -/
theorem leaveBoundary_still (s : State) (i : Nat) : Still Burst.holds i s (leaveBoundary s i) := ⟨fun w => by
  refine Still.of_wf ?_ w
  unfold leaveBoundary
  dsimp only
  split
  · exact Still.refl _ i s
  · exact Still.ite ((Still.of_touch (idleBurst_touch ..)).trans (Still.modBurst s)) (crossBoundary_holds i _)⟩

/-! Stalls and holds (R160, R166, R346). -/

theorem idleVectors_still (s : State) (i n : Nat) : Still unreset i s (idleVectors s i n) :=
  (Still.modBurst _).trans (Still.of_touch (Touch.foldl (b := [.chans]) (Touch.refl _ s) fun u _ =>
    Touch.set_chans (by decide) (Touch.refl _ u)))

theorem pauseRecord_still (s : State) (i type b7 n : Nat) : Still unrecorded i s (pauseRecord s i type b7 n) :=
  capAll_still ..

section
variable {s : State} {i : Nat} (n : Nat)

theorem stallEnd_noSuccessor (h : successor s (burstOf s i) = none) : Idle (.stallEnd i n) s := by
  show execStallEnd i n s = _
  unfold execStallEnd
  dsimp only
  rw [h]

theorem stallEnd_notReady {g : Nat} (h : successor s (burstOf s i) = some g)
    (hn : ¬ ((burstOf s i).phase = .stall ∧ openingReady s (burstOf s i) ((burstOf s i).ord + 1) g = true)) :
    Idle (.stallEnd i n) s := by
  show execStallEnd i n s = _
  unfold execStallEnd
  dsimp only
  rw [h]
  exact if_neg hn

theorem stallEnd_idle (h : (burstOf s i).phase ≠ .stall ∨ successor s (burstOf s i) = none) : Idle (.stallEnd i n) s := by
  rcases hs : successor s (burstOf s i) with _ | g
  · exact stallEnd_noSuccessor n hs
  · exact stallEnd_notReady n hs fun k => h.elim (fun hp => hp k.1) fun e => by rw [hs] at e; cases e

theorem stallEnd_crosses {g : Nat} (hp : (burstOf s i).phase = .stall) (h : successor s (burstOf s i) = some g)
    (ho : openingReady s (burstOf s i) ((burstOf s i).ord + 1) g = true) (w : TabWf {} s.bursts) :
    Completes (.stallEnd i n) s [.ledger, .chans, .pebs, .bursts, .queues, .fabric] fun t =>
      (burstOf t i).phase = .playing ∧ (burstOf t i).seg = g ∧ (burstOf t i).vec = 0
        ∧ (burstOf t i).stalls = (burstOf s i).stalls + 1
        ∧ (burstOf t i).stallVecs = (burstOf s i).stallVecs + n := by
  generalize hu : idleVectors (modBurst (pauseRecord s i 0x26 0 n) i fun b =>
    { b with stalls := b.stalls + 1, stallVecs := b.stallVecs + n }) i n = u
  have run : exec (.stallEnd i n) s = .next (crossBoundary u i g) := by
    show execStallEnd i n s = _
    unfold execStallEnd
    dsimp only
    rw [h]
    exact (if_pos ⟨hp, ho⟩).trans (by rw [← hu])
  have recorded := pauseRecord_still s i 0x26 0 n
  have idle := idleVectors_still (modBurst (pauseRecord s i 0x26 0 n) i fun b =>
    { b with stalls := b.stalls + 1, stallVecs := b.stallVecs + n }) i n
  rw [hu] at idle
  have wm := modBurst_wf (recorded.wf w) i fun b => { b with stalls := b.stalls + 1, stallVecs := b.stallVecs + n }
  have e1 := (recorded.coarser (q := fun b => (b.stalls, b.stallVecs))).shows w
  have e2 := (idle.coarser (q := fun b => (b.stalls, b.stallVecs))).shows wm
  rw [burstOf_modBurst_same _ _ _ (recorded.wf w)] at e2
  simp only [Prod.mk.injEq] at e1 e2
  obtain ⟨h1, h2, -, h4, h5, h6, -⟩ := crossBoundary_burst i g (idle.wf wm)
  exact Completes.of_next run ⟨h1, h2, h4, by rw [h5, e2.1, e1.1], by rw [h6, e2.2, e1.2]⟩ (execStallEnd_touch ..)

theorem throttleHoldEnd_idle (h : (burstOf s i).phase ≠ .hold true) : Idle (.throttleHoldEnd i n) s := if_neg h

theorem throttleHoldEnd_counts (h : (burstOf s i).phase = .hold true) (w : TabWf {} s.bursts) :
    Completes (.throttleHoldEnd i n) s [.ledger, .chans, .pebs, .bursts, .queues, .fabric] fun t =>
      (burstOf t i).holds = (burstOf s i).holds + 1 ∧ ∀ j, j ≠ i → burstOf t j = burstOf s j := by
  have recorded := pauseRecord_still s i 0x27 1 n
  have wm := modBurst_wf (recorded.wf w) i fun b => { b with holds := b.holds + 1 }
  have leaves : Still Burst.holds i (modBurst (pauseRecord s i 0x27 1 n) i fun b => { b with holds := b.holds + 1 })
      (endHold s i 1 n) := (leaveBoundary_still ..).trans (idleVectors_still ..).coarser
  have e := leaves.shows wm
  rw [burstOf_modBurst_same _ _ _ (recorded.wf w)] at e
  refine Completes.of_next (if_pos h) ⟨e.trans ?_, fun j hj => ?_⟩ (execThrottleHoldEnd_touch ..)
  · exact congrArg (· + 1) ((recorded.coarser (q := Burst.holds)).shows w)
  · rw [leaves.other wm hj, burstOf_modBurst_other _ _ _ hj, recorded.other w hj]

end

/-! LAYER_PAGE_RELEASE (R164). -/

section
variable {s : State} {p l g : Nat}

/-- A page that has become NEXT again: its release settles the frees alone. -/
theorem layerPageRelease_drained {e : Nat × Nat} (h : (layerOf s p l).drain.find? (fun e => e.1 = g) = some e)
    (w : TabWf {} s.pebs) (wl : TabWf {} (pebOf s p).layers) :
    Completes (.layerPageRelease p l g) s [.pebs] fun t => layerOf t p l = { layerOf s p l with
      drain := (layerOf s p l).drain.erase e, deferred := (layerOf s p l).deferred - BitVec.ofNat 32 e.2 } := by
  have run : exec (.layerPageRelease p l g) s = .next (modLayer s p l fun y =>
      { y with drain := y.drain.erase e, deferred := y.deferred - BitVec.ofNat 32 e.2 }) := by
    show execLayerPageRelease p l g s = _
    unfold execLayerPageRelease
    dsimp only
    rw [h]
  exact Completes.of_next run (layerOf_modLayer_same w wl _) (execLayerPageRelease_touch ..)

variable (hd : ∀ e ∈ (layerOf s p l).drain, e.1 ≠ g)
include hd

theorem noDrain : (layerOf s p l).drain.find? (fun e => e.1 = g) = none :=
  List.find?_eq_none.2 fun e he => by simpa using hd e he

theorem layerPageRelease_idle (h : tget .idle (layerOf s p l).st g ≠ .draining ∨ pageFetching s p l g = true) :
    Idle (.layerPageRelease p l g) s := by
  show execLayerPageRelease p l g s = _
  unfold execLayerPageRelease
  dsimp only
  rw [noDrain hd]
  exact if_neg fun k => h.elim (fun e => e k.1) k.2

/-- A page that has drained: free where a free waits for it, else idle. -/
theorem layerPageRelease_releases (hs : tget .idle (layerOf s p l).st g = .draining)
    (hf : pageFetching s p l g = false) (w : TabWf {} s.pebs) (wl : TabWf {} (pebOf s p).layers)
    (ws : TabWf .idle (layerOf s p l).st) :
    Completes (.layerPageRelease p l g) s [.pebs] fun t =>
      tget .idle (layerOf t p l).st g = (if g ∈ (layerOf s p l).freePend then .free else .idle)
        ∧ g ∉ (layerOf t p l).freePend
        ∧ ∀ h, h ≠ g → tget .idle (layerOf t p l).st h = tget .idle (layerOf s p l).st h := by
  have run : exec (.layerPageRelease p l g) s = if (layerOf s p l).freePend.contains g then
      .next (modLayer s p l fun y => { y with
        st := tset .idle y.st g .free, freePend := y.freePend.filter (· ≠ g)
        deferred := y.deferred - BitVec.ofNat 32 (y.freePend.filter (· = g)).length })
      else .next (modLayer s p l fun y => { y with st := tset .idle y.st g .idle }) := by
    show execLayerPageRelease p l g s = _
    unfold execLayerPageRelease
    dsimp only
    rw [noDrain hd]
    exact if_pos ⟨hs, by simp [hf]⟩
  by_cases hg : g ∈ (layerOf s p l).freePend
  · refine Completes.of_next (run.trans (if_pos (by simpa using hg))) ?_ (execLayerPageRelease_touch ..)
    rw [layerOf_modLayer_same w wl, if_pos hg]
    dsimp only
    exact ⟨tget_tset_same ws _ _, by simp, fun h hh => tget_tset_other _ _ _ hh⟩
  · refine Completes.of_next (run.trans (if_neg (by simpa using hg))) ?_ (execLayerPageRelease_touch ..)
    rw [layerOf_modLayer_same w wl, if_neg hg]
    dsimp only
    exact ⟨tget_tset_same ws _ _, hg, fun h hh => tget_tset_other _ _ _ hh⟩

end

end Sys2Proof.Machine
end
section
/-! PROOFS. The end of a BURST, and BURST_SEGMENT_BOUNDARY (R92, R150, R166 to R168, R251). -/

namespace Sys2Proof.Machine

/-! What leads to the end of a BURST: nothing but its own state and the flags of its item. -/

/-- From s to t only the BURST in slot i and the flags of its item change, of what the BURSTs and the ledger hold. -/
structure Plays (i : Nat) (s t : State) : Prop where
  still : Still (fun _ => ()) i s t
  flags : Flags i s t

namespace Plays

variable {i : Nat} {s t u : State}

theorem trans (k : Plays i t u) (h : Plays i s t) : Plays i s u := ⟨k.still.trans h.still, k.flags.trans h.flags⟩

theorem of_touch {ps : List Part} (k : Touch ps s t) (hb : Part.bursts ∉ ps := by decide)
    (hl : Part.ledger ∉ ps := by decide) : Plays i s t := ⟨Still.of_touch k hb, Flags.of_touch k hl⟩

theorem of_still {m : Burst → Burst} {ps : List Part} (h : Still m i s t) (k : Touch ps s t)
    (hl : Part.ledger ∉ ps := by decide) : Plays i s t := ⟨h.coarser, Flags.of_touch k hl⟩

theorem ite_then {c : Prop} [Decidable c] (h : Plays i s t) (k : Plays i t u) : Plays i s (if c then u else t) := by
  split
  · exact k.trans h
  · exact h

end Plays

theorem modBurst_plays (s : State) (i : Nat) (f : Burst → Burst) : Plays i s (modBurst s i f) :=
  ⟨Still.modBurst s, Flags.of_touch (modBurst_touch ..)⟩

theorem capAll_plays (s : State) (i : Nat) (rec : State → Nat → List Byte) : Plays i s (capAll s i rec) :=
  Plays.of_still (capAll_still ..) (capAll_touch ..)

/-! finishBurst. -/

/-- The BURST leaves the table, pinning goes on, and the item ends. -/
theorem finishBurst_eq (s : State) (i : Nat) (reason : Option Nat) (rest : Nat → Rest) (extra : Nat) : ∃ v fab f,
    finishBurst s i reason rest extra
        = endItem (settlePins { v with bursts := tdel v.bursts i, fabric := fab }) i reason f
      ∧ Plays i s v ∧ ∀ l, (f l).own = l.own ∧ (f l).progress = l.progress := by
  unfold finishBurst
  refine ⟨_, _, _, rfl, ?_, fun l => ?_⟩
  · refine (Plays.of_touch (Touch.foldl (b := [.chans, .pebs]) (Touch.refl _ _) fun u p => restPeb_touch u p _)).trans ?_
    refine (Plays.of_touch (memWrite_touch ..)).trans ?_
    refine Plays.ite_then ?_ (Plays.of_touch (Touch.foldl (b := [.queues]) (Touch.refl _ _) fun u p => modQueue_touch u p _))
    refine Plays.ite_then ?_ (capAll_plays ..)
    have records : Plays i s (flushJunction (closeRuns s i) i) :=
      (Plays.of_still (flushJunction_still ..) (flushJunction_touch ..)).trans
        (Plays.of_still (closeRuns_still s i) (closeRuns_touch ..))
    have commits := fun due late => Plays.trans
      ⟨Still.of_touch (transferDue_touch (flushJunction (closeRuns s i) i) i due late), transferDue_flags ..⟩ records
    split
    · exact (modBurst_plays ..).trans (commits ..)
    · exact (modBurst_plays ..).trans (commits ..)
    · exact commits ..
  · unfold partialIf flagSlot
    split <;> exact ⟨rfl, rfl⟩

/-- What is listed in a canonical table is not the default. -/
theorem listed_ne {α : Type} {d : α} {lo : Nat} {t : Tab α} (h : TabWfFrom d lo t) {e : Nat × α} (he : e ∈ t) :
    e.2 ≠ d := by
  induction t generalizing lo with
  | nil => cases he
  | cons x t ih =>
    obtain ⟨-, hx, ht⟩ := h
    rcases List.mem_cons.1 he with rfl | he
    · exact hx
    · exact ih ht he

/-- The BURST whose turn it is to pin is one in play. -/
theorem pinTurn_listed {s : State} (w : TabWf {} s.bursts) {i : Nat} (h : pinTurn s = some i) : burstOf s i ≠ {} := by
  unfold pinTurn at h
  refine List.foldlRecOn (motive := fun o => ∀ k, o = some k → burstOf s k ≠ {}) _ _ (by simp)
    (fun o ho e he k hk => ?_) i h
  have listed : burstOf s e.1 ≠ {} := by
    have hm := (List.mem_filter.1 he).1
    unfold burstOf
    rw [tget_of_mem w hm]
    exact listed_ne w hm
  cases o with
  | none => cases hk; exact listed
  | some j =>
    dsimp only at hk
    split at hk
    · cases hk; exact listed
    · exact ho k hk

theorem settlePinsGo_absent (n : Nat) {s : State} (w : TabWf {} s.bursts) {i : Nat} (h : burstOf s i = {}) :
    burstOf (settlePinsGo n s) i = {} := by
  induction n generalizing s with
  | zero => exact h
  | succ n ih =>
    unfold settlePinsGo
    split
    · exact h
    · next k hk =>
      have hi : i ≠ k := fun e => pinTurn_listed w hk (e ▸ h)
      obtain ⟨w', -, other⟩ := nextPin_pinned ((burstOf s k).pinLeft.length + 1) s w (pinTurn_pinning w hk)
      have once := (other i hi).trans h
      split
      · exact h
      · dsimp only
        split
        · exact once
        · exact ih w' once

section
variable {s : State} {i : Nat} {reason : Option Nat} {rest : Nat → Rest} {extra : Nat}

/-- The BURST is gone; another may go on pinning, and no more (R150). -/
theorem finishBurst_bursts (w : TabWf {} s.bursts) : burstOf (finishBurst s i reason rest extra) i = {}
    ∧ ∀ j, j ≠ i → (burstOf s j).phase ≠ .pinning → burstOf (finishBurst s i reason rest extra) j = burstOf s j := by
  obtain ⟨v, fab, f, e, plays, -⟩ := finishBurst_eq s i reason rest extra
  have wv := plays.still.wf w
  have wu : TabWf {} ({ v with bursts := tdel v.bursts i, fabric := fab } : State).bursts := tdel_wf wv i
  have own : burstOf { v with bursts := tdel v.bursts i, fabric := fab } i = {} := tget_tdel_same wv i
  have other : ∀ j, j ≠ i → burstOf { v with bursts := tdel v.bursts i, fabric := fab } j = burstOf s j :=
    fun j hj => (tget_tdel_other _ _ hj).trans (plays.still.other w hj)
  have same := burstOf_bursts (endItem_touch
    (settlePins { v with bursts := tdel v.bursts i, fabric := fab }) i reason f).bursts
  rw [e]
  exact ⟨(same i).trans (settlePinsGo_absent _ wu own), fun j hj hp => (same j).trans (settlePins_other wu (other j hj) hp)⟩

theorem finishBurst_progress (wl : TabWf {} s.ledger) (h : HostItem s i) :
    (slotOf (finishBurst s i reason rest extra) i).progress = (slotOf s i).progress := by
  obtain ⟨v, fab, f, e, plays, hf⟩ := finishBurst_eq s i reason rest extra
  have k : Touch [.pebs, .bursts, .fabric] v (settlePins { v with bursts := tdel v.bursts i, fabric := fab }) :=
    (settlePins_touch _).trans (Touch.set_bursts_fabric (by decide) (by decide) (Touch.refl _ v))
  have hv := plays.flags.hostItem wl h
  have es := slotOf_ledger k.ledger i
  have ended := endItem_after (reason := reason) (f := f) k.ledger k.hw (plays.flags.of_wf wl).1 hv.1 hv.2
    ((hf _).1.trans hv.2)
  rw [e, ended]
  exact (hf _).2.trans (plays.flags.progress wl)

end

/-- What has ended by the time of a state with the same Headwater. -/
theorem Ended.of_hw {s t u : State} {i : Nat} {reason : Option Nat} (h : Ended t u i reason) (e : t.hw = s.hw) :
    Ended s u i reason := by
  obtain ⟨h1, h2, h3⟩ := h
  exact ⟨h1, h2, h3.trans (stamp_hw e)⟩

/-! The segment that ends is counted (R166, R249, R251). -/

/-- A BURST but for its records and its counts. -/
def uncounted (b : Burst) : Burst :=
  { unrecorded b with
    segFails := [], segFirst := [], segPins := [], segUrSites := 0, fails := [], first := [], pinFirst := [], urs := []
    vectors := 0, segStart := 0, vecFails := 0 }

theorem mergeSegment_still (s : State) (i : Nat) (counted : Bool) (len : Nat) :
    Still uncounted i s (mergeSegment s i counted len) :=
  Still.modBurst s fun _ => by cases counted <;> rfl

theorem dropFaulty_still (s : State) (i : Nat) : Still uncounted i s (dropFaulty s i) :=
  Still.ite (Still.refl _ i s) (Still.modBurst s)

theorem uncountLast_still (s : State) (i : Nat) : Still uncounted i s (uncountLast s i) := Still.modBurst s

/-- The segment in play merged, its item one further, and the JUNCTION record that waited for the boundary written. -/
def segmentCounted (s : State) (i len : Nat) : State :=
  let u := mergeSegment (dropFaulty s i) i true len
  flushJunction (modSlot u i fun l =>
    { (if (burstOf u i).segUr then flagSlot fUnderrunSeen l else l) with progress := l.progress + 1 }) i

/-- From s to t the segment in play has been counted. -/
structure Counted (i : Nat) (s t : State) : Prop where
  still : Still uncounted i s t
  touch : Touch [.ledger, .bursts, .queues] s t
  wf : TabWf {} t.ledger
  slot : ∃ fl, slotOf t i = { slotOf s i with flags := fl, progress := (slotOf s i).progress + 1 }

/-- After the open runs are closed. -/
theorem segmentCounted_counted {s : State} (wl : TabWf {} s.ledger) (i len : Nat) :
    Counted i s (segmentCounted (closeRuns s i) i len) := by
  have merged : Touch [.bursts, .queues] s (mergeSegment (dropFaulty (closeRuns s i) i) i true len) :=
    (mergeSegment_touch ..).app (by decide) ((dropFaulty_touch ..).app (by decide) (closeRuns_touch ..))
  have still := (mergeSegment_still _ i true len).trans ((dropFaulty_still ..).trans (closeRuns_still s i).coarser)
  unfold segmentCounted
  dsimp only
  generalize mergeSegment (dropFaulty (closeRuns s i) i) i true len = u at merged still
  have wu : TabWf {} u.ledger := by rw [merged.ledger]; exact wl
  refine ⟨(flushJunction_still ..).coarser.trans ((Still.of_touch (modSlot_touch ..)).trans still),
    (flushJunction_touch ..).app (by decide) ((modSlot_touch ..).app (by decide) (merged.mono (by decide))), ?_, ?_⟩
  · rw [(flushJunction_touch ..).ledger]
    exact modSlot_wf wu _ _
  · rw [slotOf_ledger (flushJunction_touch ..).ledger, slotOf_modSlot_same _ _ _ wu, slotOf_ledger merged.ledger]
    split
    · exact ⟨_, rfl⟩
    · exact ⟨_, rfl⟩

theorem successor_congr {s t : State} {b c : Burst} (hc : t.cfg = s.cfg)
    (h : (c.sampled, c.sel, c.sched, c.seg) = (b.sampled, b.sel, b.sched, b.seg)) : successor t c = successor s b := by
  simp only [Prod.mk.injEq] at h
  obtain ⟨h1, h2, h3, h4⟩ := h
  unfold successor burstImg schedOf
  rw [h1, h2, h3, h4, hc]

namespace Counted

variable {i : Nat} {s t : State} (h : Counted i s t)
include h

theorem progress : (slotOf t i).progress = (slotOf s i).progress + 1 := by
  obtain ⟨fl, e⟩ := h.slot
  rw [e]

theorem hostItem (hi : HostItem s i) : HostItem t i := by
  obtain ⟨fl, e⟩ := h.slot
  unfold HostItem
  rw [e]
  exact hi

/-- An end at the boundary of a segment that counts. -/
theorem ends {reason : Option Nat} {rest : Nat → Rest} (hi : HostItem s i) :
    Ended s (finishBurst t i reason rest 0) i reason
      ∧ (slotOf (finishBurst t i reason rest 0) i).progress = (slotOf s i).progress + 1 :=
  ⟨(finishBurst_ends h.wf (h.hostItem hi)).of_hw h.touch.hw,
    (finishBurst_progress h.wf (h.hostItem hi)).trans h.progress⟩

theorem successor (w : TabWf {} s.bursts) : successor t (burstOf t i) = Machine.successor s (burstOf s i) :=
  successor_congr h.touch.cfg ((h.still.coarser (q := fun b => (b.sampled, b.sel, b.sched, b.seg))).shows w)

end Counted

/-! The boundary (R160, R166, R167). -/

/-- Past the boundary of a counted segment: the BURST ends, holds, or goes on. -/
def boundaryPassed (s : State) (i : Nat) (d : SegDesc) (succ cause : Option Nat) : Out :=
  match succ with
  | none =>
    if cause = some rAbortedFault ∨ (cause.isSome ∧ (burstOf s i).jump.isSome) then
      .next (finishBurst s i cause (fun _ => .background) 0)
    else if (burstOf s i).jump.isSome then .next (finishBurst s i (some rNotTaken) (fun _ => .keep) 0)
    else .next (finishBurst s i none (fun _ => .keep) 0)
  | some _ =>
    if cause.isSome then .next (finishBurst s i cause (fun _ => .background) 0)
    else if pauseTaken (burstOf s i) d then .next (enterHold s i)
    else .next (leaveBoundary s i)

section
variable {s : State} {i : Nat} {d : SegDesc}

theorem boundaryPassed_pathEnds : boundaryPassed s i d none none
    = .next (finishBurst s i (if (burstOf s i).jump.isSome then some rNotTaken else none) (fun _ => .keep) 0) := by
  unfold boundaryPassed
  cases (burstOf s i).jump <;> rfl

theorem boundaryPassed_caused (n c : Nat) : boundaryPassed s i d (some n) (some c)
    = .next (finishBurst s i (some c) (fun _ => .background) 0) := rfl

theorem boundaryPassed_holds (n : Nat) (h : pauseTaken (burstOf s i) d = true) :
    boundaryPassed s i d (some n) none = .next (enterHold s i) := if_pos h

theorem boundaryPassed_leaves (n : Nat) (h : pauseTaken (burstOf s i) d = false) :
    boundaryPassed s i d (some n) none = .next (leaveBoundary s i) := if_neg (ne_true_of_eq_false h)

end

/-- The end of a segment with the runs closed: an underrun that is the cause discards it, else it counts. -/
def segmentEnds (s : State) (i : Nat) (d : SegDesc) (succ : Option Nat) : Out :=
  if (slotOf s i).cause.map BitVec.toNat = some rUnderrun then
    .next (finishBurst (mergeSegment s i false d.length) i (some rUnderrun) (fun _ => .background) 0)
  else boundaryPassed (segmentCounted s i d.length) i d succ ((slotOf s i).cause.map BitVec.toNat)

/-- Does the BURST stand at the end of the segment in play, a due selection made? -/
def atBoundary (s : State) (b : Burst) : Prop :=
  b.phase = .playing ∧ b.vec = (playedDesc s b).length ∧ ((playedDesc s b).junction = none ∨ b.sampled = true)

/-- Did the selection, or the descriptor of the successor, come too late for the boundary (R167)? -/
def endsLate (s : State) (b : Burst) : Bool :=
  b.segLate || (match successor s b with
    | some n => ! resident b (metaKey (b.ord + 1) n .desc)
    | none => false)

/-- A pause is taken: the BURST holds, each pin at its hold register (R160). -/
theorem enterHold_burst {s : State} (w : TabWf {} s.bursts) (i : Nat) :
    (∀ r, (burstOf s i).pause = some r → (burstOf (enterHold s i) i).phase = .hold r.throttle)
      ∧ (burstOf (enterHold s i) i).pause = none ∧ (burstOf (enterHold s i) i).seg = (burstOf s i).seg
      ∧ ∀ j, j ≠ i → burstOf (enterHold s i) j = burstOf s j := by
  obtain ⟨thr, f, k, ht, hf⟩ : ∃ thr f, (∀ j, burstOf (enterHold s i) j = burstOf (modBurst s i f) j)
      ∧ (∀ r, (burstOf s i).pause = some r → thr = r.throttle)
      ∧ ∀ b, (f b).phase = .hold thr ∧ (f b).pause = none ∧ (f b).seg = b.seg := by
    unfold enterHold
    refine ⟨_, _, burstOf_bursts ((settleMode_touch ..).bursts.trans ((modSlot_touch ..).bursts.trans
      (idleBurst_touch ..).bursts)), fun r h => ?_, fun b => ⟨rfl, rfl, rfl⟩⟩
    rw [h]
  rw [k i, burstOf_modBurst_same _ _ _ w]
  obtain ⟨h1, h2, h3⟩ := hf (burstOf s i)
  exact ⟨fun r h => by rw [h1, ht r h], h2, h3, fun j hj => (k j).trans (burstOf_modBurst_other _ _ _ hj)⟩

/-- However play passes the boundary, another BURST may at most go on pinning. -/
theorem boundaryPassed_other {s : State} (w : TabWf {} s.bursts) (i : Nat) (d : SegDesc) (succ cause : Option Nat) :
    ∃ t, boundaryPassed s i d succ cause = .next t
      ∧ ∀ j, j ≠ i → (burstOf s j).phase ≠ .pinning → burstOf t j = burstOf s j := by
  cases succ with
  | none =>
    unfold boundaryPassed
    dsimp only
    split
    · exact ⟨_, rfl, (finishBurst_bursts w).2⟩
    · split
      · exact ⟨_, rfl, (finishBurst_bursts w).2⟩
      · exact ⟨_, rfl, (finishBurst_bursts w).2⟩
  | some n =>
    unfold boundaryPassed
    dsimp only
    split
    · exact ⟨_, rfl, (finishBurst_bursts w).2⟩
    · split
      · obtain ⟨-, -, -, other⟩ := enterHold_burst w i
        exact ⟨_, rfl, fun j hj _ => other j hj⟩
      · exact ⟨_, rfl, fun j hj _ => (leaveBoundary_still s i).other w hj⟩

section
variable {s : State} {i : Nat}

theorem segmentBoundary_idle (h : ¬ atBoundary s (burstOf s i)) : Idle (.burstSegmentBoundary i) s := if_neg h

/-- A boundary that is late marks underruns first; then the runs are closed and the segment ends. -/
theorem segmentBoundary_runs (h : atBoundary s (burstOf s i)) : ∃ u,
    exec (.burstSegmentBoundary i) s
        = segmentEnds (closeRuns u i) i (playedDesc s (burstOf s i)) (successor s (burstOf s i))
      ∧ Still (fun _ => ()) i s u ∧ (endsLate s (burstOf s i) = false → u = s) :=
  ⟨_, if_pos h, Still.ite ((markUnderrun_still ..).coarser.trans (uncountLast_still s i).coarser) (Still.refl _ i s),
    fun hl => if_neg (ne_true_of_eq_false hl)⟩

theorem endsLate_none (hl : (burstOf s i).segLate = false) (h : successor s (burstOf s i) = none) :
    endsLate s (burstOf s i) = false := by simp [endsLate, hl, h]

theorem endsLate_some (hl : (burstOf s i).segLate = false) {n : Nat} (h : successor s (burstOf s i) = some n)
    (hr : resident (burstOf s i) (metaKey ((burstOf s i).ord + 1) n .desc) = true) :
    endsLate s (burstOf s i) = false := by simp [endsLate, hl, h, hr]

variable (h : atBoundary s (burstOf s i)) (w : TabWf {} s.bursts)
include h w

theorem segmentBoundary_other : Completes (.burstSegmentBoundary i) s
    [.dev, .units, .mbs, .ledger, .order, .chans, .pebs, .bursts, .queues, .fabric, .levee, .svc, .mem, .free] fun t =>
      ∀ j, j ≠ i → (burstOf s j).phase ≠ .pinning → burstOf t j = burstOf s j := by
  obtain ⟨u, e, marked, -⟩ := segmentBoundary_runs h
  have closed : Still (fun _ => ()) i s (closeRuns u i) := (closeRuns_still u i).coarser.trans marked
  have via : ∀ {v}, Still (fun _ => ()) i s v → ∀ {t},
      (∀ j, j ≠ i → (burstOf v j).phase ≠ .pinning → burstOf t j = burstOf v j) →
      ∀ j, j ≠ i → (burstOf s j).phase ≠ .pinning → burstOf t j = burstOf s j :=
    fun hv _ ht j hj hp => (ht j hj (by rw [hv.other w hj]; exact hp)).trans (hv.other w hj)
  unfold segmentEnds at e
  split at e
  · have merged := (mergeSegment_still (closeRuns u i) i false (playedDesc s (burstOf s i)).length).coarser.trans closed
    exact Completes.of_next e (via merged (finishBurst_bursts (merged.wf w)).2) (execBurstSegmentBoundary_touch ..)
  · have counted : Still (fun _ => ()) i s (segmentCounted (closeRuns u i) i (playedDesc s (burstOf s i)).length) :=
      (flushJunction_still ..).coarser.trans ((Still.of_touch (modSlot_touch ..)).trans
        ((mergeSegment_still ..).coarser.trans ((dropFaulty_still ..).coarser.trans closed)))
    obtain ⟨t, ht, other⟩ := boundaryPassed_other (counted.wf w) i (playedDesc s (burstOf s i))
      (successor s (burstOf s i)) ((slotOf (closeRuns u i) i).cause.map BitVec.toNat)
    exact Completes.of_next (e.trans ht) (via counted other) (execBurstSegmentBoundary_touch ..)

variable (wl : TabWf {} s.ledger) (hl : endsLate s (burstOf s i) = false)
include wl hl

/-- An underrun that is the cause ends the BURST with it, its segment discarded. -/
theorem segmentBoundary_underrun (hc : (slotOf s i).cause = some 5) : Completes (.burstSegmentBoundary i) s
    [.dev, .units, .mbs, .ledger, .order, .chans, .pebs, .bursts, .queues, .fabric, .levee, .svc, .mem, .free] fun t =>
      burstOf t i = {} ∧ (HostItem s i → Ended s t i (some rUnderrun)) := by
  obtain ⟨u, e, -, hu⟩ := segmentBoundary_runs h
  rw [hu hl] at e
  have closed := closeRuns_touch s i
  have touch : Touch [.bursts, .queues] s
      (mergeSegment (closeRuns s i) i false (playedDesc s (burstOf s i)).length) :=
    (mergeSegment_touch ..).app (by decide) closed
  have merged := (mergeSegment_still (closeRuns s i) i false (playedDesc s (burstOf s i)).length).trans
    (closeRuns_still s i).coarser
  refine Completes.of_next (e.trans (if_pos ?_)) ⟨(finishBurst_bursts (merged.wf w)).1, fun hi => ?_⟩
    (execBurstSegmentBoundary_touch ..)
  · rw [slotOf_ledger closed.ledger, hc]
    rfl
  · exact (finishBurst_ends (by rw [touch.ledger]; exact wl) (hi.of_touch touch (by decide))).of_hw touch.hw

omit w in
/-- No underrun the cause, the segment counts. -/
theorem segmentBoundary_counts (hc : (slotOf s i).cause ≠ some 5) : ∃ v, Counted i s v
    ∧ exec (.burstSegmentBoundary i) s = boundaryPassed v i (playedDesc s (burstOf s i)) (successor s (burstOf s i))
      ((slotOf s i).cause.map BitVec.toNat) := by
  obtain ⟨u, e, -, hu⟩ := segmentBoundary_runs h
  rw [hu hl] at e
  refine ⟨_, segmentCounted_counted wl i (playedDesc s (burstOf s i)).length, ?_⟩
  unfold segmentEnds at e
  rw [slotOf_ledger (closeRuns_touch ..).ledger, if_neg] at e
  · exact e
  · intro g
    obtain ⟨r, hr, h5⟩ := Option.map_eq_some_iff.1 g
    exact hc (hr.trans (congrArg some (BitVec.eq_of_toNat_eq h5)))

/-- The path ends: COMPLETE, or NOT_TAKEN where a jump is pending (R157, R166). -/
theorem segmentBoundary_pathEnds (hc : (slotOf s i).cause = none) (hs : successor s (burstOf s i) = none) :
    Completes (.burstSegmentBoundary i) s
    [.dev, .units, .mbs, .ledger, .order, .chans, .pebs, .bursts, .queues, .fabric, .levee, .svc, .mem, .free] fun t =>
      burstOf t i = {} ∧ (HostItem s i → Ended s t i (if (burstOf s i).jump.isSome then some rNotTaken else none)
        ∧ (slotOf t i).progress = (slotOf s i).progress + 1) := by
  obtain ⟨v, counted, e⟩ := segmentBoundary_counts h wl hl (by simp [hc])
  have jump := (counted.still.coarser (q := Burst.jump)).shows w
  rw [hc, hs] at e
  refine Completes.of_next (e.trans boundaryPassed_pathEnds) ⟨(finishBurst_bursts (counted.still.wf w)).1, fun hi => ?_⟩
    (execBurstSegmentBoundary_touch ..)
  rw [jump]
  exact counted.ends hi

/-- Another cause ends a BURST that has a successor, its segment counted (R97). -/
theorem segmentBoundary_caused {r : Byte} (hc : (slotOf s i).cause = some r) (h5 : r ≠ 5)
    (hs : (successor s (burstOf s i)).isSome = true) : Completes (.burstSegmentBoundary i) s
    [.dev, .units, .mbs, .ledger, .order, .chans, .pebs, .bursts, .queues, .fabric, .levee, .svc, .mem, .free] fun t =>
      burstOf t i = {} ∧ (HostItem s i → Ended s t i (some r.toNat)) := by
  obtain ⟨v, counted, e⟩ := segmentBoundary_counts h wl hl (by rw [hc]; simpa using h5)
  obtain ⟨n, hn⟩ := Option.isSome_iff_exists.1 hs
  rw [hc, hn] at e
  exact Completes.of_next (e.trans (boundaryPassed_caused n r.toNat)) ⟨(finishBurst_bursts (counted.still.wf w)).1,
    fun hi => (counted.ends hi).1⟩ (execBurstSegmentBoundary_touch ..)

variable {n : Nat} (hc : (slotOf s i).cause = none) (hs : successor s (burstOf s i) = some n)
include hc hs

/-- A successor that is ready is played from its vector 0 on (R161). -/
theorem segmentBoundary_crosses (hu : (burstOf s i).segUr = false)
    (hp : pauseTaken (burstOf s i) (playedDesc s (burstOf s i)) = false) : Completes (.burstSegmentBoundary i) s
    [.dev, .units, .mbs, .ledger, .order, .chans, .pebs, .bursts, .queues, .fabric, .levee, .svc, .mem, .free] fun t =>
      (burstOf t i).phase = .playing ∧ (burstOf t i).seg = n ∧ (burstOf t i).ord = (burstOf s i).ord + 1
        ∧ (burstOf t i).vec = 0 ∧ (slotOf t i).progress = (slotOf s i).progress + 1 := by
  obtain ⟨v, counted, e⟩ := segmentBoundary_counts h wl hl (by simp [hc])
  have still := (counted.still.coarser (q := fun b =>
    (b.ord, b.segUr, pauseTaken b (playedDesc s (burstOf s i))))).shows w
  simp only [Prod.mk.injEq] at still
  obtain ⟨ord, segUr, pause⟩ := still
  have cross : leaveBoundary v i = crossBoundary v i n := by
    unfold leaveBoundary
    dsimp only
    rw [counted.successor w, hs]
    exact if_neg (by simp [segUr, hu])
  rw [hc, hs] at e
  obtain ⟨h1, h2, h3, h4, -⟩ := crossBoundary_burst i n (counted.still.wf w)
  refine Completes.of_next ((e.trans (boundaryPassed_leaves n (pause.trans hp))).trans (congrArg _ cross))
    ⟨h1, h2, by rw [h3, ord], h4, ?_⟩ (execBurstSegmentBoundary_touch ..)
  rw [(crossBoundary_flags v i n).progress counted.wf, counted.progress]

/-- A pause that is taken holds the BURST at the boundary (R160). -/
theorem segmentBoundary_holds (hp : pauseTaken (burstOf s i) (playedDesc s (burstOf s i)) = true) {r : PauseReq}
    (hr : (burstOf s i).pause = some r) : Completes (.burstSegmentBoundary i) s
    [.dev, .units, .mbs, .ledger, .order, .chans, .pebs, .bursts, .queues, .fabric, .levee, .svc, .mem, .free] fun t =>
      (burstOf t i).phase = .hold r.throttle ∧ (burstOf t i).pause = none ∧ (burstOf t i).seg = (burstOf s i).seg := by
  obtain ⟨v, counted, e⟩ := segmentBoundary_counts h wl hl (by simp [hc])
  have still := (counted.still.coarser (q := fun b =>
    (b.pause, b.seg, pauseTaken b (playedDesc s (burstOf s i))))).shows w
  simp only [Prod.mk.injEq] at still
  obtain ⟨req, seg, pause⟩ := still
  rw [hc, hs] at e
  obtain ⟨h1, h2, h3, -⟩ := enterHold_burst (counted.still.wf w) i
  exact Completes.of_next (e.trans (boundaryPassed_holds n (pause.trans hp)))
    ⟨h1 r (req.trans hr), h2, h3.trans seg⟩ (execBurstSegmentBoundary_touch ..)

end

/-- Settles O52: each command by its own lemmas; a boundary by how its segment ends (`segmentEnds`, `boundaryPassed`). -/
theorem burstsPlayVectorsAndCrossBoundaries : Obligations.BurstsPlayVectorsAndCrossBoundaries := by
  unfold Obligations.BurstsPlayVectorsAndCrossBoundaries
  refine ⟨fun i seen s w => ⟨vectorPlay_idle, fun h f => vectorPlay_misuse h, fun h => vectorPlay_plays h w⟩,
    fun s i p img d seen w => ⟨fun c => playPeb_pin w, fun c => playPeb_other⟩,
    fun i s w wl => ⟨underrun_idle, fun h => underrun_marks h w wl⟩,
    fun i s w => ⟨junctionSampling_idle, fun h1 h2 h3 j hj =>
      ⟨junctionSampling_selects ⟨h1, h2, h3⟩ hj w, junctionSampling_clear ⟨h1, h2, h3⟩ hj w⟩⟩,
    fun i s w wl => ⟨segmentBoundary_idle, fun h => segmentBoundary_other h w, fun h hl hc hj hs => ?_,
      fun h hl hr r hc h5 => ?_, fun h hl hc hj hs => ?_, fun h hl hc hu n hs hr => ?_⟩,
    fun i n s w => ⟨stallEnd_idle n, fun hp g hs => ⟨fun ho => stallEnd_notReady n hs (by simp [ho]),
      fun ho => stallEnd_crosses n hp hs ho w⟩, throttleHoldEnd_idle n, fun h => throttleHoldEnd_counts n h w⟩,
    fun p l g s w wl ws => ⟨fun e he => layerPageRelease_drained he w wl, layerPageRelease_idle,
      fun hd hs hf => layerPageRelease_releases hd hs hf w wl ws⟩⟩
  · have run := segmentBoundary_pathEnds h w wl (endsLate_none hl hs) hc hs
    simpa [hj] using run
  · rcases hs : successor s (burstOf s i) with _ | n
    · have e5 : r = 5 := h5.resolve_right (by rw [hs]; decide)
      subst e5
      exact segmentBoundary_underrun h w wl (endsLate_none hl hs) hc
    · have late := endsLate_some hl hs (hr n hs)
      by_cases e5 : r = 5
      · subst e5
        exact segmentBoundary_underrun h w wl late hc
      · exact segmentBoundary_caused h w wl late hc e5 (by rw [hs]; rfl)
  · have run := segmentBoundary_pathEnds h w wl (endsLate_none hl hs) hc hs
    refine run.imp fun t ht => ⟨ht.1, fun hi => ?_⟩
    have ended := (ht.2 hi).1
    rwa [if_pos hj] at ended
  · have late := endsLate_some hl hs hr
    exact ⟨segmentBoundary_crosses h w wl late hc hs hu, fun hp r => segmentBoundary_holds h w wl late hc hs hp⟩

end Sys2Proof.Machine
end
